-- ==== Sys2Proof/Word.lean ====
section
/-!
DEFINITION. The word types of the block: a 64-bit control-BAR register, a 64-byte sector, the four sectors of a
256-byte host line (R10, R49), and the plainest reading of their bits.
-/
namespace Sys2Proof

/-- A control-BAR register: 64 bits (00_scope.md, Registers and access types). -/
abbrev Word := BitVec 64

/-- A 64-byte sector, byte 0 in bits 7..0. -/
abbrev Sector := BitVec 512

/-- Four things, one for each sector of a line. -/
structure Quad (α : Type) where
  q0 : α
  q1 : α
  q2 : α
  q3 : α
deriving DecidableEq, Repr

/-- The member for sector `k`; `k` counts 0 to 3. -/
def Quad.at {α : Type} (q : Quad α) (k : Nat) : α :=
  if k = 0 then q.q0 else if k = 1 then q.q1 else if k = 2 then q.q2 else q.q3

/-- `q` with the member for sector `k` replaced. -/
def Quad.put {α : Type} (q : Quad α) (k : Nat) (v : α) : Quad α :=
  if k = 0 then { q with q0 := v } else if k = 1 then { q with q1 := v }
  else if k = 2 then { q with q2 := v } else { q with q3 := v }

/-- The same thing in all four places. -/
def Quad.all {α : Type} (v : α) : Quad α := ⟨v, v, v, v⟩

/-- The four members in order. -/
def Quad.toList {α : Type} (q : Quad α) : List α := [q.q0, q.q1, q.q2, q.q3]

/-- Bits `hi` to `lo` of a number. -/
def bits (n hi lo : Nat) : Nat := n / 2 ^ lo % 2 ^ (hi + 1 - lo)

/-- Bit `k` of a number. -/
def bitAt (n k : Nat) : Bool := n / 2 ^ k % 2 == 1

/-- 1 for true. -/
def ofBool (b : Bool) : Nat := if b then 1 else 0

/-- A sum that stops at `2 ^ w - 1` (a field described as saturating). -/
def satAdd (w a k : Nat) : Nat := min (a + k) (2 ^ w - 1)

end Sys2Proof
end

