-- ==== Sys2Proof/Syntax.lean ====
section
/-!
DEFINITION. The commands of the block, one constructor for each row of the spec's table of operations and events, with
the row's operands: who sends it (a head `h`, a skein `n`, a ply group `g`, a key domain `d`), addresses, values, and
the facts that only the world outside the block decides (what a media package returned, what a signature check said).
-/
namespace Sys2Proof

/-- A deadline in DEVTIME: the armed Prepare of a domain, or the scheduled firmware activation (R33). -/
inductive DeadlineId where
  | prepare (d : Nat)
  | activation
deriving DecidableEq, Repr

/-- The IDE streams of a head (Table 2-3, HST_IDE). -/
inductive IdeStream where
  | mem | ioLink | ioSel
deriving DecidableEq, Repr

/-- What a crossing-queue packet carries (Table 3-7). -/
inductive PacketRef where
  /-- host write data before acknowledgement: head, tag, host address, data -/
  | hostWrite (h tag : Nat) (hpa : BitVec 64) (data : BitVec 512)
  | readData (h tag : Nat) (data : BitVec 512)
  | lineHandoff (line : Nat)
  | header (h tag : Nat)
deriving DecidableEq, Repr

/-- The logs the mailbox serves (R71, R365, R510). -/
inductive LogId where
  | cel | healthDetail | quarantine | other
deriving DecidableEq, Repr

/-- What became of the old line of a merge read (R197). Sectors are given as numbers, sector 0 first. -/
inductive MergeResult where
  | verified (data : List Nat)
  | reconstructed (data : List Nat)
  | lost
  | notVerified
deriving DecidableEq, Repr

/-- What a reconstruction gave (R235, R383). -/
inductive ReconResult where
  /-- the data line was reconstructed and verified -/
  | verified (data : List Nat)
  /-- the tag line was reconstructed and the candidate line verified against it -/
  | tagRecovered (data : List Nat)
  /-- both stripes confirm contents that do not verify -/
  | integrity
  /-- a member beyond one did not decode -/
  | unrecoverable
deriving DecidableEq, Repr

/-- The result of a program or reset, as a completion entry gives it (Table 8-10). -/
inductive OpResult where
  | ok | fail | refused
deriving DecidableEq, Repr

/-- One content of an upstream frame that the skein engine processes (R294). -/
inductive UpFrame where
  /-- a line that decoded: its 256 bytes as four sectors and its metadata word (Table 5-3) -/
  | decoded (line : Nat) (data : List Nat) (back seq dom kgen : Nat) (epoch : Bool) (corr : Nat)
  /-- a line that failed decode -/
  | undecoded (line : Nat)
  /-- a Selvage copy that failed decode and was served from another copy (R160) -/
  | selvageRepair (sline : Nat)
  /-- a Rinse read of a bolt: corrected bits, or no decode -/
  | rinse (g b corr : Nat) (ok : Bool)
  /-- an upkeep or sweep copy read: the media address it came from and what it holds -/
  | copyRead (g : Nat) (addr : Nat) (data : List Nat) (back seq dom kgen : Nat) (epoch : Bool)
  /-- completion of a PROGRAM: group, block, stripe, member -/
  | program (g b stripe member : Nat) (r : OpResult)
  /-- completion of a RESET of a bolt's member block -/
  | reset (g b member : Nat) (r : OpResult)
  /-- KIND MEDIA_ERR in the slot of a read of a line (R296) -/
  | mediaErr (line : Nat)
  /-- KIND CANCELLED in the slot of a read of a line (R297) -/
  | cancelled (line : Nat)
  /-- second report of a completion, which the controller discards (R295) -/
  | duplicate
  /-- NAK of the downstream frame of a slot -/
  | nak (slot : Nat)
  /-- FCRC failed: the line the slot was to return, when the slot was assigned -/
  | badFcrc (line : Option Nat)
  /-- SCRC failed: only completions are lost -/
  | badScrc
  /-- SYS content: PRBS31 error count or loop-back comparison -/
  | sys (errors : Nat)
  /-- KIND IDLE -/
  | idle
deriving DecidableEq, Repr

/-- What a training step found (Sequence 8-1). -/
inductive TrainInfo where
  /-- DISCOVER: the package answered with its parameter page: dies, protocol versions, class fields -/
  | discover (pageOk : Bool) (versions dies : Nat) (params : List Nat)
  /-- presets DN1, DN0, UP1, UP0 as SKN_EQ holds them -/
  | equalise (presets : BitVec 16)
  | align (lead : Nat)
  | test
deriving DecidableEq, Repr

/-- Items of a configuration bundle (R539), each with the values it carries. -/
inductive BundleItem where
  | subsystem (vendor id : Nat)
  | owner (set digest : Nat)
  | role (slot digest kind : Nat)
  | indexClear
  | injection
  | recoveryFloor (svn : Nat)
  | keyRevoke (set : Nat)
  /-- a type that Table 16-10 does not have -/
  | other (code : Nat)
deriving DecidableEq, Repr

/-- A signed configuration bundle: its serial and sequence, the key set of its signature block and whether the block verifies,
its items. -/
structure Bundle where
  serial : BitVec 64
  seq : Nat
  keySet : Nat
  sigOk : Bool
  items : List BundleItem
deriving DecidableEq, Repr

/-- How a clear of the event recorder is asked for (R507). -/
inductive ClearSource where
  /-- a vendor SPDM request in the session -/
  | spdm (session : Nat)
  /-- opcode 0xC041 with a token: serial, sequence, and whether both signatures verify -/
  | token (h : Nat) (serial : BitVec 64) (seq : Nat) (sigOk : Bool)
deriving DecidableEq, Repr

/-- TAP instructions (Table 18-11). -/
inductive JtagInst where
  | bypass | idcode | sample | preload | extest | clamp | highz | extestPulse | extestTrain | other
deriving DecidableEq, Repr

/-- A command or event of the block. -/
inductive Instr where
  /-- MISALIGNED_ACCESS (R7): A control-BAR access that is misaligned or not 32 or 64 bits wide: a write is discarded, a read returns all ones, and ACCESS_ERR is raised. -/
  | misalignedAccess (h : Nat) (write : Bool) (off : Nat) (width : Nat)
  /-- CONTROL_BAR_WRITE (R551): A write to a control-BAR register or field that has no row of its own, checked field by field and stored, or discarded with ACCESS_ERR outside every listed page. -/
  | controlBarWrite (h : Nat) (off : Nat) (width : Nat) (data : BitVec 64)
  /-- ERR_INFO_READ (R557): A read that includes ERR_INFO bits [31:0] latches ERR_INFO [63:32] and ERR_ADDR of the same capture for the reading head. -/
  | errInfoRead (h : Nat) (off : Nat) (width : Nat)
  /-- EVT_STS_CLEAR (R4): A write of 1 to EVT_STS bits clears them, except a bit that hardware sets in the same cycle, which stays set. -/
  | evtStsClear (h : Nat) (off : Nat) (width : Nat) (data : BitVec 64)
  /-- EVT_FORCE (R556): A write to EVT_FORCE sets EVT_STS bits as occurrences of their events for recording and routing, with no capture and no device action. -/
  | evtForce (h : Nat) (off : Nat) (width : Nat) (data : BitVec 64)
  /-- SET_MACHINE_INDEX (R11): Mailbox command that assigns the machine-scope device index, stores it in the Notion store and sets TOP_MIDX.ASSIGNED, or fails on a different value. -/
  | setMachineIndex (h : Nat) (payload : BitVec 32)
  /-- SET_TIMESTAMP (R30): CXL Set Timestamp: DEVTIME takes the supplied value at once and TOP_TIME.VALID becomes 1; provisional ages are set during the age-unknown interval. -/
  | setTimestamp (h : Nat) (ns : BitVec 64)
  /-- GET_TIMESTAMP (R71): CXL Get Timestamp returns the device-wide DEVTIME. -/
  | getTimestamp (h : Nat)
  /-- PPS_EDGE (R31): A rising edge of PPS_IN is accepted or ignored under R32, and an accepted edge slews or steps DEVTIME toward the marked second. -/
  | ppsEdge
  /-- PPS_LOST (R32): No edge has been accepted for 3 s: PPS becomes unlocked, PPS_OK clears, and DEVTIME runs from the system reference alone. -/
  | ppsLost
  /-- DEADLINE_FIRE (R33): A DEVTIME deadline, or a PPS-aligned deadline at its accepted edge, fires and starts its armed Prepare or scheduled activation. -/
  | deadlineFire (id : DeadlineId)
  /-- UNALIGNED_FIRE (R33): A PPS-aligned deadline fires from DEVTIME alone after 100 ms past D, 1.1 s after a Set Timestamp, or while PPS_OK is 0. -/
  | unalignedFire (id : DeadlineId)
  /-- PICK_BOUNDARY (R261): At each Pick boundary every skein takes its scheduling mode and table, its token budget is set, and head DevLoad is computed. -/
  | pickBoundary
  /-- TOKEN_INSTALMENT (R274): At slots 0, 16, ... 112 each skein is credited one eighth of B, and at Pick end a positive balance is discarded. -/
  | tokenInstalment
  /-- DOWNSTREAM_SLOT (R265): In the last core cycle before a slot the skein engine grants the downstream operation, fills the command field and assigns upstream return slots. -/
  | downstreamSlot (n : Nat)
  /-- AGING (R268): A background class that has starved for 16 consecutive Picks is placed first in the ranking for the next Pick. -/
  | aging (n : Nat) (cls : Nat)
  /-- STALL (R280): A watched wait exceeds 50 µs: STALL is raised, the wait is captured, and the named skeins switch to ROUND_ROBIN at the next Pick boundary. -/
  | stall (q : Nat) (cls : Nat) (skeins : List Nat)
  /-- STALL_CLEARED (R282): The wait that caused a stall ends, and the skeins return to their normal mode selection at the next Pick boundary. -/
  | stallCleared (q : Nat)
  /-- STALL_PERSIST (R282): A stalled wait still stands 1 ms after the switch, and the fault manager tests the queue memory holding it. -/
  | stallPersist (q : Nat)
  /-- LANE_WAKE (R272): A sleeping upstream direction wakes 2 slots before its next assigned or SYS slot. -/
  | laneWake (n : Nat)
  /-- WRP_TEMPLATE_WRITE (R262): A write to a Warp template is ignored with REFUSED when the template is in use or read-only, and otherwise stores codes and clears VALID and DEGR_OK. -/
  | wrpTemplateWrite (h : Nat) (up : Bool) (t : Nat) (p : Nat) (width : Nat) (lo : Bool) (data : BitVec 64)
  /-- VALIDATE (R262): WRP_CTL.VALIDATE starts the checks of Table 7-4 on template TPL. -/
  | validate (h : Nat) (t : Nat)
  /-- VALIDATE_DONE (R262): Template checks complete: VALID and DEGR_OK are set or left clear, VALIDATE_FAIL may be raised, and VALIDATE_DONE is raised. -/
  | validateDone
  /-- WRP_CNT_CLR (R283): WRP_CTL.CNT_CLR clears WRP_STALL_CNT. -/
  | wrpCntClr (h : Nat)
  /-- SKN_WARP_SEL_WRITE (R262): A write of SKN_WARP_SEL is checked as a whole and is ignored with REFUSED when a named template lacks VALID or DEGR_OK. -/
  | sknWarpSelWrite (h : Nat) (n : Nat) (norm : Nat) (degr : Nat)
  /-- HKP_CONVERSION (R468): Every 16 Picks the housekeeping ADC converts the next channel of Table 14-1. -/
  | hkpConversion (value : BitVec 16)
  /-- THM_READMIT (R473): THM_CTL.READMIT readmits the named tile with a zero deviation count. -/
  | thmReadmit (h : Nat) (t : Nat)
  /-- THM_CNT_CLR (R485): THM_CTL.CNT_CLR clears THROTTLE_PICKS and EXCLUSIONS. -/
  | thmCntClr (h : Nat)
  /-- HKP_CNT_CLR (R486): HKP_CTL.CNT_CLR clears HKP_STS.REF_FAILS. -/
  | hkpCntClr (h : Nat)
  /-- THERMAL_TRIP (R482): A tile's trip comparator stays above 115 °C for 100 µs: the trip latch is set, FAULT_N asserts, and an off request is issued. -/
  | thermalTrip (t : Nat)
  /-- TEMP_HISTORY_MINUTE (R484): Each operating minute the die and media maxima are added to the temperature histograms. -/
  | tempHistoryMinute
  /-- TEMP_HISTORY_SAVE (R484): Every 10 operating minutes the histograms and maxima are written to the Notion store. -/
  | tempHistorySave
  /-- SET_MEDIA_POWER_CAP (R480): Mailbox command that sets the media power cap from the next Pick boundary, optionally saving it, and raises CAP_CHANGED. -/
  | setMediaPowerCap (h : Nat) (watts : Nat) (save : Bool)
  /-- GET_MEDIA_POWER_CAP (R480): Mailbox command that returns the cap in force, the saved cap, media power and the smallest throttle factor. -/
  | getMediaPowerCap (h : Nat)
  /-- HST_PERST_DEASSERT (R86): HST_PERST_N of a head deasserts and the head begins link bring-up under Sequence 2-1. -/
  | hstPerstDeassert (h : Nat)
  /-- HST_PERST_ASSERT (R86): HST_PERST_N of a head asserts, a fundamental reset of that head's state only. -/
  | hstPerstAssert (h : Nat)
  /-- HEAD_LINK_TRAINED (R39): A head reaches L0 at the negotiated rate and width, raising LINK_DEGRADED when below MAX_SPEED or full width. -/
  | headLinkTrained (h : Nat) (speed : Nat) (width : Nat) (reversed : Bool) (polarity : BitVec 16)
  /-- HEAD_TRAINING_FAILED (R40): Negotiation does not select CXL or the link cannot reach 8 GT/s; the LTSSM returns to Detect and LINK_DOWN is raised once per attempt sequence. -/
  | headTrainingFailed (h : Nat)
  /-- HEAD_LINK_DOWN (R84): A head's link leaves L0: fully received writes are carried out, partial writes rewound, unsent read responses dropped, LINK_DOWN raised. -/
  | headLinkDown (h : Nat)
  /-- HEAD_CONVENTIONAL_RESET (R86): A conventional reset of one head resets its configuration, decoders, IDE, mailbox, event logs and MSI-X state. -/
  | headConventionalReset (h : Nat)
  /-- HEAD_HOT_RESET (R86): A hot reset of one head resets only that head's state, as a conventional reset does. -/
  | headHotReset (h : Nat)
  /-- HEAD_FLR (R86): A function-level reset resets the registers PCIe assigns to FLR, leaving CXL.mem state untouched. -/
  | headFlr (h : Nat)
  /-- D3HOT_ENTRY (R87): A head enters D3hot, its link enters L1, and CXL.mem requests through it are not accepted. -/
  | d3hotEntry (h : Nat)
  /-- D0_RETURN (R87): A head returns from D3hot to D0 and accepts CXL.mem requests again. -/
  | d0Return (h : Nat)
  /-- HEAD_DISABLE (R38): HST_CTL.DISABLE holds the head's link in Detect.Quiet and switches off unshared port cores. -/
  | headDisable (h : Nat) (target : Nat) (value : Bool)
  /-- HEAD_RETRAIN (R41): HST_CTL.RETRAIN retrains the head's link. -/
  | headRetrain (h : Nat) (target : Nat)
  /-- HEAD_CNT_CLR (R88): HST_CTL.CNT_CLR clears HST_LINKERR and HST_EXTERR_CNT. -/
  | headCntClr (h : Nat) (target : Nat)
  /-- RO_MGMT_WRITE (R45): A write of HST_CTL.RO_MGMT sets management read-only for a head, or clears it from another head with RO_MGMT 0. -/
  | roMgmtWrite (h : Nat) (target : Nat) (value : Bool)
  /-- HEAD_CORRECTABLE_ERROR (R88): A correctable link error is counted, and CORR_THRESH is raised when the 1 s window count exceeds its threshold. -/
  | headCorrectableError (h : Nat)
  /-- IDE_INTEGRITY_FAIL (R83): An IDE MAC check fails: the stream becomes insecure, the MAC epoch's requests are discarded, IDE_FAIL is raised and the link is taken down. -/
  | ideIntegrityFail (h : Nat)
  /-- IDE_KEY_PROGRAM (R82): CXL IDE keys are programmed or refreshed over a secured SPDM session on the head. -/
  | ideKeyProgram (h : Nat) (session : Nat) (stream : IdeStream) (mode : Nat)
  /-- MEM_RD (R54): A CXL.mem MemRd is decoded, extent-checked and served from the first place of Table 6-1 that holds the sector. -/
  | memRd (h : Nat) (tag : Nat) (hpa : BitVec 64)
  /-- MEM_RD_DATA (R54): A CXL.mem MemRdData is served as a 64 B read. -/
  | memRdData (h : Nat) (tag : Nat) (hpa : BitVec 64)
  /-- MEM_SPEC_RD (R54): A MemSpecRd starts a map lookup and fetches the line into the prefetch side buffer without a response. -/
  | memSpecRd (h : Nat) (hpa : BitVec 64)
  /-- MEM_INV (R54): A MemInv has no data effect and is answered with NDR Cmp. -/
  | memInv (h : Nat) (tag : Nat)
  /-- MEM_INV_NT (R54): A MemInvNT has no data effect and is answered with NDR Cmp. -/
  | memInvNt (h : Nat) (tag : Nat)
  /-- MEM_WR (R55): A 64 B MemWr is placed in the front cache, Swatch window or staging and acknowledged once in the persistence domain. -/
  | memWr (h : Nat) (tag : Nat) (hpa : BitVec 64) (data : BitVec 512) (poison : Bool)
  /-- MEM_WR_PTL (R111): A MemWrPtl merges its enabled bytes into the sector by a locked read-modify-write and is acknowledged. -/
  | memWrPtl (h : Nat) (tag : Nat) (hpa : BitVec 64) (data : BitVec 512) (be : BitVec 64) (poison : Bool)
  /-- INVALID_MEM_OPCODE (R54): A MemRdFwd, MemWrFwd, MemClnEvct or BIConflict is discarded and PROTOCOL_ERR is raised. -/
  | invalidMemOpcode (h : Nat) (opcode : Nat) (hpa : BitVec 64)
  /-- MISS_WAIT_RESUME (R95): A miss that waited for a free miss-status entry allocates one and proceeds. -/
  | missWaitResume
  /-- DIRTY_WAIT_ADMIT (R215): A write waiting at the dirty limit is admitted when a dirty line becomes clean. -/
  | dirtyWaitAdmit
  /-- CLEANER_WRITEBACK (R109): The cleaner starts writing back dirty lines by least recent write when the dirty count reaches CLEAN_PCT of the limit. -/
  | cleanerWriteback
  /-- EVICTION_RESUME (R99): An eviction waiting for a clean victim entry proceeds and the evicted line moves to the victim cache. -/
  | evictionResume
  /-- STAGING_ENTRY (R191): A line enters stripe staging, supersedes older staged copies, starts map and tag fetches, and its front-cache copy becomes clean. -/
  | stagingEntry (line : Nat)
  /-- PREFETCH_ISSUE (R101): An active stream tracker issues fetches of the next DEPTH lines into the side buffer. -/
  | prefetchIssue (t : Nat)
  /-- PREFETCH_FILL (R105): A prefetched line arrives and is installed in the side buffer, or discarded when a write was accepted meanwhile. -/
  | prefetchFill (line : Nat) (data : List Nat)
  /-- FCH_WAYMASK_WRITE (R97): A write of FCH_WAYMASK is refused when the effective WR mask would be empty, and otherwise starts background emptying of removed ways. -/
  | fchWaymaskWrite (h : Nat) (rd : BitVec 16) (wr : BitVec 16) (pf : BitVec 16)
  /-- WAY_EMPTY (R98): A way removed from all masks has been written back and invalidated, and its WAY_EMPTY bit becomes 1. -/
  | wayEmpty (w : Nat)
  /-- DIRTY_LIMIT_WRITE (R110): A write of FCH_DIRTY_CFG changes the dirty limit within one Pick, with PWR_HOLDUP_REQ following under R220. -/
  | dirtyLimitWrite (h : Nat) (limitMib : Nat) (cleanPct : Nat)
  /-- FCH_ENABLE (R124): A write of 1 to FCH_CTL.ENABLE moves the front cache from OFF to ENABLING, or from DRAINING back to ON. -/
  | fchEnable (h : Nat)
  /-- FCH_ENABLED (R124): The bank groups are powered and the tags cleared, and the front cache enters ON. -/
  | fchEnabled
  /-- FCH_DISABLE (R125): A write of 0 to FCH_CTL.ENABLE starts DRAINING, or is refused while a Swatch window exists. -/
  | fchDisable (h : Nat)
  /-- DRAIN_DONE (R124): The last dirty line of a draining front cache is in staging and the cache enters OFF. -/
  | drainDone
  /-- FCH_CNT_CLR (R144): FCH_CTL.CNT_CLR clears FCH_ECC_CNT and the counters in FCH_ECC_CFG. -/
  | fchCntClr (h : Nat)
  /-- MAINT_WB (R120): Maintenance WB writes back dirty sectors of the range, leaving lines valid and clean. -/
  | maintWb (h : Nat) (first : Nat) (count : Nat)
  /-- MAINT_WB_INV (R120): Maintenance WB_INV writes back dirty sectors of the range and invalidates the lines. -/
  | maintWbInv (h : Nat) (first : Nat) (count : Nat)
  /-- MAINT_INV (R120): Maintenance INV invalidates clean lines of the range and treats dirty lines as WB_INV. -/
  | maintInv (h : Nat) (first : Nat) (count : Nat)
  /-- MAINT_WB_ALL (R120): Maintenance WB_ALL writes back every dirty line of the front cache. -/
  | maintWbAll (h : Nat)
  /-- MAINT_INVALID_OP (R121): A GO with an invalid OP, zero COUNT or out-of-range span ends with RESULT 1 and REFUSED. -/
  | maintInvalidOp (h : Nat) (op : Nat) (first : Nat) (count : Nat)
  /-- MAINT_DONE (R121): Every line a maintenance operation wrote back is in staging; BUSY clears and MAINT_DONE is raised. -/
  | maintDone
  /-- GROUP_FOLDED (R118): A bank group with no spare left has written back its dirty lines and is served from its partner group. -/
  | groupFolded (bg : Nat)
  /-- DIAG_READ (R138): A diagnostic read passes a stored word through the checker and reports syndrome and result, or is refused. -/
  | diagRead (h : Nat) (set : Nat) (way : Nat) (word : Nat)
  /-- DIAG_WRITE (R138): A diagnostic write stores DATA and CHK unchanged at the target word, or is refused. -/
  | diagWrite (h : Nat) (set : Nat) (way : Nat) (word : Nat)
  /-- SWATCH_CARVE (R128): SWT_CTL.CARVE checks the conditions of R128 and starts carving, or is refused with REFUSE_WHY. -/
  | swatchCarve (h : Nat) (ways : Nat)
  /-- CARVE_DONE (R129): The range is unmapped, word states set UNWRITTEN, the window record written, and the window becomes ACTIVE. -/
  | carveDone
  /-- SWATCH_RELEASE (R136): SWT_CTL.RELEASE in ACTIVE moves the window to RELEASING, or is refused. -/
  | swatchRelease (h : Nat) (keep : Bool)
  /-- SWATCH_LINE_HANDBACK (R136): A window line is handed back, written to media or unmapped, and the release position advances. -/
  | swatchLineHandback
  /-- QUEUE_PACKET (R141): A consumer reads a crossing-queue packet, checks its parity, uses it or marks it poisoned and requests replay. -/
  | queuePacket (q : Nat) (pkt : PacketRef) (parityOk : Bool)
  /-- QUEUE_REPLAY (R141): A replayed packet arrives and, when it checks good, replaces the poisoned one; otherwise poison propagates. -/
  | queueReplay (q : Nat) (parityOk : Bool)
  /-- REQUEST_TIMEOUT (R360): A request has no response within 1.0 µs and is reissued once, or completes poisoned after a second timeout. -/
  | requestTimeout (src : Nat) (reissued : Bool) (h : Nat) (tag : Nat)
  /-- CLOCK_DRIFT_LINK_ERROR (R27): A skein's receive clock stays beyond ±300 ppm for 16 Picks and a link error goes to the fault manager. -/
  | clockDriftLinkError (n : Nat)
  /-- ISLAND_FAULT (R27): A ply island voltage differs from fabric by over 0.20 V; the engine is held in reset and its partner takes over. -/
  | islandFault (g : Nat)
  /-- GPF_PHASE2_REQUEST (R62): A GPF Phase 2 Request starts a flush of the dirty persistence domain, or waits for a running flush. -/
  | gpfPhase2Request (h : Nat)
  /-- QUEUED_FLUSH_START (R599): A flush requested while another ran starts as a separate pass when the running flush completes. -/
  | queuedFlushStart
  /-- FLUSH_DONE (R221): A flush of Table 5-6 completes its checkpoint, clears the marker unless failed, and answers GPF or moves the sequencer on. -/
  | flushDone (notionOk : Bool)
  /-- IDENTIFY (R71): Mailbox Identify returns the device identity. -/
  | identify (h : Nat)
  /-- BACKGROUND_OPERATION_STATUS (R70): Mailbox command returning the status of the single background operation, the same on every head. -/
  | backgroundOperationStatus (h : Nat)
  /-- GET_RESPONSE_MESSAGE_LIMIT (R71): Mailbox command returning the head's response message limit. -/
  | getResponseMessageLimit (h : Nat)
  /-- SET_RESPONSE_MESSAGE_LIMIT (R77): Mailbox command setting the response message limit of its own mailbox. -/
  | setResponseMessageLimit (h : Nat) (limit : Nat)
  /-- GET_EVENT_RECORDS (R75): Mailbox command returning records of the head's own event logs. -/
  | getEventRecords (h : Nat) (log : Nat)
  /-- CLEAR_EVENT_RECORDS (R75): Mailbox command clearing records of the head's own event logs only. -/
  | clearEventRecords (h : Nat) (log : Nat) (all : Bool) (handles : List Nat)
  /-- GET_EVENT_INTERRUPT_POLICY (R71): Mailbox command returning the head's event interrupt policy. -/
  | getEventInterruptPolicy (h : Nat)
  /-- SET_EVENT_INTERRUPT_POLICY (R77): Mailbox command setting the event interrupt policy of the head's own logs. -/
  | setEventInterruptPolicy (h : Nat) (info : Nat) (warn : Nat) (fail : Nat) (fatal : Nat)
  /-- GET_FW_INFO (R516): Mailbox command reporting the two firmware slots. -/
  | getFwInfo (h : Nat)
  /-- TRANSFER_FW (R522): CXL Transfer FW writes image bytes to staging as a background operation, refused when another transfer or trial is in force. -/
  | transferFw (h : Nat) (action : Nat) (slot : Nat) (off : Nat) (data : List Nat) (leavesOk : Bool) (sigOk : Bool)
  /-- ACTIVATE_FW (R527): CXL Activate FW starts a hitless activation when online or sets PENDING_RESET when offline, or is refused. -/
  | activateFw (h : Nat) (online : Bool) (slot : Nat)
  /-- GET_SUPPORTED_LOGS (R71): Mailbox command listing the supported logs. -/
  | getSupportedLogs (h : Nat)
  /-- GET_LOG (R510): Mailbox command returning a log, including the Health Detail and Quarantine vendor logs. -/
  | getLog (h : Nat) (log : LogId) (off : Nat) (len : Nat)
  /-- GET_LOG_CAPABILITIES (R71): Mailbox command returning log capabilities. -/
  | getLogCapabilities (h : Nat) (log : LogId)
  /-- CLEAR_LOG (R71): Mailbox command clearing a log. -/
  | clearLog (h : Nat) (log : LogId)
  /-- GET_SUPPORTED_FEATURES (R71): Mailbox command listing features, including Patrol Scrub Control. -/
  | getSupportedFeatures (h : Nat)
  /-- GET_FEATURE (R71): Mailbox command returning a feature such as the Rinse period. -/
  | getFeature (h : Nat) (feature : Nat)
  /-- SET_FEATURE (R337): Mailbox command setting a feature, the Patrol Scrub Control mapping to the Rinse period. -/
  | setFeature (h : Nat) (feature : Nat) (hours : Nat)
  /-- IDENTIFY_MEMORY_DEVICE (R71): Mailbox command returning the values of Table 2-10. -/
  | identifyMemoryDevice (h : Nat)
  /-- GET_PARTITION_INFO (R71): Mailbox command reporting no volatile partition. -/
  | getPartitionInfo (h : Nat)
  /-- SET_PARTITION_INFO (R71): Mailbox command that fails with Invalid Input. -/
  | setPartitionInfo (h : Nat)
  /-- GET_LSA (R74): Mailbox command reading the device-wide LSA from the Notion store. -/
  | getLsa (h : Nat) (off : Nat) (len : Nat)
  /-- SET_LSA (R74): Mailbox command writing the LSA durably to the Notion store. -/
  | setLsa (h : Nat) (off : Nat) (data : List Nat)
  /-- GET_HEALTH_INFO (R509): Mailbox command returning the health values of Table 15-7. -/
  | getHealthInfo (h : Nat)
  /-- GET_ALERT_CONFIGURATION (R511): Mailbox command returning the four alert configurations. -/
  | getAlertConfiguration (h : Nat)
  /-- SET_ALERT_CONFIGURATION (R511): Mailbox command setting alert thresholds. -/
  | setAlertConfiguration (h : Nat) (enable : BitVec 5) (values : List Nat)
  /-- GET_SHUTDOWN_STATE (R65): Mailbox command returning the stored shutdown state as written. -/
  | getShutdownState (h : Nat)
  /-- SET_SHUTDOWN_STATE (R65): Mailbox command storing a shutdown state without effect on the dirty shutdown count. -/
  | setShutdownState (h : Nat) (value : Nat)
  /-- GET_POISON_LIST (R250): Mailbox command returning the device-wide poison list and its overflow flag. -/
  | getPoisonList (h : Nat) (first : Nat) (len : Nat)
  /-- INJECT_POISON (R253): Mailbox command making a sector dirty and poisoned with a record of source Injected, or failing at the limit or outside extents. -/
  | injectPoison (h : Nat) (dpa : BitVec 64)
  /-- CLEAR_POISON (R254): Mailbox command writing 64 bytes to a sector without poison and removing it from its record. -/
  | clearPoison (h : Nat) (dpa : BitVec 64) (data : BitVec 512)
  /-- GET_SCAN_MEDIA_CAPABILITIES (R72): Mailbox command reporting an estimated scan time at 24 GB/s of mapped bytes. -/
  | getScanMediaCapabilities (h : Nat) (first : Nat) (len : Nat)
  /-- SCAN_MEDIA (R255): Mailbox command starting a background scan of every mapped line of a range through the read path. -/
  | scanMedia (h : Nat) (first : Nat) (len : Nat)
  /-- SCAN_MEDIA_DONE (R255): A Scan Media operation completes, its found lines listed, and the poison overflow flag may clear. -/
  | scanMediaDone
  /-- GET_SCAN_MEDIA_RESULTS (R255): Mailbox command returning the lines a scan found LOST, poisoned or unrecoverable. -/
  | getScanMediaResults (h : Nat)
  /-- SANITIZE (R72): Mailbox Sanitize starts a background cryptographic erase: every domain key destroyed and every host line unmapped. -/
  | sanitize (h : Nat)
  /-- SECURE_ERASE (R72): Mailbox Secure Erase starts the same background cryptographic erase as Sanitize. -/
  | secureErase (h : Nat)
  /-- SANITIZE_DONE (R174): The sanitize map steps complete with a new format identifier and a CLEAN = 0 checkpoint; host lines read as zeros. -/
  | sanitizeDone
  /-- GET_SLD_QOS_CONTROL (R71): Mailbox command returning SLD QoS control settings. -/
  | getSldQosControl (h : Nat)
  /-- SET_SLD_QOS_CONTROL (R66): Mailbox command setting SLD QoS control, including egress port congestion. -/
  | setSldQosControl (h : Nat) (egress : Bool) (moderate : Nat) (severe : Nat)
  /-- GET_SLD_QOS_STATUS (R71): Mailbox command returning SLD QoS status. -/
  | getSldQosStatus (h : Nat)
  /-- UNSUPPORTED_OPCODE (R71): A mailbox command with any other CXL-defined opcode returns Unsupported. -/
  | unsupportedOpcode (h : Nat) (opcode : Nat)
  /-- SET_DOMAIN_EXTENT (R53): Vendor command growing, assigning or shrinking a domain's extent, a shrink running as a background unmap. -/
  | setDomainExtent (h : Nat) (d : Nat) (base : Nat) (count : Nat)
  /-- GET_DOMAIN_EXTENTS (R79): Vendor command returning the 256 domain extents. -/
  | getDomainExtents (h : Nat)
  /-- GET_HEAD_STATUS (R79): Vendor command returning HST_STS and HST_DEVLOAD of every head. -/
  | getHeadStatus (h : Nat)
  /-- UNMAP_DONE (R173): A background unmap has set its range UNMAPPED and its directory entries NONE, and UNMAP_DONE is raised. -/
  | unmapDone
  /-- DOE_DISCOVERY (R80): A DOE Discovery request is answered with the supported protocols. -/
  | doeDiscovery (h : Nat) (index : Nat)
  /-- CDAT_TABLE_ACCESS (R81): A DOE CDAT Table Access request returns the head's CDAT. -/
  | cdatTableAccess (h : Nat)
  /-- SPDM_GET_CERTIFICATE (R544): SPDM GET_CERTIFICATE returns the RSA chain of slot 0, or ERROR when the identity area cannot be read. -/
  | spdmGetCertificate (port : Nat) (off : Nat) (len : Nat)
  /-- SPDM_CHALLENGE (R545): SPDM CHALLENGE is answered with CHALLENGE_AUTH signed with RSA. -/
  | spdmChallenge (port : Nat) (nonce : BitVec 256)
  /-- SPDM_GET_MEASUREMENTS (R546): SPDM GET_MEASUREMENTS returns the measurement blocks of Table 16-12. -/
  | spdmGetMeasurements (port : Nat) (index : Nat) (sign : Bool)
  /-- SPDM_KEY_EXCHANGE (R545): SPDM KEY_EXCHANGE establishes a secured session whose keys live in the key vault. -/
  | spdmKeyExchange (port : Nat) (requester : Nat)
  /-- SECURED_MESSAGE (R397): A secured SPDM message is decrypted and verified in the key vault before release. -/
  | securedMessage (port : Nat) (session : Nat) (len : Nat) (tagOk : Bool)
  /-- GET_PQ_SIGNATURE (R547): Vendor request returning the SLH-DSA signature over the message covered by the preceding RSA signature. -/
  | getPqSignature (port : Nat)
  /-- RESPOND_IF_READY (R547): The requester collects the post-quantum signature once it is ready. -/
  | respondIfReady (port : Nat)
  /-- GET_PQ_CERTIFICATE (R547): Vendor request returning part of the post-quantum certificate chain. -/
  | getPqCertificate (port : Nat) (off : Nat) (len : Nat)
  /-- SET_DOMAIN_KEY (R396): Key message setting a domain's current or next key, wrapping it and making the domain ACTIVE or staging it. -/
  | setDomainKey (session : Nat) (d : Nat) (next : Bool) (key : BitVec 256)
  /-- DESTROY_DOMAIN_KEY (R399): Key message erasing a domain's keys, setting it EMPTY, zeroing its window and unmapping its extent. -/
  | destroyDomainKey (session : Nat) (d : Nat)
  /-- START_REKEY (R389): Key message starting a generation switch in state ACTIVE, or answered BUSY in REKEYING. -/
  | startRekey (session : Nat) (d : Nat)
  /-- GET_KEY_INFO (R395): Key message returning a domain's state, current generation, KEY_IDs and generation count. -/
  | getKeyInfo (session : Nat) (d : Nat)
  /-- UNSEAL_QUARANTINE (R395): Key message returning the plaintext sectors of a quarantine record. -/
  | unsealQuarantine (session : Nat) (seq : Nat)
  /-- GENERATE_DOMAIN_KEY (R398): Vendor command deriving a domain key from DRBG output into the current or next slot and returning its KEY_ID. -/
  | generateDomainKey (h : Nat) (d : Nat) (next : Bool)
  /-- REKEY_SWEEP_START (R392): Every old-generation line of the domain is recorded, and the rekey sweep begins from LINE_BASE. -/
  | rekeySweepStart (d : Nat)
  /-- REKEY_SWEEP_DONE (R392): The sweep has re-encrypted the extent, quarantine records and window save of the domain. -/
  | rekeySweepDone (d : Nat)
  /-- OLD_GENERATION_ZEROIZE (R394): With the sweep done and no retained version under it, the old generation's keys are erased and the domain returns to ACTIVE. -/
  | oldGenerationZeroize (d : Nat)
  /-- INTEG_EN_WRITE (R373): A write of CRY_DOM_CTL.INTEG_EN takes effect only while the domain has no extent or is EMPTY. -/
  | integEnWrite (h : Nat) (d : Nat) (value : Bool)
  /-- CRY_CNT_CLR (R406): CRY_CTL.CNT_CLR clears CRY_CNT. -/
  | cryCntClr (h : Nat)
  /-- KVE_RESEED (R403): KVE_CTL.RESEED reseeds the DRBG. -/
  | kveReseed (h : Nat)
  /-- KVE_CNT_CLR (R408): KVE_CTL.CNT_CLR clears KVE_CNT. -/
  | kveCntClr (h : Nat)
  /-- DRBG_RESEED_TIMER (R403): After 2^20 generate requests or 1 s the DRBG reseeds. -/
  | drbgReseedTimer
  /-- ENTROPY_FAIL (R403): A continuous health test fails and the start-up test is repeated. -/
  | entropyFail
  /-- ENTROPY_RETEST (R403): A repeated start-up test runs 1 ms later, and after three failures the DRBG becomes FAILED. -/
  | entropyRetest (pass : Bool)
  /-- KEY_VAULT_OP_DONE (R402): A key vault operation completes, releasing verified output or zeroing its buffer on a tag failure. -/
  | keyVaultOpDone (ok : Bool)
  /-- EPOCH_PREPARE (R426): Mailbox Epoch Prepare takes effect at once or is armed with a deadline, after the checks of Table 12-5. -/
  | epochPrepare (h : Nat) (d : Nat) (e : Nat) (deadline : Nat) (pps : Bool)
  /-- EPOCH_COMMIT (R427): Mailbox Epoch Commit records C = E and sends the prepared table to cleanup. -/
  | epochCommit (h : Nat) (d : Nat) (e : Nat)
  /-- EPOCH_ABORT (R429): Mailbox Epoch Abort records ABORTING and starts the background restore, or cancels an armed Prepare. -/
  | epochAbort (h : Nat) (d : Nat) (e : Nat)
  /-- GET_EPOCH_STATUS (R436): Mailbox command returning the 48-byte epoch status of a domain. -/
  | getEpochStatus (h : Nat) (d : Nat)
  /-- DOORBELL_PREPARE (R430): EPO_DOORBELL with OP 1 runs Prepare in hardware, with the deadline in EPO_DB_DEADLINE. -/
  | doorbellPrepare (h : Nat) (d : Nat) (e : Nat)
  /-- DOORBELL_COMMIT (R430): EPO_DOORBELL with OP 2 runs Commit in hardware. -/
  | doorbellCommit (h : Nat) (d : Nat) (e : Nat)
  /-- DOORBELL_ABORT (R430): EPO_DOORBELL with OP 3 runs Abort in hardware. -/
  | doorbellAbort (h : Nat) (d : Nat) (e : Nat)
  /-- PREPARE_DONE (R426): The domain's dirty lines, records, tag and undo lines are durable and the epoch record says PREPARED. -/
  | prepareDone (d : Nat)
  /-- COMMIT_DONE (R428): The cleanup walk and its two checkpoints are complete and the table's lines are unmapped. -/
  | commitDone (d : Nat)
  /-- ABORT_DONE (R429): Every undo entry is restored, both tables unmapped, and the domain returns to OPEN. -/
  | abortDone (d : Nat) (bad : List Nat)
  /-- EPOCH_ENABLE_WRITE (R411): A write of 1 to EPOCH_EN allocates two undo tables and starts ENABLING, or is refused. -/
  | epochEnableWrite (h : Nat) (d : Nat)
  /-- EPOCH_DISABLE_WRITE (R411): A write of 0 to EPOCH_EN in OPEN sends the open table to cleanup and disables epochs. -/
  | epochDisableWrite (h : Nat) (d : Nat)
  /-- EPOCH_ENABLED (R410): The domain's dirty tag lines are on media and the domain enters OPEN with C = 0. -/
  | epochEnabled (d : Nat)
  /-- EPO_CNT_CLR (R437): EPO_CTL.CNT_CLR clears the epoch counters. -/
  | epoCntClr (h : Nat)
  /-- STRIPE_TIMEOUT (R205): A stripe incomplete STRIPE_TIMEOUT Picks after its first line is completed with filler lines. -/
  | stripeTimeout (g : Nat)
  /-- PAD_NOW (R205): PLY_CTL.PAD_NOW completes open stripes of the group with filler lines. -/
  | padNow (h : Nat) (g : Nat)
  /-- PLY_ADMIT_OFF (R213): PLY_CTL.ADMIT_OFF stops or resumes host admission to a ply group. -/
  | plyAdmitOff (h : Nat) (g : Nat) (value : Bool)
  /-- PLY_CNT_CLR (R223): PLY_CTL.CNT_CLR clears the seal, pad and merge counters. -/
  | plyCntClr (h : Nat) (g : Nat)
  /-- MERGE_READ_DONE (R197): The old line of a merge read has verified, been reconstructed, been made LOST, or failed to verify with quarantine and halt. -/
  | mergeReadDone (line : Nat) (result : MergeResult)
  /-- UPSTREAM_FRAME (R294): An upstream frame is received whole and its line, mask, SYS content, NAK and completion entries are processed. -/
  | upstreamFrame (n : Nat) (f : UpFrame)
  /-- LINE_VERIFY (R382): With the decoded line and its tag present, the line is decrypted and verified, returned and installed, or sent to reconstruction. -/
  | lineVerify (line : Nat)
  /-- RECONSTRUCTION_DONE (R235): All stripe members are read and the lost line is XORed and verified, with the outcome of Table 6-4. -/
  | reconstructionDone (line : Nat) (result : ReconResult)
  /-- POISON_TIMER (R240): A read's poison timer fires and the read and attached requests complete with poison while recovery continues. -/
  | poisonTimer (line : Nat)
  /-- DOWNSTREAM_FRAME_ACCEPTED (R297): A downstream frame that drew no NAK in 8 slots is accepted and its copy released. -/
  | downstreamFrameAccepted (n : Nat)
  /-- COMPLETION_TIMEOUT (R295): No completion arrives by its deadline plus 16 slots, and the line is read back to decide success. -/
  | completionTimeout (n : Nat) (slot : Nat) (found : Bool)
  /-- MAP_RECORD_APPEND (R207): A sealed stripe's MAP records are appended in stripe order once its map and tag lines are present, updating entries and valid counts. -/
  | mapRecordAppend (g : Nat)
  /-- JOURNAL_LINE_TIMEOUT (R176): One Pick after its first record the journal buffer is written as a journal line. -/
  | journalLineTimeout
  /-- JOURNAL_LINE_DURABLE (R176): A journal line is programmed in every copy and its records become durable. -/
  | journalLineDurable
  /-- CHECKPOINT_RECORD_COUNT (R179): 2^CKPT_RECORDS_LOG2 records since the last checkpoint start a checkpoint. -/
  | checkpointRecordCount
  /-- CHECKPOINT_PERIOD (R179): CKPT_PERIOD_S seconds with at least one record start a checkpoint. -/
  | checkpointPeriod
  /-- CKPT_NOW (R179): MAP_CTL.CKPT_NOW starts a checkpoint unless one is running. -/
  | ckptNow (h : Nat)
  /-- MAP_CNT_CLR (R188): MAP_CTL.CNT_CLR clears MAP_ERR_CNT. -/
  | mapCntClr (h : Nat)
  /-- CHECKPOINT_DONE (R179): The anchor write completes, the checkpoint is complete and EMPTY bolts may become reset-eligible. -/
  | checkpointDone
  /-- MAP_FILL (R167): A map-cache line fill installs and waiting updates apply in JSN order. -/
  | mapFill (kind : Nat) (idx : Nat) (ok : Bool)
  /-- MAP_DIRTY_WAIT_RESUME (R166): A journal record waiting at the map-cache dirty limit proceeds once a slot becomes clean. -/
  | mapDirtyWaitResume
  /-- MAP_CLEANER (R166): The map-cache cleaner writes back dirty lines, oldest change first, from CLEAN_PCT of the limit. -/
  | mapCleaner
  /-- MAP_PREFETCH (R170): A prefetch of map line M + 1 is queued and issued in a MET slot when the turn hint allows. -/
  | mapPrefetch (m : Nat)
  /-- MAP_PREFETCH_DROP (R171): A map prefetch not served within one Pick is dropped. -/
  | mapPrefetchDrop (m : Nat)
  /-- SG_GAP_MOVE (R157): After PSI Selvage writes in a region, the gap line is copied and read back. -/
  | sgGapMove (n : Nat) (half : Nat)
  /-- GAP_MOVE_DONE (R157): The new START and GAP are written to the Notion store and take effect. -/
  | gapMoveDone (n : Nat) (half : Nat)
  /-- DIR_REBUILD_DONE (R162): A Selvage line with every copy lost has been rebuilt by scanning the metadata bolts. -/
  | dirRebuildDone (line : Nat)
  /-- LINE_MAP_LOADED (R184): Format record, anchors, journal and bolt table image are read, and the map moves to REPLAYING, CLOSING or FAILED. -/
  | lineMapLoaded
  /-- JOURNAL_REPLAY_DONE (R185): Replay of records from X to the head ends and the map enters SCANNING. -/
  | journalReplayDone (unreadable : Nat)
  /-- OPEN_BOLT_SCAN_DONE (R186): Every open bolt is scanned and closed early, orphans counted invalid, and the map enters CLOSING. -/
  | openBoltScanDone (orphans : Nat)
  /-- RECOVERY_DONE (R187): The closing checkpoint completes, the map enters ACTIVE, and RECOVERY_DONE and DIRTY_RECOVERY are raised. -/
  | recoveryDone
  /-- AGE_PROBE (R245): An AGE_UNKNOWN block is probed by paired reads of its tell-tale or data lines. -/
  | ageProbe (g : Nat) (b : Nat)
  /-- AGE_PROBE_DONE (R245): A bolt's blocks are probed and it takes the highest measured class and leaves AGE_UNKNOWN. -/
  | ageProbeDone (g : Nat) (b : Nat) (cls : Nat)
  /-- WRING_VICTIM_SELECT (R321): Wring takes the SEALED bolt with the smallest VALID as its victim and begins copying its live lines. -/
  | wringVictimSelect (g : Nat)
  /-- STATIC_SWAP_START (R325): The reset-count spread exceeds SWAP_SPREAD and the least-worn SEALED bolt becomes a swap victim. -/
  | staticSwapStart (g : Nat)
  /-- PRESS_VICTIM_SELECT (R334): Press takes the highest-class queued bolt of the group as its victim. -/
  | pressVictimSelect (g : Nat)
  /-- SELVAGE_REFRESH (R336): A Selvage triple reaching PRESS_CLASS is refreshed in place. -/
  | selvageRefresh (n : Nat) (die : Nat) (triple : Nat)
  /-- BOLT_RESET_START (R318): A reset-eligible bolt has RESET issued for each member block and enters RESETTING, unless the wear pacer holds it. -/
  | boltResetStart (g : Nat) (b : Nat)
  /-- PACE_RESUME (R326): The reset allowance grows and held resets proceed. -/
  | paceResume (g : Nat)
  /-- RECOUNT_DONE (R319): A recount pass sets VALID and clears COUNT_UNKNOWN, raising RECOUNT_DONE when none remains. -/
  | recountDone (g : Nat) (b : Nat) (valid : Nat)
  /-- RINSE_PERIOD (R337): A period boundary begins the next Rinse pass, or raises RINSE_LATE when the pass is unfinished. -/
  | rinsePeriod
  /-- RINSE_NOW (R337): UPK_CTL.RINSE_NOW starts a new Rinse pass at once. -/
  | rinseNow (h : Nat)
  /-- RINSE_PASS_DONE (R337): A Rinse pass has read every programmed line. -/
  | rinsePassDone
  /-- UPK_CNT_CLR (R348): UPK_CTL.CNT_CLR clears UPK_CNT and UPK_CNT2. -/
  | upkCntClr (h : Nat)
  /-- UPK_BOLT_HI_READ (R347): A read of UPK_BOLT_HI latches the same bolt-table entry into UPK_BOLT_LO. -/
  | upkBoltHiRead (h : Nat)
  /-- DARN_META_DONE (R341): Darn phase 1 has re-created lost Selvage copies and emptied degraded META bolts. -/
  | darnMetaDone (g : Nat)
  /-- DARN_DONE (R341): Darn phase 2 has emptied every degraded bolt and DEGRADED mode ends. -/
  | darnDone (g : Nat)
  /-- TEST_START (R352): A queued self-test starts when its parallelism limits allow. -/
  | testStart
  /-- TEST_DONE (R351): A self-test completes and classifies its errors as transient or permanent. -/
  | testDone (type : Nat) (res : Nat) (parts : Nat)
  /-- ENGINE_TAKEBACK (R358): An engine that passed its test takes its group back at the next Pick boundary after its current stripe. -/
  | engineTakeback (g : Nat)
  /-- AES_KAT (R350): Every 1 ms each AES pipeline encrypts a known block, and a mismatch takes it out of use. -/
  | aesKat (g : Nat) (p : Nat) (ok : Bool)
  /-- TEST_REQUEST (R369): FLT_TEST_SEL.GO queues a test of the named resource. -/
  | testRequest (h : Nat) (type : Nat) (res : Nat)
  /-- FLT_UNDO (R368): FLT_CTL.UNDO marks an INJECTED retirement entry for return at the next device conventional reset. -/
  | fltUndo (h : Nat)
  /-- FLT_CNT_CLR (R369): FLT_CTL.CNT_CLR clears the fault counters and per-queue counters. -/
  | fltCntClr (h : Nat)
  /-- INJ_EN_WRITE (R367): A write of FLT_CTL.INJ_EN is ignored while INJ_ALLOWED is 0. -/
  | injEnWrite (h : Nat) (value : Bool)
  /-- INJ_ARM (R367): FLT_INJ_CTL.ARM with a valid KIND and target arms an injection, or is ignored. -/
  | injArm (h : Nat) (kind : Nat) (count : Nat) (sticky : Bool) (haltOk : Bool)
  /-- INJ_DISARM (R367): A write of 0 to FLT_INJ_CTL.ARM disarms an injection. -/
  | injDisarm (h : Nat)
  /-- QUARANTINE_RELEASE (R365): FLT_QUAR_CTL.RELEASE frees the n oldest quarantine records. -/
  | quarantineRelease (h : Nat) (n : Nat)
  /-- QUEUE_SEL_WRITE (R370): A write of FLT_QUEUE_SEL latches that queue's counters into FLT_QUEUE_CNT. -/
  | queueSelWrite (h : Nat) (q : Nat)
  /-- MRST_DEASSERT (R460): MRST_N of a ply group deasserts after its stretch and its skeins enter DISCOVER. -/
  | mrstDeassert (g : Nat)
  /-- MRST_PULSE (R462): PWR_MRST_CTL.PULSE asserts MRST_N of a group for 1 ms, or is refused when a skein is ACTIVE. -/
  | mrstPulse (h : Nat) (mask : BitVec 8)
  /-- MRST_PULSE_END (R462): A media reset pulse ends after 1 ms and the stretch begins. -/
  | mrstPulseEnd (g : Nat)
  /-- BRD_RST_DEASSERT (R460): BRD_RST_N deasserts BRD_STRETCH_MS after ON is reached. -/
  | brdRstDeassert
  /-- TRAINING_STEP_DONE (R302): A Priow training step completes and the link moves to EQUALISE, ALIGN, TEST or ACTIVE. -/
  | trainingStepDone (n : Nat) (info : TrainInfo)
  /-- TRAINING_STEP_TIMEOUT (R302): A training step exceeds its maximum time; it is retried once from EQUALISE, then the link enters FAILED. -/
  | trainingStepTimeout (n : Nat)
  /-- RETRAIN_DONE (R302): A RETRAIN completes and the link returns to ACTIVE, or enters EQUALISE after two failures. -/
  | retrainDone (n : Nat) (ok : Bool)
  /-- SKEIN_OUT_TIMEOUT (R300): A skein out of ACTIVE for 100 µs closes its group's open bolts early. -/
  | skeinOutTimeout (n : Nat)
  /-- SKN_RETRAIN (R302): SKN_CTL.RETRAIN enters RETRAIN from ACTIVE. -/
  | sknRetrain (h : Nat) (n : Nat)
  /-- SKN_FULL_RETRAIN (R302): SKN_CTL.FULL_RETRAIN retrains from EQUALISE. -/
  | sknFullRetrain (h : Nat) (n : Nat)
  /-- SKN_PKG_RESET (R306): SKN_CTL.PKG_RESET sends PKG_RESET and the skein re-enters DISCOVER. -/
  | sknPkgReset (h : Nat) (n : Nat)
  /-- SKN_CNT_CLR (R310): SKN_CTL.CNT_CLR clears SKN_LINK_CNT. -/
  | sknCntClr (h : Nat) (n : Nat)
  /-- SIDEBAND_RESPONSE (R306): A sideband transaction's answer arrives with its status and data. -/
  | sidebandResponse (n : Nat) (status : Nat) (data : Nat)
  /-- SIDEBAND_TIMEOUT (R306): A package has not answered 16 clocks after turnaround; the transaction is retried up to 3 times, then SB_FAIL. -/
  | sidebandTimeout (n : Nat)
  /-- TEMP_POLL (R307): Every 1,024 Picks a READ_TEMP is sent to each ACTIVE skein. -/
  | tempPoll
  /-- STANDBY_POWER_ON (R438): STBY_PG asserts: the always-on domain leaves reset, samples straps, starts DEVTIME and the Notion store. -/
  | standbyPowerOn (hbif : Bool)
  /-- STANDBY_POWER_LOSS (R595): STBY_PG falls and every enable falls at once without a flush. -/
  | standbyPowerLoss
  /-- POWER_UP_START (R441): With SEQ_UP_IN high, VIN held at ON_MV for 1 ms and the off time passed, RAMP_UP starts. -/
  | powerUpStart
  /-- RAIL_QUALIFIED (R442): A rail's filtered good output first goes high and its settle time starts. -/
  | railQualified
  /-- RAIL_SETTLED (R442): A rail's settle time ends and the next step begins, or ON is reached after the last step. -/
  | railSettled
  /-- CHATTER (R443): A running rail's filtered good output falls after qualifying, and the fourth such event aborts the sequence. -/
  | chatter
  /-- STEP_TIMEOUT (R443): A step reaches its timeout and the sequence aborts. -/
  | stepTimeout
  /-- RAIL_LOST (R450): A qualified rail's good falls in RAMP_UP, aborting, or in ON, starting PF_FLUSH. -/
  | railLost (i : Nat)
  /-- RETRY_START (R445): 500 ms after an aborted shutdown a retry ramp begins. -/
  | retryStart
  /-- RAIL_OFF (R446): A rail stays below its off threshold for 64 µs and the next rail is disabled. -/
  | railOff (i : Nat)
  /-- RAIL_STUCK (R446): A rail is still above its threshold 50 ms after disable; STUCK counts and power-down continues. -/
  | railStuck (i : Nat)
  /-- OFF_HOLD_END (R449): The 100 ms minimum off time ends and the sequencer enters RETRY_WAIT, LATCHED or STANDBY. -/
  | offHoldEnd
  /-- SEQ_UP_IN_FALL (R450): SEQ_UP_IN goes low after filtering: an off request, or leaving LATCHED or RETRY_WAIT. -/
  | seqUpInFall
  /-- SEQ_UP_IN_RISE (R441): SEQ_UP_IN goes high after filtering, an on request. -/
  | seqUpInRise
  /-- SEQ_DN_IN_RISE (R451): SEQ_DN_IN goes high in WAIT_DN and RAMP_DOWN begins. -/
  | seqDnInRise
  /-- CASCADE_TIMEOUT (R452): SEQ_DN_IN is still low DN_WAIT_S after WAIT_DN began and RAMP_DOWN begins. -/
  | cascadeTimeout
  /-- LOCAL_OFF (R450): PWR_CTL.OFF with the key requests a local off ending in LATCHED. -/
  | localOff (h : Nat) (key : Nat)
  /-- POWER_FAIL (R455): VIN_SENSE stays below PFW_MV for 2 µs while a rail is enabled: PFW_N asserts and the power-fail flush starts. -/
  | powerFail
  /-- DEV_RESET (R461): PWR_CTL.DEV_RESET with the key starts a device conventional reset with a CLEAN = 1 flush, or is refused. -/
  | devReset (h : Nat) (key : Nat)
  /-- DEV_RESET_DONE (R461): After the 1 ms hold the core reset is released and the device boots from ROM. -/
  | devResetDone
  /-- PWR_CNT_CLR (R465): PWR_CTL.CNT_CLR clears PWR_RAIL_CNT and SEQ_ABORTS. -/
  | pwrCntClr (h : Nat)
  /-- FIRMWARE_RUNNING (R514): Management firmware reaches step 8: mailbox, DOE, SPDM and MCTP ready and settings migrated. -/
  | firmwareRunning
  /-- MEMORY_ACTIVE (R515): With the map ACTIVE, keys loaded, window restored and retirements applied, Memory_Active becomes 1 on every head. -/
  | memoryActive
  /-- PLDM_REQUEST_UPDATE (R522): PLDM RequestUpdate starts a transfer, or is refused while another transfer, trial or schedule is in force. -/
  | pldmRequestUpdate (port : Nat) (size : Nat)
  /-- PLDM_FIRMWARE_DATA (R523): Image bytes from a RequestFirmwareData response are written to staging and checked as they arrive. -/
  | pldmFirmwareData (off : Nat) (data : List Nat) (leavesOk : Bool)
  /-- PLDM_DATA_TIMEOUT (R524): A RequestFirmwareData without response is repeated 3 times, then the update fails. -/
  | pldmDataTimeout
  /-- PLDM_ACTIVATE_FIRMWARE (R527): PLDM ActivateFirmware activates hitlessly or at next reset by method. -/
  | pldmActivateFirmware (hitless : Bool)
  /-- RECOVERY_DOE_TRANSFER (R542): A recovery DOE data object delivers image bytes at an offset and is answered with status and the next offset. -/
  | recoveryDoeTransfer (off : Nat) (data : List Nat) (leavesOk : Bool)
  /-- IMAGE_COPY_DONE (R526): Staging is copied to the non-running slot, verified, and the boot record updated before completion is sent. -/
  | imageCopyDone (ok : Bool)
  /-- SCHEDULE_FW_ACTIVATION (R530): Vendor command arming a scheduled hitless activation at a deadline for listed target indexes. -/
  | scheduleFwActivation (h : Nat) (slot : Nat) (deadline : Nat) (pps : Bool) (targets : List Nat)
  /-- CANCEL_SCHEDULED_ACTIVATION (R530): Vendor command disarming an armed scheduled activation. -/
  | cancelScheduledActivation (h : Nat)
  /-- ACTIVATION_IMAGE_LOADED (R528): The new image is loaded and verified in spare management memory, the pause begins and handover is written. -/
  | activationImageLoaded (ok : Bool)
  /-- ACTIVATION_PAUSE_END (R528): The new image restores handover and ends the pause, or the old image restarts with Activation Failed. -/
  | activationPauseEnd (ok : Bool)
  /-- SELF_CHECK_DONE (R532): A trial image's self-check passes or fails, a failure causing fall-back. -/
  | selfCheckDone (pass : Bool)
  /-- CONFIRM_FW (R533): Vendor command confirming the trial image, advancing counter 8 and setting CONFIRMED. -/
  | confirmFw (h : Nat)
  /-- CONFIRM_DEADLINE (R534): The confirmation deadline passes and the unconfirmed image falls back. -/
  | confirmDeadline
  /-- DEADLINE_NEAR (R534): One hour is left to the confirmation deadline. -/
  | deadlineNear
  /-- WATCHDOG (R534): The management watchdog expires and the image falls back or restarts. -/
  | watchdog
  /-- APPLY_CONFIGURATION_BUNDLE (R539): Vendor command verifying a signed bundle and applying its items as a whole, or refusing it. -/
  | applyConfigurationBundle (h : Nat) (b : Bundle)
  /-- FWU_RECOVERY (R549): FWU_CTL.RECOVERY with the key enters recovery at the next device conventional reset. -/
  | fwuRecovery (h : Nat) (key : Nat)
  /-- FWU_CNT_CLR (R549): FWU_CTL.CNT_CLR clears FWU_CNT. -/
  | fwuCntClr (h : Nat)
  /-- MCTP_MESSAGE (R592): An MCTP message arrives over I3C and is routed to PLDM or SPDM. -/
  | mctpMessage (pldm : Bool) (opcode : Nat)
  /-- I3C_CCC (R592): An I3C common command code is handled or NACKed. -/
  | i3cCcc (code : Nat) (direct : Bool) (arg : Nat)
  /-- READ_EVENT_RECORDER (R506): Vendor command returning a header and recorder records from a sequence. -/
  | readEventRecorder (h : Nat) (first : Nat) (max : Nat)
  /-- CLEAR_EVENT_RECORDER (R507): Clear request by mailbox token or SPDM, verified and then clearing the recorder, or refused. -/
  | clearEventRecorder (src : ClearSource)
  /-- EVENT_RECORD_WRITE (R502): A queued raised event is written as a recorder record, or folded into REPEAT, and posted as a CXL record when routed. -/
  | eventRecordWrite
  /-- REPEAT_WRITEBACK (R504): Each REPEAT_MS during a flood the folded record is written back in place. -/
  | repeatWriteback
  /-- EVR_CNT_CLR (R513): EVR_CTL.CNT_CLR clears EVR_CNT. -/
  | evrCntClr (h : Nat)
  /-- MSIX_SEND (R562): A pending vector sends its message once unmasked and the holdoff has passed. -/
  | msixSend (h : Nat) (v : Nat)
  /-- NTN_SCRUB (R500): Every PERIOD_H operating hours a scrub pass of the Notion store starts. -/
  | ntnScrub (corrected : List Nat) (uncorr : List Nat) (badCells : List Nat)
  /-- SCRUB_NOW (R500): NTN_CTL.SCRUB_NOW starts a scrub pass unless one runs. -/
  | scrubNow (h : Nat)
  /-- SCRUB_DONE (R500): A scrub pass has read every word and SCRUB_DONE is raised. -/
  | scrubDone
  /-- NTN_CNT_CLR (R512): NTN_CTL.CNT_CLR clears NTN_CNT. -/
  | ntnCntClr (h : Nat)
  /-- OPTIME_TICK (R494): Each operating second the operating-time counter advances by 1,000 ms. -/
  | optimeTick
  /-- PMC_FREEZE_WRITE (R569): A write of TOP_CTL.PMC_FREEZE stops or starts every counter in the same cycle. -/
  | pmcFreezeWrite (h : Nat) (value : Bool)
  /-- PMC_OVERFLOW (R567): A counter passes 2^48 - 1, its PMC_OVF bit sets, OVERFLOW may be raised and the page may freeze. -/
  | pmcOverflow (i : Nat) (k : Nat) (inc : Nat)
  /-- PMC_CNT_CLR (R572): PMC_CTL.CNT_CLR sets every counter of the page to 0 and clears PMC_OVF. -/
  | pmcCntClr (h : Nat) (i : Nat)
  /-- CPMU_CONFIG_WRITE (R571): A CPMU counter configuration write configures a PMC counter with ALL = 1, or is ignored with more than one mask bit. -/
  | cpmuConfigWrite (h : Nat) (i : Nat) (k : Nat) (group : Nat) (mask : BitVec 32) (enable : Bool) (intEn : Bool)
  /-- JTAG_INSTRUCTION_LOAD (R593): A TAP instruction is loaded, a ball-controlling one acting as BYPASS while memory is active. -/
  | jtagInstructionLoad (inst : JtagInst)
  /-- JTAG_EXTEST_EXIT (R593): The TAP leaves a ball-controlling instruction that was in force during core run, causing a device conventional reset. -/
  | jtagExtestExit
  /-- HDM_DECODER_COMMIT (R48): Host software commits an HDM decoder in BAR0, which takes its interleave ways, granularity, DPA base and skip into force, or sets Commit Error for 3, 6 or 12 ways. -/
  | hdmDecoderCommit (h : Nat) (i : Nat) (base : BitVec 64) (size : BitVec 64) (ways : Nat) (gran : Nat) (dpaBase : BitVec 64) (skip : BitVec 64) (lock : Bool)
  /-- FIRST_FORMAT_DONE (R184): First format, run when no format record exists or after a Sanitize from FAILED, completes and the Line Map leaves UNFORMATTED for ACTIVE with the default extents of R52. -/
  | firstFormatDone
  /-- HEAD_LINK_RECOVERY (R88): A head's link enters LTSSM Recovery from L0 and returns, counted in HST_LINKERR.RECOVERY_COUNT and shown as RECOVERY in HST_STS.LINK_STATE. -/
  | headLinkRecovery (h : Nat)
  /-- MSIX_CONTROL_WRITE (R562): A configuration write that enables or disables MSI-X on a head, a disable discarding every pending vector of that head. -/
  | msixControlWrite (h : Nat) (enable : Bool) (mask : BitVec 64)
deriving DecidableEq, Repr

end Sys2Proof
end

