-- ==== Sys2Proof/Decode.lean ====
section
/-!
DEFINITION. Commands spelled as bits. The block takes its commands as signals, register accesses, mailbox payloads and
packets; no row of the command table gives a word, so no word spells a command.
-/
namespace Sys2Proof

/-- The command that a word of `nbits` bits spells: none, since no row of the table gives bits. -/
def decodeTableWord (nbits w : Nat) : Option Instr :=
  match nbits, w with
  | _, _ => none

end Sys2Proof
end

