-- ==== Sys2Proof/Config.lean ====
section
/-!
DEFINITION. What one unit fixes, and the values the spec leaves open. A constant without a body is a free value: no
proof can see what it is.
-/
namespace Sys2Proof

/-- The unit's 64-bit serial (R43; TOP_SERIAL, Table 17-6: reset "unit"). A value of the unit, not of the spec. -/
opaque Config.serial : BitVec 64

/-- The device root key burnt at manufacture (Table 11-3): a secret of the unit. -/
opaque Config.deviceRootKey : BitVec 256

/-- Bits the spec leaves undefined, one draw for each value of the model's own counter `State.freeCtr`: the data of
a newly carved window word (R131), the handle numbers of CXL event records, and the like. -/
opaque Config.free : Nat → BitVec 64

/-- DRBG output (R403): the spec gives the construction and its reseeds, not the entropy. One draw for each value of
the model's counter. -/
opaque Config.drbg : Nat → BitVec 256

/-- The DRBG draw that supplies the format identifier (R174) and the scramble constant B (R156). -/
opaque Config.drawWord : Nat → BitVec 32

/-- The bytes of a signature or of a certificate chain (RSA-3072, SLH-DSA; R543 to R547): the keys are the unit's, so
the bytes are free. The arguments are the slot or algorithm and the draw counter. -/
opaque Config.signature : Nat → Nat → BitVec 64

/-- The SHA-384 digest of a message given by its length in bytes and its bytes as one little-endian number (R543, R546): the spec
names the hash by its name alone, and the model leaves it uninterpreted. -/
opaque Config.sha384 : Nat → Nat → BitVec 384

/-- What the unit itself digests for SPDM measurements 1 and 5 (Table 16-12): the ROM, and the settings image in force for each
value of the boot record's sequence and of the settings. -/
opaque Config.romDigest : BitVec 384

opaque Config.settingsDigest : Nat → BitVec 384

/-- Command Effects bits of an opcode in the Command Effects Log: the spec names the log and gives no effects (R71). -/
opaque Config.celEffect : Nat → BitVec 16

/-- The 8 SECDED check bits of a 64-bit word (Table 3-1): the spec names the code's kind and not its matrix. -/
opaque Config.secded : BitVec 64 → BitVec 8

end Sys2Proof
end

