-- ==== Sys2Proof/Machine/Aes.lean ====
section
/-!
DEFINITION. The ciphers and checks the spec names: CRC-8 (R147), CRC-16 (R175), CRC-32C, AES-256, GCM with the tag cut to
64 bits (R379), CMAC and the counter-mode KDF (R375), XTS (R381), KEY_ID (R378). Blocks are lists of bytes in the order
the cipher's standard numbers them.
-/
namespace Sys2Proof.Machine

/-- Bytes in order, byte 0 first. -/
abbrev Bytes := List (BitVec 8)

/-- The `n` little-endian bytes of a number. -/
def leBytes : Nat → Nat → Bytes
  | 0, _ => []
  | n + 1, v => BitVec.ofNat 8 v :: leBytes n (v / 256)

/-- The number whose little-endian bytes these are. -/
def leNat : Bytes → Nat
  | [] => 0
  | b :: bs => b.toNat + 256 * leNat bs

/-- The `n` big-endian bytes of a number. -/
def beBytes (n v : Nat) : Bytes := (leBytes n v).reverse

/-- One bit step of a CRC that shifts left, over `w` bits. -/
def crcStep (w poly : Nat) (c : Nat) : Nat :=
  if c / 2 ^ (w - 1) % 2 = 1 then ((2 * c) % 2 ^ w) ^^^ poly else (2 * c) % 2 ^ w

/-- `k` bit steps. -/
def crcSteps (w poly : Nat) : Nat → Nat → Nat
  | 0, c => c
  | k + 1, c => crcSteps w poly k (crcStep w poly c)

/-- A CRC of width `w`, most significant bit first. -/
def crcMsb (w poly init : Nat) (bs : Bytes) : Nat :=
  bs.foldl (fun c b => crcSteps w poly 8 (c ^^^ (b.toNat * 2 ^ (w - 8)))) init

/-- CRC-8 of R147: x^8 + x^2 + x + 1, initial 0xFF, no final inversion. -/
def crc8 (bs : Bytes) : Nat := crcMsb 8 7 255 bs

/-- CRC-16 of Table 4-6: polynomial 0x1021, initial 0xFFFF. -/
def crc16 (bs : Bytes) : Nat := crcMsb 16 0x1021 0xFFFF bs

/-- One bit step of CRC-32C, least significant bit first. -/
def crc32cStep (c : Nat) : Nat := if c % 2 = 1 then (c / 2) ^^^ 0x82F63B78 else c / 2

def crc32cSteps : Nat → Nat → Nat
  | 0, c => c
  | k + 1, c => crc32cSteps k (crc32cStep c)

/-- CRC-32C (Castagnoli), initial and final inversion. -/
def crc32c (bs : Bytes) : Nat :=
  (bs.foldl (fun c b => crc32cSteps 8 (c ^^^ b.toNat)) 0xFFFFFFFF) ^^^ 0xFFFFFFFF

/-- Multiplication by x in GF(2^8) with the AES polynomial. -/
def xtime (b : BitVec 8) : BitVec 8 :=
  if b.getLsbD 7 then (b <<< 1) ^^^ 0x1B#8 else b <<< 1

/-- Product in GF(2^8), `k` bits of the second factor. -/
def gmulBits : Nat → BitVec 8 → BitVec 8 → BitVec 8
  | 0, _, _ => 0#8
  | k + 1, a, b => (if b.getLsbD 0 then a else 0#8) ^^^ gmulBits k (xtime a) (b >>> 1)

/-- Product in GF(2^8). -/
def gmul (a b : BitVec 8) : BitVec 8 := gmulBits 8 a b

/-- Inverse in GF(2^8): the 254th power. -/
def ginv (a : BitVec 8) : BitVec 8 :=
  let a2 := gmul a a
  let a4 := gmul a2 a2
  let a8 := gmul a4 a4
  let a16 := gmul a8 a8
  let a32 := gmul a16 a16
  let a64 := gmul a32 a32
  let a128 := gmul a64 a64
  gmul a128 (gmul a64 (gmul a32 (gmul a16 (gmul a8 (gmul a4 a2)))))

/-- The AES S-box: inverse, then the affine map. -/
def subByte (a : BitVec 8) : BitVec 8 :=
  let b := ginv a
  b ^^^ b.rotateLeft 1 ^^^ b.rotateLeft 2 ^^^ b.rotateLeft 3 ^^^ b.rotateLeft 4 ^^^ 0x63#8

/-- The inverse S-box. -/
def invSubByte (a : BitVec 8) : BitVec 8 :=
  ginv (a.rotateLeft 1 ^^^ a.rotateLeft 3 ^^^ a.rotateLeft 6 ^^^ 0x05#8)

/-- Byte `i` of a block. -/
def byteOf (b : Bytes) (i : Nat) : BitVec 8 := b.getD i 0#8

/-- Byte-wise exclusive or. -/
def xorBytes (a b : Bytes) : Bytes := List.zipWith (· ^^^ ·) a b

/-- ShiftRows: byte r + 4c comes from column c + r. -/
def shiftRows (b : Bytes) : Bytes :=
  (List.range 16).map fun i => byteOf b ((i + 4 * (i % 4)) % 16)

/-- The inverse of ShiftRows. -/
def invShiftRows (b : Bytes) : Bytes :=
  (List.range 16).map fun i => byteOf b ((i + 16 - 4 * (i % 4)) % 16)

/-- A column mix with the coefficient row `m0 m1 m2 m3`. -/
def mixWith (m0 m1 m2 m3 : BitVec 8) (b : Bytes) : Bytes :=
  (List.range 16).map fun i =>
    let c := i / 4 * 4
    let r := i % 4
    gmul m0 (byteOf b (c + r)) ^^^ gmul m1 (byteOf b (c + (r + 1) % 4)) ^^^
      gmul m2 (byteOf b (c + (r + 2) % 4)) ^^^ gmul m3 (byteOf b (c + (r + 3) % 4))

/-- One more 4-byte word of the AES-256 key schedule, word number `i`, from the words so far, newest first. -/
def nextKeyWord (i : Nat) (rcon : BitVec 8) (ws : List Bytes) : Bytes :=
  let prev := ws.getD 0 []
  let back := ws.getD 7 []
  let t :=
    if i % 8 = 0 then
      xorBytes ([byteOf prev 1, byteOf prev 2, byteOf prev 3, byteOf prev 0].map subByte) [rcon, 0#8, 0#8, 0#8]
    else if i % 8 = 4 then prev.map subByte
    else prev
  xorBytes back t

/-- `k` more words, newest first. -/
def keyWords : Nat → Nat → BitVec 8 → List Bytes → List Bytes
  | 0, _, _, ws => ws
  | k + 1, i, rcon, ws =>
    keyWords k (i + 1) (if i % 8 = 0 then xtime rcon else rcon) (nextKeyWord i rcon ws :: ws)

/-- The 15 round keys of AES-256, first round first, for the 32 bytes of the key. -/
def roundKeys (key : Bytes) : List Bytes :=
  let w0 := (List.range 8).map fun i => (key.drop (4 * i)).take 4
  let ws := (keyWords 52 8 1#8 w0.reverse).reverse
  (List.range 15).map fun r => ((ws.drop (4 * r)).take 4).flatten

/-- One middle round of the forward cipher. -/
def aesRound (b k : Bytes) : Bytes := xorBytes (mixWith 2#8 3#8 1#8 1#8 (shiftRows (b.map subByte))) k

/-- The AES-256 forward cipher on a 16-byte block. -/
def aesEncrypt (key block : Bytes) : Bytes :=
  match roundKeys key with
  | [] => block
  | k0 :: ks =>
    let b := (ks.take 13).foldl aesRound (xorBytes block k0)
    xorBytes (shiftRows (b.map subByte)) (ks.getD 13 [])

/-- One middle round of the inverse cipher. -/
def aesInvRound (b k : Bytes) : Bytes :=
  mixWith 14#8 11#8 13#8 9#8 (xorBytes ((invShiftRows b).map invSubByte) k)

/-- The AES-256 inverse cipher on a 16-byte block. -/
def aesDecrypt (key block : Bytes) : Bytes :=
  match (roundKeys key).reverse with
  | [] => block
  | k14 :: ks =>
    let b := (ks.take 13).foldl aesInvRound (xorBytes block k14)
    xorBytes ((invShiftRows b).map invSubByte) (ks.getD 13 [])

/-- A block as a 128-bit number, byte 0 most significant. -/
def blockNat (b : Bytes) : Nat := leNat b.reverse

/-- GHASH's multiplication, bit by bit: `z` accumulates, `v` is the running multiple. -/
def ghashMulBits : Nat → Nat → Nat → Nat → Nat
  | 0, _, _, z => z
  | k + 1, x, v, z =>
    ghashMulBits k x (if v % 2 = 1 then (v / 2) ^^^ (0xE1 * 2 ^ 120) else v / 2)
      (if x / 2 ^ k % 2 = 1 then z ^^^ v else z)

/-- GHASH over whole blocks with subkey `h`. -/
def ghash (h : Nat) (blocks : List Bytes) : Nat :=
  blocks.foldl (fun y b => ghashMulBits 128 (y ^^^ blockNat b) h 0) 0

/-- The 16-byte blocks of a byte string (its length is a multiple of 16 wherever this is used). -/
def blocksOf (n : Nat) (bs : Bytes) : List Bytes := (List.range n).map fun i => (bs.drop (16 * i)).take 16

/-- GCM keystream over `n` blocks: the counter starts at 2 (R379). -/
def gcmStream (key iv : Bytes) (n : Nat) : Bytes :=
  ((List.range n).map fun i => aesEncrypt key (iv ++ beBytes 4 (i + 2))).flatten

/-- GCM's tag over AAD of one block and `n` ciphertext blocks. -/
def gcmTag (key iv aad ct : Bytes) (n : Nat) : Bytes :=
  let h := blockNat (aesEncrypt key (List.replicate 16 0#8))
  let g := ghash h (aad :: blocksOf n ct ++ [beBytes 8 (8 * aad.length) ++ beBytes 8 (128 * n)])
  xorBytes (beBytes 16 g) (aesEncrypt key (iv ++ beBytes 4 1))

/-- The IV of Table 11-5: SEQ in bytes 0 to 5, the line index in bytes 6 to 10, and the last byte, which names the kind. -/
def gcmIv (kind seq line : Nat) : Bytes := leBytes 6 seq ++ leBytes 5 line ++ leBytes 1 kind

/-- The AAD of Table 11-5: line, domain, sequence, generation and kind bytes. -/
def gcmAad (kind line dom seq kgen epoch : Nat) : Bytes :=
  leBytes 5 line ++ leBytes 1 dom ++ leBytes 6 seq ++ leBytes 1 (kgen + 2 * epoch) ++ leBytes 1 kind ++ [0#8, 0#8]

/-- KEY_ID of R378: the first 8 bytes of AES-256 of sixteen 0xFF bytes; byte i in bits 8i+7..8i. -/
def keyIdOf (key : BitVec 256) : BitVec 64 :=
  BitVec.ofNat 64 (leNat ((aesEncrypt (leBytes 32 key.toNat) (List.replicate 16 0xFF#8)).take 8))

/-- Doubling in GF(2^128) for CMAC, most significant bit first. -/
def cmacDouble (v : Nat) : Nat :=
  if v / 2 ^ 127 = 1 then ((2 * v) % 2 ^ 128) ^^^ 0x87 else 2 * v

/-- AES-256-CMAC (the PRF of R375). -/
def cmac (key msg : Bytes) : Bytes :=
  let k1 := cmacDouble (blockNat (aesEncrypt key (List.replicate 16 0#8)))
  let k2 := cmacDouble k1
  let n := (msg.length + 15) / 16
  let full := decide (0 < n ∧ msg.length % 16 = 0)
  let m := if n = 0 then 1 else n
  let lastRaw := (msg.drop (16 * (m - 1))).take 16
  let last :=
    if full then xorBytes lastRaw (beBytes 16 k1)
    else xorBytes (lastRaw ++ 0x80#8 :: List.replicate (15 - lastRaw.length) 0#8) (beBytes 16 k2)
  let x := (blocksOf (m - 1) msg).foldl (fun x b => aesEncrypt key (xorBytes x b)) (List.replicate 16 0#8)
  aesEncrypt key (xorBytes x last)

/-- The SP 800-108 counter-mode KDF with AES-256-CMAC, `n` output blocks of 128 bits (R375). -/
def kdf (n : Nat) (key : BitVec 256) (label ctx : Bytes) : Bytes :=
  let k := leBytes 32 key.toNat
  ((List.range n).map fun i => cmac k (beBytes 4 (i + 1) ++ label ++ [0#8] ++ ctx ++ beBytes 4 (128 * n))).flatten

/-- The KDF with a 256-bit output. -/
def kdf256 (key : BitVec 256) (label ctx : Bytes) : BitVec 256 :=
  BitVec.ofNat 256 (leNat (kdf 2 key label ctx))

/-- The bytes of an upper-case ASCII label, given as character codes. -/
def asciiBytes (s : String) : Bytes := s.toList.map fun c => BitVec.ofNat 8 c.toNat

/-- XTS: multiplication of the tweak by x, little-endian. -/
def xtsDouble (v : Nat) : Nat :=
  if v / 2 ^ 127 % 2 = 1 then ((2 * v) % 2 ^ 128) ^^^ 0x87 else 2 * v

/-- The tweak of block `i`. -/
def xtsTweak (t0 : Nat) : Nat → Nat
  | 0 => t0
  | i + 1 => xtsDouble (xtsTweak t0 i)

/-- XTS-AES-256 decryption of a 256-byte tag or log line; the data-unit number is the line index (R381). -/
def xtsDecrypt (k1 k2 : BitVec 256) (line : Nat) (ct : Bytes) : Bytes :=
  let t0 := leNat (aesEncrypt (leBytes 32 k2.toNat) (leBytes 16 line))
  ((List.range 16).map fun i =>
    let t := leBytes 16 (xtsTweak t0 i)
    xorBytes (aesDecrypt (leBytes 32 k1.toNat) (xorBytes ((ct.drop (16 * i)).take 16) t)) t).flatten

/-- XTS-AES-256 encryption of a 256-byte tag or log line (R381). -/
def xtsEncrypt (k1 k2 : BitVec 256) (line : Nat) (pt : Bytes) : Bytes :=
  let t0 := leNat (aesEncrypt (leBytes 32 k2.toNat) (leBytes 16 line))
  ((List.range 16).map fun i =>
    let t := leBytes 16 (xtsTweak t0 i)
    xorBytes (aesEncrypt (leBytes 32 k1.toNat) (xorBytes ((pt.drop (16 * i)).take 16) t)) t).flatten

end Sys2Proof.Machine
end

