-- ==== Sys2Proof/Machine/RegDefs.lean ====
section
/-!
DEFINITION. The control BAR's registers as the spec's register tables give them: every page, every register
of a common page, every field with its bits, access type, reset value and stated range (R4, R550, R554, R598 and
the register tables of each chapter), and a name for every field and for every event bit.
-/
namespace Sys2Proof.Machine

/-- Access types of Table 0-6 (R4). `RSV` bits belong to no field. -/
inductive Acc where
  | ro | rw | w1c | wo | rov
deriving DecidableEq, Repr

/-- The stated range of a field, or the substitute its description gives (R598). -/
inductive Limit where
  | any
  /-- a written value outside `lo` to `hi` leaves the field as it was -/
  | between (lo hi : Nat)
  /-- a written 0 acts as the value -/
  | zeroAs (v : Nat)
  /-- values above the cap act as the cap (HKP_CHAN_SEL) -/
  | capAt (v : Nat)
  /-- HST_CTL.MAX_SPEED: anything but 1 to 4 acts as 4 -/
  | speed
  /-- SKN_CTL.VERSION_MAX: 0 and 3 act as 2 -/
  | version
  /-- WRP_HEAD_WEIGHT: each 4-bit weight of 0 acts as 1 -/
  | nibbles
deriving DecidableEq, Repr

/-- One field of a register. `own` marks a field whose writes have a command of their own. -/
structure FieldDef where
  hi : Nat
  lo : Nat
  acc : Acc
  reset : Nat
  lim : Limit
  own : Bool
deriving DecidableEq, Repr

/-- `count` registers of one layout at `off + stride * j` within their page. -/
structure RegDef where
  off : Nat
  stride : Nat
  count : Nat
  fields : List FieldDef
deriving DecidableEq, Repr

/-- The blocks that have a common page (Table 17-1). -/
inductive Block where
  | top
  | pwr
  | thm
  | hkp
  | ntn
  | evr
  | fwu
  | kve
  | flt
  | epo
  | cry
  | upk
  | map
  | fch
  | swt
  | wrp
  | hst
  | ply
  | pmc
  | skn
deriving DecidableEq, Repr

/-- Base offset of the block's first page (Table 17-1). -/
def Block.base : Block → Nat
  | .top => 0x0
  | .pwr => 0x1000
  | .thm => 0x2000
  | .hkp => 0x3000
  | .ntn => 0x4000
  | .evr => 0x5000
  | .fwu => 0x6000
  | .kve => 0x7000
  | .flt => 0x8000
  | .epo => 0x9000
  | .cry => 0xA000
  | .upk => 0xB000
  | .map => 0xC000
  | .fch => 0xD000
  | .swt => 0xE000
  | .wrp => 0xF000
  | .hst => 0x10000
  | .ply => 0x20000
  | .pmc => 0x30000
  | .skn => 0x40000

/-- Pages of the block (Table 17-1). -/
def Block.pages : Block → Nat
  | .top => 1
  | .pwr => 1
  | .thm => 1
  | .hkp => 1
  | .ntn => 1
  | .evr => 1
  | .fwu => 1
  | .kve => 1
  | .flt => 1
  | .epo => 1
  | .cry => 1
  | .upk => 1
  | .map => 1
  | .fch => 1
  | .swt => 1
  | .wrp => 1
  | .hst => 8
  | .ply => 8
  | .pmc => 4
  | .skn => 128

/-- ID.TYPE of the block (Table 17-1). -/
def Block.idType : Block → Nat
  | .top => 1
  | .pwr => 2
  | .thm => 3
  | .hkp => 4
  | .ntn => 5
  | .evr => 6
  | .fwu => 7
  | .kve => 8
  | .flt => 9
  | .epo => 10
  | .cry => 11
  | .upk => 12
  | .map => 13
  | .fch => 14
  | .swt => 15
  | .wrp => 16
  | .hst => 17
  | .ply => 18
  | .pmc => 19
  | .skn => 20

/-- Event bits the block implements: bits 0 up to this number, less one (the EVT_STS tables). -/
def Block.eventBits : Block → Nat
  | .top => 7
  | .pwr => 13
  | .thm => 9
  | .hkp => 2
  | .ntn => 8
  | .evr => 4
  | .fwu => 13
  | .kve => 7
  | .flt => 10
  | .epo => 9
  | .cry => 12
  | .upk => 16
  | .map => 16
  | .fch => 12
  | .swt => 6
  | .wrp => 8
  | .hst => 8
  | .ply => 8
  | .pmc => 2
  | .skn => 15

/-- Block-specific registers of the TOP page. -/
def topRegs : List RegDef := [
  ⟨0x8, 0, 1, [⟨47, 32, .ro, 768, .any, false⟩, ⟨31, 24, .ro, 32, .any, false⟩, ⟨23, 16, .ro, 0, .any, false⟩, ⟨15, 8, .ro, 4, .any, false⟩, ⟨7, 0, .ro, 64, .any, false⟩]⟩,
  ⟨0x10, 0, 1, [⟨8, 8, .rw, 0, .any, true⟩]⟩,
  ⟨0x18, 0, 1, [⟨23, 16, .ro, 0, .any, false⟩, ⟨15, 8, .rov, 0, .any, false⟩, ⟨3, 3, .rov, 0, .any, false⟩, ⟨2, 2, .rov, 0, .any, false⟩, ⟨1, 1, .rov, 0, .any, false⟩, ⟨0, 0, .rov, 0, .any, false⟩]⟩,
  ⟨0x20, 0, 1, [⟨6, 6, .w1c, 0, .any, true⟩, ⟨5, 5, .w1c, 0, .any, true⟩, ⟨4, 4, .w1c, 0, .any, true⟩, ⟨3, 3, .w1c, 0, .any, true⟩, ⟨2, 2, .w1c, 0, .any, true⟩, ⟨1, 1, .w1c, 0, .any, true⟩, ⟨0, 0, .w1c, 0, .any, true⟩]⟩,
  ⟨0x38, 0, 1, [⟨19, 16, .rov, 0, .any, false⟩, ⟨15, 15, .rov, 0, .any, false⟩, ⟨14, 12, .rov, 0, .any, false⟩, ⟨11, 8, .rov, 0, .any, false⟩, ⟨7, 0, .rov, 0, .any, false⟩]⟩,
  ⟨0x40, 0, 1, [⟨24, 0, .rov, 0, .any, false⟩]⟩,
  ⟨0x100, 0, 1, [⟨31, 31, .rov, 0, .any, false⟩, ⟨17, 0, .rov, 0, .any, false⟩]⟩,
  ⟨0x108, 0, 1, [⟨63, 32, .rov, 0, .any, false⟩, ⟨2, 2, .rov, 0, .any, false⟩, ⟨1, 1, .rov, 0, .any, false⟩, ⟨0, 0, .rov, 0, .any, false⟩]⟩,
  ⟨0x110, 0, 1, [⟨63, 32, .rov, 0, .any, false⟩, ⟨31, 0, .rov, 0, .any, false⟩]⟩,
  ⟨0x118, 0, 1, [⟨63, 0, .rov, 0, .any, false⟩]⟩,
  ⟨0x120, 0, 1, [⟨63, 0, .rov, 0, .any, false⟩]⟩,
  ⟨0x128, 0, 1, [⟨63, 0, .rov, 0, .any, false⟩]⟩,
  ⟨0x130, 0, 1, [⟨63, 0, .ro, 0, .any, false⟩]⟩,
  ⟨0x138, 0, 1, [⟨15, 8, .rov, 0, .any, false⟩, ⟨4, 0, .rov, 0, .any, false⟩]⟩,
  ⟨0x140, 0, 1, [⟨15, 0, .rw, 0, .between 0 1000, false⟩]⟩,
  ⟨0x180, 8, 12, [⟨63, 0, .rov, 0, .any, false⟩]⟩]

/-- Block-specific registers of the PWR page. -/
def pwrRegs : List RegDef := [
  ⟨0x8, 0, 1, [⟨15, 8, .ro, 13, .any, false⟩, ⟨7, 0, .ro, 12, .any, false⟩]⟩,
  ⟨0x10, 0, 1, [⟨15, 8, .wo, 0, .any, false⟩, ⟨2, 2, .wo, 0, .any, false⟩, ⟨1, 1, .wo, 0, .any, false⟩, ⟨0, 0, .wo, 0, .any, false⟩]⟩,
  ⟨0x18, 0, 1, [⟨43, 32, .rov, 0, .any, false⟩, ⟨28, 28, .rov, 0, .any, false⟩, ⟨27, 27, .rov, 0, .any, false⟩, ⟨26, 26, .rov, 0, .any, false⟩, ⟨25, 25, .rov, 0, .any, false⟩, ⟨24, 24, .rov, 0, .any, false⟩, ⟨23, 23, .rov, 0, .any, false⟩, ⟨17, 16, .rov, 0, .any, false⟩, ⟨11, 8, .rov, 0, .any, false⟩, ⟨3, 0, .rov, 0, .any, false⟩]⟩,
  ⟨0x20, 0, 1, [⟨12, 12, .w1c, 0, .any, true⟩, ⟨11, 11, .w1c, 0, .any, true⟩, ⟨10, 10, .w1c, 0, .any, true⟩, ⟨9, 9, .w1c, 0, .any, true⟩, ⟨8, 8, .w1c, 0, .any, true⟩, ⟨7, 7, .w1c, 0, .any, true⟩, ⟨6, 6, .w1c, 0, .any, true⟩, ⟨5, 5, .w1c, 0, .any, true⟩, ⟨4, 4, .w1c, 0, .any, true⟩, ⟨3, 3, .w1c, 0, .any, true⟩, ⟨2, 2, .w1c, 0, .any, true⟩, ⟨1, 1, .w1c, 0, .any, true⟩, ⟨0, 0, .w1c, 0, .any, true⟩]⟩,
  ⟨0x38, 0, 1, [⟨27, 24, .rov, 0, .any, false⟩, ⟨23, 20, .rov, 0, .any, false⟩, ⟨19, 16, .rov, 0, .any, false⟩, ⟨11, 8, .rov, 0, .any, false⟩, ⟨7, 0, .rov, 0, .any, false⟩]⟩,
  ⟨0x40, 0, 1, [⟨15, 0, .rov, 0, .any, false⟩]⟩,
  ⟨0x100, 0, 1, [⟨49, 48, .rw, 0, .any, false⟩, ⟨40, 40, .rw, 0, .any, false⟩, ⟨39, 32, .rw, 20, .between 1 200, false⟩, ⟨31, 24, .rw, 10, .between 1 100, false⟩, ⟨9, 8, .rw, 2, .between 0 2, false⟩, ⟨7, 0, .rw, 10, .between 1 255, false⟩]⟩,
  ⟨0x108, 0, 1, [⟨31, 16, .rw, 11400, .any, false⟩, ⟨15, 0, .rw, 11000, .any, false⟩]⟩,
  ⟨0x110, 0, 1, [⟨16, 16, .rov, 0, .any, false⟩, ⟨15, 0, .rov, 0, .any, false⟩]⟩,
  ⟨0x118, 0, 1, [⟨15, 0, .rov, 1218, .any, false⟩]⟩,
  ⟨0x120, 0, 1, [⟨39, 16, .rov, 0, .any, false⟩, ⟨15, 0, .rov, 0, .any, false⟩]⟩,
  ⟨0x128, 0, 1, [⟨63, 32, .rov, 0, .any, false⟩, ⟨31, 0, .rov, 0, .any, false⟩]⟩,
  ⟨0x130, 0, 1, [⟨24, 24, .rov, 0, .any, false⟩, ⟨15, 8, .rov, 255, .any, false⟩, ⟨7, 0, .wo, 0, .any, false⟩]⟩,
  ⟨0x140, 8, 12, [⟨63, 48, .rov, 0, .any, false⟩, ⟨47, 32, .rov, 0, .any, false⟩, ⟨31, 16, .rov, 0, .any, false⟩, ⟨15, 0, .rov, 0, .any, false⟩]⟩,
  ⟨0x1A0, 8, 12, [⟨47, 32, .rw, 0, .any, false⟩, ⟨31, 24, .rw, 20, .between 1 100, false⟩, ⟨23, 16, .rw, 5, .between 1 100, false⟩, ⟨15, 0, .rw, 0, .any, false⟩]⟩]

/-- Block-specific registers of the THM page. -/
def thmRegs : List RegDef := [
  ⟨0x8, 0, 1, [⟨15, 8, .ro, 115, .any, false⟩, ⟨7, 0, .ro, 64, .any, false⟩]⟩,
  ⟨0x10, 0, 1, [⟨13, 8, .rw, 0, .any, false⟩, ⟨1, 1, .wo, 0, .any, false⟩, ⟨0, 0, .wo, 0, .any, false⟩]⟩,
  ⟨0x18, 0, 1, [⟨63, 48, .rov, 0, .any, false⟩, ⟨37, 32, .rov, 0, .any, false⟩, ⟨22, 16, .rov, 0, .any, false⟩, ⟨3, 3, .rov, 0, .any, false⟩, ⟨2, 2, .rov, 0, .any, false⟩, ⟨1, 1, .rov, 0, .any, false⟩, ⟨0, 0, .rov, 0, .any, false⟩]⟩,
  ⟨0x20, 0, 1, [⟨8, 8, .w1c, 0, .any, true⟩, ⟨7, 7, .w1c, 0, .any, true⟩, ⟨6, 6, .w1c, 0, .any, true⟩, ⟨5, 5, .w1c, 0, .any, true⟩, ⟨4, 4, .w1c, 0, .any, true⟩, ⟨3, 3, .w1c, 0, .any, true⟩, ⟨2, 2, .w1c, 0, .any, true⟩, ⟨1, 1, .w1c, 0, .any, true⟩, ⟨0, 0, .w1c, 0, .any, true⟩]⟩,
  ⟨0x38, 0, 1, [⟨13, 8, .rov, 0, .any, false⟩, ⟨7, 0, .rov, 0, .any, false⟩]⟩,
  ⟨0x40, 0, 1, [⟨22, 16, .rov, 0, .any, false⟩, ⟨15, 0, .rov, 0, .any, false⟩]⟩,
  ⟨0x100, 0, 1, [⟨15, 8, .ro, 105, .any, false⟩, ⟨7, 0, .rw, 95, .between 85 100, false⟩]⟩,
  ⟨0x108, 0, 1, [⟨63, 48, .rov, 128, .any, false⟩, ⟨47, 16, .rov, 0, .any, false⟩, ⟨15, 0, .rov, 480, .any, false⟩]⟩,
  ⟨0x110, 0, 1, [⟨63, 0, .rov, 0, .any, false⟩]⟩,
  ⟨0x200, 8, 64, [⟨47, 40, .rov, 128, .any, false⟩, ⟨35, 34, .rov, 0, .any, false⟩, ⟨32, 32, .rov, 0, .any, false⟩, ⟨31, 16, .rov, 0, .any, false⟩, ⟨15, 0, .rov, 0, .any, false⟩]⟩,
  ⟨0x118, 0, 1, [⟨4, 4, .rw, 0, .any, false⟩, ⟨3, 0, .rw, 0, .any, false⟩]⟩,
  ⟨0x120, 0, 1, [⟨31, 0, .rov, 0, .any, false⟩]⟩,
  ⟨0x128, 0, 1, [⟨63, 48, .rov, 0, .any, false⟩, ⟨47, 32, .rov, 0, .any, false⟩, ⟨31, 0, .rov, 0, .any, false⟩]⟩,
  ⟨0x130, 0, 1, [⟨63, 32, .rov, 0, .any, false⟩, ⟨31, 16, .rov, 0, .any, false⟩, ⟨15, 0, .rov, 0, .any, false⟩]⟩]

/-- Block-specific registers of the HKP page. -/
def hkpRegs : List RegDef := [
  ⟨0x8, 0, 1, [⟨23, 16, .ro, 16, .any, false⟩, ⟨15, 8, .ro, 64, .any, false⟩, ⟨7, 0, .ro, 96, .any, false⟩]⟩,
  ⟨0x10, 0, 1, [⟨0, 0, .wo, 0, .any, false⟩]⟩,
  ⟨0x18, 0, 1, [⟨63, 32, .rov, 0, .any, false⟩, ⟨31, 16, .rov, 0, .any, false⟩, ⟨6, 0, .rov, 0, .any, false⟩]⟩,
  ⟨0x20, 0, 1, [⟨1, 1, .w1c, 0, .any, true⟩, ⟨0, 0, .w1c, 0, .any, true⟩]⟩,
  ⟨0x38, 0, 1, [⟨14, 8, .rov, 0, .any, false⟩, ⟨7, 0, .rov, 0, .any, false⟩]⟩,
  ⟨0x40, 0, 1, [⟨15, 0, .rov, 0, .any, false⟩]⟩,
  ⟨0x100, 0, 1, [⟨7, 0, .rw, 5, .between 2 10, false⟩]⟩,
  ⟨0x108, 0, 1, [⟨6, 0, .rw, 0, .capAt 95, false⟩]⟩,
  ⟨0x110, 0, 1, [⟨63, 32, .rov, 0, .any, false⟩, ⟨15, 0, .rov, 0, .any, false⟩]⟩]

/-- Block-specific registers of the NTN page. -/
def ntnRegs : List RegDef := [
  ⟨0x8, 0, 1, [⟨39, 32, .ro, 64, .any, false⟩, ⟨31, 0, .ro, 131072, .any, false⟩]⟩,
  ⟨0x10, 0, 1, [⟨1, 1, .wo, 0, .any, false⟩, ⟨0, 0, .wo, 0, .any, false⟩]⟩,
  ⟨0x18, 0, 1, [⟨24, 16, .rov, 0, .any, false⟩, ⟨1, 1, .rov, 0, .any, false⟩, ⟨0, 0, .rov, 0, .any, false⟩]⟩,
  ⟨0x20, 0, 1, [⟨7, 7, .w1c, 0, .any, true⟩, ⟨6, 6, .w1c, 0, .any, true⟩, ⟨5, 5, .w1c, 0, .any, true⟩, ⟨4, 4, .w1c, 0, .any, true⟩, ⟨3, 3, .w1c, 0, .any, true⟩, ⟨2, 2, .w1c, 0, .any, true⟩, ⟨1, 1, .w1c, 0, .any, true⟩, ⟨0, 0, .w1c, 0, .any, true⟩]⟩,
  ⟨0x38, 0, 1, [⟨23, 16, .rov, 0, .any, false⟩, ⟨13, 8, .rov, 0, .any, false⟩, ⟨7, 0, .rov, 0, .any, false⟩]⟩,
  ⟨0x40, 0, 1, [⟨22, 0, .rov, 0, .any, false⟩]⟩,
  ⟨0x100, 0, 1, [⟨15, 0, .rw, 24, .between 1 8760, false⟩]⟩,
  ⟨0x108, 0, 1, [⟨63, 32, .rov, 0, .any, false⟩, ⟨31, 16, .rov, 0, .any, false⟩, ⟨15, 0, .rov, 0, .any, false⟩]⟩,
  ⟨0x110, 0, 1, [⟨5, 0, .rw, 0, .any, false⟩]⟩,
  ⟨0x118, 0, 1, [⟨63, 62, .rov, 0, .any, false⟩, ⟨61, 58, .rov, 0, .any, false⟩, ⟨55, 0, .rov, 0, .any, false⟩]⟩]

/-- Block-specific registers of the EVR page. -/
def evrRegs : List RegDef := [
  ⟨0x8, 0, 1, [⟨23, 16, .ro, 32, .any, false⟩, ⟨15, 0, .ro, 16384, .any, false⟩]⟩,
  ⟨0x10, 0, 1, [⟨0, 0, .wo, 0, .any, false⟩]⟩,
  ⟨0x18, 0, 1, [⟨48, 40, .rov, 0, .any, false⟩, ⟨32, 32, .rov, 0, .any, false⟩, ⟨30, 16, .rov, 0, .any, false⟩, ⟨15, 0, .rov, 0, .any, false⟩]⟩,
  ⟨0x20, 0, 1, [⟨3, 3, .w1c, 0, .any, true⟩, ⟨2, 2, .w1c, 0, .any, true⟩, ⟨1, 1, .w1c, 0, .any, true⟩, ⟨0, 0, .w1c, 0, .any, true⟩]⟩,
  ⟨0x38, 0, 1, [⟨7, 0, .rov, 0, .any, false⟩]⟩,
  ⟨0x40, 0, 1, [⟨15, 0, .rov, 0, .any, false⟩]⟩,
  ⟨0x100, 0, 1, [⟨19, 8, .rw, 1000, .between 10 4000, false⟩, ⟨3, 0, .rw, 0, .between 0 3, false⟩]⟩,
  ⟨0x108, 0, 1, [⟨13, 0, .rw, 0, .any, false⟩]⟩,
  ⟨0x110, 8, 4, [⟨63, 0, .rov, 0, .any, false⟩]⟩,
  ⟨0x130, 0, 1, [⟨63, 32, .rov, 0, .any, false⟩, ⟨31, 16, .rov, 0, .any, false⟩, ⟨15, 0, .rov, 0, .any, false⟩]⟩]

/-- Block-specific registers of the FWU page. -/
def fwuRegs : List RegDef := [
  ⟨0x8, 0, 1, [⟨23, 16, .ro, 64, .any, false⟩, ⟨15, 8, .ro, 16, .any, false⟩, ⟨7, 4, .ro, 8, .any, false⟩, ⟨3, 0, .ro, 2, .any, false⟩]⟩,
  ⟨0x10, 0, 1, [⟨15, 8, .wo, 0, .any, false⟩, ⟨1, 1, .wo, 0, .any, false⟩, ⟨0, 0, .wo, 0, .any, false⟩]⟩,
  ⟨0x18, 0, 1, [⟨19, 19, .rov, 0, .any, false⟩, ⟨18, 18, .rov, 0, .any, false⟩, ⟨17, 17, .rov, 0, .any, false⟩, ⟨16, 16, .rov, 0, .any, false⟩, ⟨11, 8, .rov, 0, .any, false⟩, ⟨7, 6, .rov, 0, .any, false⟩, ⟨5, 4, .rov, 0, .any, false⟩, ⟨0, 0, .rov, 0, .any, false⟩]⟩,
  ⟨0x20, 0, 1, [⟨12, 12, .w1c, 0, .any, true⟩, ⟨11, 11, .w1c, 0, .any, true⟩, ⟨10, 10, .w1c, 0, .any, true⟩, ⟨9, 9, .w1c, 0, .any, true⟩, ⟨8, 8, .w1c, 0, .any, true⟩, ⟨7, 7, .w1c, 0, .any, true⟩, ⟨6, 6, .w1c, 0, .any, true⟩, ⟨5, 5, .w1c, 0, .any, true⟩, ⟨4, 4, .w1c, 0, .any, true⟩, ⟨3, 3, .w1c, 0, .any, true⟩, ⟨2, 2, .w1c, 0, .any, true⟩, ⟨1, 1, .w1c, 0, .any, true⟩, ⟨0, 0, .w1c, 0, .any, true⟩]⟩,
  ⟨0x38, 0, 1, [⟨16, 16, .rov, 0, .any, false⟩, ⟨15, 8, .rov, 0, .any, false⟩, ⟨7, 0, .rov, 0, .any, false⟩]⟩,
  ⟨0x40, 0, 1, [⟨31, 0, .rov, 0, .any, false⟩]⟩,
  ⟨0x100, 0, 1, [⟨63, 32, .rov, 0, .any, false⟩, ⟨31, 0, .rov, 0, .any, false⟩]⟩,
  ⟨0x108, 0, 1, [⟨63, 32, .rov, 0, .any, false⟩, ⟨31, 0, .rov, 0, .any, false⟩]⟩,
  ⟨0x110, 0, 1, [⟨63, 40, .rov, 0, .any, false⟩, ⟨36, 32, .rov, 0, .any, false⟩, ⟨31, 0, .rov, 0, .any, false⟩]⟩,
  ⟨0x118, 0, 1, [⟨63, 63, .rov, 0, .any, false⟩, ⟨62, 0, .rov, 0, .any, false⟩]⟩,
  ⟨0x120, 0, 1, [⟨31, 0, .rov, 0, .any, false⟩]⟩,
  ⟨0x128, 0, 1, [⟨20, 16, .rw, 12, .between 8 16, false⟩, ⟨15, 0, .rw, 24, .between 1 720, false⟩]⟩,
  ⟨0x130, 0, 1, [⟨63, 32, .rov, 0, .any, false⟩, ⟨31, 16, .rov, 0, .any, false⟩, ⟨15, 0, .rov, 0, .any, false⟩]⟩]

/-- Block-specific registers of the KVE page. -/
def kveRegs : List RegDef := [
  ⟨0x8, 0, 1, [⟨39, 32, .ro, 1, .any, false⟩, ⟨31, 16, .ro, 768, .any, false⟩, ⟨15, 0, .ro, 4096, .any, false⟩]⟩,
  ⟨0x10, 0, 1, [⟨1, 1, .wo, 0, .any, false⟩, ⟨0, 0, .wo, 0, .any, false⟩]⟩,
  ⟨0x18, 0, 1, [⟨47, 32, .rov, 0, .any, false⟩, ⟨21, 12, .rov, 0, .any, false⟩, ⟨3, 3, .rov, 0, .any, false⟩, ⟨1, 0, .rov, 0, .any, false⟩]⟩,
  ⟨0x20, 0, 1, [⟨6, 6, .w1c, 0, .any, true⟩, ⟨5, 5, .w1c, 0, .any, true⟩, ⟨4, 4, .w1c, 0, .any, true⟩, ⟨3, 3, .w1c, 0, .any, true⟩, ⟨2, 2, .w1c, 0, .any, true⟩, ⟨1, 1, .w1c, 0, .any, true⟩, ⟨0, 0, .w1c, 0, .any, true⟩]⟩,
  ⟨0x38, 0, 1, [⟨15, 8, .rov, 0, .any, false⟩, ⟨7, 0, .rov, 0, .any, false⟩]⟩,
  ⟨0x40, 0, 1, [⟨9, 0, .rov, 0, .any, false⟩]⟩,
  ⟨0x100, 0, 1, [⟨63, 32, .rov, 0, .any, false⟩, ⟨31, 16, .rov, 0, .any, false⟩, ⟨15, 0, .rov, 0, .any, false⟩]⟩,
  ⟨0x108, 0, 1, [⟨63, 32, .rov, 0, .any, false⟩, ⟨31, 0, .rov, 0, .any, false⟩]⟩]

/-- Block-specific registers of the FLT page. -/
def fltRegs : List RegDef := [
  ⟨0x8, 0, 1, [⟨31, 16, .ro, 256, .any, false⟩, ⟨15, 8, .ro, 256, .any, false⟩, ⟨7, 0, .ro, 13, .any, false⟩]⟩,
  ⟨0x10, 0, 1, [⟨2, 2, .wo, 0, .any, false⟩, ⟨1, 1, .wo, 0, .any, false⟩, ⟨0, 0, .rw, 0, .any, true⟩]⟩,
  ⟨0x18, 0, 1, [⟨63, 48, .rov, 0, .any, false⟩, ⟨47, 32, .rov, 0, .any, false⟩, ⟨31, 24, .rov, 0, .any, false⟩, ⟨2, 2, .rov, 0, .any, false⟩, ⟨1, 1, .rov, 0, .any, false⟩, ⟨0, 0, .rov, 0, .any, false⟩]⟩,
  ⟨0x20, 0, 1, [⟨9, 9, .w1c, 0, .any, true⟩, ⟨8, 8, .w1c, 0, .any, true⟩, ⟨7, 7, .w1c, 0, .any, true⟩, ⟨6, 6, .w1c, 0, .any, true⟩, ⟨5, 5, .w1c, 0, .any, true⟩, ⟨4, 4, .w1c, 0, .any, true⟩, ⟨3, 3, .w1c, 0, .any, true⟩, ⟨2, 2, .w1c, 0, .any, true⟩, ⟨1, 1, .w1c, 0, .any, true⟩, ⟨0, 0, .w1c, 0, .any, true⟩]⟩,
  ⟨0x38, 0, 1, [⟨40, 40, .rov, 0, .any, false⟩, ⟨39, 36, .rov, 0, .any, false⟩, ⟨35, 32, .rov, 0, .any, false⟩, ⟨7, 0, .rov, 0, .any, false⟩]⟩,
  ⟨0x40, 0, 1, [⟨31, 0, .rov, 0, .any, false⟩]⟩,
  ⟨0x100, 0, 1, [⟨55, 48, .rw, 3, .between 1 255, false⟩, ⟨47, 40, .rw, 2, .between 1 255, false⟩, ⟨39, 24, .rw, 4096, .between 1 65535, false⟩, ⟨23, 16, .rw, 4, .between 1 255, false⟩, ⟨15, 8, .rw, 4, .between 1 255, false⟩, ⟨7, 0, .rw, 16, .between 1 255, false⟩]⟩,
  ⟨0x108, 0, 1, [⟨36, 36, .wo, 0, .any, false⟩, ⟨35, 32, .rw, 0, .any, false⟩, ⟨31, 0, .rw, 0, .any, false⟩]⟩,
  ⟨0x110, 0, 1, [⟨63, 32, .rov, 0, .any, false⟩, ⟨7, 4, .rov, 0, .any, false⟩, ⟨1, 0, .rov, 0, .any, false⟩]⟩,
  ⟨0x118, 0, 1, [⟨7, 0, .rw, 0, .any, false⟩]⟩,
  ⟨0x120, 0, 1, [⟨63, 63, .rov, 0, .any, false⟩, ⟨62, 62, .rov, 0, .any, false⟩, ⟨61, 61, .rov, 0, .any, false⟩, ⟨43, 40, .rov, 0, .any, false⟩, ⟨39, 32, .rov, 0, .any, false⟩, ⟨31, 0, .rov, 0, .any, false⟩]⟩,
  ⟨0x128, 0, 1, [⟨63, 0, .rov, 0, .any, false⟩]⟩,
  ⟨0x130, 0, 1, [⟨63, 63, .rov, 0, .any, false⟩, ⟨55, 32, .rov, 0, .any, false⟩, ⟨31, 0, .rov, 0, .any, false⟩]⟩,
  ⟨0x138, 0, 1, [⟨31, 0, .wo, 0, .any, false⟩]⟩,
  ⟨0x140, 0, 1, [⟨23, 16, .rw, 1, .zeroAs 1, false⟩, ⟨11, 8, .rw, 0, .any, false⟩, ⟨2, 2, .rw, 0, .any, false⟩, ⟨1, 1, .rw, 0, .any, false⟩, ⟨0, 0, .wo, 0, .any, false⟩]⟩,
  ⟨0x148, 0, 1, [⟨35, 32, .rw, 0, .any, false⟩, ⟨31, 0, .rw, 0, .any, false⟩]⟩,
  ⟨0x150, 0, 1, [⟨30, 0, .rw, 0, .any, false⟩]⟩,
  ⟨0x158, 0, 1, [⟨63, 32, .rov, 0, .any, false⟩, ⟨31, 0, .rov, 0, .any, false⟩]⟩,
  ⟨0x160, 0, 1, [⟨63, 32, .rov, 0, .any, false⟩, ⟨31, 16, .rov, 0, .any, false⟩, ⟨15, 0, .rov, 0, .any, false⟩]⟩,
  ⟨0x168, 0, 1, [⟨63, 32, .rov, 0, .any, false⟩, ⟨31, 16, .rov, 0, .any, false⟩, ⟨15, 0, .rov, 0, .any, false⟩]⟩,
  ⟨0x170, 0, 1, [⟨15, 0, .rw, 0, .any, true⟩]⟩,
  ⟨0x178, 0, 1, [⟨63, 48, .rov, 0, .any, false⟩, ⟨47, 32, .rov, 0, .any, false⟩, ⟨31, 16, .rov, 0, .any, false⟩, ⟨10, 8, .rov, 0, .any, false⟩, ⟨7, 7, .rov, 0, .any, false⟩]⟩]

/-- Block-specific registers of the EPO page. -/
def epoRegs : List RegDef := [
  ⟨0x8, 0, 1, [⟨63, 32, .ro, 0, .any, false⟩, ⟨31, 24, .ro, 25, .any, false⟩, ⟨23, 16, .ro, 26, .any, false⟩, ⟨15, 8, .ro, 16, .any, false⟩, ⟨7, 0, .ro, 10, .any, false⟩]⟩,
  ⟨0x10, 0, 1, [⟨0, 0, .wo, 0, .any, false⟩]⟩,
  ⟨0x18, 0, 1, [⟨63, 32, .rov, 0, .any, false⟩, ⟨15, 8, .rov, 0, .any, false⟩, ⟨7, 0, .rov, 0, .any, false⟩]⟩,
  ⟨0x20, 0, 1, [⟨8, 8, .w1c, 0, .any, true⟩, ⟨7, 7, .w1c, 0, .any, true⟩, ⟨6, 6, .w1c, 0, .any, true⟩, ⟨5, 5, .w1c, 0, .any, true⟩, ⟨4, 4, .w1c, 0, .any, true⟩, ⟨3, 3, .w1c, 0, .any, true⟩, ⟨2, 2, .w1c, 0, .any, true⟩, ⟨1, 1, .w1c, 0, .any, true⟩, ⟨0, 0, .w1c, 0, .any, true⟩]⟩,
  ⟨0x38, 0, 1, [⟨47, 40, .rov, 0, .any, false⟩, ⟨15, 8, .rov, 0, .any, false⟩, ⟨7, 0, .rov, 0, .any, false⟩]⟩,
  ⟨0x40, 0, 1, [⟨37, 0, .rov, 0, .any, false⟩]⟩,
  ⟨0x100, 0, 1, [⟨15, 0, .rw, 0, .any, false⟩]⟩,
  ⟨0x108, 0, 1, [⟨31, 0, .rov, 0, .any, false⟩]⟩,
  ⟨0x110, 0, 1, [⟨63, 62, .wo, 0, .any, false⟩, ⟨55, 48, .wo, 0, .any, false⟩, ⟨47, 0, .wo, 0, .any, false⟩]⟩,
  ⟨0x118, 0, 1, [⟨63, 63, .rw, 0, .any, false⟩, ⟨62, 0, .rw, 0, .any, false⟩]⟩,
  ⟨0x120, 0, 1, [⟨16, 16, .rov, 0, .any, false⟩, ⟨15, 0, .rov, 0, .any, false⟩]⟩,
  ⟨0x128, 0, 1, [⟨7, 0, .rw, 0, .any, false⟩]⟩,
  ⟨0x130, 0, 1, [⟨12, 8, .rw, 20, .any, false⟩, ⟨0, 0, .rw, 0, .any, false⟩]⟩,
  ⟨0x138, 0, 1, [⟨7, 7, .rov, 0, .any, false⟩, ⟨6, 6, .rov, 0, .any, false⟩, ⟨5, 5, .rov, 0, .any, false⟩, ⟨4, 4, .rov, 0, .any, false⟩, ⟨2, 0, .rov, 0, .any, false⟩]⟩,
  ⟨0x140, 0, 1, [⟨47, 0, .rov, 0, .any, false⟩]⟩,
  ⟨0x148, 0, 1, [⟨47, 0, .rov, 0, .any, false⟩]⟩,
  ⟨0x150, 0, 1, [⟨39, 0, .rov, 0, .any, false⟩]⟩,
  ⟨0x158, 0, 1, [⟨39, 0, .rov, 0, .any, false⟩]⟩,
  ⟨0x160, 0, 1, [⟨59, 32, .rov, 0, .any, false⟩, ⟨27, 0, .rov, 0, .any, false⟩]⟩]

/-- Block-specific registers of the CRY page. -/
def cryRegs : List RegDef := [
  ⟨0x8, 0, 1, [⟨31, 24, .ro, 6, .any, false⟩, ⟨23, 16, .ro, 64, .any, false⟩, ⟨15, 8, .ro, 2, .any, false⟩, ⟨7, 0, .ro, 255, .any, false⟩]⟩,
  ⟨0x10, 0, 1, [⟨0, 0, .wo, 0, .any, false⟩]⟩,
  ⟨0x18, 0, 1, [⟨40, 40, .rov, 0, .any, false⟩, ⟨39, 32, .rov, 0, .any, false⟩, ⟨24, 16, .rov, 0, .any, false⟩, ⟨0, 0, .rov, 0, .any, false⟩]⟩,
  ⟨0x20, 0, 1, [⟨11, 11, .w1c, 0, .any, true⟩, ⟨10, 10, .w1c, 0, .any, true⟩, ⟨9, 9, .w1c, 0, .any, true⟩, ⟨8, 8, .w1c, 0, .any, true⟩, ⟨7, 7, .w1c, 0, .any, true⟩, ⟨6, 6, .w1c, 0, .any, true⟩, ⟨5, 5, .w1c, 0, .any, true⟩, ⟨4, 4, .w1c, 0, .any, true⟩, ⟨3, 3, .w1c, 0, .any, true⟩, ⟨2, 2, .w1c, 0, .any, true⟩, ⟨1, 1, .w1c, 0, .any, true⟩, ⟨0, 0, .w1c, 0, .any, true⟩]⟩,
  ⟨0x38, 0, 1, [⟨47, 40, .rov, 0, .any, false⟩, ⟨35, 32, .rov, 0, .any, false⟩, ⟨22, 16, .rov, 0, .any, false⟩, ⟨7, 0, .rov, 0, .any, false⟩]⟩,
  ⟨0x40, 0, 1, [⟨37, 0, .rov, 0, .any, false⟩]⟩,
  ⟨0x100, 0, 1, [⟨1, 0, .rw, 1, .zeroAs 1, false⟩]⟩,
  ⟨0x108, 0, 1, [⟨37, 0, .rov, 0, .any, false⟩]⟩,
  ⟨0x110, 0, 1, [⟨63, 32, .rov, 0, .any, false⟩, ⟨31, 16, .rov, 0, .any, false⟩, ⟨15, 0, .rov, 0, .any, false⟩]⟩,
  ⟨0x118, 0, 1, [⟨63, 63, .rov, 0, .any, false⟩, ⟨62, 62, .rov, 0, .any, false⟩, ⟨61, 61, .rov, 0, .any, false⟩, ⟨55, 48, .rov, 0, .any, false⟩, ⟨47, 44, .rov, 0, .any, false⟩, ⟨37, 0, .rov, 0, .any, false⟩]⟩]

/-- Block-specific registers of the UPK page. -/
def upkRegs : List RegDef := [
  ⟨0x8, 0, 1, [⟨40, 24, .ro, 0, .any, false⟩, ⟨23, 16, .ro, 8, .any, false⟩, ⟨15, 8, .ro, 0, .any, false⟩, ⟨7, 0, .ro, 16, .any, false⟩]⟩,
  ⟨0x10, 0, 1, [⟨3, 3, .wo, 0, .any, false⟩, ⟨2, 2, .wo, 0, .any, false⟩, ⟨1, 1, .rw, 1, .any, false⟩, ⟨0, 0, .rw, 1, .any, false⟩]⟩,
  ⟨0x18, 0, 1, [⟨63, 56, .rov, 0, .any, false⟩, ⟨55, 48, .rov, 0, .any, false⟩, ⟨47, 40, .rov, 0, .any, false⟩, ⟨39, 32, .rov, 0, .any, false⟩, ⟨1, 1, .rov, 0, .any, false⟩, ⟨0, 0, .rov, 1, .any, false⟩]⟩,
  ⟨0x20, 0, 1, [⟨15, 15, .w1c, 0, .any, true⟩, ⟨14, 14, .w1c, 0, .any, true⟩, ⟨13, 13, .w1c, 0, .any, true⟩, ⟨12, 12, .w1c, 0, .any, true⟩, ⟨11, 11, .w1c, 0, .any, true⟩, ⟨10, 10, .w1c, 0, .any, true⟩, ⟨9, 9, .w1c, 0, .any, true⟩, ⟨8, 8, .w1c, 0, .any, true⟩, ⟨7, 7, .w1c, 0, .any, true⟩, ⟨6, 6, .w1c, 0, .any, true⟩, ⟨5, 5, .w1c, 0, .any, true⟩, ⟨4, 4, .w1c, 0, .any, true⟩, ⟨3, 3, .w1c, 0, .any, true⟩, ⟨2, 2, .w1c, 0, .any, true⟩, ⟨1, 1, .w1c, 0, .any, true⟩, ⟨0, 0, .w1c, 0, .any, true⟩]⟩,
  ⟨0x38, 0, 1, [⟨63, 32, .rov, 0, .any, false⟩, ⟨14, 12, .rov, 0, .any, false⟩, ⟨11, 8, .rov, 0, .any, false⟩, ⟨7, 0, .rov, 0, .any, false⟩]⟩,
  ⟨0x40, 0, 1, [⟨19, 17, .rov, 0, .any, false⟩, ⟨16, 0, .rov, 0, .any, false⟩]⟩,
  ⟨0x100, 0, 1, [⟨23, 16, .rw, 80, .any, false⟩, ⟨15, 8, .rw, 64, .any, false⟩, ⟨7, 0, .rw, 16, .any, false⟩]⟩,
  ⟨0x108, 0, 1, [⟨3, 0, .rw, 14, .between 8 14, false⟩]⟩,
  ⟨0x110, 0, 1, [⟨41, 32, .rw, 168, .between 1 720, false⟩, ⟨19, 16, .rw, 8, .between 1 13, false⟩, ⟨15, 0, .rw, 32, .between 1 255, false⟩]⟩,
  ⟨0x118, 0, 1, [⟨15, 0, .rw, 1000, .between 100 10000, false⟩]⟩,
  ⟨0x120, 0, 1, [⟨63, 32, .rov, 0, .any, false⟩, ⟨31, 16, .rov, 0, .any, false⟩, ⟨9, 0, .rov, 0, .any, false⟩]⟩,
  ⟨0x128, 0, 1, [⟨63, 32, .rov, 0, .any, false⟩, ⟨18, 16, .rov, 0, .any, false⟩, ⟨13, 12, .rov, 0, .any, false⟩, ⟨9, 0, .rov, 0, .any, false⟩]⟩,
  ⟨0x130, 0, 1, [⟨52, 32, .rov, 0, .any, false⟩, ⟨31, 0, .rov, 0, .any, false⟩]⟩,
  ⟨0x138, 0, 1, [⟨63, 42, .rov, 0, .any, false⟩, ⟨41, 20, .rov, 0, .any, false⟩, ⟨19, 0, .rov, 0, .any, false⟩]⟩,
  ⟨0x140, 8, 8, [⟨63, 0, .rov, 0, .any, false⟩]⟩,
  ⟨0x180, 0, 1, [⟨19, 17, .rw, 0, .any, false⟩, ⟨16, 0, .rw, 0, .any, false⟩]⟩,
  ⟨0x188, 0, 1, [⟨63, 0, .rov, 0, .any, false⟩]⟩,
  ⟨0x190, 0, 1, [⟨63, 0, .rov, 0, .any, false⟩]⟩,
  ⟨0x198, 0, 1, [⟨63, 32, .rov, 0, .any, false⟩, ⟨31, 16, .rov, 0, .any, false⟩, ⟨15, 0, .rov, 0, .any, false⟩]⟩,
  ⟨0x1A0, 0, 1, [⟨63, 32, .rov, 0, .any, false⟩, ⟨31, 16, .rov, 0, .any, false⟩, ⟨15, 0, .rov, 0, .any, false⟩]⟩]

/-- Block-specific registers of the MAP page. -/
def mapRegs : List RegDef := [
  ⟨0x8, 0, 1, [⟨47, 32, .ro, 2048, .any, false⟩, ⟨31, 24, .ro, 19, .any, false⟩, ⟨19, 16, .ro, 15, .any, false⟩, ⟨15, 8, .ro, 32, .any, false⟩, ⟨7, 0, .ro, 51, .any, false⟩]⟩,
  ⟨0x10, 0, 1, [⟨1, 1, .wo, 0, .any, false⟩, ⟨0, 0, .wo, 0, .any, false⟩]⟩,
  ⟨0x18, 0, 1, [⟨7, 7, .rov, 0, .any, false⟩, ⟨6, 6, .rov, 0, .any, false⟩, ⟨5, 5, .rov, 0, .any, false⟩, ⟨4, 4, .rov, 0, .any, false⟩, ⟨3, 3, .rov, 0, .any, false⟩, ⟨2, 0, .rov, 0, .any, false⟩]⟩,
  ⟨0x20, 0, 1, [⟨15, 15, .w1c, 0, .any, true⟩, ⟨14, 14, .w1c, 0, .any, true⟩, ⟨13, 13, .w1c, 0, .any, true⟩, ⟨12, 12, .w1c, 0, .any, true⟩, ⟨11, 11, .w1c, 0, .any, true⟩, ⟨10, 10, .w1c, 0, .any, true⟩, ⟨9, 9, .w1c, 0, .any, true⟩, ⟨8, 8, .w1c, 0, .any, true⟩, ⟨7, 7, .w1c, 0, .any, true⟩, ⟨6, 6, .w1c, 0, .any, true⟩, ⟨5, 5, .w1c, 0, .any, true⟩, ⟨4, 4, .w1c, 0, .any, true⟩, ⟨3, 3, .w1c, 0, .any, true⟩, ⟨2, 2, .w1c, 0, .any, true⟩, ⟨1, 1, .w1c, 0, .any, true⟩, ⟨0, 0, .w1c, 0, .any, true⟩]⟩,
  ⟨0x38, 0, 1, [⟨23, 16, .rov, 0, .any, false⟩, ⟨12, 8, .rov, 0, .any, false⟩, ⟨7, 0, .rov, 0, .any, false⟩]⟩,
  ⟨0x40, 0, 1, [⟨37, 0, .rov, 0, .any, false⟩]⟩,
  ⟨0x100, 0, 1, [⟨15, 8, .rw, 50, .between 20 90, false⟩, ⟨3, 0, .rw, 4, .between 0 8, false⟩]⟩,
  ⟨0x108, 0, 1, [⟨49, 32, .ro, 131072, .any, false⟩, ⟨17, 0, .rov, 0, .any, false⟩]⟩,
  ⟨0x110, 0, 1, [⟨11, 4, .rw, 8, .between 1 127, false⟩, ⟨0, 0, .rw, 1, .any, false⟩]⟩,
  ⟨0x118, 0, 1, [⟨23, 8, .rw, 10, .between 1 3600, false⟩, ⟨4, 0, .rw, 25, .between 20 26, false⟩]⟩,
  ⟨0x120, 0, 1, [⟨60, 60, .rov, 0, .any, false⟩, ⟨56, 32, .rov, 0, .any, false⟩, ⟨24, 0, .rov, 0, .any, false⟩]⟩,
  ⟨0x128, 0, 1, [⟨63, 0, .rov, 0, .any, false⟩]⟩,
  ⟨0x130, 0, 1, [⟨63, 0, .rov, 0, .any, false⟩]⟩,
  ⟨0x138, 0, 1, [⟨63, 40, .rov, 0, .any, false⟩, ⟨39, 20, .rov, 0, .any, false⟩, ⟨19, 0, .rov, 0, .any, false⟩]⟩,
  ⟨0x140, 0, 1, [⟨63, 32, .rov, 0, .any, false⟩, ⟨31, 8, .rov, 0, .any, false⟩, ⟨6, 0, .rov, 0, .any, false⟩]⟩,
  ⟨0x148, 0, 1, [⟨60, 32, .ro, 0, .any, false⟩, ⟨28, 0, .ro, 0, .any, false⟩]⟩,
  ⟨0x150, 0, 1, [⟨60, 32, .ro, 0, .any, false⟩, ⟨28, 0, .ro, 0, .any, false⟩]⟩,
  ⟨0x158, 0, 1, [⟨63, 32, .rov, 0, .any, false⟩, ⟨15, 0, .rw, 100, .between 16 1024, false⟩]⟩,
  ⟨0x160, 0, 1, [⟨37, 0, .rov, 0, .any, false⟩]⟩,
  ⟨0x168, 0, 1, [⟨63, 48, .rov, 0, .any, false⟩, ⟨47, 32, .rov, 0, .any, false⟩, ⟨31, 0, .rov, 0, .any, false⟩]⟩]

/-- Block-specific registers of the FCH page. -/
def fchRegs : List RegDef := [
  ⟨0x8, 0, 1, [⟨55, 48, .ro, 64, .any, false⟩, ⟨47, 32, .ro, 512, .any, false⟩, ⟨31, 16, .ro, 4096, .any, false⟩, ⟨15, 8, .ro, 4, .any, false⟩, ⟨7, 4, .ro, 15, .any, false⟩, ⟨3, 0, .ro, 4, .any, false⟩]⟩,
  ⟨0x10, 0, 1, [⟨2, 2, .wo, 0, .any, false⟩, ⟨1, 1, .rw, 0, .any, false⟩, ⟨0, 0, .rw, 1, .any, true⟩]⟩,
  ⟨0x18, 0, 1, [⟨31, 16, .rov, 0, .any, false⟩, ⟨7, 5, .rov, 0, .any, false⟩, ⟨3, 3, .rov, 0, .any, false⟩, ⟨2, 2, .rov, 0, .any, false⟩, ⟨1, 0, .rov, 0, .any, false⟩]⟩,
  ⟨0x20, 0, 1, [⟨11, 11, .w1c, 0, .any, true⟩, ⟨10, 10, .w1c, 0, .any, true⟩, ⟨9, 9, .w1c, 0, .any, true⟩, ⟨8, 8, .w1c, 0, .any, true⟩, ⟨7, 7, .w1c, 0, .any, true⟩, ⟨6, 6, .w1c, 0, .any, true⟩, ⟨5, 5, .w1c, 0, .any, true⟩, ⟨4, 4, .w1c, 0, .any, true⟩, ⟨3, 3, .w1c, 0, .any, true⟩, ⟨2, 2, .w1c, 0, .any, true⟩, ⟨1, 1, .w1c, 0, .any, true⟩, ⟨0, 0, .w1c, 0, .any, true⟩]⟩,
  ⟨0x38, 0, 1, [⟨43, 28, .rov, 0, .any, false⟩, ⟨27, 24, .rov, 0, .any, false⟩, ⟨23, 16, .rov, 0, .any, false⟩, ⟨12, 8, .rov, 0, .any, false⟩, ⟨7, 0, .rov, 0, .any, false⟩]⟩,
  ⟨0x40, 0, 1, [⟨45, 38, .rov, 0, .any, false⟩, ⟨37, 0, .rov, 0, .any, false⟩]⟩,
  ⟨0x100, 0, 1, [⟨23, 16, .rw, 75, .between 20 95, true⟩, ⟨7, 0, .rw, 96, .between 16 160, true⟩]⟩,
  ⟨0x108, 0, 1, [⟨41, 32, .rov, 0, .any, false⟩, ⟨20, 0, .rov, 0, .any, false⟩]⟩,
  ⟨0x110, 0, 1, [⟨47, 32, .rw, 65535, .any, true⟩, ⟨31, 16, .rw, 65535, .any, true⟩, ⟨15, 0, .rw, 65535, .any, true⟩]⟩,
  ⟨0x118, 0, 1, [⟨23, 16, .ro, 64, .any, false⟩, ⟨13, 8, .rw, 16, .between 1 32, false⟩, ⟨7, 4, .rw, 2, .between 2 15, false⟩, ⟨0, 0, .rw, 1, .any, false⟩]⟩,
  ⟨0x120, 0, 1, [⟨63, 32, .rw, 0, .any, false⟩, ⟨15, 12, .rov, 0, .any, false⟩, ⟨8, 8, .rov, 0, .any, false⟩, ⟨3, 1, .rw, 0, .any, false⟩, ⟨0, 0, .wo, 0, .any, false⟩]⟩,
  ⟨0x128, 0, 1, [⟨37, 0, .rw, 0, .any, false⟩]⟩,
  ⟨0x130, 0, 1, [⟨63, 32, .rov, 0, .any, false⟩, ⟨31, 16, .rov, 0, .any, false⟩, ⟨15, 0, .rov, 0, .any, false⟩]⟩,
  ⟨0x138, 0, 1, [⟨63, 48, .rov, 0, .any, false⟩, ⟨47, 32, .rov, 0, .any, false⟩, ⟨31, 0, .rw, 1024, .any, false⟩]⟩,
  ⟨0x140, 0, 1, [⟨63, 48, .rov, 0, .any, false⟩, ⟨47, 0, .rov, 0, .any, false⟩]⟩,
  ⟨0x148, 0, 1, [⟨39, 24, .rw, 0, .any, false⟩, ⟨23, 20, .rw, 0, .any, false⟩, ⟨16, 12, .rw, 0, .any, false⟩, ⟨9, 8, .rov, 0, .any, false⟩, ⟨1, 1, .rw, 0, .any, false⟩, ⟨0, 0, .wo, 0, .any, false⟩]⟩,
  ⟨0x150, 0, 1, [⟨63, 0, .rw, 0, .any, false⟩]⟩,
  ⟨0x158, 0, 1, [⟨23, 16, .rov, 0, .any, false⟩, ⟨9, 8, .rov, 0, .any, false⟩, ⟨7, 0, .rw, 0, .any, false⟩]⟩]

/-- Block-specific registers of the SWT page. -/
def swtRegs : List RegDef := [
  ⟨0x8, 0, 1, [⟨15, 8, .ro, 16, .any, false⟩, ⟨2, 0, .ro, 4, .any, false⟩]⟩,
  ⟨0x10, 0, 1, [⟨10, 8, .rw, 0, .between 1 4, false⟩, ⟨2, 2, .rw, 0, .any, false⟩, ⟨1, 1, .wo, 0, .any, false⟩, ⟨0, 0, .wo, 0, .any, false⟩]⟩,
  ⟨0x18, 0, 1, [⟨55, 32, .rov, 0, .any, false⟩, ⟨10, 8, .rov, 0, .any, false⟩, ⟨2, 0, .rov, 0, .any, false⟩]⟩,
  ⟨0x20, 0, 1, [⟨5, 5, .w1c, 0, .any, true⟩, ⟨4, 4, .w1c, 0, .any, true⟩, ⟨3, 3, .w1c, 0, .any, true⟩, ⟨2, 2, .w1c, 0, .any, true⟩, ⟨1, 1, .w1c, 0, .any, true⟩, ⟨0, 0, .w1c, 0, .any, true⟩]⟩,
  ⟨0x38, 0, 1, [⟨23, 16, .rov, 0, .any, false⟩, ⟨11, 8, .rov, 0, .any, false⟩, ⟨7, 0, .rov, 0, .any, false⟩]⟩,
  ⟨0x40, 0, 1, [⟨25, 0, .rov, 0, .any, false⟩]⟩,
  ⟨0x100, 0, 1, [⟨37, 16, .rw, 0, .any, false⟩]⟩]

/-- Block-specific registers of the WRP page. -/
def wrpRegs : List RegDef := [
  ⟨0x8, 0, 1, [⟨31, 24, .ro, 3, .any, false⟩, ⟨23, 16, .ro, 8, .any, false⟩, ⟨15, 8, .ro, 127, .any, false⟩, ⟨7, 0, .ro, 10, .any, false⟩]⟩,
  ⟨0x10, 0, 1, [⟨10, 8, .rw, 0, .any, false⟩, ⟨1, 1, .wo, 0, .any, false⟩, ⟨0, 0, .wo, 0, .any, false⟩]⟩,
  ⟨0x18, 0, 1, [⟨39, 32, .rov, 0, .any, false⟩, ⟨24, 24, .rov, 0, .any, false⟩, ⟨23, 16, .rov, 2, .any, false⟩, ⟨15, 8, .rov, 3, .any, false⟩, ⟨7, 0, .rov, 3, .any, false⟩]⟩,
  ⟨0x20, 0, 1, [⟨7, 7, .w1c, 0, .any, true⟩, ⟨6, 6, .w1c, 0, .any, true⟩, ⟨5, 5, .w1c, 0, .any, true⟩, ⟨4, 4, .w1c, 0, .any, true⟩, ⟨3, 3, .w1c, 0, .any, true⟩, ⟨2, 2, .w1c, 0, .any, true⟩, ⟨1, 1, .w1c, 0, .any, true⟩, ⟨0, 0, .w1c, 0, .any, true⟩]⟩,
  ⟨0x38, 0, 1, [⟨54, 48, .rov, 0, .any, false⟩, ⟨43, 40, .rov, 0, .any, false⟩, ⟨39, 36, .rov, 0, .any, false⟩, ⟨35, 32, .rov, 0, .any, false⟩, ⟨31, 31, .rov, 0, .any, false⟩, ⟨30, 24, .rov, 0, .any, false⟩, ⟨18, 16, .rov, 0, .any, false⟩, ⟨7, 0, .rov, 0, .any, false⟩]⟩,
  ⟨0x40, 0, 1, [⟨37, 0, .rov, 0, .any, false⟩]⟩,
  ⟨0x100, 8, 8, [⟨63, 0, .rw, 0, .any, true⟩]⟩,
  ⟨0x180, 8, 8, [⟨63, 0, .rw, 0, .any, true⟩]⟩,
  ⟨0x200, 8, 8, [⟨63, 0, .rw, 0, .any, true⟩]⟩,
  ⟨0x280, 8, 8, [⟨63, 0, .rw, 0, .any, true⟩]⟩,
  ⟨0x300, 8, 8, [⟨63, 0, .rw, 0, .any, true⟩]⟩,
  ⟨0x380, 8, 8, [⟨63, 0, .rw, 0, .any, true⟩]⟩,
  ⟨0x400, 8, 8, [⟨63, 0, .rw, 0, .any, true⟩]⟩,
  ⟨0x480, 8, 8, [⟨63, 0, .rw, 0, .any, true⟩]⟩,
  ⟨0x140, 8, 8, [⟨63, 0, .rw, 0, .any, true⟩]⟩,
  ⟨0x1C0, 8, 8, [⟨63, 0, .rw, 0, .any, true⟩]⟩,
  ⟨0x240, 8, 8, [⟨63, 0, .rw, 0, .any, true⟩]⟩,
  ⟨0x2C0, 8, 8, [⟨63, 0, .rw, 0, .any, true⟩]⟩,
  ⟨0x340, 8, 8, [⟨63, 0, .rw, 0, .any, true⟩]⟩,
  ⟨0x3C0, 8, 8, [⟨63, 0, .rw, 0, .any, true⟩]⟩,
  ⟨0x440, 8, 8, [⟨63, 0, .rw, 0, .any, true⟩]⟩,
  ⟨0x4C0, 8, 8, [⟨63, 0, .rw, 0, .any, true⟩]⟩,
  ⟨0x500, 0, 1, [⟨31, 0, .rw, 286331153, .nibbles, false⟩]⟩,
  ⟨0x508, 0, 1, [⟨63, 32, .rov, 0, .any, false⟩, ⟨31, 16, .rov, 0, .any, false⟩, ⟨15, 0, .rov, 0, .any, false⟩]⟩]

/-- Block-specific registers of the HST page. -/
def hstRegs : List RegDef := [
  ⟨0x8, 0, 1, [⟨15, 8, .ro, 0, .any, false⟩, ⟨7, 4, .ro, 15, .any, false⟩, ⟨3, 3, .ro, 1, .any, false⟩]⟩,
  ⟨0x10, 0, 1, [⟨11, 8, .rw, 4, .speed, false⟩, ⟨3, 3, .rw, 0, .any, true⟩, ⟨2, 2, .wo, 0, .any, false⟩, ⟨1, 1, .wo, 0, .any, false⟩, ⟨0, 0, .rw, 0, .any, true⟩]⟩,
  ⟨0x18, 0, 1, [⟨19, 16, .rov, 0, .any, false⟩, ⟨15, 12, .rov, 0, .any, false⟩, ⟨11, 8, .rov, 0, .any, false⟩, ⟨7, 7, .rov, 0, .any, false⟩, ⟨6, 6, .rov, 0, .any, false⟩, ⟨5, 5, .rov, 0, .any, false⟩, ⟨4, 4, .rov, 0, .any, false⟩, ⟨3, 3, .rov, 0, .any, false⟩, ⟨1, 1, .ro, 0, .any, false⟩, ⟨0, 0, .ro, 0, .any, false⟩]⟩,
  ⟨0x20, 0, 1, [⟨7, 7, .w1c, 0, .any, true⟩, ⟨6, 6, .w1c, 0, .any, true⟩, ⟨5, 5, .w1c, 0, .any, true⟩, ⟨4, 4, .w1c, 0, .any, true⟩, ⟨3, 3, .w1c, 0, .any, true⟩, ⟨2, 2, .w1c, 0, .any, true⟩, ⟨1, 1, .w1c, 0, .any, true⟩, ⟨0, 0, .w1c, 0, .any, true⟩]⟩,
  ⟨0x38, 0, 1, [⟨23, 16, .rov, 0, .any, false⟩, ⟨7, 0, .rov, 0, .any, false⟩]⟩,
  ⟨0x40, 0, 1, [⟨63, 0, .rov, 0, .any, false⟩]⟩,
  ⟨0x100, 0, 1, [⟨47, 32, .rov, 0, .any, false⟩, ⟨24, 24, .rov, 0, .any, false⟩, ⟨23, 16, .ro, 0, .any, false⟩, ⟨12, 8, .ro, 0, .any, false⟩, ⟨5, 0, .ro, 0, .any, false⟩]⟩,
  ⟨0x108, 0, 1, [⟨63, 48, .rov, 0, .any, false⟩, ⟨47, 32, .rov, 0, .any, false⟩, ⟨31, 0, .rov, 0, .any, false⟩]⟩,
  ⟨0x110, 0, 1, [⟨31, 0, .rw, 256, .any, false⟩]⟩,
  ⟨0x118, 0, 1, [⟨39, 32, .rov, 0, .any, false⟩, ⟨31, 24, .rov, 0, .any, false⟩, ⟨23, 16, .rov, 0, .any, false⟩, ⟨15, 8, .rov, 0, .any, false⟩, ⟨1, 0, .rov, 0, .any, false⟩]⟩,
  ⟨0x120, 0, 1, [⟨23, 16, .rw, 95, .any, false⟩, ⟨15, 8, .rw, 80, .any, false⟩, ⟨7, 0, .rw, 50, .any, false⟩]⟩,
  ⟨0x128, 0, 1, [⟨63, 48, .ro, 0, .any, false⟩, ⟨47, 32, .ro, 0, .any, false⟩, ⟨31, 16, .rov, 0, .any, false⟩, ⟨15, 0, .rov, 0, .any, false⟩]⟩,
  ⟨0x130, 0, 1, [⟨63, 32, .rov, 0, .any, false⟩, ⟨31, 0, .rov, 0, .any, false⟩]⟩,
  ⟨0x138, 0, 1, [⟨31, 16, .rov, 0, .any, false⟩, ⟨5, 5, .rov, 0, .any, false⟩, ⟨4, 4, .rov, 0, .any, false⟩, ⟨2, 2, .rov, 0, .any, false⟩, ⟨1, 0, .rov, 0, .any, false⟩]⟩]

/-- Block-specific registers of the PLY page. -/
def plyRegs : List RegDef := [
  ⟨0x8, 0, 1, [⟨31, 16, .ro, 1024, .any, false⟩, ⟨15, 8, .ro, 6, .any, false⟩, ⟨4, 0, .ro, 16, .any, false⟩]⟩,
  ⟨0x10, 0, 1, [⟨2, 2, .wo, 0, .any, false⟩, ⟨1, 1, .rw, 0, .any, true⟩, ⟨0, 0, .wo, 0, .any, false⟩]⟩,
  ⟨0x18, 0, 1, [⟨47, 32, .rov, 0, .any, false⟩, ⟨20, 16, .rov, 0, .any, false⟩, ⟨7, 7, .rov, 0, .any, false⟩, ⟨6, 6, .rov, 0, .any, false⟩, ⟨5, 5, .rov, 0, .any, false⟩, ⟨4, 4, .ro, 0, .any, false⟩, ⟨1, 0, .rov, 0, .any, false⟩]⟩,
  ⟨0x20, 0, 1, [⟨7, 7, .w1c, 0, .any, true⟩, ⟨6, 6, .w1c, 0, .any, true⟩, ⟨5, 5, .w1c, 0, .any, true⟩, ⟨4, 4, .w1c, 0, .any, true⟩, ⟨3, 3, .w1c, 0, .any, true⟩, ⟨2, 2, .w1c, 0, .any, true⟩, ⟨1, 1, .w1c, 0, .any, true⟩, ⟨0, 0, .w1c, 0, .any, true⟩]⟩,
  ⟨0x38, 0, 1, [⟨39, 32, .rov, 0, .any, false⟩, ⟨27, 24, .rov, 0, .any, false⟩, ⟨21, 8, .rov, 0, .any, false⟩, ⟨7, 0, .rov, 0, .any, false⟩]⟩,
  ⟨0x40, 0, 1, [⟨37, 0, .rov, 0, .any, false⟩]⟩,
  ⟨0x100, 0, 1, [⟨15, 0, .rw, 64, .between 1 1024, false⟩]⟩,
  ⟨0x108, 0, 1, [⟨26, 16, .rw, 128, .any, false⟩, ⟨10, 0, .rw, 640, .any, false⟩]⟩,
  ⟨0x110, 0, 1, [⟨42, 32, .rov, 0, .any, false⟩, ⟨26, 16, .rov, 0, .any, false⟩, ⟨10, 0, .rov, 0, .any, false⟩]⟩,
  ⟨0x118, 0, 1, [⟨63, 63, .rov, 0, .any, false⟩, ⟨52, 48, .rov, 0, .any, false⟩, ⟨45, 32, .rov, 0, .any, false⟩, ⟨16, 0, .rov, 0, .any, false⟩]⟩,
  ⟨0x120, 0, 1, [⟨63, 63, .rov, 0, .any, false⟩, ⟨52, 48, .rov, 0, .any, false⟩, ⟨45, 32, .rov, 0, .any, false⟩, ⟨16, 0, .rov, 0, .any, false⟩]⟩,
  ⟨0x128, 0, 1, [⟨63, 63, .rov, 0, .any, false⟩, ⟨52, 48, .rov, 0, .any, false⟩, ⟨45, 32, .rov, 0, .any, false⟩, ⟨16, 0, .rov, 0, .any, false⟩]⟩,
  ⟨0x130, 0, 1, [⟨16, 0, .rov, 0, .any, false⟩]⟩,
  ⟨0x138, 0, 1, [⟨63, 0, .rov, 0, .any, false⟩]⟩,
  ⟨0x140, 0, 1, [⟨63, 32, .rov, 0, .any, false⟩, ⟨31, 0, .rov, 0, .any, false⟩]⟩,
  ⟨0x148, 0, 1, [⟨63, 32, .rov, 0, .any, false⟩, ⟨31, 16, .rov, 0, .any, false⟩, ⟨15, 0, .rov, 0, .any, false⟩]⟩,
  ⟨0x150, 0, 1, [⟨31, 16, .rov, 0, .any, false⟩, ⟨15, 0, .rov, 0, .any, false⟩]⟩]

/-- Block-specific registers of the PMC page. -/
def pmcRegs : List RegDef := [
  ⟨0x8, 0, 1, [⟨23, 16, .ro, 12, .any, false⟩, ⟨15, 8, .ro, 48, .any, false⟩, ⟨7, 0, .ro, 64, .any, false⟩]⟩,
  ⟨0x10, 0, 1, [⟨3, 3, .rw, 0, .any, false⟩, ⟨2, 2, .rw, 0, .any, false⟩, ⟨1, 1, .rw, 0, .any, false⟩, ⟨0, 0, .wo, 0, .any, false⟩]⟩,
  ⟨0x18, 0, 1, [⟨7, 0, .rov, 0, .any, false⟩]⟩,
  ⟨0x20, 0, 1, [⟨1, 1, .w1c, 0, .any, true⟩, ⟨0, 0, .w1c, 0, .any, true⟩]⟩,
  ⟨0x38, 0, 1, [⟨7, 0, .rov, 0, .any, false⟩]⟩,
  ⟨0x40, 0, 1, [⟨5, 0, .rov, 0, .any, false⟩]⟩,
  ⟨0x100, 0, 1, [⟨63, 0, .w1c, 0, .any, false⟩]⟩,
  ⟨0x200, 8, 64, [⟨31, 31, .rw, 0, .any, false⟩, ⟨30, 30, .rw, 0, .any, false⟩, ⟨29, 29, .rw, 0, .any, false⟩, ⟨28, 28, .rw, 1, .any, false⟩, ⟨26, 20, .rw, 0, .any, false⟩, ⟨11, 0, .rw, 0, .any, false⟩]⟩,
  ⟨0x400, 8, 64, [⟨47, 0, .rw, 0, .any, false⟩]⟩]

/-- Block-specific registers of the SKN page. -/
def sknRegs : List RegDef := [
  ⟨0x800, 0, 1, [⟨10, 8, .rw, 1, .any, true⟩, ⟨2, 0, .rw, 0, .any, true⟩]⟩,
  ⟨0x808, 0, 1, [⟨39, 32, .rov, 0, .any, false⟩, ⟨30, 24, .rov, 0, .any, false⟩, ⟨18, 16, .rov, 0, .any, false⟩, ⟨2, 0, .rov, 0, .any, false⟩]⟩,
  ⟨0x810, 0, 1, [⟨63, 56, .rov, 255, .any, false⟩, ⟨55, 48, .rov, 255, .any, false⟩, ⟨47, 40, .rov, 255, .any, false⟩, ⟨39, 32, .rov, 255, .any, false⟩, ⟨31, 24, .rov, 255, .any, false⟩, ⟨23, 16, .rov, 255, .any, false⟩, ⟨15, 8, .rov, 255, .any, false⟩, ⟨7, 0, .rov, 255, .any, false⟩]⟩,
  ⟨0x818, 0, 1, [⟨63, 32, .rov, 0, .any, false⟩, ⟨31, 16, .rov, 0, .any, false⟩, ⟨15, 0, .rov, 0, .any, false⟩]⟩,
  ⟨0x820, 0, 1, [⟨55, 48, .rov, 0, .any, false⟩, ⟨47, 40, .rov, 0, .any, false⟩, ⟨39, 32, .rov, 0, .any, false⟩, ⟨23, 16, .rov, 0, .any, false⟩, ⟨15, 8, .rov, 0, .any, false⟩, ⟨7, 0, .rov, 0, .any, false⟩]⟩,
  ⟨0x828, 0, 1, [⟨47, 32, .rov, 0, .any, false⟩, ⟨8, 8, .rov, 0, .any, false⟩, ⟨3, 0, .rov, 0, .any, false⟩]⟩,
  ⟨0x830, 0, 1, [⟨63, 32, .rov, 0, .any, false⟩, ⟨15, 8, .rw, 8, .between 4 64, false⟩, ⟨1, 1, .rov, 0, .any, false⟩, ⟨0, 0, .rw, 1, .any, false⟩]⟩,
  ⟨0x8, 0, 1, [⟨15, 8, .ro, 32, .any, false⟩, ⟨7, 4, .ro, 2, .any, false⟩, ⟨3, 0, .ro, 3, .any, false⟩]⟩,
  ⟨0x10, 0, 1, [⟨5, 4, .rw, 2, .version, false⟩, ⟨3, 3, .wo, 0, .any, false⟩, ⟨2, 2, .wo, 0, .any, false⟩, ⟨1, 1, .wo, 0, .any, false⟩, ⟨0, 0, .wo, 0, .any, false⟩]⟩,
  ⟨0x18, 0, 1, [⟨23, 20, .rov, 0, .any, false⟩, ⟨17, 16, .rov, 0, .any, false⟩, ⟨10, 8, .rov, 0, .any, false⟩, ⟨4, 0, .rov, 0, .any, false⟩]⟩,
  ⟨0x20, 0, 1, [⟨14, 14, .w1c, 0, .any, true⟩, ⟨13, 13, .w1c, 0, .any, true⟩, ⟨12, 12, .w1c, 0, .any, true⟩, ⟨11, 11, .w1c, 0, .any, true⟩, ⟨10, 10, .w1c, 0, .any, true⟩, ⟨9, 9, .w1c, 0, .any, true⟩, ⟨8, 8, .w1c, 0, .any, true⟩, ⟨6, 6, .w1c, 0, .any, true⟩, ⟨5, 5, .w1c, 0, .any, true⟩, ⟨4, 4, .w1c, 0, .any, true⟩, ⟨3, 3, .w1c, 0, .any, true⟩, ⟨2, 2, .w1c, 0, .any, true⟩, ⟨1, 1, .w1c, 0, .any, true⟩, ⟨0, 0, .w1c, 0, .any, true⟩]⟩,
  ⟨0x38, 0, 1, [⟨47, 32, .rov, 0, .any, false⟩, ⟨20, 16, .rov, 0, .any, false⟩, ⟨14, 8, .rov, 0, .any, false⟩, ⟨7, 0, .rov, 0, .any, false⟩]⟩,
  ⟨0x40, 0, 1, [⟨30, 0, .rov, 0, .any, false⟩]⟩,
  ⟨0x100, 0, 1, [⟨63, 48, .rov, 0, .any, false⟩, ⟨47, 40, .rov, 0, .any, false⟩, ⟨39, 32, .rov, 0, .any, false⟩, ⟨31, 16, .rov, 0, .any, false⟩, ⟨7, 0, .rov, 1, .any, false⟩]⟩,
  ⟨0x108, 0, 1, [⟨39, 32, .rw, 8, .between 2 64, false⟩, ⟨31, 0, .rw, 64, .any, false⟩]⟩,
  ⟨0x110, 0, 1, [⟨63, 48, .rov, 0, .any, false⟩, ⟨47, 32, .rov, 0, .any, false⟩, ⟨31, 16, .rov, 0, .any, false⟩, ⟨15, 0, .rov, 0, .any, false⟩]⟩,
  ⟨0x118, 0, 1, [⟨63, 63, .rov, 0, .any, false⟩, ⟨51, 48, .rov, 0, .any, false⟩, ⟨41, 40, .rov, 0, .any, false⟩, ⟨39, 32, .rov, 0, .any, false⟩, ⟨15, 0, .rov, 0, .any, false⟩]⟩,
  ⟨0x120, 0, 1, [⟨15, 12, .rov, 0, .any, false⟩, ⟨11, 8, .rov, 0, .any, false⟩, ⟨7, 4, .rov, 0, .any, false⟩, ⟨3, 0, .rov, 0, .any, false⟩]⟩]

/-- The registers of a block's page beside the common ones. -/
def Block.regs : Block → List RegDef
  | .top => topRegs
  | .pwr => pwrRegs
  | .thm => thmRegs
  | .hkp => hkpRegs
  | .ntn => ntnRegs
  | .evr => evrRegs
  | .fwu => fwuRegs
  | .kve => kveRegs
  | .flt => fltRegs
  | .epo => epoRegs
  | .cry => cryRegs
  | .upk => upkRegs
  | .map => mapRegs
  | .fch => fchRegs
  | .swt => swtRegs
  | .wrp => wrpRegs
  | .hst => hstRegs
  | .ply => plyRegs
  | .pmc => pmcRegs
  | .skn => sknRegs

/-- A named field of the control BAR: its register's offset and its bits. -/
structure Fld where
  off : Nat
  hi : Nat
  lo : Nat
deriving DecidableEq, Repr

namespace F
/-- HST_CAP.MAX_WIDTH (02_host_ports.md, Table 2-13): Lanes in this head, by HBIF. -/
def hstCapMaxWidth (h : Nat) : Fld := ⟨0x10008 + h * 0x1000, 15, 8⟩
/-- HST_CAP.SPEEDS (02_host_ports.md, Table 2-13): bit 0: 8 GT/s; bit 1: 16; bit 2: 32; bit 3: 64. -/
def hstCapSpeeds (h : Nat) : Fld := ⟨0x10008 + h * 0x1000, 7, 4⟩
/-- HST_CAP.IDE (02_host_ports.md, Table 2-13): IDE supported. -/
def hstCapIde (h : Nat) : Fld := ⟨0x10008 + h * 0x1000, 3, 3⟩
/-- HST_CTL.MAX_SPEED (02_host_ports.md, Table 2-14): 1: 8, 2: 16, 3: 32, 4: 64 GT/s. Other values act as 0x4. -/
def hstCtlMaxSpeed (h : Nat) : Fld := ⟨0x10010 + h * 0x1000, 11, 8⟩
/-- HST_CTL.RO_MGMT (02_host_ports.md, Table 2-14): Management read-only for this head; a write of 0 from this head is ignored. -/
def hstCtlRoMgmt (h : Nat) : Fld := ⟨0x10010 + h * 0x1000, 3, 3⟩
/-- HST_CTL.CNT_CLR (02_host_ports.md, Table 2-14): 1 clears HST_LINKERR and HST_EXTERR_CNT. -/
def hstCtlCntClr (h : Nat) : Fld := ⟨0x10010 + h * 0x1000, 2, 2⟩
/-- HST_CTL.RETRAIN (02_host_ports.md, Table 2-14): 1 retrains the link. -/
def hstCtlRetrain (h : Nat) : Fld := ⟨0x10010 + h * 0x1000, 1, 1⟩
/-- HST_CTL.DISABLE (02_host_ports.md, Table 2-14): 1 holds the link in Detect.Quiet. -/
def hstCtlDisable (h : Nat) : Fld := ⟨0x10010 + h * 0x1000, 0, 0⟩
/-- HST_STS.LINK_STATE (02_host_ports.md, Table 2-15): 0: OFF, 1: DETECT, 2: TRAINING, 3: ACTIVE, 4: RECOVERY, 5: D3. -/
def hstStsLinkState (h : Nat) : Fld := ⟨0x10018 + h * 0x1000, 19, 16⟩
/-- HST_STS.WIDTH (02_host_ports.md, Table 2-15): 0: none, 1: x1, 2: x2, 3: x4, 4: x8, 5: x16. -/
def hstStsWidth (h : Nat) : Fld := ⟨0x10018 + h * 0x1000, 15, 12⟩
/-- HST_STS.SPEED (02_host_ports.md, Table 2-15): 0: none, else as MAX_SPEED. -/
def hstStsSpeed (h : Nat) : Fld := ⟨0x10018 + h * 0x1000, 11, 8⟩
/-- HST_STS.FLIT256 (02_host_ports.md, Table 2-15): 256-byte flit in use. -/
def hstStsFlit256 (h : Nat) : Fld := ⟨0x10018 + h * 0x1000, 7, 7⟩
/-- HST_STS.IDE_MEM (02_host_ports.md, Table 2-15): CXL.mem IDE active. -/
def hstStsIdeMem (h : Nat) : Fld := ⟨0x10018 + h * 0x1000, 6, 6⟩
/-- HST_STS.IDE_IO (02_host_ports.md, Table 2-15): CXL.io IDE active. -/
def hstStsIdeIo (h : Nat) : Fld := ⟨0x10018 + h * 0x1000, 5, 5⟩
/-- HST_STS.MEM_ACTIVE (02_host_ports.md, Table 2-15): Mirrors Memory_Active. -/
def hstStsMemActive (h : Nat) : Fld := ⟨0x10018 + h * 0x1000, 4, 4⟩
/-- HST_STS.GPF_BUSY (02_host_ports.md, Table 2-15): A GPF flush is running. -/
def hstStsGpfBusy (h : Nat) : Fld := ⟨0x10018 + h * 0x1000, 3, 3⟩
/-- HST_STS.X8_MODE (02_host_ports.md, Table 2-15): 1: 8 × x8. -/
def hstStsX8Mode (h : Nat) : Fld := ⟨0x10018 + h * 0x1000, 1, 1⟩
/-- HST_STS.PRESENT (02_host_ports.md, Table 2-15): Head exists in this arrangement. -/
def hstStsPresent (h : Nat) : Fld := ⟨0x10018 + h * 0x1000, 0, 0⟩
/-- HST_ERR_INFO.OPCODE (02_host_ports.md, Table 2-17): CXL.mem opcode of the last captured request. -/
def hstErrInfoOpcode (h : Nat) : Fld := ⟨0x10038 + h * 0x1000, 23, 16⟩
/-- HST_ERR_INFO.CAUSE (02_host_ports.md, Table 2-17): Event bit number k of the last captured error. -/
def hstErrInfoCause (h : Nat) : Fld := ⟨0x10038 + h * 0x1000, 7, 0⟩
/-- HST_ERR_ADDR.DPA (02_host_ports.md, Table 2-17): DPA of the captured outside-extent, poisoned-write or protocol error; 0 after the capture of any other event (R557). -/
def hstErrAddrDpa (h : Nat) : Fld := ⟨0x10040 + h * 0x1000, 63, 0⟩
/-- HST_LANES.POLARITY (02_host_ports.md, Table 2-18): Per lane, 1: inverted. -/
def hstLanesPolarity (h : Nat) : Fld := ⟨0x10100 + h * 0x1000, 47, 32⟩
/-- HST_LANES.REVERSED (02_host_ports.md, Table 2-18): Lane reversal in use. -/
def hstLanesReversed (h : Nat) : Fld := ⟨0x10100 + h * 0x1000, 24, 24⟩
/-- HST_LANES.PORT_CORES (02_host_ports.md, Table 2-18): Mask of port cores serving the head. -/
def hstLanesPortCores (h : Nat) : Fld := ⟨0x10100 + h * 0x1000, 23, 16⟩
/-- HST_LANES.LANE_COUNT (02_host_ports.md, Table 2-18): Lanes. -/
def hstLanesLaneCount (h : Nat) : Fld := ⟨0x10100 + h * 0x1000, 12, 8⟩
/-- HST_LANES.FIRST_LANE (02_host_ports.md, Table 2-18): First lane. -/
def hstLanesFirstLane (h : Nat) : Fld := ⟨0x10100 + h * 0x1000, 5, 0⟩
/-- HST_LINKERR.DOWN_COUNT (02_host_ports.md, Table 2-19): Link-down events, saturating. -/
def hstLinkerrDownCount (h : Nat) : Fld := ⟨0x10108 + h * 0x1000, 63, 48⟩
/-- HST_LINKERR.RECOVERY_COUNT (02_host_ports.md, Table 2-19): Recovery entries, saturating. -/
def hstLinkerrRecoveryCount (h : Nat) : Fld := ⟨0x10108 + h * 0x1000, 47, 32⟩
/-- HST_LINKERR.CORR_COUNT (02_host_ports.md, Table 2-19): Correctable errors, saturating. -/
def hstLinkerrCorrCount (h : Nat) : Fld := ⟨0x10108 + h * 0x1000, 31, 0⟩
/-- HST_LINKERR_CFG.CORR_THRESH (02_host_ports.md, Table 2-19): Correctable errors per 1 s window that raise CORR_THRESH. -/
def hstLinkerrCfgCorrThresh (h : Nat) : Fld := ⟨0x10110 + h * 0x1000, 31, 0⟩
/-- HST_DEVLOAD.BACKPRESSURE_PCT (02_host_ports.md, Table 2-20): Egress backpressure, %. -/
def hstDevloadBackpressurePct (h : Nat) : Fld := ⟨0x10118 + h * 0x1000, 39, 32⟩
/-- HST_DEVLOAD.READ_PCT (02_host_ports.md, Table 2-20): Outstanding reads against limit, %. -/
def hstDevloadReadPct (h : Nat) : Fld := ⟨0x10118 + h * 0x1000, 31, 24⟩
/-- HST_DEVLOAD.DIRTY_PCT (02_host_ports.md, Table 2-20): Dirty bytes against dirty limit, %. -/
def hstDevloadDirtyPct (h : Nat) : Fld := ⟨0x10118 + h * 0x1000, 23, 16⟩
/-- HST_DEVLOAD.LOAD_PCT (02_host_ports.md, Table 2-20): Larger of READ_PCT and DIRTY_PCT. -/
def hstDevloadLoadPct (h : Nat) : Fld := ⟨0x10118 + h * 0x1000, 15, 8⟩
/-- HST_DEVLOAD.DEVLOAD (02_host_ports.md, Table 2-20): 0: Light, 1: Optimal, 2: Moderate, 3: Severe. -/
def hstDevloadDevload (h : Nat) : Fld := ⟨0x10118 + h * 0x1000, 1, 0⟩
/-- HST_DEVLOAD_CFG.MODERATE_MAX (02_host_ports.md, Table 2-20): %. -/
def hstDevloadCfgModerateMax (h : Nat) : Fld := ⟨0x10120 + h * 0x1000, 23, 16⟩
/-- HST_DEVLOAD_CFG.OPTIMAL_MAX (02_host_ports.md, Table 2-20): %. -/
def hstDevloadCfgOptimalMax (h : Nat) : Fld := ⟨0x10120 + h * 0x1000, 15, 8⟩
/-- HST_DEVLOAD_CFG.LIGHT_MAX (02_host_ports.md, Table 2-20): %. -/
def hstDevloadCfgLightMax (h : Nat) : Fld := ⟨0x10120 + h * 0x1000, 7, 0⟩
/-- HST_OUTSTANDING.WRITE_LIMIT (02_host_ports.md, Table 2-21): Outstanding writes accepted, x16 or x8. -/
def hstOutstandingWriteLimit (h : Nat) : Fld := ⟨0x10128 + h * 0x1000, 63, 48⟩
/-- HST_OUTSTANDING.READ_LIMIT (02_host_ports.md, Table 2-21): Outstanding reads accepted, x16 or x8. -/
def hstOutstandingReadLimit (h : Nat) : Fld := ⟨0x10128 + h * 0x1000, 47, 32⟩
/-- HST_OUTSTANDING.WRITES (02_host_ports.md, Table 2-21): Writes outstanding now. -/
def hstOutstandingWrites (h : Nat) : Fld := ⟨0x10128 + h * 0x1000, 31, 16⟩
/-- HST_OUTSTANDING.READS (02_host_ports.md, Table 2-21): Reads outstanding now. -/
def hstOutstandingReads (h : Nat) : Fld := ⟨0x10128 + h * 0x1000, 15, 0⟩
/-- HST_EXTERR_CNT.POISON_RX (02_host_ports.md, Table 2-21): Poisoned writes received, saturating. -/
def hstExterrCntPoisonRx (h : Nat) : Fld := ⟨0x10130 + h * 0x1000, 63, 32⟩
/-- HST_EXTERR_CNT.OUTSIDE_EXTENT (02_host_ports.md, Table 2-21): Outside-extent accesses, saturating. -/
def hstExterrCntOutsideExtent (h : Nat) : Fld := ⟨0x10130 + h * 0x1000, 31, 0⟩
/-- HST_IDE.FAIL_COUNT (02_host_ports.md, Table 2-22): IDE integrity failures, saturating. -/
def hstIdeFailCount (h : Nat) : Fld := ⟨0x10138 + h * 0x1000, 31, 16⟩
/-- HST_IDE.IO_SEL (02_host_ports.md, Table 2-22): CXL.io selective stream active. -/
def hstIdeIoSel (h : Nat) : Fld := ⟨0x10138 + h * 0x1000, 5, 5⟩
/-- HST_IDE.IO_LINK (02_host_ports.md, Table 2-22): CXL.io link stream active. -/
def hstIdeIoLink (h : Nat) : Fld := ⟨0x10138 + h * 0x1000, 4, 4⟩
/-- HST_IDE.MEM_KEYS (02_host_ports.md, Table 2-22): CXL.mem keys programmed. -/
def hstIdeMemKeys (h : Nat) : Fld := ⟨0x10138 + h * 0x1000, 2, 2⟩
/-- HST_IDE.MEM_MODE (02_host_ports.md, Table 2-22): 0: off, 1: skid, 2: containment. -/
def hstIdeMemMode (h : Nat) : Fld := ⟨0x10138 + h * 0x1000, 1, 0⟩
/-- FCH_CAP.PF_TRACKERS (03_front_cache.md, Table 3-8): Stream trackers. -/
def fchCapPfTrackers : Fld := ⟨0xD008, 55, 48⟩
/-- FCH_CAP.VICTIM_LINES (03_front_cache.md, Table 3-8): Victim cache lines. -/
def fchCapVictimLines : Fld := ⟨0xD008, 47, 32⟩
/-- FCH_CAP.MSHR_ENTRIES (03_front_cache.md, Table 3-8): Miss-status entries. -/
def fchCapMshrEntries : Fld := ⟨0xD008, 31, 16⟩
/-- FCH_CAP.SPARE_BANKS (03_front_cache.md, Table 3-8): Spare data banks per bank group. -/
def fchCapSpareBanks : Fld := ⟨0xD008, 15, 8⟩
/-- FCH_CAP.WAYS_M1 (03_front_cache.md, Table 3-8): Ways minus 1. -/
def fchCapWaysM1 : Fld := ⟨0xD008, 7, 4⟩
/-- FCH_CAP.SWATCH_MAX_WAYS (03_front_cache.md, Table 3-8): Ways that can be carved. -/
def fchCapSwatchMaxWays : Fld := ⟨0xD008, 3, 0⟩
/-- FCH_CTL.CNT_CLR (03_front_cache.md, Table 3-9): 1 clears FCH_ECC_CNT and the counters in FCH_ECC_CFG. -/
def fchCtlCntClr : Fld := ⟨0xD010, 2, 2⟩
/-- FCH_CTL.DIAG_EN (03_front_cache.md, Table 3-9): Allows diagnostic accesses. -/
def fchCtlDiagEn : Fld := ⟨0xD010, 1, 1⟩
/-- FCH_CTL.ENABLE (03_front_cache.md, Table 3-9): Front cache on; the value is restored from settings at power-up. -/
def fchCtlEnable : Fld := ⟨0xD010, 0, 0⟩
/-- FCH_STS.WAY_EMPTY (03_front_cache.md, Table 3-9): Per way: in no mask and holding no valid line. -/
def fchStsWayEmpty : Fld := ⟨0xD018, 31, 16⟩
/-- FCH_STS.SWATCH_WAYS (03_front_cache.md, Table 3-9): Ways carved. -/
def fchStsSwatchWays : Fld := ⟨0xD018, 7, 5⟩
/-- FCH_STS.MAINT_BUSY (03_front_cache.md, Table 3-9): Mirrors FCH_MAINT_CTL.BUSY. -/
def fchStsMaintBusy : Fld := ⟨0xD018, 3, 3⟩
/-- FCH_STS.AT_DIRTY_LIMIT (03_front_cache.md, Table 3-9): Dirty count at or above the limit. -/
def fchStsAtDirtyLimit : Fld := ⟨0xD018, 2, 2⟩
/-- FCH_STS.STATE (03_front_cache.md, Table 3-9): 0: OFF, 1: ENABLING, 2: ON, 3: DRAINING. -/
def fchStsState : Fld := ⟨0xD018, 1, 0⟩
/-- FCH_ERR_INFO.SET (03_front_cache.md, Table 3-11): Set of the last captured error. -/
def fchErrInfoSet : Fld := ⟨0xD038, 43, 28⟩
/-- FCH_ERR_INFO.WAY (03_front_cache.md, Table 3-11): Way. -/
def fchErrInfoWay : Fld := ⟨0xD038, 27, 24⟩
/-- FCH_ERR_INFO.SYNDROME (03_front_cache.md, Table 3-11): Check syndrome. -/
def fchErrInfoSyndrome : Fld := ⟨0xD038, 23, 16⟩
/-- FCH_ERR_INFO.WORD (03_front_cache.md, Table 3-11): Word within the line, 0 to 31. -/
def fchErrInfoWord : Fld := ⟨0xD038, 12, 8⟩
/-- FCH_ERR_INFO.CAUSE (03_front_cache.md, Table 3-11): Event bit number k. -/
def fchErrInfoCause : Fld := ⟨0xD038, 7, 0⟩
/-- FCH_ERR_ADDR.DOMAIN (03_front_cache.md, Table 3-11): Domain. -/
def fchErrAddrDomain : Fld := ⟨0xD040, 45, 38⟩
/-- FCH_ERR_ADDR.LINE (03_front_cache.md, Table 3-11): Logical line index. -/
def fchErrAddrLine : Fld := ⟨0xD040, 37, 0⟩
/-- FCH_DIRTY_CFG.CLEAN_PCT (03_front_cache.md, Table 3-12): Cleaner start, % of limit; 20 to 95, other writes ignored. -/
def fchDirtyCfgCleanPct : Fld := ⟨0xD100, 23, 16⟩
/-- FCH_DIRTY_CFG.LIMIT_MIB (03_front_cache.md, Table 3-12): Dirty limit, MiB; 16 to 160. -/
def fchDirtyCfgLimitMib : Fld := ⟨0xD100, 7, 0⟩
/-- FCH_DIRTY_CNT.VICTIM_DIRTY (03_front_cache.md, Table 3-12): Dirty lines in the victim cache. -/
def fchDirtyCntVictimDirty : Fld := ⟨0xD108, 41, 32⟩
/-- FCH_DIRTY_CNT.DIRTY_LINES (03_front_cache.md, Table 3-12): Dirty lines, main array and victim cache. -/
def fchDirtyCntDirtyLines : Fld := ⟨0xD108, 20, 0⟩
/-- FCH_WAYMASK.PF (03_front_cache.md, Table 3-13): Ways for promotion from the side buffer. -/
def fchWaymaskPf : Fld := ⟨0xD110, 47, 32⟩
/-- FCH_WAYMASK.WR (03_front_cache.md, Table 3-13): Ways for write allocation. -/
def fchWaymaskWr : Fld := ⟨0xD110, 31, 16⟩
/-- FCH_WAYMASK.RD (03_front_cache.md, Table 3-13): Ways for read fills. -/
def fchWaymaskRd : Fld := ⟨0xD110, 15, 0⟩
/-- FCH_PF_CTL.WARMUP (03_front_cache.md, Table 3-13): Matching misses before a tracker's first stream after power-up. -/
def fchPfCtlWarmup : Fld := ⟨0xD118, 23, 16⟩
/-- FCH_PF_CTL.DEPTH (03_front_cache.md, Table 3-13): Lines ahead, 1 to 32; other writes ignored. -/
def fchPfCtlDepth : Fld := ⟨0xD118, 13, 8⟩
/-- FCH_PF_CTL.TRAIN (03_front_cache.md, Table 3-13): Matching misses to activate, 2 to 15. -/
def fchPfCtlTrain : Fld := ⟨0xD118, 7, 4⟩
/-- FCH_PF_CTL.ENABLE (03_front_cache.md, Table 3-13): Prefetch on. -/
def fchPfCtlEnable : Fld := ⟨0xD118, 0, 0⟩
/-- FCH_MAINT_CTL.COUNT (03_front_cache.md, Table 3-14): Lines in the range. -/
def fchMaintCtlCount : Fld := ⟨0xD120, 63, 32⟩
/-- FCH_MAINT_CTL.RESULT (03_front_cache.md, Table 3-14): 0: done, 1: refused. -/
def fchMaintCtlResult : Fld := ⟨0xD120, 15, 12⟩
/-- FCH_MAINT_CTL.BUSY (03_front_cache.md, Table 3-14): Operation running. -/
def fchMaintCtlBusy : Fld := ⟨0xD120, 8, 8⟩
/-- FCH_MAINT_CTL.OP (03_front_cache.md, Table 3-14): As Table 3-5. -/
def fchMaintCtlOp : Fld := ⟨0xD120, 3, 1⟩
/-- FCH_MAINT_CTL.GO (03_front_cache.md, Table 3-14): 1 starts the operation. -/
def fchMaintCtlGo : Fld := ⟨0xD120, 0, 0⟩
/-- FCH_MAINT_ADDR.LINE (03_front_cache.md, Table 3-14): First host logical line index. -/
def fchMaintAddrLine : Fld := ⟨0xD128, 37, 0⟩
/-- FCH_ECC_CNT.CORR (03_front_cache.md, Table 3-14): Corrected words, saturating. -/
def fchEccCntCorr : Fld := ⟨0xD130, 63, 32⟩
/-- FCH_ECC_CNT.UNCORR_CLEAN (03_front_cache.md, Table 3-14): Saturating. -/
def fchEccCntUncorrClean : Fld := ⟨0xD130, 31, 16⟩
/-- FCH_ECC_CNT.TAG_PARITY (03_front_cache.md, Table 3-14): Saturating. -/
def fchEccCntTagParity : Fld := ⟨0xD130, 15, 0⟩
/-- FCH_ECC_CFG.ECHO_UNCORR (03_front_cache.md, Table 3-14): Saturating. -/
def fchEccCfgEchoUncorr : Fld := ⟨0xD138, 63, 48⟩
/-- FCH_ECC_CFG.UNCORR_DIRTY (03_front_cache.md, Table 3-14): Saturating. -/
def fchEccCfgUncorrDirty : Fld := ⟨0xD138, 47, 32⟩
/-- FCH_ECC_CFG.CORR_THRESH (03_front_cache.md, Table 3-14): Correctable errors per 1 s window that raise CORR_THRESH. -/
def fchEccCfgCorrThresh : Fld := ⟨0xD138, 31, 0⟩
/-- FCH_SPARE_STS.FOLDED (03_front_cache.md, Table 3-14): Per bank group: folded. -/
def fchSpareStsFolded : Fld := ⟨0xD140, 63, 48⟩
/-- FCH_SPARE_STS.SPARES_USED (03_front_cache.md, Table 3-14): 3 bits per bank group g at [3g+2:3g]: 0 to 4 spares used; 5: spares exhausted with an unspared failure. -/
def fchSpareStsSparesUsed : Fld := ⟨0xD140, 47, 0⟩
/-- FCH_DIAG_CTL.SET (03_front_cache.md, Table 3-15): Target set. -/
def fchDiagCtlSet : Fld := ⟨0xD148, 39, 24⟩
/-- FCH_DIAG_CTL.WAY (03_front_cache.md, Table 3-15): Target way. -/
def fchDiagCtlWay : Fld := ⟨0xD148, 23, 20⟩
/-- FCH_DIAG_CTL.WORD (03_front_cache.md, Table 3-15): Word within the line. -/
def fchDiagCtlWord : Fld := ⟨0xD148, 16, 12⟩
/-- FCH_DIAG_CTL.STATUS (03_front_cache.md, Table 3-15): 0: done, 1: refused. -/
def fchDiagCtlStatus : Fld := ⟨0xD148, 9, 8⟩
/-- FCH_DIAG_CTL.OP (03_front_cache.md, Table 3-15): 0: read, 1: write. -/
def fchDiagCtlOp : Fld := ⟨0xD148, 1, 1⟩
/-- FCH_DIAG_CTL.GO (03_front_cache.md, Table 3-15): 1 performs the access. -/
def fchDiagCtlGo : Fld := ⟨0xD148, 0, 0⟩
/-- FCH_DIAG_DATA.DATA (03_front_cache.md, Table 3-15): Data written, or raw data read. -/
def fchDiagDataData : Fld := ⟨0xD150, 63, 0⟩
/-- FCH_DIAG_CHK.SYNDROME (03_front_cache.md, Table 3-15): Syndrome of the last diagnostic read. -/
def fchDiagChkSyndrome : Fld := ⟨0xD158, 23, 16⟩
/-- FCH_DIAG_CHK.RESULT (03_front_cache.md, Table 3-15): 0: clean, 1: correctable, 2: uncorrectable. -/
def fchDiagChkResult : Fld := ⟨0xD158, 9, 8⟩
/-- FCH_DIAG_CHK.CHK (03_front_cache.md, Table 3-15): Check bits written, or raw check bits read. -/
def fchDiagChkChk : Fld := ⟨0xD158, 7, 0⟩
/-- SWT_CAP.WAY_MIB (03_front_cache.md, Table 3-16): Size of one way, MiB. -/
def swtCapWayMib : Fld := ⟨0xE008, 15, 8⟩
/-- SWT_CAP.MAX_WAYS (03_front_cache.md, Table 3-16): Largest window. -/
def swtCapMaxWays : Fld := ⟨0xE008, 2, 0⟩
/-- SWT_CTL.WAYS (03_front_cache.md, Table 3-16): Ways to carve, 1 to 4. -/
def swtCtlWays : Fld := ⟨0xE010, 10, 8⟩
/-- SWT_CTL.KEEP (03_front_cache.md, Table 3-16): At release, 1 writes the lines to media and 0 unmaps them. -/
def swtCtlKeep : Fld := ⟨0xE010, 2, 2⟩
/-- SWT_CTL.RELEASE (03_front_cache.md, Table 3-16): 1 starts a release. -/
def swtCtlRelease : Fld := ⟨0xE010, 1, 1⟩
/-- SWT_CTL.CARVE (03_front_cache.md, Table 3-16): 1 starts a carve. -/
def swtCtlCarve : Fld := ⟨0xE010, 0, 0⟩
/-- SWT_STS.UNWRITTEN_WORDS (03_front_cache.md, Table 3-16): Words in state UNWRITTEN. -/
def swtStsUnwrittenWords : Fld := ⟨0xE018, 55, 32⟩
/-- SWT_STS.WAYS (03_front_cache.md, Table 3-16): Ways carved. -/
def swtStsWays : Fld := ⟨0xE018, 10, 8⟩
/-- SWT_STS.STATE (03_front_cache.md, Table 3-16): 0: NONE, 1: CARVING, 2: ACTIVE, 3: RELEASING, 4: RESTORING. -/
def swtStsState : Fld := ⟨0xE018, 2, 0⟩
/-- SWT_ERR_INFO.SYNDROME (03_front_cache.md, Table 3-18): Check syndrome of the last UNCORR. -/
def swtErrInfoSyndrome : Fld := ⟨0xE038, 23, 16⟩
/-- SWT_ERR_INFO.REFUSE_WHY (03_front_cache.md, Table 3-18): For REFUSED: 1 state (a carve outside NONE, or a release outside ACTIVE), 2 front cache not ON, 3 WAYS, 4 alignment, 5 extent, 6 epoch enable, 7 empty WR mask. -/
def swtErrInfoRefuseWhy : Fld := ⟨0xE038, 11, 8⟩
/-- SWT_ERR_INFO.CAUSE (03_front_cache.md, Table 3-18): Event bit number k. -/
def swtErrInfoCause : Fld := ⟨0xE038, 7, 0⟩
/-- SWT_ERR_ADDR.OFFSET (03_front_cache.md, Table 3-18): Byte offset in the window of the word concerned. -/
def swtErrAddrOffset : Fld := ⟨0xE040, 25, 0⟩
/-- SWT_BASE.BASE (03_front_cache.md, Table 3-18): First host logical line index, bits [37:16]; read-only while STATE is not NONE. -/
def swtBaseBase : Fld := ⟨0xE100, 37, 16⟩
/-- MAP_CAP.MSHR_ENTRIES (04_line_map.md, Table 4-13): Map-cache miss-status entries. -/
def mapCapMshrEntries : Fld := ⟨0xC008, 47, 32⟩
/-- MAP_CAP.SLOTS_LOG2 (04_line_map.md, Table 4-13): log2 of map-cache slots. -/
def mapCapSlotsLog2 : Fld := ⟨0xC008, 31, 24⟩
/-- MAP_CAP.WAYS_M1 (04_line_map.md, Table 4-13): Ways minus 1. -/
def mapCapWaysM1 : Fld := ⟨0xC008, 19, 16⟩
/-- MAP_CAP.ENTRIES_PER_LINE (04_line_map.md, Table 4-13): Map entries per map line. -/
def mapCapEntriesPerLine : Fld := ⟨0xC008, 15, 8⟩
/-- MAP_CAP.DIR_PER_LINE (04_line_map.md, Table 4-13): Directory entries per directory line. -/
def mapCapDirPerLine : Fld := ⟨0xC008, 7, 0⟩
/-- MAP_CTL.CNT_CLR (04_line_map.md, Table 4-13): 1 clears MAP_ERR_CNT. -/
def mapCtlCntClr : Fld := ⟨0xC010, 1, 1⟩
/-- MAP_CTL.CKPT_NOW (04_line_map.md, Table 4-13): 1 starts a checkpoint; ignored while CKPT_BUSY is 1. -/
def mapCtlCkptNow : Fld := ⟨0xC010, 0, 0⟩
/-- MAP_STS.AT_DIRTY_LIMIT (04_line_map.md, Table 4-13): Map-cache dirty count at the limit. -/
def mapStsAtDirtyLimit : Fld := ⟨0xC018, 7, 7⟩
/-- MAP_STS.SANITIZING (04_line_map.md, Table 4-13): Sanitize map steps running. -/
def mapStsSanitizing : Fld := ⟨0xC018, 6, 6⟩
/-- MAP_STS.UNMAP_BUSY (04_line_map.md, Table 4-13): Background unmap running. -/
def mapStsUnmapBusy : Fld := ⟨0xC018, 5, 5⟩
/-- MAP_STS.CKPT_BUSY (04_line_map.md, Table 4-13): Checkpoint running. -/
def mapStsCkptBusy : Fld := ⟨0xC018, 4, 4⟩
/-- MAP_STS.LAST_DIRTY (04_line_map.md, Table 4-13): 1: last recovery was dirty. -/
def mapStsLastDirty : Fld := ⟨0xC018, 3, 3⟩
/-- MAP_STS.STATE (04_line_map.md, Table 4-13): As Table 4-11. -/
def mapStsState : Fld := ⟨0xC018, 2, 0⟩
/-- MAP_ERR_INFO.SYNDROME (04_line_map.md, Table 4-15): SECDED syndrome, for CACHE_UNCORR. -/
def mapErrInfoSyndrome : Fld := ⟨0xC038, 23, 16⟩
/-- MAP_ERR_INFO.WORD (04_line_map.md, Table 4-15): Word within the line. -/
def mapErrInfoWord : Fld := ⟨0xC038, 12, 8⟩
/-- MAP_ERR_INFO.CAUSE (04_line_map.md, Table 4-15): Event bit number k. -/
def mapErrInfoCause : Fld := ⟨0xC038, 7, 0⟩
/-- MAP_ERR_ADDR.ADDR (04_line_map.md, Table 4-15): For BACKPTR_MISMATCH and LINE_LOST: the logical line index. For every other cause: the map-cache key K of the line concerned in bits [34:0], with bits [37:35] zero. -/
def mapErrAddrAddr : Fld := ⟨0xC040, 37, 0⟩
/-- MAP_CACHE_CFG.CLEAN_PCT (04_line_map.md, Table 4-16): Cleaner start, % of limit; 20 to 90, other writes ignored. -/
def mapCacheCfgCleanPct : Fld := ⟨0xC100, 15, 8⟩
/-- MAP_CACHE_CFG.DIR_WAYS (04_line_map.md, Table 4-16): Ways reserved to directory lines, 0 to 8. -/
def mapCacheCfgDirWays : Fld := ⟨0xC100, 3, 0⟩
/-- MAP_CACHE_STS.LIMIT_SLOTS (04_line_map.md, Table 4-16): Dirty limit. -/
def mapCacheStsLimitSlots : Fld := ⟨0xC108, 49, 32⟩
/-- MAP_CACHE_STS.DIRTY_SLOTS (04_line_map.md, Table 4-16): Dirty lines, all kinds. -/
def mapCacheStsDirtySlots : Fld := ⟨0xC108, 17, 0⟩
/-- MAP_PF_CFG.HINT_MAX (04_line_map.md, Table 4-16): Largest MET turn hint, in slots, at which a prefetch is issued; 1 to 127. -/
def mapPfCfgHintMax : Fld := ⟨0xC110, 11, 4⟩
/-- MAP_PF_CFG.ENABLE (04_line_map.md, Table 4-16): Map-line prefetch on. -/
def mapPfCfgEnable : Fld := ⟨0xC110, 0, 0⟩
/-- MAP_JNL_CFG.CKPT_PERIOD_S (04_line_map.md, Table 4-17): Seconds between checkpoints; 1 to 3,600. -/
def mapJnlCfgCkptPeriodS : Fld := ⟨0xC118, 23, 8⟩
/-- MAP_JNL_CFG.CKPT_RECORDS_LOG2 (04_line_map.md, Table 4-17): Records between checkpoints, log2; 20 to 26, other writes ignored. -/
def mapJnlCfgCkptRecordsLog2 : Fld := ⟨0xC118, 4, 0⟩
/-- MAP_JNL_STS.OVERFLOW (04_line_map.md, Table 4-17): Overflow lines in use. -/
def mapJnlStsOverflow : Fld := ⟨0xC120, 60, 60⟩
/-- MAP_JNL_STS.CKPT_POS (04_line_map.md, Table 4-17): Ring position of the last checkpoint. -/
def mapJnlStsCkptPos : Fld := ⟨0xC120, 56, 32⟩
/-- MAP_JNL_STS.HEAD_POS (04_line_map.md, Table 4-17): Ring position of the next journal line. -/
def mapJnlStsHeadPos : Fld := ⟨0xC120, 24, 0⟩
/-- MAP_JSN_DURABLE.JSN (04_line_map.md, Table 4-17): Highest durable JSN. -/
def mapJsnDurableJsn : Fld := ⟨0xC128, 63, 0⟩
/-- MAP_JSN_CKPT.JSN (04_line_map.md, Table 4-17): Checkpoint JSN of the last completed checkpoint. -/
def mapJsnCkptJsn : Fld := ⟨0xC130, 63, 0⟩
/-- MAP_RECOVERY.ORPHANS (04_line_map.md, Table 4-18): Orphan lines counted invalid, saturating. -/
def mapRecoveryOrphans : Fld := ⟨0xC138, 63, 40⟩
/-- MAP_RECOVERY.RECORDS_K (04_line_map.md, Table 4-18): Records replayed, in thousands, saturating. -/
def mapRecoveryRecordsK : Fld := ⟨0xC138, 39, 20⟩
/-- MAP_RECOVERY.TIME_MS (04_line_map.md, Table 4-18): Duration of the last recovery, ms. -/
def mapRecoveryTimeMs : Fld := ⟨0xC138, 19, 0⟩
/-- MAP_SLV_STS.SINGLE_COPY (04_line_map.md, Table 4-18): Selvage lines on one copy. -/
def mapSlvStsSingleCopy : Fld := ⟨0xC140, 63, 32⟩
/-- MAP_SLV_STS.LOST (04_line_map.md, Table 4-18): Selvage lines with no copy, awaiting rebuild. -/
def mapSlvStsLost : Fld := ⟨0xC140, 31, 8⟩
/-- MAP_SLV_STS.RELOC_USED (04_line_map.md, Table 4-18): Relocation entries in use, 0 to 64. -/
def mapSlvStsRelocUsed : Fld := ⟨0xC140, 6, 0⟩
/-- MAP_SLV_BASE0.INTMAP_BASE (04_line_map.md, Table 4-18): First Selvage line of the internal map. -/
def mapSlvBase0IntmapBase : Fld := ⟨0xC148, 60, 32⟩
/-- MAP_SLV_BASE0.DIR_BASE (04_line_map.md, Table 4-18): First Selvage line of the directory. -/
def mapSlvBase0DirBase : Fld := ⟨0xC148, 28, 0⟩
/-- MAP_SLV_BASE1.JNL_LINES (04_line_map.md, Table 4-18): Journal ring lines. -/
def mapSlvBase1JnlLines : Fld := ⟨0xC150, 60, 32⟩
/-- MAP_SLV_BASE1.JNL_BASE (04_line_map.md, Table 4-18): First Selvage line of the journal ring. -/
def mapSlvBase1JnlBase : Fld := ⟨0xC150, 28, 0⟩
/-- MAP_SG_CFG.MOVES (04_line_map.md, Table 4-19): Gap moves since power-up, saturating. -/
def mapSgCfgMoves : Fld := ⟨0xC158, 63, 32⟩
/-- MAP_SG_CFG.PSI (04_line_map.md, Table 4-19): Selvage writes per region between gap moves; 16 to 1,024, other writes ignored. -/
def mapSgCfgPsi : Fld := ⟨0xC158, 15, 0⟩
/-- MAP_UNMAP_STS.LINES_LEFT (04_line_map.md, Table 4-19): Lines the running unmap has still to process. -/
def mapUnmapStsLinesLeft : Fld := ⟨0xC160, 37, 0⟩
/-- MAP_ERR_CNT.ENTRY_CHECK (04_line_map.md, Table 4-19): Check failures, saturating. -/
def mapErrCntEntryCheck : Fld := ⟨0xC168, 63, 48⟩
/-- MAP_ERR_CNT.BACKPTR (04_line_map.md, Table 4-19): Back-pointer or SEQ10 mismatches, first attempts included, saturating. -/
def mapErrCntBackptr : Fld := ⟨0xC168, 47, 32⟩
/-- MAP_ERR_CNT.CACHE_CORR (04_line_map.md, Table 4-19): Corrected map-cache words, saturating. -/
def mapErrCntCacheCorr : Fld := ⟨0xC168, 31, 0⟩
/-- PLY_CAP.STAGE_STRIPES (05_write_path.md, Table 5-10): Stripe buffers. -/
def plyCapStageStripes (g : Nat) : Fld := ⟨0x20008 + g * 0x1000, 31, 16⟩
/-- PLY_CAP.AES_PIPES (05_write_path.md, Table 5-10): AES-256 pipelines. -/
def plyCapAesPipes (g : Nat) : Fld := ⟨0x20008 + g * 0x1000, 15, 8⟩
/-- PLY_CAP.MAX_WIDTH (05_write_path.md, Table 5-10): Skeins per ply group. -/
def plyCapMaxWidth (g : Nat) : Fld := ⟨0x20008 + g * 0x1000, 4, 0⟩
/-- PLY_CTL.CNT_CLR (05_write_path.md, Table 5-10): 1 clears PLY_SEAL_CNT, PLY_PAD_CNT and PLY_MERGE_CNT. -/
def plyCtlCntClr (g : Nat) : Fld := ⟨0x20010 + g * 0x1000, 2, 2⟩
/-- PLY_CTL.ADMIT_OFF (05_write_path.md, Table 5-10): 1 stops host admission to this group. -/
def plyCtlAdmitOff (g : Nat) : Fld := ⟨0x20010 + g * 0x1000, 1, 1⟩
/-- PLY_CTL.PAD_NOW (05_write_path.md, Table 5-10): 1 completes open stripes with filler lines. -/
def plyCtlPadNow (g : Nat) : Fld := ⟨0x20010 + g * 0x1000, 0, 0⟩
/-- PLY_STS.MEMBERS (05_write_path.md, Table 5-10): Bit i: skein 16g + i live. -/
def plyStsMembers (g : Nat) : Fld := ⟨0x20018 + g * 0x1000, 47, 32⟩
/-- PLY_STS.WIDTH (05_write_path.md, Table 5-10): Live skeins. -/
def plyStsWidth (g : Nat) : Fld := ⟨0x20018 + g * 0x1000, 20, 16⟩
/-- PLY_STS.ISLAND_RESET (05_write_path.md, Table 5-10): Ply engine held in reset by island voltage. -/
def plyStsIslandReset (g : Nat) : Fld := ⟨0x20018 + g * 0x1000, 7, 7⟩
/-- PLY_STS.FLUSHING (05_write_path.md, Table 5-10): Flush running. -/
def plyStsFlushing (g : Nat) : Fld := ⟨0x20018 + g * 0x1000, 6, 6⟩
/-- PLY_STS.ADMITTING (05_write_path.md, Table 5-10): Host lines admitted. -/
def plyStsAdmitting (g : Nat) : Fld := ⟨0x20018 + g * 0x1000, 5, 5⟩
/-- PLY_STS.PRESENT (05_write_path.md, Table 5-10): Ply group populated. -/
def plyStsPresent (g : Nat) : Fld := ⟨0x20018 + g * 0x1000, 4, 4⟩
/-- PLY_STS.STATE (05_write_path.md, Table 5-10): 0: ABSENT, 1: FULL, 2: NARROW, 3: STOPPED. -/
def plyStsState (g : Nat) : Fld := ⟨0x20018 + g * 0x1000, 1, 0⟩
/-- PLY_ERR_INFO.DOMAIN (05_write_path.md, Table 5-12): Domain of the last captured line. -/
def plyErrInfoDomain (g : Nat) : Fld := ⟨0x20038 + g * 0x1000, 39, 32⟩
/-- PLY_ERR_INFO.SKEIN (05_write_path.md, Table 5-12): Member position i, skein 16g + i. -/
def plyErrInfoSkein (g : Nat) : Fld := ⟨0x20038 + g * 0x1000, 27, 24⟩
/-- PLY_ERR_INFO.STRIPE (05_write_path.md, Table 5-12): Stripe index. -/
def plyErrInfoStripe (g : Nat) : Fld := ⟨0x20038 + g * 0x1000, 21, 8⟩
/-- PLY_ERR_INFO.CAUSE (05_write_path.md, Table 5-12): Event bit number k. -/
def plyErrInfoCause (g : Nat) : Fld := ⟨0x20038 + g * 0x1000, 7, 0⟩
/-- PLY_ERR_ADDR.LINE (05_write_path.md, Table 5-12): Logical line index concerned. -/
def plyErrAddrLine (g : Nat) : Fld := ⟨0x20040 + g * 0x1000, 37, 0⟩
/-- PLY_CFG.STRIPE_TIMEOUT (05_write_path.md, Table 5-13): Picks before padding; 1 to 1,024, other writes ignored. -/
def plyCfgStripeTimeout (g : Nat) : Fld := ⟨0x20100 + g * 0x1000, 15, 0⟩
/-- PLY_STAGE_CFG.META_STRIPES (05_write_path.md, Table 5-13): META partition, at least 64. -/
def plyStageCfgMetaStripes (g : Nat) : Fld := ⟨0x20108 + g * 0x1000, 26, 16⟩
/-- PLY_STAGE_CFG.HOST_STRIPES (05_write_path.md, Table 5-13): HOST partition, at least 256; UPKEEP takes the rest, at least 128. A write that breaks a minimum is ignored; a shrinking partition gives up buffers as they free. -/
def plyStageCfgHostStripes (g : Nat) : Fld := ⟨0x20108 + g * 0x1000, 10, 0⟩
/-- PLY_STAGE_STS.UPKEEP_USED (05_write_path.md, Table 5-13): Stripe buffers in use. -/
def plyStageStsUpkeepUsed (g : Nat) : Fld := ⟨0x20110 + g * 0x1000, 42, 32⟩
/-- PLY_STAGE_STS.META_USED (05_write_path.md, Table 5-13): Stripe buffers in use. -/
def plyStageStsMetaUsed (g : Nat) : Fld := ⟨0x20110 + g * 0x1000, 26, 16⟩
/-- PLY_STAGE_STS.HOST_USED (05_write_path.md, Table 5-13): Stripe buffers in use. -/
def plyStageStsHostUsed (g : Nat) : Fld := ⟨0x20110 + g * 0x1000, 10, 0⟩
/-- PLY_OPEN_HOST.VALID (05_write_path.md, Table 5-14): A bolt of this kind is open. -/
def plyOpenHostValid (g : Nat) : Fld := ⟨0x20118 + g * 0x1000, 63, 63⟩
/-- PLY_OPEN_HOST.WIDTH (05_write_path.md, Table 5-14): Bolt width w. -/
def plyOpenHostWidth (g : Nat) : Fld := ⟨0x20118 + g * 0x1000, 52, 48⟩
/-- PLY_OPEN_HOST.NEXT_STRIPE (05_write_path.md, Table 5-14): Next stripe to assemble. -/
def plyOpenHostNextStripe (g : Nat) : Fld := ⟨0x20118 + g * 0x1000, 45, 32⟩
/-- PLY_OPEN_HOST.BLOCK (05_write_path.md, Table 5-14): Dense block index b of the bolt. -/
def plyOpenHostBlock (g : Nat) : Fld := ⟨0x20118 + g * 0x1000, 16, 0⟩
/-- PLY_OPEN_META.VALID (05_write_path.md, Table 5-14): A bolt of this kind is open. -/
def plyOpenMetaValid (g : Nat) : Fld := ⟨0x20120 + g * 0x1000, 63, 63⟩
/-- PLY_OPEN_META.WIDTH (05_write_path.md, Table 5-14): Bolt width w. -/
def plyOpenMetaWidth (g : Nat) : Fld := ⟨0x20120 + g * 0x1000, 52, 48⟩
/-- PLY_OPEN_META.NEXT_STRIPE (05_write_path.md, Table 5-14): Next stripe to assemble. -/
def plyOpenMetaNextStripe (g : Nat) : Fld := ⟨0x20120 + g * 0x1000, 45, 32⟩
/-- PLY_OPEN_META.BLOCK (05_write_path.md, Table 5-14): Dense block index b of the bolt. -/
def plyOpenMetaBlock (g : Nat) : Fld := ⟨0x20120 + g * 0x1000, 16, 0⟩
/-- PLY_OPEN_UPK.VALID (05_write_path.md, Table 5-14): A bolt of this kind is open. -/
def plyOpenUpkValid (g : Nat) : Fld := ⟨0x20128 + g * 0x1000, 63, 63⟩
/-- PLY_OPEN_UPK.WIDTH (05_write_path.md, Table 5-14): Bolt width w. -/
def plyOpenUpkWidth (g : Nat) : Fld := ⟨0x20128 + g * 0x1000, 52, 48⟩
/-- PLY_OPEN_UPK.NEXT_STRIPE (05_write_path.md, Table 5-14): Next stripe to assemble. -/
def plyOpenUpkNextStripe (g : Nat) : Fld := ⟨0x20128 + g * 0x1000, 45, 32⟩
/-- PLY_OPEN_UPK.BLOCK (05_write_path.md, Table 5-14): Dense block index b of the bolt. -/
def plyOpenUpkBlock (g : Nat) : Fld := ⟨0x20128 + g * 0x1000, 16, 0⟩
/-- PLY_FREE.FREE_BOLTS (05_write_path.md, Table 5-14): Free bolts in the group. -/
def plyFreeFreeBolts (g : Nat) : Fld := ⟨0x20130 + g * 0x1000, 16, 0⟩
/-- PLY_SEAL_CNT.STRIPES (05_write_path.md, Table 5-15): Stripes sealed, all kinds. -/
def plySealCntStripes (g : Nat) : Fld := ⟨0x20138 + g * 0x1000, 63, 0⟩
/-- PLY_PAD_CNT.FILLER_LINES (05_write_path.md, Table 5-15): Filler lines written, saturating. -/
def plyPadCntFillerLines (g : Nat) : Fld := ⟨0x20140 + g * 0x1000, 63, 32⟩
/-- PLY_PAD_CNT.SUPERSEDED (05_write_path.md, Table 5-15): Superseded copies, saturating. -/
def plyPadCntSuperseded (g : Nat) : Fld := ⟨0x20140 + g * 0x1000, 31, 0⟩
/-- PLY_MERGE_CNT.MERGE_READS (05_write_path.md, Table 5-15): Merge reads, saturating. -/
def plyMergeCntMergeReads (g : Nat) : Fld := ⟨0x20148 + g * 0x1000, 63, 32⟩
/-- PLY_MERGE_CNT.MERGE_RECOVERED (05_write_path.md, Table 5-15): Saturating. -/
def plyMergeCntMergeRecovered (g : Nat) : Fld := ⟨0x20148 + g * 0x1000, 31, 16⟩
/-- PLY_MERGE_CNT.MERGE_FAIL (05_write_path.md, Table 5-15): Saturating. -/
def plyMergeCntMergeFail (g : Nat) : Fld := ⟨0x20148 + g * 0x1000, 15, 0⟩
/-- PLY_ISLAND.CLK_MHZ (05_write_path.md, Table 5-15): Ply engine clock, set by the energy governor. -/
def plyIslandClkMhz (g : Nat) : Fld := ⟨0x20150 + g * 0x1000, 31, 16⟩
/-- PLY_ISLAND.VOLT_MV (05_write_path.md, Table 5-15): Island voltage, 600 to 800 mV. -/
def plyIslandVoltMv (g : Nat) : Fld := ⟨0x20150 + g * 0x1000, 15, 0⟩
/-- WRP_CAP.RO_TEMPLATES (07_warp_scheduling.md, Table 7-12): Read-only templates. -/
def wrpCapRoTemplates : Fld := ⟨0xF008, 31, 24⟩
/-- WRP_CAP.TEMPLATES (07_warp_scheduling.md, Table 7-12): Templates. -/
def wrpCapTemplates : Fld := ⟨0xF008, 23, 16⟩
/-- WRP_CAP.SLOTS_M1 (07_warp_scheduling.md, Table 7-12): Slots per Pick minus 1. -/
def wrpCapSlotsM1 : Fld := ⟨0xF008, 15, 8⟩
/-- WRP_CAP.OWNER_CODES (07_warp_scheduling.md, Table 7-12): Valid owner codes. -/
def wrpCapOwnerCodes : Fld := ⟨0xF008, 7, 0⟩
/-- WRP_CTL.TPL (07_warp_scheduling.md, Table 7-12): Template to validate. -/
def wrpCtlTpl : Fld := ⟨0xF010, 10, 8⟩
/-- WRP_CTL.CNT_CLR (07_warp_scheduling.md, Table 7-12): 1 clears WRP_STALL_CNT. -/
def wrpCtlCntClr : Fld := ⟨0xF010, 1, 1⟩
/-- WRP_CTL.VALIDATE (07_warp_scheduling.md, Table 7-12): 1 validates template TPL; ignored while VAL_BUSY is 1. -/
def wrpCtlValidate : Fld := ⟨0xF010, 0, 0⟩
/-- WRP_STS.RR_SKEINS (07_warp_scheduling.md, Table 7-12): Skeins in ROUND_ROBIN. -/
def wrpStsRrSkeins : Fld := ⟨0xF018, 39, 32⟩
/-- WRP_STS.VAL_BUSY (07_warp_scheduling.md, Table 7-12): Validation running. -/
def wrpStsValBusy : Fld := ⟨0xF018, 24, 24⟩
/-- WRP_STS.DEGR_OK (07_warp_scheduling.md, Table 7-12): Per template: may be named in DEGR_TPL. -/
def wrpStsDegrOk : Fld := ⟨0xF018, 23, 16⟩
/-- WRP_STS.IN_USE (07_warp_scheduling.md, Table 7-12): Per template: named by some skein. -/
def wrpStsInUse : Fld := ⟨0xF018, 15, 8⟩
/-- WRP_STS.VALID (07_warp_scheduling.md, Table 7-12): Per template: passed checks 1 to 8. -/
def wrpStsValid : Fld := ⟨0xF018, 7, 0⟩
/-- WRP_ERR_INFO.SKEIN (07_warp_scheduling.md, Table 7-14): Skein of the stalled request. -/
def wrpErrInfoSkein : Fld := ⟨0xF038, 54, 48⟩
/-- WRP_ERR_INFO.CLASS (07_warp_scheduling.md, Table 7-14): Owner code of the stalled request. -/
def wrpErrInfoClass : Fld := ⟨0xF038, 43, 40⟩
/-- WRP_ERR_INFO.WAIT (07_warp_scheduling.md, Table 7-14): Table 7-9 row, 1 to 5. -/
def wrpErrInfoWait : Fld := ⟨0xF038, 39, 36⟩
/-- WRP_ERR_INFO.CHECK (07_warp_scheduling.md, Table 7-14): First failing check, 1 to 9. -/
def wrpErrInfoCheck : Fld := ⟨0xF038, 35, 32⟩
/-- WRP_ERR_INFO.DIR (07_warp_scheduling.md, Table 7-14): 0: downstream, 1: upstream. -/
def wrpErrInfoDir : Fld := ⟨0xF038, 31, 31⟩
/-- WRP_ERR_INFO.SLOT (07_warp_scheduling.md, Table 7-14): First slot failing the check. -/
def wrpErrInfoSlot : Fld := ⟨0xF038, 30, 24⟩
/-- WRP_ERR_INFO.TPL (07_warp_scheduling.md, Table 7-14): Template validated. -/
def wrpErrInfoTpl : Fld := ⟨0xF038, 18, 16⟩
/-- WRP_ERR_INFO.CAUSE (07_warp_scheduling.md, Table 7-14): Event bit number k. -/
def wrpErrInfoCause : Fld := ⟨0xF038, 7, 0⟩
/-- WRP_ERR_ADDR.LINE (07_warp_scheduling.md, Table 7-14): Logical line index of the stalled request; 0 when none. -/
def wrpErrAddrLine : Fld := ⟨0xF040, 37, 0⟩
/-- WRP_TPL_DN.SLOTS (07_warp_scheduling.md, Table 7-15): Downstream code of slot 16p + j at [4j+3:4j]. -/
def wrpTplDnSlots (t : Nat) (p : Nat) : Fld := ⟨0xF100 + 0x80 * t + 8 * p, 63, 0⟩
/-- WRP_TPL_UP.SLOTS (07_warp_scheduling.md, Table 7-15): Upstream code of slot 16p + j at [4j+3:4j]. -/
def wrpTplUpSlots (t : Nat) (p : Nat) : Fld := ⟨0xF140 + 0x80 * t + 8 * p, 63, 0⟩
/-- WRP_HEAD_WEIGHT.WEIGHT (07_warp_scheduling.md, Table 7-15): Weight of head h at [4h+3:4h], 1 to 15; 0 acts as 1. -/
def wrpHeadWeightWeight : Fld := ⟨0xF500, 31, 0⟩
/-- WRP_STALL_CNT.RR_PICKS (07_warp_scheduling.md, Table 7-15): Skein-Picks spent in ROUND_ROBIN, saturating. -/
def wrpStallCntRrPicks : Fld := ⟨0xF508, 63, 32⟩
/-- WRP_STALL_CNT.AGINGS (07_warp_scheduling.md, Table 7-15): Aging promotions, saturating. -/
def wrpStallCntAgings : Fld := ⟨0xF508, 31, 16⟩
/-- WRP_STALL_CNT.STALLS (07_warp_scheduling.md, Table 7-15): STALL events, saturating. -/
def wrpStallCntStalls : Fld := ⟨0xF508, 15, 0⟩
/-- SKN_WARP_SEL.DEGR_TPL (07_warp_scheduling.md, Table 7-17): Template for DEGRADED mode; needs DEGR_OK. -/
def sknWarpSelDegrTpl (n : Nat) : Fld := ⟨0x40800 + n * 0x1000, 10, 8⟩
/-- SKN_WARP_SEL.NORM_TPL (07_warp_scheduling.md, Table 7-17): Template for NORMAL mode; needs VALID. -/
def sknWarpSelNormTpl (n : Nat) : Fld := ⟨0x40800 + n * 0x1000, 2, 0⟩
/-- SKN_WARP_STS.LEAD (07_warp_scheduling.md, Table 7-17): Return lead L, in slots; set at link training. -/
def sknWarpStsLead (n : Nat) : Fld := ⟨0x40808 + n * 0x1000, 39, 32⟩
/-- SKN_WARP_STS.SLOT (07_warp_scheduling.md, Table 7-17): Current slot number. -/
def sknWarpStsSlot (n : Nat) : Fld := ⟨0x40808 + n * 0x1000, 30, 24⟩
/-- SKN_WARP_STS.ACTIVE_TPL (07_warp_scheduling.md, Table 7-17): Template in force this Pick. -/
def sknWarpStsActiveTpl (n : Nat) : Fld := ⟨0x40808 + n * 0x1000, 18, 16⟩
/-- SKN_WARP_STS.MODE (07_warp_scheduling.md, Table 7-17): 0: OFF, 1: NORMAL, 2: DEGRADED, 3: FLUSH, 4: ROUND_ROBIN. -/
def sknWarpStsMode (n : Nat) : Fld := ⟨0x40808 + n * 0x1000, 2, 0⟩
/-- SKN_TURN.DN_DRN (07_warp_scheduling.md, Table 7-17): Turn hint, 1 to 128; 0xFF: class owns no slot. -/
def sknTurnDnDrn (n : Nat) : Fld := ⟨0x40810 + n * 0x1000, 63, 56⟩
/-- SKN_TURN.DN_WRG (07_warp_scheduling.md, Table 7-17): As above. -/
def sknTurnDnWrg (n : Nat) : Fld := ⟨0x40810 + n * 0x1000, 55, 48⟩
/-- SKN_TURN.DN_MET (07_warp_scheduling.md, Table 7-17): As above. -/
def sknTurnDnMet (n : Nat) : Fld := ⟨0x40810 + n * 0x1000, 47, 40⟩
/-- SKN_TURN.DN_HWR (07_warp_scheduling.md, Table 7-17): As above. -/
def sknTurnDnHwr (n : Nat) : Fld := ⟨0x40810 + n * 0x1000, 39, 32⟩
/-- SKN_TURN.UP_DRN (07_warp_scheduling.md, Table 7-17): As above. -/
def sknTurnUpDrn (n : Nat) : Fld := ⟨0x40810 + n * 0x1000, 31, 24⟩
/-- SKN_TURN.UP_WRG (07_warp_scheduling.md, Table 7-17): As above. -/
def sknTurnUpWrg (n : Nat) : Fld := ⟨0x40810 + n * 0x1000, 23, 16⟩
/-- SKN_TURN.UP_MET (07_warp_scheduling.md, Table 7-17): As above. -/
def sknTurnUpMet (n : Nat) : Fld := ⟨0x40810 + n * 0x1000, 15, 8⟩
/-- SKN_TURN.UP_HRD (07_warp_scheduling.md, Table 7-17): As above. -/
def sknTurnUpHrd (n : Nat) : Fld := ⟨0x40810 + n * 0x1000, 7, 0⟩
/-- SKN_TOKENS.REFUSED (07_warp_scheduling.md, Table 7-18): Owner grants refused for tokens, saturating. -/
def sknTokensRefused (n : Nat) : Fld := ⟨0x40818 + n * 0x1000, 63, 32⟩
/-- SKN_TOKENS.BALANCE (07_warp_scheduling.md, Table 7-18): Current balance, two's complement. -/
def sknTokensBalance (n : Nat) : Fld := ⟨0x40818 + n * 0x1000, 31, 16⟩
/-- SKN_TOKENS.BUDGET (07_warp_scheduling.md, Table 7-18): B of the current Pick. -/
def sknTokensBudget (n : Nat) : Fld := ⟨0x40818 + n * 0x1000, 15, 0⟩
/-- SKN_SLOT_USE.UP_UNUSED (07_warp_scheduling.md, Table 7-18): Upstream slots unused in the last Pick. -/
def sknSlotUseUpUnused (n : Nat) : Fld := ⟨0x40820 + n * 0x1000, 55, 48⟩
/-- SKN_SLOT_USE.UP_BACKGROUND (07_warp_scheduling.md, Table 7-18): Upstream slots taken in background. -/
def sknSlotUseUpBackground (n : Nat) : Fld := ⟨0x40820 + n * 0x1000, 47, 40⟩
/-- SKN_SLOT_USE.UP_OWNER (07_warp_scheduling.md, Table 7-18): Upstream slots used by their owner. -/
def sknSlotUseUpOwner (n : Nat) : Fld := ⟨0x40820 + n * 0x1000, 39, 32⟩
/-- SKN_SLOT_USE.DN_UNUSED (07_warp_scheduling.md, Table 7-18): Downstream slots with no operation. -/
def sknSlotUseDnUnused (n : Nat) : Fld := ⟨0x40820 + n * 0x1000, 23, 16⟩
/-- SKN_SLOT_USE.DN_BACKGROUND (07_warp_scheduling.md, Table 7-18): Downstream slots taken in background. -/
def sknSlotUseDnBackground (n : Nat) : Fld := ⟨0x40820 + n * 0x1000, 15, 8⟩
/-- SKN_SLOT_USE.DN_OWNER (07_warp_scheduling.md, Table 7-18): Downstream slots used by their owner. -/
def sknSlotUseDnOwner (n : Nat) : Fld := ⟨0x40820 + n * 0x1000, 7, 0⟩
/-- SKN_STALL.OLDEST_US (07_warp_scheduling.md, Table 7-18): Age of the oldest watched request at this skein, µs, saturating. -/
def sknStallOldestUs (n : Nat) : Fld := ⟨0x40828 + n * 0x1000, 47, 32⟩
/-- SKN_STALL.DIR (07_warp_scheduling.md, Table 7-18): 0: downstream, 1: upstream. -/
def sknStallDir (n : Nat) : Fld := ⟨0x40828 + n * 0x1000, 8, 8⟩
/-- SKN_STALL.CLASS (07_warp_scheduling.md, Table 7-18): Owner code of that request. -/
def sknStallClass (n : Nat) : Fld := ⟨0x40828 + n * 0x1000, 3, 0⟩
/-- SKN_SLEEP.SLEEP_PICKS (07_warp_scheduling.md, Table 7-18): Picks with any upstream sleep, saturating. -/
def sknSleepSleepPicks (n : Nat) : Fld := ⟨0x40830 + n * 0x1000, 63, 32⟩
/-- SKN_SLEEP.SLEEP_MIN (07_warp_scheduling.md, Table 7-18): Slots clear ahead before sleep, 4 to 64; other writes ignored. -/
def sknSleepSleepMin (n : Nat) : Fld := ⟨0x40830 + n * 0x1000, 15, 8⟩
/-- SKN_SLEEP.ASLEEP (07_warp_scheduling.md, Table 7-18): Upstream direction asleep. -/
def sknSleepAsleep (n : Nat) : Fld := ⟨0x40830 + n * 0x1000, 1, 1⟩
/-- SKN_SLEEP.UP_SLEEP_EN (07_warp_scheduling.md, Table 7-18): Upstream lane sleep allowed. -/
def sknSleepUpSleepEn (n : Nat) : Fld := ⟨0x40830 + n * 0x1000, 0, 0⟩
/-- SKN_CAP.GTS (08_priow_links.md, Table 8-14): Lane rate, GT/s. -/
def sknCapGts (n : Nat) : Fld := ⟨0x40008 + n * 0x1000, 15, 8⟩
/-- SKN_CAP.LANES (08_priow_links.md, Table 8-14): Lanes per direction. -/
def sknCapLanes (n : Nat) : Fld := ⟨0x40008 + n * 0x1000, 7, 4⟩
/-- SKN_CAP.VERSIONS (08_priow_links.md, Table 8-14): Bit 0 P1, bit 1 P2. -/
def sknCapVersions (n : Nat) : Fld := ⟨0x40008 + n * 0x1000, 3, 0⟩
/-- SKN_CTL.VERSION_MAX (08_priow_links.md, Table 8-14): 1: P1; 2: P2; 0 and 3 act as 2. -/
def sknCtlVersionMax (n : Nat) : Fld := ⟨0x40010 + n * 0x1000, 5, 4⟩
/-- SKN_CTL.CNT_CLR (08_priow_links.md, Table 8-14): 1 clears SKN_LINK_CNT. -/
def sknCtlCntClr (n : Nat) : Fld := ⟨0x40010 + n * 0x1000, 3, 3⟩
/-- SKN_CTL.PKG_RESET (08_priow_links.md, Table 8-14): 1 sends PKG_RESET. -/
def sknCtlPkgReset (n : Nat) : Fld := ⟨0x40010 + n * 0x1000, 2, 2⟩
/-- SKN_CTL.FULL_RETRAIN (08_priow_links.md, Table 8-14): 1 retrains from EQUALISE. -/
def sknCtlFullRetrain (n : Nat) : Fld := ⟨0x40010 + n * 0x1000, 1, 1⟩
/-- SKN_CTL.RETRAIN (08_priow_links.md, Table 8-14): 1 enters RETRAIN from ACTIVE. -/
def sknCtlRetrain (n : Nat) : Fld := ⟨0x40010 + n * 0x1000, 0, 0⟩
/-- SKN_STS.LINK_STATE (08_priow_links.md, Table 8-14): 0 RESET, 1 DISCOVER, 2 EQUALISE, 3 ALIGN, 4 TEST, 5 ACTIVE, 6 RETRAIN, 7 FAILED. -/
def sknStsLinkState (n : Nat) : Fld := ⟨0x40018 + n * 0x1000, 23, 20⟩
/-- SKN_STS.VERSION (08_priow_links.md, Table 8-14): 0 none, 1 P1, 2 P2. -/
def sknStsVersion (n : Nat) : Fld := ⟨0x40018 + n * 0x1000, 17, 16⟩
/-- SKN_STS.PKG_STATE (08_priow_links.md, Table 8-14): 0 ABSENT, 1 DISCOVERING, 2 INCOMPATIBLE, 3 LIMITED, 4 COMPATIBLE, 5 RETIRED. -/
def sknStsPkgState (n : Nat) : Fld := ⟨0x40018 + n * 0x1000, 10, 8⟩
/-- SKN_STS.DIES (08_priow_links.md, Table 8-14): Dies in use. -/
def sknStsDies (n : Nat) : Fld := ⟨0x40018 + n * 0x1000, 4, 0⟩
/-- SKN_ERR_INFO.DETAIL (08_priow_links.md, Table 8-16): Completion DETAIL, or failing page offset. -/
def sknErrInfoDetail (n : Nat) : Fld := ⟨0x40038 + n * 0x1000, 47, 32⟩
/-- SKN_ERR_INFO.PART (08_priow_links.md, Table 8-16): Partition. -/
def sknErrInfoPart (n : Nat) : Fld := ⟨0x40038 + n * 0x1000, 20, 16⟩
/-- SKN_ERR_INFO.SLOT (08_priow_links.md, Table 8-16): Downstream slot of the operation. -/
def sknErrInfoSlot (n : Nat) : Fld := ⟨0x40038 + n * 0x1000, 14, 8⟩
/-- SKN_ERR_INFO.CAUSE (08_priow_links.md, Table 8-16): Event bit number k. -/
def sknErrInfoCause (n : Nat) : Fld := ⟨0x40038 + n * 0x1000, 7, 0⟩
/-- SKN_ERR_ADDR.ADDR (08_priow_links.md, Table 8-16): Line address within the package. -/
def sknErrAddrAddr (n : Nat) : Fld := ⟨0x40040 + n * 0x1000, 30, 0⟩
/-- SKN_PKG.VENDOR (08_priow_links.md, Table 8-17): Page VENDOR. -/
def sknPkgVendor (n : Nat) : Fld := ⟨0x40100 + n * 0x1000, 63, 48⟩
/-- SKN_PKG.PAGE_VER (08_priow_links.md, Table 8-17): Page PAGE_VER. -/
def sknPkgPageVer (n : Nat) : Fld := ⟨0x40100 + n * 0x1000, 47, 40⟩
/-- SKN_PKG.FEATURES (08_priow_links.md, Table 8-17): Page FEATURES. -/
def sknPkgFeatures (n : Nat) : Fld := ⟨0x40100 + n * 0x1000, 39, 32⟩
/-- SKN_PKG.SHORT (08_priow_links.md, Table 8-17): Bit per Table 8-13 row. -/
def sknPkgShort (n : Nat) : Fld := ⟨0x40100 + n * 0x1000, 31, 16⟩
/-- SKN_PKG.SB_MHZ (08_priow_links.md, Table 8-17): Sideband rate in use. -/
def sknPkgSbMhz (n : Nat) : Fld := ⟨0x40100 + n * 0x1000, 7, 0⟩
/-- SKN_LINK_CFG.NAK_RETRAIN (08_priow_links.md, Table 8-17): Consecutive failed frames before RETRAIN; 2 to 64, other writes ignored. -/
def sknLinkCfgNakRetrain (n : Nat) : Fld := ⟨0x40108 + n * 0x1000, 39, 32⟩
/-- SKN_LINK_CFG.CRC_THRESH (08_priow_links.md, Table 8-17): Link failures per 1 s window. -/
def sknLinkCfgCrcThresh (n : Nat) : Fld := ⟨0x40108 + n * 0x1000, 31, 0⟩
/-- SKN_LINK_CNT.RETRAINS (08_priow_links.md, Table 8-17): Saturating. -/
def sknLinkCntRetrains (n : Nat) : Fld := ⟨0x40110 + n * 0x1000, 63, 48⟩
/-- SKN_LINK_CNT.FULL_RETRAINS (08_priow_links.md, Table 8-17): Saturating. -/
def sknLinkCntFullRetrains (n : Nat) : Fld := ⟨0x40110 + n * 0x1000, 47, 32⟩
/-- SKN_LINK_CNT.DN_NAKS (08_priow_links.md, Table 8-17): NAKs received, saturating. -/
def sknLinkCntDnNaks (n : Nat) : Fld := ⟨0x40110 + n * 0x1000, 31, 16⟩
/-- SKN_LINK_CNT.UP_FAILS (08_priow_links.md, Table 8-17): Upstream FCRC or SCRC failures, saturating. -/
def sknLinkCntUpFails (n : Nat) : Fld := ⟨0x40110 + n * 0x1000, 15, 0⟩
/-- SKN_TEMP.VALID (08_priow_links.md, Table 8-17): Last poll valid. -/
def sknTempValid (n : Nat) : Fld := ⟨0x40118 + n * 0x1000, 63, 63⟩
/-- SKN_TEMP.HOT_DIE (08_priow_links.md, Table 8-17): Hottest die. -/
def sknTempHotDie (n : Nat) : Fld := ⟨0x40118 + n * 0x1000, 51, 48⟩
/-- SKN_TEMP.ALERT (08_priow_links.md, Table 8-17): READ_TEMP byte 2, bits [1:0]. -/
def sknTempAlert (n : Nat) : Fld := ⟨0x40118 + n * 0x1000, 41, 40⟩
/-- SKN_TEMP.FAILS (08_priow_links.md, Table 8-17): Consecutive failed polls. -/
def sknTempFails (n : Nat) : Fld := ⟨0x40118 + n * 0x1000, 39, 32⟩
/-- SKN_TEMP.TEMP (08_priow_links.md, Table 8-17): Hottest die, signed, 1/16 °C. -/
def sknTempTemp (n : Nat) : Fld := ⟨0x40118 + n * 0x1000, 15, 0⟩
/-- SKN_EQ.DN1 (08_priow_links.md, Table 8-17): Downstream lane 1 preset, 0 to 10. -/
def sknEqDn1 (n : Nat) : Fld := ⟨0x40120 + n * 0x1000, 15, 12⟩
/-- SKN_EQ.DN0 (08_priow_links.md, Table 8-17): Downstream lane 0 preset. -/
def sknEqDn0 (n : Nat) : Fld := ⟨0x40120 + n * 0x1000, 11, 8⟩
/-- SKN_EQ.UP1 (08_priow_links.md, Table 8-17): Upstream lane 1 preset. -/
def sknEqUp1 (n : Nat) : Fld := ⟨0x40120 + n * 0x1000, 7, 4⟩
/-- SKN_EQ.UP0 (08_priow_links.md, Table 8-17): Upstream lane 0 preset. -/
def sknEqUp0 (n : Nat) : Fld := ⟨0x40120 + n * 0x1000, 3, 0⟩
/-- UPK_CAP.BOLTS_PER_GROUP (09_media_upkeep.md, Table 9-6): Dense bolts per ply group. -/
def upkCapBoltsPerGroup : Fld := ⟨0xB008, 40, 24⟩
/-- UPK_CAP.TFACTORS (09_media_upkeep.md, Table 9-6): Temperature-factor entries. -/
def upkCapTfactors : Fld := ⟨0xB008, 23, 16⟩
/-- UPK_CAP.PLY_GROUPS (09_media_upkeep.md, Table 9-6): Populated ply groups. -/
def upkCapPlyGroups : Fld := ⟨0xB008, 15, 8⟩
/-- UPK_CAP.AGE_CLASSES (09_media_upkeep.md, Table 9-6): Age classes. -/
def upkCapAgeClasses : Fld := ⟨0xB008, 7, 0⟩
/-- UPK_CTL.CNT_CLR (09_media_upkeep.md, Table 9-6): 1 clears UPK_CNT and UPK_CNT2. -/
def upkCtlCntClr : Fld := ⟨0xB010, 3, 3⟩
/-- UPK_CTL.RINSE_NOW (09_media_upkeep.md, Table 9-6): 1 starts a new Rinse pass. -/
def upkCtlRinseNow : Fld := ⟨0xB010, 2, 2⟩
/-- UPK_CTL.SWAP_EN (09_media_upkeep.md, Table 9-6): Static swaps allowed. -/
def upkCtlSwapEn : Fld := ⟨0xB010, 1, 1⟩
/-- UPK_CTL.PACE_EN (09_media_upkeep.md, Table 9-6): Wear pacer on. -/
def upkCtlPaceEn : Fld := ⟨0xB010, 0, 0⟩
/-- UPK_STS.PACE_LIMITED (09_media_upkeep.md, Table 9-6): Per ply group: pacer engaged. -/
def upkStsPaceLimited : Fld := ⟨0xB018, 63, 56⟩
/-- UPK_STS.DARN_ACTIVE (09_media_upkeep.md, Table 9-6): Per ply group: Darn has work. -/
def upkStsDarnActive : Fld := ⟨0xB018, 55, 48⟩
/-- UPK_STS.URGENT (09_media_upkeep.md, Table 9-6): Per ply group: Wring urgent. -/
def upkStsUrgent : Fld := ⟨0xB018, 47, 40⟩
/-- UPK_STS.WRING_ACTIVE (09_media_upkeep.md, Table 9-6): Per ply group: Wring active. -/
def upkStsWringActive : Fld := ⟨0xB018, 39, 32⟩
/-- UPK_STS.RINSE_PAUSED (09_media_upkeep.md, Table 9-6): Rinse held by the age-unknown interval. -/
def upkStsRinsePaused : Fld := ⟨0xB018, 1, 1⟩
/-- UPK_STS.AGE_UNKNOWN (09_media_upkeep.md, Table 9-6): Age-unknown interval in force. -/
def upkStsAgeUnknown : Fld := ⟨0xB018, 0, 0⟩
/-- UPK_ERR_INFO.SECONDS (09_media_upkeep.md, Table 9-8): For AGE_KNOWN: operating seconds since power-up. -/
def upkErrInfoSeconds : Fld := ⟨0xB038, 63, 32⟩
/-- UPK_ERR_INFO.PROCESS (09_media_upkeep.md, Table 9-8): 0 Wring, 1 Press, 2 Rinse, 3 Darn, 4 static swap. -/
def upkErrInfoProcess : Fld := ⟨0xB038, 14, 12⟩
/-- UPK_ERR_INFO.CLASS (09_media_upkeep.md, Table 9-8): Age class of the bolt concerned. -/
def upkErrInfoClass : Fld := ⟨0xB038, 11, 8⟩
/-- UPK_ERR_INFO.CAUSE (09_media_upkeep.md, Table 9-8): Event bit number k. -/
def upkErrInfoCause : Fld := ⟨0xB038, 7, 0⟩
/-- UPK_ERR_ADDR.GROUP (09_media_upkeep.md, Table 9-8): Ply group g. -/
def upkErrAddrGroup : Fld := ⟨0xB040, 19, 17⟩
/-- UPK_ERR_ADDR.BLOCK (09_media_upkeep.md, Table 9-8): Block index b of the bolt. -/
def upkErrAddrBlock : Fld := ⟨0xB040, 16, 0⟩
/-- UPK_WRING_CFG.STOP (09_media_upkeep.md, Table 9-9): Free bolts at which Wring stops. -/
def upkWringCfgStop : Fld := ⟨0xB100, 23, 16⟩
/-- UPK_WRING_CFG.START (09_media_upkeep.md, Table 9-9): Wring starts below this; 8 ≤ URGENT < START < STOP. -/
def upkWringCfgStart : Fld := ⟨0xB100, 15, 8⟩
/-- UPK_WRING_CFG.URGENT (09_media_upkeep.md, Table 9-9): Urgent below this. -/
def upkWringCfgUrgent : Fld := ⟨0xB100, 7, 0⟩
/-- UPK_PRESS_CFG.PRESS_CLASS (09_media_upkeep.md, Table 9-9): 8 to 14. -/
def upkPressCfgPressClass : Fld := ⟨0xB108, 3, 0⟩
/-- UPK_RINSE_CFG.PERIOD_H (09_media_upkeep.md, Table 9-9): Pass period, operating hours; 1 to 720. -/
def upkRinseCfgPeriodH : Fld := ⟨0xB110, 41, 32⟩
/-- UPK_RINSE_CFG.CORR_BITS (09_media_upkeep.md, Table 9-9): Corrected bits that count a line; 1 to 13. -/
def upkRinseCfgCorrBits : Fld := ⟨0xB110, 19, 16⟩
/-- UPK_RINSE_CFG.CORR_LINES (09_media_upkeep.md, Table 9-9): Counted lines that escalate a bolt; 1 to 255. -/
def upkRinseCfgCorrLines : Fld := ⟨0xB110, 15, 0⟩
/-- UPK_WEAR_CFG.SWAP_SPREAD (09_media_upkeep.md, Table 9-9): Reset-count spread, 100 to 10,000. -/
def upkWearCfgSwapSpread : Fld := ⟨0xB118, 15, 0⟩
/-- UPK_RINSE_STS.PASSES (09_media_upkeep.md, Table 9-10): Passes completed, saturating. -/
def upkRinseStsPasses : Fld := ⟨0xB120, 63, 32⟩
/-- UPK_RINSE_STS.ELAPSED_H (09_media_upkeep.md, Table 9-10): Hours into the current pass. -/
def upkRinseStsElapsedH : Fld := ⟨0xB120, 31, 16⟩
/-- UPK_RINSE_STS.PERMILLE (09_media_upkeep.md, Table 9-10): Progress of the current pass, ‰. -/
def upkRinseStsPermille : Fld := ⟨0xB120, 9, 0⟩
/-- UPK_DARN_STS.LOST_LINES (09_media_upkeep.md, Table 9-10): Lines recorded LOST by Darn, saturating. -/
def upkDarnStsLostLines : Fld := ⟨0xB128, 63, 32⟩
/-- UPK_DARN_STS.GROUP (09_media_upkeep.md, Table 9-10): Lowest group with Darn work. -/
def upkDarnStsGroup : Fld := ⟨0xB128, 18, 16⟩
/-- UPK_DARN_STS.PHASE (09_media_upkeep.md, Table 9-10): 0 none, 1 protection, 2 data, 3 evacuation. -/
def upkDarnStsPhase : Fld := ⟨0xB128, 13, 12⟩
/-- UPK_DARN_STS.PERMILLE (09_media_upkeep.md, Table 9-10): Progress of that phase, ‰. -/
def upkDarnStsPermille : Fld := ⟨0xB128, 9, 0⟩
/-- UPK_PROBE_STS.BOLTS_LEFT (09_media_upkeep.md, Table 9-10): Bolts and triples still AGE_UNKNOWN. -/
def upkProbeStsBoltsLeft : Fld := ⟨0xB130, 52, 32⟩
/-- UPK_PROBE_STS.FALLBACK_BLOCKS (09_media_upkeep.md, Table 9-10): Blocks probed by data-line sampling since power-up. -/
def upkProbeStsFallbackBlocks : Fld := ⟨0xB130, 31, 0⟩
/-- UPK_WEAR_STS.MAX_RESETS (09_media_upkeep.md, Table 9-10): Largest RESET_COUNT. -/
def upkWearStsMaxResets : Fld := ⟨0xB138, 63, 42⟩
/-- UPK_WEAR_STS.MEAN_RESETS (09_media_upkeep.md, Table 9-10): Mean RESET_COUNT, rounded down. -/
def upkWearStsMeanResets : Fld := ⟨0xB138, 41, 20⟩
/-- UPK_WEAR_STS.SPREAD (09_media_upkeep.md, Table 9-10): Largest spread within a group. -/
def upkWearStsSpread : Fld := ⟨0xB138, 19, 0⟩
/-- UPK_AGECLK.CLK (09_media_upkeep.md, Table 9-10): Age clock of group g, seconds with 16 fraction bits. -/
def upkAgeclkClk (j : Nat) : Fld := ⟨0xB140 + 8 * j, 63, 0⟩
/-- UPK_BOLT_SEL.GROUP (09_media_upkeep.md, Table 9-10): Ply group of the entry to read. -/
def upkBoltSelGroup : Fld := ⟨0xB180, 19, 17⟩
/-- UPK_BOLT_SEL.BLOCK (09_media_upkeep.md, Table 9-10): Block index b. -/
def upkBoltSelBlock : Fld := ⟨0xB180, 16, 0⟩
/-- UPK_BOLT_HI.ENTRY_HI (09_media_upkeep.md, Table 9-10): Entry bits [127:64]; latches ENTRY_LO. -/
def upkBoltHiEntryHi : Fld := ⟨0xB188, 63, 0⟩
/-- UPK_BOLT_LO.ENTRY_LO (09_media_upkeep.md, Table 9-10): Entry bits [63:0] as latched. -/
def upkBoltLoEntryLo : Fld := ⟨0xB190, 63, 0⟩
/-- UPK_CNT.WRING_BOLTS (09_media_upkeep.md, Table 9-10): Bolts emptied by Wring, saturating. -/
def upkCntWringBolts : Fld := ⟨0xB198, 63, 32⟩
/-- UPK_CNT.PRESS_BOLTS (09_media_upkeep.md, Table 9-10): Bolts emptied by Press, saturating. -/
def upkCntPressBolts : Fld := ⟨0xB198, 31, 16⟩
/-- UPK_CNT.SWAPS (09_media_upkeep.md, Table 9-10): Static swaps, saturating. -/
def upkCntSwaps : Fld := ⟨0xB198, 15, 0⟩
/-- UPK_CNT2.ESCALATIONS (09_media_upkeep.md, Table 9-10): Rinse escalations, saturating. -/
def upkCnt2Escalations : Fld := ⟨0xB1A0, 63, 32⟩
/-- UPK_CNT2.DARN_BOLTS (09_media_upkeep.md, Table 9-10): Bolts emptied by Darn, saturating. -/
def upkCnt2DarnBolts : Fld := ⟨0xB1A0, 31, 16⟩
/-- UPK_CNT2.RECOUNTS (09_media_upkeep.md, Table 9-10): Bolts recounted, saturating. -/
def upkCnt2Recounts : Fld := ⟨0xB1A0, 15, 0⟩
/-- FLT_CAP.RET_ENTRIES (10_faults_and_retirement.md, Table 10-10): Retirement table entries. -/
def fltCapRetEntries : Fld := ⟨0x8008, 31, 16⟩
/-- FLT_CAP.TEST_QUEUE (10_faults_and_retirement.md, Table 10-10): Test queue entries, as 0 meaning 256. -/
def fltCapTestQueue : Fld := ⟨0x8008, 15, 8⟩
/-- FLT_CAP.INJ_KINDS (10_faults_and_retirement.md, Table 10-10): Injection kinds. -/
def fltCapInjKinds : Fld := ⟨0x8008, 7, 0⟩
/-- FLT_CTL.UNDO (10_faults_and_retirement.md, Table 10-10): 1 marks the INJECTED entry at FLT_RET_SEL for undo. -/
def fltCtlUndo : Fld := ⟨0x8010, 2, 2⟩
/-- FLT_CTL.CNT_CLR (10_faults_and_retirement.md, Table 10-10): 1 clears FLT_CNT0 to FLT_CNT2 and the per-queue counters of R370. -/
def fltCtlCntClr : Fld := ⟨0x8010, 1, 1⟩
/-- FLT_CTL.INJ_EN (10_faults_and_retirement.md, Table 10-10): Injection enabled; needs INJ_ALLOWED. -/
def fltCtlInjEn : Fld := ⟨0x8010, 0, 0⟩
/-- FLT_STS.RETIRED (10_faults_and_retirement.md, Table 10-10): Retirement table entries in use. -/
def fltStsRetired : Fld := ⟨0x8018, 63, 48⟩
/-- FLT_STS.QUEUED (10_faults_and_retirement.md, Table 10-10): Tests queued. -/
def fltStsQueued : Fld := ⟨0x8018, 47, 32⟩
/-- FLT_STS.RUNNING (10_faults_and_retirement.md, Table 10-10): Tests running. -/
def fltStsRunning : Fld := ⟨0x8018, 31, 24⟩
/-- FLT_STS.INJ_ARMED (10_faults_and_retirement.md, Table 10-10): An injection is armed. -/
def fltStsInjArmed : Fld := ⟨0x8018, 2, 2⟩
/-- FLT_STS.INJ_ALLOWED (10_faults_and_retirement.md, Table 10-10): Injection bundle applied. -/
def fltStsInjAllowed : Fld := ⟨0x8018, 1, 1⟩
/-- FLT_STS.QUAR_NONEMPTY (10_faults_and_retirement.md, Table 10-10): Quarantine records held. -/
def fltStsQuarNonempty : Fld := ⟨0x8018, 0, 0⟩
/-- FLT_ERR_INFO.TABLE_FULL (10_faults_and_retirement.md, Table 10-11): Last retirement overwrote a block entry or went to the overflow list (R362). -/
def fltErrInfoTableFull : Fld := ⟨0x8038, 40, 40⟩
/-- FLT_ERR_INFO.TYPE (10_faults_and_retirement.md, Table 10-11): Resource type of the last captured event. -/
def fltErrInfoType : Fld := ⟨0x8038, 39, 36⟩
/-- FLT_ERR_INFO.TEST_PART (10_faults_and_retirement.md, Table 10-11): Failing part: 1 (a), 2 (b), 3 (c); 0 other. -/
def fltErrInfoTestPart : Fld := ⟨0x8038, 35, 32⟩
/-- FLT_ERR_INFO.CAUSE (10_faults_and_retirement.md, Table 10-11): Event bit number k. -/
def fltErrInfoCause : Fld := ⟨0x8038, 7, 0⟩
/-- FLT_ERR_ADDR.RES (10_faults_and_retirement.md, Table 10-11): Resource identifier, Table 10-1. -/
def fltErrAddrRes : Fld := ⟨0x8040, 31, 0⟩
/-- FLT_THRESH.ISLAND_24H (10_faults_and_retirement.md, Table 10-12): Table 10-4. -/
def fltThreshIsland24h : Fld := ⟨0x8100, 55, 48⟩
/-- FLT_THRESH.QUEUE_24H (10_faults_and_retirement.md, Table 10-12): Table 10-4. -/
def fltThreshQueue24h : Fld := ⟨0x8100, 47, 40⟩
/-- FLT_THRESH.BANK_CORR_24H (10_faults_and_retirement.md, Table 10-12): Table 10-4. -/
def fltThreshBankCorr24h : Fld := ⟨0x8100, 39, 24⟩
/-- FLT_THRESH.BANK_UNCORR_24H (10_faults_and_retirement.md, Table 10-12): Table 10-4. -/
def fltThreshBankUncorr24h : Fld := ⟨0x8100, 23, 16⟩
/-- FLT_THRESH.LINK_24H (10_faults_and_retirement.md, Table 10-12): Table 10-4. -/
def fltThreshLink24h : Fld := ⟨0x8100, 15, 8⟩
/-- FLT_THRESH.PART_24H (10_faults_and_retirement.md, Table 10-12): Table 10-4. -/
def fltThreshPart24h : Fld := ⟨0x8100, 7, 0⟩
/-- FLT_TEST_SEL.GO (10_faults_and_retirement.md, Table 10-12): 1 queues a test of the named resource; its result counts under R351. -/
def fltTestSelGo : Fld := ⟨0x8108, 36, 36⟩
/-- FLT_TEST_SEL.TYPE (10_faults_and_retirement.md, Table 10-12): Resource type. -/
def fltTestSelType : Fld := ⟨0x8108, 35, 32⟩
/-- FLT_TEST_SEL.RES (10_faults_and_retirement.md, Table 10-12): Resource identifier. -/
def fltTestSelRes : Fld := ⟨0x8108, 31, 0⟩
/-- FLT_TEST_STS.DURATION_US (10_faults_and_retirement.md, Table 10-12): Duration of the last test, µs. -/
def fltTestStsDurationUs : Fld := ⟨0x8110, 63, 32⟩
/-- FLT_TEST_STS.TYPE (10_faults_and_retirement.md, Table 10-12): Resource type of the last test. -/
def fltTestStsType : Fld := ⟨0x8110, 7, 4⟩
/-- FLT_TEST_STS.RESULT (10_faults_and_retirement.md, Table 10-12): 0 none, 1 pass, 2 fail. -/
def fltTestStsResult : Fld := ⟨0x8110, 1, 0⟩
/-- FLT_RET_SEL.INDEX (10_faults_and_retirement.md, Table 10-13): Retirement table entry. -/
def fltRetSelIndex : Fld := ⟨0x8118, 7, 0⟩
/-- FLT_RET_ENTRY.VALID (10_faults_and_retirement.md, Table 10-13): Entry in use. -/
def fltRetEntryValid : Fld := ⟨0x8120, 63, 63⟩
/-- FLT_RET_ENTRY.INJECTED (10_faults_and_retirement.md, Table 10-13): Caused by a STICKY injection. -/
def fltRetEntryInjected : Fld := ⟨0x8120, 62, 62⟩
/-- FLT_RET_ENTRY.UNDO_PENDING (10_faults_and_retirement.md, Table 10-13): Returns at next device conventional reset. -/
def fltRetEntryUndoPending : Fld := ⟨0x8120, 61, 61⟩
/-- FLT_RET_ENTRY.TYPE (10_faults_and_retirement.md, Table 10-13): Resource type. -/
def fltRetEntryType : Fld := ⟨0x8120, 43, 40⟩
/-- FLT_RET_ENTRY.CAUSE (10_faults_and_retirement.md, Table 10-13): 1 test failed, 2 threshold, 3 link FAILED, 4 escalated from a lower unit. -/
def fltRetEntryCause : Fld := ⟨0x8120, 39, 32⟩
/-- FLT_RET_ENTRY.RES (10_faults_and_retirement.md, Table 10-13): Resource identifier. -/
def fltRetEntryRes : Fld := ⟨0x8120, 31, 0⟩
/-- FLT_RET_TIME.SECONDS (10_faults_and_retirement.md, Table 10-13): Operating seconds at retirement. -/
def fltRetTimeSeconds : Fld := ⟨0x8128, 63, 0⟩
/-- FLT_QUAR_STS.OVERFLOW (10_faults_and_retirement.md, Table 10-13): Records in the internal log region. -/
def fltQuarStsOverflow : Fld := ⟨0x8130, 63, 63⟩
/-- FLT_QUAR_STS.RECORDS (10_faults_and_retirement.md, Table 10-13): Records held. -/
def fltQuarStsRecords : Fld := ⟨0x8130, 55, 32⟩
/-- FLT_QUAR_STS.NEXT_SEQ (10_faults_and_retirement.md, Table 10-13): Sequence of the next record. -/
def fltQuarStsNextSeq : Fld := ⟨0x8130, 31, 0⟩
/-- FLT_QUAR_CTL.RELEASE (10_faults_and_retirement.md, Table 10-13): Number of oldest records to free. -/
def fltQuarCtlRelease : Fld := ⟨0x8138, 31, 0⟩
/-- FLT_INJ_CTL.COUNT (10_faults_and_retirement.md, Table 10-14): Firings, 1 to 255; 0 acts as 1. -/
def fltInjCtlCount : Fld := ⟨0x8140, 23, 16⟩
/-- FLT_INJ_CTL.KIND (10_faults_and_retirement.md, Table 10-14): Table 10-9. -/
def fltInjCtlKind : Fld := ⟨0x8140, 11, 8⟩
/-- FLT_INJ_CTL.HALT_OK (10_faults_and_retirement.md, Table 10-14): Permits KIND 4. -/
def fltInjCtlHaltOk : Fld := ⟨0x8140, 2, 2⟩
/-- FLT_INJ_CTL.STICKY (10_faults_and_retirement.md, Table 10-14): Fault acts on the self-test too. -/
def fltInjCtlSticky : Fld := ⟨0x8140, 1, 1⟩
/-- FLT_INJ_CTL.ARM (10_faults_and_retirement.md, Table 10-14): 1 arms; 0 disarms. -/
def fltInjCtlArm : Fld := ⟨0x8140, 0, 0⟩
/-- FLT_INJ_TGT.TYPE (10_faults_and_retirement.md, Table 10-14): Resource type. -/
def fltInjTgtType : Fld := ⟨0x8148, 35, 32⟩
/-- FLT_INJ_TGT.RES (10_faults_and_retirement.md, Table 10-14): Resource identifier. -/
def fltInjTgtRes : Fld := ⟨0x8148, 31, 0⟩
/-- FLT_INJ_ADDR.ADDR (10_faults_and_retirement.md, Table 10-14): As Table 10-9. -/
def fltInjAddrAddr : Fld := ⟨0x8150, 30, 0⟩
/-- FLT_CNT0.MEDIA (10_faults_and_retirement.md, Table 10-14): Media errors, saturating. -/
def fltCnt0Media : Fld := ⟨0x8158, 63, 32⟩
/-- FLT_CNT0.LINK (10_faults_and_retirement.md, Table 10-14): Link errors, saturating. -/
def fltCnt0Link : Fld := ⟨0x8158, 31, 0⟩
/-- FLT_CNT1.SRAM (10_faults_and_retirement.md, Table 10-14): SRAM errors, saturating. -/
def fltCnt1Sram : Fld := ⟨0x8160, 63, 32⟩
/-- FLT_CNT1.QUEUE (10_faults_and_retirement.md, Table 10-14): Queue errors, saturating. -/
def fltCnt1Queue : Fld := ⟨0x8160, 31, 16⟩
/-- FLT_CNT1.LOGIC (10_faults_and_retirement.md, Table 10-14): Island and pipeline errors, saturating. -/
def fltCnt1Logic : Fld := ⟨0x8160, 15, 0⟩
/-- FLT_CNT2.TRANSIENT (10_faults_and_retirement.md, Table 10-14): Errors classified transient, saturating. -/
def fltCnt2Transient : Fld := ⟨0x8168, 63, 32⟩
/-- FLT_CNT2.PERMANENT (10_faults_and_retirement.md, Table 10-14): Errors classified permanent, saturating. -/
def fltCnt2Permanent : Fld := ⟨0x8168, 31, 16⟩
/-- FLT_CNT2.REQ_TIMEOUTS (10_faults_and_retirement.md, Table 10-14): Reissues under R360, saturating. -/
def fltCnt2ReqTimeouts : Fld := ⟨0x8168, 15, 0⟩
/-- FLT_QUEUE_SEL.QUEUE (10_faults_and_retirement.md, Table 10-15): Queue number, Table 10-16. -/
def fltQueueSelQueue : Fld := ⟨0x8170, 15, 0⟩
/-- FLT_QUEUE_CNT.PARITY (10_faults_and_retirement.md, Table 10-15): Word parity errors (R139), saturating. -/
def fltQueueCntParity : Fld := ⟨0x8178, 63, 48⟩
/-- FLT_QUEUE_CNT.REPLAYS (10_faults_and_retirement.md, Table 10-15): Packets replayed good (R141), saturating. -/
def fltQueueCntReplays : Fld := ⟨0x8178, 47, 32⟩
/-- FLT_QUEUE_CNT.PROPAGATED (10_faults_and_retirement.md, Table 10-15): Packets whose poison propagated (Table 3-7), saturating. -/
def fltQueueCntPropagated : Fld := ⟨0x8178, 31, 16⟩
/-- FLT_QUEUE_CNT.SPARES_USED (10_faults_and_retirement.md, Table 10-15): Spare entries in use, 0 to 4. -/
def fltQueueCntSparesUsed : Fld := ⟨0x8178, 10, 8⟩
/-- FLT_QUEUE_CNT.RETIRED (10_faults_and_retirement.md, Table 10-15): Queue retired (Table 10-5). -/
def fltQueueCntRetired : Fld := ⟨0x8178, 7, 7⟩
/-- CRY_CAP.PIPES_PER_PLY (11_integrity_and_keys.md, Table 11-10): AES pipelines per ply engine. -/
def cryCapPipesPerPly : Fld := ⟨0xA008, 31, 24⟩
/-- CRY_CAP.TAG_BITS (11_integrity_and_keys.md, Table 11-10): Tag length. -/
def cryCapTagBits : Fld := ⟨0xA008, 23, 16⟩
/-- CRY_CAP.GENERATIONS (11_integrity_and_keys.md, Table 11-10): Key generations per domain. -/
def cryCapGenerations : Fld := ⟨0xA008, 15, 8⟩
/-- CRY_CAP.DOMAINS_M1 (11_integrity_and_keys.md, Table 11-10): Domains minus 1. -/
def cryCapDomainsM1 : Fld := ⟨0xA008, 7, 0⟩
/-- CRY_CTL.CNT_CLR (11_integrity_and_keys.md, Table 11-10): 1 clears CRY_CNT. -/
def cryCtlCntClr : Fld := ⟨0xA010, 0, 0⟩
/-- CRY_STS.SWEEP_ACTIVE (11_integrity_and_keys.md, Table 11-10): A rekey sweep is running. -/
def cryStsSweepActive : Fld := ⟨0xA018, 40, 40⟩
/-- CRY_STS.SWEEP_DOMAIN (11_integrity_and_keys.md, Table 11-10): Domain of the running sweep. -/
def cryStsSweepDomain : Fld := ⟨0xA018, 39, 32⟩
/-- CRY_STS.HALTED_DOMAINS (11_integrity_and_keys.md, Table 11-10): Domains under a domain-scope halt. -/
def cryStsHaltedDomains : Fld := ⟨0xA018, 24, 16⟩
/-- CRY_STS.DEVICE_HALT (11_integrity_and_keys.md, Table 11-10): Device-scope halt in force. -/
def cryStsDeviceHalt : Fld := ⟨0xA018, 0, 0⟩
/-- CRY_ERR_INFO.DOMAIN (11_integrity_and_keys.md, Table 11-12): Domain of the last captured event. -/
def cryErrInfoDomain : Fld := ⟨0xA038, 47, 40⟩
/-- CRY_ERR_INFO.SOURCE (11_integrity_and_keys.md, Table 11-12): As byte 3 of Table 11-7. -/
def cryErrInfoSource : Fld := ⟨0xA038, 35, 32⟩
/-- CRY_ERR_INFO.SKEIN (11_integrity_and_keys.md, Table 11-12): Skein of the data line. -/
def cryErrInfoSkein : Fld := ⟨0xA038, 22, 16⟩
/-- CRY_ERR_INFO.CAUSE (11_integrity_and_keys.md, Table 11-12): Event bit number k. -/
def cryErrInfoCause : Fld := ⟨0xA038, 7, 0⟩
/-- CRY_ERR_ADDR.LINE (11_integrity_and_keys.md, Table 11-12): Logical line index. -/
def cryErrAddrLine : Fld := ⟨0xA040, 37, 0⟩
/-- CRY_SWEEP_CFG.SHARE (11_integrity_and_keys.md, Table 11-12): Thirds of WRG slots taken while Wring is active, 1 to 3; 0 acts as 1. -/
def crySweepCfgShare : Fld := ⟨0xA100, 1, 0⟩
/-- CRY_SWEEP_STS.LINES_LEFT (11_integrity_and_keys.md, Table 11-12): Extent lines the running sweep has still to process. -/
def crySweepStsLinesLeft : Fld := ⟨0xA108, 37, 0⟩
/-- CRY_CNT.TAG_RECOVERED (11_integrity_and_keys.md, Table 11-13): Saturating. -/
def cryCntTagRecovered : Fld := ⟨0xA110, 63, 32⟩
/-- CRY_CNT.WRITES_DISCARDED (11_integrity_and_keys.md, Table 11-13): Writes discarded under R372, saturating. -/
def cryCntWritesDiscarded : Fld := ⟨0xA110, 31, 16⟩
/-- CRY_CNT.HALTS (11_integrity_and_keys.md, Table 11-13): Halts since power-up, saturating. -/
def cryCntHalts : Fld := ⟨0xA110, 15, 0⟩
/-- CRY_HALT_INFO.VALID (11_integrity_and_keys.md, Table 11-13): A halt record exists. -/
def cryHaltInfoValid : Fld := ⟨0xA118, 63, 63⟩
/-- CRY_HALT_INFO.SCOPE (11_integrity_and_keys.md, Table 11-13): 0 device, 1 domain. -/
def cryHaltInfoScope : Fld := ⟨0xA118, 62, 62⟩
/-- CRY_HALT_INFO.MADE_LOST (11_integrity_and_keys.md, Table 11-13): Bit 0 of record byte 11. -/
def cryHaltInfoMadeLost : Fld := ⟨0xA118, 61, 61⟩
/-- CRY_HALT_INFO.DOMAIN (11_integrity_and_keys.md, Table 11-13): Domain. -/
def cryHaltInfoDomain : Fld := ⟨0xA118, 55, 48⟩
/-- CRY_HALT_INFO.SOURCE (11_integrity_and_keys.md, Table 11-13): Record byte 3. -/
def cryHaltInfoSource : Fld := ⟨0xA118, 47, 44⟩
/-- CRY_HALT_INFO.LINE (11_integrity_and_keys.md, Table 11-13): L of the newest halt record. -/
def cryHaltInfoLine : Fld := ⟨0xA118, 37, 0⟩
/-- KVE_CAP.MASK_ORDER (11_integrity_and_keys.md, Table 11-15): Masking order. -/
def kveCapMaskOrder : Fld := ⟨0x7008, 39, 32⟩
/-- KVE_CAP.KEY_RECORDS (11_integrity_and_keys.md, Table 11-15): Wrapped-key slots. -/
def kveCapKeyRecords : Fld := ⟨0x7008, 31, 16⟩
/-- KVE_CAP.BUF_BYTES (11_integrity_and_keys.md, Table 11-15): Hold-until-verified buffer. -/
def kveCapBufBytes : Fld := ⟨0x7008, 15, 0⟩
/-- KVE_CTL.CNT_CLR (11_integrity_and_keys.md, Table 11-15): 1 clears KVE_CNT. -/
def kveCtlCntClr : Fld := ⟨0x7010, 1, 1⟩
/-- KVE_CTL.RESEED (11_integrity_and_keys.md, Table 11-15): 1 reseeds the DRBG. -/
def kveCtlReseed : Fld := ⟨0x7010, 0, 0⟩
/-- KVE_STS.BUF_HELD (11_integrity_and_keys.md, Table 11-15): Bytes held awaiting verification. -/
def kveStsBufHeld : Fld := ⟨0x7018, 47, 32⟩
/-- KVE_STS.KEYS_LOADED (11_integrity_and_keys.md, Table 11-15): Domain keys loaded in the ply engines. -/
def kveStsKeysLoaded : Fld := ⟨0x7018, 21, 12⟩
/-- KVE_STS.BUSY (11_integrity_and_keys.md, Table 11-15): Operation running. -/
def kveStsBusy : Fld := ⟨0x7018, 3, 3⟩
/-- KVE_STS.DRBG (11_integrity_and_keys.md, Table 11-15): 0 INSTANTIATING, 1 OK, 2 FAILED. -/
def kveStsDrbg : Fld := ⟨0x7018, 1, 0⟩
/-- KVE_ERR_INFO.OP (11_integrity_and_keys.md, Table 11-16): 1 wrap, 2 unwrap, 3 seal, 4 unseal, 5 message decrypt, 6 message encrypt, 7 KDF. -/
def kveErrInfoOp : Fld := ⟨0x7038, 15, 8⟩
/-- KVE_ERR_INFO.CAUSE (11_integrity_and_keys.md, Table 11-16): Event bit number k. -/
def kveErrInfoCause : Fld := ⟨0x7038, 7, 0⟩
/-- KVE_ERR_ADDR.RECORD (11_integrity_and_keys.md, Table 11-16): Wrapped-key slot concerned: 3 × domain + slot. -/
def kveErrAddrRecord : Fld := ⟨0x7040, 9, 0⟩
/-- KVE_CNT.BLOCKS (11_integrity_and_keys.md, Table 11-16): AES blocks processed, saturating. -/
def kveCntBlocks : Fld := ⟨0x7100, 63, 32⟩
/-- KVE_CNT.VERIFY_FAILS (11_integrity_and_keys.md, Table 11-16): Saturating. -/
def kveCntVerifyFails : Fld := ⟨0x7100, 31, 16⟩
/-- KVE_CNT.HEALTH_FAILS (11_integrity_and_keys.md, Table 11-16): Entropy health-test failures, saturating. -/
def kveCntHealthFails : Fld := ⟨0x7100, 15, 0⟩
/-- KVE_DRBG.RESEEDS (11_integrity_and_keys.md, Table 11-16): Reseeds since power-up, saturating. -/
def kveDrbgReseeds : Fld := ⟨0x7108, 63, 32⟩
/-- KVE_DRBG.GENERATES (11_integrity_and_keys.md, Table 11-16): Generate requests since the last reseed. -/
def kveDrbgGenerates : Fld := ⟨0x7108, 31, 0⟩
/-- EPO_CAP.UNDO_LINES (12_epochs.md, Table 12-9): Lines in the undo area. -/
def epoCapUndoLines : Fld := ⟨0x9008, 63, 32⟩
/-- EPO_CAP.ENTRIES_PER_LINE (12_epochs.md, Table 12-9): Entries per undo line. -/
def epoCapEntriesPerLine : Fld := ⟨0x9008, 31, 24⟩
/-- EPO_CAP.MAX_BUCKETS_LOG2 (12_epochs.md, Table 12-9): Largest k. -/
def epoCapMaxBucketsLog2 : Fld := ⟨0x9008, 23, 16⟩
/-- EPO_CAP.MIN_BUCKETS_LOG2 (12_epochs.md, Table 12-9): Smallest k. -/
def epoCapMinBucketsLog2 : Fld := ⟨0x9008, 15, 8⟩
/-- EPO_CAP.ENTRY_BYTES (12_epochs.md, Table 12-9): Bytes per entry. -/
def epoCapEntryBytes : Fld := ⟨0x9008, 7, 0⟩
/-- EPO_CTL.CNT_CLR (12_epochs.md, Table 12-9): 1 clears EPO_CNT. -/
def epoCtlCntClr : Fld := ⟨0x9010, 0, 0⟩
/-- EPO_STS.UNDO_FREE (12_epochs.md, Table 12-9): Free undo lines. -/
def epoStsUndoFree : Fld := ⟨0x9018, 63, 32⟩
/-- EPO_STS.ENABLED (12_epochs.md, Table 12-9): Domains with EPOCH_EN = 1. -/
def epoStsEnabled : Fld := ⟨0x9018, 15, 8⟩
/-- EPO_STS.PREPARED (12_epochs.md, Table 12-9): Domains in PREPARED. -/
def epoStsPrepared : Fld := ⟨0x9018, 7, 0⟩
/-- EPO_ERR_INFO.DOMAIN (12_epochs.md, Table 12-10): Domain of the last captured event. -/
def epoErrInfoDomain : Fld := ⟨0x9038, 47, 40⟩
/-- EPO_ERR_INFO.RESULT (12_epochs.md, Table 12-10): CXL return code of the last refusal. -/
def epoErrInfoResult : Fld := ⟨0x9038, 15, 8⟩
/-- EPO_ERR_INFO.CAUSE (12_epochs.md, Table 12-10): Event bit number k. -/
def epoErrInfoCause : Fld := ⟨0x9038, 7, 0⟩
/-- EPO_ERR_ADDR.LINE (12_epochs.md, Table 12-10): L of a lost retained line. -/
def epoErrAddrLine : Fld := ⟨0x9040, 37, 0⟩
/-- EPO_RESERVE_CFG.CAP_GIB (12_epochs.md, Table 12-10): Reserve cap, GiB; writes outside the range of R432 ignored. -/
def epoReserveCfgCapGib : Fld := ⟨0x9100, 15, 0⟩
/-- EPO_RESERVE_STS.USED_MIB (12_epochs.md, Table 12-10): Reserve in use, MiB. -/
def epoReserveStsUsedMib : Fld := ⟨0x9108, 31, 0⟩
/-- EPO_DOORBELL.OP (12_epochs.md, Table 12-10): 1 Prepare, 2 Commit, 3 Abort; 0 ignored. -/
def epoDoorbellOp : Fld := ⟨0x9110, 63, 62⟩
/-- EPO_DOORBELL.DOMAIN (12_epochs.md, Table 12-10): Domain. -/
def epoDoorbellDomain : Fld := ⟨0x9110, 55, 48⟩
/-- EPO_DOORBELL.EPOCH (12_epochs.md, Table 12-10): E. -/
def epoDoorbellEpoch : Fld := ⟨0x9110, 47, 0⟩
/-- EPO_DB_DEADLINE.PPS (12_epochs.md, Table 12-10): Deadline PPS-aligned. -/
def epoDbDeadlinePps : Fld := ⟨0x9118, 63, 63⟩
/-- EPO_DB_DEADLINE.DEVTIME (12_epochs.md, Table 12-10): Deadline for a doorbell Prepare; 0 for now. -/
def epoDbDeadlineDevtime : Fld := ⟨0x9118, 62, 0⟩
/-- EPO_DB_STS.BUSY (12_epochs.md, Table 12-10): Doorbell command running. -/
def epoDbStsBusy : Fld := ⟨0x9120, 16, 16⟩
/-- EPO_DB_STS.RESULT (12_epochs.md, Table 12-10): Return code of the last doorbell command; 0 success. -/
def epoDbStsResult : Fld := ⟨0x9120, 15, 0⟩
/-- EPO_DOM_SEL.DOMAIN (12_epochs.md, Table 12-11): Domain shown. -/
def epoDomSelDomain : Fld := ⟨0x9128, 7, 0⟩
/-- EPO_DOM_CFG.BUCKETS_LOG2 (12_epochs.md, Table 12-11): k, 16 to 26; writable only while EPOCH_EN is 0. -/
def epoDomCfgBucketsLog2 : Fld := ⟨0x9130, 12, 8⟩
/-- EPO_DOM_CFG.POLICY (12_epochs.md, Table 12-11): 0 SEAL, 1 STOP. -/
def epoDomCfgPolicy : Fld := ⟨0x9130, 0, 0⟩
/-- EPO_DOM_STS.ROLLBACK_INCOMPLETE (12_epochs.md, Table 12-11): Insertions stopped. -/
def epoDomStsRollbackIncomplete : Fld := ⟨0x9138, 7, 7⟩
/-- EPO_DOM_STS.ARMED (12_epochs.md, Table 12-11): Prepare armed. -/
def epoDomStsArmed : Fld := ⟨0x9138, 6, 6⟩
/-- EPO_DOM_STS.CLEANUP (12_epochs.md, Table 12-11): Cleanup running. -/
def epoDomStsCleanup : Fld := ⟨0x9138, 5, 5⟩
/-- EPO_DOM_STS.OPEN_TBL (12_epochs.md, Table 12-11): Table 0 or 1 is open. -/
def epoDomStsOpenTbl : Fld := ⟨0x9138, 4, 4⟩
/-- EPO_DOM_STS.STATE (12_epochs.md, Table 12-11): Table 12-1. -/
def epoDomStsState : Fld := ⟨0x9138, 2, 0⟩
/-- EPO_DOM_COMMITTED.EPOCH (12_epochs.md, Table 12-11): C. -/
def epoDomCommittedEpoch : Fld := ⟨0x9140, 47, 0⟩
/-- EPO_DOM_PREPARED.EPOCH (12_epochs.md, Table 12-11): Prepared or armed epoch; 0 when none. -/
def epoDomPreparedEpoch : Fld := ⟨0x9148, 47, 0⟩
/-- EPO_DOM_ENTRIES.OPEN (12_epochs.md, Table 12-11): Entries in the open table. -/
def epoDomEntriesOpen : Fld := ⟨0x9150, 39, 0⟩
/-- EPO_DOM_PREP_ENTRIES.OTHER (12_epochs.md, Table 12-11): Entries in the prepared table or the table in cleanup. -/
def epoDomPrepEntriesOther : Fld := ⟨0x9158, 39, 0⟩
/-- EPO_DOM_TBL.TBL1_BASE (12_epochs.md, Table 12-11): Area index of table 1's first bucket line. -/
def epoDomTblTbl1Base : Fld := ⟨0x9160, 59, 32⟩
/-- EPO_DOM_TBL.TBL0_BASE (12_epochs.md, Table 12-11): Area index of table 0's first bucket line. -/
def epoDomTblTbl0Base : Fld := ⟨0x9160, 27, 0⟩
/-- PWR_CAP.STEPS (13_power_sequencing.md, Table 13-7): Steps of power-up. -/
def pwrCapSteps : Fld := ⟨0x1008, 15, 8⟩
/-- PWR_CAP.CHANNELS (13_power_sequencing.md, Table 13-7): Rail channels. -/
def pwrCapChannels : Fld := ⟨0x1008, 7, 0⟩
/-- PWR_CTL.KEY (13_power_sequencing.md, Table 13-7): Must be 0xD5 for OFF or DEV_RESET to act. -/
def pwrCtlKey : Fld := ⟨0x1010, 15, 8⟩
/-- PWR_CTL.CNT_CLR (13_power_sequencing.md, Table 13-7): 1 clears PWR_RAIL_CNT and PWR_CNT.SEQ_ABORTS. -/
def pwrCtlCntClr : Fld := ⟨0x1010, 2, 2⟩
/-- PWR_CTL.DEV_RESET (13_power_sequencing.md, Table 13-7): 1 requests a device conventional reset. -/
def pwrCtlDevReset : Fld := ⟨0x1010, 1, 1⟩
/-- PWR_CTL.OFF (13_power_sequencing.md, Table 13-7): 1 requests a local off, ending in LATCHED. -/
def pwrCtlOff : Fld := ⟨0x1010, 0, 0⟩
/-- PWR_STS.RAILS_GOOD (13_power_sequencing.md, Table 13-7): Per channel: filtered good output. -/
def pwrStsRailsGood : Fld := ⟨0x1018, 43, 32⟩
/-- PWR_STS.FAULT_N_LOW (13_power_sequencing.md, Table 13-7): FAULT_N driven. -/
def pwrStsFaultNLow : Fld := ⟨0x1018, 28, 28⟩
/-- PWR_STS.PFW_N_LOW (13_power_sequencing.md, Table 13-7): PFW_N asserted. -/
def pwrStsPfwNLow : Fld := ⟨0x1018, 27, 27⟩
/-- PWR_STS.SEQ_DN_OUT (13_power_sequencing.md, Table 13-7): Level driven. -/
def pwrStsSeqDnOut : Fld := ⟨0x1018, 26, 26⟩
/-- PWR_STS.SEQ_DN_IN (13_power_sequencing.md, Table 13-7): Filtered level. -/
def pwrStsSeqDnIn : Fld := ⟨0x1018, 25, 25⟩
/-- PWR_STS.SEQ_UP_OUT (13_power_sequencing.md, Table 13-7): Level driven. -/
def pwrStsSeqUpOut : Fld := ⟨0x1018, 24, 24⟩
/-- PWR_STS.SEQ_UP_IN (13_power_sequencing.md, Table 13-7): Filtered level. -/
def pwrStsSeqUpIn : Fld := ⟨0x1018, 23, 23⟩
/-- PWR_STS.RETRIES_USED (13_power_sequencing.md, Table 13-7): Retries since ON was last reached. -/
def pwrStsRetriesUsed : Fld := ⟨0x1018, 17, 16⟩
/-- PWR_STS.STEP (13_power_sequencing.md, Table 13-7): Step of the running or last sequence. -/
def pwrStsStep : Fld := ⟨0x1018, 11, 8⟩
/-- PWR_STS.STATE (13_power_sequencing.md, Table 13-7): Table 13-2. -/
def pwrStsState : Fld := ⟨0x1018, 3, 0⟩
/-- PWR_ERR_INFO.STATE_AT (13_power_sequencing.md, Table 13-9): STATE when the event was captured. -/
def pwrErrInfoStateAt : Fld := ⟨0x1038, 27, 24⟩
/-- PWR_ERR_INFO.CHATTERS (13_power_sequencing.md, Table 13-9): Chatter events in the step. -/
def pwrErrInfoChatters : Fld := ⟨0x1038, 23, 20⟩
/-- PWR_ERR_INFO.STEP (13_power_sequencing.md, Table 13-9): Step. -/
def pwrErrInfoStep : Fld := ⟨0x1038, 19, 16⟩
/-- PWR_ERR_INFO.CHANNEL (13_power_sequencing.md, Table 13-9): Rail channel. -/
def pwrErrInfoChannel : Fld := ⟨0x1038, 11, 8⟩
/-- PWR_ERR_INFO.CAUSE (13_power_sequencing.md, Table 13-9): Event bit number k. -/
def pwrErrInfoCause : Fld := ⟨0x1038, 7, 0⟩
/-- PWR_ERR_ADDR.VIN_MV (13_power_sequencing.md, Table 13-9): Input voltage at the event, mV. -/
def pwrErrAddrVinMv : Fld := ⟨0x1040, 15, 0⟩
/-- PWR_CFG.SKIP (13_power_sequencing.md, Table 13-10): Bit 0: PWC10 absent; bit 1: PWC11 absent. -/
def pwrCfgSkip : Fld := ⟨0x1100, 49, 48⟩
/-- PWR_CFG.BRD_ON_DEVRST (13_power_sequencing.md, Table 13-10): BRD_RST_N pulses with a device conventional reset. -/
def pwrCfgBrdOnDevrst : Fld := ⟨0x1100, 40, 40⟩
/-- PWR_CFG.BRD_STRETCH_MS (13_power_sequencing.md, Table 13-10): 1 to 200. -/
def pwrCfgBrdStretchMs : Fld := ⟨0x1100, 39, 32⟩
/-- PWR_CFG.MRST_STRETCH_MS (13_power_sequencing.md, Table 13-10): 1 to 100. -/
def pwrCfgMrstStretchMs : Fld := ⟨0x1100, 31, 24⟩
/-- PWR_CFG.RETRIES (13_power_sequencing.md, Table 13-10): 0 to 2. -/
def pwrCfgRetries : Fld := ⟨0x1100, 9, 8⟩
/-- PWR_CFG.DN_WAIT_S (13_power_sequencing.md, Table 13-10): Cascade wait, s; 1 to 255. -/
def pwrCfgDnWaitS : Fld := ⟨0x1100, 7, 0⟩
/-- PWR_VIN_CFG.ON_MV (13_power_sequencing.md, Table 13-10): Input at which power-up may start, mV. -/
def pwrVinCfgOnMv : Fld := ⟨0x1108, 31, 16⟩
/-- PWR_VIN_CFG.PFW_MV (13_power_sequencing.md, Table 13-10): Power-fail threshold, mV. -/
def pwrVinCfgPfwMv : Fld := ⟨0x1108, 15, 0⟩
/-- PWR_VIN_STS.BELOW_PFW (13_power_sequencing.md, Table 13-10): Comparator output. -/
def pwrVinStsBelowPfw : Fld := ⟨0x1110, 16, 16⟩
/-- PWR_VIN_STS.VIN_MV (13_power_sequencing.md, Table 13-10): Input voltage from the last housekeeping round, mV. -/
def pwrVinStsVinMv : Fld := ⟨0x1110, 15, 0⟩
/-- PWR_HOLDUP_REQ.HOLDUP_US (13_power_sequencing.md, Table 13-10): Required hold-up under R219 and R220, µs. -/
def pwrHoldupReqHoldupUs : Fld := ⟨0x1118, 15, 0⟩
/-- PWR_CNT.POWER_CYCLES (13_power_sequencing.md, Table 13-10): Times ON was reached, saturating. -/
def pwrCntPowerCycles : Fld := ⟨0x1120, 39, 16⟩
/-- PWR_CNT.SEQ_ABORTS (13_power_sequencing.md, Table 13-10): Saturating. -/
def pwrCntSeqAborts : Fld := ⟨0x1120, 15, 0⟩
/-- PWR_CNT2.DIRTY_SHUTDOWNS (13_power_sequencing.md, Table 13-10): CXL dirty shutdown count. -/
def pwrCnt2DirtyShutdowns : Fld := ⟨0x1128, 63, 32⟩
/-- PWR_CNT2.PF_FLUSHES (13_power_sequencing.md, Table 13-10): Power-fail flushes begun, saturating. -/
def pwrCnt2PfFlushes : Fld := ⟨0x1128, 31, 0⟩
/-- PWR_MRST_CTL.BRD_ASSERTED (13_power_sequencing.md, Table 13-10): BRD_RST_N low. -/
def pwrMrstCtlBrdAsserted : Fld := ⟨0x1130, 24, 24⟩
/-- PWR_MRST_CTL.ASSERTED (13_power_sequencing.md, Table 13-10): Per group: MRST_N[g] low. -/
def pwrMrstCtlAsserted : Fld := ⟨0x1130, 15, 8⟩
/-- PWR_MRST_CTL.PULSE (13_power_sequencing.md, Table 13-10): Per group: 1 requests a pulse under R462. -/
def pwrMrstCtlPulse : Fld := ⟨0x1130, 7, 0⟩
/-- PWR_RAIL_CNT.CHATTER (13_power_sequencing.md, Table 13-11): Chatter events, saturating. -/
def pwrRailCntChatter (j : Nat) : Fld := ⟨0x1140 + 8 * j, 63, 48⟩
/-- PWR_RAIL_CNT.TIMEOUTS (13_power_sequencing.md, Table 13-11): Step timeouts, saturating. -/
def pwrRailCntTimeouts (j : Nat) : Fld := ⟨0x1140 + 8 * j, 47, 32⟩
/-- PWR_RAIL_CNT.LOST (13_power_sequencing.md, Table 13-11): Good lost after the step or in ON, saturating. -/
def pwrRailCntLost (j : Nat) : Fld := ⟨0x1140 + 8 * j, 31, 16⟩
/-- PWR_RAIL_CNT.STUCK (13_power_sequencing.md, Table 13-11): Off-threshold timeouts, saturating. -/
def pwrRailCntStuck (j : Nat) : Fld := ⟨0x1140 + 8 * j, 15, 0⟩
/-- PWR_RAIL_CFG.OFF_MV (13_power_sequencing.md, Table 13-11): Off threshold, mV; at most half of NOMINAL_MV. -/
def pwrRailCfgOffMv (j : Nat) : Fld := ⟨0x11A0 + 8 * j, 47, 32⟩
/-- PWR_RAIL_CFG.TIMEOUT_MS (13_power_sequencing.md, Table 13-11): Step timeout, 1 to 100 ms. -/
def pwrRailCfgTimeoutMs (j : Nat) : Fld := ⟨0x11A0 + 8 * j, 31, 24⟩
/-- PWR_RAIL_CFG.SETTLE (13_power_sequencing.md, Table 13-11): Settle time, units of 100 µs; 1 to 100. -/
def pwrRailCfgSettle (j : Nat) : Fld := ⟨0x11A0 + 8 * j, 23, 16⟩
/-- PWR_RAIL_CFG.NOMINAL_MV (13_power_sequencing.md, Table 13-11): Nominal voltage, mV; 1,000 to 3,600 for PWC10 and PWC11. -/
def pwrRailCfgNominalMv (j : Nat) : Fld := ⟨0x11A0 + 8 * j, 15, 0⟩
/-- THM_CAP.TRIP_C (14_thermal_and_energy.md, Table 14-5): Trip temperature, °C. -/
def thmCapTripC : Fld := ⟨0x2008, 15, 8⟩
/-- THM_CAP.TILES (14_thermal_and_energy.md, Table 14-5): Diode tiles. -/
def thmCapTiles : Fld := ⟨0x2008, 7, 0⟩
/-- THM_CTL.READMIT_TILE (14_thermal_and_energy.md, Table 14-5): Tile to readmit. -/
def thmCtlReadmitTile : Fld := ⟨0x2010, 13, 8⟩
/-- THM_CTL.READMIT (14_thermal_and_energy.md, Table 14-5): 1 readmits READMIT_TILE under R473. -/
def thmCtlReadmit : Fld := ⟨0x2010, 1, 1⟩
/-- THM_CTL.CNT_CLR (14_thermal_and_energy.md, Table 14-5): 1 clears THM_CNT.THROTTLE_PICKS and THM_CNT.EXCLUSIONS; TRIPS is not cleared. -/
def thmCtlCntClr : Fld := ⟨0x2010, 0, 0⟩
/-- THM_STS.HOT_TEMP (14_thermal_and_energy.md, Table 14-5): Largest USED, signed, 1/16 °C. -/
def thmStsHotTemp : Fld := ⟨0x2018, 63, 48⟩
/-- THM_STS.HOT_TILE (14_thermal_and_energy.md, Table 14-5): Tile with the largest USED. -/
def thmStsHotTile : Fld := ⟨0x2018, 37, 32⟩
/-- THM_STS.EXCLUDED (14_thermal_and_energy.md, Table 14-5): Tiles excluded. -/
def thmStsExcluded : Fld := ⟨0x2018, 22, 16⟩
/-- THM_STS.TRIP_LATCHED (14_thermal_and_energy.md, Table 14-5): Trip latch set. -/
def thmStsTripLatched : Fld := ⟨0x2018, 3, 3⟩
/-- THM_STS.THERM_N_LOW (14_thermal_and_energy.md, Table 14-5): THERM_N asserted. -/
def thmStsThermNLow : Fld := ⟨0x2018, 2, 2⟩
/-- THM_STS.GRID_DEGRADED (14_thermal_and_energy.md, Table 14-5): R469 or R474 in force. -/
def thmStsGridDegraded : Fld := ⟨0x2018, 1, 1⟩
/-- THM_STS.FIRST_ROUND (14_thermal_and_energy.md, Table 14-5): First round after power-up complete. -/
def thmStsFirstRound : Fld := ⟨0x2018, 0, 0⟩
/-- THM_ERR_INFO.TILE (14_thermal_and_energy.md, Table 14-6): Tile of the last tile event. -/
def thmErrInfoTile : Fld := ⟨0x2038, 13, 8⟩
/-- THM_ERR_INFO.CAUSE (14_thermal_and_energy.md, Table 14-6): Event bit number k. -/
def thmErrInfoCause : Fld := ⟨0x2038, 7, 0⟩
/-- THM_ERR_ADDR.SKEIN (14_thermal_and_energy.md, Table 14-6): Skein of the last media event. -/
def thmErrAddrSkein : Fld := ⟨0x2040, 22, 16⟩
/-- THM_ERR_ADDR.TEMP (14_thermal_and_energy.md, Table 14-6): Temperature at the event, signed, 1/16 °C. -/
def thmErrAddrTemp : Fld := ⟨0x2040, 15, 0⟩
/-- THM_CFG.LIMIT_C (14_thermal_and_energy.md, Table 14-6): Junction limit, °C. -/
def thmCfgLimitC : Fld := ⟨0x2100, 15, 8⟩
/-- THM_CFG.THROTTLE_C (14_thermal_and_energy.md, Table 14-6): Throttle start, °C; 85 to 100, other writes ignored. -/
def thmCfgThrottleC : Fld := ⟨0x2100, 7, 0⟩
/-- THM_POWER.MIN_F (14_thermal_and_energy.md, Table 14-6): Smallest f_s now, 1/128. -/
def thmPowerMinF : Fld := ⟨0x2108, 63, 48⟩
/-- THM_POWER.MEDIA_MW (14_thermal_and_energy.md, Table 14-6): Media power, last second, mW (R481). -/
def thmPowerMediaMw : Fld := ⟨0x2108, 47, 16⟩
/-- THM_POWER.CAP_W (14_thermal_and_energy.md, Table 14-6): Cap in force, W. -/
def thmPowerCapW : Fld := ⟨0x2108, 15, 0⟩
/-- THM_EXCL.TILES (14_thermal_and_energy.md, Table 14-6): Bit t: tile t excluded. -/
def thmExclTiles : Fld := ⟨0x2110, 63, 0⟩
/-- THM_TILE.F (14_thermal_and_energy.md, Table 14-7): f_tile, 1/128. -/
def thmTileF (j : Nat) : Fld := ⟨0x2200 + 8 * j, 47, 40⟩
/-- THM_TILE.DEV_ROUNDS (14_thermal_and_energy.md, Table 14-7): Consecutive deviating rounds. -/
def thmTileDevRounds (j : Nat) : Fld := ⟨0x2200 + 8 * j, 35, 34⟩
/-- THM_TILE.EXCL (14_thermal_and_energy.md, Table 14-7): Tile excluded. -/
def thmTileExcl (j : Nat) : Fld := ⟨0x2200 + 8 * j, 32, 32⟩
/-- THM_TILE.USED (14_thermal_and_energy.md, Table 14-7): Temperature used (R474), signed, 1/16 °C. -/
def thmTileUsed (j : Nat) : Fld := ⟨0x2200 + 8 * j, 31, 16⟩
/-- THM_TILE.RAW (14_thermal_and_energy.md, Table 14-7): Diode reading, signed, 1/16 °C. -/
def thmTileRaw (j : Nat) : Fld := ⟨0x2200 + 8 * j, 15, 0⟩
/-- THM_HIST_SEL.KIND (14_thermal_and_energy.md, Table 14-7): 0 die, 1 media. -/
def thmHistSelKind : Fld := ⟨0x2118, 4, 4⟩
/-- THM_HIST_SEL.BIN (14_thermal_and_energy.md, Table 14-7): Bin of Table 14-4. -/
def thmHistSelBin : Fld := ⟨0x2118, 3, 0⟩
/-- THM_HIST.MINUTES (14_thermal_and_energy.md, Table 14-7): Minutes in the selected bin. -/
def thmHistMinutes : Fld := ⟨0x2120, 31, 0⟩
/-- THM_MAX.MEDIA_MAX (14_thermal_and_energy.md, Table 14-7): All-time media maximum, 1/16 °C. -/
def thmMaxMediaMax : Fld := ⟨0x2128, 63, 48⟩
/-- THM_MAX.DIE_MAX (14_thermal_and_energy.md, Table 14-7): All-time die maximum, 1/16 °C. -/
def thmMaxDieMax : Fld := ⟨0x2128, 47, 32⟩
/-- THM_MAX.DIE_MAX_HOURS (14_thermal_and_energy.md, Table 14-7): Operating hours at DIE_MAX. -/
def thmMaxDieMaxHours : Fld := ⟨0x2128, 31, 0⟩
/-- THM_CNT.THROTTLE_PICKS (14_thermal_and_energy.md, Table 14-7): Skein-Picks with f_s below 1, saturating. -/
def thmCntThrottlePicks : Fld := ⟨0x2130, 63, 32⟩
/-- THM_CNT.EXCLUSIONS (14_thermal_and_energy.md, Table 14-7): Exclusions, saturating. -/
def thmCntExclusions : Fld := ⟨0x2130, 31, 16⟩
/-- THM_CNT.TRIPS (14_thermal_and_energy.md, Table 14-7): Hardware trips, saturating; spread counter 32 of Table 15-2, never cleared. -/
def thmCntTrips : Fld := ⟨0x2130, 15, 0⟩
/-- HKP_CAP.CONV_PICKS (14_thermal_and_energy.md, Table 14-8): Picks per conversion. -/
def hkpCapConvPicks : Fld := ⟨0x3008, 23, 16⟩
/-- HKP_CAP.DIODES (14_thermal_and_energy.md, Table 14-8): Diode channels. -/
def hkpCapDiodes : Fld := ⟨0x3008, 15, 8⟩
/-- HKP_CAP.CHANNELS (14_thermal_and_energy.md, Table 14-8): Channels per round. -/
def hkpCapChannels : Fld := ⟨0x3008, 7, 0⟩
/-- HKP_CTL.CNT_CLR (14_thermal_and_energy.md, Table 14-8): 1 clears HKP_STS.REF_FAILS. -/
def hkpCtlCntClr : Fld := ⟨0x3010, 0, 0⟩
/-- HKP_STS.ROUNDS (14_thermal_and_energy.md, Table 14-8): Rounds completed since power-up, saturating. -/
def hkpStsRounds : Fld := ⟨0x3018, 63, 32⟩
/-- HKP_STS.REF_FAILS (14_thermal_and_energy.md, Table 14-8): Rounds discarded under R469, saturating. -/
def hkpStsRefFails : Fld := ⟨0x3018, 31, 16⟩
/-- HKP_STS.CHANNEL (14_thermal_and_energy.md, Table 14-8): Channel converting now. -/
def hkpStsChannel : Fld := ⟨0x3018, 6, 0⟩
/-- HKP_ERR_INFO.CHANNEL (14_thermal_and_energy.md, Table 14-8): Channel of the last event. -/
def hkpErrInfoChannel : Fld := ⟨0x3038, 14, 8⟩
/-- HKP_ERR_INFO.CAUSE (14_thermal_and_energy.md, Table 14-8): Event bit number k. -/
def hkpErrInfoCause : Fld := ⟨0x3038, 7, 0⟩
/-- HKP_ERR_ADDR.VALUE (14_thermal_and_energy.md, Table 14-8): Reading at the event, mV. -/
def hkpErrAddrValue : Fld := ⟨0x3040, 15, 0⟩
/-- HKP_VOLT_CFG.WINDOW_PCT (14_thermal_and_energy.md, Table 14-8): Voltage window, ±%; 2 to 10, other writes ignored. -/
def hkpVoltCfgWindowPct : Fld := ⟨0x3100, 7, 0⟩
/-- HKP_CHAN_SEL.CHANNEL (14_thermal_and_energy.md, Table 14-8): Channel of Table 14-1; values above 95 act as 95. -/
def hkpChanSelChannel : Fld := ⟨0x3108, 6, 0⟩
/-- HKP_CHAN.ROUND (14_thermal_and_energy.md, Table 14-8): Round of the conversion, low 32 bits of ROUNDS. -/
def hkpChanRound : Fld := ⟨0x3110, 63, 32⟩
/-- HKP_CHAN.VALUE (14_thermal_and_energy.md, Table 14-8): mV, or signed 1/16 °C for channels 0 to 63. -/
def hkpChanValue : Fld := ⟨0x3110, 15, 0⟩
/-- NTN_CAP.COUNTERS (15_notion_store_and_events.md, Table 15-9): Spread counters. -/
def ntnCapCounters : Fld := ⟨0x4008, 39, 32⟩
/-- NTN_CAP.PAGES (15_notion_store_and_events.md, Table 15-9): Pages of 64 B. -/
def ntnCapPages : Fld := ⟨0x4008, 31, 0⟩
/-- NTN_CTL.SCRUB_NOW (15_notion_store_and_events.md, Table 15-9): 1 starts a scrub pass; ignored while SCRUBBING is 1. -/
def ntnCtlScrubNow : Fld := ⟨0x4010, 1, 1⟩
/-- NTN_CTL.CNT_CLR (15_notion_store_and_events.md, Table 15-9): 1 clears NTN_CNT. -/
def ntnCtlCntClr : Fld := ⟨0x4010, 0, 0⟩
/-- NTN_STS.QUEUE (15_notion_store_and_events.md, Table 15-9): Write requests queued. -/
def ntnStsQueue : Fld := ⟨0x4018, 24, 16⟩
/-- NTN_STS.SCRUBBING (15_notion_store_and_events.md, Table 15-9): Scrub pass running. -/
def ntnStsScrubbing : Fld := ⟨0x4018, 1, 1⟩
/-- NTN_STS.HEADER_SINGLE (15_notion_store_and_events.md, Table 15-9): Only one header copy valid. -/
def ntnStsHeaderSingle : Fld := ⟨0x4018, 0, 0⟩
/-- NTN_ERR_INFO.SYNDROME (15_notion_store_and_events.md, Table 15-10): Word check syndrome. -/
def ntnErrInfoSyndrome : Fld := ⟨0x4038, 23, 16⟩
/-- NTN_ERR_INFO.COUNTER (15_notion_store_and_events.md, Table 15-10): Counter, for counter events. -/
def ntnErrInfoCounter : Fld := ⟨0x4038, 13, 8⟩
/-- NTN_ERR_INFO.CAUSE (15_notion_store_and_events.md, Table 15-10): Event bit number k. -/
def ntnErrInfoCause : Fld := ⟨0x4038, 7, 0⟩
/-- NTN_ERR_ADDR.OFFSET (15_notion_store_and_events.md, Table 15-10): Byte offset of the word or record concerned. -/
def ntnErrAddrOffset : Fld := ⟨0x4040, 22, 0⟩
/-- NTN_SCRUB_CFG.PERIOD_H (15_notion_store_and_events.md, Table 15-10): Scrub period, operating hours; 1 to 8,760, other writes ignored. -/
def ntnScrubCfgPeriodH : Fld := ⟨0x4100, 15, 0⟩
/-- NTN_CNT.CORR (15_notion_store_and_events.md, Table 15-10): Corrected words, saturating. -/
def ntnCntCorr : Fld := ⟨0x4108, 63, 32⟩
/-- NTN_CNT.UNCORR (15_notion_store_and_events.md, Table 15-10): Uncorrectable words, saturating. -/
def ntnCntUncorr : Fld := ⟨0x4108, 31, 16⟩
/-- NTN_CNT.SCRUBS (15_notion_store_and_events.md, Table 15-10): Scrub passes, saturating. -/
def ntnCntScrubs : Fld := ⟨0x4108, 15, 0⟩
/-- NTN_CTR_SEL.COUNTER (15_notion_store_and_events.md, Table 15-10): Counter shown in NTN_CTR. -/
def ntnCtrSelCounter : Fld := ⟨0x4110, 5, 0⟩
/-- NTN_CTR.STATE (15_notion_store_and_events.md, Table 15-10): 0 OK, 1 at limit, 2 FAILED. -/
def ntnCtrState : Fld := ⟨0x4118, 63, 62⟩
/-- NTN_CTR.CELL (15_notion_store_and_events.md, Table 15-10): Cell holding the value. -/
def ntnCtrCell : Fld := ⟨0x4118, 61, 58⟩
/-- NTN_CTR.VALUE (15_notion_store_and_events.md, Table 15-10): Counter value. -/
def ntnCtrValue : Fld := ⟨0x4118, 55, 0⟩
/-- EVR_CAP.RECORD_BYTES (15_notion_store_and_events.md, Table 15-11): Bytes per record. -/
def evrCapRecordBytes : Fld := ⟨0x5008, 23, 16⟩
/-- EVR_CAP.RECORDS (15_notion_store_and_events.md, Table 15-11): Ring slots. -/
def evrCapRecords : Fld := ⟨0x5008, 15, 0⟩
/-- EVR_CTL.CNT_CLR (15_notion_store_and_events.md, Table 15-11): 1 clears EVR_CNT. -/
def evrCtlCntClr : Fld := ⟨0x5010, 0, 0⟩
/-- EVR_STS.QUEUE (15_notion_store_and_events.md, Table 15-11): Records waiting, 0 to 256. -/
def evrStsQueue : Fld := ⟨0x5018, 48, 40⟩
/-- EVR_STS.CLEARING (15_notion_store_and_events.md, Table 15-11): Clear running. -/
def evrStsClearing : Fld := ⟨0x5018, 32, 32⟩
/-- EVR_STS.VALID (15_notion_store_and_events.md, Table 15-11): Valid records in the ring. -/
def evrStsValid : Fld := ⟨0x5018, 30, 16⟩
/-- EVR_STS.HEAD (15_notion_store_and_events.md, Table 15-11): Next sequence to be written. -/
def evrStsHead : Fld := ⟨0x5018, 15, 0⟩
/-- EVR_ERR_INFO.CAUSE (15_notion_store_and_events.md, Table 15-12): Event bit number k. -/
def evrErrInfoCause : Fld := ⟨0x5038, 7, 0⟩
/-- EVR_ERR_ADDR.SEQ (15_notion_store_and_events.md, Table 15-12): Sequence concerned. -/
def evrErrAddrSeq : Fld := ⟨0x5040, 15, 0⟩
/-- EVR_CFG.REPEAT_MS (15_notion_store_and_events.md, Table 15-12): REPEAT write-back interval, ms; 10 to 4,000, other writes ignored. -/
def evrCfgRepeatMs : Fld := ⟨0x5100, 19, 8⟩
/-- EVR_CFG.MIN_SEV (15_notion_store_and_events.md, Table 15-12): Lowest severity recorded, 0 to 3. -/
def evrCfgMinSev : Fld := ⟨0x5100, 3, 0⟩
/-- EVR_RD_SEL.SLOT (15_notion_store_and_events.md, Table 15-12): Ring slot shown in EVR_RD0 to EVR_RD3. -/
def evrRdSelSlot : Fld := ⟨0x5108, 13, 0⟩
/-- EVR_RD.DATA (15_notion_store_and_events.md, Table 15-12): Record bytes 8i to 8i + 7 of the selected slot, read live under R505. -/
def evrRdData (j : Nat) : Fld := ⟨0x5110 + 8 * j, 63, 0⟩
/-- EVR_CNT.WRITTEN (15_notion_store_and_events.md, Table 15-12): Records written since power-up, saturating. -/
def evrCntWritten : Fld := ⟨0x5130, 63, 32⟩
/-- EVR_CNT.REPEATS (15_notion_store_and_events.md, Table 15-12): Occurrences folded, saturating. -/
def evrCntRepeats : Fld := ⟨0x5130, 31, 16⟩
/-- EVR_CNT.DROPS (15_notion_store_and_events.md, Table 15-12): Events not recorded, saturating. -/
def evrCntDrops : Fld := ⟨0x5130, 15, 0⟩
/-- FWU_CAP.SLOT_MIB (16_boot_firmware_attestation.md, Table 16-14): Size of each image area, MiB. -/
def fwuCapSlotMib : Fld := ⟨0x6008, 23, 16⟩
/-- FWU_CAP.MAX_CHUNK_LOG2 (16_boot_firmware_attestation.md, Table 16-14): Largest transfer chunk, log2 B. -/
def fwuCapMaxChunkLog2 : Fld := ⟨0x6008, 15, 8⟩
/-- FWU_CAP.MIN_CHUNK_LOG2 (16_boot_firmware_attestation.md, Table 16-14): Smallest transfer chunk, log2 B. -/
def fwuCapMinChunkLog2 : Fld := ⟨0x6008, 7, 4⟩
/-- FWU_CAP.SLOTS (16_boot_firmware_attestation.md, Table 16-14): Bootable slots. -/
def fwuCapSlots : Fld := ⟨0x6008, 3, 0⟩
/-- FWU_CTL.KEY (16_boot_firmware_attestation.md, Table 16-14): Must be 0xD5 for RECOVERY to act. -/
def fwuCtlKey : Fld := ⟨0x6010, 15, 8⟩
/-- FWU_CTL.RECOVERY (16_boot_firmware_attestation.md, Table 16-14): 1 enters recovery at the next device conventional reset. -/
def fwuCtlRecovery : Fld := ⟨0x6010, 1, 1⟩
/-- FWU_CTL.CNT_CLR (16_boot_firmware_attestation.md, Table 16-14): 1 clears FWU_CNT. -/
def fwuCtlCntClr : Fld := ⟨0x6010, 0, 0⟩
/-- FWU_STS.RECOVERED (16_boot_firmware_attestation.md, Table 16-14): Running slot installed by recovery. -/
def fwuStsRecovered : Fld := ⟨0x6018, 19, 19⟩
/-- FWU_STS.RECOVERY (16_boot_firmware_attestation.md, Table 16-14): Recovery mode. -/
def fwuStsRecovery : Fld := ⟨0x6018, 18, 18⟩
/-- FWU_STS.PAUSE (16_boot_firmware_attestation.md, Table 16-14): Management pause in progress. -/
def fwuStsPause : Fld := ⟨0x6018, 17, 17⟩
/-- FWU_STS.ARMED (16_boot_firmware_attestation.md, Table 16-14): Scheduled activation armed. -/
def fwuStsArmed : Fld := ⟨0x6018, 16, 16⟩
/-- FWU_STS.XFER (16_boot_firmware_attestation.md, Table 16-14): 0 idle, 1 PLDM, 2 CXL, 3 recovery DOE, 4 recovery MCTP. -/
def fwuStsXfer : Fld := ⟨0x6018, 11, 8⟩
/-- FWU_STS.SELF_CHECK (16_boot_firmware_attestation.md, Table 16-14): 0 none, 1 running, 2 passed, 3 failed. -/
def fwuStsSelfCheck : Fld := ⟨0x6018, 7, 6⟩
/-- FWU_STS.BOOT_STATE (16_boot_firmware_attestation.md, Table 16-14): 0 CONFIRMED, 1 PENDING_RESET, 2 TRIAL. -/
def fwuStsBootState : Fld := ⟨0x6018, 5, 4⟩
/-- FWU_STS.RUNNING (16_boot_firmware_attestation.md, Table 16-14): 0 slot A, 1 slot B. -/
def fwuStsRunning : Fld := ⟨0x6018, 0, 0⟩
/-- FWU_ERR_INFO.SLOT (16_boot_firmware_attestation.md, Table 16-15): Slot concerned. -/
def fwuErrInfoSlot : Fld := ⟨0x6038, 16, 16⟩
/-- FWU_ERR_INFO.REASON (16_boot_firmware_attestation.md, Table 16-15): 1 header, 2 RSA signature, 3 SLH-DSA signature, 4 key set, 5 leaf list, 6 leaf, 7 SVN, 8 stepping, 9 handover format. -/
def fwuErrInfoReason : Fld := ⟨0x6038, 15, 8⟩
/-- FWU_ERR_INFO.CAUSE (16_boot_firmware_attestation.md, Table 16-15): Event bit number k. -/
def fwuErrInfoCause : Fld := ⟨0x6038, 7, 0⟩
/-- FWU_ERR_ADDR.OFFSET (16_boot_firmware_attestation.md, Table 16-15): Image offset of the failing part. -/
def fwuErrAddrOffset : Fld := ⟨0x6040, 31, 0⟩
/-- FWU_SLOT_A.SVN (16_boot_firmware_attestation.md, Table 16-16): SVN of the slot's image; 0 when empty. -/
def fwuSlotASvn : Fld := ⟨0x6100, 63, 32⟩
/-- FWU_SLOT_A.VERSION (16_boot_firmware_attestation.md, Table 16-16): Header bytes 16–19; 0 when empty. -/
def fwuSlotAVersion : Fld := ⟨0x6100, 31, 0⟩
/-- FWU_SLOT_B.SVN (16_boot_firmware_attestation.md, Table 16-16): SVN of the slot's image; 0 when empty. -/
def fwuSlotBSvn : Fld := ⟨0x6108, 63, 32⟩
/-- FWU_SLOT_B.VERSION (16_boot_firmware_attestation.md, Table 16-16): Header bytes 16–19; 0 when empty. -/
def fwuSlotBVersion : Fld := ⟨0x6108, 31, 0⟩
/-- FWU_XFER.IMAGE_KIB (16_boot_firmware_attestation.md, Table 16-16): Image length, KiB. -/
def fwuXferImageKib : Fld := ⟨0x6110, 63, 40⟩
/-- FWU_XFER.CHUNK_LOG2 (16_boot_firmware_attestation.md, Table 16-16): Chunk in use, log2 B, 8 to 16. -/
def fwuXferChunkLog2 : Fld := ⟨0x6110, 36, 32⟩
/-- FWU_XFER.VERIFIED (16_boot_firmware_attestation.md, Table 16-16): Bytes received with every leaf verified. -/
def fwuXferVerified : Fld := ⟨0x6110, 31, 0⟩
/-- FWU_SCHED.PPS (16_boot_firmware_attestation.md, Table 16-16): Deadline PPS-aligned. -/
def fwuSchedPps : Fld := ⟨0x6118, 63, 63⟩
/-- FWU_SCHED.DEVTIME (16_boot_firmware_attestation.md, Table 16-16): Armed deadline; 0 when none. -/
def fwuSchedDevtime : Fld := ⟨0x6118, 62, 0⟩
/-- FWU_CONFIRM.SECONDS_LEFT (16_boot_firmware_attestation.md, Table 16-16): Operating seconds to the confirmation deadline; 0 outside TRIAL. -/
def fwuConfirmSecondsLeft : Fld := ⟨0x6120, 31, 0⟩
/-- FWU_CFG.CHUNK_LOG2 (16_boot_firmware_attestation.md, Table 16-16): Largest chunk requested, log2 B, 8 to 16; other writes ignored. -/
def fwuCfgChunkLog2 : Fld := ⟨0x6128, 20, 16⟩
/-- FWU_CFG.DEADLINE_H (16_boot_firmware_attestation.md, Table 16-16): Confirmation deadline, operating hours; 1 to 720; applies to the next activation. -/
def fwuCfgDeadlineH : Fld := ⟨0x6128, 15, 0⟩
/-- FWU_CNT.ACTIVATIONS (16_boot_firmware_attestation.md, Table 16-16): Saturating. -/
def fwuCntActivations : Fld := ⟨0x6130, 63, 32⟩
/-- FWU_CNT.FALLBACKS (16_boot_firmware_attestation.md, Table 16-16): Saturating. -/
def fwuCntFallbacks : Fld := ⟨0x6130, 31, 16⟩
/-- FWU_CNT.RESUMES (16_boot_firmware_attestation.md, Table 16-16): Saturating. -/
def fwuCntResumes : Fld := ⟨0x6130, 15, 0⟩
/-- TOP_CAP.SOURCES (17_register_map_and_counters.md, Table 17-4): Event sources. -/
def topCapSources : Fld := ⟨0x8, 47, 32⟩
/-- TOP_CAP.BAR_MIB (17_register_map_and_counters.md, Table 17-4): Control BAR size, MiB. -/
def topCapBarMib : Fld := ⟨0x8, 31, 24⟩
/-- TOP_CAP.HEADS (17_register_map_and_counters.md, Table 17-4): Heads, by HBIF. -/
def topCapHeads : Fld := ⟨0x8, 23, 16⟩
/-- TOP_CAP.PMC_PAGES (17_register_map_and_counters.md, Table 17-4): Counter pages. -/
def topCapPmcPages : Fld := ⟨0x8, 15, 8⟩
/-- TOP_CAP.MSIX_VECTORS (17_register_map_and_counters.md, Table 17-4): MSI-X vectors per head. -/
def topCapMsixVectors : Fld := ⟨0x8, 7, 0⟩
/-- TOP_CTL.PMC_FREEZE (17_register_map_and_counters.md, Table 17-4): 1 stops every counter of every PMC page in the same cycle. -/
def topCtlPmcFreeze : Fld := ⟨0x10, 8, 8⟩
/-- TOP_STS.HEADS_PRESENT (17_register_map_and_counters.md, Table 17-4): Per head: HST_STS.PRESENT. -/
def topStsHeadsPresent : Fld := ⟨0x18, 23, 16⟩
/-- TOP_STS.HEADS_UP (17_register_map_and_counters.md, Table 17-4): Per head: link in L0. -/
def topStsHeadsUp : Fld := ⟨0x18, 15, 8⟩
/-- TOP_STS.DEVICE_HALT (17_register_map_and_counters.md, Table 17-4): Mirrors CRY_STS.DEVICE_HALT. -/
def topStsDeviceHalt : Fld := ⟨0x18, 3, 3⟩
/-- TOP_STS.RECOVERY (17_register_map_and_counters.md, Table 17-4): Mirrors FWU_STS.RECOVERY. -/
def topStsRecovery : Fld := ⟨0x18, 2, 2⟩
/-- TOP_STS.MEM_ACTIVE (17_register_map_and_counters.md, Table 17-4): Memory_Active. -/
def topStsMemActive : Fld := ⟨0x18, 1, 1⟩
/-- TOP_STS.TIME_VALID (17_register_map_and_counters.md, Table 17-4): Mirrors TOP_TIME.VALID. -/
def topStsTimeValid : Fld := ⟨0x18, 0, 0⟩
/-- TOP_ERR_INFO.HEAD (17_register_map_and_counters.md, Table 17-5): Head of the captured access. -/
def topErrInfoHead : Fld := ⟨0x38, 19, 16⟩
/-- TOP_ERR_INFO.WRITE (17_register_map_and_counters.md, Table 17-5): 1: write. -/
def topErrInfoWrite : Fld := ⟨0x38, 15, 15⟩
/-- TOP_ERR_INFO.WIDTH (17_register_map_and_counters.md, Table 17-5): Bytes − 1 of the access. -/
def topErrInfoWidth : Fld := ⟨0x38, 14, 12⟩
/-- TOP_ERR_INFO.REASON (17_register_map_and_counters.md, Table 17-5): 1 alignment or width, 2 RO_MGMT, 3 unassigned offset. -/
def topErrInfoReason : Fld := ⟨0x38, 11, 8⟩
/-- TOP_ERR_INFO.CAUSE (17_register_map_and_counters.md, Table 17-5): Event bit number k. -/
def topErrInfoCause : Fld := ⟨0x38, 7, 0⟩
/-- TOP_ERR_ADDR.OFFSET (17_register_map_and_counters.md, Table 17-5): Control-BAR offset of the access. -/
def topErrAddrOffset : Fld := ⟨0x40, 24, 0⟩
/-- TOP_MIDX.ASSIGNED (17_register_map_and_counters.md, Table 17-5): Index assigned. -/
def topMidxAssigned : Fld := ⟨0x100, 31, 31⟩
/-- TOP_MIDX.INDEX (17_register_map_and_counters.md, Table 17-5): Machine-scope device index. -/
def topMidxIndex : Fld := ⟨0x100, 17, 0⟩
/-- TOP_TIME.EDGES (17_register_map_and_counters.md, Table 17-5): PPS edges accepted since power-up, saturating. -/
def topTimeEdges : Fld := ⟨0x108, 63, 32⟩
/-- TOP_TIME.STEPPED (17_register_map_and_counters.md, Table 17-5): The last accepted edge stepped DEVTIME. -/
def topTimeStepped : Fld := ⟨0x108, 2, 2⟩
/-- TOP_TIME.PPS_OK (17_register_map_and_counters.md, Table 17-5): An edge accepted within the last 3 s. -/
def topTimePpsOk : Fld := ⟨0x108, 1, 1⟩
/-- TOP_TIME.VALID (17_register_map_and_counters.md, Table 17-5): DEVTIME set since standby power good. -/
def topTimeValid : Fld := ⟨0x108, 0, 0⟩
/-- TOP_PPS.OFFSET_NS (17_register_map_and_counters.md, Table 17-5): Offset e at the last accepted edge, signed ns (R31). -/
def topPpsOffsetNs : Fld := ⟨0x110, 63, 32⟩
/-- TOP_PPS.IGNORED (17_register_map_and_counters.md, Table 17-5): Edges ignored under R32, saturating. -/
def topPpsIgnored : Fld := ⟨0x110, 31, 0⟩
/-- TOP_DEVTIME.NS (17_register_map_and_counters.md, Table 17-6): DEVTIME. -/
def topDevtimeNs : Fld := ⟨0x118, 63, 0⟩
/-- TOP_PICK.PICKS (17_register_map_and_counters.md, Table 17-6): Pick counter. -/
def topPickPicks : Fld := ⟨0x120, 63, 0⟩
/-- TOP_OPTIME.MS (17_register_map_and_counters.md, Table 17-6): Operating time, ms (counter 4 of Table 15-2). -/
def topOptimeMs : Fld := ⟨0x128, 63, 0⟩
/-- TOP_SERIAL.SERIAL (17_register_map_and_counters.md, Table 17-6): Unit serial, as in the device serial number capability. -/
def topSerialSerial : Fld := ⟨0x130, 63, 0⟩
/-- TOP_POP.PLY_GROUPS (17_register_map_and_counters.md, Table 17-6): P. -/
def topPopPlyGroups : Fld := ⟨0x138, 15, 8⟩
/-- TOP_POP.DIES (17_register_map_and_counters.md, Table 17-6): D. -/
def topPopDies : Fld := ⟨0x138, 4, 0⟩
/-- TOP_INT_CFG.HOLDOFF_US (17_register_map_and_counters.md, Table 17-6): Least interval between messages of one vector on one head, µs; 0 to 1,000, other writes ignored. -/
def topIntCfgHoldoffUs : Fld := ⟨0x140, 15, 0⟩
/-- TOP_SRC_PEND.RAISED (17_register_map_and_counters.md, Table 17-6): Bit b: source 64j + b is raised. -/
def topSrcPendRaised (j : Nat) : Fld := ⟨0x180 + 8 * j, 63, 0⟩
/-- PMC_CAP.EVENT_BITS (17_register_map_and_counters.md, Table 17-11): Event-number width. -/
def pmcCapEventBits (i : Nat) : Fld := ⟨0x30008 + i * 0x1000, 23, 16⟩
/-- PMC_CAP.WIDTH (17_register_map_and_counters.md, Table 17-11): Counter width. -/
def pmcCapWidth (i : Nat) : Fld := ⟨0x30008 + i * 0x1000, 15, 8⟩
/-- PMC_CAP.COUNTERS (17_register_map_and_counters.md, Table 17-11): Counters in the page. -/
def pmcCapCounters (i : Nat) : Fld := ⟨0x30008 + i * 0x1000, 7, 0⟩
/-- PMC_CTL.FREEZE_ON_OVF (17_register_map_and_counters.md, Table 17-11): Freeze the page at any overflow. -/
def pmcCtlFreezeOnOvf (i : Nat) : Fld := ⟨0x30010 + i * 0x1000, 3, 3⟩
/-- PMC_CTL.USER_READ (17_register_map_and_counters.md, Table 17-11): Show the page's counters in the user view. -/
def pmcCtlUserRead (i : Nat) : Fld := ⟨0x30010 + i * 0x1000, 2, 2⟩
/-- PMC_CTL.FREEZE (17_register_map_and_counters.md, Table 17-11): Page frozen; set by hardware under R567. -/
def pmcCtlFreeze (i : Nat) : Fld := ⟨0x30010 + i * 0x1000, 1, 1⟩
/-- PMC_CTL.CNT_CLR (17_register_map_and_counters.md, Table 17-11): 1 sets every counter of the page to 0 and clears PMC_OVF. -/
def pmcCtlCntClr (i : Nat) : Fld := ⟨0x30010 + i * 0x1000, 0, 0⟩
/-- PMC_STS.ENABLED (17_register_map_and_counters.md, Table 17-11): Counters with EN set. -/
def pmcStsEnabled (i : Nat) : Fld := ⟨0x30018 + i * 0x1000, 7, 0⟩
/-- PMC_ERR_INFO.CAUSE (17_register_map_and_counters.md, Table 17-11): Event bit number k. -/
def pmcErrInfoCause (i : Nat) : Fld := ⟨0x30038 + i * 0x1000, 7, 0⟩
/-- PMC_ERR_ADDR.COUNTER (17_register_map_and_counters.md, Table 17-11): Counter of the last overflow. -/
def pmcErrAddrCounter (i : Nat) : Fld := ⟨0x30040 + i * 0x1000, 5, 0⟩
/-- PMC_OVF.OVF (17_register_map_and_counters.md, Table 17-11): Bit k: counter k overflowed. -/
def pmcOvfOvf (i : Nat) : Fld := ⟨0x30100 + i * 0x1000, 63, 0⟩
/-- PMC_CFG.EN (17_register_map_and_counters.md, Table 17-12): Counter enabled. -/
def pmcCfgEn (i : Nat) (j : Nat) : Fld := ⟨0x30200 + i * 0x1000 + 8 * j, 31, 31⟩
/-- PMC_CFG.CHAIN (17_register_map_and_counters.md, Table 17-12): Count overflows of counter k − 1 (R568). -/
def pmcCfgChain (i : Nat) (j : Nat) : Fld := ⟨0x30200 + i * 0x1000 + 8 * j, 30, 30⟩
/-- PMC_CFG.INT_EN (17_register_map_and_counters.md, Table 17-12): Overflow raises OVERFLOW. -/
def pmcCfgIntEn (i : Nat) (j : Nat) : Fld := ⟨0x30200 + i * 0x1000 + 8 * j, 29, 29⟩
/-- PMC_CFG.ALL (17_register_map_and_counters.md, Table 17-12): Sum over all instances. -/
def pmcCfgAll (i : Nat) (j : Nat) : Fld := ⟨0x30200 + i * 0x1000 + 8 * j, 28, 28⟩
/-- PMC_CFG.INSTANCE (17_register_map_and_counters.md, Table 17-12): Head, ply group or skein when ALL is 0. -/
def pmcCfgInstance (i : Nat) (j : Nat) : Fld := ⟨0x30200 + i * 0x1000 + 8 * j, 26, 20⟩
/-- PMC_CFG.EVENT (17_register_map_and_counters.md, Table 17-12): Table 17-10. -/
def pmcCfgEvent (i : Nat) (j : Nat) : Fld := ⟨0x30200 + i * 0x1000 + 8 * j, 11, 0⟩
/-- PMC_CNT.COUNT (17_register_map_and_counters.md, Table 17-12): Count; a write loads it (R567). -/
def pmcCntCount (i : Nat) (j : Nat) : Fld := ⟨0x30400 + i * 0x1000 + 8 * j, 47, 0⟩
end F

/-- An event bit: the block and the instance of its page, and its bit in EVT_STS. -/
structure Evt where
  blk : Block
  inst : Nat
  bit : Nat
deriving DecidableEq, Repr

/-- Severity of each event bit, 0 Informational to 3 Fatal (R559, Table 17-7). -/
def evtSeverity : Block → Nat → Nat
  | .top, 0 => 1
  | .top, 1 => 1
  | .top, 2 => 1
  | .top, 6 => 1
  | .pwr, 2 => 2
  | .pwr, 3 => 1
  | .pwr, 4 => 1
  | .pwr, 5 => 2
  | .pwr, 6 => 2
  | .pwr, 7 => 2
  | .pwr, 8 => 1
  | .pwr, 10 => 2
  | .pwr, 11 => 1
  | .thm, 1 => 1
  | .thm, 3 => 1
  | .thm, 6 => 2
  | .thm, 7 => 3
  | .hkp, 0 => 1
  | .hkp, 1 => 1
  | .ntn, 1 => 1
  | .ntn, 2 => 1
  | .ntn, 3 => 1
  | .ntn, 4 => 1
  | .ntn, 5 => 2
  | .ntn, 6 => 1
  | .evr, 1 => 1
  | .evr, 3 => 1
  | .fwu, 1 => 1
  | .fwu, 4 => 1
  | .fwu, 6 => 1
  | .fwu, 8 => 1
  | .fwu, 10 => 1
  | .fwu, 11 => 1
  | .fwu, 12 => 1
  | .kve, 1 => 1
  | .kve, 2 => 2
  | .kve, 3 => 2
  | .kve, 4 => 1
  | .kve, 5 => 1
  | .flt, 1 => 1
  | .flt, 2 => 1
  | .flt, 3 => 1
  | .flt, 4 => 2
  | .flt, 5 => 2
  | .flt, 6 => 1
  | .flt, 7 => 1
  | .flt, 8 => 1
  | .epo, 4 => 1
  | .epo, 5 => 1
  | .epo, 6 => 1
  | .epo, 7 => 2
  | .epo, 8 => 2
  | .cry, 0 => 3
  | .cry, 1 => 2
  | .cry, 2 => 1
  | .cry, 3 => 1
  | .cry, 6 => 2
  | .cry, 11 => 1
  | .upk, 1 => 1
  | .upk, 3 => 1
  | .upk, 5 => 1
  | .upk, 7 => 1
  | .upk, 10 => 2
  | .upk, 11 => 2
  | .upk, 13 => 1
  | .map, 2 => 1
  | .map, 3 => 3
  | .map, 4 => 2
  | .map, 5 => 1
  | .map, 7 => 1
  | .map, 8 => 2
  | .map, 10 => 1
  | .map, 11 => 2
  | .map, 12 => 2
  | .map, 15 => 1
  | .fch, 0 => 1
  | .fch, 1 => 1
  | .fch, 2 => 2
  | .fch, 3 => 1
  | .fch, 4 => 2
  | .fch, 6 => 1
  | .fch, 7 => 1
  | .swt, 0 => 1
  | .swt, 3 => 2
  | .swt, 4 => 2
  | .wrp, 0 => 1
  | .wrp, 2 => 2
  | .wrp, 7 => 1
  | .hst, 0 => 1
  | .hst, 1 => 1
  | .hst, 2 => 2
  | .hst, 3 => 1
  | .hst, 4 => 1
  | .hst, 5 => 1
  | .hst, 7 => 1
  | .ply, 0 => 1
  | .ply, 1 => 2
  | .ply, 2 => 1
  | .ply, 4 => 1
  | .ply, 5 => 2
  | .ply, 6 => 2
  | .ply, 7 => 1
  | .skn, 0 => 1
  | .skn, 1 => 1
  | .skn, 2 => 1
  | .skn, 4 => 2
  | .skn, 5 => 1
  | .skn, 6 => 1
  | .skn, 9 => 1
  | .skn, 10 => 2
  | .skn, 12 => 1
  | .skn, 13 => 1
  | _, _ => 0

/-- The event source of an event bit (R559, Table 17-7). -/
def Evt.src (e : Evt) : Nat :=
  match e.blk with
  | .top => 736 + e.bit
  | .pwr => 640 + e.bit
  | .thm => 656 + e.bit
  | .hkp => 672 + e.bit
  | .ntn => 704 + e.bit
  | .evr => 712 + e.bit
  | .fwu => 720 + e.bit
  | .kve => 592 + e.bit
  | .flt => 744 + e.bit
  | .epo => 608 + e.bit
  | .cry => 576 + e.bit
  | .upk => 512 + e.bit
  | .map => 448 + e.bit
  | .fch => 384 + e.bit
  | .swt => 416 + e.bit
  | .wrp => 560 + e.bit
  | .hst => 320 + 8 * e.inst + e.bit
  | .ply => 256 + 8 * e.inst + e.bit
  | .pmc => 760 + 2 * e.inst + e.bit
  | .skn => 2 * e.inst + (if e.bit < 8 then 0 else 1)

/-- The severity of the event bit. -/
def Evt.sev (e : Evt) : Nat := evtSeverity e.blk e.bit

namespace Ev
/-- TOP_EVT_STS.ACCESS_ERR: Control-BAR access error (R7, R45, R551). -/
def topAccessErr : Evt := ⟨.top, 0, 0⟩
/-- TOP_EVT_STS.CONFIG: Population refused or mixed die counts (R22, R23). -/
def topConfig : Evt := ⟨.top, 0, 1⟩
/-- TOP_EVT_STS.PPS_LOST: No accepted edge for 3 s (R32). -/
def topPpsLost : Evt := ⟨.top, 0, 2⟩
/-- TOP_EVT_STS.PPS_LOCKED: An edge accepted after PPS_LOST, or the first since power-up. -/
def topPpsLocked : Evt := ⟨.top, 0, 3⟩
/-- TOP_EVT_STS.TIME_SET: Set Timestamp applied (R30). -/
def topTimeSet : Evt := ⟨.top, 0, 4⟩
/-- TOP_EVT_STS.MIDX_ASSIGNED: Machine-scope device index assigned (R11). -/
def topMidxAssigned : Evt := ⟨.top, 0, 5⟩
/-- TOP_EVT_STS.UNALIGNED_FIRE: A PPS-aligned deadline fired from DEVTIME alone (R33). -/
def topUnalignedFire : Evt := ⟨.top, 0, 6⟩
/-- PWR_EVT_STS.SEQ_DONE: ON reached. -/
def pwrSeqDone : Evt := ⟨.pwr, 0, 0⟩
/-- PWR_EVT_STS.DEV_RESET_DONE: Device conventional reset reached step 5. -/
def pwrDevResetDone : Evt := ⟨.pwr, 0, 1⟩
/-- PWR_EVT_STS.SEQ_ABORT: A sequence aborted. -/
def pwrSeqAbort : Evt := ⟨.pwr, 0, 2⟩
/-- PWR_EVT_STS.CHATTER: A chatter event. -/
def pwrChatter : Evt := ⟨.pwr, 0, 3⟩
/-- PWR_EVT_STS.STEP_TIMEOUT: A step reached its timeout. -/
def pwrStepTimeout : Evt := ⟨.pwr, 0, 4⟩
/-- PWR_EVT_STS.LATCHED: Sequencer entered LATCHED after aborts. -/
def pwrLatched : Evt := ⟨.pwr, 0, 5⟩
/-- PWR_EVT_STS.RAIL_STUCK: A rail stayed above its off threshold for 50 ms. -/
def pwrRailStuck : Evt := ⟨.pwr, 0, 6⟩
/-- PWR_EVT_STS.RAIL_LOST: A rail's good fell in ON. -/
def pwrRailLost : Evt := ⟨.pwr, 0, 7⟩
/-- PWR_EVT_STS.POWER_FAIL: VIN_SENSE fell below PFW_MV. -/
def pwrPowerFail : Evt := ⟨.pwr, 0, 8⟩
/-- PWR_EVT_STS.FLUSH_DONE: Last flush completed. -/
def pwrFlushDone : Evt := ⟨.pwr, 0, 9⟩
/-- PWR_EVT_STS.FLUSH_INCOMPLETE: Flush-in-progress marker found at power-up. -/
def pwrFlushIncomplete : Evt := ⟨.pwr, 0, 10⟩
/-- PWR_EVT_STS.CASCADE_TIMEOUT: SEQ_DN_IN still low at DN_WAIT_S. -/
def pwrCascadeTimeout : Evt := ⟨.pwr, 0, 11⟩
/-- PWR_EVT_STS.REFUSED: DEV_RESET, OFF, pulse or configuration write ignored. -/
def pwrRefused : Evt := ⟨.pwr, 0, 12⟩
/-- THM_EVT_STS.FIRST_ROUND: First round complete. -/
def thmFirstRound : Evt := ⟨.thm, 0, 0⟩
/-- THM_EVT_STS.SENSOR_EXCLUDED: A tile was excluded. -/
def thmSensorExcluded : Evt := ⟨.thm, 0, 1⟩
/-- THM_EVT_STS.READMITTED: A tile was readmitted. -/
def thmReadmitted : Evt := ⟨.thm, 0, 2⟩
/-- THM_EVT_STS.GRID_DEGRADED: Grid degraded. -/
def thmGridDegraded : Evt := ⟨.thm, 0, 3⟩
/-- THM_EVT_STS.THROTTLE_DIE: An f_tile fell below 1. -/
def thmThrottleDie : Evt := ⟨.thm, 0, 4⟩
/-- THM_EVT_STS.THROTTLE_MEDIA: An f_media fell below 1. -/
def thmThrottleMedia : Evt := ⟨.thm, 0, 5⟩
/-- THM_EVT_STS.MEDIA_LIMIT: A package at or above T_LIMIT. -/
def thmMediaLimit : Evt := ⟨.thm, 0, 6⟩
/-- THM_EVT_STS.TRIP: Hardware trip; seen at the next power-up. -/
def thmTrip : Evt := ⟨.thm, 0, 7⟩
/-- THM_EVT_STS.CAP_CHANGED: Media power cap changed. -/
def thmCapChanged : Evt := ⟨.thm, 0, 8⟩
/-- HKP_EVT_STS.ADC_REF_FAIL: Reference check failed. -/
def hkpAdcRefFail : Evt := ⟨.hkp, 0, 0⟩
/-- HKP_EVT_STS.VOLT_ALARM: A voltage outside its window. -/
def hkpVoltAlarm : Evt := ⟨.hkp, 0, 1⟩
/-- NTN_EVT_STS.WORD_CORRECTED: Word corrected. -/
def ntnWordCorrected : Evt := ⟨.ntn, 0, 0⟩
/-- NTN_EVT_STS.WORD_UNCORR: Uncorrectable word. -/
def ntnWordUncorr : Evt := ⟨.ntn, 0, 1⟩
/-- NTN_EVT_STS.RECORD_INVALID: A record found invalid. -/
def ntnRecordInvalid : Evt := ⟨.ntn, 0, 2⟩
/-- NTN_EVT_STS.COUNTER_SATURATED: An increment met its limit. -/
def ntnCounterSaturated : Evt := ⟨.ntn, 0, 3⟩
/-- NTN_EVT_STS.COUNTER_CELL_BAD: A cell failed read-back or scrub. -/
def ntnCounterCellBad : Evt := ⟨.ntn, 0, 4⟩
/-- NTN_EVT_STS.COUNTER_FAILED: A counter has no valid cell. -/
def ntnCounterFailed : Evt := ⟨.ntn, 0, 5⟩
/-- NTN_EVT_STS.LSA_WORD_LOST: An LSA word was rewritten as zeros. -/
def ntnLsaWordLost : Evt := ⟨.ntn, 0, 6⟩
/-- NTN_EVT_STS.SCRUB_DONE: Scrub pass complete. -/
def ntnScrubDone : Evt := ⟨.ntn, 0, 7⟩
/-- EVR_EVT_STS.STARTED: 0x2002 record written. -/
def evrStarted : Evt := ⟨.evr, 0, 0⟩
/-- EVR_EVT_STS.DROPPED: Events not recorded for a full queue. -/
def evrDropped : Evt := ⟨.evr, 0, 1⟩
/-- EVR_EVT_STS.CLEARED: Recorder cleared. -/
def evrCleared : Evt := ⟨.evr, 0, 2⟩
/-- EVR_EVT_STS.CLEAR_REFUSED: A clear request was refused. -/
def evrClearRefused : Evt := ⟨.evr, 0, 3⟩
/-- FWU_EVT_STS.XFER_DONE: Image verified and in its slot. -/
def fwuXferDone : Evt := ⟨.fwu, 0, 0⟩
/-- FWU_EVT_STS.XFER_FAIL: Transfer failed. -/
def fwuXferFail : Evt := ⟨.fwu, 0, 1⟩
/-- FWU_EVT_STS.XFER_RESUMED: Transfer resumed. -/
def fwuXferResumed : Evt := ⟨.fwu, 0, 2⟩
/-- FWU_EVT_STS.ACTIVATED: Activation complete. -/
def fwuActivated : Evt := ⟨.fwu, 0, 3⟩
/-- FWU_EVT_STS.ACTIVATION_FAILED: Activation rolled back. -/
def fwuActivationFailed : Evt := ⟨.fwu, 0, 4⟩
/-- FWU_EVT_STS.CONFIRMED: Image confirmed. -/
def fwuConfirmed : Evt := ⟨.fwu, 0, 5⟩
/-- FWU_EVT_STS.FALLBACK: Fell back to the previous image. -/
def fwuFallback : Evt := ⟨.fwu, 0, 6⟩
/-- FWU_EVT_STS.SETTINGS_DEFAULTED: A setting reset in migration. -/
def fwuSettingsDefaulted : Evt := ⟨.fwu, 0, 7⟩
/-- FWU_EVT_STS.SCHEDULE_LOST: Schedule disarmed by reset or power loss. -/
def fwuScheduleLost : Evt := ⟨.fwu, 0, 8⟩
/-- FWU_EVT_STS.BUNDLE_APPLIED: Bundle applied. -/
def fwuBundleApplied : Evt := ⟨.fwu, 0, 9⟩
/-- FWU_EVT_STS.BUNDLE_REFUSED: Bundle refused. -/
def fwuBundleRefused : Evt := ⟨.fwu, 0, 10⟩
/-- FWU_EVT_STS.WATCHDOG: Watchdog expired. -/
def fwuWatchdog : Evt := ⟨.fwu, 0, 11⟩
/-- FWU_EVT_STS.DEADLINE_NEAR: 1 h left to the confirmation deadline. -/
def fwuDeadlineNear : Evt := ⟨.fwu, 0, 12⟩
/-- KVE_EVT_STS.DRBG_READY: DRBG instantiated. -/
def kveDrbgReady : Evt := ⟨.kve, 0, 0⟩
/-- KVE_EVT_STS.ENTROPY_FAIL: A health test failed. -/
def kveEntropyFail : Evt := ⟨.kve, 0, 1⟩
/-- KVE_EVT_STS.DRBG_FAILED: DRBG entered FAILED. -/
def kveDrbgFailed : Evt := ⟨.kve, 0, 2⟩
/-- KVE_EVT_STS.UNWRAP_FAIL: A wrapped key failed to unwrap. -/
def kveUnwrapFail : Evt := ⟨.kve, 0, 3⟩
/-- KVE_EVT_STS.VERIFY_FAIL: Message or secret failed its tag. -/
def kveVerifyFail : Evt := ⟨.kve, 0, 4⟩
/-- KVE_EVT_STS.OVERSIZE: Operation refused: output above 4 KiB. -/
def kveOversize : Evt := ⟨.kve, 0, 5⟩
/-- KVE_EVT_STS.WRAP_WRITTEN: A wrapped-key record was written. -/
def kveWrapWritten : Evt := ⟨.kve, 0, 6⟩
/-- FLT_EVT_STS.TEST_PASS: A test passed; errors transient. -/
def fltTestPass : Evt := ⟨.flt, 0, 0⟩
/-- FLT_EVT_STS.TEST_FAIL: A test failed. -/
def fltTestFail : Evt := ⟨.flt, 0, 1⟩
/-- FLT_EVT_STS.RETIRED: A resource was retired. -/
def fltRetired : Evt := ⟨.flt, 0, 2⟩
/-- FLT_EVT_STS.THRESH_RETIRE: Retired by a Table 10-4 threshold. -/
def fltThreshRetire : Evt := ⟨.flt, 0, 3⟩
/-- FLT_EVT_STS.SPARE_EXHAUSTED: A failure found no spare. -/
def fltSpareExhausted : Evt := ⟨.flt, 0, 4⟩
/-- FLT_EVT_STS.QUAR_WRITTEN: Quarantine record written. -/
def fltQuarWritten : Evt := ⟨.flt, 0, 5⟩
/-- FLT_EVT_STS.QUAR_HIGH: Quarantine ring 75% full. -/
def fltQuarHigh : Evt := ⟨.flt, 0, 6⟩
/-- FLT_EVT_STS.PLY_TAKEOVER: A partner engine took over a group. -/
def fltPlyTakeover : Evt := ⟨.flt, 0, 7⟩
/-- FLT_EVT_STS.REQ_TIMEOUT: A request was reissued (R360). -/
def fltReqTimeout : Evt := ⟨.flt, 0, 8⟩
/-- FLT_EVT_STS.INJ_DONE: Injection fired COUNT times. -/
def fltInjDone : Evt := ⟨.flt, 0, 9⟩
/-- EPO_EVT_STS.PREPARE_DONE: Prepare complete. -/
def epoPrepareDone : Evt := ⟨.epo, 0, 0⟩
/-- EPO_EVT_STS.COMMIT_DONE: Cleanup complete. -/
def epoCommitDone : Evt := ⟨.epo, 0, 1⟩
/-- EPO_EVT_STS.ABORT_DONE: Abort complete. -/
def epoAbortDone : Evt := ⟨.epo, 0, 2⟩
/-- EPO_EVT_STS.REFUSED: Doorbell or EPOCH_EN write ignored. -/
def epoRefused : Evt := ⟨.epo, 0, 3⟩
/-- EPO_EVT_STS.RESERVE_HIGH: Reserve at 90% of cap. -/
def epoReserveHigh : Evt := ⟨.epo, 0, 4⟩
/-- EPO_EVT_STS.RESERVE_EXHAUSTED: Reserve exhausted. -/
def epoReserveExhausted : Evt := ⟨.epo, 0, 5⟩
/-- EPO_EVT_STS.FORCED_SEAL: A forced seal ran. -/
def epoForcedSeal : Evt := ⟨.epo, 0, 6⟩
/-- EPO_EVT_STS.RETAIN_STOPPED: Insertions stopped. -/
def epoRetainStopped : Evt := ⟨.epo, 0, 7⟩
/-- EPO_EVT_STS.RETAINED_LOST: A retained line was lost (R423). -/
def epoRetainedLost : Evt := ⟨.epo, 0, 8⟩
/-- CRY_EVT_STS.HALT_DEVICE: Device-scope halt. -/
def cryHaltDevice : Evt := ⟨.cry, 0, 0⟩
/-- CRY_EVT_STS.HALT_DOMAIN: Domain-scope halt. -/
def cryHaltDomain : Evt := ⟨.cry, 0, 1⟩
/-- CRY_EVT_STS.TAG_RECOVERED: Tag failure cleared by reconstruction. -/
def cryTagRecovered : Evt := ⟨.cry, 0, 2⟩
/-- CRY_EVT_STS.KEY_ABSENT_WRITE: Write to an EMPTY or FAILED domain discarded. -/
def cryKeyAbsentWrite : Evt := ⟨.cry, 0, 3⟩
/-- CRY_EVT_STS.KEY_LOADED: Key set, staged or generated. -/
def cryKeyLoaded : Evt := ⟨.cry, 0, 4⟩
/-- CRY_EVT_STS.KEY_DESTROYED: Domain key destroyed. -/
def cryKeyDestroyed : Evt := ⟨.cry, 0, 5⟩
/-- CRY_EVT_STS.KEY_FAILED: A domain entered FAILED. -/
def cryKeyFailed : Evt := ⟨.cry, 0, 6⟩
/-- CRY_EVT_STS.SEQ_HIGH: A counter passed 2^47. -/
def crySeqHigh : Evt := ⟨.cry, 0, 7⟩
/-- CRY_EVT_STS.REKEY_START: Generation switched. -/
def cryRekeyStart : Evt := ⟨.cry, 0, 8⟩
/-- CRY_EVT_STS.REKEY_DONE: Old generation zeroized. -/
def cryRekeyDone : Evt := ⟨.cry, 0, 9⟩
/-- CRY_EVT_STS.SWEEP_RESTART: Sweep pass restarted. -/
def crySweepRestart : Evt := ⟨.cry, 0, 10⟩
/-- CRY_EVT_STS.GEN_REFUSED: Key generation refused. -/
def cryGenRefused : Evt := ⟨.cry, 0, 11⟩
/-- UPK_EVT_STS.WRING_START: Free bolts below START. -/
def upkWringStart : Evt := ⟨.upk, 0, 0⟩
/-- UPK_EVT_STS.WRING_URGENT: Free bolts below URGENT. -/
def upkWringUrgent : Evt := ⟨.upk, 0, 1⟩
/-- UPK_EVT_STS.PRESS_QUEUED: A bolt or triple queued for Press. -/
def upkPressQueued : Evt := ⟨.upk, 0, 2⟩
/-- UPK_EVT_STS.PRESS_LATE: A queued bolt reached class 15. -/
def upkPressLate : Evt := ⟨.upk, 0, 3⟩
/-- UPK_EVT_STS.RINSE_PASS_DONE: Rinse pass complete. -/
def upkRinsePassDone : Evt := ⟨.upk, 0, 4⟩
/-- UPK_EVT_STS.RINSE_LATE: Period ended with the pass unfinished. -/
def upkRinseLate : Evt := ⟨.upk, 0, 5⟩
/-- UPK_EVT_STS.RINSE_ESCALATED: Rinse queued a bolt or triple for Press. -/
def upkRinseEscalated : Evt := ⟨.upk, 0, 6⟩
/-- UPK_EVT_STS.DARN_START: Darn started. -/
def upkDarnStart : Evt := ⟨.upk, 0, 7⟩
/-- UPK_EVT_STS.DARN_META_DONE: Darn phase 1 complete. -/
def upkDarnMetaDone : Evt := ⟨.upk, 0, 8⟩
/-- UPK_EVT_STS.DARN_DONE: Darn phase 2 complete. -/
def upkDarnDone : Evt := ⟨.upk, 0, 9⟩
/-- UPK_EVT_STS.SECOND_FAULT: Second retirement in a group under Darn. -/
def upkSecondFault : Evt := ⟨.upk, 0, 10⟩
/-- UPK_EVT_STS.EVACUATE: A stopped group is being evacuated. -/
def upkEvacuate : Evt := ⟨.upk, 0, 11⟩
/-- UPK_EVT_STS.SWAP_START: Static swap started. -/
def upkSwapStart : Evt := ⟨.upk, 0, 12⟩
/-- UPK_EVT_STS.PACE_LIMITED: A group reached its reset allowance. -/
def upkPaceLimited : Evt := ⟨.upk, 0, 13⟩
/-- UPK_EVT_STS.AGE_KNOWN: Age-unknown interval ended. -/
def upkAgeKnown : Evt := ⟨.upk, 0, 14⟩
/-- UPK_EVT_STS.RECOUNT_DONE: No COUNT_UNKNOWN bolt remains. -/
def upkRecountDone : Evt := ⟨.upk, 0, 15⟩
/-- MAP_EVT_STS.CKPT_DONE: Checkpoint complete. -/
def mapCkptDone : Evt := ⟨.map, 0, 0⟩
/-- MAP_EVT_STS.RECOVERY_DONE: STATE entered ACTIVE. -/
def mapRecoveryDone : Evt := ⟨.map, 0, 1⟩
/-- MAP_EVT_STS.DIRTY_RECOVERY: Recovery replayed the journal. -/
def mapDirtyRecovery : Evt := ⟨.map, 0, 2⟩
/-- MAP_EVT_STS.RECOVERY_FAIL: STATE entered FAILED. -/
def mapRecoveryFail : Evt := ⟨.map, 0, 3⟩
/-- MAP_EVT_STS.JNL_LINE_LOST: Replay ended at an unreadable journal line. -/
def mapJnlLineLost : Evt := ⟨.map, 0, 4⟩
/-- MAP_EVT_STS.JNL_OVERFLOW: Journal lines moved to the overflow area. -/
def mapJnlOverflow : Evt := ⟨.map, 0, 5⟩
/-- MAP_EVT_STS.SLV_REPAIRED: A failed Selvage copy was rewritten. -/
def mapSlvRepaired : Evt := ⟨.map, 0, 6⟩
/-- MAP_EVT_STS.SLV_SINGLE: Selvage lines now on a single copy. -/
def mapSlvSingle : Evt := ⟨.map, 0, 7⟩
/-- MAP_EVT_STS.SLV_LOST: All copies of a Selvage line lost. -/
def mapSlvLost : Evt := ⟨.map, 0, 8⟩
/-- MAP_EVT_STS.DIR_REBUILD_DONE: Rebuild of a lost Selvage line complete. -/
def mapDirRebuildDone : Evt := ⟨.map, 0, 9⟩
/-- MAP_EVT_STS.ENTRY_CHECK: A map, directory or internal-map check failed. -/
def mapEntryCheck : Evt := ⟨.map, 0, 10⟩
/-- MAP_EVT_STS.LINE_LOST: A line was made LOST. -/
def mapLineLost : Evt := ⟨.map, 0, 11⟩
/-- MAP_EVT_STS.BACKPTR_MISMATCH: Second back-pointer or SEQ10 mismatch on a read. -/
def mapBackptrMismatch : Evt := ⟨.map, 0, 12⟩
/-- MAP_EVT_STS.DIRTY_WAIT: A record waited at the dirty limit. -/
def mapDirtyWait : Evt := ⟨.map, 0, 13⟩
/-- MAP_EVT_STS.UNMAP_DONE: Background unmap complete. -/
def mapUnmapDone : Evt := ⟨.map, 0, 14⟩
/-- MAP_EVT_STS.CACHE_UNCORR: Uncorrectable map-cache word. -/
def mapCacheUncorr : Evt := ⟨.map, 0, 15⟩
/-- FCH_EVT_STS.CORR_THRESH: Correctable errors in 1 s exceeded CORR_THRESH. -/
def fchCorrThresh : Evt := ⟨.fch, 0, 0⟩
/-- FCH_EVT_STS.UNCORR_CLEAN: Uncorrectable word in a clean sector. -/
def fchUncorrClean : Evt := ⟨.fch, 0, 1⟩
/-- FCH_EVT_STS.UNCORR_DIRTY: Uncorrectable word in a dirty sector. -/
def fchUncorrDirty : Evt := ⟨.fch, 0, 2⟩
/-- FCH_EVT_STS.TAG_PARITY: Tag parity error. -/
def fchTagParity : Evt := ⟨.fch, 0, 3⟩
/-- FCH_EVT_STS.ECHO_UNCORR: Uncorrectable sidecar. -/
def fchEchoUncorr : Evt := ⟨.fch, 0, 4⟩
/-- FCH_EVT_STS.BANK_SPARED: A bank replaced by a spare. -/
def fchBankSpared : Evt := ⟨.fch, 0, 5⟩
/-- FCH_EVT_STS.GROUP_FOLDED: A bank group folded. -/
def fchGroupFolded : Evt := ⟨.fch, 0, 6⟩
/-- FCH_EVT_STS.FOLD_BLOCKED: Fold deferred by a carved window. -/
def fchFoldBlocked : Evt := ⟨.fch, 0, 7⟩
/-- FCH_EVT_STS.DIRTY_WAIT: A write waited at the dirty limit. -/
def fchDirtyWait : Evt := ⟨.fch, 0, 8⟩
/-- FCH_EVT_STS.DRAIN_DONE: DRAINING reached OFF. -/
def fchDrainDone : Evt := ⟨.fch, 0, 9⟩
/-- FCH_EVT_STS.MAINT_DONE: Maintenance operation complete. -/
def fchMaintDone : Evt := ⟨.fch, 0, 10⟩
/-- FCH_EVT_STS.REFUSED: Request ignored: ENABLE = 0 with a window, bad mask, bad maintenance or diagnostic access. -/
def fchRefused : Evt := ⟨.fch, 0, 11⟩
/-- SWT_EVT_STS.UNWRITTEN_READ: Read of an UNWRITTEN word. -/
def swtUnwrittenRead : Evt := ⟨.swt, 0, 0⟩
/-- SWT_EVT_STS.CARVE_DONE: Carve complete. -/
def swtCarveDone : Evt := ⟨.swt, 0, 1⟩
/-- SWT_EVT_STS.RELEASE_DONE: Release complete. -/
def swtReleaseDone : Evt := ⟨.swt, 0, 2⟩
/-- SWT_EVT_STS.RESTORE_FAIL: A line could not be restored at power-up. -/
def swtRestoreFail : Evt := ⟨.swt, 0, 3⟩
/-- SWT_EVT_STS.UNCORR: Uncorrectable window word. -/
def swtUncorr : Evt := ⟨.swt, 0, 4⟩
/-- SWT_EVT_STS.REFUSED: Carve or release ignored. -/
def swtRefused : Evt := ⟨.swt, 0, 5⟩
/-- WRP_EVT_STS.STALL: A watched wait exceeded 50 µs. -/
def wrpStall : Evt := ⟨.wrp, 0, 0⟩
/-- WRP_EVT_STS.STALL_CLEARED: The stalled wait ended. -/
def wrpStallCleared : Evt := ⟨.wrp, 0, 1⟩
/-- WRP_EVT_STS.STALL_PERSIST: A stalled wait still stood 1 ms after the switch. -/
def wrpStallPersist : Evt := ⟨.wrp, 0, 2⟩
/-- WRP_EVT_STS.VALIDATE_DONE: Validation complete. -/
def wrpValidateDone : Evt := ⟨.wrp, 0, 3⟩
/-- WRP_EVT_STS.VALIDATE_FAIL: A check failed. -/
def wrpValidateFail : Evt := ⟨.wrp, 0, 4⟩
/-- WRP_EVT_STS.REFUSED: Template write or template selection ignored. -/
def wrpRefused : Evt := ⟨.wrp, 0, 5⟩
/-- WRP_EVT_STS.AGING: A class was promoted under R268. -/
def wrpAging : Evt := ⟨.wrp, 0, 6⟩
/-- WRP_EVT_STS.DEFICIT_CLAMP: A balance reached −1,152 tokens. -/
def wrpDeficitClamp : Evt := ⟨.wrp, 0, 7⟩
/-- HST_EVT_STS.LINK_DOWN: Link left L0 for Detect. -/
def hstLinkDown (h : Nat) : Evt := ⟨.hst, h, 0⟩
/-- HST_EVT_STS.LINK_DEGRADED: Trained below MAX_SPEED or full width. -/
def hstLinkDegraded (h : Nat) : Evt := ⟨.hst, h, 1⟩
/-- HST_EVT_STS.IDE_FAIL: IDE integrity failure. -/
def hstIdeFail (h : Nat) : Evt := ⟨.hst, h, 2⟩
/-- HST_EVT_STS.OUTSIDE_EXTENT: Access outside the domain's extent. -/
def hstOutsideExtent (h : Nat) : Evt := ⟨.hst, h, 3⟩
/-- HST_EVT_STS.POISON_RECEIVED: Poisoned write received. -/
def hstPoisonReceived (h : Nat) : Evt := ⟨.hst, h, 4⟩
/-- HST_EVT_STS.CORR_THRESH: Correctable link errors in 1 s exceeded CORR_THRESH. -/
def hstCorrThresh (h : Nat) : Evt := ⟨.hst, h, 5⟩
/-- HST_EVT_STS.DEVLOAD_SEVERE: DevLoad reported Severe Overload. -/
def hstDevloadSevere (h : Nat) : Evt := ⟨.hst, h, 6⟩
/-- HST_EVT_STS.PROTOCOL_ERR: Invalid opcode, or access before Memory_Active. -/
def hstProtocolErr (h : Nat) : Evt := ⟨.hst, h, 7⟩
/-- PLY_EVT_STS.NARROWED: WIDTH fell. -/
def plyNarrowed (g : Nat) : Evt := ⟨.ply, g, 0⟩
/-- PLY_EVT_STS.WIDTH_STOPPED: Fewer than 12 live skeins. -/
def plyWidthStopped (g : Nat) : Evt := ⟨.ply, g, 1⟩
/-- PLY_EVT_STS.ADMIT_STOPPED: Admission stopped at the free-bolt floor. -/
def plyAdmitStopped (g : Nat) : Evt := ⟨.ply, g, 2⟩
/-- PLY_EVT_STS.BOLT_CLOSED_EARLY: An open bolt closed early. -/
def plyBoltClosedEarly (g : Nat) : Evt := ⟨.ply, g, 3⟩
/-- PLY_EVT_STS.MERGE_RECOVERED: Old line verified after reconstruction. -/
def plyMergeRecovered (g : Nat) : Evt := ⟨.ply, g, 4⟩
/-- PLY_EVT_STS.MERGE_FAIL: Reconstructed old line did not verify. -/
def plyMergeFail (g : Nat) : Evt := ⟨.ply, g, 5⟩
/-- PLY_EVT_STS.STAGE_UNCORR: Uncorrectable staging word. -/
def plyStageUncorr (g : Nat) : Evt := ⟨.ply, g, 6⟩
/-- PLY_EVT_STS.ISLAND_FAULT: Island voltage difference beyond limit. -/
def plyIslandFault (g : Nat) : Evt := ⟨.ply, g, 7⟩
/-- PMC_EVT_STS.OVERFLOW: A counter with INT_EN overflowed. -/
def pmcOverflow (i : Nat) : Evt := ⟨.pmc, i, 0⟩
/-- PMC_EVT_STS.FROZEN: Page frozen by an overflow. -/
def pmcFrozen (i : Nat) : Evt := ⟨.pmc, i, 1⟩
/-- SKN_EVT_STS.PROGRAM_FAIL: PROGRAM completed with FAIL or REFUSED. -/
def sknProgramFail (n : Nat) : Evt := ⟨.skn, n, 0⟩
/-- SKN_EVT_STS.RESET_FAIL: RESET completed with FAIL or REFUSED. -/
def sknResetFail (n : Nat) : Evt := ⟨.skn, n, 1⟩
/-- SKN_EVT_STS.MEDIA_ERR: KIND MEDIA_ERR received, or a die not responding. -/
def sknMediaErr (n : Nat) : Evt := ⟨.skn, n, 2⟩
/-- SKN_EVT_STS.TEMP_THROTTLE: Package at or above T_THROTTLE. -/
def sknTempThrottle (n : Nat) : Evt := ⟨.skn, n, 3⟩
/-- SKN_EVT_STS.TEMP_LIMIT: Package at or above T_LIMIT. -/
def sknTempLimit (n : Nat) : Evt := ⟨.skn, n, 4⟩
/-- SKN_EVT_STS.TEMP_INVALID: 3 temperature polls failed. -/
def sknTempInvalid (n : Nat) : Evt := ⟨.skn, n, 5⟩
/-- SKN_EVT_STS.PKG_SHORT: A Table 8-13 row matched. -/
def sknPkgShort (n : Nat) : Evt := ⟨.skn, n, 6⟩
/-- SKN_EVT_STS.LINK_UP: Link entered ACTIVE. -/
def sknLinkUp (n : Nat) : Evt := ⟨.skn, n, 8⟩
/-- SKN_EVT_STS.LINK_DOWN: Link left ACTIVE. -/
def sknLinkDown (n : Nat) : Evt := ⟨.skn, n, 9⟩
/-- SKN_EVT_STS.LINK_FAILED: Link entered FAILED. -/
def sknLinkFailed (n : Nat) : Evt := ⟨.skn, n, 10⟩
/-- SKN_EVT_STS.RETRAIN: Link entered RETRAIN. -/
def sknRetrain (n : Nat) : Evt := ⟨.skn, n, 11⟩
/-- SKN_EVT_STS.CRC_THRESH: Link failures in 1 s above CRC_THRESH. -/
def sknCrcThresh (n : Nat) : Evt := ⟨.skn, n, 12⟩
/-- SKN_EVT_STS.SB_FAIL: Sideband transaction failed after retries. -/
def sknSbFail (n : Nat) : Evt := ⟨.skn, n, 13⟩
/-- SKN_EVT_STS.VERSION_LOW: Negotiated below VERSION_MAX. -/
def sknVersionLow (n : Nat) : Evt := ⟨.skn, n, 14⟩
end Ev

end Sys2Proof.Machine
end

