-- ==== Sys2Proof/Machine/Tab.lean ====
section
/-!
DEFINITION. Sparse tables as plain data. A table is a list of (key, value) pairs; a key that is not listed has
the value a default function gives it. The canonical form (keys strictly rising, no pair equal to its default) makes
equal tables equal data.
-/
namespace Sys2Proof.Machine

/-- A sparse table: keys rising, and no pair that equals its key's default. -/
abbrev Tab (α : Type) := List (Nat × α)

/-- What key `k` holds. -/
def Tab.get {α : Type} (d : Nat → α) : Tab α → Nat → α
  | [], k => d k
  | (j, v) :: t, k => if j = k then v else Tab.get d t k

/-- The table without key `k`. -/
def Tab.erase {α : Type} : Tab α → Nat → Tab α
  | [], _ => []
  | (j, v) :: t, k => if j = k then t else (j, v) :: Tab.erase t k

/-- The table with key `k` listed with `v`, in its place. -/
def Tab.put {α : Type} : Tab α → Nat → α → Tab α
  | [], k, v => [(k, v)]
  | (j, w) :: t, k, v =>
    if k < j then (k, v) :: (j, w) :: t
    else if j = k then (k, v) :: t
    else (j, w) :: Tab.put t k v

/-- The table in which key `k` holds `v`: listed, or left out when `v` is the default. -/
def Tab.set {α : Type} [DecidableEq α] (d : Nat → α) (t : Tab α) (k : Nat) (v : α) : Tab α :=
  if v = d k then Tab.erase t k else Tab.put t k v

/-- Every key of the table is above `b`, and the keys rise. -/
def Tab.risesFrom {α : Type} : Option Nat → Tab α → Bool
  | _, [] => true
  | none, (j, _) :: t => Tab.risesFrom (some j) t
  | some b, (j, _) :: t => decide (b < j) && Tab.risesFrom (some j) t

/-- No listed pair equals the default of its key. -/
def Tab.noDefault {α : Type} [DecidableEq α] (d : Nat → α) (t : Tab α) : Bool :=
  t.all fun p => decide (p.2 ≠ d p.1)

/-- The canonical form. -/
def Tab.wf {α : Type} [DecidableEq α] (d : Nat → α) (t : Tab α) : Bool :=
  Tab.risesFrom none t && Tab.noDefault d t

/-- The table after every listed value went through `f` (values that become default drop out). -/
def Tab.mapVals {α : Type} [DecidableEq α] (d : Nat → α) (f : Nat → α → α) (t : Tab α) : Tab α :=
  (t.map fun p => (p.1, f p.1 p.2)).filter fun p => decide (p.2 ≠ d p.1)

/-- The table with only the pairs that satisfy `p`; the others fall back to their default. -/
def Tab.keep {α : Type} (p : Nat → α → Bool) (t : Tab α) : Tab α :=
  t.filter fun x => p x.1 x.2

end Sys2Proof.Machine
end

