-- ==== Sys2Proof/Machine/Data.lean ====
section
/-!
DEFINITION. The kinds of data the block holds, group by group, as plain data. Machine/State.lean puts them together.
-/
namespace Sys2Proof.Machine

/-! ### Requests, responses and outputs -/

/-- A host request that the block has taken in and not yet answered: a 64-byte read, or a write of the enabled bytes
of one sector (R54). `line` is the host logical line index after decode, `dom` its key domain. -/
structure Req where
  h : Nat
  tag : Nat
  line : Nat
  dom : Nat
  sec : Nat
  wr : Bool
  data : Sector
  be : BitVec 64
  poison : Bool
  /-- poison that a crossing queue could not replay: listed as Internal, not received from a host (Table 3-7) -/
  intern : Bool
deriving DecidableEq, Repr

/-- Mailbox return codes the chapters name. -/
inductive Rc where
  | success | backgroundStarted | invalidInput | unsupported | internalError | busy | invalidSecurityState
  | mediaDisabled | injectPoisonLimit | invalidPhysicalAddress | fwTransferInProgress | fwVerificationFailed
  | activationFailed | invalidSlot | transferOutOfOrder | invalidHandle | retryRequired
deriving DecidableEq, Repr

/-- What the block shows the outside world while it carries out one command. Payload fields are listed in the order
of their layout table. -/
inductive Output where
  /-- the interface that would take the command is off, in reset or not ready -/
  | notAccepted
  /-- a mailbox command held during a management pause (R69): it is presented again when the pause ends -/
  | held
  /-- S2M NDR Cmp, with the head's DevLoad class -/
  | cmp (h tag devload : Nat)
  /-- S2M DRS MemData, MetaField No-Op (R58) -/
  | memData (h tag : Nat) (data : Sector) (poison : Bool) (devload : Nat)
  /-- data of a control-BAR read -/
  | barData (h : Nat) (data : Word)
  /-- mailbox completion -/
  | mbox (h : Nat) (rc : Rc) (fields : List Nat)
  /-- GPF Phase 2 Response of a head -/
  | gpf (h : Nat) (error : Bool)
  /-- MSI-X message -/
  | msix (h vector : Nat)
  /-- DOE, SPDM or PLDM answer: an opcode or message code, a status and its fields -/
  | answer (code status : Nat) (fields : List Nat)
  /-- command field and entries of a downstream slot of a skein: operation code, address, entries -/
  | downstream (n op addr : Nat) (fields : List Nat)
  /-- sideband command of a skein -/
  | sideband (n op : Nat)
  /-- a line written to the Selvage: Selvage line, purpose code -/
  | selvageWrite (line purpose : Nat)
  /-- a common command code answered or not acknowledged on I3C -/
  | i3c (ack : Bool) (fields : List Nat)
deriving DecidableEq, Repr

/-! ### Time (ch. 1) -/

structure Time where
  slot : Nat
  pick : Nat
  opNs : Nat
  devtime : Nat
  /-- nanoseconds since standby power good: the always-on tick seen at DEVTIME's own grain -/
  upNs : Nat
  slewLeft : Nat
  slewE : Int
  slewAcc : Int
  ppsLocked : Bool
  lastEdge : Option Nat
  candidate : Option Nat
  /-- DEVTIME second marked by the last accepted edge, in ns; `none` before the first -/
  marked : Option Nat
  /-- the last Set Timestamp: when it came (`upNs`), DEVTIME before, DEVTIME after -/
  setTs : Option (Nat × Nat × Nat)
deriving DecidableEq, Repr

/-! ### Events, recorder, routing (ch. 15, 17) -/

/-- An event waiting to be recorded (R502), or one of the recorder's own records (R600). -/
structure QRec where
  code : Nat
  src : Nat
  sev : Nat
  p0 : Nat
  p1 : Nat
  p2 : Nat
  time : Nat
  off : Bool
deriving DecidableEq, Repr

/-- A record of the event recorder ring (Table 15-5); its CRC is computed where the record is read. -/
structure EvRec where
  code : Nat
  src : Nat
  sev : Nat
  hours : Nat
  cycles : Nat
  flags : Nat
  rep : Nat
  seq : Nat
  p0 : Nat
  p1 : Nat
  p2 : Nat
deriving DecidableEq, Repr

/-- Kinds of CXL event records the block posts. -/
inductive CxlKind where
  | vendor | generalMedia | healthAlert
deriving DecidableEq, Repr

/-- A CXL event record as a head's log holds it: kind, severity, timestamp, the machine-index word, and its data (for
a vendor record the recorder record's code, source word and parameters; for a General Media Event the DPA, the memory
event type and flags). -/
structure CxlRec where
  handle : Nat
  kind : CxlKind
  sev : Nat
  time : Nat
  midx : Nat
  data : List Nat
deriving DecidableEq, Repr

structure EvtState where
  queue : List QRec
  /-- events that found the queue full since the last 0x2003 record -/
  dropped : Nat
  ring : Tab (Option EvRec)
  next : Nat
  /-- REPEAT of the newest record's SRAM copy, when it differs from the ring (R504) -/
  fold : Option Nat
  /-- sequence of the newest record written, none in a blank ring -/
  newest : Option Nat
  clearing : Bool
  handle : Nat
deriving DecidableEq, Repr

/-! ### Heads (ch. 2) -/

inductive LinkState where
  | off | detect | training | active | recovery | d3
deriving DecidableEq, Repr

/-- One HDM decoder (R48). -/
structure Decoder where
  committed : Bool
  err : Bool
  lock : Bool
  base : Nat
  size : Nat
  ways : Nat
  gran : Nat
  dpaBase : Nat
  skip : Nat
deriving DecidableEq, Repr

def Decoder.none : Decoder := ⟨false, false, false, 0, 0, 1, 256, 0, 0⟩

structure Head where
  perst : Bool
  link : LinkState
  width : Nat
  speed : Nat
  reversed : Bool
  polarity : Nat
  decoders : Tab Decoder
  ideMode : Nat
  ideKeys : Bool
  ideInsecure : Bool
  ioLink : Bool
  ioSel : Bool
  /-- LINK_DOWN raised in the present attempt sequence (R40) -/
  attemptDown : Bool
  /-- PROTOCOL_ERR raised in the present period of Memory_Active = 0 (R47) -/
  inactiveErr : Bool
  corrWin : Nat
  corrStart : Nat
  corrDone : Bool
  logs : Quad (List CxlRec)
  ovf : Quad Nat
  rspLimit : Nat
  evtPolicy : Quad Nat
  msixOn : Bool
  msixMask : BitVec 64
  msixPend : BitVec 64
  msixLast : Tab (Option Nat)
  /-- latched upper half of ERR_INFO and ERR_ADDR for each page (R557), keyed by the page base -/
  latch : Tab (Option (BitVec 32 × Word))
  cdatSeq : Nat
  /-- a write of the head waited at the dirty limit in this Pick (R67) -/
  waited : Bool
  /-- DevLoad Severe already reported since it last was not -/
  severe : Bool
deriving DecidableEq, Repr

def Head.fresh : Head :=
  { perst := true, link := .off, width := 0, speed := 0, reversed := false, polarity := 0, decoders := [],
    ideMode := 0, ideKeys := false, ideInsecure := false, ioLink := false, ioSel := false, attemptDown := false,
    inactiveErr := false, corrWin := 0, corrStart := 0, corrDone := false, logs := Quad.all [], ovf := Quad.all 0,
    rspLimit := 16, evtPolicy := Quad.all 0, msixOn := false, msixMask := BitVec.allOnes 64, msixPend := 0#64,
    msixLast := [], latch := [], cdatSeq := 0, waited := false, severe := false }

/-- The background operation of the device (R70). -/
inductive BgKind where
  | scan | sanitize | secureErase | shrink | transferFw
deriving DecidableEq, Repr

structure HostState where
  hbif : Bool
  heads : Tab Head
  /-- Memory_Active of every head (R515) -/
  memActive : Bool
  bg : Option (BgKind × Nat)
  /-- the last background operation that ended: its kind, the head that started it, its return code -/
  bgLast : Option (BgKind × Nat × Rc)
  /-- lines of extents released and still being unmapped: first line, count (R53) -/
  released : Option (Nat × Nat)
  /-- Sanitize or Secure Erase running (R72) -/
  sanitizing : Bool
  egressOn : Bool
  egressModerate : Nat
  egressSevere : Nat
  backpressure : Tab Nat
  shutdownState : Nat
  subsystem : Nat × Nat
deriving DecidableEq, Repr

/-! ### Front cache, Swatch window, crossing queues (ch. 3) -/

/-- A line of the main array, the victim cache or the side buffer with its sidecar (Table 3-2). `stamp` orders lines
by their latest write. -/
structure CLine where
  line : Nat
  dom : Nat
  sv : BitVec 4
  sd : BitVec 4
  sp : BitVec 4
  fold : Bool
  d : Quad Sector
  /-- epoch tag of the line's oldest dirty data: bit 0 of the phase count when the write was accepted (R412) -/
  ep : Bool
  stamp : Nat
  /-- handed to a ply engine and not yet in staging (R99) -/
  handed : Bool
  /-- flipped SRAM bits not yet met (R93, R367): array (0 data, 1 sidecar, 2 tag), word of the line plus 32 × bank, and
  whether two bits of one codeword are flipped -/
  flaw : List (Nat × Nat × Bool)
deriving DecidableEq, Repr

structure Tracker where
  dom : Nat
  next : Nat
  up : Bool
  hits : Nat
  active : Bool
  /-- the tracker has had its first active stream since power-up (R102) -/
  warmed : Bool
  last : Nat
  /-- next line to prefetch -/
  issue : Nat
deriving DecidableEq, Repr

/-- A miss-status entry: the line, the requests attached in arrival order, and what the fill is for. -/
structure Mshr where
  line : Nat
  dom : Nat
  reqs : List Req
  /-- requests that came after newer data of the line had left the cache: they look the line up again -/
  again : List Req
  /-- a prefetch fill: goes to the side buffer -/
  pf : Bool
  /-- a write was accepted meanwhile: a prefetch fill is discarded (R105); newer data of the line left for staging: a
  demand fill is not installed -/
  drop : Bool
  /-- a maintenance operation waits for the fill (R122) -/
  maint : Bool
deriving DecidableEq, Repr

inductive FchMode where
  | off | enabling | on | draining
deriving DecidableEq, Repr

/-- A running maintenance operation (R120): the operation, its range, and the lines it wrote back that are not yet in
staging. -/
structure Maint where
  op : Nat
  first : Nat
  count : Nat
  waiting : List Nat
  fills : List Nat
deriving DecidableEq, Repr

structure FchState where
  mode : FchMode
  arr : Tab (Option CLine)
  plru : Tab (BitVec 15)
  victim : List CLine
  side : List CLine
  trackers : List Tracker
  mshr : List Mshr
  missWait : List Req
  dirtyWait : List Req
  /-- writes whose allocation waits for a clean victim entry (R99) -/
  evictWait : List Req
  /-- raw words of emptied ways, as diagnostic writes left them (R137, R138): key (16 × set + way) × 32 + word -/
  raw : Tab (Option (BitVec 64 × BitVec 8))
  cleaning : Bool
  folded : BitVec 16
  /-- spares used: key = bank group × 3 + array (0 data, 1 sidecar, 2 tag) -/
  spares : Tab Nat
  foldWait : BitVec 16
  maint : Option Maint
  /-- ways taken out of every mask and being emptied (R98) -/
  emptying : BitVec 16
  wayEmpty : BitVec 16
  eccWin : Nat
  eccStart : Nat
  eccDone : Bool
  stamp : Nat
  /-- the dirty limit in force, MiB, and the one PWR_HOLDUP_REQ still covers (R220) -/
  limit : Nat
  holdLimit : Nat
deriving DecidableEq, Repr

inductive WordSt where
  | unwritten | written | poisoned
deriving DecidableEq, Repr

/-- A 64-bit word of the window. `known` is false while its data and check bits are undefined (R131). -/
structure WWord where
  st : WordSt
  data : BitVec 64
  chk : BitVec 8
  known : Bool
deriving DecidableEq, Repr

def WWord.fresh : WWord := ⟨.unwritten, 0#64, 0#8, false⟩

inductive SwtSt where
  | none | carving | active | releasing | restoring
deriving DecidableEq, Repr

/-- The Swatch window record of the Notion store (R133). -/
structure SwtRec where
  releasing : Bool
  ways : Nat
  base : Nat
  keep : Bool
  pos : Nat
deriving DecidableEq, Repr

/-- A save of the window in the Selvage save area. -/
structure SwtSave where
  dflt : WWord
  words : Tab WWord
  /-- made by the flush that ended the power cycle -/
  final : Bool
deriving DecidableEq, Repr

structure SwtState where
  st : SwtSt
  ways : Nat
  base : Nat
  dom : Nat
  keep : Bool
  pos : Nat
  dflt : WWord
  words : Tab WWord
  record : Option SwtRec
  save : Option SwtSave
  /-- the line being handed back, until its MAP record is durable (KEEP = 1) -/
  handing : Option Nat
deriving DecidableEq, Repr

/-- A packet marked poisoned and waiting for its replay (R141). -/
structure QPkt where
  q : Nat
  pkt : PacketRef
deriving DecidableEq, Repr

/-! ### Line Map (ch. 4) -/

/-- A map entry without its check byte (Table 4-1); `st` 0 UNMAPPED, 1 MAPPED, 2 LOST. -/
structure Entry where
  st : Nat
  sp : BitVec 4
  epoch : Bool
  seq10 : Nat
  addr : Nat
deriving DecidableEq, Repr

def Entry.unmapped : Entry := ⟨0, 0#4, false, 0, 0⟩
def Entry.lost : Entry := ⟨2, 0#4, false, 0, 0⟩

/-- A line present in the map cache: kind 0 map, 1 directory, 2 internal map, 3 tag or log. -/
structure MSlot where
  kind : Nat
  idx : Nat
  dirty : Bool
  /-- JSN of the oldest change not yet on media -/
  oldest : Nat
  newest : Nat
  stamp : Nat
  /-- its way in the set that R164 gives -/
  way : Nat
deriving DecidableEq, Repr

inductive JKind where
  | map | dir | unmap | checkpoint
deriving DecidableEq, Repr

/-- A journal record (Table 4-7), with what it replaced, so that records that never became durable can be taken back
at a power loss. -/
structure JRec where
  jsn : Nat
  kind : JKind
  line : Nat
  reloc : Bool
  tag : Option (BitVec 64)
  dom : Nat
  ent : Entry
  count : Nat
  clean : Bool
  /-- what the record replaced: lines with their entry and tag, and the directory entry -/
  old : List (Nat × Entry × BitVec 64)
  oldDir : Option Nat
deriving DecidableEq, Repr

/-- The anchor record of the Notion store (Table 4-9). -/
structure Anchor where
  x : Nat
  pos : Nat
  clean : Bool
  ovf : Bool
  fmt : Nat
  seq : Nat
deriving DecidableEq, Repr

structure Format where
  id : Nat
  b : Nat
  p : Nat
  d : Nat
deriving DecidableEq, Repr

/-- A Selvage rotation region: one half of one skein (R156, R157). -/
structure Region where
  start : Nat
  gap : Option Nat
  writes : Nat
  moving : Bool
  frozen : Bool
deriving DecidableEq, Repr

def Region.fresh : Region := ⟨0, none, 0, false, false⟩

inductive MapSt where
  | off | unformatted | loading | replaying | scanning | closing | active | failed
deriving DecidableEq, Repr

/-- Why an unmap of a range runs. -/
inductive UnmapWhy where
  | shrink (h : Nat) | destroy (d : Nat) | carve
deriving DecidableEq, Repr

/-- A checkpoint in progress (R179): X. -/
structure Ckpt where
  x : Nat
deriving DecidableEq, Repr

/-- A fill outstanding in the map cache (R167). -/
structure MapMshr where
  kind : Nat
  idx : Nat
deriving DecidableEq, Repr

structure MapState where
  st : MapSt
  ent : Tab Entry
  dir : Tab (Option Nat)
  tags : Tab (BitVec 64)
  cached : List MSlot
  plru : Tab (BitVec 15)
  fills : List MapMshr
  /-- stripes (group, block) whose next record waits for a clean map-cache slot (R166) -/
  dirtyHeld : List (Nat × Nat)
  pfq : List (Nat × Nat)
  jbuf : List JRec
  jbufPick : Nat
  /-- journal lines written and not yet durable, oldest first -/
  jlines : List (List JRec)
  /-- durable records from the checkpoint JSN on, oldest first -/
  jlog : List JRec
  nextJsn : Nat
  durJsn : Nat
  ckptJsn : Nat
  headPos : Nat
  ckptPos : Nat
  ovfLines : Nat
  recsSince : Nat
  lastCkptNs : Nat
  ckpt : Option Ckpt
  anchor : Option Anchor
  fmt : Option Format
  regions : Tab Region
  relocs : List (Nat × Nat × Nat)
  single : Nat
  dirLost : List Nat
  unmap : List (Nat × Nat × UnmapWhy)
  metaSeq : Nat
  stamp : Nat
  lostLines : Nat
  dirtyRecovery : Bool
deriving DecidableEq, Repr

/-! ### Write path (ch. 5) -/

/-- Which partition and open bolt a line goes to. -/
inductive Part where
  | host | met | upk
deriving DecidableEq, Repr

/-- Why an upkeep copy was placed. -/
inductive CopyWhy where
  | wring | swap | press | darn | sweep | recovery
deriving DecidableEq, Repr

/-- What a staged line is. -/
inductive StageKind where
  | host
  | mapLine
  | tagLine
  | filler
  /-- an upkeep copy of the media line at the address, which its entry must still name (Table 4-8) -/
  | copy (why : CopyWhy) (src : Nat)
deriving DecidableEq, Repr

/-- A line in staging. `missing` marks sectors still to be completed under R195; `be` the bytes present of a partial
sector that went around the cache. After encryption `seq` holds its write sequence, `ct` its bytes, `tag` its tag. -/
structure Staged where
  kind : StageKind
  line : Nat
  dom : Nat
  d : Quad Sector
  be : Quad (BitVec 64)
  sp : BitVec 4
  missing : BitVec 4
  ep : Bool
  kgen : Nat
  seq : Nat
  enc : Bool
  tag : BitVec 64
  superseded : Bool
  /-- its record has been appended -/
  recorded : Bool
deriving DecidableEq, Repr

/-- A stripe buffer of a ply group. -/
structure Stripe where
  part : Part
  block : Nat
  idx : Nat
  w : Nat
  lines : List Staged
  /-- member positions programmed -/
  done : BitVec 16
  fails : Nat
  /-- taking lines (not assembled) -/
  isOpen : Bool
  sealed : Bool
  first : Nat
deriving DecidableEq, Repr

/-- An open bolt: its block index, width and next stripe. -/
structure OpenBolt where
  block : Nat
  w : Nat
  next : Nat
deriving DecidableEq, Repr

/-- A ply group. -/
structure Group where
  host : Option OpenBolt
  metaB : Option OpenBolt
  upk : Option OpenBolt
  stripes : List Stripe
  stopped : Bool
  admitLow : Bool
  taken : Bool
  islandReset : Bool
  /-- lost members: bit i for skein 16g + i -/
  gone : BitVec 16
deriving DecidableEq, Repr

def Group.fresh : Group := ⟨none, none, none, [], false, false, false, false, 0#16⟩

/-- A line handed by the front cache, or a write going around it, on its way to staging (R189). -/
structure Handed where
  line : Nat
  dom : Nat
  g : Nat
  d : Quad Sector
  have_ : BitVec 4
  be : Quad (BitVec 64)
  sp : BitVec 4
  ep : Bool
  /-- its data are those the front cache holds when it enters staging; otherwise the ones carried here -/
  cached : Bool
  ack : Option (Nat × Nat)
deriving DecidableEq, Repr

inductive FlushKind where
  | powerFail | gpf (h : Nat) | quiesce | devReset | halt
deriving DecidableEq, Repr

structure Flush where
  kind : FlushKind
  failed : Bool
  /-- lines of this pass not yet in staging -/
  lines : List Nat
deriving DecidableEq, Repr

structure WriteState where
  groups : Tab Group
  handed : List Handed
  flush : Option Flush
  flushQ : List FlushKind
  /-- flush-in-progress marker of the Notion store (R221) -/
  marker : Bool
  gpfOwed : List Nat
deriving DecidableEq, Repr

/-! ### Read path (ch. 6) -/

/-- Who asked for a media read of a line. -/
inductive ReadWhy where
  | demand | merge (g : Nat) | scan | sweep | upkeep | rinse | prefetch
deriving DecidableEq, Repr

inductive ReadSt where
  | needMap | needData | reread | decoded | recon
deriving DecidableEq, Repr

/-- A decoded media line with its metadata word (Table 5-3). -/
structure Code where
  d : Quad Sector
  back : Nat
  seq : Nat
  dom : Nat
  kgen : Nat
  epoch : Bool
deriving DecidableEq, Repr

/-- A media read in progress. -/
structure Rd where
  line : Nat
  dom : Nat
  why : ReadWhy
  st : ReadSt
  addr : Nat
  seq10 : Nat
  lookups : Nat
  armed : Option Nat
  timedOut : Bool
  code : Option Code
  /-- an error was met and reported; the line is rewritten when it recovers (Table 6-4) -/
  rewrite : Bool
  /-- the read began at reconstruction because its member is retired (R234) -/
  retired : Bool
deriving DecidableEq, Repr

inductive PSource where
  | unknown | external | internal | injected
deriving DecidableEq, Repr

/-- A poison-list record: first DPA of 64-byte sectors, length in sectors, source. -/
structure PRec where
  dpa : Nat
  len : Nat
  src : PSource
deriving DecidableEq, Repr

structure Scan where
  first : Nat
  count : Nat
  dropped : Bool
deriving DecidableEq, Repr

structure ReadState where
  reads : List Rd
  poison : List PRec
  /-- the list as the last checkpoint or flush saved it (R251) -/
  saved : List PRec
  ovf : Option Nat
  /-- ranges (first line, count) scanned whole since the overflow without a drop (R252) -/
  covered : List (Nat × Nat)
  scan : Option Scan
  scanRes : List (Nat × Nat)
  savedTime : Option Nat
  /-- first attempts on AGE_UNKNOWN bolts are paired: no provisional age in force (R244, R247) -/
  ageUnknown : Bool
  /-- off time in seconds that the provisional ages contain -/
  provOff : Nat
deriving DecidableEq, Repr

/-! ### Keys and domains (ch. 11) -/

inductive KeySt where
  | empty | active | rekeying | failed
deriving DecidableEq, Repr

/-- A key slot: the key, its source (1 host, 2 generated, 3 derived), its KEY_ID and its wrapped record's counter and
sequence (Table 11-4). -/
structure KeySlot where
  key : BitVec 256
  src : Nat
  id : BitVec 64
  wrapCtr : Nat
  recSeq : Nat
deriving DecidableEq, Repr

inductive SweepSt where
  | idle | waiting | running | paused
deriving DecidableEq, Repr

structure Dom where
  st : KeySt
  gen0 : Option KeySlot
  gen1 : Option KeySlot
  next : Option KeySlot
  cur : Nat
  seq : Nat
  /-- the batch each ply engine draws from: next sequence and how many are left (R200) -/
  batches : Tab (Nat × Nat)
  mark : Nat
  genCount : Nat
  integ : Bool
  epochEn : Bool
  haltDom : Bool
  halted : Bool
  sweep : SweepSt
  pos : Nat
  /-- the sweep position as the last checkpoint saved it (R393) -/
  savedPos : Nat
  rekeys : Nat
  /-- a second switch fell due while the sweep runs (R393) -/
  due : Bool
  seqHigh : Bool
  lastAbsent : Option Nat
  /-- extent, in units of 2^22 lines (R50) -/
  base : Nat
  count : Nat
deriving DecidableEq, Repr

def Dom.fresh : Dom :=
  { st := .empty, gen0 := none, gen1 := none, next := none, cur := 0, seq := 0, batches := [], mark := 0, genCount := 0,
    integ := true, epochEn := false, haltDom := false, halted := false, sweep := .idle, pos := 0, rekeys := 0,
    savedPos := 0, due := false, seqHigh := false, lastAbsent := none, base := 0, count := 0 }

/-- A halt record of the Notion store (Table 11-7). -/
structure HaltRec where
  devScope : Bool
  src : Nat
  line : Nat
  dom : Nat
  skein : Nat
  done : Bool
  time : Nat
  cycles : Nat
  seq : Nat
deriving DecidableEq, Repr

inductive DrbgSt where
  | starting | ready | failed
deriving DecidableEq, Repr

/-- An operation of the key vault (R401), with the wrapped-key slot concerned, 3 × domain + slot. -/
inductive KvOp where
  | wrap (rec_ : Nat)
  | unwrap (rec_ : Nat)
  | unseal (rec_ : Nat)
  | kdf (rec_ : Nat)
  /-- a secured message: connection, session, and whether its tag verifies -/
  | decrypt (port session : Nat) (tagOk : Bool)
  | encrypt (port session : Nat)
deriving DecidableEq, Repr

structure CryState where
  doms : Tab Dom
  deviceHalt : Bool
  halts : List HaltRec
  haltSeq : Nat
  drbg : DrbgSt
  drbgReqs : Nat
  drbgRetries : Nat
  lastSeed : Nat
  draws : Nat
  kvOps : List KvOp
deriving DecidableEq, Repr

/-! ### Epochs (ch. 12) -/

inductive EpoSt where
  | disabled | enabling | open_ | preparing | prepared | aborting
deriving DecidableEq, Repr

/-- An undo entry (Table 12-3): the line and the entry it retains. -/
structure Undo where
  line : Nat
  addr : Nat
  sp : BitVec 4
  /-- what the retained media line itself holds: SEQ10 of its metadata word, and for a tag line its 32 tags -/
  seq10 : Nat
  tags : List (BitVec 64)
  /-- the retained version may lie under the generation before the current one -/
  old : Bool
deriving DecidableEq, Repr

structure EpoDom where
  st : EpoSt
  c : Nat
  e : Nat
  jp : Nat
  phase : Nat
  openTab : List Undo
  prepTab : List Undo
  /-- the table in cleanup, and how many of its two checkpoints have completed once the walk ended -/
  cleanup : Option (List Undo)
  ckptsDone : Nat
  /-- checkpoints with this checkpoint JSN or a later one count for the cleanup -/
  ckptFrom : Nat
  bits : Bool
  /-- armed Prepare: epoch, deadline, PPS-aligned -/
  armed : Option (Nat × Nat × Bool)
  rollbackInc : Bool
  policyStop : Bool
  k : Nat
  /-- writes wait until the domain's dirty lines from before the prepare point are in staging (R425) -/
  draining : Bool
  /-- the Prepare came by: 0 nothing waits, 1 mailbox of `owner`, 2 doorbell -/
  via : Nat
  owner : Nat
  /-- area index of the first bucket line of table 0 and of table 1 -/
  tbl0 : Nat
  tbl1 : Nat
deriving DecidableEq, Repr

def EpoDom.fresh : EpoDom :=
  { st := .disabled, c := 0, e := 0, jp := 0, phase := 0, openTab := [], prepTab := [], cleanup := none,
    ckptsDone := 0, ckptFrom := 0, bits := true, armed := none, rollbackInc := false, policyStop := false, k := 20,
    draining := false, via := 0, owner := 0, tbl0 := 0, tbl1 := 0 }

structure EpoState where
  doms : Tab EpoDom
  /-- undo lines and entries in use count 256 bytes each (R432) -/
  high : Bool
  dbBusy : Bool
  dbDom : Nat
  dbOp : Nat
  dbResult : Nat
  epochWait : List Req
deriving DecidableEq, Repr

/-! ### Notion store (ch. 15) -/

/-- All-time maxima of die and media temperature, 1/16 °C as 16-bit patterns, each with its operating hours (R484). -/
structure Maxima where
  die : Nat
  dieHours : Nat
  media : Nat
  mediaHours : Nat
deriving DecidableEq, Repr

structure NotionState where
  /-- spread counter cells: key 16c + j; `none` an invalid cell -/
  cells : Tab (Option Nat)
  /-- cells that fail read-back -/
  bad : Tab Bool
  lsa : Tab (BitVec 64)
  scrubbing : Bool
  queued : Nat
  headerSingle : Bool
  /-- alert thresholds: life used %, over-temperature °C, under-temperature °C, corrected volatile, corrected
  persistent counts (R511); and which are enabled -/
  alerts : List Nat
  alertEn : BitVec 5
  alertSts : Nat
  histDie : Tab Nat
  histMedia : Tab Nat
  /-- the maxima as the store holds them -/
  histMax : Maxima
deriving DecidableEq, Repr

/-! ### Power sequencing (ch. 13) -/

inductive SeqSt where
  | standby | rampUp | on | quiesce | pfFlush | waitDn | rampDown | offHold | retryWait | latched
deriving DecidableEq, Repr

/-- What follows the minimum off time (Table 13-2, state 7). -/
inductive OffWhy where
  | normal | abort | localOff | trip
deriving DecidableEq, Repr

inductive DevResetSt where
  | none | flushing | holding
  /-- the flush goes on but the core reset is not released: power-down follows (Table 13-3) -/
  | toPowerDown
deriving DecidableEq, Repr

structure PwrState where
  st : SeqSt
  stby : Bool
  /-- rails enabled, with filtered good output high since, and past their settle time -/
  en : BitVec 12
  qual : BitVec 12
  settled : BitVec 12
  /-- the rail whose step runs in RAMP_UP -/
  cur : Nat
  chat : Nat
  retries : Nat
  /-- rails still to be taken down, in order -/
  down : List Nat
  why : OffWhy
  offReq : Bool
  seqUpIn : Bool
  seqDnIn : Bool
  seqUpOut : Bool
  seqDnOut : Bool
  /-- PFW_N asserted -/
  pfw : Bool
  faultSeq : Bool
  faultTrip : Bool
  /-- MRST_N[g] asserted; a pulse running -/
  mrst : BitVec 8
  pulse : BitVec 8
  brd : Bool
  coreOn : Bool
  hostStopped : Bool
  devReset : DevResetSt
  /-- STATE as the Notion store holds it from the last loss of standby power -/
  lossSt : Nat
deriving DecidableEq, Repr

/-! ### Scheduling (ch. 7) -/

inductive WarpMode where
  | off | normal | degraded | flush | roundRobin
deriving DecidableEq, Repr

/-- Kinds of downstream operation (Table 8-4). -/
inductive DnKind where
  | programDense | programSingle | reset | sys
deriving DecidableEq, Repr

/-- A downstream operation waiting at a skein engine for its grant (R265): class, kind, line address or block index. -/
structure DnOp where
  cls : Nat
  kind : DnKind
  addr : Nat
deriving DecidableEq, Repr

/-- A media read waiting at a skein engine for a command field: class, line address, reference index, head, and
whether it is a paired read, an age probe or a map prefetch. -/
structure RdOp where
  cls : Nat
  addr : Nat
  ref : Nat
  head : Nat
  paired : Bool
  probe : Bool
  pf : Bool
deriving DecidableEq, Repr

/-- A downstream frame kept until it is known to have drawn no NAK (R297): its slot, counted from power-up, with what
it carried. -/
structure DnFrame where
  slot : Nat
  op : Option DnOp
  reads : List RdOp
deriving DecidableEq, Repr

structure SkeinWarp where
  mode : WarpMode
  tpl : Nat
  tokens : Int
  budget : Nat
  /-- f_s of the current Pick, in 1/128 (R477) -/
  fs : Nat
  dn : List DnOp
  rq : List RdOp
  /-- upstream slots assigned, counted from power-up, each with its class -/
  up : List (Nat × Nat)
  frames : List DnFrame
  /-- operations whose completion has not come, with their slot (R295) -/
  ops : List (Nat × DnOp)
  /-- starved Picks of a class in a row; key = class + 16 for upstream -/
  starved : Tab Nat
  /-- classes promoted for the next Pick and for this one -/
  agedNext : List Nat
  aged : List Nat
  /-- classes that won a background slot in this Pick -/
  bgWon : List Nat
  /-- head whose turn it is in the host read rotation, and the reads it gave in this turn (R270) -/
  turn : Nat
  given : Nat
  asleep : Bool
  slept : Bool
  lead : Nat
  /-- slot use of the current Pick: downstream owner, background; upstream owner, background -/
  use : Nat × Nat × Nat × Nat
  rrDn : Nat
  rrUp : Nat
deriving DecidableEq, Repr

def SkeinWarp.fresh : SkeinWarp :=
  { mode := .off, tpl := 0, tokens := 0, budget := 0, fs := 128, dn := [], rq := [], up := [], frames := [], ops := [],
    starved := [], agedNext := [], aged := [], bgWon := [], turn := 0, given := 0, asleep := false, slept := false,
    lead := 0, use := (0, 0, 0, 0), rrDn := 0, rrUp := 0 }

/-- A stalled wait (R280): queue, class, skeins switched, when it was raised. -/
structure StallRec where
  q : Nat
  cls : Nat
  skeins : List Nat
  since : Nat
  persist : Bool
deriving DecidableEq, Repr

structure WarpState where
  sk : Tab SkeinWarp
  valid : BitVec 8
  degrOk : BitVec 8
  /-- template whose validation runs -/
  valBusy : Option Nat
  stalls : List StallRec
  /-- tokens charged in the current second, and when it began -/
  spent : Nat
  spentFrom : Nat
deriving DecidableEq, Repr

/-! ### Links and packages (ch. 8) -/

inductive LinkPhase where
  | reset | discover | equalise | align | test | active | retrain | failed
deriving DecidableEq, Repr

inductive PkgState where
  | absent | discovering | incompatible | limited | compatible | retired
deriving DecidableEq, Repr

/-- The parameter-page fields the controller uses (Table 8-12). Times in ns (reset in µs), energies in nJ. -/
structure PkgPage where
  ver : Nat
  vendor : Nat
  features : Nat
  sbMax : Nat
  tWake : Nat
  eRead : Nat
  eProgS : Nat
  eProgD : Nat
  eReset : Nat
  pIdle : Nat
  endurD : Nat
  tThrottle : Nat
  tLimit : Nat
  classAge : List Nat
  /-- temperature in °C and factor in 1/256 -/
  tfactor : List (Nat × Nat)
deriving DecidableEq, Repr

/-- The Nobola column of Table 8-12. -/
def PkgPage.nobola : PkgPage :=
  { ver := 2, vendor := 1, features := 3, sbMax := 8, tWake := 80, eRead := 16, eProgS := 64, eProgD := 192,
    eReset := 16384, pIdle := 800, endurD := 3000000, tThrottle := 80, tLimit := 85,
    classAge := 0 :: (List.range 15).map fun i => 90 * 2 ^ i,
    tfactor := [(25, 0x20), (35, 0x40), (45, 0x80), (55, 0x100), (65, 0x200), (75, 0x400), (85, 0x800), (95, 0x1000)] }

/-- A sideband transaction in progress: command code and attempts made. -/
structure SbOp where
  cmd : Nat
  tries : Nat
deriving DecidableEq, Repr

structure SkeinLink where
  st : LinkPhase
  pkg : PkgState
  version : Nat
  dies : Nat
  page : PkgPage
  pageRead : Bool
  short : BitVec 16
  sbMhz : Nat
  /-- failures of the present training (a second one enters FAILED) -/
  fails : Nat
  retrainFails : Nat
  /-- ACTIVE has been reached since power-up -/
  trained : Bool
  /-- out of ACTIVE for 100 µs (R300) -/
  outLong : Bool
  eq : BitVec 16
  tempValid : Bool
  temp : BitVec 16
  alert : Nat
  hotDie : Nat
  tempFails : Nat
  /-- f_media in 1/128 (R476) -/
  fmedia : Nat
  sb : Option SbOp
  pollDue : Bool
  winFails : Nat
  winStart : Nat
  winDone : Bool
  row : Nat
deriving DecidableEq, Repr

def SkeinLink.fresh : SkeinLink :=
  { st := .reset, pkg := .absent, version := 0, dies := 0, page := PkgPage.nobola, pageRead := false, short := 0#16,
    sbMhz := 1, fails := 0, retrainFails := 0, trained := false, outLong := false, eq := 0#16, tempValid := false,
    temp := 0#16, alert := 0, hotDie := 0, tempFails := 0, fmedia := 128, sb := none,
    pollDue := false, winFails := 0, winStart := 0, winDone := false, row := 0 }

structure LinkSt where
  sk : Tab SkeinLink
deriving DecidableEq, Repr

/-! ### Bolts and upkeep (ch. 9) -/

inductive BoltSt where
  | absent | selvage | free | open_ | sealed | victim | empty | resetting | dead
deriving DecidableEq, Repr

inductive Proc where
  | wring | press | rinse | darn | swap
deriving DecidableEq, Repr

/-- A bolt table entry (Table 9-1) with the model's working marks: the reset mark E (R317), the members whose reset has
completed, the process that has the bolt as its victim, and what the Rinse and Press steps remember of it. -/
structure Bolt where
  st : BoltSt
  kind : Nat
  cntUnk : Bool
  ageUnk : Bool
  degraded : Bool
  pressQ : Bool
  saved : Nat
  members : BitVec 16
  tt : Nat
  valid : Nat
  resets : Nat
  sealClk : Nat
  corr : Nat
  drift : Nat
  mark : Nat
  resetOk : BitVec 16
  proc : Option Proc
  late : Bool
  recon : Bool
deriving DecidableEq, Repr

/-- A dense bolt never used: FREE with every member. -/
def Bolt.fresh : Bolt :=
  { st := .free, kind := 3, cntUnk := false, ageUnk := false, degraded := false, pressQ := false, saved := 0,
    members := 0xFFFF#16, tt := 0x3FFF, valid := 0, resets := 0, sealClk := 0, corr := 0, drift := 0, mark := 0,
    resetOk := 0#16, proc := none, late := false, recon := false }

/-- An entry of the Selvage age table (R329). -/
structure Triple where
  clk : Nat
  saved : Nat
  /-- an age probe has measured it in this power cycle; until then it is AGE_UNKNOWN while the interval lasts -/
  probed : Bool
  queued : Bool
  /-- Rinse's count and whether a line needed reconstruction, as a bolt has them (R338) -/
  corr : Nat
  recon : Bool
deriving DecidableEq, Repr

def Triple.fresh : Triple := ⟨0, 0, false, false, 0, false⟩

/-- What upkeep does in one ply group. -/
structure UpkGroup where
  wring : Bool
  urgent : Bool
  /-- a static swap runs, and one has run (its next start has the lower spread) -/
  swap : Bool
  swapped : Bool
  /-- Darn: 0 none, 1 protection, 2 data, 3 evacuation -/
  darn : Nat
  pace : Bool
  /-- bolt resets since first format -/
  total : Nat
  /-- resets that wait for the allowance -/
  held : List Nat
  /-- the group stopped (R211) -/
  evacuate : Bool
deriving DecidableEq, Repr

def UpkGroup.fresh : UpkGroup :=
  { wring := false, urgent := false, swap := false, swapped := false, darn := 0, pace := false, total := 0,
    held := [], evacuate := false }

structure UpkState where
  /-- keyed by g × 131072 + b -/
  bolts : Tab Bolt
  /-- keyed by (n × 16 + die) × 32 + triple -/
  triples : Tab Triple
  /-- REFRESH_CLK of every triple that `triples` does not list -/
  tripBase : Nat
  /-- AGECLK[g], 1/65536 s -/
  clk : Tab Nat
  /-- operating time at the last addition, ns -/
  clkAt : Nat
  groups : Tab UpkGroup
  /-- the image saved at the last checkpoint: bolts, triples, clocks -/
  img : Tab Bolt
  imgT : Tab Triple
  imgBase : Nat
  imgClk : Tab Nat
  /-- the image taken at the start of the checkpoint that runs -/
  shot : Option (Tab Bolt × Tab Triple × Tab Nat × Nat)
  /-- age-unknown interval in force -/
  unknown : Bool
  unknownFrom : Nat
  probing : List Nat
  rinse : Bool
  /-- Rinse issues nothing while the age-unknown interval lasts (R337) -/
  rinseFrom : Nat
  latch : Word
deriving DecidableEq, Repr

/-! ### Faults (ch. 10) -/

/-- A resource (Table 10-1). -/
structure Res where
  ty : Nat
  id : Nat
deriving DecidableEq, Repr

/-- A queued or running self-test: how many errors wait for its outcome, the suspect block of a media test, and
whether a STICKY injection acts on it. -/
structure TestRec where
  res : Res
  running : Bool
  errors : Nat
  block : Nat
  /-- program errors, reset errors, link or uncorrectable errors among them: what Table 10-4 counts -/
  why : Nat
  sticky : Bool
  since : Nat
deriving DecidableEq, Repr

/-- Transient counts of a resource by operating hour (R356). -/
structure Bucket where
  res : Res
  what : Nat
  hour : Nat
  n : Nat
deriving DecidableEq, Repr

/-- A retirement table entry (Table 10-13). -/
structure RetEnt where
  injected : Bool
  undo : Bool
  res : Res
  cause : Nat
  secs : Nat
deriving DecidableEq, Repr

/-- A quarantine record (Table 10-7): its header fields and its encrypted sectors. -/
structure QuarRec where
  domScope : Bool
  poisoned : Bool
  line : Nat
  dom : Nat
  sectors : BitVec 4
  seq : Nat
  kgen : Nat
  jsn : Nat
  time : Nat
  no : Nat
  tag : BitVec 64
  slots : List Sector
deriving DecidableEq, Repr

/-- Counters of a crossing queue (Table 10-15). -/
structure QCnt where
  parity : Nat
  replays : Nat
  propagated : Nat
  spares : Nat
  retired : Bool
deriving DecidableEq, Repr

def QCnt.fresh : QCnt := ⟨0, 0, 0, 0, false⟩

/-- An armed injection (R367). -/
structure Inj where
  kind : Nat
  left : Nat
  sticky : Bool
  res : Res
  addr : Nat
deriving DecidableEq, Repr

structure FltState where
  tests : List TestRec
  /-- resources whose test waits for queue space (R352) -/
  spill : List Res
  buckets : List Bucket
  /-- program errors in a block's life: key skein × 131072 + block -/
  blockErrs : Tab Nat
  ret : List RetEnt
  retOvf : List RetEnt
  injAllowed : Bool
  inj : Option Inj
  /-- resources that a STICKY injection has hit: it acts on their next test too (R368) -/
  hit : List Res
  quar : List QuarRec
  quarSeq : Nat
  quarHigh : Bool
  queues : Tab QCnt
  /-- groups served by the partner engine; engines retired; engines held for their test -/
  takeover : BitVec 8
  engRetired : BitVec 8
  engHeld : BitVec 8
  /-- pipelines out of use: key 8g + p -/
  aesOut : Tab Bool
  /-- SRAM spares used and banks without one: key array × 16 + bank group -/
  spares : Tab Nat
  noSpare : Tab Nat
deriving DecidableEq, Repr

/-! ### Thermal (ch. 14) -/

structure ThmState where
  /-- latest conversion of each channel: value and round; and as they stood when the round began -/
  chan : Tab (Nat × Nat)
  prev : Tab (Nat × Nat)
  next : Nat
  used : Tab (BitVec 16)
  f : Tab Nat
  dev : Tab Nat
  excl : BitVec 64
  /-- rounds that failed the reference check, in a row -/
  refRow : Nat
  /-- three such rounds (R469) -/
  gridRef : Bool
  first : Bool
  alarm : Tab Bool
  cap : Nat
  capSaved : Nat
  capNext : Option Nat
  trip : Option Nat
  thermLow : Bool
  /-- every tile and package cool for the round under way (R483) -/
  coolFrom : Bool
  mw : Nat
  /-- smallest f_s of the last second, of the second under way -/
  minSec : Nat
  minCur : Nat
  hDie : Tab Nat
  hMedia : Tab Nat
  max : Maxima
deriving DecidableEq, Repr

/-! ### Firmware (ch. 16) -/

inductive BootSt where
  | confirmed | pendingReset | trial
deriving DecidableEq, Repr

/-- The boot record (Table 16-3). -/
structure BootRec where
  running : Nat
  st : BootSt
  attempts : Nat
  recA : Bool
  recB : Bool
  deadline : Nat
  svnA : Nat
  svnB : Nat
  lastVer : Nat
  seq : Nat
deriving DecidableEq, Repr

/-- What the model keeps of a stored image: the header fields of Table 16-1, and its header bytes 0 to 4,095 as one number (the
digests of Table 16-12 are taken over them). -/
structure Image where
  svn : Nat
  version : Nat
  stepping : Nat
  lowFmt : Nat
  fmt : Nat
  hitless : Bool
  digest : Nat
deriving DecidableEq, Repr

inductive XferSrc where
  | pldm | cxl | recoveryDoe | recoveryMctp
deriving DecidableEq, Repr

/-- A transfer in progress. -/
structure Xfer where
  src : XferSrc
  len : Nat
  next : Nat
  verified : Nat
  chunk : Nat
  /-- leaf that failed once and was requested again -/
  again : Option Nat
  repeats : Nat
  head : List Nat
  copying : Bool
  h : Nat
deriving DecidableEq, Repr

/-- The resume record (Table 16-6); the digest is kept as the header bytes it is taken over. -/
structure Resume where
  src : XferSrc
  len : Nat
  verified : Nat
  head : List Nat
deriving DecidableEq, Repr

structure Sched where
  slot : Nat
  deadline : Nat
  pps : Bool
  fired : Bool
deriving DecidableEq, Repr

/-- How an activation was asked for. -/
inductive ActHow where
  | mailbox (h : Nat) | pldm | sched
deriving DecidableEq, Repr

/-- A secured SPDM session (R543, R545); port 8 is MCTP. -/
structure Session where
  port : Nat
  id : Nat
  keyAdmin : Bool
  admin : Bool
deriving DecidableEq, Repr

/-- A ROLE entry (Table 16-10). -/
structure RoleEnt where
  slot : Nat
  digest : Nat
  kind : Nat
deriving DecidableEq, Repr

structure FwuState where
  running : Bool
  paused : Bool
  boot : Option BootRec
  imgA : Option Image
  imgB : Option Image
  /-- the verified image waits for activation in the slot that is not running -/
  pendingImg : Bool
  xfer : Option Xfer
  resume : Option Resume
  sched : Option Sched
  /-- activation in progress: slot, who asked -/
  act : Option (Nat × ActHow)
  /-- version of the image that ran before the trial -/
  prevVer : Nat
  trialMethod : Nat
  selfCheck : Nat
  /-- DEADLINE_NEAR raised for the present trial -/
  near : Bool
  recovery : Bool
  recoveryReq : Bool
  rom : Bool
  owners : Tab Nat
  roles : List RoleEnt
  revoked : BitVec 4
  /-- settings of a bundle that wait for the next device conventional reset -/
  subsysNext : Option (Nat × Nat)
  sessions : List Session
  /-- ports whose last signed answer may be signed again, and those whose signature is being made -/
  pqReady : List Nat
  pqMaking : List Nat
  heldMctp : Nat
  devResetHeld : Bool
deriving DecidableEq, Repr

/-! ### Sideband ports (ch. 18) -/

structure SideState where
  i3cAddr : Option Nat
  hotJoin : Bool
  i3cEvents : Bool
  mrl : Nat
  mwl : Nat
  jtag : JtagInst
  /-- a ball-controlling instruction was in force while the core reset was released -/
  jtagHeld : Bool
  recovN : Bool
deriving DecidableEq, Repr

end Sys2Proof.Machine
end

