-- ==== Sys2Proof/Machine/State.lean ====
section
/-!
DEFINITION. The state of the block: everything the spec gives it, as plain data, the queue of commands that wait, the
reasons a step may stop, and the state at reset.
-/
namespace Sys2Proof.Machine

/-- The whole block. -/
structure State where
  /-- stored control-BAR registers, keyed by offset (pages with a common layout; not the counters) -/
  regs : Tab Word
  /-- PMC_CFG, PMC_CNT and PMC_OVF, keyed by control-BAR offset -/
  pmc : Tab Word
  /-- event routing table, keyed by source -/
  route : Tab Word
  /-- populated ply groups P and dies per package D in use (R22, R23) -/
  popP : Nat
  popD : Nat
  time : Time
  evt : EvtState
  host : HostState
  fch : FchState
  swt : SwtState
  /-- packets marked poisoned, waiting for replay -/
  xq : List QPkt
  map : MapState
  wp : WriteState
  rd : ReadState
  cry : CryState
  epo : EpoState
  ntn : NotionState
  warp : WarpState
  link : LinkSt
  upk : UpkState
  flt : FltState
  pwr : PwrState
  thm : ThmState
  fwu : FwuState
  side : SideState
  /-- what the command just carried out showed outside -/
  out : List Output
  /-- the model's own counter of draws from free values -/
  freeCtr : Nat
  /-- commands waiting, first in, first out -/
  pending : List Instr
deriving DecidableEq, Repr

/-- Reasons for a fault. The block has none: the spec gives every command an effect. -/
inductive Fault where
deriving DecidableEq, Repr

/-- Reasons for a refusal. -/
inductive Refusal where
  /-- raised by a dispatch arm of a command that has no meaning yet; safe -/
  | notModelled (mnemonic : String)
deriving DecidableEq, Repr

/-- The state right after standby power good of a unit that has never run: the sequencer in STANDBY with the core off
(R438, R440), HBIF sampled low (R37), full population, a blank Notion store, every register at its Reset column, and
an empty queue. What the spec gives no value for is named in the assumption log. -/
def State.reset : State :=
  { regs := [], pmc := [], route := [], popP := 8, popD := 16,
    time := { slot := 0, pick := 0, opNs := 0, devtime := 0, upNs := 0, slewLeft := 0, slewE := 0, slewAcc := 0,
              ppsLocked := false, lastEdge := none, candidate := none, marked := none,
              setTs := none },
    evt := { queue := [], dropped := 0, ring := [], next := 0, fold := none, newest := none, clearing := false,
             handle := 0 },
    host := { hbif := false, heads := [], memActive := false, bg := none, bgLast := none, released := none,
              sanitizing := false, egressOn := false, egressModerate := 10, egressSevere := 25, backpressure := [],
              shutdownState := 0, subsystem := (0x2E51, 0x0128) },
    fch := { mode := .off, arr := [], plru := [], victim := [], side := [], trackers := [], mshr := [], missWait := [],
             dirtyWait := [], evictWait := [], raw := [], cleaning := false, folded := 0#16, spares := [], foldWait := 0#16,
             maint := none, emptying := 0#16, wayEmpty := 0#16, eccWin := 0, eccStart := 0, eccDone := false, stamp := 0,
             limit := 96, holdLimit := 96 },
    swt := { st := .none, ways := 0, base := 0, dom := 0, keep := false, pos := 0, dflt := WWord.fresh, words := [],
             record := none, save := none, handing := none },
    xq := [],
    map := { st := .off, ent := [], dir := [], tags := [], cached := [], plru := [], fills := [], dirtyHeld := [], pfq := [],
             jbuf := [], jbufPick := 0, jlines := [], jlog := [], nextJsn := 0, durJsn := 0, ckptJsn := 0, headPos := 0,
             ckptPos := 0, ovfLines := 0, recsSince := 0, lastCkptNs := 0, ckpt := none, anchor := none, fmt := none,
             regions := [], relocs := [], single := 0, dirLost := [], unmap := [], metaSeq := 0,
             stamp := 0, lostLines := 0, dirtyRecovery := false },
    wp := { groups := [], handed := [], flush := none, flushQ := [], marker := false, gpfOwed := [] },
    rd := { reads := [], poison := [], saved := [], ovf := none, covered := [], scan := none, scanRes := [], savedTime := none,
            ageUnknown := true, provOff := 0 },
    cry := { doms := [], deviceHalt := false, halts := [], haltSeq := 0, drbg := .starting, drbgReqs := 0,
             drbgRetries := 0, lastSeed := 0, draws := 0, kvOps := [] },
    epo := { doms := [], high := false, dbBusy := false, dbDom := 0, dbOp := 0, dbResult := 0,
             epochWait := [] },
    ntn := { cells := [], bad := [], lsa := [], scrubbing := false, queued := 0, headerSingle := false, alerts := [90, 95, 0, 0, 0], alertEn := 0b00111#5,
             alertSts := 0, histDie := [], histMedia := [], histMax := ⟨0, 0, 0, 0⟩ },
    warp := { sk := [], valid := 0x03#8, degrOk := 0x02#8, valBusy := none, stalls := [], spent := 0, spentFrom := 0 },
    link := { sk := [] },
    upk := { bolts := [], triples := [], tripBase := 0, clk := [], clkAt := 0, groups := [], img := [], imgT := [], imgBase := 0, imgClk := [], shot := none,
             unknown := true, unknownFrom := 0, probing := [], rinse := false, rinseFrom := 0, latch := 0#64 },
    flt := { tests := [], spill := [], buckets := [], blockErrs := [], ret := [], retOvf := [], injAllowed := false,
             inj := none, hit := [], quar := [], quarSeq := 0, quarHigh := false, queues := [], takeover := 0#8,
             engRetired := 0#8, engHeld := 0#8, aesOut := [], spares := [], noSpare := [] },
    pwr := { st := .standby, stby := true, en := 0#12, qual := 0#12, settled := 0#12, cur := 0, chat := 0, retries := 0,
             down := [], why := .normal, offReq := false, seqUpIn := false, seqDnIn := false, seqUpOut := false,
             seqDnOut := true, pfw := false, faultSeq := false, faultTrip := false, mrst := 0xFF#8, pulse := 0#8,
             brd := true, coreOn := false, hostStopped := false, devReset := .none, lossSt := 0 },
    thm := { chan := [], prev := [], next := 0, used := [], f := [], dev := [], excl := 0#64, refRow := 0,
             gridRef := false, first := false, alarm := [], cap := 480, capSaved := 480, capNext := none,
             trip := none, thermLow := false, coolFrom := false, mw := 0, minSec := 128, minCur := 128, hDie := [],
             hMedia := [], max := ⟨0, 0, 0, 0⟩ },
    fwu := { running := false, paused := false, boot := none, imgA := none, imgB := none,
             pendingImg := false, xfer := none, resume := none, sched := none, act := none, prevVer := 0,
             trialMethod := 0, selfCheck := 0, near := false, recovery := false, recoveryReq := false, rom := false,
             owners := [], roles := [], revoked := 0#4, subsysNext := none, sessions := [], pqReady := [],
             pqMaking := [], heldMctp := 0, devResetHeld := false },
    side := { i3cAddr := none, hotJoin := false, i3cEvents := false, mrl := 256, mwl := 256, jtag := .bypass,
              jtagHeld := false, recovN := true },
    out := [], freeCtr := 0, pending := [] }

end Sys2Proof.Machine
end

