-- ==== Sys2Proof/Machine/Ops.lean ====
section
/-!
DEFINITION. The shared operations: control-BAR registers and their fields, events (EVT_STS, capture, recorder queue,
sources and MSI-X), outputs, gates of the host interfaces, spread counters, performance counts, capacity figures.
-/
namespace Sys2Proof.Machine

/-! ### Where a control-BAR offset lies (R550) -/

/-- The common page an offset lies in: its block, instance, and the offset within the page. -/
def pageAt (off : Nat) : Option (Block × Nat × Nat) :=
  let inst (b : Block) : Option (Block × Nat × Nat) :=
    let i := (off - b.base) / 0x1000
    if b.base ≤ off ∧ i < b.pages then some (b, i, off % 0x1000) else none
  if off < 0x10000 then
    match off / 0x1000 with
    | 0 => inst .top | 1 => inst .pwr | 2 => inst .thm | 3 => inst .hkp | 4 => inst .ntn | 5 => inst .evr
    | 6 => inst .fwu | 7 => inst .kve | 8 => inst .flt | 9 => inst .epo | 10 => inst .cry | 11 => inst .upk
    | 12 => inst .map | 13 => inst .fch | 14 => inst .swt | _ => inst .wrp
  else if off < 0x20000 then inst .hst
  else if off < 0x30000 then inst .ply
  else if off < 0x40000 then inst .pmc
  else if off < 0xC0000 then inst .skn
  else none

/-- The windows of Table 17-1. -/
inductive Window where
  | userView | domTable | routing
deriving DecidableEq, Repr

def windowAt (off : Nat) : Option Window :=
  if 0xC0000 ≤ off ∧ off < 0xD0000 then some .userView
  else if 0x100000 ≤ off ∧ off < 0x110000 then some .domTable
  else if 0x110000 ≤ off ∧ off < 0x112000 then some .routing
  else none

/-- The register of a list that occupies a page offset: its fields. -/
def fieldsIn : List RegDef → Nat → Option (List FieldDef)
  | [], _ => none
  | d :: ds, o =>
    let j := if d.stride = 0 then 0 else (o - d.off) / d.stride
    if d.off ≤ o ∧ j < d.count ∧ o = d.off + d.stride * j then some d.fields else fieldsIn ds o

/-- The fields of the register at a page offset (R554: the common registers, then the block's own). -/
def fieldsAt (b : Block) (i o : Nat) : Option (List FieldDef) :=
  if o = 0 then
    some [⟨31, 24, .ro, b.idType, .any, false⟩, ⟨23, 16, .ro, i, .any, false⟩, ⟨15, 8, .ro, 1, .any, false⟩,
      ⟨7, 0, .ro, 1, .any, false⟩]
  else if o = 0x28 then some [⟨b.eventBits - 1, 0, .rw, 2 ^ b.eventBits - 1, .any, false⟩]
  else if o = 0x30 then some [⟨b.eventBits - 1, 0, .wo, 0, .any, true⟩]
  else fieldsIn b.regs o

/-- The value a list of fields has at reset. -/
def resetOf : List FieldDef → Nat
  | [] => 0
  | f :: fs => f.reset * 2 ^ f.lo + resetOf fs

/-- Nominal voltage of rail channel `i`, mV (Table 13-1). -/
def railNominal (i : Nat) : Nat :=
  match i with
  | 0 => 750 | 1 => 850 | 2 => 900 | 3 => 800 | 4 => 900 | 5 => 1200 | 6 => 900 | 7 => 1200 | 8 => 1800 | 9 => 900
  | _ => 3300

/-- WRP_TPL_DN and WRP_TPL_UP of the read-only templates at period `p` (Table 7-16). -/
def templateReset (t p : Nat) (up : Bool) : Nat :=
  match t, up with
  | 0, false => if p % 2 = 0 then 0x2024202524202423 else if p % 4 = 1 then 0x2024202824202423 else 0x2024202024202423
  | 0, true => if p % 4 = 0 then 0x1181411314161413 else if p % 2 = 0 then 0x1101411314161413 else 0x1101411314151413
  | 1, false => if p % 2 = 0 then 0x2724202527202423 else if p % 4 = 1 then 0x2724202827202423 else 0x2724202027202423
  | 1, true => if p % 4 = 0 then 0x1181411317161413 else if p % 2 = 0 then 0x1171411317161413 else 0x1171411317151413
  | 2, false => 0x2229222322292223
  | 2, true => 0x1113111311131113
  | _, _ => 0

/-- Reset values that the tables give by reference: rail settings (Table 13-1, one tenth for OFF_MV) and the default
reserve cap, user capacity / 12 at full population (R432), and the read-only templates. -/
def specialReset (off : Nat) : Option Nat :=
  if 0x11A0 ≤ off ∧ off < 0x1200 then
    let i := (off - 0x11A0) / 8
    some (railNominal i / 10 * 2 ^ 32 + 20 * 2 ^ 24 + 5 * 2 ^ 16 + railNominal i)
  else if off = 0x9100 then some 4096
  else if 0xF100 ≤ off ∧ off < 0xF280 then
    let o := off - 0xF100
    some (templateReset (o / 0x80) (o % 0x40 / 8) (decide (0x40 ≤ o % 0x80)))
  else none

/-- The reset value of the register at an offset. -/
def regReset (off : Nat) : Word :=
  match specialReset off with
  | some v => BitVec.ofNat 64 v
  | none =>
    match pageAt off with
    | none => 0#64
    | some (b, i, o) =>
      match fieldsAt b i o with
      | none => 0#64
      | some fs => BitVec.ofNat 64 (resetOf fs)

/-- The reset value of a routing entry: CXL_MIN_SEV 2 (Table 17-8). -/
def routeReset (_ : Nat) : Word := 0x200#64

/-- The offsets of PMC_CFG, PMC_CNT and PMC_OVF, which have a table of their own in State. -/
def isPmcCounter (off : Nat) : Bool :=
  decide (0x30000 ≤ off ∧ off < 0x34000 ∧ (off % 0x1000 = 0x100 ∨ (0x200 ≤ off % 0x1000 ∧ off % 0x1000 < 0x600)))

/-! ### Registers and fields -/

/-- The stored register at an offset. -/
def State.reg (s : State) (off : Nat) : Word :=
  if isPmcCounter off then Tab.get regReset s.pmc off else Tab.get regReset s.regs off

/-- `s` with the stored register at an offset replaced. -/
def State.setReg (s : State) (off : Nat) (v : Word) : State :=
  if isPmcCounter off then { s with pmc := Tab.set regReset s.pmc off v }
  else { s with regs := Tab.set regReset s.regs off v }

/-- Ones in bits `hi` to `lo`. -/
def maskOf (hi lo : Nat) : Word := (BitVec.ofNat 64 (2 ^ (hi + 1 - lo) - 1)) <<< lo

/-- Bits `hi` to `lo` of a word. -/
def getBits (w : Word) (hi lo : Nat) : Nat := ((w &&& maskOf hi lo) >>> lo).toNat

/-- A word with its bits `hi` to `lo` replaced by `v`. -/
def putBits (w : Word) (hi lo v : Nat) : Word :=
  (w &&& ~~~(maskOf hi lo)) ||| ((BitVec.ofNat 64 v <<< lo) &&& maskOf hi lo)

/-- The value of a named field. -/
def State.fld (s : State) (f : Fld) : Nat := getBits (s.reg f.off) f.hi f.lo

/-- `s` with a named field set. -/
def State.setFld (s : State) (f : Fld) (v : Nat) : State := s.setReg f.off (putBits (s.reg f.off) f.hi f.lo v)

/-- A saturating count in a named field. -/
def State.bump (s : State) (f : Fld) (k : Nat) : State := s.setFld f (satAdd (f.hi + 1 - f.lo) (s.fld f) k)

/-! ### Outputs -/

/-- The state as a command finds it: what the last command showed is gone. -/
def State.begin (s : State) : State := { s with out := [] }

/-- One more output of the command. -/
def State.emit (s : State) (o : Output) : State := { s with out := s.out ++ [o] }

/-! ### Heads -/

/-- Heads of the arrangement: 8 with HBIF high, 4 with it low (R37). -/
def State.nHeads (s : State) : Nat := if s.host.hbif then 8 else 4

def State.head (s : State) (h : Nat) : Head := Tab.get (fun _ => Head.fresh) s.host.heads h

def State.setHead (s : State) (h : Nat) (x : Head) : State :=
  { s with host := { s.host with heads := Tab.set (fun _ => Head.fresh) s.host.heads h x } }

/-- Head `h` exists. -/
def State.present (s : State) (h : Nat) : Bool := decide (h < s.nHeads)

/-! ### Domains -/

def State.dom (s : State) (d : Nat) : Dom := Tab.get (fun _ => Dom.fresh) s.cry.doms d

def State.setDom (s : State) (d : Nat) (x : Dom) : State :=
  { s with cry := { s.cry with doms := Tab.set (fun _ => Dom.fresh) s.cry.doms d x } }

def State.epoDom (s : State) (d : Nat) : EpoDom := Tab.get (fun _ => EpoDom.fresh) s.epo.doms d

def State.setEpoDom (s : State) (d : Nat) (x : EpoDom) : State :=
  { s with epo := { s.epo with doms := Tab.set (fun _ => EpoDom.fresh) s.epo.doms d x } }

def State.group (s : State) (g : Nat) : Group := Tab.get (fun _ => Group.fresh) s.wp.groups g

def State.setGroup (s : State) (g : Nat) (x : Group) : State :=
  { s with wp := { s.wp with groups := Tab.set (fun _ => Group.fresh) s.wp.groups g x } }

/-! ### Sources, MSI-X and events -/

/-- EVT_STS of the page of an event. -/
def Evt.stsOff (e : Evt) : Nat := e.blk.base + e.inst * 0x1000 + 0x20

/-- The EVT_STS bits that share the event's source (Table 17-7). -/
def Evt.srcMask (e : Evt) : Word :=
  match e.blk with
  | .skn => if e.bit < 8 then 0xFF#64 else 0xFF00#64
  | _ => 1#64 <<< e.bit

/-- The event's source is raised (R555). -/
def State.raised (s : State) (e : Evt) : Bool :=
  decide ((s.reg e.stsOff) &&& (s.reg (e.stsOff + 8)) &&& e.srcMask ≠ 0#64)

/-- The routing entry of a source (R561). -/
def State.routing (s : State) (src : Nat) : Word := Tab.get routeReset s.route src

/-- A vector becomes pending on head `h`; with MSI-X off the pending state is discarded (R562). -/
def State.pendVector (s : State) (h v : Nat) : State :=
  let x := s.head h
  if s.present h && x.msixOn then s.setHead h { x with msixPend := x.msixPend ||| (1#64 <<< v) } else s

/-- The source's vector becomes pending on each head its routing names (R562). -/
def State.pendSource (s : State) (src : Nat) : State :=
  let r := s.routing src
  (List.range 8).foldl
    (fun t h => if bitAt (getBits r 31 24) h then t.pendVector h (getBits r 21 16) else t) s

/-- The vector becomes pending when the source went from not raised to raised. -/
def State.noteSource (s : State) (was : Bool) (e : Evt) : State :=
  if !was && s.raised e then s.pendSource e.src else s

/-- A record joins the recorder's queue, or is counted when 256 wait (R502). -/
def State.enqueue (s : State) (r : QRec) : State :=
  if s.evt.queue.length < 256 then { s with evt := { s.evt with queue := s.evt.queue ++ [r] } }
  else ({ s with evt := { s.evt with dropped := s.evt.dropped + 1 } }).bump F.evrCntDrops 1

/-- The recorder entry of an occurrence of event bit `e` (Table 15-6, code 0x00kk). -/
def State.evtRecord (s : State) (e : Evt) (p0 p1 p2 : Nat) : QRec :=
  { code := e.bit, src := e.src, sev := e.sev, p0 := p0, p1 := p1, p2 := p2, time := s.time.devtime,
    off := !s.pwr.coreOn }

/-- STARTED, CLEARED and DROPPED of the recorder write no 0x00kk record of their own (R600). -/
def Evt.ownRecord (e : Evt) : Bool := decide (e.blk = .evr ∧ e.bit < 3)

/-- The EVT_STS bit sets, and its source may be raised. -/
def State.setEvtBit (s : State) (e : Evt) : State :=
  (s.setReg e.stsOff (s.reg e.stsOff ||| (1#64 <<< e.bit))).noteSource (s.raised e) e

/-- ERR_INFO and ERR_ADDR take the occurrence: CAUSE is the bit number (R557). -/
def State.capture (s : State) (e : Evt) (info addr : Word) : State :=
  (s.setReg (e.stsOff + 0x18) (putBits info 7 0 e.bit)).setReg (e.stsOff + 0x20) addr

/-- The record of the occurrence joins the queue when its severity is recorded (R502). -/
def State.recordEvt (s : State) (e : Evt) (p0 p1 p2 : Nat) : State :=
  if e.ownRecord || decide (e.sev < s.fld F.evrCfgMinSev) then s else s.enqueue (s.evtRecord e p0 p1 p2)

/-- Hardware raises an event: the bit sets, ERR_INFO and ERR_ADDR are captured in the same cycle, the source is raised
and the occurrence is queued for the recorder (R502, R555, R557). -/
def State.raiseAt (s : State) (e : Evt) (info addr : Word) : State :=
  let t := (s.capture e info addr).setEvtBit e
  t.recordEvt e (getBits (putBits info 7 0 e.bit) 31 0) (getBits addr 31 0) (getBits addr 63 32)

/-- An event whose other ERR fields are zero. -/
def State.raise (s : State) (e : Evt) : State := s.raiseAt e 0#64 0#64

/-- An event with ERR_INFO fields given as a number and ERR_ADDR as a number. -/
def State.raiseN (s : State) (e : Evt) (info addr : Nat) : State :=
  s.raiseAt e (BitVec.ofNat 64 info) (BitVec.ofNat 64 addr)

/-- A bit set through EVT_FORCE: status, recorder with zero parameters, routing; no capture, no action (R556). -/
def State.force (s : State) (e : Evt) : State := (s.setEvtBit e).recordEvt e 0 0 0

/-- Raise when the condition holds. -/
def State.raiseIf (s : State) (c : Bool) (e : Evt) : State := if c then s.raise e else s

/-! ### Gates of the host interfaces -/

/-- ERR_INFO of an access error: head, write, width, reason (Table 17-5). -/
def accessErrInfo (h : Nat) (write : Bool) (width reason : Nat) : Nat :=
  h % 16 * 2 ^ 16 + ofBool write * 2 ^ 15 + (width - 1) % 8 * 2 ^ 12 + reason * 2 ^ 8

/-- ACCESS_ERR of the top block (R7, R45, R551). -/
def State.accessErr (s : State) (h : Nat) (write : Bool) (width off reason : Nat) : State :=
  s.raiseN Ev.topAccessErr (accessErrInfo h write width reason) (off % 2 ^ 25)

/-- Head `h` has management read-only (R45). -/
def State.roMgmt (s : State) (h : Nat) : Bool := s.fld (F.hstCtlRoMgmt h) == 1

/-- CXL.io of head `h` reaches the block: core running, head present, link up or in D3hot. -/
def State.ioUp (s : State) (h : Nat) : Bool :=
  s.pwr.coreOn && s.present h &&
    ((s.head h).link == .active || (s.head h).link == .recovery || (s.head h).link == .d3)

/-- A control-BAR write through head `h` to a register at `off`: nothing when the block cannot take it, an access error
when the head is management read-only (R45), else the effect. -/
def State.barWrite (s : State) (h off : Nat) (k : State → State) : State :=
  let s := s.begin
  if !s.ioUp h then s.emit .notAccepted
  else if s.roMgmt h then s.accessErr h true 8 off 2
  else k s

/-- A control-BAR read through head `h`. -/
def State.barReadGate (s : State) (h : Nat) (k : State → State) : State :=
  let s := s.begin
  if !s.ioUp h then s.emit .notAccepted else k s

/-- A command of head `h`'s mailbox: taken once the management firmware runs, held during a management pause (R69). -/
def State.mailbox (s : State) (h : Nat) (k : State → State) : State :=
  let s := s.begin
  if !(s.ioUp h && s.fwu.running) then s.emit .notAccepted
  else if s.fwu.paused then s.emit .held
  else k s

/-- The mailbox answers. -/
def State.answerMbox (s : State) (h : Nat) (rc : Rc) (fields : List Nat) : State := s.emit (.mbox h rc fields)

/-- A mailbox command that changes state: refused from a head with RO_MGMT (R76, R77). -/
def State.mailboxRw (s : State) (h : Nat) (k : State → State) : State :=
  s.mailbox h fun s => if s.roMgmt h then s.answerMbox h .invalidSecurityState [] else k s

/-- A meaning that always goes on. -/
def done (s : State) : Host.Outcome State Fault Refusal := .next s

/-- An event that can only come about when `c` holds; otherwise it does not happen and nothing changes. -/
def State.when (s : State) (c : Bool) (k : State → State) : State := if c then k s.begin else s.begin

/-! ### Capacity (R24) -/

/-- Blocks of a skein. -/
def State.blocksPerSkein (s : State) : Nat := 8192 * s.popD
/-- Dense bolts of a ply group. -/
def State.boltsPerGroup (s : State) : Nat := (8192 - 96) * s.popD
/-- Net capacity, GiB. -/
def State.netGib (s : State) : Nat := s.popP * 15 * s.boltsPerGroup * 4 / 1024
/-- User capacity, whole GiB. -/
def State.userGib (s : State) : Nat := s.netGib * 1024 / 1265
/-- Host lines: 2^22 in a GiB. -/
def State.hostLines (s : State) : Nat := s.userGib * 2 ^ 22
/-- Lines of the internal log region. -/
def State.logLines (s : State) : Nat := s.userGib * 2 ^ 22 / 768
/-- Lines of the undo area: the last 13/16 of the log region, boundaries rounded down (R416). -/
def State.undoLines (s : State) : Nat := s.logLines - s.logLines * 3 / 16

/-! ### Spread counters (R494 to R497) -/

/-- Cell `j` of counter `c`. -/
def State.cell (s : State) (c j : Nat) : Option Nat := Tab.get (fun _ => some 0) s.ntn.cells (16 * c + j)

/-- The cell with the largest value among cells `0` to `n - 1`, and that value. -/
def State.bestCell (s : State) (c : Nat) : Nat → Option (Nat × Nat)
  | 0 => none
  | n + 1 =>
    match s.bestCell c n, s.cell c n with
    | none, none => none
    | some b, none => some b
    | none, some v => some (n, v)
    | some (j, b), some v => if b < v then some (n, v) else some (j, b)

/-- The value of counter `c`; none when no cell is valid (FAILED). -/
def State.ctr (s : State) (c : Nat) : Option Nat := (s.bestCell c 16).map (·.2)

/-- The value of counter `c`, 0 when it has failed. -/
def State.ctrVal (s : State) (c : Nat) : Nat := (s.ctr c).getD 0

/-- Limit of counter `c` (Table 15-2). -/
def ctrLimit (c : Nat) : Nat :=
  if c = 0 then 2 ^ 24 - 1 else if c = 1 then 2 ^ 16 - 1 else if c = 4 ∨ c = 5 then 2 ^ 56 - 1
  else if c = 6 then 2 ^ 48 - 1 else if c = 32 then 2 ^ 16 - 1 else if c < 16 then 2 ^ 32 - 1 else 2 ^ 48 - 1

/-- How an increment ended (R495, R496). -/
inductive CtrRes where
  | ok | saturated | failed
deriving DecidableEq, Repr

/-- Write cell `j` of counter `c`. -/
def State.setCell (s : State) (c j : Nat) (v : Option Nat) : State :=
  { s with ntn := { s.ntn with cells := Tab.set (fun _ => some 0) s.ntn.cells (16 * c + j) v } }

/-- Byte offset of a cell. -/
def cellOffset (c j : Nat) : Nat := 0x1000 + 128 * c + 8 * j

/-- A cell reads back what was written. -/
def State.cellGood (s : State) (c j : Nat) : Bool := !(Tab.get (fun _ => false) s.ntn.bad (16 * c + j))

/-- Write value `v` of counter `c` into the next cell, once more in the cell after it when the read-back fails. -/
def State.ctrWrite (s : State) (c v : Nat) : State × CtrRes :=
  match s.bestCell c 16 with
  | none => (s.raiseN Ev.ntnCounterFailed (c * 2 ^ 8) (cellOffset c 0), .failed)
  | some (j, _) =>
    let j1 := (j + 1) % 16
    let j2 := (j + 2) % 16
    if s.cellGood c j1 then (s.setCell c j1 (some v), .ok)
    else
      let t := (s.setCell c j1 none).raiseN Ev.ntnCounterCellBad (c * 2 ^ 8) (cellOffset c j1)
      if t.cellGood c j2 then (t.setCell c j2 (some v), .ok)
      else (t.setCell c j2 none, .failed)

/-- Increment counter `c` by `k` (R495, R496). Counters marked clearable keep their generation in bits [55:48]. -/
def State.ctrInc (s : State) (c k : Nat) : State × CtrRes :=
  let v := s.ctrVal c
  let gen := if c = 1 then v / 2 ^ 48 * 2 ^ 48 else 0
  let n := v - gen
  if n + k ≤ ctrLimit c then s.ctrWrite c (gen + n + k)
  else
    let (t, r) := if n = ctrLimit c then (s, .ok) else s.ctrWrite c (gen + ctrLimit c)
    match r with
    | .failed => (t, .failed)
    | _ => (t.raiseN Ev.ntnCounterSaturated (c * 2 ^ 8) (cellOffset c 0), .saturated)

/-- Increment the 16-bit field at bit `lo` of packed counter `c`; a full field reports SATURATED (Table 15-2). -/
def State.ctrIncField (s : State) (c lo : Nat) : State × CtrRes :=
  let v := s.ctrVal c
  if bits v (lo + 15) lo = 2 ^ 16 - 1 then
    (s.raiseN Ev.ntnCounterSaturated (c * 2 ^ 8) (cellOffset c 0), .saturated)
  else s.ctrWrite c (v + 2 ^ lo)

/-- A clear of a clearable counter: generation plus 1, count 0; refused past generation 255 (R497). -/
def State.ctrClear (s : State) (c : Nat) : State × Bool :=
  let gen := s.ctrVal c / 2 ^ 48
  if gen ≥ 255 then (s, false)
  else
    match s.ctrWrite c ((gen + 1) * 2 ^ 48) with
    | (t, .ok) => (t, true)
    | (t, _) => (t, false)

/-! ### Performance counters (R566 to R569) -/

def pmcCfgOff (i k : Nat) : Nat := 0x30000 + i * 0x1000 + 0x200 + 8 * k
def pmcCntOff (i k : Nat) : Nat := 0x30000 + i * 0x1000 + 0x400 + 8 * k
def pmcOvfOff (i : Nat) : Nat := 0x30000 + i * 0x1000 + 0x100

/-- Counter `k` of page `i` runs (R569). -/
def State.pmcRuns (s : State) (i k : Nat) : Bool :=
  getBits (s.reg (pmcCfgOff i k)) 31 31 == 1 && s.fld (F.pmcCtlFreeze i) == 0 && s.fld F.topCtlPmcFreeze == 0

/-- The effects of an overflow of counter `k` of page `i` beside the count itself (R567). -/
def State.pmcOverflowed (s : State) (i k : Nat) : State :=
  let t := s.setReg (pmcOvfOff i) (s.reg (pmcOvfOff i) ||| (1#64 <<< k))
  let t := if getBits (t.reg (pmcCfgOff i k)) 29 29 = 1 then t.raiseN (Ev.pmcOverflow i) 0 k else t
  if t.fld (F.pmcCtlFreezeOnOvf i) = 1 then (t.setFld (F.pmcCtlFreeze i) 1).raiseN (Ev.pmcFrozen i) 0 k else t

/-- Counter `k` of page `i` adds `n`; on overflow it goes on from the remainder, and a chained counter above it adds 1
(R567, R568). `fuel` bounds the chain. -/
def State.pmcAdd : Nat → State → Nat → Nat → Nat → State
  | 0, s, _, _, _ => s
  | fuel + 1, s, i, k, n =>
    let c := (s.reg (pmcCntOff i k)).toNat % 2 ^ 48
    let t := s.setReg (pmcCntOff i k) (BitVec.ofNat 64 ((c + n) % 2 ^ 48))
    if c + n < 2 ^ 48 then t
    else
      let chain := decide (k < 63) && getBits (s.reg (pmcCfgOff i (k + 1))) 30 30 == 1 && s.pmcRuns i (k + 1)
      let u := if chain then State.pmcAdd fuel t i (k + 1) 1 else t
      u.pmcOverflowed i k

/-- The PMC_CFG registers that hold anything but their reset value. -/
def State.pmcListed (s : State) : List (Nat × Nat) :=
  s.pmc.filterMap fun p =>
    let o := p.1 % 0x1000
    if 0x200 ≤ o ∧ o < 0x400 then some ((p.1 - 0x30000) / 0x1000, (o - 0x200) / 8) else none

/-- The event numbers of units that have no instances (Table 17-10). -/
def pmcNoInstance (ev : Nat) : Bool :=
  decide (ev / 256 = 0 ∨ ev / 256 = 2 ∨ ev / 256 = 3 ∨ ev / 256 = 6 ∨ ev / 256 = 7 ∨ ev / 256 = 8)

/-- An event of Table 17-10 counts `n` at instance `inst`: every running counter that names it adds (R566). -/
def State.count (s : State) (ev inst n : Nat) : State :=
  s.pmcListed.foldl
    (fun t p =>
      let cfg := t.reg (pmcCfgOff p.1 p.2)
      let named := getBits cfg 28 28 == 1 || pmcNoInstance ev || getBits cfg 26 20 == inst
      if t.pmcRuns p.1 p.2 && getBits cfg 30 30 == 0 && getBits cfg 11 0 == ev && named then
        State.pmcAdd 64 t p.1 p.2 n
      else t) s

/-- One draw from the free values. -/
def State.draw (s : State) : State × BitVec 64 :=
  ({ s with freeCtr := s.freeCtr + 1 }, Config.free s.freeCtr)

end Sys2Proof.Machine
end

