-- ==== Sys2Proof/Machine/Regs.lean ====
section
/-!
DEFINITION. The commands that act on control-BAR registers as registers: the general write, misaligned accesses, the
latching read of ERR_INFO, clearing and forcing event bits (ch. 0, ch. 17).
-/
namespace Sys2Proof.Machine

/-- The bits of a 64-bit register that a write of `width` bytes at `off` addresses (R6). -/
def laneMask (off width : Nat) : Word :=
  if width = 8 then BitVec.allOnes 64 else if off % 8 = 4 then 0xFFFFFFFF00000000#64 else 0x00000000FFFFFFFF#64

/-- The written data in the register's own bit positions. -/
def laneData (off width : Nat) (data : Word) : Word :=
  (if width = 8 then data else if off % 8 = 4 then data <<< 32 else data) &&& laneMask off width

/-- Each 4-bit weight of 0 becomes 1 (WRP_HEAD_WEIGHT). -/
def nibbleFix (v : Nat) : Nat :=
  (List.range 8).foldl (fun a k => a + (if bits v (4 * k + 3) (4 * k) = 0 then 1 else bits v (4 * k + 3) (4 * k)) * 16 ^ k) 0

/-- What a field takes from a written value: none when the value is out of its range, so that it stays (R598). -/
def Limit.accept : Limit → Nat → Option Nat
  | .any, v => some v
  | .between lo hi, v => if lo ≤ v ∧ v ≤ hi then some v else none
  | .zeroAs k, v => some (if v = 0 then k else v)
  | .capAt k, v => some (min v k)
  | .speed, v => some (if 1 ≤ v ∧ v ≤ 4 then v else 4)
  | .version, v => some (if v = 1 ∨ v = 2 then v else 2)
  | .nibbles, v => some (nibbleFix v)

/-- One field of a register after a write of `data` to the bits of `mask`. -/
def writeField (f : FieldDef) (old : Word) (data mask : Word) : Word :=
  if f.own then old
  else
    match f.acc with
    | .rw =>
      if maskOf f.hi f.lo &&& mask = 0#64 then old
      else
        match f.lim.accept (getBits ((old &&& ~~~mask) ||| data) f.hi f.lo) with
        | some v => putBits old f.hi f.lo v
        | none => old
    | .w1c => old &&& ~~~(data &&& maskOf f.hi f.lo)
    | _ => old

/-- A register after a write, field by field (R4, R5, R598). -/
def writeFields : List FieldDef → Word → Word → Word → Word
  | [], old, _, _ => old
  | f :: fs, old, data, mask => writeFields fs (writeField f old data mask) data mask

/-- Orders among the fields of a register (R598): a write that breaks one leaves the register as it was. -/
def orderOk (s : State) (off : Nat) (v : Word) : Bool :=
  if 0x10000 ≤ off ∧ off < 0x18000 ∧ off % 0x1000 = 0x120 then
    decide (getBits v 7 0 < getBits v 15 8 ∧ getBits v 15 8 < getBits v 23 16 ∧ getBits v 23 16 ≤ 100)
  else if off = 0xB100 then
    decide (8 ≤ getBits v 7 0 ∧ getBits v 7 0 < getBits v 15 8 ∧ getBits v 15 8 < getBits v 23 16)
  else if off = 0x1108 then
    decide (9000 ≤ getBits v 15 0 ∧ getBits v 15 0 ≤ 11500 ∧ getBits v 15 0 + 200 ≤ getBits v 31 16 ∧
      getBits v 31 16 ≤ 12000)
  else if 0x20000 ≤ off ∧ off < 0x28000 ∧ off % 0x1000 = 0x108 then
    decide (256 ≤ getBits v 10 0 ∧ 64 ≤ getBits v 26 16 ∧ getBits v 10 0 + getBits v 26 16 + 128 ≤ 1024)
  else if 0x11A0 ≤ off ∧ off < 0x1200 then
    let i := (off - 0x11A0) / 8
    decide (getBits v 47 32 * 2 ≤ getBits v 15 0) &&
      (if i < 10 then decide (getBits v 15 0 = railNominal i)
       else decide (1000 ≤ getBits v 15 0 ∧ getBits v 15 0 ≤ 3600))
  else if off = 0x9100 then decide (64 ≤ getBits v 15 0 ∧ getBits v 15 0 ≤ s.userGib / 8)
  else if off = 0xE100 then decide (s.swt.st = .none)
  else true

/-- EPO_DOM_CFG belongs to the domain that EPO_DOM_SEL shows; k changes only while its EPOCH_EN is 0 (Table 12-9). -/
def State.writeEpoDomCfg (s : State) (data mask : Word) : State :=
  let d := s.fld F.epoDomSelDomain
  let e := s.epoDom d
  let k := getBits data 12 8
  let e := if mask &&& maskOf 12 8 ≠ 0#64 ∧ 16 ≤ k ∧ k ≤ 26 ∧ (s.dom d).epochEn = false then { e with k := k } else e
  let e := if mask &&& maskOf 0 0 ≠ 0#64 then { e with policyStop := getBits data 0 0 = 1 } else e
  s.setEpoDom d e

/-- Sources that a write of EVT_EN raises: their vectors become pending (R555, R562). `old` is the state before. -/
def State.noteEnable (s old : State) (b : Block) (i : Nat) : Nat → State
  | 0 => s
  | k + 1 => (s.noteEnable old b i k).noteSource (old.raised ⟨b, i, k⟩) ⟨b, i, k⟩

/-- A write in a common page (R4, R551, R598). -/
def State.writePage (s : State) (b : Block) (i o base : Nat) (data mask : Word) : State :=
  if b = .hst ∧ !s.present i then s
  else if b = .epo ∧ o = 0x130 then s.writeEpoDomCfg data mask
  else
    match fieldsAt b i o with
    | none => s
    | some fs =>
      let v := writeFields fs (s.reg base) data mask
      if orderOk s base v then
        if o = 0x28 then (s.setReg base v).noteEnable s b i b.eventBits else s.setReg base v
      else s

/-- A write to the domain table: HALT_SCOPE of CRY_DOM_CTL; its other fields have commands of their own (R373). -/
def State.writeDomain (s : State) (o : Nat) (data mask : Word) : State :=
  let d := o / 0x100
  if o % 0x100 = 0 ∧ mask &&& maskOf 2 2 ≠ 0#64 then
    s.setDom d { s.dom d with haltDom := getBits data 2 2 = 1 }
  else s

/-- A source that Table 17-7 leaves reserved (R560). -/
def reservedSource (k : Nat) : Bool :=
  decide ((396 ≤ k ∧ k ≤ 415) ∨ (422 ≤ k ∧ k ≤ 447) ∨ (464 ≤ k ∧ k ≤ 511) ∨ (528 ≤ k ∧ k ≤ 559) ∨
    (568 ≤ k ∧ k ≤ 575) ∨ (588 ≤ k ∧ k ≤ 591) ∨ (599 ≤ k ∧ k ≤ 607) ∨ (617 ≤ k ∧ k ≤ 639) ∨ (653 ≤ k ∧ k ≤ 655) ∨
    (665 ≤ k ∧ k ≤ 671) ∨ (674 ≤ k ∧ k ≤ 703) ∨ (716 ≤ k ∧ k ≤ 719) ∨ (733 ≤ k ∧ k ≤ 735) ∨ k = 743 ∨
    (754 ≤ k ∧ k ≤ 759))

/-- A write to a routing entry: HEADS, VECTOR and CXL_MIN_SEV (R560, R561). -/
def State.writeRouting (s : State) (o : Nat) (data mask : Word) : State :=
  let k := o / 8
  if 768 ≤ k ∨ reservedSource k then s
  else
    let keep := mask &&& (maskOf 31 24 ||| maskOf 21 16 ||| maskOf 10 8)
    { s with route := Tab.set routeReset s.route k ((s.routing k &&& ~~~keep) ||| (data &&& keep)) }

/-- The effect of an aligned control-BAR write (R44, R45, R550, R551). -/
def State.writeBar (s : State) (h off width : Nat) (data : Word) : State :=
  let base := off / 8 * 8
  let d := laneData off width data
  let m := laneMask off width
  match windowAt off with
  | some .userView => s
  | some .domTable => s.writeDomain (base - 0x100000) d m
  | some .routing => s.writeRouting (base - 0x110000) d m
  | none =>
    match pageAt base with
    | some (b, i, o) => s.writePage b i o base d m
    | none => s.accessErr h true width off 3

/-- CONTROL_BAR_WRITE (R551, with R4 to R7, R45, R598). -/
def execControlBarWrite (h off width : Nat) (data : BitVec 64) (s : State) : Host.Outcome State Fault Refusal :=
  let s := s.begin
  if !s.ioUp h then done (s.emit .notAccepted)
  else if (width ≠ 4 ∧ width ≠ 8) ∨ off % width ≠ 0 then done (s.accessErr h true width off 1)
  else if s.roMgmt h then done (s.accessErr h true width off 2)
  else done (s.writeBar h off width data)

/-- MISALIGNED_ACCESS (R7): a write is discarded, a read returns all ones, and ACCESS_ERR is raised with reason 1. An
aligned access of 32 or 64 bits is not this command. -/
def execMisalignedAccess (h : Nat) (write : Bool) (off width : Nat) (s : State) : Host.Outcome State Fault Refusal :=
  let s := s.begin
  if !s.ioUp h then done (s.emit .notAccepted)
  else if (width = 4 ∨ width = 8) ∧ off % width = 0 then done s
  else
    let s := s.accessErr h write width off 1
    done (if write then s else s.emit (.barData h (BitVec.allOnes 64)))

/-- EVT_STS_CLEAR (R4, R8): the written ones clear their bits; the other bits stay. -/
def execEvtStsClear (h off width : Nat) (data : BitVec 64) (s : State) : Host.Outcome State Fault Refusal :=
  done (s.barWrite h off fun s =>
    let base := off / 8 * 8
    match pageAt base with
    | some (b, i, 0x20) =>
      if b = .hst ∧ !s.present i then s else s.setReg base (s.reg base &&& ~~~(laneData off width data))
    | _ => s)

/-- Event bit `k` of the page whose EVT_FORCE is written. -/
def State.forceBits (s : State) (b : Block) (i : Nat) (d : Word) : Nat → State
  | 0 => s
  | k + 1 =>
    let s := s.forceBits b i d k
    if getBits d k k = 1 ∧ !(b = .skn ∧ k = 7) then s.force ⟨b, i, k⟩ else s

/-- EVT_FORCE (R556): each written one of an implemented bit is an occurrence of its event for EVT_STS, the recorder and
routing, with zero parameters, no capture and no device action. -/
def execEvtForce (h off width : Nat) (data : BitVec 64) (s : State) : Host.Outcome State Fault Refusal :=
  done (s.barWrite h off fun s =>
    let base := off / 8 * 8
    match pageAt base with
    | some (b, i, 0x30) => if b = .hst ∧ !s.present i then s else s.forceBits b i (laneData off width data) b.eventBits
    | _ => s)

end Sys2Proof.Machine
end

