-- ==== Sys2Proof/Machine/Health.lean ====
section
/-!
DEFINITION. What the health reports and the alerts are computed from: populations, retirements, bolts, wear, spare
space, temperatures (R23, R24, R313, R484, R509 to R511), and the posting of CXL event records (R75, R564).
-/
namespace Sys2Proof.Machine

/-! ### Skeins, bolts and groups -/

def State.link1 (s : State) (n : Nat) : SkeinLink := Tab.get (fun _ => SkeinLink.fresh) s.link.sk n

def State.setLink1 (s : State) (n : Nat) (x : SkeinLink) : State :=
  { s with link := { s.link with sk := Tab.set (fun _ => SkeinLink.fresh) s.link.sk n x } }

def State.warp1 (s : State) (n : Nat) : SkeinWarp := Tab.get (fun _ => SkeinWarp.fresh) s.warp.sk n

def State.setWarp1 (s : State) (n : Nat) (x : SkeinWarp) : State :=
  { s with warp := { s.warp with sk := Tab.set (fun _ => SkeinWarp.fresh) s.warp.sk n x } }

/-- Resources held retired: the table and its overflow list (R361, R362). -/
def State.retiredRes (s : State) (r : Res) : Bool :=
  s.flt.ret.any (fun e => decide (e.res = r)) || s.flt.retOvf.any (fun e => decide (e.res = r))

def resBlock (n b : Nat) : Res := ⟨1, n * 2 ^ 17 + b⟩
def resPart (n die p : Nat) : Res := ⟨2, n * 2 ^ 17 + die * 2 ^ 13 + p⟩
def resDie (n die : Nat) : Res := ⟨3, n * 2 ^ 17 + die * 2 ^ 13⟩
def resSkein (n : Nat) : Res := ⟨4, n * 2 ^ 17⟩
def resBank (arr grp bank : Nat) : Res := ⟨5, arr * 2 ^ 20 + grp * 2 ^ 16 + bank⟩
def resQueue (q e : Nat) : Res := ⟨6, q * 2 ^ 8 + e⟩
def resAes (g p : Nat) : Res := ⟨7, g * 2 ^ 16 + p⟩
def resEngine (g : Nat) : Res := ⟨8, g * 2 ^ 16⟩

/-- Skein `n` is retired, or counts as retired (R23, R309). -/
def State.skeinRetired (s : State) (n : Nat) : Bool :=
  s.retiredRes (resSkein n) || (s.link1 n).pkg == .retired || ((s.link1 n).pkg == .incompatible && s.map.fmt.isSome)

/-- Skein `n` is populated. -/
def State.populated (s : State) (n : Nat) : Bool := decide (n < 16 * s.popP)

/-- A live skein: populated, not retired, its link ACTIVE. -/
def State.live (s : State) (n : Nat) : Bool :=
  s.populated n && !s.skeinRetired n && (s.link1 n).st == .active

/-- Block `b` is usable on skein `n`: neither the skein, nor its die, nor the block is retired. -/
def State.blockUsable (s : State) (n b : Nat) : Bool :=
  !s.skeinRetired n && !s.retiredRes (resDie n (b / 8192)) && !s.retiredRes (resBlock n b)

/-- Members of ply group `g` whose block `b` is usable. -/
def State.usable (s : State) (g b : Nat) : BitVec 16 :=
  (List.range 16).foldl (fun m i => if s.blockUsable (16 * g + i) b then m ||| (1#16 <<< i) else m) 0#16

/-- Block index `b` is a Selvage block (R17). -/
def selvageBlock (b : Nat) : Bool := decide (b % 8192 < 96)

/-- Number of ones. -/
def popCount (w : BitVec 16) : Nat := (List.range 16).foldl (fun n i => n + ofBool (w.getLsbD i)) 0

def boltKey (g b : Nat) : Nat := g * 131072 + b

/-- The bolt table entry of (g, b) (R311, R312). -/
def State.bolt (s : State) (g b : Nat) : Bolt :=
  if s.popP ≤ g ∨ s.blocksPerSkein ≤ b then { Bolt.fresh with st := .absent, members := 0#16 }
  else if selvageBlock b then { Bolt.fresh with st := .selvage, members := 0#16 }
  else Tab.get (fun _ => Bolt.fresh) s.upk.bolts (boltKey g b)

def State.setBolt (s : State) (g b : Nat) (x : Bolt) : State :=
  { s with upk := { s.upk with bolts := Tab.set (fun _ => Bolt.fresh) s.upk.bolts (boltKey g b) x } }

/-- The listed bolts of a group: those that differ from a bolt never used. -/
def State.listed (s : State) (g : Nat) : List (Nat × Bolt) :=
  s.upk.bolts.filterMap fun p => if p.1 / 131072 = g then some (p.1 % 131072, p.2) else none

/-- Free bolts of a group (R313). -/
def State.freeBolts (s : State) (g : Nat) : Nat :=
  if s.popP ≤ g then 0
  else s.boltsPerGroup - ((s.listed g).filter fun p => decide (p.2.st ≠ .free)).length

def State.upkG (s : State) (g : Nat) : UpkGroup := Tab.get (fun _ => UpkGroup.fresh) s.upk.groups g

def State.setUpkG (s : State) (g : Nat) (x : UpkGroup) : State :=
  { s with upk := { s.upk with groups := Tab.set (fun _ => UpkGroup.fresh) s.upk.groups g x } }

/-- Live skeins of a group: populated and not retired. -/
def State.groupSkeins (s : State) (g : Nat) : Nat :=
  ((List.range 16).filter fun i => s.populated (16 * g + i) && !s.skeinRetired (16 * g + i)).length

/-- Lowest ENDUR_D among a group's packages (R326). -/
def State.endur (s : State) (g : Nat) : Nat :=
  (List.range 16).foldl (fun m i => min m (s.link1 (16 * g + i)).page.endurD) 3000000

/-! ### Health figures -/

/-- Wear of a bolt, per cent of ENDUR_D. -/
def State.wearPct (s : State) (g resets : Nat) : Nat := resets * 100 / max 1 (s.endur g)

/-- Wear used, maximum, per cent, over all groups. -/
def State.wearMax (s : State) : Nat :=
  s.upk.bolts.foldl (fun m p => max m (s.wearPct (p.1 / 131072) p.2.resets)) 0

/-- Sum of RESET_COUNT over all bolts. -/
def State.resetSum (s : State) : Nat := s.upk.bolts.foldl (fun n p => n + p.2.resets) 0

/-- Wear used, mean, per cent. -/
def State.wearMean (s : State) : Nat :=
  s.resetSum * 100 / max 1 (s.popP * s.boltsPerGroup * 3000000)

/-- Over-provisioning at format, MiB (Table 1-4). -/
def State.overMib (s : State) : Nat :=
  s.netGib * 1024 - (s.userGib * 1024 + s.userGib * 64 + s.userGib * 1024 / 768)

/-- Capacity that retirements take away, MiB: 4 MiB for each block of a bolt. -/
def State.retiredMib (s : State) : Nat :=
  (s.flt.ret ++ s.flt.retOvf).foldl
    (fun n e => n + (if e.res.ty = 4 then s.boltsPerGroup * 4 else if e.res.ty = 3 then 8096 * 4
      else if e.res.ty = 1 then 4 else 0)) 0

/-- Undo entries and their lines count 256 bytes each; MiB in use (R432). -/
def State.undoMib (s : State) : Nat :=
  let lines := s.epo.doms.foldl
    (fun n p => n + p.2.openTab.length + p.2.prepTab.length + (match p.2.cleanup with | some l => l.length | none => 0)) 0
  lines * 256 / 2 ^ 20

/-- Spare space left, per cent (R509). -/
def State.sparePct (s : State) : Nat :=
  (s.overMib - (s.retiredMib + s.undoMib)) * 100 / max 1 s.overMib

/-- A 16-bit two's complement number. -/
def signed16 (w : BitVec 16) : Int := w.toInt

/-- USED of a tile (R474). -/
def State.usedT (s : State) (t : Nat) : BitVec 16 := Tab.get (fun _ => 0#16) s.thm.used t

/-- The hottest tile: its number and its USED, ties to the lowest number. -/
def State.hotTile (s : State) : Nat × BitVec 16 :=
  (List.range 64).foldl
    (fun (a : Nat × BitVec 16) t => if signed16 a.2 < signed16 (s.usedT t) then (t, s.usedT t) else a) (0, s.usedT 0)

/-- Device temperature of Get Health Info: the maximum USED, rounded to whole °C (R484). -/
def State.deviceTemp (s : State) : Int := (signed16 s.hotTile.2 + 8) / 16

/-- A ply group is STOPPED when fewer than 12 of its skeins are live (R211). -/
def State.groupStopped (s : State) (g : Nat) : Bool := (s.group g).stopped

/-- The alerts that hold now, as Additional Status bits: 0 life used, 1 over-temperature, 2 under-temperature,
3 corrected volatile, 4 corrected persistent (R511). -/
def State.alertsNow (s : State) : Nat :=
  let v (i : Nat) : Nat := s.ntn.alerts.getD i 0
  let on (i : Nat) : Bool := s.ntn.alertEn.getLsbD i
  ofBool (on 0 && decide (v 0 ≤ s.wearMax)) + 2 * ofBool (on 1 && decide ((v 1 : Int) ≤ s.deviceTemp)) +
    4 * ofBool (on 2 && s.thm.first && decide (s.deviceTemp < (v 2 : Int))) +
    8 * ofBool (on 3 && decide (v 3 ≤ s.fld F.fltCnt1Sram)) + 16 * ofBool (on 4 && decide (v 4 ≤ s.fld F.fltCnt0Media))

/-- The temperature histograms are written to the Notion store (R484). -/
def State.saveHist (s : State) : State :=
  { s with ntn := { s.ntn with histDie := s.thm.hDie, histMedia := s.thm.hMedia, histMax := s.thm.max } }

/-! ### CXL event records -/

/-- The machine-index word of records and read-outs (Table 1-2). -/
def State.midxWord (s : State) : Nat :=
  if s.fld F.topMidxAssigned = 1 then 2 ^ 31 + s.fld F.topMidxIndex else 0

/-- One log takes a record; when it holds 256 the record is lost and its overflow count rises (R75). -/
def State.logAdd (s : State) (h sev : Nat) (r : CxlRec) : State :=
  let x := s.head h
  let l := x.logs.at sev
  if l.length < 256 then
    let t := s.setHead h { x with logs := x.logs.put sev (l ++ [r]) }
    let p := x.evtPolicy.at sev
    if p % 4 = 1 then t.pendVector h (p / 16 % 64) else t
  else s.setHead h { x with ovf := x.ovf.put sev (x.ovf.at sev + 1) }

/-- A CXL event record goes to the log of its severity on every present head (R75, R564). -/
def State.postCxl (s : State) (kind : CxlKind) (sev time : Nat) (data : List Nat) : State :=
  let s := { s with evt := { s.evt with handle := s.evt.handle % 65535 + 1 } }
  let r : CxlRec := { handle := s.evt.handle, kind := kind, sev := sev, time := time, midx := s.midxWord, data := data }
  (List.range s.nHeads).foldl (fun t h => t.logAdd h sev r) s

/-- Alerts whose threshold has been crossed since they were last looked at set their bit and post a Warning record; bits
of alerts that no longer hold clear (R511). -/
def State.checkAlerts (s : State) : State :=
  let now := s.alertsNow
  let t := (List.range 5).foldl
    (fun t i => if bitAt now i && !bitAt s.ntn.alertSts i then t.postCxl .healthAlert 1 s.time.devtime [i] else t) s
  { t with ntn := { t.ntn with alertSts := now } }

end Sys2Proof.Machine
end

