-- ==== Sys2Proof/Machine/Time.lean ====
section
/-!
DEFINITION. The time bases (R29 to R35, R71, R73, R494): the tick of an idle block, DEVTIME, the edges of PPS_IN, the
operating-time counter and the machine-scope device index (R11, R12, R78).
-/
namespace Sys2Proof.Machine

/-- DEVTIME after one period of the reference: 40 ns, less what slewing takes off (R31): 1 ns whenever the share of
the offset that has fallen due reaches a whole nanosecond. -/
def Time.advance (t : Time) : Time :=
  if t.slewLeft = 0 then { t with devtime := (t.devtime + 40) % 2 ^ 64, upNs := t.upNs + 40 }
  else
    let acc := t.slewAcc + t.slewE
    let step : Int := if 25000000 ≤ acc then 1 else if acc ≤ -25000000 then -1 else 0
    { t with devtime := (((t.devtime : Int) + 40 - step) % 2 ^ 64).toNat, upNs := t.upNs + 40, slewLeft := t.slewLeft - 1,
             slewAcc := acc - step * 25000000 }

/-- The slot and Pick counter and the operating time while the core runs (R29). -/
def Time.advanceCore (t : Time) : Time :=
  if t.slot = 127 then { t with slot := 0, pick := t.pick + 1, opNs := t.opNs + 40 }
  else { t with slot := t.slot + 1, opNs := t.opNs + 40 }

/-- One period of the 25 MHz reference with no command waiting: what an idle block does. -/
def State.tick (s : State) : State :=
  if s.pwr.stby then
    let t := s.time.advance
    { s with out := [], time := if s.pwr.coreOn then t.advanceCore else t }
  else { s with out := [] }

/-- The slot counter from power-up on: Pick × 128 + slot. -/
def State.slotAbs (s : State) : Nat := s.time.pick * 128 + s.time.slot

/-- SEAL_CLK of the bolts and REFRESH_CLK of the triples not yet probed move back by the off time (R247, R332). -/
def State.provisionalAges (s : State) (off : Nat) : State :=
  let back (c : Nat) : Nat := (c + 2 ^ 32 + s.rd.provOff % 2 ^ 32 - off % 2 ^ 32) % 2 ^ 32
  { s with
      upk := { s.upk with
        bolts := Tab.mapVals (fun _ => Bolt.fresh) (fun _ b => if b.ageUnk then { b with sealClk := back b.sealClk } else b)
          s.upk.bolts
        triples := Tab.mapVals (fun _ => { Triple.fresh with clk := back s.upk.tripBase })
          (fun _ b => if b.probed then b else { b with clk := back b.clk }) s.upk.triples
        tripBase := back s.upk.tripBase }
      rd := { s.rd with ageUnknown := false, provOff := off } }

/-- SET_TIMESTAMP (R30, R73, R77, R247): DEVTIME takes the value at once. Deadlines it moves past fire as commands of
their own (R33). -/
def execSetTimestamp (h : Nat) (ns : BitVec 64) (s : State) : Host.Outcome State Fault Refusal :=
  done (s.mailboxRw h fun s =>
    let old := s.time.devtime
    let s := { s with time := { s.time with devtime := ns.toNat, slewLeft := 0, slewAcc := 0,
                                            setTs := some (s.time.upNs, old, ns.toNat), marked := none } }
    let s := (s.setFld F.topTimeValid 1).raise Ev.topTimeSet
    let s := match s.rd.savedTime with
      | some t =>
        if s.upk.unknown ∧ t < ns.toNat ∧ ns.toNat < t + 315576000 * 10 ^ 9 then
          s.provisionalAges ((ns.toNat - t) / 10 ^ 9)
        else s
      | none => s
    s.answerMbox h .success [])

/-- GET_TIMESTAMP (R71): the device-wide DEVTIME. -/
def execGetTimestamp (h : Nat) (s : State) : Host.Outcome State Fault Refusal :=
  done (s.mailbox h fun s => s.answerMbox h .success [s.time.devtime])

/-- The whole second nearest to a DEVTIME, in ns (R31). -/
def nearestSecond (t : Nat) : Nat := (t + 500000000) / 1000000000 * 1000000000

/-- An accepted edge (R31): slew or step. -/
def State.acceptEdge (s : State) : State :=
  let m := nearestSecond s.time.devtime
  let e : Int := (s.time.devtime : Int) - m
  let t := { s.time with ppsLocked := true, lastEdge := some s.time.upNs, candidate := some s.time.upNs,
                         marked := some m }
  let stepped := decide (e < -250000 ∨ 250000 < e)
  let t := if stepped then { t with devtime := m % 2 ^ 64, slewLeft := 0, slewAcc := 0, slewE := 0 }
           else { t with slewLeft := 25000000, slewE := e, slewAcc := 0 }
  let s := { s with time := t }
  let s := ((s.bump F.topTimeEdges 1).setFld F.topTimePpsOk 1).setFld F.topTimeStepped (ofBool stepped)
  s.setFld F.topPpsOffsetNs (e % 2 ^ 32).toNat

/-- An edge within 0.1 s of 1, 2 or 3 seconds after the last accepted one (R32). -/
def edgeFits (dt : Nat) : Bool :=
  decide ((900000000 ≤ dt ∧ dt ≤ 1100000000) ∨ (1900000000 ≤ dt ∧ dt ≤ 2100000000) ∨
    (2900000000 ≤ dt ∧ dt ≤ 3100000000))

/-- PPS_EDGE (R31, R32, R591): observed only while the core runs. -/
def execPpsEdge (s : State) : Host.Outcome State Fault Refusal :=
  done (s.when s.pwr.coreOn fun s =>
    if s.time.ppsLocked then
      if edgeFits (s.time.upNs - s.time.lastEdge.getD 0) then s.acceptEdge else s.bump F.topPpsIgnored 1
    else
      match s.time.candidate with
      | some c =>
        if 900000000 ≤ s.time.upNs - c ∧ s.time.upNs - c ≤ 1100000000 then s.acceptEdge.raise Ev.topPpsLocked
        else { s with time := { s.time with candidate := some s.time.upNs } }
      | none => { s with time := { s.time with candidate := some s.time.upNs } })

/-- PPS_LOST (R32): 3 s without an accepted edge. -/
def execPpsLost (s : State) : Host.Outcome State Fault Refusal :=
  done (s.when (s.pwr.coreOn && s.time.ppsLocked) fun s =>
    let s := { s with time := { s.time with ppsLocked := false, slewLeft := 0, slewE := 0, slewAcc := 0 } }
    (s.setFld F.topTimePpsOk 0).raise Ev.topPpsLost)

/-- OPTIME_TICK (R494, Table 15-2): each operating second counter 4 advances by 1,000 ms. -/
def execOptimeTick (s : State) : Host.Outcome State Fault Refusal :=
  done (s.when s.pwr.coreOn fun s => (s.ctrInc 4 1000).1)

/-- SET_MACHINE_INDEX (R11, R12, R78). -/
def execSetMachineIndex (h : Nat) (payload : BitVec 32) (s : State) : Host.Outcome State Fault Refusal :=
  done (s.mailboxRw h fun s =>
    let v := payload.toNat
    if 2 ^ 18 ≤ v then s.answerMbox h .invalidInput []
    else if s.fld F.topMidxAssigned = 1 then
      if s.fld F.topMidxIndex = v then s.answerMbox h .success [] else s.answerMbox h .invalidInput []
    else (((s.setFld F.topMidxIndex v).setFld F.topMidxAssigned 1).raise Ev.topMidxAssigned).answerMbox h .success [])

end Sys2Proof.Machine
end

