-- ==== Sys2Proof/Machine/Bolts.lean ====
section
/-!
DEFINITION. Media line addresses, the place of a stripe's lines, bolts and their valid counts, age clocks and age
classes (R10, R18, R210, R311 to R318, R327 to R331).
-/
namespace Sys2Proof.Machine

/-! ### Media line addresses (Table 4-1) -/

def addrSkein (a : Nat) : Nat := a / 2 ^ 31 % 128
def addrBlock (a : Nat) : Nat := a / 2 ^ 14 % 2 ^ 17
def addrOff (a : Nat) : Nat := a % 2 ^ 14
def addrGroup (a : Nat) : Nat := addrSkein a / 16
def mkAddr (n b o : Nat) : Nat := n * 2 ^ 31 + b * 2 ^ 14 + o

/-- The member positions of a bolt, ascending (S_0 to S_{w-1} of R210). -/
def memberList (m : BitVec 16) : List Nat := (List.range 16).filter fun i => m.getLsbD i

/-- The member position of stripe `s`'s parity line (R18, R210). -/
def parityPos (m : BitVec 16) (s : Nat) : Nat :=
  (memberList m).getD (s % max 1 (popCount m)) 0

/-- The member position of data line `k` of stripe `s` (R18, R210). -/
def dataPos (m : BitVec 16) (s k : Nat) : Nat :=
  (memberList m).getD ((s + 1 + k) % max 1 (popCount m)) 0

/-- The media line address of data line `k` of stripe `s` of bolt (g, b) whose members are `m`. -/
def dataAddr (g b : Nat) (m : BitVec 16) (s k : Nat) : Nat := mkAddr (16 * g + dataPos m s k) b s

/-! ### Age clocks and classes -/

/-- AGECLK[g] in whole seconds (R328). -/
def State.ageSec (s : State) (g : Nat) : Nat := Tab.get (fun _ => 0) s.upk.clk g / 65536

/-- An age from a clock value at seal, modulo 2^32, with 2^31 as its ceiling (R328). -/
def ageOf (now clk : Nat) : Nat :=
  let a := (now + 2 ^ 32 - clk % 2 ^ 32) % 2 ^ 32
  if 2 ^ 31 ≤ a then 2 ^ 31 else a

/-- The age class: the largest c with CLASS_AGE[c] at most the age (R328). -/
def classOf (table : List Nat) (age : Nat) : Nat :=
  (List.range 16).foldl (fun c i => if table.getD i 0 ≤ age then i else c) 0

/-- The class of a bolt on member `i`. -/
def State.memberClass (s : State) (g : Nat) (x : Bolt) (i : Nat) : Nat :=
  classOf (s.link1 (16 * g + i)).page.classAge (ageOf (s.ageSec g) x.sealClk)

/-- The highest class among a bolt's members. -/
def State.boltClass (s : State) (g : Nat) (x : Bolt) : Nat :=
  (memberList x.members).foldl (fun c i => max c (s.memberClass g x i)) 0

/-! ### Events of upkeep -/

/-- Process codes of UPK_ERR_INFO (Table 9-8). -/
def procCode : Proc → Nat
  | .wring => 0
  | .press => 1
  | .rinse => 2
  | .darn => 3
  | .swap => 4

/-- An upkeep event with its process, the class of the bolt and its place. -/
def State.upkEvent (s : State) (e : Evt) (p : Proc) (cls g b : Nat) : State :=
  s.raiseN e (procCode p * 2 ^ 12 + cls * 2 ^ 8) (g * 2 ^ 17 + b % 2 ^ 17)

/-! ### Valid counts (R316, R317) -/

/-- Darn owns a DEGRADED sealed bolt; any other belongs to the process that took it (Table 9-1, R324). -/
def Bolt.owner (x : Bolt) : Option Proc :=
  match x.proc with
  | some p => some p
  | none => if x.degraded ∧ x.st = .sealed then some .darn else none

/-! ### The Selvage age table (R329, R333) -/

def tripleKey (n die triple : Nat) : Nat := (n * 16 + die) * 32 + triple

def State.triple (s : State) (k : Nat) : Triple := Tab.get (fun _ => { Triple.fresh with clk := s.upk.tripBase }) s.upk.triples k

def State.setTriple (s : State) (k : Nat) (x : Triple) : State :=
  { s with upk := { s.upk with triples := Tab.set (fun _ => { Triple.fresh with clk := s.upk.tripBase }) s.upk.triples k x } }

/-- The die of a triple is in use. -/
def State.dieUsable (s : State) (n die : Nat) : Bool :=
  s.populated n && decide (die < s.popD) && !s.skeinRetired n && !s.retiredRes (resDie n die)

/-- Triples in use that no probe has measured since power-up. -/
def State.triplesLeft (s : State) : Nat :=
  let dies := (List.range 128).foldl
    (fun c n => c + ((List.range 16).filter fun d => s.dieUsable n d).length) 0
  32 * dies - (s.upk.triples.filter fun p => p.2.probed && s.dieUsable (p.1 / 512) (p.1 / 32 % 16)).length

/-- Sealed bolts that are AGE_UNKNOWN. -/
def State.boltsUnknown (s : State) : Nat :=
  (s.upk.bolts.filter fun p => p.2.ageUnk && decide (p.2.st = .sealed ∨ p.2.st = .victim)).length

/-- The age-unknown interval ends when no bolt and no triple is AGE_UNKNOWN: Rinse resumes, its period extended by the
interval, and AGE_KNOWN gives the operating seconds since power-up (R243, R333, R337). -/
def State.endUnknown (s : State) : State :=
  if s.upk.unknown && s.map.st == .active && s.boltsUnknown == 0 && s.triplesLeft == 0 then
    ({ s with
        upk := { s.upk with unknown := false, probing := [], rinse := true,
                            rinseFrom := s.upk.rinseFrom + (s.time.opNs - s.upk.unknownFrom) }
        rd := { s.rd with ageUnknown := false } } : State).raiseN Ev.upkAgeKnown
      ((s.slotAbs * 40 / 1000000000) % 2 ^ 32 * 2 ^ 32) 0
  else s

/-- What the process that had the bolt counts when it is empty (Table 9-10); a static swap ends (R325). -/
def State.emptied (s : State) (g : Nat) (p : Option Proc) : State :=
  match p with
  | some .wring => s.bump F.upkCntWringBolts 1
  | some .press => s.bump F.upkCntPressBolts 1
  | some .darn => s.bump F.upkCnt2DarnBolts 1
  | some .swap => s.setUpkG g { s.upkG g with swap := false, swapped := true }
  | _ => s

/-- A bolt whose count is 0, with no stripe of it still to be recorded, becomes EMPTY; its reset mark is the next JSN to be
assigned (R317). In a group that is evacuated it becomes DEAD (R345). -/
def State.settleBolt (s : State) (g b : Nat) : State :=
  let x := s.bolt g b
  let pending := (s.group g).stripes.any fun t => t.block == b
  if (x.st = .sealed ∨ x.st = .victim) ∧ x.valid = 0 ∧ !x.cntUnk ∧ !pending then
    let t := (s.setBolt g b { x with st := if (s.upkG g).evacuate then .dead else .empty, mark := s.map.nextJsn }).emptied g
      x.owner
    if x.ageUnk then t.endUnknown else t
  else s

/-- One line more is live at a media address. -/
def State.liveAt (s : State) (a : Nat) : State :=
  let x := s.bolt (addrGroup a) (addrBlock a)
  s.setBolt (addrGroup a) (addrBlock a) { x with valid := x.valid + 1 }

/-- One line fewer is live at a media address. -/
def State.deadAt (s : State) (a : Nat) : State :=
  let x := s.bolt (addrGroup a) (addrBlock a)
  (s.setBolt (addrGroup a) (addrBlock a) { x with valid := x.valid - 1 }).settleBolt (addrGroup a) (addrBlock a)

/-- A bolt is reset-eligible: EMPTY, its mark passed by a completed checkpoint, and no outstanding read of its blocks
(R228, R317). -/
def State.resetEligible (s : State) (g b : Nat) : Bool :=
  let x := s.bolt g b
  decide (x.st = .empty ∧ x.mark ≤ s.map.ckptJsn) &&
    !(s.rd.reads.any fun r => decide (r.st ≠ .needMap ∧ addrGroup r.addr = g ∧ addrBlock r.addr = b))

/-! ### Queueing for Press (R334, R335) -/

/-- A bolt joins the Press queue of its group. -/
def State.queuePress (s : State) (g b : Nat) : State :=
  let x := s.bolt g b
  if x.pressQ ∨ x.st ≠ .sealed then s
  else (s.setBolt g b { x with pressQ := true }).upkEvent Ev.upkPressQueued .press (s.boltClass g x) g b

/-- What the class of a sealed bolt asks for: the queue from PRESS_CLASS on, PRESS_LATE once at class 15. -/
def State.checkAge (s : State) (g b : Nat) : State :=
  let x := s.bolt g b
  let c := s.boltClass g x
  if x.st ≠ .sealed ∨ x.ageUnk then s
  else
    let t := if s.fld F.upkPressCfgPressClass ≤ c then s.queuePress g b else s
    let y := t.bolt g b
    if c = 15 ∧ y.pressQ ∧ !y.late then
      (t.setBolt g b { y with late := true }).upkEvent Ev.upkPressLate .press c g b
    else t

/-- A drift event of a bolt (R233, R331): `up` when the line decoded at c + 1. -/
def State.driftEvent (s : State) (a : Nat) (up : Bool) : State :=
  let g := addrGroup a
  let b := addrBlock a
  let x := s.bolt g b
  if x.st ≠ .sealed ∧ x.st ≠ .victim then s
  else
    let page := (s.link1 (addrSkein a)).page
    let c := classOf page.classAge (ageOf (s.ageSec g) x.sealClk)
    let back := (s.ageSec g + 2 ^ 32 - page.classAge.getD (min 15 (c + 1)) 0 % 2 ^ 32) % 2 ^ 32
    let older := decide (ageOf (s.ageSec g) x.sealClk < ageOf (s.ageSec g) back)
    let y := { x with drift := min 15 (x.drift + 1), sealClk := if up && older then back else x.sealClk }
    let t := s.setBolt g b y
    if 4 ≤ y.drift then t.queuePress g b else t

/-! ### Opening a bolt (R314) -/

/-- The block index of dense ordinal `o` of a skein, in ascending order. -/
def denseBlock (o : Nat) : Nat := o / 8096 * 8192 + 96 + o % 8096

/-- The lowest dense block that the table does not list: a bolt never used. `fuel` is one more than the listed bolts. -/
def State.unlisted (s : State) (g : Nat) : Nat → Nat → Option Nat
  | 0, _ => none
  | fuel + 1, o =>
    if s.boltsPerGroup ≤ o then none
    else if s.upk.bolts.any (fun p => p.1 == boltKey g (denseBlock o)) then s.unlisted g fuel (o + 1)
    else some (denseBlock o)

/-- FREE bolts to choose from: the listed ones and the first that was never used, each with its RESET_COUNT. -/
def State.freeList (s : State) (g : Nat) : List (Nat × Nat) :=
  let used := (s.listed g).filterMap fun p => if p.2.st = .free then some (p.1, p.2.resets) else none
  match s.unlisted g (s.upk.bolts.length + 1) 0 with
  | some b => (b, 0) :: used
  | none => used

/-- The one with the lowest count, ties to the lowest block; with `high`, the highest count. -/
def pickBolt (high : Bool) : List (Nat × Nat) → Option (Nat × Nat)
  | [] => none
  | p :: ps =>
    match pickBolt high ps with
    | none => some p
    | some q =>
      if high then
        if q.2 < p.2 ∨ (p.2 = q.2 ∧ p.1 < q.1) then some p else some q
      else if p.2 < q.2 ∨ (p.2 = q.2 ∧ p.1 < q.1) then some p else some q

def partKind : Part → Nat
  | .host => 0
  | .met => 1
  | .upk => 2

/-- The open bolt of a kind. -/
def Group.openBolt (x : Group) : Part → Option OpenBolt
  | .host => x.host
  | .met => x.metaB
  | .upk => x.upk

def Group.withOpen (x : Group) (p : Part) (o : Option OpenBolt) : Group :=
  match p with
  | .host => { x with host := o }
  | .met => { x with metaB := o }
  | .upk => { x with upk := o }

/-- With 4 or fewer free bolts only META bolts, and UPKEEP bolts for Wring or Darn, open (R314). A bolt of fewer than 12
members never opens (R211). -/
def State.mayOpen (s : State) (g : Nat) (p : Part) : Bool :=
  decide (4 < s.freeBolts g) || p == .met ||
    (p == .upk && ((s.upkG g).wring || decide ((s.upkG g).darn ≠ 0)))

/-! ### Kinds of blocks and capacity (R16, R17, R155, R416) -/

/-- First line of the internal log region. -/
def logBase : Nat := 0x3180000000

/-- First tag line. -/
def tagBase : Nat := 0x3000000000

/-- Back-pointer of map line 0 (R150). -/
def mapBack : Nat := 0x3800000000

/-- Lines of the directory region, of the internal map and of the journal ring (R155). -/
def State.dirRegion (s : State) : Nat :=
  let mapLines := s.userGib * 2 ^ 22 / 32
  let dirLines := (mapLines + 50) / 51
  (dirLines + 2 ^ 22 - 1) / 2 ^ 22 * 2 ^ 22
def State.intmapLines (s : State) : Nat := s.userGib * 2 ^ 22 / 1024 + s.userGib * 2 ^ 22 / 24576
def State.ringLines (s : State) : Nat := s.userGib * 512
def State.intmapBase (s : State) : Nat := s.dirRegion
def State.jnlBase (s : State) : Nat := s.dirRegion + s.intmapLines

end Sys2Proof.Machine
end

