-- ==== Sys2Proof/Machine/Journal.lean ====
section
/-!
DEFINITION. The Line Map's own operations: entries and their check byte, Selvage placement, the map cache, the journal,
the poison list, undo tables, LOST lines, unmaps and checkpoints (ch. 4, R250 to R252, R412 to R433).
-/
namespace Sys2Proof.Machine

/-! ### Entries (R146, R147) -/

/-- Bits 55 to 0 of an entry. -/
def Entry.low (e : Entry) : Nat :=
  e.st * 2 ^ 54 + e.sp.toNat * 2 ^ 50 + ofBool e.epoch * 2 ^ 49 + e.seq10 % 1024 * 2 ^ 38 + e.addr % 2 ^ 38

/-- CHK: CRC-8 over bytes 0 to 6 and the 5 bytes of the line index (R147). -/
def entryChk (low line : Nat) : Nat := crc8 (leBytes 7 low ++ leBytes 5 line)

/-- The stored 64-bit word of an entry; a plain UNMAPPED entry is all zero (R147). -/
def Entry.word (e : Entry) (line : Nat) : Nat :=
  if e.low = 0 then 0 else entryChk e.low line * 2 ^ 56 + e.low

/-- What a stored word says of its line: none when its check fails or its STATE is 3 (R147, R148). -/
def entryOf (w line : Nat) : Option Entry :=
  if w = 0 then some Entry.unmapped
  else if bits w 63 56 ≠ entryChk (w % 2 ^ 56) line ∨ bits w 55 54 = 3 then none
  else some { st := bits w 55 54, sp := BitVec.ofNat 4 (bits w 53 50), epoch := bitAt w 49, seq10 := bits w 47 38,
              addr := w % 2 ^ 38 }

def State.entry (s : State) (line : Nat) : Entry := Tab.get (fun _ => Entry.unmapped) s.map.ent line

def State.setEntry (s : State) (line : Nat) (e : Entry) : State :=
  { s with map := { s.map with ent := Tab.set (fun _ => Entry.unmapped) s.map.ent line e } }

def State.dirAt (s : State) (m : Nat) : Option Nat := Tab.get (fun _ => none) s.map.dir m

def State.setDir (s : State) (m : Nat) (a : Option Nat) : State :=
  { s with map := { s.map with dir := Tab.set (fun _ => none) s.map.dir m a } }

def State.tagAt (s : State) (line : Nat) : BitVec 64 := Tab.get (fun _ => 0#64) s.map.tags line

def State.setTag (s : State) (line : Nat) (t : BitVec 64) : State :=
  { s with map := { s.map with tags := Tab.set (fun _ => 0#64) s.map.tags line t } }

/-- The tag line that holds the tag of a host line (R154). -/
def tagLineOf (line : Nat) : Nat := tagBase + line / 32

/-- A host line. -/
def isHostLine (line : Nat) : Bool := decide (line < tagBase)

/-! ### Selvage placement and start-gap (R156, R157) -/

/-- Rows in use for each rotation region. -/
def State.rows (s : State) : Nat := s.popD * 2 ^ 18 - 1

def State.region (s : State) (n half : Nat) : Region := Tab.get (fun _ => Region.fresh) s.map.regions (2 * n + half)

def State.setRegion (s : State) (n half : Nat) (r : Region) : State :=
  { s with map := { s.map with regions := Tab.set (fun _ => Region.fresh) s.map.regions (2 * n + half) r } }

/-- GAP of a region: n_log at format. -/
def State.gapOf (s : State) (r : Region) : Nat := r.gap.getD s.rows

/-- Skeins of the two copies of Selvage line `l`. -/
def State.copySkein (s : State) (l : Nat) (b : Bool) : Nat :=
  let k := 16 * s.popP
  let a := l % k
  if b then (a + 16) % k else a

/-- Slot q of a copy: the scrambled row, rotated, past the gap; copy B lies in the upper half (R156). -/
def State.slotQ (s : State) (l : Nat) (b : Bool) : Nat :=
  let r := l / (16 * s.popP)
  let row := (1000003 * r + (match s.map.fmt with | some f => f.b | none => 0)) % s.rows
  let reg := s.region (s.copySkein l b) (ofBool b)
  let slot := (row + reg.start) % s.rows
  let slot := if s.gapOf reg ≤ slot then slot + 1 else slot
  ofBool b * (s.popD * 2 ^ 18) + slot

/-- One write counts in the region of a copy (R157). -/
def State.regionWrite (s : State) (l : Nat) (b : Bool) : State :=
  let n := s.copySkein l b
  let r := s.region n (ofBool b)
  s.setRegion n (ofBool b) { r with writes := r.writes + 1 }

/-- A Selvage line is written in both copies, A first (R158). Purposes: 1 directory, 2 internal map, 3 journal,
4 window save, 5 quarantine. -/
def State.selvage (s : State) (l purpose : Nat) : State :=
  ((s.regionWrite l false).regionWrite l true).emit (.selvageWrite l purpose)

/-! ### Pseudo-LRU trees (Table 3-1, Table 4-5) -/

/-- Node bits of a 15-bit tree. Bit 0 is the root; the children of node i are 2i + 1 and 2i + 2; a set bit points at the
upper half. `plruVictim` follows the bits among the allowed ways. -/
def plruVictim (tree : BitVec 15) (allowed : BitVec 16) : Nat :=
  let any (lo n : Nat) : Bool := (List.range n).any fun i => allowed.getLsbD (lo + i)
  let pick (node lo n : Nat) : Bool :=
    if !any lo n then true else if !any (lo + n) n then false else tree.getLsbD node
  let b0 := pick 0 0 8
  let n1 := if b0 then 2 else 1
  let l1 := if b0 then 8 else 0
  let b1 := pick n1 l1 4
  let n2 := 2 * n1 + (if b1 then 2 else 1)
  let l2 := l1 + (if b1 then 4 else 0)
  let b2 := pick n2 l2 2
  let n3 := 2 * n2 + (if b2 then 2 else 1)
  let l3 := l2 + (if b2 then 2 else 0)
  let b3 := pick n3 l3 1
  l3 + (if b3 then 1 else 0)

/-- The tree after a use of way `w`: each node on its path points away from it. -/
def plruTouch (tree : BitVec 15) (w : Nat) : BitVec 15 :=
  let set (t : BitVec 15) (node : Nat) (v : Bool) : BitVec 15 :=
    if v then t ||| (1#15 <<< node) else t &&& ~~~(1#15 <<< node)
  let b0 := decide (8 ≤ w)
  let n1 := if b0 then 2 else 1
  let b1 := decide (4 ≤ w % 8)
  let n2 := 2 * n1 + (if b1 then 2 else 1)
  let b2 := decide (2 ≤ w % 4)
  let n3 := 2 * n2 + (if b2 then 2 else 1)
  let b3 := decide (w % 2 = 1)
  set (set (set (set tree 0 (!b0)) n1 (!b1)) n2 (!b2)) n3 (!b3)

/-! ### The map cache (R163 to R167) -/

/-- The set of key K = k × 2^33 + x (R164). -/
def mapKey (kind idx : Nat) : Nat := kind * 2 ^ 33 + idx

def mapSet (kind idx : Nat) : Nat :=
  let k := mapKey kind idx
  (k % 2 ^ 15) ^^^ (k / 2 ^ 15 % 2 ^ 15) ^^^ (k / 2 ^ 30 % 2 ^ 5)

def MSlot.set (x : MSlot) : Nat := mapSet x.kind x.idx

/-- The slot that holds a line of the map cache. -/
def State.mslot (s : State) (kind idx : Nat) : Option MSlot :=
  s.map.cached.find? fun x => decide (x.kind = kind ∧ x.idx = idx)

def State.mpresent (s : State) (kind idx : Nat) : Bool := (s.mslot kind idx).isSome

/-- Dirty slots, all kinds (R166). -/
def State.mdirty (s : State) : Nat := (s.map.cached.filter fun x => x.dirty).length

/-- Dirty slots of a set. -/
def State.mdirtySet (s : State) (set : Nat) : Nat :=
  (s.map.cached.filter fun x => x.dirty && decide (x.set = set)).length

/-- A record that changes the line must wait: the line is clean and the device, or its set, is at its limit (R166). -/
def State.mwaits (s : State) (kind idx : Nat) : Bool :=
  match s.mslot kind idx with
  | some x => !x.dirty && (decide (131072 ≤ s.mdirty) || decide (4 ≤ s.mdirtySet x.set))
  | none => decide (131072 ≤ s.mdirty) || decide (4 ≤ s.mdirtySet (mapSet kind idx))

/-- The ways a kind allocates in (R165). -/
def State.mways (s : State) (kind : Nat) : BitVec 16 :=
  if kind = 1 then 0xFFFF#16 else 0xFFFF#16 >>> s.fld F.mapCacheCfgDirWays

/-- Ways of a set whose slot satisfies `p`. -/
def State.mwayMask (s : State) (set : Nat) (p : MSlot → Bool) : BitVec 16 :=
  s.map.cached.foldl (fun m x => if x.set = set ∧ p x then m ||| (1#16 <<< x.way) else m) 0#16

/-- The way a line installs in: an empty way, else the pseudo-LRU way among the clean ones. -/
def State.mchoose (s : State) (kind idx : Nat) : Nat :=
  let set := mapSet kind idx
  let ways := s.mways kind
  let tree := Tab.get (fun _ => 0#15) s.map.plru set
  let free := ways &&& ~~~(s.mwayMask set fun _ => true)
  if free ≠ 0#16 then plruVictim tree free
  else plruVictim tree (ways &&& ~~~(s.mwayMask set fun x => x.dirty))

/-- Use of a way. -/
def State.mtouch (s : State) (set way : Nat) : State :=
  { s with map := { s.map with
      plru := Tab.set (fun _ => 0#15) s.map.plru set (plruTouch (Tab.get (fun _ => 0#15) s.map.plru set) way) } }

/-- A line is installed clean; the slot it replaces goes. -/
def State.minstall (s : State) (kind idx : Nat) : State :=
  if s.mpresent kind idx then s
  else
    let set := mapSet kind idx
    let w := s.mchoose kind idx
    let t : State := { s with map := { s.map with
      cached := s.map.cached.filter (fun (x : MSlot) => !(decide (x.set = set ∧ x.way = w))) ++
        [(MSlot.mk kind idx false 0 0 s.map.stamp w)]
      stamp := s.map.stamp + 1 } }
    t.mtouch set w

/-- A slot rewritten in place. -/
def State.mupdate (s : State) (kind idx : Nat) (f : MSlot → MSlot) : State :=
  { s with map := { s.map with
      cached := s.map.cached.map fun x => if x.kind = kind ∧ x.idx = idx then f x else x } }

/-- A record of JSN `j` changed the line: it is present and dirty. -/
def State.mdirtied (s : State) (kind idx j : Nat) : State :=
  (s.minstall kind idx).mupdate kind idx fun x =>
    { x with dirty := true, oldest := if x.dirty then x.oldest else j, newest := j }

/-- A fetch of a map-cache line starts, unless the line is present or its fill runs. -/
def State.mfetch (s : State) (kind idx : Nat) : State :=
  if s.mpresent kind idx ∨ s.map.fills.any (fun f => decide (f.kind = kind ∧ f.idx = idx)) then s
  else { s with map := { s.map with fills := s.map.fills ++ [⟨kind, idx⟩] } }

/-- Map line `m` is wanted: it is present, or its directory line says it was never written, or its fill starts. With
the directory line absent both fills start (R152, R225). -/
def State.wantMap (s : State) (m : Nat) : State :=
  if s.mpresent 0 m then s
  else if s.mpresent 1 (m / 51) then
    if s.dirAt m = none then s.minstall 0 m else s.mfetch 0 m
  else (s.mfetch 1 (m / 51)).mfetch 0 m

/-- Tag or log line `i` (its index past the tag base) is wanted; an UNMAPPED one is zeros without a media read. -/
def State.wantTag (s : State) (i : Nat) : State :=
  if s.mpresent 3 i then s
  else if s.mpresent 2 (i / 32) then
    if (s.entry (tagBase + i)).st = 0 then s.minstall 3 i else s.mfetch 3 i
  else (s.mfetch 2 (i / 32)).mfetch 3 i

/-! ### The journal (R175, R176, R181) -/

/-- Lines of the overflow area: the first 1/8 of the log region (R181). -/
def State.ovfCap (s : State) : Nat := s.logLines / 8

/-- Journal lines from the checkpoint position to the head that are in the ring. -/
def State.ringUsed (s : State) : Nat :=
  (s.map.headPos + s.ringLines - s.map.ckptPos) % max 1 s.ringLines - s.map.ovfLines

/-- The ring and the overflow area are full: no record is appended until a checkpoint completes (R181). -/
def State.jnlFull (s : State) : Bool :=
  decide (7 * s.ringLines < 8 * s.ringUsed ∧ s.ovfCap ≤ s.map.ovfLines)

/-- The journal buffer is written as a journal line at the head (R176). -/
def State.writeJnl (s : State) : State :=
  if s.map.jbuf = [] then s
  else
    let t := (s.selvage (s.jnlBase + s.map.headPos) 3).count 0x305 0 1
    { t with map := { t.map with jlines := t.map.jlines ++ [t.map.jbuf], jbuf := [],
                                 headPos := (t.map.headPos + 1) % max 1 t.ringLines } }

/-- A record takes the next JSN and joins the buffer; the tenth writes the line (R176). -/
def State.pushRec (s : State) (r : JRec) : State :=
  let t : State := { s with map := { s.map with
    jbuf := s.map.jbuf ++ [{ r with jsn := s.map.nextJsn }]
    jbufPick := if s.map.jbuf = [] then s.time.pick else s.map.jbufPick
    nextJsn := s.map.nextJsn + 1
    recsSince := if r.kind = JKind.checkpoint then s.map.recsSince else s.map.recsSince + 1 } }
  let t := t.count 0x304 0 1
  if 10 ≤ t.map.jbuf.length then t.writeJnl else t

/-- Journal lines past 7/8 of the ring move to the overflow area, oldest first (R181). -/
def State.overflowJnl (s : State) : State :=
  if 7 * s.ringLines < 8 * s.ringUsed ∧ s.map.ovfLines < s.ovfCap then
    ({ s with map := { s.map with ovfLines := s.map.ovfLines + 1 } }).raiseN Ev.mapJnlOverflow 0 (mapKey 0 0)
  else s

/-- The oldest written journal line is programmed in every copy: its records are durable (R176). -/
def State.jnlDurable (s : State) : State :=
  match s.map.jlines with
  | [] => s
  | l :: ls =>
    ({ s with map := { s.map with jlines := ls, jlog := s.map.jlog ++ l,
                                  durJsn := max s.map.durJsn ((l.getLast?.map JRec.jsn).getD 0) } }).overflowJnl

/-- Every journal line written so far becomes durable, one after the other; `fuel` is their number. -/
def State.jnlDrain (s : State) : Nat → State
  | 0 => s
  | k + 1 => s.jnlDurable.jnlDrain k

/-- The 24 bytes of a record (Table 4-7). -/
def JRec.bytes (r : JRec) : Bytes :=
  match r.kind with
  | .map =>
    leBytes 5 (r.line + ofBool r.reloc * 2 ^ 38 + ofBool r.tag.isSome * 2 ^ 39) ++ leBytes 1 r.dom ++ leBytes 2 0 ++
      leBytes 8 (r.ent.word r.line) ++ leBytes 8 ((r.tag.getD 0#64).toNat)
  | .dir => leBytes 8 r.line ++ leBytes 8 (if r.ent.st = 1 then 2 ^ 38 + r.ent.addr else 0) ++ leBytes 8 0
  | .unmap => leBytes 8 r.line ++ leBytes 8 r.count ++ leBytes 8 0
  | .checkpoint => leBytes 8 r.line ++ leBytes 8 (ofBool r.clean) ++ leBytes 8 0

def JRec.kindCode (r : JRec) : Nat :=
  match r.kind with
  | .map => 1
  | .dir => 2
  | .unmap => 3
  | .checkpoint => 4

/-- Bytes 0 to 13 of a journal line (Table 4-6). -/
def jnlHead (l : List JRec) : Bytes :=
  leBytes 8 ((l.head?.map JRec.jsn).getD 0) ++ leBytes 1 l.length ++
    leBytes 5 ((l.zipIdx).foldl (fun n p => n + p.1.kindCode * 2 ^ (4 * p.2)) 0)

/-- The 256 bytes of a journal line with its CRC-16 (Table 4-6). -/
def jnlLine (l : List JRec) : Bytes :=
  let body := l.flatMap JRec.bytes
  let body := body ++ List.replicate (240 - body.length) 0#8
  jnlHead l ++ leBytes 2 (crc16 (jnlHead l ++ body)) ++ body

/-- A record with nothing in it. -/
def JRec.blank : JRec :=
  { jsn := 0, kind := .map, line := 0, reloc := false, tag := none, dom := 0, ent := Entry.unmapped, count := 0,
    clean := false, old := [], oldDir := none }

/-! ### The poison list (R250 to R254) -/

/-- The domain whose extent holds a host line. -/
def State.domOf (s : State) (line : Nat) : Option Nat :=
  (s.cry.doms.find? fun p => decide (p.2.base * 2 ^ 22 ≤ line ∧ line < (p.2.base + p.2.count) * 2 ^ 22)).map (·.1)

/-- The DPA of sector `k` of a host line inside an extent (R250). -/
def State.dpaOf (s : State) (line k : Nat) : Option Nat :=
  (s.domOf line).map fun d => d * 2 ^ 46 + (line - (s.dom d).base * 2 ^ 22) * 256 + 64 * k

/-- The record covers the sector at a DPA. -/
def PRec.covers (r : PRec) (dpa : Nat) : Bool := decide (r.dpa ≤ dpa ∧ dpa < r.dpa + 64 * r.len)

def State.poisonListed (s : State) (dpa : Nat) : Bool := s.rd.poison.any fun r => r.covers dpa

/-- A record joins the list; when it holds 32,768 the overflow flag sets with its time (R252), and a scan that runs has
dropped a record. -/
def State.addPRec (s : State) (r : PRec) : State :=
  if s.rd.poison.length < 32768 then { s with rd := { s.rd with poison := s.rd.poison ++ [r] } }
  else
    { s with rd := { s.rd with
        ovf := some (s.rd.ovf.getD s.time.devtime), covered := if s.rd.ovf = none then [] else s.rd.covered
        scan := s.rd.scan.map fun x => { x with dropped := true } } }

/-- The record without the sector at a DPA (R254). -/
def PRec.without (dpa : Nat) (r : PRec) : List PRec :=
  if r.covers dpa then
    (if r.dpa < dpa then [{ r with len := (dpa - r.dpa) / 64 }] else []) ++
      (if dpa + 64 < r.dpa + 64 * r.len then [{ r with dpa := dpa + 64, len := (r.dpa + 64 * r.len - (dpa + 64)) / 64 }]
       else [])
  else [r]

def State.removePoison (s : State) (dpa : Nat) : State :=
  { s with rd := { s.rd with poison := s.rd.poison.flatMap (PRec.without dpa) } }

/-- A sector of a host line enters the list, unless it is listed or lies in no extent (R250). -/
def State.poisonSector (s : State) (line k : Nat) (src : PSource) : State :=
  match s.dpaOf line k with
  | some dpa => if s.poisonListed dpa then s else s.addPRec ⟨dpa, 1, src⟩
  | none => s

/-- A sector leaves the list. -/
def State.unpoisonSector (s : State) (line k : Nat) : State :=
  match s.dpaOf line k with
  | some dpa => s.removePoison dpa
  | none => s

/-- The sectors of a mask enter the list. -/
def State.poisonMask (s : State) (line : Nat) (m : BitVec 4) (src : PSource) : State :=
  (List.range 4).foldl (fun t k => if m.getLsbD k then t.poisonSector line k src else t) s

/-- A LOST line is one record of length 4 (R250). -/
def State.poisonLine (s : State) (line : Nat) (src : PSource) : State :=
  let t := (List.range 4).foldl (fun t k => t.unpoisonSector line k) s
  match t.dpaOf line 0 with
  | some dpa => t.addPRec ⟨dpa, 4, src⟩
  | none => t

/-! ### Undo tables and the reserve (R412 to R423, R432, R433) -/

/-- The bucket of a line (R417). -/
def bucketOf (k line : Nat) : Nat := line * 0x9E3779B97F4A7C15 % 2 ^ 64 / 2 ^ (64 - k)

/-- Undo lines a table's entries take: one for each 25 entries of a bucket, or part of them (R418). -/
def undoLinesOf (k : Nat) : List Undo → Nat
  | [] => 0
  | u :: us =>
    undoLinesOf k us +
      (if (us.filter fun v => decide (bucketOf k v.line = bucketOf k u.line)).length % 25 = 0 then 1 else 0)

/-- Bytes of the reserve a domain uses (R432). The walk of a table in cleanup has given its bytes back. -/
def EpoDom.reserve (e : EpoDom) : Nat :=
  256 * (e.openTab.length + e.prepTab.length + undoLinesOf e.k e.openTab + undoLinesOf e.k e.prepTab)

/-- Bytes of the reserve in use. -/
def State.reserveUsed (s : State) : Nat := s.epo.doms.foldl (fun n p => n + p.2.reserve) 0

def State.reserveCap (s : State) : Nat := s.fld F.epoReserveCfgCapGib * 2 ^ 30

/-- A table of the domain, but for one in cleanup, retains this version of the line (R421). -/
def State.retained (s : State) (d line a : Nat) : Bool :=
  let e := s.epoDom d
  (e.openTab ++ e.prepTab).any fun u => decide (u.line = line ∧ u.addr = a)

/-- ADDR of an undo entry for a replaced entry (Table 12-3). -/
def undoAddr (x : Entry) : Nat := if x.st = 1 then x.addr else if x.st = 2 then 1 else 0

/-- Undo lines allocated to bucket ranges. -/
def State.undoRanges (s : State) : Nat :=
  s.epo.doms.foldl (fun n p => if p.2.st = .disabled then n else n + 2 * 2 ^ p.2.k) 0

/-- RESERVE_HIGH once the count reaches 90 % of the cap; the mark clears when it falls below. -/
def State.checkReserve (s : State) (d line : Nat) : State :=
  let high := decide (9 * s.reserveCap ≤ 10 * s.reserveUsed)
  if high ∧ !s.epo.high then
    ({ s with epo := { s.epo with high := true } }).raiseN Ev.epoReserveHigh (d * 2 ^ 40) line
  else { s with epo := { s.epo with high := high } }

/-- The cleanup walk over a table (R428): EPOCH bits of lines that the open table does not hold are cleared, and each
retained version gives back its count. -/
def State.cleanupWalk (s : State) (d : Nat) (bitClears : Bool) (tab : List Undo) : State :=
  tab.foldl
    (fun t u =>
      let t := if bitClears ∧ !((t.epoDom d).openTab.any fun v => decide (v.line = u.line)) then
          t.setEntry u.line { t.entry u.line with epoch := false } else t
      if u.addr ≤ 1 then t
      else if (t.entry u.line).st = 1 ∧ (t.entry u.line).addr = u.addr then t
      else t.deadAt u.addr) s

/-- A table goes to cleanup; its walk takes place at once, and two checkpoints must follow (R428). -/
def State.toCleanup (s : State) (d : Nat) (bitClears : Bool) (tab : List Undo) : State :=
  let s := s.cleanupWalk d bitClears tab
  let e := s.epoDom d
  let from_ := match s.map.ckpt with | some c => max s.map.nextJsn (c.x + 1) | none => s.map.nextJsn
  s.setEpoDom d { e with cleanup := some (e.cleanup.getD [] ++ tab), ckptsDone := 0, ckptFrom := from_, bits := bitClears }

/-- SEAL: Prepare(C + 1) at once and its commit (R433). -/
def State.forcedSeal (s : State) (d line : Nat) : State :=
  let e := s.epoDom d
  let tab := e.openTab
  let s := s.setEpoDom d { e with c := e.c + 1, phase := e.phase + 1, openTab := [], prepTab := [] }
  (s.toCleanup d true tab).raiseN Ev.epoForcedSeal (d * 2 ^ 40) line

/-- The table that takes an insertion: the prepared one while a Prepare runs (R420). -/
def EpoDom.target (e : EpoDom) : List Undo := if e.st = .preparing then e.prepTab else e.openTab

def EpoDom.insert (e : EpoDom) (u : Undo) : EpoDom :=
  if e.st = .preparing then { e with prepTab := e.prepTab ++ [u] } else { e with openTab := e.openTab ++ [u] }

/-- An insertion would take the count past the cap, or no undo line is left (R433). -/
def State.reserveFull (s : State) (d : Nat) (u : Undo) : Bool :=
  let e := s.epoDom d
  let more := (e.insert u).reserve - e.reserve
  decide (s.reserveCap < s.reserveUsed + more ∨ s.undoLines ≤ s.undoRanges)

/-- The first-write rule for one line (R413, R415, R433): the replaced entry joins the table unless the line is there. -/
def State.undoAdd (s : State) (d line : Nat) (x : Entry) : State :=
  let e := s.epoDom d
  let tags := if isHostLine line then [] else (List.range 32).map fun i => s.tagAt ((line - tagBase) * 32 + i)
  let u : Undo := ⟨line, undoAddr x, x.sp, x.seq10, tags, decide ((s.dom d).st = .rekeying ∧ (s.dom d).sweep ≠ .idle)⟩
  if e.target.any (fun v => decide (v.line = line)) ∨ e.rollbackInc then s
  else if s.reserveFull d u then
    let s := s.raiseN Ev.epoReserveExhausted (d * 2 ^ 40) line
    if e.st = .open_ ∧ !e.policyStop then
      let s := s.forcedSeal d line
      s.setEpoDom d ((s.epoDom d).insert u)
    else (s.setEpoDom d { e with rollbackInc := true }).raiseN Ev.epoRetainStopped (d * 2 ^ 40) line
  else ((s.setEpoDom d (e.insert u)).count 0x700 0 1).checkReserve d line

/-- Epochs are on for the domain and its records log what they replace. -/
def State.epochOn (s : State) (d : Nat) : Bool :=
  (s.dom d).epochEn && decide ((s.epoDom d).st ≠ .disabled)

/-! ### Records and what they change (R177, R316) -/

/-- The version that a record replaced is no longer live, unless a table retains it (R316, R421). -/
def State.release (s : State) (d line : Nat) (old : Entry) : State :=
  if old.st = 1 ∧ !s.retained d line old.addr then s.deadAt old.addr else s

/-- A MAP record and its entry, and tag, in one step (Table 4-8). -/
def State.mapRec (s : State) (d line : Nat) (reloc : Bool) (tag : Option (BitVec 64)) (e : Entry) : State :=
  let old := s.entry line
  let j := s.map.nextJsn
  let s := s.pushRec { JRec.blank with kind := .map, line := line, reloc := reloc, tag := tag, dom := d, ent := e,
                                       old := [(line, old, s.tagAt line)] }
  let s := s.setEntry line e
  let s := match tag with | some t => s.setTag line t | none => s
  let s := if e.st = 1 then s.liveAt e.addr else s
  let s := s.release d line old
  if isHostLine line then
    let s := s.mdirtied 0 (line / 32) j
    if tag.isSome then s.mdirtied 3 (line / 32) j else s
  else s.mdirtied 2 ((line - tagBase) / 32) j

/-- A host write's record in an epoch domain logs the line, and its tag line, first (R413, R415). -/
def State.hostRec (s : State) (d line : Nat) (tag : Option (BitVec 64)) (e : Entry) : State :=
  if s.epochOn d then
    let s := s.undoAdd d line (s.entry line)
    let s := if tag.isSome then
        let t := tagLineOf line
        let x := s.entry t
        (s.undoAdd d t x).setEntry t { s.entry t with epoch := true }
      else s
    s.mapRec d line false tag { e with epoch := true }
  else s.mapRec d line false tag e

/-- A DIR record and its directory entry (R316). -/
def State.dirRec (s : State) (m : Nat) (a : Option Nat) : State :=
  let old := s.dirAt m
  let j := s.map.nextJsn
  let e : Entry := match a with | some x => { Entry.unmapped with st := 1, addr := x } | none => Entry.unmapped
  let s := s.pushRec { JRec.blank with kind := .dir, line := m, ent := e, oldDir := old }
  let s := s.setDir m a
  let s := match a with | some x => s.liveAt x | none => s
  let s := match old with | some x => s.deadAt x | none => s
  s.mdirtied 1 (m / 51) j

/-- A line becomes LOST by a MAP record and enters the poison list (R148, R241, R414). -/
def State.makeLost (s : State) (d line : Nat) (src : PSource) : State :=
  let old := s.entry line
  let s := s.mapRec d line false none { Entry.lost with epoch := old.epoch }
  let s : State := { s with map := { s.map with lostLines := s.map.lostLines + 1 } }
  (s.poisonLine line src).raiseN Ev.mapLineLost 0 line

/-- A LOST map or tag line makes LOST every mapped host line it covers (R241). -/
def State.loseCovered (s : State) (m : Nat) : State :=
  (List.range 32).foldl
    (fun t i =>
      let line := m * 32 + i
      if (t.entry line).st = 1 then t.makeLost ((t.domOf line).getD 0) line .internal else t) s

/-- The listed keys of a table in a range. -/
def keysIn {α : Type} (t : Tab α) (first count : Nat) : List Nat :=
  t.filterMap fun p => if first ≤ p.1 ∧ p.1 < first + count then some p.1 else none

/-- An unmap of a range of host lines (R173): the record, the entries, then the directory entries of the map lines
covered wholly. -/
def State.unmapRange (s : State) (first count : Nat) : State :=
  let lines := keysIn s.map.ent first count
  let olds := lines.map fun l => (l, s.entry l, s.tagAt l)
  let s := s.pushRec { JRec.blank with kind := .unmap, line := first, count := count, old := olds }
  let s := olds.foldl
    (fun t p => (t.setEntry p.1 Entry.unmapped).release ((t.domOf p.1).getD 0) p.1 p.2.1) s
  let m0 := (first + 31) / 32
  let m1 := (first + count) / 32
  let s := (keysIn s.map.dir m0 (m1 - m0)).foldl (fun t m => t.dirRec m none) s
  { s with map := { s.map with
      cached := s.map.cached.filter fun x => !(decide (x.kind = 0 ∧ m0 ≤ x.idx ∧ x.idx < m1)) } }

/-- Poison records of a range of lines go: unmapped lines are not in the list (R172). -/
def State.unpoisonRange (s : State) (d first count : Nat) : State :=
  let base := d * 2 ^ 46 + (first - (s.dom d).base * 2 ^ 22) * 256
  { s with rd := { s.rd with
      poison := s.rd.poison.filter fun r => !(decide (base ≤ r.dpa ∧ r.dpa < base + count * 256)) } }

/-! ### Checkpoints (R179, R180, R182) -/

/-- The bolt table image as it stands, with each bolt's and triple's class (R332). -/
def State.image (s : State) : Tab Bolt × Tab Triple × Tab Nat × Nat :=
  (Tab.mapVals (fun _ => Bolt.fresh)
      (fun k b => if b.st = .sealed ∨ b.st = .victim then { b with saved := s.boltClass (k / 131072) b } else b)
      s.upk.bolts,
    Tab.mapVals (fun _ => { Triple.fresh with clk := s.upk.tripBase })
      (fun k t =>
        let n := k / 512
        { t with saved := classOf (s.link1 n).page.classAge (ageOf (s.ageSec (n / 16)) t.clk) }) s.upk.triples,
    s.upk.clk, s.upk.tripBase)

/-- A checkpoint starts: X is the next JSN, the buffer is written, and the image is taken (R179 steps 1 and 3). -/
def State.startCkpt (s : State) : State :=
  if s.map.ckpt.isSome then s
  else
    let x := s.map.nextJsn
    let s := s.writeJnl
    let s := { s with map := { s.map with ckpt := some ⟨x⟩, recsSince := 0 } }
    { s with upk := { s.upk with shot := some s.image } }

/-- No map-cache line changed below X waits for its write-back, no META stripe is on its way, and every record below X
is durable (R179 step 2). -/
def State.ckptReady (s : State) (x : Nat) : Bool :=
  !(s.map.cached.any fun c => c.dirty && decide (c.oldest < x)) &&
    !((List.range s.popP).any fun g => (s.group g).stripes.any fun t => t.part == .met && !t.sealed) &&
    decide (s.map.jlines = []) && !(s.map.jbuf.any fun r => decide (r.jsn < x))

/-- A cleanup that still needs a completed checkpoint starts one when none runs (R428). -/
def State.nextCkpt (s : State) : State :=
  if s.map.st = .active ∧ s.epo.doms.any fun p => p.2.cleanup.isSome && decide (p.2.ckptsDone < 2) then s.startCkpt else s

/-- A dirty tag line of the domain's extent is in the map cache (R426 step 4). -/
def State.tagsDirty (s : State) (d : Nat) : Bool :=
  let x := s.dom d
  s.map.cached.any fun c => c.dirty && decide (c.kind = 3 ∧ x.base * 2 ^ 17 ≤ c.idx ∧ c.idx < (x.base + x.count) * 2 ^ 17)

/-- A Prepare or an enabling waits for write-backs of tag lines. -/
def State.tagsWanted (s : State) : Bool :=
  s.epo.doms.any fun p => decide (p.2.st = .preparing ∨ p.2.st = .enabling) && s.tagsDirty p.1

/-- Each domain's cleanup counts a completed checkpoint that started after its walk (R428). -/
def State.countCleanups (s : State) (x : Nat) : State :=
  { s with epo := { s.epo with
      doms := Tab.mapVals (fun _ => EpoDom.fresh)
        (fun _ e => if e.cleanup.isSome ∧ e.ckptFrom ≤ x then { e with ckptsDone := min 2 (e.ckptsDone + 1) } else e) s.epo.doms } }

/-- The sweep position that a checkpoint saves: every line below it is recorded under the new generation (R393). -/
def State.sweepMark (s : State) (d : Nat) : Nat :=
  (List.range 8).foldl (fun m g => (s.group g).stripes.foldl (fun m (t : Stripe) => t.lines.foldl (fun m (l : Staged) =>
    match l.kind with
    | .copy .sweep _ => if l.dom = d ∧ !l.recorded then min m l.line else m
    | _ => m) m) m) (s.dom d).pos

/-- The saved bolt table, triples and clocks become those captured when the checkpoint started (R247). -/
def State.takeImage (s : State) : State :=
  match s.upk.shot with
  | some v => { s with upk := { s.upk with img := v.1, imgT := v.2.1, imgClk := v.2.2.1, imgBase := v.2.2.2 } }
  | none =>
    { s with upk := { s.upk with img := s.image.1, imgT := s.image.2.1, imgClk := s.image.2.2.1, imgBase := s.image.2.2.2 } }

/-- The checkpoint completes (R179 steps 3 to 5): image and poison list saved, CHECKPOINT record durable, anchor
written. -/
def State.finishCkpt (s : State) (x : Nat) (clean : Bool) : State :=
  let s := s.takeImage
  let s := s.pushRec { JRec.blank with kind := .checkpoint, line := x, clean := clean }
  let s := s.writeJnl
  let s := s.jnlDrain s.map.jlines.length
  let seq := match s.map.anchor with | some a => a.seq + 1 | none => 1
  let fmt := match s.map.fmt with | some f => f.id | none => 0
  let s := { s with
    map := { s.map with
      anchor := some ⟨x, s.map.headPos, clean, false, fmt, seq⟩, ckpt := none, ckptJsn := x, ckptPos := s.map.headPos
      ovfLines := 0, jlog := s.map.jlog.filter fun r => decide (x ≤ r.jsn), lastCkptNs := s.time.opNs }
    upk := { s.upk with shot := none }
    rd := { s.rd with saved := s.rd.poison
                      savedTime := if s.fld F.topTimeValid = 1 then some s.time.devtime else s.rd.savedTime }
    cry := { s.cry with doms := Tab.mapVals (fun _ => Dom.fresh) (fun d x => { x with savedPos := s.sweepMark d }) s.cry.doms } }
  ((s.countCleanups x).raise Ev.mapCkptDone).count 0x306 0 1

end Sys2Proof.Machine
end

