-- ==== Sys2Proof/Machine/Staging.lean ====
section
/-!
DEFINITION. The write path's own operations: choosing a ply group, write sequences and generation switches, completing
and encrypting lines, stripes and open bolts, early closing, sealing and the MAP records that follow (ch. 5, R376,
R389 to R391).
-/
namespace Sys2Proof.Machine

/-- A mask with eight ones for each enabled byte. -/
def byteMask (be : BitVec 64) : Sector :=
  BitVec.ofNat 512 ((List.range 64).foldl (fun n i => n + ofBool (be.getLsbD i) * 0xFF * 2 ^ (8 * i)) 0)

/-- The enabled bytes of `new` over the bytes of `old`. -/
def mergeBytes (old new : Sector) (be : BitVec 64) : Sector :=
  (new &&& byteMask be) ||| (old &&& ~~~(byteMask be))

/-! ### Work for the skein engines -/

/-- A downstream operation waits at its skein engine. -/
def State.pushDn (s : State) (n : Nat) (op : DnOp) : State :=
  let w := s.warp1 n
  s.setWarp1 n { w with dn := w.dn ++ [op] }

/-- A media read waits at its skein engine. -/
def State.pushRd (s : State) (n : Nat) (op : RdOp) : State :=
  let w := s.warp1 n
  s.setWarp1 n { w with rq := w.rq ++ [op] }

/-- Owner codes (Table 7-1). -/
def clsHrd : Nat := 1
def clsHwr : Nat := 2
def clsMet : Nat := 3
def clsWrg : Nat := 4
def clsPrs : Nat := 5
def clsRns : Nat := 6
def clsDrn : Nat := 7
def clsSys : Nat := 8
def clsSlv : Nat := 9

/-! ### Choosing a ply group (R189, R213, R214) -/

/-- Stripe buffers of a partition (Table 5-1, PLY_STAGE_CFG). -/
def State.partSize (s : State) (g : Nat) : Part → Nat
  | .host => s.fld (F.plyStageCfgHostStripes g)
  | .met => s.fld (F.plyStageCfgMetaStripes g)
  | .upk => 1024 - s.fld (F.plyStageCfgHostStripes g) - s.fld (F.plyStageCfgMetaStripes g)

def State.partUsed (s : State) (g : Nat) (p : Part) : Nat :=
  ((s.group g).stripes.filter fun t => t.part == p).length

def State.partFree (s : State) (g : Nat) (p : Part) : Nat := s.partSize g p - s.partUsed g p

/-- Group `g` admits host lines (R213). After a stop at the floor admission resumes at 8 free bolts (R214). -/
def State.admits (s : State) (g : Nat) : Bool :=
  let x := s.group g
  decide (g < s.popP) && !x.stopped && s.fld (F.plyCtlAdmitOff g) == 0 && decide (4 < s.freeBolts g) && !x.admitLow &&
    !s.cry.deviceHalt && !x.islandReset

/-- Room for one more line in a partition: an open stripe that is not full, or a free buffer. -/
def State.hasRoom (s : State) (g : Nat) (p : Part) : Bool :=
  decide (0 < s.partFree g p) ||
    (s.group g).stripes.any fun t => t.part == p && t.isOpen && decide (t.lines.length + 1 < t.w)

/-- The better of two candidates in the order met: the one with more free host stripe buffers (R189). -/
def State.betterGroup (s : State) (best : Option Nat) (g : Nat) : Option Nat :=
  match best with
  | none => some g
  | some b => if s.partFree b .host < s.partFree g .host then some g else some b

/-- The ply group of a host line (R189, R208). -/
def State.chooseGroup (s : State) (line : Nat) : Option Nat :=
  let p := max 1 s.popP
  let order := (List.range s.popP).map fun i => (line + i) % p
  let cand := order.filter fun g => s.admits g && s.hasRoom g .host
  let pref := cand.filter fun g => decide (16 ≤ s.freeBolts g)
  (if pref = [] then cand else pref).foldl s.betterGroup none

/-! ### Free-bolt levels (R214, R320) -/

/-- What a change of the free-bolt count of a group brings about. -/
def State.freeLevels (s : State) (g : Nat) : State :=
  let f := s.freeBolts g
  let u := s.upkG g
  let x := s.group g
  let s := if f ≤ 4 ∧ !x.admitLow then (s.setGroup g { x with admitLow := true }).raise (Ev.plyAdmitStopped g)
    else if 8 ≤ f ∧ x.admitLow then s.setGroup g { x with admitLow := false } else s
  let s := if f < s.fld F.upkWringCfgStart ∧ !u.wring then
      (s.setUpkG g { s.upkG g with wring := true }).upkEvent Ev.upkWringStart .wring 0 g 0
    else if s.fld F.upkWringCfgStop ≤ f ∧ u.wring then s.setUpkG g { s.upkG g with wring := false }
    else s
  if f < s.fld F.upkWringCfgUrgent ∧ !u.urgent then
    let s := (s.setUpkG g { s.upkG g with urgent := true }).upkEvent Ev.upkWringUrgent .wring 0 g 0
    if (s.listed g).any (fun p => decide (p.2.st = .empty ∧ s.map.ckptJsn < p.2.mark)) then s.startCkpt else s
  else if s.fld F.upkWringCfgUrgent ≤ f ∧ u.urgent then s.setUpkG g { s.upkG g with urgent := false }
  else s

/-! ### Write sequences and generations (R200, R376, R389 to R391) -/

/-- The wrap counter increments before a wrap (R376); none when it cannot. -/
def State.wrapTick (s : State) : State × Bool :=
  match s.ctrInc 5 1 with
  | (t, .ok) => (t.raise Ev.kveWrapWritten, true)
  | (t, _) => (t, false)

/-- The key slot of a generation. -/
def Dom.gen (d : Dom) (k : Nat) : Option KeySlot := if k = 0 then d.gen0 else d.gen1

def Dom.setGen (d : Dom) (k : Nat) (v : Option KeySlot) : Dom :=
  if k = 0 then { d with gen0 := v } else { d with gen1 := v }

/-- Format identifier as 4 bytes. -/
def State.fmtBytes (s : State) : Bytes := leBytes 4 (match s.map.fmt with | some f => f.id | none => 0)

/-- One draw of DRBG output (R403). -/
def State.drbgDraw (s : State) : State × BitVec 256 :=
  ({ s with cry := { s.cry with draws := s.cry.draws + 1, drbgReqs := s.cry.drbgReqs + 1 } }.bump F.kveDrbgGenerates 1,
    Config.drbg s.cry.draws)

/-- A generated domain key (R398). -/
def State.genKey (s : State) (d : Nat) : State × BitVec 256 :=
  let (t, r) := s.drbgDraw
  (t, kdf256 r (asciiBytes "KV1DOMKEY") (t.fmtBytes ++ leBytes 3 (t.fld F.topMidxIndex) ++ leBytes 1 d ++
    leBytes 4 (t.dom d).genCount))

/-- The key of the new generation and its source (R390): the staged key, a generated one, or a derived one. -/
def State.nextKey (s : State) (d : Nat) : State × Option (BitVec 256 × Nat) :=
  let x := s.dom d
  match x.next, x.gen x.cur with
  | some k, _ => (s, some (k.key, k.src))
  | none, some c =>
    if c.src = 2 then
      let (t, k) := s.genKey d
      (t, some (k, 2))
    else (s, some (kdf256 c.key (asciiBytes "KV1NEXT") (s.fmtBytes ++ leBytes 1 d ++ leBytes 4 (x.genCount + 1)), 3))
  | none, none => (s, none)

/-- A key slot as its wrapped record holds it (Table 11-4). -/
def State.keySlot (s : State) (key : BitVec 256) (src seq : Nat) : KeySlot :=
  { key := key, src := src, id := keyIdOf key, wrapCtr := s.ctrVal 5, recSeq := seq }

/-- The next key would have to be generated and the DRBG has failed (R390, R403). -/
def State.noSwitchKey (s : State) (d : Nat) : Bool :=
  let x := s.dom d
  x.next.isNone && s.cry.drbg == .failed && (match x.gen x.cur with | some c => c.src == 2 | none => true)

/-- From a switch on, every retained version may lie under the old generation. -/
def State.agedUndo (s : State) (d : Nat) : State :=
  let e := s.epoDom d
  let old (u : Undo) : Undo := { u with old := true }
  s.setEpoDom d { e with openTab := e.openTab.map old, prepTab := e.prepTab.map old }

/-- A generation switch (R391): the new key is wrapped, the other slot becomes current, the counter restarts, and the
domain is REKEYING. It does not start when the wrap counter cannot increment (R376). -/
def State.genSwitch (s : State) (d : Nat) : State :=
  if s.noSwitchKey d then s
  else
  match s.wrapTick with
  | (s, false) => s
  | (s, true) =>
    match s.nextKey d with
    | (s, none) => s
    | (s, some (key, src)) =>
      let x := s.dom d
      let s := s.agedUndo d
      let k := 1 - x.cur
      let y := { x.setGen k (some (s.keySlot key src (x.genCount + 1))) with
                   next := none, cur := k, seq := 0, mark := 0, batches := [], genCount := x.genCount + 1,
                   st := .rekeying, sweep := .waiting, pos := x.base * 2 ^ 22, seqHigh := false, rekeys := satAdd 16 x.rekeys 1 }
      ((s.setDom d y).raiseN Ev.cryRekeyStart (d * 2 ^ 40) 0)

/-- A batch of 256 for a ply engine, with the reservation mark 2^24 ahead (R200); SEQ_HIGH once past 2^47 (R389). -/
def State.takeBatch (s : State) (d g : Nat) : State :=
  let x := s.dom d
  let y := { x with seq := x.seq + 256, mark := x.seq + 256 + 2 ^ 24
                    batches := Tab.set (fun _ => (0, 0)) x.batches g (x.seq, 256) }
  if 2 ^ 47 < y.seq ∧ !x.seqHigh then
    (s.setDom d { y with seqHigh := true }).raiseN Ev.crySeqHigh (d * 2 ^ 40) 0
  else s.setDom d y

/-- The domain's counter cannot grant a whole batch (R389). -/
def Dom.dry (x : Dom) (g : Nat) : Bool :=
  decide ((Tab.get (fun _ => (0, 0)) x.batches g).2 = 0 ∧ 2 ^ 48 < x.seq + 256)

/-- A sequence for ply engine `g` (R200, R389): a dry counter starts a switch, or, while a sweep runs, a second switch
falls due and there is none. -/
def State.drawSeq (s : State) (d g : Nat) : State × Option Nat :=
  let s := if (s.dom d).dry g then
      (if (s.dom d).st = .rekeying then s.setDom d { s.dom d with due := true } else s.genSwitch d) else s
  if (s.dom d).dry g then (s, none)
  else
    let s := if (Tab.get (fun _ => (0, 0)) (s.dom d).batches g).2 = 0 then s.takeBatch d g else s
    let x := s.dom d
    let b := Tab.get (fun _ => (0, 0)) x.batches g
    (s.setDom d { x with batches := Tab.set (fun _ => (0, 0)) x.batches g (b.1 + 1, b.2 - 1) }, some b.1)

/-- The device metadata sequence for the next map, tag or log line (R150); its reservation mark, spread counter 6, stays at
least 2^24 ahead in steps of 2^24 (R200, Table 15-2). -/
def State.drawMeta (s : State) : State × Nat :=
  let t := if s.ctrVal 6 < s.map.metaSeq + 1 + 2 ^ 24 then (s.ctrInc 6 (2 ^ 24)).1 else s
  ({ t with map := { t.map with metaSeq := (s.map.metaSeq + 1) % 2 ^ 48 } }, s.map.metaSeq)

/-! ### The bytes of a line (R198, R199, R203, R379, R381) -/

def sectorBytes (d : Quad Sector) : Bytes := d.toList.flatMap fun v => leBytes 64 v.toNat

def bytesSectors (b : Bytes) : Quad Sector :=
  let at_ (i : Nat) : Sector := BitVec.ofNat 512 (leNat ((b.drop (64 * i)).take 64))
  ⟨at_ 0, at_ 1, at_ 2, at_ 3⟩

/-- The 96-bit metadata word (Table 5-3). -/
def metaWord (back seq dom kgen : Nat) (epoch : Bool) : Nat :=
  back % 2 ^ 38 + seq % 2 ^ 48 * 2 ^ 38 + dom % 256 * 2 ^ 86 + kgen % 2 * 2 ^ 94 + ofBool epoch * 2 ^ 95

/-- BACKPTR of a filler line (Table 5-4). -/
def fillerBack : Nat := 0x3FFFFFFFFF

def xorQuad (a b : Quad Sector) : Quad Sector :=
  ⟨a.q0 ^^^ b.q0, a.q1 ^^^ b.q1, a.q2 ^^^ b.q2, a.q3 ^^^ b.q3⟩

/-- Encryption and decryption of a host line are one keystream (R379); kind 0 host line, 1 quarantine, 2 window save. -/
def hostCipher (key : BitVec 256) (seq line kgen : Nat) (d : Quad Sector) : Quad Sector :=
  bytesSectors (xorBytes (sectorBytes d) (gcmStream (leBytes 32 key.toNat) (gcmIv kgen seq line) 16))

/-- The 64-bit tag of a host line's ciphertext (R379). -/
def hostTag (key : BitVec 256) (seq line dom kgen : Nat) (epoch : Bool) (ct : Quad Sector) : BitVec 64 :=
  BitVec.ofNat 64 (leNat ((gcmTag (leBytes 32 key.toNat) (gcmIv kgen seq line)
    (gcmAad 0 line dom seq kgen (ofBool epoch)) (sectorBytes ct) 16).take 8))

/-- K_M: two 256-bit keys from the device root key and the format identifier (R375). -/
def State.metaKeys (s : State) : BitVec 256 × BitVec 256 :=
  let b := kdf 4 Config.deviceRootKey (asciiBytes "KV1META") s.fmtBytes
  (BitVec.ofNat 256 (leNat (b.take 32)), BitVec.ofNat 256 (leNat (b.drop 32)))

/-- The contents of map line `m`: its 32 entries (R150). -/
def State.mapLineData (s : State) (m : Nat) : Quad Sector :=
  bytesSectors ((List.range 32).flatMap fun i => leBytes 8 ((s.entry (32 * m + i)).word (32 * m + i)))

/-- The contents of tag line `i`: its 32 tags (R154). -/
def State.tagLineData (s : State) (i : Nat) : Quad Sector :=
  bytesSectors ((List.range 32).flatMap fun j => leBytes 8 (s.tagAt (32 * i + j)).toNat)

/-- A staged line as it goes to media: its 256 bytes and its metadata word. -/
def State.mediaLine (s : State) (x : Staged) : Quad Sector × Nat :=
  match x.kind with
  | .host =>
    let key := ((s.dom x.dom).gen x.kgen).map (fun k => k.key)
    (match key with | some k => hostCipher k x.seq x.line x.kgen x.d | none => x.d,
      metaWord x.line x.seq x.dom x.kgen x.ep)
  | .mapLine => (x.d, metaWord (mapBack + x.line) x.seq 0 0 false)
  | .tagLine =>
    (bytesSectors (xtsEncrypt s.metaKeys.1 s.metaKeys.2 x.line (sectorBytes x.d)), metaWord x.line x.seq 0 0 false)
  | .filler => (Quad.all 0#512, metaWord fillerBack 0 0 0 false)
  | .copy _ _ => (x.d, metaWord x.line x.seq x.dom x.kgen x.ep)

/-- The parity line of a stripe: the XOR of its data lines, metadata words included (R203). -/
def State.parityLine (s : State) (lines : List Staged) : Quad Sector × Nat :=
  lines.foldl (fun a x => (xorQuad a.1 (s.mediaLine x).1, a.2 ^^^ (s.mediaLine x).2)) (Quad.all 0#512, 0)

def Staged.filler : Staged :=
  { kind := .filler, line := fillerBack, dom := 0, d := Quad.all 0#512, be := Quad.all 0#64, sp := 0#4, missing := 0#4,
    ep := false, kgen := 0, seq := 0, enc := true, tag := 0#64, superseded := false, recorded := true }

/-! ### Stripes (R202 to R206) -/

def State.setStripes (s : State) (g : Nat) (l : List Stripe) : State := s.setGroup g { s.group g with stripes := l }

/-- A stripe is one of a bolt's two tell-tale stripes: it carries no data lines (R330). -/
def Stripe.tellTale (t : Stripe) : Bool := t.lines == [] && !t.isOpen

/-- Members of a group whose skein has not been out of ACTIVE for 100 µs (R300). -/
def State.inLink (s : State) (g : Nat) : BitVec 16 :=
  (List.range 16).foldl (fun m i => if (s.link1 (16 * g + i)).outLong then m else m ||| (1#16 <<< i)) 0#16

/-- A bolt of a kind opens in a group: the FREE bolt with the lowest RESET_COUNT, or the highest while a static swap
runs (R314, R325). -/
def State.openBolt (s : State) (g : Nat) (p : Part) : State :=
  let high := p == .upk && (s.upkG g).swap
  if !s.mayOpen g p then s
  else
    match pickBolt high (s.freeList g) with
    | none => s
    | some (b, _) =>
      let m := (s.bolt g b).members &&& s.usable g b &&& s.inLink g
      if popCount m < 12 then s
      else
        let s := s.setBolt g b { s.bolt g b with st := .open_, kind := partKind p, members := m, valid := 0, drift := 0,
                                                 corr := 0, ageUnk := false, cntUnk := false, tt := 0x3FFF }
        let s := s.setGroup g ((s.group g).withOpen p (some ⟨b, popCount m, 0⟩))
        s.freeLevels g

/-- Stripes of a bolt between assembly and record: at most 64 (R206). -/
def State.inFlight (s : State) (g b : Nat) : Nat :=
  ((s.group g).stripes.filter fun t => decide (t.block = b ∧ !t.isOpen)).length

/-- A new stripe buffer takes the next stripe of the open bolt, opening a bolt when none is open (R202). -/
def State.newStripe (s : State) (g : Nat) (p : Part) : State :=
  let s := if ((s.group g).openBolt p).isNone then s.openBolt g p else s
  match (s.group g).openBolt p with
  | none => s
  | some o =>
    if s.partFree g p = 0 ∨ 64 ≤ s.inFlight g o.block then s
    else
      let t : Stripe := { part := p, block := o.block, idx := o.next, w := o.w, lines := [], done := 0#16, fails := 0,
                          isOpen := true, sealed := false, first := s.time.pick }
      s.setGroup g { (s.group g).withOpen p (some { o with next := o.next + 1 }) with
                       stripes := (s.group g).stripes ++ [t] }

/-- The open stripe of a partition. -/
def State.openStripe (s : State) (g : Nat) (p : Part) : Option Stripe :=
  (s.group g).stripes.find? fun t => t.part == p && t.isOpen

/-- The stripe with its lines replaced. -/
def State.updStripe (s : State) (g b idx : Nat) (f : Stripe → Stripe) : State :=
  s.setStripes g ((s.group g).stripes.map fun t => if t.block = b ∧ t.idx = idx then f t else t)

/-- The class an UPKEEP stripe is programmed in: that of the process that placed its first line (R204). -/
def upkClass : List Staged → Nat
  | [] => clsWrg
  | x :: _ =>
    match x.kind with
    | .copy .press _ => clsPrs
    | .copy .darn _ => clsDrn
    | _ => clsWrg

/-- The class of a stripe's programs (R204). -/
def State.stripeClass (s : State) (g : Nat) (t : Stripe) : Nat :=
  match t.part with
  | .host => clsHwr
  | .met => clsMet
  | .upk => if t.tellTale then (if (s.upkG g).darn ≠ 0 then clsDrn else clsWrg) else upkClass t.lines

/-- Every member skein engine gets its line's program (R204). -/
def State.launch (s : State) (g : Nat) (t : Stripe) : State :=
  let m := (s.bolt g t.block).members
  (memberList m).foldl
    (fun u i => u.pushDn (16 * g + i) ⟨s.stripeClass g t, .programDense, mkAddr (16 * g + i) t.block t.idx⟩) s

/-- Every line of the stripe is encrypted, so its programs can go out. -/
def Stripe.ready (t : Stripe) : Bool := !t.isOpen && t.lines.all fun x => x.enc

/-- A stripe that is full stops taking lines; when its bolt's last data stripe is taken the bolt is full, and its
tell-tale stripes follow (R202, R330). -/
def State.assemble (s : State) (g b idx : Nat) : State :=
  let s := s.updStripe g b idx fun t => { t with isOpen := false }
  let s := match (s.group g).stripes.find? (fun t => decide (t.block = b ∧ t.idx = idx)) with
    | some t => if t.ready then s.launch g t else s
    | none => s
  if idx = 16381 then
    match (s.group g).stripes.find? (fun t => decide (t.block = b ∧ t.idx = idx)) with
    | some t =>
      let mk (k : Nat) : Stripe := { t with idx := 16382 + k, lines := [], done := 0#16, fails := 0, sealed := false }
      let s := s.setGroup g { (s.group g).withOpen t.part none with
                                stripes := (s.group g).stripes ++ [mk 0, mk 1] }
      let s := s.setBolt g b { s.bolt g b with tt := 16382 }
      (s.launch g (mk 0)).launch g (mk 1)
    | none => s
  else s

/-- A line joins the open stripe of a partition; a new stripe starts when there is none. With no room it does not
enter and `none` is answered. -/
def State.place (s : State) (g : Nat) (p : Part) (x : Staged) : Option State :=
  let s := if (s.openStripe g p).isNone then s.newStripe g p else s
  match s.openStripe g p with
  | none => none
  | some t =>
    let s := s.updStripe g t.block t.idx fun u => { u with lines := u.lines ++ [x] }
    some (if t.lines.length + 2 = t.w then s.assemble g t.block t.idx else s)

/-- An open stripe is completed with filler lines (R205). -/
def State.pad (s : State) (g : Nat) (t : Stripe) : State :=
  let n := t.w - 1 - t.lines.length
  let s := s.updStripe g t.block t.idx fun u => { u with lines := u.lines ++ List.replicate n Staged.filler }
  ((s.bump (F.plyPadCntFillerLines g) n).count 0x401 g n).assemble g t.block t.idx

/-- Every open stripe of a partition of a group is padded. -/
def State.padPart (s : State) (g : Nat) (p : Part) : State :=
  match s.openStripe g p with
  | some t => if t.lines = [] then s else s.pad g t
  | none => s

/-! ### Completing and encrypting (R193, R195, R200) -/

/-- Staged host copies of a line that are not superseded, newest last, with their group. -/
def State.stagedCopies (s : State) (line : Nat) : List (Nat × Staged) :=
  (List.range 8).flatMap fun g =>
    (s.group g).stripes.flatMap fun t =>
      (t.lines.filter fun x => x.kind == .host && decide (x.line = line) && !x.superseded && !x.recorded).map
        fun x => (g, x)

/-- The staged copy a read finds (R192). -/
def State.stagedCopy (s : State) (line : Nat) : Option Staged :=
  ((s.stagedCopies line).getLast?).map (·.2)

/-- Every staged line that satisfies `p` goes through `f`. -/
def State.updStaged (s : State) (p : Staged → Bool) (f : Staged → Staged) : State :=
  { s with wp := { s.wp with
      groups := Tab.mapVals (fun _ => Group.fresh)
        (fun _ x => { x with stripes := x.stripes.map fun t =>
                               { t with lines := t.lines.map fun y => if p y then f y else y } }) s.wp.groups } }

/-- Older staged copies of the line with the same epoch tag are superseded (R193, R412). -/
def State.supersede (s : State) (line : Nat) (ep : Bool) : State :=
  let olds := (s.stagedCopies line).filter fun p => p.2.ep == ep
  let t := s.updStaged (fun x => x.kind == .host && decide (x.line = line) && x.ep == ep && !x.recorded)
    fun x => { x with superseded := true }
  olds.foldl (fun u p => (u.bump (F.plyPadCntSuperseded p.1) 1).count 0x403 p.1 1) t

/-- A line's sectors with what it lacks taken from elsewhere; `sp` are the poison bits of the old contents. -/
def Staged.fill (x : Staged) (old : Quad Sector) (sp : BitVec 4) : Staged :=
  let sec (k : Nat) : Sector :=
    if x.missing.getLsbD k then mergeBytes (old.at k) (x.d.at k) (x.be.at k) else x.d.at k
  { x with d := ⟨sec 0, sec 1, sec 2, sec 3⟩, sp := x.sp ||| (sp &&& x.missing), missing := 0#4 }

/-- A complete host line takes its sequence, its generation and its tag (R200, R379); without a sequence it waits. -/
def State.encrypt (s : State) (g : Nat) (x : Staged) : State × Staged :=
  match s.drawSeq x.dom g with
  | (t, none) => (t, x)
  | (t, some q) =>
    let dm := t.dom x.dom
    match dm.gen dm.cur with
    | none => (t, x)
    | some k =>
      let ct := hostCipher k.key q x.line dm.cur x.d
      let u := t.count 0x406 g 1
      (u, { x with seq := q, kgen := dm.cur, enc := true
                   tag := if dm.integ then hostTag k.key q x.line x.dom dm.cur x.ep ct else 0#64 })

/-- One pass over the lines of a stripe: complete lines are encrypted in order. -/
def State.encryptLines (s : State) (g : Nat) : List Staged → State × List Staged
  | [] => (s, [])
  | x :: xs =>
    let (s, y) := if x.kind = .host ∧ !x.enc ∧ x.missing = 0#4 then s.encrypt g x else (s, x)
    let (s, ys) := s.encryptLines g xs
    (s, y :: ys)

/-- Stripes of a group whose lines can now be encrypted, and assembled ones that become ready, go on. -/
def State.settleStripe (s : State) (g : Nat) (t : Stripe) : State :=
  let was := t.ready
  let (s, ls) := s.encryptLines g t.lines
  let t2 := { t with lines := ls }
  let s := s.updStripe g t.block t.idx fun _ => t2
  if t2.ready ∧ !was then s.launch g t2 else s

def State.settleGroup (s : State) (g : Nat) : State :=
  (s.group g).stripes.foldl
    (fun u t => if t.lines.any (fun x => x.kind == .host && !x.enc && decide (x.missing = 0#4)) then u.settleStripe g t else u)
    s

/-- The index of the first staged copy still incomplete for a line. -/
def Staged.wants (line : Nat) (x : Staged) : Bool :=
  x.kind == .host && decide (x.line = line ∧ x.missing ≠ 0#4) && !x.recorded

/-- A merge read of a line for group `g` starts unless one runs (R195, R196). -/
def State.mergeRead (s : State) (g line dom : Nat) : State :=
  if s.rd.reads.any (fun r => decide (r.line = line) && (match r.why with | .merge _ => true | _ => false)) then s
  else
    let e := s.entry line
    let r : Rd := { line := line, dom := dom, why := .merge g, st := .needData, addr := e.addr, seq10 := e.seq10, lookups := 1,
                    armed := none, timedOut := false, code := none, rewrite := false,
                    retired := s.skeinRetired (addrSkein e.addr) }
    let s := { s with rd := { s.rd with reads := s.rd.reads ++ [r] } }
    ((s.wantTag (line / 32)).count 0x402 g 1).bump (F.plyMergeCntMergeReads g) 1 |>.pushRd (addrSkein e.addr)
      ⟨clsHwr, e.addr, s.memberClass (addrGroup e.addr) (s.bolt (addrGroup e.addr) (addrBlock e.addr)) (addrSkein e.addr % 16),
        0, false, false, false⟩

/-- A staged line's missing sectors are looked for in its map entry (Table 5-2), once its map line is present. -/
def State.completeLine (s : State) (line : Nat) : State :=
  let s := s.wantMap (line / 32)
  if !s.mpresent 0 (line / 32) then s
  else
    let e := s.entry line
    let fillWith (s : State) (sp : BitVec 4) : State :=
      let t := s.updStaged (Staged.wants line) fun x => x.fill (Quad.all 0#512) sp
      (List.range 8).foldl State.settleGroup t
    match e.st with
    | 0 => fillWith s 0#4
    | 2 => fillWith s 0xF#4
    | _ =>
      match ((List.range 8).flatMap fun g => (s.group g).stripes.flatMap fun t => t.lines.filterMap fun x =>
          if x.wants line then some (g, x.dom) else none).head? with
      | some (g, d) => s.mergeRead g line d
      | none => s

/-- A host line enters staging in group `g` (R191 to R195, R207): older copies are superseded, sectors it lacks come from
a staged copy, its map and tag lines are fetched. `none` when there is no room. -/
def State.enterStaging (s : State) (g : Nat) (x : Staged) : Option State :=
  let x := match s.stagedCopy x.line with
    | some y =>
      let sec (k : Nat) : Bool := x.missing.getLsbD k && !y.missing.getLsbD k
      let d (k : Nat) : Sector := if x.missing.getLsbD k then mergeBytes (y.d.at k) (x.d.at k) (x.be.at k) else x.d.at k
      let be (k : Nat) : BitVec 64 := if x.missing.getLsbD k then x.be.at k ||| y.be.at k else x.be.at k
      let got : BitVec 4 := BitVec.ofNat 4 ((List.range 4).foldl (fun n k => n + ofBool (sec k) * 2 ^ k) 0)
      { x with d := ⟨d 0, d 1, d 2, d 3⟩, be := ⟨be 0, be 1, be 2, be 3⟩, sp := x.sp ||| (y.sp &&& got),
               missing := x.missing &&& ~~~got }
    | none => x
  let s := s.supersede x.line x.ep
  match s.place g .host x with
  | none => none
  | some s =>
    let s := s.wantMap (x.line / 32)
    let s := if (s.dom x.dom).integ then s.wantTag (x.line / 32) else s
    some (if x.missing ≠ 0#4 then s.completeLine x.line else s.settleGroup g)

/-! ### Sealing, closing early, and records (R19, R206, R207, R209, R212, R330) -/

/-- A bolt that is no longer open, with every stripe of it sealed, is SEALED (R19). -/
def State.sealBolt (s : State) (g b : Nat) : State :=
  let x := s.bolt g b
  let opened := [Part.host, .met, .upk].any fun p =>
    match (s.group g).openBolt p with | some o => o.block == b | none => false
  let busy := (s.group g).stripes.any fun t => t.block == b && !t.sealed
  if x.st = .open_ ∧ !opened ∧ !busy then
    (s.setBolt g b { x with st := .sealed, sealClk := s.ageSec g % 2 ^ 32 }).settleBolt g b
  else s

/-- A line of a bolt that closed early goes into a newly opened bolt of its kind, its metadata unchanged (R209). -/
def State.replace (s : State) (g : Nat) (p : Part) (x : Staged) : State :=
  match s.place g p x with
  | some t => t
  | none => s

/-- The highest stripe of a bolt in which any line was programmed, plus 1 (R330). -/
def State.progTop (s : State) (g b next : Nat) : Nat :=
  let own := (s.group g).stripes.filter fun t => t.block == b
  let lowest := own.foldl (fun n t => min n t.idx) next
  own.foldl (fun n t => if t.done ≠ 0#16 ∨ t.sealed then max n (t.idx + 1) else n) lowest

/-- Programs of a bolt that wait at the skein engines are taken back. -/
def State.takeBack (s : State) (g b : Nat) : State :=
  (List.range 16).foldl
    (fun t i =>
      let n := 16 * g + i
      let w := t.warp1 n
      t.setWarp1 n { w with dn := w.dn.filter fun o => !(o.kind == .programDense && decide (addrBlock o.addr = b)) }) s

/-- A bolt closes early (R209, R212, R330): its open entry is `o`, and its unsealed stripes are placed again. -/
def State.closeBolt (s : State) (g : Nat) (p : Part) (o : OpenBolt) : State :=
  let own := (s.group g).stripes.filter fun t => t.block == o.block && !t.sealed
  let again := own.flatMap fun t => t.lines.filter fun x => decide (x.kind ≠ .filler)
  let top := s.progTop g o.block o.next
  let tells := if top + 1 ≤ 16383 then
      [0, 1].map fun k => ({ part := p, block := o.block, idx := top + k, w := o.w, lines := [], done := 0#16, fails := 0,
                             isOpen := false, sealed := false, first := s.time.pick } : Stripe)
    else []
  let opened := match (s.group g).openBolt p with | some x => x.block == o.block | none => false
  let x := if opened then (s.group g).withOpen p none else s.group g
  let s := s.setGroup g { x with
    stripes := ((s.group g).stripes.filter fun t => !(t.block == o.block && !t.sealed)) ++ tells }
  let s := (s.takeBack g o.block).setBolt g o.block { s.bolt g o.block with tt := if tells = [] then 0x3FFF else top }
  let s := tells.foldl (fun u t => u.launch g t) s
  let s := s.raiseN (Ev.plyBoltClosedEarly g) (top % 16384 * 2 ^ 8) 0
  let s := s.sealBolt g o.block
  again.foldl (fun u x => u.replace g p x) s

/-- The open bolt of a kind closes early. -/
def State.closeEarly (s : State) (g : Nat) (p : Part) : State :=
  match (s.group g).openBolt p with
  | none => s
  | some o => s.closeBolt g p o

/-- The bolt that a stripe belongs to closes early at it, also when it is full and no longer takes stripes. -/
def State.closeStripe (s : State) (g : Nat) (t : Stripe) : State :=
  s.closeBolt g t.part ⟨t.block, t.w, match (s.group g).openBolt t.part with
    | some o => if o.block = t.block then o.next else 16384
    | none => 16384⟩

/-- A stripe seals when every member's program has succeeded (R204). -/
def State.sealStripe (s : State) (g b idx : Nat) : State :=
  match (s.group g).stripes.find? fun t => decide (t.block = b ∧ t.idx = idx) with
  | none => s
  | some t =>
    if t.sealed ∨ t.isOpen ∨ (s.bolt g b).members &&& ~~~t.done ≠ 0#16 then s
    else
      let s := if t.tellTale then
          s.setStripes g ((s.group g).stripes.filter fun u => !(decide (u.block = b ∧ u.idx = idx)))
        else
          let v := (s.reg (F.plySealCntStripes g).off).toNat + 1
          ((s.updStripe g b idx fun u => { u with sealed := true }).setFld (F.plySealCntStripes g) v).count 0x400 g 1
      s.sealBolt g b

/-- The new entry of data line `k` of a stripe. -/
def State.newEntry (s : State) (g : Nat) (t : Stripe) (k : Nat) (x : Staged) (epoch : Bool) : Entry :=
  { st := 1, sp := x.sp, epoch := epoch, seq10 := x.seq % 1024
    addr := dataAddr g t.block (s.bolt g t.block).members t.idx k }

/-- The lines that must be present before a record, as (kind, index) (R207). -/
def State.needs (s : State) (x : Staged) : List (Nat × Nat) :=
  match x.kind with
  | .host => (0, x.line / 32) :: (if (s.dom x.dom).integ then [(3, x.line / 32)] else [])
  | .mapLine => [(1, x.line / 51)]
  | .tagLine => [(2, (x.line - tagBase) / 32)]
  | .filler => []
  | .copy why _ =>
    if mapBack ≤ x.line then [(1, (x.line - mapBack) / 51)]
    else if tagBase ≤ x.line then [(2, (x.line - tagBase) / 32)]
    else (0, x.line / 32) :: (if why = .sweep then [(3, x.line / 32)] else [])

/-- The record of a next-epoch line waits while its domain's Prepare or enabling runs (R410, R426); and the record of a
newer copy waits for an older copy with the other tag (R412). -/
def State.epochHold (s : State) (x : Staged) : Bool :=
  let e := s.epoDom x.dom
  x.kind == .host &&
    (decide (e.st = .enabling) || (e.st == .preparing && x.ep == decide (e.phase % 2 = 1)) ||
      (match (s.stagedCopies x.line).head? with
       | some (_, y) => y.ep != x.ep && decide (y ≠ x)
       | none => false))

/-- The record of one line of a sealed stripe (R177, R193, R207, R322, R422). -/
def State.recordLine (s : State) (g : Nat) (t : Stripe) (k : Nat) (x : Staged) : State :=
  let a := dataAddr g t.block (s.bolt g t.block).members t.idx k
  match x.kind with
  | .filler => s
  | .host =>
    if x.superseded then s
    else
      let tag := if (s.dom x.dom).integ then some x.tag else none
      s.hostRec x.dom x.line tag (s.newEntry g t k x false)
  | .mapLine => s.dirRec x.line (some a)
  | .tagLine => s.mapRec 0 x.line false none (s.newEntry g t k x (s.entry x.line).epoch)
  | .copy why src =>
    if mapBack ≤ x.line then
      if s.dirAt (x.line - mapBack) = some src then s.dirRec (x.line - mapBack) (some a) else s
    else
      let e := s.entry x.line
      let d := if isHostLine x.line then (s.domOf x.line).getD x.dom else 0
      if e.st = 1 ∧ e.addr = src then
        s.mapRec d x.line true (if why = .sweep then some x.tag else none)
          { e with addr := a, seq10 := x.seq % 1024 }
      else if s.retained d x.line src then
        let y := s.epoDom d
        let mv (u : Undo) : Undo := if u.line = x.line ∧ u.addr = src then { u with addr := a, seq10 := x.seq % 1024 } else u
        ((s.setEpoDom d { y with openTab := y.openTab.map mv, prepTab := y.prepTab.map mv }).liveAt a).deadAt src
      else s

/-- The record a line's change would dirty clean map-cache lines that must wait (R166). -/
def State.heldBack (s : State) (x : Staged) : Bool := (s.needs x).any fun p => s.mwaits p.1 p.2

/-- The lines of a sealed stripe are recorded in order, up to the first that must wait. Answered: the state, the lines,
and whether a line waits at the map-cache dirty limit. -/
def State.recordLines (s : State) (g : Nat) (t : Stripe) : Nat → List Staged → State × List Staged × Bool
  | _, [] => (s, [], false)
  | k, x :: xs =>
    if x.recorded then
      let r := s.recordLines g t (k + 1) xs
      (r.1, x :: r.2.1, r.2.2)
    else if !x.superseded && ((s.needs x).any (fun p => !s.mpresent p.1 p.2) || s.epochHold x || s.jnlFull) then
      (s, x :: xs, false)
    else if !x.superseded && s.heldBack x then (s, x :: xs, true)
    else
      let r := (s.recordLine g t k x).recordLines g t (k + 1) xs
      (r.1, { x with recorded := true } :: r.2.1, r.2.2)

/-- The sealed stripe whose records come next: no earlier stripe of its bolt is left (R206). -/
def State.nextSealed (s : State) (g : Nat) : Option Stripe :=
  (s.group g).stripes.find? fun t =>
    t.sealed && !((s.group g).stripes.any fun u => decide (u.block = t.block ∧ u.idx < t.idx) && !u.tellTale) &&
      !(s.map.dirtyHeld.contains (g, t.block))

/-- The records of a sealed stripe; its buffer is freed when none is left (R207). A record that waits at the dirty limit
raises DIRTY_WAIT (R166). -/
def State.recordStripe (s : State) (g : Nat) (t : Stripe) : State :=
  let (s, ls, held) := s.recordLines g t 0 t.lines
  let s := s.updStripe g t.block t.idx fun u => { u with lines := ls }
  if ls.all fun x => x.recorded then
    (s.setStripes g ((s.group g).stripes.filter fun u => !(decide (u.block = t.block ∧ u.idx = t.idx)))).settleBolt g
      t.block
  else if held then
    ({ s with map := { s.map with dirtyHeld := s.map.dirtyHeld ++ [(g, t.block)] } }).raiseN Ev.mapDirtyWait 0 0
  else s

end Sys2Proof.Machine
end

