-- ==== Sys2Proof/Machine/Retire.lean ====
section
/-!
DEFINITION. The fault manager's own operations: reporting an error, queueing its test, thresholds, the retirement table
and the action of each retirement, Darn's start, quarantine records (R340, R344, R345, R349 to R365).
-/
namespace Sys2Proof.Machine

/-! ### Retired members and their groups -/

/-- PLY_STS.WIDTH of a group: its live skeins (R211, R212). -/
def State.width (s : State) (g : Nat) : Nat := s.groupSkeins g

/-- Lines in stripes of a bolt that has lost two or more members become LOST (R344): the rule takes every live line of
such a stripe. -/
def State.loseDoubly (s : State) (g : Nat) : State :=
  let twice := ((s.listed g).filter fun p =>
    decide (p.2.st = .sealed ∨ p.2.st = .victim) && p.2.degraded &&
      decide (2 ≤ 16 - popCount (p.2.members &&& s.usable g p.1))).map (·.1)
  let hit (a : Nat) : Bool := decide (addrGroup a = g) && twice.contains (addrBlock a)
  let lines : List Nat := s.map.ent.filterMap fun p => if p.2.st == 1 && hit p.2.addr then some p.1 else none
  let maps := s.map.dir.filterMap fun p => match p.2 with | some a => if hit a then some p.1 else none | none => none
  let t := lines.foldl
    (fun u l =>
      if isHostLine l then (u.makeLost ((u.domOf l).getD 0) l .internal).bump F.upkDarnStsLostLines 1
      else if l < logBase then
        ((u.mapRec 0 l false none { Entry.lost with epoch := (u.entry l).epoch }).loseCovered (l - tagBase)).raiseN
          Ev.mapLineLost 0 l
      else u.mapRec 0 l false none Entry.lost) s
  maps.foldl (fun u m => u.loseCovered m) t

/-- Darn gets work in a group (R340); a retirement while it has work is a second fault (R344). -/
def State.darnStart (s : State) (g : Nat) : State :=
  let u := s.upkG g
  let second := decide (u.darn ≠ 0)
  let s := s.setUpkG g { u with darn := if u.evacuate then 3 else 1 }
  let s := s.upkEvent Ev.upkDarnStart .darn 0 g 0
  if second then (s.upkEvent Ev.upkSecondFault .darn 0 g 0).loseDoubly g else s

/-- A group below 12 live skeins stops and is evacuated (R211, R345). -/
def State.checkWidth (s : State) (g : Nat) : State :=
  let x := s.group g
  if s.width g < 12 ∧ !x.stopped ∧ g < s.popP then
    let s := (s.setGroup g { x with stopped := true }).raise (Ev.plyWidthStopped g)
    let s := s.setUpkG g { s.upkG g with darn := 3, evacuate := true }
    s.upkEvent Ev.upkEvacuate .darn 0 g 0
  else s

/-- Every block left in a RESETTING bolt has reset OK: it is FREE again, or DEAD below 12 members (R318). A block whose
retirement was undone rejoins now (R368). -/
def State.resetDone (s : State) (g b : Nat) : State :=
  let x := s.bolt g b
  if x.st ≠ .resetting ∨ x.members &&& ~~~x.resetOk ≠ 0#16 then s
  else
    let m := s.usable g b
    let s := s.setBolt g b { Bolt.fresh with st := if popCount m < 12 then .dead else .free, members := m
                                             resets := x.resets + 1 }
    let u := s.upkG g
    let s := (s.setUpkG g { u with total := u.total + 1, held := u.held.filter fun k => k != b }).count 0x607 0 1
    (s.freeLevels g).checkAlerts

/-- A member of bolts is lost: their bits clear, sealed ones are DEGRADED, a VICTIM returns to SEALED and open bolts
close early (R212, R340). `sel` picks the bolts by block index; `i` is the member position. -/
def State.loseMember (s : State) (g i : Nat) (sel : Nat → Bool) : State :=
  let s := { s with upk := { s.upk with
    bolts := Tab.mapVals (fun _ => Bolt.fresh)
      (fun k b =>
        if k / 131072 = g ∧ sel (k % 131072) ∧ b.members.getLsbD i then
          let b := { b with members := b.members &&& ~~~(1#16 <<< i) }
          if b.st = .sealed ∨ b.st = .victim then { b with st := .sealed, degraded := true, proc := none } else b
        else b) s.upk.bolts } }
  [Part.host, .met, .upk].foldl
    (fun t p =>
      match (t.group g).openBolt p with
      | some o => if sel o.block then t.closeEarly g p else t
      | none => t) s

/-- Selvage copies that a retired die or skein held are lost: their regions freeze and lines run on one copy (R161). -/
def State.loseSelvage (s : State) (n : Nat) (dies : Nat) : State :=
  let fr (t : State) (h : Nat) : State := t.setRegion n h { t.region n h with frozen := true }
  let s := fr (fr s 0) 1
  ({ s with map := { s.map with single := s.map.single + dies * 2 ^ 19 } }).raise Ev.mapSlvSingle

/-! ### SRAM banks (R117, R118, R119, Table 10-6) -/

/-- Spare banks of an array in a bank group. -/
def spareBanks (arr : Nat) : Nat :=
  match arr with
  | 0 => 4
  | 3 => 4
  | 4 => 4
  | _ => 2

def State.sparesUsed (s : State) (arr grp : Nat) : Nat := Tab.get (fun _ => 0) s.flt.spares (16 * arr + grp)

/-- A front-cache bank group folds, or waits while a window is carved (R118, R119): its lines are written back first,
and GROUP_FOLDED completes it. -/
def State.startFold (s : State) (bg : Nat) : State :=
  if s.swt.st ≠ .none then
    ({ s with fch := { s.fch with spares := Tab.set (fun _ => 0) s.fch.spares bg 5, foldWait := s.fch.foldWait ||| (1#16 <<< bg) } }).raise
      Ev.fchFoldBlocked
  else { s with fch := { s.fch with foldWait := s.fch.foldWait ||| (1#16 <<< bg) } }

/-- A failed bank is steered to a spare; with none left, the array's own rule applies. -/
def State.spareBank (s : State) (arr grp : Nat) : State :=
  let used := s.sparesUsed arr grp
  if used < spareBanks arr then
    let s := { s with flt := { s.flt with spares := Tab.set (fun _ => 0) s.flt.spares (16 * arr + grp) (used + 1) } }
    if arr ≤ 2 then s.raise Ev.fchBankSpared else s
  else
    let s := { s with flt := { s.flt with
      noSpare := Tab.set (fun _ => 0) s.flt.noSpare (16 * arr + grp) (Tab.get (fun _ => 0) s.flt.noSpare (16 * arr + grp) + 1) } }
    let s := s.raiseN Ev.fltSpareExhausted (5 * 2 ^ 36) (arr * 2 ^ 20 + grp * 2 ^ 16)
    if arr ≤ 2 then s.startFold grp
    else if arr = 3 then
      { s with map := { s.map with
          cached := s.map.cached.filter fun x => x.dirty || decide (mapSet x.kind x.idx / 4096 ≠ grp) } }
    else if arr = 4 then
      (s.setFld (F.plyStageCfgHostStripes grp) 320).setFld (F.plyStageCfgMetaStripes grp) 64
    else s

/-! ### The retirement table (R361, R362) -/

/-- The die, block or partition belongs to skein `n`, to die `d` of it. -/
def Res.onDie (r : Res) (n d : Nat) : Bool :=
  decide ((r.ty = 1 ∧ r.id / 2 ^ 17 = n ∧ r.id % 2 ^ 17 / 8192 = d) ∨ (r.ty = 2 ∧ r.id / 2 ^ 17 = n ∧ r.id / 2 ^ 13 % 16 = d))

def Res.onSkein (r : Res) (n : Nat) : Bool := decide ((r.ty = 1 ∨ r.ty = 2 ∨ r.ty = 3) ∧ r.id / 2 ^ 17 = n)

/-- Entries that a new retirement frees (R362). -/
def State.freeCovered (s : State) (r : Res) : State :=
  if r.ty = 4 then { s with flt := { s.flt with ret := s.flt.ret.filter fun e => !(e.res.onSkein (r.id / 2 ^ 17)) } }
  else if r.ty = 3 then
    { s with flt := { s.flt with
        ret := s.flt.ret.filter fun e => !(e.res.ty == 1 && e.res.onDie (r.id / 2 ^ 17) (r.id / 2 ^ 13 % 16)) } }
  else s

/-- The list without its first entry that satisfies `p`. -/
def dropFirst {α : Type} (p : α → Bool) : List α → List α
  | [] => []
  | x :: xs => if p x then xs else x :: dropFirst p xs

/-- The entry is written before the retirement takes effect (R361), with the rule of R362 for a full table. -/
def State.writeRet (s : State) (r : Res) (cause : Nat) (injected : Bool) : State :=
  let s := if 256 ≤ s.flt.ret.length then s.freeCovered r else s
  let e : RetEnt := ⟨injected, false, r, cause, s.ctrVal 4 / 1000⟩
  let blockHeld := s.flt.ret.any fun x => x.res.ty == 1
  let full := decide (256 ≤ s.flt.ret.length)
  let s := if !full then { s with flt := { s.flt with ret := s.flt.ret ++ [e] } }
    else if blockHeld then { s with flt := { s.flt with ret := dropFirst (fun x => x.res.ty == 1) s.flt.ret ++ [e] } }
    else { s with flt := { s.flt with retOvf := s.flt.retOvf ++ [e] } }
  s.raiseN Ev.fltRetired (ofBool full * 2 ^ 40 + r.ty * 2 ^ 36) r.id

/-- Ply engine `g` is taken over by its partner (R358). -/
def State.takeover (s : State) (g : Nat) : State :=
  if s.flt.takeover.getLsbD g then s
  else
    ({ s with flt := { s.flt with takeover := s.flt.takeover ||| (1#8 <<< g) } }).raiseN Ev.fltPlyTakeover (8 * 2 ^ 36)
      (g * 2 ^ 16)

def State.qcnt (s : State) (q : Nat) : QCnt := Tab.get (fun _ => QCnt.fresh) s.flt.queues q

def State.setQcnt (s : State) (q : Nat) (x : QCnt) : State :=
  { s with flt := { s.flt with queues := Tab.set (fun _ => QCnt.fresh) s.flt.queues q x } }

/-- What retiring a skein does beside the table (Table 10-5). -/
def State.retireSkein (s : State) (n : Nat) : State :=
  let g := n / 16
  let was := s.link1 n
  let s := s.setLink1 n { was with st := .failed, pkg := .retired }
  let s := s.loseMember g (n % 16) fun _ => true
  let s := s.setGroup g { s.group g with gone := (s.group g).gone ||| (1#16 <<< (n % 16)) }
  let s := (s.loseSelvage n s.popD).raiseN (Ev.plyNarrowed g) (n % 16 * 2 ^ 24) 0
  ((s.darnStart g).checkWidth g).endUnknown

/-- The action of a retirement (Table 10-5), without its table entry. -/
def State.retireAct (s : State) (r : Res) : State :=
  let n := r.id / 2 ^ 17 % 128
  let g := n / 16
  match r.ty with
  | 1 =>
    let b := r.id % 2 ^ 17
    let s := s.loseMember g (n % 16) fun k => k == b
    let x := s.bolt g b
    if x.st = .resetting then s.resetDone g b
    else if x.degraded then s.darnStart g else s
  | 3 =>
    let die := r.id / 2 ^ 13 % 16
    let s := s.loseMember g (n % 16) fun k => k / 8192 == die
    (s.loseSelvage n 1).darnStart g
  | 4 => s.retireSkein n
  | 5 => s.spareBank (r.id / 2 ^ 20 % 16) (r.id / 2 ^ 16 % 16)
  | 6 =>
    let q := r.id / 2 ^ 8 % 65536
    let c := s.qcnt q
    if c.spares < 4 then s.setQcnt q { c with spares := c.spares + 1 }
    else
      let s := s.setQcnt q { c with retired := true }
      if q < 128 then s.retireSkein q
      else if 256 ≤ q ∧ q < 272 then
        let h := if s.host.hbif then (q - 256) % 8 else (q - 256) % 8 / 2
        let x := s.head h
        (s.setHead h { x with link := .off, width := 0, speed := 0 }).raise (Ev.hstLinkDown h)
      else if 272 ≤ q ∧ q < 288 then
        let e := (q - 272) % 8
        ({ s with flt := { s.flt with engRetired := s.flt.engRetired ||| (1#8 <<< e) } }).takeover e
      else s
  | 7 =>
    { s with flt := { s.flt with aesOut := Tab.set (fun _ => false) s.flt.aesOut (8 * (r.id / 2 ^ 16 % 8) + r.id % 8) true } }
  | 8 =>
    let e := r.id / 2 ^ 16 % 8
    ({ s with flt := { s.flt with engRetired := s.flt.engRetired ||| (1#8 <<< e), engHeld := s.flt.engHeld &&& ~~~(1#8 <<< e) } }).takeover
      e
  | _ => s

/-- Retired dies of a skein. -/
def State.retiredDies (s : State) (n : Nat) : Nat :=
  ((s.flt.ret ++ s.flt.retOvf).filter fun e => e.res.ty == 3 && decide (e.res.id / 2 ^ 17 = n)).length

/-- A resource is retired: table first, then the action; a fourth die retires its skein (R357, R361, Table 10-5). -/
def State.retire (s : State) (r : Res) (cause : Nat) (injected : Bool) : State :=
  if s.retiredRes r then s
  else
    let s := s.bump F.fltCnt2Permanent 1
    let n := r.id / 2 ^ 17 % 128
    if r.ty = 3 ∧ 3 ≤ s.retiredDies n then
      if s.retiredRes (resSkein n) then s else (s.writeRet (resSkein n) 4 injected).retireAct (resSkein n)
    else (s.writeRet r cause injected).retireAct r

/-- A resource whose injected retirement is undone returns to service (R368). Bolts take its blocks back as they are reset. -/
def State.returnRes (s : State) (r : Res) : State :=
  let n := r.id / 2 ^ 17 % 128
  match r.ty with
  | 4 =>
    let s := s.setLink1 n SkeinLink.fresh
    s.setGroup (n / 16) { s.group (n / 16) with gone := (s.group (n / 16)).gone &&& ~~~(1#16 <<< (n % 16)) }
  | 5 =>
    let k := 16 * (r.id / 2 ^ 20 % 16) + r.id / 2 ^ 16 % 16
    { s with flt := { s.flt with spares := Tab.set (fun _ => 0) s.flt.spares k (Tab.get (fun _ => 0) s.flt.spares k - 1) } }
  | 6 =>
    let q := r.id / 2 ^ 8 % 65536
    let c := s.qcnt q
    s.setQcnt q { c with spares := c.spares - 1, retired := false }
  | 7 =>
    { s with flt := { s.flt with aesOut := Tab.set (fun _ => false) s.flt.aesOut (8 * (r.id / 2 ^ 16 % 8) + r.id % 8) false } }
  | 8 =>
    let e := r.id / 2 ^ 16 % 8
    { s with flt := { s.flt with engRetired := s.flt.engRetired &&& ~~~(1#8 <<< e), takeover := s.flt.takeover &&& ~~~(1#8 <<< e) } }
  | _ => s

/-- Entries marked for undo leave the table at a device conventional reset (R368). -/
def State.applyUndo (s : State) : State :=
  let back := s.flt.ret.filter fun e => e.undo
  let s : State := { s with flt := { s.flt with ret := s.flt.ret.filter fun e => !e.undo } }
  back.foldl (fun (t : State) e => t.returnRes e.res) s

/-! ### Reporting (R350, R351, R356) -/

/-- Error classes of FLT_CNT0 and FLT_CNT1. -/
inductive ErrCls where
  | media | link | sram | queue | logic
deriving DecidableEq, Repr

def State.countErr (s : State) : ErrCls → State
  | .media => s.bump F.fltCnt0Media 1
  | .link => s.bump F.fltCnt0Link 1
  | .sram => s.bump F.fltCnt1Sram 1
  | .queue => s.bump F.fltCnt1Queue 1
  | .logic => s.bump F.fltCnt1Logic 1

/-- Operating hour. -/
def State.opHour (s : State) : Nat := s.ctrVal 4 / 3600000

/-- The count of a resource over the last 24 hourly buckets (R356). -/
def State.last24 (s : State) (r : Res) (what : Nat) : Nat :=
  s.flt.buckets.foldl
    (fun n b => if b.res = r ∧ b.what = what ∧ s.opHour < b.hour + 24 then n + b.n else n) 0

/-- One more in the bucket of the hour. -/
def State.addBucket (s : State) (r : Res) (what k : Nat) : State :=
  let live := s.flt.buckets.filter fun b => decide (s.opHour < b.hour + 24)
  let found := live.any fun b => decide (b.res = r ∧ b.what = what ∧ b.hour = s.opHour)
  let next := if found then
      live.map fun b => if b.res = r ∧ b.what = what ∧ b.hour = s.opHour then { b with n := b.n + k } else b
    else live ++ [⟨r, what, s.opHour, k⟩]
  { s with flt := { s.flt with buckets := next } }

/-- What Table 10-4 counts: 0 transient classifications, 1 corrected errors, 2 parity errors, 3 island faults. -/
def State.threshOf (s : State) (r : Res) (what : Nat) : Option Nat :=
  match r.ty, what with
  | 2, 0 => some (s.fld F.fltThreshPart24h)
  | 4, 0 => some (s.fld F.fltThreshLink24h)
  | 5, 0 => some (s.fld F.fltThreshBankUncorr24h)
  | 5, 1 => some (s.fld F.fltThreshBankCorr24h)
  | 6, 2 => some (s.fld F.fltThreshQueue24h)
  | 8, 3 => some (s.fld F.fltThreshIsland24h)
  | _, _ => none

/-- The unit that a threshold retires: the die for a partition, else the resource (Table 10-4). -/
def Res.unit (r : Res) : Res := if r.ty = 2 then ⟨3, r.id / 2 ^ 13 * 2 ^ 13⟩ else r

/-- A counted occurrence; at the threshold the unit is retired (R356). -/
def State.countThresh (s : State) (r : Res) (what : Nat) : State :=
  let s := s.addBucket r what 1
  match s.threshOf r what with
  | some t =>
    if t ≤ s.last24 r what ∧ !s.retiredRes r.unit then
      (s.raiseN Ev.fltThreshRetire (r.unit.ty * 2 ^ 36) r.unit.id).retire r.unit 2 false
    else s
  | none => s

/-- A STICKY injection acts on the resource's test (R368). -/
def State.stickyOn (s : State) (r : Res) : Bool :=
  s.flt.hit.contains r ||
    match s.flt.inj with
    | some i => i.sticky && decide (i.res = r)
    | none => false

/-- A test of the resource is queued, or the error joins the one that is; with 256 queued it waits for room (R351,
R352). -/
def State.queueTest (s : State) (r : Res) (block why : Nat) : State :=
  if s.flt.tests.any (fun t => decide (t.res = r)) then
    { s with flt := { s.flt with
        tests := s.flt.tests.map fun t => if t.res = r then { t with errors := t.errors + 1, sticky := t.sticky || s.stickyOn r } else t } }
  else if (s.flt.tests.filter fun t => !t.running).length < 256 then
    { s with flt := { s.flt with
        tests := s.flt.tests ++ [⟨r, false, 1, block, why, s.stickyOn r, s.time.upNs⟩] } }
  else { s with flt := { s.flt with spill := s.flt.spill ++ [r] } }

/-- An error of Table 10-2 reaches the fault manager (R351): counted in its class and against its resource, and a test
is queued. -/
def State.report (s : State) (r : Res) (c : ErrCls) (block : Nat) : State := (s.countErr c).queueTest r block 0

/-- The die partition of a media line: partition = line offset's place in the block (R349, R355). -/
def partOf (a : Nat) : Res := resPart (addrSkein a) (addrBlock a / 8192) (addrOff a % 32)

/-- A media error at a line address. -/
def State.reportLine (s : State) (a : Nat) : State := s.report (partOf a) .media (addrBlock a)

/-- A program error of a block: counted for its life, and the second retires it (Table 10-4). -/
def State.programError (s : State) (n b : Nat) : State :=
  let k := n * 131072 + b
  let c := Tab.get (fun _ => 0) s.flt.blockErrs k + 1
  let s := { s with flt := { s.flt with blockErrs := Tab.set (fun _ => 0) s.flt.blockErrs k c } }
  let s := s.countErr .media
  if 2 ≤ c ∧ !s.retiredRes (resBlock n b) then
    (s.raiseN Ev.fltThreshRetire (1 * 2 ^ 36) (resBlock n b).id).retire (resBlock n b) 2 false
  else s.queueTest (resBlock n b) b 1

/-! ### Quarantine (R363, R364) -/

/-- Bytes of the data area: up to three sectors, ascending. -/
def quarPlain (d : Quad Sector) (have_ : BitVec 4) : List Sector :=
  ((List.range 4).filterMap fun k => if have_.getLsbD k then some (d.at k) else none).take 3

/-- A quarantine record is written to both copies; QUAR_HIGH at 75 % of the ring (R363, R364). -/
def State.quarantine (s : State) (line dom : Nat) (d : Quad Sector) (have_ : BitVec 4) (g : Nat) : State :=
    let q := (s.drawSeq dom g).2
    let s := (s.drawSeq dom g).1
    let x := s.dom dom
    let seq := q.getD 0
    let plain := quarPlain d have_
    let key := match x.gen x.cur with | some k => k.key | none => 0#256
    let iv := gcmIv (x.cur + 2) seq line
    let pt := (plain ++ List.replicate (3 - plain.length) 0#512).flatMap fun v => leBytes 64 v.toNat
    let ct := xorBytes pt (gcmStream (leBytes 32 key.toNat) iv 12)
    let tag := BitVec.ofNat 64 (leNat ((gcmTag (leBytes 32 key.toNat) iv (gcmAad 1 line dom seq x.cur 0) ct 12).take 8))
    let slot (i : Nat) : Sector := BitVec.ofNat 512 (leNat ((ct.drop (64 * i)).take 64))
    let rec_ : QuarRec :=
      { domScope := x.haltDom, poisoned := x.haltDom, line := line, dom := dom, sectors := have_, seq := seq, kgen := x.cur
        jsn := s.map.durJsn, time := s.time.devtime, no := s.flt.quarSeq, tag := tag, slots := [slot 0, slot 1, slot 2] }
    let s := { s with flt := { s.flt with quar := s.flt.quar ++ [rec_], quarSeq := s.flt.quarSeq + 1 } }
    let s := (s.selvage (s.jnlBase + s.ringLines + 1048576 + 1 + (s.flt.quarSeq - 1) % 262143) 5).raise Ev.fltQuarWritten
    let n : Nat := s.flt.quar.length
    if 3 * 262143 ≤ 4 * n ∧ s.flt.quarHigh = false then
      ({ s with flt := { s.flt with quarHigh := true } }).raise Ev.fltQuarHigh
    else s

/-! ### Firing an injection (R367) -/

/-- The armed injection fires once; after its last firing it disarms itself and INJ_DONE is raised. -/
def State.injFire (s : State) : State :=
  match s.flt.inj with
  | none => s
  | some i =>
    let s : State := if i.sticky && !s.flt.hit.contains i.res then { s with flt := { s.flt with hit := s.flt.hit ++ [i.res] } } else s
    if i.left ≤ 1 then ({ s with flt := { s.flt with inj := none } }).raise Ev.fltInjDone
    else { s with flt := { s.flt with inj := some { i with left := i.left - 1 } } }

/-- The armed injection is of this kind and has this resource as its target. -/
def State.injOn (s : State) (kind : Nat) (r : Res) : Bool :=
  match s.flt.inj with
  | some i => decide (i.kind = kind ∧ i.res = r)
  | none => false

end Sys2Proof.Machine
end

