-- ==== Sys2Proof/Machine/Window.lean ====
section
/-!
DEFINITION. The Swatch window's words: which accesses it serves, reads and writes of a sector, the checker (R113, R127,
R130 to R132, R137, R138).
-/
namespace Sys2Proof.Machine

/-! ### The SECDED checker -/

/-- How a stored word passes the checker: syndrome, 0 clean / 1 correctable / 2 uncorrectable, and the corrected data. -/
def checkWord (data : BitVec 64) (chk : BitVec 8) : BitVec 8 × Nat × BitVec 64 :=
  let syn := Config.secded data ^^^ chk
  if syn = 0#8 then (syn, 0, data)
  else
    match (List.range 64).find? fun i => decide (Config.secded (data ^^^ (1#64 <<< i)) = chk) with
    | some i => (syn, 1, data ^^^ (1#64 <<< i))
    | none =>
      if (List.range 8).any fun i => decide (syn = 1#8 <<< i) then (syn, 1, data) else (syn, 2, data)

/-- A corrected front-cache word: counted, and CORR_THRESH once more than the threshold fell in one second (R113). -/
def State.fchCorrected (s : State) (info addr : Nat) : State :=
  let s := (s.bump F.fchEccCntCorr 1).count 0x209 0 1
  let fresh := decide (s.fch.eccStart + 1000000000 ≤ s.time.upNs)
  let f := if fresh then { s.fch with eccWin := 1, eccStart := s.time.upNs, eccDone := false }
           else { s.fch with eccWin := s.fch.eccWin + 1 }
  if s.fld F.fchEccCfgCorrThresh < f.eccWin ∧ !f.eccDone then
    ({ s with fch := { f with eccDone := true } }).raiseN Ev.fchCorrThresh info addr
  else { s with fch := f }

/-! ### Which lines the window serves -/

/-- Lines of the window. -/
def State.swtLines (s : State) : Nat := s.swt.ways * 65536

/-- The window holds the line: it is in the range and not yet handed back, nor being handed back (R127, R136). -/
def State.inWindow (s : State) (line : Nat) : Bool :=
  let i := line - s.swt.base
  decide (s.swt.st ≠ .none ∧ s.swt.base ≤ line ∧ i < s.swtLines) &&
    !(s.swt.st == .releasing && (decide (i < s.swt.pos) || s.swt.handing == some i))

/-- The line lies in the window's range, whatever its release position. -/
def State.inWindowRange (s : State) (line : Nat) : Bool :=
  decide (s.swt.st ≠ .none ∧ s.swt.base ≤ line ∧ line - s.swt.base < s.swtLines)

/-- Word `j` of a sector: its place among the window's words. -/
def State.wordKey (s : State) (line sec j : Nat) : Nat := (line - s.swt.base) * 32 + sec * 8 + j

def State.wword (s : State) (k : Nat) : WWord := Tab.get (fun _ => s.swt.dflt) s.swt.words k

def State.setWword (s : State) (k : Nat) (w : WWord) : State :=
  { s with swt := { s.swt with words := Tab.set (fun _ => s.swt.dflt) s.swt.words k w } }

/-- Every word of the window takes one value. -/
def State.fillWindow (s : State) (w : WWord) : State := { s with swt := { s.swt with dflt := w, words := [] } }

/-- A word written with its check bits. -/
def WWord.written (d : BitVec 64) : WWord := ⟨.written, d, Config.secded d, true⟩

/-- The zero word of Sanitize, of a restored EMPTY domain and of R134. -/
def WWord.zero : WWord := WWord.written 0#64

/-! ### Reads and writes of a sector -/

/-- One word is read: the state after it, its data, and whether the read is poisoned (R131, R132). -/
def State.readWord (s : State) (k : Nat) : State × BitVec 64 × Bool :=
  let w := s.wword k
  match w.st with
  | .unwritten => (s.raiseN Ev.swtUnwrittenRead 0 (8 * k), 0#64, true)
  | .poisoned => (s, 0#64, true)
  | .written =>
    let c := checkWord w.data w.chk
    if c.2.1 = 0 then (s, w.data, false)
    else if c.2.1 = 1 then ((s.setWword k (WWord.written c.2.2)).fchCorrected 0 0, c.2.2, false)
    else
      ((s.setWword k { w with st := .poisoned }).raiseN Ev.swtUncorr (c.1.toNat * 2 ^ 16) (8 * k), 0#64, true)

/-- Words `0` to `n - 1` of a sector are read in order. -/
def State.readWords (s : State) (base : Nat) : Nat → State × Sector × Bool
  | 0 => (s, 0#512, false)
  | n + 1 =>
    let r := s.readWords base n
    let w := r.1.readWord (base + n)
    (w.1, r.2.1 ||| (w.2.1.zeroExtend 512 <<< (64 * n)), r.2.2 || w.2.2)

/-- One word takes the enabled bytes of a write (R131). -/
def WWord.store (w : WWord) (d : BitVec 64) (be : BitVec 8) (poison : Bool) : WWord :=
  let mask : BitVec 64 := BitVec.ofNat 64 ((List.range 8).foldl (fun n i => n + ofBool (be.getLsbD i) * 0xFF * 2 ^ (8 * i)) 0)
  let old := if w.st = .unwritten then 0#64 else w.data
  let new := (d &&& mask) ||| (old &&& ~~~mask)
  if be = 0#8 then w
  else if poison then { WWord.written new with st := .poisoned }
  else if be = 0xFF#8 ∨ w.st ≠ .poisoned then WWord.written new
  else { WWord.written new with st := .poisoned }

/-- Words `0` to `n - 1` of a sector are written. -/
def State.writeWords (s : State) (base : Nat) (d : Sector) (be : BitVec 64) (poison : Bool) : Nat → State
  | 0 => s
  | n + 1 =>
    let t := s.writeWords base d be poison n
    t.setWword (base + n) ((t.wword (base + n)).store (d.extractLsb' (64 * n) 64) (be.extractLsb' (8 * n) 8) poison)

/-- Words in state UNWRITTEN (SWT_STS). -/
def State.unwrittenWords (s : State) : Nat :=
  if s.swt.st = .none then 0
  else
    let listed := (s.swt.words.filter fun p => decide (p.2.st = .unwritten)).length
    if s.swt.dflt.st = .unwritten then s.swtLines * 32 - s.swt.words.length + listed else listed

end Sys2Proof.Machine
end

