-- ==== Sys2Proof/Machine/Front.lean ====
section
/-!
DEFINITION. The front cache's own operations: places of a line, replacement and the victim cache, handing dirty lines to
the ply engines, answers to hosts, flush requests, the containment halt, errors in the arrays, stream trackers (ch. 3,
R60, R189, R242, R384 to R387, R599).
-/
namespace Sys2Proof.Machine

/-! ### Answers to hosts (R54, R55, R60, R67, R242) -/

/-- DevLoad of a head, as its last Pick boundary classified it. -/
def State.devload (s : State) (h : Nat) : Nat := s.fld (F.hstDevloadDevload h)

/-- The tag of a request whose head's link has gone down: its response cannot be delivered (R84). -/
def noTag : Nat := 2 ^ 32

/-- A response leaves through a head, unless the link it belonged to has gone. -/
def State.respond (s : State) (tag : Nat) (o : Output) : State := if tag = noTag then s else s.emit o

/-- Cmp of a write. -/
def State.cmp (s : State) (h tag : Nat) : State := s.respond tag (.cmp h tag (s.devload h))

/-- MemData of a read; a poisoned one counts. -/
def State.memData (s : State) (h tag : Nat) (d : Sector) (poison : Bool) : State :=
  let s := s.respond tag (.memData h tag d poison (s.devload h))
  if poison then s.count 0x104 h 1 else s

/-- A read completes with poison; a write completes and is discarded (R47, R61, R72). -/
def State.failReq (s : State) (r : Req) : State :=
  if r.wr then s.cmp r.h r.tag else s.memData r.h r.tag 0#512 true

/-- A General Media Event record (R60, R242): log 1 Warning or 2 Failure; type 0 ECC Error, 1 Invalid Address, 2 Data
Path Error; the Uncorrectable flag; transaction 1 Host Read, 2 scan. Lines outside every extent have no DPA. -/
def State.gme (s : State) (log line sec ty : Nat) (unc : Bool) (tx : Nat) : State :=
  match s.dpaOf line sec with
  | some dpa => s.postCxl .generalMedia log s.time.devtime [dpa, ty, ofBool unc, tx]
  | none => s

/-! ### Places (R91, R92) -/

/-- The home set of a line. -/
def homeSet (l : Nat) : Nat := (l % 65536) ^^^ (l / 65536 % 65536) ^^^ (l / 2 ^ 32 % 64)

/-- The set that holds the line: the partner group's when its bank group is folded. -/
def State.fset (s : State) (l : Nat) : Nat :=
  if s.fch.folded.getLsbD (homeSet l / 4096) then homeSet l ^^^ 0x8000 else homeSet l

def State.isFold (s : State) (l : Nat) : Bool := s.fch.folded.getLsbD (homeSet l / 4096)

/-- The line in slot `16 × set + way`. -/
def State.slotAt (s : State) (k : Nat) : Option CLine := Tab.get (fun _ => none) s.fch.arr k

def State.setSlot (s : State) (k : Nat) (c : Option CLine) : State :=
  { s with fch := { s.fch with arr := Tab.set (fun _ => none) s.fch.arr k c } }

/-- The slot of the main array that holds a line. -/
def State.findWay (s : State) (line : Nat) : Option (Nat × CLine) :=
  (List.range 16).findSome? fun w =>
    match s.slotAt (16 * s.fset line + w) with
    | some c => if c.line = line then some (16 * s.fset line + w, c) else none
    | none => none

def State.findVictim (s : State) (line : Nat) : Option CLine := s.fch.victim.find? fun c => c.line == line

def State.findSide (s : State) (line : Nat) : Option CLine := s.fch.side.find? fun c => c.line == line

/-- The line in the main array or the victim cache. -/
def State.lineOf (s : State) (line : Nat) : Option CLine :=
  match s.findWay line with
  | some (_, c) => some c
  | none => s.findVictim line

/-- The line rewritten where it is. -/
def State.updLine (s : State) (line : Nat) (f : CLine → CLine) : State :=
  match s.findWay line with
  | some (k, c) => s.setSlot k (some (f c))
  | none => { s with fch := { s.fch with victim := s.fch.victim.map fun c => if c.line = line then f c else c } }

/-- The line leaves the main array and the victim cache. -/
def State.dropLine (s : State) (line : Nat) : State :=
  match s.findWay line with
  | some (k, _) => s.setSlot k none
  | none => { s with fch := { s.fch with victim := s.fch.victim.filter fun c => c.line != line } }

def State.dropSide (s : State) (line : Nat) : State :=
  { s with fch := { s.fch with side := s.fch.side.filter fun c => c.line != line } }

/-- Every line of the main array. -/
def State.arrLines (s : State) : List CLine := s.fch.arr.filterMap fun p => p.2

/-- Every line of the main array and the victim cache. -/
def State.cacheLines (s : State) : List CLine := s.arrLines ++ s.fch.victim

/-- Dirty lines (R107). -/
def State.dirtyLines (s : State) : List CLine := s.cacheLines.filter fun c => decide (c.sd ≠ 0#4)

def State.dirtyCount (s : State) : Nat := s.dirtyLines.length

/-- The dirty limit in force, in lines (R107). -/
def State.dirtyLimit (s : State) : Nat := s.fch.limit * 4096

/-! ### Masks and replacement (R96 to R100, R269) -/

/-- Ways of the Swatch window. -/
def State.swtMask (s : State) : BitVec 16 :=
  if s.swt.st = .none then 0#16 else 0xFFFF#16 <<< (16 - s.swt.ways)

def State.rdMask (s : State) : BitVec 16 := BitVec.ofNat 16 (s.fld F.fchWaymaskRd) &&& ~~~s.swtMask
def State.wrMask (s : State) : BitVec 16 := BitVec.ofNat 16 (s.fld F.fchWaymaskWr) &&& ~~~s.swtMask
def State.pfMask (s : State) : BitVec 16 := BitVec.ofNat 16 (s.fld F.fchWaymaskPf) &&& ~~~s.swtMask

/-- Ways of a set whose line satisfies `p`. -/
def State.wayMask (s : State) (set : Nat) (p : CLine → Bool) : BitVec 16 :=
  (List.range 16).foldl
    (fun m w => match s.slotAt (16 * set + w) with
      | some c => if p c then m ||| (1#16 <<< w) else m
      | none => m) 0#16

def State.fplru (s : State) (set : Nat) : BitVec 15 := Tab.get (fun _ => 0#15) s.fch.plru set

/-- Use of a slot. -/
def State.ftouch (s : State) (k : Nat) : State :=
  { s with fch := { s.fch with plru := Tab.set (fun _ => 0#15) s.fch.plru (k / 16) (plruTouch (s.fplru (k / 16)) (k % 16)) } }

/-- A line joins the victim cache, replacing its oldest clean entry when it is full; none when all are dirty (R99). -/
def State.toVictim (s : State) (c : CLine) : Option State :=
  if s.fch.victim.length < 512 then some { s with fch := { s.fch with victim := s.fch.victim ++ [c] } }
  else if s.fch.victim.any (fun x => x.sd == 0#4) then
    some { s with fch := { s.fch with victim := dropFirst (fun x => x.sd == 0#4) s.fch.victim ++ [c] } }
  else none

/-- A dirty line is handed to its ply engine (R99, R189); with a second generation switch due its domain's lines are kept
(R393). -/
def State.hand (s : State) (line : Nat) : State :=
  match s.lineOf line with
  | none => s
  | some c =>
    if c.sd = 0#4 ∨ c.handed ∨ (s.dom c.dom).due then s
    else
      let t := s.updLine line fun x => { x with handed := true }
      let e : Handed := ⟨line, c.dom, (s.chooseGroup line).getD 8, c.d, c.sv, Quad.all 0#64, c.sp, c.ep, true, none⟩
      ({ t with wp := { t.wp with handed := t.wp.handed ++ [e] } } : State).count 0x206 0 1

/-- The line of a slot is evicted. -/
def State.evictAt (s : State) (k : Nat) : Option State :=
  match s.slotAt k with
  | none => some s
  | some c => (s.toVictim c).map fun t =>
      let t := t.setSlot k none
      if c.sd ≠ 0#4 then t.hand c.line else t

/-- A slot for a line among the allowed ways: an invalid one, else the pseudo-LRU one, evicting its line. None when the mask
is empty or the eviction must wait. -/
def State.allocWay (s : State) (line : Nat) (mask : BitVec 16) : Option (State × Nat) :=
  let set := s.fset line
  let free := mask &&& ~~~(s.wayMask set fun _ => true)
  if mask = 0#16 then none
  else if free ≠ 0#16 then some (s, 16 * set + plruVictim (s.fplru set) free)
  else
    let k := 16 * set + plruVictim (s.fplru set) mask
    (s.evictAt k).map fun t => (t, k)

/-- A slot for a read fill, which never waits (R269): when no victim entry is clean only a clean way is taken. -/
def State.allocFill (s : State) (line : Nat) (mask : BitVec 16) : Option (State × Nat) :=
  match s.allocWay line mask with
  | some r => some r
  | none =>
    let set := s.fset line
    let clean := mask &&& s.wayMask set fun c => c.sd == 0#4
    if clean = 0#16 then none
    else
      let k := 16 * set + plruVictim (s.fplru set) clean
      some (s.setSlot k none, k)

/-! ### Flipped bits of the arrays (R367, Table 10-9 kinds 9 and 10) -/

/-- The flip that the armed injection puts on a write of the sectors in `secs` at a slot; `tag` when the tag entry is written
too. -/
def State.flip (s : State) (k : Nat) (secs : BitVec 4) (tag : Bool) : Option (Nat × Nat × Bool) :=
  match s.flt.inj with
  | none => none
  | some i =>
    let arr := i.res.id / 2 ^ 20
    let entry := k / 16 % 4096 * 16 + k % 16
    if (i.kind ≠ 9 ∧ i.kind ≠ 10) ∨ i.res.ty ≠ 5 ∨ i.res.id / 2 ^ 16 % 16 ≠ k / 65536 then none
    else
      let bank := i.res.id % 2 ^ 16
      let two := decide (i.kind = 10)
      if arr = 0 ∧ i.addr / 32 = entry ∧ secs.getLsbD (i.addr % 32 / 8) then some (0, i.addr % 32 + 32 * bank, two)
      else if arr = 1 ∧ i.addr = entry then some (1, 32 * bank, two)
      else if arr = 2 ∧ i.addr = entry ∧ tag then some (2, 32 * bank, two)
      else none

/-- A line is written at a slot: the sectors in `secs`, its sidecar, and its tag entry when it is new there. -/
def State.storeLine (s : State) (k : Nat) (c : CLine) (secs : BitVec 4) (tag : Bool) : State :=
  match s.flip k secs tag with
  | some f => (s.setSlot k (some { c with flaw := c.flaw ++ [f] })).injFire
  | none => s.setSlot k (some c)

/-! ### Flushes (R217, R599) -/

/-- The window is saved to the Selvage save area (R133). -/
def State.saveWindow (s : State) (final : Bool) : State :=
  if s.swt.st = .none ∨ s.swt.st = .carving then s
  else
    let s := { s with swt := { s.swt with save := some ⟨s.swt.dflt, s.swt.words, final⟩ } }
    s.emit (.selvageWrite (s.jnlBase + s.ringLines + 786432) 4)

/-- Unsealed stripes of the UPKEEP partitions are discarded (item 1 of Table 5-6). -/
def State.dropUpkeep (s : State) : State :=
  (List.range 8).foldl
    (fun t g => t.setGroup g { t.group g with stripes := (t.group g).stripes.filter fun x => x.sealed || x.part != .upk }) s

/-- Every open HOST and META stripe that holds a line is padded (item 4). -/
def State.padAll (s : State) : State :=
  (List.range s.popP).foldl (fun t g => (t.padPart g .host).padPart g .met) s

/-- Dirty lines, oldest write first. -/
def State.dirtyOldest (s : State) : List Nat :=
  ((s.dirtyLines.map fun c => (c.stamp, c.line)).mergeSort fun a b => decide (a.1 ≤ b.1)).map (·.2)

/-- A flush begins: marker written, its lines handed to staging; every flush but that of GPF stops the host ports and
upkeep's copies. The skeins take the flush table at the next Pick boundary (R261). -/
def State.beginFlush (s : State) (k : FlushKind) : State :=
  let lines := s.dirtyOldest
  let gpf := match k with | .gpf _ => true | _ => false
  let s := { s with wp := { s.wp with flush := some ⟨k, false, lines⟩, marker := true } }
  let s := if gpf then s else { s.dropUpkeep with pwr := { s.dropUpkeep.pwr with hostStopped := true } }
  let s := lines.foldl State.hand s
  if lines = [] then s.padAll else s

/-- A flush is requested: it begins, or waits for the one that runs. -/
def State.requestFlush (s : State) (k : FlushKind) : State :=
  match s.wp.flush with
  | none => s.beginFlush k
  | some _ => { s with wp := { s.wp with flushQ := s.wp.flushQ ++ [k] } }

/-! ### Containment halt (R384 to R387) -/

/-- Requests not yet answered whose line and domain satisfy `sel` end as `ans` says; writes that go around the cache complete and
are discarded. -/
def State.endWhere (s : State) (ans : State → Req → State) (sel : Nat → Nat → Bool) : State :=
  let p (r : Req) : Bool := sel r.line r.dom
  let reqs := s.fch.mshr.flatMap (fun e => (e.reqs ++ e.again).filter p) ++ s.fch.missWait.filter p ++
    s.fch.dirtyWait.filter p ++ s.fch.evictWait.filter p ++ s.epo.epochWait.filter p
  let acks := (s.wp.handed.filter fun x => !x.cached && sel x.line x.dom).filterMap fun x => x.ack
  let s := { s with
    fch := { s.fch with
      mshr := s.fch.mshr.map fun e => { e with reqs := e.reqs.filter fun r => !p r, again := e.again.filter fun r => !p r }
      missWait := s.fch.missWait.filter fun r => !p r
      dirtyWait := s.fch.dirtyWait.filter fun r => !p r
      evictWait := s.fch.evictWait.filter fun r => !p r }
    epo := { s.epo with epochWait := s.epo.epochWait.filter fun r => !p r }
    wp := { s.wp with handed := s.wp.handed.filter fun x => x.cached || !sel x.line x.dom } }
  acks.foldl (fun t a => t.cmp a.1 a.2) (reqs.foldl ans s)

/-- Requests not yet answered, in scope: reads complete with poison, writes complete and are discarded. -/
def State.failScope (s : State) (dev : Bool) (d : Nat) : State := s.endWhere State.failReq fun _ k => dev || k == d

/-- A Prepare that ends without success is answered: its mailbox with Media Disabled, its doorbell with that code, 7. -/
def State.failPrepare (s : State) (e : EpoDom) : State :=
  match e.via with
  | 1 => s.answerMbox e.owner .mediaDisabled []
  | 2 => { s with epo := { s.epo with dbBusy := false, dbResult := 7 } }
  | _ => s

/-- PREPARING ends, and the writes of both phases are in the one open table (R385, Table 12-6, Table 12-7). -/
def State.endPreparing (s : State) (d : Nat) : State :=
  let e := s.epoDom d
  if e.st = .preparing then
    (s.failPrepare e).setEpoDom d { e with st := .open_, openTab := e.openTab ++ e.prepTab, prepTab := [], draining := false, via := 0 }
  else s

/-- The halt record: eight form a ring (R386). -/
def State.haltRecord (s : State) (dev : Bool) (src line d n : Nat) : State :=
  let r : HaltRec := ⟨dev, src, line, d, n, false, s.time.devtime, s.ctrVal 0, s.cry.haltSeq⟩
  let l := s.cry.halts ++ [r]
  { s with cry := { s.cry with halts := l.drop (l.length - 8), haltSeq := s.cry.haltSeq + 1 } }

/-- A sweep that runs is paused. -/
def Dom.pauseSweep (x : Dom) : Dom := if x.sweep = SweepSt.running then { x with sweep := SweepSt.paused } else x

/-- The domain's dirty lines go to their ply engines. -/
def State.handDomain (s : State) (d : Nat) : State :=
  ((s.dirtyLines.filter fun c => c.dom == d).map fun c => c.line).foldl State.hand s

/-- The containment halt of Table 11-6, in the order of its rows. A domain already halted by a device halt stays so. -/
def State.startHalt (s : State) (dev : Bool) (src line d n : Nat) : State :=
  if s.cry.deviceHalt ∨ (!dev ∧ (s.dom d).halted) then s
  else
    let s := s.failScope dev d
    let s := s.haltRecord dev src line d n
    let s := s.bump F.cryCntHalts 1
    let info := d * 2 ^ 40 + src * 2 ^ 32 + n * 2 ^ 16
    if dev then
      let s := (List.range 256).foldl (fun t k => if (t.epoDom k).st = .preparing then t.endPreparing k else t) s
      let s := { s with cry := { s.cry with
        deviceHalt := true
        doms := Tab.mapVals (fun _ => Dom.fresh) (fun _ => Dom.pauseSweep)
          s.cry.doms } }
      (s.requestFlush .halt).raiseN Ev.cryHaltDevice info line
    else
      let x := s.dom d
      let s := (s.setDom d { x.pauseSweep with halted := true }).endPreparing d
      let s := s.handDomain d
      let s := if s.swt.st ≠ .none ∧ s.swt.dom = d then s.saveWindow false else s
      s.raiseN Ev.cryHaltDomain info line

/-! ### Errors in the arrays (R113 to R116) -/

/-- FCH_ERR_INFO of a slot and word. -/
def fchInfo (k word : Nat) : Nat := k / 16 * 2 ^ 28 + k % 16 * 2 ^ 24 + word * 2 ^ 8
def fchAddr (c : CLine) : Nat := c.dom * 2 ^ 38 + c.line

/-- A corrected word of a bank: counted against it, and the fault manager is told when the threshold of one second is passed
(R113, R350). -/
def State.correctedBank (s : State) (bank : Res) (info addr : Nat) : State :=
  let t := ((s.fchCorrected info addr).countErr .sram).countThresh bank 1
  if t.fch.eccDone && !s.fch.eccDone then t.queueTest bank 0 3 else t

/-- Tag banks of a bank group (Table 3-3). -/
def tagBanks : Nat := 25

/-- A tag parity error names no bank: every tag bank of the group is tested (R350). -/
def State.reportTagBanks (s : State) (grp : Nat) : State :=
  (List.range tagBanks).foldl (fun (t : State) b => t.queueTest (resBank 2 grp b) 0 3) (s.countErr .sram)

/-- One flaw of a line comes to light as the line is accessed in sector `sec`. -/
def State.meetFlaw (s : State) (k : Nat) (c : CLine) (sec : Nat) (f : Nat × Nat × Bool) : State :=
  let word := f.2.1 % 32
  let bank := resBank f.1 (k / 65536) (f.2.1 / 32)
  let clear (t : State) : State := t.updLine c.line fun x => { x with flaw := x.flaw.erase f }
  if f.1 = 0 then
    if word / 8 ≠ sec then s
    else if !f.2.2 then (clear s).correctedBank bank (fchInfo k word) (fchAddr c)
    else
      let s := s.report bank .sram 0
      if c.sd.getLsbD sec then
        let s := clear (s.updLine c.line fun x => { x with sp := x.sp ||| (1#4 <<< sec) })
        ((s.poisonSector c.line sec .internal).bump F.fchEccCfgUncorrDirty 1).raiseN Ev.fchUncorrDirty (fchInfo k word)
          (fchAddr c)
      else ((s.dropLine c.line).bump F.fchEccCntUncorrClean 1).raiseN Ev.fchUncorrClean (fchInfo k word) (fchAddr c)
  else if f.1 = 2 then
    let s := if c.sd = 0#4 then s.dropLine c.line else clear s
    ((s.bump F.fchEccCntTagParity 1).raiseN Ev.fchTagParity (fchInfo k 0) (fchAddr c)).reportTagBanks (k / 65536)
  else if !f.2.2 then (clear s).correctedBank bank (fchInfo k 0) (fchAddr c)
  else
    let s := s.report bank .sram 0
    if c.flaw.any fun x => x.1 == 2 then
      ((s.dropLine c.line).bump F.fchEccCfgEchoUncorr 1).startHalt true 5 (2 ^ 38 - 1) c.dom 0
    else
      let s := clear (s.updLine c.line fun x => { x with sv := 0xF#4, sd := 0xF#4, sp := 0xF#4 })
      let s := (s.poisonMask c.line 0xF#4 .internal).bump F.fchEccCfgEchoUncorr 1
      (s.raiseN Ev.fchEchoUncorr (fchInfo k 0) (fchAddr c)).hand c.line

/-- The flaws of the line's slot that an access to sector `sec` meets: the sidecar's first. -/
def State.probe (s : State) (line sec : Nat) : State :=
  match s.findWay line with
  | none => s
  | some (k, c) =>
    let order := (c.flaw.filter fun f => f.1 == 1) ++ (c.flaw.filter fun f => f.1 == 2) ++ (c.flaw.filter fun f => f.1 == 0)
    order.foldl (fun t f => if (t.findWay line).isSome then t.meetFlaw k c sec f else t) s

/-! ### Stream trackers and map-line prefetch (R101 to R103, R170) -/

/-- A prefetch of map line `m` is queued when the line is absent and its directory line present (R170). -/
def State.queueMapPf (s : State) (m : Nat) : State :=
  if s.fld F.mapPfCfgEnable = 0 ∨ s.mpresent 0 m ∨ !s.mpresent 1 (m / 51) ∨ s.dirAt m = none ∨
      s.map.pfq.any (fun p => p.1 == m) ∨ s.map.fills.any (fun f => decide (f.kind = 0 ∧ f.idx = m)) then s
  else { s with map := { s.map with pfq := s.map.pfq ++ [(m, s.time.pick)] } }

/-- The tracker's next line follows the miss: a tracker that has seen one miss takes either direction. -/
def Tracker.matches (t : Tracker) (d line : Nat) : Bool :=
  t.dom == d && (t.next == line || (t.hits == 0 && decide (line + 2 = t.next)))

/-- The tracker after a matching miss. -/
def State.trackHit (s : State) (t : Tracker) (line : Nat) : Tracker :=
  let up := t.next == line && (t.up || t.hits == 0)
  let n := if up then line + 1 else line - 1
  let hits := t.hits + 1
  let need := if t.warmed then s.fld F.fchPfCtlTrain else s.fld F.fchPfCtlWarmup
  let act := t.active || decide (need ≤ hits)
  { t with next := n, up := up, hits := hits, active := act, warmed := t.warmed || act, last := s.fch.stamp,
           issue := if t.active then t.issue else n }

/-- Window of an active tracker that reaches the neighbouring map line queues its prefetch (R170). -/
def State.trackMap (s : State) (t : Tracker) : State :=
  let depth := s.fld F.fchPfCtlDepth
  if !t.active then s
  else if t.up then
    if t.next / 32 < (t.next + depth - 1) / 32 then s.queueMapPf (t.next / 32 + 1) else s
  else if 32 ≤ t.next ∧ (t.next + 1 - depth) / 32 < t.next / 32 then s.queueMapPf (t.next / 32 - 1) else s

/-- A demand miss, or a demand read that meets the stream in the side buffer, goes past the trackers. -/
def State.track (s : State) (d line : Nat) (miss : Bool) : State :=
  if s.fld F.fchPfCtlEnable = 0 ∨ s.fch.mode ≠ .on then s
  else
    let s := { s with fch := { s.fch with stamp := s.fch.stamp + 1 } }
    match s.fch.trackers.findIdx? fun t => t.matches d line with
    | some i =>
      let u := s.trackHit (s.fch.trackers.getD i ⟨d, line, true, 0, false, false, 0, 0⟩) line
      ({ s with fch := { s.fch with trackers := s.fch.trackers.set i u } } : State).trackMap u
    | none =>
      if !miss then s
      else
        let fresh (w : Bool) : Tracker := ⟨d, line + 1, true, 0, false, w, s.fch.stamp, line + 1⟩
        if s.fch.trackers.length < 64 then
          { s with fch := { s.fch with trackers := s.fch.trackers ++ [fresh false] } }
        else
          let old := s.fch.trackers.foldl (fun m t => min m t.last) s.fch.stamp
          let i := (s.fch.trackers.findIdx? fun t => t.last == old).getD 0
          let w := match s.fch.trackers[i]? with | some t => t.warmed | none => false
          { s with fch := { s.fch with trackers := s.fch.trackers.set i (fresh w) } }

end Sys2Proof.Machine
end

