-- ==== Sys2Proof/Machine/Serve.lean ====
section
/-!
DEFINITION. Serving host requests from the front cache: hits, fills, misses and the map lookup, media reads and their
answers, writes in each state of the front cache, maintenance of one line (R94 to R105, R107 to R112, R120 to R126, R172,
R192, R224 to R229, R234, R240, R412, R425).
-/
namespace Sys2Proof.Machine

/-! ### Small tools -/

/-- Bit 0 of the phase count for an epoch-enabled domain, else 0 (R412). -/
def State.epTag (s : State) (d : Nat) : Bool := (s.dom d).epochEn && (s.epoDom d).phase % 2 == 1

def CLine.blank (line d : Nat) : CLine :=
  { line := line, dom := d, sv := 0#4, sd := 0#4, sp := 0#4, fold := false, d := Quad.all 0#512, ep := false, stamp := 0,
    handed := false, flaw := [] }

def bit4 (k : Nat) : BitVec 4 := 1#4 <<< k

/-- The write covers the whole sector. -/
def Req.full (r : Req) : Bool := decide (r.be = BitVec.allOnes 64)

/-- The cleaner starts at CLEAN_PCT of the limit and stops 10 points below it (R109). -/
def State.checkCleaner (s : State) : State :=
  let n := s.dirtyCount * 100
  let pct := s.fld F.fchDirtyCfgCleanPct
  if pct * s.dirtyLimit ≤ n then { s with fch := { s.fch with cleaning := true } }
  else if n < (pct - 10) * s.dirtyLimit then { s with fch := { s.fch with cleaning := false } }
  else s

/-- The miss-status entry of a line. -/
def State.mshrOf (s : State) (line : Nat) : Option Mshr := s.fch.mshr.find? fun e => e.line == line

def State.updMshr (s : State) (line : Nat) (f : Mshr → Mshr) : State :=
  { s with fch := { s.fch with mshr := s.fch.mshr.map fun e => if e.line = line then f e else e } }

def State.dropMshr (s : State) (line : Nat) : State :=
  { s with fch := { s.fch with mshr := s.fch.mshr.filter fun e => e.line != line } }

/-- A request waits for a fill of the line; one that follows newer data out of the cache looks the line up again. -/
def State.attach (s : State) (e : Mshr) (r : Req) : State :=
  s.updMshr e.line fun m => if e.drop && !e.pf then { m with again := m.again ++ [r] } else { m with reqs := m.reqs ++ [r] }

/-! ### Reads of lines that are there (R94, R100, R104) -/

/-- A read is answered with a sector; a poisoned one posts its record (Table 6-6). -/
def State.answer (s : State) (r : Req) (d : Sector) (poison : Bool) : State :=
  if poison then (s.gme 2 r.line r.sec 2 false 1).memData r.h r.tag 0#512 true else s.memData r.h r.tag d false

/-- A victim line moves back into the main array under a mask; where it cannot, it stays (R100). -/
def State.unvictim (s : State) (line : Nat) (mask : BitVec 16) : State :=
  match s.findVictim line with
  | none => s
  | some c =>
    let t := { s with fch := { s.fch with victim := s.fch.victim.filter fun x => x.line != line } }
    match t.allocWay line mask with
    | some (u, k) => (u.storeLine k { c with fold := u.isFold line } 0xF#4 true).ftouch k
    | none => s

/-- A side-buffer line is promoted under a mask; an empty mask leaves it where it is (R97, R104). -/
def State.promote (s : State) (line : Nat) (mask : BitVec 16) : State :=
  match s.findSide line with
  | none => s
  | some c =>
    match s.allocFill line mask with
    | some (t, k) => ((t.dropSide line).storeLine k { c with fold := t.isFold line } 0xF#4 true).ftouch k
    | none => if mask = 0#16 then s else s.dropSide line

/-- A read fill is installed clean: only the sectors not already valid (R94, R229). -/
def State.install (s : State) (line d : Nat) (data : Quad Sector) (sp : BitVec 4) (mask : BitVec 16) : State :=
  let full (c : CLine) : CLine :=
    let sec (k : Nat) : Sector := if c.sv.getLsbD k then c.d.at k else data.at k
    { c with sv := 0xF#4, d := ⟨sec 0, sec 1, sec 2, sec 3⟩, sp := (c.sp &&& c.sv) ||| (sp &&& ~~~c.sv) }
  if (s.lineOf line).isSome then s.updLine line full
  else
    match s.allocFill line mask with
    | some (t, k) => (t.storeLine k { full (CLine.blank line d) with fold := t.isFold line } 0xF#4 true).ftouch k
    | none => s

/-! ### Writes into a line that is there (R55, R59, R111, R112, R114) -/

/-- The line after the write: its sector, its bits, its epoch tag. -/
def CLine.write (c : CLine) (r : Req) (base : Sector × Bool) (tag : Bool) (stamp : Nat) : CLine :=
  let have_ := c.sv.getLsbD r.sec
  let old := if have_ then c.d.at r.sec else base.1
  let oldP := if have_ then c.sp.getLsbD r.sec else base.2
  let new := if r.full then r.data else mergeBytes old r.data r.be
  let p := r.poison || (!r.full && oldP)
  { c with d := c.d.put r.sec new, sv := c.sv ||| bit4 r.sec, sd := c.sd ||| bit4 r.sec
           sp := (c.sp &&& ~~~(bit4 r.sec)) ||| (if p then bit4 r.sec else 0#4)
           ep := if c.sd = 0#4 then tag else c.ep, stamp := stamp
           flaw := c.flaw.filter fun f => !(f.1 == 0 && f.2.1 % 32 / 8 == r.sec) }

/-- What a write does to the poison list and the head's counters: its poison bit (R59), a full write without poison, a
partial write into a sector whose fill was poisoned (R112). -/
def State.writePoison (s : State) (r : Req) (oldP : Bool) : State :=
  if r.poison ∧ r.intern then s.poisonSector r.line r.sec .internal
  else if r.poison then
    ((s.poisonSector r.line r.sec .external).bump (F.hstExterrCntPoisonRx r.h) 1).raiseN (Ev.hstPoisonReceived r.h) 0
      ((s.dpaOf r.line r.sec).getD 0)
  else if r.full then s.unpoisonSector r.line r.sec
  else if oldP then s.poisonSector r.line r.sec .internal
  else s

/-- A write goes into slot `k`, and is acknowledged. -/
def State.writeSlot (s : State) (k : Nat) (c : CLine) (r : Req) (base : Sector × Bool) (tag : Bool) : State :=
  let s := { s with fch := { s.fch with stamp := s.fch.stamp + 1 } }
  let c2 := c.write r base (s.epTag r.dom) s.fch.stamp
  let s := (s.storeLine k c2 (bit4 r.sec) tag).ftouch k
  let s := s.writePoison r (c2.sp.getLsbD r.sec)
  let s := if r.full then s else s.count 0x207 0 1
  (s.cmp r.h r.tag).checkCleaner

/-- The line takes the write in the main array: where it is, out of the victim cache or the side buffer, or in a way newly
allocated under the WR mask; with no way to be had the write waits (R96, R99, R100, R104). -/
def State.writeIn (s : State) (r : Req) (base : Sector × Bool) : State :=
  let s := s.updMshr r.line fun m => if m.pf then { m with drop := true } else m
  let s := (s.unvictim r.line s.wrMask).promote r.line s.wrMask
  match s.findWay r.line with
  | some (k, c) => s.writeSlot k c r base false
  | none =>
    match s.findVictim r.line with
    | some _ => { s with fch := { s.fch with evictWait := s.fch.evictWait ++ [r] } }
    | none =>
      match s.allocWay r.line s.wrMask with
      | some (t, k) =>
        (t.count 0x205 0 1).writeSlot k { CLine.blank r.line r.dom with fold := t.isFold r.line } r base true
      | none => { s with fch := { s.fch with evictWait := s.fch.evictWait ++ [r] } }

/-- A write goes around the cache to stripe staging, and is acknowledged there (R126, R216). -/
def State.around (s : State) (r : Req) : State :=
  let s := (s.updMshr r.line fun m => { m with drop := true }).dropSide r.line
  let have_ := if r.full then bit4 r.sec else 0#4
  let be := if r.full then Quad.all 0#64 else (Quad.all 0#64).put r.sec r.be
  let sp := if r.poison then bit4 r.sec else 0#4
  let e : Handed :=
    { line := r.line, dom := r.dom, g := (s.chooseGroup r.line).getD 8, d := (Quad.all 0#512).put r.sec r.data, have_ := have_
      be := be, sp := sp, ep := s.epTag r.dom, cached := false, ack := some (r.h, r.tag) }
  (({ s with wp := { s.wp with handed := s.wp.handed ++ [e] } } : State).writePoison r false)

/-! ### Maintenance of one line (R120, R122) -/

/-- Operation `op` acts on a line that has no fill outstanding. -/
def State.maintLine (s : State) (op line : Nat) : State :=
  match s.lineOf line with
  | none => if op = 2 ∨ op = 3 then s.dropSide line else s
  | some c =>
    if c.sd = 0#4 then (if op = 2 ∨ op = 3 then (s.dropLine line).dropSide line else s)
    else
      let s := s.hand line
      { s with fch := { s.fch with maint := s.fch.maint.map fun m => { m with waiting := m.waiting ++ [line] } } }

/-! ### Answers of a fill (R95, R112, R229, R240, R241) -/

/-- The sectors of the staged copy over those of an older source: a read that follows the copy sees it (R56, R192). -/
def State.overlay (s : State) (line : Nat) (d : Quad Sector) (sp : BitVec 4) : Quad Sector × BitVec 4 :=
  match s.stagedCopy line with
  | none => (d, sp)
  | some y =>
    let sec (k : Nat) : Sector := if y.missing.getLsbD k then mergeBytes (d.at k) (y.d.at k) (y.be.at k) else y.d.at k
    (⟨sec 0, sec 1, sec 2, sec 3⟩, (sp &&& y.missing) ||| y.sp)

/-- The requests of a fill are answered in order; `merged` are the sectors that a write among them has changed. -/
def State.answerAll (s : State) (d : Quad Sector) (sp : BitVec 4) : BitVec 4 → List Req → State
  | _, [] => s
  | merged, r :: rs =>
    if r.wr then
      let t := if s.fch.mode = .on then s.writeIn r (d.at r.sec, sp.getLsbD r.sec) else s.around r
      t.answerAll d sp (merged ||| bit4 r.sec) rs
    else
      let t := match s.lineOf r.line with
        | some c => if merged.getLsbD r.sec && c.sv.getLsbD r.sec then s.answer r (c.d.at r.sec) (c.sp.getLsbD r.sec)
                    else s.answer r (d.at r.sec) (sp.getLsbD r.sec)
        | none => s.answer r (d.at r.sec) (sp.getLsbD r.sec)
      t.answerAll d sp merged rs

/-- Requests that complete with poison: reads with MemData, partial writes store their bytes poisoned (R112). -/
def State.poisonAll (s : State) : List Req → State
  | [] => s
  | r :: rs =>
    let t := if r.wr then (if s.fch.mode = .on then s.writeIn r (0#512, true) else s.around { r with poison := true })
      else s.memData r.h r.tag 0#512 true
    t.poisonAll rs

/-- The miss-status entry of a line ends: requests that came too late look the line up again. -/
def State.closeMshr (s : State) (e : Mshr) : State :=
  let s := s.dropMshr e.line
  { s with fch := { s.fch with missWait := e.again ++ s.fch.missWait } }

/-- A maintenance operation that waited in the entry acts on the line (R122). -/
def State.maintFill (s : State) (line : Nat) : State :=
  match s.fch.maint with
  | some m => if m.fills.contains line then
      ({ s with fch := { s.fch with maint := some { m with fills := m.fills.filter fun x => x != line } } } : State).maintLine m.op
        line
    else s
  | none => s

/-- A fill of verified contents: a prefetch goes to the side buffer, a demand fill to the main array, and every attached
request is answered. -/
def State.fillDone (s : State) (line : Nat) (d : Quad Sector) (sp : BitVec 4) : State :=
  match s.mshrOf line with
  | none => s
  | some e =>
    let s := s.closeMshr e
    let o := s.overlay line d sp
    let s :=
      if e.pf ∧ e.reqs = [] then
        if e.drop ∨ s.fch.mode ≠ .on ∨ (s.lineOf line).isSome then s
        else
          let c : CLine := { CLine.blank line e.dom with sv := 0xF#4, d := o.1, sp := o.2 }
          let side := s.fch.side ++ [c]
          { s with fch := { s.fch with side := side.drop (side.length - 8192) } }
      else if s.fch.mode = .on ∧ !e.drop then s.install line e.dom o.1 o.2 s.rdMask
      else s
    (s.answerAll o.1 o.2 0#4 e.reqs).maintFill line

/-- A fill that ends in poison: `log`, `ty`, `unc` of its one record, or none (R241, R242). -/
def State.fillPoison (s : State) (line : Nat) (rec_ : Option (Nat × Nat × Bool)) : State :=
  match s.mshrOf line with
  | none => s
  | some e =>
    let s := s.closeMshr e
    let s := match rec_, e.reqs.head? with
      | some (log, ty, unc), some r => s.gme log line r.sec ty unc 1
      | _, _ => s
    (s.poisonAll e.reqs).maintFill line

/-! ### Media reads (R225 to R228, R230, R234) -/

def State.setReads (s : State) (l : List Rd) : State := { s with rd := { s.rd with reads := l } }

def State.updRead (s : State) (line : Nat) (p : Rd → Bool) (f : Rd → Rd) : State :=
  s.setReads (s.rd.reads.map fun r => if r.line = line ∧ p r then f r else r)

def State.dropRead (s : State) (line : Nat) (p : Rd → Bool) : State :=
  s.setReads (s.rd.reads.filter fun r => !(decide (r.line = line) && p r))

/-- The read serves the fill of a miss-status entry. -/
def Rd.forFill (r : Rd) : Bool := r.why == .demand || r.why == .prefetch

/-- The slot class of a read (Table 7-1, R196, R227). -/
def rdClass (why : ReadWhy) (line : Nat) : Nat :=
  match why with
  | .demand => if isHostLine line then clsHrd else clsMet
  | .prefetch => clsHrd
  | .merge _ => clsHwr
  | .scan => clsRns
  | .rinse => clsRns
  | .sweep => clsWrg
  | .upkeep => clsWrg

/-- The reference index of a media line: the class of its bolt on its member (R230). -/
def State.refOf (s : State) (a : Nat) : Nat :=
  s.memberClass (addrGroup a) (s.bolt (addrGroup a) (addrBlock a)) (addrSkein a % 16)

/-- First attempts on an AGE_UNKNOWN bolt are paired (R244). -/
def State.pairedRead (s : State) (a : Nat) : Bool :=
  s.rd.ageUnknown && (s.bolt (addrGroup a) (addrBlock a)).ageUnk

/-- The member that holds the media line cannot be read: its skein, die or block is retired (R234), or its trained link is
out of ACTIVE (R300). -/
def State.memberGone (s : State) (a : Nat) : Bool :=
  !s.blockUsable (addrSkein a) (addrBlock a) ||
    ((s.link1 (addrSkein a)).trained && decide ((s.link1 (addrSkein a)).st ≠ .active))

/-- A read command for a media line waits at its skein engine. -/
def State.issueRead (s : State) (cls a head : Nat) (pf : Bool) : State :=
  s.pushRd (addrSkein a) ⟨cls, a, s.refOf a, head, s.pairedRead a, false, pf⟩

/-- The other members of a line's stripe are read (R234). -/
def State.issueRecon (s : State) (cls a head : Nat) : State :=
  let g := addrGroup a
  let m := (s.bolt g (addrBlock a)).members
  let s := s.count 0x404 g 1
  (memberList m).foldl
    (fun t i => if 16 * g + i = addrSkein a then t
                else t.issueRead cls (mkAddr (16 * g + i) (addrBlock a) (addrOff a)) head false) s

/-- A media read of a mapped line starts: a read command, or reconstruction at once when its member is retired; its tag
line is wanted (R225, R226, R234). -/
def State.startMedia (s : State) (r : Rd) (e : Entry) (head : Nat) : State :=
  let gone := s.memberGone e.addr
  let r := { r with addr := e.addr, seq10 := e.seq10, st := if gone then .recon else .needData, retired := gone
                    armed := if gone then some s.time.upNs else r.armed, code := none }
  let s := s.setReads ((s.rd.reads.filter fun x => !(decide (x.line = r.line ∧ x.why = r.why))) ++ [r])
  let s := if isHostLine r.line ∧ (s.dom r.dom).integ then s.wantTag (r.line / 32) else s
  let cls := rdClass r.why r.line
  if gone then s.issueRecon cls e.addr head else s.issueRead cls e.addr head (r.why == .prefetch)

def Rd.fresh (line d : Nat) (why : ReadWhy) : Rd :=
  { line := line, dom := d, why := why, st := .needMap, addr := 0, seq10 := 0, lookups := 1, armed := none,
    timedOut := false, code := none, rewrite := false, retired := false }

/-- The head that a read of a line belongs to (R270). -/
def State.headOfRead (s : State) (line : Nat) : Nat :=
  match s.mshrOf line with
  | some e => match e.reqs.head? with | some r => r.h | none => 0
  | none => 0

/-- The map line of a fill's read is present: the entry decides (R172, R224, R241). -/
def State.resolveFill (s : State) (line : Nat) : State :=
  match s.mshrOf line with
  | none => s.dropRead line Rd.forFill
  | some m =>
    let e := s.entry line
    if e.st = 0 then (s.dropRead line Rd.forFill).count 0x307 0 1 |>.fillDone line (Quad.all 0#512) 0#4
    else if e.st = 2 then (s.dropRead line Rd.forFill).fillPoison line (some (2, 0, false))
    else if (s.dom m.dom).st = .failed then (s.dropRead line Rd.forFill).fillPoison line none
    else
      let bad (r : Req) : Bool := !r.wr && e.sp.getLsbD r.sec
      let s := (m.reqs.filter bad).foldl (fun t r => t.answer r 0#512 true) s
      let left := m.reqs.filter fun r => !bad r
      if left = [] ∧ m.reqs ≠ [] ∧ m.again = [] ∧ !m.maint then (s.dropRead line Rd.forFill).dropMshr line
      else
        let s := s.updMshr line fun x => { x with reqs := left }
        let why : ReadWhy := if m.pf ∧ left = [] then .prefetch else .demand
        let r := match s.rd.reads.find? fun x => x.line == line && x.forFill with
          | some x => { x with why := why }
          | none => Rd.fresh line m.dom why
        (s.dropRead line Rd.forFill).startMedia r e ((left.head?.map Req.h).getD 0)

/-- A new miss-status entry looks its line up: at once when the map line is present, else once its fill is there. -/
def State.lookup (s : State) (line d : Nat) (why : ReadWhy) : State :=
  let m := line / 32
  if s.mpresent 0 m then (s.count 0x300 0 1).resolveFill line
  else
    let s := s.count 0x301 0 1
    let s := if s.mpresent 1 (m / 51) then s else s.count 0x302 0 1
    let s := s.wantMap m
    if s.mpresent 0 m then s.resolveFill line
    else
      let s := s.setReads (s.rd.reads ++ [Rd.fresh line d why])
      let s := if (s.dom d).integ then s.wantTag m else s
      if why = .demand then s.queueMapPf (m + 1) else s

/-- A miss: it attaches to the line's entry, waits for a free one, or starts a fetch (R95, R225). -/
def State.miss (s : State) (r : Req) : State :=
  match s.mshrOf r.line with
  | some e => s.attach e r
  | none =>
    if 4096 ≤ s.fch.mshr.length then { s with fch := { s.fch with missWait := s.fch.missWait ++ [r] } }
    else
      let e : Mshr := { line := r.line, dom := r.dom, reqs := [r], again := [], pf := false, drop := false, maint := false }
      ({ s with fch := { s.fch with mshr := s.fch.mshr ++ [e] } } : State).lookup r.line r.dom .demand

/-! ### A host read (R54, R94, R192, R224) -/

/-- The read of a sector, past every check of the host side: the first place of Table 6-1 that holds it. -/
def State.read (s : State) (r : Req) : State :=
  let looks := decide (s.fch.mode = .on ∨ s.fch.mode = .draining)
  let s := if looks then s.probe r.line r.sec else s
  let hit := match s.lineOf r.line with | some c => c.sv.getLsbD r.sec | none => false
  if looks && hit then
    let s := (if s.fch.mode = .on then s.unvictim r.line s.rdMask else s).count 0x200 0 1
    match s.findWay r.line with
    | some (k, c) => (s.ftouch k).answer r (c.d.at r.sec) (c.sp.getLsbD r.sec)
    | none =>
      match s.findVictim r.line with
      | some c => s.answer r (c.d.at r.sec) (c.sp.getLsbD r.sec)
      | none => s
  else
    match if looks then s.findSide r.line else none with
    | some c =>
      let s := (s.promote r.line s.pfMask).count 0x201 0 1
      (s.answer r (c.d.at r.sec) (c.sp.getLsbD r.sec)).track r.dom r.line false
    | none =>
      let staged := match s.stagedCopy r.line with
        | some y => if y.missing.getLsbD r.sec then none else some (y.d.at r.sec, y.sp.getLsbD r.sec)
        | none => none
      match staged with
      | some (d, p) => (s.count 0x202 0 1).answer r d p
      | none => ((s.count 0x204 0 1).track r.dom r.line true).miss r

/-! ### A host write (R55 to R57, R108, R111, R112, R124, R393, R425) -/

/-- A partial write of the same sector waits for its fill: the sector is locked (R111). -/
def State.locked (s : State) (r : Req) : Bool :=
  match s.mshrOf r.line with
  | some e => e.reqs.any fun x => x.wr && x.sec == r.sec
  | none => false

/-- The write would make a clean or absent line dirty while its domain's second switch is due and a quarter of the limit is
taken (R393). -/
def State.dueFull (s : State) (r : Req) : Bool :=
  (s.dom r.dom).due && decide (s.dirtyLimit ≤ 4 * (s.dirtyLines.filter fun c => c.dom == r.dom).length)

def State.isDirty (s : State) (line : Nat) : Bool :=
  match s.lineOf line with | some c => decide (c.sd ≠ 0#4) | none => false

/-- A write in state ON, admitted past the dirty limit. -/
def State.writeOn (s : State) (r : Req) : State :=
  let s := s.probe r.line r.sec
  let valid : Bool := match s.lineOf r.line with
    | some c => c.sv.getLsbD r.sec
    | none => match s.findSide r.line with | some c => c.sv.getLsbD r.sec | none => false
  if r.full || valid then s.writeIn r (0#512, false)
  else
    match s.stagedCopy r.line with
    | some y => if y.missing.getLsbD r.sec then s.miss r else s.writeIn r (y.d.at r.sec, y.sp.getLsbD r.sec)
    | none => s.miss r

/-- A write in state DRAINING (Table 3-6). -/
def State.writeDrain (s : State) (r : Req) : State :=
  let s := s.probe r.line r.sec
  match s.lineOf r.line with
  | none => s.around r
  | some c =>
    if c.sd = 0#4 then (s.dropLine r.line).around r
    else if !r.full && !c.sv.getLsbD r.sec then s.around r
    else
      let s := { s with fch := { s.fch with stamp := s.fch.stamp + 1 } }
      let c2 := c.write r (0#512, false) (s.epTag r.dom) s.fch.stamp
      let s := (s.updLine r.line fun _ => c2).writePoison r (c2.sp.getLsbD r.sec)
      (s.hand r.line).cmp r.h r.tag

/-- A write past every check of the host side; `admitted` when it has waited at the dirty limit and may go. -/
def State.write (s : State) (r : Req) (admitted : Bool) : State :=
  if (s.epoDom r.dom).draining then { s with epo := { s.epo with epochWait := s.epo.epochWait ++ [r] } }
  else if s.fch.mode = .off ∨ s.fch.mode = .enabling then s.around r
  else if s.locked r then
    match s.mshrOf r.line with
    | some e => s.attach e r
    | none => s
  else if s.fch.mode = .draining then s.writeDrain r
  else if s.isDirty r.line then s.writeOn r
  else if s.dueFull r then { s with fch := { s.fch with dirtyWait := s.fch.dirtyWait ++ [r] } }
  else if !admitted ∧ s.dirtyLimit ≤ s.dirtyCount then
    let s := { s with fch := { s.fch with dirtyWait := s.fch.dirtyWait ++ [r] } }
    let s := s.setHead r.h { s.head r.h with waited := true }
    (s.count 0x106 r.h 1).raiseN Ev.fchDirtyWait 0 (r.dom * 2 ^ 38 + r.line)
  else s.writeOn r

end Sys2Proof.Machine
end

