-- ==== Sys2Proof/Machine/Links.lean ====
section
/-!
DEFINITION. Priow links and packages: training, versions, the parameter page, the sideband and its temperature polls,
media resets (R300 to R310, R460, R462, R476).
-/
namespace Sys2Proof.Machine

/-! ### Reads of a skein that left ACTIVE (R234, R300) -/

/-- Media reads whose member can no longer be read go to reconstruction. -/
def State.reroute (s : State) : State :=
  s.rd.reads.foldl
    (fun t r =>
      if (r.st = .needData ∨ r.st = .reread) ∧ t.memberGone r.addr then
        (t.updRead r.line (fun x => x.why == r.why)
          fun x => { x with st := .recon, retired := true, armed := some (x.armed.getD t.time.upNs) }).issueRecon
          (rdClass r.why r.line) r.addr (t.headOfRead r.line)
      else t) s

/-! ### Sideband (R306) -/

/-- A sideband transaction starts. -/
def State.startSb (s : State) (n cmd : Nat) : State :=
  (s.setLink1 n { s.link1 n with sb := some ⟨cmd, 0⟩ }).emit (.sideband n cmd)

/-- A temperature poll: at once, or when the transaction in progress ends (R306, R307). -/
def State.startPoll (s : State) (n : Nat) : State :=
  if (s.link1 n).sb.isNone then s.startSb n 3 else s.setLink1 n { s.link1 n with pollDue := true }

/-- The transaction has ended; a poll that fell due starts. -/
def State.endSb (s : State) (n : Nat) : State :=
  let x := s.link1 n
  let s := s.setLink1 n { x with sb := none, pollDue := false }
  if x.pollDue then s.startSb n 3 else s

/-- f_media in 1/128 for a temperature in 1/16 °C (R476, R477). -/
def mediaFactor (p : PkgPage) (t : Int) : Nat :=
  let span : Int := ((p.tLimit : Int) - p.tThrottle) * 16
  if span ≤ 0 then (if (p.tLimit : Int) * 16 ≤ t then 16 else 128)
  else (max 16 (min 128 (((p.tLimit : Int) * 16 - t) * 128 / span))).toNat

/-- Tiles excluded. -/
def State.exclCount (s : State) : Nat := (List.range 64).foldl (fun k t => k + ofBool (s.thm.excl.getLsbD t)) 0

/-- GRID_DEGRADED is in force: three discarded rounds in a row, or 8 or more tiles excluded (R469, R474). -/
def State.gridDegraded (s : State) : Bool :=
  s.thm.gridRef || decide (8 ≤ s.exclCount)

/-- A reason for THERM_N holds (R483). -/
def State.thermCause (s : State) : Bool :=
  s.thm.f.any (fun p => decide (p.2 < 128)) ||
    (List.range (16 * s.popP)).any (fun n => s.live n && decide ((s.link1 n).fmedia < 128)) ||
    s.gridDegraded || s.thm.trip.isSome

/-- THERM_N asserts while any f_tile or f_media is below 1, the grid is degraded, or the trip latch is set (R483). -/
def State.checkTherm (s : State) : State :=
  if s.thermCause then { s with thm := { s.thm with thermLow := true, coolFrom := false } } else s

/-- What a fall of f_media below 1 brings: THROTTLE_MEDIA, THERM_N (Table 14-5, R483). -/
def State.mediaFell (s : State) (n was : Nat) : State :=
  let x := s.link1 n
  let s := if was = 128 ∧ x.fmedia < 128 then
      s.raiseN Ev.thmThrottleMedia 0 (n * 2 ^ 16 + (if x.tempValid then x.temp.toNat else x.page.tLimit * 16 % 65536)) else s
  s.checkTherm

/-- A poll that failed (R307). -/
def State.pollFailed (s : State) (n : Nat) : State :=
  let x := s.link1 n
  let k := x.tempFails + 1
  let lost := decide (3 ≤ k) && x.tempValid
  let v := x.tempValid && !lost
  let s := s.setLink1 n { x with tempFails := min 255 k, tempValid := v, fmedia := if v then x.fmedia else 16 }
  let s := if lost then s.raise (Ev.sknTempInvalid n) else s
  s.mediaFell n x.fmedia

/-- A poll that succeeded: READ_TEMP's four bytes (R307, R476, R478). -/
def State.pollOk (s : State) (n data : Nat) : State :=
  let x := s.link1 n
  let temp := BitVec.ofNat 16 (data % 65536)
  let alert := data / 65536 % 4
  let rose (k : Nat) : Bool := bitAt alert k && !(x.tempValid && bitAt x.alert k)
  let s := s.setLink1 n { x with tempValid := true, temp := temp, alert := alert
                                 hotDie := data / 2 ^ 24 % 16, tempFails := 0
                                 fmedia := if bitAt alert 1 then 16 else mediaFactor x.page (signed16 temp) }
  let s := s.mediaFell n x.fmedia
  let s := if rose 0 then s.raise (Ev.sknTempThrottle n) else s
  if rose 1 then (s.raise (Ev.sknTempLimit n)).raiseN Ev.thmMediaLimit 0 (n * 2 ^ 16 + data % 65536) else s

/-! ### Entering and leaving ACTIVE (R302) -/

/-- The link enters ACTIVE and its first temperature poll is sent (R302, R307). -/
def State.linkUp (s : State) (n : Nat) : State :=
  let x := s.link1 n
  let s := s.setLink1 n { x with st := .active, trained := true, outLong := false, fails := 0, retrainFails := 0, row := 0
                                 fmedia := if x.tempValid then x.fmedia else 16 }
  (s.checkTherm.raise (Ev.sknLinkUp n)).startPoll n

/-- The link leaves ACTIVE: its members' reads go to reconstruction (R300). -/
def State.leaveActive (s : State) (n : Nat) (next : LinkPhase) : State :=
  let was := (s.link1 n).st
  let s := s.setLink1 n { s.link1 n with st := next }
  if was = .active then (s.raise (Ev.sknLinkDown n)).reroute else s

/-- The link enters FAILED, and the fault manager retires it (R302, Table 10-2). -/
def State.linkFailed (s : State) (n : Nat) : State :=
  let s := (s.leaveActive n .failed).raise (Ev.sknLinkFailed n)
  ((s.countErr .link).retire (resSkein n) 3 false).reroute

/-- The link enters RETRAIN (R299, R302). -/
def State.enterRetrain (s : State) (n : Nat) : State :=
  let s := (s.leaveActive n .retrain).bump (F.sknLinkCntRetrains n) 1
  (s.setLink1 n { s.link1 n with retrainFails := 0, row := 0 }).raise (Ev.sknRetrain n)

/-- The link goes back to EQUALISE. -/
def State.enterEqualise (s : State) (n : Nat) : State :=
  let s := (s.leaveActive n .equalise).bump (F.sknLinkCntFullRetrains n) 1
  s.setLink1 n { s.link1 n with fails := 0, retrainFails := 0 }

/-- The skein enters DISCOVER, unless it is retired. -/
def State.enterDiscover (s : State) (n : Nat) : State :=
  if s.retiredRes (resSkein n) then s
  else
    let s := s.leaveActive n .discover
    s.setLink1 n { s.link1 n with pkg := .discovering, pageRead := false, version := 0, sbMhz := 1, fails := 0,
                                  retrainFails := 0 }

/-- The media reset of a ply group asserts: its skeins are in RESET (R302, R447, R460). -/
def State.assertMrst (s : State) (g : Nat) : State :=
  let s := { s with pwr := { s.pwr with mrst := s.pwr.mrst ||| (1#8 <<< g), pulse := s.pwr.pulse &&& ~~~(1#8 <<< g) } }
  (List.range 16).foldl
    (fun t i =>
      let n := 16 * g + i
      if t.populated n && !t.retiredRes (resSkein n) then
        let t := t.leaveActive n .reset
        t.setLink1 n { t.link1 n with pkg := .absent, version := 0, sbMhz := 1, sb := none, pollDue := false }
      else t) s

/-! ### The parameter page (R305, R308, R309) -/

/-- Nobola values of the parameters in the order of `TrainInfo.discover`. -/
def nobolaParams : List Nat :=
  [2, 1, 3, 8, 32, 8192, 16384, 288, 96, 150, 90, 40, 25, 1600, 400, 2000, 80, 16, 64, 192, 16384, 800, 3000000, 100000000,
    90, 40, 80, 85, 1] ++ PkgPage.nobola.classAge ++ PkgPage.nobola.tfactor.flatMap fun p => [p.1, p.2]

/-- Parameter `i` of a page. -/
def param (l : List Nat) (i : Nat) : Nat := l.getD i (nobolaParams.getD i 0)

/-- The page as the controller keeps it. -/
def pageOf (l : List Nat) : PkgPage :=
  { ver := param l 0, vendor := param l 1, features := param l 2, sbMax := param l 3, tWake := param l 16
    eRead := param l 17, eProgS := param l 18, eProgD := param l 19, eReset := param l 20, pIdle := param l 21
    endurD := param l 22, tThrottle := param l 26, tLimit := param l 27
    classAge := (List.range 16).map fun i => param l (29 + i)
    tfactor := (List.range 8).map fun i => (param l (45 + 2 * i), param l (46 + 2 * i)) }

/-- The list rises strictly. -/
def rising : List Nat → Bool
  | [] => true
  | [_] => true
  | a :: b :: r => decide (a < b) && rising (b :: r)

/-- VERSION_MAX as it acts: 0 and 3 act as 2 (Table 8-14). -/
def State.versionMax (s : State) (n : Nat) : Nat :=
  if s.fld (F.sknCtlVersionMax n) = 1 then 1 else 2

/-- The highest protocol version in the package's bitmap and at or below VERSION_MAX; 0 for none (R305). -/
def State.pickVersion (s : State) (n protos : Nat) : Nat :=
  if bitAt protos 1 && decide (2 ≤ s.versionMax n) then 2 else if bitAt protos 0 then 1 else 0

/-- The rows of Table 8-13 that match, each with the page offset of its first failing field. -/
def shortRows (dies version : Nat) (l : List Nat) : List (Nat × Nat) :=
  let p := param l
  let pg := pageOf l
  let first (row : Nat) (cs : List (Bool × Nat)) : List (Nat × Nat) :=
    match cs.find? fun c => c.1 with
    | some c => [(row, c.2)]
    | none => []
  first 0 [(decide (p 0 ≠ 1 ∧ p 0 ≠ 2), 4)] ++
  first 1 [(decide (version = 0), 5)] ++
  first 2 [(decide (dies ≠ 4 ∧ dies ≠ 8 ∧ dies ≠ 16), 40), (decide (p 4 ≠ 32), 41), (decide (p 5 ≠ 8192), 42),
    (decide (p 6 ≠ 16384), 44), (decide (p 7 ≠ 288), 46), (decide (p 8 ≠ 96), 50)] ++
  first 3 [(!rising pg.classAge, 96), (!rising (pg.tfactor.map (·.2)), 160), (decide (p 28 = 0), 192)] ++
  first 4 [(decide (150 < p 9), 52), (decide (90 < p 10), 54), (decide (40 < p 11), 56), (decide (25 < p 12), 58)] ++
  first 5 [(decide (p 22 < 3000000), 80), (decide (p 23 < 100000000), 84), (decide (p 24 < 90), 88),
    (decide (p 25 < 40), 90)] ++
  first 6 [(decide (1600 < p 13), 60), (decide (400 < p 14), 62), (decide (2000 < p 15), 64)] ++
  first 7 [(decide (16 < p 17), 68), (decide (64 < p 18), 70), (decide (192 < p 19), 72), (decide (16384 < p 20), 74)] ++
  first 8 [(decide (80 < p 16), 66), (!bitAt (p 2) 1, 321)]

/-- The class of the first matching row (Table 8-13). -/
def classOfRows (rows : List (Nat × Nat)) : PkgState :=
  if rows.any fun r => decide (r.1 ≤ 3) then .incompatible
  else if rows.any fun r => decide (r.1 = 4 ∨ r.1 = 5) then .limited
  else .compatible

/-- Packages that report different die counts are all used at the smallest one, with a configuration event (R23). -/
def State.noteDies (s : State) (n dies : Nat) : State :=
  let others := (List.range (16 * s.popP)).filterMap fun k =>
    if k = n ∨ (s.link1 k).dies = 0 then none else some (s.link1 k).dies
  let s := if others.any (fun d => d != dies) then s.raise Ev.topConfig else s
  if s.map.fmt.isSome then s else { s with popD := others.foldl min dies }

/-- The outcome of DISCOVER (R305, R308, R309). -/
def State.discovered (s : State) (n : Nat) (pageOk : Bool) (protos dies : Nat) (l : List Nat) : State :=
  let version := s.pickVersion n protos
  let rows := if pageOk then shortRows dies version l else [(0, 508)]
  let cls := classOfRows rows
  let bits := rows.foldl (fun (m : BitVec 16) r => m ||| (1#16 <<< r.1)) 0#16
  let x := s.link1 n
  let sb := if version = 2 ∧ cls ≠ .incompatible then max 1 (min 8 (param l 3)) else 1
  let s := s.setLink1 n
    { x with pkg := cls, short := bits, page := if pageOk then pageOf l else x.page, pageRead := pageOk
             version := if cls = .incompatible then 0 else version, dies := if pageOk then dies else 0, sbMhz := sb }
  let s := rows.foldl (fun t r => t.raiseN (Ev.sknPkgShort n) (r.2 * 2 ^ 32) 0) s
  if cls = .incompatible then
    let s := (s.setLink1 n { s.link1 n with st := .failed }).raise (Ev.sknLinkFailed n)
    if s.map.fmt.isSome then
      let s := s.retireSkein n
      s.setLink1 n { s.link1 n with pkg := .incompatible }
    else s
  else
    let s := s.noteDies n dies
    let s := if version < s.versionMax n then s.raise (Ev.sknVersionLow n) else s
    s.setLink1 n { s.link1 n with st := .equalise, fails := 0 }

/-! ### Training commands (R302, R303) -/

/-- TRAINING_STEP_DONE: the step of the state the link is in; another step's outcome changes nothing. -/
def execTrainingStepDone (n : Nat) (info : TrainInfo) (s : State) : Host.Outcome State Fault Refusal :=
  done (s.when (s.pwr.coreOn && s.populated n) fun s =>
    let st := (s.link1 n).st
    match info with
    | .discover ok protos dies l => if st = .discover then s.discovered n ok protos dies l else s
    | .equalise p => if st = .equalise then s.setLink1 n { s.link1 n with st := .align, eq := p } else s
    | .align lead =>
      if st ≠ .align then s
      else if 4 ≤ lead ∧ lead ≤ 16 then
        (s.setLink1 n { s.link1 n with st := .test }).setWarp1 n { s.warp1 n with lead := lead }
      else s.linkFailed n
    | .test => if st = .test then s.linkUp n else s)

/-- TRAINING_STEP_TIMEOUT (R302): one retry from EQUALISE, then FAILED. A package that does not answer in DISCOVER is
missing (R23). -/
def execTrainingStepTimeout (n : Nat) (s : State) : Host.Outcome State Fault Refusal :=
  done (s.when (s.pwr.coreOn && s.populated n) fun s =>
    let x := s.link1 n
    match x.st with
    | .discover =>
      let s := (s.setLink1 n { x with st := .failed, pkg := .absent }).raise (Ev.sknLinkFailed n)
      if s.map.fmt.isSome then s.retireSkein n else s
    | .equalise | .align | .test =>
      if x.fails = 0 then s.setLink1 n { x with st := .equalise, fails := 1 } else s.linkFailed n
    | _ => s)

/-- RETRAIN_DONE (R302). -/
def execRetrainDone (n : Nat) (ok : Bool) (s : State) : Host.Outcome State Fault Refusal :=
  done (s.when (s.pwr.coreOn && (s.link1 n).st == .retrain) fun s =>
    let x := s.link1 n
    if ok then s.linkUp n
    else if x.retrainFails = 0 then s.setLink1 n { x with retrainFails := 1 }
    else s.enterEqualise n)

/-- SKEIN_OUT_TIMEOUT (R300): out of ACTIVE for 100 µs. -/
def execSkeinOutTimeout (n : Nat) (s : State) : Host.Outcome State Fault Refusal :=
  let x := s.link1 n
  done (s.when (s.pwr.coreOn && x.trained && x.st != .active && !x.outLong && !s.skeinRetired n) fun s =>
    let s := s.setLink1 n { x with outLong := true }
    [Part.host, .met, .upk].foldl (fun t p => t.closeEarly (n / 16) p) s)

/-- SKN_CTL.RETRAIN (R302, Table 8-14). -/
def execSknRetrain (h n : Nat) (s : State) : Host.Outcome State Fault Refusal :=
  done (s.barWrite h (F.sknCtlRetrain n).off fun s => if (s.link1 n).st = .active then s.enterRetrain n else s)

/-- SKN_CTL.FULL_RETRAIN (R302, Table 8-9). -/
def execSknFullRetrain (h n : Nat) (s : State) : Host.Outcome State Fault Refusal :=
  done (s.barWrite h (F.sknCtlFullRetrain n).off fun s =>
    if (s.link1 n).st = .active ∨ (s.link1 n).st = .retrain then s.enterEqualise n else s)

/-- SKN_CTL.PKG_RESET (R306, R307): sent over the sideband; the skein re-enters DISCOVER. -/
def execSknPkgReset (h n : Nat) (s : State) : Host.Outcome State Fault Refusal :=
  done (s.barWrite h (F.sknCtlPkgReset n).off fun s =>
    if s.populated n && (s.link1 n).st != .reset then (s.startSb n 7).enterDiscover n else s)

/-- SKN_CTL.CNT_CLR (Table 8-14). -/
def execSknCntClr (h n : Nat) (s : State) : Host.Outcome State Fault Refusal :=
  done (s.barWrite h (F.sknCtlCntClr n).off fun s => s.setReg (F.sknLinkCntUpFails n).off 0#64)

/-! ### Sideband commands (R306, R307) -/

/-- A transaction failed: up to three retries, then SB_FAIL. -/
def State.sbFailed (s : State) (n : Nat) (op : SbOp) : State :=
  if op.tries < 3 then
    (s.setLink1 n { s.link1 n with sb := some { op with tries := op.tries + 1 } }).emit (.sideband n op.cmd)
  else
    let s := s.raise (Ev.sknSbFail n)
    (if op.cmd = 3 then s.pollFailed n else s).endSb n

/-- SIDEBAND_RESPONSE. -/
def execSidebandResponse (n status data : Nat) (s : State) : Host.Outcome State Fault Refusal :=
  done (s.when s.pwr.coreOn fun s =>
    match (s.link1 n).sb with
    | none => s
    | some op =>
      if status ≠ 0 then s.sbFailed n op
      else (if op.cmd = 3 then s.pollOk n data else s).endSb n)

/-- SIDEBAND_TIMEOUT. -/
def execSidebandTimeout (n : Nat) (s : State) : Host.Outcome State Fault Refusal :=
  done (s.when s.pwr.coreOn fun s =>
    match (s.link1 n).sb with
    | none => s
    | some op => s.sbFailed n op)

/-- TEMP_POLL (R307): a READ_TEMP to each ACTIVE skein. -/
def execTempPoll (s : State) : Host.Outcome State Fault Refusal :=
  done (s.when s.pwr.coreOn fun s =>
    (List.range (16 * s.popP)).foldl (fun t n => if (t.link1 n).st = .active then t.startPoll n else t) s)

/-! ### Media resets (R460, R462) -/

/-- The media supply of a ply group has completed its step. -/
def State.mediaUp (s : State) (g : Nat) : Bool := s.pwr.settled.getLsbD (10 + g / 4)

/-- MRST_DEASSERT (R460): the stretch has ended; the group's skeins enter DISCOVER. -/
def execMrstDeassert (g : Nat) (s : State) : Host.Outcome State Fault Refusal :=
  done (s.when (s.pwr.stby && decide (g < s.popP) && s.mediaUp g && s.pwr.mrst.getLsbD g && !s.pwr.pulse.getLsbD g &&
      s.pwr.devReset != .holding) fun s =>
    let s := { s with pwr := { s.pwr with mrst := s.pwr.mrst &&& ~~~(1#8 <<< g) } }
    (List.range 16).foldl (fun t i => t.enterDiscover (16 * g + i)) s)

/-- MRST_PULSE (R462): each bit of the write is judged on its own. -/
def execMrstPulse (h : Nat) (mask : BitVec 8) (s : State) : Host.Outcome State Fault Refusal :=
  done (s.barWrite h F.pwrMrstCtlPulse.off fun s =>
    (List.range 8).foldl
      (fun t g =>
        if !mask.getLsbD g then t
        else if decide (g < t.popP) && (List.range 16).all (fun i => decide ((t.link1 (16 * g + i)).st ≠ .active)) then
          let t := t.assertMrst g
          { t with pwr := { t.pwr with pulse := t.pwr.pulse ||| (1#8 <<< g) } }
        else t.raise Ev.pwrRefused) s)

/-- MRST_PULSE_END (R462): the pulse ends after 1 ms, and the stretch begins. -/
def execMrstPulseEnd (g : Nat) (s : State) : Host.Outcome State Fault Refusal :=
  done (s.when (s.pwr.stby && s.pwr.pulse.getLsbD g) fun s =>
    { s with pwr := { s.pwr with pulse := s.pwr.pulse &&& ~~~(1#8 <<< g) } })

/-- BRD_RST_DEASSERT (R460): BRD_STRETCH_MS after ON is reached. -/
def execBrdRstDeassert (s : State) : Host.Outcome State Fault Refusal :=
  done (s.when (s.pwr.stby && s.pwr.st == .on && s.pwr.brd) fun s => { s with pwr := { s.pwr with brd := false } })

end Sys2Proof.Machine
end

