-- ==== Sys2Proof/Machine/Warp.lean ====
section
/-!
DEFINITION. Warp scheduling: templates and their checks, modes at a Pick boundary, energy tokens, the grant of a
downstream slot with its command field and return slots, aging, the stall monitor, lane sleep, DevLoad (ch. 7, R66, R67,
R477, R480, R481).
-/
namespace Sys2Proof.Machine

/-! ### Templates (R259 to R264) -/

/-- The owner code of a slot of a template. -/
def State.tplCode (s : State) (t : Nat) (up : Bool) (slot : Nat) : Nat :=
  let r := s.reg (if up then F.wrpTplUpSlots t (slot / 16) else F.wrpTplDnSlots t (slot / 16)).off
  getBits r (4 * (slot % 16) + 3) (4 * (slot % 16))

/-- The template is named by some skein (R262). -/
def State.tplInUse (s : State) (t : Nat) : Bool :=
  (List.range 128).any fun n => s.fld (F.sknWarpSelNormTpl n) == t || s.fld (F.sknWarpSelDegrTpl n) == t

/-- A code is allowed in a direction (Table 7-1). -/
def codeOk (up : Bool) (c : Nat) : Bool := decide (c ≤ 9) && (if up then c != clsHwr else c != clsHrd && c != clsRns)

/-- The 128 codes of a direction. -/
def State.tplCodes (s : State) (t : Nat) (up : Bool) : List Nat := (List.range 128).map (s.tplCode t up)

/-- Cyclic distance from slot `i` to the next slot of code `c`; none when there is none. -/
def nextOf (l : List Nat) (c i : Nat) : Option Nat :=
  ((List.range 128).map fun d => d + 1).find? fun d => l.getD ((i + d) % 128) 0 == c

/-- The first slot of code `c` whose distance to the next one is above `gap`; slot 0 when the code owns none. -/
def gapFail (l : List Nat) (c gap : Nat) : Option Nat :=
  if !l.contains c then some 0
  else (List.range 128).find? fun i => l.getD i 0 == c && (match nextOf l c i with | some d => decide (gap < d) | none => false)

def countOf (l : List Nat) (c : Nat) : Nat := (l.filter fun x => x == c).length

/-- The first failing check of Table 7-4: its number, direction and slot. -/
def State.firstFail (s : State) (t : Nat) : Option (Nat × Bool × Nat) :=
  let dn := s.tplCodes t false
  let up := s.tplCodes t true
  let bad (l : List Nat) (d : Bool) : Option Nat := (List.range 128).find? fun i => !codeOk d (l.getD i 0)
  let few (l : List Nat) (c k : Nat) : Bool := decide (countOf l c < k)
  match bad dn false, bad up true with
  | some i, _ => some (1, false, i)
  | none, some i => some (1, true, i)
  | none, none =>
    match gapFail up clsHrd 2, gapFail up clsMet 8, gapFail dn clsMet 16 with
    | some i, _, _ => some (2, true, i)
    | none, some i, _ => some (3, true, i)
    | none, none, some i => some (4, false, i)
    | none, none, none =>
      if few up clsRns 4 then some (5, true, 0)
      else if few dn clsWrg 8 then some (6, false, 0)
      else if few up clsWrg 8 then some (6, true, 0)
      else if few dn clsHwr 16 then some (7, false, 0)
      else if few dn clsSys 1 then some (8, false, 0)
      else if few up clsSys 1 then some (8, true, 0)
      else if few dn clsDrn 8 then some (9, false, 0)
      else if few up clsDrn 8 then some (9, true, 0)
      else none

/-- WRP_TEMPLATE_WRITE (R262): four or eight bytes of a template register. -/
def execWrpTemplateWrite (h : Nat) (up : Bool) (t p width : Nat) (lo : Bool) (data : BitVec 64) (s : State) :
    Host.Outcome State Fault Refusal :=
  let off := (if up then F.wrpTplUpSlots t p else F.wrpTplDnSlots t p).off
  let at_ := if width = 4 ∧ !lo then off + 4 else off
  done (s.barWrite h at_ fun s =>
    if t ≤ 2 ∨ s.tplInUse t then s.raise Ev.wrpRefused
    else
      let s := s.setReg off ((s.reg off &&& ~~~(laneMask at_ width)) ||| laneData at_ width data)
      { s with warp := { s.warp with valid := s.warp.valid &&& ~~~(1#8 <<< t), degrOk := s.warp.degrOk &&& ~~~(1#8 <<< t) } })

/-- VALIDATE (R262): ignored while a validation runs. -/
def execValidate (h t : Nat) (s : State) : Host.Outcome State Fault Refusal :=
  done (s.barWrite h F.wrpCtlValidate.off fun s =>
    let s := s.setFld F.wrpCtlTpl t
    if s.warp.valBusy.isSome then s else { s with warp := { s.warp with valBusy := some t } })

/-- VALIDATE_DONE (R262, R263). -/
def execValidateDone (s : State) : Host.Outcome State Fault Refusal :=
  done (s.when s.pwr.coreOn fun s =>
    match s.warp.valBusy with
    | none => s
    | some t =>
      let f := s.firstFail t
      let hard : Bool := match f with | some (c, _, _) => decide (c ≤ 8) | none => false
      let set (m : BitVec 8) (b : Bool) : BitVec 8 := if b then m ||| (1#8 <<< t) else m &&& ~~~(1#8 <<< t)
      let s := { s with warp := { s.warp with valBusy := none, valid := set s.warp.valid (!hard),
                                              degrOk := set s.warp.degrOk f.isNone } }
      let info := t * 2 ^ 16 + (match f with | some (c, d, i) => c * 2 ^ 32 + ofBool d * 2 ^ 31 + i * 2 ^ 24 | none => 0)
      let s := if hard then s.raiseN Ev.wrpValidateFail info 0 else s
      s.raiseN Ev.wrpValidateDone info 0)

/-- WRP_CTL.CNT_CLR (R283). -/
def execWrpCntClr (h : Nat) (s : State) : Host.Outcome State Fault Refusal :=
  done (s.barWrite h F.wrpCtlCntClr.off fun s => s.setReg F.wrpStallCntStalls.off 0#64)

/-- A write of SKN_WARP_SEL, checked as a whole (R262). -/
def execSknWarpSelWrite (h n norm degr : Nat) (s : State) : Host.Outcome State Fault Refusal :=
  done (s.barWrite h (F.sknWarpSelNormTpl n).off fun s =>
    if s.warp.valid.getLsbD norm && s.warp.degrOk.getLsbD degr then
      (s.setFld (F.sknWarpSelNormTpl n) norm).setFld (F.sknWarpSelDegrTpl n) degr
    else s.raise Ev.wrpRefused)

/-! ### Modes and budgets at a Pick boundary (R261, R273, R274, R477, R480, R481) -/

/-- The mode a skein takes (Table 7-3) and its template. -/
def State.pickMode (s : State) (n : Nat) : WarpMode × Nat :=
  if !s.populated n || s.skeinRetired n then (.off, 0)
  else if s.wp.flush.isSome then (.flush, 2)
  else if s.warp.stalls.any fun r => r.skeins.contains n then (.roundRobin, (s.warp1 n).tpl)
  else if (s.upkG (n / 16)).darn ≠ 0 then (.degraded, s.fld (F.sknWarpSelDegrTpl n))
  else (.normal, s.fld (F.sknWarpSelNormTpl n))

/-- Live skeins. -/
def State.liveList (s : State) : List Nat := (List.range (16 * s.popP)).filter s.live

/-- Idle power of the live packages, mW. -/
def State.idleMw (s : State) : Nat := s.liveList.foldl (fun k n => k + (s.link1 n).page.pIdle) 0

/-- f_tile of a tile in 1/128; 128 until the first round completes. -/
def State.tileF (s : State) (t : Nat) : Nat := Tab.get (fun _ => 128) s.thm.f t

/-- f_s of a skein, in 1/128 (R477). -/
def State.skeinF (s : State) (n : Nat) : Nat := min (s.tileF (n / 2)) (s.link1 n).fmedia

/-- B of a skein (R273): `idle` in mW and `live` the number of live skeins. -/
def State.budgetB (s : State) (flush : Bool) (idle live fs : Nat) : Nat :=
  if flush then 575
  else
    let num : Nat := 320 * (s.thm.cap * 1000 - idle)
    let den : Nat := max 1 (1000 * live)
    let half : Nat := if s.thm.first then 1 else 2
    let b := if num < 64 * den then 64 * fs / (128 * half) else num * fs / (den * 128 * half)
    min b 1344

/-- The classes that compete in the background, in order, for downstream operations (R267). -/
def bgDn : List Nat := [3, 2, 7, 4, 5, 9, 8]

/-- And for reads; the age probes of the age-unknown interval rank between HRD and HWR. -/
def bgUp : List Nat := [3, 1, 2, 7, 4, 5, 6, 9, 8]

/-- Classes ranked 4 to 10, which age (R268). -/
def agedClasses : List Nat := [2, 7, 4, 5, 6, 9, 8]

/-- Starved Picks after a Pick (R268); key = class, plus 16 for upstream. -/
def SkeinWarp.starve (w : SkeinWarp) : Tab Nat :=
  (agedClasses ++ agedClasses.map fun c => c + 16).foldl
    (fun t k =>
      let waiting := if k < 16 then w.dn.any (fun o => o.cls == k) else w.rq.any (fun r => r.cls + 16 == k)
      Tab.set (fun _ => 0) t k
        (if waiting && !w.bgWon.contains k then Tab.get (fun _ => 0) t k + 1 else 0)) w.starved

/-- One skein at the Pick boundary. -/
def State.skeinBoundary (s : State) (idle live n : Nat) : State :=
  let w := s.warp1 n
  let m := s.pickMode n
  let fs := s.skeinF n
  let b := if s.live n then s.budgetB (m.1 == .flush) idle live fs else 0
  let u := w.use
  let s := if w.mode ≠ .off then
      let s := (s.setFld (F.sknSlotUseDnOwner n) u.1).setFld (F.sknSlotUseDnBackground n) u.2.1
      let s := (s.setFld (F.sknSlotUseUpOwner n) u.2.2.1).setFld (F.sknSlotUseUpBackground n) u.2.2.2
      (s.setFld (F.sknSlotUseDnUnused n) (128 - u.1 - u.2.1)).setFld (F.sknSlotUseUpUnused n) (128 - u.2.2.1 - u.2.2.2)
    else s
  let s := if w.slept then s.bump (F.sknSleepSleepPicks n) 1 else s
  let s := if m.1 = .roundRobin then s.bump F.wrpStallCntRrPicks 1 else s
  let s := if s.live n && decide (fs < 128) then (s.bump F.thmCntThrottlePicks 1).count 0x800 0 1 else s
  s.setWarp1 n { w with mode := m.1, tpl := m.2, fs := fs, budget := b, tokens := min 0 w.tokens, starved := w.starve
                        aged := w.agedNext, agedNext := [], bgWon := [], use := (0, 0, 0, 0), slept := w.asleep
                        rrDn := if m.1 = .roundRobin ∧ w.mode ≠ .roundRobin then 0 else w.rrDn
                        rrUp := if m.1 = .roundRobin ∧ w.mode ≠ .roundRobin then 0 else w.rrUp }

/-- Media power of the last second, once a second's Picks have passed (R481). -/
def State.powerSecond (s : State) (idle : Nat) : State :=
  if s.warp.spentFrom + 195313 ≤ s.time.pick then
    { s with warp := { s.warp with spent := 0, spentFrom := s.time.pick }
             thm := { s.thm with mw := s.warp.spent * 16 / 1000000 + idle, minSec := s.thm.minCur, minCur := 128 } }
  else s

/-! ### DevLoad (R66, R67) -/

/-- Reads of a head taken in and not yet answered. -/
def State.outReads (s : State) (h : Nat) : Nat :=
  ((s.fch.mshr.flatMap (fun e => e.reqs ++ e.again) ++ s.fch.missWait).filter fun r => !r.wr && r.h == h).length

/-- The outstanding-read limit of a head (Table 2-21). -/
def State.readLimit (s : State) : Nat := if s.host.hbif then 2048 else 4096

def pct (a b : Nat) : Nat := min 255 (a * 100 / max 1 b)

/-- The DevLoad class of a head (Table 2-8), computed and reported. -/
def State.updDevload (s : State) (h : Nat) : State :=
  let dirty := pct s.dirtyCount s.dirtyLimit
  let reads := pct (s.outReads h) s.readLimit
  let load := max dirty reads
  let back := if s.host.egressOn then Tab.get (fun _ => 0) s.host.backpressure h else 0
  let x := s.head h
  let eg (t : Nat) : Bool := s.host.egressOn && decide (t ≤ back)
  let c := if decide (s.fld (F.hstDevloadCfgModerateMax h) < load) || x.waited || eg s.host.egressSevere then 3
    else if decide (s.fld (F.hstDevloadCfgOptimalMax h) < load) || eg s.host.egressModerate then 2
    else if s.fld (F.hstDevloadCfgLightMax h) < load then 1 else 0
  let s := s.setReg (F.hstDevloadDevload h).off
    (BitVec.ofNat 64 (back * 2 ^ 32 + reads * 2 ^ 24 + dirty * 2 ^ 16 + load * 2 ^ 8 + c))
  let s := s.setHead h { x with waited := decide (s.fch.dirtyWait.any fun r => r.h == h), severe := c == 3 }
  let s := s.count 0x105 h (s.outReads h)
  if c = 3 ∧ !x.severe then s.raise (Ev.hstDevloadSevere h) else s

/-- PICK_BOUNDARY (R261): modes, budgets, DevLoad, and a cap that waits for the boundary (R480). -/
def execPickBoundary (s : State) : Host.Outcome State Fault Refusal :=
  done (s.when s.pwr.coreOn fun s =>
    let s := match s.thm.capNext, s.wp.flush with
      | some c, none => { s with thm := { s.thm with cap := c, capNext := none } }
      | _, _ => s
    let idle := s.idleMw
    let live := s.liveList.length
    let s := (s.count 0x001 0 1).count 0x002 0 9216
    let s := s.powerSecond idle
    let s := (List.range (16 * s.popP)).foldl (fun t n => t.skeinBoundary idle live n) s
    let least := s.liveList.foldl (fun m n => min m (s.warp1 n).fs) 128
    let s := { s with thm := { s.thm with minCur := min s.thm.minCur least } }
    (List.range s.nHeads).foldl State.updDevload s)

/-- TOKEN_INSTALMENT (R274): at slots 0, 16, … 112. -/
def execTokenInstalment (s : State) : Host.Outcome State Fault Refusal :=
  done (s.when (s.pwr.coreOn && s.time.slot % 16 == 0) fun s =>
    (List.range (16 * s.popP)).foldl
      (fun t n =>
        let w := t.warp1 n
        let k : Int := (w.budget / 8 + (if t.time.slot = 0 then w.budget % 8 else 0) : Nat)
        t.setWarp1 n { w with tokens := w.tokens + k }) s)

/-! ### Tokens (R275 to R277) -/

/-- Whole tokens of an energy in nJ. -/
def tokensOf (nj : Nat) : Nat := (nj + 15) / 16

/-- Cost of a downstream operation. -/
def State.dnCost (s : State) (n : Nat) (o : DnOp) : Nat :=
  let p := (s.link1 n).page
  match o.kind with
  | .programDense => tokensOf p.eProgD
  | .programSingle => tokensOf p.eProgS
  | .reset => tokensOf p.eReset
  | .sys => 0

/-- The balance covers the operation. -/
def State.dnCovered (s : State) (n : Nat) (o : DnOp) : Bool :=
  match o.kind with
  | .sys => true
  | .reset => decide (0 ≤ (s.warp1 n).tokens)
  | _ => decide ((s.dnCost n o : Int) ≤ (s.warp1 n).tokens)

/-- A charge; one that would take the balance below −1,152 is not recorded past it (R277). -/
def State.charge (s : State) (n cost : Nat) : State :=
  let w := s.warp1 n
  let b := w.tokens - cost
  let took : Nat := if b < -1152 then (w.tokens + 1152).toNat else cost
  let s := s.setWarp1 n { w with tokens := max b (-1152) }
  let s := ({ s with warp := { s.warp with spent := s.warp.spent + took } } : State).count 0x526 n took
  if b < -1152 then s.raiseN Ev.wrpDeficitClamp (n * 2 ^ 48) 0 else s

/-! ### The downstream operation (R265, R267, R281, R293) -/

/-- Rules the controller keeps: no second program of a die-partition, no second reset of a die, no reset of a block that an
outstanding read names (R228, R293). -/
def State.dnFree (s : State) (n : Nat) (o : DnOp) : Bool :=
  let busy := (s.warp1 n).ops.map (·.2)
  match o.kind with
  | .sys => true
  | .reset =>
    !(busy.any fun x => x.kind == .reset && decide (x.addr / 8192 = o.addr / 8192)) &&
      !(s.rd.reads.any fun r => decide (r.st ≠ .needMap ∧ addrSkein r.addr = n ∧ addrBlock r.addr = o.addr))
  | _ =>
    !(busy.any fun x => (x.kind == .programDense || x.kind == .programSingle) &&
      decide (x.addr % 2 ^ 31 / 2 ^ 27 = o.addr % 2 ^ 31 / 2 ^ 27 ∧ x.addr % 32 = o.addr % 32))

/-- The first request of a class that can start. -/
def State.dnPick (s : State) (n c : Nat) : Option DnOp :=
  (s.warp1 n).dn.find? fun o => o.cls == c && s.dnFree n o && s.dnCovered n o

/-- A list rotated so that the element at `k` leads. -/
def rotate (l : List Nat) (k : Nat) : List Nat := l.drop (k % max 1 l.length) ++ l.take (k % max 1 l.length)

/-- Rotation order of ROUND_ROBIN (R281). -/
def rrClasses (up : Bool) : List Nat := [3, 1, 2, 7, 4, 5, 6, 9, 8].filter (codeOk up)

/-- The ranking with the promoted classes first (R268). -/
def promoted (aged order : List Nat) (add : Nat) : List Nat :=
  (order.filter fun c => aged.contains (c + add)) ++ order.filter fun c => !aged.contains (c + add)

/-- The operation of the slot: the request and whether its class owned the slot. -/
def State.dnGrant (s : State) (n : Nat) : Option (DnOp × Bool) :=
  let w := s.warp1 n
  let pick (l : List Nat) : Option DnOp := l.findSome? (s.dnPick n)
  if w.mode = .roundRobin then (pick (rotate (rrClasses false) w.rrDn)).map fun o => (o, true)
  else
    let c := s.tplCode w.tpl false s.time.slot
    match if c = 0 then none else s.dnPick n c with
    | some o => some (o, true)
    | none => (pick (promoted w.aged bgDn 0)).map fun o => (o, false)

/-- The owner had requests, and the balance covered none of them (R276). -/
def State.dnRefused (s : State) (n : Nat) : Bool :=
  let w := s.warp1 n
  let c := s.tplCode w.tpl false s.time.slot
  decide (w.mode ≠ .roundRobin ∧ c ≠ 0) && (s.dnPick n c).isNone &&
    w.dn.any (fun o => o.cls == c && s.dnFree n o && !s.dnCovered n o)

/-! ### Reads of a command field (R227, R266, R270 to R272, R291, R292) -/

/-- The turn hint of class `c` (R271): distance to the next slot it owns. -/
def State.turnHint (s : State) (n c : Nat) (up : Bool) : Nat :=
  (nextOf (s.tplCodes (s.warp1 n).tpl up) c s.time.slot).getD 0xFF

/-- Weight of a head in the rotation (R270). -/
def State.headWeight (s : State) (h : Nat) : Nat := max 1 (bits (s.fld F.wrpHeadWeightWeight) (4 * h + 3) (4 * h))

/-- The head whose turn it is among those with host reads waiting. -/
def State.headTurn (s : State) (n : Nat) : Nat :=
  let w := s.warp1 n
  let waits (h : Nat) : Bool := w.rq.any fun r => r.cls == clsHrd && r.head == h
  if waits w.turn && decide (w.given < s.headWeight w.turn) then w.turn
  else (((List.range 8).map fun d => (w.turn + 1 + d) % 8).find? waits).getD w.turn

/-- The next read of a class. MET: demand before prefetch, a prefetch only near its slot; HRD: by heads. -/
def State.upPick (s : State) (n c : Nat) : Option RdOp :=
  let q := (s.warp1 n).rq
  if c = clsHrd then q.find? fun r => r.cls == clsHrd && r.head == s.headTurn n
  else if c = clsMet then
    match q.find? fun r => r.cls == clsMet && !r.pf with
    | some r => some r
    | none => if s.turnHint n clsMet true ≤ s.fld F.mapPfCfgHintMax then q.find? fun r => r.cls == clsMet else none
  else q.find? fun r => r.cls == c

/-- Cost of a read, in tokens. -/
def State.rdCost (s : State) (n : Nat) (r : RdOp) : Nat := tokensOf (s.link1 n).page.eRead * (if r.paired then 2 else 1)

/-- HRD and MET reads are never refused. -/
def State.rdCovered (s : State) (n : Nat) (r : RdOp) : Bool :=
  r.cls == clsHrd || r.cls == clsMet || decide ((s.rdCost n r : Int) ≤ (s.warp1 n).tokens)

/-- The owner of an upstream slot, counted from power-up. -/
def State.upOwner (s : State) (n slot : Nat) : Nat :=
  let w := s.warp1 n
  if w.mode = .roundRobin then (rotate (rrClasses true) w.rrUp).headD 0 else s.tplCode w.tpl true (slot % 128)

/-- A return slot for a read: its first slot when that is free and it may have it, else the next one its class owns, within
the window (R266, R292). -/
def State.returnSlot (s : State) (n c first : Nat) (mayFirst : Bool) (after : Nat) : Option Nat :=
  let w := s.warp1 n
  let free (j : Nat) : Bool := !(w.up.any fun p => p.1 == j)
  if mayFirst && free first && decide (after < first) then some first
  else ((List.range 31).map fun d => first + 1 + d).find? fun j => decide (after < j) && free j && s.upOwner n j == c

/-- The slots a read takes: one, or two when it is paired. -/
def State.returnSlots (s : State) (n : Nat) (r : RdOp) (first : Nat) (mayFirst : Bool) : Option (List Nat) :=
  match s.returnSlot n r.cls first mayFirst 0 with
  | none => none
  | some j =>
    if r.paired then
      match s.returnSlot n r.cls first false j with
      | some k => some [j, k]
      | none => none
    else some [j]

/-- A read goes into the command field. -/
def State.issueInto (s : State) (n : Nat) (r : RdOp) (slots : List Nat) (bg : Bool) : State :=
  let w := s.warp1 n
  let turn := if r.cls = clsHrd then s.headTurn n else w.turn
  let given := if r.cls ≠ clsHrd then w.given else if turn = w.turn then w.given + 1 else 1
  let u := w.use
  let s := s.setWarp1 n
    { w with rq := w.rq.erase r, up := w.up ++ slots.map (fun j => (j, r.cls)), turn := turn, given := given
             use := (u.1, u.2.1, u.2.2.1 + (if bg then 0 else slots.length), u.2.2.2 + (if bg then slots.length else 0))
             bgWon := if bg then w.bgWon ++ [r.cls + 16] else w.bgWon }
  (s.count (0x510 + r.cls) n slots.length).charge n (s.rdCost n r)

/-- Classes whose first slot `first` is open to them in this field, in the order they are served: the owner's, then MET and
HRD, then, when no read of the owner waits, one of the others (R266, R267). -/
def State.readOrder (s : State) (n first : Nat) : List Nat :=
  let w := s.warp1 n
  let c := s.upOwner n first
  let probes := s.upk.unknown && w.rq.any fun r => r.probe
  let rank := promoted w.aged (if probes then [3, 1, 6, 2, 7, 4, 5, 9, 8] else bgUp) 16
  let order := if w.mode = .roundRobin then rotate (rrClasses true) w.rrUp ++ [2] else c :: rank
  order.filter fun x => x != 0

/-- The entries of the command field are filled, `room` of them; `fuel` bounds the reads. -/
def State.fillField (s : State) (n first : Nat) : Nat → Nat → List RdOp → State × List RdOp
  | 0, _, l => (s, l)
  | fuel + 1, room, l =>
    let w := s.warp1 n
    let taken := w.up.any fun p => p.1 == first
    let own := s.upOwner n first
    let try_ (c : Nat) : Option (RdOp × List Nat) :=
      match s.upPick n c with
      | none => none
      | some r =>
        let high := c == clsHrd || c == clsMet
        let firstOk := !taken && !(r.pf && c != own)
        if (!high && (taken || decide (c ≠ own) && w.rq.any fun x => x.cls == own)) || !s.rdCovered n r ||
            (if r.paired then decide (room < 2) else decide (room < 1)) then none
        else (s.returnSlots n r first firstOk).map fun js => (r, js)
    match (s.readOrder n first).findSome? try_ with
    | none => (s, l)
    | some (r, js) =>
      let bg := js.head? == some first && decide (r.cls ≠ own)
      (s.issueInto n r js bg).fillField n first fuel (room - (if r.paired then 2 else 1)) (l ++ [r])

/-- OPWORD (Table 8-4): the operation code and the address bits. -/
def dnCode (o : DnOp) : Nat × Nat :=
  match o.kind with
  | .programDense => (0, o.addr % 2 ^ 31)
  | .programSingle => (0, o.addr % 2 ^ 31)
  | .reset => (4, o.addr)
  | .sys => (5, o.addr)

/-- The 288-byte media line of a program: its sectors and metadata word, without the BCH parity (R198 to R203). A tell-tale
line is a filler line. -/
def State.payload (s : State) (n : Nat) (o : DnOp) : List Nat :=
  let g := n / 16
  let b := addrBlock o.addr
  let i := addrOff o.addr
  match (s.group g).stripes.find? fun t => decide (t.block = b ∧ t.idx = i) with
  | none => []
  | some t =>
    let m := (s.bolt g b).members
    let pos := n % 16
    let out (x : Quad Sector × Nat) : List Nat := x.1.toList.map BitVec.toNat ++ [x.2]
    if t.lines = [] then out (s.mediaLine Staged.filler)
    else if parityPos m i = pos then out (s.parityLine t.lines)
    else
      match (t.lines.zipIdx).find? fun p => dataPos m i p.2 = pos with
      | some p => out (s.mediaLine p.1)
      | none => []

/-- A granted operation leaves the queue and waits for its completion. -/
def State.grant (s : State) (n : Nat) (o : DnOp) (owner : Bool) : State :=
  let w := s.warp1 n
  let u := w.use
  let s := s.setWarp1 n
    { w with dn := w.dn.erase o
             ops := if o.kind = .sys then w.ops else w.ops ++ [(s.slotAbs, o)]
             use := (u.1 + ofBool owner, u.2.1 + ofBool (!owner), u.2.2.1, u.2.2.2)
             bgWon := if owner then w.bgWon else w.bgWon ++ [o.cls] }
  (s.count (0x500 + o.cls) n 1).charge n (s.dnCost n o)

/-- The upstream direction may sleep (R272, R304, Table 8-13 row 8). -/
def State.maySleep (s : State) (n : Nat) : Bool :=
  let x := s.link1 n
  s.fld (F.sknSleepUpSleepEn n) == 1 && x.version == 2 && !x.short.getLsbD 8

/-- Lane sleep as the slot is decided: nothing due within SLEEP_MIN slots. -/
def State.sleepCheck (s : State) (n : Nat) : State :=
  let w := s.warp1 n
  let now := s.slotAbs
  let due := w.up.any fun p => decide (now ≤ p.1 ∧ p.1 < now + s.fld (F.sknSleepSleepMin n))
  let sys := w.dn.any fun o => o.kind == .sys
  if s.maySleep n && !due && !sys then s.setWarp1 n { w with asleep := true, slept := true } else s

/-- DOWNSTREAM_SLOT (R265, R266): the slot of skein `n` is decided, its command field filled, return slots assigned, and its
tokens charged. The frame is kept until it is known to have drawn no NAK (R297). -/
def execDownstreamSlot (n : Nat) (s : State) : Host.Outcome State Fault Refusal :=
  done (s.when (s.pwr.coreOn && (s.link1 n).st == .active && (s.warp1 n).mode != .off) fun s =>
    let now := s.slotAbs
    let w := s.warp1 n
    let first := now + w.lead
    let s := s.setWarp1 n { w with up := w.up.filter fun p => decide (now ≤ p.1) }
    let s := if s.dnRefused n then (s.bump (F.sknTokensRefused n) 1).count 0x527 n 1 else s
    let g := s.dnGrant n
    let pay := match g with | some (o, _) => s.payload n o | none => []
    let s := match g with
      | some (o, owner) => s.grant n o owner
      | none => s.count 0x520 n 1
    let r := s.fillField n first 4 4 []
    let s := r.1
    let s := if (s.warp1 n).up.any (fun p => p.1 == first) then s else s.count 0x521 n 1
    let s := if (s.warp1 n).asleep then s.count 0x529 n 1 else s.sleepCheck n
    let x := s.warp1 n
    let s := s.setWarp1 n
      { x with frames := x.frames ++ [(DnFrame.mk now (g.map (·.1)) r.2)], rrDn := (x.rrDn + 1) % 7, rrUp := (x.rrUp + 1) % 8 }
    let c := match g with | some (o, _) => dnCode o | none => (7, 0)
    s.emit (.downstream n c.1 c.2 (pay ++ r.2.map fun q => q.ref * 2 ^ 31 + q.addr % 2 ^ 31)))

/-- LANE_WAKE (R272). -/
def execLaneWake (n : Nat) (s : State) : Host.Outcome State Fault Refusal :=
  done (s.when (s.pwr.coreOn && (s.warp1 n).asleep) fun s => s.setWarp1 n { s.warp1 n with asleep := false })

/-! ### Aging and the stall monitor (R268, R280 to R282) -/

/-- AGING: class `cls` of skein `n` (plus 16 for upstream) has starved for 16 Picks. -/
def execAging (n cls : Nat) (s : State) : Host.Outcome State Fault Refusal :=
  let w := s.warp1 n
  done (s.when (s.pwr.coreOn && decide (16 ≤ Tab.get (fun _ => 0) w.starved cls)) fun s =>
    let s := s.setWarp1 n { w with starved := Tab.set (fun _ => 0) w.starved cls 0, agedNext := w.agedNext ++ [cls] }
    (s.bump F.wrpStallCntAgings 1).raiseN Ev.wrpAging
      (n * 2 ^ 48 + cls % 16 * 2 ^ 40 + ofBool (decide (16 ≤ cls)) * 2 ^ 31) 0)

/-- The wait of Table 7-9 stands: its line, when it has one. -/
def State.waitLine (s : State) (q cls : Nat) (skeins : List Nat) : Option Nat :=
  let g := skeins.headD 0 / 16
  match q with
  | 1 =>
    let w := s.warp1 (skeins.headD 0)
    if w.dn.any (fun o => o.cls == cls) || w.rq.any (fun r => r.cls == cls) then some 0 else none
  | 2 => s.fch.dirtyWait.head?.map Req.line
  | 3 => (s.wp.handed.find? fun x => x.g == g || x.g == 8).map Handed.line
  | 4 => if s.map.dirtyHeld = [] then none else some 0
  | 5 => s.fch.missWait.head?.map Req.line
  | _ => none

/-- STALL (R280): not during FLUSH mode (R282). -/
def execStall (q cls : Nat) (skeins : List Nat) (s : State) : Host.Outcome State Fault Refusal :=
  let line := s.waitLine q cls skeins
  done (s.when (s.pwr.coreOn && s.wp.flush.isNone && line.isSome && !(s.warp.stalls.any fun r => r.q == q && r.cls == cls))
    fun s =>
      let sk := if q = 1 ∨ q = 3 then skeins else s.liveList
      let s := { s with warp := { s.warp with stalls := s.warp.stalls ++ [(StallRec.mk q cls sk s.time.pick false)] } }
      (s.bump F.wrpStallCntStalls 1).raiseN Ev.wrpStall (skeins.headD 0 * 2 ^ 48 + cls * 2 ^ 40 + q * 2 ^ 36)
        (line.getD 0))

/-- STALL_CLEARED (R282): the skeins return to Table 7-3 at the next Pick boundary. -/
def execStallCleared (q : Nat) (s : State) : Host.Outcome State Fault Refusal :=
  done (s.when (s.pwr.coreOn && s.warp.stalls.any fun r => r.q == q) fun s =>
    let s := { s with warp := { s.warp with stalls := dropFirst (fun r => r.q == q) s.warp.stalls } }
    if s.wp.flush.isSome then s else s.raiseN Ev.wrpStallCleared (q * 2 ^ 36) 0)

/-- The crossing queue whose memory is tested for a stalled wait (R282, Table 10-2). -/
def State.stallQueue (s : State) (r : StallRec) : Nat :=
  match r.q with
  | 1 => r.skeins.headD 0
  | 2 => 256 + ((s.fch.dirtyWait.head?.map Req.h).getD 0)
  | 5 => 256 + ((s.fch.missWait.head?.map Req.h).getD 0)
  | 4 => 272 + ((s.map.dirtyHeld.head?.map (·.1)).getD 0)
  | _ => 272 + r.skeins.headD 0 / 16

/-- STALL_PERSIST (R282): 1 ms after the switch. -/
def execStallPersist (q : Nat) (s : State) : Host.Outcome State Fault Refusal :=
  done (s.when (s.pwr.coreOn && s.wp.flush.isNone) fun s =>
    match s.warp.stalls.find? fun r => r.q == q && !r.persist with
    | none => s
    | some r =>
      let s := { s with warp := { s.warp with stalls := s.warp.stalls.map fun x => if x = r then { x with persist := true } else x } }
      let s := s.raiseN Ev.wrpStallPersist (r.skeins.headD 0 * 2 ^ 48 + r.cls * 2 ^ 40 + q * 2 ^ 36) 0
      s.report (resQueue (s.stallQueue r) 0) .queue 0)

end Sys2Proof.Machine
end

