-- ==== Sys2Proof/Machine/Media.lean ====
section
/-!
DEFINITION. What comes back from the media: upstream frames, decode, the back-pointer check, verification,
reconstruction and its outcomes, merge reads, completions of programs and resets, link failures, the poison timer
(R160, R169, R195 to R197, R209, R226 to R242, R294 to R299, R318, R322, R338, R382, R383, R392).
-/
namespace Sys2Proof.Machine

/-! ### Armed injections on the read path (Table 10-9) -/

/-- The armed injection has one of these kinds and aims at the partition and line of a media address. -/
def State.injRead (s : State) (kinds : List Nat) (a : Nat) : Bool :=
  match s.flt.inj with
  | some i => kinds.contains i.kind && decide (i.res = partOf a) && decide (i.addr = 2 ^ 31 - 1 ∨ i.addr = a % 2 ^ 31)
  | none => false

/-- The die answers every read with MEDIA_ERR (kind 13). -/
def State.injDie (s : State) (a : Nat) : Bool := s.injOn 13 (resDie (addrSkein a) (addrBlock a / 8192))

/-! ### Reads (R232 to R235) -/

def Rd.same (r x : Rd) : Bool := x.why == r.why

/-- The read that a frame of skein `n` answers. -/
def State.activeRead (s : State) (n line : Nat) : Option Rd :=
  s.rd.reads.find? fun r =>
    decide (r.line = line ∧ addrSkein r.addr = n) && (r.st == .needData || r.st == .reread)

/-- The poison timer is armed at the first of its events (R240). -/
def Rd.arm (r : Rd) (now : Nat) : Rd := { r with armed := some (r.armed.getD now) }

/-- One drift re-read: a paired read at the neighbouring classes (R232). -/
def State.driftReread (s : State) (r : Rd) : State :=
  let n := addrSkein r.addr
  let s := (s.updRead r.line r.same fun x => { x with st := .reread }).count 0x523 n 1 |>.count 0x524 n 1
  s.pushRd n ⟨rdClass r.why r.line, r.addr, min 15 (s.refOf r.addr + 1), s.headOfRead r.line, true, false, false⟩

/-- Reconstruction starts (R234). -/
def State.toRecon (s : State) (r : Rd) : State :=
  (s.updRead r.line r.same fun x => { x.arm s.time.upNs with st := .recon, rewrite := true }).issueRecon (rdClass r.why r.line)
    r.addr (s.headOfRead r.line)

/-- The line failed decode: a drift re-read after the first attempt, reconstruction and a report after the re-read. -/
def State.decodeFailed (s : State) (r : Rd) : State :=
  if r.st = .needData then
    ((s.count 0x522 (addrSkein r.addr) 1).updRead r.line r.same fun x => x.arm s.time.upNs).driftReread r
  else (s.reportLine r.addr).toRecon r

/-- The read was lost in the link or the package did not sense it: reissued once as the drift re-read (R298). -/
def State.readLost (s : State) (r : Rd) : State :=
  if r.st = .needData then s.driftReread r else (s.reportLine r.addr).toRecon r

/-- The lookup is repeated (R169). -/
def State.lookAgain (s : State) (r : Rd) : State :=
  match r.why with
  | .merge _ =>
    let e := s.entry r.line
    if e.st = 1 then s.startMedia { r with lookups := 2 } e 0 else (s.dropRead r.line r.same).completeLine r.line
  | _ =>
    let s := (s.updRead r.line r.same fun x => { x with lookups := 2, st := .needMap }).wantMap (r.line / 32)
    if s.mpresent 0 (r.line / 32) then s.resolveFill r.line else s

/-- A back-pointer or SEQ10 mismatch (R169): a second lookup, then poison, BACKPTR_MISMATCH and the fault manager. -/
def State.mismatch (s : State) (r : Rd) : State :=
  let s := s.bump F.mapErrCntBackptr 1
  if r.lookups < 2 then s.lookAgain r
  else
    match r.why with
    | .merge _ => s.toRecon r
    | _ =>
      let s := s.raiseN Ev.mapBackptrMismatch 0 r.line
      let s := (s.reportLine r.addr).queueTest (resBank 3 (mapSet 0 (r.line / 32) / 4096) 0) 0 0
      (s.dropRead r.line r.same).fillPoison r.line (some (2, 1, false))

/-- A line that decoded waits for its verification; one decoded at the re-read is a drift event, up or down as the decoder
found it, which the frame does not say (R233, R331). -/
def State.decodedRead (s : State) (r : Rd) (c : Code) : State :=
  let s := if r.st = .reread then
      let d := s.draw
      d.1.driftEvent r.addr (d.2.getLsbD 0)
    else s
  if c.back ≠ r.line ∨ c.seq % 1024 ≠ r.seq10 then s.mismatch r
  else s.updRead r.line r.same fun x => { x with st := .decoded, code := some c }

/-! ### Copies into the UPKEEP partition (R201, R322, R392) -/

/-- A line goes unchanged into the UPKEEP partition of group `g`. Without room it does not enter. -/
def State.placeCopy (s : State) (g : Nat) (why : CopyWhy) (src : Nat) (c : Code) (tag : BitVec 64) : Option State :=
  s.place g .upk { kind := .copy why src, line := c.back, dom := c.dom, d := c.d, be := Quad.all 0#64, sp := 0#4,
                   missing := 0#4, ep := c.epoch, kgen := c.kgen, seq := c.seq, enc := true, tag := tag,
                   superseded := false, recorded := false }

/-- The media line at an address is the live version of its logical line (R178). -/
def State.liveCopy (s : State) (a back seq : Nat) : Bool :=
  if mapBack ≤ back then decide (back ≠ fillerBack) && s.dirAt (back - mapBack) == some a
  else
    let e := s.entry back
    decide (e.st = 1 ∧ e.addr = a ∧ e.seq10 = seq % 1024)

/-- A table of the line's domain retains the version at an address. -/
def State.retainedCopy (s : State) (a back : Nat) : Bool :=
  isHostLine back && (match s.domOf back with | some d => s.retained d back a | none => false)

/-- The copy reason and the performance event of a process. -/
def procCopy : Proc → CopyWhy × Nat
  | .wring => (.wring, 0x600)
  | .press => (.press, 0x601)
  | .rinse => (.recovery, 0x605)
  | .darn => (.darn, 0x602)
  | .swap => (.swap, 0x603)

/-- The plaintext of a decoded host line. -/
def State.plainOf (s : State) (line d : Nat) (c : Code) : Option (Quad Sector) :=
  ((s.dom d).gen c.kgen).map fun k => hostCipher k.key c.seq line c.kgen c.d

/-- The tag of a decoded host line equals its slot (R382); a domain without integrity checks nothing. -/
def State.tagGood (s : State) (line d : Nat) (c : Code) : Bool :=
  if (s.dom d).integ then
    match (s.dom d).gen c.kgen with
    | some k => decide (hostTag k.key c.seq line d c.kgen c.epoch c.d = s.tagAt line)
    | none => false
  else ((s.dom d).gen c.kgen).isSome

/-- The next line of a running sweep: the lowest mapped line of the extent at or above the position (R392). -/
def State.sweepNext (s : State) (d : Nat) : Option Nat :=
  let x := s.dom d
  let e := (x.base + x.count) * 2 ^ 22
  if x.sweep = .running then
    (s.map.ent.find? fun p => decide (x.pos ≤ p.1 ∧ p.1 < e ∧ p.2.st = 1)).map fun p => p.1
  else none

/-- The domain whose running sweep has come to a line. -/
def State.sweeps (s : State) (line : Nat) : Option Nat :=
  if isHostLine line then
    match s.domOf line with
    | some d => if s.sweepNext d = some line then some d else none
    | none => none
  else none

/-- The sweep is done with a line. -/
def State.sweepPast (s : State) (d line : Nat) : State := s.setDom d { s.dom d with pos := line + 1 }

/-- A sweep encrypts a verified line under the current generation and places its copy; without a sequence or room the
line stays the next one (R392). -/
def State.sweepCopy (s : State) (g d a : Nat) (c : Code) (pt : Quad Sector) : State :=
  match s.drawSeq d g with
  | (t, none) => t
  | (t, some q) =>
    let x := t.dom d
    match x.gen x.cur with
    | none => t
    | some k =>
      let ct := hostCipher k.key q c.back x.cur pt
      let y : Code := { c with d := ct, seq := q, dom := d, kgen := x.cur }
      let tag := if x.integ then hostTag k.key q c.back d x.cur c.epoch ct else 0#64
      match t.placeCopy g .sweep a y tag with
      | some u => (u.count 0x604 0 1).sweepPast d c.back
      | none => t

/-- A sweep's read of its next line: a line of the current generation stays as it is, an old one is verified and copied,
and one that fails its check goes to reconstruction (R392, R383). -/
def State.sweepRead (s : State) (g d a : Nat) (c : Code) : State :=
  if !s.liveCopy a c.back c.seq || s.rd.reads.any (fun r => r.line == c.back && r.why == .sweep) then s
  else if c.kgen = (s.dom d).cur then s.sweepPast d c.back
  else if !s.mpresent 3 (c.back / 32) && (s.dom d).integ then s.wantTag (c.back / 32)
  else
    match s.plainOf c.back d c with
    | some pt =>
      if s.tagGood c.back d c then s.sweepCopy g d a c pt
      else
        let r : Rd := { Rd.fresh c.back d .sweep with
          st := .decoded, addr := a, seq10 := c.seq % 1024, code := some c }
        (s.setReads (s.rd.reads ++ [r])).toRecon r
    | none => s

/-- An upkeep or sweep copy read: a live or retained line is kept, another is dropped (R322). -/
def State.copyRead (s : State) (g a : Nat) (c : Code) : State :=
  let b := addrBlock a
  let live := s.liveCopy a c.back c.seq
  match (s.bolt (addrGroup a) b).owner with
  | some p =>
    if live || s.retainedCopy a c.back then
      match s.placeCopy g (procCopy p).1 a c 0#64 with
      | some t => t.count (procCopy p).2 0 1
      | none => s
    else s
  | none =>
    match s.sweeps c.back with
    | some d => s.sweepRead g d a c
    | none => s

/-- A line that an upkeep or sweep read could not decode at its first attempt gets a read of its own. -/
def State.upkeepFail (s : State) (n line : Nat) : State :=
  let e := s.entry line
  let x := s.bolt (addrGroup e.addr) (addrBlock e.addr)
  if e.st = 1 ∧ addrSkein e.addr = n ∧ isHostLine line then
    let d := (s.domOf line).getD 0
    let why : ReadWhy := if x.owner.isSome then .upkeep else if s.upk.rinse then .rinse else .sweep
    if x.owner.isNone ∧ !s.upk.rinse ∧ s.sweeps line ≠ some d then s
    else
      let r : Rd := { Rd.fresh line d why with st := .needData, addr := e.addr, seq10 := e.seq10 }
      (s.setReads (s.rd.reads ++ [r])).decodeFailed r
  else s

/-! ### The end of a read (R229, R235, R241, R383) -/

/-- Poison bits of the entry that the read followed. -/
def State.spOf (s : State) (r : Rd) : BitVec 4 :=
  let e := s.entry r.line
  if e.st = 1 ∧ e.addr = r.addr then e.sp else 0#4

/-- The staged lines that wait for the old line of a merge are completed with it (R195). -/
def State.mergeFill (s : State) (line : Nat) (d : Quad Sector) (sp : BitVec 4) : State :=
  (List.range 8).foldl State.settleGroup (s.updStaged (Staged.wants line) fun x => x.fill d sp)

/-- The decoded form of a line recovered by reconstruction: its metadata as the read found it, or, when the member never
decoded, the parts the map does not hold drawn from the free values. -/
def State.recoveredCode (s : State) (r : Rd) (pt : Quad Sector) : State × Code :=
  match r.code with
  | some c => (s, { c with d := (match (s.dom r.dom).gen c.kgen with
      | some k => hostCipher k.key c.seq r.line c.kgen pt
      | none => pt) })
  | none =>
    let v := s.draw
    let x := s.dom r.dom
    let k := if x.st = .rekeying then ofBool (v.2.getLsbD 48) else x.cur
    let q := r.seq10 + 1024 * (v.2.toNat % 2 ^ 38)
    let ct := match x.gen k with | some y => hostCipher y.key q r.line k pt | none => pt
    (v.1, { d := ct, back := r.line, seq := q, dom := r.dom, kgen := k, epoch := (s.entry r.line).epoch })

/-- Verified contents reach whoever waits for them. -/
def State.finishRead (s : State) (r : Rd) (d : Quad Sector) : State :=
  let sp := s.spOf r
  let s := (s.dropRead r.line r.same).count 0x407 (addrGroup r.addr) 1
  match r.why with
  | .merge _ => s.mergeFill r.line d sp
  | .demand => s.fillDone r.line d sp
  | .prefetch => s.fillDone r.line d sp
  | .sweep =>
    if s.sweeps r.line = some r.dom ∧ s.liveCopy r.addr r.line r.seq10 then
      let c := s.recoveredCode r d
      if c.2.kgen = (s.dom r.dom).cur then s.sweepPast r.dom r.line else (c.1).sweepCopy (addrGroup r.addr) r.dom r.addr c.2 d
    else s
  | _ => s

/-- A recovered line is rewritten through the UPKEEP bolt as a relocation (Table 6-4); a sweep's line is rewritten as its
copy under the new generation (R392). -/
def State.rewriteLine (s : State) (r : Rd) (pt : Quad Sector) : State :=
  if s.liveCopy r.addr r.line r.seq10 ∧ r.why ≠ .sweep then
    let c := s.recoveredCode r pt
    ((c.1).placeCopy (addrGroup r.addr) .recovery r.addr c.2 (s.tagAt r.line)).getD s
  else s

/-- TAG_RECOVERED and its count (R383). -/
def State.tagRecovered (s : State) (r : Rd) : State :=
  let s := (s.bump F.cryCntTagRecovered 1).count 0x405 (addrGroup r.addr) 1
  s.raiseN Ev.cryTagRecovered (r.dom * 2 ^ 40 + addrSkein r.addr * 2 ^ 16) r.line

/-- The tag line is rewritten, with the slot that the candidate line verifies against (R383). -/
def State.rewriteTag (s : State) (r : Rd) (pt : Quad Sector) : State :=
  let c := (s.recoveredCode r pt).2
  let tag := match (s.dom r.dom).gen c.kgen with
    | some k => hostTag k.key c.seq r.line r.dom c.kgen c.epoch c.d
    | none => s.tagAt r.line
  let s := s.setTag r.line tag
  let t := tagLineOf r.line
  let e := s.entry t
  if e.st = 1 then
    let d := bytesSectors (xtsEncrypt s.metaKeys.1 s.metaKeys.2 t (sectorBytes (s.tagLineData (t - tagBase))))
    (s.placeCopy (addrGroup e.addr) .recovery e.addr { d := d, back := t, seq := e.seq10, dom := 0, kgen := 0, epoch := false }
      0#64).getD s
  else s

/-- Source of a halt (Table 11-7). -/
def haltSrc : ReadWhy → Nat
  | .merge _ => 1
  | .scan => 3
  | .sweep => 4
  | .upkeep => 2
  | .rinse => 2
  | _ => 0

/-- The halt of an integrity failure, under the domain's scope (R384). -/
def State.integrityHalt (s : State) (r : Rd) : State :=
  s.startHalt (!(s.dom r.dom).haltDom) (haltSrc r.why) r.line r.dom (addrSkein r.addr)

/-- An unrecoverable line is made LOST, and the fault manager receives the stripe (R241). -/
def State.unrecoverable (s : State) (r : Rd) : State :=
  let s := (s.dropRead r.line r.same).makeLost r.dom r.line .internal
  let s := s.reportLine r.addr
  match r.why with
  | .demand | .prefetch =>
    let s := if r.timedOut then s.gme 2 r.line 0 0 true 1 else s
    s.fillPoison r.line (if r.timedOut then none else some (2, 0, true))
  | .scan => s.gme 2 r.line 0 0 true 2
  | _ => s

/-! ### Merge reads (R197) -/

/-- The staged line that waits for a merge. -/
def State.waiting (s : State) (line : Nat) : Option (Nat × Staged) :=
  (s.stagedCopies line).find? fun p => p.2.wants line

/-- PLY_ERR_INFO of a merge. -/
def mergeInfo (r : Rd) : Nat := r.dom * 2 ^ 32 + addrSkein r.addr % 16 * 2 ^ 24

/-- The outcome of a merge read. -/
def State.mergeDone (s : State) (r : Rd) (g : Nat) (res : MergeResult) : State :=
  let quad (l : List Nat) : Quad Sector :=
    ⟨BitVec.ofNat 512 (l.getD 0 0), BitVec.ofNat 512 (l.getD 1 0), BitVec.ofNat 512 (l.getD 2 0), BitVec.ofNat 512 (l.getD 3 0)⟩
  match res with
  | .verified l => s.finishRead r (quad l)
  | .reconstructed l =>
    let s := (s.bump (F.plyMergeCntMergeRecovered g) 1).raiseN (Ev.plyMergeRecovered g) (mergeInfo r) r.line
    (s.reportLine r.addr).finishRead r (quad l)
  | .lost =>
    let have_ : BitVec 4 := match s.waiting r.line with | some (_, x) => ~~~x.missing &&& ~~~x.sp | none => 0#4
    let s := s.unrecoverable r
    let s := (List.range 4).foldl (fun t k => if have_.getLsbD k then t.unpoisonSector r.line k else t) s
    s.mergeFill r.line (Quad.all 0#512) 0xF#4
  | .notVerified =>
    match s.waiting r.line with
    | none => s.dropRead r.line r.same
    | some (_, x) =>
      let s := (s.dropRead r.line r.same).quarantine r.line r.dom x.d (~~~x.missing) g
      let s := (s.bump (F.plyMergeCntMergeFail g) 1).raiseN (Ev.plyMergeFail g) (mergeInfo r) r.line
      let s := s.integrityHalt r
      if (s.dom r.dom).haltDom then
        (s.poisonMask r.line x.missing .internal).mergeFill r.line (Quad.all 0#512) 0xF#4
      else
        s.updStaged (Staged.wants r.line) fun y =>
          { y with kind := .filler, missing := 0#4, enc := true, recorded := true, line := fillerBack, d := Quad.all 0#512 }

/-- MERGE_READ_DONE (R197). An integrity failure needs a domain whose integrity is on. -/
def execMergeReadDone (line : Nat) (result : MergeResult) (s : State) : Host.Outcome State Fault Refusal :=
  done (s.when s.pwr.coreOn fun s =>
    match s.rd.reads.find? fun r => decide (r.line = line) && (match r.why with | .merge _ => true | _ => false) with
    | none => s
    | some r =>
      match r.why with
      | .merge g => if result = .notVerified ∧ !(s.dom r.dom).integ then s else s.mergeDone r g result
      | _ => s)

/-! ### Verification and reconstruction (R235, R382, R383) -/

/-- LINE_VERIFY: the decoded line and its tag are present. -/
def execLineVerify (line : Nat) (s : State) : Host.Outcome State Fault Refusal :=
  done (s.when s.pwr.coreOn fun s =>
    match s.rd.reads.find? fun r => decide (r.line = line) && r.st == .decoded && r.code.isSome with
    | none => s
    | some r =>
      match r.code with
      | none => s
      | some c =>
        let integ := (s.dom r.dom).integ
        if integ && !s.mpresent 3 (line / 32) then s
        else
          let bad := integ && s.injRead [3, 4] r.addr
          let s := if integ && s.injRead [3] r.addr then s.injFire else s
          match s.plainOf line r.dom c with
          | some pt => if s.tagGood line r.dom c && !bad then s.finishRead r pt else s.toRecon r
          | none => s.toRecon r)

/-- A merge read's reconstruction, in the words of R197. -/
def mergeOutcome : ReconResult → MergeResult
  | .verified l => .reconstructed l
  | .tagRecovered l => .reconstructed l
  | .integrity => .notVerified
  | .unrecoverable => .lost

/-- The outcome of a reconstruction that does not serve a merge. -/
def State.reconDone (s : State) (r : Rd) (res : ReconResult) : State :=
  let quad (l : List Nat) : Quad Sector :=
    ⟨BitVec.ofNat 512 (l.getD 0 0), BitVec.ofNat 512 (l.getD 1 0), BitVec.ofNat 512 (l.getD 2 0), BitVec.ofNat 512 (l.getD 3 0)⟩
  match res with
  | .verified l =>
    let s := if r.code.isSome then (s.tagRecovered r).reportLine r.addr else s
    let s := if r.rewrite then s.rewriteLine r (quad l) else s
    s.finishRead r (quad l)
  | .tagRecovered l =>
    let s := ((s.tagRecovered r).reportLine r.addr).rewriteTag r (quad l)
    s.finishRead r (quad l)
  | .integrity =>
    let s := s.dropRead r.line r.same
    let s := match r.why with
      | .demand | .prefetch => s.fillPoison r.line (some (2, 2, false))
      | _ => s
    s.integrityHalt r
  | .unrecoverable => s.unrecoverable r

/-- RECONSTRUCTION_DONE (Table 6-4). -/
def execReconstructionDone (line : Nat) (result : ReconResult) (s : State) : Host.Outcome State Fault Refusal :=
  done (s.when s.pwr.coreOn fun s =>
    match s.rd.reads.find? fun r => decide (r.line = line ∧ r.st ≠ .needMap) && (r.st == .recon || s.memberGone r.addr) with
    | none => s
    | some r =>
      let forced := s.injRead [4] r.addr && r.code.isSome
      let s := if forced then s.injFire else s
      let res := if forced then ReconResult.integrity else result
      if res = .integrity ∧ !(s.dom r.dom).integ then s
      else
        match r.why with
        | .merge g => s.mergeDone r g (mergeOutcome res)
        | _ => s.reconDone r res)

/-- POISON_TIMER (R240, R241): the read and what is attached complete with poison; recovery goes on. -/
def execPoisonTimer (line : Nat) (s : State) : Host.Outcome State Fault Refusal :=
  done (s.when s.pwr.coreOn fun s =>
    match s.rd.reads.find? fun r => decide (r.line = line) && r.forFill && r.armed.isSome && !r.timedOut with
    | none => s
    | some r =>
      let s := s.updRead line r.same fun x => { x with timedOut := true }
      match s.mshrOf line with
      | none => s
      | some e =>
        let s := s.updMshr line fun x => { x with reqs := [] }
        let s := match e.reqs.head? with | some q => s.gme 1 line q.sec 0 false 1 | none => s
        s.poisonAll e.reqs)

/-! ### Link failures (R298, R299) -/

/-- One link failure: counted, in its one-second window and in its row. -/
def State.linkFailure (s : State) (n : Nat) (nak : Bool) : State :=
  let s := (s.bump (if nak then F.sknLinkCntDnNaks n else F.sknLinkCntUpFails n) 1).count 0x528 n 1
  let x := s.link1 n
  let fresh := decide (x.winStart + 1000000000 ≤ s.time.upNs)
  let k := if fresh then 1 else x.winFails + 1
  let was := !fresh && x.winDone
  let past := decide (s.fld (F.sknLinkCfgCrcThresh n) < k)
  let s := s.setLink1 n { x with winFails := k, winStart := if fresh then s.time.upNs else x.winStart, winDone := was || past
                                 row := x.row + 1 }
  let s := if past ∧ !was then (s.raise (Ev.sknCrcThresh n)).report (resSkein n) .link 0 else s
  if s.fld (F.sknLinkCfgNakRetrain n) ≤ x.row + 1 ∧ (s.link1 n).st = .active then s.enterRetrain n else s

/-- A frame that passed its checks ends a row of failed ones. -/
def State.goodFrame (s : State) (n : Nat) : State := s.setLink1 n { s.link1 n with row := 0 }

/-- A NAK: the operation of the frame is granted again (R298). -/
def State.nakFrame (s : State) (n : Nat) (f : DnFrame) : State :=
  let w := s.warp1 n
  let s := match f.op with
    | some o => s.setWarp1 n { w with frames := w.frames.erase f, dn := o :: w.dn
                                      ops := w.ops.filter fun p => p.1 != f.slot }
    | none => s.setWarp1 n { w with frames := w.frames.erase f }
  s.linkFailure n true

/-! ### Completions (R204, R209, R295, R318) -/

/-- The outstanding operation of a skein that a completion ends. -/
def State.takeOp (s : State) (n : Nat) (p : DnOp → Bool) : Option (State × Nat × DnOp) :=
  let w := s.warp1 n
  match w.ops.find? fun x => p x.2 with
  | some x => some (s.setWarp1 n { w with ops := w.ops.erase x }, x.1, x.2)
  | none => none

/-- SKN_ERR_INFO of a completion: the slot and the partition. -/
def complInfo (slot part : Nat) : Nat := part % 32 * 2 ^ 16 + slot % 128 * 2 ^ 8

/-- A program of a stripe's member ended. The third failure closes the bolt early at its stripe (R209). -/
def State.programDone (s : State) (g b idx i : Nat) (slot : Nat) (o : DnOp) (ok : Bool) : State :=
  let n := 16 * g + i
  match (s.group g).stripes.find? fun t => decide (t.block = b ∧ t.idx = idx) with
  | none => s
  | some t =>
    if ok then ((s.updStripe g b idx fun u => { u with done := u.done ||| (1#16 <<< i) }).count 0x52A n 1).sealStripe g b idx
    else
      let s := s.raiseN (Ev.sknProgramFail n) (complInfo slot idx) (o.addr % 2 ^ 31)
      let k := t.fails / 4 ^ i % 4
      if k < 2 then
        (s.updStripe g b idx fun u => { u with fails := u.fails + 4 ^ i }).pushDn n o
      else (s.closeStripe g t).programError n b

/-- A reset of a bolt's member ended (R318). -/
def State.blockReset (s : State) (g b i : Nat) (slot : Nat) (ok : Bool) : State :=
  let n := 16 * g + i
  let x := s.bolt g b
  if x.st ≠ .resetting then s
  else if ok then ((s.setBolt g b { x with resetOk := x.resetOk ||| (1#16 <<< i) }).count 0x52B n 1).resetDone g b
  else
    let s := s.raiseN (Ev.sknResetFail n) (complInfo slot 0) (b * 2 ^ 14)
    (s.countErr .media).queueTest (resBlock n b) b 2

/-- An armed injection makes the completion FAIL (Table 10-9, kinds 5 and 6). -/
def State.injOp (s : State) (kind n b off : Nat) : Bool :=
  match s.flt.inj with
  | some i => decide (i.kind = kind ∧ i.res = resBlock n b ∧ (kind = 6 ∨ i.addr = off ∨ i.addr = 2 ^ 31 - 1))
  | none => false

/-- A completed PROGRAM. -/
def State.complProgram (s : State) (n g b idx i : Nat) (ok : Bool) : State :=
  if n ≠ 16 * g + i then s
  else
    match s.takeOp n fun o => (o.kind == .programDense || o.kind == .programSingle) && decide (o.addr = mkAddr n b idx) with
    | none => s
    | some (t, slot, o) =>
      let inj := ok && t.injOp 5 n b idx
      let t := if inj then t.injFire else t
      t.programDone g b idx i slot o (ok && !inj)

/-- A completed RESET. -/
def State.complReset (s : State) (n g b i : Nat) (ok : Bool) : State :=
  if n ≠ 16 * g + i then s
  else
    match s.takeOp n fun o => o.kind == .reset && decide (o.addr = b) with
    | none => s
    | some (t, slot, _) =>
      let inj := ok && t.injOp 6 n b 0
      let t := if inj then t.injFire else t
      t.blockReset g b i slot (ok && !inj)

/-! ### Selvage copies and Rinse (R160, R338) -/

/-- A Selvage copy failed decode: it is rewritten from another copy; its second failure within 24 h is reported (R160). -/
def State.selvageFailed (s : State) (n l : Nat) : State :=
  let b := decide (s.copySkein l false ≠ n)
  let q := s.slotQ l b
  let part := resPart n (q / 2 ^ 19) (q % 32)
  let slot : Res := ⟨9, 2 * l + ofBool b⟩
  let s := s.addBucket slot 4 1
  let s := (s.regionWrite l b).raiseN Ev.mapSlvRepaired 0 l
  if 2 ≤ s.last24 slot 4 then s.report part .media 0 else s

/-- A Rinse read of a Selvage line: counted against its triple (R338). -/
def State.rinseSelvage (s : State) (n b corr : Nat) (ok : Bool) : State :=
  let k := tripleKey n (b / 8192) (b % 8192 / 3)
  let x := s.triple k
  if !ok then s.setTriple k { x with corr := min 255 (x.corr + 1), recon := true }
  else if s.fld F.upkRinseCfgCorrBits ≤ corr then s.setTriple k { x with corr := min 255 (x.corr + 1) }
  else s

/-- A Rinse read of a bolt (R338). -/
def State.rinseRead (s : State) (n g b corr : Nat) (ok : Bool) : State :=
  if !s.upk.rinse ∨ s.upk.unknown then s
  else if selvageBlock b then (s.count 0x605 0 1).rinseSelvage n b corr ok
  else
    let s := s.count 0x605 0 1
    let x := s.bolt g b
    if x.st ≠ .sealed ∧ x.st ≠ .victim then s
    else if !ok then s.setBolt g b { x with corr := min 255 (x.corr + 1), recon := true }
    else if s.fld F.upkRinseCfgCorrBits ≤ corr then s.setBolt g b { x with corr := min 255 (x.corr + 1) }
    else s

/-! ### The commands -/

/-- The line that a frame returns, when it returns one. -/
def frameLine : UpFrame → Option Nat
  | .decoded l _ _ _ _ _ _ _ => some l
  | .undecoded l => some l
  | .mediaErr l => some l
  | .cancelled l => some l
  | .badFcrc l => l
  | _ => none

/-- Four sectors of a frame. -/
def frameData (l : List Nat) : Quad Sector :=
  ⟨BitVec.ofNat 512 (l.getD 0 0), BitVec.ofNat 512 (l.getD 1 0), BitVec.ofNat 512 (l.getD 2 0), BitVec.ofNat 512 (l.getD 3 0)⟩

/-- A die that does not answer, or answers MEDIA_ERR (Table 10-2). -/
def State.mediaErr (s : State) (n line : Nat) : State :=
  match s.activeRead n line with
  | none => s
  | some r =>
    let s := s.raiseN (Ev.sknMediaErr n) (addrOff r.addr % 32 * 2 ^ 16) (r.addr % 2 ^ 31)
    (s.report (resDie n (addrBlock r.addr / 8192)) .media (addrBlock r.addr)).readLost r

/-- An upstream frame that failed FCRC: the read it answered is lost. -/
def State.upFcrc (s : State) (n : Nat) (line : Option Nat) : State :=
  let s := s.linkFailure n false
  match line with
  | some l => match s.activeRead n l with
    | some r => s.readLost r
    | none => s
  | none => s

/-- A line that the package sent, with what an injection makes of it. -/
def State.lineFrame (s : State) (n line corr : Nat) (c : Option Code) : State :=
  match s.activeRead n line with
  | none => match c with
    | some _ => s
    | none => s.upkeepFail n line
  | some r =>
    if s.injDie r.addr then s.mediaErr n line
    else
      let s := s.count 0x525 n corr
      let inj := (r.st == .needData && s.injRead [1, 2] r.addr) || (r.st == .reread && s.injRead [2] r.addr)
      let s := if (r.st == .needData && s.injRead [1] r.addr) || (r.st == .reread && s.injRead [2] r.addr) then s.injFire else s
      match c with
      | some x => if inj then s.decodeFailed r else s.decodedRead r x
      | none => s.decodeFailed r

/-- One content of an upstream frame (R294). -/
def State.upFrame (s : State) (n : Nat) (f : UpFrame) : State :=
  match f with
  | .decoded line data back seq dom kgen epoch corr =>
    (s.goodFrame n).lineFrame n line corr (some ⟨frameData data, back, seq, dom, kgen, epoch⟩)
  | .undecoded line => (s.goodFrame n).lineFrame n line 0 none
  | .selvageRepair l => (s.goodFrame n).selvageFailed n l
  | .rinse g b corr ok => ((s.goodFrame n).count 0x525 n corr).rinseRead n g b corr ok
  | .copyRead g a data back seq dom kgen epoch =>
    if addrSkein a = n ∨ s.memberGone a then (s.goodFrame n).copyRead g a ⟨frameData data, back, seq, dom, kgen, epoch⟩ else s
  | .program g b stripe member r => (s.goodFrame n).complProgram n g b stripe member (r == .ok)
  | .reset g b member r => (s.goodFrame n).complReset n g b member (r == .ok)
  | .mediaErr line => (s.goodFrame n).mediaErr n line
  | .cancelled line => match s.activeRead n line with | some r => s.readLost r | none => s
  | .duplicate => s.goodFrame n
  | .nak slot =>
    match (s.warp1 n).frames.find? fun x => decide (x.slot % 128 = slot) with
    | some x => s.nakFrame n x
    | none => s.linkFailure n true
  | .badFcrc line => s.upFcrc n line
  | .badScrc => s.linkFailure n false
  | .sys _ => s.goodFrame n
  | .idle => s.goodFrame n

/-- UPSTREAM_FRAME (R294). -/
def execUpstreamFrame (n : Nat) (f : UpFrame) (s : State) : Host.Outcome State Fault Refusal :=
  done (s.when (s.pwr.coreOn && (s.link1 n).st == .active) fun s =>
    if s.injOn 8 (resSkein n) then s.injFire.upFcrc n (frameLine f) else s.upFrame n f)

/-- DOWNSTREAM_FRAME_ACCEPTED (R297): the oldest kept frame drew no NAK; injection kind 7 makes it draw one. -/
def execDownstreamFrameAccepted (n : Nat) (s : State) : Host.Outcome State Fault Refusal :=
  done (s.when s.pwr.coreOn fun s =>
    match (s.warp1 n).frames with
    | [] => s
    | f :: fs =>
      if s.injOn 7 (resSkein n) then s.injFire.nakFrame n f
      else (s.setWarp1 n { s.warp1 n with frames := fs }).goodFrame n)

/-- COMPLETION_TIMEOUT (R295): the line is read back; found, it counts as programmed. -/
def execCompletionTimeout (n slot : Nat) (found : Bool) (s : State) : Host.Outcome State Fault Refusal :=
  done (s.when s.pwr.coreOn fun s =>
    match (s.warp1 n).ops.find? fun x => decide (x.1 % 128 = slot) with
    | none => s
    | some x =>
      match x.2.kind with
      | .reset => s.complReset n (n / 16) x.2.addr (n % 16) found
      | .sys => s
      | _ => s.complProgram n (n / 16) (addrBlock x.2.addr) (addrOff x.2.addr) (n % 16) found)

end Sys2Proof.Machine
end

