-- ==== Sys2Proof/Machine/LineMap.lean ====
section
/-!
DEFINITION. The Line Map at work: records of sealed stripes, the journal, checkpoints, the map cache's fills and cleaner,
prefetch, start-gap moves, rebuilt Selvage lines, recovery and first format (R157, R162 to R187, R205, R213, R223).
-/
namespace Sys2Proof.Machine

/-! ### Stripes and records (R205, R207, R213, R223) -/

/-- Open stripes of a group that hold a line. -/
def State.openHeld (s : State) (g : Nat) : List Stripe := (s.group g).stripes.filter fun t => t.isOpen && t.lines != []

/-- STRIPE_TIMEOUT (R205): the stripe whose first line is oldest is completed with filler lines. -/
def execStripeTimeout (g : Nat) (s : State) : Host.Outcome State Fault Refusal :=
  done (s.when s.pwr.coreOn fun s =>
    match (s.openHeld g).find? fun t => decide (t.first + s.fld (F.plyCfgStripeTimeout g) ≤ s.time.pick) with
    | none => s
    | some t => s.pad g t)

/-- PLY_CTL.PAD_NOW (R205). -/
def execPadNow (h g : Nat) (s : State) : Host.Outcome State Fault Refusal :=
  done (s.barWrite h (F.plyCtlPadNow g).off fun s => (s.openHeld g).foldl (fun t x => t.pad g x) s)

/-- PLY_CTL.ADMIT_OFF (R213). -/
def execPlyAdmitOff (h g : Nat) (value : Bool) (s : State) : Host.Outcome State Fault Refusal :=
  done (s.barWrite h (F.plyCtlAdmitOff g).off fun s => s.setFld (F.plyCtlAdmitOff g) (ofBool value))

/-- PLY_CTL.CNT_CLR (R223). -/
def execPlyCntClr (h g : Nat) (s : State) : Host.Outcome State Fault Refusal :=
  done (s.barWrite h (F.plyCtlCntClr g).off fun s =>
    ((s.setReg (F.plySealCntStripes g).off 0#64).setReg (F.plyPadCntFillerLines g).off 0#64).setReg
      (F.plyMergeCntMergeReads g).off 0#64)

/-- MAP_RECORD_APPEND (R177, R206, R207): the records of the next sealed stripe of the group. -/
def execMapRecordAppend (g : Nat) (s : State) : Host.Outcome State Fault Refusal :=
  done (s.when (s.pwr.coreOn && decide (s.map.st = .active)) fun s =>
    match s.nextSealed g with
    | none => s
    | some t => (s.recordStripe g t).nextCkpt)

/-- MAP_DIRTY_WAIT_RESUME (R166): the stripe held longest at the dirty limit goes on; while it still must wait it is held
again. -/
def execMapDirtyWaitResume (s : State) : Host.Outcome State Fault Refusal :=
  done (s.when (s.pwr.coreOn && decide (s.map.st = .active)) fun s =>
    match s.map.dirtyHeld with
    | [] => s
    | (g, b) :: rest =>
      let s := { s with map := { s.map with dirtyHeld := rest } }
      match (s.group g).stripes.find? fun t => t.sealed && t.block == b with
      | none => s
      | some t =>
        match s.nextSealed g with
        | none => s
        | some u => s.recordStripe g (if u.block = b then u else t))

/-! ### The journal (R176, R181) -/

/-- JOURNAL_LINE_TIMEOUT (R176). -/
def execJournalLineTimeout (s : State) : Host.Outcome State Fault Refusal :=
  done (s.when s.pwr.coreOn State.writeJnl)

/-- JOURNAL_LINE_DURABLE (R176, R181). -/
def execJournalLineDurable (s : State) : Host.Outcome State Fault Refusal :=
  done (s.when s.pwr.coreOn State.jnlDurable)

/-! ### Checkpoints (R179) -/

/-- CHECKPOINT_RECORD_COUNT. -/
def execCheckpointRecordCount (s : State) : Host.Outcome State Fault Refusal :=
  done (s.when (s.pwr.coreOn && decide (s.map.st = .active ∧ 2 ^ s.fld F.mapJnlCfgCkptRecordsLog2 ≤ s.map.recsSince))
    State.startCkpt)

/-- CHECKPOINT_PERIOD. -/
def execCheckpointPeriod (s : State) : Host.Outcome State Fault Refusal :=
  done (s.when (s.pwr.coreOn && decide (s.map.st = .active ∧ 1 ≤ s.map.recsSince)) State.startCkpt)

/-- MAP_CTL.CKPT_NOW. -/
def execCkptNow (h : Nat) (s : State) : Host.Outcome State Fault Refusal :=
  done (s.barWrite h F.mapCtlCkptNow.off fun s => if s.map.st = .active then s.startCkpt else s)

/-- CHECKPOINT_DONE: the running checkpoint, whose write-backs and records are durable, completes. The checkpoint of a flush
completes with the flush. -/
def execCheckpointDone (s : State) : Host.Outcome State Fault Refusal :=
  done (s.when (s.pwr.coreOn && decide (s.map.st = .active) && s.wp.flush.isNone) fun s =>
    match s.map.ckpt with
    | none => s
    | some c => if s.ckptReady c.x then (s.finishCkpt c.x false).nextCkpt else s)

/-- MAP_CTL.CNT_CLR (R188). -/
def execMapCntClr (h : Nat) (s : State) : Host.Outcome State Fault Refusal :=
  done (s.barWrite h F.mapCtlCntClr.off fun s => s.setReg F.mapErrCntEntryCheck.off 0#64)

/-! ### Fills of the map cache (R152, R167, R168, R241) -/

/-- What waits for map line `m` looks it up again: reads of its lines, and staged lines that lack sectors. -/
def State.mapReady (s : State) (m : Nat) : State :=
  let rs := s.rd.reads.filter fun r => decide (r.st = .needMap ∧ r.line / 32 = m)
  let s := rs.foldl (fun t r => if r.forFill then t.resolveFill r.line else t) s
  let lines := (List.range 8).flatMap fun g => (s.group g).stripes.flatMap fun t =>
    t.lines.filterMap fun x => if decide (x.line / 32 = m) && x.wants x.line then some x.line else none
  lines.foldl (fun t l => t.completeLine l) s

/-- The fill leaves the table and the line is present. -/
def State.fillIn (s : State) (kind idx : Nat) : State :=
  ({ s with map := { s.map with fills := s.map.fills.filter fun f => !(decide (f.kind = kind ∧ f.idx = idx)) } } : State).minstall
    kind idx

/-- Map lines and tag lines whose waiting fills turn out never written, once their directory or internal-map line is there. -/
def State.unwrittenFills (s : State) (kind idx : Nat) : List Nat :=
  s.map.fills.filterMap fun f =>
    if kind = 1 then
      if f.kind = 0 ∧ f.idx / 51 = idx ∧ s.dirAt f.idx = none then some f.idx else none
    else if f.kind = 3 ∧ f.idx / 32 = idx ∧ (s.entry (tagBase + f.idx)).st = 0 then some f.idx else none

/-- A filled line of each kind, and what it sets free. -/
def State.mapFilled (s : State) (kind idx : Nat) : State :=
  let s := s.fillIn kind idx
  match kind with
  | 0 => s.mapReady idx
  | 1 => (s.unwrittenFills 1 idx).foldl (fun t m => (t.fillIn 0 m).mapReady m) s
  | 2 => (s.unwrittenFills 2 idx).foldl (fun t i => t.fillIn 3 i) s
  | _ => s

/-- The Selvage line of a directory or internal-map line (R154, R155). -/
def State.slvLine (s : State) (kind idx : Nat) : Nat := if kind = 1 then idx else s.intmapBase + idx

/-- No copy of the line could be read: a directory or internal-map line waits for its rebuild (R162), a map or tag line makes
LOST what it covers (R241). -/
def State.fillFailed (s : State) (kind idx : Nat) : State :=
  match kind with
  | 0 => ((s.fillIn 0 idx).loseCovered idx).mapReady idx
  | 3 =>
    let l := tagBase + idx
    let s := s.fillIn 3 idx
    let s := s.mapRec 0 l false none { Entry.lost with epoch := (s.entry l).epoch }
    (s.raiseN Ev.mapLineLost 0 l).loseCovered idx
  | k =>
    let l := s.slvLine k idx
    if s.map.dirLost.contains l then s
    else
      ({ s with map := { s.map with dirLost := s.map.dirLost ++ [l] } } : State).raiseN
        Ev.mapSlvLost 0 (mapKey k idx)

/-- The line that locates a map or tag line is present, and says where it is. -/
def State.fillCan (s : State) (kind idx : Nat) : Bool :=
  s.map.fills.any (fun f => decide (f.kind = kind ∧ f.idx = idx)) &&
    (match kind with
     | 0 => s.mpresent 1 (idx / 51)
     | 3 => s.mpresent 2 (idx / 32)
     | k => !s.map.dirLost.contains (s.slvLine k idx))

/-- MAP_FILL (R167). -/
def execMapFill (kind idx : Nat) (ok : Bool) (s : State) : Host.Outcome State Fault Refusal :=
  done (s.when (s.pwr.coreOn && decide (s.map.st = .active) && s.fillCan kind idx) fun s =>
    if ok then s.mapFilled kind idx else s.fillFailed kind idx)

/-- DIR_REBUILD_DONE (R162): the rebuilt line goes in, and reads that waited for it go on. -/
def execDirRebuildDone (line : Nat) (s : State) : Host.Outcome State Fault Refusal :=
  done (s.when (s.pwr.coreOn && s.map.dirLost.contains line) fun s =>
    let kind := if line < s.intmapBase then 1 else 2
    let idx := if line < s.intmapBase then line else line - s.intmapBase
    let s := { s with map := { s.map with dirLost := s.map.dirLost.filter fun l => l != line } }
    (s.mapFilled kind idx).raiseN Ev.mapDirRebuildDone 0 (mapKey kind idx))

/-! ### The cleaner (R166, R177, Table 5-2) -/

/-- The dirty line the cleaner takes next: of a full set while a record waits for it, else the oldest change. Write-ahead: every
record that changed it is durable. -/
def State.mclean (s : State) : Option MSlot :=
  let cand := s.map.cached.filter fun x => x.dirty && decide (x.newest ≤ s.map.durJsn)
  let full := if s.map.dirtyHeld = [] then [] else cand.filter fun x => decide (4 ≤ s.mdirtySet x.set)
  let due := s.map.ckpt.isSome || s.wp.flush.isSome || s.tagsWanted || decide (s.fld F.mapCacheCfgCleanPct * 131072 ≤ 100 * s.mdirty)
  let l := if full ≠ [] then full else if due then cand else []
  l.foldl (fun b x => match b with | some y => if x.oldest < y.oldest then some x else some y | none => some x) none

/-- The ply group of a map or tag line: M mod P, or the next that can take it (R151). -/
def State.metGroup (s : State) (m : Nat) : Option Nat :=
  ((List.range s.popP).map fun i => (m + i) % max 1 s.popP).find? fun g =>
    !(s.group g).stopped && !(s.group g).islandReset && s.hasRoom g .met

/-- A cached map or tag line is clean. -/
def State.mcleaned (s : State) (x : MSlot) : State := s.mupdate x.kind x.idx fun y => { y with dirty := false, oldest := 0 }

/-- A map or tag line as staging takes it, under write sequence `q`. -/
def State.stagedMap (s : State) (x : MSlot) (q : Nat) : Staged :=
  if x.kind = 0 then
    { Staged.filler with kind := .mapLine, line := x.idx, d := s.mapLineData x.idx, seq := q, recorded := false }
  else { Staged.filler with kind := .tagLine, line := tagBase + x.idx, d := s.tagLineData x.idx, seq := q, recorded := false }

/-- A write-back: the line is clean from its start on; map and tag lines go into a metadata bolt, the others straight to the
Selvage. -/
def State.writeBackMap (s : State) (x : MSlot) : State :=
  if x.kind = 1 then (s.mcleaned x).selvage (s.slvLine 1 x.idx) 1
  else if x.kind = 2 then (s.mcleaned x).selvage (s.slvLine 2 x.idx) 2
  else
    match s.metGroup x.idx with
    | none => s
    | some g =>
      match s.drawMeta with
      | (t, q) =>
        match t.place g .met (s.stagedMap x q) with
        | none => s
        | some u => u.mcleaned x

/-- MAP_CLEANER. -/
def execMapCleaner (s : State) : Host.Outcome State Fault Refusal :=
  done (s.when (s.pwr.coreOn && decide (s.map.st = .active)) fun s =>
    match s.mclean with
    | none => s
    | some x => s.writeBackMap x)

/-! ### Map prefetch (R170, R171) -/

/-- MAP_PREFETCH: a queued prefetch whose skein's MET turn comes soon enough, with no demand MET read waiting there. -/
def execMapPrefetch (m : Nat) (s : State) : Host.Outcome State Fault Refusal :=
  done (s.when (s.pwr.coreOn && s.map.pfq.any (fun p => p.1 == m)) fun s =>
    match s.dirAt m with
    | none => s
    | some a =>
      let n := addrSkein a
      if s.fld F.mapPfCfgHintMax < s.turnHint n clsMet true ∨ (s.warp1 n).rq.any (fun r => r.cls == clsMet && !r.pf) then s
      else
        let s := { s with map := { s.map with pfq := s.map.pfq.filter fun p => p.1 != m } }
        (s.mfetch 0 m).count 0x303 0 1)

/-- MAP_PREFETCH_DROP: a prefetch not served within one Pick. -/
def execMapPrefetchDrop (m : Nat) (s : State) : Host.Outcome State Fault Refusal :=
  done (s.when s.pwr.coreOn fun s =>
    { s with map := { s.map with pfq := s.map.pfq.filter fun p => !(decide (p.1 = m ∧ p.2 < s.time.pick)) } })

/-! ### Start-gap moves (R157) -/

/-- SG_GAP_MOVE. -/
def execSgGapMove (n half : Nat) (s : State) : Host.Outcome State Fault Refusal :=
  let r := s.region n half
  done (s.when (s.pwr.coreOn && s.populated n && decide (half < 2 ∧ s.fld F.mapSgCfgPsi ≤ r.writes) && !r.moving && !r.frozen)
    fun s => s.setRegion n half { r with moving := true })

/-- GAP_MOVE_DONE: START and GAP take their new values. -/
def execGapMoveDone (n half : Nat) (s : State) : Host.Outcome State Fault Refusal :=
  let r := s.region n half
  done (s.when (s.pwr.coreOn && r.moving) fun s =>
    let gap := s.gapOf r
    let r2 : Region := if 0 < gap then { r with gap := some (gap - 1), writes := 0, moving := false }
      else { r with gap := none, start := (r.start + 1) % s.rows, writes := 0, moving := false }
    (s.setRegion n half r2).bump F.mapSgCfgMoves 1)

/-! ### Loss of the core and recovery (R183 to R187) -/

/-- A record that never became durable is taken back: what it replaced stands again. -/
def State.unrecord (s : State) (r : JRec) : State :=
  let s := r.old.foldl (fun t p => (t.setEntry p.1 p.2.1).setTag p.1 p.2.2) s
  if r.kind = JKind.dir then s.setDir r.line r.oldDir else s

/-- The core loses its tables: records not yet durable are gone with it, newest first. -/
def State.mapDown (s : State) : State :=
  let gone := s.map.jlines.flatten ++ s.map.jbuf
  let s := gone.reverse.foldl State.unrecord s
  { s with map := { s.map with
      st := .off, cached := [], plru := [], fills := [], dirtyHeld := [], pfq := [], jbuf := [], jlines := [], dirLost := []
      ckpt := none, nextJsn := s.map.durJsn + 1, recsSince := 0
      regions := Tab.mapVals (fun _ => Region.fresh) (fun _ r => { r with moving := false }) s.map.regions } }

/-- The bolt table as the last checkpoint saved it, with the retirement table in force: a VICTIM is SEALED again, a RESETTING
bolt is EMPTY again, and sealed bolts are AGE_UNKNOWN (R244, R319, R332). -/
def State.loadImage (s : State) : State :=
  let fix (k : Nat) (b : Bolt) : Bolt :=
    let m := s.usable (k / 131072) (k % 131072)
    let b := { b with proc := none, pressQ := b.pressQ, late := false, recon := false, resetOk := 0#16 }
    match b.st with
    | .sealed | .victim =>
      { b with st := .sealed, ageUnk := true, members := b.members &&& m
               degraded := b.degraded || decide (b.members &&& ~~~m ≠ 0#16) }
    | .resetting => { b with st := .empty, members := b.members &&& m }
    | .free => { b with members := b.members &&& m }
    | _ => b
  { s with
    upk := { s.upk with
      bolts := Tab.mapVals (fun _ => Bolt.fresh) fix s.upk.img
      triples := Tab.mapVals (fun _ => { Triple.fresh with clk := s.upk.imgBase }) (fun _ t => { t with probed := false })
        s.upk.imgT
      tripBase := s.upk.imgBase, clk := s.upk.imgClk, clkAt := s.time.opNs, shot := none
      unknown := true, probing := [] }
    rd := { s.rd with ageUnknown := true, provOff := 0, poison := s.rd.saved } }

/-- A discovered package has fewer dies than the format uses: the format record does not match the population. -/
def State.fmtMismatch (s : State) : Bool :=
  match s.map.fmt with
  | none => false
  | some f => (List.range (16 * f.p)).any fun n => decide (0 < (s.link1 n).dies ∧ (s.link1 n).dies < f.d)

/-- LINE_MAP_LOADED (R180, R184): the anchor in force has CLEAN = 0 from now on. -/
def execLineMapLoaded (s : State) : Host.Outcome State Fault Refusal :=
  done (s.when (s.pwr.coreOn && decide (s.map.st = .loading)) fun s =>
    match s.map.anchor with
    | none => ({ s with map := { s.map with st := .failed } } : State).raise Ev.mapRecoveryFail
    | some a =>
      if s.fmtMismatch then ({ s with map := { s.map with st := .failed } } : State).raise Ev.mapRecoveryFail
      else
        let clean := a.clean
        let s := s.loadImage
        { s with map := { s.map with st := if clean then .closing else .replaying, dirtyRecovery := !clean
                                     anchor := some { a with clean := false, seq := a.seq + 1 } } })

/-- Addresses that a record names: its new entry's, and those of the entries it replaced. -/
def JRec.newAddr (r : JRec) : List Nat := if r.ent.st = 1 ∧ (r.kind = JKind.map ∨ r.kind = JKind.dir) then [r.ent.addr] else []

def JRec.oldAddrs (r : JRec) : List Nat :=
  r.old.filterMap (fun p => if p.2.1.st = 1 then some p.2.1.addr else none) ++
    (match r.oldDir with | some a => [a] | none => [])

/-- Replay of one record: the map holds its effect; the bolts it names are marked COUNT_UNKNOWN (R185), and one that the image
does not hold as written was opened after it. -/
def State.replayRec (s : State) (r : JRec) : State :=
  let s := r.newAddr.foldl (fun t a =>
    let x := t.bolt (addrGroup a) (addrBlock a)
    let kind := if r.reloc then 2 else if r.kind = JKind.map ∧ isHostLine r.line then 0 else 1
    let x := if x.st = .free ∨ x.st = .empty ∨ x.st = .resetting then
        { x with st := .open_, kind := kind, members := t.usable (addrGroup a) (addrBlock a), valid := 0 } else x
    t.setBolt (addrGroup a) (addrBlock a) { x with cntUnk := true }) s
  r.oldAddrs.foldl (fun t a =>
    let x := t.bolt (addrGroup a) (addrBlock a)
    if x.st = .open_ ∨ x.st = .sealed ∨ x.st = .victim then t.setBolt (addrGroup a) (addrBlock a) { x with cntUnk := true } else t) s

/-- JOURNAL_REPLAY_DONE (R185): `unreadable` is how many of the newest durable records lie at or after a journal line that no
copy could give; replay ends before them. -/
def execJournalReplayDone (unreadable : Nat) (s : State) : Host.Outcome State Fault Refusal :=
  done (s.when (s.pwr.coreOn && decide (s.map.st = .replaying)) fun s =>
    let n := s.map.jlog.length - unreadable
    let keep := s.map.jlog.take n
    let gone := s.map.jlog.drop n
    let s := gone.reverse.foldl State.unrecord s
    let s := { s with map := { s.map with jlog := keep, st := .scanning } }
    let s := keep.foldl State.replayRec s
    let s := s.setFld F.mapRecoveryRecordsK (min (2 ^ 20 - 1) (keep.length / 1024))
    s.raiseIf (decide (gone ≠ [])) Ev.mapJnlLineLost)

/-- The part an open bolt's kind names. -/
def partOfKind (k : Nat) : Part := if k = 0 then .host else if k = 1 then .met else .upk

/-- OPEN_BOLT_SCAN_DONE (R186): every open bolt is closed early, or SEALED where it was full. -/
def execOpenBoltScanDone (orphans : Nat) (s : State) : Host.Outcome State Fault Refusal :=
  done (s.when (s.pwr.coreOn && decide (s.map.st = .scanning)) fun s =>
    let s := (List.range 8).foldl (fun t g =>
      [Part.host, .met, .upk].foldl (fun t p =>
        match (t.group g).openBolt p with
        | none => t
        | some o =>
          let x := t.bolt g o.block
          let x := if x.st = .open_ then x else { x with st := .open_, kind := partKind p, valid := 0 }
          (t.setBolt g o.block x).closeBolt g p o) t) s
    let left := s.upk.bolts.filter fun p => decide (p.2.st = .open_) &&
      !((s.group (p.1 / 131072)).stripes.any fun t => decide (t.block = p.1 % 131072))
    let s := left.foldl (fun t p =>
      let g := p.1 / 131072
      let b := p.1 % 131072
      (t.setBolt g b { t.bolt g b with st := .sealed, tt := 16382, sealClk := t.ageSec g % 2 ^ 32 }).settleBolt g b) s
    let s := s.setFld F.mapRecoveryOrphans (min (2 ^ 24 - 1) orphans)
    { s with map := { s.map with st := .closing } })

/-- Cleanups that no completed checkpoint covers walk again; of the others only the bit clears are repeated (R428). -/
def State.resumeCleanups (s : State) : State :=
  (s.epo.doms.map fun p => p.1).foldl
    (fun t d =>
      let e := t.epoDom d
      match e.cleanup with
      | none => t
      | some tab =>
        if e.ckptsDone = 0 then t.cleanupWalk d e.bits tab
        else if e.bits then
          tab.foldl (fun u x => if e.openTab.any (fun v => decide (v.line = x.line)) then u
                                else u.setEntry x.line { u.entry x.line with epoch := false }) t
        else t) s

/-- Lines that a halt record names and that are not yet LOST become so (R388). -/
def State.loseHalted (s : State) : State :=
  let rs := s.cry.halts.filter fun r => !r.done
  let s := rs.foldl (fun t r => if isHostLine r.line then t.makeLost r.dom r.line .internal else t) s
  { s with cry := { s.cry with halts := s.cry.halts.map fun r => { r with done := true } } }

/-- RECOVERY_DONE (R180, R187, R388, R428): the closing checkpoint, with CLEAN = 0. -/
def execRecoveryDone (s : State) : Host.Outcome State Fault Refusal :=
  done (s.when (s.pwr.coreOn && decide (s.map.st = .closing)) fun s =>
    let ms := min (2 ^ 20 - 1) ((s.time.opNs - s.map.lastCkptNs) / 1000000)
    let s := s.setFld F.mapRecoveryTimeMs ms
    let s := if s.map.dirtyRecovery then s
      else (s.setFld F.mapRecoveryRecordsK 0).setFld F.mapRecoveryOrphans 0
    let s := s.resumeCleanups.loseHalted
    let s := { s with upk := { s.upk with shot := none } }
    let s := s.writeJnl.finishCkpt s.map.nextJsn false
    let s := ({ s with map := { s.map with st := .active } } : State).raise Ev.mapRecoveryDone
    (s.raiseIf s.map.dirtyRecovery Ev.mapDirtyRecovery).nextCkpt)

/-! ### Format (R22, R52, R156, R174, R184) -/

/-- Two draws: the format identifier and B. -/
def State.drawFormat (s : State) : State × Nat × Nat :=
  ({ s with freeCtr := s.freeCtr + 2 }, (Config.drawWord s.freeCtr).toNat, (Config.drawWord (s.freeCtr + 1)).toNat % s.rows)

/-- Every map line, tag and map-cache line is as never written; the journal buffer is discarded and every dense bolt's valid
count is 0 (R174 steps 1 to 3). -/
def State.blankMap (s : State) : State :=
  let s := { s with
    map := { s.map with
      ent := [], dir := [], tags := [], cached := [], plru := [], fills := [], dirtyHeld := [], pfq := [], jbuf := [], jlines := []
      jlog := [], dirLost := [], unmap := [], ckpt := none, lostLines := 0 }
    upk := { s.upk with
      bolts := Tab.mapVals (fun _ => Bolt.fresh) (fun _ b => { b with valid := 0, cntUnk := false }) s.upk.bolts, shot := none }
    rd := { s.rd with poison := [], saved := [], ovf := none, covered := [] } }
  (s.upk.bolts.map fun p => p.1).foldl (fun t k => t.settleBolt (k / 131072) (k % 131072)) s

/-- The packages of a group that DISCOVER found usable. -/
def State.groupFound (s : State) (g : Nat) : Nat :=
  ((List.range 16).filter fun i =>
    let x := s.link1 (16 * g + i)
    decide (0 < x.dies) && (x.pkg == .compatible || x.pkg == .limited)).length

/-- Leading groups with all 16 packages. -/
def State.fullGroups (s : State) : Nat :=
  (List.range 8).foldl (fun p g => if p = g ∧ s.groupFound g = 16 then p + 1 else p) 0

/-- The population can be formatted (R22). -/
def State.popValid (s : State) : Bool :=
  let p := s.fullGroups
  decide (2 ≤ p) && (List.range 8).all fun g => decide (g < p) || decide (s.groupFound g = 0)

/-- Discovery has ended on every skein. -/
def State.discoveryOver (s : State) : Bool :=
  (List.range (16 * s.popP)).all fun n => (s.link1 n).st != .reset && (s.link1 n).st != .discover

/-- No domain has an extent. -/
def State.noExtents (s : State) : Bool := s.cry.doms.all fun p => decide (p.2.count = 0)

/-- R52: domain 0 holds every host line, the others none. -/
def State.defaultExtents (s : State) : State :=
  if s.noExtents then s.setDom 0 { s.dom 0 with base := 0, count := s.userGib } else s

/-- The map is formatted and its first anchor written. -/
def State.format (s : State) : State :=
  let s := s.blankMap
  let (s, id, b) := s.drawFormat
  let s := { s with map := { s.map with fmt := some ⟨id, b, s.popP, s.popD⟩, regions := [], nextJsn := max 1 s.map.nextJsn } }
  let s := s.defaultExtents
  s.finishCkpt s.map.nextJsn false

/-- The line map serves from here on. -/
def State.mapActive (s : State) : State := { s with map := { s.map with st := .active, dirtyRecovery := false } }

/-- FIRST_FORMAT_DONE (R22, R52, R184): with a population that breaks R22 the map stays UNFORMATTED. -/
def execFirstFormatDone (s : State) : Host.Outcome State Fault Refusal :=
  done (s.when (s.pwr.coreOn && decide (s.map.st = .unformatted) && s.discoveryOver) fun s =>
    if s.popValid then
      let s := { s with popP := s.fullGroups }
      s.format.mapActive.raise Ev.mapRecoveryDone
    else s.raise Ev.topConfig)

end Sys2Proof.Machine
end

