-- ==== Sys2Proof/Machine/Boot.lean ====
section
/-!
DEFINITION. The ROM's start, the boot record, recovery entry, and the pause, trial and fall-back of a firmware image
(R516 to R521, R528, R531, R534, R535, R541, R548).
-/
namespace Sys2Proof.Machine

/-- With no valid boot record: RUNNING slot A, CONFIRMED (R520). -/
def BootRec.blank : BootRec :=
  { running := 0, st := .confirmed, attempts := 0, recA := false, recB := false, deadline := 0, svnA := 0, svnB := 0,
    lastVer := 0, seq := 0 }

def State.boot (s : State) : BootRec := s.fwu.boot.getD BootRec.blank

/-- The boot record is written: its sequence grows by 1 (R492). -/
def State.setBoot (s : State) (r : BootRec) : State :=
  { s with fwu := { s.fwu with boot := some { r with seq := s.boot.seq + 1 } } }

/-- The image of slot 0 (A) or 1 (B). -/
def State.slotImg (s : State) (k : Nat) : Option Image := if k = 0 then s.fwu.imgA else s.fwu.imgB

def State.verOf (s : State) (k : Nat) : Nat := match s.slotImg k with | some i => i.version | none => 0

/-- The slot was installed by recovery. -/
def BootRec.recov (r : BootRec) (k : Nat) : Bool := if k = 0 then r.recA else r.recB

/-- A slot the ROM may boot: its image, which verified before it reached the slot, names stepping A1 and reaches the anti-rollback
count (R520). -/
def State.acceptable (s : State) (k : Nat) : Bool :=
  match s.slotImg k with
  | none => false
  | some i => i.stepping % 2 == 1 && decide ((if s.boot.recov k then s.ctrVal 9 else s.ctrVal 8) ≤ i.svn)

/-- An event record of the management firmware: source 0xFFF (R548). -/
def State.fwRecord (s : State) (code sev p0 p1 p2 : Nat) : State :=
  s.enqueue { code := code, src := 0xFFF, sev := sev, p0 := p0, p1 := p1, p2 := p2, time := s.time.devtime, off := !s.pwr.coreOn }

/-- FWU_ERR_INFO of a slot and reason. -/
def fwuInfo (slot reason : Nat) : Nat := slot % 2 * 2 ^ 16 + reason * 2 ^ 8

/-- The ROM enters recovery (R541). -/
def State.enterRecovery (s : State) (cause : Nat) : State :=
  ({ s with fwu := { s.fwu with recovery := true, rom := false, running := false } } : State).fwRecord 0x1106 2 cause 0 0

/-- FALLBACK: the boot record names `slot` again, CONFIRMED (R535). -/
def State.fellBack (s : State) (cause failed slot : Nat) : State :=
  let r := s.boot
  let s := s.setBoot { r with running := slot, st := .confirmed, attempts := 0 }
  let s := { s with fwu := { s.fwu with near := false, selfCheck := 0, trialMethod := 0 } }
  let s := (s.bump F.fwuCntFallbacks 1).raiseN Ev.fwuFallback (fwuInfo slot 0) 0
  s.fwRecord 0x1101 1 cause failed (s.verOf slot)

/-- Operating ms at which a trial that starts now must be confirmed (FWU_CFG.DEADLINE_H). -/
def State.newDeadline (s : State) : Nat := s.time.opNs / 1000000 + s.fld F.fwuCfgDeadlineH * 3600000

/-- The boot record as the ROM updates it before any image is read (R520). -/
def State.romRecord (s : State) : State :=
  let r := s.boot
  let fresh := decide (r.st = .pendingReset)
  let r := if fresh then { r with running := 1 - r.running, st := .trial, attempts := 0, deadline := s.newDeadline } else r
  let r : BootRec := if r.st = .trial then
      if 2 ≤ r.attempts then { r with running := 1 - r.running, st := .confirmed } else { r with attempts := r.attempts + 1 }
    else r
  let s := s.setBoot r
  { s with fwu := { s.fwu with
      trialMethod := if fresh then 3 else if r.st = .trial then s.fwu.trialMethod else 0
      prevVer := s.verOf (1 - r.running), selfCheck := if r.st = .trial then 1 else 0
      near := if fresh then false else s.fwu.near } }

/-- The first acceptable slot boots: RUNNING, else the other as a fall-back, else recovery (R520). -/
def State.bootSlot (s : State) : State :=
  let k := s.boot.running
  let go (t : State) : State := { t with fwu := { t.fwu with rom := true } }
  if s.acceptable k then go s
  else if s.acceptable (1 - k) then go (s.fellBack 4 (s.verOf k) (1 - k))
  else s.enterRecovery 2

/-- The ROM starts on a released core (R520, R530, R541). -/
def State.romStart (s : State) : State :=
  let lost := s.fwu.sched.isSome
  let req := s.fwu.recoveryReq || !s.side.recovN
  let s := { s with
    host := { s.host with subsystem := s.fwu.subsysNext.getD s.host.subsystem }
    fwu := { s.fwu with
      running := false, paused := false, recovery := false, recoveryReq := false, rom := false, xfer := none, sched := none
      act := none, subsysNext := none, sessions := [], pqReady := [], pqMaking := [], heldMctp := 0, devResetHeld := false } }
  let s := s.raiseIf lost Ev.fwuScheduleLost
  if req then s.enterRecovery 1 else s.romRecord.bootSlot

/-- An image runs again after the management cores restarted: a fall-back from a trial (R535), or the same image. -/
def State.restart (s : State) (cause : Nat) : State :=
  let k := s.boot.running
  if s.boot.st = .trial then s.fellBack cause (s.verOf k) (1 - k) else s

/-- Step 2 of Sequence 16-2: the pause begins and the boot record says TRIAL (R528). -/
def State.beginPause (s : State) (slot : Nat) : State :=
  let old := s.verOf (1 - slot)
  let s := s.setBoot { s.boot with running := slot, st := .trial, attempts := 0, deadline := s.newDeadline }
  { s with fwu := { s.fwu with paused := true, running := true, prevVer := old, near := false } }

/-- A fired schedule starts its activation, unless a flush runs (R531). -/
def State.startSched (s : State) : State :=
  match s.fwu.sched with
  | some x =>
    if x.fired ∧ s.wp.flush.isNone ∧ s.fwu.running then
      ({ s with fwu := { s.fwu with sched := none, act := some (x.slot, .sched), trialMethod := 2 } } : State).beginPause x.slot
    else s
  | none => s

end Sys2Proof.Machine
end

