-- ==== Sys2Proof/Machine/Events.lean ====
section
/-!
DEFINITION. The event recorder (R501 to R508, R600), MSI-X (R562) and the commands that read or clear records.
-/
namespace Sys2Proof.Machine

/-- The ring slot of a sequence number (R503). -/
def slotOf (seq : Nat) : Nat := seq % 16384

def State.ringAt (s : State) (slot : Nat) : Option EvRec := Tab.get (fun _ => none) s.evt.ring slot

def State.setRing (s : State) (slot : Nat) (r : Option EvRec) : State :=
  { s with evt := { s.evt with ring := Tab.set (fun _ => none) s.evt.ring slot r } }

/-- Operating hours, 24.8 fixed point (Table 15-5). -/
def State.hours248 (s : State) : Nat := s.time.opNs * 256 / 3600000000000 % 2 ^ 32

/-- The folded REPEAT count is written back in place (R504). -/
def State.writeBackFold (s : State) : State :=
  match s.evt.fold, s.evt.newest with
  | some k, some q =>
    match s.ringAt (slotOf q) with
    | some r =>
      let s := s.setRing (slotOf q) (some { r with rep := k })
      { s with evt := { s.evt with fold := none } }
    | none => { s with evt := { s.evt with fold := none } }
  | _, _ => { s with evt := { s.evt with fold := none } }

/-- REPEAT of the newest record as the SRAM copy has it. -/
def State.repeatNow (s : State) (r : EvRec) : Nat := s.evt.fold.getD r.rep

/-- The source whose routing entry a recorder record counts under (R564, R600); none for firmware messages. -/
def QRec.routeSrc (r : QRec) : Option Nat :=
  if r.src ≠ 0xFFF then some r.src
  else if r.code = 0x2002 then some 712
  else if r.code = 0x2003 then some 713
  else if r.code = 0x2001 then some 714
  else none

/-- The record is posted as a CXL event record (R564). -/
def State.posts (s : State) (r : QRec) : Bool :=
  match r.routeSrc with
  | none => false
  | some k => decide (getBits (s.routing k) 10 8 ≤ r.sev)

/-- A new record is written in the next slot and posted when routed (R501, R503, R564). -/
def State.writeRecord (s : State) (r : QRec) : State :=
  let s := s.writeBackFold
  let post := s.posts r
  let q := s.evt.next
  let e : EvRec :=
    { code := r.code, src := r.src, sev := r.sev, hours := s.hours248, cycles := s.ctrVal 0 % 2 ^ 24,
      flags := ofBool post + 2 * ofBool r.off + 4 * s.fld F.topMidxAssigned, rep := 0, seq := q, p0 := r.p0,
      p1 := if r.code = 0x2003 then s.evt.newest.getD 0 else r.p1, p2 := r.p2 }
  let t := s.setRing (slotOf q) (some e)
  let t := { t with evt := { t.evt with next := (q + 1) % 2 ^ 16, newest := some q, fold := none } }
  let t := t.bump F.evrCntWritten 1
  if post then t.postCxl .vendor r.sev r.time [r.code, r.src + 4096 * r.sev, e.hours, e.cycles, e.flags, q, e.p0, e.p1, e.p2]
  else t

/-- The record has the code, source and severity of the newest record (R504). -/
def State.folds (s : State) (r : QRec) : Bool :=
  match s.evt.newest with
  | none => false
  | some q =>
    match s.ringAt (slotOf q) with
    | none => false
    | some e => decide (e.code = r.code ∧ e.src = r.src ∧ e.sev = r.sev)

/-- One more occurrence is folded into the newest record, saturating at 0xFFFF (R504). -/
def State.foldRecord (s : State) : State :=
  let old := match s.evt.newest with | some q => (match s.ringAt (slotOf q) with | some e => e.rep | none => 0) | none => 0
  let s := { s with evt := { s.evt with fold := some (min 0xFFFF (s.evt.fold.getD old + 1)) } }
  s.bump F.evrCntRepeats 1

/-- A 0x2003 record reports the events that found the queue full (R502, R600). -/
def State.reportDrops (s : State) : State :=
  if s.evt.dropped = 0 ∨ 256 ≤ s.evt.queue.length then s
  else
    let r : QRec := { code := 0x2003, src := 0xFFF, sev := 1, p0 := s.evt.dropped, p1 := 0, p2 := 0,
                      time := s.time.devtime, off := false }
    ({ s with evt := { s.evt with queue := s.evt.queue ++ [r], dropped := 0 } }).raise Ev.evrDropped

/-- EVENT_RECORD_WRITE (R502, R504, R564, R600): the oldest waiting record is written or folded while the core runs and no
clear holds the queue; then the alerts are looked at (R511). -/
def execEventRecordWrite (s : State) : Host.Outcome State Fault Refusal :=
  done (s.when (s.pwr.coreOn && !s.evt.clearing) fun s =>
    match s.evt.queue with
    | [] => s.checkAlerts
    | r :: rest =>
      let s := { s with evt := { s.evt with queue := rest } }
      let s := if s.folds r then s.foldRecord else s.writeRecord r
      s.reportDrops.checkAlerts)

/-- REPEAT_WRITEBACK (R504). -/
def execRepeatWriteback (s : State) : Host.Outcome State Fault Refusal :=
  done (s.when s.pwr.coreOn fun s => s.writeBackFold)

/-- EVR_CNT_CLR (R513): WRITTEN, REPEATS and DROPS become 0. -/
def execEvrCntClr (h : Nat) (s : State) : Host.Outcome State Fault Refusal :=
  done (s.barWrite h 0x5010 fun s => s.setReg 0x5130 0#64)

/-- Bytes 0 to 27 of a record (Table 15-5). -/
def EvRec.bytes (r : EvRec) (rep : Nat) : Bytes :=
  leBytes 2 r.code ++ leBytes 2 (r.src % 4096 + 4096 * r.sev) ++ leBytes 4 r.hours ++ leBytes 3 r.cycles ++
    leBytes 1 r.flags ++ leBytes 2 rep ++ leBytes 2 r.seq ++ leBytes 4 r.p0 ++ leBytes 4 r.p1 ++ leBytes 4 r.p2

/-- A whole record: its 32 bytes as one number, byte 0 lowest. -/
def EvRec.word (r : EvRec) (rep : Nat) : Nat := leNat (r.bytes rep ++ leBytes 4 (crc32c (r.bytes rep)))

/-- Valid records in the ring. -/
def State.ringCount (s : State) : Nat := s.evt.ring.length

/-- The records from sequence `q` on, at most `n` of them, looking at `k` sequence numbers (R506). -/
def State.readFrom (s : State) (q : Nat) : Nat → Nat → List Nat
  | 0, _ => []
  | k + 1, n =>
    if n = 0 then []
    else
      match s.ringAt (slotOf q) with
      | some e => if e.seq = q then
          e.word (if s.evt.newest = some q then s.repeatNow e else e.rep) :: State.readFrom s ((q + 1) % 2 ^ 16) k (n - 1)
        else State.readFrom s ((q + 1) % 2 ^ 16) k n
      | none => State.readFrom s ((q + 1) % 2 ^ 16) k n

/-- The oldest sequence in the ring: the one farthest behind the next sequence. -/
def State.oldestSeq (s : State) : Nat :=
  s.evt.ring.foldl
    (fun (q : Nat) p => match p.2 with
      | some e => if (s.evt.next + 2 ^ 16 - q) % 2 ^ 16 < (s.evt.next + 2 ^ 16 - e.seq) % 2 ^ 16 then e.seq else q
      | none => q) s.evt.next

/-- READ_EVENT_RECORDER (R505, R506): the header and the records. A count outside 1 to 2,047 is invalid input. -/
def execReadEventRecorder (h first max : Nat) (s : State) : Host.Outcome State Fault Refusal :=
  done (s.mailbox h fun s =>
    let next := s.evt.next
    let hdr (n flags : Nat) : List Nat := [s.midxWord, next, n, s.ctrVal 0, s.ringCount, flags]
    if max = 0 ∨ 2047 < max ∨ 2 ^ 16 ≤ first then s.answerMbox h .invalidInput []
    else if (first + 2 ^ 16 - next) % 2 ^ 16 < 2 ^ 15 then s.answerMbox h .success (hdr 0 0)
    else
      let inRing := match s.ringAt (slotOf first) with | some e => e.seq == first | none => false
      let q := if inRing then first else s.oldestSeq
      let all := s.readFrom q ((next + 2 ^ 16 - q) % 2 ^ 16) 65536
      let got := all.take max
      s.answerMbox h .success (hdr got.length (ofBool (decide (max < all.length)) + 2 * ofBool (!inRing)) ++ got))

/-- A clear after its acceptance (R508). `how` is 1 for SPDM, 2 for a token; `seq` the token sequence. The answer says
whether it took place. -/
def State.clearRecorder (s : State) (how seq : Nat) : State × Bool :=
  match s.ctrInc 7 1 with
  | (t, .ok) =>
    let valid := t.ringCount
    let t := { t with evt := { t.evt with ring := [], fold := none, newest := none } }
    let t := t.writeRecord { code := 0x2001, src := 0xFFF, sev := 0, p0 := valid, p1 := how * 2 ^ 30 + seq % 2 ^ 30,
                             p2 := t.ctrVal 7 % 2 ^ 32, time := t.time.devtime, off := false }
    (t.raise Ev.evrCleared, true)
  | (t, _) => (t.raise Ev.evrClearRefused, false)

/-- CLEAR_EVENT_RECORDER (R507, R508). -/
def execClearEventRecorder (src : ClearSource) (s : State) : Host.Outcome State Fault Refusal :=
  match src with
  | .spdm session =>
    done (s.when s.fwu.running fun s =>
      if s.fwu.sessions.any (fun x => x.id == session && x.admin) then
        match s.clearRecorder 1 0 with
        | (t, true) => t.emit (.answer 0x90 0 [])
        | (t, false) => t.emit (.answer 0x90 6 [])
      else (s.raise Ev.evrClearRefused).emit (.answer 0x90 4 []))
  | .token h serial seq sigOk =>
    done (s.mailboxRw h fun s =>
      if serial = Config.serial ∧ seq = s.ctrVal 11 + 1 ∧ sigOk then
        match s.ctrInc 11 1 with
        | (t, .ok) =>
          match t.clearRecorder 2 seq with
          | (u, true) => u.answerMbox h .success []
          | (u, false) => u.answerMbox h .internalError []
        | (t, _) => (t.raise Ev.evrClearRefused).answerMbox h .internalError []
      else (s.raise Ev.evrClearRefused).answerMbox h .invalidSecurityState [])

/-- MSIX_SEND (R562): the pending vector of an unmasked entry is sent. A pending vector waits out HOLDOFF_US since the last message
of that vector on that head. -/
def execMsixSend (h v : Nat) (s : State) : Host.Outcome State Fault Refusal :=
  let x := s.head h
  let ready := match Tab.get (fun _ => none) x.msixLast v with
    | none => true
    | some t => decide (t + s.fld F.topIntCfgHoldoffUs * 1000 ≤ s.time.upNs)
  done (s.when (s.ioUp h && x.msixOn && decide (v < 64) && x.msixPend.getLsbD v && !x.msixMask.getLsbD v && ready) fun s =>
    (s.setHead h { x with msixPend := x.msixPend &&& ~~~(1#64 <<< v),
                          msixLast := Tab.set (fun _ => none) x.msixLast v (some s.time.upNs) }).emit (.msix h v))

/-- MSIX_CONTROL_WRITE (R562): enable and vector masks of a head; with MSI-X off every pending vector is discarded. -/
def execMsixControlWrite (h : Nat) (enable : Bool) (mask : BitVec 64) (s : State) : Host.Outcome State Fault Refusal :=
  done (s.when (s.pwr.coreOn && s.present h && !(s.head h).perst) fun s =>
    let x := s.head h
    s.setHead h { x with msixOn := enable, msixMask := mask, msixPend := if enable then x.msixPend else 0#64 })

/-- GET_EVENT_RECORDS (R75): the head's own log, oldest first, with its overflow count. -/
def execGetEventRecords (h log : Nat) (s : State) : Host.Outcome State Fault Refusal :=
  done (s.mailbox h fun s =>
    if 4 ≤ log then s.answerMbox h .invalidInput []
    else
      let x := s.head h
      s.answerMbox h .success
        (x.ovf.at log :: (x.logs.at log).flatMap fun r => [r.handle, r.sev, r.time, r.midx, r.data.length] ++ r.data))

/-- CLEAR_EVENT_RECORDS (R75): named records, or all, of the head's own log; the overflow count goes with all. -/
def execClearEventRecords (h log : Nat) (all : Bool) (handles : List Nat) (s : State) :
    Host.Outcome State Fault Refusal :=
  done (s.mailbox h fun s =>
    if 4 ≤ log then s.answerMbox h .invalidInput []
    else
      let x := s.head h
      let l := x.logs.at log
      if all then
        (s.setHead h { x with logs := x.logs.put log [], ovf := x.ovf.put log 0 }).answerMbox h .success []
      else if handles.any (fun k => !(l.any fun r => r.handle == k)) then s.answerMbox h .invalidHandle []
      else
        (s.setHead h { x with logs := x.logs.put log (l.filter fun r => !(handles.contains r.handle)) }).answerMbox h
          .success [])

/-- GET_EVENT_INTERRUPT_POLICY (R71). -/
def execGetEventInterruptPolicy (h : Nat) (s : State) : Host.Outcome State Fault Refusal :=
  done (s.mailbox h fun s => s.answerMbox h .success (s.head h).evtPolicy.toList)

/-- SET_EVENT_INTERRUPT_POLICY (R77): the policy of the head's own logs. -/
def execSetEventInterruptPolicy (h info warn fail fatal : Nat) (s : State) : Host.Outcome State Fault Refusal :=
  done (s.mailbox h fun s =>
    (s.setHead h { s.head h with evtPolicy := ⟨info, warn, fail, fatal⟩ }).answerMbox h .success [])

/-- GET_ALERT_CONFIGURATION (R511): thresholds, enables and the alerts that hold. -/
def execGetAlertConfiguration (h : Nat) (s : State) : Host.Outcome State Fault Refusal :=
  done (s.mailbox h fun s =>
    let s := s.checkAlerts
    s.answerMbox h .success (s.ntn.alertEn.toNat :: s.ntn.alerts))

/-- SET_ALERT_CONFIGURATION (R77, R511). -/
def execSetAlertConfiguration (h : Nat) (enable : BitVec 5) (values : List Nat) (s : State) :
    Host.Outcome State Fault Refusal :=
  done (s.mailboxRw h fun s =>
    if values.length = 5 then
      ({ s with ntn := { s.ntn with alerts := values, alertEn := enable } }).checkAlerts.answerMbox h .success []
    else s.answerMbox h .invalidInput [])

/-- Status bits of Table 15-7: Maintenance Needed, Performance Degraded, Hardware Replacement Needed. -/
def State.healthStatus (s : State) : Nat :=
  let darn := (List.range 8).any fun g => decide ((s.upkG g).darn ≠ 0)
  let rr := (List.range 128).any fun n => decide ((s.warp1 n).mode = .roundRobin)
  let slow := (List.range 128).any fun n => s.live n && decide ((s.warp1 n).fs < 128)
  let degr := (List.range s.nHeads).any fun h => getBits (s.reg (0x10020 + h * 0x1000)) 1 1 == 1
  let stop := (List.range 8).any fun g => s.groupStopped g
  ofBool (decide (s.sparePct ≤ 50) || decide (90 ≤ s.wearMax)) + 2 * ofBool (darn || rr || slow || degr) +
    4 * ofBool (stop || decide (s.sparePct = 0) || s.cry.deviceHalt)

/-- Media Status of Table 15-7. A condition further down the table that also holds counts over Not Ready: all data lost, then
write persistency lost. -/
def State.mediaStatus (s : State) : Nat :=
  if s.map.st = .failed then 3 else if s.cry.deviceHalt then 2 else if !s.host.memActive then 1 else 0

/-- GET_HEALTH_INFO (R509, Table 15-7): health status, media status, additional status, life used, temperature (two's
complement), dirty shutdowns, corrected volatile and persistent counts. -/
def execGetHealthInfo (h : Nat) (s : State) : Host.Outcome State Fault Refusal :=
  done (s.mailbox h fun s =>
    s.answerMbox h .success
      [s.healthStatus, s.mediaStatus, s.ntn.alertSts, min 100 s.wearMax, (s.deviceTemp % 65536).toNat, s.ctrVal 2,
       s.fld F.fltCnt1Sram, s.fld F.fltCnt0Media])

end Sys2Proof.Machine
end

