-- ==== Sys2Proof/Machine/Mem.lean ====
section
/-!
DEFINITION. CXL.mem requests and what lets waiting ones go on: decoding, the host-side checks, the Swatch window, misses,
dirty waits, the cleaner, evictions, entry into staging, prefetch (R47 to R61, R72, R95, R99, R101 to R112, R131, R189 to
R195, R372, R429).
-/
namespace Sys2Proof.Machine

/-! ### Decoding (R48 to R51) -/

def State.decoder (s : State) (h i : Nat) : Decoder := Tab.get (fun _ => Decoder.none) (s.head h).decoders i

/-- The committed decoder that holds a host address. -/
def State.decoderOf (s : State) (h hpa : Nat) : Option Decoder :=
  (List.range 32).findSome? fun i =>
    let d := s.decoder h i
    if d.committed ∧ d.base ≤ hpa ∧ hpa < d.base + d.size then some d else none

/-- The interleave selector bits leave the offset, and the DPA base is added (R48). -/
def Decoder.dpa (d : Decoder) (hpa : Nat) : Nat :=
  let off := hpa - d.base
  d.dpaBase + off / (d.gran * d.ways) * d.gran + off % d.gran

/-- Head `h` takes CXL.mem requests. -/
def State.memUp (s : State) (h : Nat) : Bool :=
  s.pwr.coreOn && s.present h && (s.head h).link == .active && (!s.pwr.hostStopped || s.cry.deviceHalt)

/-- A CXL.mem request arrives at a head. -/
def State.memReq (s : State) (h : Nat) (k : State → State) : State :=
  let s := s.begin
  if s.memUp h then k s else s.emit .notAccepted

/-- HST_ERR_INFO.OPCODE and HST_ERR_ADDR of a request. -/
def State.hostErr (s : State) (e : Evt) (opcode dpa : Nat) : State := s.raiseN e (opcode % 256 * 2 ^ 16) dpa

/-- PROTOCOL_ERR once for each period of Memory_Active = 0 (R47). -/
def State.inactive (s : State) (h opcode dpa : Nat) : State :=
  if (s.head h).inactiveErr then s
  else (s.setHead h { s.head h with inactiveErr := true }).hostErr (Ev.hstProtocolErr h) opcode dpa

/-- An access outside its domain's extent (R51). -/
def State.outside (s : State) (r : Req) (opcode dpa : Nat) : State :=
  ((s.failReq r).bump (F.hstExterrCntOutsideExtent r.h) 1).hostErr (Ev.hstOutsideExtent r.h) opcode dpa

/-- A write to an EMPTY or FAILED domain is discarded; KEY_ABSENT_WRITE at most once a millisecond (R372). -/
def State.keyAbsent (s : State) (r : Req) : State :=
  let s := (s.cmp r.h r.tag).bump F.cryCntWritesDiscarded 1
  let x := s.dom r.dom
  let quiet := match x.lastAbsent with | some t => decide (s.time.upNs < t + 1000000) | none => false
  if quiet then s
  else (s.setDom r.dom { x with lastAbsent := some s.time.upNs }).raiseN Ev.cryKeyAbsentWrite (r.dom * 2 ^ 40) 0

/-- An access the Swatch window serves (R131). -/
def State.windowAccess (s : State) (r : Req) : State :=
  let s := s.count 0x203 0 1
  let base := s.wordKey r.line r.sec 0
  if r.wr then ((s.writeWords base r.data r.be r.poison 8).writePoison r false).cmp r.h r.tag
  else
    let x := s.readWords base 8
    x.1.memData r.h r.tag (if x.2.2 then 0#512 else x.2.1) x.2.2

/-- A decoded request inside its extent, past the checks that hold whatever the cache holds. -/
def State.serve (s : State) (r : Req) : State :=
  let x := s.dom r.dom
  if s.host.sanitizing ∨ s.cry.deviceHalt ∨ x.halted then s.failReq r
  else if x.st = .empty then (if r.wr then s.keyAbsent r else s.memData r.h r.tag 0#512 false)
  else if x.st = .failed ∧ r.wr then s.keyAbsent r
  else if (s.epoDom r.dom).st = .aborting then s.failReq r
  else if s.inWindowRange r.line ∧ (s.swt.st = .carving ∨ s.swt.st = .restoring) then s.failReq r
  else if s.inWindow r.line then s.windowAccess r
  else if r.wr then s.write r false
  else s.read r

/-- The request of a decoded DPA, when it lies inside its domain's extent (R49, R50). -/
def State.place? (s : State) (r : Req) (dpa : Nat) : Option Req :=
  let d := dpa / 2 ^ 46
  let x := dpa % 2 ^ 46
  if 256 ≤ d ∨ (s.dom d).count * 2 ^ 30 ≤ x then none
  else some { r with line := (s.dom d).base * 2 ^ 22 + x / 256, dom := d, sec := x / 64 % 4 }

/-- Decode, Memory_Active and extent (R47 to R51). `opcode` is what HST_ERR_INFO would show. -/
def State.hostReq (s : State) (r : Req) (hpa opcode : Nat) : State :=
  if !s.host.memActive then (s.failReq r).inactive r.h opcode hpa
  else
    match s.decoderOf r.h hpa with
    | none => s.outside r opcode hpa
    | some d =>
      match s.place? r (d.dpa hpa) with
      | none => s.outside r opcode (d.dpa hpa)
      | some q => s.serve q

def Req.rd (h tag : Nat) : Req :=
  { h := h, tag := tag, line := 0, dom := 0, sec := 0, wr := false, data := 0#512, be := 0#64, poison := false, intern := false }

def Req.write (h tag : Nat) (d : Sector) (be : BitVec 64) (poison : Bool) : Req :=
  { Req.rd h tag with wr := true, data := d, be := be, poison := poison }

/-! ### The requests (Table 2-7) -/

/-- MEM_RD (R54). -/
def execMemRd (h tag : Nat) (hpa : BitVec 64) (s : State) : Host.Outcome State Fault Refusal :=
  done (s.memReq h fun s => (s.count 0x100 h 1).hostReq (Req.rd h tag) hpa.toNat 1)

/-- MEM_RD_DATA (R54). -/
def execMemRdData (h tag : Nat) (hpa : BitVec 64) (s : State) : Host.Outcome State Fault Refusal :=
  done (s.memReq h fun s => (s.count 0x100 h 1).hostReq (Req.rd h tag) hpa.toNat 2)

/-- MEM_WR (R54, R55). -/
def execMemWr (h tag : Nat) (hpa : BitVec 64) (data : BitVec 512) (poison : Bool) (s : State) :
    Host.Outcome State Fault Refusal :=
  done (s.memReq h fun s => (s.count 0x101 h 1).hostReq (Req.write h tag data (BitVec.allOnes 64) poison) hpa.toNat 0x11)

/-- MEM_WR_PTL (R54, R111, R112). -/
def execMemWrPtl (h tag : Nat) (hpa : BitVec 64) (data : BitVec 512) (be : BitVec 64) (poison : Bool) (s : State) :
    Host.Outcome State Fault Refusal :=
  done (s.memReq h fun s => (s.count 0x102 h 1).hostReq (Req.write h tag data be poison) hpa.toNat 0x12)

/-- MEM_INV (R54): no data effect. -/
def execMemInv (h tag : Nat) (s : State) : Host.Outcome State Fault Refusal :=
  done (s.memReq h fun s => s.cmp h tag)

/-- MEM_INV_NT (R54): no data effect. -/
def execMemInvNt (h tag : Nat) (s : State) : Host.Outcome State Fault Refusal :=
  done (s.memReq h fun s => s.cmp h tag)

/-- INVALID_MEM_OPCODE (R54): discarded, PROTOCOL_ERR. -/
def execInvalidMemOpcode (h opcode : Nat) (hpa : BitVec 64) (s : State) : Host.Outcome State Fault Refusal :=
  done (s.memReq h fun s => s.hostErr (Ev.hstProtocolErr h) opcode hpa.toNat)

/-- A line is fetched into the side buffer (R101, R103). -/
def State.prefetchLine (s : State) (line d : Nat) : State :=
  if s.fch.mode ≠ .on ∨ s.inWindowRange line ∨ (s.lineOf line).isSome ∨ (s.findSide line).isSome ∨ (s.mshrOf line).isSome ∨
      4096 ≤ s.fch.mshr.length then s
  else
    let e : Mshr := { line := line, dom := d, reqs := [], again := [], pf := true, drop := false, maint := false }
    (({ s with fch := { s.fch with mshr := s.fch.mshr ++ [e] } } : State).count 0x208 0 1).lookup line d .prefetch

/-- MEM_SPEC_RD (R54, R103, R170): no response, and nothing outside the extent, in the window, or for a domain whose reads
need no media. -/
def execMemSpecRd (h : Nat) (hpa : BitVec 64) (s : State) : Host.Outcome State Fault Refusal :=
  done (s.memReq h fun s =>
    let s := s.count 0x103 h 1
    if !s.host.memActive ∨ s.host.sanitizing ∨ s.cry.deviceHalt then s
    else
      match s.decoderOf h hpa.toNat with
      | none => s
      | some d =>
        match s.place? (Req.rd h 0) (d.dpa hpa.toNat) with
        | none => s
        | some q =>
          let x := s.dom q.dom
          if x.halted ∨ x.st = .empty ∨ x.st = .failed ∨ (s.epoDom q.dom).st = .aborting then s
          else
            let s := if s.mpresent 0 (q.line / 32) then s else (s.wantMap (q.line / 32)).queueMapPf (q.line / 32 + 1)
            s.prefetchLine q.line q.dom)

/-! ### Waits that end (R95, R99, R109, R215, R393) -/

/-- A request goes on from where it waited. -/
def State.again (s : State) (r : Req) : State := if r.wr then s.write r true else s.read r

/-- MISS_WAIT_RESUME (R95): the oldest miss that waits goes on once an entry is free. -/
def execMissWaitResume (s : State) : Host.Outcome State Fault Refusal :=
  done (s.when (s.pwr.coreOn && decide (s.fch.mshr.length < 4096 ∧ s.fch.missWait ≠ [])) fun s =>
    match s.fch.missWait with
    | [] => s
    | r :: rs => ({ s with fch := { s.fch with missWait := rs } } : State).again r)

/-- A waiting write may go: a dirty line became clean, or its own line is dirty, or the cache is no longer ON. -/
def State.mayAdmit (s : State) (r : Req) : Bool :=
  decide (s.fch.mode ≠ .on) || s.isDirty r.line || (decide (s.dirtyCount < s.dirtyLimit) && !s.dueFull r)

/-- DIRTY_WAIT_ADMIT (R108, R215): the oldest waiting write that may go is admitted. -/
def execDirtyWaitAdmit (s : State) : Host.Outcome State Fault Refusal :=
  done (s.when s.pwr.coreOn fun s =>
    match s.fch.dirtyWait.find? s.mayAdmit with
    | none => s
    | some r => ({ s with fch := { s.fch with dirtyWait := s.fch.dirtyWait.erase r } } : State).write r true)

/-- Dirty lines not yet handed, oldest write first: those of bank groups that wait to fold come before the cleaner's. -/
def State.cleanable (s : State) : List Nat :=
  let old := s.dirtyOldest.filter fun l => match s.lineOf l with | some c => !c.handed && !(s.dom c.dom).due | none => false
  let fold := if s.swt.st = .none then old.filter fun l => s.fch.foldWait.getLsbD (s.fset l / 4096) else []
  if fold ≠ [] then fold else if s.fch.cleaning then old else []

/-- CLEANER_WRITEBACK (R109, R118): the line with the least recent write is handed to its ply engine. -/
def execCleanerWriteback (s : State) : Host.Outcome State Fault Refusal :=
  done (s.when (s.pwr.coreOn && decide (s.fch.mode = .on)) fun s =>
    match s.cleanable with
    | [] => s
    | l :: _ => s.hand l)

/-- EVICTION_RESUME (R99): a write whose allocation waited goes on once a victim entry is clean. -/
def execEvictionResume (s : State) : Host.Outcome State Fault Refusal :=
  done (s.when (s.pwr.coreOn && (decide (s.fch.victim.length < 512) || s.fch.victim.any fun c => c.sd == 0#4)) fun s =>
    match s.fch.evictWait with
    | [] => s
    | r :: rs => ({ s with fch := { s.fch with evictWait := rs } } : State).write r true)

/-! ### Entry into staging (R191 to R195, R99, R124, R425) -/

/-- The line as it enters staging: the cache's present contents, or those carried around the cache. -/
def State.stagedOf (s : State) (x : Handed) : Option Staged :=
  let mk (d : Quad Sector) (have_ : BitVec 4) (be : Quad (BitVec 64)) (sp : BitVec 4) (ep : Bool) : Staged :=
    { Staged.filler with kind := .host, line := x.line, dom := x.dom, d := d, be := be, sp := sp, missing := ~~~have_, ep := ep,
                         enc := false, recorded := false }
  if x.cached then
    match s.lineOf x.line with
    | some c => if c.sd = 0#4 then none else some (mk c.d c.sv (Quad.all 0#64) c.sp c.ep)
    | none => none
  else some (mk x.d x.have_ x.be x.sp x.ep)

/-- The group a handed line enters: the one it was handed to while that admits it, else one chosen now (R189, R208). The flush
of a device halt, which no group admits, takes the first group that runs and has room (Table 11-6). -/
def State.entryGroup (s : State) (x : Handed) : Option Nat :=
  if s.cry.deviceHalt then
    (List.range s.popP).find? fun g => !(s.group g).stopped && !(s.group g).islandReset && s.hasRoom g .host
  else if s.admits x.g && s.hasRoom x.g .host then some x.g
  else s.chooseGroup x.line

/-- The open host stripes that hold a line of the domain are completed with filler lines (R426 step 2). -/
def State.padDomain (s : State) (d : Nat) : State :=
  (List.range s.popP).foldl
    (fun t g => ((t.group g).stripes.filter fun x => x.isOpen && x.part == .host && x.lines.any fun l => l.dom == d).foldl
      (fun u x => u.pad g x) t) s

/-- Writes that waited for the prepare point go on once the domain's earlier dirty lines are in staging (R425). -/
def State.endDraining (s : State) (d : Nat) : State :=
  if (s.epoDom d).draining ∧ !(s.dirtyLines.any fun c => c.dom == d) ∧ !(s.wp.handed.any fun x => x.dom == d) then
    let rs := s.epo.epochWait.filter fun r => r.dom == d
    let s := s.setEpoDom d { s.epoDom d with draining := false }
    let s := { s with epo := { s.epo with epochWait := s.epo.epochWait.filter fun r => r.dom != d } }
    rs.foldl (fun t r => t.write r false) (s.padDomain d)
  else s

/-- The hold-up requirement follows a lowered limit once the dirty count is below it (R220). -/
def State.checkHold (s : State) : State :=
  if s.fch.limit < s.fch.holdLimit ∧ s.dirtyCount < s.dirtyLimit then { s with fch := { s.fch with holdLimit := s.fch.limit } }
  else s

/-- What follows once the line of a handed entry is in staging: its cache copy is clean, and goes where an operation, a
draining cache or an emptied way invalidates it. -/
def State.cleanAfter (s : State) (line : Nat) : State :=
  let s := s.updLine line fun c => { c with sd := 0#4, handed := false }
  let inv : Bool := match s.fch.maint with
    | some m => (m.op == 2 || m.op == 3) && m.waiting.contains line
    | none => false
  let s := { s with fch := { s.fch with maint := s.fch.maint.map fun m => { m with waiting := m.waiting.filter fun l => l != line } } }
  if inv || s.fch.mode == .draining then s.dropLine line else s

/-- A flush's lines in staging: with the last one the open stripes are padded (item 4 of Table 5-6). -/
def State.flushStaged (s : State) (line : Nat) : State :=
  match s.wp.flush with
  | none => s
  | some f =>
    if f.lines.contains line then
      let rest := f.lines.filter fun l => l != line
      let s := { s with wp := { s.wp with flush := some { f with lines := rest } } }
      if rest = [] then s.padAll else s
    else s

/-- The first handed entry of a line enters staging; nothing happens while no group has room. -/
def State.stageHanded (s : State) (x : Handed) : State :=
  match s.stagedOf x with
  | none => { s with wp := { s.wp with handed := s.wp.handed.erase x } }
  | some y =>
    match s.entryGroup x with
    | none => s
    | some g =>
      match s.enterStaging g y with
      | none => s
      | some s =>
        let s := { s with wp := { s.wp with handed := s.wp.handed.erase x } }
        let s := s.updMshr x.line fun m => { m with drop := true }
        let s := if x.cached then s.cleanAfter x.line else s
        let s := match x.ack with | some (h, tag) => s.cmp h tag | none => s
        (((s.flushStaged x.line).endDraining x.dom).checkHold).checkCleaner

/-- STAGING_ENTRY (R191). -/
def execStagingEntry (line : Nat) (s : State) : Host.Outcome State Fault Refusal :=
  done (s.when s.pwr.coreOn fun s =>
    match s.wp.handed.find? fun x => x.line == line with
    | none => s
    | some x => s.stageHanded x)

/-! ### Prefetch (R101 to R105) -/

/-- PREFETCH_ISSUE (R101, R103): tracker `t` fetches its next line, inside its domain's extent and at most DEPTH lines
ahead, when the map line is there. -/
def execPrefetchIssue (t : Nat) (s : State) : Host.Outcome State Fault Refusal :=
  done (s.when (s.pwr.coreOn && s.fld F.fchPfCtlEnable == 1) fun s =>
    match s.fch.trackers[t]? with
    | none => s
    | some x =>
      let ahead := if x.up then x.issue - x.next else x.next - x.issue
      let inExt := s.domOf x.issue == some x.dom
      if !x.active ∨ s.fld F.fchPfCtlDepth ≤ ahead ∨ !inExt then s
      else
        let s := s.trackMap x
        if !s.mpresent 0 (x.issue / 32) then s.queueMapPf (x.issue / 32)
        else
          let n := if x.up then x.issue + 1 else x.issue - 1
          (({ s with fch := { s.fch with trackers := s.fch.trackers.set t { x with issue := n } } } : State).prefetchLine
            x.issue x.dom))

/-- Four sectors given as numbers. -/
def quadOf (l : List Nat) : Quad Sector :=
  let at_ (i : Nat) : Sector := BitVec.ofNat 512 (l.getD i 0)
  ⟨at_ 0, at_ 1, at_ 2, at_ 3⟩

/-- PREFETCH_FILL (R104, R105): a prefetched line arrives verified. -/
def execPrefetchFill (line : Nat) (data : List Nat) (s : State) : Host.Outcome State Fault Refusal :=
  done (s.when (s.pwr.coreOn &&
      s.rd.reads.any (fun r => r.line == line && r.why == .prefetch && decide (r.st ≠ .needMap))) fun s =>
    (s.dropRead line Rd.forFill).fillDone line (quadOf data) (s.entry line).sp)

end Sys2Proof.Machine
end

