-- ==== Sys2Proof/Machine/Fch.lean ====
section
/-!
DEFINITION. The commands that run the front cache: masks, dirty limit, on and off, maintenance, folding, diagnostic
accesses (R97, R98, R107, R110, R118 to R126, R137, R138, R144, R220).
-/
namespace Sys2Proof.Machine

/-! ### Masks and limit -/

/-- The dirty lines of a way are handed, its clean ones go where `drop` says so. -/
def State.clearWay (s : State) (w : Nat) (drop : Bool) : State :=
  let mine := s.fch.arr.filterMap fun p => match p.2 with | some c => if p.1 % 16 = w then some (p.1, c) else none | none => none
  mine.foldl (fun t p => if p.2.sd ≠ 0#4 then t.hand p.2.line else if drop then t.setSlot p.1 none else t) s

/-- FCH_WAYMASK_WRITE (R97, R98): refused when no way would be left to writes; ways taken out of every mask are emptied, and a
way that comes back starts empty. -/
def execFchWaymaskWrite (h : Nat) (rd wr pf : BitVec 16) (s : State) : Host.Outcome State Fault Refusal :=
  done (s.barWrite h 0xD110 fun s =>
    if wr &&& ~~~s.swtMask = 0#16 then s.raise Ev.fchRefused
    else
      let all := BitVec.ofNat 16 (s.fld F.fchWaymaskRd) ||| BitVec.ofNat 16 (s.fld F.fchWaymaskWr) |||
        BitVec.ofNat 16 (s.fld F.fchWaymaskPf)
      let now := rd ||| wr ||| pf
      let s := ((s.setFld F.fchWaymaskRd rd.toNat).setFld F.fchWaymaskWr wr.toNat).setFld F.fchWaymaskPf pf.toNat
      let gone := all &&& ~~~now
      let back := now &&& ~~~all
      let s := (List.range 16).foldl
        (fun t w => if gone.getLsbD w then t.clearWay w false else if back.getLsbD w then t.clearWay w true else t) s
      { s with fch := { s.fch with
          emptying := (s.fch.emptying ||| gone) &&& ~~~now, wayEmpty := s.fch.wayEmpty &&& ~~~now
          raw := s.fch.raw.filter fun p => !(back.getLsbD (p.1 / 32 % 16)) } })

/-- WAY_EMPTY (R98): with no dirty line left in the way its clean ones go, and its bit is set. -/
def execWayEmpty (w : Nat) (s : State) : Host.Outcome State Fault Refusal :=
  done (s.when (s.pwr.coreOn && s.fch.emptying.getLsbD w &&
      !(s.fch.arr.any fun p => p.1 % 16 == w && (match p.2 with | some c => c.sd != 0#4 | none => false))) fun s =>
    let s := s.clearWay w true
    { s with fch := { s.fch with emptying := s.fch.emptying &&& ~~~(1#16 <<< w), wayEmpty := s.fch.wayEmpty ||| (1#16 <<< w) } })

/-- DIRTY_LIMIT_WRITE (R107, R110, R220): a value outside its range is ignored. PWR_HOLDUP_REQ follows a higher limit at once,
and a lower one once the dirty count is below it. -/
def execDirtyLimitWrite (h limitMib cleanPct : Nat) (s : State) : Host.Outcome State Fault Refusal :=
  done (s.barWrite h 0xD100 fun s =>
    let s := if 20 ≤ cleanPct ∧ cleanPct ≤ 95 then s.setFld F.fchDirtyCfgCleanPct cleanPct else s
    let s := if 16 ≤ limitMib ∧ limitMib ≤ 160 then
        let s := s.setFld F.fchDirtyCfgLimitMib limitMib
        ({ s with fch := { s.fch with limit := limitMib, holdLimit := max s.fch.holdLimit limitMib } } : State).checkHold
      else s
    s.checkCleaner)

/-! ### On and off (R124 to R126) -/

/-- FCH_ENABLE. -/
def execFchEnable (h : Nat) (s : State) : Host.Outcome State Fault Refusal :=
  done (s.barWrite h 0xD010 fun s =>
    let s := s.setFld F.fchCtlEnable 1
    match s.fch.mode with
    | .off => { s with fch := { s.fch with mode := .enabling } }
    | .draining => { s with fch := { s.fch with mode := .on } }
    | _ => s)

/-- FCH_ENABLED: every tag entry cleared. -/
def execFchEnabled (s : State) : Host.Outcome State Fault Refusal :=
  done (s.when (s.pwr.coreOn && decide (s.fch.mode = .enabling)) fun s =>
    { s with fch := { s.fch with mode := .on, arr := [], plru := [] } })

/-- FCH_DISABLE (R124, R125). -/
def execFchDisable (h : Nat) (s : State) : Host.Outcome State Fault Refusal :=
  done (s.barWrite h 0xD010 fun s =>
    if s.swt.st ≠ .none then s.raise Ev.fchRefused
    else
      let s := s.setFld F.fchCtlEnable 0
      match s.fch.mode with
      | .enabling => { s with fch := { s.fch with mode := .off } }
      | .on => s.dirtyOldest.foldl State.hand { s with fch := { s.fch with mode := .draining } }
      | _ => s)

/-- DRAIN_DONE (R124, R126): no dirty line is left; the arrays, the victim cache and the side buffer are off. -/
def execDrainDone (s : State) : Host.Outcome State Fault Refusal :=
  done (s.when (s.pwr.coreOn && decide (s.fch.mode = .draining ∧ s.dirtyCount = 0)) fun s =>
    ({ s with fch := { s.fch with mode := .off, arr := [], plru := [], victim := [], side := [], trackers := [] } } : State).raise
      Ev.fchDrainDone)

/-- FCH_CNT_CLR (Table 3-9): FCH_ECC_CNT and the counters of FCH_ECC_CFG. -/
def execFchCntClr (h : Nat) (s : State) : Host.Outcome State Fault Refusal :=
  done (s.barWrite h 0xD010 fun s =>
    ((s.setReg 0xD130 0#64).setFld F.fchEccCfgEchoUncorr 0).setFld F.fchEccCfgUncorrDirty 0)

/-! ### Maintenance (R120 to R123) -/

/-- Host lines of the cache that an operation reaches. -/
def State.maintLines (s : State) (op first count : Nat) : List Nat :=
  let all := (s.cacheLines ++ s.fch.side).map fun c => c.line
  if op = 4 then s.dirtyOldest
  else all.filter fun l => decide (first ≤ l ∧ l < first + count) && !s.inWindowRange l

/-- A GO (R121, R122): ignored while an operation runs; refused when invalid; otherwise every line of the range is acted on, and
one with a fill outstanding is acted on when that installs. -/
def State.maintGo (s : State) (op first count : Nat) : State :=
  if s.fch.maint.isSome then s
  else
    let s := ((s.setFld F.fchMaintCtlCount count).setFld F.fchMaintCtlOp op).setFld F.fchMaintAddrLine first
    let bad := op = 0 ∨ 4 < op ∨ (op ≠ 4 ∧ (count = 0 ∨ s.hostLines < first + count))
    if bad then (s.setFld F.fchMaintCtlResult 1).raiseN Ev.fchRefused 0 first
    else
      let s := (s.setFld F.fchMaintCtlBusy 1).setFld F.fchMaintCtlResult 0
      let fills : List Nat := if op = 4 then [] else
        (s.fch.mshr.map fun (e : Mshr) => e.line).filter fun l => decide (first ≤ l ∧ l < first + count) && !s.inWindowRange l
      let s := { s with fch := { s.fch with
        maint := some ⟨op, first, count, [], fills⟩
        mshr := s.fch.mshr.map fun (e : Mshr) => if fills.contains e.line then { e with maint := true } else e } }
      ((s.maintLines op first count).filter fun l => !fills.contains l).foldl (fun t l => t.maintLine op l) s

/-- MAINT_WB. -/
def execMaintWb (h first count : Nat) (s : State) : Host.Outcome State Fault Refusal :=
  done (s.barWrite h 0xD120 fun s => s.maintGo 1 first count)

/-- MAINT_WB_INV. -/
def execMaintWbInv (h first count : Nat) (s : State) : Host.Outcome State Fault Refusal :=
  done (s.barWrite h 0xD120 fun s => s.maintGo 2 first count)

/-- MAINT_INV. -/
def execMaintInv (h first count : Nat) (s : State) : Host.Outcome State Fault Refusal :=
  done (s.barWrite h 0xD120 fun s => s.maintGo 3 first count)

/-- MAINT_WB_ALL: LINE and COUNT are ignored. -/
def execMaintWbAll (h : Nat) (s : State) : Host.Outcome State Fault Refusal :=
  done (s.barWrite h 0xD120 fun s => s.maintGo 4 (s.fld F.fchMaintAddrLine) (s.fld F.fchMaintCtlCount))

/-- MAINT_INVALID_OP (R121). -/
def execMaintInvalidOp (h op first count : Nat) (s : State) : Host.Outcome State Fault Refusal :=
  done (s.barWrite h 0xD120 fun s => s.maintGo (op % 8) first count)

/-- MAINT_DONE (R121): every line the operation wrote back is in staging. -/
def execMaintDone (s : State) : Host.Outcome State Fault Refusal :=
  done (s.when (s.pwr.coreOn && (match s.fch.maint with | some m => m.waiting == [] && m.fills == [] | none => false)) fun s =>
    let s := { s with fch := { s.fch with maint := none } }
    ((s.setFld F.fchMaintCtlBusy 0).setFld F.fchMaintCtlResult 0).raise Ev.fchMaintDone)

/-! ### Folding (R118, R119) -/

/-- GROUP_FOLDED: with no dirty line left in the bank group and no window carved, its clean lines go and its sets are served from
the partner group. -/
def execGroupFolded (bg : Nat) (s : State) : Host.Outcome State Fault Refusal :=
  done (s.when (s.pwr.coreOn && s.fch.foldWait.getLsbD bg && decide (s.swt.st = .none) &&
      !(s.fch.arr.any fun p => p.1 / 65536 == bg && (match p.2 with | some c => c.sd != 0#4 | none => false))) fun s =>
    ({ s with fch := { s.fch with
        arr := s.fch.arr.filter fun p => p.1 / 65536 != bg, folded := s.fch.folded ||| (1#16 <<< bg)
        foldWait := s.fch.foldWait &&& ~~~(1#16 <<< bg) } } : State).raiseN Ev.fchGroupFolded (bg * 4096 * 2 ^ 28) 0)

/-! ### Diagnostic accesses (R137, R138) -/

/-- The target word lies in a window way of an ACTIVE window, or in an empty way. -/
def State.diagOk (s : State) (way : Nat) : Bool :=
  s.fld F.fchCtlDiagEn == 1 &&
    ((s.swt.st == .active && decide (16 - s.swt.ways ≤ way ∧ way < 16)) || s.fch.wayEmpty.getLsbD way)

/-- The word's place in the window, when its way is one of the window's. -/
def State.diagWindow (s : State) (set way word : Nat) : Option Nat :=
  if s.swt.st = .active ∧ 16 - s.swt.ways ≤ way then some (((way - (16 - s.swt.ways)) * 65536 + set) * 32 + word) else none

/-- The fields of FCH_DIAG_CTL as the write left them. -/
def State.diagCtl (s : State) (set way word op status : Nat) : State :=
  ((((s.setFld F.fchDiagCtlSet set).setFld F.fchDiagCtlWay way).setFld F.fchDiagCtlWord word).setFld F.fchDiagCtlOp op).setFld
    F.fchDiagCtlStatus status

/-- A word never written holds undefined data and check bits. -/
def State.undefWord (s : State) : State × BitVec 64 × BitVec 8 :=
  let a := s.draw
  let b := a.1.draw
  (b.1, a.2, b.2.truncate 8)

/-- The stored word and its check bits. -/
def State.rawWord (s : State) (set way word : Nat) : State × BitVec 64 × BitVec 8 :=
  match s.diagWindow set way word with
  | some k => if (s.wword k).known then (s, (s.wword k).data, (s.wword k).chk) else s.undefWord
  | none =>
    match Tab.get (fun _ => none) s.fch.raw ((16 * set + way) * 32 + word) with
    | some p => (s, p)
    | none => s.undefWord

/-- DIAG_READ: the stored word goes through the checker; nothing in the array changes. -/
def execDiagRead (h set way word : Nat) (s : State) : Host.Outcome State Fault Refusal :=
  done (s.barWrite h 0xD148 fun s =>
    let set := set % 65536
    let way := way % 16
    let word := word % 32
    if !s.diagOk way then (s.diagCtl set way word 0 1).raise Ev.fchRefused
    else
      let r := s.rawWord set way word
      let c := checkWord r.2.1 r.2.2
      let s := (r.1.diagCtl set way word 0 0).setFld F.fchDiagDataData r.2.1.toNat
      ((s.setFld F.fchDiagChkChk r.2.2.toNat).setFld F.fchDiagChkSyndrome c.1.toNat).setFld F.fchDiagChkResult c.2.1)

/-- DIAG_WRITE: DATA and CHK are stored unchanged; a window word becomes WRITTEN. -/
def execDiagWrite (h set way word : Nat) (s : State) : Host.Outcome State Fault Refusal :=
  done (s.barWrite h 0xD148 fun s =>
    let set := set % 65536
    let way := way % 16
    let word := word % 32
    if !s.diagOk way then (s.diagCtl set way word 1 1).raise Ev.fchRefused
    else
      let d := BitVec.ofNat 64 (s.fld F.fchDiagDataData)
      let c := BitVec.ofNat 8 (s.fld F.fchDiagChkChk)
      let s := s.diagCtl set way word 1 0
      match s.diagWindow set way word with
      | some k => s.setWword k ⟨.written, d, c, true⟩
      | none =>
        { s with fch := { s.fch with raw := Tab.set (fun _ => none) s.fch.raw ((16 * set + way) * 32 + word) (some (d, c)) } })

end Sys2Proof.Machine
end

