-- ==== Sys2Proof/Machine/Swatch.lean ====
section
/-!
DEFINITION. Carving and releasing the Swatch window, and its restore at power-up (R127 to R136).
-/
namespace Sys2Proof.Machine

/-! ### Carving (R128, R129) -/

/-- The domain whose extent holds every line of the range. -/
def State.domOfRange (s : State) (base n : Nat) : Option Nat :=
  (s.cry.doms.find? fun p => decide (p.2.base * 2 ^ 22 ≤ base ∧ base + n ≤ (p.2.base + p.2.count) * 2 ^ 22)).map (·.1)

/-- The first condition of R128 that fails, as REFUSE_WHY gives it; 0 when all hold. -/
def State.carveWhy (s : State) (n : Nat) : Nat :=
  let base := s.fld F.swtBaseBase * 65536
  if s.swt.st ≠ .none then 1
  else if s.fch.mode ≠ .on then 2
  else if n < 1 ∨ 4 < n then 3
  else
    match s.domOfRange base (n * 65536) with
    | none => 5
    | some d =>
      if (s.dom d).epochEn then 6
      else if BitVec.ofNat 16 (s.fld F.fchWaymaskWr) &&& ~~~(0xFFFF#16 <<< (16 - n)) = 0#16 then 7
      else 0

/-- REFUSED with its reason. -/
def State.swtRefuse (s : State) (why : Nat) : State := s.raiseN Ev.swtRefused (why * 2 ^ 8) 0

/-- Cached and handed copies of a range of lines go, and staged ones take no record (R129). -/
def State.discardRange (s : State) (base n : Nat) : State :=
  let hit (l : Nat) : Bool := decide (base ≤ l ∧ l < base + n)
  let s := { s with
    fch := { s.fch with
      arr := s.fch.arr.filter fun p => match p.2 with | some c => !hit c.line | none => true
      victim := s.fch.victim.filter fun c => !hit c.line
      side := s.fch.side.filter fun c => !hit c.line }
    wp := { s.wp with handed := s.wp.handed.filter fun x => !hit x.line } }
  s.updStaged (fun x => x.kind == .host && hit x.line && !x.recorded) fun x => { x with superseded := true }

/-- SWATCH_CARVE. A WAYS outside 1 to 4 leaves the field and is refused. -/
def execSwatchCarve (h ways : Nat) (s : State) : Host.Outcome State Fault Refusal :=
  done (s.barWrite h 0xE010 fun s =>
    let s := if 1 ≤ ways ∧ ways ≤ 4 then s.setFld F.swtCtlWays ways else s
    let n := s.fld F.swtCtlWays
    let why := s.carveWhy n
    if why ≠ 0 then s.swtRefuse why
    else
      let base := s.fld F.swtBaseBase * 65536
      let s := { s with swt := { s.swt with st := .carving, ways := n, base := base, pos := 0, handing := none
                                            dom := (s.domOfRange base (n * 65536)).getD 0 } }
      let s := s.discardRange base (n * 65536)
      (List.range n).foldl (fun t i => t.clearWay (15 - i) true) s)

/-- No dirty line is left in the window's ways. -/
def State.waysClear (s : State) : Bool :=
  !(s.fch.arr.any fun p => s.swtMask.getLsbD (p.1 % 16) && (match p.2 with | some c => c.sd != 0#4 | none => false))

/-- The Swatch window record of the Notion store. -/
def State.swtRecord (s : State) (releasing : Bool) : State :=
  { s with swt := { s.swt with record := some ⟨releasing, s.swt.ways, s.swt.base, s.swt.keep, s.swt.pos⟩ } }

/-- CARVE_DONE (R129, R131, R133): the range is unmapped, every word is UNWRITTEN, the record is written, STATE is ACTIVE. -/
def execCarveDone (s : State) : Host.Outcome State Fault Refusal :=
  done (s.when (s.pwr.coreOn && decide (s.swt.st = .carving ∧ s.map.st = .active) && s.waysClear) fun s =>
    let n := s.swt.ways
    let mask := s.swtMask
    let s := s.discardRange s.swt.base s.swtLines
    let s := { s with fch := { s.fch with arr := s.fch.arr.filter fun p => !(mask.getLsbD (p.1 % 16)) } }
    let s := (s.unmapRange s.swt.base s.swtLines).unpoisonRange s.swt.dom s.swt.base s.swtLines
    let s := s.fillWindow (if (s.dom s.swt.dom).st = .empty then WWord.zero else WWord.fresh)
    let s := { s with swt := { s.swt with st := .active, ways := n, save := none } }
    (s.swtRecord false).raise Ev.swtCarveDone)

/-! ### Release (R136) -/

/-- SWATCH_RELEASE. -/
def execSwatchRelease (h : Nat) (keep : Bool) (s : State) : Host.Outcome State Fault Refusal :=
  done (s.barWrite h 0xE010 fun s =>
    let s := s.setFld F.swtCtlKeep (ofBool keep)
    if s.swt.st = .active then { s with swt := { s.swt with st := .releasing, keep := keep, pos := 0, handing := none } }
    else s.swtRefuse 1)

/-- The release position moves past a line, and the record with it; after the last line the window is gone, its ways come back
empty and a blocked fold may proceed. -/
def State.handedBack (s : State) : State :=
  let s := { s with swt := { s.swt with pos := s.swt.pos + 1, handing := none } }
  if s.swt.pos < s.swtLines then s.swtRecord true
  else
    ({ s with
        swt := { s.swt with st := .none, ways := 0, words := [], dflt := WWord.fresh, record := none, save := none, pos := 0 } } : State).raise
      Ev.swtReleaseDone

/-- The sectors of a window line, and those that hold a word not WRITTEN. -/
def State.windowLine (s : State) (line : Nat) : Quad Sector × BitVec 4 :=
  let sec (k : Nat) : Sector :=
    (List.range 8).foldl (fun v j => v ||| ((s.wword (s.wordKey line k j)).data.zeroExtend 512 <<< (64 * j))) 0#512
  let bad (k : Nat) : Bool := (List.range 8).any fun j => decide ((s.wword (s.wordKey line k j)).st ≠ .written)
  (⟨sec 0, sec 1, sec 2, sec 3⟩,
    BitVec.ofNat 4 ((List.range 4).foldl (fun n k => n + ofBool (bad k) * 2 ^ k) 0))

/-- A host line has no copy on its way to media whose record is not durable. -/
def State.settled (s : State) (line : Nat) : Bool :=
  !(s.wp.handed.any fun x => x.line == line) && s.stagedCopies line == [] &&
    !(s.map.jbuf.any fun r => r.line == line) && !(s.map.jlines.any fun l => l.any fun r => r.line == line)

/-- SWATCH_LINE_HANDBACK: with KEEP 0, or in an EMPTY domain, the next line is handed back at once; with KEEP 1 it is written as
a host line, and is handed back when its MAP record is durable. -/
def execSwatchLineHandback (s : State) : Host.Outcome State Fault Refusal :=
  done (s.when (s.pwr.coreOn && decide (s.swt.st = .releasing)) fun s =>
    let line := s.swt.base + s.swt.pos
    match s.swt.handing with
    | some _ => if s.settled line then s.handedBack else s
    | none =>
      if !s.swt.keep ∨ (s.dom s.swt.dom).st = .empty then s.handedBack
      else
        let w := s.windowLine line
        let s := s.poisonMask line w.2 .internal
        let x : Handed := { line := line, dom := s.swt.dom, g := (s.chooseGroup line).getD 8, d := w.1, have_ := 0xF#4
                            be := Quad.all 0#64, sp := w.2, ep := s.epTag s.swt.dom, cached := false, ack := none }
        { s with swt := { s.swt with handing := some s.swt.pos }, wp := { s.wp with handed := s.wp.handed ++ [x] } })

/-! ### Restore at power-up (R133) -/

/-- A recorded window comes back, ACTIVE or RELEASING as its record shows: its words from the save of the final flush after a
clean recovery, all POISONED otherwise, zeros in an EMPTY domain. -/
def State.restoreWindow (s : State) (clean : Bool) : State :=
  match s.swt.record with
  | none => { s with swt := { s.swt with st := .none, ways := 0, words := [], dflt := WWord.fresh, save := none, handing := none } }
  | some r =>
    let d := (s.domOfRange r.base (r.ways * 65536)).getD 0
    let s := { s with swt := { s.swt with
      st := if r.releasing then .releasing else .active, ways := r.ways, base := r.base, dom := d, keep := r.keep, pos := r.pos
      handing := none } }
    if (s.dom d).st = .empty then s.fillWindow WWord.zero
    else
      match s.swt.save with
      | some v => if clean ∧ v.final then { s with swt := { s.swt with dflt := v.dflt, words := v.words } }
                  else (s.fillWindow { WWord.zero with st := .poisoned }).raiseN Ev.swtRestoreFail 0 0
      | none => (s.fillWindow { WWord.zero with st := .poisoned }).raiseN Ev.swtRestoreFail 0 0

end Sys2Proof.Machine
end

