-- ==== Sys2Proof/Machine/Power.lean ====
section
/-!
DEFINITION. Power sequencing: what a loss and a release of the core do, rails, requests, power failure, the flushes of
Table 5-6 and their completion, device conventional reset (R62 to R64, R180, R217 to R221, R438 to R465, R514, R515, R595, R599).
-/
namespace Sys2Proof.Machine

/-! ### Loss of the core (Table 13-5, R553) -/

/-- Registers that a device conventional reset keeps: what its owner restores, the power page, and the pages of the
housekeeping and Notion domains. -/
def keptByReset (off : Nat) : Bool :=
  decide (off = 0x100 ∨ off = 0x108 ∨ off = 0x110 ∨ (0x1000 ≤ off ∧ off < 0x6000) ∨ off = 0xD010)

/-- Registers that a power cycle keeps. -/
def keptByCycle (off : Nat) : Bool := decide (off = 0x100 ∨ off = 0x108 ∨ off = 0x110 ∨ (0x1000 ≤ off ∧ off < 0x2000) ∨ off = 0xD010)

/-- Registers that a loss of standby power keeps: the index, the power settings and the cache's ENABLE. -/
def keptByStandby (off : Nat) : Bool :=
  decide (off = 0x100 ∨ off = 0x1100 ∨ off = 0x1108 ∨ (0x11A0 ≤ off ∧ off < 0x1200) ∨ off = 0xD010)

/-- The stored registers without those that are not kept, the performance counters and the routing table. -/
def State.dropRegs (s : State) (kept : Nat → Bool) : State :=
  { s with regs := Tab.keep (fun k _ => kept k) s.regs, pmc := [], route := [] }

/-- Registers go to their Reset column, but for those kept; of FCH_CTL only ENABLE is kept (R124). -/
def State.resetRegs (s : State) (kept : Nat → Bool) : State :=
  let en := s.fld F.fchCtlEnable
  let s := s.dropRegs kept
  (s.setReg F.fchCtlEnable.off (regReset F.fchCtlEnable.off)).setFld F.fchCtlEnable en

/-- The write path loses staging; the open bolts stand at the stripe after the last one programmed. -/
def State.stagingDown (s : State) : State :=
  let fix (g : Nat) (o : OpenBolt) : OpenBolt := { o with next := s.progTop g o.block o.next }
  { s with wp := { s.wp with
      groups := Tab.mapVals (fun _ => Group.fresh)
        (fun g x => { x with host := x.host.map (fix g), metaB := x.metaB.map (fix g), upk := x.upk.map (fix g), stripes := []
                             admitLow := false, islandReset := false }) s.wp.groups,
      handed := [], flush := none, flushQ := [], gpfOwed := [] } }

/-- The front cache, the window's words, the crossing queues and every read in progress are gone. -/
def State.cacheDown (s : State) : State :=
  { s with
    fch := { s.fch with
      mode := .off, arr := [], plru := [], victim := [], side := [], trackers := [], mshr := [], missWait := [], dirtyWait := []
      evictWait := [], raw := [], cleaning := false, foldWait := 0#16, maint := none, emptying := 0#16, wayEmpty := 0#16, limit := 96
      holdLimit := 96 }
    swt := { s.swt with st := .none, ways := 0, words := [], dflt := WWord.fresh, handing := none }
    xq := []
    rd := { s.rd with reads := [], scan := none, scanRes := [] } }

/-- A domain without power: its counter will resume at the mark, a sweep at its saved position (R200, R393). -/
def Dom.down (x : Dom) : Dom :=
  { x with st := if x.st ≠ .failed then x.st else if (x.gen (1 - x.cur)).isSome then .rekeying else .active
           seq := x.mark, batches := [], halted := false, due := false, lastAbsent := none
           sweep := if (x.gen (1 - x.cur)).isSome then .waiting else .idle, pos := x.savedPos }

/-- Epoch state after a loss (Table 12-7): an armed Prepare is gone. -/
def EpoDom.down (e : EpoDom) : EpoDom :=
  let e := { e with armed := none, draining := false, via := 0 }
  if e.st = .preparing then { e with st := .open_, openTab := e.openTab ++ e.prepTab, prepTab := [] } else e

/-- The keys, epochs and upkeep of an unpowered core. -/
def State.enginesDown (s : State) : State :=
  { s with
    cry := { s.cry with doms := Tab.mapVals (fun _ => Dom.fresh) (fun _ => Dom.down) s.cry.doms, deviceHalt := false,
                        drbg := .starting, drbgReqs := 0, drbgRetries := 0, kvOps := [] }
    epo := { s.epo with doms := Tab.mapVals (fun _ => EpoDom.fresh) (fun _ => EpoDom.down) s.epo.doms, dbBusy := false
                        dbDom := 0, dbOp := 0, dbResult := 0, epochWait := [] }
    ntn := { s.ntn with scrubbing := false, queued := 0, alerts := [90, 95, 0, 0, 0], alertEn := 0b00111#5, alertSts := 0 }
    warp := { sk := [], valid := 0x03#8, degrOk := 0x02#8, valBusy := none, stalls := [], spent := 0, spentFrom := 0 }
    upk := { s.upk with
      groups := Tab.mapVals (fun _ => UpkGroup.fresh)
        (fun _ u => { u with wring := false, urgent := false, swap := false, pace := false, held := [] }) s.upk.groups,
      probing := [], rinse := false, unknown := true }
    flt := { s.flt with tests := [], spill := [], inj := none, hit := [], injAllowed := false, engHeld := 0#8 } }

/-- The thermal and housekeeping state that a power cycle loses. -/
def State.thermalDown (s : State) : State :=
  { s with thm := { s.thm with
      chan := [], prev := [], next := 0, used := [], f := [], dev := [], refRow := 0, gridRef := false, first := false, alarm := []
      hDie := s.ntn.histDie, hMedia := s.ntn.histMedia
      max := s.ntn.histMax, cap := s.thm.capSaved, capNext := none, thermLow := s.thm.trip.isSome, coolFrom := false, mw := 0, minSec := 128, minCur := 128 } }

/-- Every head's link goes down; PERST is the board's. -/
def State.headsDown (s : State) : State :=
  { s with host := { s.host with
      heads := Tab.mapVals (fun _ => Head.fresh) (fun _ x => { Head.fresh with perst := x.perst }) s.host.heads,
      memActive := false, bg := none, bgLast := none, egressOn := false, egressModerate := 10, egressSevere := 25, backpressure := [] } }

/-- Every package is held in reset and its link undiscovered. -/
def State.mediaDown (s : State) : State :=
  let s := { s with pwr := { s.pwr with mrst := 0xFF#8, pulse := 0#8 } }
  let keep (x : SkeinLink) : SkeinLink := if x.pkg = .retired then { SkeinLink.fresh with pkg := .retired } else SkeinLink.fresh
  { s with link := { s.link with sk := Tab.mapVals (fun _ => SkeinLink.fresh) (fun _ x => keep x) s.link.sk } }

/-- The core is held in reset (Table 13-5). -/
def State.coreDown (s : State) (kept : Nat → Bool) (thermal : Bool) : State :=
  let s := s.mapDown.stagingDown.cacheDown
  let s := s.enginesDown
  let s := if thermal then s.thermalDown else s
  let s := s.headsDown.mediaDown.resetRegs kept
  { s with
    pwr := { s.pwr with coreOn := false, hostStopped := true },
    side := if thermal then { s.side with i3cAddr := none, hotJoin := false, i3cEvents := false, mrl := 256, mwl := 256 } else s.side,
    fwu := { s.fwu with running := false, paused := false, rom := false, recovery := false, xfer := none }
    time := { s.time with slot := 0, pick := 0 } }

/-! ### Release of the core (R124, R133, R377, R403, R458, R503, R514) -/

/-- The recorder starts: its 0x2002 record comes first. -/
def State.recorderStart (s : State) : State :=
  let r : QRec := { code := 0x2002, src := 0xFFF, sev := 0, p0 := s.ctrVal 0 % 2 ^ 32, p1 := s.evt.newest.getD 0, p2 := 0
                    time := s.time.devtime, off := false }
  { s with evt := { s.evt with queue := r :: s.evt.queue } }

/-- Power-up finds the flush-in-progress marker set: a dirty shutdown (R221, R458). -/
def State.checkMarker (s : State) : State :=
  if s.wp.marker then
    let s := (s.ctrInc 2 1).1
    let s := { s with
      wp := { s.wp with marker := false },
      map := { s.map with anchor := s.map.anchor.map (fun (a : Anchor) => ({ a with clean := false } : Anchor)) } }
    s.raise Ev.pwrFlushIncomplete
  else s

/-- A head whose PERST is not asserted starts to detect. -/
def Head.detect (x : Head) : Head := if x.perst then x else { x with link := .detect }

/-- Wrapped-key records that are not empty, as 3 × domain + slot (R376, R377). -/
def State.keyRecords (s : State) : List Nat :=
  s.cry.doms.flatMap fun p =>
    (if p.2.gen0.isSome then [3 * p.1] else []) ++ (if p.2.gen1.isSome then [3 * p.1 + 1] else []) ++
      (if p.2.next.isSome then [3 * p.1 + 2] else [])

/-- Instructions that take control of the balls (R593). -/
def holdsBalls (i : JtagInst) : Bool :=
  match i with
  | .extest | .clamp | .highz | .extestPulse | .extestTrain => true
  | .bypass | .idcode | .sample | .preload | .other => false

/-- The core reset is released (R514 step 4). -/
def State.coreUp (s : State) : State :=
  let s := { s with
    pwr := { s.pwr with coreOn := true, hostStopped := false },
    side := { s.side with jtagHeld := s.side.jtagHeld || holdsBalls s.side.jtag },
    time := { s.time with slot := 0, pick := 0, opNs := s.ctrVal 4 * 1000000 },
    upk := { s.upk with unknownFrom := s.ctrVal 4 * 1000000 } }
  let s := s.recorderStart.checkMarker
  let clean := match s.map.anchor with | some a => a.clean | none => false
  let s := { s with
    cry := { s.cry with drbg := .ready, lastSeed := s.time.opNs, kvOps := s.keyRecords.map KvOp.unwrap },
    map := { s.map with st := if s.map.fmt.isSome then .loading else .unformatted, lastCkptNs := s.time.opNs,
                        metaSeq := s.ctrVal 6 }
    fch := { s.fch with mode := if s.fld F.fchCtlEnable = 1 then .enabling else .off },
    host := { s.host with heads := Tab.mapVals (fun _ => Head.fresh) (fun _ x => x.detect) s.host.heads } }
  ((s.raise Ev.kveDrbgReady).restoreWindow clean).romStart

/-! ### Rails (Table 13-1) -/

/-- Channels in the order of power-up, and of power-down. -/
def upOrder : List Nat := [8, 9, 0, 1, 3, 2, 4, 5, 6, 7, 10, 11]
def downOrder : List Nat := upOrder.reverse

/-- The up step of a channel: 2 to 13. -/
def stepOf (i : Nat) : Nat := match upOrder.findIdx? (· == i) with | some k => k + 2 | none => 1

/-- PWR_CFG.SKIP passes over PWC10 and PWC11. -/
def State.skipped (s : State) (i : Nat) : Bool := decide (10 ≤ i) && bitAt (s.fld F.pwrCfgSkip) (i - 10)

/-- Channels of a sequence not passed over. -/
def State.rails (s : State) : List Nat := upOrder.filter fun i => !s.skipped i

def seqCode : SeqSt → Nat
  | .standby => 0 | .rampUp => 1 | .on => 2 | .quiesce => 3 | .pfFlush => 4 | .waitDn => 5 | .rampDown => 6 | .offHold => 7
  | .retryWait => 8 | .latched => 9

/-- An event of the power page: STATE_AT, CHATTERS, STEP and CHANNEL captured (Table 13-9). -/
def State.pwrEvent (s : State) (e : Evt) (i : Nat) : State :=
  s.raiseN e (seqCode s.pwr.st * 2 ^ 24 + s.pwr.chat % 16 * 2 ^ 20 + stepOf i * 2 ^ 16 + i * 2 ^ 8) (s.fld F.pwrVinStsVinMv)

def bit12 (i : Nat) : BitVec 12 := 1#12 <<< i

/-- PWC_EN of a channel asserts: its step runs. -/
def State.startRail (s : State) (i : Nat) : State :=
  { s with pwr := { s.pwr with en := s.pwr.en ||| bit12 i, qual := s.pwr.qual &&& ~~~(bit12 i), settled := s.pwr.settled &&& ~~~(bit12 i)
                               cur := i, chat := 0 } }

/-- PWC_EN of a channel deasserts. -/
def State.stopRail (s : State) (i : Nat) : State :=
  { s with pwr := { s.pwr with en := s.pwr.en &&& ~~~(bit12 i), qual := s.pwr.qual &&& ~~~(bit12 i)
                               settled := s.pwr.settled &&& ~~~(bit12 i) } }

/-- The first rail to come down is disabled; with none left OFF_HOLD begins (R446, R451). -/
def State.nextDown (s : State) : State :=
  match s.pwr.down with
  | i :: _ => s.stopRail i
  | [] => { s with pwr := { s.pwr with st := .offHold, seqDnOut := true } }

/-- RAMP_DOWN begins, with `first` ahead of the down order (R444, R446, R447). -/
def State.rampDown (s : State) (first : Option Nat) (why : OffWhy) : State :=
  let on := downOrder.filter fun i => s.pwr.en.getLsbD i
  let l := match first with | some i => i :: on.filter (fun k => k != i) | none => on
  let s := if s.pwr.coreOn then s.coreDown keptByCycle true else s.mediaDown
  ({ s with pwr := { s.pwr with st := .rampDown, down := l, why := why, seqUpOut := false, brd := true, offReq := false
                                devReset := .none } } : State).nextDown

/-- RAMP_UP begins (R441). -/
def State.rampUp (s : State) : State :=
  match s.rails with
  | [] => s
  | i :: _ =>
    ({ s with pwr := { s.pwr with st := .rampUp, seqDnOut := false, pfw := false, why := .normal, offReq := false
                                  down := [] } } : State).startRail i

/-- ON is reached: POWER_CYCLES, SEQ_UP_OUT, the core (Sequence 13-1 step 14, R451, R463, R482). The TRIP of the
last power-up shows in THM_EVT_STS (Table 14-5). -/
def State.reachOn (s : State) : State :=
  let tripped := s.thm.trip.isSome
  let s := (s.ctrInc 0 1).1
  let s := { s with
    pwr := { s.pwr with st := .on, seqUpOut := true, seqDnIn := false, retries := 0, faultSeq := false, faultTrip := false }
    thm := { s.thm with trip := none } }
  let t := (s.raise Ev.pwrSeqDone).coreUp
  if tripped then t.setEvtBit Ev.thmTrip else t

/-- Counts of a rail (Table 15-2): CHATTER, TIMEOUTS and LOST in counter 16 + i, STUCK in 28 to 31. -/
def State.railCount (s : State) (i lo : Nat) : State := (s.ctrIncField (16 + i) lo).1

def State.stuckCount (s : State) (i : Nat) : State := (s.ctrIncField (28 + i / 3) (32 - 16 * (i % 3))).1

/-- A sequence aborts on rail `i` (R444). -/
def State.seqAbort (s : State) (i : Nat) : State :=
  let s := (s.ctrInc 1 1).1
  let s := s.pwrEvent Ev.pwrSeqAbort i
  ({ s with pwr := { s.pwr with faultSeq := true } } : State).rampDown (some i) .abort

/-! ### Flushes (R180, R217, R221, R599) -/

/-- Nothing is left that the flush must write: its lines are staged, their stripes recorded, no map-cache line is dirty. -/
def State.flushWritten (s : State) (f : Flush) : Bool :=
  let gpf := match f.kind with | .gpf _ => true | _ => false
  decide (f.lines = []) &&
    (List.range s.popP).all (fun g => (s.group g).stripes.all fun t => t.part == .upk || (gpf && t.isOpen)) &&
    decide (s.mdirty = 0)

/-- No ply group can take the lines that are left (R221). -/
def State.flushStuck (s : State) (f : Flush) : Bool :=
  decide (f.lines ≠ []) &&
    !(List.range s.popP).any fun g => !(s.group g).stopped && !(s.group g).islandReset && (s.cry.deviceHalt || s.admits g)

/-- The flush covers the persistence domain and nothing is appended after it (R180). -/
def FlushKind.final : FlushKind → Bool
  | .powerFail | .quiesce | .devReset => true
  | .gpf _ | .halt => false

/-- Item 6: the checkpoint, and the marker (R180, R221). Without an ACTIVE map there is nothing to cover; the marker then goes
only when the device holds no format. -/
def State.flushCkpt (s : State) (k : FlushKind) (failed : Bool) : State :=
  let s := s.saveWindow k.final
  let ms := s.time.opNs / 1000000 - s.ctrVal 4
  let s := if 0 < ms then (s.ctrInc 4 ms).1 else s
  let s := s.writeBackFold
  let s := if s.map.st = .active then
      let s := s.writeJnl
      let s := { s with upk := { s.upk with shot := none } }
      s.finishCkpt s.map.nextJsn (k.final && !failed)
    else s
  let kept := failed || (decide (s.map.st ≠ .active) && s.map.fmt.isSome && decide (s.map.st ≠ .failed))
  { s with wp := { s.wp with flush := none, marker := kept } }

/-- Every GPF request that this flush answers. -/
def State.gpfAnswers (s : State) (k : FlushKind) (failed : Bool) : State :=
  let queued := s.wp.flushQ.filterMap fun q => match q with | .gpf h => some h | _ => none
  let hs := match k with
    | .gpf h => [h]
    | .halt => []
    | _ => s.wp.gpfOwed ++ queued
  let s := hs.foldl (fun t h => t.emit (.gpf h failed)) s
  if k.final then { s with wp := { s.wp with gpfOwed := [], flushQ := [] } } else s

/-- The core goes down after an orderly flush, and the cascade is awaited (R448, R451). -/
def State.enterWaitDn (s : State) : State :=
  let s := s.coreDown keptByCycle true
  let s := { s with pwr := { s.pwr with st := .waitDn, devReset := .none } }
  if s.pwr.seqDnIn then s.rampDown none s.pwr.why else s

/-- Steps 3 and 4 of a device conventional reset (Sequence 13-6). -/
def State.holdReset (s : State) : State :=
  let s := s.coreDown keptByReset false
  { s with pwr := { s.pwr with devReset := .holding, brd := s.pwr.brd || s.fld F.pwrCfgBrdOnDevrst == 1 } }

/-- What follows a flush of a kind. -/
def State.afterFlush (s : State) (k : FlushKind) : State :=
  match k with
  | .powerFail => s.rampDown none s.pwr.why
  | .quiesce => s.enterWaitDn
  | .devReset => if s.pwr.devReset = .toPowerDown then s.enterWaitDn else s.holdReset
  | .gpf _ | .halt => s.startSched

/-- FLUSH_DONE (R62, R180, R217, R221): `notionOk` says whether the Notion writes of item 6 completed. -/
def execFlushDone (notionOk : Bool) (s : State) : Host.Outcome State Fault Refusal :=
  done (s.when s.pwr.coreOn fun s =>
    match s.wp.flush with
    | none => s
    | some f =>
      let stuck := s.flushStuck f
      if s.flushWritten f || stuck then
        let failed := f.failed || stuck || !notionOk
        let s := (s.flushCkpt f.kind failed).gpfAnswers f.kind failed
        let s := if notionOk then s.saveHist else s
        let s := s.raiseIf (!failed) Ev.pwrFlushDone
        s.afterFlush f.kind
      else s)

/-- GPF_PHASE2_REQUEST (R62, R64, R599). -/
def execGpfPhase2Request (h : Nat) (s : State) : Host.Outcome State Fault Refusal :=
  let s := s.begin
  done (if s.ioUp h then s.requestFlush (.gpf h) else s.emit .notAccepted)

/-- QUEUED_FLUSH_START (R599). -/
def execQueuedFlushStart (s : State) : Host.Outcome State Fault Refusal :=
  done (s.when (s.pwr.coreOn && s.wp.flush.isNone) fun s =>
    match s.wp.flushQ with
    | [] => s
    | k :: rest => ({ s with wp := { s.wp with flushQ := rest } } : State).beginFlush k)

/-- The running flush, of whatever kind, goes on as the power-fail flush (R599): every dirty line, host ports stopped, upkeep's
stripes discarded; a GPF answer stays owed. -/
def State.toPowerFail (s : State) (f : Flush) : State :=
  let more := s.dirtyOldest.filter fun l => !f.lines.contains l
  let lines := f.lines ++ more
  let owed := match f.kind with | .gpf h => [h] | _ => []
  let s := s.dropUpkeep
  let s := { s with pwr := { s.pwr with hostStopped := true } }
  let s := { s with wp := { s.wp with flush := some ⟨.powerFail, f.failed, lines⟩, gpfOwed := s.wp.gpfOwed ++ owed } }
  let s := more.foldl State.hand s
  if lines = [] then s.padAll else s

/-- A power failure starts its flush, or takes over the one that runs; PF_FLUSHES counts it, and the host ports go off
(R455, R458). -/
def State.enterPfFlush (s : State) : State :=
  let s := (s.ctrInc 3 1).1
  let s := { s with pwr := { s.pwr with st := .pfFlush, seqUpOut := false, hostStopped := true, devReset := .none } }
  let s := match s.wp.flush with
    | some f => s.toPowerFail f
    | none => s.beginFlush .powerFail
  { s with host := { s.host with heads := Tab.mapVals (fun _ => Head.fresh) (fun _ x => { x with link := .off }) s.host.heads } }

/-- An off request in ON: QUIESCE (R448), or what Table 13-3 says during a device conventional reset. -/
def State.offInOn (s : State) (why : OffWhy) : State :=
  let s := { s with pwr := { s.pwr with seqUpOut := false, why := why, hostStopped := true } }
  match s.pwr.devReset with
  | .holding => ({ s with pwr := { s.pwr with st := .waitDn, devReset := .none } } : State)
  | .flushing => { s with pwr := { s.pwr with st := .quiesce, devReset := .toPowerDown } }
  | _ => ({ s with pwr := { s.pwr with st := .quiesce } } : State).requestFlush .quiesce

/-! ### Standby power (R438, R440, R595) -/

/-- STANDBY_POWER_ON: straps are sampled and DEVTIME starts (R29, R37). -/
def execStandbyPowerOn (hbif : Bool) (s : State) : Host.Outcome State Fault Refusal :=
  done (s.when (!s.pwr.stby) fun s =>
    let s := { s with
      host := { s.host with hbif := hbif }
      pwr := { s.pwr with stby := true, st := .standby, seqUpOut := false, seqDnOut := true, seqUpIn := false, seqDnIn := false, pfw := false
                          retries := 0, chat := 0, brd := true }
      time := { s.time with devtime := 0, upNs := 0, slewLeft := 0, slewE := 0, slewAcc := 0, ppsLocked := false, lastEdge := none
                            candidate := none, marked := none, setTs := none } }
    s.setFld F.pwrErrInfoStateAt s.pwr.lossSt)

/-- The sequencer without standby power; the state it was in is kept for STATE_AT. -/
def PwrState.noStandby (p : PwrState) : PwrState :=
  { p with stby := false, st := .standby, en := 0#12, qual := 0#12, settled := 0#12, down := [], offReq := false, faultSeq := false,
           devReset := .none, why := .normal, lossSt := seqCode p.st, seqUpOut := false, seqDnOut := false, brd := true }

/-- What a loss of standby power does. -/
def State.standbyDown (s : State) : State :=
  let p := s.pwr.noStandby
  let s := if s.pwr.coreOn then s.coreDown keptByStandby true else s.mediaDown.thermalDown
  let s := s.resetRegs keptByStandby
  let p := { p with mrst := s.pwr.mrst, pulse := s.pwr.pulse, coreOn := s.pwr.coreOn, hostStopped := s.pwr.hostStopped }
  { s with pwr := p, evt := { s.evt with queue := [], dropped := 0, fold := none, clearing := false } }

/-- STANDBY_POWER_LOSS: every enable falls at once, without a flush. -/
def execStandbyPowerLoss (s : State) : Host.Outcome State Fault Refusal :=
  done (s.when s.pwr.stby State.standbyDown)

/-! ### Power-up (R441 to R445) -/

/-- POWER_UP_START. -/
def execPowerUpStart (s : State) : Host.Outcome State Fault Refusal :=
  done (s.when (s.pwr.stby && s.pwr.st == .standby && s.pwr.seqUpIn) State.rampUp)

/-- RAIL_QUALIFIED. -/
def execRailQualified (s : State) : Host.Outcome State Fault Refusal :=
  done (s.when (s.pwr.st == .rampUp && s.pwr.en.getLsbD s.pwr.cur && !s.pwr.qual.getLsbD s.pwr.cur) fun s =>
    { s with pwr := { s.pwr with qual := s.pwr.qual ||| bit12 s.pwr.cur } })

/-- RAIL_SETTLED: the next step, ON after the last, or the way down when an off request waits (Table 13-3). -/
def execRailSettled (s : State) : Host.Outcome State Fault Refusal :=
  done (s.when (s.pwr.st == .rampUp && s.pwr.qual.getLsbD s.pwr.cur && !s.pwr.settled.getLsbD s.pwr.cur) fun s =>
    let s := { s with pwr := { s.pwr with settled := s.pwr.settled ||| bit12 s.pwr.cur } }
    if s.pwr.offReq then s.rampDown none s.pwr.why
    else
      match s.rails.find? fun i => !s.pwr.settled.getLsbD i with
      | some i => s.startRail i
      | none => s.reachOn)

/-- A chatter event of rail `i`. -/
def State.chatter (s : State) (i : Nat) : State :=
  let p := { s.pwr with qual := s.pwr.qual &&& ~~~(bit12 i), chat := s.pwr.chat + 1 }
  let t := (({ s with pwr := p } : State).railCount i 32).pwrEvent Ev.pwrChatter i
  if decide (4 ≤ p.chat) && !p.offReq then t.seqAbort i else t

/-- CHATTER: the step waits for the rail to qualify again; the fourth aborts. -/
def execChatter (s : State) : Host.Outcome State Fault Refusal :=
  done (s.when (s.pwr.st == .rampUp && s.pwr.qual.getLsbD s.pwr.cur && !s.pwr.settled.getLsbD s.pwr.cur) fun s =>
    s.chatter s.pwr.cur)

/-- STEP_TIMEOUT: an abort, unless an off request waits for the step's end (Table 13-3). -/
def execStepTimeout (s : State) : Host.Outcome State Fault Refusal :=
  done (s.when (s.pwr.st == .rampUp && !s.pwr.settled.getLsbD s.pwr.cur) fun s =>
    if s.pwr.offReq then s.rampDown none s.pwr.why
    else ((s.railCount s.pwr.cur 16).pwrEvent Ev.pwrStepTimeout s.pwr.cur).seqAbort s.pwr.cur)

/-- RAIL_LOST (R443, R450): in RAMP_UP a settled rail aborts; in ON the power-fail flush begins. -/
def execRailLost (i : Nat) (s : State) : Host.Outcome State Fault Refusal :=
  done (s.when (s.pwr.settled.getLsbD i) fun s =>
    match s.pwr.st with
    | .rampUp =>
      let s := { s with pwr := { s.pwr with qual := s.pwr.qual &&& ~~~(bit12 i) } }
      ((s.railCount i 0).pwrEvent Ev.pwrRailLost i).seqAbort i
    | .on =>
      let s := { s with pwr := { s.pwr with qual := s.pwr.qual &&& ~~~(bit12 i) } }
      let s := (s.railCount i 0).pwrEvent Ev.pwrRailLost i
      if s.pwr.coreOn then s.enterPfFlush else s.rampDown none .normal
    | _ => s)

/-- RETRY_START (R445). -/
def execRetryStart (s : State) : Host.Outcome State Fault Refusal :=
  done (s.when (s.pwr.st == .retryWait) fun s =>
    if s.pwr.seqUpIn then ({ s with pwr := { s.pwr with retries := s.pwr.retries + 1 } } : State).rampUp
    else { s with pwr := { s.pwr with st := .standby } })

/-! ### Power-down (R446 to R449) -/

/-- RAIL_OFF: the next rail is disabled. -/
def execRailOff (i : Nat) (s : State) : Host.Outcome State Fault Refusal :=
  done (s.when (s.pwr.st == .rampDown && s.pwr.down.head? == some i) fun s =>
    ({ s with pwr := { s.pwr with down := s.pwr.down.tail } } : State).nextDown)

/-- RAIL_STUCK: counted, and power-down goes on. -/
def execRailStuck (i : Nat) (s : State) : Host.Outcome State Fault Refusal :=
  done (s.when (s.pwr.st == .rampDown && s.pwr.down.head? == some i) fun s =>
    let s := (s.stuckCount i).pwrEvent Ev.pwrRailStuck i
    ({ s with pwr := { s.pwr with faultSeq := true, down := s.pwr.down.tail } } : State).nextDown)

/-- OFF_HOLD_END (Table 13-2): LATCHED is left at once where SEQ_UP_IN is already low. -/
def execOffHoldEnd (s : State) : Host.Outcome State Fault Refusal :=
  done (s.when (s.pwr.st == .offHold) fun s =>
    let goTo (st : SeqSt) : State := { s with pwr := { s.pwr with st := st } }
    let latch (t : State) : State :=
      { t with pwr := { t.pwr with st := if t.pwr.seqUpIn then .latched else .standby, retries := 0 } }
    match s.pwr.why with
    | .normal => goTo .standby
    | .localOff | .trip => latch s
    | .abort =>
      if s.pwr.retries < s.fld F.pwrCfgRetries then goTo (if s.pwr.seqUpIn then .retryWait else .standby)
      else latch (s.pwrEvent Ev.pwrLatched s.pwr.cur))

/-! ### Requests (R450 to R453) -/

/-- SEQ_UP_IN_FALL. -/
def execSeqUpInFall (s : State) : Host.Outcome State Fault Refusal :=
  done (s.when s.pwr.stby fun s =>
    let s := { s with pwr := { s.pwr with seqUpIn := false } }
    match s.pwr.st with
    | .rampUp => { s with pwr := { s.pwr with offReq := true } }
    | .on => s.offInOn .normal
    | .retryWait | .latched => { s with pwr := { s.pwr with st := .standby, retries := 0 } }
    | _ => s)

/-- SEQ_UP_IN_RISE. -/
def execSeqUpInRise (s : State) : Host.Outcome State Fault Refusal :=
  done (s.when s.pwr.stby fun s => { s with pwr := { s.pwr with seqUpIn := true } })

/-- SEQ_DN_IN_RISE. -/
def execSeqDnInRise (s : State) : Host.Outcome State Fault Refusal :=
  done (s.when s.pwr.stby fun s =>
    let s := { s with pwr := { s.pwr with seqDnIn := true } }
    if s.pwr.st = .waitDn then s.rampDown none s.pwr.why else s)

/-- CASCADE_TIMEOUT. -/
def execCascadeTimeout (s : State) : Host.Outcome State Fault Refusal :=
  done (s.when (s.pwr.st == .waitDn && !s.pwr.seqDnIn) fun s => (s.pwrEvent Ev.pwrCascadeTimeout 0).rampDown none s.pwr.why)

/-- LOCAL_OFF: PWR_CTL.OFF with the key. -/
def execLocalOff (h key : Nat) (s : State) : Host.Outcome State Fault Refusal :=
  done (s.barWrite h F.pwrCtlOff.off fun s =>
    if key = 0xD5 ∧ s.pwr.st = .on then s.offInOn .localOff else s.raise Ev.pwrRefused)

/-- POWER_FAIL (R454, R455, Table 13-3). -/
def execPowerFail (s : State) : Host.Outcome State Fault Refusal :=
  done (s.when s.pwr.stby fun s =>
    let warn (t : State) : State := ({ t with pwr := { t.pwr with pfw := true } } : State).pwrEvent Ev.pwrPowerFail t.pwr.cur
    match s.pwr.st with
    | .rampUp => (warn s).rampDown (some s.pwr.cur) .normal
    | .on => if s.pwr.coreOn then (warn s).enterPfFlush else (warn s).rampDown none .normal
    | .quiesce => (warn s).enterPfFlush
    | .waitDn => (warn s).rampDown none s.pwr.why
    | .rampDown => warn s
    | _ => s)

/-! ### Device conventional reset (R461, Sequence 13-6) -/

/-- The reset is accepted: host ports stop and the flush begins. -/
def State.startDevReset (s : State) : State :=
  ({ s with pwr := { s.pwr with devReset := .flushing, hostStopped := true } } : State).requestFlush .devReset

/-- DEV_RESET: held while an activation pauses the firmware (R531). -/
def execDevReset (h key : Nat) (s : State) : Host.Outcome State Fault Refusal :=
  done (s.barWrite h F.pwrCtlDevReset.off fun s =>
    if key ≠ 0xD5 ∨ s.pwr.st ≠ .on ∨ s.pwr.devReset ≠ .none then s.raise Ev.pwrRefused
    else if s.fwu.paused then { s with fwu := { s.fwu with devResetHeld := true } }
    else s.startDevReset)

/-- DEV_RESET_DONE: step 5, the core is released. -/
def execDevResetDone (s : State) : Host.Outcome State Fault Refusal :=
  done (s.when (s.pwr.devReset == .holding) fun s =>
    ((({ s with pwr := { s.pwr with devReset := .none } } : State).applyUndo).raise Ev.pwrDevResetDone).coreUp)

/-- PWR_CTL.CNT_CLR (R465, R497): the rail counts and SEQ_ABORTS; a clear past the last generation is refused. -/
def execPwrCntClr (h : Nat) (s : State) : Host.Outcome State Fault Refusal :=
  done (s.barWrite h F.pwrCtlCntClr.off fun s =>
    (1 :: (List.range 16).map (fun i => 16 + i)).foldl
      (fun t c => match t.ctrClear c with | (u, true) => u | (u, false) => u.raise Ev.pwrRefused) s)

/-! ### Board reset and start-up (R460, R514, R515) -/

/-- FIRMWARE_RUNNING: step 8 of Sequence 16-1. -/
def execFirmwareRunning (s : State) : Host.Outcome State Fault Refusal :=
  done (s.when (s.pwr.coreOn && s.fwu.rom) fun s =>
    let first := s.fwu.trialMethod == 3 && s.boot.st == .trial
    let s := { s with fwu := { s.fwu with running := true, rom := false, trialMethod := 0 },
                      side := { s.side with hotJoin := s.side.i3cAddr.isNone } }
    let s := if s.boot.st = .trial then s.setBoot { s.boot with attempts := 0 } else s
    if first then
      let s := { s with fwu := { s.fwu with pendingImg := false } }
      ((s.bump F.fwuCntActivations 1).raiseN Ev.fwuActivated (fwuInfo s.boot.running 0) 0).fwRecord 0x1100 0
        (s.verOf s.boot.running) s.fwu.prevVer 3
    else s)

/-- Every condition of R515. -/
def State.mayActivate (s : State) : Bool :=
  s.map.st == .active && s.swt.st != .restoring && s.fwu.running && !s.fwu.recovery && s.pwr.coreOn &&
    !(s.cry.kvOps.any fun o => match o with | .unwrap _ => true | _ => false)

/-- MEMORY_ACTIVE (R515). -/
def execMemoryActive (s : State) : Host.Outcome State Fault Refusal :=
  done (s.when s.mayActivate fun s => { s with host := { s.host with memActive := true } })

end Sys2Proof.Machine
end

