-- ==== Sys2Proof/Machine/Epochs.lean ====
section
/-!
DEFINITION. Epochs at work: acceptance of the commands, prepare points and deadlines, Prepare, Commit with its cleanup,
Abort, enabling and disabling, the status command (R33, R34, R409 to R437).
-/
namespace Sys2Proof.Machine

/-! ### Return codes as numbers -/

/-- The CXL return code of a mailbox answer (PRESUMED: the CXL specification's numbering). -/
def Rc.code : Rc → Nat
  | .success => 0 | .backgroundStarted => 1 | .invalidInput => 2 | .unsupported => 3 | .internalError => 4
  | .retryRequired => 5 | .busy => 6 | .mediaDisabled => 7 | .fwTransferInProgress => 8 | .transferOutOfOrder => 9
  | .fwVerificationFailed => 10 | .invalidSlot => 11 | .activationFailed => 12 | .invalidHandle => 14
  | .invalidPhysicalAddress => 15 | .injectPoisonLimit => 16 | .invalidSecurityState => 19

/-! ### Discarding what a domain has not yet on media (R174, R399, R429) -/

/-- Of the lines that `sel` takes by line and domain: requests not yet answered end, cache lines go without write-back, unsealed
staged lines map nothing, and merge reads are abandoned. -/
def State.dropWhere (s : State) (ans : State → Req → State) (sel : Nat → Nat → Bool) : State :=
  let s := s.endWhere ans sel
  let lines := ((s.cacheLines ++ s.fch.side).filter fun c => sel c.line c.dom).map fun c => c.line
  let s := lines.foldl (fun t l => (t.dropLine l).dropSide l) s
  let gone (l : Nat) : Bool := lines.contains l
  let maint := s.fch.maint.map fun (m : Maint) => ({ m with waiting := m.waiting.filter fun l => !gone l } : Maint)
  let mshr := s.fch.mshr.map fun (e : Mshr) => if sel e.line e.dom then ({ e with drop := true } : Mshr) else e
  let flush := s.wp.flush.map fun (f : Flush) => ({ f with lines := f.lines.filter fun l => !gone l } : Flush)
  let s : State := { s with
    fch := { s.fch with maint := maint, mshr := mshr },
    wp := { s.wp with handed := s.wp.handed.filter (fun (x : Handed) => !sel x.line x.dom), flush := flush },
    rd := { s.rd with reads := s.rd.reads.filter fun (r : Rd) => match r.why with | .merge _ => !sel r.line r.dom | _ => true } }
  let mark (x : Staged) : Staged :=
    if x.kind = .host ∧ sel x.line x.dom then (if x.enc then { x with superseded := true } else Staged.filler) else x
  (List.range 8).foldl
    (fun t g =>
      let st := (t.group g).stripes.map fun (x : Stripe) => if x.sealed then x else ({ x with lines := x.lines.map mark } : Stripe)
      (t.setStripes g st).settleGroup g) s

/-- The same for a whole domain. -/
def State.dropDomain (s : State) (ans : State → Req → State) (d : Nat) : State := s.dropWhere ans fun _ k => k == d

/-! ### Acceptance (R424, Table 12-5) -/

/-- A containment halt covers the domain. -/
def State.haltCovers (s : State) (d : Nat) : Bool := s.cry.deviceHalt || (s.dom d).halted

/-- The refusal of a command that Table 12-5's first rows give, if any. -/
def State.epochGate (s : State) (d : Nat) : Option Rc :=
  if 256 ≤ d then some .invalidInput
  else if s.haltCovers d then some .mediaDisabled
  else if (s.dom d).epochEn then none
  else some .invalidInput

/-- Prepare: the first refusal that applies. -/
def State.prepareGate (s : State) (d e deadline : Nat) (pps : Bool) : Option Rc :=
  match s.epochGate d with
  | some r => some r
  | none =>
    let x := s.epoDom d
    if s.fld F.topMidxAssigned = 0 ∨ (deadline ≠ 0 ∧ s.fld F.topTimeValid = 0) then some .invalidSecurityState
    else if e = 0 ∨ 2 ^ 48 - 1 ≤ e ∨ e ≤ x.c ∨ (deadline ≠ 0 ∧ deadline < s.time.devtime) ∨
        (deadline ≠ 0 ∧ pps ∧ deadline % 1000000000 ≠ 0) then some .invalidInput
    else if x.st ≠ .open_ ∨ x.cleanup.isSome ∨ x.armed.isSome then some .busy
    else none

/-- Commit. -/
def State.commitGate (s : State) (d e : Nat) : Option Rc :=
  match s.epochGate d with
  | some r => some r
  | none =>
    let x := s.epoDom d
    if x.st ≠ .prepared then some .busy else if e ≠ x.e then some .invalidInput else none

/-- An armed Prepare of this epoch. -/
def EpoDom.armedFor (x : EpoDom) (e : Nat) : Bool := match x.armed with | some a => a.1 == e | none => false

/-- Abort; after a stop of insertions it fails with Busy until a later Commit (R433). -/
def State.abortGate (s : State) (d e : Nat) : Option Rc :=
  match s.epochGate d with
  | some r => some r
  | none =>
    let x := s.epoDom d
    if x.rollbackInc then some .busy
    else if x.st ≠ .open_ ∧ x.st ≠ .prepared then some .busy
    else if x.armedFor e ∨ (x.st = .prepared ∧ e = x.e) ∨ (x.st = .open_ ∧ e = x.c) then none
    else some .invalidInput

/-! ### Prepare (R425, R426) -/

/-- The prepare point: the phase count rises, the open table becomes the prepared one, and the domain's dirty lines go to
staging while its writes wait. -/
def State.prepareNow (s : State) (d e via owner : Nat) : State :=
  let x := s.epoDom d
  let s := s.setEpoDom d { x with st := .preparing, e := e, phase := x.phase + 1, prepTab := x.openTab, openTab := [], armed := none,
                                  draining := true, via := via, owner := owner }
  (s.handDomain d).endDraining d

/-- Prepare as accepted: at once, or armed. -/
def State.prepare (s : State) (d e deadline : Nat) (pps : Bool) (via owner : Nat) : State :=
  if deadline = 0 then s.prepareNow d e via owner
  else s.setEpoDom d { s.epoDom d with armed := some (e, deadline, pps) }

/-- A line of the phase that ended is still on its way: staged without its record, or its record is not yet durable. -/
def State.phasePending (s : State) (d : Nat) : Bool :=
  let x := s.epoDom d
  let x' := s.dom d
  let old (l : Staged) : Bool :=
    (l.kind == .host && l.dom == d && !l.superseded && l.ep != decide (x.phase % 2 = 1)) ||
      (l.kind == .tagLine && decide (tagBase + x'.base * 2 ^ 17 ≤ l.line ∧ l.line < tagBase + (x'.base + x'.count) * 2 ^ 17))
  (List.range 8).any (fun g => (s.group g).stripes.any fun t => t.lines.any fun l => !l.recorded && old l) ||
    (s.map.jbuf ++ s.map.jlines.flatten).any fun r => decide (r.kind = JKind.map) && (r.dom == d || !isHostLine r.line)

/-- PREPARE_DONE (R426). -/
def execPrepareDone (d : Nat) (s : State) : Host.Outcome State Fault Refusal :=
  let x := s.epoDom d
  done (s.when (s.pwr.coreOn && decide (x.st = .preparing) && !x.draining && !s.phasePending d && !s.tagsDirty d &&
      !s.haltCovers d) fun s =>
    let s := (s.setEpoDom d { x with st := .prepared, jp := s.map.nextJsn, via := 0 }).raiseN Ev.epoPrepareDone (d * 2 ^ 40) 0
    match x.via with
    | 1 => s.answerMbox x.owner .success []
    | 2 => { s with epo := { s.epo with dbBusy := false, dbResult := 0 } }
    | _ => s)

/-! ### Deadlines (R33, R431) -/

/-- A deadline fires: one not PPS-aligned once DEVTIME equals or passes it, a PPS-aligned one at an edge that marked its second
or a later one. -/
def State.deadlineDue (s : State) (t : Nat) (pps : Bool) : Bool :=
  if pps then (match s.time.marked with | some m => decide (t ≤ m) | none => false) else decide (t ≤ s.time.devtime)

/-- A PPS-aligned deadline fires from DEVTIME alone. -/
def State.deadlineAlone (s : State) (t : Nat) : Bool :=
  let now := s.time.devtime
  let noEdge := !s.deadlineDue t true
  let jumped := match s.time.setTs with | some (_, old, new) => decide (old < t ∧ t ≤ new) | none => false
  let waited := match s.time.setTs with | some (at_, _, _) => decide (at_ + 1100000000 ≤ s.time.upNs) | none => false
  noEdge && decide (t ≤ now) &&
    (s.fld F.topTimePpsOk == 0 || (jumped && waited) || (!jumped && decide (t + 100000000 ≤ now)))

/-- An armed Prepare fires. It waits while a cleanup runs, which leaves no table; one that a forced seal or a halt has overtaken
is dropped. -/
def State.firePrepare (s : State) (d e : Nat) : State :=
  let x := s.epoDom d
  let drop (r : Rc) : State :=
    (s.setEpoDom d { x with armed := none }).raiseN Ev.epoRefused (d * 2 ^ 40 + r.code * 2 ^ 8) 0
  if s.haltCovers d then drop .mediaDisabled
  else if x.st ≠ .open_ ∨ e ≤ x.c then drop .invalidInput
  else if x.cleanup.isSome then s
  else s.prepareNow d e 0 0

/-- An armed deadline fires when `test` says so. -/
def State.fire (s : State) (id : DeadlineId) (test : Nat → Bool → Bool) (ev : Bool) : State :=
  match id with
  | .prepare d =>
    match (s.epoDom d).armed with
    | some (e, t, pps) => if test t pps then (s.raiseIf ev Ev.topUnalignedFire).firePrepare d e else s
    | none => s
  | .activation =>
    match s.fwu.sched with
    | some x =>
      if test x.deadline x.pps ∧ !x.fired then
        let s := s.raiseIf ev Ev.topUnalignedFire
        ({ s with fwu := { s.fwu with sched := some { x with fired := true } } } : State).startSched
      else s
    | none => s

/-- DEADLINE_FIRE. -/
def execDeadlineFire (id : DeadlineId) (s : State) : Host.Outcome State Fault Refusal :=
  done (s.when s.pwr.coreOn fun s => s.fire id (fun t pps => s.deadlineDue t pps) false)

/-- UNALIGNED_FIRE. -/
def execUnalignedFire (id : DeadlineId) (s : State) : Host.Outcome State Fault Refusal :=
  done (s.when s.pwr.coreOn fun s => s.fire id (fun t pps => pps && s.deadlineAlone t) true)

/-! ### Commit and cleanup (R427, R428) -/

/-- Commit: C = E, and the prepared table goes to cleanup. -/
def State.commit (s : State) (d : Nat) : State :=
  let x := s.epoDom d
  let s := s.setEpoDom d { x with st := .open_, c := x.e, e := 0, prepTab := [], rollbackInc := false }
  (s.toCleanup d true x.prepTab).nextCkpt

/-- COMMIT_DONE: the walk and both checkpoints are complete, and the table's lines are unmapped. -/
def execCommitDone (d : Nat) (s : State) : Host.Outcome State Fault Refusal :=
  let x := s.epoDom d
  done (s.when (s.pwr.coreOn && x.cleanup.isSome && decide (2 ≤ x.ckptsDone)) fun s =>
    (s.setEpoDom d { x with cleanup := none, ckptsDone := 0 }).raiseN Ev.epoCommitDone (d * 2 ^ 40) 0)

/-! ### Abort (R429) -/

/-- Abort: cancels an armed Prepare of `e`, else ABORTING begins. -/
def State.abort (s : State) (d e : Nat) : State :=
  let x := s.epoDom d
  if x.armedFor e then s.setEpoDom d { x with armed := none }
  else (s.setEpoDom d { x with st := .aborting, armed := none }).dropDomain State.failReq d

/-- One entry is replayed: the line, or tag line, is what the entry retains. -/
def State.restore (s : State) (d : Nat) (bad : List Nat) (u : Undo) : State :=
  let s := s.count 0x701 0 1
  let lost := u.addr = 1 ∨ (1 < u.addr ∧ bad.contains u.line)
  if lost then
    let s := s.mapRec d u.line false none Entry.lost
    if isHostLine u.line then (s.poisonLine u.line .internal).raiseN Ev.mapLineLost 0 u.line
    else (s.raiseN Ev.mapLineLost 0 u.line).loseCovered (u.line - tagBase)
  else
    let e : Entry := if u.addr = 0 then Entry.unmapped else ⟨1, u.sp, false, u.seq10, u.addr⟩
    let s := s.mapRec d u.line false none e
    let s := if 1 < u.addr then s.deadAt u.addr else s
    if isHostLine u.line then
      (List.range 4).foldl (fun t k => if u.sp.getLsbD k then t else t.unpoisonSector u.line k) s
    else
      let i := u.line - tagBase
      let s := (u.tags.zipIdx).foldl (fun t p => t.setTag (i * 32 + p.2) p.1) s
      { s with map := { s.map with cached := s.map.cached.filter fun c => !(decide (c.kind = 3 ∧ c.idx = i)) } }

/-- A sweep of the domain restarts from LINE_BASE (R393). -/
def State.restartSweep (s : State) (d : Nat) : State :=
  let x := s.dom d
  if x.st = .rekeying then (s.setDom d { x with pos := x.base * 2 ^ 22 }).raiseN Ev.crySweepRestart (d * 2 ^ 40) 0 else s

/-- A staged line of the domain that sealed before the Abort has still to be recorded. -/
def State.sealedPending (s : State) (d : Nat) : Bool :=
  (List.range 8).any fun g => (s.group g).stripes.any fun t =>
    t.sealed && t.lines.any fun l => l.kind == .host && l.dom == d && !l.superseded && !l.recorded

/-- ABORT_DONE: the open table is replayed, then the prepared one; `bad` are lines whose retained version failed its check or could
not be recovered. -/
def execAbortDone (d : Nat) (bad : List Nat) (s : State) : Host.Outcome State Fault Refusal :=
  let x := s.epoDom d
  done (s.when (s.pwr.coreOn && decide (x.st = .aborting ∧ s.map.st = .active) && !s.sealedPending d && !s.haltCovers d) fun s =>
    let tabs := x.openTab ++ x.prepTab
    let s := tabs.foldl (fun t u => t.restore d bad u) s
    let s := s.setEpoDom d { s.epoDom d with st := .open_, e := 0, openTab := [], prepTab := [] }
    let s := (s.cleanupWalk d false tabs).restartSweep d
    s.raiseN Ev.epoAbortDone (d * 2 ^ 40) 0)

/-! ### Tables discarded without restore (Table 12-6) -/

/-- Destroy and Sanitize: the tables go to cleanup without bit clears; an armed Prepare, PREPARING and ABORTING end. -/
def State.discardEpoch (s : State) (d : Nat) : State :=
  if (s.dom d).epochEn then
    let x := s.epoDom d
    let s := if x.st = .preparing then s.failPrepare x else s
    let tabs := x.openTab ++ x.prepTab
    let s := s.setEpoDom d { x with st := .open_, c := 0, e := 0, openTab := [], prepTab := [], armed := none, draining := false, via := 0,
                                    rollbackInc := false }
    (if tabs = [] then s else s.toCleanup d false tabs).nextCkpt
  else s

/-! ### The mailbox (R424, Table 12-4) -/

/-- A mailbox command with its refusal, or its effect. -/
def State.gated (s : State) (h : Nat) (g : Option Rc) (k : State → State) : State :=
  match g with
  | some r => s.answerMbox h r []
  | none => k s

/-- EPOCH_PREPARE. -/
def execEpochPrepare (h d e deadline : Nat) (pps : Bool) (s : State) : Host.Outcome State Fault Refusal :=
  done (s.mailboxRw h fun s => s.gated h (s.prepareGate d e deadline pps) fun s =>
    let s := s.prepare d e deadline pps 1 h
    if deadline = 0 then s else s.answerMbox h .success [])

/-- EPOCH_COMMIT. -/
def execEpochCommit (h d e : Nat) (s : State) : Host.Outcome State Fault Refusal :=
  done (s.mailboxRw h fun s => s.gated h (s.commitGate d e) fun s => (s.commit d).answerMbox h .success [])

/-- EPOCH_ABORT. -/
def execEpochAbort (h d e : Nat) (s : State) : Host.Outcome State Fault Refusal :=
  done (s.mailboxRw h fun s => s.gated h (s.abortGate d e) fun s => (s.abort d e).answerMbox h .success [])

/-- STATE of Table 12-1. -/
def epoCode : EpoSt → Nat
  | .disabled => 0 | .enabling => 1 | .open_ => 2 | .preparing => 3 | .prepared => 4 | .aborting => 5

/-- Prepared or armed epoch; 0 when none. -/
def EpoDom.shown (x : EpoDom) : Nat :=
  if x.st = .prepared ∨ x.st = .preparing then x.e else match x.armed with | some a => a.1 | none => 0

/-- Entries in the prepared table or the table in cleanup. -/
def EpoDom.other (x : EpoDom) : Nat := x.prepTab.length + (match x.cleanup with | some l => l.length | none => 0)

/-- GET_EPOCH_STATUS (R436). -/
def execGetEpochStatus (h d : Nat) (s : State) : Host.Outcome State Fault Refusal :=
  done (s.mailbox h fun s =>
    if 256 ≤ d then s.answerMbox h .invalidInput []
    else
      let x := s.epoDom d
      let flags := ofBool x.cleanup.isSome + 2 * ofBool x.armed.isSome + 4 * ofBool x.rollbackInc + 8 * ofBool (x.st == .aborting)
      let t := match x.armed with | some a => a.2.1 | none => 0
      s.answerMbox h .success [s.midxWord, epoCode x.st, flags, x.c, x.shown, x.openTab.length, x.other, t])

/-! ### The doorbell (R430) -/

/-- A doorbell write: ignored while BUSY; else the result stands in EPO_DB_STS. -/
def State.doorbell (s : State) (d op : Nat) (g : Option Rc) (k : State → State) : State :=
  if s.epo.dbBusy then s.raiseN Ev.epoRefused (d * 2 ^ 40 + Rc.busy.code * 2 ^ 8) 0
  else
    let s := { s with epo := { s.epo with dbDom := d, dbOp := op } }
    match g with
    | some r => { s with epo := { s.epo with dbResult := r.code } }
    | none => k { s with epo := { s.epo with dbResult := 0 } }

/-- DOORBELL_PREPARE, with the deadline of EPO_DB_DEADLINE. -/
def execDoorbellPrepare (h d e : Nat) (s : State) : Host.Outcome State Fault Refusal :=
  done (s.barWrite h F.epoDoorbellOp.off fun s =>
    let t := s.fld F.epoDbDeadlineDevtime
    let pps := s.fld F.epoDbDeadlinePps == 1
    s.doorbell d 1 (s.prepareGate d e t pps) fun s =>
      if t = 0 then ({ s with epo := { s.epo with dbBusy := true } } : State).prepare d e t pps 2 0
      else s.prepare d e t pps 0 0)

/-- DOORBELL_COMMIT. -/
def execDoorbellCommit (h d e : Nat) (s : State) : Host.Outcome State Fault Refusal :=
  done (s.barWrite h F.epoDoorbellOp.off fun s => s.doorbell d 2 (s.commitGate d e) fun s => s.commit d)

/-- DOORBELL_ABORT. -/
def execDoorbellAbort (h d e : Nat) (s : State) : Host.Outcome State Fault Refusal :=
  done (s.barWrite h F.epoDoorbellOp.off fun s => s.doorbell d 3 (s.abortGate d e) fun s => s.abort d e)

/-! ### Epoch enable (R135, R411, R417) -/

/-- Ranges of the undo area that tables hold: first index and length. -/
def State.undoTaken (s : State) : List (Nat × Nat) :=
  s.epo.doms.flatMap fun p =>
    if p.2.st = .disabled ∧ p.2.cleanup.isNone then [] else [(p.2.tbl0, 2 ^ p.2.k), (p.2.tbl1, 2 ^ p.2.k)]

/-- The lowest free contiguous range of `n` undo lines; index 0 is never allocated. -/
def State.undoFit (s : State) (taken : List (Nat × Nat)) (n : Nat) : Option Nat :=
  let free (c : Nat) : Bool :=
    decide (c + n ≤ s.undoLines) && taken.all fun r => decide (c + n ≤ r.1 ∨ r.1 + r.2 ≤ c)
  (1 :: taken.map fun r => r.1 + r.2).foldl
    (fun best c => if free c then (match best with | some b => some (min b c) | none => some c) else best) none

/-- Both tables of the domain can be allocated. -/
def State.undoAlloc (s : State) (d : Nat) : Option (Nat × Nat) :=
  let n := 2 ^ (s.epoDom d).k
  match s.undoFit s.undoTaken n with
  | none => none
  | some a =>
    match s.undoFit ((a, n) :: s.undoTaken) n with
    | none => none
    | some b => some (a, b)

/-- A write of EPOCH_EN ignored. -/
def State.enableRefused (s : State) (d : Nat) : State := s.raiseN Ev.epoRefused (d * 2 ^ 40 + Rc.busy.code * 2 ^ 8) 0

/-- EPOCH_ENABLE_WRITE. -/
def execEpochEnableWrite (h d : Nat) (s : State) : Host.Outcome State Fault Refusal :=
  done (s.barWrite h (0x100000 + d * 0x100) fun s =>
    let x := s.epoDom d
    if 256 ≤ d ∨ (s.dom d).epochEn then s
    else if (s.swt.st ≠ .none ∧ s.swt.dom = d) ∨ x.cleanup.isSome then s.enableRefused d
    else
      match s.undoAlloc d with
      | none => s.enableRefused d
      | some (a, b) =>
        let s := s.setDom d { s.dom d with epochEn := true }
        s.setEpoDom d { x with st := .enabling, c := 0, e := 0, phase := 0, openTab := [], prepTab := [], armed := none, rollbackInc := false,
                               tbl0 := a, tbl1 := b })

/-- EPOCH_DISABLE_WRITE. -/
def execEpochDisableWrite (h d : Nat) (s : State) : Host.Outcome State Fault Refusal :=
  done (s.barWrite h (0x100000 + d * 0x100) fun s =>
    let x := s.epoDom d
    if 256 ≤ d ∨ !(s.dom d).epochEn then s
    else if x.st ≠ .open_ ∨ x.cleanup.isSome then s.enableRefused d
    else
      let s := s.setDom d { s.dom d with epochEn := false }
      let s := s.setEpoDom d { x with st := .disabled, openTab := [], armed := none, rollbackInc := false }
      (s.toCleanup d true x.openTab).nextCkpt)

/-- EPOCH_ENABLED (R410, Table 12-1). -/
def execEpochEnabled (d : Nat) (s : State) : Host.Outcome State Fault Refusal :=
  let x := s.epoDom d
  done (s.when (s.pwr.coreOn && decide (x.st = .enabling ∧ s.map.st = .active) && !s.tagsDirty d) fun s =>
    s.setEpoDom d { x with st := .open_, c := 0 })

/-- EPO_CNT_CLR (R437): the page has no counter register, so nothing visible changes. -/
def execEpoCntClr (h : Nat) (s : State) : Host.Outcome State Fault Refusal :=
  done (s.barWrite h F.epoCtlCntClr.off fun s => s)

end Sys2Proof.Machine
end

