-- ==== Sys2Proof/Machine/Keys.lean ====
section
/-!
DEFINITION. Domain keys, generations and the rekey sweep, the key vault, its DRBG, and the key messages (R372 to R378, R389 to
R403, R406, R408).
-/
namespace Sys2Proof.Machine

/-! ### Connections and sessions (R395, R528, R543, R545) -/

/-- The transport of an SPDM connection: the DOE instance of head 0 to 7, or MCTP over I3C for 8. -/
def State.portUp (s : State) (port : Nat) : Bool :=
  s.pwr.coreOn && (s.fwu.running || s.fwu.recovery) && (if port < 8 then s.ioUp port else s.side.i3cAddr.isSome)

/-- A request on a connection: held during a management pause, MCTP up to 8 messages and then not acknowledged (R528). -/
def State.spdm (s : State) (port : Nat) (k : State → State) : State :=
  let s := s.begin
  if !s.portUp port then s.emit .notAccepted
  else if s.fwu.paused then
    if port < 8 then s.emit .held
    else if s.fwu.heldMctp < 8 then ({ s with fwu := { s.fwu with heldMctp := s.fwu.heldMctp + 1 } } : State).emit .held
    else s.emit (.i3c false [])
  else k s

/-- The secured session of an identifier. -/
def State.session (s : State) (id : Nat) : Option Session := s.fwu.sessions.find? fun x => x.id == id

/-- A key message's answer: the opcode OR 0x80, a status and its data (R395). -/
def State.keyAnswer (s : State) (op status : Nat) (fields : List Nat) : State := s.emit (.answer (op + 0x80) status fields)

/-- A key message: only a session with the key-administrator role has an effect. -/
def State.keyMessage (s : State) (session op : Nat) (k : State → State) : State :=
  match s.session session with
  | none => s.spdm 8 fun s => s.keyAnswer op 4 []
  | some x => s.spdm x.port fun s => if x.keyAdmin then k s else s.keyAnswer op 4 []

/-! ### Key vault operations (R401, R402, R408) -/

/-- KVE_ERR_INFO.OP of an operation. -/
def KvOp.code : KvOp → Nat
  | .wrap _ => 1 | .unwrap _ => 2 | .unseal _ => 4 | .decrypt .. => 5 | .encrypt .. => 6 | .kdf _ => 7

def KvOp.record : KvOp → Nat
  | .wrap r | .unwrap r | .unseal r | .kdf r => r
  | .decrypt .. | .encrypt .. => 0

/-- An operation joins the queue; its AES blocks are counted, a number the spec does not give for each operation. -/
def State.kvPush (s : State) (o : KvOp) : State :=
  let (s, w) := s.draw
  let n := w.toNat % 1024
  let s := { s with cry := { s.cry with kvOps := s.cry.kvOps ++ [o] } }
  (s.bump F.kveCntBlocks n).count 0x702 0 n

/-- A domain whose record does not unwrap enters FAILED (R377). -/
def State.failKey (s : State) (d : Nat) : State :=
  let x := s.dom d
  (s.setDom d { x with st := .failed, sweep := .idle }).raiseN Ev.cryKeyFailed (d * 2 ^ 40) 0

/-- KEY_VAULT_OP_DONE: the oldest operation ends; a decrypting one that does not verify releases nothing. -/
def execKeyVaultOpDone (ok : Bool) (s : State) : Host.Outcome State Fault Refusal :=
  done (s.when (s.pwr.coreOn && s.cry.kvOps != []) fun s =>
    match s.cry.kvOps with
    | [] => s
    | o :: rest =>
      let s := { s with cry := { s.cry with kvOps := rest } }
      let fail (e : Evt) : State := (s.bump F.kveCntVerifyFails 1).raiseN e (o.code * 2 ^ 8) o.record
      match o with
      | .unwrap r => if ok then s else (fail Ev.kveUnwrapFail).failKey (r / 3)
      | .unseal _ => if ok then s else fail Ev.kveVerifyFail
      | .decrypt p i tagOk => if ok && tagOk then s.emit (.answer 0 0 [p, i]) else fail Ev.kveVerifyFail
      | _ => s)

/-! ### The DRBG (R403) -/

/-- A reseed. -/
def State.reseed (s : State) : State :=
  { s with cry := { s.cry with drbgReqs := 0, lastSeed := s.time.opNs } }.bump F.kveDrbgReseeds 1

/-- KVE_RESEED. -/
def execKveReseed (h : Nat) (s : State) : Host.Outcome State Fault Refusal :=
  done (s.barWrite h F.kveCtlReseed.off fun s => if s.cry.drbg = .ready then s.reseed else s)

/-- KVE_CNT_CLR. -/
def execKveCntClr (h : Nat) (s : State) : Host.Outcome State Fault Refusal :=
  done (s.barWrite h F.kveCtlCntClr.off fun s => s.setReg F.kveCntBlocks.off 0#64)

/-- DRBG_RESEED_TIMER. -/
def execDrbgReseedTimer (s : State) : Host.Outcome State Fault Refusal :=
  done (s.when (s.pwr.coreOn && decide (s.cry.drbg = .ready ∧
      (2 ^ 20 ≤ s.cry.drbgReqs ∨ s.cry.lastSeed + 1000000000 ≤ s.time.opNs))) State.reseed)

/-- ENTROPY_FAIL: the start-up test is repeated. -/
def execEntropyFail (s : State) : Host.Outcome State Fault Refusal :=
  done (s.when (s.pwr.coreOn && s.cry.drbg != .failed) fun s =>
    ({ s with cry := { s.cry with drbg := .starting, drbgRetries := 0 } }.bump F.kveCntHealthFails 1).raise Ev.kveEntropyFail)

/-- ENTROPY_RETEST: after three failures the DRBG is FAILED. -/
def execEntropyRetest (pass : Bool) (s : State) : Host.Outcome State Fault Refusal :=
  done (s.when (s.pwr.coreOn && s.cry.drbg == .starting) fun s =>
    if pass then ({ s with cry := { s.cry with drbg := .ready, drbgRetries := 0, lastSeed := s.time.opNs } } : State).raise Ev.kveDrbgReady
    else
      let n := s.cry.drbgRetries + 1
      let s := { s with cry := { s.cry with drbgRetries := n } }.bump F.kveCntHealthFails 1
      if 3 ≤ n then ({ s with cry := { s.cry with drbg := .failed } } : State).raise Ev.kveDrbgFailed else s)

/-! ### Setting and generating keys (R378, R395, R396, R398) -/

/-- The unmap that a destroy of the domain started is not complete. -/
def State.destroyRuns (s : State) (d : Nat) : Bool :=
  s.map.unmap.any fun u => match u.2.2 with | .destroy k => k == d | _ => false

/-- The condition of a key's slot (Table 11-8). -/
def State.slotFree (s : State) (d : Nat) (next : Bool) : Bool :=
  let x := s.dom d
  if next then decide (x.st = .active ∨ x.st = .rekeying) && x.next.isNone
  else decide (x.st = .empty) && !s.destroyRuns d

/-- The KEY_ID is that of a key slot of the domain. -/
def Dom.hasId (x : Dom) (id : BitVec 64) : Bool :=
  [x.gen0, x.gen1, x.next].any fun k => match k with | some v => v.id == id | none => false

/-- A key that may be loaded goes into its slot: wrapped, staged or current as generation 0, the write sequence continuing from
the saved mark. False when it could not be wrapped. -/
def State.loadKey (s : State) (d : Nat) (next : Bool) (key : BitVec 256) (src : Nat) : State × Bool :=
  match s.wrapTick with
  | (s, false) => (s, false)
  | (s, true) =>
    let s := s.kvPush (.wrap (3 * d + (if next then 2 else 0)))
    let x := s.dom d
    let k := s.keySlot key src 1
    let y := if next then { x with next := some k }
      else { x with gen0 := some k, gen1 := none, cur := 0, st := .active, seq := x.mark, batches := [], sweep := .idle, due := false }
    ((s.setDom d y).raiseN Ev.cryKeyLoaded (d * 2 ^ 40) 0, true)

/-- SET_DOMAIN_KEY. -/
def execSetDomainKey (session d : Nat) (next : Bool) (key : BitVec 256) (s : State) : Host.Outcome State Fault Refusal :=
  done (s.keyMessage session 1 fun s =>
    if 256 ≤ d then s.keyAnswer 1 1 []
    else if s.haltCovers d ∨ !s.slotFree d next then s.keyAnswer 1 3 []
    else if (s.dom d).hasId (keyIdOf key) then s.keyAnswer 1 1 []
    else
      match s.loadKey d next key 1 with
      | (s, true) => s.keyAnswer 1 0 [(keyIdOf key).toNat]
      | (s, false) => s.keyAnswer 1 6 [])

/-- GENERATE_DOMAIN_KEY. -/
def execGenerateDomainKey (h d : Nat) (next : Bool) (s : State) : Host.Outcome State Fault Refusal :=
  done (s.mailboxRw h fun s =>
    if 256 ≤ d then s.answerMbox h .invalidInput []
    else if s.haltCovers d then s.answerMbox h .mediaDisabled []
    else if s.fld F.topMidxAssigned = 0 ∨ s.cry.drbg = .failed then
      (s.raiseN Ev.cryGenRefused (d * 2 ^ 40) 0).answerMbox h .invalidSecurityState []
    else if !s.slotFree d next then s.answerMbox h .invalidInput []
    else
      let (t, key) := (s.reseed.kvPush (.kdf (3 * d))).genKey d
      if (t.dom d).hasId (keyIdOf key) then t.answerMbox h .invalidInput []
      else
        match t.loadKey d next key 2 with
        | (u, true) => u.answerMbox h .success [(keyIdOf key).toNat]
        | (u, false) => u.answerMbox h .internalError [])

/-! ### Destroying a key (R399) -/

/-- In-flight reads of a domain that becomes EMPTY return zeros; its writes complete and are discarded. -/
def State.zeroReq (s : State) (r : Req) : State :=
  if r.wr then s.cmp r.h r.tag else s.memData r.h r.tag 0#512 false

/-- The domain without keys. -/
def Dom.erased (x : Dom) : Dom :=
  { x with gen0 := none, gen1 := none, next := none, st := .empty, sweep := .idle, due := false, halted := false, batches := [] }

/-- The halt records of the domain are closed: none of their lines becomes LOST. -/
def State.closeHalts (s : State) (d : Nat) : State :=
  let close (r : HaltRec) : HaltRec := if !r.devScope && r.dom == d then { r with done := true } else r
  { s with cry := { s.cry with halts := s.cry.halts.map close } }

/-- A window that lies in the domain is zero and saved as zeros. -/
def State.zeroWindow (s : State) (d : Nat) : State :=
  if decide (s.swt.st ≠ .none) && s.swt.dom == d then (s.fillWindow WWord.zero).saveWindow false else s

/-- Keys, data not yet on media, epoch tables, window words and the halt of one domain go; its sequence counter, mark and
generation count stay. `ans` ends its outstanding requests. -/
def State.destroyKey (s : State) (ans : State → Req → State) (d : Nat) : State :=
  let t := (s.dropDomain ans d).discardEpoch d
  let u := ((t.setDom d (t.dom d).erased).closeHalts d).zeroWindow d
  u.raiseN Ev.cryKeyDestroyed (d * 2 ^ 40) 0

/-- DESTROY_DOMAIN_KEY: with the unmap of the extent in the background. -/
def execDestroyDomainKey (session d : Nat) (s : State) : Host.Outcome State Fault Refusal :=
  done (s.keyMessage session 2 fun s =>
    if 256 ≤ d then s.keyAnswer 2 1 []
    else
      let s := s.destroyKey State.zeroReq d
      let x := s.dom d
      let s := if x.count = 0 then s
        else { s with map := { s.map with unmap := s.map.unmap ++ [(x.base * 2 ^ 22, x.count * 2 ^ 22, .destroy d)] } }
      s.keyAnswer 2 0 [])

/-! ### Generations and the sweep (R389 to R394) -/

/-- START_REKEY. -/
def execStartRekey (session d : Nat) (s : State) : Host.Outcome State Fault Refusal :=
  done (s.keyMessage session 3 fun s =>
    if 256 ≤ d then s.keyAnswer 3 1 []
    else if s.haltCovers d then s.keyAnswer 3 3 []
    else
      match (s.dom d).st with
      | .rekeying => s.keyAnswer 3 2 []
      | .active =>
        if s.noSwitchKey d then s.keyAnswer 3 5 []
        else
          let t := (s.genSwitch d)
          if (t.dom d).st = .rekeying then (t.kvPush (.wrap (3 * d + (t.dom d).cur))).keyAnswer 3 0 [] else t.keyAnswer 3 6 []
      | _ => s.keyAnswer 3 3 [])

/-- KEY_ID of a slot, 0 when it is empty. -/
def slotId (k : Option KeySlot) : Nat := match k with | some v => v.id.toNat | none => 0

/-- STATE of Table 11-2. -/
def keyCode : KeySt → Nat
  | .empty => 0 | .active => 1 | .rekeying => 2 | .failed => 3

/-- GET_KEY_INFO: STATE, CUR_GEN, the three KEY_IDs, the generation count. -/
def execGetKeyInfo (session d : Nat) (s : State) : Host.Outcome State Fault Refusal :=
  done (s.keyMessage session 4 fun s =>
    if 256 ≤ d then s.keyAnswer 4 1 []
    else
      let x := s.dom d
      s.keyAnswer 4 0 [keyCode x.st, x.cur, slotId x.gen0, slotId x.gen1, slotId x.next, x.genCount])

/-- A staged line encrypted under the old generation has still to be recorded. -/
def State.oldStaged (s : State) (d : Nat) : Bool :=
  let cur := (s.dom d).cur
  (List.range 8).any fun g => (s.group g).stripes.any fun t => t.lines.any fun l =>
    l.kind == .host && l.dom == d && l.enc && decide (l.kgen ≠ cur) && !l.superseded && !l.recorded

/-- REKEY_SWEEP_START: one sweep runs at a time. -/
def execRekeySweepStart (d : Nat) (s : State) : Host.Outcome State Fault Refusal :=
  let x := s.dom d
  let other := s.cry.doms.any fun p => decide (p.2.sweep = SweepSt.running)
  done (s.when (s.pwr.coreOn && decide (x.st = .rekeying ∧ x.sweep = .waiting ∧ s.map.st = .active) && !other && !s.haltCovers d &&
      !s.oldStaged d) fun s => s.setDom d { x with sweep := .running })

/-- Keystream and tag of a quarantine record under a key (Table 10-7). -/
def quarIv (r : QuarRec) : Bytes := gcmIv (r.kgen + 2) r.seq r.line
def quarBytes (r : QuarRec) : Bytes := r.slots.flatMap fun v => leBytes 64 v.toNat
def quarTag (key : BitVec 256) (r : QuarRec) : BitVec 64 :=
  BitVec.ofNat 64 (leNat ((gcmTag (leBytes 32 key.toNat) (quarIv r) (gcmAad 1 r.line r.dom r.seq r.kgen 0) (quarBytes r) 12).take 8))
def quarXor (key : BitVec 256) (r : QuarRec) : List Sector :=
  let b := xorBytes (quarBytes r) (gcmStream (leBytes 32 key.toNat) (quarIv r) 12)
  (List.range 3).map fun i => BitVec.ofNat 512 (leNat ((b.drop (64 * i)).take 64))

/-- A quarantine record rewritten in place under the current generation (R392). -/
def State.requarantine (s : State) (d : Nat) (r : QuarRec) : State × QuarRec :=
  let x := s.dom d
  match x.gen r.kgen, x.gen x.cur with
  | some old, some new =>
    if r.dom = d ∧ r.kgen ≠ x.cur then
      let (t, q) := s.drawSeq d (addrGroup 0)
      let y := { r with slots := quarXor old.key r, kgen := x.cur, seq := q.getD r.seq }
      let z := { y with slots := quarXor new.key y }
      (t, { z with tag := quarTag new.key z })
    else (s, r)
  | _, _ => (s, r)

/-- Every quarantine record of the domain, oldest first. -/
def State.requarantineAll (s : State) (d : Nat) : List QuarRec → State × List QuarRec
  | [] => (s, [])
  | r :: rs =>
    let (s, r) := s.requarantine d r
    let (s, rs) := s.requarantineAll d rs
    (s, r :: rs)

/-- A copy that the sweep placed has still to be recorded. -/
def State.sweepStaged (s : State) (d : Nat) : Bool :=
  (List.range 8).any fun g => (s.group g).stripes.any fun t => t.lines.any fun l =>
    l.dom == d && !l.recorded && (match l.kind with | .copy .sweep _ => true | _ => false)

/-- REKEY_SWEEP_DONE: no mapped line of the extent is left at or above the position, and what the sweep placed is recorded;
the quarantine records and the window save follow (R392). -/
def execRekeySweepDone (d : Nat) (s : State) : Host.Outcome State Fault Refusal :=
  done (s.when (s.pwr.coreOn && decide ((s.dom d).sweep = .running) && (s.sweepNext d).isNone &&
      !s.sweepStaged d) fun s =>
    let (s, q) := s.requarantineAll d s.flt.quar
    let s := { s with flt := { s.flt with quar := q } }
    let s := if s.swt.st ≠ .none ∧ s.swt.dom = d then s.saveWindow false else s
    let x := s.dom d
    s.setDom d { x with sweep := .idle, pos := (x.base + x.count) * 2 ^ 22 })

/-- An undo entry keeps a version under the old generation. -/
def State.oldRetained (s : State) (d : Nat) : Bool :=
  let e := s.epoDom d
  (e.openTab ++ e.prepTab).any fun u => u.old && decide (1 < u.addr)

/-- OLD_GENERATION_ZEROIZE: and a second switch that fell due runs (R393, R394). -/
def execOldGenerationZeroize (d : Nat) (s : State) : Host.Outcome State Fault Refusal :=
  let x := s.dom d
  done (s.when (s.pwr.coreOn && decide (x.st = .rekeying ∧ x.sweep = .idle) && !s.oldRetained d && !s.haltCovers d) fun s =>
    let s := (s.setDom d { x.setGen (1 - x.cur) none with st := .active, due := false }).raiseN Ev.cryRekeyDone (d * 2 ^ 40) 0
    if x.due then s.genSwitch d else s)

/-! ### Quarantine records (R395) -/

/-- UNSEAL_QUARANTINE: the sectors present and their plaintext, released once the tag verifies. -/
def execUnsealQuarantine (session seq : Nat) (s : State) : Host.Outcome State Fault Refusal :=
  done (s.keyMessage session 5 fun s =>
    match s.flt.quar.find? fun r => r.no == seq with
    | none => s.keyAnswer 5 1 []
    | some r =>
      match (s.dom r.dom).gen r.kgen with
      | none => s.keyAnswer 5 3 []
      | some k =>
        let s := s.kvPush (.unseal 0)
        if quarTag k.key r = r.tag then s.keyAnswer 5 0 (r.sectors.toNat :: (quarXor k.key r).map fun v => v.toNat)
        else
          ((s.bump F.kveCntVerifyFails 1).raiseN Ev.kveVerifyFail (4 * 2 ^ 8) 0).keyAnswer 5 3 [])

/-! ### Registers (R373, R406) -/

/-- INTEG_EN_WRITE. -/
def execIntegEnWrite (h d : Nat) (value : Bool) (s : State) : Host.Outcome State Fault Refusal :=
  done (s.barWrite h (0x100000 + d * 0x100) fun s =>
    let x := s.dom d
    if d < 256 ∧ (x.count = 0 ∨ x.st = .empty) then s.setDom d { x with integ := value } else s)

/-- CRY_CNT_CLR. -/
def execCryCntClr (h : Nat) (s : State) : Host.Outcome State Fault Refusal :=
  done (s.barWrite h F.cryCtlCntClr.off fun s => s.setReg F.cryCntHalts.off 0#64)

end Sys2Proof.Machine
end

