-- ==== Sys2Proof/Machine/Spdm.lean ====
section
/-!
DEFINITION. Attestation and secured sessions: SPDM requests, the post-quantum messages, DOE discovery and the CDAT (R80, R81, R397,
R402, R543 to R547).
-/
namespace Sys2Proof.Machine

/-! ### Answers -/

/-- SPDM ERROR with its error code (PRESUMED: SPDM numbering; 1 InvalidRequest, 4 UnexpectedRequest, 5 Unspecified, 0x0A
SessionLimitExceeded, 0x42 ResponseNotReady). -/
def State.spdmError (s : State) (code : Nat) : State := s.emit (.answer 0x7F code [])

/-- No signed response is the last one of the connection any more. -/
def State.unsigned (s : State) (port : Nat) : State :=
  { s with fwu := { s.fwu with pqReady := s.fwu.pqReady.filter fun p => p != port } }

/-- A signed response: its RSA signature is drawn, and a post-quantum signature over the same message may be asked for. -/
def State.signedAnswer (s : State) (port code : Nat) (fields : List Nat) : State :=
  let sig := (Config.signature 0 s.freeCtr).toNat
  ({ s.unsigned port with
      freeCtr := s.freeCtr + 1
      fwu := { (s.unsigned port).fwu with pqReady := (s.unsigned port).fwu.pqReady ++ [port] } } : State).emit
    (.answer code 0 (fields ++ [sig]))

/-! ### Certificates (R544, R547) -/

/-- First Selvage line of the identity area, which starts the reserve (Table 4-2, R544). -/
def State.identBase (s : State) : Nat := s.jnlBase + s.ringLines + 1048576 + 262144

/-- The Selvage lines of a part of the identity area can be read: one copy of each stands on a live skein. -/
def State.identReadable (s : State) (off len : Nat) : Bool :=
  (List.range (min 4096 ((len + 255) / 256 + 1))).all fun i =>
    let l := s.identBase + off / 256 + i
    s.live (s.copySkein l false) || s.live (s.copySkein l true)

/-- SPDM_GET_CERTIFICATE: the RSA chain of slot 0. -/
def execSpdmGetCertificate (port off len : Nat) (s : State) : Host.Outcome State Fault Refusal :=
  done (s.spdm port fun s =>
    let s := s.unsigned port
    if s.identReadable off len then s.emit (.answer 0x02 0 [off, len, (Config.signature 2 off).toNat]) else s.spdmError 5)

/-- GET_PQ_CERTIFICATE: part of the post-quantum chain, at most 1,024 bytes. -/
def execGetPqCertificate (port off len : Nat) (s : State) : Host.Outcome State Fault Refusal :=
  done (s.spdm port fun s =>
    let s := s.unsigned port
    if 1024 < len then s.keyAnswer 0x21 1 []
    else if s.identReadable off len then s.keyAnswer 0x21 0 [off, len, (Config.signature 3 off).toNat]
    else s.spdmError 5)

/-! ### Challenge and measurements (R545, R546) -/

/-- SPDM_CHALLENGE. -/
def execSpdmChallenge (port : Nat) (nonce : BitVec 256) (s : State) : Host.Outcome State Fault Refusal :=
  done (s.spdm port fun s => s.signedAnswer port 0x03 [nonce.toNat])

/-- The digest of a slot's header bytes 0 to 4,095; zero for an empty slot. -/
def State.headerDigest (s : State) (k : Nat) : Nat :=
  match s.slotImg k with
  | some i => (Config.sha384 4096 i.digest).toNat
  | none => 0

/-- The measurement blocks of Table 16-12, each as its values in order. -/
def State.measure (s : State) (i : Nat) : List Nat :=
  match i with
  | 1 => [Config.romDigest.toNat]
  | 2 => [if s.fwu.recovery then 0 else s.headerDigest s.boot.running]
  | 3 => [s.ctrVal 8, s.ctrVal 9, s.ctrVal 10, s.boot.running,
          match s.boot.st with | .confirmed => 0 | .pendingReset => 1 | .trial => 2]
  | 4 => [s.midxWord, ofBool s.host.hbif, s.popP, s.popD, match s.map.fmt with | some f => f.id | none => 0]
  | 5 => [(Config.settingsDigest s.boot.seq).toNat]
  | 6 => [s.headerDigest (1 - s.boot.running)]
  | 7 => [ofBool s.fwu.recovery + 2 * ofBool s.flt.injAllowed + 2 ^ 8 * s.fwu.revoked.toNat]
  | _ => []

/-- SPDM_GET_MEASUREMENTS: index 0 asks for the number of blocks, 0xFF for all. -/
def execSpdmGetMeasurements (port index : Nat) (sign : Bool) (s : State) : Host.Outcome State Fault Refusal :=
  done (s.spdm port fun s =>
    let fields : List Nat :=
      if index = 0 then [7]
      else if index = 0xFF then (List.range 7).flatMap fun i => (i + 1) :: s.measure (i + 1)
      else index :: s.measure index
    if 7 < index ∧ index ≠ 0xFF then (s.unsigned port).spdmError 1
    else if sign then s.signedAnswer port 0x60 fields
    else (s.unsigned port).emit (.answer 0x60 0 fields))

/-! ### Sessions (R403, R543, R545) -/

/-- The lowest session identifier in no use, from 1. -/
def State.newSession (s : State) : Nat :=
  ((List.range (s.fwu.sessions.length + 1)).map fun i => i + 1).foldl
    (fun best i => if best = 0 ∧ !(s.fwu.sessions.any fun x => x.id == i) then i else best) 0

/-- Roles of a requester: those of the ROLE entries that hold the digest of its leaf key; none without mutual authentication,
which `requester` 0 stands for. -/
def State.rolesOf (s : State) (requester : Nat) : Nat :=
  (s.fwu.roles.filter fun r => decide (requester ≠ 0 ∧ r.digest = requester)).foldl (fun n r => n ||| r.kind) 0

/-- SPDM_KEY_EXCHANGE: up to 4 sessions on a connection, and none while the DRBG is FAILED. -/
def execSpdmKeyExchange (port requester : Nat) (s : State) : Host.Outcome State Fault Refusal :=
  done (s.spdm port fun s =>
    if 4 ≤ (s.fwu.sessions.filter fun x => x.port == port).length then (s.unsigned port).spdmError 0x0A
    else if s.cry.drbg = .failed then (s.unsigned port).spdmError 5
    else
      let id := s.newSession
      let r := s.rolesOf requester
      let x : Session := ⟨port, id, decide (r % 2 = 1), decide (r / 2 % 2 = 1)⟩
      (({ s with fwu := { s.fwu with sessions := s.fwu.sessions ++ [x] } } : State).kvPush (.kdf 0)).signedAnswer port 0x64 [id])

/-- SECURED_MESSAGE: decrypted in the key vault's 4 KiB buffer; it is released, or not, when the operation is done (R397, R402). -/
def execSecuredMessage (port session len : Nat) (tagOk : Bool) (s : State) : Host.Outcome State Fault Refusal :=
  done (s.spdm port fun s =>
    match s.session session with
    | none => s.spdmError 4
    | some x =>
      if x.port ≠ port then s.spdmError 4
      else if 4096 < len then s.raiseN Ev.kveOversize (5 * 2 ^ 8) 0
      else s.kvPush (.decrypt port session tagOk))

/-! ### The second signature (R547) -/

/-- GET_PQ_SIGNATURE: ResponseNotReady right after a signed response, INVALID at any other point. -/
def execGetPqSignature (port : Nat) (s : State) : Host.Outcome State Fault Refusal :=
  done (s.spdm port fun s =>
    if s.fwu.pqReady.contains port then
      let t := s.unsigned port
      ({ t with fwu := { t.fwu with pqMaking := t.fwu.pqMaking ++ [port] } } : State).emit (.answer 0x7F 0x42 [20])
    else s.keyAnswer 0x20 1 [])

/-- RESPOND_IF_READY. -/
def execRespondIfReady (port : Nat) (s : State) : Host.Outcome State Fault Refusal :=
  done (s.spdm port fun s =>
    if s.fwu.pqMaking.contains port then
      let sig := (Config.signature 1 s.freeCtr).toNat
      ({ s with freeCtr := s.freeCtr + 1, fwu := { s.fwu with pqMaking := s.fwu.pqMaking.erase port } } : State).keyAnswer 0x20 0 [sig]
    else s.spdmError 4)

/-! ### DOE and CDAT (R80, R81) -/

/-- The data objects of the DOE instance, as vendor and type, in the order discovery lists them; the recovery object is served in
recovery mode only (R542). -/
def State.doeObjects (s : State) : List (Nat × Nat) :=
  [(0x0001, 0), (0x1E98, 2), (0x0001, 1), (0x0001, 2)] ++ (if s.fwu.recovery then [(0x2E51, 1)] else [])

/-- DOE_DISCOVERY: vendor, type and next index; 0xFFFF past the last. -/
def execDoeDiscovery (h index : Nat) (s : State) : Host.Outcome State Fault Refusal :=
  done (s.spdm h fun s =>
    let l := s.doeObjects
    match l[index]? with
    | some p => s.emit (.answer 0 0 [p.1, p.2, if index + 1 < l.length then index + 1 else 0])
    | none => s.emit (.answer 0 0 [0xFFFF, 0, 0]))

/-- A DSMAS with its DSLBIS entries: NonVolatile flag, DPA base, length, latencies in ns, bandwidths in MB/s. -/
def State.dsmas (s : State) (d : Nat) : List Nat :=
  let x := s.dom d
  let half := if s.host.hbif then 2 else 1
  [d, 1, d * 2 ^ 46, x.count * 2 ^ 30, 420, 120, 100000 / half, 80000 / half]

/-- CDAT_TABLE_ACCESS: sequence number, one DSMAS for each domain with an extent, one DSMSCIS of 256 MiB. -/
def execCdatTableAccess (h : Nat) (s : State) : Host.Outcome State Fault Refusal :=
  done (s.spdm h fun s =>
    let ds := (List.range 256).filter fun d => decide (0 < (s.dom d).count)
    s.emit (.answer 2 0 ((s.head h).cdatSeq :: ds.flatMap s.dsmas ++ [256])))

end Sys2Proof.Machine
end

