-- ==== Sys2Proof/Machine/Firmware.lean ====
section
/-!
DEFINITION. Firmware update: transfers, activation, trial, confirmation and fall-back, configuration bundles, recovery (R13, R516
to R542, R548, R549).
-/
namespace Sys2Proof.Machine

/-! ### Image headers (R517) -/

/-- A little-endian field of `n` bytes of a byte list. -/
def fieldAt (l : List Nat) (off : Nat) : Nat → Nat
  | 0 => 0
  | n + 1 => l.getD off 0 % 256 + 256 * fieldAt l (off + 1) n

/-- The header fields of the first 4,096 bytes. -/
def imageOf (l : List Nat) : Image :=
  { svn := fieldAt l 12 4, version := fieldAt l 16 4, stepping := fieldAt l 20 4, lowFmt := fieldAt l 24 2, fmt := fieldAt l 26 2,
    hitless := l.getD 84 0 % 2 == 1, digest := fieldAt l 0 4096 }

/-- The reason a header is refused: 1 header, 7 SVN, 8 stepping; none when it is good (R517, R520, R523). -/
def State.headerFault (s : State) (recovery : Bool) (l : List Nat) : Option Nat :=
  let i := imageOf l
  let len := fieldAt l 8 4
  if fieldAt l 0 4 ≠ 0x5746564B ∨ fieldAt l 4 2 ≠ 1 ∨ l.getD 6 0 % 256 ≠ 1 ∨ len ≤ 0x20000 ∨ 2 ^ 26 < len then some 1
  else if i.svn < s.ctrVal (if recovery then 9 else 8) then some 7
  else if i.stepping % 2 = 0 then some 8
  else none

/-! ### Transfers (R522, R523, R525, R526) -/

/-- The slot that is not running. -/
def State.otherSlot (s : State) : Nat := 1 - s.boot.running

/-- Why a transfer may not start: one runs, or the boot record or a schedule stands in the way. -/
def State.xferRefused (s : State) : Option Rc :=
  if s.fwu.xfer.isSome then some .fwTransferInProgress
  else if s.boot.st ≠ .confirmed ∨ s.fwu.sched.isSome then some .busy
  else none

def XferSrc.code : XferSrc → Nat
  | .pldm => 1 | .cxl => 2 | .recoveryDoe => 3 | .recoveryMctp => 4

def XferSrc.recovery : XferSrc → Bool
  | .recoveryDoe | .recoveryMctp => true
  | .pldm | .cxl => false

def State.setXfer (s : State) (x : Option Xfer) : State := { s with fwu := { s.fwu with xfer := x } }

/-- The requester learns that verification failed (R523, R542). -/
def State.answerFailed (s : State) (x : Xfer) : State :=
  match x.src with
  | .cxl => s.answerMbox x.h .fwVerificationFailed []
  | .pldm | .recoveryMctp => s.emit (.answer 0x17 1 [])
  | .recoveryDoe => s.emit (.answer 1 2 [x.next])

/-- A transfer ends without an image. -/
def State.xferFail (s : State) (x : Xfer) (reason off : Nat) : State :=
  ((s.setXfer none).raiseN Ev.fwuXferFail (fwuInfo s.otherSlot reason) off).answerFailed x

/-- A new transfer. -/
def Xfer.start (src : XferSrc) (chunk h : Nat) : Xfer :=
  { src := src, len := 0, next := 0, verified := 0, chunk := chunk, again := none, repeats := 0, head := [], copying := false, h := h }

/-- The 64 KiB leaf boundary at or below an offset; 0 before the payload. -/
def leafFloor (len n : Nat) : Nat :=
  if len ≤ n then len else if n < 0x20000 then 0 else 0x20000 + (n - 0x20000) / 65536 * 65536

/-- The first 4,096 bytes are there: header checks, then the resume record (R525). Answered: the failing reason, or the transfer. -/
def State.afterHeader (s : State) (x : Xfer) : State × (Nat ⊕ Xfer) :=
  match s.headerFault x.src.recovery x.head with
  | some r => (s, .inl r)
  | none =>
    let x := { x with len := fieldAt x.head 8 4 }
    if x.src = .cxl then (s, .inr x)
    else
      match s.fwu.resume with
      | none => (s, .inr x)
      | some r =>
        if r.head = x.head then
          let s := (s.raiseN Ev.fwuXferResumed (fwuInfo s.otherSlot 0) r.verified).fwRecord 0x1104 0 r.verified x.src.code 0
          (s, .inr { x with next := r.verified, verified := r.verified })
        else ({ s with fwu := { s.fwu with resume := none } }, .inr x)

/-- The resume record follows each further 1 MiB with every leaf verified. -/
def State.noteResume (s : State) (x : Xfer) (before : Nat) : State :=
  if before / 2 ^ 20 < x.verified / 2 ^ 20 then
    { s with fwu := { s.fwu with resume := some ⟨x.src, x.len, x.verified / 2 ^ 20 * 2 ^ 20, x.head⟩ } }
  else s

/-- Image bytes arrive at the offset the transfer wants next. `sigOk` and `leavesOk` say how the checks that they complete come out.
Answered: the state, and the transfer when it goes on. -/
def State.feed (s : State) (x : Xfer) (data : List Nat) (leavesOk sigOk : Bool) : State × Option Xfer :=
  let fail (r off : Nat) (t : State) (y : Xfer) : State × Option Xfer := (t.xferFail y r off, none)
  let at_ := x.next
  let bytes := if at_ < 4096 ∧ x.src ≠ .cxl then data.take (4096 - at_) else data
  let upTo := at_ + bytes.length
  let to_ := if 0 < x.len then min x.len upTo else upTo
  let crosses (k : Nat) : Bool := decide (at_ < k ∧ k ≤ to_)
  let y := { x with next := to_, repeats := 0, head := if at_ < 4096 then (x.head ++ bytes).take 4096 else x.head }
  let (s, z) := if crosses 4096 then s.afterHeader y else (s, Sum.inr y)
  match z with
  | .inl r => fail r 0 s y
  | .inr y =>
    let (s, w) := s.draw
    if crosses 0x5400 ∧ !sigOk then fail (2 + w.toNat % 3) 0x1000 s y
    else if crosses 0x20000 ∧ !leavesOk then fail 5 0x8000 s y
    else
      let v := max y.verified (leafFloor y.len y.next)
      if y.verified < v ∧ 0x20000 < v ∧ !leavesOk then
        let leaf := leafFloor y.len at_
        let leaf := if leaf = 0 then 0x20000 else leaf
        if x.src = .cxl ∨ x.again = some leaf then fail 6 leaf s y
        else
          let u := { y with next := leaf, again := some leaf }
          (s.setXfer (some u), some u)
      else
        let u := { y with verified := v, copying := decide (0 < y.len ∧ v = y.len) }
        ((s.setXfer (some u)).noteResume u x.verified, some u)

/-- The image of a finished transfer goes into a slot: the boot record takes its SVN (R526). -/
def State.installSlot (s : State) (k : Nat) (i : Image) (rec_ : Bool) : State :=
  let r := s.boot
  let r := if k = 0 then { r with svnA := i.svn, recA := rec_ } else { r with svnB := i.svn, recB := rec_ }
  let s := s.setBoot r
  { s with fwu := { s.fwu with imgA := if k = 0 then some i else s.fwu.imgA, imgB := if k = 0 then s.fwu.imgB else some i } }

/-- The background operation of a CXL transfer ends. -/
def State.endTransfer (s : State) (x : Xfer) (rc : Rc) : State :=
  if x.src = .cxl then { s with host := { s.host with bg := none, bgLast := some (.transferFw, x.h, rc) } } else s

/-- The transfer's requester learns of its success. -/
def State.answerDone (s : State) (x : Xfer) : State :=
  match x.src with
  | .cxl => s.answerMbox x.h .success []
  | .pldm | .recoveryMctp => (s.emit (.answer 0x17 0 [])).emit (.answer 0x18 0 [])
  | .recoveryDoe => s.emit (.answer 1 3 [x.len])

/-- IMAGE_COPY_DONE: the copy has been read back; a recovery image goes to both slots, and a device conventional reset follows
(R526, R542). -/
def execImageCopyDone (ok : Bool) (s : State) : Host.Outcome State Fault Refusal :=
  done (s.when s.pwr.coreOn fun s =>
    match s.fwu.xfer with
    | none => s
    | some x =>
      if !x.copying then s
      else if !ok then (s.endTransfer x .fwVerificationFailed).xferFail x 6 0
      else
        let i := imageOf x.head
        let s := s.setXfer none
        if x.src.recovery then
          let s := (s.installSlot 0 i true).installSlot 1 i true
          let s := (s.setBoot { s.boot with st := .confirmed, attempts := 0 }).raiseN Ev.fwuXferDone (fwuInfo s.otherSlot 0) 0
          (s.answerDone x).startDevReset
        else
          let k := s.otherSlot
          let s := s.installSlot k i false
          let s := { s with fwu := { s.fwu with pendingImg := true } }
          ((s.raiseN Ev.fwuXferDone (fwuInfo k 0) 0).endTransfer x .success).answerDone x)

/-! ### CXL Transfer FW (R70, R77, R522, R523) -/

/-- Bytes of a CXL transfer; the last part starts the background operation that copies the image. -/
def State.cxlFeed (s : State) (h slot : Nat) (x : Xfer) (data : List Nat) (last leavesOk sigOk : Bool) : State :=
  if last ∧ slot ≠ s.otherSlot + 1 then s.answerMbox h .invalidSlot []
  else if last ∧ s.host.bg.isSome then s.answerMbox h .busy []
  else
    match s.feed x data leavesOk sigOk with
    | (t, none) => t
    | (t, some y) =>
      if !last then t.answerMbox h .success []
      else if y.copying then
        ({ t with host := { t.host with bg := some (.transferFw, h) } } : State).answerMbox h .backgroundStarted []
      else t.xferFail y 6 y.next

/-- TRANSFER_FW: actions 0 full, 1 initiate, 2 continue, 3 end, 4 abort. -/
def execTransferFw (h action slot off : Nat) (data : List Nat) (leavesOk sigOk : Bool) (s : State) : Host.Outcome State Fault Refusal :=
  done (s.mailboxRw h fun s =>
    if action ≤ 1 then
      match s.xferRefused with
      | some r => s.answerMbox h r []
      | none =>
        if off ≠ 0 then s.answerMbox h .transferOutOfOrder []
        else
          let s := { s with fwu := { s.fwu with resume := none } }
          s.cxlFeed h slot (Xfer.start .cxl 16 h) data (action == 0) leavesOk sigOk
    else if 5 ≤ action then s.answerMbox h .invalidInput []
    else
      match s.fwu.xfer with
      | none => s.answerMbox h .transferOutOfOrder []
      | some x =>
        if x.src ≠ .cxl ∨ x.h ≠ h ∨ x.copying then s.answerMbox h .fwTransferInProgress []
        else if action = 4 then (s.setXfer none).answerMbox h .success []
        else if off ≠ x.next then s.answerMbox h .transferOutOfOrder []
        else s.cxlFeed h slot x data (action == 3) leavesOk sigOk)

/-- GET_FW_INFO: slots, active and staged slot, online activation, and the two versions. -/
def execGetFwInfo (h : Nat) (s : State) : Host.Outcome State Fault Refusal :=
  done (s.mailbox h fun s =>
    let staged := if s.boot.st = .pendingReset then s.otherSlot + 1 else 0
    s.answerMbox h .success [2, s.boot.running + 1 + 8 * staged, 1, s.verOf 0, s.verOf 1])

/-! ### PLDM and recovery (R522 to R525, R541, R542) -/

/-- CHUNK_LOG2 of a transfer whose update agent takes `size` bytes at most: 8 to 16. -/
def State.chunkLog (s : State) (size : Nat) : Nat :=
  max 8 (min 16 (min (Nat.log2 (max 1 size)) (s.fld F.fwuCfgChunkLog2)))

/-- PLDM_REQUEST_UPDATE: over MCTP only. -/
def execPldmRequestUpdate (port size : Nat) (s : State) : Host.Outcome State Fault Refusal :=
  if port ≠ 8 then done (s.begin.emit .notAccepted)
  else done (s.spdm 8 fun s =>
    match (if s.fwu.recovery then (if s.fwu.xfer.isSome then some Rc.busy else none) else s.xferRefused) with
    | some _ => s.emit (.answer 0x10 0x8A [])
    | none =>
      (s.setXfer (some (Xfer.start (if s.fwu.recovery then .recoveryMctp else .pldm) (s.chunkLog size) 8))).emit (.answer 0x10 0 []))

/-- PLDM_FIRMWARE_DATA: a response at the offset asked for. -/
def execPldmFirmwareData (off : Nat) (data : List Nat) (leavesOk : Bool) (s : State) : Host.Outcome State Fault Refusal :=
  done (s.spdm 8 fun s =>
    match s.fwu.xfer with
    | none => s
    | some x =>
      if (x.src ≠ .pldm ∧ x.src ≠ .recoveryMctp) ∨ x.copying ∨ off ≠ x.next ∨ 2 ^ x.chunk < data.length then s
      else (s.feed x data leavesOk leavesOk).1)

/-- PLDM_DATA_TIMEOUT: a request without a response is repeated 3 times, then the update fails. -/
def execPldmDataTimeout (s : State) : Host.Outcome State Fault Refusal :=
  done (s.when (s.pwr.coreOn && (s.fwu.running || s.fwu.recovery) && !s.fwu.paused) fun s =>
    match s.fwu.xfer with
    | none => s
    | some x =>
      if (x.src ≠ .pldm ∧ x.src ≠ .recoveryMctp) ∨ x.copying then s
      else if x.repeats < 3 then s.setXfer (some { x with repeats := x.repeats + 1 })
      else (s.setXfer none).raiseN Ev.fwuXferFail (fwuInfo s.otherSlot 0) x.next)

/-- RECOVERY_DOE_TRANSFER: status 0 OK, 1 out of order, 2 verification failed, 3 complete, and the next offset wanted; the last
status comes once the image is in its slots. -/
def execRecoveryDoeTransfer (off : Nat) (data : List Nat) (leavesOk : Bool) (s : State) : Host.Outcome State Fault Refusal :=
  done (s.when (s.pwr.coreOn && s.fwu.recovery) fun s =>
    let x := s.fwu.xfer.getD (Xfer.start .recoveryDoe 16 0)
    if x.src ≠ .recoveryDoe ∨ x.copying ∨ off ≠ x.next ∨ 65536 < data.length then s.emit (.answer 1 1 [x.next])
    else
      match s.feed x data leavesOk leavesOk with
      | (t, none) => t
      | (t, some y) => if y.copying then t else t.emit (.answer 1 0 [y.next]))

/-! ### Activation (R527 to R531) -/

/-- Why an activation is refused (R527). -/
def State.activateRefused (s : State) (slot : Nat) (hitless : Bool) : Option Rc :=
  let k := s.otherSlot
  let flush : Bool := match s.wp.flush with
    | some f => (match f.kind with | .powerFail | .gpf _ => true | _ => false)
    | none => false
  if slot ≠ k + 1 ∨ !s.fwu.pendingImg then some .invalidSlot
  else if s.boot.st ≠ .confirmed ∨ s.fwu.sched.isSome ∨ s.fwu.act.isSome ∨ flush then some .busy
  else
    match s.slotImg k, s.slotImg s.boot.running with
    | some i, some r => if hitless ∧ (!i.hitless ∨ r.fmt < i.lowFmt) then some .activationFailed else none
    | some i, none => if hitless ∧ !i.hitless then some .activationFailed else none
    | none, _ => some .invalidSlot

/-- The activation begins: the image is loaded, or the next ROM start takes it. -/
def State.activate (s : State) (slot : Nat) (hitless : Bool) (how : ActHow) : State :=
  if hitless then { s with fwu := { s.fwu with act := some (slot - 1, how) } }
  else s.setBoot { s.boot with st := .pendingReset }

/-- ACTIVATE_FW: an online activation is answered when its pause ends; its refusal for a cold reset carries code 0x0D. -/
def execActivateFw (h : Nat) (online : Bool) (slot : Nat) (s : State) : Host.Outcome State Fault Refusal :=
  done (s.mailboxRw h fun s =>
    match s.activateRefused slot online with
    | some .activationFailed => s.answerMbox h .activationFailed [0]
    | some r => s.answerMbox h r []
    | none =>
      let s := s.activate slot online (.mailbox h)
      if online then s else s.answerMbox h .success [])

/-- PLDM_ACTIVATE_FIRMWARE: self-contained, or at the next reset. -/
def execPldmActivateFirmware (hitless : Bool) (s : State) : Host.Outcome State Fault Refusal :=
  done (s.spdm 8 fun s =>
    match s.activateRefused (s.otherSlot + 1) hitless with
    | some .invalidSlot => s.emit (.answer 0x1A 0x80 [])
    | some .activationFailed => s.emit (.answer 0x1A 0x85 [])
    | some _ => s.emit (.answer 0x1A 0x04 [])
    | none => (s.activate (s.otherSlot + 1) hitless .pldm).emit (.answer 0x1A 0 []))

/-- Activation Failed, FW Rolled Back, to whoever asked by mailbox. -/
def State.rolledBack (s : State) (how : ActHow) (slot reason : Nat) : State :=
  let s := s.raiseN Ev.fwuActivationFailed (fwuInfo slot reason) 0
  match how with
  | .mailbox h => s.answerMbox h .activationFailed [1]
  | _ => s

/-- ACTIVATION_IMAGE_LOADED: step 1 of Sequence 16-2 ends, and the pause begins. -/
def execActivationImageLoaded (ok : Bool) (s : State) : Host.Outcome State Fault Refusal :=
  done (s.when (s.pwr.coreOn && s.fwu.running && !s.fwu.paused) fun s =>
    match s.fwu.act with
    | none => s
    | some (slot, how) =>
      if ok then ({ s with fwu := { s.fwu with trialMethod := 1 } } : State).beginPause slot
      else ({ s with fwu := { s.fwu with act := none } } : State).rolledBack how slot 6)

/-- A device conventional reset held during the pause follows. -/
def State.afterPause (s : State) : State :=
  let held := s.fwu.devResetHeld
  let s := { s with fwu := { s.fwu with heldMctp := 0, devResetHeld := false } }
  if held ∧ s.pwr.devReset = .none ∧ s.pwr.st = .on then s.startDevReset else s

/-- ACTIVATION_PAUSE_END: step 7, or the roll-back of step 5. -/
def execActivationPauseEnd (ok : Bool) (s : State) : Host.Outcome State Fault Refusal :=
  done (s.when (s.pwr.coreOn && s.fwu.paused) fun s =>
    match s.fwu.act with
    | none => ({ s with fwu := { s.fwu with paused := false } } : State).afterPause
    | some (slot, how) =>
      let m := s.fwu.trialMethod
      let s := { s with fwu := { s.fwu with paused := false, act := none, trialMethod := 0 } }
      if ok then
        let s := { s with fwu := { s.fwu with selfCheck := 1, pendingImg := false } }
        let s := (s.bump F.fwuCntActivations 1).raiseN Ev.fwuActivated (fwuInfo slot 0) 0
        let s := s.fwRecord 0x1100 0 (s.verOf slot) s.fwu.prevVer m
        (match how with | .mailbox h => s.answerMbox h .success [] | _ => s).afterPause
      else
        ((s.setBoot { s.boot with running := 1 - slot, st := .confirmed, attempts := 0 }).rolledBack how slot 9).afterPause)

/-- The device's index lies in one of the ranges, given as first and last one after the other. -/
def inTargets (i : Nat) : List Nat → Bool
  | a :: b :: l => decide (a % 2 ^ 18 ≤ i ∧ i ≤ b % 2 ^ 18) || inTargets i l
  | _ => false

/-- SCHEDULE_FW_ACTIVATION (R530). -/
def execScheduleFwActivation (h slot deadline : Nat) (pps : Bool) (targets : List Nat) (s : State) : Host.Outcome State Fault Refusal :=
  done (s.mailboxRw h fun s =>
    let n := targets.length
    let now := s.time.devtime
    if s.fld F.topMidxAssigned = 0 ∨ s.fld F.topTimeValid = 0 then s.answerMbox h .invalidSecurityState []
    else if (s.activateRefused slot true).isSome ∨ deadline < now + 10 ^ 9 ∨ now + 604800 * 10 ^ 9 < deadline ∨
        (pps ∧ deadline % 10 ^ 9 ≠ 0) ∨ n < 2 ∨ 32 < n ∨ n % 2 = 1 ∨ !inTargets (s.fld F.topMidxIndex) targets then
      s.answerMbox h .invalidInput []
    else
      ({ s with fwu := { s.fwu with sched := some ⟨slot - 1, deadline, pps, false⟩ } } : State).answerMbox h .success [])

/-- CANCEL_SCHEDULED_ACTIVATION. -/
def execCancelScheduledActivation (h : Nat) (s : State) : Host.Outcome State Fault Refusal :=
  done (s.mailboxRw h fun s =>
    match s.fwu.sched with
    | some x =>
      if x.fired then s.answerMbox h .invalidInput []
      else ({ s with fwu := { s.fwu with sched := none } } : State).answerMbox h .success []
    | none => s.answerMbox h .invalidInput [])

/-! ### Trial, confirmation, fall-back (R532 to R535) -/

/-- SELF_CHECK_DONE. -/
def execSelfCheckDone (pass : Bool) (s : State) : Host.Outcome State Fault Refusal :=
  done (s.when (s.pwr.coreOn && s.fwu.running && decide (s.boot.st = .trial ∧ s.fwu.selfCheck = 1)) fun s =>
    if pass then { s with fwu := { s.fwu with selfCheck := 2 } }
    else { s.restart 2 with fwu := { (s.restart 2).fwu with selfCheck := 3 } })

/-- CONFIRM_FW: counter 8 advances first. -/
def execConfirmFw (h : Nat) (s : State) : Host.Outcome State Fault Refusal :=
  done (s.mailboxRw h fun s =>
    if s.boot.st = .trial ∧ s.fwu.selfCheck = 1 then s.answerMbox h .busy []
    else if s.boot.st ≠ .trial ∨ s.fwu.selfCheck ≠ 2 then s.answerMbox h .invalidSlot []
    else
      let k := s.boot.running
      let svn := match s.slotImg k with | some i => i.svn | none => 0
      let r := if s.ctrVal 8 < svn then s.ctrWrite 8 svn else (s, .ok)
      match r with
      | (t, .ok) =>
        let t := t.setBoot { t.boot with st := .confirmed, attempts := 0, lastVer := t.verOf k }
        let t := { t with fwu := { t.fwu with selfCheck := 0, near := false } }
        ((t.raiseN Ev.fwuConfirmed (fwuInfo k 0) 0).fwRecord 0x1103 0 (t.verOf k) svn 0).answerMbox h .success []
      | (t, _) => t.answerMbox h .internalError [])

/-- Operating ms. -/
def State.opMs (s : State) : Nat := s.time.opNs / 1000000

/-- CONFIRM_DEADLINE. -/
def execConfirmDeadline (s : State) : Host.Outcome State Fault Refusal :=
  done (s.when (s.pwr.coreOn && s.fwu.running && decide (s.boot.st = .trial ∧ s.boot.deadline ≤ s.opMs)) fun s => s.restart 1)

/-- DEADLINE_NEAR: once for a trial. -/
def execDeadlineNear (s : State) : Host.Outcome State Fault Refusal :=
  done (s.when (s.pwr.coreOn && s.fwu.running && !s.fwu.near && decide (s.boot.st = .trial ∧ s.boot.deadline ≤ s.opMs + 3600000)) fun s =>
    ({ s with fwu := { s.fwu with near := true } } : State).raiseN Ev.fwuDeadlineNear (fwuInfo s.boot.running 0) 0)

/-- WATCHDOG: a trial falls back; a confirmed image starts again. -/
def execWatchdog (s : State) : Host.Outcome State Fault Refusal :=
  done (s.when (s.pwr.coreOn && s.fwu.running) fun s => (s.raiseN Ev.fwuWatchdog (fwuInfo s.boot.running 0) 0).restart 3)

/-! ### Configuration bundles (R13, R539, R540) -/

/-- The signature block of a bundle verifies under a key set that is enrolled and not revoked (R518). -/
def State.bundleSigned (s : State) (b : Bundle) : Bool :=
  b.sigOk && (if b.keySet < 4 then !s.fwu.revoked.getLsbD b.keySet
    else decide (b.keySet < 8) && Tab.get (fun _ => 0) s.fwu.owners b.keySet != 0)

/-- An index may be cleared: no sanitize is pending and no domain key exists (R13). -/
def State.indexClearable (s : State) : Bool :=
  !s.host.sanitizing && s.cry.doms.all fun p => p.2.gen0.isNone && p.2.gen1.isNone && p.2.next.isNone

/-- The item is valid and allowed to the key set; `match_` says whether the bundle names this unit. -/
def State.itemOk (s : State) (match_ : Bool) (keySet : Nat) (i : BundleItem) : Bool :=
  match i with
  | .subsystem v d => decide (v < 2 ^ 16 ∧ d < 2 ^ 16)
  | .owner k _ => decide (4 ≤ k ∧ k < 8)
  | .role e _ r => decide (e < 16 ∧ r < 4)
  | .indexClear => match_ && s.indexClearable
  | .injection => match_
  | .recoveryFloor v => decide (keySet < 4 ∧ v < 2 ^ 32)
  | .keyRevoke k => decide (keySet < 4 ∧ k < 4 ∧ k ≠ keySet)
  | .other _ => false

/-- One item takes effect. -/
def State.applyItem (s : State) (i : BundleItem) : State :=
  match i with
  | .subsystem v d => { s with fwu := { s.fwu with subsysNext := some (v, d) } }
  | .owner k g => { s with fwu := { s.fwu with owners := Tab.set (fun _ => 0) s.fwu.owners k g } }
  | .role e g r => { s with fwu := { s.fwu with roles := (s.fwu.roles.filter fun x => x.slot != e) ++ [RoleEnt.mk e g r] } }
  | .indexClear => (s.setFld F.topMidxAssigned 0).setFld F.topMidxIndex 0
  | .injection => { s with flt := { s.flt with injAllowed := true } }
  | .recoveryFloor v => if s.ctrVal 9 < v then (s.ctrWrite 9 v).1 else s
  | .keyRevoke k => { s with fwu := { s.fwu with revoked := s.fwu.revoked ||| (1#4 <<< k) } }
  | .other _ => s

/-- APPLY_CONFIGURATION_BUNDLE: as a whole, or not at all. -/
def execApplyConfigurationBundle (h : Nat) (b : Bundle) (s : State) : Host.Outcome State Fault Refusal :=
  done (s.mailboxRw h fun s =>
    let refuse (r : Rc) (t : State) : State := (t.raise Ev.fwuBundleRefused).answerMbox h r []
    let match_ := decide (b.serial = Config.serial)
    if !s.bundleSigned b ∨ b.seq ≤ s.ctrVal 10 then refuse .invalidSecurityState s
    else if (!match_ ∧ b.serial ≠ 0#64) ∨ !(b.items.all fun i => s.itemOk match_ b.keySet i) then refuse .invalidInput s
    else
      match (if b.seq ≤ ctrLimit 10 then s.ctrWrite 10 b.seq else (s, .saturated)) with
      | (t, .ok) =>
        let t := (b.items.foldl State.applyItem t).raise Ev.fwuBundleApplied
        (t.fwRecord 0x1105 0 b.seq b.items.length b.keySet).answerMbox h .success []
      | (t, _) => t.answerMbox h .internalError [])

/-! ### Registers (R549) -/

/-- FWU_RECOVERY. -/
def execFwuRecovery (h key : Nat) (s : State) : Host.Outcome State Fault Refusal :=
  done (s.barWrite h F.fwuCtlRecovery.off fun s => if key = 0xD5 then { s with fwu := { s.fwu with recoveryReq := true } } else s)

/-- FWU_CNT_CLR. -/
def execFwuCntClr (h : Nat) (s : State) : Host.Outcome State Fault Refusal :=
  done (s.barWrite h F.fwuCtlCntClr.off fun s => s.setReg F.fwuCntActivations.off 0#64)

end Sys2Proof.Machine
end

