-- ==== Sys2Proof/Machine/Queues.lean ====
section
/-!
DEFINITION. Crossing queues and what the island and clock monitors report (R27, R139 to R143, R358, R360, R370).
-/
namespace Sys2Proof.Machine

/-- A packet that checked good is used (R141). -/
def State.usePacket (s : State) : PacketRef → State
  | .hostWrite h tag hpa d => s.hostReq (Req.write h tag d (BitVec.allOnes 64) false) hpa.toNat 0x11
  | .readData h tag d => s.memData h tag d false
  | .lineHandoff line =>
    match s.wp.handed.find? fun x => x.line == line with
    | some x => s.stageHanded x
    | none => s
  | .header _ _ => s

/-- A packet with no good copy (Table 3-7). -/
def State.losePacket (s : State) : PacketRef → State
  | .hostWrite h tag hpa d =>
    s.hostReq { Req.write h tag d (BitVec.allOnes 64) true with intern := true } hpa.toNat 0x11
  | .readData h tag _ => s.memData h tag 0#512 true
  | .lineHandoff line => (s.updLine line fun c => { c with handed := false }) |> fun t =>
      ({ t with wp := { t.wp with handed := t.wp.handed.filter fun x => !(x.line == line && x.cached) } } : State).hand line
  | .header _ _ => s

/-- A parity error of a queue: counted, and reported against its entry (R143, R370). -/
def State.parityError (s : State) (q : Nat) : State :=
  let c := s.qcnt q
  let s := s.setQcnt q { c with parity := satAdd 16 c.parity 1 }
  (s.report (resQueue q 0) .queue 0).countThresh (resQueue q 0) 2

/-- An injection of kind 11 is armed against an entry of the queue (Table 10-9). -/
def State.parityInj (s : State) (q : Nat) : Bool :=
  match s.flt.inj with
  | some i => decide (i.kind = 11 ∧ i.res.ty = 6 ∧ i.res.id / 2 ^ 8 = q)
  | none => false

/-- QUEUE_PACKET (R139, R141, R143): a word that fails parity marks the packet poisoned; the consumer does not act on it and asks
for a replay. -/
def execQueuePacket (q : Nat) (pkt : PacketRef) (parityOk : Bool) (s : State) : Host.Outcome State Fault Refusal :=
  done (s.when (s.pwr.coreOn && !(s.qcnt q).retired) fun s =>
    if parityOk ∧ !s.parityInj q then s.usePacket pkt
    else
      let sticky := s.parityInj q && (match s.flt.inj with | some i => i.sticky | none => false)
      let s := if s.parityInj q ∧ !sticky then s.injFire else s
      ({ s with xq := s.xq ++ [⟨q, pkt⟩] } : State).parityError q)

/-- QUEUE_REPLAY (R141, R142): a good replay is used in place of the poisoned packet; otherwise the poison propagates. -/
def execQueueReplay (q : Nat) (parityOk : Bool) (s : State) : Host.Outcome State Fault Refusal :=
  done (s.when s.pwr.coreOn fun s =>
    match s.xq.find? fun p => p.q == q with
    | none => s
    | some p =>
      let s := { s with xq := s.xq.erase p }
      let c := s.qcnt q
      if parityOk ∧ !s.parityInj q then (s.setQcnt q { c with replays := satAdd 16 c.replays 1 }).usePacket p.pkt
      else
        let s := if s.parityInj q then s.injFire else s
        (s.setQcnt q { c with propagated := satAdd 16 c.propagated 1 }).losePacket p.pkt)

/-- A host request that is still unanswered, with the place it waits in left. -/
def State.takeReq (s : State) (h tag : Nat) : Option (State × Req) :=
  let p (r : Req) : Bool := r.h == h && r.tag == tag
  let all := s.fch.mshr.flatMap (fun e => e.reqs ++ e.again) ++ s.fch.missWait ++ s.fch.dirtyWait ++ s.fch.evictWait ++
    s.epo.epochWait
  match all.find? p with
  | none => none
  | some r =>
    some ({ s with
      fch := { s.fch with
        mshr := s.fch.mshr.map fun (e : Mshr) => { e with reqs := e.reqs.filter fun x => !p x, again := e.again.filter fun x => !p x }
        missWait := s.fch.missWait.filter fun x => !p x, dirtyWait := s.fch.dirtyWait.filter fun x => !p x
        evictWait := s.fch.evictWait.filter fun x => !p x }
      epo := { s.epo with epochWait := s.epo.epochWait.filter fun x => !p x } }, r)

/-- REQUEST_TIMEOUT (R360): the first time-out reissues the request, counts it and reports the queue on its path (`src`, a queue
number); a second one completes a read with poison and stores a host write poisoned. -/
def execRequestTimeout (src : Nat) (reissued : Bool) (h tag : Nat) (s : State) : Host.Outcome State Fault Refusal :=
  done (s.when s.pwr.coreOn fun s =>
    if !reissued then
      let s := (s.bump F.fltCnt2ReqTimeouts 1).raiseN Ev.fltReqTimeout (6 * 2 ^ 36) (resQueue src 0).id
      s.queueTest (resQueue src 0) 0 0
    else
      match s.takeReq h tag with
      | none => s
      | some (s, r) =>
        if r.wr then s.write { r with poison := true, intern := true } true else s.memData h tag 0#512 true)

/-- CLOCK_DRIFT_LINK_ERROR (R27). -/
def execClockDriftLinkError (n : Nat) (s : State) : Host.Outcome State Fault Refusal :=
  done (s.when (s.pwr.coreOn && s.populated n && (s.link1 n).st == .active) fun s => s.report (resSkein n) .link 0)

/-- The engine of a group is held in reset, its partner takes the group, and the fault manager is told (R27, R350, R358). -/
def State.islandFault (s : State) (g : Nat) : State :=
  let s := s.setGroup g { s.group g with islandReset := true, taken := true }
  let s := { s with flt := { s.flt with engHeld := s.flt.engHeld ||| (1#8 <<< g) } }
  let s := (s.raiseN (Ev.plyIslandFault g) 0 0).takeover g
  (s.report (resEngine g) .logic 0).countThresh (resEngine g) 3

/-- ISLAND_FAULT (R27, R358). -/
def execIslandFault (g : Nat) (s : State) : Host.Outcome State Fault Refusal :=
  done (s.when (s.pwr.coreOn && decide (g < s.popP)) fun s => s.islandFault g)

/-- QUEUE_SEL_WRITE (R370): the queue's counters are latched into FLT_QUEUE_CNT. -/
def execQueueSelWrite (h q : Nat) (s : State) : Host.Outcome State Fault Refusal :=
  done (s.barWrite h 0x8170 fun s =>
    let s := s.setFld F.fltQueueSelQueue q
    let c := s.qcnt (q % 65536)
    s.setReg 0x8178 (BitVec.ofNat 64 (c.parity * 2 ^ 48 + c.replays * 2 ^ 32 + c.propagated * 2 ^ 16 + c.spares * 2 ^ 8 +
      ofBool c.retired * 2 ^ 7)))

end Sys2Proof.Machine
end

