-- ==== Sys2Proof/Machine/Upkeep.lean ====
section
/-!
DEFINITION. Upkeep's commands: age probes, the victims of Wring, Press and static swaps, Selvage refresh, bolt resets and the
wear pacer, recounts, Rinse passes, the bolt window and Darn's phases (R243 to R248, R311 to R347).
-/
namespace Sys2Proof.Machine

/-! ### Age probes (R245, R332, R333) -/

/-- The probe reads of one line: eight paired reads in RNS slots. -/
def probeReads (a : Nat) : List RdOp := List.replicate 8 ⟨clsRns, a, 0, 0, true, true, false⟩

/-- The lines of a block that a probe reads: tell-tale line 0, or one line of every 128 where the block has none. -/
def probeLines (tt : Nat) : List Nat := if tt = 0x3FFF then (List.range 128).map fun k => 128 * k else [tt]

/-- The probe reads of one member join its skein's queue. -/
def State.probeMember (s : State) (n b tt : Nat) : State :=
  let ops := (probeLines tt).flatMap fun o => probeReads (mkAddr n b o)
  (ops.foldl (fun (t : State) op => t.pushRd n op) s).count 0x606 0 ops.length

/-- The skeins whose triple of Selvage block `b` is in use. -/
def State.tripleSkeins (s : State) (g b : Nat) : List Nat :=
  ((List.range 16).map fun i => 16 * g + i).filter fun n => s.dieUsable n (b / 8192)

/-- The skeins that hold the block to be probed. -/
def State.probeSkeins (s : State) (g b : Nat) : List Nat :=
  if selvageBlock b then s.tripleSkeins g b else (memberList (s.bolt g b).members).map fun i => 16 * g + i

/-- The block may be probed: it is AGE_UNKNOWN and no probe of it runs. -/
def State.probeable (s : State) (g b : Nat) : Bool :=
  let x := s.bolt g b
  s.upk.unknown && !s.upk.probing.contains (boltKey g b) &&
    (if selvageBlock b then (s.tripleSkeins g b).any fun n => !(s.triple (tripleKey n (b / 8192) (b % 8192 / 3))).probed
     else x.ageUnk && decide (x.st = .sealed ∨ x.st = .victim))

/-- The map's state lets probes run: the Selvage's from LOADING on, the bolts' once the bolt table is loaded. -/
def State.probesRun (s : State) (b : Nat) : Bool :=
  match s.map.st with
  | .off | .unformatted | .failed => false
  | .loading => selvageBlock b
  | .replaying | .scanning | .closing | .active => true

/-- AGE_PROBE (R245). -/
def execAgeProbe (g b : Nat) (s : State) : Host.Outcome State Fault Refusal :=
  done (s.when (s.pwr.coreOn && s.probesRun b && decide (g < s.popP ∧ b < s.blocksPerSkein) && s.probeable g b) fun s =>
    let tt := if selvageBlock b then 0x3FFF else (s.bolt g b).tt
    let ns := s.probeSkeins g b
    let s := { s with upk := { s.upk with probing := s.upk.probing ++ [boltKey g b] } }
    let s := if tt = 0x3FFF ∧ !selvageBlock b then s.bump F.upkProbeStsFallbackBlocks ns.length else s
    ns.foldl (fun (t : State) n => t.probeMember n b tt) s)

/-- SEAL_CLK or REFRESH_CLK for a measured class, on the page of skein `n` (R332). -/
def State.clkOfClass (s : State) (n c : Nat) : Nat :=
  (s.ageSec (n / 16) + 2 ^ 32 - (s.link1 n).page.classAge.getD c 0 % 2 ^ 32) % 2 ^ 32

/-- The triples of a Selvage block take their measured class; one at or above PRESS_CLASS is queued for its refresh. -/
def State.probedTriple (s : State) (n b c : Nat) : State :=
  let k := tripleKey n (b / 8192) (b % 8192 / 3)
  let hot := decide (s.fld F.upkPressCfgPressClass ≤ c)
  let x := s.triple k
  let t := s.setTriple k { x with clk := s.clkOfClass n c, probed := true, queued := x.queued || hot }
  if hot && !x.queued then t.upkEvent Ev.upkPressQueued .press c (n / 16) b else t

/-- The bolt takes the highest class its blocks measured, on the page of the member that measured it. -/
def State.probedBolt (s : State) (n g b c : Nat) : State :=
  let x := s.bolt g b
  if x.st ≠ .sealed ∧ x.st ≠ .victim then s
  else
    let t := s.setBolt g b { x with sealClk := s.clkOfClass n c, ageUnk := false }
    let t := if t.fld F.upkPressCfgPressClass ≤ c then t.queuePress g b else t
    t.checkAge g b

/-- The probe of a bolt or triple has ended. -/
def State.unprobe (s : State) (g b : Nat) : State :=
  { s with upk := { s.upk with probing := s.upk.probing.filter fun k => k != boltKey g b } }

/-- The probes of a block have ended: `cls` 16 says that one block had no line that decodes, which is reported and counts
as class 15 (R245). -/
def State.probeEnd (s : State) (g b cls : Nat) : State :=
  let ns := s.probeSkeins g b
  let v := s.draw
  let n := ns.getD (v.2.toNat % max 1 ns.length) (16 * g)
  let s := v.1.unprobe g b
  let c := min 15 cls
  let s := if cls < 16 then s
    else (s.bump F.upkProbeStsFallbackBlocks 1).reportLine (mkAddr n b 0)
  let s := if selvageBlock b then ns.foldl (fun (t : State) m => t.probedTriple m b c) s else s.probedBolt n g b c
  s.endUnknown

/-- AGE_PROBE_DONE (R245, R332, R333). -/
def execAgeProbeDone (g b cls : Nat) (s : State) : Host.Outcome State Fault Refusal :=
  done (s.when (s.pwr.coreOn && s.upk.probing.contains (boltKey g b)) fun s => s.probeEnd g b cls)

/-! ### Victims (R321, R324, R325, R334, R385) -/

/-- The best of a list by a strict order. -/
def best {α : Type} (lt : α → α → Bool) : List α → Option α
  | [] => none
  | x :: xs =>
    match best lt xs with
    | none => some x
    | some y => if lt y x then some y else some x

/-- Upkeep runs: the core is on, the map active, and no device halt holds it (R385). -/
def State.upkeepRuns (s : State) : Bool := s.pwr.coreOn && s.map.st == .active && !s.cry.deviceHalt

/-- The bolt holds the failing line of a halted domain (R385). -/
def State.haltHolds (s : State) (g b : Nat) : Bool :=
  s.cry.halts.any fun r => !r.devScope && (s.dom r.dom).halted &&
    decide ((s.entry r.line).st = 1 ∧ addrGroup (s.entry r.line).addr = g ∧ addrBlock (s.entry r.line).addr = b)

/-- Bolts that a process may take: sealed, with live lines, not DEGRADED, not held by a halt. -/
def State.takable (s : State) (g : Nat) : List (Nat × Bolt) :=
  (s.listed g).filter fun p => decide (p.2.st = .sealed ∧ p.2.valid ≠ 0) && !p.2.degraded && !s.haltHolds g p.1

/-- Sealed earliest, then the lowest block index. -/
def State.older (s : State) (g : Nat) (x y : Nat × Bolt) : Bool :=
  let ax := ageOf (s.ageSec g) x.2.sealClk
  let ay := ageOf (s.ageSec g) y.2.sealClk
  decide (ay < ax ∨ (ay = ax ∧ x.1 < y.1))

/-- A process has a victim in the group. -/
def State.hasVictim (s : State) (g : Nat) (p : Proc) : Bool :=
  (s.listed g).any fun x => decide (x.2.st = .victim ∧ x.2.proc = some p)

/-- Wring's choice: the smallest VALID (R321). -/
def State.wringChoice (s : State) (g : Nat) : Option (Nat × Bolt) :=
  best (fun x y => decide (x.2.valid < y.2.valid) || (decide (x.2.valid = y.2.valid) && s.older g x y)) (s.takable g)

/-- WRING_VICTIM_SELECT (R321, R324). -/
def execWringVictimSelect (g : Nat) (s : State) : Host.Outcome State Fault Refusal :=
  done (s.when (s.upkeepRuns && (s.upkG g).wring && !s.hasVictim g .wring) fun s =>
    match s.wringChoice g with
    | none => s
    | some (b, x) => s.setBolt g b { x with st := .victim, proc := some .wring, pressQ := false })

/-- The largest RESET_COUNT of the group's sealed and free bolts. -/
def State.maxResets (s : State) (g : Nat) : Nat :=
  (s.listed g).foldl (fun m p => if p.2.st = .sealed ∨ p.2.st = .free then max m p.2.resets else m) 0

/-- The static swap's victim: the lowest RESET_COUNT. -/
def State.swapChoice (s : State) (g : Nat) : Option (Nat × Bolt) :=
  best (fun x y => decide (x.2.resets < y.2.resets) || (decide (x.2.resets = y.2.resets) && s.older g x y)) (s.takable g)

/-- The spread that starts a swap; 100 less once one has run (R325). -/
def State.swapLimit (s : State) (g : Nat) : Nat :=
  s.fld F.upkWearCfgSwapSpread - (if (s.upkG g).swapped then 100 else 0)

/-- STATIC_SWAP_START (R325). -/
def execStaticSwapStart (g : Nat) (s : State) : Host.Outcome State Fault Refusal :=
  done (s.when (s.upkeepRuns && s.fld F.upkCtlSwapEn == 1 && !(s.upkG g).urgent && !(s.upkG g).swap) fun s =>
    match s.swapChoice g with
    | none => s
    | some (b, x) =>
      if x.resets + s.swapLimit g < s.maxResets g then
        let c := s.boltClass g x
        let s := s.setBolt g b { x with st := .victim, proc := some .swap, pressQ := false }
        let s := s.setUpkG g { s.upkG g with swap := true }
        (s.bump F.upkCntSwaps 1).upkEvent Ev.upkSwapStart .swap c g b
      else s.setUpkG g { s.upkG g with swapped := false })

/-- Press's choice: the highest class, then the earliest seal (R334, R335). -/
def State.pressChoice (s : State) (g : Nat) : Option (Nat × Bolt) :=
  best (fun x y => decide (s.boltClass g y.2 < s.boltClass g x.2) ||
      (decide (s.boltClass g x.2 = s.boltClass g y.2) && s.older g x y))
    ((s.takable g).filter fun p => p.2.pressQ)

/-- PRESS_VICTIM_SELECT (R334). -/
def execPressVictimSelect (g : Nat) (s : State) : Host.Outcome State Fault Refusal :=
  done (s.when (s.upkeepRuns && !(s.upkG g).urgent && !s.hasVictim g .press) fun s =>
    match s.pressChoice g with
    | none => s
    | some (b, x) => s.setBolt g b { x with st := .victim, proc := some .press })

/-- The class of a Selvage triple (R329). -/
def State.tripleClass (s : State) (n k : Nat) : Nat :=
  classOf (s.link1 n).page.classAge (ageOf (s.ageSec (n / 16)) (s.triple k).clk)

/-- SELVAGE_REFRESH (R336): REFRESH_CLK takes the clock as the refresh starts; the rewritten lines keep their contents. -/
def execSelvageRefresh (n die triple : Nat) (s : State) : Host.Outcome State Fault Refusal :=
  let k := tripleKey n die triple
  done (s.when (s.upkeepRuns && s.dieUsable n die &&
      ((s.triple k).queued || decide (s.fld F.upkPressCfgPressClass ≤ s.tripleClass n k))) fun s =>
    let x := s.triple k
    let s := if x.queued then s
      else s.upkEvent Ev.upkPressQueued .press (s.tripleClass n k) (n / 16) (die * 8192 + 3 * triple)
    s.setTriple k { x with clk := s.ageSec (n / 16) % 2 ^ 32, queued := false })

/-! ### Bolt resets and the wear pacer (R318, R326) -/

/-- allowed(g) of R326. -/
def State.paceAllowed (s : State) (g : Nat) : Nat :=
  s.boltsPerGroup * (1000 + (s.endur g - 1100 - s.fld F.upkWearCfgSwapSpread) * (s.time.opNs / 1000000000) / 315576000)

/-- Resets of the group that have completed or run. -/
def State.resetsTaken (s : State) (g : Nat) : Nat :=
  (s.upkG g).total + ((s.listed g).filter fun p => decide (p.2.st = .resetting)).length

/-- The pacer holds the group's resets. -/
def State.paced (s : State) (g : Nat) : Bool :=
  s.fld F.upkCtlPaceEn == 1 && decide (s.paceAllowed g ≤ s.resetsTaken g)

/-- The slots that a process resets in; Wring resets what nobody took (R318). -/
def ownerClass : Option Proc → Nat
  | some .press => clsPrs
  | some .darn => clsDrn
  | _ => clsWrg

/-- The owner of an EMPTY bolt: a DEGRADED one stays Darn's. -/
def Bolt.resetter (x : Bolt) : Option Proc := if x.degraded then some .darn else x.proc

/-- RESET goes to every member; the bolt is RESETTING. -/
def State.startReset (s : State) (g b : Nat) : State :=
  let x := s.bolt g b
  let m := x.members &&& s.usable g b
  let s := s.setBolt g b { x with st := .resetting, members := m, resetOk := 0#16 }
  let s := (memberList m).foldl (fun (t : State) i => t.pushDn (16 * g + i) ⟨ownerClass x.resetter, .reset, b⟩) s
  if m = 0#16 then s.resetDone g b else s

/-- BOLT_RESET_START (R318, R326). -/
def execBoltResetStart (g b : Nat) (s : State) : Host.Outcome State Fault Refusal :=
  done (s.when (s.upkeepRuns && s.resetEligible g b) fun s =>
    if s.paced g then
      let u := s.upkG g
      let s := s.setUpkG g { u with pace := true, held := if u.held.contains b then u.held else u.held ++ [b] }
      if u.pace then s else s.upkEvent Ev.upkPaceLimited .wring 0 g b
    else s.startReset g b)

/-- The held resets start while the allowance covers them. -/
def State.resumeHeld (s : State) (g : Nat) : List Nat → State
  | [] => s.setUpkG g { s.upkG g with held := [], pace := false }
  | b :: bs =>
    if s.paced g then s.setUpkG g { s.upkG g with held := b :: bs }
    else if s.resetEligible g b then (s.startReset g b).resumeHeld g bs
    else s.resumeHeld g bs

/-- PACE_RESUME (R326). -/
def execPaceResume (g : Nat) (s : State) : Host.Outcome State Fault Refusal :=
  done (s.when (s.upkeepRuns && (s.upkG g).pace && !s.paced g) fun s => s.resumeHeld g (s.upkG g).held)

/-- RECOUNT_DONE (R319). -/
def execRecountDone (g b valid : Nat) (s : State) : Host.Outcome State Fault Refusal :=
  let x := s.bolt g b
  done (s.when (s.upkeepRuns && x.cntUnk && decide (x.st = .sealed ∨ x.st = .victim)) fun s =>
    let s := (s.setBolt g b { x with valid := valid, cntUnk := false }).bump F.upkCnt2Recounts 1
    let s := s.settleBolt g b
    s.raiseIf (!(s.upk.bolts.any fun p => p.2.cntUnk && decide (p.2.st = .sealed ∨ p.2.st = .victim))) Ev.upkRecountDone)

/-! ### Rinse (R337 to R339) -/

/-- Every count of a pass is cleared. -/
def State.clearRinse (s : State) : State :=
  { s with upk := { s.upk with
      bolts := Tab.mapVals (fun _ => Bolt.fresh) (fun _ x => { x with corr := 0, recon := false }) s.upk.bolts
      triples := Tab.mapVals (fun _ => { Triple.fresh with clk := s.upk.tripBase }) (fun _ x => { x with corr := 0, recon := false })
        s.upk.triples } }

/-- A pass begins with the period. -/
def State.startPass (s : State) : State :=
  let s := s.clearRinse
  { s with upk := { s.upk with rinse := true } }

/-- RINSE_PERIOD (R337): not while the age-unknown interval holds the period. -/
def execRinsePeriod (s : State) : Host.Outcome State Fault Refusal :=
  done (s.when (s.upkeepRuns && !s.upk.unknown) fun s =>
    let late := s.upk.rinse
    let s : State := { s with upk := { s.upk with rinseFrom := s.time.opNs } }
    if late then s.upkEvent Ev.upkRinseLate .rinse 0 0 0 else s.startPass)

/-- RINSE_NOW (R337). -/
def execRinseNow (h : Nat) (s : State) : Host.Outcome State Fault Refusal :=
  done (s.barWrite h F.upkCtlRinseNow.off fun s => s.startPass)

/-- A bolt's or triple's Rinse result asks for Press (R338). -/
def State.rinseBad (s : State) (corr : Nat) (recon : Bool) : Bool := decide (s.fld F.upkRinseCfgCorrLines ≤ corr) || recon

/-- A bolt that Rinse escalates. -/
def State.escalate (s : State) (g b : Nat) : State :=
  let c := s.boltClass g (s.bolt g b)
  ((s.queuePress g b).bump F.upkCnt2Escalations 1).upkEvent Ev.upkRinseEscalated .rinse c g b

/-- A triple that Rinse escalates. -/
def State.escalateTriple (s : State) (k : Nat) : State :=
  let x := s.triple k
  let s := s.setTriple k { x with queued := true }
  (s.bump F.upkCnt2Escalations 1).upkEvent Ev.upkRinseEscalated .rinse (s.tripleClass (k / 512) k) (k / 8192)
    (k / 32 % 16 * 8192 + 3 * (k % 32))

/-- RINSE_PASS_DONE (R337, R338): the checks of R338 are made as the pass ends. -/
def execRinsePassDone (s : State) : Host.Outcome State Fault Refusal :=
  done (s.when (s.upkeepRuns && s.upk.rinse && !s.upk.unknown) fun s =>
    let bs := (s.upk.bolts.filter fun p => decide (p.2.st = .sealed) && s.rinseBad p.2.corr p.2.recon).map fun p => p.1
    let ts := (s.upk.triples.filter fun p => s.rinseBad p.2.corr p.2.recon).map fun p => p.1
    let s := bs.foldl (fun (t : State) k => t.escalate (k / 131072) (k % 131072)) s
    let s := (ts.foldl (fun (t : State) k => t.escalateTriple k) s).clearRinse
    let s : State := { s with upk := { s.upk with rinse := false } }
    (s.bump F.upkRinseStsPasses 1).upkEvent Ev.upkRinsePassDone .rinse 0 0 0)

/-! ### Registers of the page (R347) -/

/-- UPK_CNT_CLR. -/
def execUpkCntClr (h : Nat) (s : State) : Host.Outcome State Fault Refusal :=
  done (s.barWrite h F.upkCtlCntClr.off fun s => (s.setReg F.upkCntSwaps.off 0#64).setReg F.upkCnt2Recounts.off 0#64)

/-- STATE codes of Table 9-2. -/
def boltCode : BoltSt → Nat
  | .absent => 0
  | .selvage => 1
  | .free => 2
  | .open_ => 3
  | .sealed => 4
  | .victim => 5
  | .empty => 6
  | .resetting => 7
  | .dead => 8

/-- A bolt table entry as its 128 bits (Table 9-1). -/
def Bolt.word (x : Bolt) : Nat :=
  boltCode x.st * 2 ^ 124 + x.kind % 4 * 2 ^ 122 + ofBool x.cntUnk * 2 ^ 121 + ofBool x.ageUnk * 2 ^ 120 +
    ofBool x.degraded * 2 ^ 119 + ofBool x.pressQ * 2 ^ 118 + x.saved % 16 * 2 ^ 114 + x.members.toNat * 2 ^ 98 +
    x.tt % 2 ^ 14 * 2 ^ 84 + x.valid % 2 ^ 18 * 2 ^ 66 + min x.resets (2 ^ 22 - 1) * 2 ^ 44 + x.sealClk % 2 ^ 32 * 2 ^ 12 +
    min x.corr 255 * 2 ^ 4 + min x.drift 15

/-- UPK_BOLT_HI_READ (R347): the low half is latched with it. -/
def execUpkBoltHiRead (h : Nat) (s : State) : Host.Outcome State Fault Refusal :=
  done (s.barReadGate h fun s =>
    let w := (s.bolt (s.fld F.upkBoltSelGroup) (s.fld F.upkBoltSelBlock)).word
    ({ s with upk := { s.upk with latch := BitVec.ofNat 64 w } } : State).emit (.barData h (BitVec.ofNat 64 (w / 2 ^ 64))))

/-! ### Darn's phases (R161, R341, R345) -/

/-- Dies whose Selvage copies are lost, skein by skein. -/
def State.lostDies (s : State) : List (Nat × Nat) :=
  (List.range (16 * s.popP)).flatMap fun n =>
    ((List.range s.popD).filter fun d => s.skeinRetired n || s.retiredRes (resDie n d)).map fun d => (n, d)

/-- First Selvage line of the reserve (R155). -/
def State.reserveBase (s : State) : Nat := s.jnlBase + s.ringLines + 1048576 + 262144

/-- The lost copies of a group's dies are re-created: each die has a relocation entry while 64 hold (R161). -/
def State.relocate (s : State) (g : Nat) : State :=
  let lost := s.lostDies
  let has (l : List (Nat × Nat × Nat)) (x : Nat × Nat) : Bool := l.any fun r => decide (r.1 = x.1 ∧ r.2.1 = x.2)
  let rel := (lost.filter fun x => decide (x.1 / 16 = g)).foldl
    (fun (l : List (Nat × Nat × Nat)) x =>
      if has l x || decide (64 ≤ l.length) then l else l ++ [(x.1, x.2, s.reserveBase + l.length * 2 ^ 19)]) s.map.relocs
  { s with map := { s.map with relocs := rel, single := 2 ^ 19 * (lost.filter fun x => !has rel x).length } }

/-- A bolt of the group still waits for Darn. -/
def State.darnLeft (s : State) (g : Nat) (p : Bolt → Bool) : Bool :=
  (s.listed g).any fun x => decide (x.2.st = .sealed ∨ x.2.st = .victim) && p x.2

/-- DARN_META_DONE (R341): phase 1 ends. -/
def execDarnMetaDone (g : Nat) (s : State) : Host.Outcome State Fault Refusal :=
  done (s.when (s.upkeepRuns && (s.upkG g).darn == 1 && !s.darnLeft g fun x => x.degraded && x.kind == 1) fun s =>
    let s := s.relocate g
    (s.setUpkG g { s.upkG g with darn := 2 }).upkEvent Ev.upkDarnMetaDone .darn 0 g 0)

/-- DARN_DONE (R341, R345): phase 2, or an evacuation, ends; DEGRADED mode ends with the Pick. -/
def execDarnDone (g : Nat) (s : State) : Host.Outcome State Fault Refusal :=
  let p := (s.upkG g).darn
  done (s.when (s.upkeepRuns && (p == 2 && !(s.darnLeft g fun x => x.degraded) || p == 3 && !s.darnLeft g fun _ => true)) fun s =>
    let s := if p = 3 then s.relocate g else s
    (s.setUpkG g { s.upkG g with darn := 0 }).upkEvent Ev.upkDarnDone .darn 0 g 0)

end Sys2Proof.Machine
end

