-- ==== Sys2Proof/Machine/Faults.lean ====
section
/-!
DEFINITION. The fault manager's commands: self-tests, engine take-back, known-answer checks, injection, the undo of injected
retirements, counters and the release of quarantine records (R349 to R370).
-/
namespace Sys2Proof.Machine

/-! ### Self-tests (R351 to R355) -/

/-- What a test shares its limit with: one media test and one link test a skein, one march an array and bank group (R352);
none where tests run in parallel. -/
def Res.testUnit (r : Res) : Option (Nat × Nat) :=
  match r.ty with
  | 1 | 2 | 3 => some (0, r.id / 2 ^ 17 % 128)
  | 4 => some (1, r.id / 2 ^ 17 % 128)
  | 5 => some (2, r.id / 2 ^ 16 % 256)
  | _ => none

/-- The test may start beside those that run. -/
def State.testFree (s : State) (r : Res) : Bool :=
  match r.testUnit with
  | none => true
  | some u => !s.flt.tests.any fun t => t.running && decide (t.res.testUnit = some u)

/-- The test block of part (c): the FREE bolt with the lowest RESET_COUNT on the die goes EMPTY, reset-eligible at once, when
its group has more than 16 FREE bolts (R354, Table 10-3). -/
def State.takeTestBlock (s : State) (r : Res) : State :=
  let n := r.id / 2 ^ 17 % 128
  let g := n / 16
  let die := if r.ty = 1 then r.id % 2 ^ 17 / 8192 else r.id / 2 ^ 13 % 16
  if s.freeBolts g ≤ 16 then s
  else
    match pickBolt false ((s.freeList g).filter fun p => decide (p.1 / 8192 = die)) with
    | none => s
    | some (b, _) => (s.setBolt g b { s.bolt g b with st := .empty, mark := 0, valid := 0 }).freeLevels g

/-- The ply group whose engine a test holds in reset. -/
def Res.testEngine (r : Res) : Option Nat :=
  match r.ty with
  | 7 => some (r.id / 2 ^ 16 % 8)
  | 8 => some (r.id / 2 ^ 16 % 8)
  | _ => none

/-- The engine is held for its test, its partner serving (R358). -/
def State.holdEngine (s : State) (g : Nat) : State :=
  let s := s.setGroup g { s.group g with taken := true }
  ({ s with flt := { s.flt with engHeld := s.flt.engHeld ||| (1#8 <<< g) } } : State).takeover g

/-- What the start of a test does. -/
def State.startTest (s : State) (t : TestRec) : State :=
  let s : State := { s with flt := { s.flt with
    tests := s.flt.tests.map fun x => if x.res = t.res then { x with running := true, since := s.time.upNs } else x } }
  let s := match t.res.testEngine with
    | some g => s.holdEngine g
    | none => s
  if (t.res.ty = 1 ∨ t.res.ty = 2 ∨ t.res.ty = 3) ∧ t.why ≠ 2 then s.takeTestBlock t.res else s

/-- A resource that waits for queue space is queued (R352). -/
def State.unspill (s : State) : State :=
  match s.flt.spill with
  | [] => s
  | r :: rs => ({ s with flt := { s.flt with spill := rs } } : State).queueTest r 0 0

/-- TEST_START (R352): the first queued test whose limits allow it. -/
def execTestStart (s : State) : Host.Outcome State Fault Refusal :=
  done (s.when s.pwr.coreOn fun s =>
    match s.flt.tests.find? fun t => !t.running && s.testFree t.res with
    | none => s
    | some t => (s.startTest t).unspill)

/-- The part of a failing test that FLT_ERR_INFO names: the first that failed, for a media test. -/
def failPart (r : Res) (parts : Nat) : Nat :=
  if r.ty = 1 ∨ r.ty = 2 then (if parts % 2 = 1 then 1 else if parts / 2 % 2 = 1 then 2 else 3) else 0

/-- The unit that a failed test retires (R355): only part (a) the block, part (b) or (c) the die. -/
def failUnit (t : TestRec) (parts : Nat) : Res :=
  let n := t.res.id / 2 ^ 17 % 128
  let die := if t.res.ty = 1 then t.res.id % 2 ^ 17 / 8192 else t.res.id / 2 ^ 13 % 16
  if (t.res.ty = 1 ∨ t.res.ty = 2) ∧ t.why ≠ 2 then
    (if parts = 1 then resBlock n t.block else resDie n die)
  else t.res

/-- A STICKY injection makes the tested resource itself fail (R368). -/
def TestRec.failing (t : TestRec) (parts : Nat) : Nat :=
  if t.sticky then (if t.res.ty = 1 then 1 else 2) else parts

/-- A test fails: its errors are permanent and the unit is retired. -/
def State.testFailed (s : State) (t : TestRec) (parts : Nat) : State :=
  let s := (s.bump F.fltCnt2Permanent (t.errors - 1)).setFld F.fltTestStsResult 2
  let s := s.raiseN Ev.fltTestFail (t.res.ty * 2 ^ 36 + failPart t.res parts * 2 ^ 32) t.res.id
  s.retire (failUnit t parts) 1 t.sticky

/-- The retried reset of a block completed OK (R354). -/
def State.resetRetried (s : State) (n b : Nat) : State :=
  let g := n / 16
  let x := s.bolt g b
  if x.st = .resetting then (s.setBolt g b { x with resetOk := x.resetOk ||| (1#16 <<< (n % 16)) }).resetDone g b else s

/-- A pipeline whose engine passed its test is in use again. -/
def State.pipelineBack (s : State) (r : Res) : State :=
  { s with flt := { s.flt with aesOut := Tab.set (fun _ => false) s.flt.aesOut (8 * (r.id / 2 ^ 16 % 8) + r.id % 8) false } }

/-- A test passes: its errors are transient, each counted against the thresholds of Table 10-4. -/
def State.testPassed (s : State) (t : TestRec) : State :=
  let s := (s.bump F.fltCnt2Transient t.errors).setFld F.fltTestStsResult 1
  let s := s.raiseN Ev.fltTestPass (t.res.ty * 2 ^ 36) t.res.id
  let s := if t.why = 2 then s.resetRetried (t.res.id / 2 ^ 17 % 128) (t.res.id % 2 ^ 17) else s
  let s := if t.res.ty = 7 then s.pipelineBack t.res else s
  if t.why = 3 then s else (List.range t.errors).foldl (fun (u : State) _ => u.countThresh t.res 0) s

/-- The engine is no longer held. -/
def State.freeEngine (s : State) (r : Res) : State :=
  match r.testEngine with
  | some g => { s with flt := { s.flt with engHeld := s.flt.engHeld &&& ~~~(1#8 <<< g) } }
  | none => s

/-- The outcome of a running test. -/
def State.testEnd (s : State) (t : TestRec) (parts : Nat) : State :=
  let us := (s.time.upNs - t.since) / 1000
  let s : State := { s with flt := { s.flt with tests := s.flt.tests.filter (fun x => !decide (x.res = t.res)), hit := s.flt.hit.filter fun r => !decide (r = t.res) } }
  let s := ((s.setFld F.fltTestStsDurationUs (min (2 ^ 32 - 1) us)).setFld F.fltTestStsType t.res.ty).freeEngine t.res
  if t.failing parts = 0 then s.testPassed t else s.testFailed t (t.failing parts)

/-- TEST_DONE (R351, R355): bit 0 of `parts` says that part (a) failed, bit 1 part (b), bit 2 part (c); of a test without
parts, any bit says that it failed. -/
def execTestDone (type res parts : Nat) (s : State) : Host.Outcome State Fault Refusal :=
  done (s.when s.pwr.coreOn fun s =>
    match s.flt.tests.find? fun t => t.running && decide (t.res = ⟨type, res⟩) with
    | none => s
    | some t => (s.testEnd t parts).unspill)

/-- ENGINE_TAKEBACK (R358): an armed island fault strikes again once the engine serves. -/
def execEngineTakeback (g : Nat) (s : State) : Host.Outcome State Fault Refusal :=
  done (s.when (s.pwr.coreOn && s.flt.takeover.getLsbD g && !s.flt.engRetired.getLsbD g && !s.flt.engHeld.getLsbD g &&
      !(s.flt.tests.any fun t => decide (t.res.testEngine = some g))) fun s =>
    let s := s.setGroup g { s.group g with taken := false, islandReset := false }
    let s : State := { s with flt := { s.flt with takeover := s.flt.takeover &&& ~~~(1#8 <<< g) } }
    if s.injOn 12 (resEngine g) then s.injFire.islandFault g else s)

/-- AES_KAT (R350): a mismatch takes the pipeline out of use and is reported. -/
def execAesKat (g p : Nat) (ok : Bool) (s : State) : Host.Outcome State Fault Refusal :=
  done (s.when (s.pwr.coreOn && decide (g < s.popP) && !Tab.get (fun _ => false) s.flt.aesOut (8 * g + p)) fun s =>
    if ok then s
    else
      let s : State := { s with flt := { s.flt with aesOut := Tab.set (fun _ => false) s.flt.aesOut (8 * g + p) true } }
      s.report (resAes g p) .logic 0)

/-- TEST_REQUEST (R369): the named resource joins the queue with no error of its own; an invalid type queues nothing. -/
def execTestRequest (h type res : Nat) (s : State) : Host.Outcome State Fault Refusal :=
  done (s.barWrite h F.fltTestSelGo.off fun s =>
    let s := (s.setFld F.fltTestSelType type).setFld F.fltTestSelRes res
    let r : Res := ⟨type, res⟩
    if type = 0 ∨ 8 < type ∨ s.flt.tests.any (fun t => decide (t.res = r)) then s
    else if (s.flt.tests.filter fun t => !t.running).length < 256 then
      { s with flt := { s.flt with tests := s.flt.tests ++ [⟨r, false, 0, res % 2 ^ 17, 0, s.stickyOn r, s.time.upNs⟩] } }
    else { s with flt := { s.flt with spill := s.flt.spill ++ [r] } })

/-! ### Undo, counters, injection (R365, R367 to R370) -/

/-- The list with its entry `i` changed. -/
def changeAt {α : Type} (f : α → α) : Nat → List α → List α
  | _, [] => []
  | 0, x :: xs => f x :: xs
  | i + 1, x :: xs => x :: changeAt f i xs

/-- FLT_UNDO (R368): an entry that is not INJECTED is left alone. -/
def execFltUndo (h : Nat) (s : State) : Host.Outcome State Fault Refusal :=
  done (s.barWrite h F.fltCtlUndo.off fun s =>
    { s with flt := { s.flt with
        ret := changeAt (fun e => if e.injected then { e with undo := true } else e) (s.fld F.fltRetSelIndex) s.flt.ret } })

/-- FLT_CNT_CLR (R369, R370): the spares in use and the retired mark of a queue are no counters. -/
def execFltCntClr (h : Nat) (s : State) : Host.Outcome State Fault Refusal :=
  done (s.barWrite h F.fltCtlCntClr.off fun s =>
    let s := ((s.setReg F.fltCnt0Link.off 0#64).setReg F.fltCnt1Logic.off 0#64).setReg F.fltCnt2ReqTimeouts.off 0#64
    { s with flt := { s.flt with
        queues := Tab.mapVals (fun _ => QCnt.fresh) (fun _ q => { q with parity := 0, replays := 0, propagated := 0 }) s.flt.queues } })

/-- INJ_EN_WRITE (R367): a 1 is ignored while INJ_ALLOWED is 0. -/
def execInjEnWrite (h : Nat) (value : Bool) (s : State) : Host.Outcome State Fault Refusal :=
  done (s.barWrite h F.fltCtlInjEn.off fun s =>
    if value && !s.flt.injAllowed then s else s.setFld F.fltCtlInjEn (ofBool value))

/-- Target type of an injection kind (Table 10-9). -/
def injTarget (kind : Nat) : Nat :=
  match kind with
  | 1 | 2 | 3 | 4 => 2
  | 5 | 6 => 1
  | 7 | 8 => 4
  | 9 | 10 => 5
  | 11 => 6
  | 12 => 8
  | 13 => 3
  | _ => 0

/-- A write of ARM is taken (R367). -/
def State.armable (s : State) (kind : Nat) (haltOk : Bool) : Bool :=
  s.fld F.fltCtlInjEn == 1 && s.flt.injAllowed && decide (1 ≤ kind ∧ kind ≤ 13 ∧ s.fld F.fltInjTgtType = injTarget kind) &&
    (kind != 4 || haltOk)

/-- INJ_ARM (R367): an island voltage fault, which waits for nothing, strikes at once. -/
def execInjArm (h kind count : Nat) (sticky haltOk : Bool) (s : State) : Host.Outcome State Fault Refusal :=
  done (s.barWrite h F.fltInjCtlArm.off fun s =>
    let s := (((s.setFld F.fltInjCtlCount count).setFld F.fltInjCtlKind kind).setFld F.fltInjCtlHaltOk (ofBool haltOk)).setFld
      F.fltInjCtlSticky (ofBool sticky)
    if s.armable kind haltOk then
      let r : Res := ⟨s.fld F.fltInjTgtType, s.fld F.fltInjTgtRes⟩
      let s : State := { s with flt := { s.flt with inj := some ⟨kind, max 1 count, sticky, r, s.fld F.fltInjAddrAddr⟩ } }
      let g := r.id / 2 ^ 16 % 8
      if kind = 12 ∧ g < s.popP ∧ !s.flt.engHeld.getLsbD g ∧ !s.flt.engRetired.getLsbD g then
        s.injFire.islandFault g
      else s
    else s)

/-- INJ_DISARM (R367). -/
def execInjDisarm (h : Nat) (s : State) : Host.Outcome State Fault Refusal :=
  done (s.barWrite h F.fltInjCtlArm.off fun s => { s with flt := { s.flt with inj := none } })

/-- QUARANTINE_RELEASE (R365). -/
def execQuarantineRelease (h n : Nat) (s : State) : Host.Outcome State Fault Refusal :=
  done (s.barWrite h F.fltQuarCtlRelease.off fun s =>
    let left := s.flt.quar.drop n
    { s with flt := { s.flt with quar := left, quarHigh := s.flt.quarHigh && decide (3 * 262143 ≤ 4 * left.length) } })

end Sys2Proof.Machine
end

