-- ==== Sys2Proof/Machine/Hosts.lean ====
section
/-!
DEFINITION. The heads: fundamental reset and bring-up, link training, loss and recovery, head resets, D3hot, the commands of
HST_CTL, correctable errors, CXL IDE, and the commit of HDM decoders (R37 to R48, R82 to R88).
-/
namespace Sys2Proof.Machine

/-! ### What a head's requests become when its link goes down (R84) -/

/-- A request of the head that cannot be answered any more. -/
def Req.orphan (h : Nat) (r : Req) : Req := if r.h = h then { r with tag := noTag } else r

/-- Of a waiting list, the head's writes stay to be carried out and its reads are dropped. -/
def orphans (h : Nat) (l : List Req) : List Req :=
  (l.filter fun r => !(r.h == h && !r.wr)).map (Req.orphan h)

def Mshr.orphan (h : Nat) (m : Mshr) : Mshr := { m with reqs := orphans h m.reqs, again := orphans h m.again }

def Handed.orphan (h : Nat) (x : Handed) : Handed :=
  match x.ack with
  | some (k, _) => if k = h then { x with ack := some (h, noTag) } else x
  | none => x

/-- A packet of the head that a queue still holds marked: it was not fully received, so it never happens. -/
def QPkt.ofHead (h : Nat) (p : QPkt) : Bool :=
  match p.pkt with
  | .hostWrite k _ _ _ => k == h
  | .readData k _ _ => k == h
  | .header k _ => k == h
  | .lineHandoff _ => false

/-- The requests of a head whose link went down. -/
def State.dropHead (s : State) (h : Nat) : State :=
  { s with
    fch := { s.fch with
      mshr := s.fch.mshr.map (Mshr.orphan h), missWait := orphans h s.fch.missWait,
      dirtyWait := orphans h s.fch.dirtyWait, evictWait := orphans h s.fch.evictWait }
    epo := { s.epo with epochWait := orphans h s.epo.epochWait }
    wp := { s.wp with handed := s.wp.handed.map (Handed.orphan h) }
    xq := s.xq.filter fun p => !p.ofHead h }

/-- LINK_DOWN of a head, and its count. -/
def State.linkDownEvent (s : State) (h : Nat) : State := (s.bump (F.hstLinkerrDownCount h) 1).raise (Ev.hstLinkDown h)

/-- The head has a link up. -/
def State.headUp (s : State) (h : Nat) : Bool :=
  (s.head h).link == .active || (s.head h).link == .recovery || (s.head h).link == .d3

/-- The link of a head leaves L0 for `to`. -/
def State.loseLink (s : State) (h : Nat) (st : LinkState) : State :=
  let up := s.headUp h
  let s := s.setHead h { s.head h with link := st, width := 0, speed := 0, reversed := false, polarity := 0 }
  if up then (s.dropHead h).linkDownEvent h else s

/-- Where a head's LTSSM goes when nothing holds it: Detect, or off under PERST or with its port cores off. -/
def State.restLink (s : State) (h : Nat) : LinkState :=
  if (s.head h).perst || s.fld (F.hstCtlDisable h) == 1 then .off else .detect

/-- The state that a conventional or hot reset of one head resets: configuration space, decoders, IDE streams, mailbox, event
logs and MSI-X (R86). -/
def Head.reset (x : Head) : Head :=
  { Head.fresh with
    perst := x.perst, link := x.link, width := x.width, speed := x.speed, reversed := x.reversed, polarity := x.polarity,
    attemptDown := x.attemptDown, inactiveErr := x.inactiveErr, corrWin := x.corrWin, corrStart := x.corrStart,
    corrDone := x.corrDone, latch := x.latch, cdatSeq := x.cdatSeq, waited := x.waited, severe := x.severe }

/-- A conventional, hot or fundamental reset of one head; a background operation it started goes on. -/
def State.resetHead (s : State) (h : Nat) : State :=
  let s := s.loseLink h (s.restLink h)
  s.setHead h (s.head h).reset

/-! ### PERST, training, loss (R37 to R41, R84, R88) -/

/-- HST_PERST_DEASSERT (Sequence 2-1): the LTSSM enters Detect once the core runs. -/
def execHstPerstDeassert (h : Nat) (s : State) : Host.Outcome State Fault Refusal :=
  done (s.when (s.present h && (s.head h).perst) fun s =>
    let s := s.setHead h { s.head h with perst := false }
    if s.pwr.coreOn then s.setHead h { s.head h with link := s.restLink h } else s)

/-- HST_PERST_ASSERT (R86): a fundamental reset of that head only. -/
def execHstPerstAssert (h : Nat) (s : State) : Host.Outcome State Fault Refusal :=
  done (s.when (s.present h && !(s.head h).perst) fun s =>
    (s.setHead h { s.head h with perst := true }).resetHead h)

/-- MAX_SPEED of a head; values other than 1 to 3 act as 4 (Table 2-14). -/
def State.maxSpeed (s : State) (h : Nat) : Nat :=
  let v := s.fld (F.hstCtlMaxSpeed h)
  if 1 ≤ v ∧ v ≤ 4 then v else 4

/-- Lanes of a head (Table 2-1). -/
def State.lanes (s : State) : Nat := if s.host.hbif then 8 else 16

/-- The head may train: not held by PERST, by DISABLE or by an insecure IDE stream (R38, R83). -/
def State.mayTrain (s : State) (h : Nat) : Bool :=
  s.pwr.coreOn && s.present h && !(s.head h).perst && s.fld (F.hstCtlDisable h) == 0 && !(s.head h).ideInsecure &&
    ((s.head h).link == .detect || (s.head h).link == .training || (s.head h).link == .recovery)

/-- HEAD_LINK_TRAINED (R39, R41): speed 1 is 8 GT/s, 4 is 64 GT/s; no more than MAX_SPEED and the head's lanes allow. -/
def execHeadLinkTrained (h speed width : Nat) (reversed : Bool) (polarity : BitVec 16) (s : State) :
    Host.Outcome State Fault Refusal :=
  done (s.when (s.mayTrain h) fun s =>
    let v := min speed (s.maxSpeed h)
    let w := min width s.lanes
    let s := s.setHead h { s.head h with
      link := .active, speed := v, width := w, reversed := reversed, polarity := polarity.toNat, attemptDown := false }
    s.raiseIf (decide (v < s.maxSpeed h ∨ w < s.lanes)) (Ev.hstLinkDegraded h))

/-- HEAD_TRAINING_FAILED (R40): one LINK_DOWN for each attempt sequence. -/
def execHeadTrainingFailed (h : Nat) (s : State) : Host.Outcome State Fault Refusal :=
  done (s.when (s.mayTrain h && (s.head h).link != .recovery) fun s =>
    let first := !(s.head h).attemptDown
    let s := s.setHead h { s.head h with link := .training, attemptDown := true }
    if first then s.linkDownEvent h else s)

/-- HEAD_LINK_DOWN (R84). -/
def execHeadLinkDown (h : Nat) (s : State) : Host.Outcome State Fault Refusal :=
  done (s.when (s.pwr.coreOn && s.present h && s.headUp h) fun s => s.loseLink h (s.restLink h))

/-- HEAD_LINK_RECOVERY (Table 2-19): entry from L0, counted, and the return to it. -/
def execHeadLinkRecovery (h : Nat) (s : State) : Host.Outcome State Fault Refusal :=
  done (s.when (s.pwr.coreOn && s.present h && ((s.head h).link == .active || (s.head h).link == .recovery)) fun s =>
    if (s.head h).link = .active then
      (s.setHead h { s.head h with link := .recovery }).bump (F.hstLinkerrRecoveryCount h) 1
    else s.setHead h { s.head h with link := .active })

/-! ### Head resets and D3hot (R86, R87) -/

/-- HEAD_CONVENTIONAL_RESET (R86). -/
def execHeadConventionalReset (h : Nat) (s : State) : Host.Outcome State Fault Refusal :=
  done (s.when (s.pwr.coreOn && s.present h) fun s => s.resetHead h)

/-- HEAD_HOT_RESET (R86): it comes over the link. -/
def execHeadHotReset (h : Nat) (s : State) : Host.Outcome State Fault Refusal :=
  done (s.when (s.pwr.coreOn && s.present h && s.headUp h) fun s => s.resetHead h)

/-- What FLR resets of a head: the function's configuration and MSI-X state, back in D0; CXL.mem state stays. -/
def Head.flr (x : Head) : Head :=
  { x with msixOn := false, msixMask := BitVec.allOnes 64, msixPend := 0#64, msixLast := [],
           link := if x.link = .d3 then .active else x.link }

/-- HEAD_FLR (R86). -/
def execHeadFlr (h : Nat) (s : State) : Host.Outcome State Fault Refusal :=
  done (s.when (s.pwr.coreOn && s.present h && s.headUp h) fun s => s.setHead h (s.head h).flr)

/-- D3HOT_ENTRY (R87). -/
def execD3hotEntry (h : Nat) (s : State) : Host.Outcome State Fault Refusal :=
  done (s.when (s.pwr.coreOn && s.present h && (s.head h).link == .active) fun s =>
    s.setHead h { s.head h with link := .d3 })

/-- D0_RETURN (R87). -/
def execD0Return (h : Nat) (s : State) : Host.Outcome State Fault Refusal :=
  done (s.when (s.pwr.coreOn && s.present h && (s.head h).link == .d3) fun s =>
    s.setHead h { s.head h with link := .active })

/-! ### HST_CTL (R38, R41, R45) -/

/-- A write of HST_CTL of head `target`; the page of an absent head discards it (R38). -/
def State.hstCtl (s : State) (h target : Nat) (k : State → State) : State :=
  s.barWrite h (0x10010 + target * 0x1000) fun s => if s.present target then k s else s

/-- HEAD_DISABLE (R38). -/
def execHeadDisable (h target : Nat) (value : Bool) (s : State) : Host.Outcome State Fault Refusal :=
  done (s.hstCtl h target fun s =>
    let was := s.fld (F.hstCtlDisable target) == 1
    let s := s.setFld (F.hstCtlDisable target) (ofBool value)
    if value then s.loseLink target .off
    else if was then s.setHead target { s.head target with link := s.restLink target } else s)

/-- HEAD_RETRAIN (R41): the link leaves L0 for Recovery and trains again. -/
def execHeadRetrain (h target : Nat) (s : State) : Host.Outcome State Fault Refusal :=
  done (s.hstCtl h target fun s =>
    if (s.head target).link = .active then
      (s.setHead target { s.head target with link := .recovery }).bump (F.hstLinkerrRecoveryCount target) 1
    else s)

/-- HEAD_CNT_CLR (Table 2-14). -/
def execHeadCntClr (h target : Nat) (s : State) : Host.Outcome State Fault Refusal :=
  done (s.hstCtl h target fun s =>
    (s.setReg (F.hstLinkerrCorrCount target).off 0#64).setReg (F.hstExterrCntOutsideExtent target).off 0#64)

/-- RO_MGMT_WRITE (R45): a write of 0 from the head itself is ignored. -/
def execRoMgmtWrite (h target : Nat) (value : Bool) (s : State) : Host.Outcome State Fault Refusal :=
  done (s.hstCtl h target fun s =>
    if !value && target == h then s else s.setFld (F.hstCtlRoMgmt target) (ofBool value))

/-! ### Correctable errors and IDE (R82, R83, Table 2-19) -/

/-- HEAD_CORRECTABLE_ERROR: CORR_THRESH once for each window of one second. -/
def execHeadCorrectableError (h : Nat) (s : State) : Host.Outcome State Fault Refusal :=
  done (s.when (s.pwr.coreOn && s.present h) fun s =>
    let s := s.bump (F.hstLinkerrCorrCount h) 1
    let x := s.head h
    let fresh := decide (x.corrWin = 0 ∨ x.corrStart + 1000000000 ≤ s.time.upNs)
    let x : Head := if fresh then { x with corrWin := 1, corrStart := s.time.upNs, corrDone := false }
      else { x with corrWin := x.corrWin + 1 }
    let past := decide (s.fld (F.hstLinkerrCfgCorrThresh h) < x.corrWin) && !x.corrDone
    (s.setHead h { x with corrDone := x.corrDone || past }).raiseIf past (Ev.hstCorrThresh h))

/-- IDE_INTEGRITY_FAIL (R83): the requests of the failing MAC epoch that no response has answered are discarded with the link. -/
def execIdeIntegrityFail (h : Nat) (s : State) : Host.Outcome State Fault Refusal :=
  let x := s.head h
  done (s.when (s.pwr.coreOn && s.present h && s.headUp h && (decide (x.ideMode ≠ 0) || x.ioLink || x.ioSel)) fun s =>
    let s := s.setHead h { s.head h with ideInsecure := true }
    let s := (s.bump (F.hstIdeFailCount h) 1).raise (Ev.hstIdeFail h)
    s.loseLink h .detect)

/-- The stream's keys are in force. -/
def Head.program (x : Head) (stream : IdeStream) (mode : Nat) : Head :=
  match stream with
  | .mem => { x with ideMode := mode, ideKeys := true, ideInsecure := false }
  | .ioLink => { x with ioLink := true, ideInsecure := false }
  | .ioSel => { x with ioSel := true, ideInsecure := false }

/-- IDE_KEY_PROGRAM (R82, R83): in a secured session of the same head; mode 1 is skid, 2 containment. -/
def execIdeKeyProgram (h session : Nat) (stream : IdeStream) (mode : Nat) (s : State) : Host.Outcome State Fault Refusal :=
  done (s.when (s.pwr.coreOn && s.present h) fun s =>
    if s.fwu.sessions.any fun x => x.id == session && x.port == h then s.setHead h ((s.head h).program stream mode)
    else s.emit .notAccepted)

/-! ### HDM decoders (R48) -/

def okWays (w : Nat) : Bool := w == 1 || w == 2 || w == 4 || w == 8 || w == 16
def okGran (g : Nat) : Bool :=
  g == 256 || g == 512 || g == 1024 || g == 2048 || g == 4096 || g == 8192 || g == 16384

/-- HDM_DECODER_COMMIT (R48): a locked decoder keeps its values. -/
def execHdmDecoderCommit (h i : Nat) (base size : BitVec 64) (ways gran : Nat) (dpaBase skip : BitVec 64) (lock : Bool)
    (s : State) : Host.Outcome State Fault Refusal :=
  let s := s.begin
  if !s.ioUp h then done (s.emit .notAccepted)
  else
    let x := s.head h
    let d := s.decoder h i
    let good := okWays ways && okGran gran
    let new : Decoder :=
      if good then ⟨true, false, lock, base.toNat, size.toNat, ways, gran, dpaBase.toNat, skip.toNat⟩
      else { d with committed := false, err := true }
    if d.committed ∧ d.lock then done s
    else done (s.setHead h { x with decoders := Tab.set (fun _ => Decoder.none) x.decoders i new })

end Sys2Proof.Machine
end

