-- ==== Sys2Proof/Machine/Mailbox.lean ====
section
/-!
DEFINITION. The mailbox commands that no other chapter owns: identity, limits, logs, features, partitions, shutdown state, the
poison list and Scan Media, Sanitize and Secure Erase, QoS, domain extents and head status (R53, R65 to R79, R173, R174,
R250 to R255, R400, R510).
-/
namespace Sys2Proof.Machine

/-! ### Identity, limits, background operations (R43, R68, R70, R71) -/

/-- IDENTIFY (R43, R71): vendor, device, subsystem vendor, subsystem, serial, the payload size as a power of two, and the CXL
component type 3. -/
def execIdentify (h : Nat) (s : State) : Host.Outcome State Fault Refusal :=
  done (s.mailbox h fun s =>
    s.answerMbox h .success
      [0x2E51, 0x0128, s.host.subsystem.1, s.host.subsystem.2, Config.serial.toNat, 16, 3])

/-- Opcode of a background operation. -/
def bgOpcode : BgKind → Nat
  | .scan => 0x4304
  | .sanitize => 0x4400
  | .secureErase => 0x4401
  | .shrink => 0xC001
  | .transferFw => 0x0201

/-- BACKGROUND_OPERATION_STATUS (R70): running, opcode, return code, percentage. The percentage of a running operation is free. -/
def execBackgroundOperationStatus (h : Nat) (s : State) : Host.Outcome State Fault Refusal :=
  done (s.mailbox h fun s =>
    match s.host.bg with
    | some (k, _) =>
      let v := s.draw
      (v.1).answerMbox h .success [1, bgOpcode k, 0, v.2.toNat % 100]
    | none =>
      match s.host.bgLast with
      | some (k, _, rc) => s.answerMbox h .success [0, bgOpcode k, rc.code, 100]
      | none => s.answerMbox h .success [0, 0, 0, 0])

/-- GET_RESPONSE_MESSAGE_LIMIT (R71): the limit as a power of two. -/
def execGetResponseMessageLimit (h : Nat) (s : State) : Host.Outcome State Fault Refusal :=
  done (s.mailbox h fun s => s.answerMbox h .success [(s.head h).rspLimit])

/-- SET_RESPONSE_MESSAGE_LIMIT (R68, R77): 2^8 to 2^16 bytes, for its own mailbox. -/
def execSetResponseMessageLimit (h limit : Nat) (s : State) : Host.Outcome State Fault Refusal :=
  done (s.mailbox h fun s =>
    if limit < 8 ∨ 16 < limit then s.answerMbox h .invalidInput []
    else (s.setHead h { s.head h with rspLimit := limit }).answerMbox h .success [limit])

/-! ### Logs (R71, R363, R365, R510) -/

/-- Opcodes of Tables 2-9 and 2-11. -/
def opcodes : List Nat :=
  [0x0001, 0x0002, 0x0003, 0x0004, 0x0100, 0x0101, 0x0102, 0x0103, 0x0200, 0x0201, 0x0202, 0x0300, 0x0301] ++
    [0x0400, 0x0401, 0x0402, 0x0403, 0x0500, 0x0501, 0x0502, 0x4000, 0x4100, 0x4101, 0x4102, 0x4103] ++
    [0x4200, 0x4201, 0x4202, 0x4203, 0x4204, 0x4300, 0x4301, 0x4302, 0x4303, 0x4304, 0x4305, 0x4400, 0x4401] ++
    [0x4700, 0x4701, 0x4702, 0xC000, 0xC001, 0xC002, 0xC003, 0xC010, 0xC011, 0xC012, 0xC013, 0xC020, 0xC021, 0xC022] ++
    [0xC030, 0xC031, 0xC032, 0xC040, 0xC041, 0xC050]

/-- The Command Effects Log: opcode and effects of each command, 2 bytes each. -/
def celBytes : Bytes := opcodes.flatMap fun o => leBytes 2 o ++ leBytes 2 (Config.celEffect o).toNat

/-- The flags byte of Table 15-8. -/
def State.healthFlags (s : State) : Nat :=
  ofBool ((List.range 8).any fun g => (s.upkG g).darn != 0) + 2 * ofBool s.upk.unknown +
    4 * ofBool ((List.range 128).any fun n => s.live n && decide ((s.warp1 n).fs < 128)) +
    8 * ofBool (s.cry.deviceHalt || s.cry.doms.any fun p => p.2.halted) + 16 * ofBool ((List.range 8).any fun g => (s.upkG g).pace)

/-- Sixteen bins of a histogram. -/
def binBytes (t : Tab Nat) : Bytes := (List.range 16).flatMap fun i => leBytes 4 (min (2 ^ 32 - 1) (Tab.get (fun _ => 0) t i))

/-- Bytes 0 to 63 of the Health Detail log (Table 15-8). -/
def State.healthHead (s : State) : Bytes :=
  leBytes 2 1 ++ leBytes 1 s.sparePct ++ leBytes 1 (min 255 s.wearMax) ++ leBytes 1 s.wearMean ++ leBytes 1 s.healthFlags ++
    leBytes 2 0 ++ leBytes 8 (s.ctrVal 4 / 1000) ++ leBytes 4 (s.ctrVal 0) ++ leBytes 4 (s.ctrVal 2) ++
    leBytes 4 (s.fld F.fltCnt0Media) ++ leBytes 4 (s.fld F.fltCnt0Link) ++ leBytes 4 (s.fld F.fltCnt1Sram) ++
    leBytes 2 (s.fld F.fltCnt1Queue) ++ leBytes 2 (s.fld F.fltCnt1Logic) ++ leBytes 4 (s.fld F.fltCnt2Transient) ++
    leBytes 2 (s.fld F.fltCnt2Permanent) ++ leBytes 2 (s.fld F.fltCnt2ReqTimeouts) ++ leBytes 4 s.flt.ret.length ++
    leBytes 4 (min (2 ^ 32 - 1) s.map.lostLines) ++ leBytes 2 (s.ctrVal 32) ++ List.replicate 6 0#8

/-- The Health Detail log (R510). -/
def State.healthLog (s : State) : Bytes :=
  s.healthHead ++ binBytes s.thm.hDie ++ binBytes s.thm.hMedia ++ leBytes 2 s.thm.max.die ++ leBytes 2 s.thm.max.media ++
    leBytes 4 s.thm.max.dieHours ++ List.replicate 56 0#8

/-- Bytes 0 to 59 of a quarantine record (Table 10-7). -/
def QuarRec.head (r : QuarRec) : Bytes :=
  leBytes 2 1 ++ leBytes 1 1 ++ leBytes 1 (ofBool r.domScope + 2 * ofBool r.poisoned) ++ leBytes 5 (r.line % 2 ^ 38) ++
    leBytes 1 r.dom ++ leBytes 1 r.sectors.toNat ++ leBytes 1 0 ++ leBytes 6 r.seq ++ leBytes 1 (r.kgen % 2) ++ leBytes 1 0 ++
    leBytes 8 r.jsn ++ leBytes 8 r.time ++ leBytes 4 r.no ++ leBytes 8 r.tag.toNat ++ List.replicate 12 0#8

/-- The 256 bytes of a quarantine record with its CRC-32C. -/
def QuarRec.bytes (r : QuarRec) : Bytes :=
  let data := r.slots.flatMap fun v => leBytes 64 v.toNat
  r.head ++ leBytes 4 (crc32c (r.head ++ data)) ++ data

/-- The bytes of a log; none for one the device does not have. -/
def State.logBytes (s : State) : LogId → Option Bytes
  | .cel => some celBytes
  | .healthDetail => some s.healthLog
  | .quarantine => some (s.flt.quar.flatMap QuarRec.bytes)
  | .other => none

/-- UUIDs: the Command Effects Log's is CXL's, the vendor logs' are those of R365 and R510. -/
def celUuid : Nat := 0x0da9c0b5bf414b788f7996b1623b3f17
def healthUuid : Nat := 0x5d0e8a731c4b4f299b6e02a4c7d13f58
def quarUuid : Nat := 0xa7c31f045e924b6d8d103f62e9b0c415

/-- GET_SUPPORTED_LOGS (R71): each log's UUID and size in bytes. -/
def execGetSupportedLogs (h : Nat) (s : State) : Host.Outcome State Fault Refusal :=
  done (s.mailbox h fun s =>
    s.answerMbox h .success
      [3, celUuid, 4 * opcodes.length, healthUuid, 256, quarUuid, 256 * s.flt.quar.length])

/-- GET_LOG (R71, R365, R510). -/
def execGetLog (h : Nat) (log : LogId) (off len : Nat) (s : State) : Host.Outcome State Fault Refusal :=
  done (s.mailbox h fun s =>
    match s.logBytes log with
    | none => s.answerMbox h .invalidInput []
    | some b =>
      if b.length < off + len then s.answerMbox h .invalidInput []
      else s.answerMbox h .success (((b.drop off).take len).map BitVec.toNat))

/-- GET_LOG_CAPABILITIES (R71): no log can be cleared or populated by command. -/
def execGetLogCapabilities (h : Nat) (log : LogId) (s : State) : Host.Outcome State Fault Refusal :=
  done (s.mailbox h fun s =>
    match log with
    | .other => s.answerMbox h .invalidInput []
    | .cel | .healthDetail | .quarantine => s.answerMbox h .success [0])

/-- CLEAR_LOG (R71): the effects log is fixed, Health Detail is built when it is read (R510), and a quarantine record stays
until FLT_QUAR_CTL releases it (R364): no log can be cleared. -/
def execClearLog (h : Nat) (_log : LogId) (s : State) : Host.Outcome State Fault Refusal :=
  done (s.mailbox h fun s => s.answerMbox h .invalidInput [])

/-! ### Features (R71, R337) -/

/-- UUID of CXL's Patrol Scrub Control feature. -/
def scrubUuid : Nat := 0x96dad7d6fde8482ba73375774e06db8a

/-- GET_SUPPORTED_FEATURES (R71). -/
def execGetSupportedFeatures (h : Nat) (s : State) : Host.Outcome State Fault Refusal :=
  done (s.mailbox h fun s => s.answerMbox h .success [1, scrubUuid])

/-- GET_FEATURE (R337): feature 0 is Patrol Scrub Control, the Rinse period in hours. -/
def execGetFeature (h feature : Nat) (s : State) : Host.Outcome State Fault Refusal :=
  done (s.mailbox h fun s =>
    if feature = 0 then s.answerMbox h .success [s.fld F.upkRinseCfgPeriodH] else s.answerMbox h .invalidInput [])

/-- SET_FEATURE (R77, R337): 1 to 720 hours. -/
def execSetFeature (h feature hours : Nat) (s : State) : Host.Outcome State Fault Refusal :=
  done (s.mailboxRw h fun s =>
    if feature ≠ 0 ∨ hours = 0 ∨ 720 < hours then s.answerMbox h .invalidInput []
    else (s.setFld F.upkRinseCfgPeriodH hours).answerMbox h .success [])

/-! ### The memory device (R65, R71, Table 2-10) -/

/-- IDENTIFY_MEMORY_DEVICE (Table 2-10): capacities in units of 256 MiB, LSA size, poison records, inject limit, poison handling
capabilities, QoS capabilities. -/
def execIdentifyMemoryDevice (h : Nat) (s : State) : Host.Outcome State Fault Refusal :=
  done (s.mailbox h fun s =>
    s.answerMbox h .success [4 * s.userGib, 0, 4 * s.userGib, 0, 262144, 32768, 256, 3, 1])

/-- GET_PARTITION_INFO (R71): no volatile partition. -/
def execGetPartitionInfo (h : Nat) (s : State) : Host.Outcome State Fault Refusal :=
  done (s.mailbox h fun s => s.answerMbox h .success [0, 4 * s.userGib, 0, 4 * s.userGib])

/-- SET_PARTITION_INFO (R71): Invalid Input. -/
def execSetPartitionInfo (h : Nat) (s : State) : Host.Outcome State Fault Refusal :=
  done (s.mailbox h fun s => s.answerMbox h .invalidInput [])

/-- GET_SHUTDOWN_STATE (R65). -/
def execGetShutdownState (h : Nat) (s : State) : Host.Outcome State Fault Refusal :=
  done (s.mailbox h fun s => s.answerMbox h .success [s.host.shutdownState])

/-- SET_SHUTDOWN_STATE (R65, R77): reported back as written, with no other effect. -/
def execSetShutdownState (h value : Nat) (s : State) : Host.Outcome State Fault Refusal :=
  done (s.mailboxRw h fun s =>
    ({ s with host := { s.host with shutdownState := value } } : State).answerMbox h .success [])

/-! ### Poison (R250 to R254) -/

def sourceCode : PSource → Nat
  | .unknown => 0
  | .external => 1
  | .internal => 2
  | .injected => 3

/-- GET_POISON_LIST (R250, R252): flags (bit 1 overflow, bit 2 scan running), the overflow's time, the records that meet the range
of `len` sectors from DPA `first`. -/
def execGetPoisonList (h first len : Nat) (s : State) : Host.Outcome State Fault Refusal :=
  done (s.mailbox h fun s =>
    let rs := s.rd.poison.filter fun r => decide (r.dpa < first + 64 * len ∧ first < r.dpa + 64 * r.len)
    s.answerMbox h .success
      ([2 * ofBool s.rd.ovf.isSome + 4 * ofBool s.rd.scan.isSome, s.rd.ovf.getD 0, rs.length] ++
        rs.flatMap fun r => [r.dpa, r.len, sourceCode r.src]))

/-- Records of source Injected. -/
def State.injected (s : State) : Nat := (s.rd.poison.filter fun r => r.src == .injected).length

/-- A mailbox write of a sector: nothing answers it on CXL.mem. -/
def mailWrite (h : Nat) (data : Sector) (poison : Bool) : Req :=
  { Req.write h noTag data (BitVec.allOnes 64) poison with intern := true }

/-- A write of the mailbox reaches the domain: it is active and nothing holds it. -/
def State.writable (s : State) (d : Nat) : Bool :=
  s.host.memActive && !s.host.sanitizing && !s.cry.deviceHalt && !(s.dom d).halted && (s.dom d).st != .empty &&
    (s.dom d).st != .failed && (s.epoDom d).st != .aborting

/-- INJECT_POISON (R77, R253). -/
def execInjectPoison (h : Nat) (dpa : BitVec 64) (s : State) : Host.Outcome State Fault Refusal :=
  done (s.mailboxRw h fun s =>
    match s.place? (mailWrite h 0#512 true) dpa.toNat with
    | none => s.answerMbox h .invalidPhysicalAddress []
    | some r =>
      if 256 ≤ s.injected then s.answerMbox h .injectPoisonLimit []
      else if !s.writable r.dom then s.answerMbox h .mediaDisabled []
      else ((s.poisonSector r.line r.sec .injected).serve r).answerMbox h .success [])

/-- CLEAR_POISON (R77, R254): the bytes are written as a MemWr without poison, which removes the sector from its record. -/
def execClearPoison (h : Nat) (dpa : BitVec 64) (data : BitVec 512) (s : State) : Host.Outcome State Fault Refusal :=
  done (s.mailboxRw h fun s =>
    match s.place? (mailWrite h data false) dpa.toNat with
    | none => s.answerMbox h .invalidPhysicalAddress []
    | some r =>
      if !s.writable r.dom then s.answerMbox h .mediaDisabled []
      else (s.serve r).answerMbox h .success [])

/-! ### Scan Media (R72, R252, R255) -/

/-- The host lines of `len` sectors from a DPA: first line and count. -/
def State.scanRange (s : State) (first len : Nat) : Option (Nat × Nat) :=
  match s.place? (Req.rd 0 0) first with
  | none => none
  | some r =>
    if (s.dom r.dom).count * 2 ^ 30 < first % 2 ^ 46 + 64 * len then none
    else some (r.line, (first % 256 / 64 + len + 3) / 4)

/-- The mapped lines of a range. -/
def State.mappedIn (s : State) (first count : Nat) : List Nat :=
  (keysIn s.map.ent first count).filter fun l => (s.entry l).st == 1

/-- GET_SCAN_MEDIA_CAPABILITIES (R72): the estimate in milliseconds, at 24 GB/s of mapped bytes. -/
def execGetScanMediaCapabilities (h first len : Nat) (s : State) : Host.Outcome State Fault Refusal :=
  done (s.mailbox h fun s =>
    match s.scanRange first len with
    | none => s.answerMbox h .invalidPhysicalAddress []
    | some (l, n) => s.answerMbox h .success [(s.mappedIn l n).length * 256 * 1000 / 24000000000])

/-- The scan reads one mapped line. -/
def State.scanLine (s : State) (line : Nat) : State :=
  let d := (s.domOf line).getD 0
  if (s.dom d).st = .empty ∨ (s.dom d).st = .failed then s
  else s.startMedia (Rd.fresh line d .scan) (s.entry line) 0

/-- SCAN_MEDIA (R70, R77, R255): every mapped line of the range is read in the background. -/
def execScanMedia (h first len : Nat) (s : State) : Host.Outcome State Fault Refusal :=
  done (s.mailboxRw h fun s =>
    if s.host.bg.isSome then s.answerMbox h .busy []
    else if !s.host.memActive then s.answerMbox h .mediaDisabled []
    else
      match s.scanRange first len with
      | none => s.answerMbox h .invalidPhysicalAddress []
      | some (l, n) =>
        let s : State := { s with
          host := { s.host with bg := some (.scan, h) },
          rd := { s.rd with scan := some ⟨l, n, false⟩, scanRes := [] } }
        ((s.mappedIn l n).foldl State.scanLine s).answerMbox h .backgroundStarted [])

/-- The sectors of a line that are poisoned: all of a LOST one; those of its entry, or of the cache's copy. -/
def State.badSectors (s : State) (line : Nat) : BitVec 4 :=
  let e := s.entry line
  if e.st = 2 then 0xF#4
  else
    match s.lineOf line with
    | some c => c.sp ||| (if e.st = 1 then e.sp &&& ~~~c.sd else 0#4)
    | none => if e.st = 1 then e.sp else 0#4

/-- One line that the scan found: listed with source Internal. -/
def State.listFound (s : State) (line : Nat) : State :=
  if (s.entry line).st = 2 then
    (if s.poisonListed ((s.dpaOf line 0).getD 0) then s else s.poisonLine line .internal)
  else s.poisonMask line (s.badSectors line) .internal

/-- The ranges cover every line from `a` to `b`: each round goes on from the furthest end of a range that holds `a`. -/
def coversTo (rs : List (Nat × Nat)) (b : Nat) : Nat → Nat → Bool
  | 0, a => decide (b ≤ a)
  | fuel + 1, a =>
    if b ≤ a then true
    else
      let e := rs.foldl (fun m r => if r.1 ≤ a ∧ m < r.1 + r.2 then r.1 + r.2 else m) a
      if e = a then false else coversTo rs b fuel e

/-- Every extent is covered. -/
def State.extentsCovered (s : State) (rs : List (Nat × Nat)) : Bool :=
  s.cry.doms.all fun p =>
    p.2.count == 0 || coversTo rs ((p.2.base + p.2.count) * 2 ^ 22) (rs.length + 1) (p.2.base * 2 ^ 22)

/-- A scan without a drop counts towards the end of an overflow (R252). -/
def State.scanCounts (s : State) (x : Scan) : State :=
  match s.rd.ovf with
  | none => s
  | some _ =>
    if x.dropped then s
    else
      let rs := s.rd.covered ++ [(x.first, x.count)]
      if s.extentsCovered rs then { s with rd := { s.rd with ovf := none, covered := [] } }
      else { s with rd := { s.rd with covered := rs } }

/-- SCAN_MEDIA_DONE (R252, R255). -/
def execScanMediaDone (s : State) : Host.Outcome State Fault Refusal :=
  done (s.when (s.pwr.coreOn && s.rd.scan.isSome && !(s.rd.reads.any fun r => r.why == .scan)) fun s =>
    match s.rd.scan with
    | none => s
    | some x =>
      let bad := (keysIn s.map.ent x.first x.count).filter fun l =>
        decide ((s.entry l).st ≠ 0) && decide (s.badSectors l ≠ 0#4) && (s.domOf l).isSome
      let s := bad.foldl State.listFound s
      let res := bad.map fun l => ((s.dpaOf l 0).getD 0, 4)
      let y := s.rd.scan.getD x
      let s : State := { s with
        rd := { s.rd with scan := none, scanRes := res },
        host := { s.host with bg := none, bgLast := s.host.bg.map fun b => (BgKind.scan, b.2, Rc.success) } }
      s.scanCounts y)

/-- GET_SCAN_MEDIA_RESULTS (R255): DPA and sectors of each line found. -/
def execGetScanMediaResults (h : Nat) (s : State) : Host.Outcome State Fault Refusal :=
  done (s.mailbox h fun s =>
    s.answerMbox h .success (s.rd.scanRes.length :: s.rd.scanRes.flatMap fun p => [p.1, p.2]))

/-! ### Sanitize and Secure Erase (R52, R72, R134, R174, R400) -/

/-- The erase is accepted: every key is destroyed and a FAILED map becomes UNFORMATTED. -/
def State.startErase (s : State) (k : BgKind) (h : Nat) : State :=
  let s : State := { s with host := { s.host with sanitizing := true, bg := some (k, h) } }
  let s := (List.range 256).foldl (fun (t : State) d => t.destroyKey State.failReq d) s
  if s.map.st = .failed then { s with map := { s.map with st := .unformatted } } else s

/-- A Sanitize or Secure Erase command. -/
def State.erase (s : State) (k : BgKind) (h : Nat) : State :=
  s.mailboxRw h fun s =>
    if s.host.bg.isSome then s.answerMbox h .busy []
    else (s.startErase k h).answerMbox h .backgroundStarted []

/-- SANITIZE (R72, R77). -/
def execSanitize (h : Nat) (s : State) : Host.Outcome State Fault Refusal := done (s.erase .sanitize h)

/-- SECURE_ERASE (R72, R77). -/
def execSecureErase (h : Nat) (s : State) : Host.Outcome State Fault Refusal := done (s.erase .secureErase h)

/-- Lines still in staging map nothing any more. -/
def State.voidStaging (s : State) : State :=
  let void (x : Staged) : Staged := if x.enc then { x with superseded := true, recorded := true } else Staged.filler
  (List.range 8).foldl
    (fun (t : State) g =>
      (t.setStripes g ((t.group g).stripes.map fun (x : Stripe) => ({ x with lines := x.lines.map void } : Stripe))).settleGroup g)
    { s with wp := { s.wp with handed := [] } }

/-- The map steps of R174: everything unmapped, a new format identifier, a checkpoint with CLEAN = 0. -/
def State.eraseMap (s : State) : State :=
  let s := s.voidStaging.blankMap
  let s : State := { s with rd := { s.rd with reads := [] } }
  let id := s.drawFormat.2.1
  let s := s.drawFormat.1
  let fmt := match s.map.fmt with
    | some f => some ({ f with id := id } : Format)
    | none => none
  let s : State := { s with map := { s.map with fmt := fmt } }
  s.defaultExtents.finishCkpt s.map.nextJsn false

/-- The erase ends: a map that was FAILED is formatted as at first format. -/
def State.endErase (s : State) : State :=
  let s := if s.map.st = .unformatted then
      (if s.popValid then
        let s : State := { s with popP := s.fullGroups }
        s.voidStaging.format.mapActive.raise Ev.mapRecoveryDone
      else s.raise Ev.topConfig)
    else s.eraseMap
  { s with host := { s.host with
      sanitizing := false, bg := none,
      bgLast := match s.host.bg with | some (k, h) => some (k, h, Rc.success) | none => s.host.bgLast } }

/-- SANITIZE_DONE (R52, R174). -/
def execSanitizeDone (s : State) : Host.Outcome State Fault Refusal :=
  done (s.when (s.pwr.coreOn && s.host.sanitizing && (s.map.st == .active || s.map.st == .unformatted)) State.endErase)

/-! ### QoS telemetry (R66, R67) -/

/-- GET_SLD_QOS_CONTROL (R71). -/
def execGetSldQosControl (h : Nat) (s : State) : Host.Outcome State Fault Refusal :=
  done (s.mailbox h fun s =>
    s.answerMbox h .success [ofBool s.host.egressOn, s.host.egressModerate, s.host.egressSevere])

/-- SET_SLD_QOS_CONTROL (R66, R77): percentages of 1 to 100 in order. -/
def execSetSldQosControl (h : Nat) (egress : Bool) (moderate severe : Nat) (s : State) : Host.Outcome State Fault Refusal :=
  done (s.mailboxRw h fun s =>
    if moderate = 0 ∨ 100 < severe ∨ severe < moderate then s.answerMbox h .invalidInput []
    else
      ({ s with host := { s.host with egressOn := egress, egressModerate := moderate, egressSevere := severe } } : State).answerMbox h
        .success [])

/-- GET_SLD_QOS_STATUS (R66): the backpressure that the head measures. -/
def execGetSldQosStatus (h : Nat) (s : State) : Host.Outcome State Fault Refusal :=
  done (s.mailbox h fun s => s.answerMbox h .success [s.fld (F.hstDevloadBackpressurePct h)])

/-- UNSUPPORTED_OPCODE (R71). -/
def execUnsupportedOpcode (h _opcode : Nat) (s : State) : Host.Outcome State Fault Refusal :=
  done (s.mailbox h fun s => s.answerMbox h .unsupported [])

/-! ### Domain extents (R53, R79, R81, R135) -/

/-- Extents [a, a + n) and [b, b + m) share a GiB. -/
def meets (a n b m : Nat) : Bool := decide (0 < n ∧ 0 < m ∧ a < b + m ∧ b < a + n)

/-- The extent would overlap another domain's or pass the last host line (R53). -/
def State.extentBad (s : State) (d base count : Nat) : Bool :=
  decide (256 ≤ d ∨ s.userGib < base + count) ||
    (s.cry.doms.any fun p => p.1 != d && meets base count p.2.base p.2.count) ||
    decide ((s.dom d).count ≠ 0 ∧ base ≠ (s.dom d).base)

/-- The extent would take in lines that a shrink is still unmapping. -/
def State.takesReleased (s : State) (base count : Nat) : Bool :=
  match s.host.released with
  | some (l, n) => meets base count (l / 2 ^ 22) (n / 2 ^ 22)
  | none => false

/-- A shrink meets an epoch, or the window (R53, R135, R410). -/
def State.shrinkBusy (s : State) (d base count : Nat) : Bool :=
  (s.dom d).epochEn || (s.epoDom d).st == .prepared || s.host.bg.isSome ||
    (s.swt.st != .none && s.swt.dom == d && decide ((base + count) * 2 ^ 22 < s.swt.base + s.swt.ways * 65536))

/-- The CDAT sequence number of every head (R81). -/
def State.cdatUp (s : State) : State :=
  (List.range 8).foldl (fun (t : State) k => t.setHead k { t.head k with cdatSeq := (t.head k).cdatSeq + 1 }) s

/-- The shrink is accepted: the released lines are outside the extent at once, with what the caches and the poison list hold of
them, and their unmap runs in the background. -/
def State.shrink (s : State) (h d count : Nat) : State :=
  let x := s.dom d
  let first := (x.base + count) * 2 ^ 22
  let n := (x.count - count) * 2 ^ 22
  let s := s.unpoisonRange d first n
  let s := s.dropWhere State.failReq fun l _ => decide (first ≤ l ∧ l < first + n)
  let s := (s.setDom d { s.dom d with count := count }).cdatUp
  { s with
    host := { s.host with bg := some (.shrink, h), released := some (first, n) },
    map := { s.map with unmap := s.map.unmap ++ [(first, n, .shrink h)] } }

/-- SET_DOMAIN_EXTENT (R53, R76, R81, R135, R410). -/
def execSetDomainExtent (h d base count : Nat) (s : State) : Host.Outcome State Fault Refusal :=
  done (s.mailboxRw h fun s =>
    let x := s.dom d
    if s.extentBad d base count then s.answerMbox h .invalidInput []
    else if s.takesReleased base count then s.answerMbox h .busy []
    else if count < x.count then
      (if s.shrinkBusy d base count then s.answerMbox h .busy []
       else (s.shrink h d count).answerMbox h .backgroundStarted [])
    else if base = x.base ∧ count = x.count then s.answerMbox h .success []
    else ((s.setDom d { x with base := base, count := count }).cdatUp).answerMbox h .success [])

/-- GET_DOMAIN_EXTENTS (R79): base and count of each domain in order. -/
def execGetDomainExtents (h : Nat) (s : State) : Host.Outcome State Fault Refusal :=
  done (s.mailbox h fun s =>
    s.answerMbox h .success ((List.range 256).flatMap fun d => [(s.dom d).base, (s.dom d).count]))

/-- LINK_STATE codes of Table 2-15. -/
def linkCode : LinkState → Nat
  | .off => 0
  | .detect => 1
  | .training => 2
  | .active => 3
  | .recovery => 4
  | .d3 => 5

/-- WIDTH codes of Table 2-15. -/
def widthCode (w : Nat) : Nat :=
  if 16 ≤ w then 5 else if 8 ≤ w then 4 else if 4 ≤ w then 3 else if 2 ≤ w then 2 else w

/-- HST_STS of a head (Table 2-15); 0 for an absent one but for X8_MODE. -/
def State.hstSts (s : State) (h : Nat) : Nat :=
  let x := s.head h
  if !s.present h then 0
  else
    let gpf := match s.wp.flush with | some f => (match f.kind with | .gpf _ => true | _ => false) | none => false
    linkCode x.link * 2 ^ 16 + widthCode x.width * 2 ^ 12 + x.speed % 16 * 2 ^ 8 + ofBool (x.speed == 4) * 2 ^ 7 +
      ofBool (decide (x.ideMode ≠ 0) && x.ideKeys && !x.ideInsecure) * 2 ^ 6 + ofBool (x.ioLink || x.ioSel) * 2 ^ 5 +
      ofBool s.host.memActive * 2 ^ 4 + ofBool gpf * 2 ^ 3 + ofBool s.host.hbif * 2 + 1

/-- GET_HEAD_STATUS (R79): HST_STS and HST_DEVLOAD of each head; zero for absent heads. -/
def execGetHeadStatus (h : Nat) (s : State) : Host.Outcome State Fault Refusal :=
  done (s.mailbox h fun s =>
    s.answerMbox h .success ((List.range 8).flatMap fun k =>
      if s.present k then [s.hstSts k, (s.reg (F.hstDevloadDevload k).off).toNat] else [0, 0]))

/-! ### Background unmaps (R53, R173, R399) -/

/-- A sealed stripe still has a line of the range to record. -/
def State.recordDue (s : State) (first n : Nat) : Bool :=
  (List.range 8).any fun g => (s.group g).stripes.any fun t => t.sealed && t.lines.any fun x =>
    x.kind == .host && decide (first ≤ x.line ∧ x.line < first + n) && !x.superseded && !x.recorded

/-- A shrink's operation ends, on every head's Background Operation Status. -/
def State.unmapEnds (s : State) (why : UnmapWhy) : State :=
  match why with
  | .shrink h => { s with host := { s.host with released := none, bg := none, bgLast := some (.shrink, h, .success) } }
  | .destroy _ => s
  | .carve => s

/-- UNMAP_DONE (R173): the oldest background unmap. Records of stripes that sealed before it come first (R399). -/
def execUnmapDone (s : State) : Host.Outcome State Fault Refusal :=
  done (s.when (s.pwr.coreOn && s.map.st == .active) fun s =>
    match s.map.unmap with
    | [] => s
    | (first, n, why) :: us =>
      if s.recordDue first n then s
      else
        let s := match why with
          | .destroy d => s.unpoisonRange d first n
          | _ => s
        let s := (({ s with map := { s.map with unmap := us } } : State).unmapRange first n).unmapEnds why
        s.raiseN Ev.mapUnmapDone 0 (mapKey 0 (first / 32)))

end Sys2Proof.Machine
end

