-- ==== Sys2Proof/Machine/Thermal.lean ====
section
/-!
DEFINITION. Thermal sensing and the energy governor: the housekeeping round, the diode grid, throttle factors, island
points, the age clocks, THERM_N, the hardware trip, the temperature history and the media power cap (R466 to R486).
-/
namespace Sys2Proof.Machine

/-! ### Channels (Table 14-1) -/

/-- Latest conversion of a channel: value and round. -/
def State.chan (s : State) (c : Nat) : Nat × Nat := Tab.get (fun _ => (0, 0)) s.thm.chan c

/-- The diode reading of a tile, signed, 1/16 °C. -/
def State.rawT (s : State) (t : Nat) : Int := signed16 (BitVec.ofNat 16 (s.chan t).1)

/-- Voltage and clock of a ply island; before the first round the regulators stand at point 0. -/
def State.islandPoint (s : State) (g : Nat) : Nat × Nat :=
  if s.fld (F.plyIslandVoltMv g) = 0 then (800, 1600)
  else (s.fld (F.plyIslandVoltMv g), s.fld (F.plyIslandClkMhz g))

/-- Nominal value of a voltage channel, mV; none for a diode, for the reference, and for a rail that is skipped. -/
def State.chanNominal (s : State) (c : Nat) : Option Nat :=
  if c < 64 then none
  else if c < 76 then if s.skipped (c - 64) then none else some (s.fld (F.pwrRailCfgNominalMv (c - 64)))
  else if c = 76 then some 12000
  else if c < 85 then some (s.islandPoint (c - 77)).1
  else if c = 85 then some 750
  else if c = 86 then some 1800
  else if c < 91 then some (railNominal 0)
  else if c < 95 then some (railNominal 1)
  else none

/-- `v` is further than `pct` per cent from `nom`. -/
def offBy (v nom pct : Nat) : Bool := decide (nom * pct < ((v : Int) - nom).natAbs * 100)

/-- VOLT_ALARM, once per channel per excursion (R470). -/
def State.voltCheck (s : State) (c v : Nat) : State :=
  match s.chanNominal c with
  | none => s
  | some nom =>
    let bad := offBy v nom (s.fld F.hkpVoltCfgWindowPct)
    let was := Tab.get (fun _ => false) s.thm.alarm c
    let s : State := { s with thm := { s.thm with alarm := Tab.set (fun _ => false) s.thm.alarm c bad } }
    if bad && !was then s.raiseN Ev.hkpVoltAlarm (c * 2 ^ 8) v else s

/-! ### The neighbour cross-check (R472, R473) -/

def State.included (s : State) (t : Nat) : Bool := decide (t < 64) && !s.thm.excl.getLsbD t

/-- The 4-neighbours of a tile in the 8 × 8 grid. -/
def neighbours (t : Nat) : List Nat :=
  (if 8 ≤ t then [t - 8] else []) ++ (if t % 8 ≠ 0 then [t - 1] else []) ++
    (if t % 8 ≠ 7 then [t + 1] else []) ++ (if t + 8 < 64 then [t + 8] else [])

/-- A value put into an ascending list. -/
def insertAsc (x : Int) : List Int → List Int
  | [] => [x]
  | y :: ys => if x ≤ y then x :: y :: ys else y :: insertAsc x ys

/-- Twice the median of a list. -/
def median2 (l : List Int) : Int :=
  let a := l.foldr insertAsc []
  a.getD (a.length / 2) 0 + a.getD ((a.length - 1) / 2) 0

/-- Readings of a tile's included neighbours. -/
def State.nearRaw (s : State) (t : Nat) : List Int := ((neighbours t).filter s.included).map s.rawT

/-- Twice the distance of a tile from the median of its included neighbours; 0 when the tile is not tested. -/
def State.deviation2 (s : State) (t : Nat) : Nat :=
  let l := s.nearRaw t
  if s.included t && !l.isEmpty then (2 * s.rawT t - median2 l).natAbs else 0

/-- The tile deviates and no adjacent tile deviates more. -/
def devCounts (d : List Nat) (t : Nat) : Bool :=
  decide (480 < d.getD t 0) && (neighbours t).all fun u => decide (d.getD u 0 ≤ d.getD t 0)

/-- One tile of the cross-check: the third deviating round in a row excludes it. -/
def State.crossTile (s : State) (d : List Nat) (t : Nat) : State :=
  let setDev (k : Nat) (x : State) : State := { x with thm := { x.thm with dev := Tab.set (fun _ => 0) x.thm.dev t k } }
  if !s.included t then s
  else if devCounts d t then
    let k := Tab.get (fun _ => 0) s.thm.dev t + 1
    if k < 3 then setDev k s
    else
      let x : State := { s with thm := { s.thm with excl := s.thm.excl ||| (1#64 <<< t) } }
      ((setDev 0 x).bump F.thmCntExclusions 1).raiseN Ev.thmSensorExcluded (t * 2 ^ 8) ((s.chan t).1 % 2 ^ 16)
  else setDev 0 s

def State.crossCheck (s : State) : State :=
  let d := (List.range 64).map s.deviation2
  (List.range 64).foldl (fun t k => t.crossTile d k) s

/-! ### Temperature used and tile factors (R474, R476) -/

def maxOf : List Int → Option Int
  | [] => none
  | x :: xs =>
    match maxOf xs with
    | none => some x
    | some y => some (max x y)

/-- USED of a tile: its own reading, or its included neighbours' maximum, or the hottest included tile's. -/
def State.usedOf (s : State) (t : Nat) : Int :=
  if s.included t then s.rawT t
  else
    match maxOf (s.nearRaw t), maxOf (((List.range 64).filter s.included).map s.rawT) with
    | some m, _ => m
    | none, some m => m
    | none, none => s.rawT t

/-- f_tile in 1/128 for USED in 1/16 °C. -/
def tileFactor (throttle : Nat) (used : Int) : Nat :=
  (max 16 (min 128 ((1680 - used) * 128 / ((1680 : Int) - 16 * throttle)))).toNat

/-- One tile's USED and factor; THROTTLE_DIE when the factor falls below 1. -/
def State.factorTile (s : State) (cap : Bool) (t : Nat) : State :=
  let u := s.usedOf t
  let f0 := tileFactor (s.fld F.thmCfgThrottleC) u
  let f := if cap then min 64 f0 else f0
  let was := s.tileF t
  let w := BitVec.ofInt 16 u
  let s : State := { s with thm := { s.thm with used := Tab.set (fun _ => 0#16) s.thm.used t w
                                                f := Tab.set (fun _ => 128) s.thm.f t f } }
  if was = 128 ∧ f < 128 then s.raiseN Ev.thmThrottleDie (t * 2 ^ 8) w.toNat else s

/-- Factors of all tiles, capped at one half while 8 or more tiles are excluded (R474). -/
def State.factors (s : State) : State :=
  let cap := decide (8 ≤ s.exclCount)
  (List.range 64).foldl (fun t k => t.factorTile cap k) s

/-! ### Ply islands (R479) -/

/-- Voltage and clock of the point for a smallest tile factor in 1/128 (Table 14-2). -/
def islandTarget (f : Nat) : Nat × Nat :=
  if 128 ≤ f then (800, 1600) else if 64 ≤ f then (750, 1400) else if 32 ≤ f then (680, 1100) else (600, 800)

/-- One round's change of an island: at most 50 mV, voltage first when it rises, clock first when it falls. -/
def islandMove (now target : Nat × Nat) : Nat × Nat :=
  if now.1 < target.1 then
    let v := min target.1 (now.1 + 50)
    (v, if v = target.1 then target.2 else now.2)
  else (max target.1 (now.1 - 50), target.2)

def State.moveIsland (s : State) (g : Nat) : State :=
  let least := (List.range 8).foldl (fun m i => min m (s.tileF (8 * g + i))) 128
  let p := islandMove (s.islandPoint g) (islandTarget least)
  (s.setFld (F.plyIslandVoltMv g) p.1).setFld (F.plyIslandClkMhz g) p.2

/-! ### The age clocks (R327) -/

/-- F_n(T) in 1/65536, T in 1/16 °C: linear between neighbouring entries, the end entries outside. -/
def ageFactor : List (Nat × Nat) → Int → Nat
  | [], _ => 0
  | [a], _ => a.2 * 256
  | a :: b :: l, t =>
    if t ≤ 16 * (a.1 : Int) then a.2 * 256
    else if t ≤ 16 * (b.1 : Int) then
      a.2 * 256 + (b.2 - a.2) * 256 * (t - 16 * a.1).toNat / (16 * (b.1 - a.1))
    else ageFactor (b :: l) t

/-- F_g: the largest factor over the populated packages that are not retired. -/
def State.groupFactor (s : State) (g : Nat) : Nat :=
  (List.range 16).foldl
    (fun m i =>
      let n := 16 * g + i
      let x := s.link1 n
      if s.populated n && !s.skeinRetired n then
        max m (ageFactor x.page.tfactor (if x.tempValid then signed16 x.temp else (x.page.tLimit : Int) * 16))
      else m) 0

/-- AGECLK of every group takes the operating time since the last addition, and the classes are looked at again. -/
def State.advanceAges (s : State) : State :=
  let dt := s.time.opNs - s.upk.clkAt
  let s : State := { s with upk := { s.upk with clkAt := s.time.opNs } }
  (List.range s.popP).foldl
    (fun t g =>
      let c := (Tab.get (fun _ => 0) t.upk.clk g + dt * t.groupFactor g / 10 ^ 9) % 2 ^ 64
      let t : State := { t with upk := { t.upk with clk := Tab.set (fun _ => 0) t.upk.clk g c } }
      ((t.listed g).filter fun p => decide (p.2.st = .sealed)).foldl (fun u p => u.checkAge g p.1) t) s

/-! ### THERM_N (R483) -/

/-- Every included tile and every live package is at least 2 °C below where throttling starts. -/
def State.allCool (s : State) : Bool :=
  ((List.range 64).filter s.included).all (fun t => decide (s.rawT t ≤ 16 * ((s.fld F.thmCfgThrottleC : Int) - 2))) &&
    s.liveList.all fun n => (s.link1 n).tempValid &&
      decide (signed16 (s.link1 n).temp ≤ 16 * (((s.link1 n).page.tThrottle : Int) - 2))

/-- THERM_N at the end of a round: released once everything has been cool for one complete round. -/
def State.thermRound (s : State) : State :=
  if s.thermCause then s.checkTherm
  else
    let cool := s.allCool
    { s with thm := { s.thm with thermLow := s.thm.thermLow && !(cool && s.thm.coolFrom), coolFrom := cool } }

/-! ### The round (R468, R469, R471) -/

/-- The reference check failed: the round's conversions are discarded. -/
def State.roundFailed (s : State) (v : Nat) : State :=
  let k := s.thm.refRow + 1
  let entered := decide (3 ≤ k) && !s.thm.gridRef
  let s : State := { s with thm := { s.thm with chan := s.thm.prev, refRow := k, gridRef := s.thm.gridRef || decide (3 ≤ k) } }
  let s := (s.bump F.hkpStsRefFails 1).raiseN Ev.hkpAdcRefFail (95 * 2 ^ 8) v
  (if entered then s.raise Ev.thmGridDegraded else s).checkTherm

/-- A round that passed: cross-check, factors, islands. -/
def State.roundPassed (s : State) : State :=
  let was := s.thm.first && decide (8 ≤ s.exclCount)
  let s : State := { s with thm := { s.thm with prev := s.thm.chan, refRow := 0, gridRef := false } }
  let s := s.setFld F.pwrVinStsVinMv (s.chan 76).1
  let s := s.crossCheck
  let s := if decide (8 ≤ s.exclCount) && !was then s.raise Ev.thmGridDegraded else s
  let s := s.factors
  let s := if s.thm.first then s else ({ s with thm := { s.thm with first := true } } : State).raise Ev.thmFirstRound
  ((List.range 8).foldl State.moveIsland s).thermRound.checkAlerts

/-- HKP_CONVERSION (R468 to R476): the next channel of Table 14-1 converts; channel 95 completes the round. -/
def execHkpConversion (value : BitVec 16) (s : State) : Host.Outcome State Fault Refusal :=
  done (s.when s.pwr.coreOn fun s =>
    let c := s.thm.next
    let v := value.toNat
    let s : State := { s with thm := { s.thm with
      next := if c < 95 then c + 1 else 0
      chan := Tab.set (fun _ => (0, 0)) s.thm.chan c (v, s.fld F.hkpStsRounds) } }
    if c < 95 then s.voltCheck c v
    else
      let s := if offBy v 600 1 then s.roundFailed v else s.roundPassed
      (s.bump F.hkpStsRounds 1).advanceAges)

/-! ### Commands of the THM and HKP pages -/

/-- THM_READMIT (R473): a readmitted tile starts from a zero count. -/
def execThmReadmit (h t : Nat) (s : State) : Host.Outcome State Fault Refusal :=
  done (s.barWrite h F.thmCtlReadmit.off fun s =>
    let s := s.setFld F.thmCtlReadmitTile t
    if s.included t then s
    else
      let s : State := { s with thm := { s.thm with excl := s.thm.excl &&& ~~~(1#64 <<< t)
                                                    dev := Tab.set (fun _ => 0) s.thm.dev t 0 } }
      s.raiseN Ev.thmReadmitted (t * 2 ^ 8) ((s.chan t).1 % 2 ^ 16))

/-- THM_CNT_CLR: THM_CNT but for TRIPS. -/
def execThmCntClr (h : Nat) (s : State) : Host.Outcome State Fault Refusal :=
  done (s.barWrite h F.thmCtlCntClr.off fun s => (s.setFld F.thmCntThrottlePicks 0).setFld F.thmCntExclusions 0)

/-- HKP_CNT_CLR: HKP_STS.REF_FAILS. -/
def execHkpCntClr (h : Nat) (s : State) : Host.Outcome State Fault Refusal :=
  done (s.barWrite h F.hkpCtlCntClr.off fun s => s.setFld F.hkpStsRefFails 0)

/-! ### The hardware trip (R482) -/

/-- The comparators are armed: VDD_CORE has qualified and RAMP_DOWN has not begun. -/
def State.tripArmed (s : State) : Bool :=
  s.pwr.settled.getLsbD 0 &&
    (s.pwr.st == .rampUp || s.pwr.st == .on || s.pwr.st == .quiesce || s.pwr.st == .pfFlush || s.pwr.st == .waitDn)

/-- The off request of a trip, in the state it meets (Table 13-3). -/
def State.tripOff (s : State) : State :=
  match s.pwr.st with
  | .on => s.offInOn .trip
  | .rampUp => { s with pwr := { s.pwr with why := .trip, offReq := true } }
  | _ => { s with pwr := { s.pwr with why := .trip } }

/-- THERMAL_TRIP (R482): the trip latch, FAULT_N, TRIP, THERM_N and an off request; a second trip before the device is off
adds nothing. -/
def execThermalTrip (t : Nat) (s : State) : Host.Outcome State Fault Refusal :=
  done (s.when (s.tripArmed && s.included t && s.pwr.why != .trip) fun s =>
    let s := (s.ctrInc 32 1).1
    let s : State := { s with thm := { s.thm with trip := some t }, pwr := { s.pwr with faultTrip := true } }
    (s.raiseN Ev.thmTrip (t * 2 ^ 8) ((s.chan t).1 % 2 ^ 16)).checkTherm.tripOff)

/-! ### Temperature history (R484) -/

/-- Bin of a temperature in 1/16 °C when bin 0 ends at `low` + 5 °C (Table 14-4). -/
def tempBin (low : Nat) (t : Int) : Nat := (max 0 (min 15 ((t - 16 * (low : Int)) / 80))).toNat

/-- One minute more in a bin. -/
def addMinute (h : Tab Nat) (i : Nat) : Tab Nat := Tab.set (fun _ => 0) h i (satAdd 32 (Tab.get (fun _ => 0) h i) 1)

/-- The maximum T_n over the live packages with VALID set. -/
def State.mediaMaxNow (s : State) : Option Int :=
  maxOf ((s.liveList.filter fun n => (s.link1 n).tempValid).map fun n => signed16 (s.link1 n).temp)

def above (t : Int) (w : Nat) : Bool := decide (signed16 (BitVec.ofNat 16 w) < t)

/-- TEMP_HISTORY_MINUTE: a minute of operating time. -/
def execTempHistoryMinute (s : State) : Host.Outcome State Fault Refusal :=
  done (s.when s.pwr.coreOn fun s =>
    let hours := s.time.opNs / (3600 * 10 ^ 9)
    let d := signed16 s.hotTile.2
    let x := s.thm
    let x : ThmState := if x.first then { x with hDie := addMinute x.hDie (tempBin 30 d) } else x
    let x : ThmState := if x.first && above d x.max.die then
      { x with max := { x.max with die := s.hotTile.2.toNat, dieHours := hours } } else x
    match s.mediaMaxNow with
    | none => { s with thm := x }
    | some m =>
      let x : ThmState := { x with hMedia := addMinute x.hMedia (tempBin 15 m) }
      let x : ThmState := if above m x.max.media then
        { x with max := { x.max with media := (BitVec.ofInt 16 m).toNat, mediaHours := hours } } else x
      { s with thm := x })

/-- TEMP_HISTORY_SAVE: every 10 minutes of operating time. -/
def execTempHistorySave (s : State) : Host.Outcome State Fault Refusal := done (s.when s.pwr.coreOn State.saveHist)

/-! ### The media power cap (R480, Table 14-3) -/

/-- SET_MEDIA_POWER_CAP. -/
def execSetMediaPowerCap (h watts : Nat) (save : Bool) (s : State) : Host.Outcome State Fault Refusal :=
  done (s.mailboxRw h fun s =>
    if watts < 128 ∨ 640 < watts then s.answerMbox h .invalidInput []
    else
      let changed := decide (s.thm.capNext.getD s.thm.cap ≠ watts) || (save && decide (s.thm.capSaved ≠ watts))
      let s : State := { s with thm := { s.thm with capNext := some watts
                                                    capSaved := if save then watts else s.thm.capSaved } }
      (s.raiseIf changed Ev.thmCapChanged).answerMbox h .success [])

/-- GET_MEDIA_POWER_CAP: cap in force, saved cap, media power and smallest f_s of the last second. -/
def execGetMediaPowerCap (h : Nat) (s : State) : Host.Outcome State Fault Refusal :=
  done (s.mailbox h fun s => s.answerMbox h .success [s.thm.cap, s.thm.capSaved, s.thm.mw, s.thm.minSec])

end Sys2Proof.Machine
end

