-- ==== Sys2Proof/Machine/BarView.lean ====
section
/-!
DEFINITION. What a control-BAR read returns (R4, R44, R557, R559, R570): the stored register with its RO/V fields as the
state gives them, page by page, the CRY domain table, the routing table and the user counter view; and ERR_INFO_READ.
-/
namespace Sys2Proof.Machine

/-- A field of a register as read: bits and value. -/
abbrev ViewField := Nat × Nat × Nat

/-- A register with some of its fields replaced. -/
def overlayWord (w : Word) (l : List ViewField) : Word := l.foldl (fun v f => putBits v f.1 f.2.1 f.2.2) w

def countIf (n : Nat) (p : Nat → Bool) : Nat := ((List.range n).filter p).length

/-- Bit i of the mask holds p i. -/
def maskIf (n : Nat) (p : Nat → Bool) : Nat := (List.range n).foldl (fun m i => m + ofBool (p i) * 2 ^ i) 0

/-- A figure the spec names and gives no rule for, below `m`: free, at every read anew. -/
def State.freeBelow (s : State) (m : Nat) : Nat := (Config.free s.freeCtr).toNat % m

/-- The blocks of the common pages. -/
def allBlocks : List Block :=
  [.top, .pwr, .thm, .hkp, .ntn, .evr, .fwu, .kve, .flt, .epo, .cry, .upk, .map, .fch, .swt, .wrp, .hst, .ply, .pmc, .skn]

/-- Event source `k` is raised (R555). -/
def State.srcRaised (s : State) (k : Nat) : Bool :=
  allBlocks.any fun b => (List.range b.pages).any fun i => (List.range b.eventBits).any fun j =>
    Evt.src ⟨b, i, j⟩ == k && s.raised ⟨b, i, j⟩

/-! ### TOP, PWR, THM, HKP, NTN, EVR, FWU, KVE -/

def State.viewTop (s : State) (o : Nat) : List ViewField :=
  if o = 0x18 then
    [(23, 16, maskIf 8 s.present), (15, 8, maskIf 8 fun h => (s.head h).link == .active), (3, 3, ofBool s.cry.deviceHalt),
      (2, 2, ofBool s.fwu.recovery), (1, 1, ofBool s.host.memActive), (0, 0, s.fld F.topTimeValid)]
  else if o = 0x118 then [(63, 0, s.time.devtime)]
  else if o = 0x120 then [(63, 0, s.time.pick)]
  else if o = 0x128 then [(63, 0, s.ctrVal 4)]
  else if o = 0x130 then [(63, 0, Config.serial.toNat)]
  else if o = 0x138 then [(15, 8, s.popP), (4, 0, s.popD)]
  else if 0x180 ≤ o ∧ o < 0x1E0 then
    [(63, 0, maskIf 64 fun b => s.srcRaised ((o - 0x180) / 8 * 64 + b))]
  else if o = 0x8 then [(23, 16, s.nHeads)]
  else []

def State.viewPwr (s : State) (o : Nat) : List ViewField :=
  if o = 0x18 then
    [(43, 32, s.pwr.qual.toNat), (28, 28, ofBool (s.pwr.faultSeq || s.pwr.faultTrip)), (27, 27, ofBool s.pwr.pfw),
      (26, 26, ofBool s.pwr.seqDnOut), (25, 25, ofBool s.pwr.seqDnIn), (24, 24, ofBool s.pwr.seqUpOut),
      (23, 23, ofBool s.pwr.seqUpIn), (17, 16, s.pwr.retries), (11, 8, stepOf s.pwr.cur), (3, 0, seqCode s.pwr.st)]
  else if o = 0x110 then [(16, 16, ofBool s.pwr.pfw)]
  else if o = 0x120 then [(39, 16, s.ctrVal 0), (15, 0, s.ctrVal 1)]
  else if o = 0x128 then [(63, 32, s.ctrVal 2), (31, 0, s.ctrVal 3)]
  else if o = 0x130 then [(24, 24, ofBool s.pwr.brd), (15, 8, s.pwr.mrst.toNat)]
  else if 0x140 ≤ o ∧ o < 0x1A0 then
    let i := (o - 0x140) / 8
    let v := s.ctrVal (16 + i)
    [(63, 48, v / 2 ^ 32 % 2 ^ 16), (47, 32, v / 2 ^ 16 % 2 ^ 16), (31, 16, v % 2 ^ 16),
      (15, 0, s.ctrVal (28 + i / 3) / 2 ^ (32 - 16 * (i % 3)) % 2 ^ 16)]
  else []

/-- Smallest f_s of the current Pick over the live skeins. -/
def State.minF (s : State) : Nat := s.liveList.foldl (fun m n => min m (s.warp1 n).fs) 128

def State.viewThm (s : State) (o : Nat) : List ViewField :=
  if o = 0x18 then
    [(63, 48, s.hotTile.2.toNat), (37, 32, s.hotTile.1), (22, 16, s.exclCount), (3, 3, ofBool s.thm.trip.isSome),
      (2, 2, ofBool s.thm.thermLow), (1, 1, ofBool s.gridDegraded), (0, 0, ofBool s.thm.first)]
  else if o = 0x108 then [(63, 48, s.minF), (47, 16, s.thm.mw), (15, 0, s.thm.cap)]
  else if o = 0x110 then [(63, 0, s.thm.excl.toNat)]
  else if o = 0x120 then
    [(31, 0, Tab.get (fun _ => 0) (if s.fld F.thmHistSelKind = 0 then s.thm.hDie else s.thm.hMedia) (s.fld F.thmHistSelBin))]
  else if o = 0x128 then [(63, 48, s.thm.max.media), (47, 32, s.thm.max.die), (31, 0, s.thm.max.dieHours)]
  else if o = 0x130 then [(15, 0, s.ctrVal 32)]
  else if 0x200 ≤ o ∧ o < 0x400 then
    let t := (o - 0x200) / 8
    [(47, 40, s.tileF t), (35, 34, Tab.get (fun _ => 0) s.thm.dev t), (32, 32, ofBool (s.thm.excl.getLsbD t)),
      (31, 16, (s.usedT t).toNat), (15, 0, (s.chan t).1)]
  else []

def State.viewHkp (s : State) (o : Nat) : List ViewField :=
  if o = 0x18 then [(6, 0, s.thm.next)]
  else if o = 0x110 then
    let c := s.chan (min 95 (s.fld F.hkpChanSelChannel))
    [(63, 32, c.2), (15, 0, c.1)]
  else []

def State.viewNtn (s : State) (o : Nat) : List ViewField :=
  if o = 0x18 then [(24, 16, s.ntn.queued), (1, 1, ofBool s.ntn.scrubbing), (0, 0, ofBool s.ntn.headerSingle)]
  else if o = 0x118 then
    let c := s.fld F.ntnCtrSelCounter
    match s.bestCell c 16 with
    | none => [(63, 62, 2), (61, 58, 0), (55, 0, 0)]
    | some (j, v) => [(63, 62, ofBool (decide (ctrLimit c ≤ v))), (61, 58, j), (55, 0, v)]
  else []

def State.viewEvr (s : State) (o : Nat) : List ViewField :=
  if o = 0x18 then
    [(48, 40, s.evt.queue.length), (32, 32, ofBool s.evt.clearing), (30, 16, s.ringCount), (15, 0, s.evt.next)]
  else if 0x110 ≤ o ∧ o < 0x130 then
    match s.ringAt (s.fld F.evrRdSelSlot) with
    | none => [(63, 0, 0)]
    | some r =>
      let rep := if s.evt.newest = some r.seq then s.repeatNow r else r.rep
      [(63, 0, r.word rep / 2 ^ (8 * (o - 0x110)) % 2 ^ 64)]
  else []

def bootCode : BootSt → Nat
  | .confirmed => 0 | .pendingReset => 1 | .trial => 2

def State.viewFwu (s : State) (o : Nat) : List ViewField :=
  let b := s.boot
  let img (i : Option Image) : List ViewField :=
    match i with | some x => [(63, 32, x.svn), (31, 0, x.version)] | none => [(63, 0, 0)]
  if o = 0x18 then
    [(19, 19, ofBool (if b.running = 0 then b.recA else b.recB)), (18, 18, ofBool s.fwu.recovery), (17, 17, ofBool s.fwu.paused),
      (16, 16, ofBool s.fwu.sched.isSome), (11, 8, match s.fwu.xfer with | some x => x.src.code | none => 0),
      (7, 6, s.fwu.selfCheck), (5, 4, bootCode b.st), (0, 0, b.running)]
  else if o = 0x100 then img s.fwu.imgA
  else if o = 0x108 then img s.fwu.imgB
  else if o = 0x110 then
    match s.fwu.xfer with
    | some x => [(63, 40, (x.len + 1023) / 1024), (36, 32, x.chunk), (31, 0, x.verified)]
    | none => []
  else if o = 0x118 then
    match s.fwu.sched with
    | some x => [(63, 63, ofBool x.pps), (62, 0, x.deadline)]
    | none => [(63, 0, 0)]
  else if o = 0x120 then [(31, 0, if b.st = .trial then (b.deadline - s.opMs) / 1000 else 0)]
  else []

def State.viewKve (s : State) (o : Nat) : List ViewField :=
  if o = 0x18 then
    let held := s.cry.kvOps.any fun k => match k with | .decrypt _ _ _ => true | _ => false
    [(47, 32, if held then s.freeBelow 65536 else 0),
      (21, 12, s.cry.doms.foldl (fun n p => n + ofBool p.2.gen0.isSome + ofBool p.2.gen1.isSome) 0),
      (3, 3, ofBool (s.cry.kvOps != [])), (1, 0, match s.cry.drbg with | .starting => 0 | .ready => 1 | .failed => 2)]
  else []

/-! ### FLT, EPO, CRY, UPK -/

def State.retEntry (s : State) : Option RetEnt := s.flt.ret[s.fld F.fltRetSelIndex]?

def State.viewFlt (s : State) (o : Nat) : List ViewField :=
  if o = 0x18 then
    [(63, 48, s.flt.ret.length), (47, 32, (s.flt.tests.filter fun t => !t.running).length),
      (31, 24, (s.flt.tests.filter fun t => t.running).length), (2, 2, ofBool s.flt.inj.isSome),
      (1, 1, ofBool s.flt.injAllowed), (0, 0, ofBool (s.flt.quar != []))]
  else if o = 0x120 then
    match s.retEntry with
    | some e => [(63, 63, 1), (62, 62, ofBool e.injected), (61, 61, ofBool e.undo), (43, 40, e.res.ty), (39, 32, e.cause), (31, 0, e.res.id)]
    | none => [(63, 0, 0)]
  else if o = 0x128 then [(63, 0, match s.retEntry with | some e => e.secs | none => 0)]
  else if o = 0x130 then
    [(63, 63, ofBool (decide (262143 < s.flt.quar.length))), (55, 32, s.flt.quar.length), (31, 0, s.flt.quarSeq)]
  else []

def State.viewEpo (s : State) (o : Nat) : List ViewField :=
  let x := s.epoDom (s.fld F.epoDomSelDomain)
  let d := s.dom (s.fld F.epoDomSelDomain)
  if o = 0x18 then
    [(63, 32, s.undoLines - s.undoTaken.foldl (fun n r => n + r.2) 0), (15, 8, (s.cry.doms.filter fun p => p.2.epochEn).length),
      (7, 0, (s.epo.doms.filter fun p => decide (p.2.st = .prepared)).length)]
  else if o = 0x108 then [(31, 0, s.undoMib)]
  else if o = 0x120 then [(16, 16, ofBool s.epo.dbBusy), (15, 0, s.epo.dbResult)]
  else if o = 0x130 then [(12, 8, x.k), (0, 0, ofBool x.policyStop)]
  else if o = 0x138 then
    [(7, 7, ofBool x.rollbackInc), (6, 6, ofBool x.armed.isSome), (5, 5, ofBool x.cleanup.isSome),
      (4, 4, if d.epochEn then x.phase else 0), (2, 0, epoCode x.st)]
  else if o = 0x140 then [(47, 0, x.c)]
  else if o = 0x148 then [(47, 0, x.shown)]
  else if o = 0x150 then [(39, 0, x.openTab.length)]
  else if o = 0x158 then [(39, 0, x.other)]
  else if o = 0x160 then [(59, 32, x.tbl1), (27, 0, x.tbl0)]
  else []

def State.viewCry (s : State) (o : Nat) : List ViewField :=
  let sweep := s.cry.doms.find? fun p => decide (p.2.sweep = .running ∨ p.2.sweep = .paused)
  if o = 0x18 then
    [(40, 40, ofBool sweep.isSome), (39, 32, match sweep with | some p => p.1 | none => 0),
      (24, 16, (s.cry.doms.filter fun p => p.2.halted).length), (0, 0, ofBool s.cry.deviceHalt)]
  else if o = 0x108 then
    [(37, 0, match sweep with | some p => (p.2.base + p.2.count) * 2 ^ 22 - p.2.pos | none => 0)]
  else if o = 0x118 then
    match s.cry.halts.getLast? with
    | some r => [(63, 63, 1), (62, 62, ofBool (!r.devScope)), (61, 61, ofBool r.done), (55, 48, r.dom), (47, 44, r.src), (37, 0, r.line)]
    | none => [(63, 0, 0)]
  else []

def State.viewUpk (s : State) (o : Nat) : List ViewField :=
  let all := s.upk.bolts
  if o = 0x18 then
    [(63, 56, maskIf 8 fun g => (s.upkG g).pace), (55, 48, maskIf 8 fun g => (s.upkG g).darn != 0),
      (47, 40, maskIf 8 fun g => (s.upkG g).urgent), (39, 32, maskIf 8 fun g => (s.upkG g).wring),
      (1, 1, ofBool s.upk.unknown), (0, 0, ofBool s.upk.unknown)]
  else if o = 0x120 then
    [(31, 16, if s.upk.rinse then (s.time.opNs - s.upk.rinseFrom) / (3600 * 10 ^ 9) else 0), (9, 0, s.freeBelow 1001)]
  else if o = 0x128 then
    match (List.range 8).find? fun g => (s.upkG g).darn != 0 with
    | some g => [(18, 16, g), (13, 12, (s.upkG g).darn), (9, 0, s.freeBelow 1001)]
    | none => [(18, 16, 0), (13, 12, 0), (9, 0, 0)]
  else if o = 0x130 then [(52, 32, if s.upk.unknown then s.boltsUnknown + s.triplesLeft else 0)]
  else if o = 0x138 then
    let spread (g : Nat) : Nat :=
      let l := s.listed g
      let hi := l.foldl (fun m p => max m p.2.resets) 0
      let lo := if l.length < s.boltsPerGroup then 0 else l.foldl (fun m p => min m p.2.resets) hi
      hi - lo
    [(63, 42, all.foldl (fun m p => max m p.2.resets) 0), (41, 20, s.resetSum / max 1 (s.popP * s.boltsPerGroup)),
      (19, 0, (List.range s.popP).foldl (fun m g => max m (spread g)) 0)]
  else if 0x140 ≤ o ∧ o < 0x180 then [(63, 0, Tab.get (fun _ => 0) s.upk.clk ((o - 0x140) / 8))]
  else if o = 0x188 then [(63, 0, (s.bolt (s.fld F.upkBoltSelGroup) (s.fld F.upkBoltSelBlock)).word / 2 ^ 64)]
  else if o = 0x190 then [(63, 0, s.upk.latch.toNat)]
  else []

/-! ### MAP, FCH, SWT, WRP -/

def mapCode : MapSt → Nat
  | .off => 0 | .unformatted => 1 | .loading => 2 | .replaying => 3 | .scanning => 4 | .closing => 5 | .active => 6 | .failed => 7

def State.viewMap (s : State) (o : Nat) : List ViewField :=
  if o = 0x18 then
    [(7, 7, ofBool (decide (131072 ≤ s.mdirty))), (6, 6, ofBool s.host.sanitizing), (5, 5, ofBool (s.map.unmap != [])),
      (4, 4, ofBool s.map.ckpt.isSome), (3, 3, ofBool s.map.dirtyRecovery), (2, 0, mapCode s.map.st)]
  else if o = 0x108 then [(49, 32, 131072), (17, 0, s.mdirty)]
  else if o = 0x120 then [(60, 60, ofBool (decide (0 < s.map.ovfLines))), (56, 32, s.map.ckptPos), (24, 0, s.map.headPos)]
  else if o = 0x128 then [(63, 0, s.map.durJsn)]
  else if o = 0x130 then [(63, 0, s.map.ckptJsn)]
  else if o = 0x140 then [(63, 32, s.map.single), (31, 8, s.map.dirLost.length), (6, 0, s.map.relocs.length)]
  else if o = 0x148 then [(60, 32, if s.map.fmt.isSome then s.intmapBase else 0)]
  else if o = 0x150 then [(60, 32, if s.map.fmt.isSome then s.ringLines else 0), (28, 0, if s.map.fmt.isSome then s.jnlBase else 0)]
  else if o = 0x160 then [(37, 0, match s.map.unmap with | r :: _ => r.2.1 | [] => 0)]
  else []

def fchCode : FchMode → Nat
  | .off => 0 | .enabling => 1 | .on => 2 | .draining => 3

def State.viewFch (s : State) (o : Nat) : List ViewField :=
  if o = 0x18 then
    [(31, 16, s.fch.wayEmpty.toNat), (7, 5, s.swt.ways), (3, 3, ofBool s.fch.maint.isSome),
      (2, 2, ofBool (decide (s.dirtyLimit ≤ s.dirtyCount))), (1, 0, fchCode s.fch.mode)]
  else if o = 0x108 then
    [(41, 32, (s.fch.victim.filter fun c => c.sd != 0#4).length), (20, 0, s.dirtyCount)]
  else if o = 0x140 then
    [(63, 48, s.fch.folded.toNat), (47, 0, (List.range 16).foldl (fun n g => n + min 5 (Tab.get (fun _ => 0) s.fch.spares g) * 8 ^ g) 0)]
  else []

def swtCode : SwtSt → Nat
  | .none => 0 | .carving => 1 | .active => 2 | .releasing => 3 | .restoring => 4

def State.viewSwt (s : State) (o : Nat) : List ViewField :=
  if o = 0x18 then [(55, 32, s.unwrittenWords), (10, 8, s.swt.ways), (2, 0, swtCode s.swt.st)] else []

def State.viewWrp (s : State) (o : Nat) : List ViewField :=
  if o = 0x18 then
    [(39, 32, countIf 128 fun n => (s.warp1 n).mode == .roundRobin), (24, 24, ofBool s.warp.valBusy.isSome),
      (23, 16, s.warp.degrOk.toNat), (15, 8, maskIf 8 s.tplInUse), (7, 0, s.warp.valid.toNat)]
  else []

/-! ### HST, PLY, SKN, PMC -/

def State.viewHst (s : State) (h o : Nat) : List ViewField :=
  let x := s.head h
  if o = 0x18 then [(63, 0, s.hstSts h)]
  else if o = 0x100 then
    [(47, 32, x.polarity), (24, 24, ofBool x.reversed), (23, 16, if s.host.hbif then 2 ^ h else 3 * 4 ^ h), (12, 8, s.lanes),
      (5, 0, s.lanes * h)]
  else if o = 0x128 then
    [(63, 48, s.readLimit / 2), (47, 32, s.readLimit),
      (31, 16, ((s.fch.mshr.flatMap (fun e => e.reqs ++ e.again) ++ s.fch.missWait ++ s.fch.dirtyWait).filter fun r => r.wr && r.h == h).length),
      (15, 0, s.outReads h)]
  else if o = 0x138 then
    [(5, 5, ofBool x.ioSel), (4, 4, ofBool x.ioLink), (2, 2, ofBool x.ideKeys), (1, 0, x.ideMode)]
  else []

def State.openView (b : Option OpenBolt) : List ViewField :=
  match b with
  | some x => [(63, 63, 1), (52, 48, x.w), (45, 32, x.next), (16, 0, x.block)]
  | none => [(63, 0, 0)]

def State.viewPly (s : State) (g o : Nat) : List ViewField :=
  let x := s.group g
  if o = 0x18 then
    [(47, 32, maskIf 16 fun i => s.populated (16 * g + i) && !s.skeinRetired (16 * g + i)), (20, 16, s.width g),
      (7, 7, ofBool x.islandReset), (6, 6, ofBool s.wp.flush.isSome), (5, 5, ofBool (s.admits g)), (4, 4, ofBool (decide (g < s.popP))),
      (1, 0, if s.popP ≤ g then 0 else if x.stopped then 3 else if s.width g < 16 then 2 else 1)]
  else if o = 0x110 then [(42, 32, s.partUsed g .upk), (26, 16, s.partUsed g .met), (10, 0, s.partUsed g .host)]
  else if o = 0x118 then State.openView x.host
  else if o = 0x120 then State.openView x.metaB
  else if o = 0x128 then State.openView x.upk
  else if o = 0x130 then [(16, 0, s.freeBolts g)]
  else []

def warpCode : WarpMode → Nat
  | .off => 0 | .normal => 1 | .degraded => 2 | .flush => 3 | .roundRobin => 4

def phaseCode : LinkPhase → Nat
  | .reset => 0 | .discover => 1 | .equalise => 2 | .align => 3 | .test => 4 | .active => 5 | .retrain => 6 | .failed => 7

def pkgCode : PkgState → Nat
  | .absent => 0 | .discovering => 1 | .incompatible => 2 | .limited => 3 | .compatible => 4 | .retired => 5

def State.viewSkn (s : State) (n o : Nat) : List ViewField :=
  let x := s.link1 n
  let w := s.warp1 n
  if o = 0x18 then
    [(23, 20, phaseCode x.st), (17, 16, x.version), (10, 8, pkgCode x.pkg), (4, 0, x.dies)]
  else if o = 0x100 then
    (if x.pageRead then [(63, 48, x.page.vendor), (47, 40, x.page.ver), (39, 32, x.page.features)] else []) ++
      [(31, 16, x.short.toNat), (7, 0, x.sbMhz)]
  else if o = 0x118 then
    [(63, 63, ofBool x.tempValid), (51, 48, x.hotDie), (41, 40, x.alert), (39, 32, x.tempFails), (15, 0, x.temp.toNat)]
  else if o = 0x120 then [(15, 0, x.eq.toNat)]
  else if o = 0x808 then
    [(39, 32, w.lead), (30, 24, s.time.slot), (18, 16, w.tpl), (2, 0, warpCode w.mode)]
  else if o = 0x810 then
    [(63, 56, s.turnHint n clsDrn false), (55, 48, s.turnHint n clsWrg false), (47, 40, s.turnHint n clsMet false),
      (39, 32, s.turnHint n clsHwr false), (31, 24, s.turnHint n clsDrn true), (23, 16, s.turnHint n clsWrg true),
      (15, 8, s.turnHint n clsMet true), (7, 0, s.turnHint n clsHrd true)]
  else if o = 0x818 then [(31, 16, (w.tokens % 65536).toNat), (15, 0, w.budget)]
  else if o = 0x828 then
    if w.dn == [] && w.rq == [] then [(47, 32, 0), (8, 8, 0), (3, 0, 0)]
    else [(47, 32, s.freeBelow 65536), (8, 8, s.freeBelow 2), (3, 0, s.freeBelow 16)]
  else if o = 0x830 then [(1, 1, ofBool w.asleep)]
  else []

/-- Counters of a page with EN set. -/
def State.viewPmc (s : State) (i o : Nat) : List ViewField :=
  if o = 0x18 then [(7, 0, countIf 64 fun k => getBits (s.reg (pmcCfgOff i k)) 31 31 == 1)] else []

/-- The fields of a page's register that the state gives. -/
def State.viewFields (s : State) (b : Block) (i o : Nat) : List ViewField :=
  match b with
  | .top => s.viewTop o
  | .pwr => s.viewPwr o
  | .thm => s.viewThm o
  | .hkp => s.viewHkp o
  | .ntn => s.viewNtn o
  | .evr => s.viewEvr o
  | .fwu => s.viewFwu o
  | .kve => s.viewKve o
  | .flt => s.viewFlt o
  | .epo => s.viewEpo o
  | .cry => s.viewCry o
  | .upk => s.viewUpk o
  | .map => s.viewMap o
  | .fch => s.viewFch o
  | .swt => s.viewSwt o
  | .wrp => s.viewWrp o
  | .hst => s.viewHst i o
  | .ply => s.viewPly i o
  | .pmc => s.viewPmc i o
  | .skn => s.viewSkn i o

/-! ### The windows -/

/-- A register of the CRY domain table (Table 11-14). -/
def State.viewDomain (s : State) (o : Nat) : Word :=
  let x := s.dom (o / 0x100)
  let id (k : Option KeySlot) : Nat := match k with | some v => v.id.toNat | none => 0
  let src := match x.gen x.cur with | some v => v.src | none => 0
  let r := o % 0x100
  overlayWord 0#64
    (if r = 0 then [(3, 3, ofBool x.epochEn), (2, 2, ofBool x.haltDom), (0, 0, ofBool x.integ)]
     else if r = 0x8 then
      [(15, 15, ofBool x.halted), (14, 14, ofBool (decide (x.sweep = .running))), (13, 12, src), (11, 11, ofBool x.next.isSome),
        (10, 10, ofBool x.gen1.isSome), (9, 9, ofBool x.gen0.isSome), (8, 8, x.cur), (1, 0, keyCode x.st)]
     else if r = 0x10 then [(47, 0, x.seq)]
     else if r = 0x18 then [(63, 0, id x.gen0)]
     else if r = 0x20 then [(63, 0, id x.gen1)]
     else if r = 0x28 then [(63, 0, id x.next)]
     else if r = 0x30 then [(63, 48, x.rekeys), (37, 0, x.pos)]
     else [])

/-- MAX_SEV of a routing entry: the highest severity among the source's bits (R561, Table 17-7). -/
def maxSev (k : Nat) : Nat :=
  allBlocks.foldl (fun m b => (List.range b.pages).foldl (fun m i => (List.range b.eventBits).foldl
    (fun m j => if Evt.src ⟨b, i, j⟩ = k then max m (Evt.sev ⟨b, i, j⟩) else m) m) m) 0

/-- An entry of the routing table; those of reserved sources read zero (R560, R561). -/
def State.viewRouting (s : State) (k : Nat) : Word :=
  if 768 ≤ k ∨ reservedSource k then 0#64 else putBits (s.routing k) 1 0 (maxSev k)

/-- The user counter view (R570). -/
def State.viewUser (s : State) (o : Nat) : Word :=
  let i := o / 8 / 64
  if 4 ≤ i then 0#64
  else if getBits (s.reg (0x30010 + i * 0x1000)) 2 2 = 1 then s.reg (pmcCntOff i (o / 8 % 64)) &&& maskOf 47 0 else 0#64

/-- Bits that read as zero: reserved ones and write-only fields (R4). -/
def readable (fs : List FieldDef) : Word :=
  fs.foldl (fun m f => if f.acc == .wo then m else m ||| maskOf f.hi f.lo) 0#64

/-- What a read of the aligned 64-bit register at `base` returns; zero where nothing is (R44). -/
def State.view (s : State) (base : Nat) : Word :=
  match windowAt base with
  | some .userView => s.viewUser (base - 0xC0000)
  | some .domTable => s.viewDomain (base - 0x100000)
  | some .routing => s.viewRouting ((base - 0x110000) / 8)
  | none =>
    match pageAt base with
    | none => 0#64
    | some (b, i, o) =>
      if b = .hst ∧ !s.present i then 0#64
      else
        match fieldsAt b i o with
        | some fs => overlayWord (s.reg base) (s.viewFields b i o) &&& readable fs
        | none => overlayWord (s.reg base) (s.viewFields b i o)

/-- ERR_INFO_READ (R557): the read returns the addressed half or the whole of ERR_INFO and latches its upper half and
ERR_ADDR for the reading head. A 32-bit read of the upper half returns what was latched. A read of any other register
returns its value as `State.view` has it. A misaligned read, or one of another width, returns all ones (R7). -/
def execErrInfoRead (h off width : Nat) (s : State) : Host.Outcome State Fault Refusal :=
  done (s.barReadGate h fun s =>
    if (width ≠ 4 ∧ width ≠ 8) ∨ off % width ≠ 0 then
      (s.accessErr h false width off 1).emit (.barData h (BitVec.allOnes 64))
    else
    let base := off / 8 * 8
    let half (v : Word) : Word := if width = 8 then v else if off % 8 = 4 then v >>> 32 else v &&& 0xFFFFFFFF#64
    let x := s.head h
    let v := s.reg base
    match pageAt base with
    | some (b, i, 0x38) =>
      if b = .hst ∧ !s.present i then s.emit (.barData h 0#64)
      else if width = 4 ∧ off % 8 = 4 then
        match Tab.get (fun _ => none) x.latch (base - 0x38) with
        | some (hi, _) => s.emit (.barData h (hi.zeroExtend 64))
        | none => s.emit (.barData h (v >>> 32))
      else
        let latched := (v.extractLsb' 32 32, s.reg (base + 8))
        (s.setHead h { x with latch := Tab.set (fun _ => none) x.latch (base - 0x38) (some latched) }).emit
          (.barData h (half v))
    | some (b, i, 0x40) =>
      if b = .hst ∧ !s.present i then s.emit (.barData h 0#64)
      else
        match Tab.get (fun _ => none) x.latch (base - 0x40) with
        | some (_, a) => s.emit (.barData h (half a))
        | none => s.emit (.barData h (half v))
    | _ => (s.draw.1).emit (.barData h (half (s.view base))))

end Sys2Proof.Machine
end

