-- ==== Sys2Proof/Machine/Notion.lean ====
section
/-!
DEFINITION. The Notion store's own commands (R489, R494 to R500, R512) and the CXL Label Storage Area it holds (R74).
-/
namespace Sys2Proof.Machine

/-- Regions of the store that the outcome of an uncorrectable word depends on (Table 15-3, Table 15-4). -/
inductive NtnRegion where
  | header | counter | lsa | recorder | records | none
deriving DecidableEq, Repr

def ntnRegion (off : Nat) : NtnRegion :=
  if off < 0x1000 then .header
  else if off < 0x3000 then .counter
  else if 0x80000 ≤ off ∧ off < 0xC0000 then .lsa
  else if 0xC0000 ≤ off ∧ off < 0x140000 then .recorder
  else if off < 0x80000 then .records
  else .none

/-- A corrected word (R489). -/
def State.wordCorrected (s : State) (off : Nat) : State := (s.bump F.ntnCntCorr 1).raiseN Ev.ntnWordCorrected 0 off

/-- An uncorrectable word and its outcome by region (Table 15-4). -/
def State.wordUncorr (s : State) (off : Nat) : State :=
  let s := (s.bump F.ntnCntUncorr 1).raiseN Ev.ntnWordUncorr 0 off
  match ntnRegion off with
  | .header => { s with ntn := { s.ntn with headerSingle := true } }
  | .counter => s.setCell ((off - 0x1000) / 128) ((off - 0x1000) % 128 / 8) none
  | .lsa =>
    { s with ntn := { s.ntn with lsa := Tab.set (fun _ => 0#64) s.ntn.lsa ((off - 0x80000) / 8) 0#64 } }.raiseN
      Ev.ntnLsaWordLost 0 off
  | .recorder => { s with evt := { s.evt with ring := Tab.set (fun _ => none) s.evt.ring ((off - 0xC0000) / 32) none } }
  | .records => s.raiseN Ev.ntnRecordInvalid 0 off
  | .none => s

/-- A spread counter whose newest valid cell is followed by an invalid cell is reported by the scrub (R500). -/
def State.scrubCounter (s : State) (c : Nat) : State :=
  match s.bestCell c 16 with
  | some (j, _) =>
    if s.cell c ((j + 1) % 16) = none then s.raiseN Ev.ntnCounterCellBad (c * 2 ^ 8) (cellOffset c ((j + 1) % 16)) else s
  | none => s.raiseN Ev.ntnCounterFailed (c * 2 ^ 8) (cellOffset c 0)

/-- NTN_SCRUB (R489, R499, R500): the periodic pass starts; the words it finds corrected or uncorrectable and the cells
it finds bad come with the command. -/
def execNtnScrub (corrected uncorr badCells : List Nat) (s : State) : Host.Outcome State Fault Refusal :=
  done (s.when (s.pwr.coreOn && !s.ntn.scrubbing) fun s =>
    let s := { s with ntn := { s.ntn with scrubbing := true } }
    let s := corrected.foldl State.wordCorrected s
    let s := uncorr.foldl State.wordUncorr s
    let s := badCells.foldl (fun t k => t.setCell (k / 16) (k % 16) none) s
    (List.range 33).foldl State.scrubCounter s)

/-- SCRUB_NOW (R500, R512): ignored while a pass runs. -/
def execScrubNow (h : Nat) (s : State) : Host.Outcome State Fault Refusal :=
  done (s.barWrite h 0x4010 fun s =>
    if s.ntn.scrubbing then s else { s with ntn := { s.ntn with scrubbing := true } })

/-- SCRUB_DONE (R500). -/
def execScrubDone (s : State) : Host.Outcome State Fault Refusal :=
  done (s.when (s.pwr.coreOn && s.ntn.scrubbing) fun s =>
    (({ s with ntn := { s.ntn with scrubbing := false } }).bump F.ntnCntScrubs 1).raise Ev.ntnScrubDone)

/-- NTN_CNT_CLR (R512). -/
def execNtnCntClr (h : Nat) (s : State) : Host.Outcome State Fault Refusal :=
  done (s.barWrite h 0x4010 fun s => s.setReg 0x4108 0#64)

/-- Byte `a` of the LSA. -/
def State.lsaByte (s : State) (a : Nat) : BitVec 8 :=
  ((Tab.get (fun _ => 0#64) s.ntn.lsa (a / 8)) >>> (8 * (a % 8))).truncate 8

/-- Write one byte of the LSA. -/
def State.setLsaByte (s : State) (a : Nat) (v : BitVec 8) : State :=
  let w := Tab.get (fun _ => 0#64) s.ntn.lsa (a / 8)
  { s with ntn := { s.ntn with
      lsa := Tab.set (fun _ => 0#64) s.ntn.lsa (a / 8) (putBits w (8 * (a % 8) + 7) (8 * (a % 8)) v.toNat) } }

/-- Write bytes from `a` on. -/
def State.setLsaBytes (s : State) (a : Nat) : List Nat → State
  | [] => s
  | v :: vs => (s.setLsaByte a (BitVec.ofNat 8 v)).setLsaBytes (a + 1) vs

/-- GET_LSA (R74): bytes of the 256 KiB area. -/
def execGetLsa (h off len : Nat) (s : State) : Host.Outcome State Fault Refusal :=
  done (s.mailbox h fun s =>
    if 262144 < off + len then s.answerMbox h .invalidInput []
    else s.answerMbox h .success ((List.range len).map fun i => (s.lsaByte (off + i)).toNat))

/-- SET_LSA (R74, R77): durable when it completes. -/
def execSetLsa (h off : Nat) (data : List Nat) (s : State) : Host.Outcome State Fault Refusal :=
  done (s.mailboxRw h fun s =>
    if 262144 < off + data.length then s.answerMbox h .invalidInput []
    else (s.setLsaBytes off data).answerMbox h .success [])

end Sys2Proof.Machine
end

