-- ==== Sys2Proof/Machine/Pmc.lean ====
section
/-!
DEFINITION. The commands of the performance counters (R566 to R572).
-/
namespace Sys2Proof.Machine

/-- PMC_FREEZE_WRITE (R569): TOP_CTL.PMC_FREEZE. -/
def execPmcFreezeWrite (h : Nat) (value : Bool) (s : State) : Host.Outcome State Fault Refusal :=
  done (s.barWrite h 0x10 fun s => s.setFld F.topCtlPmcFreeze (ofBool value))

/-- PMC_OVERFLOW (R567, R568): a running counter takes a count that passes 2^48 - 1 and goes on from the remainder. A count
that does not pass it is no overflow. -/
def execPmcOverflow (i k inc : Nat) (s : State) : Host.Outcome State Fault Refusal :=
  done (s.when (s.pwr.coreOn && decide (i < 4 ∧ k < 64) && s.pmcRuns i k &&
      decide (2 ^ 48 ≤ (s.reg (pmcCntOff i k)).toNat % 2 ^ 48 + inc)) fun s => State.pmcAdd 64 s i k inc)

/-- Every counter of page `i` below `k` becomes 0. -/
def State.zeroCounters (s : State) (i : Nat) : Nat → State
  | 0 => s
  | k + 1 => (s.zeroCounters i k).setReg (pmcCntOff i k) 0#64

/-- PMC_CNT_CLR (R572). -/
def execPmcCntClr (h i : Nat) (s : State) : Host.Outcome State Fault Refusal :=
  done (s.barWrite h (0x30010 + i * 0x1000) fun s =>
    if i < 4 then (s.zeroCounters i 64).setReg (pmcOvfOff i) 0#64 else s)

/-- The number of the only one in a mask, or none. -/
def onlyBit (m : BitVec 32) : Option Nat :=
  match (List.range 32).filter fun i => m.getLsbD i with
  | [i] => some i
  | _ => none

/-- CPMU_CONFIG_WRITE (R571): the counter takes event `32 × group + bit` with ALL = 1; a mask of more than one bit is
ignored, an empty mask names no event. -/
def execCpmuConfigWrite (h i k group : Nat) (mask : BitVec 32) (enable intEn : Bool) (s : State) :
    Host.Outcome State Fault Refusal :=
  done (s.barWrite h (pmcCfgOff i k) fun s =>
    let set (ev : Nat) : State :=
      s.setReg (pmcCfgOff i k) (BitVec.ofNat 64 (ofBool enable * 2 ^ 31 + ofBool intEn * 2 ^ 29 + 2 ^ 28 + ev))
    if 4 ≤ i ∨ 64 ≤ k then s
    else if mask = 0#32 then set 0
    else
      match onlyBit mask with
      | some b => if 32 * group + b < 4096 then set (32 * group + b) else s
      | none => s)

end Sys2Proof.Machine
end

