-- ==== Sys2Proof/Machine/Side.lean ====
section
/-!
DEFINITION. The sideband ports: I3C with its common command codes, MCTP, and the TAP (R528, R592, R593).
-/
namespace Sys2Proof.Machine

/-- MCTP_MESSAGE: routed to PLDM or SPDM, whose commands give its effect. -/
def execMctpMessage (pldm : Bool) (opcode : Nat) (s : State) : Host.Outcome State Fault Refusal :=
  done (s.spdm 8 fun s => s.emit (.i3c true [ofBool pldm, opcode]))

/-- A dynamic address is given. -/
def State.giveAddr (s : State) (a : Nat) : State :=
  ({ s with side := { s.side with i3cAddr := some (a % 128), hotJoin := false } } : State).emit (.i3c true [])

/-- A command code addressed to the target: not acknowledged without an address. -/
def State.addressed (s : State) (direct : Bool) (k : State → State) : State :=
  if direct ∧ s.side.i3cAddr.isNone then s.emit (.i3c false []) else k s

/-- The answer to a code whose value the spec does not give. -/
def State.freeAnswer (s : State) (n : Nat) : State :=
  let (t, w) := s.draw
  t.emit (.i3c true [w.toNat % 2 ^ n])

/-- A common command code (PRESUMED: the codes of I3C Basic). Of a pair the direct form has bit 7 set. -/
def State.ccc (s : State) (code : Nat) (direct : Bool) (arg : Nat) : State :=
  let ack (t : State) : State := t.emit (.i3c true [])
  let base := if direct ∧ 0x80 ≤ code then code - 0x80 else code
  match direct, base with
  | false, 0x07 => if s.side.i3cAddr.isSome then s.emit (.i3c false []) else s.giveAddr arg
  | true, 0x07 => if s.side.i3cAddr.isSome then s.emit (.i3c false []) else s.giveAddr arg
  | _, 0x06 => s.addressed direct fun s => ack { s with side := { s.side with i3cAddr := none } }
  | _, 0x00 => s.addressed direct fun s => ack { s with side := { s.side with i3cEvents := s.side.i3cEvents || bitAt arg 0 } }
  | _, 0x01 => s.addressed direct fun s => ack { s with side := { s.side with i3cEvents := s.side.i3cEvents && !bitAt arg 0 } }
  | _, 0x09 => s.addressed direct fun s => ack { s with side := { s.side with mwl := min 256 arg } }
  | _, 0x0A => s.addressed direct fun s => ack { s with side := { s.side with mrl := min 256 arg } }
  | true, 0x0B => s.addressed true fun s => s.emit (.i3c true [s.side.mwl])
  | true, 0x0C => s.addressed true fun s => s.emit (.i3c true [s.side.mrl])
  | true, 0x0D => s.addressed true fun s => s.emit (.i3c true [Config.serial.toNat % 2 ^ 32])
  | true, 0x0E => s.addressed true fun s => s.freeAnswer 8
  | true, 0x0F => s.addressed true fun s => s.freeAnswer 8
  | true, 0x10 => s.addressed true fun s => s.freeAnswer 16
  | false, 0x2A => ack s
  | true, 0x1A => s.addressed true ack
  | _, _ => s.emit (.i3c false [])

/-- I3C_CCC: served only while the device is ON. -/
def execI3cCcc (code : Nat) (direct : Bool) (arg : Nat) (s : State) : Host.Outcome State Fault Refusal :=
  let s := s.begin
  done (if s.pwr.st = .on then s.ccc code direct arg else s.emit .notAccepted)

/-- The TAP leaves a ball-controlling instruction: a device conventional reset when it was in force with the core released. -/
def State.leaveBalls (s : State) : State :=
  if s.side.jtagHeld then
    let t : State := { s with side := { s.side with jtagHeld := false } }
    if t.pwr.coreOn ∧ t.pwr.st = .on ∧ t.pwr.devReset = .none then t.startDevReset else t
  else s

/-- JTAG_INSTRUCTION_LOAD. -/
def execJtagInstructionLoad (inst : JtagInst) (s : State) : Host.Outcome State Fault Refusal :=
  let s := s.begin
  let acts := if holdsBalls inst && s.host.memActive then JtagInst.bypass else match inst with | .other => .bypass | i => i
  let t : State := { s with side := { s.side with jtag := acts } }
  done (if holdsBalls acts then { t with side := { t.side with jtagHeld := t.side.jtagHeld || t.pwr.coreOn } } else t.leaveBalls)

/-- JTAG_EXTEST_EXIT. -/
def execJtagExtestExit (s : State) : Host.Outcome State Fault Refusal :=
  done (s.when (holdsBalls s.side.jtag) fun s => ({ s with side := { s.side with jtag := .bypass } } : State).leaveBalls)

end Sys2Proof.Machine
end

