-- ==== Sys2Proof/Machine/Dispatch.lean ====
section
/-!
DEFINITION. exec: one arm for each command, each one call of its meaning.
-/
namespace Sys2Proof.Machine

/-- The effect of a command on everything but the queue. -/
def exec (i : Instr) (s : State) : Host.Outcome State Fault Refusal :=
  match i with
  | .misalignedAccess h write off width => Sys2Proof.Machine.execMisalignedAccess h write off width s
  | .controlBarWrite h off width data => Sys2Proof.Machine.execControlBarWrite h off width data s
  | .errInfoRead h off width => Sys2Proof.Machine.execErrInfoRead h off width s
  | .evtStsClear h off width data => Sys2Proof.Machine.execEvtStsClear h off width data s
  | .evtForce h off width data => Sys2Proof.Machine.execEvtForce h off width data s
  | .setMachineIndex h payload => Sys2Proof.Machine.execSetMachineIndex h payload s
  | .setTimestamp h ns => Sys2Proof.Machine.execSetTimestamp h ns s
  | .getTimestamp h => Sys2Proof.Machine.execGetTimestamp h s
  | .ppsEdge => Sys2Proof.Machine.execPpsEdge s
  | .ppsLost => Sys2Proof.Machine.execPpsLost s
  | .deadlineFire id => Sys2Proof.Machine.execDeadlineFire id s
  | .unalignedFire id => Sys2Proof.Machine.execUnalignedFire id s
  | .pickBoundary => Sys2Proof.Machine.execPickBoundary s
  | .tokenInstalment => Sys2Proof.Machine.execTokenInstalment s
  | .downstreamSlot n => Sys2Proof.Machine.execDownstreamSlot n s
  | .aging n cls => Sys2Proof.Machine.execAging n cls s
  | .stall q cls skeins => Sys2Proof.Machine.execStall q cls skeins s
  | .stallCleared q => Sys2Proof.Machine.execStallCleared q s
  | .stallPersist q => Sys2Proof.Machine.execStallPersist q s
  | .laneWake n => Sys2Proof.Machine.execLaneWake n s
  | .wrpTemplateWrite h up t p width lo data => Sys2Proof.Machine.execWrpTemplateWrite h up t p width lo data s
  | .validate h t => Sys2Proof.Machine.execValidate h t s
  | .validateDone => Sys2Proof.Machine.execValidateDone s
  | .wrpCntClr h => Sys2Proof.Machine.execWrpCntClr h s
  | .sknWarpSelWrite h n norm degr => Sys2Proof.Machine.execSknWarpSelWrite h n norm degr s
  | .hkpConversion value => Sys2Proof.Machine.execHkpConversion value s
  | .thmReadmit h t => Sys2Proof.Machine.execThmReadmit h t s
  | .thmCntClr h => Sys2Proof.Machine.execThmCntClr h s
  | .hkpCntClr h => Sys2Proof.Machine.execHkpCntClr h s
  | .thermalTrip t => Sys2Proof.Machine.execThermalTrip t s
  | .tempHistoryMinute => Sys2Proof.Machine.execTempHistoryMinute s
  | .tempHistorySave => Sys2Proof.Machine.execTempHistorySave s
  | .setMediaPowerCap h watts save => Sys2Proof.Machine.execSetMediaPowerCap h watts save s
  | .getMediaPowerCap h => Sys2Proof.Machine.execGetMediaPowerCap h s
  | .hstPerstDeassert h => Sys2Proof.Machine.execHstPerstDeassert h s
  | .hstPerstAssert h => Sys2Proof.Machine.execHstPerstAssert h s
  | .headLinkTrained h speed width reversed polarity => Sys2Proof.Machine.execHeadLinkTrained h speed width reversed polarity s
  | .headTrainingFailed h => Sys2Proof.Machine.execHeadTrainingFailed h s
  | .headLinkDown h => Sys2Proof.Machine.execHeadLinkDown h s
  | .headConventionalReset h => Sys2Proof.Machine.execHeadConventionalReset h s
  | .headHotReset h => Sys2Proof.Machine.execHeadHotReset h s
  | .headFlr h => Sys2Proof.Machine.execHeadFlr h s
  | .d3hotEntry h => Sys2Proof.Machine.execD3hotEntry h s
  | .d0Return h => Sys2Proof.Machine.execD0Return h s
  | .headDisable h target value => Sys2Proof.Machine.execHeadDisable h target value s
  | .headRetrain h target => Sys2Proof.Machine.execHeadRetrain h target s
  | .headCntClr h target => Sys2Proof.Machine.execHeadCntClr h target s
  | .roMgmtWrite h target value => Sys2Proof.Machine.execRoMgmtWrite h target value s
  | .headCorrectableError h => Sys2Proof.Machine.execHeadCorrectableError h s
  | .ideIntegrityFail h => Sys2Proof.Machine.execIdeIntegrityFail h s
  | .ideKeyProgram h session stream mode => Sys2Proof.Machine.execIdeKeyProgram h session stream mode s
  | .memRd h tag hpa => Sys2Proof.Machine.execMemRd h tag hpa s
  | .memRdData h tag hpa => Sys2Proof.Machine.execMemRdData h tag hpa s
  | .memSpecRd h hpa => Sys2Proof.Machine.execMemSpecRd h hpa s
  | .memInv h tag => Sys2Proof.Machine.execMemInv h tag s
  | .memInvNt h tag => Sys2Proof.Machine.execMemInvNt h tag s
  | .memWr h tag hpa data poison => Sys2Proof.Machine.execMemWr h tag hpa data poison s
  | .memWrPtl h tag hpa data be poison => Sys2Proof.Machine.execMemWrPtl h tag hpa data be poison s
  | .invalidMemOpcode h opcode hpa => Sys2Proof.Machine.execInvalidMemOpcode h opcode hpa s
  | .missWaitResume => Sys2Proof.Machine.execMissWaitResume s
  | .dirtyWaitAdmit => Sys2Proof.Machine.execDirtyWaitAdmit s
  | .cleanerWriteback => Sys2Proof.Machine.execCleanerWriteback s
  | .evictionResume => Sys2Proof.Machine.execEvictionResume s
  | .stagingEntry line => Sys2Proof.Machine.execStagingEntry line s
  | .prefetchIssue t => Sys2Proof.Machine.execPrefetchIssue t s
  | .prefetchFill line data => Sys2Proof.Machine.execPrefetchFill line data s
  | .fchWaymaskWrite h rd wr pf => Sys2Proof.Machine.execFchWaymaskWrite h rd wr pf s
  | .wayEmpty w => Sys2Proof.Machine.execWayEmpty w s
  | .dirtyLimitWrite h limitMib cleanPct => Sys2Proof.Machine.execDirtyLimitWrite h limitMib cleanPct s
  | .fchEnable h => Sys2Proof.Machine.execFchEnable h s
  | .fchEnabled => Sys2Proof.Machine.execFchEnabled s
  | .fchDisable h => Sys2Proof.Machine.execFchDisable h s
  | .drainDone => Sys2Proof.Machine.execDrainDone s
  | .fchCntClr h => Sys2Proof.Machine.execFchCntClr h s
  | .maintWb h first count => Sys2Proof.Machine.execMaintWb h first count s
  | .maintWbInv h first count => Sys2Proof.Machine.execMaintWbInv h first count s
  | .maintInv h first count => Sys2Proof.Machine.execMaintInv h first count s
  | .maintWbAll h => Sys2Proof.Machine.execMaintWbAll h s
  | .maintInvalidOp h op first count => Sys2Proof.Machine.execMaintInvalidOp h op first count s
  | .maintDone => Sys2Proof.Machine.execMaintDone s
  | .groupFolded bg => Sys2Proof.Machine.execGroupFolded bg s
  | .diagRead h set way word => Sys2Proof.Machine.execDiagRead h set way word s
  | .diagWrite h set way word => Sys2Proof.Machine.execDiagWrite h set way word s
  | .swatchCarve h ways => Sys2Proof.Machine.execSwatchCarve h ways s
  | .carveDone => Sys2Proof.Machine.execCarveDone s
  | .swatchRelease h keep => Sys2Proof.Machine.execSwatchRelease h keep s
  | .swatchLineHandback => Sys2Proof.Machine.execSwatchLineHandback s
  | .queuePacket q pkt parityOk => Sys2Proof.Machine.execQueuePacket q pkt parityOk s
  | .queueReplay q parityOk => Sys2Proof.Machine.execQueueReplay q parityOk s
  | .requestTimeout src reissued h tag => Sys2Proof.Machine.execRequestTimeout src reissued h tag s
  | .clockDriftLinkError n => Sys2Proof.Machine.execClockDriftLinkError n s
  | .islandFault g => Sys2Proof.Machine.execIslandFault g s
  | .gpfPhase2Request h => Sys2Proof.Machine.execGpfPhase2Request h s
  | .queuedFlushStart => Sys2Proof.Machine.execQueuedFlushStart s
  | .flushDone notionOk => Sys2Proof.Machine.execFlushDone notionOk s
  | .identify h => Sys2Proof.Machine.execIdentify h s
  | .backgroundOperationStatus h => Sys2Proof.Machine.execBackgroundOperationStatus h s
  | .getResponseMessageLimit h => Sys2Proof.Machine.execGetResponseMessageLimit h s
  | .setResponseMessageLimit h limit => Sys2Proof.Machine.execSetResponseMessageLimit h limit s
  | .getEventRecords h log => Sys2Proof.Machine.execGetEventRecords h log s
  | .clearEventRecords h log all handles => Sys2Proof.Machine.execClearEventRecords h log all handles s
  | .getEventInterruptPolicy h => Sys2Proof.Machine.execGetEventInterruptPolicy h s
  | .setEventInterruptPolicy h info warn fail fatal => Sys2Proof.Machine.execSetEventInterruptPolicy h info warn fail fatal s
  | .getFwInfo h => Sys2Proof.Machine.execGetFwInfo h s
  | .transferFw h action slot off data leavesOk sigOk => Sys2Proof.Machine.execTransferFw h action slot off data leavesOk sigOk s
  | .activateFw h online slot => Sys2Proof.Machine.execActivateFw h online slot s
  | .getSupportedLogs h => Sys2Proof.Machine.execGetSupportedLogs h s
  | .getLog h log off len => Sys2Proof.Machine.execGetLog h log off len s
  | .getLogCapabilities h log => Sys2Proof.Machine.execGetLogCapabilities h log s
  | .clearLog h log => Sys2Proof.Machine.execClearLog h log s
  | .getSupportedFeatures h => Sys2Proof.Machine.execGetSupportedFeatures h s
  | .getFeature h feature => Sys2Proof.Machine.execGetFeature h feature s
  | .setFeature h feature hours => Sys2Proof.Machine.execSetFeature h feature hours s
  | .identifyMemoryDevice h => Sys2Proof.Machine.execIdentifyMemoryDevice h s
  | .getPartitionInfo h => Sys2Proof.Machine.execGetPartitionInfo h s
  | .setPartitionInfo h => Sys2Proof.Machine.execSetPartitionInfo h s
  | .getLsa h off len => Sys2Proof.Machine.execGetLsa h off len s
  | .setLsa h off data => Sys2Proof.Machine.execSetLsa h off data s
  | .getHealthInfo h => Sys2Proof.Machine.execGetHealthInfo h s
  | .getAlertConfiguration h => Sys2Proof.Machine.execGetAlertConfiguration h s
  | .setAlertConfiguration h enable values => Sys2Proof.Machine.execSetAlertConfiguration h enable values s
  | .getShutdownState h => Sys2Proof.Machine.execGetShutdownState h s
  | .setShutdownState h value => Sys2Proof.Machine.execSetShutdownState h value s
  | .getPoisonList h first len => Sys2Proof.Machine.execGetPoisonList h first len s
  | .injectPoison h dpa => Sys2Proof.Machine.execInjectPoison h dpa s
  | .clearPoison h dpa data => Sys2Proof.Machine.execClearPoison h dpa data s
  | .getScanMediaCapabilities h first len => Sys2Proof.Machine.execGetScanMediaCapabilities h first len s
  | .scanMedia h first len => Sys2Proof.Machine.execScanMedia h first len s
  | .scanMediaDone => Sys2Proof.Machine.execScanMediaDone s
  | .getScanMediaResults h => Sys2Proof.Machine.execGetScanMediaResults h s
  | .sanitize h => Sys2Proof.Machine.execSanitize h s
  | .secureErase h => Sys2Proof.Machine.execSecureErase h s
  | .sanitizeDone => Sys2Proof.Machine.execSanitizeDone s
  | .getSldQosControl h => Sys2Proof.Machine.execGetSldQosControl h s
  | .setSldQosControl h egress moderate severe => Sys2Proof.Machine.execSetSldQosControl h egress moderate severe s
  | .getSldQosStatus h => Sys2Proof.Machine.execGetSldQosStatus h s
  | .unsupportedOpcode h opcode => Sys2Proof.Machine.execUnsupportedOpcode h opcode s
  | .setDomainExtent h d base count => Sys2Proof.Machine.execSetDomainExtent h d base count s
  | .getDomainExtents h => Sys2Proof.Machine.execGetDomainExtents h s
  | .getHeadStatus h => Sys2Proof.Machine.execGetHeadStatus h s
  | .unmapDone => Sys2Proof.Machine.execUnmapDone s
  | .doeDiscovery h index => Sys2Proof.Machine.execDoeDiscovery h index s
  | .cdatTableAccess h => Sys2Proof.Machine.execCdatTableAccess h s
  | .spdmGetCertificate port off len => Sys2Proof.Machine.execSpdmGetCertificate port off len s
  | .spdmChallenge port nonce => Sys2Proof.Machine.execSpdmChallenge port nonce s
  | .spdmGetMeasurements port index sign => Sys2Proof.Machine.execSpdmGetMeasurements port index sign s
  | .spdmKeyExchange port requester => Sys2Proof.Machine.execSpdmKeyExchange port requester s
  | .securedMessage port session len tagOk => Sys2Proof.Machine.execSecuredMessage port session len tagOk s
  | .getPqSignature port => Sys2Proof.Machine.execGetPqSignature port s
  | .respondIfReady port => Sys2Proof.Machine.execRespondIfReady port s
  | .getPqCertificate port off len => Sys2Proof.Machine.execGetPqCertificate port off len s
  | .setDomainKey session d next key => Sys2Proof.Machine.execSetDomainKey session d next key s
  | .destroyDomainKey session d => Sys2Proof.Machine.execDestroyDomainKey session d s
  | .startRekey session d => Sys2Proof.Machine.execStartRekey session d s
  | .getKeyInfo session d => Sys2Proof.Machine.execGetKeyInfo session d s
  | .unsealQuarantine session seq => Sys2Proof.Machine.execUnsealQuarantine session seq s
  | .generateDomainKey h d next => Sys2Proof.Machine.execGenerateDomainKey h d next s
  | .rekeySweepStart d => Sys2Proof.Machine.execRekeySweepStart d s
  | .rekeySweepDone d => Sys2Proof.Machine.execRekeySweepDone d s
  | .oldGenerationZeroize d => Sys2Proof.Machine.execOldGenerationZeroize d s
  | .integEnWrite h d value => Sys2Proof.Machine.execIntegEnWrite h d value s
  | .cryCntClr h => Sys2Proof.Machine.execCryCntClr h s
  | .kveReseed h => Sys2Proof.Machine.execKveReseed h s
  | .kveCntClr h => Sys2Proof.Machine.execKveCntClr h s
  | .drbgReseedTimer => Sys2Proof.Machine.execDrbgReseedTimer s
  | .entropyFail => Sys2Proof.Machine.execEntropyFail s
  | .entropyRetest pass => Sys2Proof.Machine.execEntropyRetest pass s
  | .keyVaultOpDone ok => Sys2Proof.Machine.execKeyVaultOpDone ok s
  | .epochPrepare h d e deadline pps => Sys2Proof.Machine.execEpochPrepare h d e deadline pps s
  | .epochCommit h d e => Sys2Proof.Machine.execEpochCommit h d e s
  | .epochAbort h d e => Sys2Proof.Machine.execEpochAbort h d e s
  | .getEpochStatus h d => Sys2Proof.Machine.execGetEpochStatus h d s
  | .doorbellPrepare h d e => Sys2Proof.Machine.execDoorbellPrepare h d e s
  | .doorbellCommit h d e => Sys2Proof.Machine.execDoorbellCommit h d e s
  | .doorbellAbort h d e => Sys2Proof.Machine.execDoorbellAbort h d e s
  | .prepareDone d => Sys2Proof.Machine.execPrepareDone d s
  | .commitDone d => Sys2Proof.Machine.execCommitDone d s
  | .abortDone d bad => Sys2Proof.Machine.execAbortDone d bad s
  | .epochEnableWrite h d => Sys2Proof.Machine.execEpochEnableWrite h d s
  | .epochDisableWrite h d => Sys2Proof.Machine.execEpochDisableWrite h d s
  | .epochEnabled d => Sys2Proof.Machine.execEpochEnabled d s
  | .epoCntClr h => Sys2Proof.Machine.execEpoCntClr h s
  | .stripeTimeout g => Sys2Proof.Machine.execStripeTimeout g s
  | .padNow h g => Sys2Proof.Machine.execPadNow h g s
  | .plyAdmitOff h g value => Sys2Proof.Machine.execPlyAdmitOff h g value s
  | .plyCntClr h g => Sys2Proof.Machine.execPlyCntClr h g s
  | .mergeReadDone line result => Sys2Proof.Machine.execMergeReadDone line result s
  | .upstreamFrame n f => Sys2Proof.Machine.execUpstreamFrame n f s
  | .lineVerify line => Sys2Proof.Machine.execLineVerify line s
  | .reconstructionDone line result => Sys2Proof.Machine.execReconstructionDone line result s
  | .poisonTimer line => Sys2Proof.Machine.execPoisonTimer line s
  | .downstreamFrameAccepted n => Sys2Proof.Machine.execDownstreamFrameAccepted n s
  | .completionTimeout n slot found => Sys2Proof.Machine.execCompletionTimeout n slot found s
  | .mapRecordAppend g => Sys2Proof.Machine.execMapRecordAppend g s
  | .journalLineTimeout => Sys2Proof.Machine.execJournalLineTimeout s
  | .journalLineDurable => Sys2Proof.Machine.execJournalLineDurable s
  | .checkpointRecordCount => Sys2Proof.Machine.execCheckpointRecordCount s
  | .checkpointPeriod => Sys2Proof.Machine.execCheckpointPeriod s
  | .ckptNow h => Sys2Proof.Machine.execCkptNow h s
  | .mapCntClr h => Sys2Proof.Machine.execMapCntClr h s
  | .checkpointDone => Sys2Proof.Machine.execCheckpointDone s
  | .mapFill kind idx ok => Sys2Proof.Machine.execMapFill kind idx ok s
  | .mapDirtyWaitResume => Sys2Proof.Machine.execMapDirtyWaitResume s
  | .mapCleaner => Sys2Proof.Machine.execMapCleaner s
  | .mapPrefetch m => Sys2Proof.Machine.execMapPrefetch m s
  | .mapPrefetchDrop m => Sys2Proof.Machine.execMapPrefetchDrop m s
  | .sgGapMove n half => Sys2Proof.Machine.execSgGapMove n half s
  | .gapMoveDone n half => Sys2Proof.Machine.execGapMoveDone n half s
  | .dirRebuildDone line => Sys2Proof.Machine.execDirRebuildDone line s
  | .lineMapLoaded => Sys2Proof.Machine.execLineMapLoaded s
  | .journalReplayDone unreadable => Sys2Proof.Machine.execJournalReplayDone unreadable s
  | .openBoltScanDone orphans => Sys2Proof.Machine.execOpenBoltScanDone orphans s
  | .recoveryDone => Sys2Proof.Machine.execRecoveryDone s
  | .ageProbe g b => Sys2Proof.Machine.execAgeProbe g b s
  | .ageProbeDone g b cls => Sys2Proof.Machine.execAgeProbeDone g b cls s
  | .wringVictimSelect g => Sys2Proof.Machine.execWringVictimSelect g s
  | .staticSwapStart g => Sys2Proof.Machine.execStaticSwapStart g s
  | .pressVictimSelect g => Sys2Proof.Machine.execPressVictimSelect g s
  | .selvageRefresh n die triple => Sys2Proof.Machine.execSelvageRefresh n die triple s
  | .boltResetStart g b => Sys2Proof.Machine.execBoltResetStart g b s
  | .paceResume g => Sys2Proof.Machine.execPaceResume g s
  | .recountDone g b valid => Sys2Proof.Machine.execRecountDone g b valid s
  | .rinsePeriod => Sys2Proof.Machine.execRinsePeriod s
  | .rinseNow h => Sys2Proof.Machine.execRinseNow h s
  | .rinsePassDone => Sys2Proof.Machine.execRinsePassDone s
  | .upkCntClr h => Sys2Proof.Machine.execUpkCntClr h s
  | .upkBoltHiRead h => Sys2Proof.Machine.execUpkBoltHiRead h s
  | .darnMetaDone g => Sys2Proof.Machine.execDarnMetaDone g s
  | .darnDone g => Sys2Proof.Machine.execDarnDone g s
  | .testStart => Sys2Proof.Machine.execTestStart s
  | .testDone type res parts => Sys2Proof.Machine.execTestDone type res parts s
  | .engineTakeback g => Sys2Proof.Machine.execEngineTakeback g s
  | .aesKat g p ok => Sys2Proof.Machine.execAesKat g p ok s
  | .testRequest h type res => Sys2Proof.Machine.execTestRequest h type res s
  | .fltUndo h => Sys2Proof.Machine.execFltUndo h s
  | .fltCntClr h => Sys2Proof.Machine.execFltCntClr h s
  | .injEnWrite h value => Sys2Proof.Machine.execInjEnWrite h value s
  | .injArm h kind count sticky haltOk => Sys2Proof.Machine.execInjArm h kind count sticky haltOk s
  | .injDisarm h => Sys2Proof.Machine.execInjDisarm h s
  | .quarantineRelease h n => Sys2Proof.Machine.execQuarantineRelease h n s
  | .queueSelWrite h q => Sys2Proof.Machine.execQueueSelWrite h q s
  | .mrstDeassert g => Sys2Proof.Machine.execMrstDeassert g s
  | .mrstPulse h mask => Sys2Proof.Machine.execMrstPulse h mask s
  | .mrstPulseEnd g => Sys2Proof.Machine.execMrstPulseEnd g s
  | .brdRstDeassert => Sys2Proof.Machine.execBrdRstDeassert s
  | .trainingStepDone n info => Sys2Proof.Machine.execTrainingStepDone n info s
  | .trainingStepTimeout n => Sys2Proof.Machine.execTrainingStepTimeout n s
  | .retrainDone n ok => Sys2Proof.Machine.execRetrainDone n ok s
  | .skeinOutTimeout n => Sys2Proof.Machine.execSkeinOutTimeout n s
  | .sknRetrain h n => Sys2Proof.Machine.execSknRetrain h n s
  | .sknFullRetrain h n => Sys2Proof.Machine.execSknFullRetrain h n s
  | .sknPkgReset h n => Sys2Proof.Machine.execSknPkgReset h n s
  | .sknCntClr h n => Sys2Proof.Machine.execSknCntClr h n s
  | .sidebandResponse n status data => Sys2Proof.Machine.execSidebandResponse n status data s
  | .sidebandTimeout n => Sys2Proof.Machine.execSidebandTimeout n s
  | .tempPoll => Sys2Proof.Machine.execTempPoll s
  | .standbyPowerOn hbif => Sys2Proof.Machine.execStandbyPowerOn hbif s
  | .standbyPowerLoss => Sys2Proof.Machine.execStandbyPowerLoss s
  | .powerUpStart => Sys2Proof.Machine.execPowerUpStart s
  | .railQualified => Sys2Proof.Machine.execRailQualified s
  | .railSettled => Sys2Proof.Machine.execRailSettled s
  | .chatter => Sys2Proof.Machine.execChatter s
  | .stepTimeout => Sys2Proof.Machine.execStepTimeout s
  | .railLost ix => Sys2Proof.Machine.execRailLost ix s
  | .retryStart => Sys2Proof.Machine.execRetryStart s
  | .railOff ix => Sys2Proof.Machine.execRailOff ix s
  | .railStuck ix => Sys2Proof.Machine.execRailStuck ix s
  | .offHoldEnd => Sys2Proof.Machine.execOffHoldEnd s
  | .seqUpInFall => Sys2Proof.Machine.execSeqUpInFall s
  | .seqUpInRise => Sys2Proof.Machine.execSeqUpInRise s
  | .seqDnInRise => Sys2Proof.Machine.execSeqDnInRise s
  | .cascadeTimeout => Sys2Proof.Machine.execCascadeTimeout s
  | .localOff h key => Sys2Proof.Machine.execLocalOff h key s
  | .powerFail => Sys2Proof.Machine.execPowerFail s
  | .devReset h key => Sys2Proof.Machine.execDevReset h key s
  | .devResetDone => Sys2Proof.Machine.execDevResetDone s
  | .pwrCntClr h => Sys2Proof.Machine.execPwrCntClr h s
  | .firmwareRunning => Sys2Proof.Machine.execFirmwareRunning s
  | .memoryActive => Sys2Proof.Machine.execMemoryActive s
  | .pldmRequestUpdate port size => Sys2Proof.Machine.execPldmRequestUpdate port size s
  | .pldmFirmwareData off data leavesOk => Sys2Proof.Machine.execPldmFirmwareData off data leavesOk s
  | .pldmDataTimeout => Sys2Proof.Machine.execPldmDataTimeout s
  | .pldmActivateFirmware hitless => Sys2Proof.Machine.execPldmActivateFirmware hitless s
  | .recoveryDoeTransfer off data leavesOk => Sys2Proof.Machine.execRecoveryDoeTransfer off data leavesOk s
  | .imageCopyDone ok => Sys2Proof.Machine.execImageCopyDone ok s
  | .scheduleFwActivation h slot deadline pps targets => Sys2Proof.Machine.execScheduleFwActivation h slot deadline pps targets s
  | .cancelScheduledActivation h => Sys2Proof.Machine.execCancelScheduledActivation h s
  | .activationImageLoaded ok => Sys2Proof.Machine.execActivationImageLoaded ok s
  | .activationPauseEnd ok => Sys2Proof.Machine.execActivationPauseEnd ok s
  | .selfCheckDone pass => Sys2Proof.Machine.execSelfCheckDone pass s
  | .confirmFw h => Sys2Proof.Machine.execConfirmFw h s
  | .confirmDeadline => Sys2Proof.Machine.execConfirmDeadline s
  | .deadlineNear => Sys2Proof.Machine.execDeadlineNear s
  | .watchdog => Sys2Proof.Machine.execWatchdog s
  | .applyConfigurationBundle h b => Sys2Proof.Machine.execApplyConfigurationBundle h b s
  | .fwuRecovery h key => Sys2Proof.Machine.execFwuRecovery h key s
  | .fwuCntClr h => Sys2Proof.Machine.execFwuCntClr h s
  | .mctpMessage pldm opcode => Sys2Proof.Machine.execMctpMessage pldm opcode s
  | .i3cCcc code direct arg => Sys2Proof.Machine.execI3cCcc code direct arg s
  | .readEventRecorder h first max => Sys2Proof.Machine.execReadEventRecorder h first max s
  | .clearEventRecorder src => Sys2Proof.Machine.execClearEventRecorder src s
  | .eventRecordWrite => Sys2Proof.Machine.execEventRecordWrite s
  | .repeatWriteback => Sys2Proof.Machine.execRepeatWriteback s
  | .evrCntClr h => Sys2Proof.Machine.execEvrCntClr h s
  | .msixSend h v => Sys2Proof.Machine.execMsixSend h v s
  | .ntnScrub corrected uncorr badCells => Sys2Proof.Machine.execNtnScrub corrected uncorr badCells s
  | .scrubNow h => Sys2Proof.Machine.execScrubNow h s
  | .scrubDone => Sys2Proof.Machine.execScrubDone s
  | .ntnCntClr h => Sys2Proof.Machine.execNtnCntClr h s
  | .optimeTick => Sys2Proof.Machine.execOptimeTick s
  | .pmcFreezeWrite h value => Sys2Proof.Machine.execPmcFreezeWrite h value s
  | .pmcOverflow ix k inc => Sys2Proof.Machine.execPmcOverflow ix k inc s
  | .pmcCntClr h ix => Sys2Proof.Machine.execPmcCntClr h ix s
  | .cpmuConfigWrite h ix k group mask enable intEn => Sys2Proof.Machine.execCpmuConfigWrite h ix k group mask enable intEn s
  | .jtagInstructionLoad inst => Sys2Proof.Machine.execJtagInstructionLoad inst s
  | .jtagExtestExit => Sys2Proof.Machine.execJtagExtestExit s
  | .hdmDecoderCommit h ix base size ways gran dpaBase skip lock => Sys2Proof.Machine.execHdmDecoderCommit h ix base size ways gran dpaBase skip lock s
  | .firstFormatDone => Sys2Proof.Machine.execFirstFormatDone s
  | .headLinkRecovery h => Sys2Proof.Machine.execHeadLinkRecovery h s
  | .msixControlWrite h enable mask => Sys2Proof.Machine.execMsixControlWrite h enable mask s

end Sys2Proof.Machine
end

