-- ==== Sys2Proof/Safety.lean ====
section
/-!
DEFINITION. What a safe run is: a run that goes on, and keeps the stored tables in their canonical form; and the terms in
which statements say what a command leaves unchanged.
-/
namespace Sys2Proof.Machine

/-- The register stores and the routing table are canonical: keys rising, nothing listed at its reset value. -/
def State.regsWf (s : State) : Bool :=
  Tab.wf regReset s.regs && Tab.wf regReset s.pmc && Tab.wf routeReset s.route

/-! The tables inside a part are canonical. -/

def EvtState.wf (x : EvtState) : Bool := Tab.wf (fun _ => none) x.ring
def HostState.wf (x : HostState) : Bool := Tab.wf (fun _ => Head.fresh) x.heads
def MapState.wf (x : MapState) : Bool :=
  Tab.wf (fun _ => Entry.unmapped) x.ent && Tab.wf (fun _ => none) x.dir && Tab.wf (fun _ => 0#64) x.tags
def WriteState.wf (x : WriteState) : Bool := Tab.wf (fun _ => Group.fresh) x.groups
def CryState.wf (x : CryState) : Bool := Tab.wf (fun _ => Dom.fresh) x.doms
def EpoState.wf (x : EpoState) : Bool := Tab.wf (fun _ => EpoDom.fresh) x.doms
def NotionState.wf (x : NotionState) : Bool := Tab.wf (fun _ => some 0) x.cells
def WarpState.wf (x : WarpState) : Bool := Tab.wf (fun _ => SkeinWarp.fresh) x.sk
def LinkSt.wf (x : LinkSt) : Bool := Tab.wf (fun _ => SkeinLink.fresh) x.sk
/-- A captured bolt table (R247). -/
def shotWf : Option (Tab Bolt × Tab Triple × Tab Nat × Nat) → Bool
  | some v => Tab.wf (fun _ => Bolt.fresh) v.1
  | none => true
/-- The saved bolt tables count too: power-up takes them over. -/
def UpkState.wf (x : UpkState) : Bool :=
  Tab.wf (fun _ => Bolt.fresh) x.bolts && Tab.wf (fun _ => UpkGroup.fresh) x.groups &&
    Tab.wf (fun _ => Bolt.fresh) x.img && shotWf x.shot

/-- The tables of the parts are canonical: keys rising, nothing listed at its default. -/
def State.tabsWf (s : State) : Bool :=
  s.evt.wf && s.host.wf && s.map.wf && s.wp.wf && s.cry.wf && s.epo.wf && s.ntn.wf && s.warp.wf && s.link.wf && s.upk.wf

/-- The model's invariant: every table that commands read back from is in its canonical form. -/
def State.wf (s : State) : Bool := s.regsWf && s.tabsWf

/-- The step answers a next state. -/
def State.goesOn (s : State) : Prop := ∃ t, step s = .next t

/-- The block goes on for `n` steps. -/
def State.safeFor : Nat → State → Prop
  | 0, _ => True
  | n + 1, s => ∃ t, step s = .next t ∧ t.safeFor n

/-- The parts of the state: one name for each field of State (the population is one part). -/
inductive Piece where
  | regs | pmc | route | pop | time | evt | host | fch | swt | xq | map | wp | rd | cry | epo | ntn | warp | link
  | upk | flt | pwr | thm | fwu | side | out | freeCtr | pending
deriving DecidableEq, Repr

/-- A part is the same in two states. -/
def Piece.same : Piece → State → State → Prop
  | .regs, s, t => t.regs = s.regs
  | .pmc, s, t => t.pmc = s.pmc
  | .route, s, t => t.route = s.route
  | .pop, s, t => t.popP = s.popP ∧ t.popD = s.popD
  | .time, s, t => t.time = s.time
  | .evt, s, t => t.evt = s.evt
  | .host, s, t => t.host = s.host
  | .fch, s, t => t.fch = s.fch
  | .swt, s, t => t.swt = s.swt
  | .xq, s, t => t.xq = s.xq
  | .map, s, t => t.map = s.map
  | .wp, s, t => t.wp = s.wp
  | .rd, s, t => t.rd = s.rd
  | .cry, s, t => t.cry = s.cry
  | .epo, s, t => t.epo = s.epo
  | .ntn, s, t => t.ntn = s.ntn
  | .warp, s, t => t.warp = s.warp
  | .link, s, t => t.link = s.link
  | .upk, s, t => t.upk = s.upk
  | .flt, s, t => t.flt = s.flt
  | .pwr, s, t => t.pwr = s.pwr
  | .thm, s, t => t.thm = s.thm
  | .fwu, s, t => t.fwu = s.fwu
  | .side, s, t => t.side = s.side
  | .out, s, t => t.out = s.out
  | .freeCtr, s, t => t.freeCtr = s.freeCtr
  | .pending, s, t => t.pending = s.pending

/-- Head `h` takes control-BAR writes: its CXL.io is up and it is not management read-only (R45). -/
abbrev State.barReady (s : State) (h : Nat) : Prop := s.ioUp h = true ∧ s.roMgmt h = false

/-- Head `h`'s mailbox takes commands: its CXL.io is up, the management firmware runs and is not paused (R69). -/
abbrev State.mboxReady (s : State) (h : Nat) : Prop := s.ioUp h = true ∧ s.fwu.running = true ∧ s.fwu.paused = false

/-- The same for a command that changes state (R76, R77). -/
abbrev State.mboxRwReady (s : State) (h : Nat) : Prop := s.mboxReady h ∧ s.roMgmt h = false

/-- Request `r` at a host address reaches the place in its domain that `q` names: the head is up, the memory active, a decoder
and the extent hold the address, and no halt, sanitize, abort or window is in its way (R47 to R51). -/
abbrev State.reaches (s : State) (r : Req) (hpa : Nat) (q : Req) : Prop :=
  s.memUp r.h = true ∧ s.host.memActive = true ∧ ((s.decoderOf r.h hpa).bind fun d => s.place? r (d.dpa hpa)) = some q ∧
    s.host.sanitizing = false ∧ s.cry.deviceHalt = false ∧ (s.dom q.dom).halted = false ∧
    (s.epoDom q.dom).st ≠ .aborting ∧ s.swt.st = .none

/-- The head and tag that a response of CXL.mem answers. -/
def Output.answers : Output → Option (Nat × Nat)
  | .memData h tag _ _ _ => some (h, tag)
  | .cmp h tag _ => some (h, tag)
  | _ => none

/-- The data and the poison bit that MemData carries. -/
def Output.carries : Output → Option (Sector × Bool)
  | .memData _ _ d p _ => some (d, p)
  | _ => none

/-- From `s` to `t` no part changes but the listed ones. -/
def State.keeps (s t : State) (changed : List Piece) : Prop := ∀ p, p ∈ changed ∨ p.same s t

/-- From `s` to `t` no stored control-BAR register changes but those at the listed offsets. -/
def State.keepsRegs (s t : State) (changed : List Nat) : Prop := ∀ off, off ∈ changed ∨ t.reg off = s.reg off

/-- The parts that reporting may change: status and capture registers, performance counters, the recorder's queue, and
pending MSI-X vectors. -/
def reporting : List Piece := [.regs, .pmc, .evt, .host]

/-- The registers that raising an event may change: EVT_STS, ERR_INFO and ERR_ADDR of its page, and EVR_CNT. -/
def Evt.regs (e : Evt) : List Nat := [e.stsOff, e.stsOff + 0x18, e.stsOff + 0x20, 0x5130]

/-- Event bit `e` is set in its EVT_STS. -/
abbrev State.evtSet (s : State) (e : Evt) : Prop := (s.reg e.stsOff).getLsbD e.bit = true

end Sys2Proof.Machine
end

