-- ==== Sys2Proof/Machine/Touches.lean ====
section
/-!
DEFINITION. The frame of every command: the parts of the state that it may change.
-/
namespace Sys2Proof.Machine

/-- What a command may change: every other part of the state is as it was when the command goes on. `regs` is the stored
control-BAR registers, `pmc` the performance counters, `out` what the command shows. -/
def touches : Instr → List Piece
  | .misalignedAccess _ _ _ _ => [.regs, .pmc, .evt, .host, .out]
  | .controlBarWrite _ _ _ _ => [.regs, .pmc, .route, .evt, .host, .cry, .epo, .out]
  | .errInfoRead _ _ _ => [.regs, .pmc, .evt, .host, .out, .freeCtr]
  | .evtStsClear _ _ _ _ => [.regs, .pmc, .evt, .host, .out]
  | .evtForce _ _ _ _ => [.regs, .pmc, .evt, .host, .out]
  | .setMachineIndex _ _ => [.regs, .pmc, .evt, .host, .out]
  | .setTimestamp _ _ => [.regs, .pmc, .time, .evt, .host, .rd, .upk, .out]
  | .getTimestamp _ => [.out]
  | .ppsEdge => [.regs, .pmc, .time, .evt, .host, .out]
  | .ppsLost => [.regs, .pmc, .time, .evt, .host, .out]
  | .deadlineFire _ => [.regs, .pmc, .evt, .host, .fch, .swt, .map, .wp, .rd, .cry, .epo, .ntn, .warp, .link, .upk, .flt, .pwr, .fwu, .out]
  | .unalignedFire _ => [.regs, .pmc, .evt, .host, .fch, .swt, .map, .wp, .rd, .cry, .epo, .ntn, .warp, .link, .upk, .flt, .pwr, .fwu, .out]
  | .pickBoundary => [.regs, .pmc, .evt, .host, .warp, .thm, .out]
  | .tokenInstalment => [.warp, .out]
  | .downstreamSlot _ => [.regs, .pmc, .evt, .host, .warp, .out]
  | .aging _ _ => [.regs, .pmc, .evt, .host, .warp, .out]
  | .stall _ _ _ => [.regs, .pmc, .evt, .host, .warp, .out]
  | .stallCleared _ => [.regs, .pmc, .evt, .host, .warp, .out]
  | .stallPersist _ => [.regs, .pmc, .evt, .host, .warp, .flt, .out]
  | .laneWake _ => [.warp, .out]
  | .wrpTemplateWrite _ _ _ _ _ _ _ => [.regs, .pmc, .evt, .host, .warp, .out]
  | .validate _ _ => [.regs, .pmc, .evt, .host, .warp, .out]
  | .validateDone => [.regs, .pmc, .evt, .host, .warp, .out]
  | .wrpCntClr _ => [.regs, .pmc, .evt, .host, .out]
  | .sknWarpSelWrite _ _ _ _ => [.regs, .pmc, .evt, .host, .out]
  | .hkpConversion _ => [.regs, .pmc, .evt, .host, .ntn, .upk, .thm, .out]
  | .thmReadmit _ _ => [.regs, .pmc, .evt, .host, .thm, .out]
  | .thmCntClr _ => [.regs, .pmc, .evt, .host, .out]
  | .hkpCntClr _ => [.regs, .pmc, .evt, .host, .out]
  | .thermalTrip _ => [.regs, .pmc, .evt, .host, .fch, .wp, .ntn, .warp, .upk, .pwr, .thm, .out]
  | .tempHistoryMinute => [.thm, .out]
  | .tempHistorySave => [.ntn, .out]
  | .setMediaPowerCap _ _ _ => [.regs, .pmc, .evt, .host, .thm, .out]
  | .getMediaPowerCap _ => [.out]
  | .hstPerstDeassert _ => [.host, .out]
  | .hstPerstAssert _ => [.regs, .pmc, .evt, .host, .fch, .xq, .wp, .epo, .out]
  | .headLinkTrained _ _ _ _ _ => [.regs, .pmc, .evt, .host, .out]
  | .headTrainingFailed _ => [.regs, .pmc, .evt, .host, .out]
  | .headLinkDown _ => [.regs, .pmc, .evt, .host, .fch, .xq, .wp, .epo, .out]
  | .headConventionalReset _ => [.regs, .pmc, .evt, .host, .fch, .xq, .wp, .epo, .out]
  | .headHotReset _ => [.regs, .pmc, .evt, .host, .fch, .xq, .wp, .epo, .out]
  | .headFlr _ => [.host, .out]
  | .d3hotEntry _ => [.host, .out]
  | .d0Return _ => [.host, .out]
  | .headDisable _ _ _ => [.regs, .pmc, .evt, .host, .fch, .xq, .wp, .epo, .out]
  | .headRetrain _ _ => [.regs, .pmc, .evt, .host, .out]
  | .headCntClr _ _ => [.regs, .pmc, .evt, .host, .out]
  | .roMgmtWrite _ _ _ => [.regs, .pmc, .evt, .host, .out]
  | .headCorrectableError _ => [.regs, .pmc, .evt, .host, .out]
  | .ideIntegrityFail _ => [.regs, .pmc, .evt, .host, .fch, .xq, .wp, .epo, .out]
  | .ideKeyProgram _ _ _ _ => [.host, .out]
  | .memRd _ _ _ => [.regs, .pmc, .evt, .host, .fch, .swt, .map, .wp, .rd, .cry, .epo, .ntn, .warp, .link, .upk, .flt, .pwr, .out]
  | .memRdData _ _ _ => [.regs, .pmc, .evt, .host, .fch, .swt, .map, .wp, .rd, .cry, .epo, .ntn, .warp, .link, .upk, .flt, .pwr, .out]
  | .memSpecRd _ _ => [.regs, .pmc, .evt, .host, .fch, .map, .wp, .rd, .warp, .flt, .out]
  | .memInv _ _ => [.out]
  | .memInvNt _ _ => [.out]
  | .memWr _ _ _ _ _ => [.regs, .pmc, .evt, .host, .fch, .swt, .map, .wp, .rd, .cry, .epo, .ntn, .warp, .link, .upk, .flt, .pwr, .out]
  | .memWrPtl _ _ _ _ _ _ => [.regs, .pmc, .evt, .host, .fch, .swt, .map, .wp, .rd, .cry, .epo, .ntn, .warp, .link, .upk, .flt, .pwr, .out]
  | .invalidMemOpcode _ _ _ => [.regs, .pmc, .evt, .host, .out]
  | .missWaitResume => [.regs, .pmc, .evt, .host, .fch, .swt, .map, .wp, .rd, .cry, .epo, .ntn, .warp, .link, .upk, .flt, .pwr, .out]
  | .dirtyWaitAdmit => [.regs, .pmc, .evt, .host, .fch, .swt, .map, .wp, .rd, .cry, .epo, .ntn, .warp, .link, .upk, .flt, .pwr, .out]
  | .cleanerWriteback => [.regs, .pmc, .evt, .host, .fch, .wp, .out]
  | .evictionResume => [.regs, .pmc, .evt, .host, .fch, .swt, .map, .wp, .rd, .cry, .epo, .ntn, .warp, .link, .upk, .flt, .pwr, .out]
  | .stagingEntry _ => [.regs, .pmc, .evt, .host, .fch, .swt, .map, .wp, .rd, .cry, .epo, .ntn, .warp, .link, .upk, .flt, .pwr, .out]
  | .prefetchIssue _ => [.regs, .pmc, .evt, .host, .fch, .map, .wp, .rd, .warp, .flt, .out]
  | .prefetchFill _ _ => [.regs, .pmc, .evt, .host, .fch, .wp, .rd, .flt, .out]
  | .fchWaymaskWrite _ _ _ _ => [.regs, .pmc, .evt, .host, .fch, .wp, .out]
  | .wayEmpty _ => [.regs, .pmc, .evt, .host, .fch, .wp, .out]
  | .dirtyLimitWrite _ _ _ => [.regs, .pmc, .evt, .host, .fch, .out]
  | .fchEnable _ => [.regs, .pmc, .evt, .host, .fch, .out]
  | .fchEnabled => [.fch, .out]
  | .fchDisable _ => [.regs, .pmc, .evt, .host, .fch, .wp, .out]
  | .drainDone => [.regs, .pmc, .evt, .host, .fch, .out]
  | .fchCntClr _ => [.regs, .pmc, .evt, .host, .out]
  | .maintWb _ _ _ => [.regs, .pmc, .evt, .host, .fch, .wp, .out]
  | .maintWbInv _ _ _ => [.regs, .pmc, .evt, .host, .fch, .wp, .out]
  | .maintInv _ _ _ => [.regs, .pmc, .evt, .host, .fch, .wp, .out]
  | .maintWbAll _ => [.regs, .pmc, .evt, .host, .fch, .wp, .out]
  | .maintInvalidOp _ _ _ _ => [.regs, .pmc, .evt, .host, .fch, .wp, .out]
  | .maintDone => [.regs, .pmc, .evt, .host, .fch, .out]
  | .groupFolded _ => [.regs, .pmc, .evt, .host, .fch, .out]
  | .diagRead _ _ _ _ => [.regs, .pmc, .evt, .host, .out, .freeCtr]
  | .diagWrite _ _ _ _ => [.regs, .pmc, .evt, .host, .fch, .swt, .out]
  | .swatchCarve _ _ => [.regs, .pmc, .evt, .host, .fch, .swt, .wp, .out]
  | .carveDone => [.regs, .pmc, .evt, .host, .fch, .swt, .map, .wp, .rd, .upk, .out]
  | .swatchRelease _ _ => [.regs, .pmc, .evt, .host, .swt, .out]
  | .swatchLineHandback => [.regs, .pmc, .evt, .host, .swt, .wp, .rd, .out]
  | .queuePacket _ _ _ => [.regs, .pmc, .evt, .host, .fch, .swt, .xq, .map, .wp, .rd, .cry, .epo, .ntn, .warp, .link, .upk, .flt, .pwr, .out]
  | .queueReplay _ _ => [.regs, .pmc, .evt, .host, .fch, .swt, .xq, .map, .wp, .rd, .cry, .epo, .ntn, .warp, .link, .upk, .flt, .pwr, .out]
  | .requestTimeout _ _ _ _ => [.regs, .pmc, .evt, .host, .fch, .swt, .map, .wp, .rd, .cry, .epo, .ntn, .warp, .link, .upk, .flt, .pwr, .out]
  | .clockDriftLinkError _ => [.regs, .pmc, .flt, .out]
  | .islandFault _ => [.regs, .pmc, .evt, .host, .fch, .map, .wp, .rd, .ntn, .warp, .link, .upk, .flt, .out]
  | .gpfPhase2Request _ => [.regs, .pmc, .evt, .host, .fch, .wp, .warp, .upk, .pwr, .out]
  | .queuedFlushStart => [.regs, .pmc, .evt, .host, .fch, .wp, .warp, .upk, .pwr, .out]
  | .flushDone _ => [.regs, .pmc, .route, .time, .evt, .host, .fch, .swt, .xq, .map, .wp, .rd, .cry, .epo, .ntn, .warp, .link, .upk, .flt, .pwr, .thm, .fwu, .side, .out]
  | .identify _ => [.out]
  | .backgroundOperationStatus _ => [.out, .freeCtr]
  | .getResponseMessageLimit _ => [.out]
  | .setResponseMessageLimit _ _ => [.host, .out]
  | .getEventRecords _ _ => [.out]
  | .clearEventRecords _ _ _ _ => [.host, .out]
  | .getEventInterruptPolicy _ => [.out]
  | .setEventInterruptPolicy _ _ _ _ _ => [.host, .out]
  | .getFwInfo _ => [.out]
  | .transferFw _ _ _ _ _ _ _ => [.regs, .pmc, .evt, .host, .fwu, .out, .freeCtr]
  | .activateFw _ _ _ => [.fwu, .out]
  | .getSupportedLogs _ => [.out]
  | .getLog _ _ _ _ => [.out]
  | .getLogCapabilities _ _ => [.out]
  | .clearLog _ _ => [.out]
  | .getSupportedFeatures _ => [.out]
  | .getFeature _ _ => [.out]
  | .setFeature _ _ _ => [.regs, .pmc, .out]
  | .identifyMemoryDevice _ => [.out]
  | .getPartitionInfo _ => [.out]
  | .setPartitionInfo _ => [.out]
  | .getLsa _ _ _ => [.out]
  | .setLsa _ _ _ => [.ntn, .out]
  | .getHealthInfo _ => [.out]
  | .getAlertConfiguration _ => [.evt, .host, .ntn, .out]
  | .setAlertConfiguration _ _ _ => [.evt, .host, .ntn, .out]
  | .getShutdownState _ => [.out]
  | .setShutdownState _ _ => [.host, .out]
  | .getPoisonList _ _ _ => [.out]
  | .injectPoison _ _ => [.regs, .pmc, .evt, .host, .fch, .swt, .map, .wp, .rd, .cry, .epo, .ntn, .warp, .link, .upk, .flt, .pwr, .out]
  | .clearPoison _ _ _ => [.regs, .pmc, .evt, .host, .fch, .swt, .map, .wp, .rd, .cry, .epo, .ntn, .warp, .link, .upk, .flt, .pwr, .out]
  | .getScanMediaCapabilities _ _ _ => [.out]
  | .scanMedia _ _ _ => [.regs, .pmc, .evt, .host, .map, .rd, .warp, .out]
  | .scanMediaDone => [.host, .rd, .out]
  | .getScanMediaResults _ => [.out]
  | .sanitize _ => [.regs, .pmc, .evt, .host, .fch, .swt, .map, .wp, .rd, .cry, .epo, .ntn, .warp, .upk, .out]
  | .secureErase _ => [.regs, .pmc, .evt, .host, .fch, .swt, .map, .wp, .rd, .cry, .epo, .ntn, .warp, .upk, .out]
  | .sanitizeDone => [.regs, .pmc, .pop, .evt, .host, .map, .wp, .rd, .cry, .epo, .ntn, .warp, .upk, .out, .freeCtr]
  | .getSldQosControl _ => [.out]
  | .setSldQosControl _ _ _ _ => [.host, .out]
  | .getSldQosStatus _ => [.out]
  | .unsupportedOpcode _ _ => [.out]
  | .setDomainExtent _ _ _ _ => [.regs, .pmc, .evt, .host, .fch, .map, .wp, .rd, .cry, .epo, .ntn, .warp, .out]
  | .getDomainExtents _ => [.out]
  | .getHeadStatus _ => [.out]
  | .unmapDone => [.regs, .pmc, .evt, .host, .map, .rd, .upk, .out]
  | .doeDiscovery _ _ => [.fwu, .out]
  | .cdatTableAccess _ => [.fwu, .out]
  | .spdmGetCertificate _ _ _ => [.fwu, .out]
  | .spdmChallenge _ _ => [.fwu, .out, .freeCtr]
  | .spdmGetMeasurements _ _ _ => [.fwu, .out, .freeCtr]
  | .spdmKeyExchange _ _ => [.regs, .pmc, .evt, .host, .cry, .fwu, .out, .freeCtr]
  | .securedMessage _ _ _ _ => [.regs, .pmc, .evt, .host, .cry, .fwu, .out, .freeCtr]
  | .getPqSignature _ => [.fwu, .out]
  | .respondIfReady _ => [.fwu, .out, .freeCtr]
  | .getPqCertificate _ _ _ => [.fwu, .out]
  | .setDomainKey _ _ _ _ => [.regs, .pmc, .evt, .host, .cry, .ntn, .fwu, .out, .freeCtr]
  | .destroyDomainKey _ _ => [.regs, .pmc, .evt, .host, .fch, .swt, .map, .wp, .rd, .cry, .epo, .ntn, .warp, .upk, .fwu, .out]
  | .startRekey _ _ => [.regs, .pmc, .evt, .host, .cry, .epo, .ntn, .fwu, .out, .freeCtr]
  | .getKeyInfo _ _ => [.fwu, .out]
  | .unsealQuarantine _ _ => [.regs, .pmc, .evt, .host, .cry, .fwu, .out, .freeCtr]
  | .generateDomainKey _ _ _ => [.regs, .pmc, .evt, .host, .cry, .ntn, .out, .freeCtr]
  | .rekeySweepStart _ => [.cry, .out]
  | .rekeySweepDone _ => [.regs, .pmc, .evt, .host, .swt, .cry, .epo, .ntn, .flt, .out]
  | .oldGenerationZeroize _ => [.regs, .pmc, .evt, .host, .cry, .epo, .ntn, .out]
  | .integEnWrite _ _ _ => [.regs, .pmc, .evt, .host, .cry, .out]
  | .cryCntClr _ => [.regs, .pmc, .evt, .host, .out]
  | .kveReseed _ => [.regs, .pmc, .evt, .host, .cry, .out]
  | .kveCntClr _ => [.regs, .pmc, .evt, .host, .out]
  | .drbgReseedTimer => [.regs, .pmc, .cry, .out]
  | .entropyFail => [.regs, .pmc, .evt, .host, .cry, .out]
  | .entropyRetest _ => [.regs, .pmc, .evt, .host, .cry, .out]
  | .keyVaultOpDone _ => [.regs, .pmc, .evt, .host, .cry, .out]
  | .epochPrepare _ _ _ _ _ => [.regs, .pmc, .evt, .host, .fch, .swt, .map, .wp, .rd, .cry, .epo, .ntn, .warp, .link, .upk, .flt, .pwr, .out]
  | .epochCommit _ _ _ => [.regs, .pmc, .evt, .host, .map, .rd, .epo, .upk, .out]
  | .epochAbort _ _ _ => [.regs, .pmc, .evt, .host, .fch, .wp, .rd, .cry, .epo, .ntn, .warp, .out]
  | .getEpochStatus _ _ => [.out]
  | .doorbellPrepare _ _ _ => [.regs, .pmc, .evt, .host, .fch, .swt, .map, .wp, .rd, .cry, .epo, .ntn, .warp, .link, .upk, .flt, .pwr, .out]
  | .doorbellCommit _ _ _ => [.regs, .pmc, .evt, .host, .map, .rd, .epo, .upk, .out]
  | .doorbellAbort _ _ _ => [.regs, .pmc, .evt, .host, .fch, .wp, .rd, .cry, .epo, .ntn, .warp, .out]
  | .prepareDone _ => [.regs, .pmc, .evt, .host, .epo, .out]
  | .commitDone _ => [.regs, .pmc, .evt, .host, .epo, .out]
  | .abortDone _ _ => [.regs, .pmc, .evt, .host, .map, .rd, .cry, .epo, .upk, .out]
  | .epochEnableWrite _ _ => [.regs, .pmc, .evt, .host, .cry, .epo, .out]
  | .epochDisableWrite _ _ => [.regs, .pmc, .evt, .host, .map, .rd, .cry, .epo, .upk, .out]
  | .epochEnabled _ => [.epo, .out]
  | .epoCntClr _ => [.regs, .pmc, .evt, .host, .out]
  | .stripeTimeout _ => [.regs, .pmc, .evt, .host, .wp, .warp, .upk, .out]
  | .padNow _ _ => [.regs, .pmc, .evt, .host, .wp, .warp, .upk, .out]
  | .plyAdmitOff _ _ _ => [.regs, .pmc, .evt, .host, .out]
  | .plyCntClr _ _ => [.regs, .pmc, .evt, .host, .out]
  | .mergeReadDone _ _ => [.regs, .pmc, .evt, .host, .fch, .swt, .map, .wp, .rd, .cry, .epo, .ntn, .warp, .upk, .flt, .pwr, .out, .freeCtr]
  | .upstreamFrame _ _ => [.regs, .pmc, .evt, .host, .fch, .map, .wp, .rd, .cry, .epo, .ntn, .warp, .link, .upk, .flt, .out, .freeCtr]
  | .lineVerify _ => [.regs, .pmc, .evt, .host, .fch, .map, .wp, .rd, .cry, .epo, .ntn, .warp, .upk, .flt, .out, .freeCtr]
  | .reconstructionDone _ _ => [.regs, .pmc, .evt, .host, .fch, .swt, .map, .wp, .rd, .cry, .epo, .ntn, .warp, .upk, .flt, .pwr, .out, .freeCtr]
  | .poisonTimer _ => [.regs, .pmc, .evt, .host, .fch, .wp, .rd, .flt, .out]
  | .downstreamFrameAccepted _ => [.regs, .pmc, .evt, .host, .rd, .warp, .link, .flt, .out]
  | .completionTimeout _ _ _ => [.regs, .pmc, .evt, .host, .fch, .map, .wp, .rd, .ntn, .warp, .link, .upk, .flt, .out]
  | .mapRecordAppend _ => [.regs, .pmc, .evt, .host, .map, .wp, .rd, .epo, .upk, .out]
  | .journalLineTimeout => [.regs, .pmc, .evt, .host, .map, .out]
  | .journalLineDurable => [.regs, .pmc, .evt, .host, .map, .out]
  | .checkpointRecordCount => [.regs, .pmc, .evt, .host, .map, .upk, .out]
  | .checkpointPeriod => [.regs, .pmc, .evt, .host, .map, .upk, .out]
  | .ckptNow _ => [.regs, .pmc, .evt, .host, .map, .upk, .out]
  | .mapCntClr _ => [.regs, .pmc, .evt, .host, .out]
  | .checkpointDone => [.regs, .pmc, .evt, .host, .map, .rd, .cry, .epo, .upk, .out]
  | .mapFill _ _ _ => [.regs, .pmc, .evt, .host, .fch, .map, .wp, .rd, .cry, .epo, .ntn, .warp, .upk, .flt, .out]
  | .mapDirtyWaitResume => [.regs, .pmc, .evt, .host, .map, .wp, .rd, .epo, .upk, .out]
  | .mapCleaner => [.regs, .pmc, .evt, .host, .map, .wp, .ntn, .warp, .upk, .out]
  | .mapPrefetch _ => [.regs, .pmc, .evt, .host, .map, .out]
  | .mapPrefetchDrop _ => [.map, .out]
  | .sgGapMove _ _ => [.map, .out]
  | .gapMoveDone _ _ => [.regs, .pmc, .map, .out]
  | .dirRebuildDone _ => [.regs, .pmc, .evt, .host, .fch, .map, .wp, .rd, .cry, .epo, .ntn, .warp, .flt, .out]
  | .lineMapLoaded => [.regs, .pmc, .evt, .host, .map, .rd, .upk, .out]
  | .journalReplayDone _ => [.regs, .pmc, .evt, .host, .map, .upk, .out]
  | .openBoltScanDone _ => [.regs, .pmc, .evt, .host, .map, .wp, .rd, .warp, .upk, .out]
  | .recoveryDone => [.regs, .pmc, .evt, .host, .map, .rd, .cry, .epo, .upk, .out]
  | .ageProbe _ _ => [.regs, .pmc, .evt, .host, .warp, .upk, .out]
  | .ageProbeDone _ _ _ => [.regs, .pmc, .evt, .host, .rd, .upk, .flt, .out, .freeCtr]
  | .wringVictimSelect _ => [.upk, .out]
  | .staticSwapStart _ => [.regs, .pmc, .evt, .host, .upk, .out]
  | .pressVictimSelect _ => [.upk, .out]
  | .selvageRefresh _ _ _ => [.regs, .pmc, .evt, .host, .upk, .out]
  | .boltResetStart _ _ => [.regs, .pmc, .evt, .host, .map, .wp, .ntn, .warp, .upk, .out]
  | .paceResume _ => [.regs, .pmc, .evt, .host, .map, .wp, .ntn, .warp, .upk, .out]
  | .recountDone _ _ _ => [.regs, .pmc, .evt, .host, .rd, .upk, .out]
  | .rinsePeriod => [.regs, .pmc, .evt, .host, .upk, .out]
  | .rinseNow _ => [.regs, .pmc, .evt, .host, .upk, .out]
  | .rinsePassDone => [.regs, .pmc, .evt, .host, .upk, .out]
  | .upkCntClr _ => [.regs, .pmc, .evt, .host, .out]
  | .upkBoltHiRead _ => [.upk, .out]
  | .darnMetaDone _ => [.regs, .pmc, .evt, .host, .map, .upk, .out]
  | .darnDone _ => [.regs, .pmc, .evt, .host, .map, .upk, .out]
  | .testStart => [.regs, .pmc, .evt, .host, .map, .wp, .upk, .flt, .out]
  | .testDone _ _ _ => [.regs, .pmc, .evt, .host, .fch, .map, .wp, .rd, .ntn, .warp, .link, .upk, .flt, .out]
  | .engineTakeback _ => [.regs, .pmc, .evt, .host, .fch, .map, .wp, .rd, .ntn, .warp, .link, .upk, .flt, .out]
  | .aesKat _ _ _ => [.regs, .pmc, .flt, .out]
  | .testRequest _ _ _ => [.regs, .pmc, .evt, .host, .flt, .out]
  | .fltUndo _ => [.regs, .pmc, .evt, .host, .flt, .out]
  | .fltCntClr _ => [.regs, .pmc, .evt, .host, .flt, .out]
  | .injEnWrite _ _ => [.regs, .pmc, .evt, .host, .out]
  | .injArm _ _ _ _ _ => [.regs, .pmc, .evt, .host, .fch, .map, .wp, .rd, .ntn, .warp, .link, .upk, .flt, .out]
  | .injDisarm _ => [.regs, .pmc, .evt, .host, .flt, .out]
  | .quarantineRelease _ _ => [.regs, .pmc, .evt, .host, .flt, .out]
  | .queueSelWrite _ _ => [.regs, .pmc, .evt, .host, .out]
  | .mrstDeassert _ => [.regs, .pmc, .evt, .host, .rd, .warp, .link, .pwr, .out]
  | .mrstPulse _ _ => [.regs, .pmc, .evt, .host, .rd, .warp, .link, .pwr, .out]
  | .mrstPulseEnd _ => [.pwr, .out]
  | .brdRstDeassert => [.pwr, .out]
  | .trainingStepDone _ _ => [.regs, .pmc, .pop, .evt, .host, .fch, .map, .wp, .rd, .ntn, .warp, .link, .upk, .flt, .thm, .out]
  | .trainingStepTimeout _ => [.regs, .pmc, .evt, .host, .fch, .map, .wp, .rd, .ntn, .warp, .link, .upk, .flt, .out]
  | .retrainDone _ _ => [.regs, .pmc, .evt, .host, .rd, .warp, .link, .thm, .out]
  | .skeinOutTimeout _ => [.regs, .pmc, .evt, .host, .map, .wp, .rd, .warp, .link, .upk, .out]
  | .sknRetrain _ _ => [.regs, .pmc, .evt, .host, .rd, .warp, .link, .out]
  | .sknFullRetrain _ _ => [.regs, .pmc, .evt, .host, .rd, .warp, .link, .out]
  | .sknPkgReset _ _ => [.regs, .pmc, .evt, .host, .rd, .warp, .link, .out]
  | .sknCntClr _ _ => [.regs, .pmc, .evt, .host, .out]
  | .sidebandResponse _ _ _ => [.regs, .pmc, .evt, .host, .link, .thm, .out]
  | .sidebandTimeout _ => [.regs, .pmc, .evt, .host, .link, .thm, .out]
  | .tempPoll => [.link, .out]
  | .standbyPowerOn _ => [.regs, .pmc, .time, .host, .pwr, .out]
  | .standbyPowerLoss => [.regs, .pmc, .route, .time, .evt, .host, .fch, .swt, .xq, .map, .wp, .rd, .cry, .epo, .ntn, .warp, .link, .upk, .flt, .pwr, .thm, .fwu, .side, .out]
  | .powerUpStart => [.pwr, .out]
  | .railQualified => [.pwr, .out]
  | .railSettled => [.regs, .pmc, .route, .time, .evt, .host, .fch, .swt, .xq, .map, .wp, .rd, .cry, .epo, .ntn, .warp, .link, .upk, .flt, .pwr, .thm, .fwu, .side, .out]
  | .chatter => [.regs, .pmc, .route, .time, .evt, .host, .fch, .swt, .xq, .map, .wp, .rd, .cry, .epo, .ntn, .warp, .link, .upk, .flt, .pwr, .thm, .fwu, .side, .out]
  | .stepTimeout => [.regs, .pmc, .route, .time, .evt, .host, .fch, .swt, .xq, .map, .wp, .rd, .cry, .epo, .ntn, .warp, .link, .upk, .flt, .pwr, .thm, .fwu, .side, .out]
  | .railLost _ => [.regs, .pmc, .route, .time, .evt, .host, .fch, .swt, .xq, .map, .wp, .rd, .cry, .epo, .ntn, .warp, .link, .upk, .flt, .pwr, .thm, .fwu, .side, .out]
  | .retryStart => [.pwr, .out]
  | .railOff _ => [.pwr, .out]
  | .railStuck _ => [.regs, .pmc, .evt, .host, .ntn, .pwr, .out]
  | .offHoldEnd => [.regs, .pmc, .evt, .host, .pwr, .out]
  | .seqUpInFall => [.regs, .pmc, .evt, .host, .fch, .wp, .warp, .upk, .pwr, .out]
  | .seqUpInRise => [.pwr, .out]
  | .seqDnInRise => [.regs, .pmc, .route, .time, .host, .fch, .swt, .xq, .map, .wp, .rd, .cry, .epo, .ntn, .warp, .link, .upk, .flt, .pwr, .thm, .fwu, .side, .out]
  | .cascadeTimeout => [.regs, .pmc, .route, .time, .evt, .host, .fch, .swt, .xq, .map, .wp, .rd, .cry, .epo, .ntn, .warp, .link, .upk, .flt, .pwr, .thm, .fwu, .side, .out]
  | .localOff _ _ => [.regs, .pmc, .evt, .host, .fch, .wp, .warp, .upk, .pwr, .out]
  | .powerFail => [.regs, .pmc, .route, .time, .evt, .host, .fch, .swt, .xq, .map, .wp, .rd, .cry, .epo, .ntn, .warp, .link, .upk, .flt, .pwr, .thm, .fwu, .side, .out]
  | .devReset _ _ => [.regs, .pmc, .evt, .host, .fch, .wp, .warp, .upk, .pwr, .fwu, .out]
  | .devResetDone => [.regs, .pmc, .time, .evt, .host, .fch, .swt, .map, .wp, .cry, .ntn, .link, .upk, .flt, .pwr, .fwu, .side, .out]
  | .pwrCntClr _ => [.regs, .pmc, .evt, .host, .ntn, .out]
  | .firmwareRunning => [.regs, .pmc, .evt, .host, .fwu, .side, .out]
  | .memoryActive => [.host, .out]
  | .pldmRequestUpdate _ _ => [.fwu, .out]
  | .pldmFirmwareData _ _ _ => [.regs, .pmc, .evt, .host, .fwu, .out, .freeCtr]
  | .pldmDataTimeout => [.regs, .pmc, .evt, .host, .fwu, .out]
  | .pldmActivateFirmware _ => [.fwu, .out]
  | .recoveryDoeTransfer _ _ _ => [.regs, .pmc, .evt, .host, .fwu, .out, .freeCtr]
  | .imageCopyDone _ => [.regs, .pmc, .evt, .host, .fch, .wp, .warp, .upk, .pwr, .fwu, .out]
  | .scheduleFwActivation _ _ _ _ _ => [.fwu, .out]
  | .cancelScheduledActivation _ => [.fwu, .out]
  | .activationImageLoaded _ => [.regs, .pmc, .evt, .host, .fwu, .out]
  | .activationPauseEnd _ => [.regs, .pmc, .evt, .host, .fch, .wp, .warp, .upk, .pwr, .fwu, .out]
  | .selfCheckDone _ => [.regs, .pmc, .evt, .host, .fwu, .out]
  | .confirmFw _ => [.regs, .pmc, .evt, .host, .ntn, .fwu, .out]
  | .confirmDeadline => [.regs, .pmc, .evt, .host, .fwu, .out]
  | .deadlineNear => [.regs, .pmc, .evt, .host, .fwu, .out]
  | .watchdog => [.regs, .pmc, .evt, .host, .fwu, .out]
  | .applyConfigurationBundle _ _ => [.regs, .pmc, .evt, .host, .ntn, .flt, .fwu, .out]
  | .fwuRecovery _ _ => [.regs, .pmc, .evt, .host, .fwu, .out]
  | .fwuCntClr _ => [.regs, .pmc, .evt, .host, .out]
  | .mctpMessage _ _ => [.fwu, .out]
  | .i3cCcc _ _ _ => [.side, .out, .freeCtr]
  | .readEventRecorder _ _ _ => [.out]
  | .clearEventRecorder _ => [.regs, .pmc, .evt, .host, .ntn, .out]
  | .eventRecordWrite => [.regs, .pmc, .evt, .host, .ntn, .out]
  | .repeatWriteback => [.evt, .out]
  | .evrCntClr _ => [.regs, .pmc, .evt, .host, .out]
  | .msixSend _ _ => [.host, .out]
  | .ntnScrub _ _ _ => [.regs, .pmc, .evt, .host, .ntn, .out]
  | .scrubNow _ => [.regs, .pmc, .evt, .host, .ntn, .out]
  | .scrubDone => [.regs, .pmc, .evt, .host, .ntn, .out]
  | .ntnCntClr _ => [.regs, .pmc, .evt, .host, .out]
  | .optimeTick => [.regs, .pmc, .evt, .host, .ntn, .out]
  | .pmcFreezeWrite _ _ => [.regs, .pmc, .evt, .host, .out]
  | .pmcOverflow _ _ _ => [.regs, .pmc, .evt, .host, .out]
  | .pmcCntClr _ _ => [.regs, .pmc, .evt, .host, .out]
  | .cpmuConfigWrite _ _ _ _ _ _ _ => [.regs, .pmc, .evt, .host, .out]
  | .jtagInstructionLoad _ => [.regs, .pmc, .evt, .host, .fch, .wp, .warp, .upk, .pwr, .side, .out]
  | .jtagExtestExit => [.regs, .pmc, .evt, .host, .fch, .wp, .warp, .upk, .pwr, .side, .out]
  | .hdmDecoderCommit _ _ _ _ _ _ _ _ _ => [.host, .out]
  | .firstFormatDone => [.regs, .pmc, .pop, .evt, .host, .map, .rd, .cry, .epo, .upk, .out, .freeCtr]
  | .headLinkRecovery _ => [.regs, .pmc, .host, .out]
  | .msixControlWrite _ _ _ => [.host, .out]

end Sys2Proof.Machine
end

