-- ==== Sys2Proof/Certificates/Slice0/Obligations.lean ====
section
/-!
DEFINITION. The statements for the provers. A clause about a command concludes that the command answers a next state, for every
state and operands that meet its hypotheses, and says what that state holds.
-/
open Sys2Proof Sys2Proof.Machine

/-- Control-BAR accesses (R4, R6, R7, R551, R556, R557).
 1. A read that is misaligned or not 32 or 64 bits wide returns all ones and raises ACCESS_ERR with reason 1.
 2. Such a write is discarded with the same event.
 3. A 64-bit write to a register of a common page stores what the field rules make of it, and no other register changes.
 4. A 64-bit read of ERR_INFO returns it, and latches its upper half and ERR_ADDR for the reading head.
 5. A 64-bit write to EVT_STS clears the bits written with 1, and no other register changes.
 6. A 64-bit write to EVT_FORCE sets each written bit of EVT_STS, without capture: ERR_INFO and ERR_ADDR stay. -/
def Obligations.BarAccessCommands : Prop :=
  (∀ (s : State) (h off width : Nat), s.wf = true → s.ioUp h = true → (¬ ((width = 4 ∨ width = 8) ∧ off % width = 0)) →
    ∃ t, exec (.misalignedAccess h false off width) s = .next t ∧ t.out = [.barData h (BitVec.allOnes 64)] ∧
    t.evtSet Ev.topAccessErr ∧ getBits (t.reg 0x38) 11 8 = 1 ∧ s.keepsRegs t Ev.topAccessErr.regs) ∧
  (∀ (s : State) (h off width : Nat), s.wf = true → s.ioUp h = true → (¬ ((width = 4 ∨ width = 8) ∧ off % width = 0)) →
    ∃ t, exec (.misalignedAccess h true off width) s = .next t ∧ t.out = [] ∧ t.evtSet Ev.topAccessErr ∧
    getBits (t.reg 0x38) 11 8 = 1 ∧ s.keepsRegs t Ev.topAccessErr.regs) ∧
  (∀ (s : State) (h off i o : Nat) (b : Block) (fs : List FieldDef) (data : BitVec 64), s.wf = true → s.barReady h →
    off % 8 = 0 → windowAt off = none → pageAt off = some (b, i, o) → b ≠ .hst → ¬ (b = .epo ∧ o = 0x130) → o ≠ 0x28 →
    fieldsAt b i o = some fs → orderOk s.begin off (writeFields fs (s.reg off) data (BitVec.allOnes 64)) = true → ∃ t,
    exec (.controlBarWrite h off 8 data) s = .next t ∧ t.out = [] ∧
    t.reg off = writeFields fs (s.reg off) data (BitVec.allOnes 64) ∧ s.keepsRegs t [off]) ∧
  (∀ (s : State) (h off i : Nat) (b : Block), s.wf = true → s.ioUp h = true → off % 8 = 0 → b ≠ .hst →
    pageAt off = some (b, i, 0x38) → ∃ t, exec (.errInfoRead h off 8) s = .next t ∧ t.out = [.barData h (s.reg off)] ∧
    Tab.get (fun _ => none) (t.head h).latch (off - 0x38) = some ((s.reg off).extractLsb' 32 32, s.reg (off + 8)) ∧
    s.keeps t [.host, .out]) ∧
  (∀ (s : State) (h off i : Nat) (b : Block) (data : BitVec 64), s.wf = true → s.barReady h → off % 8 = 0 → b ≠ .hst →
    pageAt off = some (b, i, 0x20) → ∃ t, exec (.evtStsClear h off 8 data) s = .next t ∧ t.out = [] ∧
    t.reg off = s.reg off &&& ~~~data ∧ s.keepsRegs t [off]) ∧
  (∀ (s : State) (h off i k : Nat) (b : Block) (data : BitVec 64), s.wf = true → s.barReady h → off % 8 = 0 → b ≠ .hst →
    pageAt off = some (b, i, 0x30) → k < b.eventBits → data.getLsbD k = true → ¬ (b = .skn ∧ k = 7) → ∃ t,
    exec (.evtForce h off 8 data) s = .next t ∧ t.evtSet ⟨b, i, k⟩ ∧ t.reg (off + 8) = s.reg (off + 8) ∧
    t.reg (off + 16) = s.reg (off + 16))

/-- Time bases and the device index (R11, R12, R30 to R32, R73, R78, R494).
 1. SET_TIMESTAMP sets DEVTIME at once, ends slewing, sets TOP_TIME_STS.VALID and raises TIME_SET.
 2. GET_TIMESTAMP answers DEVTIME, and nothing changes.
 3. With the lock held, an edge within 0.1 s of 1, 2 or 3 seconds after the last accepted one is accepted: an offset of at most
 250 us is slewed off over one second, a larger one is stepped.
 4. With the lock held, any other edge is only counted.
 5. Without the lock, an edge 0.9 s to 1.1 s after the candidate takes the lock.
 6. Three seconds without an accepted edge lose the lock, and slewing stops.
 7. A first assignment of the device index is stored and reported.
 8. An operating second adds 1,000 to counter 4 (below its limit, its next cell good). -/
def Obligations.TimeCommands : Prop :=
  (∀ (s : State) (h : Nat) (ns : BitVec 64), s.wf = true → s.mboxRwReady h → ∃ t, exec (.setTimestamp h ns) s = .next t ∧
    t.out = [.mbox h .success []] ∧ t.time.devtime = ns.toNat ∧ t.time.slewLeft = 0 ∧ t.fld F.topTimeValid = 1 ∧
    t.evtSet Ev.topTimeSet) ∧
  (∀ (s : State) (h : Nat), s.mboxReady h → ∃ t, exec (.getTimestamp h) s = .next t ∧
    t.out = [.mbox h .success [s.time.devtime]] ∧ s.keeps t [.out]) ∧
  (∀ (s : State) (e : Int), s.wf = true → s.pwr.coreOn = true → s.time.ppsLocked = true →
    edgeFits (s.time.upNs - s.time.lastEdge.getD 0) = true → e = (s.time.devtime : Int) - nearestSecond s.time.devtime →
    ∃ t, exec (.ppsEdge) s = .next t ∧ t.time.lastEdge = some s.time.upNs ∧ t.fld F.topTimePpsOk = 1 ∧ (if -250000 ≤ e ∧
    e ≤ 250000 then t.time.devtime = s.time.devtime ∧ t.time.slewLeft = 25000000 ∧ t.time.slewE = e ∧
    t.fld F.topTimeStepped = 0 else t.time.devtime = nearestSecond s.time.devtime ∧ t.time.slewLeft = 0 ∧
    t.fld F.topTimeStepped = 1)) ∧
  (∀ (s : State), s.wf = true → s.pwr.coreOn = true → s.time.ppsLocked = true →
    edgeFits (s.time.upNs - s.time.lastEdge.getD 0) = false → ∃ t, exec (.ppsEdge) s = .next t ∧ t.time = s.time ∧
    t.fld F.topPpsIgnored = satAdd 32 (s.fld F.topPpsIgnored) 1) ∧
  (∀ (s : State) (c : Nat), s.wf = true → s.pwr.coreOn = true → s.time.ppsLocked = false → s.time.candidate = some c →
    900000000 ≤ s.time.upNs - c → s.time.upNs - c ≤ 1100000000 → ∃ t, exec (.ppsEdge) s = .next t ∧
    t.time.ppsLocked = true ∧ t.evtSet Ev.topPpsLocked) ∧
  (∀ (s : State), s.wf = true → s.pwr.coreOn = true → s.time.ppsLocked = true → ∃ t, exec (.ppsLost) s = .next t ∧
    t.time.ppsLocked = false ∧ t.time.slewLeft = 0 ∧ t.time.devtime = s.time.devtime ∧ t.fld F.topTimePpsOk = 0 ∧
    t.evtSet Ev.topPpsLost) ∧
  (∀ (s : State) (h : Nat) (v : BitVec 32), s.wf = true → s.mboxRwReady h → v.toNat < 2 ^ 18 →
    s.fld F.topMidxAssigned = 0 → ∃ t, exec (.setMachineIndex h v) s = .next t ∧ t.out = [.mbox h .success []] ∧
    t.fld F.topMidxIndex = v.toNat ∧ t.fld F.topMidxAssigned = 1 ∧ t.evtSet Ev.topMidxAssigned) ∧
  (∀ (s : State) (j v : Nat), s.wf = true → s.pwr.coreOn = true → s.bestCell 4 16 = some (j, v) → v + 1000 ≤ 2 ^ 56 - 1 →
    s.cellGood 4 ((j + 1) % 16) = true → ∃ t, exec (.optimeTick) s = .next t ∧ t.cell 4 ((j + 1) % 16) = some (v + 1000) ∧
    t.ctr 4 = some (v + 1000))

/-- Training of a skein's link (R300, R302, R303, R305 to R309, Table 8-14), with the core running.
 1. EQUALISE done: the polarity is kept and ALIGN follows.
 2. ALIGN done with a lead of 4 to 16 slots: the lead is kept and TEST follows.
 3. TEST passed: ACTIVE, with LINK_UP.
 4. A package whose parameter page does not match the required values (Table 8-13, rows 0 to 3) makes the link FAILED.
 5. The first timeout of EQUALISE, ALIGN or TEST goes back to EQUALISE; a second one ends in FAILED with LINK_FAILED.
 6. A retrain that succeeds ends in ACTIVE; the first failure tries again; the second goes to EQUALISE.
 7. A populated skein, not retired, out of ACTIVE for 100 us: that is noted.
 8. SKN_CTL.RETRAIN in ACTIVE enters RETRAIN with its event; FULL_RETRAIN in ACTIVE or RETRAIN enters EQUALISE.
 9. SKN_CTL.PKG_RESET sends the sideband command, and the skein re-enters DISCOVER.
 10. SKN_CTL.CNT_CLR clears the counters of SKN_LINK_CNT. -/
def Obligations.LinkTrainingCommands : Prop :=
  (∀ (s : State) (n : Nat) (pol : BitVec 16), s.wf = true → s.pwr.coreOn = true → s.populated n = true →
    (s.link1 n).st = .equalise → ∃ t, exec (.trainingStepDone n (.equalise pol)) s = .next t ∧ (t.link1 n).st = .align ∧
    (t.link1 n).eq = pol ∧ s.keeps t [.link, .out]) ∧
  (∀ (s : State) (n lead : Nat), s.wf = true → s.pwr.coreOn = true → s.populated n = true → (s.link1 n).st = .align →
    4 ≤ lead → lead ≤ 16 → ∃ t, exec (.trainingStepDone n (.align lead)) s = .next t ∧ (t.link1 n).st = .test ∧
    (t.warp1 n).lead = lead ∧ s.keeps t [.link, .warp, .out]) ∧
  (∀ (s : State) (n : Nat), s.wf = true → s.pwr.coreOn = true → s.populated n = true → (s.link1 n).st = .test → ∃ t,
    exec (.trainingStepDone n .test) s = .next t ∧ (t.link1 n).st = .active ∧ (t.link1 n).trained = true ∧
    t.evtSet (Ev.sknLinkUp n)) ∧
  (∀ (s : State) (n protos dies row off : Nat) (l : List Nat), s.wf = true → s.pwr.coreOn = true → s.populated n = true →
    (s.link1 n).st = .discover → s.map.fmt = none → (row, off) ∈ shortRows dies (s.pickVersion n protos) l → row ≤ 3 →
    ∃ t, exec (.trainingStepDone n (.discover true protos dies l)) s = .next t ∧ (t.link1 n).st = .failed ∧
    (t.link1 n).pkg = .incompatible ∧ t.evtSet (Ev.sknLinkFailed n)) ∧
  (∀ (s : State) (n : Nat), s.wf = true → s.pwr.coreOn = true → s.populated n = true →
    ((s.link1 n).st = .equalise ∨ (s.link1 n).st = .align ∨ (s.link1 n).st = .test) → ∃ t,
    exec (.trainingStepTimeout n) s = .next t ∧ ((s.link1 n).fails = 0 → (t.link1 n).st = .equalise ∧
    (t.link1 n).fails = 1) ∧ ((s.link1 n).fails ≠ 0 → t = s.begin.linkFailed n)) ∧
  (∀ (s : State) (n : Nat) (ok : Bool), s.wf = true → s.pwr.coreOn = true → (s.link1 n).st = .retrain →
    ((s.link1 n).retrainFails = 0 ∨ ok = true ∨ (s.link1 n).retrainFails = 1) → ∃ t,
    exec (.retrainDone n ok) s = .next t ∧
    ((t.link1 n).st = (if ok then .active else if (s.link1 n).retrainFails = 0 then .retrain else .equalise)) ∧
    (ok = true → t.evtSet (Ev.sknLinkUp n))) ∧
  (∀ (s : State) (n : Nat), s.wf = true → s.pwr.coreOn = true → (s.link1 n).trained = true → (s.link1 n).st ≠ .active →
    (s.link1 n).outLong = false → s.skeinRetired n = false → ∃ t, exec (.skeinOutTimeout n) s = .next t ∧
    (t.link1 n).outLong = true ∧ (t.link1 n).st = (s.link1 n).st) ∧
  (∀ (s : State) (h n : Nat), s.wf = true → s.barReady h → (s.link1 n).st = .active → n < 128 → ∃ t,
    exec (.sknRetrain h n) s = .next t ∧ (t.link1 n).st = .retrain ∧ t.evtSet (Ev.sknRetrain n) ∧
    t.fld (F.sknLinkCntRetrains n) = satAdd 16 (s.fld (F.sknLinkCntRetrains n)) 1) ∧
  (∀ (s : State) (h n : Nat), s.wf = true → s.barReady h → ((s.link1 n).st = .active ∨ (s.link1 n).st = .retrain) → ∃ t,
    exec (.sknFullRetrain h n) s = .next t ∧ (t.link1 n).st = .equalise ∧ (t.link1 n).fails = 0) ∧
  (∀ (s : State) (h n : Nat), s.wf = true → s.barReady h → s.populated n = true → (s.link1 n).st ≠ .reset →
    s.retiredRes (resSkein n) = false → ∃ t, exec (.sknPkgReset h n) s = .next t ∧ (t.link1 n).st = .discover ∧
    (t.link1 n).pkg = .discovering ∧ t.out = [.sideband n 7]) ∧
  (∀ (s : State) (h n : Nat), s.wf = true → s.barReady h → ∃ t, exec (.sknCntClr h n) s = .next t ∧
    t.reg (F.sknLinkCntUpFails n).off = 0#64 ∧ s.keepsRegs t [(F.sknLinkCntUpFails n).off])

/-- Sideband, polls and resets (R306, R307, R460, R462).
 1. A READ_TEMP response stores the temperature of the package, valid, and ends the transaction.
 2. A transaction without an answer is sent again, up to three times.
 3. After the third retry of a READ_TEMP, SB_FAIL is raised and the transaction ends.
 4. A temperature poll sends READ_TEMP to a skein that is ACTIVE (here, the only one).
 5. The end of the stretch deasserts a ply group's media reset.
 6. A media-reset pulse of one group without an ACTIVE skein asserts its reset and starts the pulse.
 7. The end of a pulse leaves the reset asserted, its stretch running.
 8. The board reset deasserts in ON. -/
def Obligations.MediaResetCommands : Prop :=
  (∀ (s : State) (n data : Nat) (op : SbOp), s.wf = true → s.pwr.coreOn = true → (s.link1 n).sb = some op → op.cmd = 3 →
    (s.link1 n).pollDue = false → ∃ t, exec (.sidebandResponse n 0 data) s = .next t ∧ (t.link1 n).sb = none ∧
    (t.link1 n).tempValid = true ∧ (t.link1 n).temp = BitVec.ofNat 16 (data % 65536)) ∧
  (∀ (s : State) (n : Nat) (op : SbOp), s.wf = true → s.pwr.coreOn = true → (s.link1 n).sb = some op → op.tries < 3 → ∃ t,
    exec (.sidebandTimeout n) s = .next t ∧ (t.link1 n).sb = some { op with tries := op.tries + 1 } ∧
    t.out = [.sideband n op.cmd] ∧ s.keeps t [.link, .out]) ∧
  (∀ (s : State) (n : Nat) (op : SbOp), s.wf = true → s.pwr.coreOn = true → (s.link1 n).sb = some op → op.tries = 3 →
    op.cmd ≠ 3 → (s.link1 n).pollDue = false → ∃ t, exec (.sidebandTimeout n) s = .next t ∧ (t.link1 n).sb = none ∧
    t.evtSet (Ev.sknSbFail n)) ∧
  (∀ (s : State), s.wf = true → s.pwr.coreOn = true → s.popP = 1 → (s.link1 0).st = .active → (s.link1 0).sb = none →
    ((List.range 15).all fun i => (s.link1 (i + 1)).st != .active) = true → ∃ t, exec (.tempPoll) s = .next t ∧
    t.out = [.sideband 0 3] ∧ (t.link1 0).sb = some ⟨3, 0⟩) ∧
  (∀ (s : State) (g : Nat), s.wf = true → s.pwr.stby = true → g < s.popP → g < 8 → s.mediaUp g = true →
    s.pwr.mrst.getLsbD g = true → s.pwr.pulse.getLsbD g = false → s.pwr.devReset ≠ .holding → ∃ t,
    exec (.mrstDeassert g) s = .next t ∧ t.pwr.mrst = s.pwr.mrst &&& ~~~(1#8 <<< g)) ∧
  (∀ (s : State) (h g : Nat), s.wf = true → s.barReady h → g < s.popP → g < 8 →
    ((List.range 16).all fun i => decide ((s.link1 (16 * g + i)).st ≠ .active)) = true → ∃ t,
    exec (.mrstPulse h (1#8 <<< g)) s = .next t ∧ t.pwr.mrst.getLsbD g = true ∧ t.pwr.pulse.getLsbD g = true) ∧
  (∀ (s : State) (g : Nat), s.pwr.stby = true → s.pwr.pulse.getLsbD g = true → ∃ t, exec (.mrstPulseEnd g) s = .next t ∧
    t.pwr.pulse = s.pwr.pulse &&& ~~~(1#8 <<< g) ∧ t.pwr.mrst = s.pwr.mrst ∧ s.keeps t [.pwr, .out]) ∧
  (∀ (s : State), s.pwr.stby = true → s.pwr.st = .on → s.pwr.brd = true → ∃ t, exec (.brdRstDeassert) s = .next t ∧
    t.pwr.brd = false ∧ s.keeps t [.pwr, .out])

/-- Power-up (R37, R438, R440 to R446, R595, Tables 13-1 to 13-3).
 1. Standby power samples HBIF, starts DEVTIME at 0 and leaves the sequencer in STANDBY.
 2. A loss of standby power disables every rail at once and empties the recorder's queue.
 3. A request in STANDBY starts RAMP_UP with PWC8, the first channel of the order.
 4. A rail that qualifies is noted; nothing else changes but the outputs.
 5. A rail that settles, with none left to start and no off request, completes the sequence: ON, SEQ_UP_OUT, the core released,
 SEQ_DONE raised.
 6. A rail that settles with an off request waiting turns the sequence down.
 7. The first three chatter events of a step wait for the rail again; the fourth aborts.
 8. A step timeout without an off request aborts, with STEP_TIMEOUT and SEQ_ABORT, into RAMP_DOWN with the core off.
 9. A settled rail lost in RAMP_UP aborts; lost in ON with the core running it starts the power-fail flush.
 10. After the retry wait, with the request still there, RAMP_UP begins again and the retry is counted. -/
def Obligations.PowerUpCommands : Prop :=
  (∀ (s : State) (hbif : Bool), s.wf = true → s.pwr.stby = false → ∃ t, exec (.standbyPowerOn hbif) s = .next t ∧
    t.pwr.stby = true ∧ t.pwr.st = .standby ∧ (t.host.hbif = hbif) ∧ t.time.devtime = 0 ∧
    t.fld F.pwrErrInfoStateAt = s.pwr.lossSt % 16) ∧
  (∀ (s : State), s.pwr.stby = true → ∃ t, exec (.standbyPowerLoss) s = .next t ∧ t.pwr.stby = false ∧ t.pwr.en = 0#12 ∧
    t.pwr.coreOn = false ∧ t.evt.queue = []) ∧
  (∀ (s : State), s.wf = true → s.pwr.stby = true → s.pwr.st = .standby → s.pwr.seqUpIn = true → ∃ t,
    exec (.powerUpStart) s = .next t ∧ t.pwr.st = .rampUp ∧ t.pwr.cur = 8 ∧ t.pwr.en = s.pwr.en ||| bit12 8 ∧
    t.pwr.seqDnOut = false) ∧
  (∀ (s : State), s.pwr.st = .rampUp → s.pwr.en.getLsbD s.pwr.cur = true → s.pwr.qual.getLsbD s.pwr.cur = false → ∃ t,
    exec (.railQualified) s = .next t ∧ t.pwr.qual = s.pwr.qual ||| bit12 s.pwr.cur ∧ s.keeps t [.pwr, .out]) ∧
  (∀ (s : State), s.wf = true → s.pwr.st = .rampUp → s.pwr.qual.getLsbD s.pwr.cur = true →
    s.pwr.settled.getLsbD s.pwr.cur = false → s.pwr.offReq = false →
    (s.rails.all fun i => (s.pwr.settled ||| bit12 s.pwr.cur).getLsbD i) = true → ∃ t, exec (.railSettled) s = .next t ∧
    t.pwr.st = .on ∧ t.pwr.seqUpOut = true ∧ t.pwr.coreOn = true ∧ t.pwr.retries = 0 ∧ t.evtSet Ev.pwrSeqDone) ∧
  (∀ (s : State), s.wf = true → s.pwr.st = .rampUp → s.pwr.qual.getLsbD s.pwr.cur = true →
    s.pwr.settled.getLsbD s.pwr.cur = false → s.pwr.offReq = true → s.pwr.en.getLsbD 8 = true → ∃ t,
    exec (.railSettled) s = .next t ∧ t.pwr.st = .rampDown ∧ t.pwr.seqUpOut = false ∧ t.pwr.offReq = false) ∧
  (∀ (s : State), s.wf = true → s.pwr.st = .rampUp → s.pwr.qual.getLsbD s.pwr.cur = true →
    s.pwr.settled.getLsbD s.pwr.cur = false → s.pwr.offReq = false → s.pwr.cur < 12 → ∃ t, exec (.chatter) s = .next t ∧
    (if s.pwr.chat < 3 then t.pwr.st = .rampUp ∧ t.pwr.chat = s.pwr.chat + 1 ∧
    t.pwr.qual = s.pwr.qual &&& ~~~(bit12 s.pwr.cur) ∧ t.evtSet Ev.pwrChatter else t.pwr.st = .rampDown ∧
    t.pwr.why = .abort ∧ t.pwr.faultSeq = true)) ∧
  (∀ (s : State), s.wf = true → s.pwr.st = .rampUp → s.pwr.settled.getLsbD s.pwr.cur = false → s.pwr.offReq = false →
    s.pwr.coreOn = false → ∃ t, exec (.stepTimeout) s = .next t ∧ t.pwr.st = .rampDown ∧ t.pwr.why = .abort ∧
    t.pwr.faultSeq = true ∧ t.pwr.down.head? = some s.pwr.cur ∧ t.evtSet Ev.pwrStepTimeout ∧ t.evtSet Ev.pwrSeqAbort) ∧
  (∀ (s : State) (i : Nat), s.wf = true → s.pwr.settled.getLsbD i = true → (s.pwr.st = .rampUp ∨ (s.pwr.st = .on ∧
    s.pwr.coreOn = true)) → ∃ t, exec (.railLost i) s = .next t ∧ (s.pwr.st = .rampUp → t.pwr.st = .rampDown ∧
    t.pwr.why = .abort) ∧ (s.pwr.st = .on → t.pwr.st = .pfFlush ∧ t.pwr.hostStopped = true ∧ t.evtSet Ev.pwrRailLost)) ∧
  (∀ (s : State), s.pwr.st = .retryWait → s.pwr.seqUpIn = true → ∃ t, exec (.retryStart) s = .next t ∧
    t.pwr.st = .rampUp ∧ t.pwr.retries = s.pwr.retries + 1 ∧ t.pwr.cur = 8)

/-- Power-down and requests (R446 to R455, R461, R465, Tables 13-2 and 13-3).
 1. A rail that has come down: the next one is disabled, and after the last OFF_HOLD begins with SEQ_DN_OUT.
 2. A stuck rail raises RAIL_STUCK, sets the sequencing fault, and power-down goes on.
 3. OFF_HOLD ends by the reason: a normal off goes to STANDBY, a local off or a trip to LATCHED while SEQ_UP_IN is high, an abort
 with retries left to RETRY_WAIT.
 4. SEQ_UP_IN falling in RAMP_UP waits for the step; in RETRY_WAIT or LATCHED it goes to STANDBY; in ON, with no device reset
 in progress, QUIESCE begins and the host ports stop.
 5. SEQ_UP_IN rising is noted, and nothing else but the outputs changes.
 6. SEQ_DN_IN rising in WAIT_DN starts RAMP_DOWN.
 7. A cascade timeout raises its event and starts RAMP_DOWN.
 8. PWR_CTL.OFF with the key in ON, with no device reset in progress, quiesces; without the key it is refused with REFUSED.
 9. A power failure in ON warns, raises POWER_FAIL and enters PF_FLUSH with the host ports stopped and every head's port off.
 10. PWR_CTL.DEV_RESET with the key in ON begins the flush of a device reset; without the key it is refused.
 11. The end of a device reset releases the core and raises DEV_RESET_DONE.
 12. PWR_CTL.CNT_CLR starts a new generation of the sequencing counters (here from blank ones): count 0. -/
def Obligations.PowerDownCommands : Prop :=
  (∀ (s : State) (i : Nat) (rest : List Nat), s.pwr.st = .rampDown → s.pwr.down = i :: rest → ∃ t,
    exec (.railOff i) s = .next t ∧ (t.pwr.st = (if rest = [] then .offHold else .rampDown)) ∧ t.pwr.down = rest ∧
    (rest = [] → t.pwr.seqDnOut = true) ∧ (rest.head?.all fun j => !t.pwr.en.getLsbD j) = true ∧ s.keeps t [.pwr, .out]) ∧
  (∀ (s : State) (i : Nat) (rest : List Nat), s.wf = true → s.pwr.st = .rampDown → s.pwr.down = i :: rest → ∃ t,
    exec (.railStuck i) s = .next t ∧ t.pwr.faultSeq = true ∧ t.pwr.down = rest ∧ t.evtSet Ev.pwrRailStuck) ∧
  (∀ (s : State), s.pwr.st = .offHold → s.pwr.seqUpIn = true → ∃ t, exec (.offHoldEnd) s = .next t ∧
    (s.pwr.why = .normal → t.pwr.st = .standby) ∧ (s.pwr.why = .localOff ∨ s.pwr.why = .trip → t.pwr.st = .latched) ∧
    (s.pwr.why = .abort → t.pwr.st = (if s.pwr.retries < s.fld F.pwrCfgRetries then .retryWait else .latched))) ∧
  (∀ (s : State), s.pwr.stby = true → s.pwr.devReset = .none → ∃ t, exec (.seqUpInFall) s = .next t ∧
    t.pwr.seqUpIn = false ∧ (s.pwr.st = .rampUp → t.pwr.st = .rampUp ∧ t.pwr.offReq = true) ∧
    (s.pwr.st = .retryWait ∨ s.pwr.st = .latched → t.pwr.st = .standby) ∧ (s.pwr.st = .on → t.pwr.st = .quiesce ∧
    t.pwr.hostStopped = true ∧ t.pwr.why = .normal)) ∧
  (∀ (s : State), s.pwr.stby = true → ∃ t, exec (.seqUpInRise) s = .next t ∧ t.pwr.seqUpIn = true ∧ t.pwr.st = s.pwr.st ∧
    s.keeps t [.pwr, .out]) ∧
  (∀ (s : State), s.wf = true → s.pwr.stby = true → s.pwr.st = .waitDn → s.pwr.en.getLsbD 8 = true → ∃ t,
    exec (.seqDnInRise) s = .next t ∧ t.pwr.seqDnIn = true ∧ t.pwr.st = .rampDown ∧ t.pwr.why = s.pwr.why) ∧
  (∀ (s : State), s.wf = true → s.pwr.st = .waitDn → s.pwr.seqDnIn = false → s.pwr.coreOn = false →
    s.pwr.en.getLsbD 8 = true → ∃ t, exec (.cascadeTimeout) s = .next t ∧ t.pwr.st = .rampDown ∧
    t.evtSet Ev.pwrCascadeTimeout) ∧
  (∀ (s : State) (h key : Nat), s.wf = true → s.barReady h → s.pwr.st = .on → s.pwr.devReset = .none → ∃ t,
    exec (.localOff h key) s = .next t ∧ (key = 0xD5 → t.pwr.st = .quiesce ∧ t.pwr.why = .localOff ∧
    t.pwr.hostStopped = true) ∧ (key ≠ 0xD5 → t.pwr = s.pwr ∧ t.evtSet Ev.pwrRefused)) ∧
  (∀ (s : State), s.wf = true → s.pwr.stby = true → s.pwr.coreOn = true → (s.pwr.st = .on ∨ s.pwr.st = .quiesce) → ∃ t,
    exec (.powerFail) s = .next t ∧ t.pwr.st = .pfFlush ∧ t.pwr.pfw = true ∧ t.pwr.hostStopped = true ∧
    t.evtSet Ev.pwrPowerFail ∧ (s.host.heads.all fun p => (t.head p.1).link == .off) = true) ∧
  (∀ (s : State) (h key : Nat), s.wf = true → s.barReady h → s.pwr.st = .on → s.pwr.devReset = .none →
    s.fwu.paused = false → ∃ t, exec (.devReset h key) s = .next t ∧ (key = 0xD5 → t.pwr.devReset = .flushing ∧
    t.pwr.hostStopped = true) ∧ (key ≠ 0xD5 → t.pwr = s.pwr ∧ t.evtSet Ev.pwrRefused)) ∧
  (∀ (s : State), s.wf = true → s.pwr.devReset = .holding → ∃ t, exec (.devResetDone) s = .next t ∧
    t.pwr.devReset = .none ∧ t.pwr.coreOn = true ∧ t.evtSet Ev.pwrDevResetDone) ∧
  (∀ (s : State) (h : Nat), s.wf = true → s.barReady h →
    ((1 :: (List.range 16).map (fun i => 16 + i)).all fun c => (List.range 16).all fun j => (s.cell c j) == some 0 &&
      s.cellGood c j) = true → ∃ t, exec (.pwrCntClr h) s = .next t ∧
    ((1 :: (List.range 16).map (fun i => 16 + i)).all fun c => t.ctr c == some (2 ^ 48)) = true)

/-- Flushes and start-up (R62, R64, R180, R217, R221, R514, R515, R599).
 1. GPF phase 2 with no flush running and no dirty line begins a flush of that request and sets the flush marker.
 2. GPF phase 2 while a flush runs waits in the queue of flushes.
 3. A queued flush begins when none runs: it leaves the queue.
 4. A power-fail flush with nothing left to write ends: the flush is over, FLUSH_DONE was raised, and RAMP_DOWN begins with the
 core off.
 5. The firmware runs once the boot ROM hands over (no first boot of a trial image pending).
 6. The memory becomes active when every condition of R515 holds. -/
def Obligations.FlushAndStartCommands : Prop :=
  (∀ (s : State) (h : Nat), s.ioUp h = true → s.wp.flush = none → s.dirtyLines = [] → ∃ t,
    exec (.gpfPhase2Request h) s = .next t ∧ t.wp.flush = some ⟨.gpf h, false, []⟩ ∧ t.wp.marker = true) ∧
  (∀ (s : State) (h : Nat) (f : Flush), s.ioUp h = true → s.wp.flush = some f → ∃ t,
    exec (.gpfPhase2Request h) s = .next t ∧ t.wp.flush = some f ∧ t.wp.flushQ = s.wp.flushQ ++ [.gpf h] ∧ s.keeps t [.wp,
    .out]) ∧
  (∀ (s : State) (k : FlushKind) (rest : List FlushKind), s.pwr.coreOn = true → s.wp.flush = none →
    s.wp.flushQ = k :: rest → s.dirtyLines = [] → ∃ t, exec (.queuedFlushStart) s = .next t ∧ t.wp.flush = some ⟨k, false,
    []⟩ ∧ t.wp.flushQ = rest) ∧
  (∀ (s : State) (f : Flush), s.wf = true → s.pwr.coreOn = true → s.wp.flush = some f → f.kind = .powerFail →
    f.failed = false → f.lines = [] → s.flushWritten f = true → s.pwr.en.getLsbD 8 = true → ∃ t,
    exec (.flushDone true) s = .next t ∧ t.wp.flush = none ∧ t.pwr.st = .rampDown ∧ t.pwr.coreOn = false ∧
    t.evtSet Ev.pwrFlushDone) ∧
  (∀ (s : State), s.wf = true → s.pwr.coreOn = true → s.fwu.rom = true → s.fwu.trialMethod ≠ 3 → ∃ t,
    exec (.firmwareRunning) s = .next t ∧ t.fwu.running = true ∧ t.fwu.rom = false) ∧
  (∀ (s : State), s.mayActivate = true → ∃ t, exec (.memoryActive) s = .next t ∧ t.host.memActive = true ∧
    t.host.heads = s.host.heads ∧ s.keeps t [.host, .out])

/-- The front cache's control (R97, R98, R107, R118 to R126, R137, R138, Table 3-9).
 1. Way masks that leave no way outside the window to writes are refused; nothing but the report changes.
 2. Accepted way masks are stored; nothing is emptied while the cache holds no line.
 3. A way whose last dirty line has gone is empty: its bit in WAY_EMPTY sets.
 4. A dirty limit of 16 to 160 MiB is stored and is the limit in force, which the hold-up requirement follows upwards.
 5. FCH_CTL.ENABLE 1 from OFF starts enabling; from DRAINING the cache is ON again.
 6. Enabling ends with the cache ON and empty.
 7. FCH_CTL.ENABLE 0 in ON without a window starts DRAINING; with a window it is refused.
 8. DRAINING ends, with no dirty line left, in OFF with DRAIN_DONE.
 9. FCH_CTL.CNT_CLR clears FCH_ECC_CNT.
 10. A bank group waiting to fold, without a dirty line and without a window, folds: its sets are served elsewhere.
 11. A diagnostic read of an empty way reports the stored word and its check bits.
 12. A diagnostic write of an empty way stores DATA and CHK unchanged. -/
def Obligations.FrontCacheCommands : Prop :=
  (∀ (s : State) (h : Nat) (rd wr pf : BitVec 16), s.wf = true → s.barReady h → wr &&& ~~~s.swtMask = 0#16 → ∃ t,
    exec (.fchWaymaskWrite h rd wr pf) s = .next t ∧ t.evtSet Ev.fchRefused ∧
    t.fld F.fchWaymaskWr = s.fld F.fchWaymaskWr ∧ t.fch = s.fch) ∧
  (∀ (s : State) (h : Nat) (rd wr pf : BitVec 16), s.wf = true → s.barReady h → wr &&& ~~~s.swtMask ≠ 0#16 →
    s.fch.arr = [] → ∃ t, exec (.fchWaymaskWrite h rd wr pf) s = .next t ∧ t.fld F.fchWaymaskRd = rd.toNat ∧
    t.fld F.fchWaymaskWr = wr.toNat ∧ t.fld F.fchWaymaskPf = pf.toNat ∧ t.fch.arr = [] ∧ s.keepsRegs t [0xD110]) ∧
  (∀ (s : State) (w : Nat), s.wf = true → s.pwr.coreOn = true → w < 16 → s.fch.emptying.getLsbD w = true →
    (s.fch.arr.any fun p => p.1 % 16 == w && p.2.any fun c => c.sd != 0#4) = false → ∃ t, exec (.wayEmpty w) s = .next t ∧
    t.fch.wayEmpty.getLsbD w = true ∧ t.fch.emptying.getLsbD w = false) ∧
  (∀ (s : State) (h limit pct : Nat), s.wf = true → s.barReady h → 16 ≤ limit → limit ≤ 160 → 20 ≤ pct → pct ≤ 95 → ∃ t,
    exec (.dirtyLimitWrite h limit pct) s = .next t ∧ t.fld F.fchDirtyCfgLimitMib = limit ∧
    t.fld F.fchDirtyCfgCleanPct = pct ∧ t.fch.limit = limit ∧ limit ≤ t.fch.holdLimit) ∧
  (∀ (s : State) (h : Nat), s.wf = true → s.barReady h → ∃ t, exec (.fchEnable h) s = .next t ∧ t.fld F.fchCtlEnable = 1 ∧
    (s.fch.mode = .off → t.fch.mode = .enabling) ∧ (s.fch.mode = .draining → t.fch.mode = .on)) ∧
  (∀ (s : State), s.pwr.coreOn = true → s.fch.mode = .enabling → ∃ t, exec (.fchEnabled) s = .next t ∧ t.fch.mode = .on ∧
    t.fch.arr = [] ∧ s.keeps t [.fch, .out]) ∧
  (∀ (s : State) (h : Nat), s.wf = true → s.barReady h → s.fch.mode = .on → ∃ t, exec (.fchDisable h) s = .next t ∧
    (s.swt.st = .none → t.fch.mode = .draining ∧ t.fld F.fchCtlEnable = 0) ∧ (s.swt.st ≠ .none → t.fch = s.fch ∧
    t.evtSet Ev.fchRefused)) ∧
  (∀ (s : State), s.wf = true → s.pwr.coreOn = true → s.fch.mode = .draining → s.dirtyCount = 0 → ∃ t,
    exec (.drainDone) s = .next t ∧ t.fch.mode = .off ∧ t.fch.arr = [] ∧ t.evtSet Ev.fchDrainDone) ∧
  (∀ (s : State) (h : Nat), s.wf = true → s.barReady h → ∃ t, exec (.fchCntClr h) s = .next t ∧ t.reg 0xD130 = 0#64 ∧
    s.keepsRegs t [0xD130, F.fchEccCfgEchoUncorr.off]) ∧
  (∀ (s : State) (bg : Nat), s.wf = true → s.pwr.coreOn = true → bg < 16 → s.fch.foldWait.getLsbD bg = true →
    s.swt.st = .none → (s.fch.arr.any fun p => p.1 / 65536 == bg && p.2.any fun c => c.sd != 0#4) = false → ∃ t,
    exec (.groupFolded bg) s = .next t ∧ t.fch.folded.getLsbD bg = true ∧ t.fch.foldWait.getLsbD bg = false ∧
    t.evtSet Ev.fchGroupFolded) ∧
  (∀ (s : State) (h set way word : Nat) (d : BitVec 64) (c : BitVec 8), s.wf = true → s.barReady h →
    s.fld F.fchCtlDiagEn = 1 → s.swt.st = .none → set < 65536 → way < 16 → word < 32 → s.fch.wayEmpty.getLsbD way = true →
    Tab.get (fun _ => none) s.fch.raw ((16 * set + way) * 32 + word) = some (d, c) → ∃ t,
    exec (.diagRead h set way word) s = .next t ∧ t.fld F.fchDiagDataData = d.toNat ∧ t.fld F.fchDiagChkChk = c.toNat ∧
    t.fld F.fchDiagCtlStatus = 0 ∧ t.fch = s.fch) ∧
  (∀ (s : State) (h set way word : Nat), s.wf = true → s.barReady h → s.fld F.fchCtlDiagEn = 1 → s.swt.st = .none →
    set < 65536 → way < 16 → word < 32 → s.fch.wayEmpty.getLsbD way = true → ∃ t,
    exec (.diagWrite h set way word) s = .next t ∧
    Tab.get (fun _ => none) t.fch.raw ((16 * set + way) * 32 + word) = some (BitVec.ofNat 64 (s.fld F.fchDiagDataData),
    BitVec.ofNat 8 (s.fld F.fchDiagChkChk)) ∧ t.fld F.fchDiagCtlStatus = 0)

/-- Maintenance of the front cache (R120 to R123), with no operation running and no fill outstanding.
 1 to 3. Write back, write back and invalidate, and invalidate: a valid range makes FCH_MAINT_CTL BUSY, its operation running
 over that range.
 4. Write back all: BUSY whatever LINE and COUNT hold.
 5. An operation outside 1 to 4 is refused: RESULT 1, REFUSED, nothing running.
 6. A GO while an operation runs is ignored.
 7. With every line in staging the operation ends: BUSY 0, RESULT 0, MAINT_DONE. -/
def Obligations.MaintenanceCommands : Prop :=
  (∀ (s : State) (h first count : Nat), s.wf = true → s.barReady h → s.fch.maint = none → s.fch.mshr = [] →
    s.cacheLines = [] → 1 ≤ count → count < 2 ^ 32 → first + count ≤ s.hostLines → ∃ t,
    exec (.maintWb h first count) s = .next t ∧ t.fld F.fchMaintCtlBusy = 1 ∧ t.fch.maint = some ⟨1, first, count, [],
    []⟩) ∧
  (∀ (s : State) (h first count : Nat), s.wf = true → s.barReady h → s.fch.maint = none → s.fch.mshr = [] →
    s.cacheLines = [] → 1 ≤ count → count < 2 ^ 32 → first + count ≤ s.hostLines → ∃ t,
    exec (.maintWbInv h first count) s = .next t ∧ t.fld F.fchMaintCtlBusy = 1 ∧ t.fch.maint = some ⟨2, first, count, [],
    []⟩) ∧
  (∀ (s : State) (h first count : Nat), s.wf = true → s.barReady h → s.fch.maint = none → s.fch.mshr = [] →
    s.cacheLines = [] → 1 ≤ count → count < 2 ^ 32 → first + count ≤ s.hostLines → ∃ t,
    exec (.maintInv h first count) s = .next t ∧ t.fld F.fchMaintCtlBusy = 1 ∧ t.fch.maint = some ⟨3, first, count, [],
    []⟩) ∧
  (∀ (s : State) (h : Nat), s.wf = true → s.barReady h → s.fch.maint = none → s.dirtyLines = [] → ∃ t,
    exec (.maintWbAll h) s = .next t ∧ t.fld F.fchMaintCtlBusy = 1 ∧ t.fld F.fchMaintCtlOp = 4 ∧
    (t.fch.maint.map fun m => (m.op, m.waiting, m.fills)) = some (4, [], [])) ∧
  (∀ (s : State) (h op first count : Nat), s.wf = true → s.barReady h → s.fch.maint = none → (op % 8 = 0 ∨ 4 < op % 8) →
    ∃ t, exec (.maintInvalidOp h op first count) s = .next t ∧ t.fld F.fchMaintCtlResult = 1 ∧ t.fch.maint = none ∧
    t.evtSet Ev.fchRefused) ∧
  (∀ (s : State) (h first count : Nat), s.barReady h → s.fch.maint ≠ none → ∃ t,
    exec (.maintWb h first count) s = .next t ∧ s.keeps t [.out]) ∧
  (∀ (s : State) (m : Maint), s.wf = true → s.pwr.coreOn = true → s.fch.maint = some m → m.waiting = [] → m.fills = [] →
    ∃ t, exec (.maintDone) s = .next t ∧ t.fch.maint = none ∧ t.fld F.fchMaintCtlBusy = 0 ∧
    t.fld F.fchMaintCtlResult = 0 ∧ t.evtSet Ev.fchMaintDone)

/-- CXL.mem requests of a head (R47 to R57, R103, R111, R126). A request that reaches its domain (`State.reaches`) is decoded, inside
 its extent, and met by no halt, sanitize, abort or window.
 1. A read of an EMPTY domain returns zeros without poison.
 2. A read of a valid sector of a line in the main array returns that sector.
 3. A write with the cache OFF goes around it to stripe staging, its acknowledgement owed by staging.
 4. A partial write into a dirty line of the main array merges its enabled bytes, and the sector is dirty and acknowledged.
 5. A read outside every extent completes with poison and raises OUTSIDE_EXTENT.
 6. MemInv and MemInvNT complete without a data effect.
 7. An invalid opcode is discarded without a response and raises PROTOCOL_ERR.
 8. A speculative read of an unmapped line leaves zeros in the side buffer, and there is no response. -/
def Obligations.MemRequestCommands : Prop :=
  (∀ (s : State) (h tag : Nat) (hpa : BitVec 64) (q : Req), s.reaches (Req.rd h tag) hpa.toNat q →
    (s.dom q.dom).st = .empty → ∃ t, exec (.memRd h tag hpa) s = .next t ∧ (tag ≠ noTag →
    t.out = [.memData h tag 0#512 false (t.devload h)])) ∧
  (∀ (s : State) (h tag k : Nat) (hpa : BitVec 64) (q : Req) (c : CLine), s.reaches (Req.rd h tag) hpa.toNat q →
    (s.dom q.dom).st = .active → s.fch.mode = .on → s.findWay q.line = some (k, c) → s.findVictim q.line = none →
    c.sv.getLsbD q.sec = true → c.sp.getLsbD q.sec = false → c.flaw = [] → tag ≠ noTag → ∃ t,
    exec (.memRdData h tag hpa) s = .next t ∧ t.out = [.memData h tag (c.d.at q.sec) false (t.devload h)]) ∧
  (∀ (s : State) (h tag : Nat) (hpa : BitVec 64) (data : BitVec 512) (q : Req),
    s.reaches (Req.write h tag data (BitVec.allOnes 64) false) hpa.toNat q → (s.dom q.dom).st = .active →
    (s.epoDom q.dom).draining = false → s.fch.mode = .off → ∃ t, exec (.memWr h tag hpa data false) s = .next t ∧
    t.out = [] ∧ t.wp.handed.length = s.wp.handed.length + 1 ∧ (t.wp.handed.getLast?.map fun x => (x.line, x.dom,
    x.d.at q.sec)) = some (q.line, q.dom, data) ∧ (t.wp.handed.getLast?.map fun x => (x.have_, x.cached,
    x.ack)) = some (bit4 q.sec, false, some (h, tag))) ∧
  (∀ (s : State) (h tag k : Nat) (hpa : BitVec 64) (data : BitVec 512) (be : BitVec 64) (q : Req) (c : CLine),
    s.reaches (Req.write h tag data be false) hpa.toNat q → be ≠ BitVec.allOnes 64 → (s.dom q.dom).st = .active →
    (s.epoDom q.dom).draining = false → s.fch.mode = .on → s.fch.mshr = [] → s.flt.inj = none → s.findSide q.line = none →
    s.findWay q.line = some (k, c) → s.findVictim q.line = none → c.sv.getLsbD q.sec = true → c.sp.getLsbD q.sec = false →
    c.sd ≠ 0#4 → c.flaw = [] → tag ≠ noTag → ∃ t, exec (.memWrPtl h tag hpa data be false) s = .next t ∧
    ((t.findWay q.line).map fun x => (x.1, x.2.d.at q.sec, x.2.sd, x.2.sp)) = some (k, mergeBytes (c.d.at q.sec) data be,
    c.sd ||| bit4 q.sec, c.sp) ∧ t.out.map Output.answers = [some (h, tag)]) ∧
  (∀ (s : State) (h tag : Nat) (hpa : BitVec 64), s.wf = true → h < 8 → s.memUp h = true → s.host.memActive = true →
    s.decoderOf h hpa.toNat = none → tag ≠ noTag → ∃ t, exec (.memRd h tag hpa) s = .next t ∧
    t.evtSet (Ev.hstOutsideExtent h) ∧ t.out.map Output.answers = [some (h, tag)] ∧
    t.out.map Output.carries = [some (0#512, true)]) ∧
  (∀ (s : State) (h tag : Nat), s.memUp h = true → tag ≠ noTag → ∃ t, exec (.memInv h tag) s = .next t ∧
    t.out = [.cmp h tag (s.devload h)] ∧ s.keeps t [.out]) ∧
  (∀ (s : State) (h tag : Nat), s.memUp h = true → tag ≠ noTag → ∃ t, exec (.memInvNt h tag) s = .next t ∧
    t.out = [.cmp h tag (s.devload h)] ∧ s.keeps t [.out]) ∧
  (∀ (s : State) (h op : Nat) (hpa : BitVec 64), s.wf = true → s.memUp h = true → ∃ t,
    exec (.invalidMemOpcode h op hpa) s = .next t ∧ t.out = [] ∧ t.evtSet (Ev.hstProtocolErr h) ∧
    s.keeps t (.out :: reporting)) ∧
  (∀ (s : State) (h : Nat) (hpa : BitVec 64) (q : Req), s.reaches (Req.rd h 0) hpa.toNat q → (s.dom q.dom).st = .active →
    s.fch.mode = .on → s.mpresent 0 (q.line / 32) = true → (s.entry q.line).st = 0 → s.lineOf q.line = none →
    s.findSide q.line = none → s.fch.mshr = [] → s.fch.side = [] → s.fch.maint = none → s.stagedCopy q.line = none → ∃ t,
    exec (.memSpecRd h hpa) s = .next t ∧ t.out = [] ∧ ((t.findSide q.line).map fun c => (c.sv, c.d, c.sp)) = some (0xF#4,
    Quad.all 0#512, 0#4))

/-- Requests and lines that waited (R95, R99, R101 to R105, R108, R109, R191).
 1. The oldest waiting miss goes on once an entry is free: here its sector is valid by now, and it is answered.
 2. A write that waited at the dirty limit is admitted: here the cache has gone OFF, and it goes around it.
 3. The cleaner hands the first line of its order to staging.
 4. A write that waited for an eviction goes on once the victim cache has room: here the cache has gone OFF.
 5. A handed line that its ply group takes leaves the handed list, is in staging, and is acknowledged.
 6. A stream tracker fetches its next line: here it is unmapped, and zeros enter the side buffer.
 7. A prefetched line that arrives enters the side buffer. -/
def Obligations.MemWaitCommands : Prop :=
  (∀ (s : State) (r : Req) (rs : List Req) (k : Nat) (c : CLine), s.pwr.coreOn = true → s.fch.mode = .on →
    s.fch.mshr.length < 4096 → s.fch.missWait = r :: rs → r.wr = false → r.tag ≠ noTag → s.findWay r.line = some (k, c) →
    s.findVictim r.line = none → c.sv.getLsbD r.sec = true → c.sp.getLsbD r.sec = false → c.flaw = [] → ∃ t,
    exec (.missWaitResume) s = .next t ∧ t.fch.missWait = rs ∧ t.out.map Output.answers = [some (r.h, r.tag)] ∧
    t.out.map Output.carries = [some (c.d.at r.sec, false)]) ∧
  (∀ (s : State) (r : Req), s.pwr.coreOn = true → s.fch.mode = .off → s.fch.dirtyWait.find? s.mayAdmit = some r →
    (s.epoDom r.dom).draining = false → ∃ t, exec (.dirtyWaitAdmit) s = .next t ∧
    t.fch.dirtyWait = s.fch.dirtyWait.erase r ∧ t.wp.handed.length = s.wp.handed.length + 1 ∧
    (t.wp.handed.getLast?.map fun x => (x.line, x.ack)) = some (r.line, some (r.h, r.tag))) ∧
  (∀ (s : State) (line : Nat) (rest : List Nat) (c : CLine), s.pwr.coreOn = true → s.fch.mode = .on →
    s.cleanable = line :: rest → s.lineOf line = some c → c.sd ≠ 0#4 → c.handed = false → (s.dom c.dom).due = false → ∃ t,
    exec (.cleanerWriteback) s = .next t ∧ t.wp.handed.length = s.wp.handed.length + 1 ∧
    (t.wp.handed.getLast?.map fun x => (x.line, x.cached)) = some (line, true) ∧
    ((t.lineOf line).map fun x => x.handed) = some true) ∧
  (∀ (s : State) (r : Req) (rs : List Req), s.pwr.coreOn = true → s.fch.victim.length < 512 → s.fch.mode = .off →
    s.fch.evictWait = r :: rs → (s.epoDom r.dom).draining = false → ∃ t, exec (.evictionResume) s = .next t ∧
    t.fch.evictWait = rs ∧ t.wp.handed.length = s.wp.handed.length + 1 ∧ (t.wp.handed.getLast?.map fun x => (x.line,
    x.ack)) = some (r.line, some (r.h, r.tag))) ∧
  (∀ (s : State) (line g h tag : Nat) (x : Handed) (y : Staged), s.pwr.coreOn = true →
    s.wp.handed.find? (fun z => z.line == line) = some x → s.stagedOf x = some y → s.entryGroup x = some g →
    (s.begin.enterStaging g y).isSome = true → x.cached = false → x.ack = some (h, tag) → tag ≠ noTag →
    (s.epoDom x.dom).draining = false → s.wp.flush = none → ∃ t, exec (.stagingEntry line) s = .next t ∧
    t.wp.handed = s.wp.handed.erase x ∧ t.out.any (fun o => o.answers == some (h, tag)) = true) ∧
  (∀ (s : State) (i : Nat) (x : Tracker), s.pwr.coreOn = true → s.fld F.fchPfCtlEnable = 1 → s.fch.trackers[i]? = some x →
    x.active = true → x.up = true → x.issue - x.next < s.fld F.fchPfCtlDepth → s.domOf x.issue = some x.dom →
    s.mpresent 0 (x.issue / 32) = true → s.fch.mode = .on → s.swt.st = .none → (s.entry x.issue).st = 0 →
    s.lineOf x.issue = none → s.findSide x.issue = none → s.fch.mshr = [] → s.fch.side = [] → s.fch.maint = none →
    s.stagedCopy x.issue = none → ∃ t, exec (.prefetchIssue i) s = .next t ∧
    ((t.fch.trackers[i]?).map fun y => y.issue) = some (x.issue + 1) ∧ ((t.findSide x.issue).map fun c => (c.sv,
    c.d)) = some (0xF#4, Quad.all 0#512)) ∧
  (∀ (s : State) (line : Nat) (data : List Nat) (m : Mshr), s.pwr.coreOn = true → s.fch.mode = .on →
    (s.rd.reads.any fun r => r.line == line && r.why == .prefetch && decide (r.st ≠ .needMap)) = true →
    s.mshrOf line = some m → m.line = line → m.pf = true → m.reqs = [] → m.drop = false → s.lineOf line = none →
    s.findSide line = none → s.fch.side = [] → s.fch.maint = none → s.stagedCopy line = none → ∃ t,
    exec (.prefetchFill line data) s = .next t ∧ ((t.findSide line).map fun c => (c.sv, c.d)) = some (0xF#4, quadOf data))

/-- The Swatch window (R128, R129, R131, R133, R136).
 1. A carve of 1 to 4 ways that meets every condition starts carving its ways over the range at SWT_BASE.
 2. A carve that fails a condition is refused with REFUSED, and the window stays as it is.
 3. With no dirty line left in its ways and the map ACTIVE the carve ends: the window is ACTIVE, its record written.
 4. A release of an ACTIVE window starts releasing; its KEEP is kept.
 5. With KEEP 0 the next line is handed back at once; after the last line the window is gone, with RELEASE_DONE. -/
def Obligations.SwatchCommands : Prop :=
  (∀ (s : State) (h ways : Nat), s.wf = true → s.barReady h → 1 ≤ ways → ways ≤ 4 → s.carveWhy ways = 0 → ∃ t,
    exec (.swatchCarve h ways) s = .next t ∧ t.swt.st = .carving ∧ t.swt.ways = ways ∧
    t.swt.base = s.fld F.swtBaseBase * 65536 ∧ t.fld F.swtCtlWays = ways) ∧
  (∀ (s : State) (h ways : Nat), s.wf = true → s.barReady h → 1 ≤ ways → ways ≤ 4 → s.carveWhy ways ≠ 0 → ∃ t,
    exec (.swatchCarve h ways) s = .next t ∧ t.swt = s.swt ∧ t.evtSet Ev.swtRefused ∧
    getBits (t.reg (Ev.swtRefused.stsOff + 0x18)) 11 8 = s.carveWhy ways) ∧
  (∀ (s : State), s.wf = true → s.pwr.coreOn = true → s.swt.st = .carving → s.map.st = .active → s.waysClear = true → ∃ t,
    exec (.carveDone) s = .next t ∧ t.swt.st = .active ∧ t.swt.ways = s.swt.ways ∧ t.swt.record = some ⟨false, s.swt.ways,
    s.swt.base, s.swt.keep, s.swt.pos⟩ ∧ t.evtSet Ev.swtCarveDone) ∧
  (∀ (s : State) (h : Nat) (keep : Bool), s.wf = true → s.barReady h → s.swt.st = .active → ∃ t,
    exec (.swatchRelease h keep) s = .next t ∧ t.swt.st = .releasing ∧ t.swt.keep = keep ∧ t.swt.pos = 0 ∧
    t.fld F.swtCtlKeep = ofBool keep) ∧
  (∀ (s : State), s.wf = true → s.pwr.coreOn = true → s.swt.st = .releasing → s.swt.handing = none → s.swt.keep = false →
    ∃ t, exec (.swatchLineHandback) s = .next t ∧ (s.swt.pos + 1 < s.swtLines → t.swt.st = .releasing ∧
    t.swt.pos = s.swt.pos + 1) ∧ (s.swtLines ≤ s.swt.pos + 1 → t.swt.st = .none ∧ t.swt.record = none ∧
    t.evtSet Ev.swtReleaseDone))

/-- Epochs (R33, R34, R424 to R431, R436).
 1. A Prepare without a deadline that no condition refuses starts PREPARING: the phase rises, the open table becomes the prepared one.
 2. A Prepare with a deadline is armed, and answered at once.
 3. A Prepare that a condition refuses gets that return code, and nothing changes.
 4. PREPARING ends in PREPARED once nothing of the old phase is on its way, with PREPARE_DONE.
 5. A Commit makes the prepared epoch the committed one; the prepared table is to be cleaned up.
 6. The cleanup's end is COMMIT_DONE.
 7. An Abort of an armed Prepare cancels it; any other accepted Abort starts ABORTING.
 8. ABORTING with empty tables ends in OPEN with ABORT_DONE.
 9. GET_EPOCH_STATUS answers the domain's state, flags, epochs and table fills.
 10. An armed Prepare whose deadline is reached fires.
 11. A PPS-aligned one that fires from DEVTIME alone raises UNALIGNED_FIRE. -/
def Obligations.EpochCommands : Prop :=
  (∀ (s : State) (h d e : Nat) (pps : Bool), s.wf = true → s.mboxRwReady h → s.prepareGate d e 0 pps = none →
    (s.epo.epochWait.any fun r => r.dom == d) = false → ∃ t, exec (.epochPrepare h d e 0 pps) s = .next t ∧
    (t.epoDom d).st = .preparing ∧ (t.epoDom d).e = e ∧ (t.epoDom d).phase = (s.epoDom d).phase + 1 ∧
    (t.epoDom d).prepTab = (s.epoDom d).openTab ∧ (t.epoDom d).c = (s.epoDom d).c) ∧
  (∀ (s : State) (h d e dl : Nat) (pps : Bool), s.wf = true → s.mboxRwReady h → dl ≠ 0 → s.prepareGate d e dl pps = none →
    ∃ t, exec (.epochPrepare h d e dl pps) s = .next t ∧ (t.epoDom d).armed = some (e, dl, pps) ∧
    (t.epoDom d).st = (s.epoDom d).st ∧ t.out = [.mbox h .success []] ∧ s.keeps t [.epo, .out]) ∧
  (∀ (s : State) (h d e dl : Nat) (pps : Bool) (r : Rc), s.mboxRwReady h → s.prepareGate d e dl pps = some r → ∃ t,
    exec (.epochPrepare h d e dl pps) s = .next t ∧ t.out = [.mbox h r []] ∧ s.keeps t [.out]) ∧
  (∀ (s : State) (d : Nat), s.wf = true → s.pwr.coreOn = true → (s.epoDom d).st = .preparing →
    (s.epoDom d).draining = false → s.phasePending d = false → s.tagsDirty d = false → s.haltCovers d = false → ∃ t,
    exec (.prepareDone d) s = .next t ∧ (t.epoDom d).st = .prepared ∧ (t.epoDom d).e = (s.epoDom d).e ∧
    t.evtSet Ev.epoPrepareDone ∧ ((s.epoDom d).via = 1 → t.out = [.mbox (s.epoDom d).owner .success []])) ∧
  (∀ (s : State) (h d e : Nat), s.wf = true → s.mboxRwReady h → s.commitGate d e = none → ∃ t,
    exec (.epochCommit h d e) s = .next t ∧ (t.epoDom d).st = .open_ ∧ (t.epoDom d).c = e ∧ (t.epoDom d).prepTab = [] ∧
    (t.epoDom d).cleanup.isSome = true ∧ t.out.getLast? = some (.mbox h .success [])) ∧
  (∀ (s : State) (d : Nat), s.wf = true → s.pwr.coreOn = true → (s.epoDom d).cleanup.isSome = true →
    2 ≤ (s.epoDom d).ckptsDone → ∃ t, exec (.commitDone d) s = .next t ∧ (t.epoDom d).cleanup = none ∧
    t.evtSet Ev.epoCommitDone) ∧
  (∀ (s : State) (h d e : Nat), s.wf = true → s.mboxRwReady h → s.abortGate d e = none → ∃ t,
    exec (.epochAbort h d e) s = .next t ∧ ((s.epoDom d).armedFor e = true → (t.epoDom d).armed = none ∧
    (t.epoDom d).st = (s.epoDom d).st) ∧ ((s.epoDom d).armedFor e = false → (t.epoDom d).st = .aborting) ∧
    t.out.getLast? = some (.mbox h .success [])) ∧
  (∀ (s : State) (d : Nat) (bad : List Nat), s.wf = true → s.pwr.coreOn = true → (s.epoDom d).st = .aborting →
    s.map.st = .active → s.sealedPending d = false → s.haltCovers d = false → (s.epoDom d).openTab = [] →
    (s.epoDom d).prepTab = [] → ∃ t, exec (.abortDone d bad) s = .next t ∧ (t.epoDom d).st = .open_ ∧ (t.epoDom d).e = 0 ∧
    (t.epoDom d).c = (s.epoDom d).c ∧ t.evtSet Ev.epoAbortDone) ∧
  (∀ (s : State) (h d : Nat), s.mboxReady h → d < 256 → ∃ t, exec (.getEpochStatus h d) s = .next t ∧
    t.out = [.mbox h .success [s.midxWord, epoCode (s.epoDom d).st,
    ofBool (s.epoDom d).cleanup.isSome + 2 * ofBool (s.epoDom d).armed.isSome + 4 * ofBool (s.epoDom d).rollbackInc + 8 *
      ofBool ((s.epoDom d).st == .aborting), (s.epoDom d).c, (s.epoDom d).shown, (s.epoDom d).openTab.length,
    (s.epoDom d).other, ((s.epoDom d).armed.map fun a => a.2.1).getD 0]] ∧ s.keeps t [.out]) ∧
  (∀ (s : State) (d e dl : Nat) (pps : Bool), s.wf = true → s.pwr.coreOn = true → (s.epoDom d).armed = some (e, dl, pps) →
    s.deadlineDue dl pps = true → s.haltCovers d = false → (s.epoDom d).st = .open_ → (s.epoDom d).c < e →
    (s.epoDom d).cleanup = none → (s.epo.epochWait.any fun r => r.dom == d) = false → ∃ t,
    exec (.deadlineFire (.prepare d)) s = .next t ∧ (t.epoDom d).st = .preparing ∧ (t.epoDom d).e = e ∧
    (t.epoDom d).armed = none) ∧
  (∀ (s : State) (d e dl : Nat), s.wf = true → s.pwr.coreOn = true → (s.epoDom d).armed = some (e, dl, true) →
    s.deadlineAlone dl = true → s.haltCovers d = false → (s.epoDom d).st = .open_ → (s.epoDom d).c < e →
    (s.epoDom d).cleanup = none → (s.epo.epochWait.any fun r => r.dom == d) = false → ∃ t,
    exec (.unalignedFire (.prepare d)) s = .next t ∧ (t.epoDom d).st = .preparing ∧ (t.epoDom d).e = e ∧
    t.evtSet Ev.topUnalignedFire)

/-- Epoch control (R410, R411, R417, R424 to R430, R437).
 1. A doorbell Prepare without a deadline that no condition refuses makes the doorbell BUSY and the domain PREPARING.
 2. A doorbell Commit that no condition refuses makes the prepared epoch the committed one; the result is 0.
 3. A doorbell Abort that no condition refuses of a prepared epoch starts ABORTING; the result is 0.
 4. A doorbell write that a condition refuses leaves that return code in EPO_DB_STS, and the domain as it was.
 5. A doorbell write while BUSY is ignored, with REFUSED.
 6. EPOCH_EN 1 with room for both tables starts ENABLING.
 7. EPOCH_EN 0 in OPEN without a cleanup disables; the open table is to be cleaned up.
 8. ENABLING ends in OPEN with C = 0.
 9. EPO_CTL.CNT_CLR clears no counter, since the page has none. -/
def Obligations.EpochControlCommands : Prop :=
  (∀ (s : State) (h d e : Nat), s.wf = true → s.barReady h → s.epo.dbBusy = false → s.fld F.epoDbDeadlineDevtime = 0 →
    s.prepareGate d e 0 (s.fld F.epoDbDeadlinePps == 1) = none → (s.epo.epochWait.any fun r => r.dom == d) = false → ∃ t,
    exec (.doorbellPrepare h d e) s = .next t ∧ t.epo.dbBusy = true ∧ t.epo.dbDom = d ∧ (t.epoDom d).st = .preparing ∧
    (t.epoDom d).e = e) ∧
  (∀ (s : State) (h d e : Nat), s.wf = true → s.barReady h → s.epo.dbBusy = false → s.commitGate d e = none → ∃ t,
    exec (.doorbellCommit h d e) s = .next t ∧ (t.epoDom d).st = .open_ ∧ (t.epoDom d).c = e ∧ t.epo.dbResult = 0 ∧
    t.epo.dbOp = 2) ∧
  (∀ (s : State) (h d e : Nat), s.wf = true → s.barReady h → s.epo.dbBusy = false → s.abortGate d e = none →
    (s.epoDom d).armed = none → ∃ t, exec (.doorbellAbort h d e) s = .next t ∧ (t.epoDom d).st = .aborting ∧
    t.epo.dbResult = 0 ∧ t.epo.dbOp = 3) ∧
  (∀ (s : State) (h d e : Nat) (r : Rc), s.barReady h → s.epo.dbBusy = false → s.commitGate d e = some r → ∃ t,
    exec (.doorbellCommit h d e) s = .next t ∧ t.epo.dbResult = r.code ∧ t.epo.doms = s.epo.doms ∧ s.keeps t [.epo, .out]) ∧
  (∀ (s : State) (h d e : Nat), s.wf = true → s.barReady h → s.epo.dbBusy = true → ∃ t,
    exec (.doorbellCommit h d e) s = .next t ∧ t.epo = s.epo ∧ t.evtSet Ev.epoRefused) ∧
  (∀ (s : State) (h d a b : Nat), s.wf = true → s.barReady h → d < 256 → (s.dom d).epochEn = false → s.swt.st = .none →
    (s.epoDom d).cleanup = none → s.undoAlloc d = some (a, b) → ∃ t, exec (.epochEnableWrite h d) s = .next t ∧
    (t.dom d).epochEn = true ∧ (t.epoDom d).st = .enabling ∧ (t.epoDom d).tbl0 = a ∧ (t.epoDom d).tbl1 = b ∧
    s.keeps t [.cry, .epo, .out]) ∧
  (∀ (s : State) (h d : Nat), s.wf = true → s.barReady h → d < 256 → (s.dom d).epochEn = true → (s.epoDom d).st = .open_ →
    (s.epoDom d).cleanup = none → ∃ t, exec (.epochDisableWrite h d) s = .next t ∧ (t.dom d).epochEn = false ∧
    (t.epoDom d).st = .disabled ∧ (t.epoDom d).cleanup.isSome = true) ∧
  (∀ (s : State) (d : Nat), s.wf = true → s.pwr.coreOn = true → (s.epoDom d).st = .enabling → s.map.st = .active →
    s.tagsDirty d = false → ∃ t, exec (.epochEnabled d) s = .next t ∧ (t.epoDom d).st = .open_ ∧ (t.epoDom d).c = 0 ∧
    s.keeps t [.epo, .out]) ∧
  (∀ (s : State) (h : Nat), s.barReady h → ∃ t, exec (.epoCntClr h) s = .next t ∧ t.out = [] ∧ s.keeps t [.out])

/-- Domain keys (R372, R373, R378, R389 to R399, R406). A key message comes over a session with the key-administrator role whose
 connection is up.
 1. SET_DOMAIN_KEY on an EMPTY domain makes it ACTIVE with that key as generation 0, with KEY_LOADED.
 2. GENERATE_DOMAIN_KEY on an EMPTY domain makes it ACTIVE with a key of its own.
 3. DESTROY_DOMAIN_KEY makes the domain EMPTY without any key, with KEY_DESTROYED; its sequence mark stays.
 4. START_REKEY of an ACTIVE domain with a staged key switches its generation, with REKEY_START.
 5. GET_KEY_INFO answers the domain's state, generation, KEY_IDs and generation count.
 6. A waiting sweep starts when no other runs and the domain may be swept.
 7. The sweep ends when no line is left: here without quarantine records or a window.
 8. The old generation's key is zeroized once nothing needs it, with REKEY_DONE.
 9. UNSEAL_QUARANTINE answers the record's sectors and plaintext when its tag verifies.
 10. INTEG_EN of a domain without an extent takes the written value.
 11. CRY_CTL.CNT_CLR clears the counters of CRY_CNT. -/
def Obligations.DomainKeyCommands : Prop :=
  (∀ (s : State) (session d j v : Nat) (key : BitVec 256) (x : Session), s.wf = true → s.session session = some x →
    x.keyAdmin = true → s.portUp x.port = true → s.fwu.paused = false → d < 256 → s.haltCovers d = false →
    s.slotFree d false = true → (s.dom d).hasId (keyIdOf key) = false → s.bestCell 5 16 = some (j, v) → v + 1 < 2 ^ 56 →
    s.cellGood 5 ((j + 1) % 16) = true → ∃ t, exec (.setDomainKey session d false key) s = .next t ∧
    (t.dom d).st = .active ∧ (t.dom d).cur = 0 ∧ ((t.dom d).gen0.map fun k => k.key) = some key ∧
    (t.dom d).seq = (s.dom d).mark ∧ t.evtSet Ev.cryKeyLoaded ∧ t.out = [.answer 0x81 0 [(keyIdOf key).toNat]]) ∧
  (∀ (s : State) (h d j v : Nat), s.wf = true → s.mboxRwReady h → d < 256 → s.haltCovers d = false →
    s.fld F.topMidxAssigned = 1 → s.cry.drbg ≠ .failed → s.slotFree d false = true → (s.dom d).gen0 = none →
    (s.dom d).gen1 = none → (s.dom d).next = none → s.bestCell 5 16 = some (j, v) → v + 1 < 2 ^ 56 →
    s.cellGood 5 ((j + 1) % 16) = true → ∃ t, exec (.generateDomainKey h d false) s = .next t ∧ (t.dom d).st = .active ∧
    (t.dom d).cur = 0 ∧ ((t.dom d).gen0.map fun k => k.src) = some 2 ∧ t.evtSet Ev.cryKeyLoaded) ∧
  (∀ (s : State) (session d : Nat) (x : Session), s.wf = true → s.session session = some x → x.keyAdmin = true →
    s.portUp x.port = true → s.fwu.paused = false → d < 256 → ∃ t, exec (.destroyDomainKey session d) s = .next t ∧
    (t.dom d).st = .empty ∧ (t.dom d).gen0 = none ∧ (t.dom d).gen1 = none ∧ (t.dom d).next = none ∧
    t.evtSet Ev.cryKeyDestroyed ∧ t.out.getLast? = some (.answer 0x82 0 [])) ∧
  (∀ (s : State) (session d j v : Nat) (x : Session) (k : KeySlot), s.wf = true → s.session session = some x →
    x.keyAdmin = true → s.portUp x.port = true → s.fwu.paused = false → d < 256 → s.haltCovers d = false →
    (s.dom d).st = .active → (s.dom d).next = some k → s.bestCell 5 16 = some (j, v) → v + 1 < 2 ^ 56 →
    s.cellGood 5 ((j + 1) % 16) = true → ∃ t, exec (.startRekey session d) s = .next t ∧ (t.dom d).st = .rekeying ∧
    (t.dom d).cur = 1 - (s.dom d).cur ∧ (t.dom d).genCount = (s.dom d).genCount + 1 ∧ (t.dom d).sweep = .waiting ∧
    t.evtSet Ev.cryRekeyStart ∧ t.out = [.answer 0x83 0 []]) ∧
  (∀ (s : State) (session d : Nat) (x : Session), s.session session = some x → x.keyAdmin = true →
    s.portUp x.port = true → s.fwu.paused = false → d < 256 → ∃ t, exec (.getKeyInfo session d) s = .next t ∧
    t.out = [.answer 0x84 0 [keyCode (s.dom d).st, (s.dom d).cur, slotId (s.dom d).gen0, slotId (s.dom d).gen1,
    slotId (s.dom d).next, (s.dom d).genCount]] ∧ s.keeps t [.out]) ∧
  (∀ (s : State) (d : Nat), s.wf = true → s.pwr.coreOn = true → (s.dom d).st = .rekeying → (s.dom d).sweep = .waiting →
    s.map.st = .active → (s.cry.doms.any fun p => decide (p.2.sweep = .running)) = false → s.haltCovers d = false →
    s.oldStaged d = false → ∃ t, exec (.rekeySweepStart d) s = .next t ∧ (t.dom d).sweep = .running ∧ s.keeps t [.cry,
    .out]) ∧
  (∀ (s : State) (d : Nat), s.wf = true → s.pwr.coreOn = true → (s.dom d).sweep = .running → s.sweepNext d = none →
    s.sweepStaged d = false → s.flt.quar = [] → s.swt.st = .none → ∃ t, exec (.rekeySweepDone d) s = .next t ∧
    (t.dom d).sweep = .idle ∧ (t.dom d).pos = ((s.dom d).base + (s.dom d).count) * 2 ^ 22 ∧ (t.dom d).st = (s.dom d).st) ∧
  (∀ (s : State) (d : Nat), s.wf = true → s.pwr.coreOn = true → (s.dom d).st = .rekeying → (s.dom d).sweep = .idle →
    (s.dom d).due = false → (s.dom d).cur ≤ 1 → s.oldRetained d = false → s.haltCovers d = false → ∃ t,
    exec (.oldGenerationZeroize d) s = .next t ∧ (t.dom d).st = .active ∧ (t.dom d).gen (1 - (s.dom d).cur) = none ∧
    (t.dom d).gen (s.dom d).cur = (s.dom d).gen (s.dom d).cur ∧ t.evtSet Ev.cryRekeyDone) ∧
  (∀ (s : State) (session no : Nat) (x : Session) (r : QuarRec) (k : KeySlot), s.wf = true → s.session session = some x →
    x.keyAdmin = true → s.portUp x.port = true → s.fwu.paused = false → (s.flt.quar.find? fun r => r.no == no) = some r →
    (s.dom r.dom).gen r.kgen = some k → quarTag k.key r = r.tag → ∃ t, exec (.unsealQuarantine session no) s = .next t ∧
    t.out = [.answer 0x85 0 (r.sectors.toNat :: (quarXor k.key r).map fun v => v.toNat)] ∧ t.flt = s.flt) ∧
  (∀ (s : State) (h d : Nat) (v : Bool), s.wf = true → s.barReady h → d < 256 →
    ((s.dom d).count = 0 ∨ (s.dom d).st = .empty) → ∃ t, exec (.integEnWrite h d v) s = .next t ∧ (t.dom d).integ = v ∧
    (t.dom d).st = (s.dom d).st ∧ s.keeps t [.cry, .out]) ∧
  (∀ (s : State) (h : Nat), s.wf = true → s.barReady h → ∃ t, exec (.cryCntClr h) s = .next t ∧
    t.reg F.cryCntHalts.off = 0#64 ∧ s.keepsRegs t [F.cryCntHalts.off])

/-- The key vault (R377, R401 to R403, R408).
 1. An operation that succeeds leaves the queue, and nothing is reported.
 2. A record that does not unwrap makes its domain FAILED, with UNWRAP_FAIL and KEY_FAILED.
 3. KVE_CTL.RESEED with the DRBG READY reseeds it.
 4. The reseed limit of 2^20 requests or one second reseeds it.
 5. A health-test failure sends the DRBG back to start-up, with ENTROPY_FAIL.
 6. A start-up test that passes makes it READY, with DRBG_READY.
 7. The third start-up test that fails makes it FAILED, with DRBG_FAILED.
 8. KVE_CTL.CNT_CLR clears the counters of KVE_CNT. -/
def Obligations.KeyVaultCommands : Prop :=
  (∀ (s : State) (o : KvOp) (rest : List KvOp), s.pwr.coreOn = true → s.cry.kvOps = o :: rest → o.code ≠ 5 → ∃ t,
    exec (.keyVaultOpDone true) s = .next t ∧ t.cry.kvOps = rest ∧ t.out = [] ∧ s.keeps t [.cry, .out]) ∧
  (∀ (s : State) (r : Nat) (rest : List KvOp), s.wf = true → s.pwr.coreOn = true → s.cry.kvOps = .unwrap r :: rest → ∃ t,
    exec (.keyVaultOpDone false) s = .next t ∧ t.cry.kvOps = rest ∧ (t.dom (r / 3)).st = .failed ∧
    t.evtSet Ev.kveUnwrapFail ∧ t.evtSet Ev.cryKeyFailed) ∧
  (∀ (s : State) (h : Nat), s.wf = true → s.barReady h → s.cry.drbg = .ready → ∃ t, exec (.kveReseed h) s = .next t ∧
    t.cry.drbgReqs = 0 ∧ t.cry.lastSeed = s.time.opNs ∧ t.fld F.kveDrbgReseeds = satAdd 32 (s.fld F.kveDrbgReseeds) 1) ∧
  (∀ (s : State), s.wf = true → s.pwr.coreOn = true → s.cry.drbg = .ready →
    (2 ^ 20 ≤ s.cry.drbgReqs ∨ s.cry.lastSeed + 1000000000 ≤ s.time.opNs) → ∃ t, exec (.drbgReseedTimer) s = .next t ∧
    t.cry.drbgReqs = 0 ∧ t.cry.lastSeed = s.time.opNs ∧ t.cry.drbg = .ready) ∧
  (∀ (s : State), s.wf = true → s.pwr.coreOn = true → s.cry.drbg ≠ .failed → ∃ t, exec (.entropyFail) s = .next t ∧
    t.cry.drbg = .starting ∧ t.cry.drbgRetries = 0 ∧ t.evtSet Ev.kveEntropyFail) ∧
  (∀ (s : State), s.wf = true → s.pwr.coreOn = true → s.cry.drbg = .starting → ∃ t,
    exec (.entropyRetest true) s = .next t ∧ t.cry.drbg = .ready ∧ t.evtSet Ev.kveDrbgReady) ∧
  (∀ (s : State), s.wf = true → s.pwr.coreOn = true → s.cry.drbg = .starting → ∃ t,
    exec (.entropyRetest false) s = .next t ∧ t.cry.drbgRetries = s.cry.drbgRetries + 1 ∧ (s.cry.drbgRetries < 2 →
    t.cry.drbg = .starting) ∧ (2 ≤ s.cry.drbgRetries → t.cry.drbg = .failed ∧ t.evtSet Ev.kveDrbgFailed)) ∧
  (∀ (s : State) (h : Nat), s.wf = true → s.barReady h → ∃ t, exec (.kveCntClr h) s = .next t ∧
    t.reg F.kveCntBlocks.off = 0#64 ∧ s.keepsRegs t [F.kveCntBlocks.off])

/-- Stripes, their records and the journal (R166, R176, R177, R179, R181, R188, R205 to R207, R213, R223).
 1. At its timeout the stripe whose first line is oldest is completed with filler lines, which PLY_PAD_CNT counts.
 2. PLY_CTL.PAD_NOW leaves no open stripe of the group that holds a line.
 3. PLY_CTL.ADMIT_OFF takes the value written.
 4. PLY_CTL.CNT_CLR clears the three counters of its page, and no other register.
 5. A sealed stripe's record maps its line to the media line just written, takes a JSN, and frees the buffer.
 6. The same for the stripe that waited longest at the dirty limit.
 7. The journal buffer is written as the next journal line.
 8. The oldest journal line becomes durable: its records join the log.
 9, 10. A checkpoint starts at the record count, and at the period when there is a new record.
 11. MAP_CTL.CKPT_NOW starts one.
 12. A checkpoint that is ready completes: X becomes the checkpoint JSN, the poison list is saved, CKPT_DONE is set.
 13. MAP_CTL.CNT_CLR clears MAP_ERR_CNT, and no other register. -/
def Obligations.StripeAndJournalCommands : Prop :=
  (∀ (s : State) (g : Nat) (x : Stripe), s.wf = true → g < 8 → s.pwr.coreOn = true →
    ((s.openHeld g).find? fun y => decide (y.first + s.fld (F.plyCfgStripeTimeout g) ≤ s.time.pick)) = some x → ∃ t,
    exec (.stripeTimeout g) s = .next t ∧ (∀ y ∈ (t.group g).stripes, y.block = x.block ∧ y.idx = x.idx →
    y.isOpen = false) ∧
    t.fld (F.plyPadCntFillerLines g) = satAdd 32 (s.fld (F.plyPadCntFillerLines g)) (x.w - 1 - x.lines.length)) ∧
  (∀ (s : State) (h g : Nat), s.wf = true → s.barReady h → ∃ t, exec (.padNow h g) s = .next t ∧
    (∀ y ∈ (t.group g).stripes, y.isOpen = true → y.lines = [])) ∧
  (∀ (s : State) (h g : Nat) (v : Bool), s.wf = true → g < 8 → s.barReady h → ∃ t, exec (.plyAdmitOff h g v) s = .next t ∧
    t.fld (F.plyCtlAdmitOff g) = ofBool v ∧ s.keepsRegs t [(F.plyCtlAdmitOff g).off]) ∧
  (∀ (s : State) (h g : Nat), s.wf = true → g < 8 → s.barReady h → ∃ t, exec (.plyCntClr h g) s = .next t ∧
    t.reg (F.plySealCntStripes g).off = 0#64 ∧ t.reg (F.plyPadCntFillerLines g).off = 0#64 ∧
    t.reg (F.plyMergeCntMergeReads g).off = 0#64 ∧ s.keepsRegs t [(F.plySealCntStripes g).off,
    (F.plyPadCntFillerLines g).off, (F.plyMergeCntMergeReads g).off]) ∧
  (∀ (s : State) (g : Nat) (x : Stripe) (y : Staged), s.wf = true → s.pwr.coreOn = true → s.map.st = .active →
    s.nextSealed g = some x → x.lines = [y] → y.kind = .host → y.superseded = false → y.recorded = false →
    (s.dom y.dom).integ = false → s.epochOn y.dom = false → s.mpresent 0 (y.line / 32) = true → s.epochHold y = false →
    s.jnlFull = false → s.heldBack y = false → ∃ t, exec (.mapRecordAppend g) s = .next t ∧
    t.entry y.line = s.newEntry g x 0 y false ∧ t.map.nextJsn = s.map.nextJsn + 1 ∧ (∀ z ∈ (t.group g).stripes,
    ¬(z.block = x.block ∧ z.idx = x.idx))) ∧
  (∀ (s : State) (g b : Nat) (rest : List (Nat × Nat)) (x : Stripe) (y : Staged), s.wf = true → s.pwr.coreOn = true →
    s.map.st = .active → s.map.dirtyHeld = (g, b) :: rest →
    ({ s with map := { s.map with dirtyHeld := rest } } : State).nextSealed g = some x → x.block = b → x.lines = [y] →
    y.kind = .host → y.superseded = false → y.recorded = false → (s.dom y.dom).integ = false → s.epochOn y.dom = false →
    s.mpresent 0 (y.line / 32) = true → s.epochHold y = false → s.jnlFull = false → s.heldBack y = false → ∃ t,
    exec (.mapDirtyWaitResume) s = .next t ∧ t.map.dirtyHeld = rest ∧ t.entry y.line = s.newEntry g x 0 y false ∧
    (∀ z ∈ (t.group g).stripes, ¬(z.block = x.block ∧ z.idx = x.idx))) ∧
  (∀ (s : State), s.pwr.coreOn = true → s.map.jbuf ≠ [] → ∃ t, exec (.journalLineTimeout) s = .next t ∧
    t.map.jlines = s.map.jlines ++ [s.map.jbuf] ∧ t.map.jbuf = [] ∧
    t.map.headPos = (s.map.headPos + 1) % max 1 s.ringLines) ∧
  (∀ (s : State) (l : List JRec) (ls : List (List JRec)), s.pwr.coreOn = true → s.map.jlines = l :: ls → ∃ t,
    exec (.journalLineDurable) s = .next t ∧ t.map.jlines = ls ∧ t.map.jlog = s.map.jlog ++ l ∧
    t.map.durJsn = max s.map.durJsn ((l.getLast?.map JRec.jsn).getD 0)) ∧
  (∀ (s : State), s.pwr.coreOn = true → s.map.st = .active → s.map.ckpt = none →
    2 ^ s.fld F.mapJnlCfgCkptRecordsLog2 ≤ s.map.recsSince → ∃ t, exec (.checkpointRecordCount) s = .next t ∧
    t.map.ckpt = some ⟨s.map.nextJsn⟩ ∧ t.map.recsSince = 0 ∧ t.map.jbuf = []) ∧
  (∀ (s : State), s.pwr.coreOn = true → s.map.st = .active → s.map.ckpt = none → 1 ≤ s.map.recsSince → ∃ t,
    exec (.checkpointPeriod) s = .next t ∧ t.map.ckpt = some ⟨s.map.nextJsn⟩ ∧ t.map.recsSince = 0 ∧ t.map.jbuf = []) ∧
  (∀ (s : State) (h : Nat), s.barReady h → s.map.st = .active → s.map.ckpt = none → ∃ t, exec (.ckptNow h) s = .next t ∧
    t.map.ckpt = some ⟨s.map.nextJsn⟩ ∧ t.map.recsSince = 0) ∧
  (∀ (s : State) (c : Ckpt), s.wf = true → s.pwr.coreOn = true → s.map.st = .active → s.wp.flush = none →
    s.map.ckpt = some c → s.ckptReady c.x = true → ∃ t, exec (.checkpointDone) s = .next t ∧ t.map.ckptJsn = c.x ∧
    t.map.lastCkptNs = s.time.opNs ∧ t.rd.saved = s.rd.poison ∧ t.evtSet Ev.mapCkptDone) ∧
  (∀ (s : State) (h : Nat), s.wf = true → s.barReady h → ∃ t, exec (.mapCntClr h) s = .next t ∧
    t.reg F.mapErrCntEntryCheck.off = 0#64 ∧ s.keepsRegs t [F.mapErrCntEntryCheck.off])

/-- The map cache and the Selvage rotation (R157, R162, R166, R167, R170, R171).
 1. A tag line's fill that succeeds leaves the table, and the line is present.
 2. A directory line no copy of which can be read waits for its rebuild, with SLV_LOST.
 3. A directory line rebuilt leaves that list and is present, with DIR_REBUILD_DONE.
 4. The cleaner writes a dirty directory line to the Selvage, and it is clean.
 5. A queued map prefetch whose turn is near starts its fill and leaves the queue.
 6. One not served within a Pick is dropped; nothing else changes.
 7. A region that took psi writes starts a gap move.
 8. A gap move ends: GAP is one less, or, from 0, back at the end with START one more; the writes count anew. -/
def Obligations.MapCacheCommands : Prop :=
  (∀ (s : State) (i : Nat), s.pwr.coreOn = true → s.map.st = .active → s.fillCan 3 i = true → ∃ t,
    exec (.mapFill 3 i true) s = .next t ∧ t.map.fills = s.map.fills.filter (fun f => !(decide (f.kind = 3 ∧
    f.idx = i))) ∧ t.mpresent 3 i = true) ∧
  (∀ (s : State) (i : Nat), s.wf = true → s.pwr.coreOn = true → s.map.st = .active → s.fillCan 1 i = true → ∃ t,
    exec (.mapFill 1 i false) s = .next t ∧ t.map.dirLost = s.map.dirLost ++ [i] ∧ t.evtSet Ev.mapSlvLost) ∧
  (∀ (s : State) (i : Nat), s.wf = true → s.pwr.coreOn = true → i < s.intmapBase → s.map.dirLost.contains i = true →
    s.map.fills.all (fun f => f.kind != 0) = true → ∃ t, exec (.dirRebuildDone i) s = .next t ∧
    t.map.dirLost = s.map.dirLost.filter (fun l => l != i) ∧ t.mpresent 1 i = true ∧ t.evtSet Ev.mapDirRebuildDone) ∧
  (∀ (s : State) (x : MSlot), s.pwr.coreOn = true → s.map.st = .active → s.mclean = some x → x.kind = 1 → ∃ t,
    exec (.mapCleaner) s = .next t ∧ ((t.mslot 1 x.idx).map fun y => y.dirty) = some false ∧
    t.out = [.selvageWrite x.idx 1]) ∧
  (∀ (s : State) (l a : Nat), s.pwr.coreOn = true → s.map.pfq.any (fun p => p.1 == l) = true → s.dirAt l = some a →
    s.turnHint (addrSkein a) clsMet true ≤ s.fld F.mapPfCfgHintMax →
    (s.warp1 (addrSkein a)).rq.any (fun r => r.cls == clsMet && !r.pf) = false → ∃ t, exec (.mapPrefetch l) s = .next t ∧
    t.map.pfq = s.map.pfq.filter (fun p => p.1 != l) ∧ (t.mpresent 0 l || t.map.fills.any fun f => decide (f.kind = 0 ∧
    f.idx = l)) = true) ∧
  (∀ (s : State) (l : Nat), s.pwr.coreOn = true → ∃ t, exec (.mapPrefetchDrop l) s = .next t ∧
    t.map.pfq = s.map.pfq.filter (fun p => !(decide (p.1 = l ∧ p.2 < s.time.pick))) ∧
    t.map = { s.map with pfq := t.map.pfq } ∧ t.out = [] ∧ s.keeps t [.map, .out]) ∧
  (∀ (s : State) (n half : Nat), s.pwr.coreOn = true → s.populated n = true → half < 2 →
    s.fld F.mapSgCfgPsi ≤ (s.region n half).writes → (s.region n half).moving = false → (s.region n half).frozen = false →
    ∃ t, exec (.sgGapMove n half) s = .next t ∧ t.region n half = { s.region n half with moving := true }) ∧
  (∀ (s : State) (n half : Nat), Tab.wf (fun _ => Region.fresh) s.map.regions = true → s.pwr.coreOn = true →
    (s.region n half).moving = true → ∃ t, exec (.gapMoveDone n half) s = .next t ∧ (t.region n half).moving = false ∧
    (t.region n half).writes = 0 ∧ (0 < s.gapOf (s.region n half) →
    s.gapOf (t.region n half) = s.gapOf (s.region n half) - 1) ∧ (s.gapOf (s.region n half) = 0 →
    (t.region n half).gap = none ∧ (t.region n half).start = ((s.region n half).start + 1) % s.rows))

/-- Recovery (R180, R184 to R187) and the first format (R22, R184).
 1. The loaded anchor leads to replay, or straight to the closing checkpoint when it was clean, and counts as not clean from now on.
 2. With no anchor the map is FAILED, with RECOVERY_FAIL.
 3. Replay keeps the durable records up to the unreadable ones, and counts them in units of 1,024.
 4. The scan of the open bolts ends: the closing checkpoint is next, and ORPHANS holds the count.
 5. Recovery is done: the map is ACTIVE, the anchor is not clean, RECOVERY_DONE is set, TIME_MS holds the time.
 6. A valid population is formatted: the groups found are in use, nothing is mapped, the map is ACTIVE.
 7. An invalid one is not, with CONFIG. -/
def Obligations.RecoveryCommands : Prop :=
  (∀ (s : State) (a : Anchor), s.pwr.coreOn = true → s.map.st = .loading → s.map.anchor = some a →
    (s.fmtMismatch = false) → ∃ t, exec (.lineMapLoaded) s = .next t ∧
    (t.map.st = (if a.clean then .closing else .replaying)) ∧
    t.map.anchor = some { a with clean := false, seq := a.seq + 1 } ∧ t.rd.poison = s.rd.saved) ∧
  (∀ (s : State), s.wf = true → s.pwr.coreOn = true → s.map.st = .loading → s.map.anchor = none → ∃ t,
    exec (.lineMapLoaded) s = .next t ∧ t.map.st = .failed ∧ t.evtSet Ev.mapRecoveryFail) ∧
  (∀ (s : State) (u : Nat), s.wf = true → s.pwr.coreOn = true → s.map.st = .replaying → ∃ t,
    exec (.journalReplayDone u) s = .next t ∧ t.map.st = .scanning ∧
    t.map.jlog = s.map.jlog.take (s.map.jlog.length - u) ∧
    t.fld F.mapRecoveryRecordsK = min (2 ^ 20 - 1) (t.map.jlog.length / 1024) ∧ (u = 0 → t.map.ent = s.map.ent) ∧ (0 < u ∧
    s.map.jlog ≠ [] → t.evtSet Ev.mapJnlLineLost)) ∧
  (∀ (s : State) (n : Nat), s.wf = true → s.pwr.coreOn = true → s.map.st = .scanning → ∃ t,
    exec (.openBoltScanDone n) s = .next t ∧ t.map.st = .closing ∧ t.fld F.mapRecoveryOrphans = min (2 ^ 24 - 1) n) ∧
  (∀ (s : State), s.wf = true → s.pwr.coreOn = true → s.map.st = .closing → ∃ t, exec (.recoveryDone) s = .next t ∧
    t.map.st = .active ∧ (t.map.anchor.map fun a => a.clean) = some false ∧
    t.fld F.mapRecoveryTimeMs = min (2 ^ 20 - 1) ((s.time.opNs - s.map.lastCkptNs) / 1000000) ∧
    t.evtSet Ev.mapRecoveryDone) ∧
  (∀ (s : State), s.wf = true → s.pwr.coreOn = true → s.map.st = .unformatted → s.discoveryOver = true →
    s.popValid = true → ∃ t, exec (.firstFormatDone) s = .next t ∧ t.map.st = .active ∧ t.popP = s.fullGroups ∧
    (t.map.fmt.map fun f => (f.p, f.d)) = some (s.fullGroups, s.popD) ∧ t.map.ent = [] ∧ t.evtSet Ev.mapRecoveryDone) ∧
  (∀ (s : State), s.wf = true → s.pwr.coreOn = true → s.map.st = .unformatted → s.discoveryOver = true →
    s.popValid = false → ∃ t, exec (.firstFormatDone) s = .next t ∧ t.map.st = .unformatted ∧ t.evtSet Ev.topConfig)

/-- The ends of media reads and operations (R197, R232, R235, R240, R241, R294 to R298, R382), with no injection armed.
 1. A merge read that reconstruction served is over, counted, and reported as MERGE_RECOVERED.
 2. A decoded line of a domain without integrity verifies: its plaintext answers the read attached.
 3. A line that cannot be recovered is LOST, with LINE_LOST.
 4. At the poison timer the read attached completes with poison; recovery goes on.
 5. A frame with the line expected makes it decoded.
 6. One with a line that failed decode makes the read a drift re-read.
 7. The oldest downstream frame kept is done with once it drew no NAK.
 8. A program whose completion stayed out and whose line is found counts as done on its member. -/
def Obligations.MediaCommands : Prop :=
  (∀ (s : State) (r : Rd) (g : Nat) (l : List Nat), s.wf = true → g < 8 → s.pwr.coreOn = true → s.rd.reads = [r] →
    r.why = .merge g → ∃ t, exec (.mergeReadDone r.line (.reconstructed l)) s = .next t ∧ t.rd.reads = [] ∧
    t.fld (F.plyMergeCntMergeRecovered g) = satAdd 16 (s.fld (F.plyMergeCntMergeRecovered g)) 1 ∧
    t.evtSet (Ev.plyMergeRecovered g)) ∧
  (∀ (s : State) (r : Rd) (c : Code) (d : Quad Sector) (e : Mshr) (q : Req), s.pwr.coreOn = true → s.rd.reads = [r] →
    r.why = .demand → r.st = .decoded → r.code = some c → (s.dom r.dom).integ = false →
    s.plainOf r.line r.dom c = some d → s.spOf r = 0#4 → s.stagedCopy r.line = none → s.mshrOf r.line = some e →
    e.reqs = [q] → q.wr = false → q.tag ≠ noTag → s.fch.maint = none → ∃ t, exec (.lineVerify r.line) s = .next t ∧
    t.rd.reads = [] ∧ t.out.map Output.answers = [some (q.h, q.tag)] ∧ t.out.map Output.carries = [some (d.at q.sec,
    false)]) ∧
  (∀ (s : State) (r : Rd), s.wf = true → s.pwr.coreOn = true → s.flt.inj = none → s.rd.reads = [r] → r.st = .recon →
    r.why = .scan → ∃ t, exec (.reconstructionDone r.line .unrecoverable) s = .next t ∧ t.rd.reads = [] ∧
    (t.entry r.line).st = 2 ∧ t.evtSet Ev.mapLineLost) ∧
  (∀ (s : State) (r : Rd) (e : Mshr) (q : Req), s.pwr.coreOn = true → s.rd.reads = [r] → r.why = .demand →
    r.armed.isSome = true → r.timedOut = false → s.mshrOf r.line = some e → e.reqs = [q] → q.wr = false → q.tag ≠ noTag →
    ∃ t, exec (.poisonTimer r.line) s = .next t ∧ t.rd.reads.map (fun x => (x.line, x.timedOut)) = [(r.line, true)] ∧
    t.out.map Output.answers = [some (q.h, q.tag)] ∧ t.out.map Output.carries = [some (0#512, true)]) ∧
  (∀ (s : State) (r : Rd) (n back seq dom kgen corr : Nat) (data : List Nat) (epoch : Bool), s.pwr.coreOn = true →
    (s.link1 n).st = .active → s.flt.inj = none → s.rd.reads = [r] → r.st = .needData → addrSkein r.addr = n →
    back = r.line → seq % 1024 = r.seq10 → ∃ t,
    exec (.upstreamFrame n (.decoded r.line data back seq dom kgen epoch corr)) s = .next t ∧
    t.rd.reads = [{ r with st := .decoded, code := some ⟨frameData data, back, seq, dom, kgen, epoch⟩ }]) ∧
  (∀ (s : State) (r : Rd) (n : Nat), s.pwr.coreOn = true → (s.link1 n).st = .active → s.flt.inj = none →
    s.rd.reads = [r] → r.st = .needData → addrSkein r.addr = n → ∃ t,
    exec (.upstreamFrame n (.undecoded r.line)) s = .next t ∧ t.rd.reads.map (fun x => x.st) = [.reread]) ∧
  (∀ (s : State) (n : Nat) (f : DnFrame) (fs : List DnFrame), s.wf = true → s.pwr.coreOn = true → s.flt.inj = none →
    (s.warp1 n).frames = f :: fs → ∃ t, exec (.downstreamFrameAccepted n) s = .next t ∧ (t.warp1 n).frames = fs) ∧
  (∀ (s : State) (n : Nat) (x : Nat × DnOp), s.wf = true → s.pwr.coreOn = true → s.flt.inj = none →
    (s.warp1 n).ops = [x] → x.2.kind = .programDense → x.2.addr = mkAddr n (addrBlock x.2.addr) (addrOff x.2.addr) → ∃ t,
    exec (.completionTimeout n (x.1 % 128) true) s = .next t ∧ (t.warp1 n).ops = [] ∧
    (t.group (n / 16)).stripes.all (fun y => !(decide (y.block = addrBlock x.2.addr ∧
    y.idx = addrOff x.2.addr)) || y.done.getLsbD (n % 16)) = true)

/-- Crossing queues and what their monitors report (R27, R139 to R143, R358, R360, R370).
 1. A packet that checks good is used: read data answers its request.
 2. One that fails parity is kept for a replay, and not used.
 3. A good replay is used in its place.
 4. Without one the poison propagates.
 5. The first time-out of a request is counted and reported.
 6. The second completes a read with poison.
 7. A link error that clock drift explains queues a test of the skein.
 8. An island fault holds the group's engine, its partner takes over, and ISLAND_FAULT is set.
 9. A write of FLT_QUEUE_SEL latches the queue's counters into FLT_QUEUE_CNT. -/
def Obligations.QueueAndIslandCommands : Prop :=
  (∀ (s : State) (q h tag : Nat) (d : Sector), s.pwr.coreOn = true → (s.qcnt q).retired = false → s.parityInj q = false →
    tag ≠ noTag → ∃ t, exec (.queuePacket q (.readData h tag d) true) s = .next t ∧ t.out.map Output.answers = [some (h,
    tag)] ∧ t.out.map Output.carries = [some (d, false)] ∧ t.xq = s.xq) ∧
  (∀ (s : State) (q : Nat) (k : PacketRef), s.pwr.coreOn = true → (s.qcnt q).retired = false → ∃ t,
    exec (.queuePacket q k false) s = .next t ∧ t.xq = s.xq ++ [⟨q, k⟩] ∧ t.out = []) ∧
  (∀ (s : State) (q h tag : Nat) (d : Sector), s.pwr.coreOn = true → s.xq = [⟨q, .readData h tag d⟩] →
    s.parityInj q = false → tag ≠ noTag → ∃ t, exec (.queueReplay q true) s = .next t ∧ t.xq = [] ∧
    t.out.map Output.answers = [some (h, tag)] ∧ t.out.map Output.carries = [some (d, false)]) ∧
  (∀ (s : State) (q h tag : Nat) (d : Sector), s.pwr.coreOn = true → s.xq = [⟨q, .readData h tag d⟩] → tag ≠ noTag → ∃ t,
    exec (.queueReplay q false) s = .next t ∧ t.xq = [] ∧ t.out.map Output.answers = [some (h, tag)] ∧
    t.out.map Output.carries = [some (0#512, true)]) ∧
  (∀ (s : State) (src h tag : Nat), s.wf = true → s.pwr.coreOn = true → ∃ t,
    exec (.requestTimeout src false h tag) s = .next t ∧
    t.fld F.fltCnt2ReqTimeouts = satAdd 16 (s.fld F.fltCnt2ReqTimeouts) 1 ∧ t.evtSet Ev.fltReqTimeout) ∧
  (∀ (s : State) (src h tag : Nat) (r : Req), s.pwr.coreOn = true → (s.takeReq h tag).map (fun p => p.2) = some r →
    r.wr = false → r.tag ≠ noTag → ∃ t, exec (.requestTimeout src true h tag) s = .next t ∧
    t.out.map Output.answers = [some (r.h, r.tag)] ∧ t.out.map Output.carries = [some (0#512, true)]) ∧
  (∀ (s : State) (n : Nat), s.pwr.coreOn = true → s.populated n = true → (s.link1 n).st = .active →
    s.flt.tests.length < 256 → ∃ t, exec (.clockDriftLinkError n) s = .next t ∧
    t.flt.tests.any (fun x => decide (x.res = resSkein n)) = true) ∧
  (∀ (s : State) (g : Nat), s.wf = true → s.pwr.coreOn = true → g < s.popP → g < 8 → ∃ t,
    exec (.islandFault g) s = .next t ∧ (t.group g).islandReset = true ∧ t.flt.takeover.getLsbD g = true ∧
    t.evtSet (Ev.plyIslandFault g)) ∧
  (∀ (s : State) (h q : Nat) (c : QCnt), s.wf = true → s.barReady h → c = s.qcnt (q % 65536) → ∃ t,
    exec (.queueSelWrite h q) s = .next t ∧ t.fld F.fltQueueSelQueue = q % 65536 ∧
    t.reg 0x8178 = BitVec.ofNat 64 (c.parity * 2 ^ 48 + c.replays * 2 ^ 32 + c.propagated * 2 ^ 16 + c.spares * 2 ^ 8 +
      ofBool c.retired * 2 ^ 7))

/-- Warp scheduling (R261 to R268, R272 to R274, R280 to R283).
 1. A template not built in and not in use takes the bytes written, and is no longer valid.
 2. A validation starts.
 3. A template that passes every check is valid and fit for DEGRADED, with VALIDATE_DONE.
 4. One that fails check 1 to 8 is not, with VALIDATE_FAIL.
 5. WRP_CTL.CNT_CLR clears WRP_STALL_CNT, and no other register.
 6. A selection of valid templates is taken whole.
 7. At a Pick boundary every skein takes the mode of Table 7-3, and no positive balance is carried over.
 8. At a token instalment every balance gains an eighth of its budget, the remainder at slot 0.
 9. A slot with nothing to send carries operation code 7 and is kept until it has drawn no NAK.
 10. A slot with an operation granted sends it and waits for its completion.
 11. A sleeping direction wakes.
 12. A class that starved for 16 Picks is promoted for the next one, with AGING.
 13. A stalled wait is recorded, with STALL. 14. It ends, with STALL_CLEARED. 15. It persists, with STALL_PERSIST. -/
def Obligations.WarpCommands : Prop :=
  (∀ (s : State) (h k p w a off : Nat) (upw lo : Bool) (v : Word), s.wf = true → s.barReady h → 3 ≤ k → k < 8 → p < 8 →
    s.tplInUse k = false → (off = (if upw then F.wrpTplUpSlots k p else F.wrpTplDnSlots k p).off) → (a = (if w = 4 ∧
    lo = false then off + 4 else off)) → ∃ t, exec (.wrpTemplateWrite h upw k p w lo v) s = .next t ∧
    t.reg off = ((s.reg off &&& ~~~(laneMask a w)) ||| laneData a w v) ∧ t.warp.valid.getLsbD k = false ∧
    t.warp.degrOk.getLsbD k = false) ∧
  (∀ (s : State) (h k : Nat), s.wf = true → s.barReady h → k < 8 → s.warp.valBusy = none → ∃ t,
    exec (.validate h k) s = .next t ∧ t.warp.valBusy = some k ∧ t.fld F.wrpCtlTpl = k) ∧
  (∀ (s : State) (k : Nat), s.wf = true → s.pwr.coreOn = true → k < 8 → s.warp.valBusy = some k → s.firstFail k = none →
    ∃ t, exec (.validateDone) s = .next t ∧ t.warp.valBusy = none ∧ t.warp.valid.getLsbD k = true ∧
    t.warp.degrOk.getLsbD k = true ∧ t.evtSet Ev.wrpValidateDone) ∧
  (∀ (s : State) (k c i : Nat) (d : Bool), s.wf = true → s.pwr.coreOn = true → k < 8 → s.warp.valBusy = some k →
    s.firstFail k = some (c, d, i) → c ≤ 8 → ∃ t, exec (.validateDone) s = .next t ∧ t.warp.valBusy = none ∧
    t.warp.valid.getLsbD k = false ∧ t.warp.degrOk.getLsbD k = false ∧ t.evtSet Ev.wrpValidateFail ∧
    t.evtSet Ev.wrpValidateDone) ∧
  (∀ (s : State) (h : Nat), s.wf = true → s.barReady h → ∃ t, exec (.wrpCntClr h) s = .next t ∧
    t.reg F.wrpStallCntStalls.off = 0#64 ∧ s.keepsRegs t [F.wrpStallCntStalls.off]) ∧
  (∀ (s : State) (h n k m : Nat), s.wf = true → s.barReady h → n < 128 → k < 8 → m < 8 → s.warp.valid.getLsbD k = true →
    s.warp.degrOk.getLsbD m = true → ∃ t, exec (.sknWarpSelWrite h n k m) s = .next t ∧
    t.fld (F.sknWarpSelNormTpl n) = k ∧ t.fld (F.sknWarpSelDegrTpl n) = m) ∧
  (∀ (s : State), s.wf = true → s.pwr.coreOn = true → ∃ t, exec (.pickBoundary) s = .next t ∧ (∀ n, n < 16 * s.popP →
    (t.warp1 n).mode = (s.pickMode n).1 ∧ (t.warp1 n).tokens = min 0 (s.warp1 n).tokens)) ∧
  (∀ (s : State), s.wf = true → s.pwr.coreOn = true → s.time.slot % 16 = 0 → ∃ t, exec (.tokenInstalment) s = .next t ∧
    (∀ n, n < 16 * s.popP →
    (t.warp1 n).tokens = (s.warp1 n).tokens + ((s.warp1 n).budget / 8 : Nat) + (if s.time.slot = 0 then ((s.warp1
      n).budget % 8 : Nat) else 0))) ∧
  (∀ (s : State) (n : Nat), s.wf = true → s.pwr.coreOn = true → (s.link1 n).st = .active → (s.warp1 n).mode ≠ .off →
    (s.warp1 n).dn = [] → (s.warp1 n).rq = [] → ∃ t, exec (.downstreamSlot n) s = .next t ∧
    t.out = [.downstream n 7 0 []] ∧ (t.warp1 n).frames = (s.warp1 n).frames ++ [⟨s.slotAbs, none, []⟩]) ∧
  (∀ (s : State) (n : Nat) (o : DnOp), s.wf = true → s.pwr.coreOn = true → (s.link1 n).st = .active →
    (s.warp1 n).mode ≠ .off → (s.warp1 n).rq = [] → (s.dnGrant n).map (fun p => p.1) = some o → o.kind ≠ .sys → ∃ t,
    exec (.downstreamSlot n) s = .next t ∧ (t.warp1 n).dn = (s.warp1 n).dn.erase o ∧
    (t.warp1 n).ops = (s.warp1 n).ops ++ [(s.slotAbs, o)] ∧ (t.warp1 n).frames = (s.warp1 n).frames ++ [⟨s.slotAbs,
    some o, []⟩]) ∧
  (∀ (s : State) (n : Nat), s.wf = true → s.pwr.coreOn = true → (s.warp1 n).asleep = true → ∃ t,
    exec (.laneWake n) s = .next t ∧ t.warp1 n = { s.warp1 n with asleep := false }) ∧
  (∀ (s : State) (n c : Nat), s.wf = true → s.pwr.coreOn = true → 16 ≤ Tab.get (fun _ => 0) (s.warp1 n).starved c → ∃ t,
    exec (.aging n c) s = .next t ∧ (t.warp1 n).agedNext = (s.warp1 n).agedNext ++ [c] ∧ t.evtSet Ev.wrpAging) ∧
  (∀ (s : State) (q c : Nat) (l : List Nat), s.wf = true → s.pwr.coreOn = true → s.wp.flush = none →
    (s.waitLine q c l).isSome = true → s.warp.stalls.any (fun r => r.q == q && r.cls == c) = false → ∃ t,
    exec (.stall q c l) s = .next t ∧ t.warp.stalls.length = s.warp.stalls.length + 1 ∧
    (t.warp.stalls.getLast?.map fun r => (r.q, r.cls, r.since, r.persist)) = some (q, c, s.time.pick, false) ∧
    t.evtSet Ev.wrpStall) ∧
  (∀ (s : State) (q : Nat), s.wf = true → s.pwr.coreOn = true → s.wp.flush = none →
    s.warp.stalls.any (fun r => r.q == q) = true → ∃ t, exec (.stallCleared q) s = .next t ∧
    t.warp.stalls.length + 1 = s.warp.stalls.length ∧ t.evtSet Ev.wrpStallCleared) ∧
  (∀ (s : State) (q : Nat) (r : StallRec), s.wf = true → s.pwr.coreOn = true → s.wp.flush = none → s.warp.stalls = [r] →
    r.q = q → r.persist = false → ∃ t, exec (.stallPersist q) s = .next t ∧ t.warp.stalls = [{ r with persist := true }] ∧
    t.evtSet Ev.wrpStallPersist)

/-- Upkeep (R245, R318, R319, R321, R325, R326, R332 to R339, R341, R347).
 1. An age probe of a bolt starts. 2. Its measured class ends the bolt's unknown age.
 3. Wring takes the sealed bolt with the fewest live lines as its victim.
 4. A static swap starts with the least worn bolt, with SWAP_START. 5. Press takes the bolt of its order.
 6. A Selvage triple is refreshed: its clock is the group's.
 7. An empty bolt's reset starts. 8. Under the pacer it is held. 9. It goes on once the allowance covers it.
 10. A recounted bolt has the count found.
 11. A Rinse pass begins with the period. 12. UPK_CTL.RINSE_NOW begins one. 13. A pass ends, with RINSE_PASS_DONE.
 14. UPK_CTL.CNT_CLR clears the two counter registers, and no other.
 15. A read of UPK_BOLT_HI returns the high half of the selected entry and latches the low half.
 16. Darn's protection phase ends, and 17. its data phase, each with its event. -/
def Obligations.UpkeepCommands : Prop :=
  (∀ (s : State) (g b : Nat), s.pwr.coreOn = true → s.probesRun b = true → g < s.popP → b < s.blocksPerSkein →
    s.probeable g b = true → ∃ t, exec (.ageProbe g b) s = .next t ∧ t.upk.probing = s.upk.probing ++ [boltKey g b]) ∧
  (∀ (s : State) (g b c : Nat), s.wf = true → s.pwr.coreOn = true → s.upk.probing.contains (boltKey g b) = true →
    selvageBlock b = false → (s.bolt g b).st = .sealed → ∃ t, exec (.ageProbeDone g b c) s = .next t ∧
    (t.bolt g b).ageUnk = false ∧ t.upk.probing.contains (boltKey g b) = false) ∧
  (∀ (s : State) (g b : Nat) (x : Bolt), s.wf = true → s.upkeepRuns = true → (s.upkG g).wring = true →
    s.hasVictim g .wring = false → s.wringChoice g = some (b, x) → ∃ t, exec (.wringVictimSelect g) s = .next t ∧
    t.bolt g b = { x with st := .victim, proc := some .wring, pressQ := false }) ∧
  (∀ (s : State) (g b : Nat) (x : Bolt), s.wf = true → s.upkeepRuns = true → s.fld F.upkCtlSwapEn = 1 →
    (s.upkG g).urgent = false → (s.upkG g).swap = false → s.swapChoice g = some (b, x) →
    x.resets + s.swapLimit g < s.maxResets g → ∃ t, exec (.staticSwapStart g) s = .next t ∧
    t.bolt g b = { x with st := .victim, proc := some .swap, pressQ := false } ∧ (t.upkG g).swap = true ∧
    t.evtSet Ev.upkSwapStart) ∧
  (∀ (s : State) (g b : Nat) (x : Bolt), s.wf = true → s.upkeepRuns = true → (s.upkG g).urgent = false →
    s.hasVictim g .press = false → s.pressChoice g = some (b, x) → ∃ t, exec (.pressVictimSelect g) s = .next t ∧
    t.bolt g b = { x with st := .victim, proc := some .press }) ∧
  (∀ (s : State) (n die k : Nat), Tab.wf (fun _ => { Triple.fresh with clk := s.upk.tripBase }) s.upk.triples = true →
    s.upkeepRuns = true → s.dieUsable n die = true → (s.triple (tripleKey n die k)).queued = true → ∃ t,
    exec (.selvageRefresh n die k) s = .next t ∧
    t.triple (tripleKey n die k) =
      { s.triple (tripleKey n die k) with clk := s.ageSec (n / 16) % 2 ^ 32, queued := false }) ∧
  (∀ (s : State) (g b : Nat), s.wf = true → s.upkeepRuns = true → s.resetEligible g b = true → s.paced g = false →
    (s.bolt g b).members &&& s.usable g b ≠ 0#16 → ∃ t, exec (.boltResetStart g b) s = .next t ∧
    (t.bolt g b).st = .resetting ∧ (t.bolt g b).members = (s.bolt g b).members &&& s.usable g b ∧
    (t.bolt g b).resetOk = 0#16) ∧
  (∀ (s : State) (g b : Nat), s.wf = true → s.upkeepRuns = true → s.resetEligible g b = true → s.paced g = true →
    (s.upkG g).pace = false → ∃ t, exec (.boltResetStart g b) s = .next t ∧ (t.upkG g).pace = true ∧
    (t.upkG g).held.contains b = true ∧ t.bolt g b = s.bolt g b ∧ t.evtSet Ev.upkPaceLimited) ∧
  (∀ (s : State) (g b : Nat), s.wf = true → s.upkeepRuns = true → (s.upkG g).pace = true → (s.upkG g).held = [b] →
    s.paced g = false → s.resetEligible g b = true → (s.bolt g b).members &&& s.usable g b ≠ 0#16 → ∃ t,
    exec (.paceResume g) s = .next t ∧ (t.bolt g b).st = .resetting ∧ (t.upkG g).held = [] ∧ (t.upkG g).pace = false) ∧
  (∀ (s : State) (g b v : Nat), s.wf = true → s.upkeepRuns = true → (s.bolt g b).cntUnk = true →
    (s.bolt g b).st = .sealed → v ≠ 0 → ∃ t, exec (.recountDone g b v) s = .next t ∧
    t.bolt g b = { s.bolt g b with valid := v, cntUnk := false }) ∧
  (∀ (s : State), s.wf = true → s.upkeepRuns = true → s.upk.unknown = false → ∃ t, exec (.rinsePeriod) s = .next t ∧
    t.upk.rinse = true ∧ t.upk.rinseFrom = s.time.opNs ∧ (s.upk.rinse = true → t.evtSet Ev.upkRinseLate)) ∧
  (∀ (s : State) (h : Nat), s.barReady h → ∃ t, exec (.rinseNow h) s = .next t ∧ t.upk.rinse = true ∧ s.keeps t [.upk,
    .out]) ∧
  (∀ (s : State), s.wf = true → s.upkeepRuns = true → s.upk.unknown = false → s.upk.rinse = true → ∃ t,
    exec (.rinsePassDone) s = .next t ∧ t.upk.rinse = false ∧
    t.fld F.upkRinseStsPasses = satAdd 32 (s.fld F.upkRinseStsPasses) 1 ∧ t.evtSet Ev.upkRinsePassDone) ∧
  (∀ (s : State) (h : Nat), s.wf = true → s.barReady h → ∃ t, exec (.upkCntClr h) s = .next t ∧
    t.reg F.upkCntSwaps.off = 0#64 ∧ t.reg F.upkCnt2Recounts.off = 0#64 ∧ s.keepsRegs t [F.upkCntSwaps.off,
    F.upkCnt2Recounts.off]) ∧
  (∀ (s : State) (h : Nat) (w : Nat), s.ioUp h = true →
    w = (s.bolt (s.fld F.upkBoltSelGroup) (s.fld F.upkBoltSelBlock)).word → ∃ t, exec (.upkBoltHiRead h) s = .next t ∧
    t.out = [.barData h (BitVec.ofNat 64 (w / 2 ^ 64))] ∧ t.upk.latch = BitVec.ofNat 64 w ∧ s.keeps t [.upk, .out]) ∧
  (∀ (s : State) (g : Nat), s.wf = true → s.upkeepRuns = true → (s.upkG g).darn = 1 →
    s.darnLeft g (fun x => x.degraded && x.kind == 1) = false → ∃ t, exec (.darnMetaDone g) s = .next t ∧
    (t.upkG g).darn = 2 ∧ t.evtSet Ev.upkDarnMetaDone) ∧
  (∀ (s : State) (g : Nat), s.wf = true → s.upkeepRuns = true → (s.upkG g).darn = 2 →
    s.darnLeft g (fun x => x.degraded) = false → ∃ t, exec (.darnDone g) s = .next t ∧ (t.upkG g).darn = 0 ∧
    t.evtSet Ev.upkDarnDone)

/-- The fault manager (R350 to R352, R355, R358, R365, R367 to R370).
 1. The first queued test that its limits allow starts.
 2. A test without a failing part passes: RESULT is 1, with TEST_PASS. 3. One with a failing part fails: RESULT is 2, with TEST_FAIL.
 4. A group's engine serves again once nothing holds it.
 5. A known-answer mismatch takes the pipeline out of use and queues its test.
 6. FLT_TEST_SEL.GO queues a test of the resource named.
 7. FLT_CTL.UNDO marks an INJECTED entry of the retirement table.
 8. FLT_CTL.CNT_CLR clears the counters, the queues' among them.
 9. INJ_EN takes the value written while injection is allowed, 10. and a 1 is ignored while it is not.
 11. FLT_INJ_CTL.ARM arms an injection that may be armed. 12. Written 0, it disarms.
 13. A release drops the oldest quarantine records. -/
def Obligations.FaultCommands : Prop :=
  (∀ (s : State) (r : TestRec), s.pwr.coreOn = true →
    s.flt.tests.find? (fun x => !x.running && s.testFree x.res) = some r → ∃ t, exec (.testStart) s = .next t ∧
    t.flt.tests.any (fun x => decide (x.res = r.res) && x.running) = true) ∧
  (∀ (s : State) (r : TestRec) (parts : Nat), s.wf = true → s.pwr.coreOn = true → s.flt.tests = [r] → r.running = true →
    r.failing parts = 0 → ∃ t, exec (.testDone r.res.ty r.res.id parts) s = .next t ∧ t.fld F.fltTestStsResult = 1 ∧
    t.evtSet Ev.fltTestPass) ∧
  (∀ (s : State) (r : TestRec) (parts : Nat), s.wf = true → s.pwr.coreOn = true → s.flt.tests = [r] → r.running = true →
    r.failing parts ≠ 0 → ∃ t, exec (.testDone r.res.ty r.res.id parts) s = .next t ∧ t.fld F.fltTestStsResult = 2 ∧
    t.evtSet Ev.fltTestFail) ∧
  (∀ (s : State) (g : Nat), s.wf = true → s.pwr.coreOn = true → s.flt.inj = none → s.flt.takeover.getLsbD g = true →
    s.flt.engRetired.getLsbD g = false → s.flt.engHeld.getLsbD g = false →
    s.flt.tests.any (fun x => decide (x.res.testEngine = some g)) = false → ∃ t, exec (.engineTakeback g) s = .next t ∧
    t.flt.takeover.getLsbD g = false ∧ t.group g = { s.group g with taken := false, islandReset := false }) ∧
  (∀ (s : State) (g p : Nat), s.pwr.coreOn = true → g < s.popP →
    Tab.get (fun _ => false) s.flt.aesOut (8 * g + p) = false → s.flt.tests.length < 256 → ∃ t,
    exec (.aesKat g p false) s = .next t ∧ Tab.get (fun _ => false) t.flt.aesOut (8 * g + p) = true ∧
    t.flt.tests.any (fun x => decide (x.res = resAes g p)) = true) ∧
  (∀ (s : State) (h ty r : Nat), s.wf = true → s.barReady h → 1 ≤ ty → ty ≤ 8 → r < 2 ^ 32 →
    s.flt.tests.any (fun x => decide (x.res = ⟨ty, r⟩)) = false → s.flt.tests.length < 256 → ∃ t,
    exec (.testRequest h ty r) s = .next t ∧ t.flt.tests.length = s.flt.tests.length + 1 ∧
    t.flt.tests.any (fun x => decide (x.res = ⟨ty, r⟩) && !x.running && decide (x.errors = 0)) = true ∧
    t.fld F.fltTestSelType = ty ∧ t.fld F.fltTestSelRes = r) ∧
  (∀ (s : State) (h i : Nat) (e : RetEnt), s.barReady h → s.fld F.fltRetSelIndex = i → s.flt.ret[i]? = some e →
    e.injected = true → ∃ t, exec (.fltUndo h) s = .next t ∧ t.flt.ret[i]? = some { e with undo := true } ∧
    t.flt.ret.length = s.flt.ret.length ∧ s.keeps t [.flt, .out]) ∧
  (∀ (s : State) (h : Nat), s.wf = true → s.barReady h → ∃ t, exec (.fltCntClr h) s = .next t ∧
    t.reg F.fltCnt0Link.off = 0#64 ∧ t.reg F.fltCnt1Logic.off = 0#64 ∧ t.reg F.fltCnt2ReqTimeouts.off = 0#64 ∧ (∀ q,
    (t.qcnt q).parity = 0 ∧ (t.qcnt q).replays = 0 ∧ (t.qcnt q).propagated = 0) ∧ s.keepsRegs t [F.fltCnt0Link.off,
    F.fltCnt1Logic.off, F.fltCnt2ReqTimeouts.off]) ∧
  (∀ (s : State) (h : Nat) (v : Bool), s.wf = true → s.barReady h → s.flt.injAllowed = true → ∃ t,
    exec (.injEnWrite h v) s = .next t ∧ t.fld F.fltCtlInjEn = ofBool v) ∧
  (∀ (s : State) (h : Nat), s.barReady h → s.flt.injAllowed = false → ∃ t, exec (.injEnWrite h true) s = .next t ∧
    s.keeps t [.out]) ∧
  (∀ (s : State) (h k n : Nat) (sticky haltOk : Bool), s.wf = true → s.barReady h → k ≠ 12 → s.armable k haltOk = true →
    ∃ t, exec (.injArm h k n sticky haltOk) s = .next t ∧ (t.flt.inj.map fun i => (i.kind, i.left, i.sticky,
    i.res)) = some (k, max 1 n, sticky, ⟨s.fld F.fltInjTgtType, s.fld F.fltInjTgtRes⟩) ∧
    (t.flt.inj.map fun i => i.addr) = some (s.fld F.fltInjAddrAddr)) ∧
  (∀ (s : State) (h : Nat), s.barReady h → ∃ t, exec (.injDisarm h) s = .next t ∧ t.flt.inj = none ∧ s.keeps t [.flt,
    .out]) ∧
  (∀ (s : State) (h n : Nat), s.barReady h → ∃ t, exec (.quarantineRelease h n) s = .next t ∧
    t.flt.quar = s.flt.quar.drop n ∧ s.keeps t [.flt, .out])

/-- The heads (R37 to R41, R45, R48, R82 to R88).
 1. PERST# high lets the head enter Detect. 2. PERST# low resets it and holds its link off.
 3. A trained link is ACTIVE at the lower of what trained and what HST_CTL and the head allow.
 4. A first failed attempt of a sequence raises LINK_DOWN.
 5. A link that goes down returns to Detect, with LINK_DOWN.
 6. Recovery is entered from L0, 7. and left for it.
 8. A conventional reset resets the head's function: its decoders, logs and MSI-X. 9. So does a hot reset.
 10. FLR resets MSI-X and leaves the decoders. 11. D3hot is entered, 12. and left for D0.
 13. HST_CTL.DISABLE turns the link off, 14. and written 0 lets it train. 15. RETRAIN enters Recovery. 16. CNT_CLR clears the counters.
 17. RO_MGMT takes the value written through another head.
 18. A correctable error counts in its window. 19. An IDE integrity failure makes the stream insecure and takes the link down.
 20. IDE keys are programmed in a secured session. 21. A decoder commits with supported ways and granularity. -/
def Obligations.HeadCommands : Prop :=
  (∀ (s : State) (h : Nat), s.wf = true → s.present h = true → (s.head h).perst = true → s.pwr.coreOn = true →
    s.fld (F.hstCtlDisable h) = 0 → ∃ t, exec (.hstPerstDeassert h) s = .next t ∧
    t.head h = { s.head h with perst := false, link := .detect } ∧ s.keeps t [.host, .out]) ∧
  (∀ (s : State) (h : Nat), s.wf = true → s.present h = true → (s.head h).perst = false → ∃ t,
    exec (.hstPerstAssert h) s = .next t ∧ (t.head h).perst = true ∧ (t.head h).link = .off ∧ (t.head h).decoders = []) ∧
  (∀ (s : State) (h v w pol : Nat) (rev : Bool), s.wf = true → s.mayTrain h = true → pol < 2 ^ 16 → ∃ t,
    exec (.headLinkTrained h v w rev (BitVec.ofNat 16 pol)) s = .next t ∧ (t.head h).link = .active ∧
    (t.head h).speed = min v (s.maxSpeed h) ∧ (t.head h).width = min w s.lanes ∧ (t.head h).polarity = pol ∧
    (min v (s.maxSpeed h) < s.maxSpeed h ∨ min w s.lanes < s.lanes → t.evtSet (Ev.hstLinkDegraded h))) ∧
  (∀ (s : State) (h : Nat), s.wf = true → s.mayTrain h = true → (s.head h).link ≠ .recovery →
    (s.head h).attemptDown = false → ∃ t, exec (.headTrainingFailed h) s = .next t ∧ (t.head h).link = .training ∧
    (t.head h).attemptDown = true ∧ t.evtSet (Ev.hstLinkDown h)) ∧
  (∀ (s : State) (h : Nat), s.wf = true → s.pwr.coreOn = true → s.present h = true → s.headUp h = true →
    (s.head h).perst = false → s.fld (F.hstCtlDisable h) = 0 → ∃ t, exec (.headLinkDown h) s = .next t ∧
    (t.head h).link = .detect ∧ (t.head h).width = 0 ∧ t.evtSet (Ev.hstLinkDown h)) ∧
  (∀ (s : State) (h : Nat), s.wf = true → s.pwr.coreOn = true → s.present h = true → (s.head h).link = .active → ∃ t,
    exec (.headLinkRecovery h) s = .next t ∧ t.head h = { s.head h with link := .recovery } ∧
    s.keepsRegs t [(F.hstLinkerrRecoveryCount h).off]) ∧
  (∀ (s : State) (h : Nat), s.wf = true → s.pwr.coreOn = true → s.present h = true → (s.head h).link = .recovery → ∃ t,
    exec (.headLinkRecovery h) s = .next t ∧ t.head h = { s.head h with link := .active } ∧ s.keeps t [.host, .out]) ∧
  (∀ (s : State) (h : Nat), s.wf = true → s.pwr.coreOn = true → s.present h = true → ∃ t,
    exec (.headConventionalReset h) s = .next t ∧ (t.head h).link = s.restLink h ∧ (t.head h).decoders = [] ∧
    (t.head h).logs = Quad.all [] ∧ (t.head h).msixOn = false ∧ (t.head h).ideKeys = false) ∧
  (∀ (s : State) (h : Nat), s.wf = true → s.pwr.coreOn = true → s.present h = true → s.headUp h = true → ∃ t,
    exec (.headHotReset h) s = .next t ∧ (t.head h).link = s.restLink h ∧ (t.head h).decoders = [] ∧
    (t.head h).logs = Quad.all [] ∧ (t.head h).msixOn = false ∧ t.evtSet (Ev.hstLinkDown h)) ∧
  (∀ (s : State) (h : Nat), s.wf = true → s.pwr.coreOn = true → s.present h = true → s.headUp h = true → ∃ t,
    exec (.headFlr h) s = .next t ∧ (t.head h).msixOn = false ∧ (t.head h).msixMask = BitVec.allOnes 64 ∧
    (t.head h).decoders = (s.head h).decoders ∧ s.keeps t [.host, .out]) ∧
  (∀ (s : State) (h : Nat), s.wf = true → s.pwr.coreOn = true → s.present h = true → (s.head h).link = .active → ∃ t,
    exec (.d3hotEntry h) s = .next t ∧ t.head h = { s.head h with link := .d3 } ∧ s.keeps t [.host, .out]) ∧
  (∀ (s : State) (h : Nat), s.wf = true → s.pwr.coreOn = true → s.present h = true → (s.head h).link = .d3 → ∃ t,
    exec (.d0Return h) s = .next t ∧ t.head h = { s.head h with link := .active } ∧ s.keeps t [.host, .out]) ∧
  (∀ (s : State) (h k : Nat), s.wf = true → s.barReady h → s.present k = true → ∃ t,
    exec (.headDisable h k true) s = .next t ∧ t.fld (F.hstCtlDisable k) = 1 ∧ (t.head k).link = .off) ∧
  (∀ (s : State) (h k : Nat), s.wf = true → s.barReady h → s.present k = true → s.fld (F.hstCtlDisable k) = 1 →
    (s.head k).perst = false → ∃ t, exec (.headDisable h k false) s = .next t ∧ t.fld (F.hstCtlDisable k) = 0 ∧
    (t.head k).link = .detect) ∧
  (∀ (s : State) (h k : Nat), s.wf = true → s.barReady h → s.present k = true → (s.head k).link = .active → ∃ t,
    exec (.headRetrain h k) s = .next t ∧ t.head k = { s.head k with link := .recovery } ∧
    s.keepsRegs t [(F.hstLinkerrRecoveryCount k).off]) ∧
  (∀ (s : State) (h k : Nat), s.wf = true → s.barReady h → s.present k = true → ∃ t, exec (.headCntClr h k) s = .next t ∧
    t.reg (F.hstLinkerrCorrCount k).off = 0#64 ∧ t.reg (F.hstExterrCntOutsideExtent k).off = 0#64 ∧
    s.keepsRegs t [(F.hstLinkerrCorrCount k).off, (F.hstExterrCntOutsideExtent k).off]) ∧
  (∀ (s : State) (h k : Nat) (v : Bool), s.wf = true → s.barReady h → s.present k = true → (k ≠ h ∨ v = true) → ∃ t,
    exec (.roMgmtWrite h k v) s = .next t ∧ t.fld (F.hstCtlRoMgmt k) = ofBool v ∧ s.keepsRegs t [(F.hstCtlRoMgmt k).off]) ∧
  (∀ (s : State) (h : Nat), s.wf = true → s.pwr.coreOn = true → s.present h = true → ∃ t,
    exec (.headCorrectableError h) s = .next t ∧
    t.fld (F.hstLinkerrCorrCount h) = satAdd 32 (s.fld (F.hstLinkerrCorrCount h)) 1 ∧
    ((t.head h).corrWin = (if (s.head h).corrWin = 0 ∨ (s.head h).corrStart + 1000000000 ≤ s.time.upNs then 1 else (s.head
      h).corrWin + 1))) ∧
  (∀ (s : State) (h : Nat), s.wf = true → s.pwr.coreOn = true → s.present h = true → s.headUp h = true →
    (s.head h).ideMode ≠ 0 → ∃ t, exec (.ideIntegrityFail h) s = .next t ∧ (t.head h).ideInsecure = true ∧
    (t.head h).link = .detect ∧ t.evtSet (Ev.hstIdeFail h) ∧ t.evtSet (Ev.hstLinkDown h)) ∧
  (∀ (s : State) (h n : Nat) (st : IdeStream) (mode : Nat), s.wf = true → s.pwr.coreOn = true → s.present h = true →
    s.fwu.sessions.any (fun x => x.id == n && x.port == h) = true → ∃ t, exec (.ideKeyProgram h n st mode) s = .next t ∧
    t.head h = (s.head h).program st mode ∧ s.keeps t [.host, .out]) ∧
  (∀ (s : State) (h i : Nat) (base size dpa skip : BitVec 64) (ways gran : Nat) (lock : Bool), s.wf = true →
    s.ioUp h = true → okWays ways = true → okGran gran = true → (s.decoder h i).lock = false → ∃ t,
    exec (.hdmDecoderCommit h i base size ways gran dpa skip lock) s = .next t ∧ t.decoder h i = ⟨true, false, lock,
    base.toNat, size.toNat, ways, gran, dpa.toNat, skip.toNat⟩ ∧ s.keeps t [.host, .out])

/-- What the reporting commands of the mailbox answer (R43, R65 to R71, R79, R250, R252, R255, R337, R364, R365, R510). Nothing but the
 answer changes.
 1. Identify. 2, 3. Background Operation Status, idle and after an operation. 4. Get Response Message Limit.
 5. Get Supported Logs. 6. Get Log inside a log, and 7. past its end. 8. Get Log Capabilities. 9. Clear Log clears none.
 10. Get Supported Features. 11. Get Feature. 12. Identify Memory Device. 13. Get Partition Info. 14. Set Partition Info changes none.
 15. Get Shutdown State. 16. Get Poison List. 17. Get Scan Media Capabilities. 18. Get Scan Media Results. 19. Get SLD QoS Control.
 20. Get SLD QoS Status. 21. An opcode that is not listed. 22. Get Domain Extents. 23. Get Head Status. -/
def Obligations.MailboxQueries : Prop :=
  (∀ (s : State) (h : Nat), s.mboxReady h → ∃ t, exec (.identify h) s = .next t ∧ t.out = [.mbox h .success [0x2E51,
    0x0128, s.host.subsystem.1, s.host.subsystem.2, Config.serial.toNat, 16, 3]] ∧ s.keeps t [.out]) ∧
  (∀ (s : State) (h : Nat), s.mboxReady h → s.host.bg = none → s.host.bgLast = none → ∃ t,
    exec (.backgroundOperationStatus h) s = .next t ∧ t.out = [.mbox h .success [0, 0, 0, 0]] ∧ s.keeps t [.out]) ∧
  (∀ (s : State) (h k : Nat) (o : BgKind) (rc : Rc), s.mboxReady h → s.host.bg = none → s.host.bgLast = some (o, k, rc) →
    ∃ t, exec (.backgroundOperationStatus h) s = .next t ∧ t.out = [.mbox h .success [0, bgOpcode o, rc.code, 100]] ∧
    s.keeps t [.out]) ∧
  (∀ (s : State) (h : Nat), s.mboxReady h → ∃ t, exec (.getResponseMessageLimit h) s = .next t ∧
    t.out = [.mbox h .success [(s.head h).rspLimit]] ∧ s.keeps t [.out]) ∧
  (∀ (s : State) (h : Nat), s.mboxReady h → ∃ t, exec (.getSupportedLogs h) s = .next t ∧ t.out = [.mbox h .success [3,
    celUuid, 4 * opcodes.length, healthUuid, 256, quarUuid, 256 * s.flt.quar.length]] ∧ s.keeps t [.out]) ∧
  (∀ (s : State) (h off len : Nat) (l : LogId) (b : Bytes), s.mboxReady h → s.logBytes l = some b → off + len ≤ b.length →
    ∃ t, exec (.getLog h l off len) s = .next t ∧ t.out = [.mbox h .success (((b.drop off).take len).map BitVec.toNat)] ∧
    s.keeps t [.out]) ∧
  (∀ (s : State) (h off len : Nat) (l : LogId) (b : Bytes), s.mboxReady h → s.logBytes l = some b → b.length < off + len →
    ∃ t, exec (.getLog h l off len) s = .next t ∧ t.out = [.mbox h .invalidInput []] ∧ s.keeps t [.out]) ∧
  (∀ (s : State) (h : Nat) (l : LogId), s.mboxReady h → l ≠ .other → ∃ t, exec (.getLogCapabilities h l) s = .next t ∧
    t.out = [.mbox h .success [0]] ∧ s.keeps t [.out]) ∧
  (∀ (s : State) (h : Nat) (l : LogId), s.mboxReady h → ∃ t, exec (.clearLog h l) s = .next t ∧
    t.out = [.mbox h .invalidInput []] ∧ s.keeps t [.out]) ∧
  (∀ (s : State) (h : Nat), s.mboxReady h → ∃ t, exec (.getSupportedFeatures h) s = .next t ∧
    t.out = [.mbox h .success [1, scrubUuid]] ∧ s.keeps t [.out]) ∧
  (∀ (s : State) (h : Nat), s.mboxReady h → ∃ t, exec (.getFeature h 0) s = .next t ∧
    t.out = [.mbox h .success [s.fld F.upkRinseCfgPeriodH]] ∧ s.keeps t [.out]) ∧
  (∀ (s : State) (h : Nat), s.mboxReady h → ∃ t, exec (.identifyMemoryDevice h) s = .next t ∧
    t.out = [.mbox h .success [4 * s.userGib, 0, 4 * s.userGib, 0, 262144, 32768, 256, 3, 1]] ∧ s.keeps t [.out]) ∧
  (∀ (s : State) (h : Nat), s.mboxReady h → ∃ t, exec (.getPartitionInfo h) s = .next t ∧ t.out = [.mbox h .success [0,
    4 * s.userGib, 0, 4 * s.userGib]] ∧ s.keeps t [.out]) ∧
  (∀ (s : State) (h : Nat), s.mboxReady h → ∃ t, exec (.setPartitionInfo h) s = .next t ∧
    t.out = [.mbox h .invalidInput []] ∧ s.keeps t [.out]) ∧
  (∀ (s : State) (h : Nat), s.mboxReady h → ∃ t, exec (.getShutdownState h) s = .next t ∧
    t.out = [.mbox h .success [s.host.shutdownState]] ∧ s.keeps t [.out]) ∧
  (∀ (s : State) (h first len : Nat) (r : PRec), s.mboxReady h → s.rd.poison = [r] → r.dpa < first + 64 * len →
    first < r.dpa + 64 * r.len → s.rd.ovf = none → s.rd.scan = none → ∃ t, exec (.getPoisonList h first len) s = .next t ∧
    t.out = [.mbox h .success [0, 0, 1, r.dpa, r.len, sourceCode r.src]] ∧ s.keeps t [.out]) ∧
  (∀ (s : State) (h first len l n : Nat), s.mboxReady h → s.scanRange first len = some (l, n) → ∃ t,
    exec (.getScanMediaCapabilities h first len) s = .next t ∧
    t.out = [.mbox h .success [(s.mappedIn l n).length * 256 * 1000 / 24000000000]] ∧ s.keeps t [.out]) ∧
  (∀ (s : State) (h : Nat), s.mboxReady h → ∃ t, exec (.getScanMediaResults h) s = .next t ∧
    t.out = [.mbox h .success (s.rd.scanRes.length :: s.rd.scanRes.flatMap fun p => [p.1, p.2])] ∧ s.keeps t [.out]) ∧
  (∀ (s : State) (h : Nat), s.mboxReady h → ∃ t, exec (.getSldQosControl h) s = .next t ∧
    t.out = [.mbox h .success [ofBool s.host.egressOn, s.host.egressModerate, s.host.egressSevere]] ∧ s.keeps t [.out]) ∧
  (∀ (s : State) (h : Nat), s.mboxReady h → ∃ t, exec (.getSldQosStatus h) s = .next t ∧
    t.out = [.mbox h .success [s.fld (F.hstDevloadBackpressurePct h)]] ∧ s.keeps t [.out]) ∧
  (∀ (s : State) (h o : Nat), s.mboxReady h → ∃ t, exec (.unsupportedOpcode h o) s = .next t ∧
    t.out = [.mbox h .unsupported []] ∧ s.keeps t [.out]) ∧
  (∀ (s : State) (h : Nat), s.mboxReady h → ∃ t, exec (.getDomainExtents h) s = .next t ∧
    t.out = [.mbox h .success ((List.range 256).flatMap fun d => [(s.dom d).base, (s.dom d).count])] ∧ s.keeps t [.out]) ∧
  (∀ (s : State) (h : Nat), s.mboxReady h → ∃ t, exec (.getHeadStatus h) s = .next t ∧
    (t.out = [.mbox h .success ((List.range 8).flatMap fun k => if s.present k then [s.hstSts k,
    (s.reg (F.hstDevloadDevload k).off).toNat] else [0, 0])]) ∧ s.keeps t [.out])

/-- The commands of the mailbox that change state (R52, R53, R65 to R72, R76, R77, R173, R174, R250 to R255, R337, R400).
 1. A head with RO_MGMT is answered Invalid Security State. 2. A response limit of 2^8 to 2^16 is taken, 3. another is Invalid Input.
 4. The Rinse period is taken. 5. The shutdown state is taken.
 6. An injected sector is in the poison list. 7. A cleared one is not.
 8. A scan starts in the background, 9. and ends there, its lines being what it found.
 10, 11. Sanitize and Secure Erase start: every domain key is destroyed. 12. They end: nothing is mapped and nothing is poisoned.
 13. QoS control is taken.
 14. An extent grows at once. 15. It shrinks at once too, its released lines being unmapped in the background.
 16. The oldest unmap ends: its lines are unmapped, with UNMAP_DONE. -/
def Obligations.MailboxChanges : Prop :=
  (∀ (s : State) (h v : Nat), s.mboxReady h → s.roMgmt h = true → ∃ t, exec (.setShutdownState h v) s = .next t ∧
    t.out = [.mbox h .invalidSecurityState []] ∧ s.keeps t [.out]) ∧
  (∀ (s : State) (h v : Nat), s.wf = true → s.mboxReady h → 8 ≤ v → v ≤ 16 → ∃ t,
    exec (.setResponseMessageLimit h v) s = .next t ∧ t.head h = { s.head h with rspLimit := v } ∧
    t.out = [.mbox h .success [v]] ∧ s.keeps t [.host, .out]) ∧
  (∀ (s : State) (h v : Nat), s.mboxReady h → (v < 8 ∨ 16 < v) → ∃ t, exec (.setResponseMessageLimit h v) s = .next t ∧
    t.out = [.mbox h .invalidInput []] ∧ s.keeps t [.out]) ∧
  (∀ (s : State) (h v : Nat), s.wf = true → s.mboxRwReady h → 1 ≤ v → v ≤ 720 → ∃ t,
    exec (.setFeature h 0 v) s = .next t ∧ t.fld F.upkRinseCfgPeriodH = v ∧ t.out = [.mbox h .success []] ∧
    s.keepsRegs t [F.upkRinseCfgPeriodH.off]) ∧
  (∀ (s : State) (h v : Nat), s.mboxRwReady h → ∃ t, exec (.setShutdownState h v) s = .next t ∧ t.host.shutdownState = v ∧
    t.out = [.mbox h .success []] ∧ s.keeps t [.host, .out]) ∧
  (∀ (s : State) (h x : Nat) (dpa : BitVec 64) (r : Req), s.mboxRwReady h →
    s.place? (mailWrite h 0#512 true) dpa.toNat = some r → s.injected < 256 → s.rd.poison.length < 32768 →
    s.writable r.dom = true → s.dpaOf r.line r.sec = some x → ∃ t, exec (.injectPoison h dpa) s = .next t ∧
    t.poisonListed x = true ∧ t.out.getLast? = some (.mbox h .success [])) ∧
  (∀ (s : State) (h x : Nat) (dpa : BitVec 64) (d : BitVec 512) (r : Req), s.mboxRwReady h →
    s.place? (mailWrite h d false) dpa.toNat = some r → s.writable r.dom = true → s.fch.mode = .off → s.swt.st = .none →
    (s.epoDom r.dom).draining = false → s.dpaOf r.line r.sec = some x → ∃ t, exec (.clearPoison h dpa d) s = .next t ∧
    t.poisonListed x = false ∧ t.out.getLast? = some (.mbox h .success [])) ∧
  (∀ (s : State) (h first len l n : Nat), s.mboxRwReady h → s.host.bg = none → s.host.memActive = true →
    s.scanRange first len = some (l, n) → ∃ t, exec (.scanMedia h first len) s = .next t ∧ t.host.bg = some (.scan, h) ∧
    t.rd.scan = some ⟨l, n, false⟩ ∧ t.rd.scanRes = [] ∧ t.out = [.mbox h .backgroundStarted []]) ∧
  (∀ (s : State) (x : Scan) (h : Nat), s.pwr.coreOn = true → s.rd.scan = some x →
    s.rd.reads.any (fun r => r.why == .scan) = false → s.host.bg = some (.scan, h) → ∃ t,
    exec (.scanMediaDone) s = .next t ∧ t.rd.scan = none ∧ t.host.bg = none ∧ t.host.bgLast = some (.scan, h, .success) ∧
    (∀ l, l ∈ keysIn s.map.ent x.first x.count → (s.entry l).st = 2 ∧ (s.domOf l).isSome = true →
    (t.rd.scanRes.any fun p => p.1 == (s.dpaOf l 0).getD 0) = true)) ∧
  (∀ (s : State) (h : Nat), s.wf = true → s.mboxRwReady h → s.host.bg = none → ∃ t, exec (.sanitize h) s = .next t ∧
    t.host.sanitizing = true ∧ t.host.bg = some (.sanitize, h) ∧ t.out.getLast? = some (.mbox h .backgroundStarted []) ∧
    (∀ d, d < 256 → (t.dom d).st = .empty)) ∧
  (∀ (s : State) (h : Nat), s.wf = true → s.mboxRwReady h → s.host.bg = none → ∃ t, exec (.secureErase h) s = .next t ∧
    t.host.sanitizing = true ∧ t.host.bg = some (.secureErase, h) ∧
    t.out.getLast? = some (.mbox h .backgroundStarted []) ∧ (∀ d, d < 256 → (t.dom d).st = .empty)) ∧
  (∀ (s : State), s.wf = true → s.pwr.coreOn = true → s.host.sanitizing = true → s.map.st = .active → ∃ t,
    exec (.sanitizeDone) s = .next t ∧ t.host.sanitizing = false ∧ t.host.bg = none ∧ t.map.ent = [] ∧ t.rd.poison = [] ∧
    (t.map.anchor.map fun a => a.clean) = some false) ∧
  (∀ (s : State) (h m v : Nat) (e : Bool), s.mboxRwReady h → 1 ≤ m → m ≤ v → v ≤ 100 → ∃ t,
    exec (.setSldQosControl h e m v) s = .next t ∧ (t.host.egressOn, t.host.egressModerate, t.host.egressSevere) = (e, m,
    v) ∧ t.out = [.mbox h .success []] ∧ s.keeps t [.host, .out]) ∧
  (∀ (s : State) (h d base count : Nat), s.wf = true → s.mboxRwReady h → s.extentBad d base count = false →
    s.takesReleased base count = false → (s.dom d).count < count → ∃ t,
    exec (.setDomainExtent h d base count) s = .next t ∧ (t.dom d).base = base ∧ (t.dom d).count = count ∧
    t.out = [.mbox h .success []] ∧ s.keeps t [.host, .cry, .out]) ∧
  (∀ (s : State) (h d base count : Nat), s.wf = true → s.mboxRwReady h → s.extentBad d base count = false →
    s.takesReleased base count = false → count < (s.dom d).count → s.shrinkBusy d base count = false → ∃ t,
    exec (.setDomainExtent h d base count) s = .next t ∧ (t.dom d).count = count ∧ t.host.bg = some (.shrink, h) ∧
    t.host.released = some (((s.dom d).base + count) * 2 ^ 22, ((s.dom d).count - count) * 2 ^ 22) ∧
    t.map.unmap = s.map.unmap ++ [(((s.dom d).base + count) * 2 ^ 22, ((s.dom d).count - count) * 2 ^ 22, .shrink h)] ∧
    t.out.getLast? = some (.mbox h .backgroundStarted [])) ∧
  (∀ (s : State) (first n : Nat) (why : UnmapWhy) (us : List (Nat × Nat × UnmapWhy)), s.wf = true → s.pwr.coreOn = true →
    s.map.st = .active → s.map.unmap = (first, n, why) :: us → s.recordDue first n = false → ∃ t,
    exec (.unmapDone) s = .next t ∧ t.map.unmap = us ∧ t.evtSet Ev.mapUnmapDone ∧ (∀ l, first ≤ l → l < first + n →
    t.entry l = Entry.unmapped))

/-- Firmware update and configuration (R13, R517 to R535, R539 to R542, R549).
 1. A copied image that reads back goes into the other slot, with XFER_DONE. 2. One that does not ends the transfer, with XFER_FAIL.
 3. Transfer FW initiates a transfer with its first bytes. 4. It aborts one. 5. Get FW Info names the slots and versions.
 6. RequestUpdate starts a transfer. 7. Firmware data at the offset asked for moves it on. 8. A request without a response is repeated,
 9. and after three repetitions the update fails. 10. In recovery the DOE transfer takes bytes.
 11. Activation at a reset is pending in the boot record. 12. An online one begins. 13. PLDM's too.
 14. With its image loaded the pause begins, in trial. 15. An image that does not load fails the activation.
 16. The pause ends with ACTIVATED, 17. or is rolled back, with ACTIVATION_FAILED.
 18. A schedule is taken, 19. and cancelled.
 20. A self-check that passes lets the image be confirmed; 21. one that fails falls back, with FALLBACK.
 22. Confirm FW confirms the trial; 23. it first moves the anti-rollback counter to a higher SVN.
 24. At the deadline the trial falls back. 25. DEADLINE_NEAR is raised once. 26. The watchdog makes a trial fall back.
 27. A signed bundle is applied, its sequence kept. 28. One that does not verify is refused.
 29. FWU_CTL.RECOVERY asks for recovery. 30. FWU_CTL.CNT_CLR clears FWU_CNT. -/
def Obligations.FirmwareCommands : Prop :=
  (∀ (s : State) (x : Xfer), s.wf = true → s.pwr.coreOn = true → s.fwu.xfer = some x → x.copying = true →
    x.src.recovery = false → ∃ t, exec (.imageCopyDone true) s = .next t ∧ t.fwu.xfer = none ∧
    t.slotImg s.otherSlot = some (imageOf x.head) ∧ t.fwu.pendingImg = true ∧ t.evtSet Ev.fwuXferDone) ∧
  (∀ (s : State) (x : Xfer), s.wf = true → s.pwr.coreOn = true → s.fwu.xfer = some x → x.copying = true → ∃ t,
    exec (.imageCopyDone false) s = .next t ∧ t.fwu.xfer = none ∧ t.slotImg s.otherSlot = s.slotImg s.otherSlot ∧
    t.evtSet Ev.fwuXferFail) ∧
  (∀ (s : State) (h slot : Nat) (d : List Nat) (leaves sig : Bool), s.mboxRwReady h → s.xferRefused = none →
    d.length < 4096 → ∃ t, exec (.transferFw h 1 slot 0 d leaves sig) s = .next t ∧
    t.fwu.xfer = some { Xfer.start .cxl 16 h with next := d.length, head := d } ∧ t.out = [.mbox h .success []]) ∧
  (∀ (s : State) (h slot off : Nat) (d : List Nat) (x : Xfer) (leaves sig : Bool), s.mboxRwReady h → s.fwu.xfer = some x →
    x.src = .cxl → x.h = h → x.copying = false → ∃ t, exec (.transferFw h 4 slot off d leaves sig) s = .next t ∧
    t.fwu.xfer = none ∧ t.out = [.mbox h .success []] ∧ s.keeps t [.fwu, .out]) ∧
  (∀ (s : State) (h : Nat), s.mboxReady h → ∃ t, exec (.getFwInfo h) s = .next t ∧ (t.out = [.mbox h .success [2,
    s.boot.running + 1 + 8 * (if s.boot.st = .pendingReset then s.otherSlot + 1 else 0), 1, s.verOf 0, s.verOf 1]]) ∧
    s.keeps t [.out]) ∧
  (∀ (s : State) (size : Nat), s.portUp 8 = true → s.fwu.paused = false → s.fwu.recovery = false → s.xferRefused = none →
    ∃ t, exec (.pldmRequestUpdate 8 size) s = .next t ∧ t.fwu.xfer = some (Xfer.start .pldm (s.chunkLog size) 8) ∧
    t.out = [.answer 0x10 0 []] ∧ s.keeps t [.fwu, .out]) ∧
  (∀ (s : State) (off : Nat) (d : List Nat) (leaves : Bool) (x : Xfer), s.portUp 8 = true → s.fwu.paused = false →
    s.fwu.xfer = some x → x.src = .pldm → x.copying = false → x.len = 0 → off = x.next → d.length ≤ 2 ^ x.chunk →
    off + d.length < 4096 → ∃ t, exec (.pldmFirmwareData off d leaves) s = .next t ∧
    t.fwu.xfer = some { x with next := off + d.length, repeats := 0, head := (x.head ++ d).take 4096 }) ∧
  (∀ (s : State) (x : Xfer), s.pwr.coreOn = true → s.fwu.running = true → s.fwu.paused = false → s.fwu.xfer = some x →
    x.src = .pldm → x.copying = false → x.repeats < 3 → ∃ t, exec (.pldmDataTimeout) s = .next t ∧
    t.fwu.xfer = some { x with repeats := x.repeats + 1 } ∧ s.keeps t [.fwu, .out]) ∧
  (∀ (s : State) (x : Xfer), s.wf = true → s.pwr.coreOn = true → s.fwu.running = true → s.fwu.paused = false →
    s.fwu.xfer = some x → x.src = .pldm → x.copying = false → 3 ≤ x.repeats → ∃ t, exec (.pldmDataTimeout) s = .next t ∧
    t.fwu.xfer = none ∧ t.evtSet Ev.fwuXferFail) ∧
  (∀ (s : State) (d : List Nat) (leaves : Bool), s.pwr.coreOn = true → s.fwu.recovery = true → s.fwu.xfer = none →
    d.length < 4096 → ∃ t, exec (.recoveryDoeTransfer 0 d leaves) s = .next t ∧ t.out = [.answer 1 0 [d.length]] ∧
    (t.fwu.xfer.map fun x => (x.src, x.next)) = some (.recoveryDoe, d.length)) ∧
  (∀ (s : State) (h slot : Nat), s.mboxRwReady h → s.activateRefused slot false = none → ∃ t,
    exec (.activateFw h false slot) s = .next t ∧ t.boot.st = .pendingReset ∧ t.boot.running = s.boot.running ∧
    t.out = [.mbox h .success []] ∧ s.keeps t [.fwu, .out]) ∧
  (∀ (s : State) (h slot : Nat), s.mboxRwReady h → s.activateRefused slot true = none → ∃ t,
    exec (.activateFw h true slot) s = .next t ∧ t.fwu.act = some (slot - 1, .mailbox h) ∧ t.out = [] ∧ s.keeps t [.fwu,
    .out]) ∧
  (∀ (s : State), s.portUp 8 = true → s.fwu.paused = false → s.activateRefused (s.otherSlot + 1) true = none → ∃ t,
    exec (.pldmActivateFirmware true) s = .next t ∧ t.fwu.act = some (s.otherSlot, .pldm) ∧ t.out = [.answer 0x1A 0 []] ∧
    s.keeps t [.fwu, .out]) ∧
  (∀ (s : State) (slot : Nat) (how : ActHow), s.pwr.coreOn = true → s.fwu.running = true → s.fwu.paused = false →
    s.fwu.act = some (slot, how) → ∃ t, exec (.activationImageLoaded true) s = .next t ∧ t.fwu.paused = true ∧
    t.boot.running = slot ∧ t.boot.st = .trial ∧ t.boot.attempts = 0 ∧ s.keeps t [.fwu, .out]) ∧
  (∀ (s : State) (slot : Nat) (how : ActHow), s.wf = true → s.pwr.coreOn = true → s.fwu.running = true →
    s.fwu.paused = false → s.fwu.act = some (slot, how) → ∃ t, exec (.activationImageLoaded false) s = .next t ∧
    t.fwu.act = none ∧ t.fwu.boot = s.fwu.boot ∧ t.evtSet Ev.fwuActivationFailed) ∧
  (∀ (s : State) (slot : Nat) (how : ActHow), s.wf = true → s.pwr.coreOn = true → s.fwu.paused = true →
    s.fwu.act = some (slot, how) → ∃ t, exec (.activationPauseEnd true) s = .next t ∧ t.fwu.paused = false ∧
    t.fwu.act = none ∧ t.fwu.selfCheck = 1 ∧ t.evtSet Ev.fwuActivated) ∧
  (∀ (s : State) (slot : Nat) (how : ActHow), s.wf = true → s.pwr.coreOn = true → s.fwu.paused = true →
    s.fwu.act = some (slot, how) → ∃ t, exec (.activationPauseEnd false) s = .next t ∧ t.fwu.paused = false ∧
    t.fwu.act = none ∧ t.boot.running = 1 - slot ∧ t.boot.st = .confirmed ∧ t.evtSet Ev.fwuActivationFailed) ∧
  (∀ (s : State) (h slot dl : Nat) (pps : Bool) (l : List Nat), s.mboxRwReady h → s.fld F.topMidxAssigned ≠ 0 →
    s.fld F.topTimeValid ≠ 0 → s.activateRefused slot true = none → s.time.devtime + 10 ^ 9 ≤ dl →
    dl ≤ s.time.devtime + 604800 * 10 ^ 9 → (pps = true → dl % 10 ^ 9 = 0) → 2 ≤ l.length → l.length ≤ 32 →
    l.length % 2 = 0 → inTargets (s.fld F.topMidxIndex) l = true → ∃ t,
    exec (.scheduleFwActivation h slot dl pps l) s = .next t ∧ t.fwu.sched = some ⟨slot - 1, dl, pps, false⟩ ∧
    t.out = [.mbox h .success []] ∧ s.keeps t [.fwu, .out]) ∧
  (∀ (s : State) (h : Nat) (x : Sched), s.mboxRwReady h → s.fwu.sched = some x → x.fired = false → ∃ t,
    exec (.cancelScheduledActivation h) s = .next t ∧ t.fwu.sched = none ∧ t.out = [.mbox h .success []] ∧
    s.keeps t [.fwu, .out]) ∧
  (∀ (s : State), s.pwr.coreOn = true → s.fwu.running = true → s.boot.st = .trial → s.fwu.selfCheck = 1 → ∃ t,
    exec (.selfCheckDone true) s = .next t ∧ t.fwu = { s.fwu with selfCheck := 2 } ∧ s.keeps t [.fwu, .out]) ∧
  (∀ (s : State), s.wf = true → s.pwr.coreOn = true → s.fwu.running = true → s.boot.st = .trial → s.fwu.selfCheck = 1 →
    ∃ t, exec (.selfCheckDone false) s = .next t ∧ t.fwu.selfCheck = 3 ∧ t.boot.running = 1 - s.boot.running ∧
    t.boot.st = .confirmed ∧ t.evtSet Ev.fwuFallback) ∧
  (∀ (s : State) (h : Nat) (i : Image), s.wf = true → s.mboxRwReady h → s.boot.st = .trial → s.fwu.selfCheck = 2 →
    s.slotImg s.boot.running = some i → i.svn ≤ s.ctrVal 8 → ∃ t, exec (.confirmFw h) s = .next t ∧
    t.boot.st = .confirmed ∧ t.boot.running = s.boot.running ∧ t.boot.lastVer = i.version ∧ t.evtSet Ev.fwuConfirmed ∧
    t.out = [.mbox h .success []]) ∧
  (∀ (s : State) (h j v : Nat) (i : Image), s.wf = true → s.mboxRwReady h → s.boot.st = .trial → s.fwu.selfCheck = 2 →
    s.slotImg s.boot.running = some i → s.bestCell 8 16 = some (j, v) → v < i.svn → s.cellGood 8 ((j + 1) % 16) = true →
    ∃ t, exec (.confirmFw h) s = .next t ∧ t.ctrVal 8 = i.svn ∧ t.boot.st = .confirmed ∧ t.out = [.mbox h .success []]) ∧
  (∀ (s : State), s.wf = true → s.pwr.coreOn = true → s.fwu.running = true → s.boot.st = .trial →
    s.boot.deadline ≤ s.opMs → ∃ t, exec (.confirmDeadline) s = .next t ∧ t.boot.running = 1 - s.boot.running ∧
    t.boot.st = .confirmed ∧ t.evtSet Ev.fwuFallback) ∧
  (∀ (s : State), s.wf = true → s.pwr.coreOn = true → s.fwu.running = true → s.fwu.near = false → s.boot.st = .trial →
    s.boot.deadline ≤ s.opMs + 3600000 → ∃ t, exec (.deadlineNear) s = .next t ∧ t.fwu.near = true ∧
    t.evtSet Ev.fwuDeadlineNear) ∧
  (∀ (s : State), s.wf = true → s.pwr.coreOn = true → s.fwu.running = true → ∃ t, exec (.watchdog) s = .next t ∧
    t.evtSet Ev.fwuWatchdog ∧ (s.boot.st = .trial → t.boot.running = 1 - s.boot.running ∧ t.boot.st = .confirmed) ∧
    (s.boot.st ≠ .trial → t.boot = s.boot)) ∧
  (∀ (s : State) (h j v n d : Nat) (b : Bundle), s.wf = true → s.mboxRwReady h → s.bundleSigned b = true →
    b.serial = 0#64 → b.items = [.subsystem n d] → n < 2 ^ 16 → d < 2 ^ 16 → s.bestCell 10 16 = some (j, v) → v < b.seq →
    b.seq ≤ ctrLimit 10 → s.cellGood 10 ((j + 1) % 16) = true → ∃ t, exec (.applyConfigurationBundle h b) s = .next t ∧
    t.fwu.subsysNext = some (n, d) ∧ t.ctrVal 10 = b.seq ∧ t.evtSet Ev.fwuBundleApplied ∧ t.out = [.mbox h .success []]) ∧
  (∀ (s : State) (h : Nat) (b : Bundle), s.wf = true → s.mboxRwReady h → s.bundleSigned b = false → ∃ t,
    exec (.applyConfigurationBundle h b) s = .next t ∧ t.fwu = s.fwu ∧ t.evtSet Ev.fwuBundleRefused ∧
    t.out = [.mbox h .invalidSecurityState []]) ∧
  (∀ (s : State) (h : Nat), s.barReady h → ∃ t, exec (.fwuRecovery h 0xD5) s = .next t ∧
    t.fwu = { s.fwu with recoveryReq := true } ∧ s.keeps t [.fwu, .out]) ∧
  (∀ (s : State) (h : Nat), s.wf = true → s.barReady h → ∃ t, exec (.fwuCntClr h) s = .next t ∧
    t.reg F.fwuCntActivations.off = 0#64 ∧ s.keepsRegs t [F.fwuCntActivations.off])

/-- Attestation and sessions (R80, R81, R397, R402, R543 to R547). Signatures and certificates are the model's uninterpreted values.
 1. The RSA chain is read. 2. The post-quantum chain too, 3. at most 1,024 bytes at a time.
 4. A challenge is answered with a signature, and a second one may be asked for. 5. The number of measurement blocks, unsigned.
 6. A key exchange opens a session, unless its connection holds four or the DRBG is FAILED. 7. A secured message goes to the key vault.
 8. The second signature is being made, 9. and is then given. 10. DOE discovery lists a data object. 11. The CDAT names its sequence number first. -/
def Obligations.AttestationCommands : Prop :=
  (∀ (s : State) (p off len : Nat), s.portUp p = true → s.fwu.paused = false → s.identReadable off len = true → ∃ t,
    exec (.spdmGetCertificate p off len) s = .next t ∧ t.out = [.answer 0x02 0 [off, len,
    (Config.signature 2 off).toNat]] ∧ s.keeps t [.fwu, .out]) ∧
  (∀ (s : State) (p off len : Nat), s.portUp p = true → s.fwu.paused = false → len ≤ 1024 →
    s.identReadable off len = true → ∃ t, exec (.getPqCertificate p off len) s = .next t ∧
    t.out = [.answer (0x21 + 0x80) 0 [off, len, (Config.signature 3 off).toNat]] ∧ s.keeps t [.fwu, .out]) ∧
  (∀ (s : State) (p off len : Nat), s.portUp p = true → s.fwu.paused = false → 1024 < len → ∃ t,
    exec (.getPqCertificate p off len) s = .next t ∧ t.out = [.answer (0x21 + 0x80) 1 []] ∧ s.keeps t [.fwu, .out]) ∧
  (∀ (s : State) (p : Nat) (n : BitVec 256), s.portUp p = true → s.fwu.paused = false → ∃ t,
    exec (.spdmChallenge p n) s = .next t ∧ t.out = [.answer 0x03 0 [n.toNat, (Config.signature 0 s.freeCtr).toNat]] ∧
    t.fwu.pqReady.contains p = true ∧ s.keeps t [.fwu, .freeCtr, .out]) ∧
  (∀ (s : State) (p : Nat), s.portUp p = true → s.fwu.paused = false → ∃ t,
    exec (.spdmGetMeasurements p 0 false) s = .next t ∧ t.out = [.answer 0x60 0 [7]] ∧ s.keeps t [.fwu, .out]) ∧
  (∀ (s : State) (p r : Nat), s.portUp p = true → s.fwu.paused = false →
    (s.fwu.sessions.filter fun x => x.port == p).length < 4 → s.cry.drbg ≠ .failed → ∃ t,
    exec (.spdmKeyExchange p r) s = .next t ∧ t.fwu.sessions.length = s.fwu.sessions.length + 1 ∧
    (t.fwu.sessions.getLast?.map fun x => (x.port, x.id)) = some (p, s.newSession) ∧
    (t.fwu.sessions.getLast?.map fun x => (x.keyAdmin, x.admin)) = some (decide (s.rolesOf r % 2 = 1),
    decide (s.rolesOf r / 2 % 2 = 1))) ∧
  (∀ (s : State) (p n len : Nat) (ok : Bool) (x : Session), s.portUp p = true → s.fwu.paused = false →
    s.session n = some x → x.port = p → len ≤ 4096 → ∃ t, exec (.securedMessage p n len ok) s = .next t ∧
    t.cry.kvOps = s.cry.kvOps ++ [.decrypt p n ok] ∧ t.out = []) ∧
  (∀ (s : State) (p : Nat), s.portUp p = true → s.fwu.paused = false → s.fwu.pqReady.contains p = true → ∃ t,
    exec (.getPqSignature p) s = .next t ∧ t.out = [.answer 0x7F 0x42 [20]] ∧ t.fwu.pqMaking = s.fwu.pqMaking ++ [p] ∧
    t.fwu.pqReady.contains p = false ∧ s.keeps t [.fwu, .out]) ∧
  (∀ (s : State) (p : Nat), s.portUp p = true → s.fwu.paused = false → s.fwu.pqMaking.contains p = true → ∃ t,
    exec (.respondIfReady p) s = .next t ∧ t.out = [.answer (0x20 + 0x80) 0 [(Config.signature 1 s.freeCtr).toNat]] ∧
    t.fwu.pqMaking = s.fwu.pqMaking.erase p ∧ s.keeps t [.fwu, .freeCtr, .out]) ∧
  (∀ (s : State) (h : Nat), s.portUp h = true → s.fwu.paused = false → ∃ t, exec (.doeDiscovery h 1) s = .next t ∧
    t.out = [.answer 0 0 [0x1E98, 2, 2]] ∧ s.keeps t [.out]) ∧
  (∀ (s : State) (h : Nat), s.portUp h = true → s.fwu.paused = false → ∃ t, exec (.cdatTableAccess h) s = .next t ∧
    t.out = [.answer 2 0 ((s.head h).cdatSeq :: ((List.range 256).filter fun d => decide (0 < (s.dom d).count)).flatMap
      s.dsmas ++ [256])] ∧ s.keeps t [.out])

/-- The sideband ports (R528, R592, R593).
 1. An MCTP message is taken while the firmware runs. 2. During a management pause eight are held, and a ninth is not acknowledged.
 3. The I3C target takes a dynamic address. 4. Addressed, it reports its read length. 5. An unaddressed target does not acknowledge a direct code.
 6. A TAP instruction that drives the balls is in force while the memory is not active. 7. It acts as BYPASS while the memory is active.
 8. EXTEST is left for BYPASS. -/
def Obligations.SidebandPortCommands : Prop :=
  (∀ (s : State) (pldm : Bool) (o : Nat), s.portUp 8 = true → s.fwu.paused = false → ∃ t,
    exec (.mctpMessage pldm o) s = .next t ∧ t.out = [.i3c true [ofBool pldm, o]] ∧ s.keeps t [.out]) ∧
  (∀ (s : State) (pldm : Bool) (o : Nat), s.portUp 8 = true → s.fwu.paused = true → ∃ t,
    exec (.mctpMessage pldm o) s = .next t ∧ (s.fwu.heldMctp < 8 → t.out = [.held] ∧
    t.fwu.heldMctp = s.fwu.heldMctp + 1) ∧ (8 ≤ s.fwu.heldMctp → t.out = [.i3c false []] ∧ t.fwu = s.fwu)) ∧
  (∀ (s : State) (a : Nat), s.pwr.st = .on → s.side.i3cAddr = none → ∃ t, exec (.i3cCcc 0x07 false a) s = .next t ∧
    t.side = { s.side with i3cAddr := some (a % 128), hotJoin := false } ∧ t.out = [.i3c true []] ∧ s.keeps t [.side,
    .out]) ∧
  (∀ (s : State) (a : Nat), s.pwr.st = .on → s.side.i3cAddr ≠ none → ∃ t, exec (.i3cCcc 0x8C true a) s = .next t ∧
    t.out = [.i3c true [s.side.mrl]] ∧ s.keeps t [.out]) ∧
  (∀ (s : State) (a : Nat), s.pwr.st = .on → s.side.i3cAddr = none → ∃ t, exec (.i3cCcc 0x8C true a) s = .next t ∧
    t.out = [.i3c false []] ∧ s.keeps t [.out]) ∧
  (∀ (s : State) (i : JtagInst), holdsBalls i = true → s.host.memActive = false → ∃ t,
    exec (.jtagInstructionLoad i) s = .next t ∧ t.side.jtag = i ∧ t.side.jtagHeld = (s.side.jtagHeld || s.pwr.coreOn) ∧
    s.keeps t [.side, .out]) ∧
  (∀ (s : State) (i : JtagInst), holdsBalls i = true → s.host.memActive = true → s.side.jtagHeld = false → ∃ t,
    exec (.jtagInstructionLoad i) s = .next t ∧ t.side.jtag = .bypass ∧ s.keeps t [.side, .out]) ∧
  (∀ (s : State), holdsBalls s.side.jtag = true → ∃ t, exec (.jtagExtestExit) s = .next t ∧ t.side.jtag = .bypass ∧
    t.side.jtagHeld = false)

/-- Thermal sensing and the energy governor (R468 to R473, R480, R482, R484).
 1. A conversion is kept with its round, and the next channel follows.
 2. The reference channel within 1 % of 600 mV ends the round; the first one raises FIRST_ROUND.
 3. Further off, the round's conversions are discarded, with ADC_REF_FAIL.
 4. A readmitted tile is included, with READMITTED.
 5, 6. CNT_CLR of the two pages clears its fields, and no other register.
 7. A trip latches its tile and drives FAULT_N, with TRIP.
 8. A minute of operation counts in its bin. 9. The history is saved as it stands.
 10. A cap of 128 to 640 W is taken for the next Pick boundary. 11. Another is Invalid Input. 12. The caps are read. -/
def Obligations.ThermalCommands : Prop :=
  (∀ (s : State) (c : Nat) (v : BitVec 16), s.pwr.coreOn = true → s.thm.next = c → c < 95 → ∃ t,
    exec (.hkpConversion v) s = .next t ∧ t.thm.next = c + 1 ∧ t.chan c = (v.toNat, s.fld F.hkpStsRounds)) ∧
  (∀ (s : State) (v : BitVec 16), s.wf = true → s.pwr.coreOn = true → s.thm.next = 95 → offBy v.toNat 600 1 = false → ∃ t,
    exec (.hkpConversion v) s = .next t ∧ t.thm.next = 0 ∧ t.thm.first = true ∧ t.thm.refRow = 0 ∧
    t.fld F.hkpStsRounds = satAdd 32 (s.fld F.hkpStsRounds) 1 ∧ (s.thm.first = false → t.evtSet Ev.thmFirstRound)) ∧
  (∀ (s : State) (v : BitVec 16), s.wf = true → s.pwr.coreOn = true → s.thm.next = 95 → offBy v.toNat 600 1 = true → ∃ t,
    exec (.hkpConversion v) s = .next t ∧ t.thm.next = 0 ∧ t.thm.chan = s.thm.prev ∧ t.thm.refRow = s.thm.refRow + 1 ∧
    t.evtSet Ev.hkpAdcRefFail) ∧
  (∀ (s : State) (h k : Nat), s.wf = true → s.barReady h → k < 64 → s.included k = false → ∃ t,
    exec (.thmReadmit h k) s = .next t ∧ t.included k = true ∧ t.evtSet Ev.thmReadmitted) ∧
  (∀ (s : State) (h : Nat), s.wf = true → s.barReady h → ∃ t, exec (.thmCntClr h) s = .next t ∧
    t.fld F.thmCntThrottlePicks = 0 ∧ t.fld F.thmCntExclusions = 0 ∧ t.fld F.thmCntTrips = s.fld F.thmCntTrips ∧
    s.keepsRegs t [F.thmCntExclusions.off]) ∧
  (∀ (s : State) (h : Nat), s.wf = true → s.barReady h → ∃ t, exec (.hkpCntClr h) s = .next t ∧
    t.fld F.hkpStsRefFails = 0 ∧ t.fld F.hkpStsRounds = s.fld F.hkpStsRounds ∧ s.keepsRegs t [F.hkpStsRefFails.off]) ∧
  (∀ (s : State) (k : Nat), s.wf = true → s.tripArmed = true → s.included k = true → s.pwr.why ≠ .trip → ∃ t,
    exec (.thermalTrip k) s = .next t ∧ t.thm.trip = some k ∧ t.pwr.faultTrip = true ∧ t.evtSet Ev.thmTrip) ∧
  (∀ (s : State), s.pwr.coreOn = true → s.thm.first = true → ∃ t, exec (.tempHistoryMinute) s = .next t ∧
    Tab.get (fun _ => 0) t.thm.hDie (tempBin 30 (signed16 s.hotTile.2)) = satAdd 32 (Tab.get (fun _ => 0) s.thm.hDie
      (tempBin 30 (signed16 s.hotTile.2))) 1 ∧ s.keeps t [.thm, .out]) ∧
  (∀ (s : State), s.pwr.coreOn = true → ∃ t, exec (.tempHistorySave) s = .next t ∧ t.ntn.histDie = s.thm.hDie ∧
    t.ntn.histMedia = s.thm.hMedia ∧ t.ntn.histMax = s.thm.max ∧ s.keeps t [.ntn, .out]) ∧
  (∀ (s : State) (h w : Nat) (save : Bool), s.mboxRwReady h → 128 ≤ w → w ≤ 640 → ∃ t,
    exec (.setMediaPowerCap h w save) s = .next t ∧ t.thm.capNext = some w ∧ t.thm.cap = s.thm.cap ∧
    (t.thm.capSaved = (if save then w else s.thm.capSaved)) ∧ t.out = [.mbox h .success []]) ∧
  (∀ (s : State) (h w : Nat) (save : Bool), s.mboxRwReady h → (w < 128 ∨ 640 < w) → ∃ t,
    exec (.setMediaPowerCap h w save) s = .next t ∧ t.out = [.mbox h .invalidInput []] ∧ s.keeps t [.out]) ∧
  (∀ (s : State) (h : Nat), s.mboxReady h → ∃ t, exec (.getMediaPowerCap h) s = .next t ∧
    t.out = [.mbox h .success [s.thm.cap, s.thm.capSaved, s.thm.mw, s.thm.minSec]] ∧ s.keeps t [.out])

/-- The Notion store (R489, R500, R512), the Label Storage Area (R74) and the performance counters (R566 to R572).
 1. A periodic scrub that finds a corrected word counts and reports it. 2. NTN_CTL.SCRUB_NOW starts a pass. 3. A pass ends, with SCRUB_DONE.
 4. NTN_CTL.CNT_CLR clears NTN_CNT. 5. A byte of the area is read, 6. and written. 7. Past its end it is Invalid Input.
 8. TOP_CTL.PMC_FREEZE takes the value written. 9. A running counter that passes 2^48 - 1 goes on from the remainder, its overflow bit set.
 10. PMC_CTL.CNT_CLR clears every counter of the page. 11. A CPMU configuration with one event bit is taken. 12. One with several is ignored. -/
def Obligations.NotionAndCounterCommands : Prop :=
  (∀ (s : State) (o : Nat), s.wf = true → s.pwr.coreOn = true → s.ntn.scrubbing = false → ∃ t,
    exec (.ntnScrub [o] [] []) s = .next t ∧ t.ntn.scrubbing = true ∧
    t.fld F.ntnCntCorr = satAdd 32 (s.fld F.ntnCntCorr) 1 ∧ t.evtSet Ev.ntnWordCorrected) ∧
  (∀ (s : State) (h : Nat), s.barReady h → ∃ t, exec (.scrubNow h) s = .next t ∧ t.ntn.scrubbing = true ∧ s.keeps t [.ntn,
    .out]) ∧
  (∀ (s : State), s.wf = true → s.pwr.coreOn = true → s.ntn.scrubbing = true → ∃ t, exec (.scrubDone) s = .next t ∧
    t.ntn.scrubbing = false ∧ t.fld F.ntnCntScrubs = satAdd 16 (s.fld F.ntnCntScrubs) 1 ∧ t.evtSet Ev.ntnScrubDone) ∧
  (∀ (s : State) (h : Nat), s.wf = true → s.barReady h → ∃ t, exec (.ntnCntClr h) s = .next t ∧
    t.reg F.ntnCntCorr.off = 0#64 ∧ s.keepsRegs t [F.ntnCntCorr.off]) ∧
  (∀ (s : State) (h a : Nat), s.mboxReady h → a < 262144 → ∃ t, exec (.getLsa h a 1) s = .next t ∧
    t.out = [.mbox h .success [(s.lsaByte a).toNat]] ∧ s.keeps t [.out]) ∧
  (∀ (s : State) (h a v : Nat), Tab.wf (fun _ => 0#64) s.ntn.lsa = true → s.mboxRwReady h → a < 262144 → ∃ t,
    exec (.setLsa h a [v]) s = .next t ∧ t.lsaByte a = BitVec.ofNat 8 v ∧ t.out = [.mbox h .success []] ∧ (∀ b,
    t.lsaByte b = if b = a then BitVec.ofNat 8 v else s.lsaByte b) ∧ s.keeps t [.ntn, .out]) ∧
  (∀ (s : State) (h a len : Nat), s.mboxReady h → 262144 < a + len → ∃ t, exec (.getLsa h a len) s = .next t ∧
    t.out = [.mbox h .invalidInput []] ∧ s.keeps t [.out]) ∧
  (∀ (s : State) (h : Nat) (v : Bool), s.wf = true → s.barReady h → ∃ t, exec (.pmcFreezeWrite h v) s = .next t ∧
    t.fld F.topCtlPmcFreeze = ofBool v ∧ s.keepsRegs t [F.topCtlPmcFreeze.off]) ∧
  (∀ (s : State) (i k n : Nat), s.wf = true → s.pwr.coreOn = true → i < 4 → k < 64 → s.pmcRuns i k = true →
    2 ^ 48 ≤ (s.reg (pmcCntOff i k)).toNat % 2 ^ 48 + n → (k < 63 → getBits (s.reg (pmcCfgOff i (k + 1))) 30 30 = 0) →
    ∃ t, exec (.pmcOverflow i k n) s = .next t ∧
    (t.reg (pmcCntOff i k)).toNat = ((s.reg (pmcCntOff i k)).toNat % 2 ^ 48 + n) % 2 ^ 48 ∧
    (t.reg (pmcOvfOff i)).getLsbD k = true) ∧
  (∀ (s : State) (h i : Nat), s.wf = true → s.barReady h → i < 4 → ∃ t, exec (.pmcCntClr h i) s = .next t ∧
    t.reg (pmcOvfOff i) = 0#64 ∧ t.reg (pmcCntOff i 63) = 0#64 ∧ (∀ k, k < 64 → t.reg (pmcCntOff i k) = 0#64)) ∧
  (∀ (s : State) (h i k g b : Nat) (m : BitVec 32) (en irq : Bool), s.wf = true → s.barReady h → i < 4 → k < 64 →
    onlyBit m = some b → 32 * g + b < 4096 → ∃ t, exec (.cpmuConfigWrite h i k g m en irq) s = .next t ∧
    t.reg (pmcCfgOff i k) = BitVec.ofNat 64 (ofBool en * 2 ^ 31 + ofBool irq * 2 ^ 29 + 2 ^ 28 + (32 * g + b)) ∧
    s.keepsRegs t [pmcCfgOff i k]) ∧
  (∀ (s : State) (h i k g : Nat) (m : BitVec 32) (en irq : Bool), s.barReady h → m ≠ 0#32 → onlyBit m = none → ∃ t,
    exec (.cpmuConfigWrite h i k g m en irq) s = .next t ∧ s.keeps t [.out])

/-- The event recorder (R502 to R508, R513), MSI-X (R562), the CXL event logs (R75), alerts (R511) and health (R509).
 1. The oldest waiting record is written at its slot when it does not fold. 2. A folded count is written back.
 3. EVR_CTL.CNT_CLR clears EVR_CNT. 4. An empty read gives the header. 5. An administrator's session clears the ring, with CLEARED.
 6. Another is refused, with CLEAR_REFUSED. 7. A pending vector is sent. 8. MSI-X control is taken.
 9. Event records are read, 10. and all cleared. 11. The interrupt policy is read, 12. and set. 13. The alert thresholds are set,
 14. and read. 15. Health information is read. -/
def Obligations.EventCommands : Prop :=
  (∀ (s : State) (r : QRec) (rest : List QRec), s.pwr.coreOn = true → s.evt.clearing = false → s.evt.queue = r :: rest →
    s.evt.dropped = 0 → s.folds r = false → r.code ≠ 0x2003 → ∃ t, exec (.eventRecordWrite) s = .next t ∧
    t.evt.queue = rest ∧ t.evt.next = (s.evt.next + 1) % 2 ^ 16 ∧ ((t.ringAt (slotOf s.evt.next)).map fun e => (e.code,
    e.src, e.sev, e.seq)) = some (r.code, r.src, r.sev, s.evt.next) ∧ ((t.ringAt (slotOf s.evt.next)).map fun e => (e.p0,
    e.p1, e.p2)) = some (r.p0, r.p1, r.p2)) ∧
  (∀ (s : State) (q k : Nat) (e : EvRec), s.pwr.coreOn = true → s.evt.newest = some q → s.evt.fold = some k →
    s.ringAt (slotOf q) = some e → ∃ t, exec (.repeatWriteback) s = .next t ∧
    t.ringAt (slotOf q) = some { e with rep := k } ∧ t.evt.fold = none ∧ s.keeps t [.evt, .out]) ∧
  (∀ (s : State) (h : Nat), s.wf = true → s.barReady h → ∃ t, exec (.evrCntClr h) s = .next t ∧
    t.reg F.evrCntWritten.off = 0#64 ∧ s.keepsRegs t [F.evrCntWritten.off]) ∧
  (∀ (s : State) (h first n : Nat), s.mboxReady h → 1 ≤ n → n ≤ 2047 → first < 2 ^ 16 →
    (first + 2 ^ 16 - s.evt.next) % 2 ^ 16 < 2 ^ 15 → ∃ t, exec (.readEventRecorder h first n) s = .next t ∧
    t.out = [.mbox h .success [s.midxWord, s.evt.next, 0, s.ctrVal 0, s.ringCount, 0]] ∧ s.keeps t [.out]) ∧
  (∀ (s : State) (n j v : Nat), s.wf = true → s.fwu.running = true →
    s.fwu.sessions.any (fun x => x.id == n && x.admin) = true → s.bestCell 7 16 = some (j, v) → v + 1 ≤ ctrLimit 7 →
    s.cellGood 7 ((j + 1) % 16) = true → ∃ t, exec (.clearEventRecorder (.spdm n)) s = .next t ∧
    t.out = [.answer 0x90 0 []] ∧ t.evt.ring.length = 1 ∧ t.evt.newest = some s.evt.next ∧ t.ctrVal 7 = v + 1 ∧
    t.evtSet Ev.evrCleared) ∧
  (∀ (s : State) (n : Nat), s.wf = true → s.fwu.running = true →
    s.fwu.sessions.any (fun x => x.id == n && x.admin) = false → ∃ t, exec (.clearEventRecorder (.spdm n)) s = .next t ∧
    t.out = [.answer 0x90 4 []] ∧ t.evt.ring = s.evt.ring ∧ t.evtSet Ev.evrClearRefused) ∧
  (∀ (s : State) (h v : Nat), s.wf = true → s.ioUp h = true → (s.head h).msixOn = true → v < 64 →
    (s.head h).msixPend.getLsbD v = true → (s.head h).msixMask.getLsbD v = false →
    Tab.get (fun _ => none) (s.head h).msixLast v = none → ∃ t, exec (.msixSend h v) s = .next t ∧ t.out = [.msix h v] ∧
    (t.head h).msixPend = (s.head h).msixPend &&& ~~~(1#64 <<< v) ∧
    Tab.get (fun _ => none) (t.head h).msixLast v = some s.time.upNs ∧ s.keeps t [.host, .out]) ∧
  (∀ (s : State) (h : Nat) (en : Bool) (m : BitVec 64), s.wf = true → s.pwr.coreOn = true → s.present h = true →
    (s.head h).perst = false → ∃ t, exec (.msixControlWrite h en m) s = .next t ∧
    (t.head h = { s.head h with msixOn := en, msixMask := m, msixPend := (if en then (s.head h).msixPend else 0#64) }) ∧
    s.keeps t [.host, .out]) ∧
  (∀ (s : State) (h l : Nat), s.mboxReady h → l < 4 → ∃ t, exec (.getEventRecords h l) s = .next t ∧
    t.out = [.mbox h .success ((s.head h).ovf.at l :: ((s.head h).logs.at l).flatMap fun r => [r.handle, r.sev, r.time,
    r.midx, r.data.length] ++ r.data)] ∧ s.keeps t [.out]) ∧
  (∀ (s : State) (h l : Nat), s.wf = true → s.mboxReady h → l < 4 → ∃ t,
    exec (.clearEventRecords h l true []) s = .next t ∧ (t.head h).logs.at l = [] ∧ (t.head h).ovf.at l = 0 ∧
    t.out = [.mbox h .success []] ∧ s.keeps t [.host, .out]) ∧
  (∀ (s : State) (h : Nat), s.mboxReady h → ∃ t, exec (.getEventInterruptPolicy h) s = .next t ∧
    t.out = [.mbox h .success (s.head h).evtPolicy.toList] ∧ s.keeps t [.out]) ∧
  (∀ (s : State) (h a b c d : Nat), s.wf = true → s.mboxReady h → ∃ t,
    exec (.setEventInterruptPolicy h a b c d) s = .next t ∧ t.head h = { s.head h with evtPolicy := ⟨a, b, c, d⟩ } ∧
    t.out = [.mbox h .success []] ∧ s.keeps t [.host, .out]) ∧
  (∀ (s : State) (h : Nat) (en : BitVec 5) (l : List Nat), s.mboxRwReady h → l.length = 5 → ∃ t,
    exec (.setAlertConfiguration h en l) s = .next t ∧ t.ntn.alertEn = en ∧ t.ntn.alerts = l ∧
    t.out = [.mbox h .success []]) ∧
  (∀ (s : State) (h : Nat), s.mboxReady h → ∃ t, exec (.getAlertConfiguration h) s = .next t ∧
    t.out = [.mbox h .success (s.ntn.alertEn.toNat :: s.ntn.alerts)]) ∧
  (∀ (s : State) (h : Nat), s.mboxReady h → ∃ t, exec (.getHealthInfo h) s = .next t ∧
    t.out = [.mbox h .success [s.healthStatus, s.mediaStatus, s.ntn.alertSts, min 100 s.wearMax,
    (s.deviceTemp % 65536).toNat, s.ctrVal 2, s.fld F.fltCnt1Sram, s.fld F.fltCnt0Media]] ∧ s.keeps t [.out])

/-- The queue is first in, first out: a step takes the front command and runs it on the state with the rest of the queue. -/
def Obligations.StepRunsTheFrontCommand : Prop :=
  (∀ (s : State) (c : Instr) (rest : List Instr), s.pending = c :: rest → step s = exec c { s with pending := rest })

/-- What a step does on an empty queue is the model's own choice (notes/assumptions/1.md); what a period of the reference does
 to the time bases is Table 1-10 and R31.
 1. With standby power, DEVTIME gains 40 ns when it is not being slewed, and nothing but the time bases and the outputs changes.
 2. While it is slewed, DEVTIME gains 39, 40 or 41 ns.
 3. With the core on, the slot counter advances: 128 slots make a Pick. With the core off it stands.
 4. Without standby power nothing but the outputs changes. -/
def Obligations.IdleStepIsOneReferencePeriod : Prop :=
  (∀ (s : State), s.pending = [] → s.pwr.stby = true → s.time.slewLeft = 0 → ∃ t, step s = .next t ∧
    t.time.devtime = (s.time.devtime + 40) % 2 ^ 64 ∧ s.keeps t [.time, .out]) ∧
  (∀ (s : State), s.pending = [] → s.pwr.stby = true → 0 < s.time.slewLeft → ∃ t, step s = .next t ∧
    t.time.slewLeft + 1 = s.time.slewLeft ∧
    (t.time.devtime = (s.time.devtime + 39) % 2 ^ 64 ∨ t.time.devtime = (s.time.devtime + 40) % 2 ^ 64 ∨ t.time.devtime =
      (s.time.devtime + 41) % 2 ^ 64)) ∧
  (∀ (s : State), s.pending = [] → s.pwr.stby = true → s.time.slot < 128 → ∃ t, step s = .next t ∧
    t.slotAbs = s.slotAbs + (if s.pwr.coreOn then 1 else 0) ∧ t.time.slot < 128) ∧
  (∀ (s : State), s.pending = [] → s.pwr.stby = false → ∃ t, step s = .next t ∧ s.keeps t [.out])

/-- The spec gives every command an effect, so no command stops the block. -/
def Obligations.EveryCommandGoesOn : Prop :=
  (∀ (c : Instr) (s : State), ∃ t, exec c s = .next t) ∧
  (∀ (n : Nat) (s : State), s.safeFor n)

/-- The frame of all 320 commands: `touches` lists for each the parts of the state that the rules let it change.
 1. Every other part is as before.
 2. No command changes the queue of waiting commands. -/
def Obligations.EveryCommandKeepsItsFrame : Prop :=
  (∀ (c : Instr) (s t : State), exec c s = .next t → s.keeps t (touches c)) ∧
  (∀ (c : Instr) (s t : State), exec c s = .next t → t.pending = s.pending)

/-- The invariant of the model (`State.wf`): register stores, routing table, event ring, heads, Line Map entries, directory, tags,
 stripe groups, key domains, epoch domains, spread counters, warp tables, links and bolts list keys in rising order and
 nothing at its default, so that equal contents are equal data. -/
def Obligations.StepKeepsTablesCanonical : Prop :=
  (∀ (s t : State), s.wf = true → step s = .next t → t.wf = true)

/-- The invariant of `StepKeepsTablesCanonical` holds at reset. -/
def Obligations.ResetIsCanonical : Prop :=
  (State.reset.wf = true)

/-- Reset as the spec states it (Tables 1-10, 13-1, 17-5 and the Reset columns of the register tables): 1. DEVTIME 0 and not valid,
 the sequencer in STANDBY with no rail enabled, Memory_Active 0. 2. Configuration fields at their Reset values. 3. No event
 bit set. -/
def Obligations.ResetValues : Prop :=
  (State.reset.time.devtime = 0 ∧ State.reset.fld F.topTimeValid = 0 ∧ State.reset.pwr.st = .standby ∧
    State.reset.pwr.en = 0#12 ∧ State.reset.pwr.coreOn = false ∧ State.reset.host.memActive = false ∧
    State.reset.fwu.running = false ∧ State.reset.pending = []) ∧
  (State.reset.fld F.pwrVinCfgOnMv = 11400 ∧ State.reset.fld F.pwrVinCfgPfwMv = 11000 ∧
    State.reset.fld F.pwrCfgDnWaitS = 10 ∧ State.reset.fld F.pwrCfgRetries = 2 ∧ State.reset.fld F.thmCfgThrottleC = 95 ∧
    State.reset.fld F.ntnScrubCfgPeriodH = 24 ∧ State.reset.fld F.evrCfgMinSev = 0 ∧
    State.reset.fld F.evrCfgRepeatMs = 1000 ∧ State.reset.fld F.fchDirtyCfgLimitMib = 96 ∧
    State.reset.fld F.fchDirtyCfgCleanPct = 75 ∧ State.reset.fld F.mapCacheCfgDirWays = 4 ∧
    State.reset.fld F.upkWringCfgStop = 80 ∧ State.reset.fld F.upkWringCfgStart = 64 ∧
    State.reset.fld F.upkWringCfgUrgent = 16) ∧
  (∀ (e : Evt), e.inst < e.blk.pages → e.bit < e.blk.eventBits → ¬ State.reset.evtSet e)

/-- Whole-machine rules: a command that changes one of these parts is one of those named (1 the time bases, 2 the population,
 3 the crossing queues, 4 the thermal grid, governor and history, 5 I3C and JTAG, 6 event routing). -/
def Obligations.OnlyTheseCommandsChange : Prop :=
  (∀ (c : Instr) (s t : State), exec c s = .next t → t.time ≠ s.time → c ∈ [.ppsEdge, .ppsLost, .standbyPowerLoss,
    .railSettled, .chatter, .stepTimeout, .seqDnInRise, .cascadeTimeout, .powerFail, .devResetDone] ∨ (∃ x1 x2,
    c = .setTimestamp x1 x2) ∨ (∃ x1, c = .flushDone x1) ∨ (∃ x1, c = .standbyPowerOn x1) ∨ (∃ x1, c = .railLost x1)) ∧
  (∀ (c : Instr) (s t : State), exec c s = .next t → (t.popP ≠ s.popP ∨ t.popD ≠ s.popD) → c ∈ [.sanitizeDone,
    .firstFormatDone] ∨ (∃ x1 x2, c = .trainingStepDone x1 x2)) ∧
  (∀ (c : Instr) (s t : State), exec c s = .next t → t.xq ≠ s.xq → c ∈ [.standbyPowerLoss, .railSettled, .chatter,
    .stepTimeout, .seqDnInRise, .cascadeTimeout, .powerFail] ∨ (∃ x1, c = .hstPerstAssert x1) ∨ (∃ x1,
    c = .headLinkDown x1) ∨ (∃ x1, c = .headConventionalReset x1) ∨ (∃ x1, c = .headHotReset x1) ∨ (∃ x1 x2 x3,
    c = .headDisable x1 x2 x3) ∨ (∃ x1, c = .ideIntegrityFail x1) ∨ (∃ x1 x2 x3, c = .queuePacket x1 x2 x3) ∨ (∃ x1 x2,
    c = .queueReplay x1 x2) ∨ (∃ x1, c = .flushDone x1) ∨ (∃ x1, c = .railLost x1)) ∧
  (∀ (c : Instr) (s t : State), exec c s = .next t → t.thm ≠ s.thm → c ∈ [.pickBoundary, .tempHistoryMinute,
    .standbyPowerLoss, .railSettled, .chatter, .stepTimeout, .seqDnInRise, .cascadeTimeout, .powerFail] ∨ (∃ x1,
    c = .hkpConversion x1) ∨ (∃ x1 x2, c = .thmReadmit x1 x2) ∨ (∃ x1, c = .thermalTrip x1) ∨ (∃ x1 x2 x3,
    c = .setMediaPowerCap x1 x2 x3) ∨ (∃ x1, c = .flushDone x1) ∨ (∃ x1 x2, c = .trainingStepDone x1 x2) ∨ (∃ x1 x2,
    c = .retrainDone x1 x2) ∨ (∃ x1 x2 x3, c = .sidebandResponse x1 x2 x3) ∨ (∃ x1, c = .sidebandTimeout x1) ∨ (∃ x1,
    c = .railLost x1)) ∧
  (∀ (c : Instr) (s t : State), exec c s = .next t → t.side ≠ s.side → c ∈ [.standbyPowerLoss, .railSettled, .chatter,
    .stepTimeout, .seqDnInRise, .cascadeTimeout, .powerFail, .devResetDone, .firmwareRunning, .jtagExtestExit] ∨ (∃ x1,
    c = .flushDone x1) ∨ (∃ x1, c = .railLost x1) ∨ (∃ x1 x2 x3, c = .i3cCcc x1 x2 x3) ∨ (∃ x1,
    c = .jtagInstructionLoad x1)) ∧
  (∀ (c : Instr) (s t : State), exec c s = .next t → t.route ≠ s.route → c ∈ [.standbyPowerLoss, .railSettled, .chatter,
    .stepTimeout, .seqDnInRise, .cascadeTimeout, .powerFail] ∨ (∃ x1 x2 x3 x4, c = .controlBarWrite x1 x2 x3 x4) ∨ (∃ x1,
    c = .flushDone x1) ∨ (∃ x1, c = .railLost x1))

/-- R7, for every way to access the control BAR with a width: a write is discarded, a read returns all ones, and ACCESS_ERR of the
 top block is raised (reason 1 in TOP_ERR_INFO, the offset in TOP_ERR_ADDR). -/
def Obligations.MisalignedAccesses : Prop :=
  (∀ (s : State) (h off width : Nat) (data : BitVec 64), s.wf = true → s.ioUp h = true → (¬ ((width = 4 ∨ width = 8) ∧
    off % width = 0)) → ∃ t, exec (.controlBarWrite h off width data) s = .next t ∧ t.out = [] ∧
    t.evtSet Ev.topAccessErr ∧ t.reg 0x40 = BitVec.ofNat 64 (off % 2 ^ 25) ∧ s.keepsRegs t Ev.topAccessErr.regs ∧
    s.keeps t (.out :: reporting)) ∧
  (∀ (s : State) (h off width : Nat), s.wf = true → s.ioUp h = true → (¬ ((width = 4 ∨ width = 8) ∧ off % width = 0)) →
    ∃ t, exec (.errInfoRead h off width) s = .next t ∧ t.out = [.barData h (BitVec.allOnes 64)] ∧
    t.evtSet Ev.topAccessErr ∧ t.reg 0x40 = BitVec.ofNat 64 (off % 2 ^ 25) ∧ s.keepsRegs t Ev.topAccessErr.regs)

/-- R551.
 1. Outside every listed page and window a write is discarded and raises ACCESS_ERR with reason 3.
 2. There a read returns zero.
 3. Inside a page, where no register is, a write is ignored without an event.
 4. There a read returns zero.
 5. The pages of absent heads read zero, and
 6. discard writes without an event (R38).
 7. A write to a register whose fields are all read-only is ignored. -/
def Obligations.UnoccupiedOffsets : Prop :=
  (∀ (s : State) (h off width : Nat) (data : BitVec 64), s.wf = true → s.barReady h → (width = 4 ∨ width = 8) →
    off % width = 0 → windowAt off = none → pageAt (off / 8 * 8) = none → ∃ t,
    exec (.controlBarWrite h off width data) s = .next t ∧ t.out = [] ∧ t.evtSet Ev.topAccessErr ∧
    getBits (t.reg 0x38) 11 8 = 3 ∧ s.keepsRegs t Ev.topAccessErr.regs) ∧
  (∀ (s : State) (h off : Nat), s.ioUp h = true → off % 8 = 0 → windowAt off = none → pageAt off = none → ∃ t,
    exec (.errInfoRead h off 8) s = .next t ∧ t.out = [.barData h 0#64] ∧ s.keeps t [.out, .freeCtr]) ∧
  (∀ (s : State) (h off width i o : Nat) (b : Block) (data : BitVec 64), s.barReady h → (width = 4 ∨ width = 8) →
    off % width = 0 → windowAt off = none → pageAt (off / 8 * 8) = some (b, i, o) → fieldsAt b i o = none → ¬ (b = .epo ∧
    o = 0x130) → ∃ t, exec (.controlBarWrite h off width data) s = .next t ∧ t.out = [] ∧ s.keeps t [.out]) ∧
  (∀ (s : State) (h off i o : Nat) (b : Block), s.wf = true → s.ioUp h = true → off % 8 = 0 → windowAt off = none →
    pageAt off = some (b, i, o) → fieldsAt b i o = none → o ≠ 0x38 → o ≠ 0x40 → ∃ t,
    exec (.errInfoRead h off 8) s = .next t ∧ t.out = [.barData h (s.view off)] ∧ s.keeps t [.out, .freeCtr]) ∧
  (∀ (s : State) (h i o : Nat), s.ioUp h = true → i < 8 → s.present i = false → o < 0x1000 → o % 8 = 0 → ∃ t,
    exec (.errInfoRead h (0x10000 + i * 0x1000 + o) 8) s = .next t ∧ t.out = [.barData h 0#64] ∧ s.keeps t [.out,
    .freeCtr]) ∧
  (∀ (s : State) (h i o : Nat) (data : BitVec 64), s.barReady h → i < 8 → s.present i = false → o < 0x1000 → o % 8 = 0 →
    ∃ t, exec (.controlBarWrite h (0x10000 + i * 0x1000 + o) 8 data) s = .next t ∧ t.out = [] ∧ s.keeps t [.out]) ∧
  (∀ (s : State) (h off i o : Nat) (b : Block) (fs : List FieldDef) (data : BitVec 64), s.wf = true → s.barReady h →
    off % 8 = 0 → windowAt off = none → pageAt off = some (b, i, o) → ¬ (b = .epo ∧ o = 0x130) → o ≠ 0x28 →
    fieldsAt b i o = some fs → (fs.all fun f => f.acc == .ro || f.acc == .rov) = true → ∃ t,
    exec (.controlBarWrite h off 8 data) s = .next t ∧ t.out = [] ∧ t.reg off = s.reg off ∧ s.keepsRegs t [])

/-- R12: the same value succeeds, another fails with Invalid Input; either leaves everything but the output as it was. -/
def Obligations.AssignedMachineIndex : Prop :=
  (∀ (s : State) (h : Nat) (v : BitVec 32), s.mboxRwReady h → s.fld F.topMidxAssigned = 1 → v.toNat < 2 ^ 18 → ∃ t,
    exec (.setMachineIndex h v) s = .next t ∧
    (t.out = [.mbox h (if s.fld F.topMidxIndex = v.toNat then .success else .invalidInput) []]) ∧ s.keeps t [.out])

/-- R30; a Get Timestamp of any head then answers the value. -/
def Obligations.TimestampTakesEffectAtOnce : Prop :=
  (∀ (s : State) (h : Nat) (ns : BitVec 64), s.wf = true → s.mboxRwReady h → ∃ t, exec (.setTimestamp h ns) s = .next t ∧
    t.time.devtime = ns.toNat ∧ t.fld F.topTimeValid = 1 ∧ (∀ h', t.mboxReady h' → ∃ u,
    exec (.getTimestamp h') t = .next u ∧ u.out = [.mbox h' .success [ns.toNat]]))

/-- R34: the mailbox command of a scheduled activation, the mailbox Prepare and the doorbell Prepare with a deadline (whose result
 is a return code other than Success) leave the firmware and the domain as they were. -/
def Obligations.NoDeadlineWithoutTime : Prop :=
  (∀ (s : State) (h slot deadline : Nat) (pps : Bool) (targets : List Nat), s.mboxRwReady h → s.fld F.topTimeValid = 0 →
    ∃ t, exec (.scheduleFwActivation h slot deadline pps targets) s = .next t ∧
    t.out = [.mbox h .invalidSecurityState []] ∧ s.keeps t [.out]) ∧
  (∀ (s : State) (h d e deadline : Nat) (pps : Bool), s.mboxRwReady h → s.fld F.topTimeValid = 0 → deadline ≠ 0 → ∃ t,
    exec (.epochPrepare h d e deadline pps) s = .next t ∧ (t.out.any fun o => o == .mbox h .success []) = false ∧
    s.keeps t [.out]) ∧
  (∀ (s : State) (h d e : Nat), s.wf = true → s.barReady h → s.epo.dbBusy = false → s.fld F.topTimeValid = 0 →
    s.fld F.epoDbDeadlineDevtime ≠ 0 → ∃ t, exec (.doorbellPrepare h d e) s = .next t ∧ t.epoDom d = s.epoDom d ∧
    t.epo.dbBusy = false ∧ t.epo.dbResult ≠ 0)

/-- R47, for the four requests that carry an address and answer: reads answer poisoned data, writes a Cmp, and nothing of the memory
 changes. PROTOCOL_ERR is raised by the first request of the period and by no later one. -/
def Obligations.MemoryInactive : Prop :=
  (∀ (s : State) (h tag : Nat) (hpa : BitVec 64), s.wf = true → s.memUp h = true → s.host.memActive = false →
    tag ≠ noTag → ∃ t, exec (.memRd h tag hpa) s = .next t ∧ t.out.map Output.carries = [some (0#512, true)] ∧
    t.out.map Output.answers = [some (h, tag)] ∧ (t.head h).inactiveErr = true ∧ ((s.head h).inactiveErr = false →
    t.evtSet (Ev.hstProtocolErr h)) ∧ s.keeps t (.out :: reporting)) ∧
  (∀ (s : State) (h tag : Nat) (hpa : BitVec 64), s.wf = true → s.memUp h = true → s.host.memActive = false →
    tag ≠ noTag → ∃ t, exec (.memRdData h tag hpa) s = .next t ∧ t.out.map Output.carries = [some (0#512, true)] ∧
    t.out.map Output.answers = [some (h, tag)] ∧ (t.head h).inactiveErr = true ∧ ((s.head h).inactiveErr = false →
    t.evtSet (Ev.hstProtocolErr h)) ∧ s.keeps t (.out :: reporting)) ∧
  (∀ (s : State) (h tag : Nat) (hpa : BitVec 64) (data : BitVec 512) (poison : Bool), s.wf = true → s.memUp h = true →
    s.host.memActive = false → tag ≠ noTag → ∃ t, exec (.memWr h tag hpa data poison) s = .next t ∧
    t.out = [.cmp h tag (s.devload h)] ∧ (t.head h).inactiveErr = true ∧ ((s.head h).inactiveErr = false →
    t.evtSet (Ev.hstProtocolErr h)) ∧ s.keeps t (.out :: reporting)) ∧
  (∀ (s : State) (h tag : Nat) (hpa : BitVec 64) (data : BitVec 512) (be : BitVec 64) (poison : Bool), s.wf = true →
    s.memUp h = true → s.host.memActive = false → tag ≠ noTag → ∃ t,
    exec (.memWrPtl h tag hpa data be poison) s = .next t ∧ t.out = [.cmp h tag (s.devload h)] ∧
    (t.head h).inactiveErr = true ∧ ((s.head h).inactiveErr = false → t.evtSet (Ev.hstProtocolErr h)) ∧
    s.keeps t (.out :: reporting))

/-- R51: the DPA of a decoded request has a domain number above 255 or lies past the extent (`State.place?` finds no place). A read
 completes with poison, a write completes and is discarded, OUTSIDE_EXTENT is counted and raised, and HST_ERR_ADDR holds the DPA. -/
def Obligations.OutsideTheExtent : Prop :=
  (∀ (s : State) (h tag : Nat) (hpa : BitVec 64) (d : Decoder), s.wf = true → h < 8 → s.memUp h = true →
    s.host.memActive = true → s.decoderOf h hpa.toNat = some d → s.place? (Req.rd h tag) (d.dpa hpa.toNat) = none →
    tag ≠ noTag → ∃ t, exec (.memRd h tag hpa) s = .next t ∧ t.out.map Output.carries = [some (0#512, true)] ∧
    t.evtSet (Ev.hstOutsideExtent h) ∧
    t.fld (F.hstExterrCntOutsideExtent h) = satAdd 32 (s.fld (F.hstExterrCntOutsideExtent h)) 1 ∧
    t.reg ((Ev.hstOutsideExtent h).stsOff + 0x20) = BitVec.ofNat 64 (d.dpa hpa.toNat) ∧ s.keeps t (.out :: reporting)) ∧
  (∀ (s : State) (h tag : Nat) (hpa : BitVec 64) (data : BitVec 512) (d : Decoder), s.wf = true → h < 8 →
    s.memUp h = true → s.host.memActive = true → s.decoderOf h hpa.toNat = some d →
    s.place? (Req.write h tag data (BitVec.allOnes 64) false) (d.dpa hpa.toNat) = none → tag ≠ noTag → ∃ t,
    exec (.memWr h tag hpa data false) s = .next t ∧ t.out = [.cmp h tag (s.devload h)] ∧
    t.evtSet (Ev.hstOutsideExtent h) ∧
    t.fld (F.hstExterrCntOutsideExtent h) = satAdd 32 (s.fld (F.hstExterrCntOutsideExtent h)) 1 ∧
    t.reg ((Ev.hstOutsideExtent h).stsOff + 0x20) = BitVec.ofNat 64 (d.dpa hpa.toNat) ∧ s.keeps t (.out :: reporting))

/-- R87: entering D3hot changes that head's link state alone; CXL.mem requests through it are turned away with no effect; the return
 to D0 makes the link active again and changes nothing else. -/
def Obligations.PowerStateD3hot : Prop :=
  (∀ (s : State) (h : Nat), s.wf = true → s.pwr.coreOn = true → s.present h = true → (s.head h).link = .active → ∃ t,
    exec (.d3hotEntry h) s = .next t ∧ (t.head h).link = .d3 ∧ (∀ j, j ≠ h → t.head j = s.head j) ∧ s.keeps t [.host,
    .out]) ∧
  (∀ (s : State) (h tag : Nat) (hpa : BitVec 64), (s.head h).link = .d3 → ∃ t, exec (.memRd h tag hpa) s = .next t ∧
    t.out = [.notAccepted] ∧ s.keeps t [.out]) ∧
  (∀ (s : State) (h tag : Nat) (hpa : BitVec 64) (data : BitVec 512) (poison : Bool), (s.head h).link = .d3 → ∃ t,
    exec (.memWr h tag hpa data poison) s = .next t ∧ t.out = [.notAccepted] ∧ s.keeps t [.out]) ∧
  (∀ (s : State) (h : Nat), s.wf = true → s.pwr.coreOn = true → s.present h = true → (s.head h).link = .d3 → ∃ t,
    exec (.d0Return h) s = .next t ∧ (t.head h).link = .active ∧ (∀ j, j ≠ h → t.head j = s.head j) ∧ s.keeps t [.host,
    .out])

/-- R125: the cache, the window and FCH_CTL stay as they are. -/
def Obligations.CacheStaysOnUnderAWindow : Prop :=
  (∀ (s : State) (h : Nat), s.wf = true → s.barReady h → s.swt.st ≠ .none → ∃ t, exec (.fchDisable h) s = .next t ∧
    t.evtSet Ev.fchRefused ∧ t.fld F.fchCtlEnable = s.fld F.fchCtlEnable ∧ s.keeps t (.out :: reporting) ∧
    s.keepsRegs t Ev.fchRefused.regs)

/-- R130, for a request whose domain can be served. -/
def Obligations.WindowClosedWhileItMoves : Prop :=
  (∀ (s : State) (h tag : Nat) (hpa : BitVec 64) (d : Decoder) (q : Req), s.memUp h = true → s.host.memActive = true →
    s.decoderOf h hpa.toNat = some d → s.place? (Req.rd h tag) (d.dpa hpa.toNat) = some q → (s.dom q.dom).st = .active →
    s.inWindowRange q.line = true → (s.swt.st = .carving ∨ s.swt.st = .restoring) → tag ≠ noTag → ∃ t,
    exec (.memRd h tag hpa) s = .next t ∧ t.out.map Output.carries = [some (0#512, true)] ∧ s.keeps t (.out :: reporting)) ∧
  (∀ (s : State) (h tag : Nat) (hpa : BitVec 64) (data : BitVec 512) (d : Decoder) (q : Req), s.memUp h = true →
    s.host.memActive = true → s.decoderOf h hpa.toNat = some d →
    s.place? (Req.write h tag data (BitVec.allOnes 64) false) (d.dpa hpa.toNat) = some q → (s.dom q.dom).st = .active →
    s.inWindowRange q.line = true → (s.swt.st = .carving ∨ s.swt.st = .restoring) → tag ≠ noTag → ∃ t,
    exec (.memWr h tag hpa data false) s = .next t ∧ t.out = [.cmp h tag (s.devload h)] ∧ s.keeps t (.out :: reporting))

/-- R502, about raising any event (an event of the recorder itself has records of its own, R600).
 1. A raised event of enough severity joins the end of a queue that has room, whatever EVT_EN holds.
 2. With 256 records waiting it is counted and not recorded.
 3. An event below MIN_SEV is not recorded.
 4. The oldest record leaves first; once there is room a dropped count is reported by one 0x2003 record and DROPPED is raised. -/
def Obligations.RecorderQueue : Prop :=
  (∀ (s : State) (e : Evt) (info addr : Word), s.fld F.evrCfgMinSev ≤ e.sev → e.ownRecord = false →
    s.evt.queue.length < 256 → ∃ r, (s.raiseAt e info addr).evt.queue = s.evt.queue ++ [r] ∧ r.code = e.bit ∧
    r.src = e.src ∧ r.sev = e.sev) ∧
  (∀ (s : State) (e : Evt) (info addr : Word), s.fld F.evrCfgMinSev ≤ e.sev → e.ownRecord = false →
    256 ≤ s.evt.queue.length → (s.raiseAt e info addr).evt.queue = s.evt.queue ∧
    (s.raiseAt e info addr).evt.dropped = s.evt.dropped + 1) ∧
  (∀ (s : State) (e : Evt) (info addr : Word), e.sev < s.fld F.evrCfgMinSev →
    (s.raiseAt e info addr).evt.queue = s.evt.queue ∧ (s.raiseAt e info addr).evt.dropped = s.evt.dropped) ∧
  (∀ (s : State) (r : QRec) (rest : List QRec), s.wf = true → s.pwr.coreOn = true → s.evt.clearing = false →
    s.evt.queue = r :: rest → rest.length < 256 → s.evt.dropped ≠ 0 → r.code ≠ 0x2003 → ∃ t,
    exec (.eventRecordWrite) s = .next t ∧ t.evt.queue.length = rest.length + 1 ∧ t.evt.queue.take rest.length = rest ∧
    (t.evt.queue.getLast?.map fun q => (q.code, q.p0)) = some (0x2003, s.evt.dropped) ∧ t.evt.dropped = 0 ∧
    t.evtSet Ev.evrDropped)

/-- R560. 1. No event bit of any block has a reserved source. 2. A write to the entry of a reserved source is ignored. 3. A read of it
 returns zero. -/
def Obligations.ReservedSources : Prop :=
  (∀ (e : Evt), e.inst < e.blk.pages → e.bit < e.blk.eventBits → reservedSource e.src = false ∧ e.src < 768) ∧
  (∀ (s : State) (h k : Nat) (data : BitVec 64), s.barReady h → reservedSource k = true → ∃ t,
    exec (.controlBarWrite h (0x110000 + 8 * k) 8 data) s = .next t ∧ t.out = [] ∧ s.keeps t [.out]) ∧
  (∀ (s : State) (h k : Nat), s.ioUp h = true → reservedSource k = true → ∃ t,
    exec (.errInfoRead h (0x110000 + 8 * k) 8) s = .next t ∧ t.out = [.barData h 0#64] ∧ s.keeps t [.out, .freeCtr])

/-- R569. 1. An overflow command adds to no counter that lacks one of the three. 2. A write of 0 to TOP_CTL.PMC_FREEZE starts every
 enabled counter of every unfrozen page at once. 3. A write of 1 stops all. -/
def Obligations.CountersRunAsEnabled : Prop :=
  (∀ (s : State) (i k inc : Nat), ¬ (getBits (s.reg (pmcCfgOff i k)) 31 31 = 1 ∧ s.fld (F.pmcCtlFreeze i) = 0 ∧
    s.fld F.topCtlPmcFreeze = 0) → ∃ t, exec (.pmcOverflow i k inc) s = .next t ∧
    t.reg (pmcCntOff i k) = s.reg (pmcCntOff i k) ∧ s.keeps t [.out]) ∧
  (∀ (s : State) (h : Nat), s.wf = true → s.barReady h → ∃ t, exec (.pmcFreezeWrite h false) s = .next t ∧ (∀ i k, i < 4 →
    k < 64 → (t.pmcRuns i k = true ↔ getBits (s.reg (pmcCfgOff i k)) 31 31 = 1 ∧ s.fld (F.pmcCtlFreeze i) = 0)) ∧
    s.keepsRegs t [0x10]) ∧
  (∀ (s : State) (h : Nat), s.wf = true → s.barReady h → ∃ t, exec (.pmcFreezeWrite h true) s = .next t ∧ (∀ i k,
    t.pmcRuns i k = false) ∧ s.keepsRegs t [0x10])

/-- R570. 1. A counter of a page with USER_READ. 2. Zero for a page without it. 3. Zero from offset 0x800 on. 4. Writes to the view
 are discarded without an event. -/
def Obligations.UserCounterView : Prop :=
  (∀ (s : State) (h i k : Nat), s.ioUp h = true → i < 4 → k < 64 → s.fld (F.pmcCtlUserRead i) = 1 → ∃ t,
    exec (.errInfoRead h (0xC0000 + 8 * (64 * i + k)) 8) s = .next t ∧
    t.out = [.barData h (s.reg (pmcCntOff i k) &&& maskOf 47 0)] ∧ s.keeps t [.out, .freeCtr]) ∧
  (∀ (s : State) (h i k : Nat), s.ioUp h = true → i < 4 → k < 64 → s.fld (F.pmcCtlUserRead i) = 0 → ∃ t,
    exec (.errInfoRead h (0xC0000 + 8 * (64 * i + k)) 8) s = .next t ∧ t.out = [.barData h 0#64] ∧ s.keeps t [.out,
    .freeCtr]) ∧
  (∀ (s : State) (h o : Nat), s.ioUp h = true → 0x800 ≤ o → o < 0x10000 → o % 8 = 0 → ∃ t,
    exec (.errInfoRead h (0xC0000 + o) 8) s = .next t ∧ t.out = [.barData h 0#64] ∧ s.keeps t [.out, .freeCtr]) ∧
  (∀ (s : State) (h o width : Nat) (data : BitVec 64), s.barReady h → (width = 4 ∨ width = 8) → o < 0x10000 →
    o % width = 0 → ∃ t, exec (.controlBarWrite h (0xC0000 + o) width data) s = .next t ∧ t.out = [] ∧ s.keeps t [.out])
end

