-- ==== Sys2Proof/Laws/Tab.lean ====
section
/-!
SUPPORT. The laws of sparse tables: a key that was set reads back what was set, every other key reads as before, and
setting, erasing and filtering keep the canonical form.
-/
namespace Sys2Proof.Machine

theorem Tab.get_erase_other {α : Type} (d : Nat → α) (t : Tab α) (k j : Nat) (h : j ≠ k) :
    Tab.get d (Tab.erase t k) j = Tab.get d t j := by
  induction t with
  | nil => rfl
  | cons p t ih =>
    obtain ⟨i, v⟩ := p
    by_cases hik : i = k
    · subst hik; simp [Tab.erase, Tab.get, Ne.symm h]
    · simp [Tab.erase, Tab.get, hik, ih]

theorem Tab.get_put_same {α : Type} (d : Nat → α) (t : Tab α) (k : Nat) (v : α) :
    Tab.get d (Tab.put t k v) k = v := by
  induction t with
  | nil => simp [Tab.put, Tab.get]
  | cons p t ih =>
    obtain ⟨i, w⟩ := p
    by_cases h1 : k < i
    · simp [Tab.put, Tab.get, h1]
    · by_cases h2 : i = k
      · simp [Tab.put, Tab.get, h1, h2]
      · simp [Tab.put, Tab.get, h1, h2, ih]

theorem Tab.get_put_other {α : Type} (d : Nat → α) (t : Tab α) (k j : Nat) (v : α) (h : j ≠ k) :
    Tab.get d (Tab.put t k v) j = Tab.get d t j := by
  induction t with
  | nil => simp [Tab.put, Tab.get, Ne.symm h]
  | cons p t ih =>
    obtain ⟨i, w⟩ := p
    by_cases h1 : k < i
    · simp [Tab.put, Tab.get, h1, Ne.symm h]
    · by_cases h2 : i = k
      · subst h2; simp [Tab.put, Tab.get, Ne.symm h]
      · simp [Tab.put, Tab.get, h1, h2, ih]

/-- A key that is not above every listed key's lower bound is not listed. -/
theorem Tab.get_of_rises {α : Type} (d : Nat → α) (t : Tab α) (b k : Nat)
    (ht : Tab.risesFrom (some b) t = true) (h : k ≤ b) : Tab.get d t k = d k := by
  induction t generalizing b with
  | nil => rfl
  | cons p t ih =>
    obtain ⟨i, w⟩ := p
    simp only [Tab.risesFrom, Bool.and_eq_true, decide_eq_true_eq] at ht
    have : i ≠ k := by omega
    simp only [Tab.get, this, if_false]
    exact ih i ht.2 (by omega)

theorem Tab.risesFrom_tail {α : Type} (t : Tab α) (j : Nat) (v : α) (b : Option Nat)
    (h : Tab.risesFrom b ((j, v) :: t) = true) : Tab.risesFrom (some j) t = true := by
  cases b with
  | none => simpa [Tab.risesFrom] using h
  | some b => simp [Tab.risesFrom] at h; exact h.2

theorem Tab.get_erase_same {α : Type} (d : Nat → α) (t : Tab α) (k : Nat)
    (b : Option Nat) (h : Tab.risesFrom b t = true) :
    Tab.get d (Tab.erase t k) k = d k := by
  induction t generalizing b with
  | nil => rfl
  | cons p t ih =>
    obtain ⟨i, v⟩ := p
    have ht := Tab.risesFrom_tail t i v b h
    by_cases hik : i = k
    · subst hik
      simp only [Tab.erase, if_true]
      exact Tab.get_of_rises d t i i ht (Nat.le_refl _)
    · simp only [Tab.erase, hik, if_false, Tab.get]
      exact ih (some i) ht

/-- A set key reads back. -/
theorem Tab.get_set_same {α : Type} [DecidableEq α] (d : Nat → α) (t : Tab α) (k : Nat) (v : α)
    (h : Tab.wf d t = true) : Tab.get d (Tab.set d t k v) k = v := by
  have hr : Tab.risesFrom none t = true := by simp [Tab.wf] at h; exact h.1
  by_cases hv : v = d k
  · simp only [Tab.set, hv, if_true]; exact Tab.get_erase_same d t k none hr
  · simp only [Tab.set, hv, if_false]; exact Tab.get_put_same d t k v

/-- Every other key reads as before. -/
theorem Tab.get_set_other {α : Type} [DecidableEq α] (d : Nat → α) (t : Tab α) (k j : Nat) (v : α)
    (h : j ≠ k) : Tab.get d (Tab.set d t k v) j = Tab.get d t j := by
  by_cases hv : v = d k
  · simp only [Tab.set, hv, if_true]; exact Tab.get_erase_other d t k j h
  · simp only [Tab.set, hv, if_false]; exact Tab.get_put_other d t k j v h

theorem Tab.risesFrom_weaken {α : Type} (t : Tab α) (a : Nat) (b : Option Nat)
    (hb : ∀ x, b = some x → x ≤ a) (h : Tab.risesFrom (some a) t = true) :
    Tab.risesFrom b t = true := by
  cases t with
  | nil => cases b <;> rfl
  | cons p t =>
    obtain ⟨i, v⟩ := p
    simp only [Tab.risesFrom, Bool.and_eq_true, decide_eq_true_eq] at h
    cases b with
    | none => simpa [Tab.risesFrom] using h.2
    | some x =>
      have := hb x rfl
      simp only [Tab.risesFrom, Bool.and_eq_true, decide_eq_true_eq]
      exact ⟨by omega, h.2⟩

theorem Tab.risesFrom_cons_iff {α : Type} (t : Tab α) (i : Nat) (v : α) (b : Option Nat) :
    Tab.risesFrom b ((i, v) :: t) = true ↔
      (∀ x, b = some x → x < i) ∧ Tab.risesFrom (some i) t = true := by
  cases b <;> simp [Tab.risesFrom]

theorem Tab.risesFrom_erase {α : Type} (t : Tab α) (k : Nat) (b : Option Nat)
    (h : Tab.risesFrom b t = true) : Tab.risesFrom b (Tab.erase t k) = true := by
  induction t generalizing b with
  | nil => simpa [Tab.erase] using h
  | cons p t ih =>
    obtain ⟨i, v⟩ := p
    rw [Tab.risesFrom_cons_iff] at h
    by_cases hik : i = k
    · simp only [Tab.erase, hik, if_true]
      exact Tab.risesFrom_weaken t i b (fun x hx => Nat.le_of_lt (h.1 x hx)) h.2
    · simp only [Tab.erase, hik, if_false]
      rw [Tab.risesFrom_cons_iff]
      exact ⟨h.1, ih (some i) h.2⟩

theorem Tab.risesFrom_put {α : Type} (t : Tab α) (k : Nat) (v : α) (b : Option Nat)
    (hb : ∀ x, b = some x → x < k) (h : Tab.risesFrom b t = true) :
    Tab.risesFrom b (Tab.put t k v) = true := by
  induction t generalizing b with
  | nil => simp only [Tab.put]; rw [Tab.risesFrom_cons_iff]; exact ⟨hb, rfl⟩
  | cons p t ih =>
    obtain ⟨i, w⟩ := p
    rw [Tab.risesFrom_cons_iff] at h
    by_cases h1 : k < i
    · simp only [Tab.put, h1, if_true]
      rw [Tab.risesFrom_cons_iff, Tab.risesFrom_cons_iff]
      refine ⟨hb, ?_, h.2⟩
      intro x hx; cases hx; exact h1
    · by_cases h2 : i = k
      · subst h2
        simp only [Tab.put, Nat.lt_irrefl, if_false, if_true]
        rw [Tab.risesFrom_cons_iff]
        exact ⟨hb, h.2⟩
      · simp only [Tab.put, h1, h2, if_false]
        rw [Tab.risesFrom_cons_iff]
        refine ⟨h.1, ih (some i) ?_ h.2⟩
        intro x hx; cases hx; omega

theorem Tab.noDefault_erase {α : Type} [DecidableEq α] (d : Nat → α) (t : Tab α) (k : Nat)
    (h : Tab.noDefault d t = true) : Tab.noDefault d (Tab.erase t k) = true := by
  induction t with
  | nil => simpa [Tab.erase] using h
  | cons p t ih =>
    obtain ⟨i, v⟩ := p
    simp only [Tab.noDefault, List.all_cons, Bool.and_eq_true] at h
    by_cases hik : i = k
    · simp only [Tab.erase, hik, if_true]; exact h.2
    · simp only [Tab.erase, hik, if_false, Tab.noDefault, List.all_cons, Bool.and_eq_true]
      exact ⟨h.1, ih h.2⟩

theorem Tab.noDefault_put {α : Type} [DecidableEq α] (d : Nat → α) (t : Tab α) (k : Nat) (v : α)
    (hv : v ≠ d k) (h : Tab.noDefault d t = true) : Tab.noDefault d (Tab.put t k v) = true := by
  induction t with
  | nil => simpa [Tab.put, Tab.noDefault] using hv
  | cons p t ih =>
    obtain ⟨i, w⟩ := p
    have h' := h
    simp only [Tab.noDefault, List.all_cons, Bool.and_eq_true] at h
    by_cases h1 : k < i
    · simp only [Tab.put, h1, if_true]
      simp only [Tab.noDefault, List.all_cons, Bool.and_eq_true]
      exact ⟨by simpa using hv, h.1, h.2⟩
    · by_cases h2 : i = k
      · subst h2
        simp only [Tab.put, Nat.lt_irrefl, if_false, if_true]
        simp only [Tab.noDefault, List.all_cons, Bool.and_eq_true]
        exact ⟨by simpa using hv, h.2⟩
      · simp only [Tab.put, h1, h2, if_false]
        simp only [Tab.noDefault, List.all_cons, Bool.and_eq_true]
        exact ⟨h.1, ih h.2⟩

/-- Setting a key keeps the canonical form. -/
theorem Tab.wf_set {α : Type} [DecidableEq α] (d : Nat → α) (t : Tab α) (k : Nat) (v : α)
    (h : Tab.wf d t = true) : Tab.wf d (Tab.set d t k v) = true := by
  simp only [Tab.wf, Bool.and_eq_true] at h ⊢
  by_cases hv : v = d k
  · simp only [Tab.set, hv, if_true]
    exact ⟨Tab.risesFrom_erase t k none h.1, Tab.noDefault_erase d t k h.2⟩
  · simp only [Tab.set, hv, if_false]
    exact ⟨Tab.risesFrom_put t k v none (by simp) h.1, Tab.noDefault_put d t k v hv h.2⟩

theorem Tab.risesFrom_filter {α : Type} (t : Tab α) (p : Nat × α → Bool) (b : Option Nat)
    (h : Tab.risesFrom b t = true) : Tab.risesFrom b (t.filter p) = true := by
  induction t generalizing b with
  | nil => simpa using h
  | cons q t ih =>
    obtain ⟨i, v⟩ := q
    rw [Tab.risesFrom_cons_iff] at h
    by_cases hp : p (i, v) = true
    · rw [List.filter_cons_of_pos hp, Tab.risesFrom_cons_iff]
      exact ⟨h.1, ih (some i) h.2⟩
    · rw [List.filter_cons_of_neg hp]
      exact Tab.risesFrom_weaken _ i b (fun x hx => Nat.le_of_lt (h.1 x hx)) (ih (some i) h.2)

/-- Filtering keeps the canonical form. -/
theorem Tab.wf_keep {α : Type} [DecidableEq α] (d : Nat → α) (p : Nat → α → Bool) (t : Tab α)
    (h : Tab.wf d t = true) : Tab.wf d (Tab.keep p t) = true := by
  simp only [Tab.wf, Bool.and_eq_true] at h ⊢
  refine ⟨Tab.risesFrom_filter t _ none h.1, ?_⟩
  have h2 := h.2
  simp only [Tab.noDefault, List.all_eq_true] at h2 ⊢
  intro x hx
  exact h2 x (List.mem_of_mem_filter hx)

theorem Tab.risesFrom_map {α : Type} (f : Nat → α → α) (t : Tab α) (b : Option Nat)
    (h : Tab.risesFrom b t = true) :
    Tab.risesFrom b (t.map fun p => (p.1, f p.1 p.2)) = true := by
  induction t generalizing b with
  | nil => simpa using h
  | cons q t ih =>
    obtain ⟨i, v⟩ := q
    rw [Tab.risesFrom_cons_iff] at h
    simp only [List.map_cons]
    rw [Tab.risesFrom_cons_iff]
    exact ⟨h.1, ih (some i) h.2⟩

/-- Mapping over the listed values keeps the canonical form. -/
theorem Tab.wf_mapVals {α : Type} [DecidableEq α] (d : Nat → α) (f : Nat → α → α) (t : Tab α)
    (h : Tab.wf d t = true) : Tab.wf d (Tab.mapVals d f t) = true := by
  simp only [Tab.wf, Bool.and_eq_true] at h ⊢
  refine ⟨Tab.risesFrom_filter _ _ none (Tab.risesFrom_map f t none h.1), ?_⟩
  simp only [Tab.mapVals, Tab.noDefault, List.all_eq_true]
  intro x hx
  exact (List.mem_filter.mp hx).2

end Sys2Proof.Machine
end

