-- ==== Sys2Proof/Laws/Evolves.lean ====
section
/-!
SUPPORT. How a state may change: the relation that every operation of the block keeps. `s.evolves t L` says that from `s`
to `t` only the parts in `L` changed and the tables stayed canonical; the lemmas here carry it through the
forms that meanings are written in.
-/
namespace Sys2Proof.Machine

/-- Every part of the first list is in the second. -/
def subPieces (a b : List Piece) : Bool := a.all fun p => b.contains p

/-- From `s` to `t` only the parts in `L` change, and canonical tables stay canonical. -/
def State.evolves (s t : State) (L : List Piece) : Prop := s.keeps t L ∧ (s.wf = true → t.wf = true)

/-- The same of an operation that answers a state and a value. -/
def State.evP {α : Type} (s : State) (p : State × α) (L : List Piece) : Prop := s.evolves p.1 L

/-- The same of an operation that may not answer. -/
def State.evO (s : State) (o : Option State) (L : List Piece) : Prop := ∀ t, o = some t → s.evolves t L

/-- The same of an operation that may not answer, or answers a state and a value. -/
def State.evOP {α : Type} (s : State) (o : Option (State × α)) (L : List Piece) : Prop := ∀ t, o = some t → s.evolves t.1 L

/-- The same of a meaning. -/
def State.evX (s : State) (o : Host.Outcome State Fault Refusal) (L : List Piece) : Prop := ∀ t, o = .next t → s.evolves t L

theorem Piece.same_refl (p : Piece) (s : State) : p.same s s := by cases p <;> simp [Piece.same]

theorem Piece.same_trans {p : Piece} {s t u : State} (h : p.same s t) (k : p.same t u) : p.same s u := by
  cases p <;> simp only [Piece.same] at * <;> simp_all

theorem mem_of_contains {p : Piece} {L : List Piece} (h : L.contains p = true) : p ∈ L := by simpa using h

variable {α β : Type} {s u v : State} {L M : List Piece}

theorem Tab.wf_nil {α : Type} [DecidableEq α] (d : Nat → α) : Tab.wf d ([] : Tab α) = true := rfl

theorem State.wf_iff (s : State) : s.wf = true ↔ (s.regsWf = true ∧ s.tabsWf = true) := by
  simp only [State.wf, Bool.and_eq_true]

theorem State.tabsWf_iff (s : State) : s.tabsWf = true ↔
    ((((((((s.evt.wf = true ∧ s.host.wf = true) ∧ s.map.wf = true) ∧ s.wp.wf = true) ∧ s.cry.wf = true) ∧ s.epo.wf = true) ∧
      s.ntn.wf = true) ∧ s.warp.wf = true) ∧ s.link.wf = true) ∧ s.upk.wf = true := by
  simp only [State.tabsWf, Bool.and_eq_true]

theorem MapState.wf_iff (x : MapState) : x.wf = true ↔ (Tab.wf (fun _ => Entry.unmapped) x.ent = true ∧
    Tab.wf (fun _ => none) x.dir = true) ∧ Tab.wf (fun _ => 0#64) x.tags = true := by
  simp only [MapState.wf, Bool.and_eq_true]

theorem UpkState.wf_iff (x : UpkState) : x.wf = true ↔ ((Tab.wf (fun _ => Bolt.fresh) x.bolts = true ∧
    Tab.wf (fun _ => UpkGroup.fresh) x.groups = true) ∧ Tab.wf (fun _ => Bolt.fresh) x.img = true) ∧
    shotWf x.shot = true := by
  simp only [UpkState.wf, Bool.and_eq_true]

theorem ev_refl : s.evolves s L := ⟨fun p => .inr (p.same_refl s), id⟩

theorem ev_step (h : s.evolves u L) (k : u.evolves v M) (hs : subPieces M L = true) : s.evolves v L := by
  refine ⟨fun p => ?_, fun w => k.2 (h.2 w)⟩
  rcases h.1 p with h1 | h1
  · exact .inl h1
  · rcases k.1 p with k1 | k1
    · exact .inl (mem_of_contains (List.all_eq_true.mp hs p k1))
    · exact .inr (Piece.same_trans h1 k1)

theorem ev_fst {p : State × α} {t : State} {a : α} (h : s.evP p L) (e : p = (t, a)) : s.evolves t L := by
  subst e; exact h
theorem ev_fst1 {p : State × α} (h : s.evP p L) : s.evolves p.1 L := h
theorem evP_mk {t : State} {a : α} (h : s.evolves t L) : s.evP (t, a) L := h
theorem evP_step {p : State × α} (h : s.evolves u L) (k : u.evP p M) (hs : subPieces M L = true) : s.evP p L :=
  ev_step h k hs
theorem evO_some {t : State} (h : s.evolves t L) : s.evO (some t) L := fun _ e => Option.some.inj e ▸ h
theorem evO_none : s.evO none L := fun _ e => nomatch e
theorem evO_step {p : Option State} (h : s.evolves u L) (k : u.evO p M) (hs : subPieces M L = true) : s.evO p L :=
  fun t e => ev_step h (k t e) hs
theorem evOP_some {t : State × α} (h : s.evP t L) : s.evOP (some t) L := fun _ e => Option.some.inj e ▸ h
theorem evOP_none : s.evOP (none : Option (State × α)) L := fun _ e => nomatch e
theorem evOP_step {p : Option (State × α)} (h : s.evolves u L) (k : u.evOP p M) (hs : subPieces M L = true) : s.evOP p L :=
  fun t e => ev_step h (k t e) hs
theorem ev_opt {p : Option (State × α)} {t : State} {a : α} (h : s.evOP p L) (e : p = some (t, a)) : s.evolves t L := h _ e
theorem ev_optP {p : Option (State × α)} {t : State × α} (h : s.evOP p L) (e : p = some t) : s.evP t L := h _ e
theorem ev_optS {p : Option State} {t : State} (h : s.evO p L) (e : p = some t) : s.evolves t L := h _ e
theorem ev_getD {p : Option State} {t : State} (h : s.evO p L) (k : s.evolves t L) : s.evolves (p.getD t) L := by
  cases p with
  | none => exact k
  | some t => exact h t rfl
theorem ev_getDP {p : Option (State × α)} {t : State × α} (h : s.evOP p L) (k : s.evP t L) : s.evP (p.getD t) L := by
  cases p with
  | none => exact k
  | some t => exact h t rfl
theorem evO_map {p : Option State} {f : State → State} (h : s.evO p L) (k : ∀ t, s.evolves t L → s.evolves (f t) L) :
    s.evO (p.map f) L := by
  cases p with
  | none => exact evO_none
  | some t => exact evO_some (k t (h t rfl))
theorem evOP_mapS {p : Option State} {f : State → State × α} (h : s.evO p L) (k : ∀ t, s.evolves t L → s.evP (f t) L) :
    s.evOP (p.map f) L := by
  cases p with
  | none => exact evOP_none
  | some t => exact evOP_some (k t (h t rfl))
theorem evOP_map {p : Option (State × β)} {f : State × β → State × α} (h : s.evOP p L)
    (k : ∀ t, s.evP t L → s.evP (f t) L) : s.evOP (p.map f) L := by
  cases p with
  | none => exact evOP_none
  | some t => exact evOP_some (k t (h t rfl))
theorem evX_done {t : State} (h : s.evolves t L) : s.evX (done t) L := fun _ e => Host.Outcome.next.inj e ▸ h

theorem ev_ite {c : Prop} [Decidable c] (h : s.evolves u L) (k : s.evolves v L) :
    s.evolves (if c then u else v) L := by split <;> assumption
theorem evP_ite {c : Prop} [Decidable c] {p q : State × α} (h : s.evP p L) (k : s.evP q L) :
    s.evP (if c then p else q) L := by split <;> assumption
theorem evO_ite {c : Prop} [Decidable c] {p q : Option State} (h : s.evO p L) (k : s.evO q L) :
    s.evO (if c then p else q) L := by split <;> assumption
theorem evOP_ite {c : Prop} [Decidable c] {p q : Option (State × α)} (h : s.evOP p L) (k : s.evOP q L) :
    s.evOP (if c then p else q) L := by split <;> assumption
theorem evX_ite {c : Prop} [Decidable c] {p q : Host.Outcome State Fault Refusal} (h : s.evX p L) (k : s.evX q L) :
    s.evX (if c then p else q) L := by split <;> assumption

theorem ev_foldl {f : State → β → State} {l : List β} (h : s.evolves u L)
    (k : ∀ t x, s.evolves t L → s.evolves (f t x) L) : s.evolves (l.foldl f u) L := by
  induction l generalizing u with
  | nil => exact h
  | cons x l ih => exact ih (k u x h)
theorem evP_foldl {f : State × α → β → State × α} {l : List β} {p : State × α} (h : s.evP p L)
    (k : ∀ t x, s.evP t L → s.evP (f t x) L) : s.evP (l.foldl f p) L := by
  induction l generalizing p with
  | nil => exact h
  | cons x l ih => exact ih (k p x h)

/-- An update that leaves the register stores alone. -/
theorem ev_mk (h : s.evolves u L) (h1 : v.regs = u.regs) (h2 : v.pmc = u.pmc) (h3 : v.route = u.route)
    (w : u.tabsWf = true → v.tabsWf = true) (k : ∀ p, p ∈ L ∨ p.same u v) : s.evolves v L := by
  refine ⟨fun p => ?_, fun x => ?_⟩
  · rcases h.1 p with a | a
    · exact .inl a
    · exact (k p).imp id fun b => Piece.same_trans a b
  · have y := (State.wf_iff u).mp (h.2 x)
    refine (State.wf_iff v).mpr ⟨?_, w y.2⟩
    simpa only [State.regsWf, h1, h2, h3] using y.1

theorem ev_upd {pP pD tm ev ho fc sw xq ma wp rd cr ep nt wa li up fl pw th fw si ou fr pe} (h : s.evolves u L)
    (w : u.tabsWf = true → (State.mk u.regs u.pmc u.route pP pD tm ev ho fc sw xq ma wp rd cr ep nt wa li up fl pw th fw si ou fr
      pe).tabsWf = true)
    (k : ∀ p, p ∈ L ∨ p.same u (State.mk u.regs u.pmc u.route pP pD tm ev ho fc sw xq ma wp rd cr ep nt wa li up fl pw th fw si ou fr pe)) :
    s.evolves (State.mk u.regs u.pmc u.route pP pD tm ev ho fc sw xq ma wp rd cr ep nt wa li up fl pw th fw si ou fr pe) L :=
  ev_mk h rfl rfl rfl w k

/-! A part whose tables stay as they are stays canonical. -/

theorem EvtState.wf_upd {x : EvtState} {b0 b1 b3 b4 b5 b6 b7} (w : x.wf = true) :
    (EvtState.mk b0 b1 x.ring b3 b4 b5 b6 b7).wf = true := w
theorem HostState.wf_upd {x : HostState} {b0 b2 b3 b4 b5 b6 b7 b8 b9 b10 b11 b12} (w : x.wf = true) :
    (HostState.mk b0 x.heads b2 b3 b4 b5 b6 b7 b8 b9 b10 b11 b12).wf = true := w
theorem MapState.wf_upd {x : MapState} {b0 b4 b5 b6 b7 b8 b9 b10 b11 b12 b13 b14 b15 b16 b17 b18 b19 b20 b21 b22 b23 b24 b25 b26 b27 b28 b29 b30 b31 b32} (w : x.wf = true) :
    (MapState.mk b0 x.ent x.dir x.tags b4 b5 b6 b7 b8 b9 b10 b11 b12 b13 b14 b15 b16 b17 b18 b19 b20 b21 b22 b23 b24 b25 b26 b27 b28 b29 b30 b31 b32).wf = true := w
theorem WriteState.wf_upd {x : WriteState} {b1 b2 b3 b4 b5} (w : x.wf = true) :
    (WriteState.mk x.groups b1 b2 b3 b4 b5).wf = true := w
theorem CryState.wf_upd {x : CryState} {b1 b2 b3 b4 b5 b6 b7 b8 b9} (w : x.wf = true) :
    (CryState.mk x.doms b1 b2 b3 b4 b5 b6 b7 b8 b9).wf = true := w
theorem EpoState.wf_upd {x : EpoState} {b1 b2 b3 b4 b5 b6} (w : x.wf = true) :
    (EpoState.mk x.doms b1 b2 b3 b4 b5 b6).wf = true := w
theorem NotionState.wf_upd {x : NotionState} {b1 b2 b3 b4 b5 b6 b7 b8 b9 b10 b11} (w : x.wf = true) :
    (NotionState.mk x.cells b1 b2 b3 b4 b5 b6 b7 b8 b9 b10 b11).wf = true := w
theorem WarpState.wf_upd {x : WarpState} {b1 b2 b3 b4 b5 b6} (w : x.wf = true) :
    (WarpState.mk x.sk b1 b2 b3 b4 b5 b6).wf = true := w
theorem LinkSt.wf_upd {x : LinkSt} (w : x.wf = true) :
    (LinkSt.mk x.sk).wf = true := w
theorem UpkState.wf_upd {x : UpkState} {b1 b2 b3 b4 b7 b8 b9 b11 b12 b13 b14 b15 b16} (w : x.wf = true) :
    (UpkState.mk x.bolts b1 b2 b3 b4 x.groups x.img b7 b8 b9 x.shot b11 b12 b13 b14 b15 b16).wf = true := w

/-- An update of several parts. -/
theorem ev_updW {pP pD tm ev ho fc sw xq ma wp rd cr ep nt wa li up fl pw th fw si ou fr pe} (h : s.evolves u L)
    (w0 : u.evt.wf = true → ev.wf = true) (w1 : u.host.wf = true → ho.wf = true) (w2 : u.map.wf = true → ma.wf = true) (w3 : u.wp.wf = true → wp.wf = true) (w4 : u.cry.wf = true → cr.wf = true) (w5 : u.epo.wf = true → ep.wf = true) (w6 : u.ntn.wf = true → nt.wf = true) (w7 : u.warp.wf = true → wa.wf = true) (w8 : u.link.wf = true → li.wf = true) (w9 : u.upk.wf = true → up.wf = true)
    (k : ∀ p, p ∈ L ∨ p.same u (State.mk u.regs u.pmc u.route pP pD tm ev ho fc sw xq ma wp rd cr ep nt wa li up fl pw th fw si ou fr pe)) :
    s.evolves (State.mk u.regs u.pmc u.route pP pD tm ev ho fc sw xq ma wp rd cr ep nt wa li up fl pw th fw si ou fr pe) L :=
  ev_upd h (fun z => (State.tabsWf_iff _).mpr (by have y := (State.tabsWf_iff _).mp z; exact ⟨⟨⟨⟨⟨⟨⟨⟨⟨w0 (y.1.1.1.1.1.1.1.1.1), w1 (y.1.1.1.1.1.1.1.1.2)⟩, w2 (y.1.1.1.1.1.1.1.2)⟩, w3 (y.1.1.1.1.1.1.2)⟩, w4 (y.1.1.1.1.1.2)⟩, w5 (y.1.1.1.1.2)⟩, w6 (y.1.1.1.2)⟩, w7 (y.1.1.2)⟩, w8 (y.1.2)⟩, w9 (y.2)⟩)) k

/-! An update of one part. -/

theorem ev_time {x : _} (h : s.evolves u L) (o : L.contains .time = true) : s.evolves (State.mk u.regs u.pmc u.route u.popP u.popD x u.evt u.host u.fch u.swt u.xq u.map u.wp u.rd u.cry u.epo u.ntn u.warp u.link u.upk u.flt u.pwr u.thm u.fwu u.side u.out u.freeCtr u.pending) L :=
  ev_upd h id fun p => by cases p <;> first | exact .inl (mem_of_contains o) | exact .inr rfl | exact .inr ⟨rfl, rfl⟩
theorem ev_evt {x : EvtState} (h : s.evolves u L) (o : L.contains .evt = true) (hw : u.evt.wf = true → x.wf = true) :
    s.evolves (State.mk u.regs u.pmc u.route u.popP u.popD u.time x u.host u.fch u.swt u.xq u.map u.wp u.rd u.cry u.epo u.ntn u.warp u.link u.upk u.flt u.pwr u.thm u.fwu u.side u.out u.freeCtr u.pending) L :=
  ev_upd h (fun z => (State.tabsWf_iff _).mpr (by have y := (State.tabsWf_iff _).mp z; exact ⟨⟨⟨⟨⟨⟨⟨⟨⟨hw (y.1.1.1.1.1.1.1.1.1), y.1.1.1.1.1.1.1.1.2⟩, y.1.1.1.1.1.1.1.2⟩, y.1.1.1.1.1.1.2⟩, y.1.1.1.1.1.2⟩, y.1.1.1.1.2⟩, y.1.1.1.2⟩, y.1.1.2⟩, y.1.2⟩, y.2⟩))
    fun p => by cases p <;> first | exact .inl (mem_of_contains o) | exact .inr rfl | exact .inr ⟨rfl, rfl⟩
theorem ev_host {x : HostState} (h : s.evolves u L) (o : L.contains .host = true) (hw : u.host.wf = true → x.wf = true) :
    s.evolves (State.mk u.regs u.pmc u.route u.popP u.popD u.time u.evt x u.fch u.swt u.xq u.map u.wp u.rd u.cry u.epo u.ntn u.warp u.link u.upk u.flt u.pwr u.thm u.fwu u.side u.out u.freeCtr u.pending) L :=
  ev_upd h (fun z => (State.tabsWf_iff _).mpr (by have y := (State.tabsWf_iff _).mp z; exact ⟨⟨⟨⟨⟨⟨⟨⟨⟨y.1.1.1.1.1.1.1.1.1, hw (y.1.1.1.1.1.1.1.1.2)⟩, y.1.1.1.1.1.1.1.2⟩, y.1.1.1.1.1.1.2⟩, y.1.1.1.1.1.2⟩, y.1.1.1.1.2⟩, y.1.1.1.2⟩, y.1.1.2⟩, y.1.2⟩, y.2⟩))
    fun p => by cases p <;> first | exact .inl (mem_of_contains o) | exact .inr rfl | exact .inr ⟨rfl, rfl⟩
theorem ev_fch {x : _} (h : s.evolves u L) (o : L.contains .fch = true) : s.evolves (State.mk u.regs u.pmc u.route u.popP u.popD u.time u.evt u.host x u.swt u.xq u.map u.wp u.rd u.cry u.epo u.ntn u.warp u.link u.upk u.flt u.pwr u.thm u.fwu u.side u.out u.freeCtr u.pending) L :=
  ev_upd h id fun p => by cases p <;> first | exact .inl (mem_of_contains o) | exact .inr rfl | exact .inr ⟨rfl, rfl⟩
theorem ev_swt {x : _} (h : s.evolves u L) (o : L.contains .swt = true) : s.evolves (State.mk u.regs u.pmc u.route u.popP u.popD u.time u.evt u.host u.fch x u.xq u.map u.wp u.rd u.cry u.epo u.ntn u.warp u.link u.upk u.flt u.pwr u.thm u.fwu u.side u.out u.freeCtr u.pending) L :=
  ev_upd h id fun p => by cases p <;> first | exact .inl (mem_of_contains o) | exact .inr rfl | exact .inr ⟨rfl, rfl⟩
theorem ev_xq {x : _} (h : s.evolves u L) (o : L.contains .xq = true) : s.evolves (State.mk u.regs u.pmc u.route u.popP u.popD u.time u.evt u.host u.fch u.swt x u.map u.wp u.rd u.cry u.epo u.ntn u.warp u.link u.upk u.flt u.pwr u.thm u.fwu u.side u.out u.freeCtr u.pending) L :=
  ev_upd h id fun p => by cases p <;> first | exact .inl (mem_of_contains o) | exact .inr rfl | exact .inr ⟨rfl, rfl⟩
theorem ev_map {x : MapState} (h : s.evolves u L) (o : L.contains .map = true) (hw : u.map.wf = true → x.wf = true) :
    s.evolves (State.mk u.regs u.pmc u.route u.popP u.popD u.time u.evt u.host u.fch u.swt u.xq x u.wp u.rd u.cry u.epo u.ntn u.warp u.link u.upk u.flt u.pwr u.thm u.fwu u.side u.out u.freeCtr u.pending) L :=
  ev_upd h (fun z => (State.tabsWf_iff _).mpr (by have y := (State.tabsWf_iff _).mp z; exact ⟨⟨⟨⟨⟨⟨⟨⟨⟨y.1.1.1.1.1.1.1.1.1, y.1.1.1.1.1.1.1.1.2⟩, hw (y.1.1.1.1.1.1.1.2)⟩, y.1.1.1.1.1.1.2⟩, y.1.1.1.1.1.2⟩, y.1.1.1.1.2⟩, y.1.1.1.2⟩, y.1.1.2⟩, y.1.2⟩, y.2⟩))
    fun p => by cases p <;> first | exact .inl (mem_of_contains o) | exact .inr rfl | exact .inr ⟨rfl, rfl⟩
theorem ev_wp {x : WriteState} (h : s.evolves u L) (o : L.contains .wp = true) (hw : u.wp.wf = true → x.wf = true) :
    s.evolves (State.mk u.regs u.pmc u.route u.popP u.popD u.time u.evt u.host u.fch u.swt u.xq u.map x u.rd u.cry u.epo u.ntn u.warp u.link u.upk u.flt u.pwr u.thm u.fwu u.side u.out u.freeCtr u.pending) L :=
  ev_upd h (fun z => (State.tabsWf_iff _).mpr (by have y := (State.tabsWf_iff _).mp z; exact ⟨⟨⟨⟨⟨⟨⟨⟨⟨y.1.1.1.1.1.1.1.1.1, y.1.1.1.1.1.1.1.1.2⟩, y.1.1.1.1.1.1.1.2⟩, hw (y.1.1.1.1.1.1.2)⟩, y.1.1.1.1.1.2⟩, y.1.1.1.1.2⟩, y.1.1.1.2⟩, y.1.1.2⟩, y.1.2⟩, y.2⟩))
    fun p => by cases p <;> first | exact .inl (mem_of_contains o) | exact .inr rfl | exact .inr ⟨rfl, rfl⟩
theorem ev_rd {x : _} (h : s.evolves u L) (o : L.contains .rd = true) : s.evolves (State.mk u.regs u.pmc u.route u.popP u.popD u.time u.evt u.host u.fch u.swt u.xq u.map u.wp x u.cry u.epo u.ntn u.warp u.link u.upk u.flt u.pwr u.thm u.fwu u.side u.out u.freeCtr u.pending) L :=
  ev_upd h id fun p => by cases p <;> first | exact .inl (mem_of_contains o) | exact .inr rfl | exact .inr ⟨rfl, rfl⟩
theorem ev_cry {x : CryState} (h : s.evolves u L) (o : L.contains .cry = true) (hw : u.cry.wf = true → x.wf = true) :
    s.evolves (State.mk u.regs u.pmc u.route u.popP u.popD u.time u.evt u.host u.fch u.swt u.xq u.map u.wp u.rd x u.epo u.ntn u.warp u.link u.upk u.flt u.pwr u.thm u.fwu u.side u.out u.freeCtr u.pending) L :=
  ev_upd h (fun z => (State.tabsWf_iff _).mpr (by have y := (State.tabsWf_iff _).mp z; exact ⟨⟨⟨⟨⟨⟨⟨⟨⟨y.1.1.1.1.1.1.1.1.1, y.1.1.1.1.1.1.1.1.2⟩, y.1.1.1.1.1.1.1.2⟩, y.1.1.1.1.1.1.2⟩, hw (y.1.1.1.1.1.2)⟩, y.1.1.1.1.2⟩, y.1.1.1.2⟩, y.1.1.2⟩, y.1.2⟩, y.2⟩))
    fun p => by cases p <;> first | exact .inl (mem_of_contains o) | exact .inr rfl | exact .inr ⟨rfl, rfl⟩
theorem ev_epo {x : EpoState} (h : s.evolves u L) (o : L.contains .epo = true) (hw : u.epo.wf = true → x.wf = true) :
    s.evolves (State.mk u.regs u.pmc u.route u.popP u.popD u.time u.evt u.host u.fch u.swt u.xq u.map u.wp u.rd u.cry x u.ntn u.warp u.link u.upk u.flt u.pwr u.thm u.fwu u.side u.out u.freeCtr u.pending) L :=
  ev_upd h (fun z => (State.tabsWf_iff _).mpr (by have y := (State.tabsWf_iff _).mp z; exact ⟨⟨⟨⟨⟨⟨⟨⟨⟨y.1.1.1.1.1.1.1.1.1, y.1.1.1.1.1.1.1.1.2⟩, y.1.1.1.1.1.1.1.2⟩, y.1.1.1.1.1.1.2⟩, y.1.1.1.1.1.2⟩, hw (y.1.1.1.1.2)⟩, y.1.1.1.2⟩, y.1.1.2⟩, y.1.2⟩, y.2⟩))
    fun p => by cases p <;> first | exact .inl (mem_of_contains o) | exact .inr rfl | exact .inr ⟨rfl, rfl⟩
theorem ev_ntn {x : NotionState} (h : s.evolves u L) (o : L.contains .ntn = true) (hw : u.ntn.wf = true → x.wf = true) :
    s.evolves (State.mk u.regs u.pmc u.route u.popP u.popD u.time u.evt u.host u.fch u.swt u.xq u.map u.wp u.rd u.cry u.epo x u.warp u.link u.upk u.flt u.pwr u.thm u.fwu u.side u.out u.freeCtr u.pending) L :=
  ev_upd h (fun z => (State.tabsWf_iff _).mpr (by have y := (State.tabsWf_iff _).mp z; exact ⟨⟨⟨⟨⟨⟨⟨⟨⟨y.1.1.1.1.1.1.1.1.1, y.1.1.1.1.1.1.1.1.2⟩, y.1.1.1.1.1.1.1.2⟩, y.1.1.1.1.1.1.2⟩, y.1.1.1.1.1.2⟩, y.1.1.1.1.2⟩, hw (y.1.1.1.2)⟩, y.1.1.2⟩, y.1.2⟩, y.2⟩))
    fun p => by cases p <;> first | exact .inl (mem_of_contains o) | exact .inr rfl | exact .inr ⟨rfl, rfl⟩
theorem ev_warp {x : WarpState} (h : s.evolves u L) (o : L.contains .warp = true) (hw : u.warp.wf = true → x.wf = true) :
    s.evolves (State.mk u.regs u.pmc u.route u.popP u.popD u.time u.evt u.host u.fch u.swt u.xq u.map u.wp u.rd u.cry u.epo u.ntn x u.link u.upk u.flt u.pwr u.thm u.fwu u.side u.out u.freeCtr u.pending) L :=
  ev_upd h (fun z => (State.tabsWf_iff _).mpr (by have y := (State.tabsWf_iff _).mp z; exact ⟨⟨⟨⟨⟨⟨⟨⟨⟨y.1.1.1.1.1.1.1.1.1, y.1.1.1.1.1.1.1.1.2⟩, y.1.1.1.1.1.1.1.2⟩, y.1.1.1.1.1.1.2⟩, y.1.1.1.1.1.2⟩, y.1.1.1.1.2⟩, y.1.1.1.2⟩, hw (y.1.1.2)⟩, y.1.2⟩, y.2⟩))
    fun p => by cases p <;> first | exact .inl (mem_of_contains o) | exact .inr rfl | exact .inr ⟨rfl, rfl⟩
theorem ev_link {x : LinkSt} (h : s.evolves u L) (o : L.contains .link = true) (hw : u.link.wf = true → x.wf = true) :
    s.evolves (State.mk u.regs u.pmc u.route u.popP u.popD u.time u.evt u.host u.fch u.swt u.xq u.map u.wp u.rd u.cry u.epo u.ntn u.warp x u.upk u.flt u.pwr u.thm u.fwu u.side u.out u.freeCtr u.pending) L :=
  ev_upd h (fun z => (State.tabsWf_iff _).mpr (by have y := (State.tabsWf_iff _).mp z; exact ⟨⟨⟨⟨⟨⟨⟨⟨⟨y.1.1.1.1.1.1.1.1.1, y.1.1.1.1.1.1.1.1.2⟩, y.1.1.1.1.1.1.1.2⟩, y.1.1.1.1.1.1.2⟩, y.1.1.1.1.1.2⟩, y.1.1.1.1.2⟩, y.1.1.1.2⟩, y.1.1.2⟩, hw (y.1.2)⟩, y.2⟩))
    fun p => by cases p <;> first | exact .inl (mem_of_contains o) | exact .inr rfl | exact .inr ⟨rfl, rfl⟩
theorem ev_upk {x : UpkState} (h : s.evolves u L) (o : L.contains .upk = true) (hw : u.upk.wf = true → x.wf = true) :
    s.evolves (State.mk u.regs u.pmc u.route u.popP u.popD u.time u.evt u.host u.fch u.swt u.xq u.map u.wp u.rd u.cry u.epo u.ntn u.warp u.link x u.flt u.pwr u.thm u.fwu u.side u.out u.freeCtr u.pending) L :=
  ev_upd h (fun z => (State.tabsWf_iff _).mpr (by have y := (State.tabsWf_iff _).mp z; exact ⟨⟨⟨⟨⟨⟨⟨⟨⟨y.1.1.1.1.1.1.1.1.1, y.1.1.1.1.1.1.1.1.2⟩, y.1.1.1.1.1.1.1.2⟩, y.1.1.1.1.1.1.2⟩, y.1.1.1.1.1.2⟩, y.1.1.1.1.2⟩, y.1.1.1.2⟩, y.1.1.2⟩, y.1.2⟩, hw (y.2)⟩))
    fun p => by cases p <;> first | exact .inl (mem_of_contains o) | exact .inr rfl | exact .inr ⟨rfl, rfl⟩
theorem ev_flt {x : _} (h : s.evolves u L) (o : L.contains .flt = true) : s.evolves (State.mk u.regs u.pmc u.route u.popP u.popD u.time u.evt u.host u.fch u.swt u.xq u.map u.wp u.rd u.cry u.epo u.ntn u.warp u.link u.upk x u.pwr u.thm u.fwu u.side u.out u.freeCtr u.pending) L :=
  ev_upd h id fun p => by cases p <;> first | exact .inl (mem_of_contains o) | exact .inr rfl | exact .inr ⟨rfl, rfl⟩
theorem ev_pwr {x : _} (h : s.evolves u L) (o : L.contains .pwr = true) : s.evolves (State.mk u.regs u.pmc u.route u.popP u.popD u.time u.evt u.host u.fch u.swt u.xq u.map u.wp u.rd u.cry u.epo u.ntn u.warp u.link u.upk u.flt x u.thm u.fwu u.side u.out u.freeCtr u.pending) L :=
  ev_upd h id fun p => by cases p <;> first | exact .inl (mem_of_contains o) | exact .inr rfl | exact .inr ⟨rfl, rfl⟩
theorem ev_thm {x : _} (h : s.evolves u L) (o : L.contains .thm = true) : s.evolves (State.mk u.regs u.pmc u.route u.popP u.popD u.time u.evt u.host u.fch u.swt u.xq u.map u.wp u.rd u.cry u.epo u.ntn u.warp u.link u.upk u.flt u.pwr x u.fwu u.side u.out u.freeCtr u.pending) L :=
  ev_upd h id fun p => by cases p <;> first | exact .inl (mem_of_contains o) | exact .inr rfl | exact .inr ⟨rfl, rfl⟩
theorem ev_fwu {x : _} (h : s.evolves u L) (o : L.contains .fwu = true) : s.evolves (State.mk u.regs u.pmc u.route u.popP u.popD u.time u.evt u.host u.fch u.swt u.xq u.map u.wp u.rd u.cry u.epo u.ntn u.warp u.link u.upk u.flt u.pwr u.thm x u.side u.out u.freeCtr u.pending) L :=
  ev_upd h id fun p => by cases p <;> first | exact .inl (mem_of_contains o) | exact .inr rfl | exact .inr ⟨rfl, rfl⟩
theorem ev_side {x : _} (h : s.evolves u L) (o : L.contains .side = true) : s.evolves (State.mk u.regs u.pmc u.route u.popP u.popD u.time u.evt u.host u.fch u.swt u.xq u.map u.wp u.rd u.cry u.epo u.ntn u.warp u.link u.upk u.flt u.pwr u.thm u.fwu x u.out u.freeCtr u.pending) L :=
  ev_upd h id fun p => by cases p <;> first | exact .inl (mem_of_contains o) | exact .inr rfl | exact .inr ⟨rfl, rfl⟩
theorem ev_out {x : _} (h : s.evolves u L) (o : L.contains .out = true) : s.evolves (State.mk u.regs u.pmc u.route u.popP u.popD u.time u.evt u.host u.fch u.swt u.xq u.map u.wp u.rd u.cry u.epo u.ntn u.warp u.link u.upk u.flt u.pwr u.thm u.fwu u.side x u.freeCtr u.pending) L :=
  ev_upd h id fun p => by cases p <;> first | exact .inl (mem_of_contains o) | exact .inr rfl | exact .inr ⟨rfl, rfl⟩
theorem ev_freeCtr {x : _} (h : s.evolves u L) (o : L.contains .freeCtr = true) : s.evolves (State.mk u.regs u.pmc u.route u.popP u.popD u.time u.evt u.host u.fch u.swt u.xq u.map u.wp u.rd u.cry u.epo u.ntn u.warp u.link u.upk u.flt u.pwr u.thm u.fwu u.side u.out x u.pending) L :=
  ev_upd h id fun p => by cases p <;> first | exact .inl (mem_of_contains o) | exact .inr rfl | exact .inr ⟨rfl, rfl⟩

theorem ev_when {k : State → State} {c : Bool} (h : s.evolves u L) (o : L.contains .out = true)
    (hk : ∀ t, s.evolves t L → s.evolves (k t) L) : s.evolves (u.when c k) L := by
  have b : s.evolves u.begin L := by
    refine ev_mk h rfl rfl rfl id fun p => ?_
    by_cases e : p = .out
    · exact .inl (e ▸ mem_of_contains o)
    · right; cases p <;> first | rfl | exact ⟨rfl, rfl⟩ | exact absurd rfl e
  unfold State.when
  exact ev_ite (hk _ b) b

theorem image_wf (x : State) (h : x.upk.wf = true) : shotWf (some x.image) = true := by
  have w := (UpkState.wf_iff _).mp h
  unfold State.image
  simp only [shotWf]
  exact Tab.wf_mapVals _ _ _ w.1.1.1

/-! ### The operations that write the register stores -/

theorem State.regsWf_iff (s : State) : s.regsWf = true ↔
    (Tab.wf regReset s.regs = true ∧ Tab.wf regReset s.pmc = true) ∧ Tab.wf routeReset s.route = true := by
  simp only [State.regsWf, Bool.and_eq_true]

theorem State.setReg_ev (a0 : State) (a1 : Nat) (a2 : Word) : State.evolves a0 (State.setReg a0 a1 a2) [.regs, .pmc] := by
  unfold State.setReg
  split
  · refine ⟨fun p => by cases p <;> first | exact .inl (by decide) | exact .inr rfl | exact .inr ⟨rfl, rfl⟩, fun z => ?_⟩
    refine (State.wf_iff _).mpr ⟨?_, ((State.wf_iff _).mp z).2⟩
    have w := (State.regsWf_iff _).mp ((State.wf_iff _).mp z).1
    rw [State.regsWf_iff]
    exact ⟨⟨w.1.1, Tab.wf_set _ _ _ _ w.1.2⟩, w.2⟩
  · refine ⟨fun p => by cases p <;> first | exact .inl (by decide) | exact .inr rfl | exact .inr ⟨rfl, rfl⟩, fun z => ?_⟩
    refine (State.wf_iff _).mpr ⟨?_, ((State.wf_iff _).mp z).2⟩
    have w := (State.regsWf_iff _).mp ((State.wf_iff _).mp z).1
    rw [State.regsWf_iff]
    exact ⟨⟨Tab.wf_set _ _ _ _ w.1.1, w.1.2⟩, w.2⟩

theorem State.dropRegs_ev (a0 : State) (a1 : Nat → Bool) : State.evolves a0 (State.dropRegs a0 a1) [.regs, .pmc, .route] := by
  refine ⟨fun p => by cases p <;> first | exact .inl (by decide) | exact .inr rfl | exact .inr ⟨rfl, rfl⟩, fun z => ?_⟩
  refine (State.wf_iff _).mpr ⟨?_, ((State.wf_iff _).mp z).2⟩
  have w := (State.regsWf_iff _).mp ((State.wf_iff _).mp z).1
  rw [State.regsWf_iff]
  exact ⟨⟨Tab.wf_keep _ (fun k _ => a1 k) _ w.1.1, Tab.wf_nil _⟩, Tab.wf_nil _⟩

theorem State.writeRouting_ev (a0 : State) (a1 : Nat) (a2 a3 : Word) :
    State.evolves a0 (State.writeRouting a0 a1 a2 a3) [.route] := by
  unfold State.writeRouting
  lift_lets; intro k
  refine ev_ite ev_refl ?_
  refine ⟨fun p => by cases p <;> first | exact .inl (by decide) | exact .inr rfl | exact .inr ⟨rfl, rfl⟩, fun z => ?_⟩
  refine (State.wf_iff _).mpr ⟨?_, ((State.wf_iff _).mp z).2⟩
  have w := (State.regsWf_iff _).mp ((State.wf_iff _).mp z).1
  rw [State.regsWf_iff]
  exact ⟨w.1, Tab.wf_set _ _ _ _ w.2⟩

end Sys2Proof.Machine
end

