-- ==== Sys2Proof/Laws/EvOps.lean ====
section
/-!
SUPPORT. What each operation of Machine/Ops.lean may change: its parts of the state, and that the register stores stay
canonical.
-/
set_option Elab.async false
namespace Sys2Proof.Machine

theorem State.setHead_ev (a0 : State) (a1 : Nat) (a2 : Head) : State.evolves a0 (State.setHead a0 a1 a2) [.host] := by
  unfold State.setHead; extract_lets +onlyGivenNames x1; subst x1
  refine ev_host ?_ rfl (fun w => Tab.wf_set _ _ _ _ w); exact ev_refl

theorem State.pendVector_ev (a0 : State) (a1 : Nat) (a2 : Nat) :
    State.evolves a0 (State.pendVector a0 a1 a2) [.host] := by
  unfold State.pendVector; extract_lets +onlyGivenNames x1; clear_value x1; refine ev_ite ?_ ?_
  · refine ev_step ?_ (State.setHead_ev _ _ _) rfl; exact ev_refl
  · exact ev_refl

theorem State.pendSource_ev (a0 : State) (a1 : Nat) : State.evolves a0 (State.pendSource a0 a1) [.host] := by
  unfold State.pendSource; extract_lets +onlyGivenNames x1; clear_value x1; refine ev_foldl ?_ ?_
  · exact ev_refl
  · intro x2 x3 x4; refine ev_ite ?_ ?_
    · refine ev_step ?_ (State.pendVector_ev _ _ _) rfl; assumption
    · assumption

theorem State.noteSource_ev (a0 : State) (a1 : Bool) (a2 : Evt) :
    State.evolves a0 (State.noteSource a0 a1 a2) [.host] := by
  unfold State.noteSource; refine ev_ite ?_ ?_
  · refine ev_step ?_ (State.pendSource_ev _ _) rfl; exact ev_refl
  · exact ev_refl

theorem State.setEvtBit_ev (a0 : State) (a1 : Evt) :
    State.evolves a0 (State.setEvtBit a0 a1) [.regs, .pmc, .host] := by
  unfold State.setEvtBit; refine ev_step ?_ (State.noteSource_ev _ _ _) rfl
  refine ev_step ?_ (State.setReg_ev _ _ _) rfl; exact ev_refl

theorem State.capture_ev (a0 : State) (a1 : Evt) (a2 : Word) (a3 : Word) :
    State.evolves a0 (State.capture a0 a1 a2 a3) [.regs, .pmc] := by
  unfold State.capture; refine ev_step ?_ (State.setReg_ev _ _ _) rfl; refine ev_step ?_ (State.setReg_ev _ _ _) rfl
  exact ev_refl

theorem State.setFld_ev (a0 : State) (a1 : Fld) (a2 : Nat) :
    State.evolves a0 (State.setFld a0 a1 a2) [.regs, .pmc] := by
  unfold State.setFld; refine ev_step ?_ (State.setReg_ev _ _ _) rfl; exact ev_refl

theorem State.bump_ev (a0 : State) (a1 : Fld) (a2 : Nat) : State.evolves a0 (State.bump a0 a1 a2) [.regs, .pmc] := by
  unfold State.bump; refine ev_step ?_ (State.setFld_ev _ _ _) rfl; exact ev_refl

theorem State.enqueue_ev (a0 : State) (a1 : QRec) : State.evolves a0 (State.enqueue a0 a1) [.regs, .pmc, .evt] := by
  unfold State.enqueue; refine ev_ite ?_ ?_
  · extract_lets +onlyGivenNames x1; subst x1; refine ev_evt ?_ rfl EvtState.wf_upd; exact ev_refl
  · refine ev_step ?_ (State.bump_ev _ _ _) rfl; extract_lets +onlyGivenNames x2; subst x2
    refine ev_evt ?_ rfl EvtState.wf_upd; exact ev_refl

theorem State.recordEvt_ev (a0 : State) (a1 : Evt) (a2 : Nat) (a3 : Nat) (a4 : Nat) :
    State.evolves a0 (State.recordEvt a0 a1 a2 a3 a4) [.regs, .pmc, .evt] := by
  unfold State.recordEvt; refine ev_ite ?_ ?_
  · exact ev_refl
  · refine ev_step ?_ (State.enqueue_ev _ _) rfl; exact ev_refl

theorem State.raiseAt_ev (a0 : State) (a1 : Evt) (a2 : Word) (a3 : Word) :
    State.evolves a0 (State.raiseAt a0 a1 a2 a3) [.regs, .pmc, .evt, .host] := by
  unfold State.raiseAt; extract_lets +onlyGivenNames x1
  have h1 : State.evolves a0 x1 [.regs, .pmc, .evt, .host] := by
    subst x1; refine ev_step ?_ (State.setEvtBit_ev _ _) rfl; refine ev_step ?_ (State.capture_ev _ _ _ _) rfl
    exact ev_refl
  clear_value x1; refine ev_step ?_ (State.recordEvt_ev _ _ _ _ _) rfl; assumption

theorem State.raiseN_ev (a0 : State) (a1 : Evt) (a2 : Nat) (a3 : Nat) :
    State.evolves a0 (State.raiseN a0 a1 a2 a3) [.regs, .pmc, .evt, .host] := by
  unfold State.raiseN; refine ev_step ?_ (State.raiseAt_ev _ _ _ _) rfl; exact ev_refl

theorem State.emit_ev (a0 : State) (a1 : Output) : State.evolves a0 (State.emit a0 a1) [.out] := by
  unfold State.emit; refine ev_out ?_ rfl; exact ev_refl

theorem State.answerMbox_ev (a0 : State) (a1 : Nat) (a2 : Rc) (a3 : List Nat) :
    State.evolves a0 (State.answerMbox a0 a1 a2 a3) [.out] := by
  unfold State.answerMbox; refine ev_step ?_ (State.emit_ev _ _) rfl; exact ev_refl

theorem State.begin_ev (a0 : State) : State.evolves a0 (State.begin a0) [.out] := by
  unfold State.begin; refine ev_out ?_ rfl; exact ev_refl

theorem State.setGroup_ev (a0 : State) (a1 : Nat) (a2 : Group) :
    State.evolves a0 (State.setGroup a0 a1 a2) [.wp] := by
  unfold State.setGroup; extract_lets +onlyGivenNames x1; subst x1
  refine ev_wp ?_ rfl (fun w => Tab.wf_set _ _ _ _ w); exact ev_refl

theorem State.raise_ev (a0 : State) (a1 : Evt) : State.evolves a0 (State.raise a0 a1) [.regs, .pmc, .evt, .host] := by
  unfold State.raise; refine ev_step ?_ (State.raiseAt_ev _ _ _ _) rfl; exact ev_refl

theorem State.pmcOverflowed_ev (a0 : State) (a1 : Nat) (a2 : Nat) :
    State.evolves a0 (State.pmcOverflowed a0 a1 a2) [.regs, .pmc, .evt, .host] := by
  unfold State.pmcOverflowed; extract_lets +onlyGivenNames x1
  have h1 : State.evolves a0 x1 [.regs, .pmc, .evt, .host] := by
    subst x1; refine ev_step ?_ (State.setReg_ev _ _ _) rfl; exact ev_refl
  clear_value x1; extract_lets +onlyGivenNames x2
  have h2 : State.evolves a0 x2 [.regs, .pmc, .evt, .host] := by
    subst x2; refine ev_ite ?_ ?_
    · refine ev_step ?_ (State.raiseN_ev _ _ _ _) rfl; assumption
    · assumption
  clear_value x2; refine ev_ite ?_ ?_
  · refine ev_step ?_ (State.raiseN_ev _ _ _ _) rfl; refine ev_step ?_ (State.setFld_ev _ _ _) rfl; assumption
  · assumption

theorem State.pmcAdd_ev (a0 : Nat) (a1 : State) (a2 : Nat) (a3 : Nat) (a4 : Nat) :
    State.evolves a1 (State.pmcAdd a0 a1 a2 a3 a4) [.regs, .pmc, .evt, .host] := by
  induction a0 generalizing a1 a2 a3 a4
  · unfold State.pmcAdd; exact ev_refl
  · rename_i z1 ih2; unfold State.pmcAdd; extract_lets +onlyGivenNames x1; clear_value x1
    extract_lets +onlyGivenNames x2
    have h2 : State.evolves a1 x2 [.regs, .pmc, .evt, .host] := by
      subst x2; refine ev_step ?_ (State.setReg_ev _ _ _) rfl; exact ev_refl
    clear_value x2; refine ev_ite ?_ ?_
    · assumption
    · extract_lets +onlyGivenNames x3; clear_value x3; extract_lets +onlyGivenNames x4
      have h4 : State.evolves a1 x4 [.regs, .pmc, .evt, .host] := by
        subst x4; refine ev_ite ?_ ?_
        · refine ev_step ?_ (ih2 _ _ _ _) rfl; assumption
        · assumption
      clear_value x4; refine ev_step ?_ (State.pmcOverflowed_ev _ _ _) rfl; assumption

theorem State.count_ev (a0 : State) (a1 : Nat) (a2 : Nat) (a3 : Nat) :
    State.evolves a0 (State.count a0 a1 a2 a3) [.regs, .pmc, .evt, .host] := by
  unfold State.count; refine ev_foldl ?_ ?_
  · exact ev_refl
  · intro x1 x2 x3; extract_lets +onlyGivenNames x4; clear_value x4; extract_lets +onlyGivenNames x5; clear_value x5
    refine ev_ite ?_ ?_
    · refine ev_step ?_ (State.pmcAdd_ev _ _ _ _ _) rfl; assumption
    · assumption

theorem State.setEpoDom_ev (a0 : State) (a1 : Nat) (a2 : EpoDom) :
    State.evolves a0 (State.setEpoDom a0 a1 a2) [.epo] := by
  unfold State.setEpoDom; extract_lets +onlyGivenNames x1; subst x1
  refine ev_epo ?_ rfl (fun w => Tab.wf_set _ _ _ _ w); exact ev_refl

theorem State.setDom_ev (a0 : State) (a1 : Nat) (a2 : Dom) : State.evolves a0 (State.setDom a0 a1 a2) [.cry] := by
  unfold State.setDom; extract_lets +onlyGivenNames x1; subst x1; refine ev_cry ?_ rfl (fun w => Tab.wf_set _ _ _ _ w)
  exact ev_refl

theorem State.accessErr_ev (a0 : State) (a1 : Nat) (a2 : Bool) (a3 : Nat) (a4 : Nat) (a5 : Nat) :
    State.evolves a0 (State.accessErr a0 a1 a2 a3 a4 a5) [.regs, .pmc, .evt, .host] := by
  unfold State.accessErr; refine ev_step ?_ (State.raiseN_ev _ _ _ _) rfl; exact ev_refl

theorem State.setCell_ev (a0 : State) (a1 : Nat) (a2 : Nat) (a3 : Option Nat) :
    State.evolves a0 (State.setCell a0 a1 a2 a3) [.ntn] := by
  unfold State.setCell; extract_lets +onlyGivenNames x1; subst x1
  refine ev_ntn ?_ rfl (fun w => Tab.wf_set _ _ _ _ w); exact ev_refl

theorem State.ctrWrite_ev (a0 : State) (a1 : Nat) (a2 : Nat) :
    State.evP a0 (State.ctrWrite a0 a1 a2) [.regs, .pmc, .evt, .host, .ntn] := by
  unfold State.ctrWrite
  split
  · rename_i y1 y2; refine evP_mk ?_; refine ev_step ?_ (State.raiseN_ev _ _ _ _) rfl; exact ev_refl
  · rename_i y3 y4 y5 y6; extract_lets +onlyGivenNames x7; clear_value x7
    extract_lets +onlyGivenNames x8; clear_value x8; refine evP_ite ?_ ?_
    · refine evP_mk ?_; refine ev_step ?_ (State.setCell_ev _ _ _ _) rfl; exact ev_refl
    · extract_lets +onlyGivenNames x9
      have h9 : State.evolves a0 x9 [.regs, .pmc, .evt, .host, .ntn] := by
        subst x9; refine ev_step ?_ (State.raiseN_ev _ _ _ _) rfl; refine ev_step ?_ (State.setCell_ev _ _ _ _) rfl
        exact ev_refl
      clear_value x9; refine evP_ite ?_ ?_
      · refine evP_mk ?_; refine ev_step ?_ (State.setCell_ev _ _ _ _) rfl; assumption
      · refine evP_mk ?_; refine ev_step ?_ (State.setCell_ev _ _ _ _) rfl; assumption

theorem State.ctrInc_ev (a0 : State) (a1 : Nat) (a2 : Nat) :
    State.evP a0 (State.ctrInc a0 a1 a2) [.regs, .pmc, .evt, .host, .ntn] := by
  unfold State.ctrInc; extract_lets +onlyGivenNames x1; clear_value x1
  extract_lets +onlyGivenNames x2; clear_value x2; extract_lets +onlyGivenNames x3; clear_value x3
  refine evP_ite ?_ ?_
  · refine evP_step ?_ (State.ctrWrite_ev _ _ _) rfl; exact ev_refl
  · split
    · rename_i y4 y5 y6 y7
      split
      · rename_i y8; refine evP_mk ?_; refine ev_fst (p := _) ?_ y7; refine evP_ite ?_ ?_
        · refine evP_mk ?_; exact ev_refl
        · refine evP_step ?_ (State.ctrWrite_ev _ _ _) rfl; exact ev_refl
      · rename_i y9 y10; refine evP_mk ?_; refine ev_step ?_ (State.raiseN_ev _ _ _ _) rfl
        refine ev_fst (p := _) ?_ y7; refine evP_ite ?_ ?_
        · refine evP_mk ?_; exact ev_refl
        · refine evP_step ?_ (State.ctrWrite_ev _ _ _) rfl; exact ev_refl

theorem State.raiseIf_ev (a0 : State) (a1 : Bool) (a2 : Evt) :
    State.evolves a0 (State.raiseIf a0 a1 a2) [.regs, .pmc, .evt, .host] := by
  unfold State.raiseIf; refine ev_ite ?_ ?_
  · refine ev_step ?_ (State.raise_ev _ _) rfl; exact ev_refl
  · exact ev_refl

theorem State.draw_ev (a0 : State) : State.evP a0 (State.draw a0) [.freeCtr] := by
  unfold State.draw; refine evP_mk ?_; refine ev_freeCtr ?_ rfl; exact ev_refl

theorem State.ctrIncField_ev (a0 : State) (a1 : Nat) (a2 : Nat) :
    State.evP a0 (State.ctrIncField a0 a1 a2) [.regs, .pmc, .evt, .host, .ntn] := by
  unfold State.ctrIncField; extract_lets +onlyGivenNames x1; clear_value x1; refine evP_ite ?_ ?_
  · refine evP_mk ?_; refine ev_step ?_ (State.raiseN_ev _ _ _ _) rfl; exact ev_refl
  · refine evP_step ?_ (State.ctrWrite_ev _ _ _) rfl; exact ev_refl

theorem State.force_ev (a0 : State) (a1 : Evt) : State.evolves a0 (State.force a0 a1) [.regs, .pmc, .evt, .host] := by
  unfold State.force; refine ev_step ?_ (State.recordEvt_ev _ _ _ _ _) rfl
  refine ev_step ?_ (State.setEvtBit_ev _ _) rfl; exact ev_refl

theorem State.ctrClear_ev (a0 : State) (a1 : Nat) :
    State.evP a0 (State.ctrClear a0 a1) [.regs, .pmc, .evt, .host, .ntn] := by
  unfold State.ctrClear; extract_lets +onlyGivenNames x1; clear_value x1; refine evP_ite ?_ ?_
  · refine evP_mk ?_; exact ev_refl
  · split
    · rename_i y2 y3 y4; refine evP_mk ?_; refine ev_step ?_ (ev_fst (State.ctrWrite_ev _ _ _) y4) rfl; exact ev_refl
    · rename_i y5 y6 y7 y8 y9; refine evP_mk ?_; refine ev_step ?_ (ev_fst (State.ctrWrite_ev _ _ _) y9) rfl
      exact ev_refl

end Sys2Proof.Machine
end

