-- ==== Sys2Proof/Laws/Regs.lean ====
section
/-!
SUPPORT. The laws of control-BAR registers and fields: what was set reads back, other registers and other fields read as
before, and raising an event sets its bit and touches only its own registers.
-/
namespace Sys2Proof.Machine

/-! ### Bit fields -/

theorem getLsbD_maskOf (hi lo i : Nat) (hl : lo ≤ hi) (hh : hi < 64) (hi64 : i < 64) :
    (maskOf hi lo).getLsbD i = decide (lo ≤ i ∧ i ≤ hi) := by
  simp only [maskOf, BitVec.getLsbD_shiftLeft, BitVec.getLsbD_ofNat, hi64, decide_true, Bool.true_and]
  rw [Nat.testBit_two_pow_sub_one]
  have h3 : i - lo < 64 := by omega
  by_cases h1 : i < lo <;> by_cases h2 : i - lo < hi + 1 - lo <;> simp [h1, h2, h3] <;> omega

theorem getBits_eq_of_bits {v w : Word} {hi lo : Nat} (hl : lo ≤ hi) (hh : hi < 64)
    (h : ∀ i, lo ≤ i → i ≤ hi → v.getLsbD i = w.getLsbD i) : getBits v hi lo = getBits w hi lo := by
  unfold getBits
  congr 2
  ext i hi'
  simp only [← BitVec.getLsbD_eq_getElem, BitVec.getLsbD_and]
  rw [getLsbD_maskOf hi lo i hl hh hi']
  by_cases c : lo ≤ i ∧ i ≤ hi
  · rw [h i c.1 c.2]
  · simp [c]

theorem getLsbD_putBits (w : Word) (hi lo v i : Nat) (hl : lo ≤ hi) (hh : hi < 64) (hi64 : i < 64) :
    (putBits w hi lo v).getLsbD i = if lo ≤ i ∧ i ≤ hi then v.testBit (i - lo) else w.getLsbD i := by
  simp only [putBits, BitVec.getLsbD_or, BitVec.getLsbD_and, BitVec.getLsbD_not, hi64, decide_true, Bool.true_and,
    getLsbD_maskOf hi lo i hl hh hi64, BitVec.getLsbD_shiftLeft, BitVec.getLsbD_ofNat]
  have h3 : i - lo < 64 := by omega
  by_cases c : lo ≤ i ∧ i ≤ hi
  · have : ¬ i < lo := by omega
    simp [c, this, h3]
  · simp [c]

/-- A field that was put reads back. -/
theorem getBits_putBits_same (w : Word) (hi lo v : Nat) (hl : lo ≤ hi) (hh : hi < 64) (hv : v < 2 ^ (hi + 1 - lo)) :
    getBits (putBits w hi lo v) hi lo = v := by
  have e : (putBits w hi lo v &&& maskOf hi lo) >>> lo = BitVec.ofNat 64 v := by
    ext i hi'
    simp only [← BitVec.getLsbD_eq_getElem, BitVec.getLsbD_ushiftRight, BitVec.getLsbD_and, BitVec.getLsbD_ofNat, hi',
      decide_true, Bool.true_and]
    by_cases h64 : lo + i < 64
    · rw [getLsbD_maskOf hi lo _ hl hh h64, getLsbD_putBits w hi lo v _ hl hh h64]
      have h1 : lo + i - lo = i := by omega
      by_cases c : lo + i ≤ hi
      · simp [c, h1]
      · have : v.testBit i = false := Nat.testBit_lt_two_pow (Nat.lt_of_lt_of_le hv (Nat.pow_le_pow_right (by omega) (by omega)))
        simp [c, this]
    · have : v.testBit i = false := Nat.testBit_lt_two_pow (Nat.lt_of_lt_of_le hv (Nat.pow_le_pow_right (by omega) (by omega)))
      simp [this, BitVec.getLsbD_of_ge _ _ (Nat.le_of_not_lt h64)]
  unfold getBits
  rw [e, BitVec.toNat_ofNat, Nat.mod_eq_of_lt]
  exact Nat.lt_of_lt_of_le hv (Nat.pow_le_pow_right (by omega) (by omega))

/-- Another field of the register reads as before. -/
theorem getBits_putBits_other (w : Word) (hi lo v hi' lo' : Nat) (hl : lo ≤ hi) (hh : hi < 64) (hl' : lo' ≤ hi')
    (hh' : hi' < 64) (h : hi' < lo ∨ hi < lo') : getBits (putBits w hi lo v) hi' lo' = getBits w hi' lo' := by
  apply getBits_eq_of_bits hl' hh'
  intro i h1 h2
  rw [getLsbD_putBits w hi lo v i hl hh (by omega)]
  simp only [show ¬ (lo ≤ i ∧ i ≤ hi) by omega, if_false]

/-! ### Registers -/

variable (s : State)

theorem reg_setReg_same (off : Nat) (v : Word) (h : s.wf = true) : (s.setReg off v).reg off = v := by
  have w := (State.regsWf_iff s).mp ((State.wf_iff s).mp h).1
  unfold State.setReg State.reg
  split
  · exact Tab.get_set_same _ _ _ _ w.1.2
  · exact Tab.get_set_same _ _ _ _ w.1.1

theorem reg_setReg_other (off off' : Nat) (v : Word) (h : off' ≠ off) : (s.setReg off v).reg off' = s.reg off' := by
  unfold State.setReg State.reg
  by_cases c : isPmcCounter off = true <;> by_cases c' : isPmcCounter off' = true <;>
    simp only [c, c', if_true, if_false, Bool.false_eq_true] <;> exact Tab.get_set_other _ _ _ _ _ h

theorem wf_setReg (off : Nat) (v : Word) (h : s.wf = true) : (s.setReg off v).wf = true :=
  (State.setReg_ev s off v).2 h

theorem fld_setFld_same (f : Fld) (v : Nat) (h : s.wf = true) (hl : f.lo ≤ f.hi) (hh : f.hi < 64)
    (hv : v < 2 ^ (f.hi + 1 - f.lo)) : (s.setFld f v).fld f = v := by
  unfold State.setFld State.fld
  rw [reg_setReg_same s _ _ h]
  exact getBits_putBits_same _ _ _ _ hl hh hv

theorem fld_setFld_off (f f' : Fld) (v : Nat) (h : f'.off ≠ f.off) : (s.setFld f v).fld f' = s.fld f' := by
  unfold State.setFld State.fld
  rw [reg_setReg_other s _ _ _ h]

theorem fld_setFld_apart (f f' : Fld) (v : Nat) (w : s.wf = true) (h : f'.off = f.off) (hl : f.lo ≤ f.hi)
    (hh : f.hi < 64) (hl' : f'.lo ≤ f'.hi) (hh' : f'.hi < 64) (d : f'.hi < f.lo ∨ f.hi < f'.lo) :
    (s.setFld f v).fld f' = s.fld f' := by
  unfold State.setFld State.fld
  rw [h, reg_setReg_same s _ _ w]
  exact getBits_putBits_other _ _ _ _ _ _ hl hh hl' hh' d

theorem wf_setFld (f : Fld) (v : Nat) (h : s.wf = true) : (s.setFld f v).wf = true := wf_setReg s _ _ h

theorem reg_setFld_other (f : Fld) (v off : Nat) (h : off ≠ f.off) : (s.setFld f v).reg off = s.reg off :=
  reg_setReg_other s _ _ _ h

/-! ### What leaves the register stores alone -/

theorem reg_congr {s t : State} (h1 : t.regs = s.regs) (h2 : t.pmc = s.pmc) (off : Nat) : t.reg off = s.reg off := by
  unfold State.reg; rw [h1, h2]

/-- An operation whose frame holds neither register store leaves every register. -/
theorem reg_evolves {s t : State} {L : List Piece} (h : s.evolves t L) (h1 : L.contains .regs = false)
    (h2 : L.contains .pmc = false) (off : Nat) : t.reg off = s.reg off := by
  have a := (h.1 .regs).resolve_left (by simpa using h1)
  have b := (h.1 .pmc).resolve_left (by simpa using h2)
  exact reg_congr a b off

theorem fld_of_reg {s t : State} {f : Fld} (h : t.reg f.off = s.reg f.off) : t.fld f = s.fld f := by
  unfold State.fld; rw [h]

@[simp] theorem reg_begin (off : Nat) : s.begin.reg off = s.reg off := rfl
@[simp] theorem fld_begin (f : Fld) : s.begin.fld f = s.fld f := rfl
@[simp] theorem wf_begin : s.begin.wf = s.wf := rfl
@[simp] theorem reg_emit (o : Output) (off : Nat) : (s.emit o).reg off = s.reg off := rfl
@[simp] theorem fld_emit (o : Output) (f : Fld) : (s.emit o).fld f = s.fld f := rfl
@[simp] theorem wf_emit (o : Output) : (s.emit o).wf = s.wf := rfl

/-! ### Events -/

theorem reg_noteSource (b : Bool) (e : Evt) (off : Nat) : (s.noteSource b e).reg off = s.reg off :=
  reg_evolves (State.noteSource_ev s b e) rfl rfl off

theorem reg_setEvtBit_other (e : Evt) (off : Nat) (h : off ≠ e.stsOff) : (s.setEvtBit e).reg off = s.reg off := by
  unfold State.setEvtBit
  rw [reg_noteSource, reg_setReg_other _ _ _ _ h]

theorem reg_setEvtBit_same (e : Evt) (w : s.wf = true) :
    (s.setEvtBit e).reg e.stsOff = s.reg e.stsOff ||| (1#64 <<< e.bit) := by
  unfold State.setEvtBit
  rw [reg_noteSource, reg_setReg_same _ _ _ w]

theorem reg_enqueue_other (r : QRec) (off : Nat) (h : off ≠ 0x5130) : (s.enqueue r).reg off = s.reg off := by
  unfold State.enqueue
  split
  · rfl
  · unfold State.bump
    rw [reg_setFld_other _ _ _ _ h]; rfl

theorem reg_recordEvt_other (e : Evt) (a b c off : Nat) (h : off ≠ 0x5130) :
    (s.recordEvt e a b c).reg off = s.reg off := by
  unfold State.recordEvt
  split
  · rfl
  · exact reg_enqueue_other s _ off h

/-- Raising an event touches only EVT_STS, ERR_INFO and ERR_ADDR of its page, and EVR_CNT. -/
theorem reg_raiseAt_other (e : Evt) (i a : Word) (off : Nat) (h : off ∉ e.regs) : (s.raiseAt e i a).reg off = s.reg off := by
  simp only [Evt.regs, List.mem_cons, List.not_mem_nil, or_false, not_or] at h
  unfold State.raiseAt
  dsimp only
  rw [reg_recordEvt_other _ _ _ _ _ _ h.2.2.2, reg_setEvtBit_other _ _ _ h.1]
  unfold State.capture
  rw [reg_setReg_other _ _ _ _ h.2.2.1, reg_setReg_other _ _ _ _ h.2.1]

theorem fld_raiseAt_other (e : Evt) (i a : Word) (f : Fld) (h : f.off ∉ e.regs) : (s.raiseAt e i a).fld f = s.fld f :=
  fld_of_reg (reg_raiseAt_other s e i a f.off h)
theorem fld_raise_other (e : Evt) (f : Fld) (h : f.off ∉ e.regs) : (s.raise e).fld f = s.fld f :=
  fld_raiseAt_other s e _ _ f h
theorem fld_raiseN_other (e : Evt) (i a : Nat) (f : Fld) (h : f.off ∉ e.regs) : (s.raiseN e i a).fld f = s.fld f :=
  fld_raiseAt_other s e _ _ f h
theorem wf_raiseAt (e : Evt) (i a : Word) (h : s.wf = true) : (s.raiseAt e i a).wf = true :=
  (State.raiseAt_ev s e i a).2 h

theorem stsOff_ne_cnt (e : Evt) : e.stsOff ≠ 0x5130 := by
  unfold Evt.stsOff
  intro h
  have : e.blk.base % 0x1000 = 0 := by cases e.blk <;> rfl
  omega

/-- A raised event's bit is set. -/
theorem evtSet_raiseAt (e : Evt) (i a : Word) (w : s.wf = true) (hb : e.bit < 64) : (s.raiseAt e i a).evtSet e := by
  unfold State.evtSet State.raiseAt
  dsimp only
  rw [reg_recordEvt_other _ _ _ _ _ _ (stsOff_ne_cnt e), reg_setEvtBit_same _ _ ((State.capture_ev s e i a).2 w)]
  simp [hb]

theorem evtSet_raise (e : Evt) (w : s.wf = true) (hb : e.bit < 64) : (s.raise e).evtSet e :=
  evtSet_raiseAt s e _ _ w hb
theorem evtSet_raiseN (e : Evt) (i a : Nat) (w : s.wf = true) (hb : e.bit < 64) : (s.raiseN e i a).evtSet e :=
  evtSet_raiseAt s e _ _ w hb

end Sys2Proof.Machine
end

