-- ==== Sys2Proof/Laws/Gates.lean ====
section
/-!
SUPPORT. What the gates of the host interfaces do when they are open: the command's own effect, on the state as the
command finds it.
-/
namespace Sys2Proof.Machine

variable {s : State} {h off : Nat} {k : State → State}

theorem when_true {c : Bool} (hc : c = true) : s.when c k = k s.begin := by simp [State.when, hc]
theorem when_false {c : Bool} (hc : c = false) : s.when c k = s.begin := by simp [State.when, hc]

theorem barWrite_ready (r : s.barReady h) : s.barWrite h off k = k s.begin := by
  have a : s.begin.ioUp h = true := r.1
  have b : s.begin.roMgmt h = false := r.2
  simp [State.barWrite, a, b]

/-- A head with read-only management gets an access error instead (R45). -/
theorem barWrite_ro (r : s.ioUp h = true) (m : s.roMgmt h = true) : s.barWrite h off k = s.begin.accessErr h true 8 off 2 := by
  have a : s.begin.ioUp h = true := r
  have b : s.begin.roMgmt h = true := m
  simp [State.barWrite, a, b]

theorem barRead_ready (r : s.ioUp h = true) : s.barReadGate h k = k s.begin := by
  have a : s.begin.ioUp h = true := r
  simp [State.barReadGate, a]

theorem mailbox_ready (r : s.mboxReady h) : s.mailbox h k = k s.begin := by
  have a : s.begin.ioUp h = true := r.1
  have b : s.begin.fwu.running = true := r.2.1
  have c : s.begin.fwu.paused = false := r.2.2
  simp [State.mailbox, a, b, c]

theorem mailboxRw_ready (r : s.mboxRwReady h) : s.mailboxRw h k = k s.begin := by
  have d : s.begin.roMgmt h = false := r.2
  unfold State.mailboxRw
  rw [mailbox_ready r.1]
  simp [d]

/-! What the operations that reporting uses leave alone, part by part. -/

theorem evolves_get {s t : State} {L : List Piece} (e : s.evolves t L) (p : Piece) (m : L.contains p = false) : p.same s t :=
  (e.1 p).resolve_left (by simpa using m)

end Sys2Proof.Machine
end

