-- ==== Sys2Proof/Laws/State.lean ====
section
/-!
SUPPORT. What each update of State leaves alone, field by field: one lemma for each field and update, true by definition.
-/
namespace Sys2Proof.Machine

variable (s : State)

@[simp] theorem State.begin_regs : (s.begin).regs = s.regs := rfl
@[simp] theorem State.begin_pmc : (s.begin).pmc = s.pmc := rfl
@[simp] theorem State.begin_route : (s.begin).route = s.route := rfl
@[simp] theorem State.begin_popP : (s.begin).popP = s.popP := rfl
@[simp] theorem State.begin_popD : (s.begin).popD = s.popD := rfl
@[simp] theorem State.begin_time : (s.begin).time = s.time := rfl
@[simp] theorem State.begin_evt : (s.begin).evt = s.evt := rfl
@[simp] theorem State.begin_host : (s.begin).host = s.host := rfl
@[simp] theorem State.begin_fch : (s.begin).fch = s.fch := rfl
@[simp] theorem State.begin_swt : (s.begin).swt = s.swt := rfl
@[simp] theorem State.begin_xq : (s.begin).xq = s.xq := rfl
@[simp] theorem State.begin_map : (s.begin).map = s.map := rfl
@[simp] theorem State.begin_wp : (s.begin).wp = s.wp := rfl
@[simp] theorem State.begin_rd : (s.begin).rd = s.rd := rfl
@[simp] theorem State.begin_cry : (s.begin).cry = s.cry := rfl
@[simp] theorem State.begin_epo : (s.begin).epo = s.epo := rfl
@[simp] theorem State.begin_ntn : (s.begin).ntn = s.ntn := rfl
@[simp] theorem State.begin_warp : (s.begin).warp = s.warp := rfl
@[simp] theorem State.begin_link : (s.begin).link = s.link := rfl
@[simp] theorem State.begin_upk : (s.begin).upk = s.upk := rfl
@[simp] theorem State.begin_flt : (s.begin).flt = s.flt := rfl
@[simp] theorem State.begin_pwr : (s.begin).pwr = s.pwr := rfl
@[simp] theorem State.begin_thm : (s.begin).thm = s.thm := rfl
@[simp] theorem State.begin_fwu : (s.begin).fwu = s.fwu := rfl
@[simp] theorem State.begin_side : (s.begin).side = s.side := rfl
@[simp] theorem State.begin_freeCtr : (s.begin).freeCtr = s.freeCtr := rfl
@[simp] theorem State.begin_pending : (s.begin).pending = s.pending := rfl

@[simp] theorem State.emit_regs (o : Output) : (s.emit o).regs = s.regs := rfl
@[simp] theorem State.emit_pmc (o : Output) : (s.emit o).pmc = s.pmc := rfl
@[simp] theorem State.emit_route (o : Output) : (s.emit o).route = s.route := rfl
@[simp] theorem State.emit_popP (o : Output) : (s.emit o).popP = s.popP := rfl
@[simp] theorem State.emit_popD (o : Output) : (s.emit o).popD = s.popD := rfl
@[simp] theorem State.emit_time (o : Output) : (s.emit o).time = s.time := rfl
@[simp] theorem State.emit_evt (o : Output) : (s.emit o).evt = s.evt := rfl
@[simp] theorem State.emit_host (o : Output) : (s.emit o).host = s.host := rfl
@[simp] theorem State.emit_fch (o : Output) : (s.emit o).fch = s.fch := rfl
@[simp] theorem State.emit_swt (o : Output) : (s.emit o).swt = s.swt := rfl
@[simp] theorem State.emit_xq (o : Output) : (s.emit o).xq = s.xq := rfl
@[simp] theorem State.emit_map (o : Output) : (s.emit o).map = s.map := rfl
@[simp] theorem State.emit_wp (o : Output) : (s.emit o).wp = s.wp := rfl
@[simp] theorem State.emit_rd (o : Output) : (s.emit o).rd = s.rd := rfl
@[simp] theorem State.emit_cry (o : Output) : (s.emit o).cry = s.cry := rfl
@[simp] theorem State.emit_epo (o : Output) : (s.emit o).epo = s.epo := rfl
@[simp] theorem State.emit_ntn (o : Output) : (s.emit o).ntn = s.ntn := rfl
@[simp] theorem State.emit_warp (o : Output) : (s.emit o).warp = s.warp := rfl
@[simp] theorem State.emit_link (o : Output) : (s.emit o).link = s.link := rfl
@[simp] theorem State.emit_upk (o : Output) : (s.emit o).upk = s.upk := rfl
@[simp] theorem State.emit_flt (o : Output) : (s.emit o).flt = s.flt := rfl
@[simp] theorem State.emit_pwr (o : Output) : (s.emit o).pwr = s.pwr := rfl
@[simp] theorem State.emit_thm (o : Output) : (s.emit o).thm = s.thm := rfl
@[simp] theorem State.emit_fwu (o : Output) : (s.emit o).fwu = s.fwu := rfl
@[simp] theorem State.emit_side (o : Output) : (s.emit o).side = s.side := rfl
@[simp] theorem State.emit_freeCtr (o : Output) : (s.emit o).freeCtr = s.freeCtr := rfl
@[simp] theorem State.emit_pending (o : Output) : (s.emit o).pending = s.pending := rfl

@[simp] theorem State.setHead_regs (h : Nat) (x : Head) : (s.setHead h x).regs = s.regs := rfl
@[simp] theorem State.setHead_pmc (h : Nat) (x : Head) : (s.setHead h x).pmc = s.pmc := rfl
@[simp] theorem State.setHead_route (h : Nat) (x : Head) : (s.setHead h x).route = s.route := rfl
@[simp] theorem State.setHead_popP (h : Nat) (x : Head) : (s.setHead h x).popP = s.popP := rfl
@[simp] theorem State.setHead_popD (h : Nat) (x : Head) : (s.setHead h x).popD = s.popD := rfl
@[simp] theorem State.setHead_time (h : Nat) (x : Head) : (s.setHead h x).time = s.time := rfl
@[simp] theorem State.setHead_evt (h : Nat) (x : Head) : (s.setHead h x).evt = s.evt := rfl
@[simp] theorem State.setHead_fch (h : Nat) (x : Head) : (s.setHead h x).fch = s.fch := rfl
@[simp] theorem State.setHead_swt (h : Nat) (x : Head) : (s.setHead h x).swt = s.swt := rfl
@[simp] theorem State.setHead_xq (h : Nat) (x : Head) : (s.setHead h x).xq = s.xq := rfl
@[simp] theorem State.setHead_map (h : Nat) (x : Head) : (s.setHead h x).map = s.map := rfl
@[simp] theorem State.setHead_wp (h : Nat) (x : Head) : (s.setHead h x).wp = s.wp := rfl
@[simp] theorem State.setHead_rd (h : Nat) (x : Head) : (s.setHead h x).rd = s.rd := rfl
@[simp] theorem State.setHead_cry (h : Nat) (x : Head) : (s.setHead h x).cry = s.cry := rfl
@[simp] theorem State.setHead_epo (h : Nat) (x : Head) : (s.setHead h x).epo = s.epo := rfl
@[simp] theorem State.setHead_ntn (h : Nat) (x : Head) : (s.setHead h x).ntn = s.ntn := rfl
@[simp] theorem State.setHead_warp (h : Nat) (x : Head) : (s.setHead h x).warp = s.warp := rfl
@[simp] theorem State.setHead_link (h : Nat) (x : Head) : (s.setHead h x).link = s.link := rfl
@[simp] theorem State.setHead_upk (h : Nat) (x : Head) : (s.setHead h x).upk = s.upk := rfl
@[simp] theorem State.setHead_flt (h : Nat) (x : Head) : (s.setHead h x).flt = s.flt := rfl
@[simp] theorem State.setHead_pwr (h : Nat) (x : Head) : (s.setHead h x).pwr = s.pwr := rfl
@[simp] theorem State.setHead_thm (h : Nat) (x : Head) : (s.setHead h x).thm = s.thm := rfl
@[simp] theorem State.setHead_fwu (h : Nat) (x : Head) : (s.setHead h x).fwu = s.fwu := rfl
@[simp] theorem State.setHead_side (h : Nat) (x : Head) : (s.setHead h x).side = s.side := rfl
@[simp] theorem State.setHead_out (h : Nat) (x : Head) : (s.setHead h x).out = s.out := rfl
@[simp] theorem State.setHead_freeCtr (h : Nat) (x : Head) : (s.setHead h x).freeCtr = s.freeCtr := rfl
@[simp] theorem State.setHead_pending (h : Nat) (x : Head) : (s.setHead h x).pending = s.pending := rfl

@[simp] theorem State.setDom_regs (d : Nat) (x : Dom) : (s.setDom d x).regs = s.regs := rfl
@[simp] theorem State.setDom_pmc (d : Nat) (x : Dom) : (s.setDom d x).pmc = s.pmc := rfl
@[simp] theorem State.setDom_route (d : Nat) (x : Dom) : (s.setDom d x).route = s.route := rfl
@[simp] theorem State.setDom_popP (d : Nat) (x : Dom) : (s.setDom d x).popP = s.popP := rfl
@[simp] theorem State.setDom_popD (d : Nat) (x : Dom) : (s.setDom d x).popD = s.popD := rfl
@[simp] theorem State.setDom_time (d : Nat) (x : Dom) : (s.setDom d x).time = s.time := rfl
@[simp] theorem State.setDom_evt (d : Nat) (x : Dom) : (s.setDom d x).evt = s.evt := rfl
@[simp] theorem State.setDom_host (d : Nat) (x : Dom) : (s.setDom d x).host = s.host := rfl
@[simp] theorem State.setDom_fch (d : Nat) (x : Dom) : (s.setDom d x).fch = s.fch := rfl
@[simp] theorem State.setDom_swt (d : Nat) (x : Dom) : (s.setDom d x).swt = s.swt := rfl
@[simp] theorem State.setDom_xq (d : Nat) (x : Dom) : (s.setDom d x).xq = s.xq := rfl
@[simp] theorem State.setDom_map (d : Nat) (x : Dom) : (s.setDom d x).map = s.map := rfl
@[simp] theorem State.setDom_wp (d : Nat) (x : Dom) : (s.setDom d x).wp = s.wp := rfl
@[simp] theorem State.setDom_rd (d : Nat) (x : Dom) : (s.setDom d x).rd = s.rd := rfl
@[simp] theorem State.setDom_epo (d : Nat) (x : Dom) : (s.setDom d x).epo = s.epo := rfl
@[simp] theorem State.setDom_ntn (d : Nat) (x : Dom) : (s.setDom d x).ntn = s.ntn := rfl
@[simp] theorem State.setDom_warp (d : Nat) (x : Dom) : (s.setDom d x).warp = s.warp := rfl
@[simp] theorem State.setDom_link (d : Nat) (x : Dom) : (s.setDom d x).link = s.link := rfl
@[simp] theorem State.setDom_upk (d : Nat) (x : Dom) : (s.setDom d x).upk = s.upk := rfl
@[simp] theorem State.setDom_flt (d : Nat) (x : Dom) : (s.setDom d x).flt = s.flt := rfl
@[simp] theorem State.setDom_pwr (d : Nat) (x : Dom) : (s.setDom d x).pwr = s.pwr := rfl
@[simp] theorem State.setDom_thm (d : Nat) (x : Dom) : (s.setDom d x).thm = s.thm := rfl
@[simp] theorem State.setDom_fwu (d : Nat) (x : Dom) : (s.setDom d x).fwu = s.fwu := rfl
@[simp] theorem State.setDom_side (d : Nat) (x : Dom) : (s.setDom d x).side = s.side := rfl
@[simp] theorem State.setDom_out (d : Nat) (x : Dom) : (s.setDom d x).out = s.out := rfl
@[simp] theorem State.setDom_freeCtr (d : Nat) (x : Dom) : (s.setDom d x).freeCtr = s.freeCtr := rfl
@[simp] theorem State.setDom_pending (d : Nat) (x : Dom) : (s.setDom d x).pending = s.pending := rfl

@[simp] theorem State.setEpoDom_regs (d : Nat) (x : EpoDom) : (s.setEpoDom d x).regs = s.regs := rfl
@[simp] theorem State.setEpoDom_pmc (d : Nat) (x : EpoDom) : (s.setEpoDom d x).pmc = s.pmc := rfl
@[simp] theorem State.setEpoDom_route (d : Nat) (x : EpoDom) : (s.setEpoDom d x).route = s.route := rfl
@[simp] theorem State.setEpoDom_popP (d : Nat) (x : EpoDom) : (s.setEpoDom d x).popP = s.popP := rfl
@[simp] theorem State.setEpoDom_popD (d : Nat) (x : EpoDom) : (s.setEpoDom d x).popD = s.popD := rfl
@[simp] theorem State.setEpoDom_time (d : Nat) (x : EpoDom) : (s.setEpoDom d x).time = s.time := rfl
@[simp] theorem State.setEpoDom_evt (d : Nat) (x : EpoDom) : (s.setEpoDom d x).evt = s.evt := rfl
@[simp] theorem State.setEpoDom_host (d : Nat) (x : EpoDom) : (s.setEpoDom d x).host = s.host := rfl
@[simp] theorem State.setEpoDom_fch (d : Nat) (x : EpoDom) : (s.setEpoDom d x).fch = s.fch := rfl
@[simp] theorem State.setEpoDom_swt (d : Nat) (x : EpoDom) : (s.setEpoDom d x).swt = s.swt := rfl
@[simp] theorem State.setEpoDom_xq (d : Nat) (x : EpoDom) : (s.setEpoDom d x).xq = s.xq := rfl
@[simp] theorem State.setEpoDom_map (d : Nat) (x : EpoDom) : (s.setEpoDom d x).map = s.map := rfl
@[simp] theorem State.setEpoDom_wp (d : Nat) (x : EpoDom) : (s.setEpoDom d x).wp = s.wp := rfl
@[simp] theorem State.setEpoDom_rd (d : Nat) (x : EpoDom) : (s.setEpoDom d x).rd = s.rd := rfl
@[simp] theorem State.setEpoDom_cry (d : Nat) (x : EpoDom) : (s.setEpoDom d x).cry = s.cry := rfl
@[simp] theorem State.setEpoDom_ntn (d : Nat) (x : EpoDom) : (s.setEpoDom d x).ntn = s.ntn := rfl
@[simp] theorem State.setEpoDom_warp (d : Nat) (x : EpoDom) : (s.setEpoDom d x).warp = s.warp := rfl
@[simp] theorem State.setEpoDom_link (d : Nat) (x : EpoDom) : (s.setEpoDom d x).link = s.link := rfl
@[simp] theorem State.setEpoDom_upk (d : Nat) (x : EpoDom) : (s.setEpoDom d x).upk = s.upk := rfl
@[simp] theorem State.setEpoDom_flt (d : Nat) (x : EpoDom) : (s.setEpoDom d x).flt = s.flt := rfl
@[simp] theorem State.setEpoDom_pwr (d : Nat) (x : EpoDom) : (s.setEpoDom d x).pwr = s.pwr := rfl
@[simp] theorem State.setEpoDom_thm (d : Nat) (x : EpoDom) : (s.setEpoDom d x).thm = s.thm := rfl
@[simp] theorem State.setEpoDom_fwu (d : Nat) (x : EpoDom) : (s.setEpoDom d x).fwu = s.fwu := rfl
@[simp] theorem State.setEpoDom_side (d : Nat) (x : EpoDom) : (s.setEpoDom d x).side = s.side := rfl
@[simp] theorem State.setEpoDom_out (d : Nat) (x : EpoDom) : (s.setEpoDom d x).out = s.out := rfl
@[simp] theorem State.setEpoDom_freeCtr (d : Nat) (x : EpoDom) : (s.setEpoDom d x).freeCtr = s.freeCtr := rfl
@[simp] theorem State.setEpoDom_pending (d : Nat) (x : EpoDom) : (s.setEpoDom d x).pending = s.pending := rfl

@[simp] theorem State.setGroup_regs (g : Nat) (x : Group) : (s.setGroup g x).regs = s.regs := rfl
@[simp] theorem State.setGroup_pmc (g : Nat) (x : Group) : (s.setGroup g x).pmc = s.pmc := rfl
@[simp] theorem State.setGroup_route (g : Nat) (x : Group) : (s.setGroup g x).route = s.route := rfl
@[simp] theorem State.setGroup_popP (g : Nat) (x : Group) : (s.setGroup g x).popP = s.popP := rfl
@[simp] theorem State.setGroup_popD (g : Nat) (x : Group) : (s.setGroup g x).popD = s.popD := rfl
@[simp] theorem State.setGroup_time (g : Nat) (x : Group) : (s.setGroup g x).time = s.time := rfl
@[simp] theorem State.setGroup_evt (g : Nat) (x : Group) : (s.setGroup g x).evt = s.evt := rfl
@[simp] theorem State.setGroup_host (g : Nat) (x : Group) : (s.setGroup g x).host = s.host := rfl
@[simp] theorem State.setGroup_fch (g : Nat) (x : Group) : (s.setGroup g x).fch = s.fch := rfl
@[simp] theorem State.setGroup_swt (g : Nat) (x : Group) : (s.setGroup g x).swt = s.swt := rfl
@[simp] theorem State.setGroup_xq (g : Nat) (x : Group) : (s.setGroup g x).xq = s.xq := rfl
@[simp] theorem State.setGroup_map (g : Nat) (x : Group) : (s.setGroup g x).map = s.map := rfl
@[simp] theorem State.setGroup_rd (g : Nat) (x : Group) : (s.setGroup g x).rd = s.rd := rfl
@[simp] theorem State.setGroup_cry (g : Nat) (x : Group) : (s.setGroup g x).cry = s.cry := rfl
@[simp] theorem State.setGroup_epo (g : Nat) (x : Group) : (s.setGroup g x).epo = s.epo := rfl
@[simp] theorem State.setGroup_ntn (g : Nat) (x : Group) : (s.setGroup g x).ntn = s.ntn := rfl
@[simp] theorem State.setGroup_warp (g : Nat) (x : Group) : (s.setGroup g x).warp = s.warp := rfl
@[simp] theorem State.setGroup_link (g : Nat) (x : Group) : (s.setGroup g x).link = s.link := rfl
@[simp] theorem State.setGroup_upk (g : Nat) (x : Group) : (s.setGroup g x).upk = s.upk := rfl
@[simp] theorem State.setGroup_flt (g : Nat) (x : Group) : (s.setGroup g x).flt = s.flt := rfl
@[simp] theorem State.setGroup_pwr (g : Nat) (x : Group) : (s.setGroup g x).pwr = s.pwr := rfl
@[simp] theorem State.setGroup_thm (g : Nat) (x : Group) : (s.setGroup g x).thm = s.thm := rfl
@[simp] theorem State.setGroup_fwu (g : Nat) (x : Group) : (s.setGroup g x).fwu = s.fwu := rfl
@[simp] theorem State.setGroup_side (g : Nat) (x : Group) : (s.setGroup g x).side = s.side := rfl
@[simp] theorem State.setGroup_out (g : Nat) (x : Group) : (s.setGroup g x).out = s.out := rfl
@[simp] theorem State.setGroup_freeCtr (g : Nat) (x : Group) : (s.setGroup g x).freeCtr = s.freeCtr := rfl
@[simp] theorem State.setGroup_pending (g : Nat) (x : Group) : (s.setGroup g x).pending = s.pending := rfl

@[simp] theorem State.setCell_regs (c j : Nat) (v : Option Nat) : (s.setCell c j v).regs = s.regs := rfl
@[simp] theorem State.setCell_pmc (c j : Nat) (v : Option Nat) : (s.setCell c j v).pmc = s.pmc := rfl
@[simp] theorem State.setCell_route (c j : Nat) (v : Option Nat) : (s.setCell c j v).route = s.route := rfl
@[simp] theorem State.setCell_popP (c j : Nat) (v : Option Nat) : (s.setCell c j v).popP = s.popP := rfl
@[simp] theorem State.setCell_popD (c j : Nat) (v : Option Nat) : (s.setCell c j v).popD = s.popD := rfl
@[simp] theorem State.setCell_time (c j : Nat) (v : Option Nat) : (s.setCell c j v).time = s.time := rfl
@[simp] theorem State.setCell_evt (c j : Nat) (v : Option Nat) : (s.setCell c j v).evt = s.evt := rfl
@[simp] theorem State.setCell_host (c j : Nat) (v : Option Nat) : (s.setCell c j v).host = s.host := rfl
@[simp] theorem State.setCell_fch (c j : Nat) (v : Option Nat) : (s.setCell c j v).fch = s.fch := rfl
@[simp] theorem State.setCell_swt (c j : Nat) (v : Option Nat) : (s.setCell c j v).swt = s.swt := rfl
@[simp] theorem State.setCell_xq (c j : Nat) (v : Option Nat) : (s.setCell c j v).xq = s.xq := rfl
@[simp] theorem State.setCell_map (c j : Nat) (v : Option Nat) : (s.setCell c j v).map = s.map := rfl
@[simp] theorem State.setCell_wp (c j : Nat) (v : Option Nat) : (s.setCell c j v).wp = s.wp := rfl
@[simp] theorem State.setCell_rd (c j : Nat) (v : Option Nat) : (s.setCell c j v).rd = s.rd := rfl
@[simp] theorem State.setCell_cry (c j : Nat) (v : Option Nat) : (s.setCell c j v).cry = s.cry := rfl
@[simp] theorem State.setCell_epo (c j : Nat) (v : Option Nat) : (s.setCell c j v).epo = s.epo := rfl
@[simp] theorem State.setCell_warp (c j : Nat) (v : Option Nat) : (s.setCell c j v).warp = s.warp := rfl
@[simp] theorem State.setCell_link (c j : Nat) (v : Option Nat) : (s.setCell c j v).link = s.link := rfl
@[simp] theorem State.setCell_upk (c j : Nat) (v : Option Nat) : (s.setCell c j v).upk = s.upk := rfl
@[simp] theorem State.setCell_flt (c j : Nat) (v : Option Nat) : (s.setCell c j v).flt = s.flt := rfl
@[simp] theorem State.setCell_pwr (c j : Nat) (v : Option Nat) : (s.setCell c j v).pwr = s.pwr := rfl
@[simp] theorem State.setCell_thm (c j : Nat) (v : Option Nat) : (s.setCell c j v).thm = s.thm := rfl
@[simp] theorem State.setCell_fwu (c j : Nat) (v : Option Nat) : (s.setCell c j v).fwu = s.fwu := rfl
@[simp] theorem State.setCell_side (c j : Nat) (v : Option Nat) : (s.setCell c j v).side = s.side := rfl
@[simp] theorem State.setCell_out (c j : Nat) (v : Option Nat) : (s.setCell c j v).out = s.out := rfl
@[simp] theorem State.setCell_freeCtr (c j : Nat) (v : Option Nat) : (s.setCell c j v).freeCtr = s.freeCtr := rfl
@[simp] theorem State.setCell_pending (c j : Nat) (v : Option Nat) : (s.setCell c j v).pending = s.pending := rfl

@[simp] theorem State.answerMbox_regs (h : Nat) (rc : Rc) (l : List Nat) : (s.answerMbox h rc l).regs = s.regs := rfl
@[simp] theorem State.answerMbox_pmc (h : Nat) (rc : Rc) (l : List Nat) : (s.answerMbox h rc l).pmc = s.pmc := rfl
@[simp] theorem State.answerMbox_route (h : Nat) (rc : Rc) (l : List Nat) : (s.answerMbox h rc l).route = s.route := rfl
@[simp] theorem State.answerMbox_popP (h : Nat) (rc : Rc) (l : List Nat) : (s.answerMbox h rc l).popP = s.popP := rfl
@[simp] theorem State.answerMbox_popD (h : Nat) (rc : Rc) (l : List Nat) : (s.answerMbox h rc l).popD = s.popD := rfl
@[simp] theorem State.answerMbox_time (h : Nat) (rc : Rc) (l : List Nat) : (s.answerMbox h rc l).time = s.time := rfl
@[simp] theorem State.answerMbox_evt (h : Nat) (rc : Rc) (l : List Nat) : (s.answerMbox h rc l).evt = s.evt := rfl
@[simp] theorem State.answerMbox_host (h : Nat) (rc : Rc) (l : List Nat) : (s.answerMbox h rc l).host = s.host := rfl
@[simp] theorem State.answerMbox_fch (h : Nat) (rc : Rc) (l : List Nat) : (s.answerMbox h rc l).fch = s.fch := rfl
@[simp] theorem State.answerMbox_swt (h : Nat) (rc : Rc) (l : List Nat) : (s.answerMbox h rc l).swt = s.swt := rfl
@[simp] theorem State.answerMbox_xq (h : Nat) (rc : Rc) (l : List Nat) : (s.answerMbox h rc l).xq = s.xq := rfl
@[simp] theorem State.answerMbox_map (h : Nat) (rc : Rc) (l : List Nat) : (s.answerMbox h rc l).map = s.map := rfl
@[simp] theorem State.answerMbox_wp (h : Nat) (rc : Rc) (l : List Nat) : (s.answerMbox h rc l).wp = s.wp := rfl
@[simp] theorem State.answerMbox_rd (h : Nat) (rc : Rc) (l : List Nat) : (s.answerMbox h rc l).rd = s.rd := rfl
@[simp] theorem State.answerMbox_cry (h : Nat) (rc : Rc) (l : List Nat) : (s.answerMbox h rc l).cry = s.cry := rfl
@[simp] theorem State.answerMbox_epo (h : Nat) (rc : Rc) (l : List Nat) : (s.answerMbox h rc l).epo = s.epo := rfl
@[simp] theorem State.answerMbox_ntn (h : Nat) (rc : Rc) (l : List Nat) : (s.answerMbox h rc l).ntn = s.ntn := rfl
@[simp] theorem State.answerMbox_warp (h : Nat) (rc : Rc) (l : List Nat) : (s.answerMbox h rc l).warp = s.warp := rfl
@[simp] theorem State.answerMbox_link (h : Nat) (rc : Rc) (l : List Nat) : (s.answerMbox h rc l).link = s.link := rfl
@[simp] theorem State.answerMbox_upk (h : Nat) (rc : Rc) (l : List Nat) : (s.answerMbox h rc l).upk = s.upk := rfl
@[simp] theorem State.answerMbox_flt (h : Nat) (rc : Rc) (l : List Nat) : (s.answerMbox h rc l).flt = s.flt := rfl
@[simp] theorem State.answerMbox_pwr (h : Nat) (rc : Rc) (l : List Nat) : (s.answerMbox h rc l).pwr = s.pwr := rfl
@[simp] theorem State.answerMbox_thm (h : Nat) (rc : Rc) (l : List Nat) : (s.answerMbox h rc l).thm = s.thm := rfl
@[simp] theorem State.answerMbox_fwu (h : Nat) (rc : Rc) (l : List Nat) : (s.answerMbox h rc l).fwu = s.fwu := rfl
@[simp] theorem State.answerMbox_side (h : Nat) (rc : Rc) (l : List Nat) : (s.answerMbox h rc l).side = s.side := rfl
@[simp] theorem State.answerMbox_freeCtr (h : Nat) (rc : Rc) (l : List Nat) : (s.answerMbox h rc l).freeCtr = s.freeCtr := rfl
@[simp] theorem State.answerMbox_pending (h : Nat) (rc : Rc) (l : List Nat) : (s.answerMbox h rc l).pending = s.pending := rfl

@[simp] theorem State.begin_out : s.begin.out = [] := rfl
@[simp] theorem State.emit_out (o : Output) : (s.emit o).out = s.out ++ [o] := rfl
@[simp] theorem State.answerMbox_out (h : Nat) (rc : Rc) (l : List Nat) : (s.answerMbox h rc l).out = s.out ++ [.mbox h rc l] := rfl

end Sys2Proof.Machine
end

