-- ==== Sys2Proof/Laws/Quiet.lean ====
section
/-!
SUPPORT. What the register and event operations leave alone, field by field.
-/
namespace Sys2Proof.Machine

variable (s : State)

@[simp] theorem State.setReg_route (off : Nat) (v : Word) : (s.setReg off v).route = s.route := evolves_get (State.setReg_ev s off v) .route rfl
@[simp] theorem State.setReg_popP (off : Nat) (v : Word) : (s.setReg off v).popP = s.popP := (evolves_get (State.setReg_ev s off v) .pop rfl).1
@[simp] theorem State.setReg_popD (off : Nat) (v : Word) : (s.setReg off v).popD = s.popD := (evolves_get (State.setReg_ev s off v) .pop rfl).2
@[simp] theorem State.setReg_time (off : Nat) (v : Word) : (s.setReg off v).time = s.time := evolves_get (State.setReg_ev s off v) .time rfl
@[simp] theorem State.setReg_evt (off : Nat) (v : Word) : (s.setReg off v).evt = s.evt := evolves_get (State.setReg_ev s off v) .evt rfl
@[simp] theorem State.setReg_host (off : Nat) (v : Word) : (s.setReg off v).host = s.host := evolves_get (State.setReg_ev s off v) .host rfl
@[simp] theorem State.setReg_fch (off : Nat) (v : Word) : (s.setReg off v).fch = s.fch := evolves_get (State.setReg_ev s off v) .fch rfl
@[simp] theorem State.setReg_swt (off : Nat) (v : Word) : (s.setReg off v).swt = s.swt := evolves_get (State.setReg_ev s off v) .swt rfl
@[simp] theorem State.setReg_xq (off : Nat) (v : Word) : (s.setReg off v).xq = s.xq := evolves_get (State.setReg_ev s off v) .xq rfl
@[simp] theorem State.setReg_map (off : Nat) (v : Word) : (s.setReg off v).map = s.map := evolves_get (State.setReg_ev s off v) .map rfl
@[simp] theorem State.setReg_wp (off : Nat) (v : Word) : (s.setReg off v).wp = s.wp := evolves_get (State.setReg_ev s off v) .wp rfl
@[simp] theorem State.setReg_rd (off : Nat) (v : Word) : (s.setReg off v).rd = s.rd := evolves_get (State.setReg_ev s off v) .rd rfl
@[simp] theorem State.setReg_cry (off : Nat) (v : Word) : (s.setReg off v).cry = s.cry := evolves_get (State.setReg_ev s off v) .cry rfl
@[simp] theorem State.setReg_epo (off : Nat) (v : Word) : (s.setReg off v).epo = s.epo := evolves_get (State.setReg_ev s off v) .epo rfl
@[simp] theorem State.setReg_ntn (off : Nat) (v : Word) : (s.setReg off v).ntn = s.ntn := evolves_get (State.setReg_ev s off v) .ntn rfl
@[simp] theorem State.setReg_warp (off : Nat) (v : Word) : (s.setReg off v).warp = s.warp := evolves_get (State.setReg_ev s off v) .warp rfl
@[simp] theorem State.setReg_link (off : Nat) (v : Word) : (s.setReg off v).link = s.link := evolves_get (State.setReg_ev s off v) .link rfl
@[simp] theorem State.setReg_upk (off : Nat) (v : Word) : (s.setReg off v).upk = s.upk := evolves_get (State.setReg_ev s off v) .upk rfl
@[simp] theorem State.setReg_flt (off : Nat) (v : Word) : (s.setReg off v).flt = s.flt := evolves_get (State.setReg_ev s off v) .flt rfl
@[simp] theorem State.setReg_pwr (off : Nat) (v : Word) : (s.setReg off v).pwr = s.pwr := evolves_get (State.setReg_ev s off v) .pwr rfl
@[simp] theorem State.setReg_thm (off : Nat) (v : Word) : (s.setReg off v).thm = s.thm := evolves_get (State.setReg_ev s off v) .thm rfl
@[simp] theorem State.setReg_fwu (off : Nat) (v : Word) : (s.setReg off v).fwu = s.fwu := evolves_get (State.setReg_ev s off v) .fwu rfl
@[simp] theorem State.setReg_side (off : Nat) (v : Word) : (s.setReg off v).side = s.side := evolves_get (State.setReg_ev s off v) .side rfl
@[simp] theorem State.setReg_out (off : Nat) (v : Word) : (s.setReg off v).out = s.out := evolves_get (State.setReg_ev s off v) .out rfl
@[simp] theorem State.setReg_freeCtr (off : Nat) (v : Word) : (s.setReg off v).freeCtr = s.freeCtr := evolves_get (State.setReg_ev s off v) .freeCtr rfl
@[simp] theorem State.setReg_pending (off : Nat) (v : Word) : (s.setReg off v).pending = s.pending := evolves_get (State.setReg_ev s off v) .pending rfl

@[simp] theorem State.setFld_route (f : Fld) (v : Nat) : (s.setFld f v).route = s.route := evolves_get (State.setFld_ev s f v) .route rfl
@[simp] theorem State.setFld_popP (f : Fld) (v : Nat) : (s.setFld f v).popP = s.popP := (evolves_get (State.setFld_ev s f v) .pop rfl).1
@[simp] theorem State.setFld_popD (f : Fld) (v : Nat) : (s.setFld f v).popD = s.popD := (evolves_get (State.setFld_ev s f v) .pop rfl).2
@[simp] theorem State.setFld_time (f : Fld) (v : Nat) : (s.setFld f v).time = s.time := evolves_get (State.setFld_ev s f v) .time rfl
@[simp] theorem State.setFld_evt (f : Fld) (v : Nat) : (s.setFld f v).evt = s.evt := evolves_get (State.setFld_ev s f v) .evt rfl
@[simp] theorem State.setFld_host (f : Fld) (v : Nat) : (s.setFld f v).host = s.host := evolves_get (State.setFld_ev s f v) .host rfl
@[simp] theorem State.setFld_fch (f : Fld) (v : Nat) : (s.setFld f v).fch = s.fch := evolves_get (State.setFld_ev s f v) .fch rfl
@[simp] theorem State.setFld_swt (f : Fld) (v : Nat) : (s.setFld f v).swt = s.swt := evolves_get (State.setFld_ev s f v) .swt rfl
@[simp] theorem State.setFld_xq (f : Fld) (v : Nat) : (s.setFld f v).xq = s.xq := evolves_get (State.setFld_ev s f v) .xq rfl
@[simp] theorem State.setFld_map (f : Fld) (v : Nat) : (s.setFld f v).map = s.map := evolves_get (State.setFld_ev s f v) .map rfl
@[simp] theorem State.setFld_wp (f : Fld) (v : Nat) : (s.setFld f v).wp = s.wp := evolves_get (State.setFld_ev s f v) .wp rfl
@[simp] theorem State.setFld_rd (f : Fld) (v : Nat) : (s.setFld f v).rd = s.rd := evolves_get (State.setFld_ev s f v) .rd rfl
@[simp] theorem State.setFld_cry (f : Fld) (v : Nat) : (s.setFld f v).cry = s.cry := evolves_get (State.setFld_ev s f v) .cry rfl
@[simp] theorem State.setFld_epo (f : Fld) (v : Nat) : (s.setFld f v).epo = s.epo := evolves_get (State.setFld_ev s f v) .epo rfl
@[simp] theorem State.setFld_ntn (f : Fld) (v : Nat) : (s.setFld f v).ntn = s.ntn := evolves_get (State.setFld_ev s f v) .ntn rfl
@[simp] theorem State.setFld_warp (f : Fld) (v : Nat) : (s.setFld f v).warp = s.warp := evolves_get (State.setFld_ev s f v) .warp rfl
@[simp] theorem State.setFld_link (f : Fld) (v : Nat) : (s.setFld f v).link = s.link := evolves_get (State.setFld_ev s f v) .link rfl
@[simp] theorem State.setFld_upk (f : Fld) (v : Nat) : (s.setFld f v).upk = s.upk := evolves_get (State.setFld_ev s f v) .upk rfl
@[simp] theorem State.setFld_flt (f : Fld) (v : Nat) : (s.setFld f v).flt = s.flt := evolves_get (State.setFld_ev s f v) .flt rfl
@[simp] theorem State.setFld_pwr (f : Fld) (v : Nat) : (s.setFld f v).pwr = s.pwr := evolves_get (State.setFld_ev s f v) .pwr rfl
@[simp] theorem State.setFld_thm (f : Fld) (v : Nat) : (s.setFld f v).thm = s.thm := evolves_get (State.setFld_ev s f v) .thm rfl
@[simp] theorem State.setFld_fwu (f : Fld) (v : Nat) : (s.setFld f v).fwu = s.fwu := evolves_get (State.setFld_ev s f v) .fwu rfl
@[simp] theorem State.setFld_side (f : Fld) (v : Nat) : (s.setFld f v).side = s.side := evolves_get (State.setFld_ev s f v) .side rfl
@[simp] theorem State.setFld_out (f : Fld) (v : Nat) : (s.setFld f v).out = s.out := evolves_get (State.setFld_ev s f v) .out rfl
@[simp] theorem State.setFld_freeCtr (f : Fld) (v : Nat) : (s.setFld f v).freeCtr = s.freeCtr := evolves_get (State.setFld_ev s f v) .freeCtr rfl
@[simp] theorem State.setFld_pending (f : Fld) (v : Nat) : (s.setFld f v).pending = s.pending := evolves_get (State.setFld_ev s f v) .pending rfl

@[simp] theorem State.bump_route (f : Fld) (k : Nat) : (s.bump f k).route = s.route := evolves_get (State.bump_ev s f k) .route rfl
@[simp] theorem State.bump_popP (f : Fld) (k : Nat) : (s.bump f k).popP = s.popP := (evolves_get (State.bump_ev s f k) .pop rfl).1
@[simp] theorem State.bump_popD (f : Fld) (k : Nat) : (s.bump f k).popD = s.popD := (evolves_get (State.bump_ev s f k) .pop rfl).2
@[simp] theorem State.bump_time (f : Fld) (k : Nat) : (s.bump f k).time = s.time := evolves_get (State.bump_ev s f k) .time rfl
@[simp] theorem State.bump_evt (f : Fld) (k : Nat) : (s.bump f k).evt = s.evt := evolves_get (State.bump_ev s f k) .evt rfl
@[simp] theorem State.bump_host (f : Fld) (k : Nat) : (s.bump f k).host = s.host := evolves_get (State.bump_ev s f k) .host rfl
@[simp] theorem State.bump_fch (f : Fld) (k : Nat) : (s.bump f k).fch = s.fch := evolves_get (State.bump_ev s f k) .fch rfl
@[simp] theorem State.bump_swt (f : Fld) (k : Nat) : (s.bump f k).swt = s.swt := evolves_get (State.bump_ev s f k) .swt rfl
@[simp] theorem State.bump_xq (f : Fld) (k : Nat) : (s.bump f k).xq = s.xq := evolves_get (State.bump_ev s f k) .xq rfl
@[simp] theorem State.bump_map (f : Fld) (k : Nat) : (s.bump f k).map = s.map := evolves_get (State.bump_ev s f k) .map rfl
@[simp] theorem State.bump_wp (f : Fld) (k : Nat) : (s.bump f k).wp = s.wp := evolves_get (State.bump_ev s f k) .wp rfl
@[simp] theorem State.bump_rd (f : Fld) (k : Nat) : (s.bump f k).rd = s.rd := evolves_get (State.bump_ev s f k) .rd rfl
@[simp] theorem State.bump_cry (f : Fld) (k : Nat) : (s.bump f k).cry = s.cry := evolves_get (State.bump_ev s f k) .cry rfl
@[simp] theorem State.bump_epo (f : Fld) (k : Nat) : (s.bump f k).epo = s.epo := evolves_get (State.bump_ev s f k) .epo rfl
@[simp] theorem State.bump_ntn (f : Fld) (k : Nat) : (s.bump f k).ntn = s.ntn := evolves_get (State.bump_ev s f k) .ntn rfl
@[simp] theorem State.bump_warp (f : Fld) (k : Nat) : (s.bump f k).warp = s.warp := evolves_get (State.bump_ev s f k) .warp rfl
@[simp] theorem State.bump_link (f : Fld) (k : Nat) : (s.bump f k).link = s.link := evolves_get (State.bump_ev s f k) .link rfl
@[simp] theorem State.bump_upk (f : Fld) (k : Nat) : (s.bump f k).upk = s.upk := evolves_get (State.bump_ev s f k) .upk rfl
@[simp] theorem State.bump_flt (f : Fld) (k : Nat) : (s.bump f k).flt = s.flt := evolves_get (State.bump_ev s f k) .flt rfl
@[simp] theorem State.bump_pwr (f : Fld) (k : Nat) : (s.bump f k).pwr = s.pwr := evolves_get (State.bump_ev s f k) .pwr rfl
@[simp] theorem State.bump_thm (f : Fld) (k : Nat) : (s.bump f k).thm = s.thm := evolves_get (State.bump_ev s f k) .thm rfl
@[simp] theorem State.bump_fwu (f : Fld) (k : Nat) : (s.bump f k).fwu = s.fwu := evolves_get (State.bump_ev s f k) .fwu rfl
@[simp] theorem State.bump_side (f : Fld) (k : Nat) : (s.bump f k).side = s.side := evolves_get (State.bump_ev s f k) .side rfl
@[simp] theorem State.bump_out (f : Fld) (k : Nat) : (s.bump f k).out = s.out := evolves_get (State.bump_ev s f k) .out rfl
@[simp] theorem State.bump_freeCtr (f : Fld) (k : Nat) : (s.bump f k).freeCtr = s.freeCtr := evolves_get (State.bump_ev s f k) .freeCtr rfl
@[simp] theorem State.bump_pending (f : Fld) (k : Nat) : (s.bump f k).pending = s.pending := evolves_get (State.bump_ev s f k) .pending rfl

@[simp] theorem State.raiseAt_route (e : Evt) (i a : Word) : (s.raiseAt e i a).route = s.route := evolves_get (State.raiseAt_ev s e i a) .route rfl
@[simp] theorem State.raiseAt_popP (e : Evt) (i a : Word) : (s.raiseAt e i a).popP = s.popP := (evolves_get (State.raiseAt_ev s e i a) .pop rfl).1
@[simp] theorem State.raiseAt_popD (e : Evt) (i a : Word) : (s.raiseAt e i a).popD = s.popD := (evolves_get (State.raiseAt_ev s e i a) .pop rfl).2
@[simp] theorem State.raiseAt_time (e : Evt) (i a : Word) : (s.raiseAt e i a).time = s.time := evolves_get (State.raiseAt_ev s e i a) .time rfl
@[simp] theorem State.raiseAt_fch (e : Evt) (i a : Word) : (s.raiseAt e i a).fch = s.fch := evolves_get (State.raiseAt_ev s e i a) .fch rfl
@[simp] theorem State.raiseAt_swt (e : Evt) (i a : Word) : (s.raiseAt e i a).swt = s.swt := evolves_get (State.raiseAt_ev s e i a) .swt rfl
@[simp] theorem State.raiseAt_xq (e : Evt) (i a : Word) : (s.raiseAt e i a).xq = s.xq := evolves_get (State.raiseAt_ev s e i a) .xq rfl
@[simp] theorem State.raiseAt_map (e : Evt) (i a : Word) : (s.raiseAt e i a).map = s.map := evolves_get (State.raiseAt_ev s e i a) .map rfl
@[simp] theorem State.raiseAt_wp (e : Evt) (i a : Word) : (s.raiseAt e i a).wp = s.wp := evolves_get (State.raiseAt_ev s e i a) .wp rfl
@[simp] theorem State.raiseAt_rd (e : Evt) (i a : Word) : (s.raiseAt e i a).rd = s.rd := evolves_get (State.raiseAt_ev s e i a) .rd rfl
@[simp] theorem State.raiseAt_cry (e : Evt) (i a : Word) : (s.raiseAt e i a).cry = s.cry := evolves_get (State.raiseAt_ev s e i a) .cry rfl
@[simp] theorem State.raiseAt_epo (e : Evt) (i a : Word) : (s.raiseAt e i a).epo = s.epo := evolves_get (State.raiseAt_ev s e i a) .epo rfl
@[simp] theorem State.raiseAt_ntn (e : Evt) (i a : Word) : (s.raiseAt e i a).ntn = s.ntn := evolves_get (State.raiseAt_ev s e i a) .ntn rfl
@[simp] theorem State.raiseAt_warp (e : Evt) (i a : Word) : (s.raiseAt e i a).warp = s.warp := evolves_get (State.raiseAt_ev s e i a) .warp rfl
@[simp] theorem State.raiseAt_link (e : Evt) (i a : Word) : (s.raiseAt e i a).link = s.link := evolves_get (State.raiseAt_ev s e i a) .link rfl
@[simp] theorem State.raiseAt_upk (e : Evt) (i a : Word) : (s.raiseAt e i a).upk = s.upk := evolves_get (State.raiseAt_ev s e i a) .upk rfl
@[simp] theorem State.raiseAt_flt (e : Evt) (i a : Word) : (s.raiseAt e i a).flt = s.flt := evolves_get (State.raiseAt_ev s e i a) .flt rfl
@[simp] theorem State.raiseAt_pwr (e : Evt) (i a : Word) : (s.raiseAt e i a).pwr = s.pwr := evolves_get (State.raiseAt_ev s e i a) .pwr rfl
@[simp] theorem State.raiseAt_thm (e : Evt) (i a : Word) : (s.raiseAt e i a).thm = s.thm := evolves_get (State.raiseAt_ev s e i a) .thm rfl
@[simp] theorem State.raiseAt_fwu (e : Evt) (i a : Word) : (s.raiseAt e i a).fwu = s.fwu := evolves_get (State.raiseAt_ev s e i a) .fwu rfl
@[simp] theorem State.raiseAt_side (e : Evt) (i a : Word) : (s.raiseAt e i a).side = s.side := evolves_get (State.raiseAt_ev s e i a) .side rfl
@[simp] theorem State.raiseAt_out (e : Evt) (i a : Word) : (s.raiseAt e i a).out = s.out := evolves_get (State.raiseAt_ev s e i a) .out rfl
@[simp] theorem State.raiseAt_freeCtr (e : Evt) (i a : Word) : (s.raiseAt e i a).freeCtr = s.freeCtr := evolves_get (State.raiseAt_ev s e i a) .freeCtr rfl
@[simp] theorem State.raiseAt_pending (e : Evt) (i a : Word) : (s.raiseAt e i a).pending = s.pending := evolves_get (State.raiseAt_ev s e i a) .pending rfl

@[simp] theorem State.raiseN_route (e : Evt) (i a : Nat) : (s.raiseN e i a).route = s.route := evolves_get (State.raiseN_ev s e i a) .route rfl
@[simp] theorem State.raiseN_popP (e : Evt) (i a : Nat) : (s.raiseN e i a).popP = s.popP := (evolves_get (State.raiseN_ev s e i a) .pop rfl).1
@[simp] theorem State.raiseN_popD (e : Evt) (i a : Nat) : (s.raiseN e i a).popD = s.popD := (evolves_get (State.raiseN_ev s e i a) .pop rfl).2
@[simp] theorem State.raiseN_time (e : Evt) (i a : Nat) : (s.raiseN e i a).time = s.time := evolves_get (State.raiseN_ev s e i a) .time rfl
@[simp] theorem State.raiseN_fch (e : Evt) (i a : Nat) : (s.raiseN e i a).fch = s.fch := evolves_get (State.raiseN_ev s e i a) .fch rfl
@[simp] theorem State.raiseN_swt (e : Evt) (i a : Nat) : (s.raiseN e i a).swt = s.swt := evolves_get (State.raiseN_ev s e i a) .swt rfl
@[simp] theorem State.raiseN_xq (e : Evt) (i a : Nat) : (s.raiseN e i a).xq = s.xq := evolves_get (State.raiseN_ev s e i a) .xq rfl
@[simp] theorem State.raiseN_map (e : Evt) (i a : Nat) : (s.raiseN e i a).map = s.map := evolves_get (State.raiseN_ev s e i a) .map rfl
@[simp] theorem State.raiseN_wp (e : Evt) (i a : Nat) : (s.raiseN e i a).wp = s.wp := evolves_get (State.raiseN_ev s e i a) .wp rfl
@[simp] theorem State.raiseN_rd (e : Evt) (i a : Nat) : (s.raiseN e i a).rd = s.rd := evolves_get (State.raiseN_ev s e i a) .rd rfl
@[simp] theorem State.raiseN_cry (e : Evt) (i a : Nat) : (s.raiseN e i a).cry = s.cry := evolves_get (State.raiseN_ev s e i a) .cry rfl
@[simp] theorem State.raiseN_epo (e : Evt) (i a : Nat) : (s.raiseN e i a).epo = s.epo := evolves_get (State.raiseN_ev s e i a) .epo rfl
@[simp] theorem State.raiseN_ntn (e : Evt) (i a : Nat) : (s.raiseN e i a).ntn = s.ntn := evolves_get (State.raiseN_ev s e i a) .ntn rfl
@[simp] theorem State.raiseN_warp (e : Evt) (i a : Nat) : (s.raiseN e i a).warp = s.warp := evolves_get (State.raiseN_ev s e i a) .warp rfl
@[simp] theorem State.raiseN_link (e : Evt) (i a : Nat) : (s.raiseN e i a).link = s.link := evolves_get (State.raiseN_ev s e i a) .link rfl
@[simp] theorem State.raiseN_upk (e : Evt) (i a : Nat) : (s.raiseN e i a).upk = s.upk := evolves_get (State.raiseN_ev s e i a) .upk rfl
@[simp] theorem State.raiseN_flt (e : Evt) (i a : Nat) : (s.raiseN e i a).flt = s.flt := evolves_get (State.raiseN_ev s e i a) .flt rfl
@[simp] theorem State.raiseN_pwr (e : Evt) (i a : Nat) : (s.raiseN e i a).pwr = s.pwr := evolves_get (State.raiseN_ev s e i a) .pwr rfl
@[simp] theorem State.raiseN_thm (e : Evt) (i a : Nat) : (s.raiseN e i a).thm = s.thm := evolves_get (State.raiseN_ev s e i a) .thm rfl
@[simp] theorem State.raiseN_fwu (e : Evt) (i a : Nat) : (s.raiseN e i a).fwu = s.fwu := evolves_get (State.raiseN_ev s e i a) .fwu rfl
@[simp] theorem State.raiseN_side (e : Evt) (i a : Nat) : (s.raiseN e i a).side = s.side := evolves_get (State.raiseN_ev s e i a) .side rfl
@[simp] theorem State.raiseN_out (e : Evt) (i a : Nat) : (s.raiseN e i a).out = s.out := evolves_get (State.raiseN_ev s e i a) .out rfl
@[simp] theorem State.raiseN_freeCtr (e : Evt) (i a : Nat) : (s.raiseN e i a).freeCtr = s.freeCtr := evolves_get (State.raiseN_ev s e i a) .freeCtr rfl
@[simp] theorem State.raiseN_pending (e : Evt) (i a : Nat) : (s.raiseN e i a).pending = s.pending := evolves_get (State.raiseN_ev s e i a) .pending rfl

@[simp] theorem State.raise_route (e : Evt) : (s.raise e).route = s.route := evolves_get (State.raise_ev s e) .route rfl
@[simp] theorem State.raise_popP (e : Evt) : (s.raise e).popP = s.popP := (evolves_get (State.raise_ev s e) .pop rfl).1
@[simp] theorem State.raise_popD (e : Evt) : (s.raise e).popD = s.popD := (evolves_get (State.raise_ev s e) .pop rfl).2
@[simp] theorem State.raise_time (e : Evt) : (s.raise e).time = s.time := evolves_get (State.raise_ev s e) .time rfl
@[simp] theorem State.raise_fch (e : Evt) : (s.raise e).fch = s.fch := evolves_get (State.raise_ev s e) .fch rfl
@[simp] theorem State.raise_swt (e : Evt) : (s.raise e).swt = s.swt := evolves_get (State.raise_ev s e) .swt rfl
@[simp] theorem State.raise_xq (e : Evt) : (s.raise e).xq = s.xq := evolves_get (State.raise_ev s e) .xq rfl
@[simp] theorem State.raise_map (e : Evt) : (s.raise e).map = s.map := evolves_get (State.raise_ev s e) .map rfl
@[simp] theorem State.raise_wp (e : Evt) : (s.raise e).wp = s.wp := evolves_get (State.raise_ev s e) .wp rfl
@[simp] theorem State.raise_rd (e : Evt) : (s.raise e).rd = s.rd := evolves_get (State.raise_ev s e) .rd rfl
@[simp] theorem State.raise_cry (e : Evt) : (s.raise e).cry = s.cry := evolves_get (State.raise_ev s e) .cry rfl
@[simp] theorem State.raise_epo (e : Evt) : (s.raise e).epo = s.epo := evolves_get (State.raise_ev s e) .epo rfl
@[simp] theorem State.raise_ntn (e : Evt) : (s.raise e).ntn = s.ntn := evolves_get (State.raise_ev s e) .ntn rfl
@[simp] theorem State.raise_warp (e : Evt) : (s.raise e).warp = s.warp := evolves_get (State.raise_ev s e) .warp rfl
@[simp] theorem State.raise_link (e : Evt) : (s.raise e).link = s.link := evolves_get (State.raise_ev s e) .link rfl
@[simp] theorem State.raise_upk (e : Evt) : (s.raise e).upk = s.upk := evolves_get (State.raise_ev s e) .upk rfl
@[simp] theorem State.raise_flt (e : Evt) : (s.raise e).flt = s.flt := evolves_get (State.raise_ev s e) .flt rfl
@[simp] theorem State.raise_pwr (e : Evt) : (s.raise e).pwr = s.pwr := evolves_get (State.raise_ev s e) .pwr rfl
@[simp] theorem State.raise_thm (e : Evt) : (s.raise e).thm = s.thm := evolves_get (State.raise_ev s e) .thm rfl
@[simp] theorem State.raise_fwu (e : Evt) : (s.raise e).fwu = s.fwu := evolves_get (State.raise_ev s e) .fwu rfl
@[simp] theorem State.raise_side (e : Evt) : (s.raise e).side = s.side := evolves_get (State.raise_ev s e) .side rfl
@[simp] theorem State.raise_out (e : Evt) : (s.raise e).out = s.out := evolves_get (State.raise_ev s e) .out rfl
@[simp] theorem State.raise_freeCtr (e : Evt) : (s.raise e).freeCtr = s.freeCtr := evolves_get (State.raise_ev s e) .freeCtr rfl
@[simp] theorem State.raise_pending (e : Evt) : (s.raise e).pending = s.pending := evolves_get (State.raise_ev s e) .pending rfl

@[simp] theorem State.raiseIf_route (c : Bool) (e : Evt) : (s.raiseIf c e).route = s.route := evolves_get (State.raiseIf_ev s c e) .route rfl
@[simp] theorem State.raiseIf_popP (c : Bool) (e : Evt) : (s.raiseIf c e).popP = s.popP := (evolves_get (State.raiseIf_ev s c e) .pop rfl).1
@[simp] theorem State.raiseIf_popD (c : Bool) (e : Evt) : (s.raiseIf c e).popD = s.popD := (evolves_get (State.raiseIf_ev s c e) .pop rfl).2
@[simp] theorem State.raiseIf_time (c : Bool) (e : Evt) : (s.raiseIf c e).time = s.time := evolves_get (State.raiseIf_ev s c e) .time rfl
@[simp] theorem State.raiseIf_fch (c : Bool) (e : Evt) : (s.raiseIf c e).fch = s.fch := evolves_get (State.raiseIf_ev s c e) .fch rfl
@[simp] theorem State.raiseIf_swt (c : Bool) (e : Evt) : (s.raiseIf c e).swt = s.swt := evolves_get (State.raiseIf_ev s c e) .swt rfl
@[simp] theorem State.raiseIf_xq (c : Bool) (e : Evt) : (s.raiseIf c e).xq = s.xq := evolves_get (State.raiseIf_ev s c e) .xq rfl
@[simp] theorem State.raiseIf_map (c : Bool) (e : Evt) : (s.raiseIf c e).map = s.map := evolves_get (State.raiseIf_ev s c e) .map rfl
@[simp] theorem State.raiseIf_wp (c : Bool) (e : Evt) : (s.raiseIf c e).wp = s.wp := evolves_get (State.raiseIf_ev s c e) .wp rfl
@[simp] theorem State.raiseIf_rd (c : Bool) (e : Evt) : (s.raiseIf c e).rd = s.rd := evolves_get (State.raiseIf_ev s c e) .rd rfl
@[simp] theorem State.raiseIf_cry (c : Bool) (e : Evt) : (s.raiseIf c e).cry = s.cry := evolves_get (State.raiseIf_ev s c e) .cry rfl
@[simp] theorem State.raiseIf_epo (c : Bool) (e : Evt) : (s.raiseIf c e).epo = s.epo := evolves_get (State.raiseIf_ev s c e) .epo rfl
@[simp] theorem State.raiseIf_ntn (c : Bool) (e : Evt) : (s.raiseIf c e).ntn = s.ntn := evolves_get (State.raiseIf_ev s c e) .ntn rfl
@[simp] theorem State.raiseIf_warp (c : Bool) (e : Evt) : (s.raiseIf c e).warp = s.warp := evolves_get (State.raiseIf_ev s c e) .warp rfl
@[simp] theorem State.raiseIf_link (c : Bool) (e : Evt) : (s.raiseIf c e).link = s.link := evolves_get (State.raiseIf_ev s c e) .link rfl
@[simp] theorem State.raiseIf_upk (c : Bool) (e : Evt) : (s.raiseIf c e).upk = s.upk := evolves_get (State.raiseIf_ev s c e) .upk rfl
@[simp] theorem State.raiseIf_flt (c : Bool) (e : Evt) : (s.raiseIf c e).flt = s.flt := evolves_get (State.raiseIf_ev s c e) .flt rfl
@[simp] theorem State.raiseIf_pwr (c : Bool) (e : Evt) : (s.raiseIf c e).pwr = s.pwr := evolves_get (State.raiseIf_ev s c e) .pwr rfl
@[simp] theorem State.raiseIf_thm (c : Bool) (e : Evt) : (s.raiseIf c e).thm = s.thm := evolves_get (State.raiseIf_ev s c e) .thm rfl
@[simp] theorem State.raiseIf_fwu (c : Bool) (e : Evt) : (s.raiseIf c e).fwu = s.fwu := evolves_get (State.raiseIf_ev s c e) .fwu rfl
@[simp] theorem State.raiseIf_side (c : Bool) (e : Evt) : (s.raiseIf c e).side = s.side := evolves_get (State.raiseIf_ev s c e) .side rfl
@[simp] theorem State.raiseIf_out (c : Bool) (e : Evt) : (s.raiseIf c e).out = s.out := evolves_get (State.raiseIf_ev s c e) .out rfl
@[simp] theorem State.raiseIf_freeCtr (c : Bool) (e : Evt) : (s.raiseIf c e).freeCtr = s.freeCtr := evolves_get (State.raiseIf_ev s c e) .freeCtr rfl
@[simp] theorem State.raiseIf_pending (c : Bool) (e : Evt) : (s.raiseIf c e).pending = s.pending := evolves_get (State.raiseIf_ev s c e) .pending rfl

@[simp] theorem State.count_route (e i n : Nat) : (s.count e i n).route = s.route := evolves_get (State.count_ev s e i n) .route rfl
@[simp] theorem State.count_popP (e i n : Nat) : (s.count e i n).popP = s.popP := (evolves_get (State.count_ev s e i n) .pop rfl).1
@[simp] theorem State.count_popD (e i n : Nat) : (s.count e i n).popD = s.popD := (evolves_get (State.count_ev s e i n) .pop rfl).2
@[simp] theorem State.count_time (e i n : Nat) : (s.count e i n).time = s.time := evolves_get (State.count_ev s e i n) .time rfl
@[simp] theorem State.count_fch (e i n : Nat) : (s.count e i n).fch = s.fch := evolves_get (State.count_ev s e i n) .fch rfl
@[simp] theorem State.count_swt (e i n : Nat) : (s.count e i n).swt = s.swt := evolves_get (State.count_ev s e i n) .swt rfl
@[simp] theorem State.count_xq (e i n : Nat) : (s.count e i n).xq = s.xq := evolves_get (State.count_ev s e i n) .xq rfl
@[simp] theorem State.count_map (e i n : Nat) : (s.count e i n).map = s.map := evolves_get (State.count_ev s e i n) .map rfl
@[simp] theorem State.count_wp (e i n : Nat) : (s.count e i n).wp = s.wp := evolves_get (State.count_ev s e i n) .wp rfl
@[simp] theorem State.count_rd (e i n : Nat) : (s.count e i n).rd = s.rd := evolves_get (State.count_ev s e i n) .rd rfl
@[simp] theorem State.count_cry (e i n : Nat) : (s.count e i n).cry = s.cry := evolves_get (State.count_ev s e i n) .cry rfl
@[simp] theorem State.count_epo (e i n : Nat) : (s.count e i n).epo = s.epo := evolves_get (State.count_ev s e i n) .epo rfl
@[simp] theorem State.count_ntn (e i n : Nat) : (s.count e i n).ntn = s.ntn := evolves_get (State.count_ev s e i n) .ntn rfl
@[simp] theorem State.count_warp (e i n : Nat) : (s.count e i n).warp = s.warp := evolves_get (State.count_ev s e i n) .warp rfl
@[simp] theorem State.count_link (e i n : Nat) : (s.count e i n).link = s.link := evolves_get (State.count_ev s e i n) .link rfl
@[simp] theorem State.count_upk (e i n : Nat) : (s.count e i n).upk = s.upk := evolves_get (State.count_ev s e i n) .upk rfl
@[simp] theorem State.count_flt (e i n : Nat) : (s.count e i n).flt = s.flt := evolves_get (State.count_ev s e i n) .flt rfl
@[simp] theorem State.count_pwr (e i n : Nat) : (s.count e i n).pwr = s.pwr := evolves_get (State.count_ev s e i n) .pwr rfl
@[simp] theorem State.count_thm (e i n : Nat) : (s.count e i n).thm = s.thm := evolves_get (State.count_ev s e i n) .thm rfl
@[simp] theorem State.count_fwu (e i n : Nat) : (s.count e i n).fwu = s.fwu := evolves_get (State.count_ev s e i n) .fwu rfl
@[simp] theorem State.count_side (e i n : Nat) : (s.count e i n).side = s.side := evolves_get (State.count_ev s e i n) .side rfl
@[simp] theorem State.count_out (e i n : Nat) : (s.count e i n).out = s.out := evolves_get (State.count_ev s e i n) .out rfl
@[simp] theorem State.count_freeCtr (e i n : Nat) : (s.count e i n).freeCtr = s.freeCtr := evolves_get (State.count_ev s e i n) .freeCtr rfl
@[simp] theorem State.count_pending (e i n : Nat) : (s.count e i n).pending = s.pending := evolves_get (State.count_ev s e i n) .pending rfl

@[simp] theorem State.accessErr_route (h : Nat) (w : Bool) (a b c : Nat) : (s.accessErr h w a b c).route = s.route := evolves_get (State.accessErr_ev s h w a b c) .route rfl
@[simp] theorem State.accessErr_popP (h : Nat) (w : Bool) (a b c : Nat) : (s.accessErr h w a b c).popP = s.popP := (evolves_get (State.accessErr_ev s h w a b c) .pop rfl).1
@[simp] theorem State.accessErr_popD (h : Nat) (w : Bool) (a b c : Nat) : (s.accessErr h w a b c).popD = s.popD := (evolves_get (State.accessErr_ev s h w a b c) .pop rfl).2
@[simp] theorem State.accessErr_time (h : Nat) (w : Bool) (a b c : Nat) : (s.accessErr h w a b c).time = s.time := evolves_get (State.accessErr_ev s h w a b c) .time rfl
@[simp] theorem State.accessErr_fch (h : Nat) (w : Bool) (a b c : Nat) : (s.accessErr h w a b c).fch = s.fch := evolves_get (State.accessErr_ev s h w a b c) .fch rfl
@[simp] theorem State.accessErr_swt (h : Nat) (w : Bool) (a b c : Nat) : (s.accessErr h w a b c).swt = s.swt := evolves_get (State.accessErr_ev s h w a b c) .swt rfl
@[simp] theorem State.accessErr_xq (h : Nat) (w : Bool) (a b c : Nat) : (s.accessErr h w a b c).xq = s.xq := evolves_get (State.accessErr_ev s h w a b c) .xq rfl
@[simp] theorem State.accessErr_map (h : Nat) (w : Bool) (a b c : Nat) : (s.accessErr h w a b c).map = s.map := evolves_get (State.accessErr_ev s h w a b c) .map rfl
@[simp] theorem State.accessErr_wp (h : Nat) (w : Bool) (a b c : Nat) : (s.accessErr h w a b c).wp = s.wp := evolves_get (State.accessErr_ev s h w a b c) .wp rfl
@[simp] theorem State.accessErr_rd (h : Nat) (w : Bool) (a b c : Nat) : (s.accessErr h w a b c).rd = s.rd := evolves_get (State.accessErr_ev s h w a b c) .rd rfl
@[simp] theorem State.accessErr_cry (h : Nat) (w : Bool) (a b c : Nat) : (s.accessErr h w a b c).cry = s.cry := evolves_get (State.accessErr_ev s h w a b c) .cry rfl
@[simp] theorem State.accessErr_epo (h : Nat) (w : Bool) (a b c : Nat) : (s.accessErr h w a b c).epo = s.epo := evolves_get (State.accessErr_ev s h w a b c) .epo rfl
@[simp] theorem State.accessErr_ntn (h : Nat) (w : Bool) (a b c : Nat) : (s.accessErr h w a b c).ntn = s.ntn := evolves_get (State.accessErr_ev s h w a b c) .ntn rfl
@[simp] theorem State.accessErr_warp (h : Nat) (w : Bool) (a b c : Nat) : (s.accessErr h w a b c).warp = s.warp := evolves_get (State.accessErr_ev s h w a b c) .warp rfl
@[simp] theorem State.accessErr_link (h : Nat) (w : Bool) (a b c : Nat) : (s.accessErr h w a b c).link = s.link := evolves_get (State.accessErr_ev s h w a b c) .link rfl
@[simp] theorem State.accessErr_upk (h : Nat) (w : Bool) (a b c : Nat) : (s.accessErr h w a b c).upk = s.upk := evolves_get (State.accessErr_ev s h w a b c) .upk rfl
@[simp] theorem State.accessErr_flt (h : Nat) (w : Bool) (a b c : Nat) : (s.accessErr h w a b c).flt = s.flt := evolves_get (State.accessErr_ev s h w a b c) .flt rfl
@[simp] theorem State.accessErr_pwr (h : Nat) (w : Bool) (a b c : Nat) : (s.accessErr h w a b c).pwr = s.pwr := evolves_get (State.accessErr_ev s h w a b c) .pwr rfl
@[simp] theorem State.accessErr_thm (h : Nat) (w : Bool) (a b c : Nat) : (s.accessErr h w a b c).thm = s.thm := evolves_get (State.accessErr_ev s h w a b c) .thm rfl
@[simp] theorem State.accessErr_fwu (h : Nat) (w : Bool) (a b c : Nat) : (s.accessErr h w a b c).fwu = s.fwu := evolves_get (State.accessErr_ev s h w a b c) .fwu rfl
@[simp] theorem State.accessErr_side (h : Nat) (w : Bool) (a b c : Nat) : (s.accessErr h w a b c).side = s.side := evolves_get (State.accessErr_ev s h w a b c) .side rfl
@[simp] theorem State.accessErr_out (h : Nat) (w : Bool) (a b c : Nat) : (s.accessErr h w a b c).out = s.out := evolves_get (State.accessErr_ev s h w a b c) .out rfl
@[simp] theorem State.accessErr_freeCtr (h : Nat) (w : Bool) (a b c : Nat) : (s.accessErr h w a b c).freeCtr = s.freeCtr := evolves_get (State.accessErr_ev s h w a b c) .freeCtr rfl
@[simp] theorem State.accessErr_pending (h : Nat) (w : Bool) (a b c : Nat) : (s.accessErr h w a b c).pending = s.pending := evolves_get (State.accessErr_ev s h w a b c) .pending rfl


end Sys2Proof.Machine
end

