-- ==== Sys2Proof/Laws/Facts.lean ====
section
/-!
SUPPORT. What the shared operations leave behind: the captured error registers, the part that an update set, saturating
counts, and how a canonical state stays canonical.
-/
namespace Sys2Proof.Machine

variable (s : State)

/-! ### Parts that were set read back -/

theorem State.host_wf (h : s.wf = true) : s.host.wf = true := (State.tabsWf_iff s).mp ((State.wf_iff s).mp h).2 |>.1.1.1.1.1.1.1.1.2
theorem State.cry_wf (h : s.wf = true) : s.cry.wf = true := (State.tabsWf_iff s).mp ((State.wf_iff s).mp h).2 |>.1.1.1.1.1.2
theorem State.epo_wf (h : s.wf = true) : s.epo.wf = true := (State.tabsWf_iff s).mp ((State.wf_iff s).mp h).2 |>.1.1.1.1.2
theorem State.wp_wf (h : s.wf = true) : s.wp.wf = true := (State.tabsWf_iff s).mp ((State.wf_iff s).mp h).2 |>.1.1.1.1.1.1.2
theorem State.ntn_wf (h : s.wf = true) : s.ntn.wf = true := (State.tabsWf_iff s).mp ((State.wf_iff s).mp h).2 |>.1.1.1.2
theorem State.warp_wf (h : s.wf = true) : s.warp.wf = true := (State.tabsWf_iff s).mp ((State.wf_iff s).mp h).2 |>.1.1.2
theorem State.link_wf (h : s.wf = true) : s.link.wf = true := (State.tabsWf_iff s).mp ((State.wf_iff s).mp h).2 |>.1.2
theorem State.upk_wf (h : s.wf = true) : s.upk.wf = true := (State.tabsWf_iff s).mp ((State.wf_iff s).mp h).2 |>.2
theorem State.evt_wf (h : s.wf = true) : s.evt.wf = true := (State.tabsWf_iff s).mp ((State.wf_iff s).mp h).2 |>.1.1.1.1.1.1.1.1.1
theorem State.map_wf (h : s.wf = true) : s.map.wf = true := (State.tabsWf_iff s).mp ((State.wf_iff s).mp h).2 |>.1.1.1.1.1.1.1.2

theorem head_setHead_same (h : Nat) (x : Head) (w : s.wf = true) : (s.setHead h x).head h = x :=
  Tab.get_set_same _ _ _ _ (s.host_wf w)
theorem head_setHead_other (h j : Nat) (x : Head) (n : j ≠ h) : (s.setHead h x).head j = s.head j :=
  Tab.get_set_other _ _ _ _ _ n
theorem dom_setDom_same (d : Nat) (x : Dom) (w : s.wf = true) : (s.setDom d x).dom d = x :=
  Tab.get_set_same _ _ _ _ (s.cry_wf w)
theorem dom_setDom_other (d j : Nat) (x : Dom) (n : j ≠ d) : (s.setDom d x).dom j = s.dom j :=
  Tab.get_set_other _ _ _ _ _ n
theorem epoDom_setEpoDom_same (d : Nat) (x : EpoDom) (w : s.wf = true) : (s.setEpoDom d x).epoDom d = x :=
  Tab.get_set_same _ _ _ _ (s.epo_wf w)
theorem epoDom_setEpoDom_other (d j : Nat) (x : EpoDom) (n : j ≠ d) : (s.setEpoDom d x).epoDom j = s.epoDom j :=
  Tab.get_set_other _ _ _ _ _ n
theorem group_setGroup_same (g : Nat) (x : Group) (w : s.wf = true) : (s.setGroup g x).group g = x :=
  Tab.get_set_same _ _ _ _ (s.wp_wf w)
theorem group_setGroup_other (g j : Nat) (x : Group) (n : j ≠ g) : (s.setGroup g x).group j = s.group j :=
  Tab.get_set_other _ _ _ _ _ n

theorem head_congr {s t : State} (e : t.host = s.host) (h : Nat) : t.head h = s.head h := by unfold State.head; rw [e]
theorem dom_congr {s t : State} (e : t.cry = s.cry) (d : Nat) : t.dom d = s.dom d := by unfold State.dom; rw [e]
theorem epoDom_congr {s t : State} (e : t.epo = s.epo) (d : Nat) : t.epoDom d = s.epoDom d := by unfold State.epoDom; rw [e]
theorem group_congr {s t : State} (e : t.wp = s.wp) (g : Nat) : t.group g = s.group g := by unfold State.group; rw [e]

/-! ### Events -/

theorem wf_evolves {t : State} {L : List Piece} (e : s.evolves t L) (w : s.wf = true) : t.wf = true := e.2 w
theorem wf_raise (e : Evt) (w : s.wf = true) : (s.raise e).wf = true := (State.raise_ev s e).2 w
theorem wf_raiseN (e : Evt) (i a : Nat) (w : s.wf = true) : (s.raiseN e i a).wf = true := (State.raiseN_ev s e i a).2 w
theorem wf_bump (f : Fld) (k : Nat) (w : s.wf = true) : (s.bump f k).wf = true := (State.bump_ev s f k).2 w
theorem wf_setHead (h : Nat) (x : Head) (w : s.wf = true) : (s.setHead h x).wf = true := (State.setHead_ev s h x).2 w
theorem wf_setDom (h : Nat) (x : Dom) (w : s.wf = true) : (s.setDom h x).wf = true := (State.setDom_ev s h x).2 w
theorem wf_setEpoDom (h : Nat) (x : EpoDom) (w : s.wf = true) : (s.setEpoDom h x).wf = true := (State.setEpoDom_ev s h x).2 w

/-- Changing parts outside the register stores keeps an event bit. -/
theorem evtSet_of_reg {s t : State} {e : Evt} (h : t.reg e.stsOff = s.reg e.stsOff) : t.evtSet e ↔ s.evtSet e := by
  unfold State.evtSet; rw [h]
@[simp] theorem evtSet_emit (o : Output) (e : Evt) : (s.emit o).evtSet e ↔ s.evtSet e := Iff.rfl
@[simp] theorem reg_answerMbox (h : Nat) (rc : Rc) (l : List Nat) (off : Nat) : (s.answerMbox h rc l).reg off = s.reg off := rfl
@[simp] theorem fld_answerMbox (h : Nat) (rc : Rc) (l : List Nat) (f : Fld) : (s.answerMbox h rc l).fld f = s.fld f := rfl
@[simp] theorem evtSet_answerMbox (h : Nat) (rc : Rc) (l : List Nat) (e : Evt) : (s.answerMbox h rc l).evtSet e ↔ s.evtSet e := Iff.rfl

/-- An event bit stays set while other registers are written. -/
theorem evtSet_setFld_other (f : Fld) (v : Nat) (e : Evt) (h : e.stsOff ≠ f.off) : (s.setFld f v).evtSet e ↔ s.evtSet e :=
  evtSet_of_reg (reg_setFld_other s _ _ _ h)
theorem evtSet_bump_other (f : Fld) (v : Nat) (e : Evt) (h : e.stsOff ≠ f.off) : (s.bump f v).evtSet e ↔ s.evtSet e :=
  evtSet_of_reg (reg_setFld_other s _ _ _ h)

theorem stsOff_info (e : Evt) : e.stsOff + 0x18 ≠ 0x5130 := by
  unfold Evt.stsOff
  have : e.blk.base % 0x1000 = 0 := by cases e.blk <;> rfl
  omega

/-- ERR_INFO after an event: what the event captured, with its bit number as CAUSE (R557). -/
theorem reg_raiseAt_info (e : Evt) (i a : Word) (w : s.wf = true) :
    (s.raiseAt e i a).reg (e.stsOff + 0x18) = putBits i 7 0 e.bit := by
  unfold State.raiseAt
  dsimp only
  rw [reg_recordEvt_other _ _ _ _ _ _ (stsOff_info e), reg_setEvtBit_other _ _ _ (by omega)]
  unfold State.capture
  rw [reg_setReg_other _ _ _ _ (by omega), reg_setReg_same _ _ _ w]

theorem stsOff_addr (e : Evt) : e.stsOff + 0x20 ≠ 0x5130 := by
  unfold Evt.stsOff
  have : e.blk.base % 0x1000 = 0 := by cases e.blk <;> rfl
  omega

/-- ERR_ADDR after an event. -/
theorem reg_raiseAt_addr (e : Evt) (i a : Word) (w : s.wf = true) :
    (s.raiseAt e i a).reg (e.stsOff + 0x20) = a := by
  unfold State.raiseAt
  dsimp only
  rw [reg_recordEvt_other _ _ _ _ _ _ (stsOff_addr e), reg_setEvtBit_other _ _ _ (by omega)]
  unfold State.capture
  rw [reg_setReg_same _ _ _ (wf_setReg s _ _ w)]

/-- A bit that is set stays set when another event is raised. -/
theorem evtSet_raiseAt_mono (e f : Evt) (i a : Word) (w : s.wf = true) (h : s.evtSet e)
    (h1 : e.stsOff ≠ f.stsOff + 0x18) (h2 : e.stsOff ≠ f.stsOff + 0x20) : (s.raiseAt f i a).evtSet e := by
  by_cases c : e.stsOff = f.stsOff
  · unfold State.evtSet at *
    unfold State.raiseAt
    dsimp only
    rw [reg_recordEvt_other _ _ _ _ _ _ (stsOff_ne_cnt e), c, reg_setEvtBit_same _ _ ((State.capture_ev s f i a).2 w)]
    unfold State.capture
    rw [reg_setReg_other _ _ _ _ (by omega), reg_setReg_other _ _ _ _ (by omega), ← c]
    simp [h]
  · rw [evtSet_of_reg]
    · exact h
    · refine reg_raiseAt_other s f i a _ ?_
      simp only [Evt.regs, List.mem_cons, List.not_mem_nil, or_false, not_or]
      exact ⟨c, h1, h2, stsOff_ne_cnt e⟩

/-! ### Saturating counts -/

theorem fld_lt (f : Fld) (hl : f.lo ≤ f.hi) (hh : f.hi < 64) : s.fld f < 2 ^ (f.hi + 1 - f.lo) := by
  unfold State.fld getBits
  have : ∀ w : Word, ((w &&& maskOf f.hi f.lo) >>> f.lo).toNat < 2 ^ (f.hi + 1 - f.lo) := by
    intro w
    refine Nat.lt_pow_two_of_testBit _ fun i hi => ?_
    rw [← BitVec.getLsbD, BitVec.getLsbD_ushiftRight, BitVec.getLsbD_and]
    by_cases h : f.lo + i < 64
    · rw [getLsbD_maskOf _ _ _ hl hh h]; simp; omega
    · simp [BitVec.getLsbD_of_ge _ _ (Nat.le_of_not_lt h)]
  exact this _

/-- A bumped count holds the saturated sum. -/
theorem fld_bump_same (f : Fld) (k : Nat) (w : s.wf = true) (hl : f.lo ≤ f.hi) (hh : f.hi < 64) :
    (s.bump f k).fld f = satAdd (f.hi + 1 - f.lo) (s.fld f) k := by
  unfold State.bump
  refine fld_setFld_same s f _ w hl hh ?_
  unfold satAdd
  have : 0 < 2 ^ (f.hi + 1 - f.lo) := Nat.pos_of_ne_zero (by simp)
  omega

/-- A field of a word written out as a number. -/
theorem getBits_ofNat (v hi lo : Nat) (hl : lo ≤ hi) (hh : hi < 64) :
    getBits (BitVec.ofNat 64 v) hi lo = v / 2 ^ lo % 2 ^ (hi + 1 - lo) := by
  unfold getBits
  have e : (BitVec.ofNat 64 v &&& maskOf hi lo) >>> lo = BitVec.ofNat 64 (v / 2 ^ lo % 2 ^ (hi + 1 - lo)) := by
    ext i hi'
    simp only [← BitVec.getLsbD_eq_getElem, BitVec.getLsbD_ushiftRight, BitVec.getLsbD_and, BitVec.getLsbD_ofNat, hi',
      decide_true, Bool.true_and, Nat.testBit_mod_two_pow, Nat.testBit_div_two_pow]
    by_cases h : lo + i < 64
    · rw [getLsbD_maskOf _ _ _ hl hh h]
      simp only [h, decide_true, Bool.true_and, show lo ≤ lo + i by omega, true_and]
      by_cases c : lo + i ≤ hi
      · have : i < hi + 1 - lo := by omega
        simp [c, this, Nat.add_comm]
      · have : ¬ i < hi + 1 - lo := by omega
        simp [c, this]
    · have : ¬ i < hi + 1 - lo := by omega
      simp [this, h]
  rw [e, BitVec.toNat_ofNat, Nat.mod_eq_of_lt]
  exact Nat.lt_of_lt_of_le (Nat.mod_lt _ (by simp)) (Nat.pow_le_pow_right (by omega) (by omega))

/-- A field of ERR_INFO above CAUSE after an event with its fields given as a number. -/
theorem getBits_info (e : Evt) (i a off hi lo : Nat) (w : s.wf = true) (ho : off = e.stsOff + 0x18) (h8 : 8 ≤ lo)
    (hl : lo ≤ hi) (hh : hi < 64) : getBits ((s.raiseN e i a).reg off) hi lo = i / 2 ^ lo % 2 ^ (hi + 1 - lo) := by
  have x : (s.raiseN e i a).reg off = putBits (BitVec.ofNat 64 i) 7 0 e.bit := by
    rw [ho]; exact reg_raiseAt_info s e _ _ w
  rw [x, getBits_putBits_other _ _ _ _ _ _ (by decide) (by decide) hl hh (by omega), getBits_ofNat _ _ _ hl hh]

end Sys2Proof.Machine
end

