-- ==== Sys2Proof/Laws/Counters.lean ====
section
/-!
SUPPORT. The laws of spread counters (R494, R495): the value is that of the largest valid cell, and an increment below the
limit whose next cell is good writes that cell and raises the value.
-/
namespace Sys2Proof.Machine

variable (s : State)

theorem bestCell_congr {s t : State} (c n : Nat) (h : ∀ j, j < n → t.cell c j = s.cell c j) : t.bestCell c n = s.bestCell c n := by
  induction n with
  | zero => rfl
  | succ n ih =>
    unfold State.bestCell
    rw [ih (fun j hj => h j (by omega)), h n (by omega)]

/-- The best cell is valid, within range, and no cell holds more. -/
theorem bestCell_spec {s : State} {c n j v : Nat} (h : s.bestCell c n = some (j, v)) :
    j < n ∧ s.cell c j = some v ∧ ∀ i, i < n → ∀ u, s.cell c i = some u → u ≤ v := by
  induction n generalizing j v with
  | zero => simp [State.bestCell] at h
  | succ n ih =>
    unfold State.bestCell at h
    split at h
    · cases h
    · rename_i b hb hc
      cases h
      obtain ⟨a1, a2, a3⟩ := ih hb
      refine ⟨by omega, a2, fun i hi u hu => ?_⟩
      by_cases q : i = n
      · subst q; rw [hc] at hu; cases hu
      · exact a3 i (by omega) u hu
    · rename_i w hb hc
      cases h
      refine ⟨by omega, hc, fun i hi u hu => ?_⟩
      by_cases q : i = n
      · subst q; rw [hc] at hu; cases hu; omega
      · exfalso
        have : ∀ m, s.bestCell c m = none → ∀ i, i < m → s.cell c i = none := by
          intro m
          induction m with
          | zero => intro _ i hi; omega
          | succ m ihm =>
            intro hm i hi
            unfold State.bestCell at hm
            split at hm <;> rename_i h1 h2
            · by_cases qi : i = m
              · subst qi; exact h2
              · exact ihm h1 i (by omega)
            · cases hm
            · cases hm
            · split at hm <;> cases hm
        rw [this n hb i (by omega)] at hu; cases hu
    · rename_i jb vb w hb hc
      obtain ⟨a1, a2, a3⟩ := ih hb
      split at h <;> rename_i lt <;> cases h
      · refine ⟨by omega, hc, fun i hi u hu => ?_⟩
        by_cases q : i = n
        · subst q; rw [hc] at hu; cases hu; omega
        · have := a3 i (by omega) u hu; omega
      · refine ⟨by omega, a2, fun i hi u hu => ?_⟩
        by_cases q : i = n
        · subst q; rw [hc] at hu; cases hu; omega
        · exact a3 i (by omega) u hu

theorem bestCell_some {s : State} {c n i u : Nat} (hi : i < n) (h : s.cell c i = some u) : ∃ p, s.bestCell c n = some p := by
  induction n with
  | zero => omega
  | succ n ih =>
    unfold State.bestCell
    by_cases q : i = n
    · subst q; rw [h]
      cases s.bestCell c i with
      | none => exact ⟨_, rfl⟩
      | some b => obtain ⟨a, b⟩ := b; dsimp only; split <;> exact ⟨_, rfl⟩
    · obtain ⟨p, hp⟩ := ih (by omega)
      rw [hp]
      cases s.cell c n with
      | none => exact ⟨_, rfl⟩
      | some b => obtain ⟨a, b'⟩ := p; dsimp only; split <;> exact ⟨_, rfl⟩

theorem cell_setCell_same (c j : Nat) (v : Option Nat) (w : s.wf = true) : (s.setCell c j v).cell c j = v :=
  Tab.get_set_same _ _ _ _ (s.ntn_wf w)

theorem cell_setCell_other (c j c' j' : Nat) (v : Option Nat) (h : 16 * c' + j' ≠ 16 * c + j) :
    (s.setCell c j v).cell c' j' = s.cell c' j' := Tab.get_set_other _ _ _ _ _ h

/-- A counter's value from its best cell. -/
theorem ctr_of_best {s : State} {c j v : Nat} (b : s.bestCell c 16 = some (j, v)) : s.ctr c = some v := by simp [State.ctr, b]
theorem ctrVal_of_best {s : State} {c j v : Nat} (b : s.bestCell c 16 = some (j, v)) : s.ctrVal c = v := by
  simp [State.ctrVal, ctr_of_best b]

/-- Writing a larger value into one cell makes it the counter's value. -/
theorem ctr_setCell (c j k v u : Nat) (w : s.wf = true) (hk : k < 16) (b : s.bestCell c 16 = some (j, v)) (hu : v ≤ u) :
    (s.setCell c k (some u)).ctr c = some u := by
  have e := cell_setCell_same s c k (some u) w
  obtain ⟨⟨j', v'⟩, hp⟩ := bestCell_some (n := 16) hk e
  obtain ⟨a1, a2, a3⟩ := bestCell_spec hp
  have le := a3 k hk u e
  obtain ⟨c1, c2, c3⟩ := bestCell_spec b
  have : v' ≤ u := by
    by_cases q : j' = k
    · subst q; rw [e] at a2; cases a2; omega
    · rw [cell_setCell_other _ _ _ _ _ _ (by omega)] at a2
      have := c3 j' a1 v' a2; omega
  rw [ctr_of_best hp]; congr 1; omega

/-- An increment below the limit whose next cell is good (R495). -/
theorem ctrInc_ok (c k j v : Nat) (hc : c ≠ 1) (b : s.bestCell c 16 = some (j, v)) (l : v + k ≤ ctrLimit c)
    (g : s.cellGood c ((j + 1) % 16) = true) :
    s.ctrInc c k = (s.setCell c ((j + 1) % 16) (some (v + k)), .ok) := by
  unfold State.ctrInc
  dsimp only
  rw [ctrVal_of_best b, if_neg hc, Nat.sub_zero, Nat.zero_add, if_pos l]
  unfold State.ctrWrite
  rw [b]
  dsimp only
  rw [if_pos g]

end Sys2Proof.Machine
end

