-- ==== Sys2Proof/Laws/EvRegs.lean ====
section
/-!
SUPPORT. What each operation of Machine/Regs.lean may change: its parts of the state, and that the register stores stay
canonical.
-/
set_option Elab.async false
namespace Sys2Proof.Machine

theorem State.writeDomain_ev (a0 : State) (a1 : Nat) (a2 : Word) (a3 : Word) :
    State.evolves a0 (State.writeDomain a0 a1 a2 a3) [.cry] := by
  unfold State.writeDomain; extract_lets +onlyGivenNames x1; clear_value x1; refine ev_ite ?_ ?_
  · refine ev_step ?_ (State.setDom_ev _ _ _) rfl; exact ev_refl
  · exact ev_refl

theorem State.writeEpoDomCfg_ev (a0 : State) (a1 : Word) (a2 : Word) :
    State.evolves a0 (State.writeEpoDomCfg a0 a1 a2) [.epo] := by
  unfold State.writeEpoDomCfg; extract_lets +onlyGivenNames x1; clear_value x1
  extract_lets +onlyGivenNames x2; clear_value x2; extract_lets +onlyGivenNames x3; clear_value x3
  extract_lets +onlyGivenNames x4; clear_value x4; extract_lets +onlyGivenNames x5; clear_value x5
  refine ev_step ?_ (State.setEpoDom_ev _ _ _) rfl; exact ev_refl

theorem State.noteEnable_ev (a0 : State) (a1 : State) (a2 : Block) (a3 : Nat) (a4 : Nat) :
    State.evolves a0 (State.noteEnable a0 a1 a2 a3 a4) [.host] := by
  induction a4 generalizing a0 a1 a2 a3
  · unfold State.noteEnable; exact ev_refl
  · rename_i z1 ih2; unfold State.noteEnable; refine ev_step ?_ (State.noteSource_ev _ _ _) rfl
    refine ev_step ?_ (ih2 _ _ _ _) rfl; exact ev_refl

theorem State.writePage_ev (a0 : State) (a1 : Block) (a2 : Nat) (a3 : Nat) (a4 : Nat) (a5 : Word) (a6 : Word) :
    State.evolves a0 (State.writePage a0 a1 a2 a3 a4 a5 a6) [.regs, .pmc, .host, .epo] := by
  unfold State.writePage; refine ev_ite ?_ ?_
  · exact ev_refl
  · refine ev_ite ?_ ?_
    · refine ev_step ?_ (State.writeEpoDomCfg_ev _ _ _) rfl; exact ev_refl
    · split
      · rename_i y1 y2; exact ev_refl
      · rename_i y3 y4 y5; extract_lets +onlyGivenNames x6; clear_value x6; refine ev_ite ?_ ?_
        · refine ev_ite ?_ ?_
          · refine ev_step ?_ (State.noteEnable_ev _ _ _ _ _) rfl; refine ev_step ?_ (State.setReg_ev _ _ _) rfl
            exact ev_refl
          · refine ev_step ?_ (State.setReg_ev _ _ _) rfl; exact ev_refl
        · exact ev_refl

theorem State.writeBar_ev (a0 : State) (a1 : Nat) (a2 : Nat) (a3 : Nat) (a4 : Word) :
    State.evolves a0 (State.writeBar a0 a1 a2 a3 a4) [.regs, .pmc, .route, .evt, .host, .cry, .epo] := by
  unfold State.writeBar; extract_lets +onlyGivenNames x1; clear_value x1
  extract_lets +onlyGivenNames x2; clear_value x2; extract_lets +onlyGivenNames x3; clear_value x3
  split
  · rename_i y4 y5; exact ev_refl
  · rename_i y6 y7; refine ev_step ?_ (State.writeDomain_ev _ _ _ _) rfl; exact ev_refl
  · rename_i y8 y9; refine ev_step ?_ (State.writeRouting_ev _ _ _ _) rfl; exact ev_refl
  · rename_i y10 y11
    split
    · rename_i y12 y13 y14 y15 y16; refine ev_step ?_ (State.writePage_ev _ _ _ _ _ _ _) rfl; exact ev_refl
    · rename_i y17 y18; refine ev_step ?_ (State.accessErr_ev _ _ _ _ _ _) rfl; exact ev_refl

theorem execMisalignedAccess_ev (a0 : Nat) (a1 : Bool) (a2 : Nat) (a3 : Nat) (a4 : State) :
    State.evX a4 (execMisalignedAccess a0 a1 a2 a3 a4) [.regs, .pmc, .evt, .host, .out] := by
  unfold execMisalignedAccess; extract_lets +onlyGivenNames x1
  have h1 : State.evolves a4 x1 [.regs, .pmc, .evt, .host, .out] := by
    subst x1; refine ev_step ?_ (State.begin_ev _) rfl; exact ev_refl
  clear_value x1; refine evX_ite ?_ ?_
  · refine evX_done ?_; refine ev_step ?_ (State.emit_ev _ _) rfl; assumption
  · refine evX_ite ?_ ?_
    · refine evX_done ?_; assumption
    · extract_lets +onlyGivenNames x2
      have h2 : State.evolves a4 x2 [.regs, .pmc, .evt, .host, .out] := by
        subst x2; refine ev_step ?_ (State.accessErr_ev _ _ _ _ _ _) rfl; assumption
      clear_value x2; refine evX_done ?_; refine ev_ite ?_ ?_
      · assumption
      · refine ev_step ?_ (State.emit_ev _ _) rfl; assumption

theorem State.forceBits_ev (a0 : State) (a1 : Block) (a2 : Nat) (a3 : Word) (a4 : Nat) :
    State.evolves a0 (State.forceBits a0 a1 a2 a3 a4) [.regs, .pmc, .evt, .host] := by
  induction a4 generalizing a0 a1 a2 a3
  · unfold State.forceBits; exact ev_refl
  · rename_i z1 ih2; unfold State.forceBits; extract_lets +onlyGivenNames x1
    have h1 : State.evolves a0 x1 [.regs, .pmc, .evt, .host] := by
      subst x1; refine ev_step ?_ (ih2 _ _ _ _) rfl; exact ev_refl
    clear_value x1; refine ev_ite ?_ ?_
    · refine ev_step ?_ (State.force_ev _ _) rfl; assumption
    · assumption

theorem execEvtForce_ev (a0 : Nat) (a1 : Nat) (a2 : Nat) (a3 : BitVec 64) (a4 : State) :
    State.evX a4 (execEvtForce a0 a1 a2 a3 a4) [.regs, .pmc, .evt, .host, .out] := by
  unfold execEvtForce; refine evX_done ?_; unfold State.barWrite; extract_lets +onlyGivenNames x1
  have h1 : State.evolves a4 x1 [.regs, .pmc, .evt, .host, .out] := by
    subst x1; refine ev_step ?_ (State.begin_ev _) rfl; exact ev_refl
  clear_value x1; refine ev_ite ?_ ?_
  · refine ev_step ?_ (State.emit_ev _ _) rfl; assumption
  · refine ev_ite ?_ ?_
    · refine ev_step ?_ (State.accessErr_ev _ _ _ _ _ _) rfl; assumption
    · beta_reduce; extract_lets +onlyGivenNames x2; clear_value x2
      split
      · rename_i y3 y4 y5 y6; refine ev_ite ?_ ?_
        · assumption
        · refine ev_step ?_ (State.forceBits_ev _ _ _ _ _) rfl; assumption
      · rename_i y7 y8; assumption

theorem execControlBarWrite_ev (a0 : Nat) (a1 : Nat) (a2 : Nat) (a3 : BitVec 64) (a4 : State) :
    State.evX a4 (execControlBarWrite a0 a1 a2 a3 a4) [.regs, .pmc, .route, .evt, .host, .cry, .epo, .out] := by
  unfold execControlBarWrite; extract_lets +onlyGivenNames x1
  have h1 : State.evolves a4 x1 [.regs, .pmc, .route, .evt, .host, .cry, .epo, .out] := by
    subst x1; refine ev_step ?_ (State.begin_ev _) rfl; exact ev_refl
  clear_value x1; refine evX_ite ?_ ?_
  · refine evX_done ?_; refine ev_step ?_ (State.emit_ev _ _) rfl; assumption
  · refine evX_ite ?_ ?_
    · refine evX_done ?_; refine ev_step ?_ (State.accessErr_ev _ _ _ _ _ _) rfl; assumption
    · refine evX_ite ?_ ?_
      · refine evX_done ?_; refine ev_step ?_ (State.accessErr_ev _ _ _ _ _ _) rfl; assumption
      · refine evX_done ?_; refine ev_step ?_ (State.writeBar_ev _ _ _ _ _) rfl; assumption

theorem execEvtStsClear_ev (a0 : Nat) (a1 : Nat) (a2 : Nat) (a3 : BitVec 64) (a4 : State) :
    State.evX a4 (execEvtStsClear a0 a1 a2 a3 a4) [.regs, .pmc, .evt, .host, .out] := by
  unfold execEvtStsClear; refine evX_done ?_; unfold State.barWrite; extract_lets +onlyGivenNames x1
  have h1 : State.evolves a4 x1 [.regs, .pmc, .evt, .host, .out] := by
    subst x1; refine ev_step ?_ (State.begin_ev _) rfl; exact ev_refl
  clear_value x1; refine ev_ite ?_ ?_
  · refine ev_step ?_ (State.emit_ev _ _) rfl; assumption
  · refine ev_ite ?_ ?_
    · refine ev_step ?_ (State.accessErr_ev _ _ _ _ _ _) rfl; assumption
    · beta_reduce; extract_lets +onlyGivenNames x2; clear_value x2
      split
      · rename_i y3 y4 y5 y6; refine ev_ite ?_ ?_
        · assumption
        · refine ev_step ?_ (State.setReg_ev _ _ _) rfl; assumption
      · rename_i y7 y8; assumption

end Sys2Proof.Machine
end

