-- ==== Sys2Proof/Laws/EvHealth.lean ====
section
/-!
SUPPORT. What each operation of Machine/Health.lean may change: its parts of the state, and that the register stores stay
canonical.
-/
set_option Elab.async false
namespace Sys2Proof.Machine

theorem State.setBolt_ev (a0 : State) (a1 : Nat) (a2 : Nat) (a3 : Bolt) :
    State.evolves a0 (State.setBolt a0 a1 a2 a3) [.upk] := by
  unfold State.setBolt; extract_lets +onlyGivenNames x1; subst x1
  refine ev_upk ?_ rfl (fun z => (UpkState.wf_iff _).mpr (by have w := (UpkState.wf_iff _).mp z; exact ⟨⟨⟨Tab.wf_set _ _ _ _ w.1.1.1, w.1.1.2⟩, w.1.2⟩, w.2⟩))
  exact ev_refl

theorem State.setWarp1_ev (a0 : State) (a1 : Nat) (a2 : SkeinWarp) :
    State.evolves a0 (State.setWarp1 a0 a1 a2) [.warp] := by
  unfold State.setWarp1; extract_lets +onlyGivenNames x1; subst x1
  refine ev_warp ?_ rfl (fun w => Tab.wf_set _ _ _ _ w); exact ev_refl

theorem State.setUpkG_ev (a0 : State) (a1 : Nat) (a2 : UpkGroup) :
    State.evolves a0 (State.setUpkG a0 a1 a2) [.upk] := by
  unfold State.setUpkG; extract_lets +onlyGivenNames x1; subst x1
  refine ev_upk ?_ rfl (fun z => (UpkState.wf_iff _).mpr (by have w := (UpkState.wf_iff _).mp z; exact ⟨⟨⟨w.1.1.1, Tab.wf_set _ _ _ _ w.1.1.2⟩, w.1.2⟩, w.2⟩))
  exact ev_refl

theorem State.logAdd_ev (a0 : State) (a1 : Nat) (a2 : Nat) (a3 : CxlRec) :
    State.evolves a0 (State.logAdd a0 a1 a2 a3) [.host] := by
  unfold State.logAdd; extract_lets +onlyGivenNames x1; clear_value x1
  extract_lets +onlyGivenNames x2; clear_value x2; refine ev_ite ?_ ?_
  · extract_lets +onlyGivenNames x3
    have h3 : State.evolves a0 x3 [.host] := by
      subst x3; refine ev_step ?_ (State.setHead_ev _ _ _) rfl; exact ev_refl
    clear_value x3; extract_lets +onlyGivenNames x4; clear_value x4; refine ev_ite ?_ ?_
    · refine ev_step ?_ (State.pendVector_ev _ _ _) rfl; assumption
    · assumption
  · refine ev_step ?_ (State.setHead_ev _ _ _) rfl; exact ev_refl

theorem State.postCxl_ev (a0 : State) (a1 : CxlKind) (a2 : Nat) (a3 : Nat) (a4 : List Nat) :
    State.evolves a0 (State.postCxl a0 a1 a2 a3 a4) [.evt, .host] := by
  unfold State.postCxl; extract_lets +onlyGivenNames x1; subst x1; extract_lets +onlyGivenNames x2
  have h2 : State.evolves a0 x2 [.evt, .host] := by
    subst x2; refine ev_evt ?_ rfl EvtState.wf_upd; exact ev_refl
  clear_value x2; extract_lets +onlyGivenNames x3; clear_value x3; refine ev_foldl ?_ ?_
  · assumption
  · intro x4 x5 x6; refine ev_step ?_ (State.logAdd_ev _ _ _ _) rfl; assumption

theorem State.checkAlerts_ev (a0 : State) : State.evolves a0 (State.checkAlerts a0) [.evt, .host, .ntn] := by
  unfold State.checkAlerts; extract_lets +onlyGivenNames x1; clear_value x1; extract_lets +onlyGivenNames x2
  have h2 : State.evolves a0 x2 [.evt, .host, .ntn] := by
    subst x2; refine ev_foldl ?_ ?_
    · exact ev_refl
    · intro x3 x4 x5; refine ev_ite ?_ ?_
      · refine ev_step ?_ (State.postCxl_ev _ _ _ _ _) rfl; assumption
      · assumption
  clear_value x2; extract_lets +onlyGivenNames x6; subst x6; refine ev_ntn ?_ rfl NotionState.wf_upd; assumption

theorem State.setLink1_ev (a0 : State) (a1 : Nat) (a2 : SkeinLink) :
    State.evolves a0 (State.setLink1 a0 a1 a2) [.link] := by
  unfold State.setLink1; extract_lets +onlyGivenNames x1; subst x1
  refine ev_link ?_ rfl (fun w => Tab.wf_set _ _ _ _ w); exact ev_refl

theorem State.saveHist_ev (a0 : State) : State.evolves a0 (State.saveHist a0) [.ntn] := by
  unfold State.saveHist; extract_lets +onlyGivenNames x1; subst x1; refine ev_ntn ?_ rfl NotionState.wf_upd
  exact ev_refl

end Sys2Proof.Machine
end

