-- ==== Sys2Proof/Laws/EvTime.lean ====
section
/-!
SUPPORT. What each operation of Machine/Time.lean may change: its parts of the state, and that the register stores stay
canonical.
-/
set_option Elab.async false
namespace Sys2Proof.Machine

theorem State.acceptEdge_ev (a0 : State) : State.evolves a0 (State.acceptEdge a0) [.regs, .pmc, .time] := by
  unfold State.acceptEdge; extract_lets +onlyGivenNames x1; clear_value x1
  extract_lets +onlyGivenNames x2; clear_value x2; extract_lets +onlyGivenNames x3; clear_value x3
  extract_lets +onlyGivenNames x4; clear_value x4; extract_lets +onlyGivenNames x5; clear_value x5
  extract_lets +onlyGivenNames x6; clear_value x6; extract_lets +onlyGivenNames x7
  have h7 : State.evolves a0 x7 [.regs, .pmc, .time] := by
    subst x7; refine ev_time ?_ rfl; exact ev_refl
  clear_value x7; extract_lets +onlyGivenNames x8
  have h8 : State.evolves a0 x8 [.regs, .pmc, .time] := by
    subst x8; refine ev_step ?_ (State.setFld_ev _ _ _) rfl; refine ev_step ?_ (State.setFld_ev _ _ _) rfl
    refine ev_step ?_ (State.bump_ev _ _ _) rfl; assumption
  clear_value x8; refine ev_step ?_ (State.setFld_ev _ _ _) rfl; assumption

theorem State.provisionalAges_ev (a0 : State) (a1 : Nat) :
    State.evolves a0 (State.provisionalAges a0 a1) [.rd, .upk] := by
  unfold State.provisionalAges; extract_lets +onlyGivenNames x1; subst x1
  extract_lets +onlyGivenNames x2; clear_value x2; extract_lets +onlyGivenNames x3; subst x3
  refine ev_updW ?_ id id id id id id id id id (fun z => (UpkState.wf_iff _).mpr (by have w := (UpkState.wf_iff _).mp z; dsimp only; exact ⟨⟨⟨Tab.wf_mapVals _ _ _ w.1.1.1, w.1.1.2⟩, w.1.2⟩, w.2⟩)) (by intro p; cases p <;> first | exact .inl (by decide) | exact .inr rfl | exact .inr ⟨rfl, rfl⟩)
  exact ev_refl

theorem execSetTimestamp_ev (a0 : Nat) (a1 : BitVec 64) (a2 : State) :
    State.evX a2 (execSetTimestamp a0 a1 a2) [.regs, .pmc, .time, .evt, .host, .rd, .upk, .out] := by
  unfold execSetTimestamp; refine evX_done ?_; unfold State.mailboxRw; unfold State.mailbox
  extract_lets +onlyGivenNames x1
  have h1 : State.evolves a2 x1 [.regs, .pmc, .time, .evt, .host, .rd, .upk, .out] := by
    subst x1; refine ev_step ?_ (State.begin_ev _) rfl; exact ev_refl
  clear_value x1; refine ev_ite ?_ ?_
  · refine ev_step ?_ (State.emit_ev _ _) rfl; assumption
  · refine ev_ite ?_ ?_
    · refine ev_step ?_ (State.emit_ev _ _) rfl; assumption
    · beta_reduce; refine ev_ite ?_ ?_
      · refine ev_step ?_ (State.answerMbox_ev _ _ _ _) rfl; assumption
      · extract_lets +onlyGivenNames x2; clear_value x2; extract_lets +onlyGivenNames x3; clear_value x3
        extract_lets +onlyGivenNames x4
        have h4 : State.evolves a2 x4 [.regs, .pmc, .time, .evt, .host, .rd, .upk, .out] := by
          subst x4; refine ev_time ?_ rfl; assumption
        clear_value x4; extract_lets +onlyGivenNames x5
        have h5 : State.evolves a2 x5 [.regs, .pmc, .time, .evt, .host, .rd, .upk, .out] := by
          subst x5; refine ev_step ?_ (State.raise_ev _ _) rfl; refine ev_step ?_ (State.setFld_ev _ _ _) rfl
          assumption
        clear_value x5; extract_lets +onlyGivenNames x6
        have h6 : State.evolves a2 x6 [.regs, .pmc, .time, .evt, .host, .rd, .upk, .out] := by
          subst x6
          split
          · rename_i y7 y8 y9; refine ev_ite ?_ ?_
            · refine ev_step ?_ (State.provisionalAges_ev _ _) rfl; assumption
            · assumption
          · rename_i y10 y11; assumption
        clear_value x6; refine ev_step ?_ (State.answerMbox_ev _ _ _ _) rfl; assumption

theorem State.tick_ev (a0 : State) : State.evolves a0 (State.tick a0) [.time, .out] := by
  unfold State.tick; refine ev_ite ?_ ?_
  · extract_lets +onlyGivenNames x1; clear_value x1
    refine ev_updW ?_ id id id id id id id id id id (by intro p; cases p <;> first | exact .inl (by decide) | exact .inr rfl | exact .inr ⟨rfl, rfl⟩)
    exact ev_refl
  · refine ev_out ?_ rfl; exact ev_refl

theorem execPpsLost_ev (a0 : State) : State.evX a0 (execPpsLost a0) [.regs, .pmc, .time, .evt, .host, .out] := by
  unfold execPpsLost; refine evX_done ?_; refine ev_when ?_ rfl ?_
  · exact ev_refl
  · intro x1 x2; extract_lets +onlyGivenNames x3; clear_value x3; extract_lets +onlyGivenNames x4
    have h4 : State.evolves a0 x4 [.regs, .pmc, .time, .evt, .host, .out] := by
      subst x4; refine ev_time ?_ rfl; assumption
    clear_value x4; refine ev_step ?_ (State.raise_ev _ _) rfl; refine ev_step ?_ (State.setFld_ev _ _ _) rfl
    assumption

theorem execGetTimestamp_ev (a0 : Nat) (a1 : State) : State.evX a1 (execGetTimestamp a0 a1) [.out] := by
  unfold execGetTimestamp; refine evX_done ?_; unfold State.mailbox; extract_lets +onlyGivenNames x1
  have h1 : State.evolves a1 x1 [.out] := by
    subst x1; refine ev_step ?_ (State.begin_ev _) rfl; exact ev_refl
  clear_value x1; refine ev_ite ?_ ?_
  · refine ev_step ?_ (State.emit_ev _ _) rfl; assumption
  · refine ev_ite ?_ ?_
    · refine ev_step ?_ (State.emit_ev _ _) rfl; assumption
    · beta_reduce; refine ev_step ?_ (State.answerMbox_ev _ _ _ _) rfl; assumption

theorem execSetMachineIndex_ev (a0 : Nat) (a1 : BitVec 32) (a2 : State) :
    State.evX a2 (execSetMachineIndex a0 a1 a2) [.regs, .pmc, .evt, .host, .out] := by
  unfold execSetMachineIndex; refine evX_done ?_; unfold State.mailboxRw; unfold State.mailbox
  extract_lets +onlyGivenNames x1
  have h1 : State.evolves a2 x1 [.regs, .pmc, .evt, .host, .out] := by
    subst x1; refine ev_step ?_ (State.begin_ev _) rfl; exact ev_refl
  clear_value x1; refine ev_ite ?_ ?_
  · refine ev_step ?_ (State.emit_ev _ _) rfl; assumption
  · refine ev_ite ?_ ?_
    · refine ev_step ?_ (State.emit_ev _ _) rfl; assumption
    · beta_reduce; refine ev_ite ?_ ?_
      · refine ev_step ?_ (State.answerMbox_ev _ _ _ _) rfl; assumption
      · extract_lets +onlyGivenNames x2; clear_value x2; refine ev_ite ?_ ?_
        · refine ev_step ?_ (State.answerMbox_ev _ _ _ _) rfl; assumption
        · refine ev_ite ?_ ?_
          · refine ev_ite ?_ ?_
            · refine ev_step ?_ (State.answerMbox_ev _ _ _ _) rfl; assumption
            · refine ev_step ?_ (State.answerMbox_ev _ _ _ _) rfl; assumption
          · refine ev_step ?_ (State.answerMbox_ev _ _ _ _) rfl; refine ev_step ?_ (State.raise_ev _ _) rfl
            refine ev_step ?_ (State.setFld_ev _ _ _) rfl; refine ev_step ?_ (State.setFld_ev _ _ _) rfl; assumption

theorem execOptimeTick_ev (a0 : State) : State.evX a0 (execOptimeTick a0) [.regs, .pmc, .evt, .host, .ntn, .out] := by
  unfold execOptimeTick; refine evX_done ?_; refine ev_when ?_ rfl ?_
  · exact ev_refl
  · intro x1 x2; refine ev_fst1 ?_; refine evP_step ?_ (State.ctrInc_ev _ _ _) rfl; assumption

theorem execPpsEdge_ev (a0 : State) : State.evX a0 (execPpsEdge a0) [.regs, .pmc, .time, .evt, .host, .out] := by
  unfold execPpsEdge; refine evX_done ?_; refine ev_when ?_ rfl ?_
  · exact ev_refl
  · intro x1 x2; refine ev_ite ?_ ?_
    · refine ev_ite ?_ ?_
      · refine ev_step ?_ (State.acceptEdge_ev _) rfl; assumption
      · refine ev_step ?_ (State.bump_ev _ _ _) rfl; assumption
    · split
      · rename_i y3 y4 y5; refine ev_ite ?_ ?_
        · refine ev_step ?_ (State.raise_ev _ _) rfl; refine ev_step ?_ (State.acceptEdge_ev _) rfl; assumption
        · extract_lets +onlyGivenNames x6; clear_value x6; refine ev_time ?_ rfl; assumption
      · rename_i y7 y8; extract_lets +onlyGivenNames x9; clear_value x9; refine ev_time ?_ rfl; assumption

end Sys2Proof.Machine
end

