-- ==== Sys2Proof/Laws/EvBolts.lean ====
section
/-!
SUPPORT. What each operation of Machine/Bolts.lean may change: its parts of the state, and that the register stores stay
canonical.
-/
set_option Elab.async false
namespace Sys2Proof.Machine

theorem State.emptied_ev (a0 : State) (a1 : Nat) (a2 : Option Proc) :
    State.evolves a0 (State.emptied a0 a1 a2) [.regs, .pmc, .upk] := by
  unfold State.emptied
  split
  · rename_i y1; refine ev_step ?_ (State.bump_ev _ _ _) rfl; exact ev_refl
  · rename_i y2; refine ev_step ?_ (State.bump_ev _ _ _) rfl; exact ev_refl
  · rename_i y3; refine ev_step ?_ (State.bump_ev _ _ _) rfl; exact ev_refl
  · rename_i y4; refine ev_step ?_ (State.setUpkG_ev _ _ _) rfl; exact ev_refl
  · rename_i y5 y6 y7 y8 y9; exact ev_refl

theorem State.endUnknown_ev (a0 : State) :
    State.evolves a0 (State.endUnknown a0) [.regs, .pmc, .evt, .host, .rd, .upk] := by
  unfold State.endUnknown; refine ev_ite ?_ ?_
  · refine ev_step ?_ (State.raiseN_ev _ _ _ _) rfl; extract_lets +onlyGivenNames x1; clear_value x1
    extract_lets +onlyGivenNames x2; subst x2
    refine ev_updW ?_ id id id id id id id id id UpkState.wf_upd (by intro p; cases p <;> first | exact .inl (by decide) | exact .inr rfl | exact .inr ⟨rfl, rfl⟩)
    exact ev_refl
  · exact ev_refl

theorem State.settleBolt_ev (a0 : State) (a1 : Nat) (a2 : Nat) :
    State.evolves a0 (State.settleBolt a0 a1 a2) [.regs, .pmc, .evt, .host, .rd, .upk] := by
  unfold State.settleBolt; extract_lets +onlyGivenNames x1; clear_value x1
  extract_lets +onlyGivenNames x2; clear_value x2; refine ev_ite ?_ ?_
  · extract_lets +onlyGivenNames x3
    have h3 : State.evolves a0 x3 [.regs, .pmc, .evt, .host, .rd, .upk] := by
      subst x3; refine ev_step ?_ (State.emptied_ev _ _ _) rfl; refine ev_step ?_ (State.setBolt_ev _ _ _ _) rfl
      exact ev_refl
    clear_value x3; refine ev_ite ?_ ?_
    · refine ev_step ?_ (State.endUnknown_ev _) rfl; assumption
    · assumption
  · exact ev_refl

theorem State.upkEvent_ev (a0 : State) (a1 : Evt) (a2 : Proc) (a3 : Nat) (a4 : Nat) (a5 : Nat) :
    State.evolves a0 (State.upkEvent a0 a1 a2 a3 a4 a5) [.regs, .pmc, .evt, .host] := by
  unfold State.upkEvent; refine ev_step ?_ (State.raiseN_ev _ _ _ _) rfl; exact ev_refl

theorem State.liveAt_ev (a0 : State) (a1 : Nat) : State.evolves a0 (State.liveAt a0 a1) [.upk] := by
  unfold State.liveAt; extract_lets +onlyGivenNames x1; clear_value x1
  refine ev_step ?_ (State.setBolt_ev _ _ _ _) rfl; exact ev_refl

theorem State.deadAt_ev (a0 : State) (a1 : Nat) :
    State.evolves a0 (State.deadAt a0 a1) [.regs, .pmc, .evt, .host, .rd, .upk] := by
  unfold State.deadAt; extract_lets +onlyGivenNames x1; clear_value x1
  refine ev_step ?_ (State.settleBolt_ev _ _ _) rfl; refine ev_step ?_ (State.setBolt_ev _ _ _ _) rfl; exact ev_refl

theorem State.queuePress_ev (a0 : State) (a1 : Nat) (a2 : Nat) :
    State.evolves a0 (State.queuePress a0 a1 a2) [.regs, .pmc, .evt, .host, .upk] := by
  unfold State.queuePress; extract_lets +onlyGivenNames x1; clear_value x1; refine ev_ite ?_ ?_
  · exact ev_refl
  · refine ev_step ?_ (State.upkEvent_ev _ _ _ _ _ _) rfl; refine ev_step ?_ (State.setBolt_ev _ _ _ _) rfl
    exact ev_refl

theorem State.driftEvent_ev (a0 : State) (a1 : Nat) (a2 : Bool) :
    State.evolves a0 (State.driftEvent a0 a1 a2) [.regs, .pmc, .evt, .host, .upk] := by
  unfold State.driftEvent; extract_lets +onlyGivenNames x1; clear_value x1
  extract_lets +onlyGivenNames x2; clear_value x2; extract_lets +onlyGivenNames x3; clear_value x3
  refine ev_ite ?_ ?_
  · exact ev_refl
  · extract_lets +onlyGivenNames x4; clear_value x4; extract_lets +onlyGivenNames x5; clear_value x5
    extract_lets +onlyGivenNames x6; clear_value x6; extract_lets +onlyGivenNames x7; clear_value x7
    extract_lets +onlyGivenNames x8; clear_value x8; extract_lets +onlyGivenNames x9
    have h9 : State.evolves a0 x9 [.regs, .pmc, .evt, .host, .upk] := by
      subst x9; refine ev_step ?_ (State.setBolt_ev _ _ _ _) rfl; exact ev_refl
    clear_value x9; refine ev_ite ?_ ?_
    · refine ev_step ?_ (State.queuePress_ev _ _ _) rfl; assumption
    · assumption

theorem State.setTriple_ev (a0 : State) (a1 : Nat) (a2 : Triple) :
    State.evolves a0 (State.setTriple a0 a1 a2) [.upk] := by
  unfold State.setTriple; extract_lets +onlyGivenNames x1; subst x1; refine ev_upk ?_ rfl UpkState.wf_upd
  exact ev_refl

theorem State.checkAge_ev (a0 : State) (a1 : Nat) (a2 : Nat) :
    State.evolves a0 (State.checkAge a0 a1 a2) [.regs, .pmc, .evt, .host, .upk] := by
  unfold State.checkAge; extract_lets +onlyGivenNames x1; clear_value x1
  extract_lets +onlyGivenNames x2; clear_value x2; refine ev_ite ?_ ?_
  · exact ev_refl
  · extract_lets +onlyGivenNames x3
    have h3 : State.evolves a0 x3 [.regs, .pmc, .evt, .host, .upk] := by
      subst x3; refine ev_ite ?_ ?_
      · refine ev_step ?_ (State.queuePress_ev _ _ _) rfl; exact ev_refl
      · exact ev_refl
    clear_value x3; extract_lets +onlyGivenNames x4; clear_value x4; refine ev_ite ?_ ?_
    · refine ev_step ?_ (State.upkEvent_ev _ _ _ _ _ _) rfl; refine ev_step ?_ (State.setBolt_ev _ _ _ _) rfl
      assumption
    · assumption

end Sys2Proof.Machine
end

