-- ==== Sys2Proof/Laws/EvJournal.lean ====
section
/-!
SUPPORT. What each operation of Machine/Journal.lean may change: its parts of the state, and that the register stores stay
canonical.
-/
set_option Elab.async false
namespace Sys2Proof.Machine

theorem State.addPRec_ev (a0 : State) (a1 : PRec) : State.evolves a0 (State.addPRec a0 a1) [.rd] := by
  unfold State.addPRec; refine ev_ite ?_ ?_
  · extract_lets +onlyGivenNames x1; clear_value x1; refine ev_rd ?_ rfl; exact ev_refl
  · extract_lets +onlyGivenNames x2; clear_value x2; refine ev_rd ?_ rfl; exact ev_refl

theorem State.poisonSector_ev (a0 : State) (a1 : Nat) (a2 : Nat) (a3 : PSource) :
    State.evolves a0 (State.poisonSector a0 a1 a2 a3) [.rd] := by
  unfold State.poisonSector
  split
  · rename_i y1 y2 y3; refine ev_ite ?_ ?_
    · exact ev_refl
    · refine ev_step ?_ (State.addPRec_ev _ _) rfl; exact ev_refl
  · rename_i y4 y5; exact ev_refl

theorem State.removePoison_ev (a0 : State) (a1 : Nat) : State.evolves a0 (State.removePoison a0 a1) [.rd] := by
  unfold State.removePoison; extract_lets +onlyGivenNames x1; clear_value x1; refine ev_rd ?_ rfl; exact ev_refl

theorem State.unpoisonSector_ev (a0 : State) (a1 : Nat) (a2 : Nat) :
    State.evolves a0 (State.unpoisonSector a0 a1 a2) [.rd] := by
  unfold State.unpoisonSector
  split
  · rename_i y1 y2 y3; refine ev_step ?_ (State.removePoison_ev _ _) rfl; exact ev_refl
  · rename_i y4 y5; exact ev_refl

theorem State.setRegion_ev (a0 : State) (a1 : Nat) (a2 : Nat) (a3 : Region) :
    State.evolves a0 (State.setRegion a0 a1 a2 a3) [.map] := by
  unfold State.setRegion; extract_lets +onlyGivenNames x1; subst x1; refine ev_map ?_ rfl MapState.wf_upd
  exact ev_refl

theorem State.regionWrite_ev (a0 : State) (a1 : Nat) (a2 : Bool) :
    State.evolves a0 (State.regionWrite a0 a1 a2) [.map] := by
  unfold State.regionWrite; extract_lets +onlyGivenNames x1; clear_value x1
  extract_lets +onlyGivenNames x2; clear_value x2; refine ev_step ?_ (State.setRegion_ev _ _ _ _) rfl; exact ev_refl

theorem State.selvage_ev (a0 : State) (a1 : Nat) (a2 : Nat) :
    State.evolves a0 (State.selvage a0 a1 a2) [.map, .out] := by
  unfold State.selvage; refine ev_step ?_ (State.emit_ev _ _) rfl; refine ev_step ?_ (State.regionWrite_ev _ _ _) rfl
  refine ev_step ?_ (State.regionWrite_ev _ _ _) rfl; exact ev_refl

theorem State.writeJnl_ev (a0 : State) :
    State.evolves a0 (State.writeJnl a0) [.regs, .pmc, .evt, .host, .map, .out] := by
  unfold State.writeJnl; refine ev_ite ?_ ?_
  · exact ev_refl
  · extract_lets +onlyGivenNames x1
    have h1 : State.evolves a0 x1 [.regs, .pmc, .evt, .host, .map, .out] := by
      subst x1; refine ev_step ?_ (State.count_ev _ _ _ _) rfl; refine ev_step ?_ (State.selvage_ev _ _ _) rfl
      exact ev_refl
    clear_value x1; extract_lets +onlyGivenNames x2; subst x2; refine ev_map ?_ rfl MapState.wf_upd; assumption

theorem State.startCkpt_ev (a0 : State) :
    State.evolves a0 (State.startCkpt a0) [.regs, .pmc, .evt, .host, .map, .upk, .out] := by
  unfold State.startCkpt; refine ev_ite ?_ ?_
  · exact ev_refl
  · extract_lets +onlyGivenNames x1; clear_value x1; extract_lets +onlyGivenNames x2
    have h2 : State.evolves a0 x2 [.regs, .pmc, .evt, .host, .map, .upk, .out] := by
      subst x2; refine ev_step ?_ (State.writeJnl_ev _) rfl; exact ev_refl
    clear_value x2; extract_lets +onlyGivenNames x3; subst x3; extract_lets +onlyGivenNames x4
    have h4 : State.evolves a0 x4 [.regs, .pmc, .evt, .host, .map, .upk, .out] := by
      subst x4; refine ev_map ?_ rfl MapState.wf_upd; assumption
    clear_value x4; extract_lets +onlyGivenNames x5; subst x5
    refine ev_upk ?_ rfl (fun z => (UpkState.wf_iff _).mpr (by have w := (UpkState.wf_iff _).mp z; exact ⟨⟨⟨w.1.1.1, w.1.1.2⟩, w.1.2⟩, image_wf _ z⟩))
    assumption

theorem State.pushRec_ev (a0 : State) (a1 : JRec) :
    State.evolves a0 (State.pushRec a0 a1) [.regs, .pmc, .evt, .host, .map, .out] := by
  unfold State.pushRec; extract_lets +onlyGivenNames x1; subst x1; extract_lets +onlyGivenNames x2
  have h2 : State.evolves a0 x2 [.regs, .pmc, .evt, .host, .map, .out] := by
    subst x2; refine ev_map ?_ rfl MapState.wf_upd; exact ev_refl
  clear_value x2; extract_lets +onlyGivenNames x3
  have h3 : State.evolves a0 x3 [.regs, .pmc, .evt, .host, .map, .out] := by
    subst x3; refine ev_step ?_ (State.count_ev _ _ _ _) rfl; assumption
  clear_value x3; refine ev_ite ?_ ?_
  · refine ev_step ?_ (State.writeJnl_ev _) rfl; assumption
  · assumption

theorem State.setEntry_ev (a0 : State) (a1 : Nat) (a2 : Entry) :
    State.evolves a0 (State.setEntry a0 a1 a2) [.map] := by
  unfold State.setEntry; extract_lets +onlyGivenNames x1; subst x1
  refine ev_map ?_ rfl (fun z => (MapState.wf_iff _).mpr (by have w := (MapState.wf_iff _).mp z; exact ⟨⟨Tab.wf_set _ _ _ _ w.1.1, w.1.2⟩, w.2⟩))
  exact ev_refl

theorem State.setTag_ev (a0 : State) (a1 : Nat) (a2 : BitVec 64) :
    State.evolves a0 (State.setTag a0 a1 a2) [.map] := by
  unfold State.setTag; extract_lets +onlyGivenNames x1; subst x1
  refine ev_map ?_ rfl (fun z => (MapState.wf_iff _).mpr (by have w := (MapState.wf_iff _).mp z; exact ⟨⟨w.1.1, w.1.2⟩, Tab.wf_set _ _ _ _ w.2⟩))
  exact ev_refl

theorem State.release_ev (a0 : State) (a1 : Nat) (a2 : Nat) (a3 : Entry) :
    State.evolves a0 (State.release a0 a1 a2 a3) [.regs, .pmc, .evt, .host, .rd, .upk] := by
  unfold State.release; refine ev_ite ?_ ?_
  · refine ev_step ?_ (State.deadAt_ev _ _) rfl; exact ev_refl
  · exact ev_refl

theorem State.mupdate_ev (a0 : State) (a1 : Nat) (a2 : Nat) (a3 : MSlot → MSlot) :
    State.evolves a0 (State.mupdate a0 a1 a2 a3) [.map] := by
  unfold State.mupdate; extract_lets +onlyGivenNames x1; subst x1; refine ev_map ?_ rfl MapState.wf_upd; exact ev_refl

theorem State.mtouch_ev (a0 : State) (a1 : Nat) (a2 : Nat) : State.evolves a0 (State.mtouch a0 a1 a2) [.map] := by
  unfold State.mtouch; extract_lets +onlyGivenNames x1; subst x1; refine ev_map ?_ rfl MapState.wf_upd; exact ev_refl

theorem State.minstall_ev (a0 : State) (a1 : Nat) (a2 : Nat) : State.evolves a0 (State.minstall a0 a1 a2) [.map] := by
  unfold State.minstall; refine ev_ite ?_ ?_
  · exact ev_refl
  · extract_lets +onlyGivenNames x1; clear_value x1; extract_lets +onlyGivenNames x2; clear_value x2
    extract_lets +onlyGivenNames x3; subst x3; extract_lets +onlyGivenNames x4
    have h4 : State.evolves a0 x4 [.map] := by
      subst x4; refine ev_map ?_ rfl MapState.wf_upd; exact ev_refl
    clear_value x4; refine ev_step ?_ (State.mtouch_ev _ _ _) rfl; assumption

theorem State.mdirtied_ev (a0 : State) (a1 : Nat) (a2 : Nat) (a3 : Nat) :
    State.evolves a0 (State.mdirtied a0 a1 a2 a3) [.map] := by
  unfold State.mdirtied; refine ev_step ?_ (State.mupdate_ev _ _ _ _) rfl
  refine ev_step ?_ (State.minstall_ev _ _ _) rfl; exact ev_refl

theorem State.mapRec_ev (a0 : State) (a1 : Nat) (a2 : Nat) (a3 : Bool) (a4 : Option (BitVec 64)) (a5 : Entry) :
    State.evolves a0 (State.mapRec a0 a1 a2 a3 a4 a5) [.regs, .pmc, .evt, .host, .map, .rd, .upk, .out] := by
  unfold State.mapRec; extract_lets +onlyGivenNames x1; clear_value x1
  extract_lets +onlyGivenNames x2; clear_value x2; extract_lets +onlyGivenNames x3; clear_value x3
  extract_lets +onlyGivenNames x4
  have h4 : State.evolves a0 x4 [.regs, .pmc, .evt, .host, .map, .rd, .upk, .out] := by
    subst x4; refine ev_step ?_ (State.pushRec_ev _ _) rfl; exact ev_refl
  clear_value x4; extract_lets +onlyGivenNames x5
  have h5 : State.evolves a0 x5 [.regs, .pmc, .evt, .host, .map, .rd, .upk, .out] := by
    subst x5; refine ev_step ?_ (State.setEntry_ev _ _ _) rfl; assumption
  clear_value x5; extract_lets +onlyGivenNames x6
  have h6 : State.evolves a0 x6 [.regs, .pmc, .evt, .host, .map, .rd, .upk, .out] := by
    subst x6
    split
    · rename_i y7 y8; refine ev_step ?_ (State.setTag_ev _ _ _) rfl; assumption
    · rename_i y9; assumption
  clear_value x6; extract_lets +onlyGivenNames x10
  have h10 : State.evolves a0 x10 [.regs, .pmc, .evt, .host, .map, .rd, .upk, .out] := by
    subst x10; refine ev_ite ?_ ?_
    · refine ev_step ?_ (State.liveAt_ev _ _) rfl; assumption
    · assumption
  clear_value x10; extract_lets +onlyGivenNames x11
  have h11 : State.evolves a0 x11 [.regs, .pmc, .evt, .host, .map, .rd, .upk, .out] := by
    subst x11; refine ev_step ?_ (State.release_ev _ _ _ _) rfl; assumption
  clear_value x11; refine ev_ite ?_ ?_
  · extract_lets +onlyGivenNames x12
    have h12 : State.evolves a0 x12 [.regs, .pmc, .evt, .host, .map, .rd, .upk, .out] := by
      subst x12; refine ev_step ?_ (State.mdirtied_ev _ _ _ _) rfl; assumption
    clear_value x12; refine ev_ite ?_ ?_
    · refine ev_step ?_ (State.mdirtied_ev _ _ _ _) rfl; assumption
    · assumption
  · refine ev_step ?_ (State.mdirtied_ev _ _ _ _) rfl; assumption

theorem State.poisonLine_ev (a0 : State) (a1 : Nat) (a2 : PSource) :
    State.evolves a0 (State.poisonLine a0 a1 a2) [.rd] := by
  unfold State.poisonLine; extract_lets +onlyGivenNames x1
  have h1 : State.evolves a0 x1 [.rd] := by
    subst x1; refine ev_foldl ?_ ?_
    · exact ev_refl
    · intro x2 x3 x4; refine ev_step ?_ (State.unpoisonSector_ev _ _ _) rfl; assumption
  clear_value x1
  split
  · rename_i y5 y6 y7; refine ev_step ?_ (State.addPRec_ev _ _) rfl; assumption
  · rename_i y8 y9; assumption

theorem State.makeLost_ev (a0 : State) (a1 : Nat) (a2 : Nat) (a3 : PSource) :
    State.evolves a0 (State.makeLost a0 a1 a2 a3) [.regs, .pmc, .evt, .host, .map, .rd, .upk, .out] := by
  unfold State.makeLost; extract_lets +onlyGivenNames x1; clear_value x1
  extract_lets +onlyGivenNames x2; clear_value x2; extract_lets +onlyGivenNames x3
  have h3 : State.evolves a0 x3 [.regs, .pmc, .evt, .host, .map, .rd, .upk, .out] := by
    subst x3; refine ev_step ?_ (State.mapRec_ev _ _ _ _ _ _) rfl; exact ev_refl
  clear_value x3; extract_lets +onlyGivenNames x4; subst x4; extract_lets +onlyGivenNames x5
  have h5 : State.evolves a0 x5 [.regs, .pmc, .evt, .host, .map, .rd, .upk, .out] := by
    subst x5; refine ev_map ?_ rfl MapState.wf_upd; assumption
  clear_value x5; refine ev_step ?_ (State.raiseN_ev _ _ _ _) rfl; refine ev_step ?_ (State.poisonLine_ev _ _ _) rfl
  assumption

theorem State.loseCovered_ev (a0 : State) (a1 : Nat) :
    State.evolves a0 (State.loseCovered a0 a1) [.regs, .pmc, .evt, .host, .map, .rd, .upk, .out] := by
  unfold State.loseCovered; refine ev_foldl ?_ ?_
  · exact ev_refl
  · intro x1 x2 x3; extract_lets +onlyGivenNames x4; clear_value x4; refine ev_ite ?_ ?_
    · refine ev_step ?_ (State.makeLost_ev _ _ _ _) rfl; assumption
    · assumption

theorem State.poisonMask_ev (a0 : State) (a1 : Nat) (a2 : BitVec 4) (a3 : PSource) :
    State.evolves a0 (State.poisonMask a0 a1 a2 a3) [.rd] := by
  unfold State.poisonMask; refine ev_foldl ?_ ?_
  · exact ev_refl
  · intro x1 x2 x3; refine ev_ite ?_ ?_
    · refine ev_step ?_ (State.poisonSector_ev _ _ _ _) rfl; assumption
    · assumption

theorem State.mfetch_ev (a0 : State) (a1 : Nat) (a2 : Nat) : State.evolves a0 (State.mfetch a0 a1 a2) [.map] := by
  unfold State.mfetch; refine ev_ite ?_ ?_
  · exact ev_refl
  · extract_lets +onlyGivenNames x1; subst x1; refine ev_map ?_ rfl MapState.wf_upd; exact ev_refl

theorem State.wantTag_ev (a0 : State) (a1 : Nat) : State.evolves a0 (State.wantTag a0 a1) [.map] := by
  unfold State.wantTag; refine ev_ite ?_ ?_
  · exact ev_refl
  · refine ev_ite ?_ ?_
    · refine ev_ite ?_ ?_
      · refine ev_step ?_ (State.minstall_ev _ _ _) rfl; exact ev_refl
      · refine ev_step ?_ (State.mfetch_ev _ _ _) rfl; exact ev_refl
    · refine ev_step ?_ (State.mfetch_ev _ _ _) rfl; refine ev_step ?_ (State.mfetch_ev _ _ _) rfl; exact ev_refl

theorem State.wantMap_ev (a0 : State) (a1 : Nat) : State.evolves a0 (State.wantMap a0 a1) [.map] := by
  unfold State.wantMap; refine ev_ite ?_ ?_
  · exact ev_refl
  · refine ev_ite ?_ ?_
    · refine ev_ite ?_ ?_
      · refine ev_step ?_ (State.minstall_ev _ _ _) rfl; exact ev_refl
      · refine ev_step ?_ (State.mfetch_ev _ _ _) rfl; exact ev_refl
    · refine ev_step ?_ (State.mfetch_ev _ _ _) rfl; refine ev_step ?_ (State.mfetch_ev _ _ _) rfl; exact ev_refl

theorem State.takeImage_ev (a0 : State) : State.evolves a0 (State.takeImage a0) [.upk] := by
  unfold State.takeImage
  split
  · rename_i v e; refine ev_upk ev_refl rfl (fun z => ?_); have w := (UpkState.wf_iff _).mp z; rw [e] at w
    refine (UpkState.wf_iff _).mpr ⟨⟨⟨w.1.1.1, w.1.1.2⟩, w.2⟩, ?_⟩; dsimp only; rw [e]; exact w.2
  · rename_i e; refine ev_upk ev_refl rfl (fun z => ?_); have w := (UpkState.wf_iff _).mp z
    exact (UpkState.wf_iff _).mpr ⟨⟨⟨w.1.1.1, w.1.1.2⟩, image_wf _ z⟩, w.2⟩

theorem State.overflowJnl_ev (a0 : State) :
    State.evolves a0 (State.overflowJnl a0) [.regs, .pmc, .evt, .host, .map] := by
  unfold State.overflowJnl; refine ev_ite ?_ ?_
  · refine ev_step ?_ (State.raiseN_ev _ _ _ _) rfl; extract_lets +onlyGivenNames x1; subst x1
    refine ev_map ?_ rfl MapState.wf_upd; exact ev_refl
  · exact ev_refl

theorem State.jnlDurable_ev (a0 : State) :
    State.evolves a0 (State.jnlDurable a0) [.regs, .pmc, .evt, .host, .map] := by
  unfold State.jnlDurable
  split
  · rename_i y1 y2; exact ev_refl
  · rename_i y3 y4 y5 y6; refine ev_step ?_ (State.overflowJnl_ev _) rfl; extract_lets +onlyGivenNames x7; subst x7
    refine ev_map ?_ rfl MapState.wf_upd; exact ev_refl

theorem State.jnlDrain_ev (a0 : State) (a1 : Nat) :
    State.evolves a0 (State.jnlDrain a0 a1) [.regs, .pmc, .evt, .host, .map] := by
  induction a1 generalizing a0
  · unfold State.jnlDrain; exact ev_refl
  · rename_i z1 ih2; unfold State.jnlDrain; refine ev_step ?_ (ih2 _) rfl
    refine ev_step ?_ (State.jnlDurable_ev _) rfl; exact ev_refl

theorem State.countCleanups_ev (a0 : State) (a1 : Nat) : State.evolves a0 (State.countCleanups a0 a1) [.epo] := by
  unfold State.countCleanups; extract_lets +onlyGivenNames x1; subst x1
  refine ev_epo ?_ rfl (fun w => by dsimp only [EpoState.wf]; exact Tab.wf_mapVals _ _ _ w); exact ev_refl

theorem State.finishCkpt_ev (a0 : State) (a1 : Nat) (a2 : Bool) :
    State.evolves a0 (State.finishCkpt a0 a1 a2) [.regs, .pmc, .evt, .host, .map, .rd, .cry, .epo, .upk, .out] := by
  unfold State.finishCkpt; extract_lets +onlyGivenNames x1
  have h1 : State.evolves a0 x1 [.regs, .pmc, .evt, .host, .map, .rd, .cry, .epo, .upk, .out] := by
    subst x1; refine ev_step ?_ (State.takeImage_ev _) rfl; exact ev_refl
  clear_value x1; extract_lets +onlyGivenNames x2; clear_value x2; extract_lets +onlyGivenNames x3
  have h3 : State.evolves a0 x3 [.regs, .pmc, .evt, .host, .map, .rd, .cry, .epo, .upk, .out] := by
    subst x3; refine ev_step ?_ (State.pushRec_ev _ _) rfl; assumption
  clear_value x3; extract_lets +onlyGivenNames x4
  have h4 : State.evolves a0 x4 [.regs, .pmc, .evt, .host, .map, .rd, .cry, .epo, .upk, .out] := by
    subst x4; refine ev_step ?_ (State.writeJnl_ev _) rfl; assumption
  clear_value x4; extract_lets +onlyGivenNames x5
  have h5 : State.evolves a0 x5 [.regs, .pmc, .evt, .host, .map, .rd, .cry, .epo, .upk, .out] := by
    subst x5; refine ev_step ?_ (State.jnlDrain_ev _ _) rfl; assumption
  clear_value x5; extract_lets +onlyGivenNames x6; clear_value x6; extract_lets +onlyGivenNames x7; clear_value x7
  extract_lets +onlyGivenNames x8; subst x8; extract_lets +onlyGivenNames x9; clear_value x9
  extract_lets +onlyGivenNames x10; subst x10; extract_lets +onlyGivenNames x11; subst x11
  extract_lets +onlyGivenNames x12
  have h12 : State.evolves a0 x12 [.regs, .pmc, .evt, .host, .map, .rd, .cry, .epo, .upk, .out] := by
    subst x12
    refine ev_updW ?_ id id MapState.wf_upd id (fun w => by dsimp only [CryState.wf]; exact Tab.wf_mapVals _ _ _ w) id id id id (fun z => (UpkState.wf_iff _).mpr (by have w := (UpkState.wf_iff _).mp z; dsimp only; exact ⟨⟨⟨w.1.1.1, w.1.1.2⟩, w.1.2⟩, rfl⟩)) (by intro p; cases p <;> first | exact .inl (by decide) | exact .inr rfl | exact .inr ⟨rfl, rfl⟩)
    assumption
  clear_value x12; refine ev_step ?_ (State.count_ev _ _ _ _) rfl; refine ev_step ?_ (State.raise_ev _ _) rfl
  refine ev_step ?_ (State.countCleanups_ev _ _) rfl; assumption

theorem State.nextCkpt_ev (a0 : State) :
    State.evolves a0 (State.nextCkpt a0) [.regs, .pmc, .evt, .host, .map, .upk, .out] := by
  unfold State.nextCkpt; refine ev_ite ?_ ?_
  · refine ev_step ?_ (State.startCkpt_ev _) rfl; exact ev_refl
  · exact ev_refl

theorem State.cleanupWalk_ev (a0 : State) (a1 : Nat) (a2 : Bool) (a3 : List Undo) :
    State.evolves a0 (State.cleanupWalk a0 a1 a2 a3) [.regs, .pmc, .evt, .host, .map, .rd, .upk] := by
  unfold State.cleanupWalk; refine ev_foldl ?_ ?_
  · exact ev_refl
  · intro x1 x2 x3; extract_lets +onlyGivenNames x4; clear_value x4; extract_lets +onlyGivenNames x5
    have h5 : State.evolves a0 x5 [.regs, .pmc, .evt, .host, .map, .rd, .upk] := by
      subst x5; refine ev_ite ?_ ?_
      · refine ev_step ?_ (State.setEntry_ev _ _ _) rfl; assumption
      · assumption
    clear_value x5; refine ev_ite ?_ ?_
    · assumption
    · refine ev_ite ?_ ?_
      · assumption
      · refine ev_step ?_ (State.deadAt_ev _ _) rfl; assumption

theorem State.toCleanup_ev (a0 : State) (a1 : Nat) (a2 : Bool) (a3 : List Undo) :
    State.evolves a0 (State.toCleanup a0 a1 a2 a3) [.regs, .pmc, .evt, .host, .map, .rd, .epo, .upk] := by
  unfold State.toCleanup; extract_lets +onlyGivenNames x1
  have h1 : State.evolves a0 x1 [.regs, .pmc, .evt, .host, .map, .rd, .epo, .upk] := by
    subst x1; refine ev_step ?_ (State.cleanupWalk_ev _ _ _ _) rfl; exact ev_refl
  clear_value x1; extract_lets +onlyGivenNames x2; clear_value x2; extract_lets +onlyGivenNames x3; clear_value x3
  refine ev_step ?_ (State.setEpoDom_ev _ _ _) rfl; assumption

theorem State.forcedSeal_ev (a0 : State) (a1 : Nat) (a2 : Nat) :
    State.evolves a0 (State.forcedSeal a0 a1 a2) [.regs, .pmc, .evt, .host, .map, .rd, .epo, .upk] := by
  unfold State.forcedSeal; extract_lets +onlyGivenNames x1; clear_value x1
  extract_lets +onlyGivenNames x2; clear_value x2; extract_lets +onlyGivenNames x3
  have h3 : State.evolves a0 x3 [.regs, .pmc, .evt, .host, .map, .rd, .epo, .upk] := by
    subst x3; refine ev_step ?_ (State.setEpoDom_ev _ _ _) rfl; exact ev_refl
  clear_value x3; refine ev_step ?_ (State.raiseN_ev _ _ _ _) rfl; refine ev_step ?_ (State.toCleanup_ev _ _ _ _) rfl
  assumption

theorem State.checkReserve_ev (a0 : State) (a1 : Nat) (a2 : Nat) :
    State.evolves a0 (State.checkReserve a0 a1 a2) [.regs, .pmc, .evt, .host, .epo] := by
  unfold State.checkReserve; extract_lets +onlyGivenNames x1; clear_value x1; refine ev_ite ?_ ?_
  · refine ev_step ?_ (State.raiseN_ev _ _ _ _) rfl; extract_lets +onlyGivenNames x2; subst x2
    refine ev_epo ?_ rfl EpoState.wf_upd; exact ev_refl
  · extract_lets +onlyGivenNames x3; subst x3; refine ev_epo ?_ rfl EpoState.wf_upd; exact ev_refl

theorem State.undoAdd_ev (a0 : State) (a1 : Nat) (a2 : Nat) (a3 : Entry) :
    State.evolves a0 (State.undoAdd a0 a1 a2 a3) [.regs, .pmc, .evt, .host, .map, .rd, .epo, .upk] := by
  unfold State.undoAdd; extract_lets +onlyGivenNames x1; clear_value x1
  extract_lets +onlyGivenNames x2; clear_value x2; extract_lets +onlyGivenNames x3; clear_value x3
  refine ev_ite ?_ ?_
  · exact ev_refl
  · refine ev_ite ?_ ?_
    · extract_lets +onlyGivenNames x4
      have h4 : State.evolves a0 x4 [.regs, .pmc, .evt, .host, .map, .rd, .epo, .upk] := by
        subst x4; refine ev_step ?_ (State.raiseN_ev _ _ _ _) rfl; exact ev_refl
      clear_value x4; refine ev_ite ?_ ?_
      · extract_lets +onlyGivenNames x5
        have h5 : State.evolves a0 x5 [.regs, .pmc, .evt, .host, .map, .rd, .epo, .upk] := by
          subst x5; refine ev_step ?_ (State.forcedSeal_ev _ _ _) rfl; assumption
        clear_value x5; refine ev_step ?_ (State.setEpoDom_ev _ _ _) rfl; assumption
      · refine ev_step ?_ (State.raiseN_ev _ _ _ _) rfl; refine ev_step ?_ (State.setEpoDom_ev _ _ _) rfl; assumption
    · refine ev_step ?_ (State.checkReserve_ev _ _ _) rfl; refine ev_step ?_ (State.count_ev _ _ _ _) rfl
      refine ev_step ?_ (State.setEpoDom_ev _ _ _) rfl; exact ev_refl

theorem State.hostRec_ev (a0 : State) (a1 : Nat) (a2 : Nat) (a3 : Option (BitVec 64)) (a4 : Entry) :
    State.evolves a0 (State.hostRec a0 a1 a2 a3 a4) [.regs, .pmc, .evt, .host, .map, .rd, .epo, .upk, .out] := by
  unfold State.hostRec; refine ev_ite ?_ ?_
  · extract_lets +onlyGivenNames x1
    have h1 : State.evolves a0 x1 [.regs, .pmc, .evt, .host, .map, .rd, .epo, .upk, .out] := by
      subst x1; refine ev_step ?_ (State.undoAdd_ev _ _ _ _) rfl; exact ev_refl
    clear_value x1; extract_lets +onlyGivenNames x2; clear_value x2; extract_lets +onlyGivenNames x3; clear_value x3
    extract_lets +onlyGivenNames x4
    have h4 : State.evolves a0 x4 [.regs, .pmc, .evt, .host, .map, .rd, .epo, .upk, .out] := by
      subst x4; refine ev_ite ?_ ?_
      · refine ev_step ?_ (State.setEntry_ev _ _ _) rfl; refine ev_step ?_ (State.undoAdd_ev _ _ _ _) rfl; assumption
      · assumption
    clear_value x4; refine ev_step ?_ (State.mapRec_ev _ _ _ _ _ _) rfl; assumption
  · refine ev_step ?_ (State.mapRec_ev _ _ _ _ _ _) rfl; exact ev_refl

theorem State.setDir_ev (a0 : State) (a1 : Nat) (a2 : Option Nat) :
    State.evolves a0 (State.setDir a0 a1 a2) [.map] := by
  unfold State.setDir; extract_lets +onlyGivenNames x1; subst x1
  refine ev_map ?_ rfl (fun z => (MapState.wf_iff _).mpr (by have w := (MapState.wf_iff _).mp z; exact ⟨⟨w.1.1, Tab.wf_set _ _ _ _ w.1.2⟩, w.2⟩))
  exact ev_refl

theorem State.dirRec_ev (a0 : State) (a1 : Nat) (a2 : Option Nat) :
    State.evolves a0 (State.dirRec a0 a1 a2) [.regs, .pmc, .evt, .host, .map, .rd, .upk, .out] := by
  unfold State.dirRec; extract_lets +onlyGivenNames x1; clear_value x1
  extract_lets +onlyGivenNames x2; clear_value x2; extract_lets +onlyGivenNames x3; clear_value x3
  extract_lets +onlyGivenNames x4; clear_value x4; extract_lets +onlyGivenNames x5; clear_value x5
  extract_lets +onlyGivenNames x6
  have h6 : State.evolves a0 x6 [.regs, .pmc, .evt, .host, .map, .rd, .upk, .out] := by
    subst x6; refine ev_step ?_ (State.pushRec_ev _ _) rfl; exact ev_refl
  clear_value x6; extract_lets +onlyGivenNames x7
  have h7 : State.evolves a0 x7 [.regs, .pmc, .evt, .host, .map, .rd, .upk, .out] := by
    subst x7; refine ev_step ?_ (State.setDir_ev _ _ _) rfl; assumption
  clear_value x7; extract_lets +onlyGivenNames x8
  have h8 : State.evolves a0 x8 [.regs, .pmc, .evt, .host, .map, .rd, .upk, .out] := by
    subst x8
    split
    · rename_i y9 y10; refine ev_step ?_ (State.liveAt_ev _ _) rfl; assumption
    · rename_i y11; assumption
  clear_value x8; extract_lets +onlyGivenNames x12
  have h12 : State.evolves a0 x12 [.regs, .pmc, .evt, .host, .map, .rd, .upk, .out] := by
    subst x12
    split
    · rename_i y13 y14; refine ev_step ?_ (State.deadAt_ev _ _) rfl; assumption
    · rename_i y15; assumption
  clear_value x12; refine ev_step ?_ (State.mdirtied_ev _ _ _ _) rfl; assumption

theorem State.unpoisonRange_ev (a0 : State) (a1 : Nat) (a2 : Nat) (a3 : Nat) :
    State.evolves a0 (State.unpoisonRange a0 a1 a2 a3) [.rd] := by
  unfold State.unpoisonRange; extract_lets +onlyGivenNames x1; clear_value x1
  extract_lets +onlyGivenNames x2; clear_value x2; refine ev_rd ?_ rfl; exact ev_refl

theorem State.unmapRange_ev (a0 : State) (a1 : Nat) (a2 : Nat) :
    State.evolves a0 (State.unmapRange a0 a1 a2) [.regs, .pmc, .evt, .host, .map, .rd, .upk, .out] := by
  unfold State.unmapRange; extract_lets +onlyGivenNames x1; clear_value x1
  extract_lets +onlyGivenNames x2; clear_value x2; extract_lets +onlyGivenNames x3; clear_value x3
  extract_lets +onlyGivenNames x4
  have h4 : State.evolves a0 x4 [.regs, .pmc, .evt, .host, .map, .rd, .upk, .out] := by
    subst x4; refine ev_step ?_ (State.pushRec_ev _ _) rfl; exact ev_refl
  clear_value x4; extract_lets +onlyGivenNames x5
  have h5 : State.evolves a0 x5 [.regs, .pmc, .evt, .host, .map, .rd, .upk, .out] := by
    subst x5; refine ev_foldl ?_ ?_
    · assumption
    · intro x6 x7 x8; refine ev_step ?_ (State.release_ev _ _ _ _) rfl
      refine ev_step ?_ (State.setEntry_ev _ _ _) rfl; assumption
  clear_value x5; extract_lets +onlyGivenNames x9; clear_value x9; extract_lets +onlyGivenNames x10; clear_value x10
  extract_lets +onlyGivenNames x11
  have h11 : State.evolves a0 x11 [.regs, .pmc, .evt, .host, .map, .rd, .upk, .out] := by
    subst x11; refine ev_foldl ?_ ?_
    · assumption
    · intro x12 x13 x14; refine ev_step ?_ (State.dirRec_ev _ _ _) rfl; assumption
  clear_value x11; extract_lets +onlyGivenNames x15; subst x15; refine ev_map ?_ rfl MapState.wf_upd; assumption

end Sys2Proof.Machine
end

