-- ==== Sys2Proof/Laws/EvStaging.lean ====
section
/-!
SUPPORT. What each operation of Machine/Staging.lean may change: its parts of the state, and that the register stores stay
canonical.
-/
set_option Elab.async false
namespace Sys2Proof.Machine

theorem State.takeBack_ev (a0 : State) (a1 : Nat) (a2 : Nat) :
    State.evolves a0 (State.takeBack a0 a1 a2) [.warp] := by
  unfold State.takeBack; refine ev_foldl ?_ ?_
  · exact ev_refl
  · intro x1 x2 x3; extract_lets +onlyGivenNames x4; clear_value x4; extract_lets +onlyGivenNames x5; clear_value x5
    refine ev_step ?_ (State.setWarp1_ev _ _ _) rfl; assumption

theorem State.pushDn_ev (a0 : State) (a1 : Nat) (a2 : DnOp) : State.evolves a0 (State.pushDn a0 a1 a2) [.warp] := by
  unfold State.pushDn; extract_lets +onlyGivenNames x1; clear_value x1
  refine ev_step ?_ (State.setWarp1_ev _ _ _) rfl; exact ev_refl

theorem State.launch_ev (a0 : State) (a1 : Nat) (a2 : Stripe) : State.evolves a0 (State.launch a0 a1 a2) [.warp] := by
  unfold State.launch; extract_lets +onlyGivenNames x1; clear_value x1; refine ev_foldl ?_ ?_
  · exact ev_refl
  · intro x2 x3 x4; refine ev_step ?_ (State.pushDn_ev _ _ _) rfl; assumption

theorem State.sealBolt_ev (a0 : State) (a1 : Nat) (a2 : Nat) :
    State.evolves a0 (State.sealBolt a0 a1 a2) [.regs, .pmc, .evt, .host, .rd, .upk] := by
  unfold State.sealBolt; extract_lets +onlyGivenNames x1; clear_value x1
  extract_lets +onlyGivenNames x2; clear_value x2; extract_lets +onlyGivenNames x3; clear_value x3
  refine ev_ite ?_ ?_
  · refine ev_step ?_ (State.settleBolt_ev _ _ _) rfl; refine ev_step ?_ (State.setBolt_ev _ _ _ _) rfl; exact ev_refl
  · exact ev_refl

theorem State.freeLevels_ev (a0 : State) (a1 : Nat) :
    State.evolves a0 (State.freeLevels a0 a1) [.regs, .pmc, .evt, .host, .map, .wp, .upk, .out] := by
  unfold State.freeLevels; extract_lets +onlyGivenNames x1; clear_value x1
  extract_lets +onlyGivenNames x2; clear_value x2; extract_lets +onlyGivenNames x3; clear_value x3
  extract_lets +onlyGivenNames x4
  have h4 : State.evolves a0 x4 [.regs, .pmc, .evt, .host, .map, .wp, .upk, .out] := by
    subst x4; refine ev_ite ?_ ?_
    · refine ev_step ?_ (State.raise_ev _ _) rfl; refine ev_step ?_ (State.setGroup_ev _ _ _) rfl; exact ev_refl
    · refine ev_ite ?_ ?_
      · refine ev_step ?_ (State.setGroup_ev _ _ _) rfl; exact ev_refl
      · exact ev_refl
  clear_value x4; extract_lets +onlyGivenNames x5; clear_value x5; extract_lets +onlyGivenNames x6
  have h6 : State.evolves a0 x6 [.regs, .pmc, .evt, .host, .map, .wp, .upk, .out] := by
    subst x6; refine ev_ite ?_ ?_
    · refine ev_step ?_ (State.upkEvent_ev _ _ _ _ _ _) rfl; refine ev_step ?_ (State.setUpkG_ev _ _ _) rfl
      assumption
    · refine ev_ite ?_ ?_
      · refine ev_step ?_ (State.setUpkG_ev _ _ _) rfl; assumption
      · assumption
  clear_value x6; refine ev_ite ?_ ?_
  · extract_lets +onlyGivenNames x7; clear_value x7; extract_lets +onlyGivenNames x8
    have h8 : State.evolves a0 x8 [.regs, .pmc, .evt, .host, .map, .wp, .upk, .out] := by
      subst x8; refine ev_step ?_ (State.upkEvent_ev _ _ _ _ _ _) rfl; refine ev_step ?_ (State.setUpkG_ev _ _ _) rfl
      assumption
    clear_value x8; refine ev_ite ?_ ?_
    · refine ev_step ?_ (State.startCkpt_ev _) rfl; assumption
    · assumption
  · refine ev_ite ?_ ?_
    · refine ev_step ?_ (State.setUpkG_ev _ _ _) rfl; assumption
    · assumption

theorem State.openBolt_ev (a0 : State) (a1 : Nat) (a2 : Part) :
    State.evolves a0 (State.openBolt a0 a1 a2) [.regs, .pmc, .evt, .host, .map, .wp, .upk, .out] := by
  unfold State.openBolt; extract_lets +onlyGivenNames x1; clear_value x1; refine ev_ite ?_ ?_
  · exact ev_refl
  · split
    · rename_i y2 y3; exact ev_refl
    · rename_i y4 y5 y6 y7; extract_lets +onlyGivenNames x8; clear_value x8; refine ev_ite ?_ ?_
      · exact ev_refl
      · extract_lets +onlyGivenNames x9; clear_value x9; extract_lets +onlyGivenNames x10
        have h10 : State.evolves a0 x10 [.regs, .pmc, .evt, .host, .map, .wp, .upk, .out] := by
          subst x10; refine ev_step ?_ (State.setBolt_ev _ _ _ _) rfl; exact ev_refl
        clear_value x10; extract_lets +onlyGivenNames x11
        have h11 : State.evolves a0 x11 [.regs, .pmc, .evt, .host, .map, .wp, .upk, .out] := by
          subst x11; refine ev_step ?_ (State.setGroup_ev _ _ _) rfl; assumption
        clear_value x11; refine ev_step ?_ (State.freeLevels_ev _ _) rfl; assumption

theorem State.newStripe_ev (a0 : State) (a1 : Nat) (a2 : Part) :
    State.evolves a0 (State.newStripe a0 a1 a2) [.regs, .pmc, .evt, .host, .map, .wp, .upk, .out] := by
  unfold State.newStripe; extract_lets +onlyGivenNames x1
  have h1 : State.evolves a0 x1 [.regs, .pmc, .evt, .host, .map, .wp, .upk, .out] := by
    subst x1; refine ev_ite ?_ ?_
    · refine ev_step ?_ (State.openBolt_ev _ _ _) rfl; exact ev_refl
    · exact ev_refl
  clear_value x1
  split
  · rename_i y2 y3; assumption
  · rename_i y4 y5 y6; refine ev_ite ?_ ?_
    · assumption
    · extract_lets +onlyGivenNames x7; clear_value x7; refine ev_step ?_ (State.setGroup_ev _ _ _) rfl; assumption

theorem State.setStripes_ev (a0 : State) (a1 : Nat) (a2 : List Stripe) :
    State.evolves a0 (State.setStripes a0 a1 a2) [.wp] := by
  unfold State.setStripes; refine ev_step ?_ (State.setGroup_ev _ _ _) rfl; exact ev_refl

theorem State.updStripe_ev (a0 : State) (a1 : Nat) (a2 : Nat) (a3 : Nat) (a4 : Stripe → Stripe) :
    State.evolves a0 (State.updStripe a0 a1 a2 a3 a4) [.wp] := by
  unfold State.updStripe; refine ev_step ?_ (State.setStripes_ev _ _ _) rfl; exact ev_refl

theorem State.assemble_ev (a0 : State) (a1 : Nat) (a2 : Nat) (a3 : Nat) :
    State.evolves a0 (State.assemble a0 a1 a2 a3) [.wp, .warp, .upk] := by
  unfold State.assemble; extract_lets +onlyGivenNames x1
  have h1 : State.evolves a0 x1 [.wp, .warp, .upk] := by
    subst x1; refine ev_step ?_ (State.updStripe_ev _ _ _ _ _) rfl; exact ev_refl
  clear_value x1; extract_lets +onlyGivenNames x2
  have h2 : State.evolves a0 x2 [.wp, .warp, .upk] := by
    subst x2
    split
    · rename_i y3 y4 y5; refine ev_ite ?_ ?_
      · refine ev_step ?_ (State.launch_ev _ _ _) rfl; assumption
      · assumption
    · rename_i y6 y7; assumption
  clear_value x2; refine ev_ite ?_ ?_
  · split
    · rename_i y8 y9 y10; extract_lets +onlyGivenNames x11; subst x11
      extract_lets +onlyGivenNames x12; clear_value x12; extract_lets +onlyGivenNames x13
      have h13 : State.evolves a0 x13 [.wp, .warp, .upk] := by
        subst x13; refine ev_step ?_ (State.setGroup_ev _ _ _) rfl; assumption
      clear_value x13; extract_lets +onlyGivenNames x14; clear_value x14; extract_lets +onlyGivenNames x15
      have h15 : State.evolves a0 x15 [.wp, .warp, .upk] := by
        subst x15; refine ev_step ?_ (State.setBolt_ev _ _ _ _) rfl; assumption
      clear_value x15; refine ev_step ?_ (State.launch_ev _ _ _) rfl; refine ev_step ?_ (State.launch_ev _ _ _) rfl
      assumption
    · rename_i y16 y17; assumption
  · assumption

theorem State.place_ev (a0 : State) (a1 : Nat) (a2 : Part) (a3 : Staged) :
    State.evO a0 (State.place a0 a1 a2 a3) [.regs, .pmc, .evt, .host, .map, .wp, .warp, .upk, .out] := by
  unfold State.place; extract_lets +onlyGivenNames x1
  have h1 : State.evolves a0 x1 [.regs, .pmc, .evt, .host, .map, .wp, .warp, .upk, .out] := by
    subst x1; refine ev_ite ?_ ?_
    · refine ev_step ?_ (State.newStripe_ev _ _ _) rfl; exact ev_refl
    · exact ev_refl
  clear_value x1
  split
  · rename_i y2 y3; exact evO_none
  · rename_i y4 y5 y6; extract_lets +onlyGivenNames x7
    have h7 : State.evolves a0 x7 [.regs, .pmc, .evt, .host, .map, .wp, .warp, .upk, .out] := by
      subst x7; refine ev_step ?_ (State.updStripe_ev _ _ _ _ _) rfl; assumption
    clear_value x7; refine evO_some ?_; refine ev_ite ?_ ?_
    · refine ev_step ?_ (State.assemble_ev _ _ _ _) rfl; assumption
    · assumption

theorem State.replace_ev (a0 : State) (a1 : Nat) (a2 : Part) (a3 : Staged) :
    State.evolves a0 (State.replace a0 a1 a2 a3) [.regs, .pmc, .evt, .host, .map, .wp, .warp, .upk, .out] := by
  unfold State.replace
  split
  · rename_i y1 y2 y3; refine ev_step ?_ (ev_optS (State.place_ev _ _ _ _) y3) rfl; exact ev_refl
  · rename_i y4 y5; exact ev_refl

theorem State.closeBolt_ev (a0 : State) (a1 : Nat) (a2 : Part) (a3 : OpenBolt) :
    State.evolves a0 (State.closeBolt a0 a1 a2 a3) [.regs, .pmc, .evt, .host, .map, .wp, .rd, .warp, .upk, .out] := by
  unfold State.closeBolt; extract_lets +onlyGivenNames x1; clear_value x1
  extract_lets +onlyGivenNames x2; clear_value x2; extract_lets +onlyGivenNames x3; clear_value x3
  extract_lets +onlyGivenNames x4; clear_value x4; extract_lets +onlyGivenNames x5; clear_value x5
  extract_lets +onlyGivenNames x6; clear_value x6; extract_lets +onlyGivenNames x7
  have h7 : State.evolves a0 x7 [.regs, .pmc, .evt, .host, .map, .wp, .rd, .warp, .upk, .out] := by
    subst x7; refine ev_step ?_ (State.setGroup_ev _ _ _) rfl; exact ev_refl
  clear_value x7; extract_lets +onlyGivenNames x8; clear_value x8; extract_lets +onlyGivenNames x9
  have h9 : State.evolves a0 x9 [.regs, .pmc, .evt, .host, .map, .wp, .rd, .warp, .upk, .out] := by
    subst x9; refine ev_step ?_ (State.setBolt_ev _ _ _ _) rfl; refine ev_step ?_ (State.takeBack_ev _ _ _) rfl
    assumption
  clear_value x9; extract_lets +onlyGivenNames x10
  have h10 : State.evolves a0 x10 [.regs, .pmc, .evt, .host, .map, .wp, .rd, .warp, .upk, .out] := by
    subst x10; refine ev_foldl ?_ ?_
    · assumption
    · intro x11 x12 x13; refine ev_step ?_ (State.launch_ev _ _ _) rfl; assumption
  clear_value x10; extract_lets +onlyGivenNames x14
  have h14 : State.evolves a0 x14 [.regs, .pmc, .evt, .host, .map, .wp, .rd, .warp, .upk, .out] := by
    subst x14; refine ev_step ?_ (State.raiseN_ev _ _ _ _) rfl; assumption
  clear_value x14; extract_lets +onlyGivenNames x15
  have h15 : State.evolves a0 x15 [.regs, .pmc, .evt, .host, .map, .wp, .rd, .warp, .upk, .out] := by
    subst x15; refine ev_step ?_ (State.sealBolt_ev _ _ _) rfl; assumption
  clear_value x15; refine ev_foldl ?_ ?_
  · assumption
  · intro x16 x17 x18; refine ev_step ?_ (State.replace_ev _ _ _ _) rfl; assumption

theorem State.closeEarly_ev (a0 : State) (a1 : Nat) (a2 : Part) :
    State.evolves a0 (State.closeEarly a0 a1 a2) [.regs, .pmc, .evt, .host, .map, .wp, .rd, .warp, .upk, .out] := by
  unfold State.closeEarly
  split
  · rename_i y1 y2; exact ev_refl
  · rename_i y3 y4 y5; refine ev_step ?_ (State.closeBolt_ev _ _ _ _) rfl; exact ev_refl

theorem State.pad_ev (a0 : State) (a1 : Nat) (a2 : Stripe) :
    State.evolves a0 (State.pad a0 a1 a2) [.regs, .pmc, .evt, .host, .wp, .warp, .upk] := by
  unfold State.pad; extract_lets +onlyGivenNames x1; clear_value x1; extract_lets +onlyGivenNames x2
  have h2 : State.evolves a0 x2 [.regs, .pmc, .evt, .host, .wp, .warp, .upk] := by
    subst x2; refine ev_step ?_ (State.updStripe_ev _ _ _ _ _) rfl; exact ev_refl
  clear_value x2; refine ev_step ?_ (State.assemble_ev _ _ _ _) rfl; refine ev_step ?_ (State.count_ev _ _ _ _) rfl
  refine ev_step ?_ (State.bump_ev _ _ _) rfl; assumption

theorem State.padPart_ev (a0 : State) (a1 : Nat) (a2 : Part) :
    State.evolves a0 (State.padPart a0 a1 a2) [.regs, .pmc, .evt, .host, .wp, .warp, .upk] := by
  unfold State.padPart
  split
  · rename_i y1 y2 y3; refine ev_ite ?_ ?_
    · exact ev_refl
    · refine ev_step ?_ (State.pad_ev _ _ _) rfl; exact ev_refl
  · rename_i y4 y5; exact ev_refl

theorem State.pushRd_ev (a0 : State) (a1 : Nat) (a2 : RdOp) : State.evolves a0 (State.pushRd a0 a1 a2) [.warp] := by
  unfold State.pushRd; extract_lets +onlyGivenNames x1; clear_value x1
  refine ev_step ?_ (State.setWarp1_ev _ _ _) rfl; exact ev_refl

theorem State.wrapTick_ev (a0 : State) : State.evP a0 (State.wrapTick a0) [.regs, .pmc, .evt, .host, .ntn] := by
  unfold State.wrapTick
  split
  · rename_i y1 y2 y3; refine evP_mk ?_; refine ev_step ?_ (State.raise_ev _ _) rfl
    refine ev_step ?_ (ev_fst (State.ctrInc_ev _ _ _) y3) rfl; exact ev_refl
  · rename_i y4 y5 y6 y7 y8; refine evP_mk ?_; refine ev_step ?_ (ev_fst (State.ctrInc_ev _ _ _) y8) rfl
    exact ev_refl

theorem State.drbgDraw_ev (a0 : State) : State.evP a0 (State.drbgDraw a0) [.regs, .pmc, .cry] := by
  unfold State.drbgDraw; refine evP_mk ?_; refine ev_step ?_ (State.bump_ev _ _ _) rfl
  extract_lets +onlyGivenNames x1; subst x1; refine ev_cry ?_ rfl CryState.wf_upd; exact ev_refl

theorem State.genKey_ev (a0 : State) (a1 : Nat) : State.evP a0 (State.genKey a0 a1) [.regs, .pmc, .cry] := by
  unfold State.genKey
  split
  · rename_i y1 y2 y3 y4; refine evP_mk ?_; refine ev_step ?_ (ev_fst (State.drbgDraw_ev _) y4) rfl; exact ev_refl

theorem State.nextKey_ev (a0 : State) (a1 : Nat) : State.evP a0 (State.nextKey a0 a1) [.regs, .pmc, .cry] := by
  unfold State.nextKey; extract_lets +onlyGivenNames x1; clear_value x1
  split
  · rename_i y2 y3 y4 y5; refine evP_mk ?_; exact ev_refl
  · rename_i y6 y7 y8 y9 y10; refine evP_ite ?_ ?_
    · split
      · rename_i y11 y12 y13 y14; refine evP_mk ?_; refine ev_step ?_ (ev_fst (State.genKey_ev _ _) y14) rfl
        exact ev_refl
    · refine evP_mk ?_; exact ev_refl
  · rename_i y15 y16 y17 y18; refine evP_mk ?_; exact ev_refl

theorem State.agedUndo_ev (a0 : State) (a1 : Nat) : State.evolves a0 (State.agedUndo a0 a1) [.epo] := by
  unfold State.agedUndo; extract_lets +onlyGivenNames x1; clear_value x1; extract_lets +onlyGivenNames x2; subst x2
  refine ev_step ?_ (State.setEpoDom_ev _ _ _) rfl; exact ev_refl

theorem State.genSwitch_ev (a0 : State) (a1 : Nat) :
    State.evolves a0 (State.genSwitch a0 a1) [.regs, .pmc, .evt, .host, .cry, .epo, .ntn] := by
  unfold State.genSwitch; refine ev_ite ?_ ?_
  · exact ev_refl
  · split
    · rename_i y1 y2 y3; refine ev_step ?_ (ev_fst (State.wrapTick_ev _) y3) rfl; exact ev_refl
    · rename_i y4 y5 y6
      split
      · rename_i y7 y8 y9; refine ev_step ?_ (ev_fst (State.nextKey_ev _ _) y9) rfl
        refine ev_step ?_ (ev_fst (State.wrapTick_ev _) y6) rfl; exact ev_refl
      · rename_i y10 y11 y12 y13 y14; extract_lets +onlyGivenNames x15; clear_value x15
        extract_lets +onlyGivenNames x16
        have h16 : State.evolves a0 x16 [.regs, .pmc, .evt, .host, .cry, .epo, .ntn] := by
          subst x16; refine ev_step ?_ (State.agedUndo_ev _ _) rfl
          refine ev_step ?_ (ev_fst (State.nextKey_ev _ _) y14) rfl
          refine ev_step ?_ (ev_fst (State.wrapTick_ev _) y6) rfl; exact ev_refl
        clear_value x16; extract_lets +onlyGivenNames x17; clear_value x17
        extract_lets +onlyGivenNames x18; clear_value x18; extract_lets +onlyGivenNames x19; clear_value x19
        refine ev_step ?_ (State.raiseN_ev _ _ _ _) rfl; refine ev_step ?_ (State.setDom_ev _ _ _) rfl; assumption

theorem State.takeBatch_ev (a0 : State) (a1 : Nat) (a2 : Nat) :
    State.evolves a0 (State.takeBatch a0 a1 a2) [.regs, .pmc, .evt, .host, .cry] := by
  unfold State.takeBatch; extract_lets +onlyGivenNames x1; extract_lets +onlyGivenNames x2; refine ev_ite ?_ ?_
  · refine ev_step ?_ (State.raiseN_ev _ _ _ _) rfl; refine ev_step ?_ (State.setDom_ev _ _ _) rfl; exact ev_refl
  · refine ev_step ?_ (State.setDom_ev _ _ _) rfl; exact ev_refl

theorem State.drawSeq_ev (a0 : State) (a1 : Nat) (a2 : Nat) :
    State.evP a0 (State.drawSeq a0 a1 a2) [.regs, .pmc, .evt, .host, .cry, .epo, .ntn] := by
  unfold State.drawSeq; extract_lets +onlyGivenNames x1; clear_value x1; extract_lets +onlyGivenNames x2
  have h2 : State.evolves a0 x2 [.regs, .pmc, .evt, .host, .cry, .epo, .ntn] := by
    subst x2; refine ev_ite ?_ ?_
    · refine ev_ite ?_ ?_
      · refine ev_step ?_ (State.setDom_ev _ _ _) rfl; exact ev_refl
      · refine ev_step ?_ (State.genSwitch_ev _ _) rfl; exact ev_refl
    · exact ev_refl
  clear_value x2; refine evP_ite ?_ ?_
  · refine evP_mk ?_; assumption
  · extract_lets +onlyGivenNames x3
    have h3 : State.evolves a0 x3 [.regs, .pmc, .evt, .host, .cry, .epo, .ntn] := by
      subst x3; refine ev_ite ?_ ?_
      · refine ev_step ?_ (State.takeBatch_ev _ _ _) rfl; assumption
      · assumption
    clear_value x3; extract_lets +onlyGivenNames x4; clear_value x4; extract_lets +onlyGivenNames x5; clear_value x5
    refine evP_mk ?_; refine ev_step ?_ (State.setDom_ev _ _ _) rfl; assumption

theorem State.encrypt_ev (a0 : State) (a1 : Nat) (a2 : Staged) :
    State.evP a0 (State.encrypt a0 a1 a2) [.regs, .pmc, .evt, .host, .cry, .epo, .ntn] := by
  unfold State.encrypt
  split
  · rename_i y1 y2 y3; refine evP_mk ?_; refine ev_step ?_ (ev_fst (State.drawSeq_ev _ _ _) y3) rfl; exact ev_refl
  · rename_i y4 y5 y6 y7; extract_lets +onlyGivenNames x8; clear_value x8
    split
    · rename_i y9 y10; refine evP_mk ?_; refine ev_step ?_ (ev_fst (State.drawSeq_ev _ _ _) y7) rfl; exact ev_refl
    · rename_i y11 y12 y13; extract_lets +onlyGivenNames x14; clear_value x14; extract_lets +onlyGivenNames x15
      have h15 : State.evolves a0 x15 [.regs, .pmc, .evt, .host, .cry, .epo, .ntn] := by
        subst x15; refine ev_step ?_ (State.count_ev _ _ _ _) rfl
        refine ev_step ?_ (ev_fst (State.drawSeq_ev _ _ _) y7) rfl; exact ev_refl
      clear_value x15; refine evP_mk ?_; assumption

theorem State.encryptLines_ev (a0 : State) (a1 : Nat) (a2 : List Staged) :
    State.evP a0 (State.encryptLines a0 a1 a2) [.regs, .pmc, .evt, .host, .cry, .epo, .ntn] := by
  induction a2 generalizing a0 a1
  · unfold State.encryptLines; refine evP_mk ?_; exact ev_refl
  · rename_i z1 z2 ih3; unfold State.encryptLines
    split
    · rename_i y1 y2 y3 y4
      split
      · rename_i y5 y6 y7 y8; refine evP_mk ?_; refine ev_fst (p := _) ?_ y8; refine evP_step ?_ (ih3 _ _) rfl
        refine ev_fst (p := _) ?_ y4; refine evP_ite ?_ ?_
        · refine evP_step ?_ (State.encrypt_ev _ _ _) rfl; exact ev_refl
        · refine evP_mk ?_; exact ev_refl

theorem State.settleStripe_ev (a0 : State) (a1 : Nat) (a2 : Stripe) :
    State.evolves a0 (State.settleStripe a0 a1 a2) [.regs, .pmc, .evt, .host, .wp, .cry, .epo, .ntn, .warp] := by
  unfold State.settleStripe; extract_lets +onlyGivenNames x1; clear_value x1
  split
  · rename_i y2 y3 y4 y5; extract_lets +onlyGivenNames x6; clear_value x6; extract_lets +onlyGivenNames x7
    have h7 : State.evolves a0 x7 [.regs, .pmc, .evt, .host, .wp, .cry, .epo, .ntn, .warp] := by
      subst x7; refine ev_step ?_ (State.updStripe_ev _ _ _ _ _) rfl
      refine ev_step ?_ (ev_fst (State.encryptLines_ev _ _ _) y5) rfl; exact ev_refl
    clear_value x7; refine ev_ite ?_ ?_
    · refine ev_step ?_ (State.launch_ev _ _ _) rfl; assumption
    · assumption

theorem State.settleGroup_ev (a0 : State) (a1 : Nat) :
    State.evolves a0 (State.settleGroup a0 a1) [.regs, .pmc, .evt, .host, .wp, .cry, .epo, .ntn, .warp] := by
  unfold State.settleGroup; refine ev_foldl ?_ ?_
  · exact ev_refl
  · intro x1 x2 x3; refine ev_ite ?_ ?_
    · refine ev_step ?_ (State.settleStripe_ev _ _ _) rfl; assumption
    · assumption

theorem State.recordLine_ev (a0 : State) (a1 : Nat) (a2 : Stripe) (a3 : Nat) (a4 : Staged) :
    State.evolves a0 (State.recordLine a0 a1 a2 a3 a4) [.regs, .pmc, .evt, .host, .map, .rd, .epo, .upk, .out] := by
  unfold State.recordLine; extract_lets +onlyGivenNames x1; clear_value x1
  split
  · rename_i y2 y3; exact ev_refl
  · rename_i y4 y5; refine ev_ite ?_ ?_
    · exact ev_refl
    · extract_lets +onlyGivenNames x6; clear_value x6; refine ev_step ?_ (State.hostRec_ev _ _ _ _ _) rfl
      exact ev_refl
  · rename_i y7 y8; refine ev_step ?_ (State.dirRec_ev _ _ _) rfl; exact ev_refl
  · rename_i y9 y10; refine ev_step ?_ (State.mapRec_ev _ _ _ _ _ _) rfl; exact ev_refl
  · rename_i y11 y12 y13 y14; refine ev_ite ?_ ?_
    · refine ev_ite ?_ ?_
      · refine ev_step ?_ (State.dirRec_ev _ _ _) rfl; exact ev_refl
      · exact ev_refl
    · extract_lets +onlyGivenNames x15; clear_value x15; extract_lets +onlyGivenNames x16; clear_value x16
      refine ev_ite ?_ ?_
      · refine ev_step ?_ (State.mapRec_ev _ _ _ _ _ _) rfl; exact ev_refl
      · refine ev_ite ?_ ?_
        · extract_lets +onlyGivenNames x17; clear_value x17; extract_lets +onlyGivenNames x18; subst x18
          refine ev_step ?_ (State.deadAt_ev _ _) rfl; refine ev_step ?_ (State.liveAt_ev _ _) rfl
          refine ev_step ?_ (State.setEpoDom_ev _ _ _) rfl; exact ev_refl
        · exact ev_refl

theorem State.recordLines_ev (a0 : State) (a1 : Nat) (a2 : Stripe) (a3 : Nat) (a4 : List Staged) :
    State.evP a0 (State.recordLines a0 a1 a2 a3 a4) [.regs, .pmc, .evt, .host, .map, .rd, .epo, .upk, .out] := by
  induction a4 generalizing a0 a1 a2 a3
  · unfold State.recordLines; refine evP_mk ?_; exact ev_refl
  · rename_i z1 z2 ih3; unfold State.recordLines; refine evP_ite ?_ ?_
    · extract_lets +onlyGivenNames x1
      have h1 : State.evP a0 x1 [.regs, .pmc, .evt, .host, .map, .rd, .epo, .upk, .out] := by
        subst x1; refine evP_step ?_ (ih3 _ _ _ _) rfl; exact ev_refl
      clear_value x1; refine evP_mk ?_; exact ev_fst1 (by assumption)
    · refine evP_ite ?_ ?_
      · refine evP_mk ?_; exact ev_refl
      · refine evP_ite ?_ ?_
        · refine evP_mk ?_; exact ev_refl
        · extract_lets +onlyGivenNames x2
          have h2 : State.evP a0 x2 [.regs, .pmc, .evt, .host, .map, .rd, .epo, .upk, .out] := by
            subst x2; refine evP_step ?_ (ih3 _ _ _ _) rfl; refine ev_step ?_ (State.recordLine_ev _ _ _ _ _) rfl
            exact ev_refl
          clear_value x2; refine evP_mk ?_; exact ev_fst1 (by assumption)

theorem State.updStaged_ev (a0 : State) (a1 : Staged → Bool) (a2 : Staged → Staged) :
    State.evolves a0 (State.updStaged a0 a1 a2) [.wp] := by
  unfold State.updStaged; extract_lets +onlyGivenNames x1; subst x1
  refine ev_wp ?_ rfl (fun w => by dsimp only [WriteState.wf]; exact Tab.wf_mapVals _ _ _ w); exact ev_refl

theorem State.mergeRead_ev (a0 : State) (a1 : Nat) (a2 : Nat) (a3 : Nat) :
    State.evolves a0 (State.mergeRead a0 a1 a2 a3) [.regs, .pmc, .evt, .host, .map, .rd, .warp] := by
  unfold State.mergeRead; refine ev_ite ?_ ?_
  · exact ev_refl
  · extract_lets +onlyGivenNames x1; clear_value x1; extract_lets +onlyGivenNames x2; clear_value x2
    extract_lets +onlyGivenNames x3; clear_value x3; extract_lets +onlyGivenNames x4
    have h4 : State.evolves a0 x4 [.regs, .pmc, .evt, .host, .map, .rd, .warp] := by
      subst x4; refine ev_rd ?_ rfl; exact ev_refl
    clear_value x4; refine ev_step ?_ (State.pushRd_ev _ _ _) rfl; refine ev_step ?_ (State.bump_ev _ _ _) rfl
    refine ev_step ?_ (State.count_ev _ _ _ _) rfl; refine ev_step ?_ (State.wantTag_ev _ _) rfl; assumption

theorem State.completeLine_ev (a0 : State) (a1 : Nat) :
    State.evolves a0 (State.completeLine a0 a1) [.regs, .pmc, .evt, .host, .map, .wp, .rd, .cry, .epo, .ntn, .warp] := by
  unfold State.completeLine; extract_lets +onlyGivenNames x1
  have h1 : State.evolves a0 x1 [.regs, .pmc, .evt, .host, .map, .wp, .rd, .cry, .epo, .ntn, .warp] := by
    subst x1; refine ev_step ?_ (State.wantMap_ev _ _) rfl; exact ev_refl
  clear_value x1; refine ev_ite ?_ ?_
  · assumption
  · extract_lets +onlyGivenNames x2; clear_value x2; extract_lets +onlyGivenNames x3; subst x3
    split
    · rename_i y4 y5; beta_reduce; extract_lets +onlyGivenNames x6
      have h6 : State.evolves a0 x6 [.regs, .pmc, .evt, .host, .map, .wp, .rd, .cry, .epo, .ntn, .warp] := by
        subst x6; refine ev_step ?_ (State.updStaged_ev _ _ _) rfl; assumption
      clear_value x6; refine ev_foldl ?_ ?_
      · assumption
      · intro x7 x8 x9; refine ev_step ?_ (State.settleGroup_ev _ _) rfl; assumption
    · rename_i y10 y11; beta_reduce; extract_lets +onlyGivenNames x12
      have h12 : State.evolves a0 x12 [.regs, .pmc, .evt, .host, .map, .wp, .rd, .cry, .epo, .ntn, .warp] := by
        subst x12; refine ev_step ?_ (State.updStaged_ev _ _ _) rfl; assumption
      clear_value x12; refine ev_foldl ?_ ?_
      · assumption
      · intro x13 x14 x15; refine ev_step ?_ (State.settleGroup_ev _ _) rfl; assumption
    · rename_i y16 y17 y18
      split
      · rename_i y19 y20 y21 y22; refine ev_step ?_ (State.mergeRead_ev _ _ _ _) rfl; assumption
      · rename_i y23 y24; assumption

theorem State.supersede_ev (a0 : State) (a1 : Nat) (a2 : Bool) :
    State.evolves a0 (State.supersede a0 a1 a2) [.regs, .pmc, .evt, .host, .wp] := by
  unfold State.supersede; extract_lets +onlyGivenNames x1; clear_value x1; extract_lets +onlyGivenNames x2
  have h2 : State.evolves a0 x2 [.regs, .pmc, .evt, .host, .wp] := by
    subst x2; refine ev_step ?_ (State.updStaged_ev _ _ _) rfl; exact ev_refl
  clear_value x2; refine ev_foldl ?_ ?_
  · assumption
  · intro x3 x4 x5; refine ev_step ?_ (State.count_ev _ _ _ _) rfl; refine ev_step ?_ (State.bump_ev _ _ _) rfl
    assumption

theorem State.enterStaging_ev (a0 : State) (a1 : Nat) (a2 : Staged) :
    State.evO a0 (State.enterStaging a0 a1 a2) [.regs, .pmc, .evt, .host, .map, .wp, .rd, .cry, .epo, .ntn, .warp, .upk, .out] := by
  unfold State.enterStaging; extract_lets +onlyGivenNames x1; clear_value x1; extract_lets +onlyGivenNames x2
  have h2 : State.evolves a0 x2 [.regs, .pmc, .evt, .host, .map, .wp, .rd, .cry, .epo, .ntn, .warp, .upk, .out] := by
    subst x2; refine ev_step ?_ (State.supersede_ev _ _ _) rfl; exact ev_refl
  clear_value x2
  split
  · rename_i y3 y4; exact evO_none
  · rename_i y5 y6 y7; extract_lets +onlyGivenNames x8
    have h8 : State.evolves a0 x8 [.regs, .pmc, .evt, .host, .map, .wp, .rd, .cry, .epo, .ntn, .warp, .upk, .out] := by
      subst x8; refine ev_step ?_ (State.wantMap_ev _ _) rfl
      refine ev_step ?_ (ev_optS (State.place_ev _ _ _ _) y7) rfl; assumption
    clear_value x8; extract_lets +onlyGivenNames x9
    have h9 : State.evolves a0 x9 [.regs, .pmc, .evt, .host, .map, .wp, .rd, .cry, .epo, .ntn, .warp, .upk, .out] := by
      subst x9; refine ev_ite ?_ ?_
      · refine ev_step ?_ (State.wantTag_ev _ _) rfl; assumption
      · assumption
    clear_value x9; refine evO_some ?_; refine ev_ite ?_ ?_
    · refine ev_step ?_ (State.completeLine_ev _ _) rfl; assumption
    · refine ev_step ?_ (State.settleGroup_ev _ _) rfl; assumption

theorem State.sealStripe_ev (a0 : State) (a1 : Nat) (a2 : Nat) (a3 : Nat) :
    State.evolves a0 (State.sealStripe a0 a1 a2 a3) [.regs, .pmc, .evt, .host, .wp, .rd, .upk] := by
  unfold State.sealStripe
  split
  · rename_i y1 y2; exact ev_refl
  · rename_i y3 y4 y5; refine ev_ite ?_ ?_
    · exact ev_refl
    · extract_lets +onlyGivenNames x6; clear_value x6; extract_lets +onlyGivenNames x7
      have h7 : State.evolves a0 x7 [.regs, .pmc, .evt, .host, .wp, .rd, .upk] := by
        subst x7; refine ev_ite ?_ ?_
        · refine ev_step ?_ (State.setStripes_ev _ _ _) rfl; exact ev_refl
        · refine ev_step ?_ (State.count_ev _ _ _ _) rfl; refine ev_step ?_ (State.setFld_ev _ _ _) rfl
          refine ev_step ?_ (State.updStripe_ev _ _ _ _ _) rfl; exact ev_refl
      clear_value x7; refine ev_step ?_ (State.sealBolt_ev _ _ _) rfl; assumption

theorem State.closeStripe_ev (a0 : State) (a1 : Nat) (a2 : Stripe) :
    State.evolves a0 (State.closeStripe a0 a1 a2) [.regs, .pmc, .evt, .host, .map, .wp, .rd, .warp, .upk, .out] := by
  unfold State.closeStripe; refine ev_step ?_ (State.closeBolt_ev _ _ _ _) rfl; exact ev_refl

theorem State.recordStripe_ev (a0 : State) (a1 : Nat) (a2 : Stripe) :
    State.evolves a0 (State.recordStripe a0 a1 a2) [.regs, .pmc, .evt, .host, .map, .wp, .rd, .epo, .upk, .out] := by
  unfold State.recordStripe
  split
  · rename_i y1 y2 y3 y4 y5; extract_lets +onlyGivenNames x6
    have h6 : State.evolves a0 x6 [.regs, .pmc, .evt, .host, .map, .wp, .rd, .epo, .upk, .out] := by
      subst x6; refine ev_step ?_ (State.updStripe_ev _ _ _ _ _) rfl
      refine ev_step ?_ (ev_fst (State.recordLines_ev _ _ _ _ _) y5) rfl; exact ev_refl
    clear_value x6; refine ev_ite ?_ ?_
    · refine ev_step ?_ (State.settleBolt_ev _ _ _) rfl; refine ev_step ?_ (State.setStripes_ev _ _ _) rfl; assumption
    · refine ev_ite ?_ ?_
      · refine ev_step ?_ (State.raiseN_ev _ _ _ _) rfl; extract_lets +onlyGivenNames x7; subst x7
        refine ev_map ?_ rfl MapState.wf_upd; assumption
      · assumption

theorem State.drawMeta_ev (a0 : State) : State.evP a0 (State.drawMeta a0) [.regs, .pmc, .evt, .host, .map, .ntn] := by
  unfold State.drawMeta; extract_lets +onlyGivenNames x1
  have h1 : State.evolves a0 x1 [.regs, .pmc, .evt, .host, .map, .ntn] := by
    subst x1; refine ev_ite ?_ ?_
    · refine ev_fst1 ?_; refine evP_step ?_ (State.ctrInc_ev _ _ _) rfl; exact ev_refl
    · exact ev_refl
  clear_value x1; refine evP_mk ?_; extract_lets +onlyGivenNames x2; subst x2; refine ev_map ?_ rfl MapState.wf_upd
  assumption

end Sys2Proof.Machine
end

