-- ==== Sys2Proof/Laws/EvRetire.lean ====
section
/-!
SUPPORT. What each operation of Machine/Retire.lean may change: its parts of the state, and that the register stores stay
canonical.
-/
set_option Elab.async false
namespace Sys2Proof.Machine

theorem State.addBucket_ev (a0 : State) (a1 : Res) (a2 : Nat) (a3 : Nat) :
    State.evolves a0 (State.addBucket a0 a1 a2 a3) [.flt] := by
  unfold State.addBucket; extract_lets +onlyGivenNames x1; clear_value x1
  extract_lets +onlyGivenNames x2; clear_value x2; extract_lets +onlyGivenNames x3; clear_value x3
  extract_lets +onlyGivenNames x4; clear_value x4; refine ev_flt ?_ rfl; exact ev_refl

theorem State.loseMember_ev (a0 : State) (a1 : Nat) (a2 : Nat) (a3 : Nat → Bool) :
    State.evolves a0 (State.loseMember a0 a1 a2 a3) [.regs, .pmc, .evt, .host, .map, .wp, .rd, .warp, .upk, .out] := by
  unfold State.loseMember; extract_lets +onlyGivenNames x1; subst x1; extract_lets +onlyGivenNames x2
  have h2 : State.evolves a0 x2 [.regs, .pmc, .evt, .host, .map, .wp, .rd, .warp, .upk, .out] := by
    subst x2
    refine ev_upk ?_ rfl (fun z => (UpkState.wf_iff _).mpr (by have w := (UpkState.wf_iff _).mp z; dsimp only; exact ⟨⟨⟨Tab.wf_mapVals _ _ _ w.1.1.1, w.1.1.2⟩, w.1.2⟩, w.2⟩))
    exact ev_refl
  clear_value x2; refine ev_foldl ?_ ?_
  · assumption
  · intro x3 x4 x5
    split
    · rename_i y6 y7 y8; refine ev_ite ?_ ?_
      · refine ev_step ?_ (State.closeEarly_ev _ _ _) rfl; assumption
      · assumption
    · rename_i y9 y10; assumption

theorem State.resetDone_ev (a0 : State) (a1 : Nat) (a2 : Nat) :
    State.evolves a0 (State.resetDone a0 a1 a2) [.regs, .pmc, .evt, .host, .map, .wp, .ntn, .upk, .out] := by
  unfold State.resetDone; extract_lets +onlyGivenNames x1; clear_value x1; refine ev_ite ?_ ?_
  · exact ev_refl
  · extract_lets +onlyGivenNames x2; clear_value x2; extract_lets +onlyGivenNames x3; clear_value x3
    extract_lets +onlyGivenNames x4
    have h4 : State.evolves a0 x4 [.regs, .pmc, .evt, .host, .map, .wp, .ntn, .upk, .out] := by
      subst x4; refine ev_step ?_ (State.setBolt_ev _ _ _ _) rfl; exact ev_refl
    clear_value x4; extract_lets +onlyGivenNames x5; clear_value x5; extract_lets +onlyGivenNames x6
    have h6 : State.evolves a0 x6 [.regs, .pmc, .evt, .host, .map, .wp, .ntn, .upk, .out] := by
      subst x6; refine ev_step ?_ (State.count_ev _ _ _ _) rfl; refine ev_step ?_ (State.setUpkG_ev _ _ _) rfl
      assumption
    clear_value x6; refine ev_step ?_ (State.checkAlerts_ev _) rfl; refine ev_step ?_ (State.freeLevels_ev _ _) rfl
    assumption

theorem State.loseDoubly_ev (a0 : State) (a1 : Nat) :
    State.evolves a0 (State.loseDoubly a0 a1) [.regs, .pmc, .evt, .host, .map, .rd, .upk, .out] := by
  unfold State.loseDoubly; extract_lets +onlyGivenNames x1; clear_value x1; extract_lets +onlyGivenNames x2; subst x2
  extract_lets +onlyGivenNames x3; clear_value x3; extract_lets +onlyGivenNames x4; clear_value x4
  extract_lets +onlyGivenNames x5; clear_value x5; extract_lets +onlyGivenNames x6
  have h6 : State.evolves a0 x6 [.regs, .pmc, .evt, .host, .map, .rd, .upk, .out] := by
    subst x6; refine ev_foldl ?_ ?_
    · exact ev_refl
    · intro x7 x8 x9; refine ev_ite ?_ ?_
      · refine ev_step ?_ (State.bump_ev _ _ _) rfl; refine ev_step ?_ (State.makeLost_ev _ _ _ _) rfl; assumption
      · refine ev_ite ?_ ?_
        · refine ev_step ?_ (State.raiseN_ev _ _ _ _) rfl; refine ev_step ?_ (State.loseCovered_ev _ _) rfl
          refine ev_step ?_ (State.mapRec_ev _ _ _ _ _ _) rfl; assumption
        · refine ev_step ?_ (State.mapRec_ev _ _ _ _ _ _) rfl; assumption
  clear_value x6; refine ev_foldl ?_ ?_
  · assumption
  · intro x10 x11 x12; refine ev_step ?_ (State.loseCovered_ev _ _) rfl; assumption

theorem State.darnStart_ev (a0 : State) (a1 : Nat) :
    State.evolves a0 (State.darnStart a0 a1) [.regs, .pmc, .evt, .host, .map, .rd, .upk, .out] := by
  unfold State.darnStart; extract_lets +onlyGivenNames x1; clear_value x1
  extract_lets +onlyGivenNames x2; clear_value x2; extract_lets +onlyGivenNames x3
  have h3 : State.evolves a0 x3 [.regs, .pmc, .evt, .host, .map, .rd, .upk, .out] := by
    subst x3; refine ev_step ?_ (State.setUpkG_ev _ _ _) rfl; exact ev_refl
  clear_value x3; extract_lets +onlyGivenNames x4
  have h4 : State.evolves a0 x4 [.regs, .pmc, .evt, .host, .map, .rd, .upk, .out] := by
    subst x4; refine ev_step ?_ (State.upkEvent_ev _ _ _ _ _ _) rfl; assumption
  clear_value x4; refine ev_ite ?_ ?_
  · refine ev_step ?_ (State.loseDoubly_ev _ _) rfl; refine ev_step ?_ (State.upkEvent_ev _ _ _ _ _ _) rfl; assumption
  · assumption

theorem State.loseSelvage_ev (a0 : State) (a1 : Nat) (a2 : Nat) :
    State.evolves a0 (State.loseSelvage a0 a1 a2) [.regs, .pmc, .evt, .host, .map] := by
  unfold State.loseSelvage; extract_lets +onlyGivenNames x1; subst x1; extract_lets +onlyGivenNames x2
  have h2 : State.evolves a0 x2 [.regs, .pmc, .evt, .host, .map] := by
    subst x2; beta_reduce; refine ev_step ?_ (State.setRegion_ev _ _ _ _) rfl
    refine ev_step ?_ (State.setRegion_ev _ _ _ _) rfl; exact ev_refl
  clear_value x2; refine ev_step ?_ (State.raise_ev _ _) rfl; extract_lets +onlyGivenNames x3; subst x3
  refine ev_map ?_ rfl MapState.wf_upd; assumption

theorem State.checkWidth_ev (a0 : State) (a1 : Nat) :
    State.evolves a0 (State.checkWidth a0 a1) [.regs, .pmc, .evt, .host, .wp, .upk] := by
  unfold State.checkWidth; extract_lets +onlyGivenNames x1; clear_value x1; refine ev_ite ?_ ?_
  · extract_lets +onlyGivenNames x2
    have h2 : State.evolves a0 x2 [.regs, .pmc, .evt, .host, .wp, .upk] := by
      subst x2; refine ev_step ?_ (State.raise_ev _ _) rfl; refine ev_step ?_ (State.setGroup_ev _ _ _) rfl
      exact ev_refl
    clear_value x2; extract_lets +onlyGivenNames x3; clear_value x3; extract_lets +onlyGivenNames x4
    have h4 : State.evolves a0 x4 [.regs, .pmc, .evt, .host, .wp, .upk] := by
      subst x4; refine ev_step ?_ (State.setUpkG_ev _ _ _) rfl; assumption
    clear_value x4; refine ev_step ?_ (State.upkEvent_ev _ _ _ _ _ _) rfl; assumption
  · exact ev_refl

theorem State.retireSkein_ev (a0 : State) (a1 : Nat) :
    State.evolves a0 (State.retireSkein a0 a1) [.regs, .pmc, .evt, .host, .map, .wp, .rd, .warp, .link, .upk, .out] := by
  unfold State.retireSkein; extract_lets +onlyGivenNames x1; clear_value x1
  extract_lets +onlyGivenNames x2; clear_value x2; extract_lets +onlyGivenNames x3
  have h3 : State.evolves a0 x3 [.regs, .pmc, .evt, .host, .map, .wp, .rd, .warp, .link, .upk, .out] := by
    subst x3; refine ev_step ?_ (State.setLink1_ev _ _ _) rfl; exact ev_refl
  clear_value x3; extract_lets +onlyGivenNames x4
  have h4 : State.evolves a0 x4 [.regs, .pmc, .evt, .host, .map, .wp, .rd, .warp, .link, .upk, .out] := by
    subst x4; refine ev_step ?_ (State.loseMember_ev _ _ _ _) rfl; assumption
  clear_value x4; extract_lets +onlyGivenNames x5; clear_value x5; extract_lets +onlyGivenNames x6
  have h6 : State.evolves a0 x6 [.regs, .pmc, .evt, .host, .map, .wp, .rd, .warp, .link, .upk, .out] := by
    subst x6; refine ev_step ?_ (State.setGroup_ev _ _ _) rfl; assumption
  clear_value x6; extract_lets +onlyGivenNames x7
  have h7 : State.evolves a0 x7 [.regs, .pmc, .evt, .host, .map, .wp, .rd, .warp, .link, .upk, .out] := by
    subst x7; refine ev_step ?_ (State.raiseN_ev _ _ _ _) rfl; refine ev_step ?_ (State.loseSelvage_ev _ _ _) rfl
    assumption
  clear_value x7; refine ev_step ?_ (State.endUnknown_ev _) rfl; refine ev_step ?_ (State.checkWidth_ev _ _) rfl
  refine ev_step ?_ (State.darnStart_ev _ _) rfl; assumption

theorem State.startFold_ev (a0 : State) (a1 : Nat) :
    State.evolves a0 (State.startFold a0 a1) [.regs, .pmc, .evt, .host, .fch] := by
  unfold State.startFold; refine ev_ite ?_ ?_
  · refine ev_step ?_ (State.raise_ev _ _) rfl; extract_lets +onlyGivenNames x1; clear_value x1; refine ev_fch ?_ rfl
    exact ev_refl
  · extract_lets +onlyGivenNames x2; clear_value x2; refine ev_fch ?_ rfl; exact ev_refl

theorem State.spareBank_ev (a0 : State) (a1 : Nat) (a2 : Nat) :
    State.evolves a0 (State.spareBank a0 a1 a2) [.regs, .pmc, .evt, .host, .fch, .map, .flt] := by
  unfold State.spareBank; extract_lets +onlyGivenNames x1; clear_value x1; refine ev_ite ?_ ?_
  · extract_lets +onlyGivenNames x2; clear_value x2; extract_lets +onlyGivenNames x3
    have h3 : State.evolves a0 x3 [.regs, .pmc, .evt, .host, .fch, .map, .flt] := by
      subst x3; refine ev_flt ?_ rfl; exact ev_refl
    clear_value x3; refine ev_ite ?_ ?_
    · refine ev_step ?_ (State.raise_ev _ _) rfl; assumption
    · assumption
  · extract_lets +onlyGivenNames x4; clear_value x4; extract_lets +onlyGivenNames x5
    have h5 : State.evolves a0 x5 [.regs, .pmc, .evt, .host, .fch, .map, .flt] := by
      subst x5; refine ev_flt ?_ rfl; exact ev_refl
    clear_value x5; extract_lets +onlyGivenNames x6
    have h6 : State.evolves a0 x6 [.regs, .pmc, .evt, .host, .fch, .map, .flt] := by
      subst x6; refine ev_step ?_ (State.raiseN_ev _ _ _ _) rfl; assumption
    clear_value x6; refine ev_ite ?_ ?_
    · refine ev_step ?_ (State.startFold_ev _ _) rfl; assumption
    · refine ev_ite ?_ ?_
      · extract_lets +onlyGivenNames x7; subst x7; refine ev_map ?_ rfl MapState.wf_upd; assumption
      · refine ev_ite ?_ ?_
        · refine ev_step ?_ (State.setFld_ev _ _ _) rfl; refine ev_step ?_ (State.setFld_ev _ _ _) rfl; assumption
        · assumption

theorem State.setQcnt_ev (a0 : State) (a1 : Nat) (a2 : QCnt) : State.evolves a0 (State.setQcnt a0 a1 a2) [.flt] := by
  unfold State.setQcnt; extract_lets +onlyGivenNames x1; clear_value x1; refine ev_flt ?_ rfl; exact ev_refl

theorem State.takeover_ev (a0 : State) (a1 : Nat) :
    State.evolves a0 (State.takeover a0 a1) [.regs, .pmc, .evt, .host, .flt] := by
  unfold State.takeover; refine ev_ite ?_ ?_
  · exact ev_refl
  · refine ev_step ?_ (State.raiseN_ev _ _ _ _) rfl; extract_lets +onlyGivenNames x1; clear_value x1
    refine ev_flt ?_ rfl; exact ev_refl

theorem State.retireAct_ev (a0 : State) (a1 : Res) :
    State.evolves a0 (State.retireAct a0 a1) [.regs, .pmc, .evt, .host, .fch, .map, .wp, .rd, .ntn, .warp, .link, .upk, .flt, .out] := by
  unfold State.retireAct; extract_lets +onlyGivenNames x1; clear_value x1
  extract_lets +onlyGivenNames x2; clear_value x2
  split
  · rename_i y3 y4; extract_lets +onlyGivenNames x5; clear_value x5; extract_lets +onlyGivenNames x6
    have h6 : State.evolves a0 x6 [.regs, .pmc, .evt, .host, .fch, .map, .wp, .rd, .ntn, .warp, .link, .upk, .flt, .out] := by
      subst x6; refine ev_step ?_ (State.loseMember_ev _ _ _ _) rfl; exact ev_refl
    clear_value x6; extract_lets +onlyGivenNames x7; clear_value x7; refine ev_ite ?_ ?_
    · refine ev_step ?_ (State.resetDone_ev _ _ _) rfl; assumption
    · refine ev_ite ?_ ?_
      · refine ev_step ?_ (State.darnStart_ev _ _) rfl; assumption
      · assumption
  · rename_i y8 y9; extract_lets +onlyGivenNames x10; clear_value x10; extract_lets +onlyGivenNames x11
    have h11 : State.evolves a0 x11 [.regs, .pmc, .evt, .host, .fch, .map, .wp, .rd, .ntn, .warp, .link, .upk, .flt, .out] := by
      subst x11; refine ev_step ?_ (State.loseMember_ev _ _ _ _) rfl; exact ev_refl
    clear_value x11; refine ev_step ?_ (State.darnStart_ev _ _) rfl
    refine ev_step ?_ (State.loseSelvage_ev _ _ _) rfl; assumption
  · rename_i y12 y13; refine ev_step ?_ (State.retireSkein_ev _ _) rfl; exact ev_refl
  · rename_i y14 y15; refine ev_step ?_ (State.spareBank_ev _ _ _) rfl; exact ev_refl
  · rename_i y16 y17; extract_lets +onlyGivenNames x18; clear_value x18
    extract_lets +onlyGivenNames x19; clear_value x19; refine ev_ite ?_ ?_
    · refine ev_step ?_ (State.setQcnt_ev _ _ _) rfl; exact ev_refl
    · extract_lets +onlyGivenNames x20
      have h20 : State.evolves a0 x20 [.regs, .pmc, .evt, .host, .fch, .map, .wp, .rd, .ntn, .warp, .link, .upk, .flt, .out] := by
        subst x20; refine ev_step ?_ (State.setQcnt_ev _ _ _) rfl; exact ev_refl
      clear_value x20; refine ev_ite ?_ ?_
      · refine ev_step ?_ (State.retireSkein_ev _ _) rfl; assumption
      · refine ev_ite ?_ ?_
        · extract_lets +onlyGivenNames x21; clear_value x21; extract_lets +onlyGivenNames x22; clear_value x22
          refine ev_step ?_ (State.raise_ev _ _) rfl; refine ev_step ?_ (State.setHead_ev _ _ _) rfl; assumption
        · refine ev_ite ?_ ?_
          · extract_lets +onlyGivenNames x23; clear_value x23; refine ev_step ?_ (State.takeover_ev _ _) rfl
            extract_lets +onlyGivenNames x24; clear_value x24; refine ev_flt ?_ rfl; assumption
          · assumption
  · rename_i y25 y26; extract_lets +onlyGivenNames x27; clear_value x27; refine ev_flt ?_ rfl; exact ev_refl
  · rename_i y28 y29; extract_lets +onlyGivenNames x30; clear_value x30; refine ev_step ?_ (State.takeover_ev _ _) rfl
    extract_lets +onlyGivenNames x31; clear_value x31; refine ev_flt ?_ rfl; exact ev_refl
  · rename_i y32 y33 y34 y35 y36 y37 y38 y39; exact ev_refl

theorem State.freeCovered_ev (a0 : State) (a1 : Res) : State.evolves a0 (State.freeCovered a0 a1) [.flt] := by
  unfold State.freeCovered; refine ev_ite ?_ ?_
  · extract_lets +onlyGivenNames x1; clear_value x1; refine ev_flt ?_ rfl; exact ev_refl
  · refine ev_ite ?_ ?_
    · extract_lets +onlyGivenNames x2; clear_value x2; refine ev_flt ?_ rfl; exact ev_refl
    · exact ev_refl

theorem State.writeRet_ev (a0 : State) (a1 : Res) (a2 : Nat) (a3 : Bool) :
    State.evolves a0 (State.writeRet a0 a1 a2 a3) [.regs, .pmc, .evt, .host, .flt] := by
  unfold State.writeRet; extract_lets +onlyGivenNames x1
  have h1 : State.evolves a0 x1 [.regs, .pmc, .evt, .host, .flt] := by
    subst x1; refine ev_ite ?_ ?_
    · refine ev_step ?_ (State.freeCovered_ev _ _) rfl; exact ev_refl
    · exact ev_refl
  clear_value x1; extract_lets +onlyGivenNames x2; clear_value x2; extract_lets +onlyGivenNames x3; clear_value x3
  extract_lets +onlyGivenNames x4; clear_value x4; extract_lets +onlyGivenNames x5; clear_value x5
  extract_lets +onlyGivenNames x6
  have h6 : State.evolves a0 x6 [.regs, .pmc, .evt, .host, .flt] := by
    subst x6; refine ev_ite ?_ ?_
    · refine ev_flt ?_ rfl; assumption
    · refine ev_ite ?_ ?_
      · refine ev_flt ?_ rfl; assumption
      · refine ev_flt ?_ rfl; assumption
  clear_value x6; refine ev_step ?_ (State.raiseN_ev _ _ _ _) rfl; assumption

theorem State.retire_ev (a0 : State) (a1 : Res) (a2 : Nat) (a3 : Bool) :
    State.evolves a0 (State.retire a0 a1 a2 a3) [.regs, .pmc, .evt, .host, .fch, .map, .wp, .rd, .ntn, .warp, .link, .upk, .flt, .out] := by
  unfold State.retire; refine ev_ite ?_ ?_
  · exact ev_refl
  · extract_lets +onlyGivenNames x1
    have h1 : State.evolves a0 x1 [.regs, .pmc, .evt, .host, .fch, .map, .wp, .rd, .ntn, .warp, .link, .upk, .flt, .out] := by
      subst x1; refine ev_step ?_ (State.bump_ev _ _ _) rfl; exact ev_refl
    clear_value x1; extract_lets +onlyGivenNames x2; clear_value x2; refine ev_ite ?_ ?_
    · refine ev_ite ?_ ?_
      · assumption
      · refine ev_step ?_ (State.retireAct_ev _ _) rfl; refine ev_step ?_ (State.writeRet_ev _ _ _ _) rfl; assumption
    · refine ev_step ?_ (State.retireAct_ev _ _) rfl; refine ev_step ?_ (State.writeRet_ev _ _ _ _) rfl; assumption

theorem State.countThresh_ev (a0 : State) (a1 : Res) (a2 : Nat) :
    State.evolves a0 (State.countThresh a0 a1 a2) [.regs, .pmc, .evt, .host, .fch, .map, .wp, .rd, .ntn, .warp, .link, .upk, .flt, .out] := by
  unfold State.countThresh; extract_lets +onlyGivenNames x1
  have h1 : State.evolves a0 x1 [.regs, .pmc, .evt, .host, .fch, .map, .wp, .rd, .ntn, .warp, .link, .upk, .flt, .out] := by
    subst x1; refine ev_step ?_ (State.addBucket_ev _ _ _ _) rfl; exact ev_refl
  clear_value x1
  split
  · rename_i y2 y3 y4; refine ev_ite ?_ ?_
    · refine ev_step ?_ (State.retire_ev _ _ _ _) rfl; refine ev_step ?_ (State.raiseN_ev _ _ _ _) rfl; assumption
    · assumption
  · rename_i y5 y6; assumption

theorem State.countErr_ev (a0 : State) (a1 : ErrCls) : State.evolves a0 (State.countErr a0 a1) [.regs, .pmc] := by
  unfold State.countErr
  split
  · rename_i y1; refine ev_step ?_ (State.bump_ev _ _ _) rfl; exact ev_refl
  · rename_i y2; refine ev_step ?_ (State.bump_ev _ _ _) rfl; exact ev_refl
  · rename_i y3; refine ev_step ?_ (State.bump_ev _ _ _) rfl; exact ev_refl
  · rename_i y4; refine ev_step ?_ (State.bump_ev _ _ _) rfl; exact ev_refl
  · rename_i y5; refine ev_step ?_ (State.bump_ev _ _ _) rfl; exact ev_refl

theorem State.queueTest_ev (a0 : State) (a1 : Res) (a2 : Nat) (a3 : Nat) :
    State.evolves a0 (State.queueTest a0 a1 a2 a3) [.flt] := by
  unfold State.queueTest; refine ev_ite ?_ ?_
  · extract_lets +onlyGivenNames x1; clear_value x1; refine ev_flt ?_ rfl; exact ev_refl
  · refine ev_ite ?_ ?_
    · extract_lets +onlyGivenNames x2; clear_value x2; refine ev_flt ?_ rfl; exact ev_refl
    · extract_lets +onlyGivenNames x3; clear_value x3; refine ev_flt ?_ rfl; exact ev_refl

theorem State.report_ev (a0 : State) (a1 : Res) (a2 : ErrCls) (a3 : Nat) :
    State.evolves a0 (State.report a0 a1 a2 a3) [.regs, .pmc, .flt] := by
  unfold State.report; refine ev_step ?_ (State.queueTest_ev _ _ _ _) rfl
  refine ev_step ?_ (State.countErr_ev _ _) rfl; exact ev_refl

theorem State.injFire_ev (a0 : State) : State.evolves a0 (State.injFire a0) [.regs, .pmc, .evt, .host, .flt] := by
  unfold State.injFire
  split
  · rename_i y1 y2; exact ev_refl
  · rename_i y3 y4 y5; extract_lets +onlyGivenNames x6; clear_value x6; extract_lets +onlyGivenNames x7
    have h7 : State.evolves a0 x7 [.regs, .pmc, .evt, .host, .flt] := by
      subst x7; refine ev_ite ?_ ?_
      · refine ev_flt ?_ rfl; exact ev_refl
      · exact ev_refl
    clear_value x7; refine ev_ite ?_ ?_
    · refine ev_step ?_ (State.raise_ev _ _) rfl; extract_lets +onlyGivenNames x8; clear_value x8
      refine ev_flt ?_ rfl; assumption
    · extract_lets +onlyGivenNames x9; clear_value x9; refine ev_flt ?_ rfl; assumption

theorem State.quarantine_ev (a0 : State) (a1 : Nat) (a2 : Nat) (a3 : Quad Sector) (a4 : BitVec 4) (a5 : Nat) :
    State.evolves a0 (State.quarantine a0 a1 a2 a3 a4 a5) [.regs, .pmc, .evt, .host, .map, .cry, .epo, .ntn, .flt, .out] := by
  unfold State.quarantine; extract_lets +onlyGivenNames x1; clear_value x1; extract_lets +onlyGivenNames x2
  have h2 : State.evolves a0 x2 [.regs, .pmc, .evt, .host, .map, .cry, .epo, .ntn, .flt, .out] := by
    subst x2; refine ev_fst1 ?_; refine evP_step ?_ (State.drawSeq_ev _ _ _) rfl; exact ev_refl
  clear_value x2; extract_lets +onlyGivenNames x3; clear_value x3; extract_lets +onlyGivenNames x4; clear_value x4
  extract_lets +onlyGivenNames x5; clear_value x5; extract_lets +onlyGivenNames x6; clear_value x6
  extract_lets +onlyGivenNames x7; clear_value x7; extract_lets +onlyGivenNames x8; clear_value x8
  extract_lets +onlyGivenNames x9; clear_value x9; extract_lets +onlyGivenNames x10; clear_value x10
  extract_lets +onlyGivenNames x11; subst x11; extract_lets +onlyGivenNames x12; clear_value x12
  extract_lets +onlyGivenNames x13; clear_value x13; extract_lets +onlyGivenNames x14
  have h14 : State.evolves a0 x14 [.regs, .pmc, .evt, .host, .map, .cry, .epo, .ntn, .flt, .out] := by
    subst x14; refine ev_flt ?_ rfl; assumption
  clear_value x14; extract_lets +onlyGivenNames x15
  have h15 : State.evolves a0 x15 [.regs, .pmc, .evt, .host, .map, .cry, .epo, .ntn, .flt, .out] := by
    subst x15; refine ev_step ?_ (State.raise_ev _ _) rfl; refine ev_step ?_ (State.selvage_ev _ _ _) rfl; assumption
  clear_value x15; extract_lets +onlyGivenNames x16; clear_value x16; refine ev_ite ?_ ?_
  · refine ev_step ?_ (State.raise_ev _ _) rfl; extract_lets +onlyGivenNames x17; clear_value x17
    refine ev_flt ?_ rfl; assumption
  · assumption

theorem State.reportLine_ev (a0 : State) (a1 : Nat) :
    State.evolves a0 (State.reportLine a0 a1) [.regs, .pmc, .flt] := by
  unfold State.reportLine; refine ev_step ?_ (State.report_ev _ _ _ _) rfl; exact ev_refl

theorem State.returnRes_ev (a0 : State) (a1 : Res) : State.evolves a0 (State.returnRes a0 a1) [.wp, .link, .flt] := by
  unfold State.returnRes; extract_lets +onlyGivenNames x1; clear_value x1
  split
  · rename_i y2 y3; extract_lets +onlyGivenNames x4
    have h4 : State.evolves a0 x4 [.wp, .link, .flt] := by
      subst x4; refine ev_step ?_ (State.setLink1_ev _ _ _) rfl; exact ev_refl
    clear_value x4; refine ev_step ?_ (State.setGroup_ev _ _ _) rfl; assumption
  · rename_i y5 y6; extract_lets +onlyGivenNames x7; clear_value x7; extract_lets +onlyGivenNames x8; clear_value x8
    refine ev_flt ?_ rfl; exact ev_refl
  · rename_i y9 y10; extract_lets +onlyGivenNames x11; clear_value x11
    extract_lets +onlyGivenNames x12; clear_value x12; refine ev_step ?_ (State.setQcnt_ev _ _ _) rfl; exact ev_refl
  · rename_i y13 y14; extract_lets +onlyGivenNames x15; clear_value x15; refine ev_flt ?_ rfl; exact ev_refl
  · rename_i y16 y17; extract_lets +onlyGivenNames x18; clear_value x18
    extract_lets +onlyGivenNames x19; clear_value x19; refine ev_flt ?_ rfl; exact ev_refl
  · rename_i y20 y21 y22 y23 y24 y25; exact ev_refl

theorem State.applyUndo_ev (a0 : State) : State.evolves a0 (State.applyUndo a0) [.wp, .link, .flt] := by
  unfold State.applyUndo; extract_lets +onlyGivenNames x1; clear_value x1
  extract_lets +onlyGivenNames x2; clear_value x2; extract_lets +onlyGivenNames x3
  have h3 : State.evolves a0 x3 [.wp, .link, .flt] := by
    subst x3; refine ev_flt ?_ rfl; exact ev_refl
  clear_value x3; refine ev_foldl ?_ ?_
  · assumption
  · intro x4 x5 x6; refine ev_step ?_ (State.returnRes_ev _ _) rfl; assumption

theorem State.programError_ev (a0 : State) (a1 : Nat) (a2 : Nat) :
    State.evolves a0 (State.programError a0 a1 a2) [.regs, .pmc, .evt, .host, .fch, .map, .wp, .rd, .ntn, .warp, .link, .upk, .flt, .out] := by
  unfold State.programError; extract_lets +onlyGivenNames x1; clear_value x1
  extract_lets +onlyGivenNames x2; clear_value x2; extract_lets +onlyGivenNames x3; clear_value x3
  extract_lets +onlyGivenNames x4
  have h4 : State.evolves a0 x4 [.regs, .pmc, .evt, .host, .fch, .map, .wp, .rd, .ntn, .warp, .link, .upk, .flt, .out] := by
    subst x4; refine ev_flt ?_ rfl; exact ev_refl
  clear_value x4; extract_lets +onlyGivenNames x5
  have h5 : State.evolves a0 x5 [.regs, .pmc, .evt, .host, .fch, .map, .wp, .rd, .ntn, .warp, .link, .upk, .flt, .out] := by
    subst x5; refine ev_step ?_ (State.countErr_ev _ _) rfl; assumption
  clear_value x5; refine ev_ite ?_ ?_
  · refine ev_step ?_ (State.retire_ev _ _ _ _) rfl; refine ev_step ?_ (State.raiseN_ev _ _ _ _) rfl; assumption
  · refine ev_step ?_ (State.queueTest_ev _ _ _ _) rfl; assumption

end Sys2Proof.Machine
end

