-- ==== Sys2Proof/Laws/EvWindow.lean ====
section
/-!
SUPPORT. What each operation of Machine/Window.lean may change: its parts of the state, and that the register stores stay
canonical.
-/
set_option Elab.async false
namespace Sys2Proof.Machine

theorem State.fchCorrected_ev (a0 : State) (a1 : Nat) (a2 : Nat) :
    State.evolves a0 (State.fchCorrected a0 a1 a2) [.regs, .pmc, .evt, .host, .fch] := by
  unfold State.fchCorrected; extract_lets +onlyGivenNames x1
  have h1 : State.evolves a0 x1 [.regs, .pmc, .evt, .host, .fch] := by
    subst x1; refine ev_step ?_ (State.count_ev _ _ _ _) rfl; refine ev_step ?_ (State.bump_ev _ _ _) rfl
    exact ev_refl
  clear_value x1; extract_lets +onlyGivenNames x2; clear_value x2; extract_lets +onlyGivenNames x3; clear_value x3
  extract_lets +onlyGivenNames x4; clear_value x4; refine ev_ite ?_ ?_
  · refine ev_step ?_ (State.raiseN_ev _ _ _ _) rfl; refine ev_fch ?_ rfl; assumption
  · refine ev_fch ?_ rfl; assumption

theorem State.setWword_ev (a0 : State) (a1 : Nat) (a2 : WWord) :
    State.evolves a0 (State.setWword a0 a1 a2) [.swt] := by
  unfold State.setWword; extract_lets +onlyGivenNames x1; clear_value x1; refine ev_swt ?_ rfl; exact ev_refl

theorem State.writeWords_ev (a0 : State) (a1 : Nat) (a2 : Sector) (a3 : BitVec 64) (a4 : Bool) (a5 : Nat) :
    State.evolves a0 (State.writeWords a0 a1 a2 a3 a4 a5) [.swt] := by
  induction a5 generalizing a0 a1 a2 a3 a4
  · unfold State.writeWords; exact ev_refl
  · rename_i z1 ih2; unfold State.writeWords; extract_lets +onlyGivenNames x1
    have h1 : State.evolves a0 x1 [.swt] := by
      subst x1; refine ev_step ?_ (ih2 _ _ _ _ _) rfl; exact ev_refl
    clear_value x1; refine ev_step ?_ (State.setWword_ev _ _ _) rfl; assumption

theorem State.readWord_ev (a0 : State) (a1 : Nat) :
    State.evP a0 (State.readWord a0 a1) [.regs, .pmc, .evt, .host, .fch, .swt] := by
  unfold State.readWord; extract_lets +onlyGivenNames x1; clear_value x1
  split
  · rename_i y2 y3; refine evP_mk ?_; refine ev_step ?_ (State.raiseN_ev _ _ _ _) rfl; exact ev_refl
  · rename_i y4 y5; refine evP_mk ?_; exact ev_refl
  · rename_i y6 y7; extract_lets +onlyGivenNames x8; clear_value x8; refine evP_ite ?_ ?_
    · refine evP_mk ?_; exact ev_refl
    · refine evP_ite ?_ ?_
      · refine evP_mk ?_; refine ev_step ?_ (State.fchCorrected_ev _ _ _) rfl
        refine ev_step ?_ (State.setWword_ev _ _ _) rfl; exact ev_refl
      · refine evP_mk ?_; refine ev_step ?_ (State.raiseN_ev _ _ _ _) rfl
        refine ev_step ?_ (State.setWword_ev _ _ _) rfl; exact ev_refl

theorem State.readWords_ev (a0 : State) (a1 : Nat) (a2 : Nat) :
    State.evP a0 (State.readWords a0 a1 a2) [.regs, .pmc, .evt, .host, .fch, .swt] := by
  induction a2 generalizing a0 a1
  · unfold State.readWords; refine evP_mk ?_; exact ev_refl
  · rename_i z1 ih2; unfold State.readWords; extract_lets +onlyGivenNames x1
    have h1 : State.evP a0 x1 [.regs, .pmc, .evt, .host, .fch, .swt] := by
      subst x1; refine evP_step ?_ (ih2 _ _) rfl; exact ev_refl
    clear_value x1; extract_lets +onlyGivenNames x2
    have h2 : State.evP a0 x2 [.regs, .pmc, .evt, .host, .fch, .swt] := by
      subst x2; refine evP_step ?_ (State.readWord_ev _ _) rfl; exact ev_fst1 (by assumption)
    clear_value x2; refine evP_mk ?_; exact ev_fst1 (by assumption)

theorem State.fillWindow_ev (a0 : State) (a1 : WWord) : State.evolves a0 (State.fillWindow a0 a1) [.swt] := by
  unfold State.fillWindow; extract_lets +onlyGivenNames x1; clear_value x1; refine ev_swt ?_ rfl; exact ev_refl

end Sys2Proof.Machine
end

