-- ==== Sys2Proof/Laws/EvFront.lean ====
section
/-!
SUPPORT. What each operation of Machine/Front.lean may change: its parts of the state, and that the register stores stay
canonical.
-/
set_option Elab.async false
namespace Sys2Proof.Machine

theorem State.dropSide_ev (a0 : State) (a1 : Nat) : State.evolves a0 (State.dropSide a0 a1) [.fch] := by
  unfold State.dropSide; extract_lets +onlyGivenNames x1; clear_value x1; refine ev_fch ?_ rfl; exact ev_refl

theorem State.setSlot_ev (a0 : State) (a1 : Nat) (a2 : Option CLine) :
    State.evolves a0 (State.setSlot a0 a1 a2) [.fch] := by
  unfold State.setSlot; extract_lets +onlyGivenNames x1; clear_value x1; refine ev_fch ?_ rfl; exact ev_refl

theorem State.updLine_ev (a0 : State) (a1 : Nat) (a2 : CLine → CLine) :
    State.evolves a0 (State.updLine a0 a1 a2) [.fch] := by
  unfold State.updLine
  split
  · rename_i y1 y2 y3 y4; refine ev_step ?_ (State.setSlot_ev _ _ _) rfl; exact ev_refl
  · rename_i y5 y6; extract_lets +onlyGivenNames x7; clear_value x7; refine ev_fch ?_ rfl; exact ev_refl

theorem State.correctedBank_ev (a0 : State) (a1 : Res) (a2 : Nat) (a3 : Nat) :
    State.evolves a0 (State.correctedBank a0 a1 a2 a3) [.regs, .pmc, .evt, .host, .fch, .map, .wp, .rd, .ntn, .warp, .link, .upk, .flt, .out] := by
  unfold State.correctedBank; extract_lets +onlyGivenNames x1
  have h1 : State.evolves a0 x1 [.regs, .pmc, .evt, .host, .fch, .map, .wp, .rd, .ntn, .warp, .link, .upk, .flt, .out] := by
    subst x1; refine ev_step ?_ (State.countThresh_ev _ _ _) rfl; refine ev_step ?_ (State.countErr_ev _ _) rfl
    refine ev_step ?_ (State.fchCorrected_ev _ _ _) rfl; exact ev_refl
  clear_value x1; refine ev_ite ?_ ?_
  · refine ev_step ?_ (State.queueTest_ev _ _ _ _) rfl; assumption
  · assumption

theorem State.dropLine_ev (a0 : State) (a1 : Nat) : State.evolves a0 (State.dropLine a0 a1) [.fch] := by
  unfold State.dropLine
  split
  · rename_i y1 y2 y3 y4; refine ev_step ?_ (State.setSlot_ev _ _ _) rfl; exact ev_refl
  · rename_i y5 y6; extract_lets +onlyGivenNames x7; clear_value x7; refine ev_fch ?_ rfl; exact ev_refl

theorem State.reportTagBanks_ev (a0 : State) (a1 : Nat) :
    State.evolves a0 (State.reportTagBanks a0 a1) [.regs, .pmc, .flt] := by
  unfold State.reportTagBanks; refine ev_foldl ?_ ?_
  · refine ev_step ?_ (State.countErr_ev _ _) rfl; exact ev_refl
  · intro x1 x2 x3; refine ev_step ?_ (State.queueTest_ev _ _ _ _) rfl; assumption

theorem State.respond_ev (a0 : State) (a1 : Nat) (a2 : Output) :
    State.evolves a0 (State.respond a0 a1 a2) [.out] := by
  unfold State.respond; refine ev_ite ?_ ?_
  · exact ev_refl
  · refine ev_step ?_ (State.emit_ev _ _) rfl; exact ev_refl

theorem State.cmp_ev (a0 : State) (a1 : Nat) (a2 : Nat) : State.evolves a0 (State.cmp a0 a1 a2) [.out] := by
  unfold State.cmp; refine ev_step ?_ (State.respond_ev _ _ _) rfl; exact ev_refl

theorem State.memData_ev (a0 : State) (a1 : Nat) (a2 : Nat) (a3 : Sector) (a4 : Bool) :
    State.evolves a0 (State.memData a0 a1 a2 a3 a4) [.regs, .pmc, .evt, .host, .out] := by
  unfold State.memData; extract_lets +onlyGivenNames x1
  have h1 : State.evolves a0 x1 [.regs, .pmc, .evt, .host, .out] := by
    subst x1; refine ev_step ?_ (State.respond_ev _ _ _) rfl; exact ev_refl
  clear_value x1; refine ev_ite ?_ ?_
  · refine ev_step ?_ (State.count_ev _ _ _ _) rfl; assumption
  · assumption

theorem State.failReq_ev (a0 : State) (a1 : Req) :
    State.evolves a0 (State.failReq a0 a1) [.regs, .pmc, .evt, .host, .out] := by
  unfold State.failReq; refine ev_ite ?_ ?_
  · refine ev_step ?_ (State.cmp_ev _ _ _) rfl; exact ev_refl
  · refine ev_step ?_ (State.memData_ev _ _ _ _ _) rfl; exact ev_refl

theorem State.failScope_ev (a0 : State) (a1 : Bool) (a2 : Nat) :
    State.evolves a0 (State.failScope a0 a1 a2) [.regs, .pmc, .evt, .host, .fch, .wp, .epo, .out] := by
  unfold State.failScope; unfold State.endWhere; extract_lets +onlyGivenNames x1; subst x1
  extract_lets +onlyGivenNames x2; clear_value x2; extract_lets +onlyGivenNames x3; clear_value x3
  extract_lets +onlyGivenNames x4; clear_value x4; extract_lets +onlyGivenNames x5; subst x5
  extract_lets +onlyGivenNames x6; subst x6; extract_lets +onlyGivenNames x7
  have h7 : State.evolves a0 x7 [.regs, .pmc, .evt, .host, .fch, .wp, .epo, .out] := by
    subst x7
    refine ev_updW ?_ id id id WriteState.wf_upd id EpoState.wf_upd id id id id (by intro p; cases p <;> first | exact .inl (by decide) | exact .inr rfl | exact .inr ⟨rfl, rfl⟩)
    exact ev_refl
  clear_value x7; refine ev_foldl ?_ ?_
  · refine ev_foldl ?_ ?_
    · assumption
    · intro x8 x9 x10; refine ev_step ?_ (State.failReq_ev _ _) rfl; assumption
  · intro x11 x12 x13; refine ev_step ?_ (State.cmp_ev _ _ _) rfl; assumption

theorem State.haltRecord_ev (a0 : State) (a1 : Bool) (a2 : Nat) (a3 : Nat) (a4 : Nat) (a5 : Nat) :
    State.evolves a0 (State.haltRecord a0 a1 a2 a3 a4 a5) [.cry] := by
  unfold State.haltRecord; extract_lets +onlyGivenNames x1; clear_value x1
  extract_lets +onlyGivenNames x2; clear_value x2; extract_lets +onlyGivenNames x3; subst x3
  refine ev_cry ?_ rfl CryState.wf_upd; exact ev_refl

theorem State.failPrepare_ev (a0 : State) (a1 : EpoDom) :
    State.evolves a0 (State.failPrepare a0 a1) [.epo, .out] := by
  unfold State.failPrepare
  split
  · rename_i y1 y2; refine ev_step ?_ (State.answerMbox_ev _ _ _ _) rfl; exact ev_refl
  · rename_i y3 y4; extract_lets +onlyGivenNames x5; subst x5; refine ev_epo ?_ rfl EpoState.wf_upd; exact ev_refl
  · rename_i y6 y7 y8; exact ev_refl

theorem State.endPreparing_ev (a0 : State) (a1 : Nat) : State.evolves a0 (State.endPreparing a0 a1) [.epo, .out] := by
  unfold State.endPreparing; extract_lets +onlyGivenNames x1; clear_value x1; refine ev_ite ?_ ?_
  · refine ev_step ?_ (State.setEpoDom_ev _ _ _) rfl; refine ev_step ?_ (State.failPrepare_ev _ _) rfl; exact ev_refl
  · exact ev_refl

theorem State.dropUpkeep_ev (a0 : State) : State.evolves a0 (State.dropUpkeep a0) [.wp] := by
  unfold State.dropUpkeep; refine ev_foldl ?_ ?_
  · exact ev_refl
  · intro x1 x2 x3; refine ev_step ?_ (State.setGroup_ev _ _ _) rfl; assumption

theorem State.hand_ev (a0 : State) (a1 : Nat) :
    State.evolves a0 (State.hand a0 a1) [.regs, .pmc, .evt, .host, .fch, .wp] := by
  unfold State.hand
  split
  · rename_i y1 y2; exact ev_refl
  · rename_i y3 y4 y5; refine ev_ite ?_ ?_
    · exact ev_refl
    · extract_lets +onlyGivenNames x6
      have h6 : State.evolves a0 x6 [.regs, .pmc, .evt, .host, .fch, .wp] := by
        subst x6; refine ev_step ?_ (State.updLine_ev _ _ _) rfl; exact ev_refl
      clear_value x6; extract_lets +onlyGivenNames x7; clear_value x7; refine ev_step ?_ (State.count_ev _ _ _ _) rfl
      extract_lets +onlyGivenNames x8; subst x8; refine ev_wp ?_ rfl WriteState.wf_upd; assumption

theorem State.padAll_ev (a0 : State) :
    State.evolves a0 (State.padAll a0) [.regs, .pmc, .evt, .host, .wp, .warp, .upk] := by
  unfold State.padAll; refine ev_foldl ?_ ?_
  · exact ev_refl
  · intro x1 x2 x3; refine ev_step ?_ (State.padPart_ev _ _ _) rfl; refine ev_step ?_ (State.padPart_ev _ _ _) rfl
    assumption

theorem State.beginFlush_ev (a0 : State) (a1 : FlushKind) :
    State.evolves a0 (State.beginFlush a0 a1) [.regs, .pmc, .evt, .host, .fch, .wp, .warp, .upk, .pwr] := by
  unfold State.beginFlush; extract_lets +onlyGivenNames x1; clear_value x1
  extract_lets +onlyGivenNames x2; clear_value x2; extract_lets +onlyGivenNames x3; subst x3
  extract_lets +onlyGivenNames x4
  have h4 : State.evolves a0 x4 [.regs, .pmc, .evt, .host, .fch, .wp, .warp, .upk, .pwr] := by
    subst x4; refine ev_wp ?_ rfl WriteState.wf_upd; exact ev_refl
  clear_value x4; extract_lets +onlyGivenNames x5
  have h5 : State.evolves a0 x5 [.regs, .pmc, .evt, .host, .fch, .wp, .warp, .upk, .pwr] := by
    subst x5; refine ev_step ?_ (State.dropUpkeep_ev _) rfl; assumption
  clear_value x5; extract_lets +onlyGivenNames x6; clear_value x6; extract_lets +onlyGivenNames x7
  have h7 : State.evolves a0 x7 [.regs, .pmc, .evt, .host, .fch, .wp, .warp, .upk, .pwr] := by
    subst x7; refine ev_ite ?_ ?_
    · assumption
    · refine ev_pwr ?_ rfl; assumption
  clear_value x7; extract_lets +onlyGivenNames x8
  have h8 : State.evolves a0 x8 [.regs, .pmc, .evt, .host, .fch, .wp, .warp, .upk, .pwr] := by
    subst x8; refine ev_foldl ?_ ?_
    · assumption
    · intro x9 x10 x11; refine ev_step ?_ (State.hand_ev _ _) rfl; assumption
  clear_value x8; refine ev_ite ?_ ?_
  · refine ev_step ?_ (State.padAll_ev _) rfl; assumption
  · assumption

theorem State.requestFlush_ev (a0 : State) (a1 : FlushKind) :
    State.evolves a0 (State.requestFlush a0 a1) [.regs, .pmc, .evt, .host, .fch, .wp, .warp, .upk, .pwr] := by
  unfold State.requestFlush
  split
  · rename_i y1 y2; refine ev_step ?_ (State.beginFlush_ev _ _) rfl; exact ev_refl
  · rename_i y3 y4 y5; extract_lets +onlyGivenNames x6; subst x6; refine ev_wp ?_ rfl WriteState.wf_upd; exact ev_refl

theorem State.handDomain_ev (a0 : State) (a1 : Nat) :
    State.evolves a0 (State.handDomain a0 a1) [.regs, .pmc, .evt, .host, .fch, .wp] := by
  unfold State.handDomain; refine ev_foldl ?_ ?_
  · exact ev_refl
  · intro x1 x2 x3; refine ev_step ?_ (State.hand_ev _ _) rfl; assumption

theorem State.saveWindow_ev (a0 : State) (a1 : Bool) : State.evolves a0 (State.saveWindow a0 a1) [.swt, .out] := by
  unfold State.saveWindow; refine ev_ite ?_ ?_
  · exact ev_refl
  · extract_lets +onlyGivenNames x1; clear_value x1; extract_lets +onlyGivenNames x2
    have h2 : State.evolves a0 x2 [.swt, .out] := by
      subst x2; refine ev_swt ?_ rfl; exact ev_refl
    clear_value x2; refine ev_step ?_ (State.emit_ev _ _) rfl; assumption

theorem State.startHalt_ev (a0 : State) (a1 : Bool) (a2 : Nat) (a3 : Nat) (a4 : Nat) (a5 : Nat) :
    State.evolves a0 (State.startHalt a0 a1 a2 a3 a4 a5) [.regs, .pmc, .evt, .host, .fch, .swt, .wp, .cry, .epo, .warp, .upk, .pwr, .out] := by
  unfold State.startHalt; refine ev_ite ?_ ?_
  · exact ev_refl
  · extract_lets +onlyGivenNames x1
    have h1 : State.evolves a0 x1 [.regs, .pmc, .evt, .host, .fch, .swt, .wp, .cry, .epo, .warp, .upk, .pwr, .out] := by
      subst x1; refine ev_step ?_ (State.failScope_ev _ _ _) rfl; exact ev_refl
    clear_value x1; extract_lets +onlyGivenNames x2
    have h2 : State.evolves a0 x2 [.regs, .pmc, .evt, .host, .fch, .swt, .wp, .cry, .epo, .warp, .upk, .pwr, .out] := by
      subst x2; refine ev_step ?_ (State.haltRecord_ev _ _ _ _ _ _) rfl; assumption
    clear_value x2; extract_lets +onlyGivenNames x3
    have h3 : State.evolves a0 x3 [.regs, .pmc, .evt, .host, .fch, .swt, .wp, .cry, .epo, .warp, .upk, .pwr, .out] := by
      subst x3; refine ev_step ?_ (State.bump_ev _ _ _) rfl; assumption
    clear_value x3; extract_lets +onlyGivenNames x4; clear_value x4; refine ev_ite ?_ ?_
    · extract_lets +onlyGivenNames x5
      have h5 : State.evolves a0 x5 [.regs, .pmc, .evt, .host, .fch, .swt, .wp, .cry, .epo, .warp, .upk, .pwr, .out] := by
        subst x5; refine ev_foldl ?_ ?_
        · assumption
        · intro x6 x7 x8; refine ev_ite ?_ ?_
          · refine ev_step ?_ (State.endPreparing_ev _ _) rfl; assumption
          · assumption
      clear_value x5; extract_lets +onlyGivenNames x9; subst x9; extract_lets +onlyGivenNames x10
      have h10 : State.evolves a0 x10 [.regs, .pmc, .evt, .host, .fch, .swt, .wp, .cry, .epo, .warp, .upk, .pwr, .out] := by
        subst x10; refine ev_cry ?_ rfl (fun w => by dsimp only [CryState.wf]; exact Tab.wf_mapVals _ _ _ w)
        assumption
      clear_value x10; refine ev_step ?_ (State.raiseN_ev _ _ _ _) rfl
      refine ev_step ?_ (State.requestFlush_ev _ _) rfl; assumption
    · extract_lets +onlyGivenNames x11; clear_value x11; extract_lets +onlyGivenNames x12; clear_value x12
      extract_lets +onlyGivenNames x13
      have h13 : State.evolves a0 x13 [.regs, .pmc, .evt, .host, .fch, .swt, .wp, .cry, .epo, .warp, .upk, .pwr, .out] := by
        subst x13; refine ev_step ?_ (State.endPreparing_ev _ _) rfl; refine ev_step ?_ (State.setDom_ev _ _ _) rfl
        assumption
      clear_value x13; extract_lets +onlyGivenNames x14
      have h14 : State.evolves a0 x14 [.regs, .pmc, .evt, .host, .fch, .swt, .wp, .cry, .epo, .warp, .upk, .pwr, .out] := by
        subst x14; refine ev_step ?_ (State.handDomain_ev _ _) rfl; assumption
      clear_value x14; extract_lets +onlyGivenNames x15
      have h15 : State.evolves a0 x15 [.regs, .pmc, .evt, .host, .fch, .swt, .wp, .cry, .epo, .warp, .upk, .pwr, .out] := by
        subst x15; refine ev_ite ?_ ?_
        · refine ev_step ?_ (State.saveWindow_ev _ _) rfl; assumption
        · assumption
      clear_value x15; refine ev_step ?_ (State.raiseN_ev _ _ _ _) rfl; assumption

theorem State.meetFlaw_ev (a0 : State) (a1 : Nat) (a2 : CLine) (a3 : Nat) (a4 : Nat × Nat × Bool) :
    State.evolves a0 (State.meetFlaw a0 a1 a2 a3 a4) [.regs, .pmc, .evt, .host, .fch, .swt, .map, .wp, .rd, .cry, .epo, .ntn, .warp, .link, .upk, .flt, .pwr, .out] := by
  unfold State.meetFlaw; extract_lets +onlyGivenNames x1; clear_value x1
  extract_lets +onlyGivenNames x2; clear_value x2; extract_lets +onlyGivenNames x3; subst x3; refine ev_ite ?_ ?_
  · refine ev_ite ?_ ?_
    · exact ev_refl
    · refine ev_ite ?_ ?_
      · refine ev_step ?_ (State.correctedBank_ev _ _ _ _) rfl; beta_reduce
        refine ev_step ?_ (State.updLine_ev _ _ _) rfl; exact ev_refl
      · extract_lets +onlyGivenNames x4
        have h4 : State.evolves a0 x4 [.regs, .pmc, .evt, .host, .fch, .swt, .map, .wp, .rd, .cry, .epo, .ntn, .warp, .link, .upk, .flt, .pwr, .out] := by
          subst x4; refine ev_step ?_ (State.report_ev _ _ _ _) rfl; exact ev_refl
        clear_value x4; refine ev_ite ?_ ?_
        · extract_lets +onlyGivenNames x5
          have h5 : State.evolves a0 x5 [.regs, .pmc, .evt, .host, .fch, .swt, .map, .wp, .rd, .cry, .epo, .ntn, .warp, .link, .upk, .flt, .pwr, .out] := by
            subst x5; beta_reduce; refine ev_step ?_ (State.updLine_ev _ _ _) rfl
            refine ev_step ?_ (State.updLine_ev _ _ _) rfl; assumption
          clear_value x5; refine ev_step ?_ (State.raiseN_ev _ _ _ _) rfl; refine ev_step ?_ (State.bump_ev _ _ _) rfl
          refine ev_step ?_ (State.poisonSector_ev _ _ _ _) rfl; assumption
        · refine ev_step ?_ (State.raiseN_ev _ _ _ _) rfl; refine ev_step ?_ (State.bump_ev _ _ _) rfl
          refine ev_step ?_ (State.dropLine_ev _ _) rfl; assumption
  · refine ev_ite ?_ ?_
    · extract_lets +onlyGivenNames x6
      have h6 : State.evolves a0 x6 [.regs, .pmc, .evt, .host, .fch, .swt, .map, .wp, .rd, .cry, .epo, .ntn, .warp, .link, .upk, .flt, .pwr, .out] := by
        subst x6; refine ev_ite ?_ ?_
        · refine ev_step ?_ (State.dropLine_ev _ _) rfl; exact ev_refl
        · beta_reduce; refine ev_step ?_ (State.updLine_ev _ _ _) rfl; exact ev_refl
      clear_value x6; refine ev_step ?_ (State.reportTagBanks_ev _ _) rfl
      refine ev_step ?_ (State.raiseN_ev _ _ _ _) rfl; refine ev_step ?_ (State.bump_ev _ _ _) rfl; assumption
    · refine ev_ite ?_ ?_
      · refine ev_step ?_ (State.correctedBank_ev _ _ _ _) rfl; beta_reduce
        refine ev_step ?_ (State.updLine_ev _ _ _) rfl; exact ev_refl
      · extract_lets +onlyGivenNames x7
        have h7 : State.evolves a0 x7 [.regs, .pmc, .evt, .host, .fch, .swt, .map, .wp, .rd, .cry, .epo, .ntn, .warp, .link, .upk, .flt, .pwr, .out] := by
          subst x7; refine ev_step ?_ (State.report_ev _ _ _ _) rfl; exact ev_refl
        clear_value x7; refine ev_ite ?_ ?_
        · refine ev_step ?_ (State.startHalt_ev _ _ _ _ _ _) rfl; refine ev_step ?_ (State.bump_ev _ _ _) rfl
          refine ev_step ?_ (State.dropLine_ev _ _) rfl; assumption
        · extract_lets +onlyGivenNames x8
          have h8 : State.evolves a0 x8 [.regs, .pmc, .evt, .host, .fch, .swt, .map, .wp, .rd, .cry, .epo, .ntn, .warp, .link, .upk, .flt, .pwr, .out] := by
            subst x8; beta_reduce; refine ev_step ?_ (State.updLine_ev _ _ _) rfl
            refine ev_step ?_ (State.updLine_ev _ _ _) rfl; assumption
          clear_value x8; extract_lets +onlyGivenNames x9
          have h9 : State.evolves a0 x9 [.regs, .pmc, .evt, .host, .fch, .swt, .map, .wp, .rd, .cry, .epo, .ntn, .warp, .link, .upk, .flt, .pwr, .out] := by
            subst x9; refine ev_step ?_ (State.bump_ev _ _ _) rfl; refine ev_step ?_ (State.poisonMask_ev _ _ _ _) rfl
            assumption
          clear_value x9; refine ev_step ?_ (State.hand_ev _ _) rfl; refine ev_step ?_ (State.raiseN_ev _ _ _ _) rfl
          assumption

theorem State.probe_ev (a0 : State) (a1 : Nat) (a2 : Nat) :
    State.evolves a0 (State.probe a0 a1 a2) [.regs, .pmc, .evt, .host, .fch, .swt, .map, .wp, .rd, .cry, .epo, .ntn, .warp, .link, .upk, .flt, .pwr, .out] := by
  unfold State.probe
  split
  · rename_i y1 y2; exact ev_refl
  · rename_i y3 y4 y5 y6; extract_lets +onlyGivenNames x7; clear_value x7; refine ev_foldl ?_ ?_
    · exact ev_refl
    · intro x8 x9 x10; refine ev_ite ?_ ?_
      · refine ev_step ?_ (State.meetFlaw_ev _ _ _ _ _) rfl; assumption
      · assumption

theorem State.toVictim_ev (a0 : State) (a1 : CLine) : State.evO a0 (State.toVictim a0 a1) [.fch] := by
  unfold State.toVictim; refine evO_ite ?_ ?_
  · refine evO_some ?_; extract_lets +onlyGivenNames x1; clear_value x1; refine ev_fch ?_ rfl; exact ev_refl
  · refine evO_ite ?_ ?_
    · refine evO_some ?_; extract_lets +onlyGivenNames x2; clear_value x2; refine ev_fch ?_ rfl; exact ev_refl
    · exact evO_none

theorem State.evictAt_ev (a0 : State) (a1 : Nat) :
    State.evO a0 (State.evictAt a0 a1) [.regs, .pmc, .evt, .host, .fch, .wp] := by
  unfold State.evictAt
  split
  · rename_i y1 y2; refine evO_some ?_; exact ev_refl
  · rename_i y3 y4 y5; refine evO_map ?_ ?_
    · refine evO_step ?_ (State.toVictim_ev _ _) rfl; exact ev_refl
    · intro x6 x7; extract_lets +onlyGivenNames x8
      have h8 : State.evolves a0 x8 [.regs, .pmc, .evt, .host, .fch, .wp] := by
        subst x8; refine ev_step ?_ (State.setSlot_ev _ _ _) rfl; assumption
      clear_value x8; refine ev_ite ?_ ?_
      · refine ev_step ?_ (State.hand_ev _ _) rfl; assumption
      · assumption

theorem State.allocWay_ev (a0 : State) (a1 : Nat) (a2 : BitVec 16) :
    State.evOP a0 (State.allocWay a0 a1 a2) [.regs, .pmc, .evt, .host, .fch, .wp] := by
  unfold State.allocWay; extract_lets +onlyGivenNames x1; clear_value x1
  extract_lets +onlyGivenNames x2; clear_value x2; refine evOP_ite ?_ ?_
  · exact evOP_none
  · refine evOP_ite ?_ ?_
    · refine evOP_some ?_; refine evP_mk ?_; exact ev_refl
    · extract_lets +onlyGivenNames x3; clear_value x3; refine evOP_mapS ?_ ?_
      · refine evO_step ?_ (State.evictAt_ev _ _) rfl; exact ev_refl
      · intro x4 x5; refine evP_mk ?_; assumption

theorem State.allocFill_ev (a0 : State) (a1 : Nat) (a2 : BitVec 16) :
    State.evOP a0 (State.allocFill a0 a1 a2) [.regs, .pmc, .evt, .host, .fch, .wp] := by
  unfold State.allocFill
  split
  · rename_i y1 y2 y3; refine evOP_some ?_; refine evP_step ?_ (ev_optP (State.allocWay_ev _ _ _) y3) rfl
    exact ev_refl
  · rename_i y4 y5; extract_lets +onlyGivenNames x6; clear_value x6; extract_lets +onlyGivenNames x7; clear_value x7
    refine evOP_ite ?_ ?_
    · exact evOP_none
    · extract_lets +onlyGivenNames x8; clear_value x8; refine evOP_some ?_; refine evP_mk ?_
      refine ev_step ?_ (State.setSlot_ev _ _ _) rfl; exact ev_refl

theorem State.ftouch_ev (a0 : State) (a1 : Nat) : State.evolves a0 (State.ftouch a0 a1) [.fch] := by
  unfold State.ftouch; extract_lets +onlyGivenNames x1; clear_value x1; refine ev_fch ?_ rfl; exact ev_refl

theorem State.storeLine_ev (a0 : State) (a1 : Nat) (a2 : CLine) (a3 : BitVec 4) (a4 : Bool) :
    State.evolves a0 (State.storeLine a0 a1 a2 a3 a4) [.regs, .pmc, .evt, .host, .fch, .flt] := by
  unfold State.storeLine
  split
  · rename_i y1 y2 y3; refine ev_step ?_ (State.injFire_ev _) rfl; refine ev_step ?_ (State.setSlot_ev _ _ _) rfl
    exact ev_refl
  · rename_i y4 y5; refine ev_step ?_ (State.setSlot_ev _ _ _) rfl; exact ev_refl

theorem State.gme_ev (a0 : State) (a1 : Nat) (a2 : Nat) (a3 : Nat) (a4 : Nat) (a5 : Bool) (a6 : Nat) :
    State.evolves a0 (State.gme a0 a1 a2 a3 a4 a5 a6) [.evt, .host] := by
  unfold State.gme
  split
  · rename_i y1 y2 y3; refine ev_step ?_ (State.postCxl_ev _ _ _ _ _) rfl; exact ev_refl
  · rename_i y4 y5; exact ev_refl

theorem State.queueMapPf_ev (a0 : State) (a1 : Nat) : State.evolves a0 (State.queueMapPf a0 a1) [.map] := by
  unfold State.queueMapPf; refine ev_ite ?_ ?_
  · exact ev_refl
  · extract_lets +onlyGivenNames x1; subst x1; refine ev_map ?_ rfl MapState.wf_upd; exact ev_refl

theorem State.trackMap_ev (a0 : State) (a1 : Tracker) : State.evolves a0 (State.trackMap a0 a1) [.map] := by
  unfold State.trackMap; extract_lets +onlyGivenNames x1; clear_value x1; refine ev_ite ?_ ?_
  · exact ev_refl
  · refine ev_ite ?_ ?_
    · refine ev_ite ?_ ?_
      · refine ev_step ?_ (State.queueMapPf_ev _ _) rfl; exact ev_refl
      · exact ev_refl
    · refine ev_ite ?_ ?_
      · refine ev_step ?_ (State.queueMapPf_ev _ _) rfl; exact ev_refl
      · exact ev_refl

theorem State.track_ev (a0 : State) (a1 : Nat) (a2 : Nat) (a3 : Bool) :
    State.evolves a0 (State.track a0 a1 a2 a3) [.fch, .map] := by
  unfold State.track; refine ev_ite ?_ ?_
  · exact ev_refl
  · extract_lets +onlyGivenNames x1; clear_value x1; extract_lets +onlyGivenNames x2
    have h2 : State.evolves a0 x2 [.fch, .map] := by
      subst x2; refine ev_fch ?_ rfl; exact ev_refl
    clear_value x2
    split
    · rename_i y3 y4 y5; extract_lets +onlyGivenNames x6; clear_value x6
      refine ev_step ?_ (State.trackMap_ev _ _) rfl; extract_lets +onlyGivenNames x7; clear_value x7
      refine ev_fch ?_ rfl; assumption
    · rename_i y8 y9; refine ev_ite ?_ ?_
      · assumption
      · extract_lets +onlyGivenNames x10; subst x10; refine ev_ite ?_ ?_
        · extract_lets +onlyGivenNames x11; clear_value x11; refine ev_fch ?_ rfl; assumption
        · extract_lets +onlyGivenNames x12; clear_value x12; extract_lets +onlyGivenNames x13; clear_value x13
          extract_lets +onlyGivenNames x14; clear_value x14; extract_lets +onlyGivenNames x15; clear_value x15
          refine ev_fch ?_ rfl; assumption

end Sys2Proof.Machine
end

