-- ==== Sys2Proof/Laws/EvServe.lean ====
section
/-!
SUPPORT. What each operation of Machine/Serve.lean may change: its parts of the state, and that the register stores stay
canonical.
-/
set_option Elab.async false
namespace Sys2Proof.Machine

theorem State.updMshr_ev (a0 : State) (a1 : Nat) (a2 : Mshr → Mshr) :
    State.evolves a0 (State.updMshr a0 a1 a2) [.fch] := by
  unfold State.updMshr; extract_lets +onlyGivenNames x1; clear_value x1; refine ev_fch ?_ rfl; exact ev_refl

theorem State.writePoison_ev (a0 : State) (a1 : Req) (a2 : Bool) :
    State.evolves a0 (State.writePoison a0 a1 a2) [.regs, .pmc, .evt, .host, .rd] := by
  unfold State.writePoison; refine ev_ite ?_ ?_
  · refine ev_step ?_ (State.poisonSector_ev _ _ _ _) rfl; exact ev_refl
  · refine ev_ite ?_ ?_
    · refine ev_step ?_ (State.raiseN_ev _ _ _ _) rfl; refine ev_step ?_ (State.bump_ev _ _ _) rfl
      refine ev_step ?_ (State.poisonSector_ev _ _ _ _) rfl; exact ev_refl
    · refine ev_ite ?_ ?_
      · refine ev_step ?_ (State.unpoisonSector_ev _ _ _) rfl; exact ev_refl
      · refine ev_ite ?_ ?_
        · refine ev_step ?_ (State.poisonSector_ev _ _ _ _) rfl; exact ev_refl
        · exact ev_refl

theorem State.around_ev (a0 : State) (a1 : Req) :
    State.evolves a0 (State.around a0 a1) [.regs, .pmc, .evt, .host, .fch, .wp, .rd] := by
  unfold State.around; extract_lets +onlyGivenNames x1
  have h1 : State.evolves a0 x1 [.regs, .pmc, .evt, .host, .fch, .wp, .rd] := by
    subst x1; refine ev_step ?_ (State.dropSide_ev _ _) rfl; refine ev_step ?_ (State.updMshr_ev _ _ _) rfl
    exact ev_refl
  clear_value x1; extract_lets +onlyGivenNames x2; clear_value x2; extract_lets +onlyGivenNames x3; clear_value x3
  extract_lets +onlyGivenNames x4; clear_value x4; extract_lets +onlyGivenNames x5; clear_value x5
  refine ev_step ?_ (State.writePoison_ev _ _ _) rfl; extract_lets +onlyGivenNames x6; subst x6
  refine ev_wp ?_ rfl WriteState.wf_upd; assumption

theorem State.attach_ev (a0 : State) (a1 : Mshr) (a2 : Req) : State.evolves a0 (State.attach a0 a1 a2) [.fch] := by
  unfold State.attach; refine ev_step ?_ (State.updMshr_ev _ _ _) rfl; exact ev_refl

theorem State.writeDrain_ev (a0 : State) (a1 : Req) :
    State.evolves a0 (State.writeDrain a0 a1) [.regs, .pmc, .evt, .host, .fch, .swt, .map, .wp, .rd, .cry, .epo, .ntn, .warp, .link, .upk, .flt, .pwr, .out] := by
  unfold State.writeDrain; extract_lets +onlyGivenNames x1
  have h1 : State.evolves a0 x1 [.regs, .pmc, .evt, .host, .fch, .swt, .map, .wp, .rd, .cry, .epo, .ntn, .warp, .link, .upk, .flt, .pwr, .out] := by
    subst x1; refine ev_step ?_ (State.probe_ev _ _ _) rfl; exact ev_refl
  clear_value x1
  split
  · rename_i y2 y3; refine ev_step ?_ (State.around_ev _ _) rfl; assumption
  · rename_i y4 y5 y6; refine ev_ite ?_ ?_
    · refine ev_step ?_ (State.around_ev _ _) rfl; refine ev_step ?_ (State.dropLine_ev _ _) rfl; assumption
    · refine ev_ite ?_ ?_
      · refine ev_step ?_ (State.around_ev _ _) rfl; assumption
      · extract_lets +onlyGivenNames x7; clear_value x7; extract_lets +onlyGivenNames x8
        have h8 : State.evolves a0 x8 [.regs, .pmc, .evt, .host, .fch, .swt, .map, .wp, .rd, .cry, .epo, .ntn, .warp, .link, .upk, .flt, .pwr, .out] := by
          subst x8; refine ev_fch ?_ rfl; assumption
        clear_value x8; extract_lets +onlyGivenNames x9; clear_value x9; extract_lets +onlyGivenNames x10
        have h10 : State.evolves a0 x10 [.regs, .pmc, .evt, .host, .fch, .swt, .map, .wp, .rd, .cry, .epo, .ntn, .warp, .link, .upk, .flt, .pwr, .out] := by
          subst x10; refine ev_step ?_ (State.writePoison_ev _ _ _) rfl
          refine ev_step ?_ (State.updLine_ev _ _ _) rfl; assumption
        clear_value x10; refine ev_step ?_ (State.cmp_ev _ _ _) rfl; refine ev_step ?_ (State.hand_ev _ _) rfl
        assumption

theorem State.promote_ev (a0 : State) (a1 : Nat) (a2 : BitVec 16) :
    State.evolves a0 (State.promote a0 a1 a2) [.regs, .pmc, .evt, .host, .fch, .wp, .flt] := by
  unfold State.promote
  split
  · rename_i y1 y2; exact ev_refl
  · rename_i y3 y4 y5
    split
    · rename_i y6 y7 y8 y9; refine ev_step ?_ (State.ftouch_ev _ _) rfl
      refine ev_step ?_ (State.storeLine_ev _ _ _ _ _) rfl; refine ev_step ?_ (State.dropSide_ev _ _) rfl
      refine ev_step ?_ (ev_opt (State.allocFill_ev _ _ _) y9) rfl; exact ev_refl
    · rename_i y10 y11; refine ev_ite ?_ ?_
      · exact ev_refl
      · refine ev_step ?_ (State.dropSide_ev _ _) rfl; exact ev_refl

theorem State.unvictim_ev (a0 : State) (a1 : Nat) (a2 : BitVec 16) :
    State.evolves a0 (State.unvictim a0 a1 a2) [.regs, .pmc, .evt, .host, .fch, .wp, .flt] := by
  unfold State.unvictim
  split
  · rename_i y1 y2; exact ev_refl
  · rename_i y3 y4 y5; extract_lets +onlyGivenNames x6; clear_value x6; extract_lets +onlyGivenNames x7
    have h7 : State.evolves a0 x7 [.regs, .pmc, .evt, .host, .fch, .wp, .flt] := by
      subst x7; refine ev_fch ?_ rfl; exact ev_refl
    clear_value x7
    split
    · rename_i y8 y9 y10 y11; refine ev_step ?_ (State.ftouch_ev _ _) rfl
      refine ev_step ?_ (State.storeLine_ev _ _ _ _ _) rfl
      refine ev_step ?_ (ev_opt (State.allocWay_ev _ _ _) y11) rfl; assumption
    · rename_i y12 y13; exact ev_refl

theorem State.checkCleaner_ev (a0 : State) : State.evolves a0 (State.checkCleaner a0) [.fch] := by
  unfold State.checkCleaner; extract_lets +onlyGivenNames x1; clear_value x1
  extract_lets +onlyGivenNames x2; clear_value x2; refine ev_ite ?_ ?_
  · extract_lets +onlyGivenNames x3; clear_value x3; refine ev_fch ?_ rfl; exact ev_refl
  · refine ev_ite ?_ ?_
    · extract_lets +onlyGivenNames x4; clear_value x4; refine ev_fch ?_ rfl; exact ev_refl
    · exact ev_refl

theorem State.writeSlot_ev (a0 : State) (a1 : Nat) (a2 : CLine) (a3 : Req) (a4 : Sector × Bool) (a5 : Bool) :
    State.evolves a0 (State.writeSlot a0 a1 a2 a3 a4 a5) [.regs, .pmc, .evt, .host, .fch, .rd, .flt, .out] := by
  unfold State.writeSlot; extract_lets +onlyGivenNames x1; clear_value x1; extract_lets +onlyGivenNames x2
  have h2 : State.evolves a0 x2 [.regs, .pmc, .evt, .host, .fch, .rd, .flt, .out] := by
    subst x2; refine ev_fch ?_ rfl; exact ev_refl
  clear_value x2; extract_lets +onlyGivenNames x3; clear_value x3; extract_lets +onlyGivenNames x4
  have h4 : State.evolves a0 x4 [.regs, .pmc, .evt, .host, .fch, .rd, .flt, .out] := by
    subst x4; refine ev_step ?_ (State.ftouch_ev _ _) rfl; refine ev_step ?_ (State.storeLine_ev _ _ _ _ _) rfl
    assumption
  clear_value x4; extract_lets +onlyGivenNames x5
  have h5 : State.evolves a0 x5 [.regs, .pmc, .evt, .host, .fch, .rd, .flt, .out] := by
    subst x5; refine ev_step ?_ (State.writePoison_ev _ _ _) rfl; assumption
  clear_value x5; extract_lets +onlyGivenNames x6
  have h6 : State.evolves a0 x6 [.regs, .pmc, .evt, .host, .fch, .rd, .flt, .out] := by
    subst x6; refine ev_ite ?_ ?_
    · assumption
    · refine ev_step ?_ (State.count_ev _ _ _ _) rfl; assumption
  clear_value x6; refine ev_step ?_ (State.checkCleaner_ev _) rfl; refine ev_step ?_ (State.cmp_ev _ _ _) rfl
  assumption

theorem State.writeIn_ev (a0 : State) (a1 : Req) (a2 : Sector × Bool) :
    State.evolves a0 (State.writeIn a0 a1 a2) [.regs, .pmc, .evt, .host, .fch, .wp, .rd, .flt, .out] := by
  unfold State.writeIn; extract_lets +onlyGivenNames x1
  have h1 : State.evolves a0 x1 [.regs, .pmc, .evt, .host, .fch, .wp, .rd, .flt, .out] := by
    subst x1; refine ev_step ?_ (State.updMshr_ev _ _ _) rfl; exact ev_refl
  clear_value x1; extract_lets +onlyGivenNames x2
  have h2 : State.evolves a0 x2 [.regs, .pmc, .evt, .host, .fch, .wp, .rd, .flt, .out] := by
    subst x2; refine ev_step ?_ (State.promote_ev _ _ _) rfl; refine ev_step ?_ (State.unvictim_ev _ _ _) rfl
    assumption
  clear_value x2
  split
  · rename_i y3 y4 y5 y6; refine ev_step ?_ (State.writeSlot_ev _ _ _ _ _ _) rfl; assumption
  · rename_i y7 y8
    split
    · rename_i y9 y10 y11; extract_lets +onlyGivenNames x12; clear_value x12; refine ev_fch ?_ rfl; assumption
    · rename_i y13 y14
      split
      · rename_i y15 y16 y17 y18; refine ev_step ?_ (State.writeSlot_ev _ _ _ _ _ _) rfl
        refine ev_step ?_ (State.count_ev _ _ _ _) rfl; refine ev_step ?_ (ev_opt (State.allocWay_ev _ _ _) y18) rfl
        assumption
      · rename_i y19 y20; extract_lets +onlyGivenNames x21; clear_value x21; refine ev_fch ?_ rfl; assumption

theorem State.setReads_ev (a0 : State) (a1 : List Rd) : State.evolves a0 (State.setReads a0 a1) [.rd] := by
  unfold State.setReads; extract_lets +onlyGivenNames x1; clear_value x1; refine ev_rd ?_ rfl; exact ev_refl

theorem State.dropRead_ev (a0 : State) (a1 : Nat) (a2 : Rd → Bool) :
    State.evolves a0 (State.dropRead a0 a1 a2) [.rd] := by
  unfold State.dropRead; refine ev_step ?_ (State.setReads_ev _ _) rfl; exact ev_refl

theorem State.dropMshr_ev (a0 : State) (a1 : Nat) : State.evolves a0 (State.dropMshr a0 a1) [.fch] := by
  unfold State.dropMshr; extract_lets +onlyGivenNames x1; clear_value x1; refine ev_fch ?_ rfl; exact ev_refl

theorem State.closeMshr_ev (a0 : State) (a1 : Mshr) : State.evolves a0 (State.closeMshr a0 a1) [.fch] := by
  unfold State.closeMshr; extract_lets +onlyGivenNames x1
  have h1 : State.evolves a0 x1 [.fch] := by
    subst x1; refine ev_step ?_ (State.dropMshr_ev _ _) rfl; exact ev_refl
  clear_value x1; extract_lets +onlyGivenNames x2; clear_value x2; refine ev_fch ?_ rfl; assumption

theorem State.install_ev (a0 : State) (a1 : Nat) (a2 : Nat) (a3 : Quad Sector) (a4 : BitVec 4) (a5 : BitVec 16) :
    State.evolves a0 (State.install a0 a1 a2 a3 a4 a5) [.regs, .pmc, .evt, .host, .fch, .wp, .flt] := by
  unfold State.install; extract_lets +onlyGivenNames x1; subst x1; refine ev_ite ?_ ?_
  · refine ev_step ?_ (State.updLine_ev _ _ _) rfl; exact ev_refl
  · split
    · rename_i y2 y3 y4 y5; refine ev_step ?_ (State.ftouch_ev _ _) rfl
      refine ev_step ?_ (State.storeLine_ev _ _ _ _ _) rfl
      refine ev_step ?_ (ev_opt (State.allocFill_ev _ _ _) y5) rfl; exact ev_refl
    · rename_i y6 y7; exact ev_refl

theorem State.maintLine_ev (a0 : State) (a1 : Nat) (a2 : Nat) :
    State.evolves a0 (State.maintLine a0 a1 a2) [.regs, .pmc, .evt, .host, .fch, .wp] := by
  unfold State.maintLine
  split
  · rename_i y1 y2; refine ev_ite ?_ ?_
    · refine ev_step ?_ (State.dropSide_ev _ _) rfl; exact ev_refl
    · exact ev_refl
  · rename_i y3 y4 y5; refine ev_ite ?_ ?_
    · refine ev_ite ?_ ?_
      · refine ev_step ?_ (State.dropSide_ev _ _) rfl; refine ev_step ?_ (State.dropLine_ev _ _) rfl; exact ev_refl
      · exact ev_refl
    · extract_lets +onlyGivenNames x6
      have h6 : State.evolves a0 x6 [.regs, .pmc, .evt, .host, .fch, .wp] := by
        subst x6; refine ev_step ?_ (State.hand_ev _ _) rfl; exact ev_refl
      clear_value x6; extract_lets +onlyGivenNames x7; clear_value x7; refine ev_fch ?_ rfl; assumption

theorem State.maintFill_ev (a0 : State) (a1 : Nat) :
    State.evolves a0 (State.maintFill a0 a1) [.regs, .pmc, .evt, .host, .fch, .wp] := by
  unfold State.maintFill
  split
  · rename_i y1 y2 y3; refine ev_ite ?_ ?_
    · refine ev_step ?_ (State.maintLine_ev _ _ _) rfl; extract_lets +onlyGivenNames x4; clear_value x4
      refine ev_fch ?_ rfl; exact ev_refl
    · exact ev_refl
  · rename_i y5 y6; exact ev_refl

theorem State.answer_ev (a0 : State) (a1 : Req) (a2 : Sector) (a3 : Bool) :
    State.evolves a0 (State.answer a0 a1 a2 a3) [.regs, .pmc, .evt, .host, .out] := by
  unfold State.answer; refine ev_ite ?_ ?_
  · refine ev_step ?_ (State.memData_ev _ _ _ _ _) rfl; refine ev_step ?_ (State.gme_ev _ _ _ _ _ _ _) rfl
    exact ev_refl
  · refine ev_step ?_ (State.memData_ev _ _ _ _ _) rfl; exact ev_refl

theorem State.answerAll_ev (a0 : State) (a1 : Quad Sector) (a2 : BitVec 4) (a3 : BitVec 4) (a4 : List Req) :
    State.evolves a0 (State.answerAll a0 a1 a2 a3 a4) [.regs, .pmc, .evt, .host, .fch, .wp, .rd, .flt, .out] := by
  induction a4 generalizing a0 a1 a2 a3
  · unfold State.answerAll; exact ev_refl
  · rename_i z1 z2 ih3; unfold State.answerAll; refine ev_ite ?_ ?_
    · extract_lets +onlyGivenNames x1
      have h1 : State.evolves a0 x1 [.regs, .pmc, .evt, .host, .fch, .wp, .rd, .flt, .out] := by
        subst x1; refine ev_ite ?_ ?_
        · refine ev_step ?_ (State.writeIn_ev _ _ _) rfl; exact ev_refl
        · refine ev_step ?_ (State.around_ev _ _) rfl; exact ev_refl
      clear_value x1; refine ev_step ?_ (ih3 _ _ _ _) rfl; assumption
    · extract_lets +onlyGivenNames x2
      have h2 : State.evolves a0 x2 [.regs, .pmc, .evt, .host, .fch, .wp, .rd, .flt, .out] := by
        subst x2
        split
        · rename_i y3 y4 y5; refine ev_ite ?_ ?_
          · refine ev_step ?_ (State.answer_ev _ _ _ _) rfl; exact ev_refl
          · refine ev_step ?_ (State.answer_ev _ _ _ _) rfl; exact ev_refl
        · rename_i y6 y7; refine ev_step ?_ (State.answer_ev _ _ _ _) rfl; exact ev_refl
      clear_value x2; refine ev_step ?_ (ih3 _ _ _ _) rfl; assumption

theorem State.fillDone_ev (a0 : State) (a1 : Nat) (a2 : Quad Sector) (a3 : BitVec 4) :
    State.evolves a0 (State.fillDone a0 a1 a2 a3) [.regs, .pmc, .evt, .host, .fch, .wp, .rd, .flt, .out] := by
  unfold State.fillDone
  split
  · rename_i y1 y2; exact ev_refl
  · rename_i y3 y4 y5; extract_lets +onlyGivenNames x6
    have h6 : State.evolves a0 x6 [.regs, .pmc, .evt, .host, .fch, .wp, .rd, .flt, .out] := by
      subst x6; refine ev_step ?_ (State.closeMshr_ev _ _) rfl; exact ev_refl
    clear_value x6; extract_lets +onlyGivenNames x7; clear_value x7; extract_lets +onlyGivenNames x8; clear_value x8
    extract_lets +onlyGivenNames x9; clear_value x9; extract_lets +onlyGivenNames x10; clear_value x10
    extract_lets +onlyGivenNames x11; clear_value x11; extract_lets +onlyGivenNames x12
    have h12 : State.evolves a0 x12 [.regs, .pmc, .evt, .host, .fch, .wp, .rd, .flt, .out] := by
      subst x12; refine ev_ite ?_ ?_
      · refine ev_ite ?_ ?_
        · assumption
        · refine ev_fch ?_ rfl; assumption
      · refine ev_ite ?_ ?_
        · refine ev_step ?_ (State.install_ev _ _ _ _ _ _) rfl; assumption
        · assumption
    clear_value x12; refine ev_step ?_ (State.maintFill_ev _ _) rfl
    refine ev_step ?_ (State.answerAll_ev _ _ _ _ _) rfl; assumption

theorem State.poisonAll_ev (a0 : State) (a1 : List Req) :
    State.evolves a0 (State.poisonAll a0 a1) [.regs, .pmc, .evt, .host, .fch, .wp, .rd, .flt, .out] := by
  induction a1 generalizing a0
  · unfold State.poisonAll; exact ev_refl
  · rename_i z1 z2 ih3; unfold State.poisonAll; extract_lets +onlyGivenNames x1
    have h1 : State.evolves a0 x1 [.regs, .pmc, .evt, .host, .fch, .wp, .rd, .flt, .out] := by
      subst x1; refine ev_ite ?_ ?_
      · refine ev_ite ?_ ?_
        · refine ev_step ?_ (State.writeIn_ev _ _ _) rfl; exact ev_refl
        · refine ev_step ?_ (State.around_ev _ _) rfl; exact ev_refl
      · refine ev_step ?_ (State.memData_ev _ _ _ _ _) rfl; exact ev_refl
    clear_value x1; refine ev_step ?_ (ih3 _) rfl; assumption

theorem State.fillPoison_ev (a0 : State) (a1 : Nat) (a2 : Option (Nat × Nat × Bool)) :
    State.evolves a0 (State.fillPoison a0 a1 a2) [.regs, .pmc, .evt, .host, .fch, .wp, .rd, .flt, .out] := by
  unfold State.fillPoison
  split
  · rename_i y1 y2; exact ev_refl
  · rename_i y3 y4 y5; extract_lets +onlyGivenNames x6
    have h6 : State.evolves a0 x6 [.regs, .pmc, .evt, .host, .fch, .wp, .rd, .flt, .out] := by
      subst x6; refine ev_step ?_ (State.closeMshr_ev _ _) rfl; exact ev_refl
    clear_value x6; extract_lets +onlyGivenNames x7
    have h7 : State.evolves a0 x7 [.regs, .pmc, .evt, .host, .fch, .wp, .rd, .flt, .out] := by
      subst x7
      split
      · rename_i y8 y9 y10 y11 y12 y13 y14; refine ev_step ?_ (State.gme_ev _ _ _ _ _ _ _) rfl; assumption
      · rename_i y15 y16 y17 y18; assumption
    clear_value x7; refine ev_step ?_ (State.maintFill_ev _ _) rfl; refine ev_step ?_ (State.poisonAll_ev _ _) rfl
    assumption

theorem State.issueRead_ev (a0 : State) (a1 : Nat) (a2 : Nat) (a3 : Nat) (a4 : Bool) :
    State.evolves a0 (State.issueRead a0 a1 a2 a3 a4) [.warp] := by
  unfold State.issueRead; refine ev_step ?_ (State.pushRd_ev _ _ _) rfl; exact ev_refl

theorem State.issueRecon_ev (a0 : State) (a1 : Nat) (a2 : Nat) (a3 : Nat) :
    State.evolves a0 (State.issueRecon a0 a1 a2 a3) [.regs, .pmc, .evt, .host, .warp] := by
  unfold State.issueRecon; extract_lets +onlyGivenNames x1; clear_value x1
  extract_lets +onlyGivenNames x2; clear_value x2; extract_lets +onlyGivenNames x3
  have h3 : State.evolves a0 x3 [.regs, .pmc, .evt, .host, .warp] := by
    subst x3; refine ev_step ?_ (State.count_ev _ _ _ _) rfl; exact ev_refl
  clear_value x3; refine ev_foldl ?_ ?_
  · assumption
  · intro x4 x5 x6; refine ev_ite ?_ ?_
    · assumption
    · refine ev_step ?_ (State.issueRead_ev _ _ _ _ _) rfl; assumption

theorem State.startMedia_ev (a0 : State) (a1 : Rd) (a2 : Entry) (a3 : Nat) :
    State.evolves a0 (State.startMedia a0 a1 a2 a3) [.regs, .pmc, .evt, .host, .map, .rd, .warp] := by
  unfold State.startMedia; extract_lets +onlyGivenNames x1; clear_value x1; extract_lets +onlyGivenNames x2
  extract_lets +onlyGivenNames x3
  have h3 : State.evolves a0 x3 [.regs, .pmc, .evt, .host, .map, .rd, .warp] := by
    subst x3; refine ev_step ?_ (State.setReads_ev _ _) rfl; exact ev_refl
  clear_value x3; extract_lets +onlyGivenNames x4
  have h4 : State.evolves a0 x4 [.regs, .pmc, .evt, .host, .map, .rd, .warp] := by
    subst x4; refine ev_ite ?_ ?_
    · refine ev_step ?_ (State.wantTag_ev _ _) rfl; assumption
    · assumption
  clear_value x4; extract_lets +onlyGivenNames x5; clear_value x5; refine ev_ite ?_ ?_
  · refine ev_step ?_ (State.issueRecon_ev _ _ _ _) rfl; assumption
  · refine ev_step ?_ (State.issueRead_ev _ _ _ _ _) rfl; assumption

theorem State.resolveFill_ev (a0 : State) (a1 : Nat) :
    State.evolves a0 (State.resolveFill a0 a1) [.regs, .pmc, .evt, .host, .fch, .map, .wp, .rd, .warp, .flt, .out] := by
  unfold State.resolveFill
  split
  · rename_i y1 y2; refine ev_step ?_ (State.dropRead_ev _ _ _) rfl; exact ev_refl
  · rename_i y3 y4 y5; extract_lets +onlyGivenNames x6; clear_value x6; refine ev_ite ?_ ?_
    · refine ev_step ?_ (State.fillDone_ev _ _ _ _) rfl; refine ev_step ?_ (State.count_ev _ _ _ _) rfl
      refine ev_step ?_ (State.dropRead_ev _ _ _) rfl; exact ev_refl
    · refine ev_ite ?_ ?_
      · refine ev_step ?_ (State.fillPoison_ev _ _ _) rfl; refine ev_step ?_ (State.dropRead_ev _ _ _) rfl
        exact ev_refl
      · refine ev_ite ?_ ?_
        · refine ev_step ?_ (State.fillPoison_ev _ _ _) rfl; refine ev_step ?_ (State.dropRead_ev _ _ _) rfl
          exact ev_refl
        · extract_lets +onlyGivenNames x7; subst x7; extract_lets +onlyGivenNames x8
          have h8 : State.evolves a0 x8 [.regs, .pmc, .evt, .host, .fch, .map, .wp, .rd, .warp, .flt, .out] := by
            subst x8; refine ev_foldl ?_ ?_
            · exact ev_refl
            · intro x9 x10 x11; refine ev_step ?_ (State.answer_ev _ _ _ _) rfl; assumption
          clear_value x8; extract_lets +onlyGivenNames x12; clear_value x12; refine ev_ite ?_ ?_
          · refine ev_step ?_ (State.dropMshr_ev _ _) rfl; refine ev_step ?_ (State.dropRead_ev _ _ _) rfl; assumption
          · extract_lets +onlyGivenNames x13
            have h13 : State.evolves a0 x13 [.regs, .pmc, .evt, .host, .fch, .map, .wp, .rd, .warp, .flt, .out] := by
              subst x13; refine ev_step ?_ (State.updMshr_ev _ _ _) rfl; assumption
            clear_value x13; extract_lets +onlyGivenNames x14; clear_value x14
            extract_lets +onlyGivenNames x15; clear_value x15; refine ev_step ?_ (State.startMedia_ev _ _ _ _) rfl
            refine ev_step ?_ (State.dropRead_ev _ _ _) rfl; assumption

theorem State.lookup_ev (a0 : State) (a1 : Nat) (a2 : Nat) (a3 : ReadWhy) :
    State.evolves a0 (State.lookup a0 a1 a2 a3) [.regs, .pmc, .evt, .host, .fch, .map, .wp, .rd, .warp, .flt, .out] := by
  unfold State.lookup; extract_lets +onlyGivenNames x1; clear_value x1; refine ev_ite ?_ ?_
  · refine ev_step ?_ (State.resolveFill_ev _ _) rfl; refine ev_step ?_ (State.count_ev _ _ _ _) rfl; exact ev_refl
  · extract_lets +onlyGivenNames x2
    have h2 : State.evolves a0 x2 [.regs, .pmc, .evt, .host, .fch, .map, .wp, .rd, .warp, .flt, .out] := by
      subst x2; refine ev_step ?_ (State.count_ev _ _ _ _) rfl; exact ev_refl
    clear_value x2; extract_lets +onlyGivenNames x3
    have h3 : State.evolves a0 x3 [.regs, .pmc, .evt, .host, .fch, .map, .wp, .rd, .warp, .flt, .out] := by
      subst x3; refine ev_ite ?_ ?_
      · assumption
      · refine ev_step ?_ (State.count_ev _ _ _ _) rfl; assumption
    clear_value x3; extract_lets +onlyGivenNames x4
    have h4 : State.evolves a0 x4 [.regs, .pmc, .evt, .host, .fch, .map, .wp, .rd, .warp, .flt, .out] := by
      subst x4; refine ev_step ?_ (State.wantMap_ev _ _) rfl; assumption
    clear_value x4; refine ev_ite ?_ ?_
    · refine ev_step ?_ (State.resolveFill_ev _ _) rfl; assumption
    · extract_lets +onlyGivenNames x5
      have h5 : State.evolves a0 x5 [.regs, .pmc, .evt, .host, .fch, .map, .wp, .rd, .warp, .flt, .out] := by
        subst x5; refine ev_step ?_ (State.setReads_ev _ _) rfl; assumption
      clear_value x5; extract_lets +onlyGivenNames x6
      have h6 : State.evolves a0 x6 [.regs, .pmc, .evt, .host, .fch, .map, .wp, .rd, .warp, .flt, .out] := by
        subst x6; refine ev_ite ?_ ?_
        · refine ev_step ?_ (State.wantTag_ev _ _) rfl; assumption
        · assumption
      clear_value x6; refine ev_ite ?_ ?_
      · refine ev_step ?_ (State.queueMapPf_ev _ _) rfl; assumption
      · assumption

theorem State.miss_ev (a0 : State) (a1 : Req) :
    State.evolves a0 (State.miss a0 a1) [.regs, .pmc, .evt, .host, .fch, .map, .wp, .rd, .warp, .flt, .out] := by
  unfold State.miss
  split
  · rename_i y1 y2 y3; refine ev_step ?_ (State.attach_ev _ _ _) rfl; exact ev_refl
  · rename_i y4 y5; refine ev_ite ?_ ?_
    · extract_lets +onlyGivenNames x6; clear_value x6; refine ev_fch ?_ rfl; exact ev_refl
    · extract_lets +onlyGivenNames x7; clear_value x7; refine ev_step ?_ (State.lookup_ev _ _ _ _) rfl
      extract_lets +onlyGivenNames x8; clear_value x8; refine ev_fch ?_ rfl; exact ev_refl

theorem State.writeOn_ev (a0 : State) (a1 : Req) :
    State.evolves a0 (State.writeOn a0 a1) [.regs, .pmc, .evt, .host, .fch, .swt, .map, .wp, .rd, .cry, .epo, .ntn, .warp, .link, .upk, .flt, .pwr, .out] := by
  unfold State.writeOn; extract_lets +onlyGivenNames x1
  have h1 : State.evolves a0 x1 [.regs, .pmc, .evt, .host, .fch, .swt, .map, .wp, .rd, .cry, .epo, .ntn, .warp, .link, .upk, .flt, .pwr, .out] := by
    subst x1; refine ev_step ?_ (State.probe_ev _ _ _) rfl; exact ev_refl
  clear_value x1; extract_lets +onlyGivenNames x2; clear_value x2; refine ev_ite ?_ ?_
  · refine ev_step ?_ (State.writeIn_ev _ _ _) rfl; assumption
  · split
    · rename_i y3 y4 y5; refine ev_ite ?_ ?_
      · refine ev_step ?_ (State.miss_ev _ _) rfl; assumption
      · refine ev_step ?_ (State.writeIn_ev _ _ _) rfl; assumption
    · rename_i y6 y7; refine ev_step ?_ (State.miss_ev _ _) rfl; assumption

theorem State.write_ev (a0 : State) (a1 : Req) (a2 : Bool) :
    State.evolves a0 (State.write a0 a1 a2) [.regs, .pmc, .evt, .host, .fch, .swt, .map, .wp, .rd, .cry, .epo, .ntn, .warp, .link, .upk, .flt, .pwr, .out] := by
  unfold State.write; refine ev_ite ?_ ?_
  · extract_lets +onlyGivenNames x1; subst x1; refine ev_epo ?_ rfl EpoState.wf_upd; exact ev_refl
  · refine ev_ite ?_ ?_
    · refine ev_step ?_ (State.around_ev _ _) rfl; exact ev_refl
    · refine ev_ite ?_ ?_
      · split
        · rename_i y2 y3 y4; refine ev_step ?_ (State.attach_ev _ _ _) rfl; exact ev_refl
        · rename_i y5 y6; exact ev_refl
      · refine ev_ite ?_ ?_
        · refine ev_step ?_ (State.writeDrain_ev _ _) rfl; exact ev_refl
        · refine ev_ite ?_ ?_
          · refine ev_step ?_ (State.writeOn_ev _ _) rfl; exact ev_refl
          · refine ev_ite ?_ ?_
            · extract_lets +onlyGivenNames x7; clear_value x7; refine ev_fch ?_ rfl; exact ev_refl
            · refine ev_ite ?_ ?_
              · extract_lets +onlyGivenNames x8; clear_value x8; extract_lets +onlyGivenNames x9
                have h9 : State.evolves a0 x9 [.regs, .pmc, .evt, .host, .fch, .swt, .map, .wp, .rd, .cry, .epo, .ntn, .warp, .link, .upk, .flt, .pwr, .out] := by
                  subst x9; refine ev_fch ?_ rfl; exact ev_refl
                clear_value x9; extract_lets +onlyGivenNames x10; clear_value x10; extract_lets +onlyGivenNames x11
                have h11 : State.evolves a0 x11 [.regs, .pmc, .evt, .host, .fch, .swt, .map, .wp, .rd, .cry, .epo, .ntn, .warp, .link, .upk, .flt, .pwr, .out] := by
                  subst x11; refine ev_step ?_ (State.setHead_ev _ _ _) rfl; assumption
                clear_value x11; refine ev_step ?_ (State.raiseN_ev _ _ _ _) rfl
                refine ev_step ?_ (State.count_ev _ _ _ _) rfl; assumption
              · refine ev_step ?_ (State.writeOn_ev _ _) rfl; exact ev_refl

theorem State.read_ev (a0 : State) (a1 : Req) :
    State.evolves a0 (State.read a0 a1) [.regs, .pmc, .evt, .host, .fch, .swt, .map, .wp, .rd, .cry, .epo, .ntn, .warp, .link, .upk, .flt, .pwr, .out] := by
  unfold State.read; extract_lets +onlyGivenNames x1; clear_value x1; extract_lets +onlyGivenNames x2
  have h2 : State.evolves a0 x2 [.regs, .pmc, .evt, .host, .fch, .swt, .map, .wp, .rd, .cry, .epo, .ntn, .warp, .link, .upk, .flt, .pwr, .out] := by
    subst x2; refine ev_ite ?_ ?_
    · refine ev_step ?_ (State.probe_ev _ _ _) rfl; exact ev_refl
    · exact ev_refl
  clear_value x2; extract_lets +onlyGivenNames x3; clear_value x3; refine ev_ite ?_ ?_
  · extract_lets +onlyGivenNames x4
    have h4 : State.evolves a0 x4 [.regs, .pmc, .evt, .host, .fch, .swt, .map, .wp, .rd, .cry, .epo, .ntn, .warp, .link, .upk, .flt, .pwr, .out] := by
      subst x4; refine ev_step ?_ (State.count_ev _ _ _ _) rfl; refine ev_ite ?_ ?_
      · refine ev_step ?_ (State.unvictim_ev _ _ _) rfl; assumption
      · assumption
    clear_value x4
    split
    · rename_i y5 y6 y7 y8; refine ev_step ?_ (State.answer_ev _ _ _ _) rfl
      refine ev_step ?_ (State.ftouch_ev _ _) rfl; assumption
    · rename_i y9 y10
      split
      · rename_i y11 y12 y13; refine ev_step ?_ (State.answer_ev _ _ _ _) rfl; assumption
      · rename_i y14 y15; assumption
  · split
    · rename_i y16 y17 y18; extract_lets +onlyGivenNames x19
      have h19 : State.evolves a0 x19 [.regs, .pmc, .evt, .host, .fch, .swt, .map, .wp, .rd, .cry, .epo, .ntn, .warp, .link, .upk, .flt, .pwr, .out] := by
        subst x19; refine ev_step ?_ (State.count_ev _ _ _ _) rfl; refine ev_step ?_ (State.promote_ev _ _ _) rfl
        assumption
      clear_value x19; refine ev_step ?_ (State.track_ev _ _ _ _) rfl; refine ev_step ?_ (State.answer_ev _ _ _ _) rfl
      assumption
    · rename_i y20 y21; extract_lets +onlyGivenNames x22; clear_value x22
      split
      · rename_i y23 y24 y25; refine ev_step ?_ (State.answer_ev _ _ _ _) rfl
        refine ev_step ?_ (State.count_ev _ _ _ _) rfl; assumption
      · rename_i y26; refine ev_step ?_ (State.miss_ev _ _) rfl; refine ev_step ?_ (State.track_ev _ _ _ _) rfl
        refine ev_step ?_ (State.count_ev _ _ _ _) rfl; assumption

theorem State.updRead_ev (a0 : State) (a1 : Nat) (a2 : Rd → Bool) (a3 : Rd → Rd) :
    State.evolves a0 (State.updRead a0 a1 a2 a3) [.rd] := by
  unfold State.updRead; refine ev_step ?_ (State.setReads_ev _ _) rfl; exact ev_refl

end Sys2Proof.Machine
end

