-- ==== Sys2Proof/Laws/EvMem.lean ====
section
/-!
SUPPORT. What each operation of Machine/Mem.lean may change: its parts of the state, and that the register stores stay
canonical.
-/
set_option Elab.async false
namespace Sys2Proof.Machine

theorem execDirtyWaitAdmit_ev (a0 : State) :
    State.evX a0 (execDirtyWaitAdmit a0) [.regs, .pmc, .evt, .host, .fch, .swt, .map, .wp, .rd, .cry, .epo, .ntn, .warp, .link, .upk, .flt, .pwr, .out] := by
  unfold execDirtyWaitAdmit; refine evX_done ?_; refine ev_when ?_ rfl ?_
  · exact ev_refl
  · intro x1 x2
    split
    · rename_i y3 y4; assumption
    · rename_i y5 y6 y7; refine ev_step ?_ (State.write_ev _ _ _) rfl; extract_lets +onlyGivenNames x8; clear_value x8
      refine ev_fch ?_ rfl; assumption

theorem State.hostErr_ev (a0 : State) (a1 : Evt) (a2 : Nat) (a3 : Nat) :
    State.evolves a0 (State.hostErr a0 a1 a2 a3) [.regs, .pmc, .evt, .host] := by
  unfold State.hostErr; refine ev_step ?_ (State.raiseN_ev _ _ _ _) rfl; exact ev_refl

theorem State.inactive_ev (a0 : State) (a1 : Nat) (a2 : Nat) (a3 : Nat) :
    State.evolves a0 (State.inactive a0 a1 a2 a3) [.regs, .pmc, .evt, .host] := by
  unfold State.inactive; refine ev_ite ?_ ?_
  · exact ev_refl
  · refine ev_step ?_ (State.hostErr_ev _ _ _ _) rfl; refine ev_step ?_ (State.setHead_ev _ _ _) rfl; exact ev_refl

theorem State.outside_ev (a0 : State) (a1 : Req) (a2 : Nat) (a3 : Nat) :
    State.evolves a0 (State.outside a0 a1 a2 a3) [.regs, .pmc, .evt, .host, .out] := by
  unfold State.outside; refine ev_step ?_ (State.hostErr_ev _ _ _ _) rfl; refine ev_step ?_ (State.bump_ev _ _ _) rfl
  refine ev_step ?_ (State.failReq_ev _ _) rfl; exact ev_refl

theorem State.keyAbsent_ev (a0 : State) (a1 : Req) :
    State.evolves a0 (State.keyAbsent a0 a1) [.regs, .pmc, .evt, .host, .cry, .out] := by
  unfold State.keyAbsent; extract_lets +onlyGivenNames x1
  have h1 : State.evolves a0 x1 [.regs, .pmc, .evt, .host, .cry, .out] := by
    subst x1; refine ev_step ?_ (State.bump_ev _ _ _) rfl; refine ev_step ?_ (State.cmp_ev _ _ _) rfl; exact ev_refl
  clear_value x1; extract_lets +onlyGivenNames x2; clear_value x2; extract_lets +onlyGivenNames x3; clear_value x3
  refine ev_ite ?_ ?_
  · assumption
  · refine ev_step ?_ (State.raiseN_ev _ _ _ _) rfl; refine ev_step ?_ (State.setDom_ev _ _ _) rfl; assumption

theorem State.windowAccess_ev (a0 : State) (a1 : Req) :
    State.evolves a0 (State.windowAccess a0 a1) [.regs, .pmc, .evt, .host, .fch, .swt, .rd, .out] := by
  unfold State.windowAccess; extract_lets +onlyGivenNames x1
  have h1 : State.evolves a0 x1 [.regs, .pmc, .evt, .host, .fch, .swt, .rd, .out] := by
    subst x1; refine ev_step ?_ (State.count_ev _ _ _ _) rfl; exact ev_refl
  clear_value x1; extract_lets +onlyGivenNames x2; clear_value x2; refine ev_ite ?_ ?_
  · refine ev_step ?_ (State.cmp_ev _ _ _) rfl; refine ev_step ?_ (State.writePoison_ev _ _ _) rfl
    refine ev_step ?_ (State.writeWords_ev _ _ _ _ _ _) rfl; assumption
  · extract_lets +onlyGivenNames x3
    have h3 : State.evP a0 x3 [.regs, .pmc, .evt, .host, .fch, .swt, .rd, .out] := by
      subst x3; refine evP_step ?_ (State.readWords_ev _ _ _) rfl; assumption
    clear_value x3; refine ev_step ?_ (State.memData_ev _ _ _ _ _) rfl; exact ev_fst1 (by assumption)

theorem State.serve_ev (a0 : State) (a1 : Req) :
    State.evolves a0 (State.serve a0 a1) [.regs, .pmc, .evt, .host, .fch, .swt, .map, .wp, .rd, .cry, .epo, .ntn, .warp, .link, .upk, .flt, .pwr, .out] := by
  unfold State.serve; extract_lets +onlyGivenNames x1; clear_value x1; refine ev_ite ?_ ?_
  · refine ev_step ?_ (State.failReq_ev _ _) rfl; exact ev_refl
  · refine ev_ite ?_ ?_
    · refine ev_ite ?_ ?_
      · refine ev_step ?_ (State.keyAbsent_ev _ _) rfl; exact ev_refl
      · refine ev_step ?_ (State.memData_ev _ _ _ _ _) rfl; exact ev_refl
    · refine ev_ite ?_ ?_
      · refine ev_step ?_ (State.keyAbsent_ev _ _) rfl; exact ev_refl
      · refine ev_ite ?_ ?_
        · refine ev_step ?_ (State.failReq_ev _ _) rfl; exact ev_refl
        · refine ev_ite ?_ ?_
          · refine ev_step ?_ (State.failReq_ev _ _) rfl; exact ev_refl
          · refine ev_ite ?_ ?_
            · refine ev_step ?_ (State.windowAccess_ev _ _) rfl; exact ev_refl
            · refine ev_ite ?_ ?_
              · refine ev_step ?_ (State.write_ev _ _ _) rfl; exact ev_refl
              · refine ev_step ?_ (State.read_ev _ _) rfl; exact ev_refl

theorem State.hostReq_ev (a0 : State) (a1 : Req) (a2 : Nat) (a3 : Nat) :
    State.evolves a0 (State.hostReq a0 a1 a2 a3) [.regs, .pmc, .evt, .host, .fch, .swt, .map, .wp, .rd, .cry, .epo, .ntn, .warp, .link, .upk, .flt, .pwr, .out] := by
  unfold State.hostReq; refine ev_ite ?_ ?_
  · refine ev_step ?_ (State.inactive_ev _ _ _ _) rfl; refine ev_step ?_ (State.failReq_ev _ _) rfl; exact ev_refl
  · split
    · rename_i y1 y2; refine ev_step ?_ (State.outside_ev _ _ _ _) rfl; exact ev_refl
    · rename_i y3 y4 y5
      split
      · rename_i y6 y7; refine ev_step ?_ (State.outside_ev _ _ _ _) rfl; exact ev_refl
      · rename_i y8 y9 y10; refine ev_step ?_ (State.serve_ev _ _) rfl; exact ev_refl

theorem execMemWrPtl_ev (a0 : Nat) (a1 : Nat) (a2 : BitVec 64) (a3 : BitVec 512) (a4 : BitVec 64) (a5 : Bool) (a6 : State) :
    State.evX a6 (execMemWrPtl a0 a1 a2 a3 a4 a5 a6) [.regs, .pmc, .evt, .host, .fch, .swt, .map, .wp, .rd, .cry, .epo, .ntn, .warp, .link, .upk, .flt, .pwr, .out] := by
  unfold execMemWrPtl; refine evX_done ?_; unfold State.memReq; extract_lets +onlyGivenNames x1
  have h1 : State.evolves a6 x1 [.regs, .pmc, .evt, .host, .fch, .swt, .map, .wp, .rd, .cry, .epo, .ntn, .warp, .link, .upk, .flt, .pwr, .out] := by
    subst x1; refine ev_step ?_ (State.begin_ev _) rfl; exact ev_refl
  clear_value x1; refine ev_ite ?_ ?_
  · beta_reduce; refine ev_step ?_ (State.hostReq_ev _ _ _ _) rfl; refine ev_step ?_ (State.count_ev _ _ _ _) rfl
    assumption
  · refine ev_step ?_ (State.emit_ev _ _) rfl; assumption

theorem State.cleanAfter_ev (a0 : State) (a1 : Nat) : State.evolves a0 (State.cleanAfter a0 a1) [.fch] := by
  unfold State.cleanAfter; extract_lets +onlyGivenNames x1
  have h1 : State.evolves a0 x1 [.fch] := by
    subst x1; refine ev_step ?_ (State.updLine_ev _ _ _) rfl; exact ev_refl
  clear_value x1; extract_lets +onlyGivenNames x2; clear_value x2; extract_lets +onlyGivenNames x3; clear_value x3
  extract_lets +onlyGivenNames x4
  have h4 : State.evolves a0 x4 [.fch] := by
    subst x4; refine ev_fch ?_ rfl; assumption
  clear_value x4; refine ev_ite ?_ ?_
  · refine ev_step ?_ (State.dropLine_ev _ _) rfl; assumption
  · assumption

theorem State.checkHold_ev (a0 : State) : State.evolves a0 (State.checkHold a0) [.fch] := by
  unfold State.checkHold; refine ev_ite ?_ ?_
  · extract_lets +onlyGivenNames x1; clear_value x1; refine ev_fch ?_ rfl; exact ev_refl
  · exact ev_refl

theorem State.padDomain_ev (a0 : State) (a1 : Nat) :
    State.evolves a0 (State.padDomain a0 a1) [.regs, .pmc, .evt, .host, .wp, .warp, .upk] := by
  unfold State.padDomain; refine ev_foldl ?_ ?_
  · exact ev_refl
  · intro x1 x2 x3; refine ev_foldl ?_ ?_
    · assumption
    · intro x4 x5 x6; refine ev_step ?_ (State.pad_ev _ _ _) rfl; assumption

theorem State.endDraining_ev (a0 : State) (a1 : Nat) :
    State.evolves a0 (State.endDraining a0 a1) [.regs, .pmc, .evt, .host, .fch, .swt, .map, .wp, .rd, .cry, .epo, .ntn, .warp, .link, .upk, .flt, .pwr, .out] := by
  unfold State.endDraining; refine ev_ite ?_ ?_
  · extract_lets +onlyGivenNames x1; clear_value x1; extract_lets +onlyGivenNames x2; clear_value x2
    extract_lets +onlyGivenNames x3
    have h3 : State.evolves a0 x3 [.regs, .pmc, .evt, .host, .fch, .swt, .map, .wp, .rd, .cry, .epo, .ntn, .warp, .link, .upk, .flt, .pwr, .out] := by
      subst x3; refine ev_step ?_ (State.setEpoDom_ev _ _ _) rfl; exact ev_refl
    clear_value x3; extract_lets +onlyGivenNames x4; subst x4; extract_lets +onlyGivenNames x5
    have h5 : State.evolves a0 x5 [.regs, .pmc, .evt, .host, .fch, .swt, .map, .wp, .rd, .cry, .epo, .ntn, .warp, .link, .upk, .flt, .pwr, .out] := by
      subst x5; refine ev_epo ?_ rfl EpoState.wf_upd; assumption
    clear_value x5; refine ev_foldl ?_ ?_
    · refine ev_step ?_ (State.padDomain_ev _ _) rfl; assumption
    · intro x6 x7 x8; refine ev_step ?_ (State.write_ev _ _ _) rfl; assumption
  · exact ev_refl

theorem State.flushStaged_ev (a0 : State) (a1 : Nat) :
    State.evolves a0 (State.flushStaged a0 a1) [.regs, .pmc, .evt, .host, .wp, .warp, .upk] := by
  unfold State.flushStaged
  split
  · rename_i y1 y2; exact ev_refl
  · rename_i y3 y4 y5; refine ev_ite ?_ ?_
    · extract_lets +onlyGivenNames x6; clear_value x6; extract_lets +onlyGivenNames x7; subst x7
      extract_lets +onlyGivenNames x8
      have h8 : State.evolves a0 x8 [.regs, .pmc, .evt, .host, .wp, .warp, .upk] := by
        subst x8; refine ev_wp ?_ rfl WriteState.wf_upd; exact ev_refl
      clear_value x8; refine ev_ite ?_ ?_
      · refine ev_step ?_ (State.padAll_ev _) rfl; assumption
      · assumption
    · exact ev_refl

theorem State.stageHanded_ev (a0 : State) (a1 : Handed) :
    State.evolves a0 (State.stageHanded a0 a1) [.regs, .pmc, .evt, .host, .fch, .swt, .map, .wp, .rd, .cry, .epo, .ntn, .warp, .link, .upk, .flt, .pwr, .out] := by
  unfold State.stageHanded
  split
  · rename_i y1 y2; extract_lets +onlyGivenNames x3; subst x3; refine ev_wp ?_ rfl WriteState.wf_upd; exact ev_refl
  · rename_i y4 y5 y6
    split
    · rename_i y7 y8; exact ev_refl
    · rename_i y9 y10 y11
      split
      · rename_i y12 y13; exact ev_refl
      · rename_i y14 y15 y16; extract_lets +onlyGivenNames x17; subst x17; extract_lets +onlyGivenNames x18
        have h18 : State.evolves a0 x18 [.regs, .pmc, .evt, .host, .fch, .swt, .map, .wp, .rd, .cry, .epo, .ntn, .warp, .link, .upk, .flt, .pwr, .out] := by
          subst x18; refine ev_wp ?_ rfl WriteState.wf_upd
          refine ev_step ?_ (ev_optS (State.enterStaging_ev _ _ _) y16) rfl; exact ev_refl
        clear_value x18; extract_lets +onlyGivenNames x19
        have h19 : State.evolves a0 x19 [.regs, .pmc, .evt, .host, .fch, .swt, .map, .wp, .rd, .cry, .epo, .ntn, .warp, .link, .upk, .flt, .pwr, .out] := by
          subst x19; refine ev_step ?_ (State.updMshr_ev _ _ _) rfl; assumption
        clear_value x19; extract_lets +onlyGivenNames x20
        have h20 : State.evolves a0 x20 [.regs, .pmc, .evt, .host, .fch, .swt, .map, .wp, .rd, .cry, .epo, .ntn, .warp, .link, .upk, .flt, .pwr, .out] := by
          subst x20; refine ev_ite ?_ ?_
          · refine ev_step ?_ (State.cleanAfter_ev _ _) rfl; assumption
          · assumption
        clear_value x20; extract_lets +onlyGivenNames x21
        have h21 : State.evolves a0 x21 [.regs, .pmc, .evt, .host, .fch, .swt, .map, .wp, .rd, .cry, .epo, .ntn, .warp, .link, .upk, .flt, .pwr, .out] := by
          subst x21
          split
          · rename_i y22 y23 y24 y25; refine ev_step ?_ (State.cmp_ev _ _ _) rfl; assumption
          · rename_i y26 y27; assumption
        clear_value x21; refine ev_step ?_ (State.checkCleaner_ev _) rfl; refine ev_step ?_ (State.checkHold_ev _) rfl
        refine ev_step ?_ (State.endDraining_ev _ _) rfl; refine ev_step ?_ (State.flushStaged_ev _ _) rfl; assumption

theorem State.prefetchLine_ev (a0 : State) (a1 : Nat) (a2 : Nat) :
    State.evolves a0 (State.prefetchLine a0 a1 a2) [.regs, .pmc, .evt, .host, .fch, .map, .wp, .rd, .warp, .flt, .out] := by
  unfold State.prefetchLine; refine ev_ite ?_ ?_
  · exact ev_refl
  · extract_lets +onlyGivenNames x1; clear_value x1; refine ev_step ?_ (State.lookup_ev _ _ _ _) rfl
    refine ev_step ?_ (State.count_ev _ _ _ _) rfl; extract_lets +onlyGivenNames x2; clear_value x2
    refine ev_fch ?_ rfl; exact ev_refl

theorem execPrefetchIssue_ev (a0 : Nat) (a1 : State) :
    State.evX a1 (execPrefetchIssue a0 a1) [.regs, .pmc, .evt, .host, .fch, .map, .wp, .rd, .warp, .flt, .out] := by
  unfold execPrefetchIssue; refine evX_done ?_; refine ev_when ?_ rfl ?_
  · exact ev_refl
  · intro x1 x2
    split
    · rename_i y3 y4; assumption
    · rename_i y5 y6 y7; extract_lets +onlyGivenNames x8; clear_value x8
      extract_lets +onlyGivenNames x9; clear_value x9; refine ev_ite ?_ ?_
      · assumption
      · extract_lets +onlyGivenNames x10
        have h10 : State.evolves a1 x10 [.regs, .pmc, .evt, .host, .fch, .map, .wp, .rd, .warp, .flt, .out] := by
          subst x10; refine ev_step ?_ (State.trackMap_ev _ _) rfl; assumption
        clear_value x10; refine ev_ite ?_ ?_
        · refine ev_step ?_ (State.queueMapPf_ev _ _) rfl; assumption
        · extract_lets +onlyGivenNames x11; clear_value x11; refine ev_step ?_ (State.prefetchLine_ev _ _ _) rfl
          extract_lets +onlyGivenNames x12; clear_value x12; refine ev_fch ?_ rfl; assumption

theorem execMemInvNt_ev (a0 : Nat) (a1 : Nat) (a2 : State) : State.evX a2 (execMemInvNt a0 a1 a2) [.out] := by
  unfold execMemInvNt; refine evX_done ?_; unfold State.memReq; extract_lets +onlyGivenNames x1
  have h1 : State.evolves a2 x1 [.out] := by
    subst x1; refine ev_step ?_ (State.begin_ev _) rfl; exact ev_refl
  clear_value x1; refine ev_ite ?_ ?_
  · beta_reduce; refine ev_step ?_ (State.cmp_ev _ _ _) rfl; assumption
  · refine ev_step ?_ (State.emit_ev _ _) rfl; assumption

theorem execMemInv_ev (a0 : Nat) (a1 : Nat) (a2 : State) : State.evX a2 (execMemInv a0 a1 a2) [.out] := by
  unfold execMemInv; refine evX_done ?_; unfold State.memReq; extract_lets +onlyGivenNames x1
  have h1 : State.evolves a2 x1 [.out] := by
    subst x1; refine ev_step ?_ (State.begin_ev _) rfl; exact ev_refl
  clear_value x1; refine ev_ite ?_ ?_
  · beta_reduce; refine ev_step ?_ (State.cmp_ev _ _ _) rfl; assumption
  · refine ev_step ?_ (State.emit_ev _ _) rfl; assumption

theorem State.again_ev (a0 : State) (a1 : Req) :
    State.evolves a0 (State.again a0 a1) [.regs, .pmc, .evt, .host, .fch, .swt, .map, .wp, .rd, .cry, .epo, .ntn, .warp, .link, .upk, .flt, .pwr, .out] := by
  unfold State.again; refine ev_ite ?_ ?_
  · refine ev_step ?_ (State.write_ev _ _ _) rfl; exact ev_refl
  · refine ev_step ?_ (State.read_ev _ _) rfl; exact ev_refl

theorem execMemSpecRd_ev (a0 : Nat) (a1 : BitVec 64) (a2 : State) :
    State.evX a2 (execMemSpecRd a0 a1 a2) [.regs, .pmc, .evt, .host, .fch, .map, .wp, .rd, .warp, .flt, .out] := by
  unfold execMemSpecRd; refine evX_done ?_; unfold State.memReq; extract_lets +onlyGivenNames x1
  have h1 : State.evolves a2 x1 [.regs, .pmc, .evt, .host, .fch, .map, .wp, .rd, .warp, .flt, .out] := by
    subst x1; refine ev_step ?_ (State.begin_ev _) rfl; exact ev_refl
  clear_value x1; refine ev_ite ?_ ?_
  · beta_reduce; extract_lets +onlyGivenNames x2
    have h2 : State.evolves a2 x2 [.regs, .pmc, .evt, .host, .fch, .map, .wp, .rd, .warp, .flt, .out] := by
      subst x2; refine ev_step ?_ (State.count_ev _ _ _ _) rfl; assumption
    clear_value x2; refine ev_ite ?_ ?_
    · assumption
    · split
      · rename_i y3 y4; assumption
      · rename_i y5 y6 y7
        split
        · rename_i y8 y9; assumption
        · rename_i y10 y11 y12; extract_lets +onlyGivenNames x13; clear_value x13; refine ev_ite ?_ ?_
          · assumption
          · extract_lets +onlyGivenNames x14
            have h14 : State.evolves a2 x14 [.regs, .pmc, .evt, .host, .fch, .map, .wp, .rd, .warp, .flt, .out] := by
              subst x14; refine ev_ite ?_ ?_
              · assumption
              · refine ev_step ?_ (State.queueMapPf_ev _ _) rfl; refine ev_step ?_ (State.wantMap_ev _ _) rfl
                assumption
            clear_value x14; refine ev_step ?_ (State.prefetchLine_ev _ _ _) rfl; assumption
  · refine ev_step ?_ (State.emit_ev _ _) rfl; assumption

theorem execEvictionResume_ev (a0 : State) :
    State.evX a0 (execEvictionResume a0) [.regs, .pmc, .evt, .host, .fch, .swt, .map, .wp, .rd, .cry, .epo, .ntn, .warp, .link, .upk, .flt, .pwr, .out] := by
  unfold execEvictionResume; refine evX_done ?_; refine ev_when ?_ rfl ?_
  · exact ev_refl
  · intro x1 x2
    split
    · rename_i y3 y4; assumption
    · rename_i y5 y6 y7 y8; refine ev_step ?_ (State.write_ev _ _ _) rfl
      extract_lets +onlyGivenNames x9; clear_value x9; refine ev_fch ?_ rfl; assumption

theorem execMemRdData_ev (a0 : Nat) (a1 : Nat) (a2 : BitVec 64) (a3 : State) :
    State.evX a3 (execMemRdData a0 a1 a2 a3) [.regs, .pmc, .evt, .host, .fch, .swt, .map, .wp, .rd, .cry, .epo, .ntn, .warp, .link, .upk, .flt, .pwr, .out] := by
  unfold execMemRdData; refine evX_done ?_; unfold State.memReq; extract_lets +onlyGivenNames x1
  have h1 : State.evolves a3 x1 [.regs, .pmc, .evt, .host, .fch, .swt, .map, .wp, .rd, .cry, .epo, .ntn, .warp, .link, .upk, .flt, .pwr, .out] := by
    subst x1; refine ev_step ?_ (State.begin_ev _) rfl; exact ev_refl
  clear_value x1; refine ev_ite ?_ ?_
  · beta_reduce; refine ev_step ?_ (State.hostReq_ev _ _ _ _) rfl; refine ev_step ?_ (State.count_ev _ _ _ _) rfl
    assumption
  · refine ev_step ?_ (State.emit_ev _ _) rfl; assumption

theorem execCleanerWriteback_ev (a0 : State) :
    State.evX a0 (execCleanerWriteback a0) [.regs, .pmc, .evt, .host, .fch, .wp, .out] := by
  unfold execCleanerWriteback; refine evX_done ?_; refine ev_when ?_ rfl ?_
  · exact ev_refl
  · intro x1 x2
    split
    · rename_i y3 y4; assumption
    · rename_i y5 y6 y7 y8; refine ev_step ?_ (State.hand_ev _ _) rfl; assumption

theorem execInvalidMemOpcode_ev (a0 : Nat) (a1 : Nat) (a2 : BitVec 64) (a3 : State) :
    State.evX a3 (execInvalidMemOpcode a0 a1 a2 a3) [.regs, .pmc, .evt, .host, .out] := by
  unfold execInvalidMemOpcode; refine evX_done ?_; unfold State.memReq; extract_lets +onlyGivenNames x1
  have h1 : State.evolves a3 x1 [.regs, .pmc, .evt, .host, .out] := by
    subst x1; refine ev_step ?_ (State.begin_ev _) rfl; exact ev_refl
  clear_value x1; refine ev_ite ?_ ?_
  · beta_reduce; refine ev_step ?_ (State.hostErr_ev _ _ _ _) rfl; assumption
  · refine ev_step ?_ (State.emit_ev _ _) rfl; assumption

theorem execPrefetchFill_ev (a0 : Nat) (a1 : List Nat) (a2 : State) :
    State.evX a2 (execPrefetchFill a0 a1 a2) [.regs, .pmc, .evt, .host, .fch, .wp, .rd, .flt, .out] := by
  unfold execPrefetchFill; refine evX_done ?_; refine ev_when ?_ rfl ?_
  · exact ev_refl
  · intro x1 x2; refine ev_step ?_ (State.fillDone_ev _ _ _ _) rfl; refine ev_step ?_ (State.dropRead_ev _ _ _) rfl
    assumption

theorem execMissWaitResume_ev (a0 : State) :
    State.evX a0 (execMissWaitResume a0) [.regs, .pmc, .evt, .host, .fch, .swt, .map, .wp, .rd, .cry, .epo, .ntn, .warp, .link, .upk, .flt, .pwr, .out] := by
  unfold execMissWaitResume; refine evX_done ?_; refine ev_when ?_ rfl ?_
  · exact ev_refl
  · intro x1 x2
    split
    · rename_i y3 y4; assumption
    · rename_i y5 y6 y7 y8; refine ev_step ?_ (State.again_ev _ _) rfl
      extract_lets +onlyGivenNames x9; clear_value x9; refine ev_fch ?_ rfl; assumption

theorem execMemRd_ev (a0 : Nat) (a1 : Nat) (a2 : BitVec 64) (a3 : State) :
    State.evX a3 (execMemRd a0 a1 a2 a3) [.regs, .pmc, .evt, .host, .fch, .swt, .map, .wp, .rd, .cry, .epo, .ntn, .warp, .link, .upk, .flt, .pwr, .out] := by
  unfold execMemRd; refine evX_done ?_; unfold State.memReq; extract_lets +onlyGivenNames x1
  have h1 : State.evolves a3 x1 [.regs, .pmc, .evt, .host, .fch, .swt, .map, .wp, .rd, .cry, .epo, .ntn, .warp, .link, .upk, .flt, .pwr, .out] := by
    subst x1; refine ev_step ?_ (State.begin_ev _) rfl; exact ev_refl
  clear_value x1; refine ev_ite ?_ ?_
  · beta_reduce; refine ev_step ?_ (State.hostReq_ev _ _ _ _) rfl; refine ev_step ?_ (State.count_ev _ _ _ _) rfl
    assumption
  · refine ev_step ?_ (State.emit_ev _ _) rfl; assumption

theorem execMemWr_ev (a0 : Nat) (a1 : Nat) (a2 : BitVec 64) (a3 : BitVec 512) (a4 : Bool) (a5 : State) :
    State.evX a5 (execMemWr a0 a1 a2 a3 a4 a5) [.regs, .pmc, .evt, .host, .fch, .swt, .map, .wp, .rd, .cry, .epo, .ntn, .warp, .link, .upk, .flt, .pwr, .out] := by
  unfold execMemWr; refine evX_done ?_; unfold State.memReq; extract_lets +onlyGivenNames x1
  have h1 : State.evolves a5 x1 [.regs, .pmc, .evt, .host, .fch, .swt, .map, .wp, .rd, .cry, .epo, .ntn, .warp, .link, .upk, .flt, .pwr, .out] := by
    subst x1; refine ev_step ?_ (State.begin_ev _) rfl; exact ev_refl
  clear_value x1; refine ev_ite ?_ ?_
  · beta_reduce; refine ev_step ?_ (State.hostReq_ev _ _ _ _) rfl; refine ev_step ?_ (State.count_ev _ _ _ _) rfl
    assumption
  · refine ev_step ?_ (State.emit_ev _ _) rfl; assumption

theorem execStagingEntry_ev (a0 : Nat) (a1 : State) :
    State.evX a1 (execStagingEntry a0 a1) [.regs, .pmc, .evt, .host, .fch, .swt, .map, .wp, .rd, .cry, .epo, .ntn, .warp, .link, .upk, .flt, .pwr, .out] := by
  unfold execStagingEntry; refine evX_done ?_; refine ev_when ?_ rfl ?_
  · exact ev_refl
  · intro x1 x2
    split
    · rename_i y3 y4; assumption
    · rename_i y5 y6 y7; refine ev_step ?_ (State.stageHanded_ev _ _) rfl; assumption

end Sys2Proof.Machine
end

