-- ==== Sys2Proof/Laws/EvFch.lean ====
section
/-!
SUPPORT. What each operation of Machine/Fch.lean may change: its parts of the state, and that the register stores stay
canonical.
-/
set_option Elab.async false
namespace Sys2Proof.Machine

theorem State.undefWord_ev (a0 : State) : State.evP a0 (State.undefWord a0) [.freeCtr] := by
  unfold State.undefWord; extract_lets +onlyGivenNames x1
  have h1 : State.evP a0 x1 [.freeCtr] := by
    subst x1; refine evP_step ?_ (State.draw_ev _) rfl; exact ev_refl
  clear_value x1; extract_lets +onlyGivenNames x2
  have h2 : State.evP a0 x2 [.freeCtr] := by
    subst x2; refine evP_step ?_ (State.draw_ev _) rfl; exact ev_fst1 (by assumption)
  clear_value x2; refine evP_mk ?_; exact ev_fst1 (by assumption)

theorem State.clearWay_ev (a0 : State) (a1 : Nat) (a2 : Bool) :
    State.evolves a0 (State.clearWay a0 a1 a2) [.regs, .pmc, .evt, .host, .fch, .wp] := by
  unfold State.clearWay; extract_lets +onlyGivenNames x1; clear_value x1; refine ev_foldl ?_ ?_
  · exact ev_refl
  · intro x2 x3 x4; refine ev_ite ?_ ?_
    · refine ev_step ?_ (State.hand_ev _ _) rfl; assumption
    · refine ev_ite ?_ ?_
      · refine ev_step ?_ (State.setSlot_ev _ _ _) rfl; assumption
      · assumption

theorem execWayEmpty_ev (a0 : Nat) (a1 : State) :
    State.evX a1 (execWayEmpty a0 a1) [.regs, .pmc, .evt, .host, .fch, .wp, .out] := by
  unfold execWayEmpty; refine evX_done ?_; refine ev_when ?_ rfl ?_
  · exact ev_refl
  · intro x1 x2; extract_lets +onlyGivenNames x3
    have h3 : State.evolves a1 x3 [.regs, .pmc, .evt, .host, .fch, .wp, .out] := by
      subst x3; refine ev_step ?_ (State.clearWay_ev _ _ _) rfl; assumption
    clear_value x3; extract_lets +onlyGivenNames x4; clear_value x4; refine ev_fch ?_ rfl; assumption

theorem State.maintGo_ev (a0 : State) (a1 : Nat) (a2 : Nat) (a3 : Nat) :
    State.evolves a0 (State.maintGo a0 a1 a2 a3) [.regs, .pmc, .evt, .host, .fch, .wp] := by
  unfold State.maintGo; refine ev_ite ?_ ?_
  · exact ev_refl
  · extract_lets +onlyGivenNames x1
    have h1 : State.evolves a0 x1 [.regs, .pmc, .evt, .host, .fch, .wp] := by
      subst x1; refine ev_step ?_ (State.setFld_ev _ _ _) rfl; refine ev_step ?_ (State.setFld_ev _ _ _) rfl
      refine ev_step ?_ (State.setFld_ev _ _ _) rfl; exact ev_refl
    clear_value x1; extract_lets +onlyGivenNames x2; refine ev_ite ?_ ?_
    · refine ev_step ?_ (State.raiseN_ev _ _ _ _) rfl; refine ev_step ?_ (State.setFld_ev _ _ _) rfl; assumption
    · extract_lets +onlyGivenNames x3
      have h3 : State.evolves a0 x3 [.regs, .pmc, .evt, .host, .fch, .wp] := by
        subst x3; refine ev_step ?_ (State.setFld_ev _ _ _) rfl; refine ev_step ?_ (State.setFld_ev _ _ _) rfl
        assumption
      clear_value x3; extract_lets +onlyGivenNames x4; clear_value x4; extract_lets +onlyGivenNames x5; clear_value x5
      extract_lets +onlyGivenNames x6
      have h6 : State.evolves a0 x6 [.regs, .pmc, .evt, .host, .fch, .wp] := by
        subst x6; refine ev_fch ?_ rfl; assumption
      clear_value x6; refine ev_foldl ?_ ?_
      · assumption
      · intro x7 x8 x9; refine ev_step ?_ (State.maintLine_ev _ _ _) rfl; assumption

theorem execMaintInv_ev (a0 : Nat) (a1 : Nat) (a2 : Nat) (a3 : State) :
    State.evX a3 (execMaintInv a0 a1 a2 a3) [.regs, .pmc, .evt, .host, .fch, .wp, .out] := by
  unfold execMaintInv; refine evX_done ?_; unfold State.barWrite; extract_lets +onlyGivenNames x1
  have h1 : State.evolves a3 x1 [.regs, .pmc, .evt, .host, .fch, .wp, .out] := by
    subst x1; refine ev_step ?_ (State.begin_ev _) rfl; exact ev_refl
  clear_value x1; refine ev_ite ?_ ?_
  · refine ev_step ?_ (State.emit_ev _ _) rfl; assumption
  · refine ev_ite ?_ ?_
    · refine ev_step ?_ (State.accessErr_ev _ _ _ _ _ _) rfl; assumption
    · beta_reduce; refine ev_step ?_ (State.maintGo_ev _ _ _ _) rfl; assumption

theorem execGroupFolded_ev (a0 : Nat) (a1 : State) :
    State.evX a1 (execGroupFolded a0 a1) [.regs, .pmc, .evt, .host, .fch, .out] := by
  unfold execGroupFolded; refine evX_done ?_; refine ev_when ?_ rfl ?_
  · exact ev_refl
  · intro x1 x2; refine ev_step ?_ (State.raiseN_ev _ _ _ _) rfl; extract_lets +onlyGivenNames x3; clear_value x3
    refine ev_fch ?_ rfl; assumption

theorem State.rawWord_ev (a0 : State) (a1 : Nat) (a2 : Nat) (a3 : Nat) :
    State.evP a0 (State.rawWord a0 a1 a2 a3) [.freeCtr] := by
  unfold State.rawWord
  split
  · rename_i y1 y2 y3; refine evP_ite ?_ ?_
    · refine evP_mk ?_; exact ev_refl
    · refine evP_step ?_ (State.undefWord_ev _) rfl; exact ev_refl
  · rename_i y4 y5
    split
    · rename_i y6 y7 y8; refine evP_mk ?_; exact ev_refl
    · rename_i y9 y10; refine evP_step ?_ (State.undefWord_ev _) rfl; exact ev_refl

theorem execMaintDone_ev (a0 : State) : State.evX a0 (execMaintDone a0) [.regs, .pmc, .evt, .host, .fch, .out] := by
  unfold execMaintDone; refine evX_done ?_; refine ev_when ?_ rfl ?_
  · exact ev_refl
  · intro x1 x2; extract_lets +onlyGivenNames x3; clear_value x3; extract_lets +onlyGivenNames x4
    have h4 : State.evolves a0 x4 [.regs, .pmc, .evt, .host, .fch, .out] := by
      subst x4; refine ev_fch ?_ rfl; assumption
    clear_value x4; refine ev_step ?_ (State.raise_ev _ _) rfl; refine ev_step ?_ (State.setFld_ev _ _ _) rfl
    refine ev_step ?_ (State.setFld_ev _ _ _) rfl; assumption

theorem execMaintWbAll_ev (a0 : Nat) (a1 : State) :
    State.evX a1 (execMaintWbAll a0 a1) [.regs, .pmc, .evt, .host, .fch, .wp, .out] := by
  unfold execMaintWbAll; refine evX_done ?_; unfold State.barWrite; extract_lets +onlyGivenNames x1
  have h1 : State.evolves a1 x1 [.regs, .pmc, .evt, .host, .fch, .wp, .out] := by
    subst x1; refine ev_step ?_ (State.begin_ev _) rfl; exact ev_refl
  clear_value x1; refine ev_ite ?_ ?_
  · refine ev_step ?_ (State.emit_ev _ _) rfl; assumption
  · refine ev_ite ?_ ?_
    · refine ev_step ?_ (State.accessErr_ev _ _ _ _ _ _) rfl; assumption
    · beta_reduce; refine ev_step ?_ (State.maintGo_ev _ _ _ _) rfl; assumption

theorem execFchEnabled_ev (a0 : State) : State.evX a0 (execFchEnabled a0) [.fch, .out] := by
  unfold execFchEnabled; refine evX_done ?_; refine ev_when ?_ rfl ?_
  · exact ev_refl
  · intro x1 x2; extract_lets +onlyGivenNames x3; clear_value x3; refine ev_fch ?_ rfl; assumption

theorem State.diagCtl_ev (a0 : State) (a1 : Nat) (a2 : Nat) (a3 : Nat) (a4 : Nat) (a5 : Nat) :
    State.evolves a0 (State.diagCtl a0 a1 a2 a3 a4 a5) [.regs, .pmc] := by
  unfold State.diagCtl; refine ev_step ?_ (State.setFld_ev _ _ _) rfl; refine ev_step ?_ (State.setFld_ev _ _ _) rfl
  refine ev_step ?_ (State.setFld_ev _ _ _) rfl; refine ev_step ?_ (State.setFld_ev _ _ _) rfl
  refine ev_step ?_ (State.setFld_ev _ _ _) rfl; exact ev_refl

theorem execDiagRead_ev (a0 : Nat) (a1 : Nat) (a2 : Nat) (a3 : Nat) (a4 : State) :
    State.evX a4 (execDiagRead a0 a1 a2 a3 a4) [.regs, .pmc, .evt, .host, .out, .freeCtr] := by
  unfold execDiagRead; refine evX_done ?_; unfold State.barWrite; extract_lets +onlyGivenNames x1
  have h1 : State.evolves a4 x1 [.regs, .pmc, .evt, .host, .out, .freeCtr] := by
    subst x1; refine ev_step ?_ (State.begin_ev _) rfl; exact ev_refl
  clear_value x1; refine ev_ite ?_ ?_
  · refine ev_step ?_ (State.emit_ev _ _) rfl; assumption
  · refine ev_ite ?_ ?_
    · refine ev_step ?_ (State.accessErr_ev _ _ _ _ _ _) rfl; assumption
    · beta_reduce; extract_lets +onlyGivenNames x2; clear_value x2; extract_lets +onlyGivenNames x3; clear_value x3
      extract_lets +onlyGivenNames x4; clear_value x4; refine ev_ite ?_ ?_
      · refine ev_step ?_ (State.raise_ev _ _) rfl; refine ev_step ?_ (State.diagCtl_ev _ _ _ _ _ _) rfl; assumption
      · extract_lets +onlyGivenNames x5
        have h5 : State.evP a4 x5 [.regs, .pmc, .evt, .host, .out, .freeCtr] := by
          subst x5; refine evP_step ?_ (State.rawWord_ev _ _ _ _) rfl; assumption
        clear_value x5; extract_lets +onlyGivenNames x6; clear_value x6; extract_lets +onlyGivenNames x7
        have h7 : State.evolves a4 x7 [.regs, .pmc, .evt, .host, .out, .freeCtr] := by
          subst x7; refine ev_step ?_ (State.setFld_ev _ _ _) rfl
          refine ev_step ?_ (State.diagCtl_ev _ _ _ _ _ _) rfl; exact ev_fst1 (by assumption)
        clear_value x7; refine ev_step ?_ (State.setFld_ev _ _ _) rfl; refine ev_step ?_ (State.setFld_ev _ _ _) rfl
        refine ev_step ?_ (State.setFld_ev _ _ _) rfl; assumption

theorem execFchDisable_ev (a0 : Nat) (a1 : State) :
    State.evX a1 (execFchDisable a0 a1) [.regs, .pmc, .evt, .host, .fch, .wp, .out] := by
  unfold execFchDisable; refine evX_done ?_; unfold State.barWrite; extract_lets +onlyGivenNames x1
  have h1 : State.evolves a1 x1 [.regs, .pmc, .evt, .host, .fch, .wp, .out] := by
    subst x1; refine ev_step ?_ (State.begin_ev _) rfl; exact ev_refl
  clear_value x1; refine ev_ite ?_ ?_
  · refine ev_step ?_ (State.emit_ev _ _) rfl; assumption
  · refine ev_ite ?_ ?_
    · refine ev_step ?_ (State.accessErr_ev _ _ _ _ _ _) rfl; assumption
    · beta_reduce; refine ev_ite ?_ ?_
      · refine ev_step ?_ (State.raise_ev _ _) rfl; assumption
      · extract_lets +onlyGivenNames x2
        have h2 : State.evolves a1 x2 [.regs, .pmc, .evt, .host, .fch, .wp, .out] := by
          subst x2; refine ev_step ?_ (State.setFld_ev _ _ _) rfl; assumption
        clear_value x2
        split
        · rename_i y3 y4; extract_lets +onlyGivenNames x5; clear_value x5; refine ev_fch ?_ rfl; assumption
        · rename_i y6 y7; refine ev_foldl ?_ ?_
          · extract_lets +onlyGivenNames x8; clear_value x8; refine ev_fch ?_ rfl; assumption
          · intro x9 x10 x11; refine ev_step ?_ (State.hand_ev _ _) rfl; assumption
        · rename_i y12 y13 y14; assumption

theorem execMaintWbInv_ev (a0 : Nat) (a1 : Nat) (a2 : Nat) (a3 : State) :
    State.evX a3 (execMaintWbInv a0 a1 a2 a3) [.regs, .pmc, .evt, .host, .fch, .wp, .out] := by
  unfold execMaintWbInv; refine evX_done ?_; unfold State.barWrite; extract_lets +onlyGivenNames x1
  have h1 : State.evolves a3 x1 [.regs, .pmc, .evt, .host, .fch, .wp, .out] := by
    subst x1; refine ev_step ?_ (State.begin_ev _) rfl; exact ev_refl
  clear_value x1; refine ev_ite ?_ ?_
  · refine ev_step ?_ (State.emit_ev _ _) rfl; assumption
  · refine ev_ite ?_ ?_
    · refine ev_step ?_ (State.accessErr_ev _ _ _ _ _ _) rfl; assumption
    · beta_reduce; refine ev_step ?_ (State.maintGo_ev _ _ _ _) rfl; assumption

theorem execFchWaymaskWrite_ev (a0 : Nat) (a1 : BitVec 16) (a2 : BitVec 16) (a3 : BitVec 16) (a4 : State) :
    State.evX a4 (execFchWaymaskWrite a0 a1 a2 a3 a4) [.regs, .pmc, .evt, .host, .fch, .wp, .out] := by
  unfold execFchWaymaskWrite; refine evX_done ?_; unfold State.barWrite; extract_lets +onlyGivenNames x1
  have h1 : State.evolves a4 x1 [.regs, .pmc, .evt, .host, .fch, .wp, .out] := by
    subst x1; refine ev_step ?_ (State.begin_ev _) rfl; exact ev_refl
  clear_value x1; refine ev_ite ?_ ?_
  · refine ev_step ?_ (State.emit_ev _ _) rfl; assumption
  · refine ev_ite ?_ ?_
    · refine ev_step ?_ (State.accessErr_ev _ _ _ _ _ _) rfl; assumption
    · beta_reduce; refine ev_ite ?_ ?_
      · refine ev_step ?_ (State.raise_ev _ _) rfl; assumption
      · extract_lets +onlyGivenNames x2; clear_value x2; extract_lets +onlyGivenNames x3; clear_value x3
        extract_lets +onlyGivenNames x4
        have h4 : State.evolves a4 x4 [.regs, .pmc, .evt, .host, .fch, .wp, .out] := by
          subst x4; refine ev_step ?_ (State.setFld_ev _ _ _) rfl; refine ev_step ?_ (State.setFld_ev _ _ _) rfl
          refine ev_step ?_ (State.setFld_ev _ _ _) rfl; assumption
        clear_value x4; extract_lets +onlyGivenNames x5; clear_value x5
        extract_lets +onlyGivenNames x6; clear_value x6; extract_lets +onlyGivenNames x7
        have h7 : State.evolves a4 x7 [.regs, .pmc, .evt, .host, .fch, .wp, .out] := by
          subst x7; refine ev_foldl ?_ ?_
          · assumption
          · intro x8 x9 x10; refine ev_ite ?_ ?_
            · refine ev_step ?_ (State.clearWay_ev _ _ _) rfl; assumption
            · refine ev_ite ?_ ?_
              · refine ev_step ?_ (State.clearWay_ev _ _ _) rfl; assumption
              · assumption
        clear_value x7; extract_lets +onlyGivenNames x11; clear_value x11; refine ev_fch ?_ rfl; assumption

theorem execMaintInvalidOp_ev (a0 : Nat) (a1 : Nat) (a2 : Nat) (a3 : Nat) (a4 : State) :
    State.evX a4 (execMaintInvalidOp a0 a1 a2 a3 a4) [.regs, .pmc, .evt, .host, .fch, .wp, .out] := by
  unfold execMaintInvalidOp; refine evX_done ?_; unfold State.barWrite; extract_lets +onlyGivenNames x1
  have h1 : State.evolves a4 x1 [.regs, .pmc, .evt, .host, .fch, .wp, .out] := by
    subst x1; refine ev_step ?_ (State.begin_ev _) rfl; exact ev_refl
  clear_value x1; refine ev_ite ?_ ?_
  · refine ev_step ?_ (State.emit_ev _ _) rfl; assumption
  · refine ev_ite ?_ ?_
    · refine ev_step ?_ (State.accessErr_ev _ _ _ _ _ _) rfl; assumption
    · beta_reduce; refine ev_step ?_ (State.maintGo_ev _ _ _ _) rfl; assumption

theorem execDiagWrite_ev (a0 : Nat) (a1 : Nat) (a2 : Nat) (a3 : Nat) (a4 : State) :
    State.evX a4 (execDiagWrite a0 a1 a2 a3 a4) [.regs, .pmc, .evt, .host, .fch, .swt, .out] := by
  unfold execDiagWrite; refine evX_done ?_; unfold State.barWrite; extract_lets +onlyGivenNames x1
  have h1 : State.evolves a4 x1 [.regs, .pmc, .evt, .host, .fch, .swt, .out] := by
    subst x1; refine ev_step ?_ (State.begin_ev _) rfl; exact ev_refl
  clear_value x1; refine ev_ite ?_ ?_
  · refine ev_step ?_ (State.emit_ev _ _) rfl; assumption
  · refine ev_ite ?_ ?_
    · refine ev_step ?_ (State.accessErr_ev _ _ _ _ _ _) rfl; assumption
    · beta_reduce; extract_lets +onlyGivenNames x2; clear_value x2; extract_lets +onlyGivenNames x3; clear_value x3
      extract_lets +onlyGivenNames x4; clear_value x4; refine ev_ite ?_ ?_
      · refine ev_step ?_ (State.raise_ev _ _) rfl; refine ev_step ?_ (State.diagCtl_ev _ _ _ _ _ _) rfl; assumption
      · extract_lets +onlyGivenNames x5; clear_value x5; extract_lets +onlyGivenNames x6; clear_value x6
        extract_lets +onlyGivenNames x7
        have h7 : State.evolves a4 x7 [.regs, .pmc, .evt, .host, .fch, .swt, .out] := by
          subst x7; refine ev_step ?_ (State.diagCtl_ev _ _ _ _ _ _) rfl; assumption
        clear_value x7
        split
        · rename_i y8 y9 y10; refine ev_step ?_ (State.setWword_ev _ _ _) rfl; assumption
        · rename_i y11 y12; extract_lets +onlyGivenNames x13; clear_value x13; refine ev_fch ?_ rfl; assumption

theorem execDirtyLimitWrite_ev (a0 : Nat) (a1 : Nat) (a2 : Nat) (a3 : State) :
    State.evX a3 (execDirtyLimitWrite a0 a1 a2 a3) [.regs, .pmc, .evt, .host, .fch, .out] := by
  unfold execDirtyLimitWrite; refine evX_done ?_; unfold State.barWrite; extract_lets +onlyGivenNames x1
  have h1 : State.evolves a3 x1 [.regs, .pmc, .evt, .host, .fch, .out] := by
    subst x1; refine ev_step ?_ (State.begin_ev _) rfl; exact ev_refl
  clear_value x1; refine ev_ite ?_ ?_
  · refine ev_step ?_ (State.emit_ev _ _) rfl; assumption
  · refine ev_ite ?_ ?_
    · refine ev_step ?_ (State.accessErr_ev _ _ _ _ _ _) rfl; assumption
    · beta_reduce; extract_lets +onlyGivenNames x2
      have h2 : State.evolves a3 x2 [.regs, .pmc, .evt, .host, .fch, .out] := by
        subst x2; refine ev_ite ?_ ?_
        · refine ev_step ?_ (State.setFld_ev _ _ _) rfl; assumption
        · assumption
      clear_value x2; extract_lets +onlyGivenNames x3
      have h3 : State.evolves a3 x3 [.regs, .pmc, .evt, .host, .fch, .out] := by
        subst x3; refine ev_step ?_ (State.setFld_ev _ _ _) rfl; assumption
      clear_value x3; extract_lets +onlyGivenNames x4; clear_value x4; extract_lets +onlyGivenNames x5
      have h5 : State.evolves a3 x5 [.regs, .pmc, .evt, .host, .fch, .out] := by
        subst x5; refine ev_ite ?_ ?_
        · refine ev_step ?_ (State.checkHold_ev _) rfl; refine ev_fch ?_ rfl; assumption
        · assumption
      clear_value x5; refine ev_step ?_ (State.checkCleaner_ev _) rfl; assumption

theorem execFchCntClr_ev (a0 : Nat) (a1 : State) :
    State.evX a1 (execFchCntClr a0 a1) [.regs, .pmc, .evt, .host, .out] := by
  unfold execFchCntClr; refine evX_done ?_; unfold State.barWrite; extract_lets +onlyGivenNames x1
  have h1 : State.evolves a1 x1 [.regs, .pmc, .evt, .host, .out] := by
    subst x1; refine ev_step ?_ (State.begin_ev _) rfl; exact ev_refl
  clear_value x1; refine ev_ite ?_ ?_
  · refine ev_step ?_ (State.emit_ev _ _) rfl; assumption
  · refine ev_ite ?_ ?_
    · refine ev_step ?_ (State.accessErr_ev _ _ _ _ _ _) rfl; assumption
    · beta_reduce; refine ev_step ?_ (State.setFld_ev _ _ _) rfl; refine ev_step ?_ (State.setFld_ev _ _ _) rfl
      refine ev_step ?_ (State.setReg_ev _ _ _) rfl; assumption

theorem execMaintWb_ev (a0 : Nat) (a1 : Nat) (a2 : Nat) (a3 : State) :
    State.evX a3 (execMaintWb a0 a1 a2 a3) [.regs, .pmc, .evt, .host, .fch, .wp, .out] := by
  unfold execMaintWb; refine evX_done ?_; unfold State.barWrite; extract_lets +onlyGivenNames x1
  have h1 : State.evolves a3 x1 [.regs, .pmc, .evt, .host, .fch, .wp, .out] := by
    subst x1; refine ev_step ?_ (State.begin_ev _) rfl; exact ev_refl
  clear_value x1; refine ev_ite ?_ ?_
  · refine ev_step ?_ (State.emit_ev _ _) rfl; assumption
  · refine ev_ite ?_ ?_
    · refine ev_step ?_ (State.accessErr_ev _ _ _ _ _ _) rfl; assumption
    · beta_reduce; refine ev_step ?_ (State.maintGo_ev _ _ _ _) rfl; assumption

theorem execFchEnable_ev (a0 : Nat) (a1 : State) :
    State.evX a1 (execFchEnable a0 a1) [.regs, .pmc, .evt, .host, .fch, .out] := by
  unfold execFchEnable; refine evX_done ?_; unfold State.barWrite; extract_lets +onlyGivenNames x1
  have h1 : State.evolves a1 x1 [.regs, .pmc, .evt, .host, .fch, .out] := by
    subst x1; refine ev_step ?_ (State.begin_ev _) rfl; exact ev_refl
  clear_value x1; refine ev_ite ?_ ?_
  · refine ev_step ?_ (State.emit_ev _ _) rfl; assumption
  · refine ev_ite ?_ ?_
    · refine ev_step ?_ (State.accessErr_ev _ _ _ _ _ _) rfl; assumption
    · beta_reduce; extract_lets +onlyGivenNames x2
      have h2 : State.evolves a1 x2 [.regs, .pmc, .evt, .host, .fch, .out] := by
        subst x2; refine ev_step ?_ (State.setFld_ev _ _ _) rfl; assumption
      clear_value x2
      split
      · rename_i y3 y4; extract_lets +onlyGivenNames x5; clear_value x5; refine ev_fch ?_ rfl; assumption
      · rename_i y6 y7; extract_lets +onlyGivenNames x8; clear_value x8; refine ev_fch ?_ rfl; assumption
      · rename_i y9 y10 y11; assumption

theorem execDrainDone_ev (a0 : State) : State.evX a0 (execDrainDone a0) [.regs, .pmc, .evt, .host, .fch, .out] := by
  unfold execDrainDone; refine evX_done ?_; refine ev_when ?_ rfl ?_
  · exact ev_refl
  · intro x1 x2; refine ev_step ?_ (State.raise_ev _ _) rfl; extract_lets +onlyGivenNames x3; clear_value x3
    refine ev_fch ?_ rfl; assumption

end Sys2Proof.Machine
end

