-- ==== Sys2Proof/Laws/EvSwatch.lean ====
section
/-!
SUPPORT. What each operation of Machine/Swatch.lean may change: its parts of the state, and that the register stores stay
canonical.
-/
set_option Elab.async false
namespace Sys2Proof.Machine

theorem State.swtRefuse_ev (a0 : State) (a1 : Nat) :
    State.evolves a0 (State.swtRefuse a0 a1) [.regs, .pmc, .evt, .host] := by
  unfold State.swtRefuse; refine ev_step ?_ (State.raiseN_ev _ _ _ _) rfl; exact ev_refl

theorem State.restoreWindow_ev (a0 : State) (a1 : Bool) :
    State.evolves a0 (State.restoreWindow a0 a1) [.regs, .pmc, .evt, .host, .swt] := by
  unfold State.restoreWindow
  split
  · rename_i y1 y2; extract_lets +onlyGivenNames x3; clear_value x3; refine ev_swt ?_ rfl; exact ev_refl
  · rename_i y4 y5 y6; extract_lets +onlyGivenNames x7; extract_lets +onlyGivenNames x8; clear_value x8
    extract_lets +onlyGivenNames x9
    have h9 : State.evolves a0 x9 [.regs, .pmc, .evt, .host, .swt] := by
      subst x9; refine ev_swt ?_ rfl; exact ev_refl
    refine ev_ite ?_ ?_
    · refine ev_step ?_ (State.fillWindow_ev _ _) rfl; assumption
    · split
      · rename_i y10 y11 y12; refine ev_ite ?_ ?_
        · extract_lets +onlyGivenNames x13; clear_value x13; refine ev_swt ?_ rfl; assumption
        · refine ev_step ?_ (State.raiseN_ev _ _ _ _) rfl; refine ev_step ?_ (State.fillWindow_ev _ _) rfl; assumption
      · rename_i y14 y15; refine ev_step ?_ (State.raiseN_ev _ _ _ _) rfl
        refine ev_step ?_ (State.fillWindow_ev _ _) rfl; assumption

theorem State.swtRecord_ev (a0 : State) (a1 : Bool) : State.evolves a0 (State.swtRecord a0 a1) [.swt] := by
  unfold State.swtRecord; extract_lets +onlyGivenNames x1; clear_value x1; refine ev_swt ?_ rfl; exact ev_refl

theorem State.discardRange_ev (a0 : State) (a1 : Nat) (a2 : Nat) :
    State.evolves a0 (State.discardRange a0 a1 a2) [.fch, .wp] := by
  unfold State.discardRange; extract_lets +onlyGivenNames x1; subst x1
  extract_lets +onlyGivenNames x2; clear_value x2; extract_lets +onlyGivenNames x3; subst x3
  extract_lets +onlyGivenNames x4
  have h4 : State.evolves a0 x4 [.fch, .wp] := by
    subst x4
    refine ev_updW ?_ id id id WriteState.wf_upd id id id id id id (by intro p; cases p <;> first | exact .inl (by decide) | exact .inr rfl | exact .inr ⟨rfl, rfl⟩)
    exact ev_refl
  clear_value x4; refine ev_step ?_ (State.updStaged_ev _ _ _) rfl; assumption

theorem execCarveDone_ev (a0 : State) :
    State.evX a0 (execCarveDone a0) [.regs, .pmc, .evt, .host, .fch, .swt, .map, .wp, .rd, .upk, .out] := by
  unfold execCarveDone; refine evX_done ?_; refine ev_when ?_ rfl ?_
  · exact ev_refl
  · intro x1 x2; extract_lets +onlyGivenNames x3; clear_value x3; extract_lets +onlyGivenNames x4; clear_value x4
    extract_lets +onlyGivenNames x5
    have h5 : State.evolves a0 x5 [.regs, .pmc, .evt, .host, .fch, .swt, .map, .wp, .rd, .upk, .out] := by
      subst x5; refine ev_step ?_ (State.discardRange_ev _ _ _) rfl; assumption
    clear_value x5; extract_lets +onlyGivenNames x6; clear_value x6; extract_lets +onlyGivenNames x7
    have h7 : State.evolves a0 x7 [.regs, .pmc, .evt, .host, .fch, .swt, .map, .wp, .rd, .upk, .out] := by
      subst x7; refine ev_fch ?_ rfl; assumption
    clear_value x7; extract_lets +onlyGivenNames x8
    have h8 : State.evolves a0 x8 [.regs, .pmc, .evt, .host, .fch, .swt, .map, .wp, .rd, .upk, .out] := by
      subst x8; refine ev_step ?_ (State.unpoisonRange_ev _ _ _ _) rfl
      refine ev_step ?_ (State.unmapRange_ev _ _ _) rfl; assumption
    clear_value x8; extract_lets +onlyGivenNames x9
    have h9 : State.evolves a0 x9 [.regs, .pmc, .evt, .host, .fch, .swt, .map, .wp, .rd, .upk, .out] := by
      subst x9; refine ev_step ?_ (State.fillWindow_ev _ _) rfl; assumption
    clear_value x9; extract_lets +onlyGivenNames x10; clear_value x10; extract_lets +onlyGivenNames x11
    have h11 : State.evolves a0 x11 [.regs, .pmc, .evt, .host, .fch, .swt, .map, .wp, .rd, .upk, .out] := by
      subst x11; refine ev_swt ?_ rfl; assumption
    clear_value x11; refine ev_step ?_ (State.raise_ev _ _) rfl; refine ev_step ?_ (State.swtRecord_ev _ _) rfl
    assumption

theorem State.handedBack_ev (a0 : State) :
    State.evolves a0 (State.handedBack a0) [.regs, .pmc, .evt, .host, .swt] := by
  unfold State.handedBack; extract_lets +onlyGivenNames x1 x2
  have h2 : State.evolves a0 x2 [.regs, .pmc, .evt, .host, .swt] := by
    subst x2; refine ev_swt ?_ rfl; exact ev_refl
  split
  · refine ev_step ?_ (State.swtRecord_ev _ _) rfl; assumption
  · refine ev_step ?_ (State.raise_ev _ _) rfl; refine ev_swt ?_ rfl; assumption

theorem execSwatchCarve_ev (a0 : Nat) (a1 : Nat) (a2 : State) :
    State.evX a2 (execSwatchCarve a0 a1 a2) [.regs, .pmc, .evt, .host, .fch, .swt, .wp, .out] := by
  unfold execSwatchCarve; refine evX_done ?_; unfold State.barWrite; extract_lets +onlyGivenNames x1
  have h1 : State.evolves a2 x1 [.regs, .pmc, .evt, .host, .fch, .swt, .wp, .out] := by
    subst x1; refine ev_step ?_ (State.begin_ev _) rfl; exact ev_refl
  clear_value x1; refine ev_ite ?_ ?_
  · refine ev_step ?_ (State.emit_ev _ _) rfl; assumption
  · refine ev_ite ?_ ?_
    · refine ev_step ?_ (State.accessErr_ev _ _ _ _ _ _) rfl; assumption
    · beta_reduce; extract_lets +onlyGivenNames x2
      have h2 : State.evolves a2 x2 [.regs, .pmc, .evt, .host, .fch, .swt, .wp, .out] := by
        subst x2; refine ev_ite ?_ ?_
        · refine ev_step ?_ (State.setFld_ev _ _ _) rfl; assumption
        · assumption
      clear_value x2; extract_lets +onlyGivenNames x3; clear_value x3; extract_lets +onlyGivenNames x4; clear_value x4
      refine ev_ite ?_ ?_
      · refine ev_step ?_ (State.swtRefuse_ev _ _) rfl; assumption
      · extract_lets +onlyGivenNames x5; clear_value x5; extract_lets +onlyGivenNames x6; clear_value x6
        extract_lets +onlyGivenNames x7
        have h7 : State.evolves a2 x7 [.regs, .pmc, .evt, .host, .fch, .swt, .wp, .out] := by
          subst x7; refine ev_swt ?_ rfl; assumption
        clear_value x7; extract_lets +onlyGivenNames x8
        have h8 : State.evolves a2 x8 [.regs, .pmc, .evt, .host, .fch, .swt, .wp, .out] := by
          subst x8; refine ev_step ?_ (State.discardRange_ev _ _ _) rfl; assumption
        clear_value x8; refine ev_foldl ?_ ?_
        · assumption
        · intro x9 x10 x11; refine ev_step ?_ (State.clearWay_ev _ _ _) rfl; assumption

theorem execSwatchLineHandback_ev (a0 : State) :
    State.evX a0 (execSwatchLineHandback a0) [.regs, .pmc, .evt, .host, .swt, .wp, .rd, .out] := by
  unfold execSwatchLineHandback; refine evX_done ?_; refine ev_when ?_ rfl ?_
  · exact ev_refl
  · intro x1 x2; extract_lets +onlyGivenNames x3; clear_value x3
    split
    · rename_i y4 y5 y6; refine ev_ite ?_ ?_
      · refine ev_step ?_ (State.handedBack_ev _) rfl; assumption
      · assumption
    · rename_i y7 y8; refine ev_ite ?_ ?_
      · refine ev_step ?_ (State.handedBack_ev _) rfl; assumption
      · extract_lets +onlyGivenNames x9; clear_value x9; extract_lets +onlyGivenNames x10
        have h10 : State.evolves a0 x10 [.regs, .pmc, .evt, .host, .swt, .wp, .rd, .out] := by
          subst x10; refine ev_step ?_ (State.poisonMask_ev _ _ _ _) rfl; assumption
        clear_value x10; extract_lets +onlyGivenNames x11; clear_value x11
        extract_lets +onlyGivenNames x12; clear_value x12; extract_lets +onlyGivenNames x13; subst x13
        refine ev_updW ?_ id id id WriteState.wf_upd id id id id id id (by intro p; cases p <;> first | exact .inl (by decide) | exact .inr rfl | exact .inr ⟨rfl, rfl⟩)
        assumption

theorem execSwatchRelease_ev (a0 : Nat) (a1 : Bool) (a2 : State) :
    State.evX a2 (execSwatchRelease a0 a1 a2) [.regs, .pmc, .evt, .host, .swt, .out] := by
  unfold execSwatchRelease; refine evX_done ?_; unfold State.barWrite; extract_lets +onlyGivenNames x1
  have h1 : State.evolves a2 x1 [.regs, .pmc, .evt, .host, .swt, .out] := by
    subst x1; refine ev_step ?_ (State.begin_ev _) rfl; exact ev_refl
  clear_value x1; refine ev_ite ?_ ?_
  · refine ev_step ?_ (State.emit_ev _ _) rfl; assumption
  · refine ev_ite ?_ ?_
    · refine ev_step ?_ (State.accessErr_ev _ _ _ _ _ _) rfl; assumption
    · beta_reduce; extract_lets +onlyGivenNames x2
      have h2 : State.evolves a2 x2 [.regs, .pmc, .evt, .host, .swt, .out] := by
        subst x2; refine ev_step ?_ (State.setFld_ev _ _ _) rfl; assumption
      clear_value x2; refine ev_ite ?_ ?_
      · extract_lets +onlyGivenNames x3; clear_value x3; refine ev_swt ?_ rfl; assumption
      · refine ev_step ?_ (State.swtRefuse_ev _ _) rfl; assumption

end Sys2Proof.Machine
end

