-- ==== Sys2Proof/Laws/EvQueues.lean ====
section
/-!
SUPPORT. What each operation of Machine/Queues.lean may change: its parts of the state, and that the register stores stay
canonical.
-/
set_option Elab.async false
namespace Sys2Proof.Machine

theorem execQueueSelWrite_ev (a0 : Nat) (a1 : Nat) (a2 : State) :
    State.evX a2 (execQueueSelWrite a0 a1 a2) [.regs, .pmc, .evt, .host, .out] := by
  unfold execQueueSelWrite; refine evX_done ?_; unfold State.barWrite; extract_lets +onlyGivenNames x1
  have h1 : State.evolves a2 x1 [.regs, .pmc, .evt, .host, .out] := by
    subst x1; refine ev_step ?_ (State.begin_ev _) rfl; exact ev_refl
  clear_value x1; refine ev_ite ?_ ?_
  · refine ev_step ?_ (State.emit_ev _ _) rfl; assumption
  · refine ev_ite ?_ ?_
    · refine ev_step ?_ (State.accessErr_ev _ _ _ _ _ _) rfl; assumption
    · beta_reduce; extract_lets +onlyGivenNames x2
      have h2 : State.evolves a2 x2 [.regs, .pmc, .evt, .host, .out] := by
        subst x2; refine ev_step ?_ (State.setFld_ev _ _ _) rfl; assumption
      clear_value x2; extract_lets +onlyGivenNames x3; clear_value x3; refine ev_step ?_ (State.setReg_ev _ _ _) rfl
      assumption

theorem State.islandFault_ev (a0 : State) (a1 : Nat) :
    State.evolves a0 (State.islandFault a0 a1) [.regs, .pmc, .evt, .host, .fch, .map, .wp, .rd, .ntn, .warp, .link, .upk, .flt, .out] := by
  unfold State.islandFault; extract_lets +onlyGivenNames x1; clear_value x1; extract_lets +onlyGivenNames x2
  have h2 : State.evolves a0 x2 [.regs, .pmc, .evt, .host, .fch, .map, .wp, .rd, .ntn, .warp, .link, .upk, .flt, .out] := by
    subst x2; refine ev_step ?_ (State.setGroup_ev _ _ _) rfl; exact ev_refl
  clear_value x2; extract_lets +onlyGivenNames x3; clear_value x3; extract_lets +onlyGivenNames x4
  have h4 : State.evolves a0 x4 [.regs, .pmc, .evt, .host, .fch, .map, .wp, .rd, .ntn, .warp, .link, .upk, .flt, .out] := by
    subst x4; refine ev_flt ?_ rfl; assumption
  clear_value x4; extract_lets +onlyGivenNames x5
  have h5 : State.evolves a0 x5 [.regs, .pmc, .evt, .host, .fch, .map, .wp, .rd, .ntn, .warp, .link, .upk, .flt, .out] := by
    subst x5; refine ev_step ?_ (State.takeover_ev _ _) rfl; refine ev_step ?_ (State.raiseN_ev _ _ _ _) rfl
    assumption
  clear_value x5; refine ev_step ?_ (State.countThresh_ev _ _ _) rfl; refine ev_step ?_ (State.report_ev _ _ _ _) rfl
  assumption

theorem State.usePacket_ev (a0 : State) (a1 : PacketRef) :
    State.evolves a0 (State.usePacket a0 a1) [.regs, .pmc, .evt, .host, .fch, .swt, .map, .wp, .rd, .cry, .epo, .ntn, .warp, .link, .upk, .flt, .pwr, .out] := by
  unfold State.usePacket
  split
  · rename_i y1 y2 y3 y4 y5; refine ev_step ?_ (State.hostReq_ev _ _ _ _) rfl; exact ev_refl
  · rename_i y6 y7 y8 y9; refine ev_step ?_ (State.memData_ev _ _ _ _ _) rfl; exact ev_refl
  · rename_i y10 y11
    split
    · rename_i y12 y13 y14; refine ev_step ?_ (State.stageHanded_ev _ _) rfl; exact ev_refl
    · rename_i y15 y16; exact ev_refl
  · rename_i y17 y18 y19; exact ev_refl

theorem execIslandFault_ev (a0 : Nat) (a1 : State) :
    State.evX a1 (execIslandFault a0 a1) [.regs, .pmc, .evt, .host, .fch, .map, .wp, .rd, .ntn, .warp, .link, .upk, .flt, .out] := by
  unfold execIslandFault; refine evX_done ?_; refine ev_when ?_ rfl ?_
  · exact ev_refl
  · intro x1 x2; refine ev_step ?_ (State.islandFault_ev _ _) rfl; assumption

theorem State.parityError_ev (a0 : State) (a1 : Nat) :
    State.evolves a0 (State.parityError a0 a1) [.regs, .pmc, .evt, .host, .fch, .map, .wp, .rd, .ntn, .warp, .link, .upk, .flt, .out] := by
  unfold State.parityError; extract_lets +onlyGivenNames x1; clear_value x1; extract_lets +onlyGivenNames x2
  have h2 : State.evolves a0 x2 [.regs, .pmc, .evt, .host, .fch, .map, .wp, .rd, .ntn, .warp, .link, .upk, .flt, .out] := by
    subst x2; refine ev_step ?_ (State.setQcnt_ev _ _ _) rfl; exact ev_refl
  clear_value x2; refine ev_step ?_ (State.countThresh_ev _ _ _) rfl; refine ev_step ?_ (State.report_ev _ _ _ _) rfl
  assumption

theorem State.losePacket_ev (a0 : State) (a1 : PacketRef) :
    State.evolves a0 (State.losePacket a0 a1) [.regs, .pmc, .evt, .host, .fch, .swt, .map, .wp, .rd, .cry, .epo, .ntn, .warp, .link, .upk, .flt, .pwr, .out] := by
  unfold State.losePacket
  split
  · rename_i y1 y2 y3 y4 y5; refine ev_step ?_ (State.hostReq_ev _ _ _ _) rfl; exact ev_refl
  · rename_i y6 y7 y8 y9; refine ev_step ?_ (State.memData_ev _ _ _ _ _) rfl; exact ev_refl
  · rename_i y10 y11; beta_reduce; refine ev_step ?_ (State.hand_ev _ _) rfl
    extract_lets +onlyGivenNames x12; subst x12; refine ev_wp ?_ rfl WriteState.wf_upd
    refine ev_step ?_ (State.updLine_ev _ _ _) rfl; exact ev_refl
  · rename_i y13 y14 y15; exact ev_refl

theorem State.takeReq_ev (a0 : State) (a1 : Nat) (a2 : Nat) :
    State.evOP a0 (State.takeReq a0 a1 a2) [.fch, .epo] := by
  unfold State.takeReq; extract_lets +onlyGivenNames x1; subst x1; extract_lets +onlyGivenNames x2; clear_value x2
  split
  · rename_i y3 y4; exact evOP_none
  · rename_i y5 y6 y7; refine evOP_some ?_; refine evP_mk ?_; extract_lets +onlyGivenNames x8; clear_value x8
    extract_lets +onlyGivenNames x9; subst x9
    refine ev_updW ?_ id id id id id EpoState.wf_upd id id id id (by intro p; cases p <;> first | exact .inl (by decide) | exact .inr rfl | exact .inr ⟨rfl, rfl⟩)
    exact ev_refl

theorem execRequestTimeout_ev (a0 : Nat) (a1 : Bool) (a2 : Nat) (a3 : Nat) (a4 : State) :
    State.evX a4 (execRequestTimeout a0 a1 a2 a3 a4) [.regs, .pmc, .evt, .host, .fch, .swt, .map, .wp, .rd, .cry, .epo, .ntn, .warp, .link, .upk, .flt, .pwr, .out] := by
  unfold execRequestTimeout; refine evX_done ?_; refine ev_when ?_ rfl ?_
  · exact ev_refl
  · intro x1 x2; refine ev_ite ?_ ?_
    · extract_lets +onlyGivenNames x3
      have h3 : State.evolves a4 x3 [.regs, .pmc, .evt, .host, .fch, .swt, .map, .wp, .rd, .cry, .epo, .ntn, .warp, .link, .upk, .flt, .pwr, .out] := by
        subst x3; refine ev_step ?_ (State.raiseN_ev _ _ _ _) rfl; refine ev_step ?_ (State.bump_ev _ _ _) rfl
        assumption
      clear_value x3; refine ev_step ?_ (State.queueTest_ev _ _ _ _) rfl; assumption
    · split
      · rename_i y4 y5; assumption
      · rename_i y6 y7 y8 y9; refine ev_ite ?_ ?_
        · refine ev_step ?_ (State.write_ev _ _ _) rfl; refine ev_step ?_ (ev_opt (State.takeReq_ev _ _ _) y9) rfl
          assumption
        · refine ev_step ?_ (State.memData_ev _ _ _ _ _) rfl
          refine ev_step ?_ (ev_opt (State.takeReq_ev _ _ _) y9) rfl; assumption

theorem execClockDriftLinkError_ev (a0 : Nat) (a1 : State) :
    State.evX a1 (execClockDriftLinkError a0 a1) [.regs, .pmc, .flt, .out] := by
  unfold execClockDriftLinkError; refine evX_done ?_; refine ev_when ?_ rfl ?_
  · exact ev_refl
  · intro x1 x2; refine ev_step ?_ (State.report_ev _ _ _ _) rfl; assumption

theorem execQueueReplay_ev (a0 : Nat) (a1 : Bool) (a2 : State) :
    State.evX a2 (execQueueReplay a0 a1 a2) [.regs, .pmc, .evt, .host, .fch, .swt, .xq, .map, .wp, .rd, .cry, .epo, .ntn, .warp, .link, .upk, .flt, .pwr, .out] := by
  unfold execQueueReplay; refine evX_done ?_; refine ev_when ?_ rfl ?_
  · exact ev_refl
  · intro x1 x2
    split
    · rename_i y3 y4; assumption
    · rename_i y5 y6 y7; extract_lets +onlyGivenNames x8
      have h8 : State.evolves a2 x8 [.regs, .pmc, .evt, .host, .fch, .swt, .xq, .map, .wp, .rd, .cry, .epo, .ntn, .warp, .link, .upk, .flt, .pwr, .out] := by
        subst x8; refine ev_xq ?_ rfl; assumption
      clear_value x8; extract_lets +onlyGivenNames x9; clear_value x9; refine ev_ite ?_ ?_
      · refine ev_step ?_ (State.usePacket_ev _ _) rfl; refine ev_step ?_ (State.setQcnt_ev _ _ _) rfl; assumption
      · extract_lets +onlyGivenNames x10
        have h10 : State.evolves a2 x10 [.regs, .pmc, .evt, .host, .fch, .swt, .xq, .map, .wp, .rd, .cry, .epo, .ntn, .warp, .link, .upk, .flt, .pwr, .out] := by
          subst x10; refine ev_ite ?_ ?_
          · refine ev_step ?_ (State.injFire_ev _) rfl; assumption
          · assumption
        clear_value x10; refine ev_step ?_ (State.losePacket_ev _ _) rfl
        refine ev_step ?_ (State.setQcnt_ev _ _ _) rfl; assumption

theorem execQueuePacket_ev (a0 : Nat) (a1 : PacketRef) (a2 : Bool) (a3 : State) :
    State.evX a3 (execQueuePacket a0 a1 a2 a3) [.regs, .pmc, .evt, .host, .fch, .swt, .xq, .map, .wp, .rd, .cry, .epo, .ntn, .warp, .link, .upk, .flt, .pwr, .out] := by
  unfold execQueuePacket; refine evX_done ?_; refine ev_when ?_ rfl ?_
  · exact ev_refl
  · intro x1 x2; refine ev_ite ?_ ?_
    · refine ev_step ?_ (State.usePacket_ev _ _) rfl; assumption
    · extract_lets +onlyGivenNames x3; clear_value x3; extract_lets +onlyGivenNames x4
      have h4 : State.evolves a3 x4 [.regs, .pmc, .evt, .host, .fch, .swt, .xq, .map, .wp, .rd, .cry, .epo, .ntn, .warp, .link, .upk, .flt, .pwr, .out] := by
        subst x4; refine ev_ite ?_ ?_
        · refine ev_step ?_ (State.injFire_ev _) rfl; assumption
        · assumption
      clear_value x4; refine ev_step ?_ (State.parityError_ev _ _) rfl; refine ev_xq ?_ rfl; assumption

end Sys2Proof.Machine
end

