-- ==== Sys2Proof/Laws/EvLinks.lean ====
section
/-!
SUPPORT. What each operation of Machine/Links.lean may change: its parts of the state, and that the register stores stay
canonical.
-/
set_option Elab.async false
namespace Sys2Proof.Machine

theorem State.reroute_ev (a0 : State) :
    State.evolves a0 (State.reroute a0) [.regs, .pmc, .evt, .host, .rd, .warp] := by
  unfold State.reroute; refine ev_foldl ?_ ?_
  · exact ev_refl
  · intro x1 x2 x3; refine ev_ite ?_ ?_
    · refine ev_step ?_ (State.issueRecon_ev _ _ _ _) rfl; refine ev_step ?_ (State.updRead_ev _ _ _ _) rfl
      assumption
    · assumption

theorem State.leaveActive_ev (a0 : State) (a1 : Nat) (a2 : LinkPhase) :
    State.evolves a0 (State.leaveActive a0 a1 a2) [.regs, .pmc, .evt, .host, .rd, .warp, .link] := by
  unfold State.leaveActive; extract_lets +onlyGivenNames x1; clear_value x1
  extract_lets +onlyGivenNames x2; clear_value x2; extract_lets +onlyGivenNames x3
  have h3 : State.evolves a0 x3 [.regs, .pmc, .evt, .host, .rd, .warp, .link] := by
    subst x3; refine ev_step ?_ (State.setLink1_ev _ _ _) rfl; exact ev_refl
  clear_value x3; refine ev_ite ?_ ?_
  · refine ev_step ?_ (State.reroute_ev _) rfl; refine ev_step ?_ (State.raise_ev _ _) rfl; assumption
  · assumption

theorem State.enterRetrain_ev (a0 : State) (a1 : Nat) :
    State.evolves a0 (State.enterRetrain a0 a1) [.regs, .pmc, .evt, .host, .rd, .warp, .link] := by
  unfold State.enterRetrain; extract_lets +onlyGivenNames x1
  have h1 : State.evolves a0 x1 [.regs, .pmc, .evt, .host, .rd, .warp, .link] := by
    subst x1; refine ev_step ?_ (State.bump_ev _ _ _) rfl; refine ev_step ?_ (State.leaveActive_ev _ _ _) rfl
    exact ev_refl
  clear_value x1; refine ev_step ?_ (State.raise_ev _ _) rfl; refine ev_step ?_ (State.setLink1_ev _ _ _) rfl
  assumption

theorem State.checkTherm_ev (a0 : State) : State.evolves a0 (State.checkTherm a0) [.thm] := by
  unfold State.checkTherm; refine ev_ite ?_ ?_
  · extract_lets +onlyGivenNames x1; clear_value x1; refine ev_thm ?_ rfl; exact ev_refl
  · exact ev_refl

theorem State.mediaFell_ev (a0 : State) (a1 : Nat) (a2 : Nat) :
    State.evolves a0 (State.mediaFell a0 a1 a2) [.regs, .pmc, .evt, .host, .thm] := by
  unfold State.mediaFell; extract_lets +onlyGivenNames x1; clear_value x1; extract_lets +onlyGivenNames x2
  have h2 : State.evolves a0 x2 [.regs, .pmc, .evt, .host, .thm] := by
    subst x2; refine ev_ite ?_ ?_
    · refine ev_step ?_ (State.raiseN_ev _ _ _ _) rfl; exact ev_refl
    · exact ev_refl
  clear_value x2; refine ev_step ?_ (State.checkTherm_ev _) rfl; assumption

theorem State.pollFailed_ev (a0 : State) (a1 : Nat) :
    State.evolves a0 (State.pollFailed a0 a1) [.regs, .pmc, .evt, .host, .link, .thm] := by
  unfold State.pollFailed; extract_lets +onlyGivenNames x1; clear_value x1
  extract_lets +onlyGivenNames x2; clear_value x2; extract_lets +onlyGivenNames x3; clear_value x3
  extract_lets +onlyGivenNames x4; clear_value x4; extract_lets +onlyGivenNames x5
  have h5 : State.evolves a0 x5 [.regs, .pmc, .evt, .host, .link, .thm] := by
    subst x5; refine ev_step ?_ (State.setLink1_ev _ _ _) rfl; exact ev_refl
  clear_value x5; extract_lets +onlyGivenNames x6
  have h6 : State.evolves a0 x6 [.regs, .pmc, .evt, .host, .link, .thm] := by
    subst x6; refine ev_ite ?_ ?_
    · refine ev_step ?_ (State.raise_ev _ _) rfl; assumption
    · assumption
  clear_value x6; refine ev_step ?_ (State.mediaFell_ev _ _ _) rfl; assumption

theorem State.linkFailed_ev (a0 : State) (a1 : Nat) :
    State.evolves a0 (State.linkFailed a0 a1) [.regs, .pmc, .evt, .host, .fch, .map, .wp, .rd, .ntn, .warp, .link, .upk, .flt, .out] := by
  unfold State.linkFailed; extract_lets +onlyGivenNames x1
  have h1 : State.evolves a0 x1 [.regs, .pmc, .evt, .host, .fch, .map, .wp, .rd, .ntn, .warp, .link, .upk, .flt, .out] := by
    subst x1; refine ev_step ?_ (State.raise_ev _ _) rfl; refine ev_step ?_ (State.leaveActive_ev _ _ _) rfl
    exact ev_refl
  clear_value x1; refine ev_step ?_ (State.reroute_ev _) rfl; refine ev_step ?_ (State.retire_ev _ _ _ _) rfl
  refine ev_step ?_ (State.countErr_ev _ _) rfl; assumption

theorem execTrainingStepTimeout_ev (a0 : Nat) (a1 : State) :
    State.evX a1 (execTrainingStepTimeout a0 a1) [.regs, .pmc, .evt, .host, .fch, .map, .wp, .rd, .ntn, .warp, .link, .upk, .flt, .out] := by
  unfold execTrainingStepTimeout; refine evX_done ?_; refine ev_when ?_ rfl ?_
  · exact ev_refl
  · intro x1 x2; extract_lets +onlyGivenNames x3; clear_value x3
    split
    · rename_i y4 y5; extract_lets +onlyGivenNames x6
      have h6 : State.evolves a1 x6 [.regs, .pmc, .evt, .host, .fch, .map, .wp, .rd, .ntn, .warp, .link, .upk, .flt, .out] := by
        subst x6; refine ev_step ?_ (State.raise_ev _ _) rfl; refine ev_step ?_ (State.setLink1_ev _ _ _) rfl
        assumption
      clear_value x6; refine ev_ite ?_ ?_
      · refine ev_step ?_ (State.retireSkein_ev _ _) rfl; assumption
      · assumption
    · rename_i y7 y8; refine ev_ite ?_ ?_
      · refine ev_step ?_ (State.setLink1_ev _ _ _) rfl; assumption
      · refine ev_step ?_ (State.linkFailed_ev _ _) rfl; assumption
    · rename_i y9 y10; refine ev_ite ?_ ?_
      · refine ev_step ?_ (State.setLink1_ev _ _ _) rfl; assumption
      · refine ev_step ?_ (State.linkFailed_ev _ _) rfl; assumption
    · rename_i y11 y12; refine ev_ite ?_ ?_
      · refine ev_step ?_ (State.setLink1_ev _ _ _) rfl; assumption
      · refine ev_step ?_ (State.linkFailed_ev _ _) rfl; assumption
    · rename_i y13 y14 y15 y16 y17; assumption

theorem execBrdRstDeassert_ev (a0 : State) : State.evX a0 (execBrdRstDeassert a0) [.pwr, .out] := by
  unfold execBrdRstDeassert; refine evX_done ?_; refine ev_when ?_ rfl ?_
  · exact ev_refl
  · intro x1 x2; extract_lets +onlyGivenNames x3; clear_value x3; refine ev_pwr ?_ rfl; assumption

theorem State.noteDies_ev (a0 : State) (a1 : Nat) (a2 : Nat) :
    State.evolves a0 (State.noteDies a0 a1 a2) [.regs, .pmc, .pop, .evt, .host] := by
  unfold State.noteDies; extract_lets +onlyGivenNames x1; clear_value x1; extract_lets +onlyGivenNames x2
  have h2 : State.evolves a0 x2 [.regs, .pmc, .pop, .evt, .host] := by
    subst x2; refine ev_ite ?_ ?_
    · refine ev_step ?_ (State.raise_ev _ _) rfl; exact ev_refl
    · exact ev_refl
  clear_value x2; refine ev_ite ?_ ?_
  · assumption
  · refine ev_updW ?_ id id id id id id id id id id (by intro p; cases p <;> first | exact .inl (by decide) | exact .inr rfl | exact .inr ⟨rfl, rfl⟩)
    assumption

theorem State.discovered_ev (a0 : State) (a1 : Nat) (a2 : Bool) (a3 : Nat) (a4 : Nat) (a5 : List Nat) :
    State.evolves a0 (State.discovered a0 a1 a2 a3 a4 a5) [.regs, .pmc, .pop, .evt, .host, .map, .wp, .rd, .warp, .link, .upk, .out] := by
  unfold State.discovered; extract_lets +onlyGivenNames x1; clear_value x1
  extract_lets +onlyGivenNames x2; clear_value x2; extract_lets +onlyGivenNames x3; clear_value x3
  extract_lets +onlyGivenNames x4; clear_value x4; extract_lets +onlyGivenNames x5; clear_value x5
  extract_lets +onlyGivenNames x6; clear_value x6; extract_lets +onlyGivenNames x7
  have h7 : State.evolves a0 x7 [.regs, .pmc, .pop, .evt, .host, .map, .wp, .rd, .warp, .link, .upk, .out] := by
    subst x7; refine ev_step ?_ (State.setLink1_ev _ _ _) rfl; exact ev_refl
  clear_value x7; extract_lets +onlyGivenNames x8
  have h8 : State.evolves a0 x8 [.regs, .pmc, .pop, .evt, .host, .map, .wp, .rd, .warp, .link, .upk, .out] := by
    subst x8; refine ev_foldl ?_ ?_
    · assumption
    · intro x9 x10 x11; refine ev_step ?_ (State.raiseN_ev _ _ _ _) rfl; assumption
  clear_value x8; refine ev_ite ?_ ?_
  · extract_lets +onlyGivenNames x12; clear_value x12; extract_lets +onlyGivenNames x13
    have h13 : State.evolves a0 x13 [.regs, .pmc, .pop, .evt, .host, .map, .wp, .rd, .warp, .link, .upk, .out] := by
      subst x13; refine ev_step ?_ (State.raise_ev _ _) rfl; refine ev_step ?_ (State.setLink1_ev _ _ _) rfl
      assumption
    clear_value x13; refine ev_ite ?_ ?_
    · extract_lets +onlyGivenNames x14
      have h14 : State.evolves a0 x14 [.regs, .pmc, .pop, .evt, .host, .map, .wp, .rd, .warp, .link, .upk, .out] := by
        subst x14; refine ev_step ?_ (State.retireSkein_ev _ _) rfl; assumption
      clear_value x14; refine ev_step ?_ (State.setLink1_ev _ _ _) rfl; assumption
    · assumption
  · extract_lets +onlyGivenNames x15
    have h15 : State.evolves a0 x15 [.regs, .pmc, .pop, .evt, .host, .map, .wp, .rd, .warp, .link, .upk, .out] := by
      subst x15; refine ev_step ?_ (State.noteDies_ev _ _ _) rfl; assumption
    clear_value x15; extract_lets +onlyGivenNames x16
    have h16 : State.evolves a0 x16 [.regs, .pmc, .pop, .evt, .host, .map, .wp, .rd, .warp, .link, .upk, .out] := by
      subst x16; refine ev_ite ?_ ?_
      · refine ev_step ?_ (State.raise_ev _ _) rfl; assumption
      · assumption
    clear_value x16; refine ev_step ?_ (State.setLink1_ev _ _ _) rfl; assumption

theorem State.assertMrst_ev (a0 : State) (a1 : Nat) :
    State.evolves a0 (State.assertMrst a0 a1) [.regs, .pmc, .evt, .host, .rd, .warp, .link, .pwr] := by
  unfold State.assertMrst; extract_lets +onlyGivenNames x1; clear_value x1; extract_lets +onlyGivenNames x2
  have h2 : State.evolves a0 x2 [.regs, .pmc, .evt, .host, .rd, .warp, .link, .pwr] := by
    subst x2; refine ev_pwr ?_ rfl; exact ev_refl
  clear_value x2; refine ev_foldl ?_ ?_
  · assumption
  · intro x3 x4 x5; extract_lets +onlyGivenNames x6; clear_value x6; refine ev_ite ?_ ?_
    · extract_lets +onlyGivenNames x7
      have h7 : State.evolves a0 x7 [.regs, .pmc, .evt, .host, .rd, .warp, .link, .pwr] := by
        subst x7; refine ev_step ?_ (State.leaveActive_ev _ _ _) rfl; assumption
      clear_value x7; refine ev_step ?_ (State.setLink1_ev _ _ _) rfl; assumption
    · assumption

theorem execMrstPulse_ev (a0 : Nat) (a1 : BitVec 8) (a2 : State) :
    State.evX a2 (execMrstPulse a0 a1 a2) [.regs, .pmc, .evt, .host, .rd, .warp, .link, .pwr, .out] := by
  unfold execMrstPulse; refine evX_done ?_; unfold State.barWrite; extract_lets +onlyGivenNames x1
  have h1 : State.evolves a2 x1 [.regs, .pmc, .evt, .host, .rd, .warp, .link, .pwr, .out] := by
    subst x1; refine ev_step ?_ (State.begin_ev _) rfl; exact ev_refl
  clear_value x1; refine ev_ite ?_ ?_
  · refine ev_step ?_ (State.emit_ev _ _) rfl; assumption
  · refine ev_ite ?_ ?_
    · refine ev_step ?_ (State.accessErr_ev _ _ _ _ _ _) rfl; assumption
    · beta_reduce; refine ev_foldl ?_ ?_
      · assumption
      · intro x2 x3 x4; refine ev_ite ?_ ?_
        · assumption
        · refine ev_ite ?_ ?_
          · extract_lets +onlyGivenNames x5
            have h5 : State.evolves a2 x5 [.regs, .pmc, .evt, .host, .rd, .warp, .link, .pwr, .out] := by
              subst x5; refine ev_step ?_ (State.assertMrst_ev _ _) rfl; assumption
            clear_value x5; extract_lets +onlyGivenNames x6; clear_value x6; refine ev_pwr ?_ rfl; assumption
          · refine ev_step ?_ (State.raise_ev _ _) rfl; assumption

theorem State.startSb_ev (a0 : State) (a1 : Nat) (a2 : Nat) :
    State.evolves a0 (State.startSb a0 a1 a2) [.link, .out] := by
  unfold State.startSb; refine ev_step ?_ (State.emit_ev _ _) rfl; refine ev_step ?_ (State.setLink1_ev _ _ _) rfl
  exact ev_refl

theorem State.startPoll_ev (a0 : State) (a1 : Nat) : State.evolves a0 (State.startPoll a0 a1) [.link, .out] := by
  unfold State.startPoll; refine ev_ite ?_ ?_
  · refine ev_step ?_ (State.startSb_ev _ _ _) rfl; exact ev_refl
  · refine ev_step ?_ (State.setLink1_ev _ _ _) rfl; exact ev_refl

theorem State.linkUp_ev (a0 : State) (a1 : Nat) :
    State.evolves a0 (State.linkUp a0 a1) [.regs, .pmc, .evt, .host, .link, .thm, .out] := by
  unfold State.linkUp; extract_lets +onlyGivenNames x1; clear_value x1; extract_lets +onlyGivenNames x2
  have h2 : State.evolves a0 x2 [.regs, .pmc, .evt, .host, .link, .thm, .out] := by
    subst x2; refine ev_step ?_ (State.setLink1_ev _ _ _) rfl; exact ev_refl
  clear_value x2; refine ev_step ?_ (State.startPoll_ev _ _) rfl; refine ev_step ?_ (State.raise_ev _ _) rfl
  refine ev_step ?_ (State.checkTherm_ev _) rfl; assumption

theorem State.pollOk_ev (a0 : State) (a1 : Nat) (a2 : Nat) :
    State.evolves a0 (State.pollOk a0 a1 a2) [.regs, .pmc, .evt, .host, .link, .thm] := by
  unfold State.pollOk; extract_lets +onlyGivenNames x1; clear_value x1
  extract_lets +onlyGivenNames x2; clear_value x2; extract_lets +onlyGivenNames x3; clear_value x3
  extract_lets +onlyGivenNames x4; subst x4; extract_lets +onlyGivenNames x5
  have h5 : State.evolves a0 x5 [.regs, .pmc, .evt, .host, .link, .thm] := by
    subst x5; refine ev_step ?_ (State.setLink1_ev _ _ _) rfl; exact ev_refl
  clear_value x5; extract_lets +onlyGivenNames x6
  have h6 : State.evolves a0 x6 [.regs, .pmc, .evt, .host, .link, .thm] := by
    subst x6; refine ev_step ?_ (State.mediaFell_ev _ _ _) rfl; assumption
  clear_value x6; extract_lets +onlyGivenNames x7
  have h7 : State.evolves a0 x7 [.regs, .pmc, .evt, .host, .link, .thm] := by
    subst x7; refine ev_ite ?_ ?_
    · refine ev_step ?_ (State.raise_ev _ _) rfl; assumption
    · assumption
  clear_value x7; refine ev_ite ?_ ?_
  · refine ev_step ?_ (State.raiseN_ev _ _ _ _) rfl; refine ev_step ?_ (State.raise_ev _ _) rfl; assumption
  · assumption

theorem execSknCntClr_ev (a0 : Nat) (a1 : Nat) (a2 : State) :
    State.evX a2 (execSknCntClr a0 a1 a2) [.regs, .pmc, .evt, .host, .out] := by
  unfold execSknCntClr; refine evX_done ?_; unfold State.barWrite; extract_lets +onlyGivenNames x1
  have h1 : State.evolves a2 x1 [.regs, .pmc, .evt, .host, .out] := by
    subst x1; refine ev_step ?_ (State.begin_ev _) rfl; exact ev_refl
  clear_value x1; refine ev_ite ?_ ?_
  · refine ev_step ?_ (State.emit_ev _ _) rfl; assumption
  · refine ev_ite ?_ ?_
    · refine ev_step ?_ (State.accessErr_ev _ _ _ _ _ _) rfl; assumption
    · beta_reduce; refine ev_step ?_ (State.setReg_ev _ _ _) rfl; assumption

theorem State.enterEqualise_ev (a0 : State) (a1 : Nat) :
    State.evolves a0 (State.enterEqualise a0 a1) [.regs, .pmc, .evt, .host, .rd, .warp, .link] := by
  unfold State.enterEqualise; extract_lets +onlyGivenNames x1
  have h1 : State.evolves a0 x1 [.regs, .pmc, .evt, .host, .rd, .warp, .link] := by
    subst x1; refine ev_step ?_ (State.bump_ev _ _ _) rfl; refine ev_step ?_ (State.leaveActive_ev _ _ _) rfl
    exact ev_refl
  clear_value x1; refine ev_step ?_ (State.setLink1_ev _ _ _) rfl; assumption

theorem execRetrainDone_ev (a0 : Nat) (a1 : Bool) (a2 : State) :
    State.evX a2 (execRetrainDone a0 a1 a2) [.regs, .pmc, .evt, .host, .rd, .warp, .link, .thm, .out] := by
  unfold execRetrainDone; refine evX_done ?_; refine ev_when ?_ rfl ?_
  · exact ev_refl
  · intro x1 x2; extract_lets +onlyGivenNames x3; clear_value x3; refine ev_ite ?_ ?_
    · refine ev_step ?_ (State.linkUp_ev _ _) rfl; assumption
    · refine ev_ite ?_ ?_
      · refine ev_step ?_ (State.setLink1_ev _ _ _) rfl; assumption
      · refine ev_step ?_ (State.enterEqualise_ev _ _) rfl; assumption

theorem State.endSb_ev (a0 : State) (a1 : Nat) : State.evolves a0 (State.endSb a0 a1) [.link, .out] := by
  unfold State.endSb; extract_lets +onlyGivenNames x1; clear_value x1; extract_lets +onlyGivenNames x2
  have h2 : State.evolves a0 x2 [.link, .out] := by
    subst x2; refine ev_step ?_ (State.setLink1_ev _ _ _) rfl; exact ev_refl
  clear_value x2; refine ev_ite ?_ ?_
  · refine ev_step ?_ (State.startSb_ev _ _ _) rfl; assumption
  · assumption

theorem State.enterDiscover_ev (a0 : State) (a1 : Nat) :
    State.evolves a0 (State.enterDiscover a0 a1) [.regs, .pmc, .evt, .host, .rd, .warp, .link] := by
  unfold State.enterDiscover; refine ev_ite ?_ ?_
  · exact ev_refl
  · extract_lets +onlyGivenNames x1
    have h1 : State.evolves a0 x1 [.regs, .pmc, .evt, .host, .rd, .warp, .link] := by
      subst x1; refine ev_step ?_ (State.leaveActive_ev _ _ _) rfl; exact ev_refl
    clear_value x1; refine ev_step ?_ (State.setLink1_ev _ _ _) rfl; assumption

theorem execSknPkgReset_ev (a0 : Nat) (a1 : Nat) (a2 : State) :
    State.evX a2 (execSknPkgReset a0 a1 a2) [.regs, .pmc, .evt, .host, .rd, .warp, .link, .out] := by
  unfold execSknPkgReset; refine evX_done ?_; unfold State.barWrite; extract_lets +onlyGivenNames x1
  have h1 : State.evolves a2 x1 [.regs, .pmc, .evt, .host, .rd, .warp, .link, .out] := by
    subst x1; refine ev_step ?_ (State.begin_ev _) rfl; exact ev_refl
  clear_value x1; refine ev_ite ?_ ?_
  · refine ev_step ?_ (State.emit_ev _ _) rfl; assumption
  · refine ev_ite ?_ ?_
    · refine ev_step ?_ (State.accessErr_ev _ _ _ _ _ _) rfl; assumption
    · beta_reduce; refine ev_ite ?_ ?_
      · refine ev_step ?_ (State.enterDiscover_ev _ _) rfl; refine ev_step ?_ (State.startSb_ev _ _ _) rfl; assumption
      · assumption

theorem execTempPoll_ev (a0 : State) : State.evX a0 (execTempPoll a0) [.link, .out] := by
  unfold execTempPoll; refine evX_done ?_; refine ev_when ?_ rfl ?_
  · exact ev_refl
  · intro x1 x2; refine ev_foldl ?_ ?_
    · assumption
    · intro x3 x4 x5; refine ev_ite ?_ ?_
      · refine ev_step ?_ (State.startPoll_ev _ _) rfl; assumption
      · assumption

theorem execSkeinOutTimeout_ev (a0 : Nat) (a1 : State) :
    State.evX a1 (execSkeinOutTimeout a0 a1) [.regs, .pmc, .evt, .host, .map, .wp, .rd, .warp, .link, .upk, .out] := by
  unfold execSkeinOutTimeout; extract_lets +onlyGivenNames x1; clear_value x1; refine evX_done ?_
  refine ev_when ?_ rfl ?_
  · exact ev_refl
  · intro x2 x3; extract_lets +onlyGivenNames x4
    have h4 : State.evolves a1 x4 [.regs, .pmc, .evt, .host, .map, .wp, .rd, .warp, .link, .upk, .out] := by
      subst x4; refine ev_step ?_ (State.setLink1_ev _ _ _) rfl; assumption
    clear_value x4; refine ev_foldl ?_ ?_
    · assumption
    · intro x5 x6 x7; refine ev_step ?_ (State.closeEarly_ev _ _ _) rfl; assumption

theorem execMrstDeassert_ev (a0 : Nat) (a1 : State) :
    State.evX a1 (execMrstDeassert a0 a1) [.regs, .pmc, .evt, .host, .rd, .warp, .link, .pwr, .out] := by
  unfold execMrstDeassert; refine evX_done ?_; refine ev_when ?_ rfl ?_
  · exact ev_refl
  · intro x1 x2; extract_lets +onlyGivenNames x3; clear_value x3; extract_lets +onlyGivenNames x4
    have h4 : State.evolves a1 x4 [.regs, .pmc, .evt, .host, .rd, .warp, .link, .pwr, .out] := by
      subst x4; refine ev_pwr ?_ rfl; assumption
    clear_value x4; refine ev_foldl ?_ ?_
    · assumption
    · intro x5 x6 x7; refine ev_step ?_ (State.enterDiscover_ev _ _) rfl; assumption

theorem execMrstPulseEnd_ev (a0 : Nat) (a1 : State) : State.evX a1 (execMrstPulseEnd a0 a1) [.pwr, .out] := by
  unfold execMrstPulseEnd; refine evX_done ?_; refine ev_when ?_ rfl ?_
  · exact ev_refl
  · intro x1 x2; extract_lets +onlyGivenNames x3; clear_value x3; refine ev_pwr ?_ rfl; assumption

theorem execSknRetrain_ev (a0 : Nat) (a1 : Nat) (a2 : State) :
    State.evX a2 (execSknRetrain a0 a1 a2) [.regs, .pmc, .evt, .host, .rd, .warp, .link, .out] := by
  unfold execSknRetrain; refine evX_done ?_; unfold State.barWrite; extract_lets +onlyGivenNames x1
  have h1 : State.evolves a2 x1 [.regs, .pmc, .evt, .host, .rd, .warp, .link, .out] := by
    subst x1; refine ev_step ?_ (State.begin_ev _) rfl; exact ev_refl
  clear_value x1; refine ev_ite ?_ ?_
  · refine ev_step ?_ (State.emit_ev _ _) rfl; assumption
  · refine ev_ite ?_ ?_
    · refine ev_step ?_ (State.accessErr_ev _ _ _ _ _ _) rfl; assumption
    · beta_reduce; refine ev_ite ?_ ?_
      · refine ev_step ?_ (State.enterRetrain_ev _ _) rfl; assumption
      · assumption

theorem State.sbFailed_ev (a0 : State) (a1 : Nat) (a2 : SbOp) :
    State.evolves a0 (State.sbFailed a0 a1 a2) [.regs, .pmc, .evt, .host, .link, .thm, .out] := by
  unfold State.sbFailed; refine ev_ite ?_ ?_
  · refine ev_step ?_ (State.emit_ev _ _) rfl; refine ev_step ?_ (State.setLink1_ev _ _ _) rfl; exact ev_refl
  · extract_lets +onlyGivenNames x1
    have h1 : State.evolves a0 x1 [.regs, .pmc, .evt, .host, .link, .thm, .out] := by
      subst x1; refine ev_step ?_ (State.raise_ev _ _) rfl; exact ev_refl
    clear_value x1; refine ev_step ?_ (State.endSb_ev _ _) rfl; refine ev_ite ?_ ?_
    · refine ev_step ?_ (State.pollFailed_ev _ _) rfl; assumption
    · assumption

theorem execSidebandTimeout_ev (a0 : Nat) (a1 : State) :
    State.evX a1 (execSidebandTimeout a0 a1) [.regs, .pmc, .evt, .host, .link, .thm, .out] := by
  unfold execSidebandTimeout; refine evX_done ?_; refine ev_when ?_ rfl ?_
  · exact ev_refl
  · intro x1 x2
    split
    · rename_i y3 y4; assumption
    · rename_i y5 y6 y7; refine ev_step ?_ (State.sbFailed_ev _ _ _) rfl; assumption

theorem execSidebandResponse_ev (a0 : Nat) (a1 : Nat) (a2 : Nat) (a3 : State) :
    State.evX a3 (execSidebandResponse a0 a1 a2 a3) [.regs, .pmc, .evt, .host, .link, .thm, .out] := by
  unfold execSidebandResponse; refine evX_done ?_; refine ev_when ?_ rfl ?_
  · exact ev_refl
  · intro x1 x2
    split
    · rename_i y3 y4; assumption
    · rename_i y5 y6 y7; refine ev_ite ?_ ?_
      · refine ev_step ?_ (State.sbFailed_ev _ _ _) rfl; assumption
      · refine ev_step ?_ (State.endSb_ev _ _) rfl; refine ev_ite ?_ ?_
        · refine ev_step ?_ (State.pollOk_ev _ _ _) rfl; assumption
        · assumption

theorem execSknFullRetrain_ev (a0 : Nat) (a1 : Nat) (a2 : State) :
    State.evX a2 (execSknFullRetrain a0 a1 a2) [.regs, .pmc, .evt, .host, .rd, .warp, .link, .out] := by
  unfold execSknFullRetrain; refine evX_done ?_; unfold State.barWrite; extract_lets +onlyGivenNames x1
  have h1 : State.evolves a2 x1 [.regs, .pmc, .evt, .host, .rd, .warp, .link, .out] := by
    subst x1; refine ev_step ?_ (State.begin_ev _) rfl; exact ev_refl
  clear_value x1; refine ev_ite ?_ ?_
  · refine ev_step ?_ (State.emit_ev _ _) rfl; assumption
  · refine ev_ite ?_ ?_
    · refine ev_step ?_ (State.accessErr_ev _ _ _ _ _ _) rfl; assumption
    · beta_reduce; refine ev_ite ?_ ?_
      · refine ev_step ?_ (State.enterEqualise_ev _ _) rfl; assumption
      · assumption

theorem execTrainingStepDone_ev (a0 : Nat) (a1 : TrainInfo) (a2 : State) :
    State.evX a2 (execTrainingStepDone a0 a1 a2) [.regs, .pmc, .pop, .evt, .host, .fch, .map, .wp, .rd, .ntn, .warp, .link, .upk, .flt, .thm, .out] := by
  unfold execTrainingStepDone; refine evX_done ?_; refine ev_when ?_ rfl ?_
  · exact ev_refl
  · intro x1 x2; extract_lets +onlyGivenNames x3; clear_value x3
    split
    · rename_i y4 y5 y6 y7 y8; refine ev_ite ?_ ?_
      · refine ev_step ?_ (State.discovered_ev _ _ _ _ _ _) rfl; assumption
      · assumption
    · rename_i y9 y10; refine ev_ite ?_ ?_
      · refine ev_step ?_ (State.setLink1_ev _ _ _) rfl; assumption
      · assumption
    · rename_i y11 y12; refine ev_ite ?_ ?_
      · assumption
      · refine ev_ite ?_ ?_
        · refine ev_step ?_ (State.setWarp1_ev _ _ _) rfl; refine ev_step ?_ (State.setLink1_ev _ _ _) rfl; assumption
        · refine ev_step ?_ (State.linkFailed_ev _ _) rfl; assumption
    · rename_i y13; refine ev_ite ?_ ?_
      · refine ev_step ?_ (State.linkUp_ev _ _) rfl; assumption
      · assumption

end Sys2Proof.Machine
end

