-- ==== Sys2Proof/Laws/EvWarp.lean ====
section
/-!
SUPPORT. What each operation of Machine/Warp.lean may change: its parts of the state, and that the register stores stay
canonical.
-/
set_option Elab.async false
namespace Sys2Proof.Machine

theorem execWrpTemplateWrite_ev (a0 : Nat) (a1 : Bool) (a2 : Nat) (a3 : Nat) (a4 : Nat) (a5 : Bool) (a6 : BitVec 64) (a7 : State) :
    State.evX a7 (execWrpTemplateWrite a0 a1 a2 a3 a4 a5 a6 a7) [.regs, .pmc, .evt, .host, .warp, .out] := by
  unfold execWrpTemplateWrite; extract_lets +onlyGivenNames x1; clear_value x1
  extract_lets +onlyGivenNames x2; clear_value x2; refine evX_done ?_; unfold State.barWrite
  extract_lets +onlyGivenNames x3
  have h3 : State.evolves a7 x3 [.regs, .pmc, .evt, .host, .warp, .out] := by
    subst x3; refine ev_step ?_ (State.begin_ev _) rfl; exact ev_refl
  clear_value x3; refine ev_ite ?_ ?_
  · refine ev_step ?_ (State.emit_ev _ _) rfl; assumption
  · refine ev_ite ?_ ?_
    · refine ev_step ?_ (State.accessErr_ev _ _ _ _ _ _) rfl; assumption
    · beta_reduce; refine ev_ite ?_ ?_
      · refine ev_step ?_ (State.raise_ev _ _) rfl; assumption
      · extract_lets +onlyGivenNames x4
        have h4 : State.evolves a7 x4 [.regs, .pmc, .evt, .host, .warp, .out] := by
          subst x4; refine ev_step ?_ (State.setReg_ev _ _ _) rfl; assumption
        clear_value x4; extract_lets +onlyGivenNames x5; subst x5; refine ev_warp ?_ rfl WarpState.wf_upd; assumption

theorem execWrpCntClr_ev (a0 : Nat) (a1 : State) :
    State.evX a1 (execWrpCntClr a0 a1) [.regs, .pmc, .evt, .host, .out] := by
  unfold execWrpCntClr; refine evX_done ?_; unfold State.barWrite; extract_lets +onlyGivenNames x1
  have h1 : State.evolves a1 x1 [.regs, .pmc, .evt, .host, .out] := by
    subst x1; refine ev_step ?_ (State.begin_ev _) rfl; exact ev_refl
  clear_value x1; refine ev_ite ?_ ?_
  · refine ev_step ?_ (State.emit_ev _ _) rfl; assumption
  · refine ev_ite ?_ ?_
    · refine ev_step ?_ (State.accessErr_ev _ _ _ _ _ _) rfl; assumption
    · beta_reduce; refine ev_step ?_ (State.setReg_ev _ _ _) rfl; assumption

theorem execTokenInstalment_ev (a0 : State) : State.evX a0 (execTokenInstalment a0) [.warp, .out] := by
  unfold execTokenInstalment; refine evX_done ?_; refine ev_when ?_ rfl ?_
  · exact ev_refl
  · intro x1 x2; refine ev_foldl ?_ ?_
    · assumption
    · intro x3 x4 x5; extract_lets +onlyGivenNames x6; clear_value x6; extract_lets +onlyGivenNames x7; clear_value x7
      refine ev_step ?_ (State.setWarp1_ev _ _ _) rfl; assumption

theorem State.sleepCheck_ev (a0 : State) (a1 : Nat) : State.evolves a0 (State.sleepCheck a0 a1) [.warp] := by
  unfold State.sleepCheck; extract_lets +onlyGivenNames x1; clear_value x1
  extract_lets +onlyGivenNames x2; clear_value x2; extract_lets +onlyGivenNames x3; clear_value x3
  extract_lets +onlyGivenNames x4; clear_value x4; refine ev_ite ?_ ?_
  · refine ev_step ?_ (State.setWarp1_ev _ _ _) rfl; exact ev_refl
  · exact ev_refl

theorem State.powerSecond_ev (a0 : State) (a1 : Nat) : State.evolves a0 (State.powerSecond a0 a1) [.warp, .thm] := by
  unfold State.powerSecond; refine ev_ite ?_ ?_
  · extract_lets +onlyGivenNames x1; subst x1; extract_lets +onlyGivenNames x2; clear_value x2
    refine ev_updW ?_ id id id id id id id WarpState.wf_upd id id (by intro p; cases p <;> first | exact .inl (by decide) | exact .inr rfl | exact .inr ⟨rfl, rfl⟩)
    exact ev_refl
  · exact ev_refl

theorem State.charge_ev (a0 : State) (a1 : Nat) (a2 : Nat) :
    State.evolves a0 (State.charge a0 a1 a2) [.regs, .pmc, .evt, .host, .warp] := by
  unfold State.charge; extract_lets +onlyGivenNames x1; clear_value x1
  extract_lets +onlyGivenNames x2; clear_value x2; extract_lets +onlyGivenNames x3; clear_value x3
  extract_lets +onlyGivenNames x4
  have h4 : State.evolves a0 x4 [.regs, .pmc, .evt, .host, .warp] := by
    subst x4; refine ev_step ?_ (State.setWarp1_ev _ _ _) rfl; exact ev_refl
  clear_value x4; extract_lets +onlyGivenNames x5; subst x5; extract_lets +onlyGivenNames x6
  have h6 : State.evolves a0 x6 [.regs, .pmc, .evt, .host, .warp] := by
    subst x6; refine ev_step ?_ (State.count_ev _ _ _ _) rfl; refine ev_warp ?_ rfl WarpState.wf_upd; assumption
  clear_value x6; refine ev_ite ?_ ?_
  · refine ev_step ?_ (State.raiseN_ev _ _ _ _) rfl; assumption
  · assumption

theorem State.grant_ev (a0 : State) (a1 : Nat) (a2 : DnOp) (a3 : Bool) :
    State.evolves a0 (State.grant a0 a1 a2 a3) [.regs, .pmc, .evt, .host, .warp] := by
  unfold State.grant; extract_lets +onlyGivenNames x1; clear_value x1; extract_lets +onlyGivenNames x2; clear_value x2
  extract_lets +onlyGivenNames x3
  have h3 : State.evolves a0 x3 [.regs, .pmc, .evt, .host, .warp] := by
    subst x3; refine ev_step ?_ (State.setWarp1_ev _ _ _) rfl; exact ev_refl
  clear_value x3; refine ev_step ?_ (State.charge_ev _ _ _) rfl; refine ev_step ?_ (State.count_ev _ _ _ _) rfl
  assumption

theorem State.issueInto_ev (a0 : State) (a1 : Nat) (a2 : RdOp) (a3 : List Nat) (a4 : Bool) :
    State.evolves a0 (State.issueInto a0 a1 a2 a3 a4) [.regs, .pmc, .evt, .host, .warp] := by
  unfold State.issueInto; extract_lets +onlyGivenNames x1; clear_value x1
  extract_lets +onlyGivenNames x2; clear_value x2; extract_lets +onlyGivenNames x3; clear_value x3
  extract_lets +onlyGivenNames x4; clear_value x4; extract_lets +onlyGivenNames x5
  have h5 : State.evolves a0 x5 [.regs, .pmc, .evt, .host, .warp] := by
    subst x5; refine ev_step ?_ (State.setWarp1_ev _ _ _) rfl; exact ev_refl
  clear_value x5; refine ev_step ?_ (State.charge_ev _ _ _) rfl; refine ev_step ?_ (State.count_ev _ _ _ _) rfl
  assumption

theorem State.fillField_ev (a0 : State) (a1 : Nat) (a2 : Nat) (a3 : Nat) (a4 : Nat) (a5 : List RdOp) :
    State.evP a0 (State.fillField a0 a1 a2 a3 a4 a5) [.regs, .pmc, .evt, .host, .warp] := by
  induction a3 generalizing a0 a1 a2 a4 a5
  · unfold State.fillField; refine evP_mk ?_; exact ev_refl
  · rename_i z1 ih2; unfold State.fillField; extract_lets +onlyGivenNames x1; clear_value x1
    extract_lets +onlyGivenNames x2; clear_value x2; extract_lets +onlyGivenNames x3; clear_value x3
    extract_lets +onlyGivenNames x4; subst x4
    split
    · rename_i y5 y6; refine evP_mk ?_; exact ev_refl
    · rename_i y7 y8 y9 y10; extract_lets +onlyGivenNames x11; clear_value x11; refine evP_step ?_ (ih2 _ _ _ _ _) rfl
      refine ev_step ?_ (State.issueInto_ev _ _ _ _ _) rfl; exact ev_refl

theorem execDownstreamSlot_ev (a0 : Nat) (a1 : State) :
    State.evX a1 (execDownstreamSlot a0 a1) [.regs, .pmc, .evt, .host, .warp, .out] := by
  unfold execDownstreamSlot; refine evX_done ?_; refine ev_when ?_ rfl ?_
  · exact ev_refl
  · intro x1 x2; extract_lets +onlyGivenNames x3; clear_value x3; extract_lets +onlyGivenNames x4; clear_value x4
    extract_lets +onlyGivenNames x5; clear_value x5; extract_lets +onlyGivenNames x6
    have h6 : State.evolves a1 x6 [.regs, .pmc, .evt, .host, .warp, .out] := by
      subst x6; refine ev_step ?_ (State.setWarp1_ev _ _ _) rfl; assumption
    clear_value x6; extract_lets +onlyGivenNames x7
    have h7 : State.evolves a1 x7 [.regs, .pmc, .evt, .host, .warp, .out] := by
      subst x7; refine ev_ite ?_ ?_
      · refine ev_step ?_ (State.count_ev _ _ _ _) rfl; refine ev_step ?_ (State.bump_ev _ _ _) rfl; assumption
      · assumption
    clear_value x7; extract_lets +onlyGivenNames x8; clear_value x8; extract_lets +onlyGivenNames x9; clear_value x9
    extract_lets +onlyGivenNames x10
    have h10 : State.evolves a1 x10 [.regs, .pmc, .evt, .host, .warp, .out] := by
      subst x10
      split
      · rename_i y11 y12 y13; refine ev_step ?_ (State.grant_ev _ _ _ _) rfl; assumption
      · rename_i y14; refine ev_step ?_ (State.count_ev _ _ _ _) rfl; assumption
    clear_value x10; extract_lets +onlyGivenNames x15
    have h15 : State.evP a1 x15 [.regs, .pmc, .evt, .host, .warp, .out] := by
      subst x15; refine evP_step ?_ (State.fillField_ev _ _ _ _ _ _) rfl; assumption
    clear_value x15; extract_lets +onlyGivenNames x16
    have h16 : State.evolves a1 x16 [.regs, .pmc, .evt, .host, .warp, .out] := by
      subst x16; exact ev_fst1 (by assumption)
    clear_value x16; extract_lets +onlyGivenNames x17
    have h17 : State.evolves a1 x17 [.regs, .pmc, .evt, .host, .warp, .out] := by
      subst x17; refine ev_ite ?_ ?_
      · assumption
      · refine ev_step ?_ (State.count_ev _ _ _ _) rfl; assumption
    clear_value x17; extract_lets +onlyGivenNames x18
    have h18 : State.evolves a1 x18 [.regs, .pmc, .evt, .host, .warp, .out] := by
      subst x18; refine ev_ite ?_ ?_
      · refine ev_step ?_ (State.count_ev _ _ _ _) rfl; assumption
      · refine ev_step ?_ (State.sleepCheck_ev _ _) rfl; assumption
    clear_value x18; extract_lets +onlyGivenNames x19; clear_value x19; extract_lets +onlyGivenNames x20
    have h20 : State.evolves a1 x20 [.regs, .pmc, .evt, .host, .warp, .out] := by
      subst x20; refine ev_step ?_ (State.setWarp1_ev _ _ _) rfl; assumption
    clear_value x20; extract_lets +onlyGivenNames x21; clear_value x21; refine ev_step ?_ (State.emit_ev _ _) rfl
    assumption

theorem execSknWarpSelWrite_ev (a0 : Nat) (a1 : Nat) (a2 : Nat) (a3 : Nat) (a4 : State) :
    State.evX a4 (execSknWarpSelWrite a0 a1 a2 a3 a4) [.regs, .pmc, .evt, .host, .out] := by
  unfold execSknWarpSelWrite; refine evX_done ?_; unfold State.barWrite; extract_lets +onlyGivenNames x1
  have h1 : State.evolves a4 x1 [.regs, .pmc, .evt, .host, .out] := by
    subst x1; refine ev_step ?_ (State.begin_ev _) rfl; exact ev_refl
  clear_value x1; refine ev_ite ?_ ?_
  · refine ev_step ?_ (State.emit_ev _ _) rfl; assumption
  · refine ev_ite ?_ ?_
    · refine ev_step ?_ (State.accessErr_ev _ _ _ _ _ _) rfl; assumption
    · beta_reduce; refine ev_ite ?_ ?_
      · refine ev_step ?_ (State.setFld_ev _ _ _) rfl; refine ev_step ?_ (State.setFld_ev _ _ _) rfl; assumption
      · refine ev_step ?_ (State.raise_ev _ _) rfl; assumption

theorem execStall_ev (a0 : Nat) (a1 : Nat) (a2 : List Nat) (a3 : State) :
    State.evX a3 (execStall a0 a1 a2 a3) [.regs, .pmc, .evt, .host, .warp, .out] := by
  unfold execStall; extract_lets +onlyGivenNames x1; clear_value x1; refine evX_done ?_; refine ev_when ?_ rfl ?_
  · exact ev_refl
  · intro x2 x3; extract_lets +onlyGivenNames x4; clear_value x4; extract_lets +onlyGivenNames x5; subst x5
    extract_lets +onlyGivenNames x6
    have h6 : State.evolves a3 x6 [.regs, .pmc, .evt, .host, .warp, .out] := by
      subst x6; refine ev_warp ?_ rfl WarpState.wf_upd; assumption
    clear_value x6; refine ev_step ?_ (State.raiseN_ev _ _ _ _) rfl; refine ev_step ?_ (State.bump_ev _ _ _) rfl
    assumption

theorem State.updDevload_ev (a0 : State) (a1 : Nat) :
    State.evolves a0 (State.updDevload a0 a1) [.regs, .pmc, .evt, .host] := by
  unfold State.updDevload; extract_lets +onlyGivenNames x1; clear_value x1
  extract_lets +onlyGivenNames x2; clear_value x2; extract_lets +onlyGivenNames x3; clear_value x3
  extract_lets +onlyGivenNames x4; clear_value x4; extract_lets +onlyGivenNames x5; clear_value x5
  extract_lets +onlyGivenNames x6; subst x6; extract_lets +onlyGivenNames x7; clear_value x7
  extract_lets +onlyGivenNames x8
  have h8 : State.evolves a0 x8 [.regs, .pmc, .evt, .host] := by
    subst x8; refine ev_step ?_ (State.setReg_ev _ _ _) rfl; exact ev_refl
  clear_value x8; extract_lets +onlyGivenNames x9
  have h9 : State.evolves a0 x9 [.regs, .pmc, .evt, .host] := by
    subst x9; refine ev_step ?_ (State.setHead_ev _ _ _) rfl; assumption
  clear_value x9; extract_lets +onlyGivenNames x10
  have h10 : State.evolves a0 x10 [.regs, .pmc, .evt, .host] := by
    subst x10; refine ev_step ?_ (State.count_ev _ _ _ _) rfl; assumption
  clear_value x10; refine ev_ite ?_ ?_
  · refine ev_step ?_ (State.raise_ev _ _) rfl; assumption
  · assumption

theorem execValidateDone_ev (a0 : State) :
    State.evX a0 (execValidateDone a0) [.regs, .pmc, .evt, .host, .warp, .out] := by
  unfold execValidateDone; refine evX_done ?_; refine ev_when ?_ rfl ?_
  · exact ev_refl
  · intro x1 x2
    split
    · rename_i y3 y4; assumption
    · rename_i y5 y6 y7; extract_lets +onlyGivenNames x8; clear_value x8
      extract_lets +onlyGivenNames x9; clear_value x9; extract_lets +onlyGivenNames x10; subst x10
      extract_lets +onlyGivenNames x11; subst x11; extract_lets +onlyGivenNames x12
      have h12 : State.evolves a0 x12 [.regs, .pmc, .evt, .host, .warp, .out] := by
        subst x12; refine ev_warp ?_ rfl WarpState.wf_upd; assumption
      clear_value x12; extract_lets +onlyGivenNames x13; clear_value x13; extract_lets +onlyGivenNames x14
      have h14 : State.evolves a0 x14 [.regs, .pmc, .evt, .host, .warp, .out] := by
        subst x14; refine ev_ite ?_ ?_
        · refine ev_step ?_ (State.raiseN_ev _ _ _ _) rfl; assumption
        · assumption
      clear_value x14; refine ev_step ?_ (State.raiseN_ev _ _ _ _) rfl; assumption

theorem execStallCleared_ev (a0 : Nat) (a1 : State) :
    State.evX a1 (execStallCleared a0 a1) [.regs, .pmc, .evt, .host, .warp, .out] := by
  unfold execStallCleared; refine evX_done ?_; refine ev_when ?_ rfl ?_
  · exact ev_refl
  · intro x1 x2; extract_lets +onlyGivenNames x3; subst x3; extract_lets +onlyGivenNames x4
    have h4 : State.evolves a1 x4 [.regs, .pmc, .evt, .host, .warp, .out] := by
      subst x4; refine ev_warp ?_ rfl WarpState.wf_upd; assumption
    clear_value x4; refine ev_ite ?_ ?_
    · assumption
    · refine ev_step ?_ (State.raiseN_ev _ _ _ _) rfl; assumption

theorem execLaneWake_ev (a0 : Nat) (a1 : State) : State.evX a1 (execLaneWake a0 a1) [.warp, .out] := by
  unfold execLaneWake; refine evX_done ?_; refine ev_when ?_ rfl ?_
  · exact ev_refl
  · intro x1 x2; refine ev_step ?_ (State.setWarp1_ev _ _ _) rfl; assumption

theorem execAging_ev (a0 : Nat) (a1 : Nat) (a2 : State) :
    State.evX a2 (execAging a0 a1 a2) [.regs, .pmc, .evt, .host, .warp, .out] := by
  unfold execAging; extract_lets +onlyGivenNames x1; clear_value x1; refine evX_done ?_; refine ev_when ?_ rfl ?_
  · exact ev_refl
  · intro x2 x3; extract_lets +onlyGivenNames x4
    have h4 : State.evolves a2 x4 [.regs, .pmc, .evt, .host, .warp, .out] := by
      subst x4; refine ev_step ?_ (State.setWarp1_ev _ _ _) rfl; assumption
    clear_value x4; refine ev_step ?_ (State.raiseN_ev _ _ _ _) rfl; refine ev_step ?_ (State.bump_ev _ _ _) rfl
    assumption

theorem State.skeinBoundary_ev (a0 : State) (a1 : Nat) (a2 : Nat) (a3 : Nat) :
    State.evolves a0 (State.skeinBoundary a0 a1 a2 a3) [.regs, .pmc, .evt, .host, .warp] := by
  unfold State.skeinBoundary; extract_lets +onlyGivenNames x1; clear_value x1
  extract_lets +onlyGivenNames x2; clear_value x2; extract_lets +onlyGivenNames x3; clear_value x3
  extract_lets +onlyGivenNames x4; clear_value x4; extract_lets +onlyGivenNames x5; clear_value x5
  extract_lets +onlyGivenNames x6
  have h6 : State.evolves a0 x6 [.regs, .pmc, .evt, .host, .warp] := by
    subst x6; refine ev_step ?_ (State.setFld_ev _ _ _) rfl; refine ev_step ?_ (State.setFld_ev _ _ _) rfl
    exact ev_refl
  clear_value x6; extract_lets +onlyGivenNames x7
  have h7 : State.evolves a0 x7 [.regs, .pmc, .evt, .host, .warp] := by
    subst x7; refine ev_step ?_ (State.setFld_ev _ _ _) rfl; refine ev_step ?_ (State.setFld_ev _ _ _) rfl; assumption
  clear_value x7; extract_lets +onlyGivenNames x8
  have h8 : State.evolves a0 x8 [.regs, .pmc, .evt, .host, .warp] := by
    subst x8; refine ev_ite ?_ ?_
    · refine ev_step ?_ (State.setFld_ev _ _ _) rfl; refine ev_step ?_ (State.setFld_ev _ _ _) rfl; assumption
    · exact ev_refl
  clear_value x8; extract_lets +onlyGivenNames x9
  have h9 : State.evolves a0 x9 [.regs, .pmc, .evt, .host, .warp] := by
    subst x9; refine ev_ite ?_ ?_
    · refine ev_step ?_ (State.bump_ev _ _ _) rfl; assumption
    · assumption
  clear_value x9; extract_lets +onlyGivenNames x10
  have h10 : State.evolves a0 x10 [.regs, .pmc, .evt, .host, .warp] := by
    subst x10; refine ev_ite ?_ ?_
    · refine ev_step ?_ (State.bump_ev _ _ _) rfl; assumption
    · assumption
  clear_value x10; extract_lets +onlyGivenNames x11
  have h11 : State.evolves a0 x11 [.regs, .pmc, .evt, .host, .warp] := by
    subst x11; refine ev_ite ?_ ?_
    · refine ev_step ?_ (State.count_ev _ _ _ _) rfl; refine ev_step ?_ (State.bump_ev _ _ _) rfl; assumption
    · assumption
  clear_value x11; refine ev_step ?_ (State.setWarp1_ev _ _ _) rfl; assumption

theorem execPickBoundary_ev (a0 : State) :
    State.evX a0 (execPickBoundary a0) [.regs, .pmc, .evt, .host, .warp, .thm, .out] := by
  unfold execPickBoundary; refine evX_done ?_; refine ev_when ?_ rfl ?_
  · exact ev_refl
  · intro x1 x2; extract_lets +onlyGivenNames x3; clear_value x3; extract_lets +onlyGivenNames x4
    have h4 : State.evolves a0 x4 [.regs, .pmc, .evt, .host, .warp, .thm, .out] := by
      subst x4
      split
      · rename_i y5 y6 y7 y8 y9; refine ev_thm ?_ rfl; assumption
      · rename_i y10 y11 y12; assumption
    clear_value x4; extract_lets +onlyGivenNames x13; clear_value x13
    extract_lets +onlyGivenNames x14; clear_value x14; extract_lets +onlyGivenNames x15
    have h15 : State.evolves a0 x15 [.regs, .pmc, .evt, .host, .warp, .thm, .out] := by
      subst x15; refine ev_step ?_ (State.count_ev _ _ _ _) rfl; refine ev_step ?_ (State.count_ev _ _ _ _) rfl
      assumption
    clear_value x15; extract_lets +onlyGivenNames x16
    have h16 : State.evolves a0 x16 [.regs, .pmc, .evt, .host, .warp, .thm, .out] := by
      subst x16; refine ev_step ?_ (State.powerSecond_ev _ _) rfl; assumption
    clear_value x16; extract_lets +onlyGivenNames x17
    have h17 : State.evolves a0 x17 [.regs, .pmc, .evt, .host, .warp, .thm, .out] := by
      subst x17; refine ev_foldl ?_ ?_
      · assumption
      · intro x18 x19 x20; refine ev_step ?_ (State.skeinBoundary_ev _ _ _ _) rfl; assumption
    clear_value x17; extract_lets +onlyGivenNames x21; clear_value x21
    extract_lets +onlyGivenNames x22; clear_value x22; extract_lets +onlyGivenNames x23
    have h23 : State.evolves a0 x23 [.regs, .pmc, .evt, .host, .warp, .thm, .out] := by
      subst x23; refine ev_thm ?_ rfl; assumption
    clear_value x23; refine ev_foldl ?_ ?_
    · assumption
    · intro x24 x25 x26; refine ev_step ?_ (State.updDevload_ev _ _) rfl; assumption

theorem execValidate_ev (a0 : Nat) (a1 : Nat) (a2 : State) :
    State.evX a2 (execValidate a0 a1 a2) [.regs, .pmc, .evt, .host, .warp, .out] := by
  unfold execValidate; refine evX_done ?_; unfold State.barWrite; extract_lets +onlyGivenNames x1
  have h1 : State.evolves a2 x1 [.regs, .pmc, .evt, .host, .warp, .out] := by
    subst x1; refine ev_step ?_ (State.begin_ev _) rfl; exact ev_refl
  clear_value x1; refine ev_ite ?_ ?_
  · refine ev_step ?_ (State.emit_ev _ _) rfl; assumption
  · refine ev_ite ?_ ?_
    · refine ev_step ?_ (State.accessErr_ev _ _ _ _ _ _) rfl; assumption
    · beta_reduce; extract_lets +onlyGivenNames x2
      have h2 : State.evolves a2 x2 [.regs, .pmc, .evt, .host, .warp, .out] := by
        subst x2; refine ev_step ?_ (State.setFld_ev _ _ _) rfl; assumption
      clear_value x2; refine ev_ite ?_ ?_
      · assumption
      · extract_lets +onlyGivenNames x3; subst x3; refine ev_warp ?_ rfl WarpState.wf_upd; assumption

theorem execStallPersist_ev (a0 : Nat) (a1 : State) :
    State.evX a1 (execStallPersist a0 a1) [.regs, .pmc, .evt, .host, .warp, .flt, .out] := by
  unfold execStallPersist; refine evX_done ?_; refine ev_when ?_ rfl ?_
  · exact ev_refl
  · intro x1 x2
    split
    · rename_i y3 y4; assumption
    · rename_i y5 y6 y7; extract_lets +onlyGivenNames x8; subst x8; extract_lets +onlyGivenNames x9
      have h9 : State.evolves a1 x9 [.regs, .pmc, .evt, .host, .warp, .flt, .out] := by
        subst x9; refine ev_warp ?_ rfl WarpState.wf_upd; assumption
      clear_value x9; extract_lets +onlyGivenNames x10
      have h10 : State.evolves a1 x10 [.regs, .pmc, .evt, .host, .warp, .flt, .out] := by
        subst x10; refine ev_step ?_ (State.raiseN_ev _ _ _ _) rfl; assumption
      clear_value x10; refine ev_step ?_ (State.report_ev _ _ _ _) rfl; assumption

end Sys2Proof.Machine
end

