-- ==== Sys2Proof/Laws/EvMedia.lean ====
section
/-!
SUPPORT. What each operation of Machine/Media.lean may change: its parts of the state, and that the register stores stay
canonical.
-/
set_option Elab.async false
namespace Sys2Proof.Machine

theorem State.linkFailure_ev (a0 : State) (a1 : Nat) (a2 : Bool) :
    State.evolves a0 (State.linkFailure a0 a1 a2) [.regs, .pmc, .evt, .host, .rd, .warp, .link, .flt] := by
  unfold State.linkFailure; extract_lets +onlyGivenNames x1
  have h1 : State.evolves a0 x1 [.regs, .pmc, .evt, .host, .rd, .warp, .link, .flt] := by
    subst x1; refine ev_step ?_ (State.count_ev _ _ _ _) rfl; refine ev_step ?_ (State.bump_ev _ _ _) rfl
    exact ev_refl
  clear_value x1; extract_lets +onlyGivenNames x2; clear_value x2; extract_lets +onlyGivenNames x3; clear_value x3
  extract_lets +onlyGivenNames x4; clear_value x4; extract_lets +onlyGivenNames x5; clear_value x5
  extract_lets +onlyGivenNames x6; clear_value x6; extract_lets +onlyGivenNames x7
  have h7 : State.evolves a0 x7 [.regs, .pmc, .evt, .host, .rd, .warp, .link, .flt] := by
    subst x7; refine ev_step ?_ (State.setLink1_ev _ _ _) rfl; assumption
  clear_value x7; extract_lets +onlyGivenNames x8
  have h8 : State.evolves a0 x8 [.regs, .pmc, .evt, .host, .rd, .warp, .link, .flt] := by
    subst x8; refine ev_ite ?_ ?_
    · refine ev_step ?_ (State.report_ev _ _ _ _) rfl; refine ev_step ?_ (State.raise_ev _ _) rfl; assumption
    · assumption
  clear_value x8; refine ev_ite ?_ ?_
  · refine ev_step ?_ (State.enterRetrain_ev _ _) rfl; assumption
  · assumption

theorem State.nakFrame_ev (a0 : State) (a1 : Nat) (a2 : DnFrame) :
    State.evolves a0 (State.nakFrame a0 a1 a2) [.regs, .pmc, .evt, .host, .rd, .warp, .link, .flt] := by
  unfold State.nakFrame; extract_lets +onlyGivenNames x1; clear_value x1; extract_lets +onlyGivenNames x2
  have h2 : State.evolves a0 x2 [.regs, .pmc, .evt, .host, .rd, .warp, .link, .flt] := by
    subst x2
    split
    · rename_i y3 y4 y5; refine ev_step ?_ (State.setWarp1_ev _ _ _) rfl; exact ev_refl
    · rename_i y6 y7; refine ev_step ?_ (State.setWarp1_ev _ _ _) rfl; exact ev_refl
  clear_value x2; refine ev_step ?_ (State.linkFailure_ev _ _ _) rfl; assumption

theorem State.goodFrame_ev (a0 : State) (a1 : Nat) : State.evolves a0 (State.goodFrame a0 a1) [.link] := by
  unfold State.goodFrame; refine ev_step ?_ (State.setLink1_ev _ _ _) rfl; exact ev_refl

theorem execDownstreamFrameAccepted_ev (a0 : Nat) (a1 : State) :
    State.evX a1 (execDownstreamFrameAccepted a0 a1) [.regs, .pmc, .evt, .host, .rd, .warp, .link, .flt, .out] := by
  unfold execDownstreamFrameAccepted; refine evX_done ?_; refine ev_when ?_ rfl ?_
  · exact ev_refl
  · intro x1 x2
    split
    · rename_i y3 y4; assumption
    · rename_i y5 y6 y7 y8; refine ev_ite ?_ ?_
      · refine ev_step ?_ (State.nakFrame_ev _ _ _) rfl; refine ev_step ?_ (State.injFire_ev _) rfl; assumption
      · refine ev_step ?_ (State.goodFrame_ev _ _) rfl; refine ev_step ?_ (State.setWarp1_ev _ _ _) rfl; assumption

theorem State.recoveredCode_ev (a0 : State) (a1 : Rd) (a2 : Quad Sector) :
    State.evP a0 (State.recoveredCode a0 a1 a2) [.freeCtr] := by
  unfold State.recoveredCode
  split
  · rename_i y1 y2 y3; refine evP_mk ?_; exact ev_refl
  · rename_i y4 y5; extract_lets +onlyGivenNames x6
    have h6 : State.evP a0 x6 [.freeCtr] := by
      subst x6; refine evP_step ?_ (State.draw_ev _) rfl; exact ev_refl
    clear_value x6; extract_lets +onlyGivenNames x7; clear_value x7; extract_lets +onlyGivenNames x8; clear_value x8
    extract_lets +onlyGivenNames x9; clear_value x9; extract_lets +onlyGivenNames x10; clear_value x10
    refine evP_mk ?_; exact ev_fst1 (by assumption)

theorem State.lookAgain_ev (a0 : State) (a1 : Rd) :
    State.evolves a0 (State.lookAgain a0 a1) [.regs, .pmc, .evt, .host, .fch, .map, .wp, .rd, .cry, .epo, .ntn, .warp, .flt, .out] := by
  unfold State.lookAgain
  split
  · rename_i y1 y2 y3; extract_lets +onlyGivenNames x4; clear_value x4; refine ev_ite ?_ ?_
    · refine ev_step ?_ (State.startMedia_ev _ _ _ _) rfl; exact ev_refl
    · refine ev_step ?_ (State.completeLine_ev _ _) rfl; refine ev_step ?_ (State.dropRead_ev _ _ _) rfl
      exact ev_refl
  · rename_i y5 y6; extract_lets +onlyGivenNames x7
    have h7 : State.evolves a0 x7 [.regs, .pmc, .evt, .host, .fch, .map, .wp, .rd, .cry, .epo, .ntn, .warp, .flt, .out] := by
      subst x7; refine ev_step ?_ (State.wantMap_ev _ _) rfl; refine ev_step ?_ (State.updRead_ev _ _ _ _) rfl
      exact ev_refl
    clear_value x7; refine ev_ite ?_ ?_
    · refine ev_step ?_ (State.resolveFill_ev _ _) rfl; assumption
    · assumption

theorem State.toRecon_ev (a0 : State) (a1 : Rd) :
    State.evolves a0 (State.toRecon a0 a1) [.regs, .pmc, .evt, .host, .rd, .warp] := by
  unfold State.toRecon; refine ev_step ?_ (State.issueRecon_ev _ _ _ _) rfl
  refine ev_step ?_ (State.updRead_ev _ _ _ _) rfl; exact ev_refl

theorem State.mismatch_ev (a0 : State) (a1 : Rd) :
    State.evolves a0 (State.mismatch a0 a1) [.regs, .pmc, .evt, .host, .fch, .map, .wp, .rd, .cry, .epo, .ntn, .warp, .flt, .out] := by
  unfold State.mismatch; extract_lets +onlyGivenNames x1
  have h1 : State.evolves a0 x1 [.regs, .pmc, .evt, .host, .fch, .map, .wp, .rd, .cry, .epo, .ntn, .warp, .flt, .out] := by
    subst x1; refine ev_step ?_ (State.bump_ev _ _ _) rfl; exact ev_refl
  clear_value x1; refine ev_ite ?_ ?_
  · refine ev_step ?_ (State.lookAgain_ev _ _) rfl; assumption
  · split
    · rename_i y2 y3 y4; refine ev_step ?_ (State.toRecon_ev _ _) rfl; assumption
    · rename_i y5 y6; extract_lets +onlyGivenNames x7
      have h7 : State.evolves a0 x7 [.regs, .pmc, .evt, .host, .fch, .map, .wp, .rd, .cry, .epo, .ntn, .warp, .flt, .out] := by
        subst x7; refine ev_step ?_ (State.raiseN_ev _ _ _ _) rfl; assumption
      clear_value x7; extract_lets +onlyGivenNames x8
      have h8 : State.evolves a0 x8 [.regs, .pmc, .evt, .host, .fch, .map, .wp, .rd, .cry, .epo, .ntn, .warp, .flt, .out] := by
        subst x8; refine ev_step ?_ (State.queueTest_ev _ _ _ _) rfl; refine ev_step ?_ (State.reportLine_ev _ _) rfl
        assumption
      clear_value x8; refine ev_step ?_ (State.fillPoison_ev _ _ _) rfl
      refine ev_step ?_ (State.dropRead_ev _ _ _) rfl; assumption

theorem State.decodedRead_ev (a0 : State) (a1 : Rd) (a2 : Code) :
    State.evolves a0 (State.decodedRead a0 a1 a2) [.regs, .pmc, .evt, .host, .fch, .map, .wp, .rd, .cry, .epo, .ntn, .warp, .upk, .flt, .out, .freeCtr] := by
  unfold State.decodedRead; extract_lets +onlyGivenNames x1
  have h1 : State.evP a0 x1 [.regs, .pmc, .evt, .host, .fch, .map, .wp, .rd, .cry, .epo, .ntn, .warp, .upk, .flt, .out, .freeCtr] := by
    subst x1; refine evP_step ?_ (State.draw_ev _) rfl; exact ev_refl
  clear_value x1; extract_lets +onlyGivenNames x2
  have h2 : State.evolves a0 x2 [.regs, .pmc, .evt, .host, .fch, .map, .wp, .rd, .cry, .epo, .ntn, .warp, .upk, .flt, .out, .freeCtr] := by
    subst x2; refine ev_ite ?_ ?_
    · refine ev_step ?_ (State.driftEvent_ev _ _ _) rfl; exact ev_fst1 (by assumption)
    · exact ev_refl
  clear_value x2; refine ev_ite ?_ ?_
  · refine ev_step ?_ (State.mismatch_ev _ _) rfl; assumption
  · refine ev_step ?_ (State.updRead_ev _ _ _ _) rfl; assumption

theorem State.mergeFill_ev (a0 : State) (a1 : Nat) (a2 : Quad Sector) (a3 : BitVec 4) :
    State.evolves a0 (State.mergeFill a0 a1 a2 a3) [.regs, .pmc, .evt, .host, .wp, .cry, .epo, .ntn, .warp] := by
  unfold State.mergeFill; refine ev_foldl ?_ ?_
  · refine ev_step ?_ (State.updStaged_ev _ _ _) rfl; exact ev_refl
  · intro x1 x2 x3; refine ev_step ?_ (State.settleGroup_ev _ _) rfl; assumption

theorem State.driftReread_ev (a0 : State) (a1 : Rd) :
    State.evolves a0 (State.driftReread a0 a1) [.regs, .pmc, .evt, .host, .rd, .warp] := by
  unfold State.driftReread; extract_lets +onlyGivenNames x1; clear_value x1; extract_lets +onlyGivenNames x2
  have h2 : State.evolves a0 x2 [.regs, .pmc, .evt, .host, .rd, .warp] := by
    subst x2; refine ev_step ?_ (State.count_ev _ _ _ _) rfl; refine ev_step ?_ (State.count_ev _ _ _ _) rfl
    refine ev_step ?_ (State.updRead_ev _ _ _ _) rfl; exact ev_refl
  clear_value x2; refine ev_step ?_ (State.pushRd_ev _ _ _) rfl; assumption

theorem execPoisonTimer_ev (a0 : Nat) (a1 : State) :
    State.evX a1 (execPoisonTimer a0 a1) [.regs, .pmc, .evt, .host, .fch, .wp, .rd, .flt, .out] := by
  unfold execPoisonTimer; refine evX_done ?_; refine ev_when ?_ rfl ?_
  · exact ev_refl
  · intro x1 x2
    split
    · rename_i y3 y4; assumption
    · rename_i y5 y6 y7; extract_lets +onlyGivenNames x8
      have h8 : State.evolves a1 x8 [.regs, .pmc, .evt, .host, .fch, .wp, .rd, .flt, .out] := by
        subst x8; refine ev_step ?_ (State.updRead_ev _ _ _ _) rfl; assumption
      clear_value x8
      split
      · rename_i y9 y10; assumption
      · rename_i y11 y12 y13; extract_lets +onlyGivenNames x14
        have h14 : State.evolves a1 x14 [.regs, .pmc, .evt, .host, .fch, .wp, .rd, .flt, .out] := by
          subst x14; refine ev_step ?_ (State.updMshr_ev _ _ _) rfl; assumption
        clear_value x14; extract_lets +onlyGivenNames x15
        have h15 : State.evolves a1 x15 [.regs, .pmc, .evt, .host, .fch, .wp, .rd, .flt, .out] := by
          subst x15
          split
          · rename_i y16 y17 y18; refine ev_step ?_ (State.gme_ev _ _ _ _ _ _ _) rfl; assumption
          · rename_i y19 y20; assumption
        clear_value x15; refine ev_step ?_ (State.poisonAll_ev _ _) rfl; assumption

theorem State.readLost_ev (a0 : State) (a1 : Rd) :
    State.evolves a0 (State.readLost a0 a1) [.regs, .pmc, .evt, .host, .rd, .warp, .flt] := by
  unfold State.readLost; refine ev_ite ?_ ?_
  · refine ev_step ?_ (State.driftReread_ev _ _) rfl; exact ev_refl
  · refine ev_step ?_ (State.toRecon_ev _ _) rfl; refine ev_step ?_ (State.reportLine_ev _ _) rfl; exact ev_refl

theorem State.upFcrc_ev (a0 : State) (a1 : Nat) (a2 : Option Nat) :
    State.evolves a0 (State.upFcrc a0 a1 a2) [.regs, .pmc, .evt, .host, .rd, .warp, .link, .flt] := by
  unfold State.upFcrc; extract_lets +onlyGivenNames x1
  have h1 : State.evolves a0 x1 [.regs, .pmc, .evt, .host, .rd, .warp, .link, .flt] := by
    subst x1; refine ev_step ?_ (State.linkFailure_ev _ _ _) rfl; exact ev_refl
  clear_value x1
  split
  · rename_i y2 y3
    split
    · rename_i y4 y5 y6; refine ev_step ?_ (State.readLost_ev _ _) rfl; assumption
    · rename_i y7 y8; assumption
  · rename_i y9; assumption

theorem State.decodeFailed_ev (a0 : State) (a1 : Rd) :
    State.evolves a0 (State.decodeFailed a0 a1) [.regs, .pmc, .evt, .host, .rd, .warp, .flt] := by
  unfold State.decodeFailed; refine ev_ite ?_ ?_
  · refine ev_step ?_ (State.driftReread_ev _ _) rfl; refine ev_step ?_ (State.updRead_ev _ _ _ _) rfl
    refine ev_step ?_ (State.count_ev _ _ _ _) rfl; exact ev_refl
  · refine ev_step ?_ (State.toRecon_ev _ _) rfl; refine ev_step ?_ (State.reportLine_ev _ _) rfl; exact ev_refl

theorem State.upkeepFail_ev (a0 : State) (a1 : Nat) (a2 : Nat) :
    State.evolves a0 (State.upkeepFail a0 a1 a2) [.regs, .pmc, .evt, .host, .rd, .warp, .flt] := by
  unfold State.upkeepFail; extract_lets +onlyGivenNames x1; clear_value x1
  extract_lets +onlyGivenNames x2; clear_value x2; refine ev_ite ?_ ?_
  · extract_lets +onlyGivenNames x3; clear_value x3; extract_lets +onlyGivenNames x4; clear_value x4
    refine ev_ite ?_ ?_
    · exact ev_refl
    · extract_lets +onlyGivenNames x5; clear_value x5; extract_lets +onlyGivenNames x6; clear_value x6
      refine ev_step ?_ (State.decodeFailed_ev _ _) rfl; refine ev_step ?_ (State.setReads_ev _ _) rfl; exact ev_refl
  · exact ev_refl

theorem State.mediaErr_ev (a0 : State) (a1 : Nat) (a2 : Nat) :
    State.evolves a0 (State.mediaErr a0 a1 a2) [.regs, .pmc, .evt, .host, .rd, .warp, .flt] := by
  unfold State.mediaErr
  split
  · rename_i y1 y2; exact ev_refl
  · rename_i y3 y4 y5; extract_lets +onlyGivenNames x6
    have h6 : State.evolves a0 x6 [.regs, .pmc, .evt, .host, .rd, .warp, .flt] := by
      subst x6; refine ev_step ?_ (State.raiseN_ev _ _ _ _) rfl; exact ev_refl
    clear_value x6; refine ev_step ?_ (State.readLost_ev _ _) rfl; refine ev_step ?_ (State.report_ev _ _ _ _) rfl
    assumption

theorem State.lineFrame_ev (a0 : State) (a1 : Nat) (a2 : Nat) (a3 : Nat) (a4 : Option Code) :
    State.evolves a0 (State.lineFrame a0 a1 a2 a3 a4) [.regs, .pmc, .evt, .host, .fch, .map, .wp, .rd, .cry, .epo, .ntn, .warp, .upk, .flt, .out, .freeCtr] := by
  unfold State.lineFrame
  split
  · rename_i y1 y2
    split
    · rename_i y3 y4; exact ev_refl
    · rename_i y5; refine ev_step ?_ (State.upkeepFail_ev _ _ _) rfl; exact ev_refl
  · rename_i y6 y7 y8; refine ev_ite ?_ ?_
    · refine ev_step ?_ (State.mediaErr_ev _ _ _) rfl; exact ev_refl
    · extract_lets +onlyGivenNames x9
      have h9 : State.evolves a0 x9 [.regs, .pmc, .evt, .host, .fch, .map, .wp, .rd, .cry, .epo, .ntn, .warp, .upk, .flt, .out, .freeCtr] := by
        subst x9; refine ev_step ?_ (State.count_ev _ _ _ _) rfl; exact ev_refl
      clear_value x9; extract_lets +onlyGivenNames x10; clear_value x10; extract_lets +onlyGivenNames x11
      have h11 : State.evolves a0 x11 [.regs, .pmc, .evt, .host, .fch, .map, .wp, .rd, .cry, .epo, .ntn, .warp, .upk, .flt, .out, .freeCtr] := by
        subst x11; refine ev_ite ?_ ?_
        · refine ev_step ?_ (State.injFire_ev _) rfl; assumption
        · assumption
      clear_value x11
      split
      · rename_i y12 y13; refine ev_ite ?_ ?_
        · refine ev_step ?_ (State.decodeFailed_ev _ _) rfl; assumption
        · refine ev_step ?_ (State.decodedRead_ev _ _ _) rfl; assumption
      · rename_i y14; refine ev_step ?_ (State.decodeFailed_ev _ _) rfl; assumption

theorem State.selvageFailed_ev (a0 : State) (a1 : Nat) (a2 : Nat) :
    State.evolves a0 (State.selvageFailed a0 a1 a2) [.regs, .pmc, .evt, .host, .map, .flt] := by
  unfold State.selvageFailed; extract_lets +onlyGivenNames x1; clear_value x1
  extract_lets +onlyGivenNames x2; clear_value x2; extract_lets +onlyGivenNames x3; clear_value x3
  extract_lets +onlyGivenNames x4; clear_value x4; extract_lets +onlyGivenNames x5
  have h5 : State.evolves a0 x5 [.regs, .pmc, .evt, .host, .map, .flt] := by
    subst x5; refine ev_step ?_ (State.addBucket_ev _ _ _ _) rfl; exact ev_refl
  clear_value x5; extract_lets +onlyGivenNames x6
  have h6 : State.evolves a0 x6 [.regs, .pmc, .evt, .host, .map, .flt] := by
    subst x6; refine ev_step ?_ (State.raiseN_ev _ _ _ _) rfl; refine ev_step ?_ (State.regionWrite_ev _ _ _) rfl
    assumption
  clear_value x6; refine ev_ite ?_ ?_
  · refine ev_step ?_ (State.report_ev _ _ _ _) rfl; assumption
  · assumption

theorem State.rinseSelvage_ev (a0 : State) (a1 : Nat) (a2 : Nat) (a3 : Nat) (a4 : Bool) :
    State.evolves a0 (State.rinseSelvage a0 a1 a2 a3 a4) [.upk] := by
  unfold State.rinseSelvage; extract_lets +onlyGivenNames x1; clear_value x1
  extract_lets +onlyGivenNames x2; clear_value x2; refine ev_ite ?_ ?_
  · refine ev_step ?_ (State.setTriple_ev _ _ _) rfl; exact ev_refl
  · refine ev_ite ?_ ?_
    · refine ev_step ?_ (State.setTriple_ev _ _ _) rfl; exact ev_refl
    · exact ev_refl

theorem State.rinseRead_ev (a0 : State) (a1 : Nat) (a2 : Nat) (a3 : Nat) (a4 : Nat) (a5 : Bool) :
    State.evolves a0 (State.rinseRead a0 a1 a2 a3 a4 a5) [.regs, .pmc, .evt, .host, .upk] := by
  unfold State.rinseRead; refine ev_ite ?_ ?_
  · exact ev_refl
  · refine ev_ite ?_ ?_
    · refine ev_step ?_ (State.rinseSelvage_ev _ _ _ _ _) rfl; refine ev_step ?_ (State.count_ev _ _ _ _) rfl
      exact ev_refl
    · extract_lets +onlyGivenNames x1
      have h1 : State.evolves a0 x1 [.regs, .pmc, .evt, .host, .upk] := by
        subst x1; refine ev_step ?_ (State.count_ev _ _ _ _) rfl; exact ev_refl
      clear_value x1; extract_lets +onlyGivenNames x2; clear_value x2; refine ev_ite ?_ ?_
      · assumption
      · refine ev_ite ?_ ?_
        · refine ev_step ?_ (State.setBolt_ev _ _ _ _) rfl; assumption
        · refine ev_ite ?_ ?_
          · refine ev_step ?_ (State.setBolt_ev _ _ _ _) rfl; assumption
          · assumption

theorem State.placeCopy_ev (a0 : State) (a1 : Nat) (a2 : CopyWhy) (a3 : Nat) (a4 : Code) (a5 : BitVec 64) :
    State.evO a0 (State.placeCopy a0 a1 a2 a3 a4 a5) [.regs, .pmc, .evt, .host, .map, .wp, .warp, .upk, .out] := by
  unfold State.placeCopy; refine evO_step ?_ (State.place_ev _ _ _ _) rfl; exact ev_refl

theorem State.sweepPast_ev (a0 : State) (a1 : Nat) (a2 : Nat) :
    State.evolves a0 (State.sweepPast a0 a1 a2) [.cry] := by
  unfold State.sweepPast; refine ev_step ?_ (State.setDom_ev _ _ _) rfl; exact ev_refl

theorem State.sweepCopy_ev (a0 : State) (a1 : Nat) (a2 : Nat) (a3 : Nat) (a4 : Code) (a5 : Quad Sector) :
    State.evolves a0 (State.sweepCopy a0 a1 a2 a3 a4 a5) [.regs, .pmc, .evt, .host, .map, .wp, .cry, .epo, .ntn, .warp, .upk, .out] := by
  unfold State.sweepCopy
  split
  · rename_i y1 y2 y3; refine ev_step ?_ (ev_fst (State.drawSeq_ev _ _ _) y3) rfl; exact ev_refl
  · rename_i y4 y5 y6 y7; extract_lets +onlyGivenNames x8; clear_value x8
    split
    · rename_i y9 y10; refine ev_step ?_ (ev_fst (State.drawSeq_ev _ _ _) y7) rfl; exact ev_refl
    · rename_i y11 y12 y13; extract_lets +onlyGivenNames x14; clear_value x14
      extract_lets +onlyGivenNames x15; clear_value x15; extract_lets +onlyGivenNames x16; clear_value x16
      split
      · rename_i y17 y18 y19; refine ev_step ?_ (State.sweepPast_ev _ _ _) rfl
        refine ev_step ?_ (State.count_ev _ _ _ _) rfl
        refine ev_step ?_ (ev_optS (State.placeCopy_ev _ _ _ _ _ _) y19) rfl
        refine ev_step ?_ (ev_fst (State.drawSeq_ev _ _ _) y7) rfl; exact ev_refl
      · rename_i y20 y21; refine ev_step ?_ (ev_fst (State.drawSeq_ev _ _ _) y7) rfl; exact ev_refl

theorem State.sweepRead_ev (a0 : State) (a1 : Nat) (a2 : Nat) (a3 : Nat) (a4 : Code) :
    State.evolves a0 (State.sweepRead a0 a1 a2 a3 a4) [.regs, .pmc, .evt, .host, .map, .wp, .rd, .cry, .epo, .ntn, .warp, .upk, .out] := by
  unfold State.sweepRead; refine ev_ite ?_ ?_
  · exact ev_refl
  · refine ev_ite ?_ ?_
    · refine ev_step ?_ (State.sweepPast_ev _ _ _) rfl; exact ev_refl
    · refine ev_ite ?_ ?_
      · refine ev_step ?_ (State.wantTag_ev _ _) rfl; exact ev_refl
      · split
        · rename_i y1 y2 y3; refine ev_ite ?_ ?_
          · refine ev_step ?_ (State.sweepCopy_ev _ _ _ _ _ _) rfl; exact ev_refl
          · extract_lets +onlyGivenNames x4; clear_value x4; extract_lets +onlyGivenNames x5; clear_value x5
            refine ev_step ?_ (State.toRecon_ev _ _) rfl; refine ev_step ?_ (State.setReads_ev _ _) rfl; exact ev_refl
        · rename_i y6 y7; exact ev_refl

theorem State.copyRead_ev (a0 : State) (a1 : Nat) (a2 : Nat) (a3 : Code) :
    State.evolves a0 (State.copyRead a0 a1 a2 a3) [.regs, .pmc, .evt, .host, .map, .wp, .rd, .cry, .epo, .ntn, .warp, .upk, .out] := by
  unfold State.copyRead; extract_lets +onlyGivenNames x1; clear_value x1
  extract_lets +onlyGivenNames x2; clear_value x2
  split
  · rename_i y3 y4 y5; refine ev_ite ?_ ?_
    · split
      · rename_i y6 y7 y8; refine ev_step ?_ (State.count_ev _ _ _ _) rfl
        refine ev_step ?_ (ev_optS (State.placeCopy_ev _ _ _ _ _ _) y8) rfl; exact ev_refl
      · rename_i y9 y10; exact ev_refl
    · exact ev_refl
  · rename_i y11 y12
    split
    · rename_i y13 y14 y15; refine ev_step ?_ (State.sweepRead_ev _ _ _ _ _) rfl; exact ev_refl
    · rename_i y16 y17; exact ev_refl

theorem State.takeOp_ev (a0 : State) (a1 : Nat) (a2 : DnOp → Bool) :
    State.evOP a0 (State.takeOp a0 a1 a2) [.warp] := by
  unfold State.takeOp; extract_lets +onlyGivenNames x1; clear_value x1
  split
  · rename_i y2 y3 y4; refine evOP_some ?_; refine evP_mk ?_; refine ev_step ?_ (State.setWarp1_ev _ _ _) rfl
    exact ev_refl
  · rename_i y5 y6; exact evOP_none

theorem State.programDone_ev (a0 : State) (a1 : Nat) (a2 : Nat) (a3 : Nat) (a4 : Nat) (a5 : Nat) (a6 : DnOp) (a7 : Bool) :
    State.evolves a0 (State.programDone a0 a1 a2 a3 a4 a5 a6 a7) [.regs, .pmc, .evt, .host, .fch, .map, .wp, .rd, .ntn, .warp, .link, .upk, .flt, .out] := by
  unfold State.programDone; extract_lets +onlyGivenNames x1; clear_value x1
  split
  · rename_i y2 y3; exact ev_refl
  · rename_i y4 y5 y6; refine ev_ite ?_ ?_
    · refine ev_step ?_ (State.sealStripe_ev _ _ _ _) rfl; refine ev_step ?_ (State.count_ev _ _ _ _) rfl
      refine ev_step ?_ (State.updStripe_ev _ _ _ _ _) rfl; exact ev_refl
    · extract_lets +onlyGivenNames x7
      have h7 : State.evolves a0 x7 [.regs, .pmc, .evt, .host, .fch, .map, .wp, .rd, .ntn, .warp, .link, .upk, .flt, .out] := by
        subst x7; refine ev_step ?_ (State.raiseN_ev _ _ _ _) rfl; exact ev_refl
      clear_value x7; extract_lets +onlyGivenNames x8; clear_value x8; refine ev_ite ?_ ?_
      · refine ev_step ?_ (State.pushDn_ev _ _ _) rfl; refine ev_step ?_ (State.updStripe_ev _ _ _ _ _) rfl
        assumption
      · refine ev_step ?_ (State.programError_ev _ _ _) rfl; refine ev_step ?_ (State.closeStripe_ev _ _ _) rfl
        assumption

theorem State.complProgram_ev (a0 : State) (a1 : Nat) (a2 : Nat) (a3 : Nat) (a4 : Nat) (a5 : Nat) (a6 : Bool) :
    State.evolves a0 (State.complProgram a0 a1 a2 a3 a4 a5 a6) [.regs, .pmc, .evt, .host, .fch, .map, .wp, .rd, .ntn, .warp, .link, .upk, .flt, .out] := by
  unfold State.complProgram; refine ev_ite ?_ ?_
  · exact ev_refl
  · split
    · rename_i y1 y2; exact ev_refl
    · rename_i y3 y4 y5 y6 y7; extract_lets +onlyGivenNames x8; clear_value x8; extract_lets +onlyGivenNames x9
      have h9 : State.evolves a0 x9 [.regs, .pmc, .evt, .host, .fch, .map, .wp, .rd, .ntn, .warp, .link, .upk, .flt, .out] := by
        subst x9; refine ev_ite ?_ ?_
        · refine ev_step ?_ (State.injFire_ev _) rfl; refine ev_step ?_ (ev_opt (State.takeOp_ev _ _ _) y7) rfl
          exact ev_refl
        · refine ev_step ?_ (ev_opt (State.takeOp_ev _ _ _) y7) rfl; exact ev_refl
      clear_value x9; refine ev_step ?_ (State.programDone_ev _ _ _ _ _ _ _ _) rfl; assumption

theorem State.blockReset_ev (a0 : State) (a1 : Nat) (a2 : Nat) (a3 : Nat) (a4 : Nat) (a5 : Bool) :
    State.evolves a0 (State.blockReset a0 a1 a2 a3 a4 a5) [.regs, .pmc, .evt, .host, .map, .wp, .ntn, .upk, .flt, .out] := by
  unfold State.blockReset; extract_lets +onlyGivenNames x1; clear_value x1
  extract_lets +onlyGivenNames x2; clear_value x2; refine ev_ite ?_ ?_
  · exact ev_refl
  · refine ev_ite ?_ ?_
    · refine ev_step ?_ (State.resetDone_ev _ _ _) rfl; refine ev_step ?_ (State.count_ev _ _ _ _) rfl
      refine ev_step ?_ (State.setBolt_ev _ _ _ _) rfl; exact ev_refl
    · extract_lets +onlyGivenNames x3
      have h3 : State.evolves a0 x3 [.regs, .pmc, .evt, .host, .map, .wp, .ntn, .upk, .flt, .out] := by
        subst x3; refine ev_step ?_ (State.raiseN_ev _ _ _ _) rfl; exact ev_refl
      clear_value x3; refine ev_step ?_ (State.queueTest_ev _ _ _ _) rfl
      refine ev_step ?_ (State.countErr_ev _ _) rfl; assumption

theorem State.complReset_ev (a0 : State) (a1 : Nat) (a2 : Nat) (a3 : Nat) (a4 : Nat) (a5 : Bool) :
    State.evolves a0 (State.complReset a0 a1 a2 a3 a4 a5) [.regs, .pmc, .evt, .host, .map, .wp, .ntn, .warp, .upk, .flt, .out] := by
  unfold State.complReset; refine ev_ite ?_ ?_
  · exact ev_refl
  · split
    · rename_i y1 y2; exact ev_refl
    · rename_i y3 y4 y5 y6 y7; extract_lets +onlyGivenNames x8; clear_value x8; extract_lets +onlyGivenNames x9
      have h9 : State.evolves a0 x9 [.regs, .pmc, .evt, .host, .map, .wp, .ntn, .warp, .upk, .flt, .out] := by
        subst x9; refine ev_ite ?_ ?_
        · refine ev_step ?_ (State.injFire_ev _) rfl; refine ev_step ?_ (ev_opt (State.takeOp_ev _ _ _) y7) rfl
          exact ev_refl
        · refine ev_step ?_ (ev_opt (State.takeOp_ev _ _ _) y7) rfl; exact ev_refl
      clear_value x9; refine ev_step ?_ (State.blockReset_ev _ _ _ _ _ _) rfl; assumption

theorem State.upFrame_ev (a0 : State) (a1 : Nat) (a2 : UpFrame) :
    State.evolves a0 (State.upFrame a0 a1 a2) [.regs, .pmc, .evt, .host, .fch, .map, .wp, .rd, .cry, .epo, .ntn, .warp, .link, .upk, .flt, .out, .freeCtr] := by
  unfold State.upFrame
  split
  · rename_i y1 y2 y3 y4 y5 y6 y7 y8 y9; refine ev_step ?_ (State.lineFrame_ev _ _ _ _ _) rfl
    refine ev_step ?_ (State.goodFrame_ev _ _) rfl; exact ev_refl
  · rename_i y10 y11; refine ev_step ?_ (State.lineFrame_ev _ _ _ _ _) rfl
    refine ev_step ?_ (State.goodFrame_ev _ _) rfl; exact ev_refl
  · rename_i y12 y13; refine ev_step ?_ (State.selvageFailed_ev _ _ _) rfl
    refine ev_step ?_ (State.goodFrame_ev _ _) rfl; exact ev_refl
  · rename_i y14 y15 y16 y17 y18; refine ev_step ?_ (State.rinseRead_ev _ _ _ _ _ _) rfl
    refine ev_step ?_ (State.count_ev _ _ _ _) rfl; refine ev_step ?_ (State.goodFrame_ev _ _) rfl; exact ev_refl
  · rename_i y19 y20 y21 y22 y23 y24 y25 y26 y27; refine ev_ite ?_ ?_
    · refine ev_step ?_ (State.copyRead_ev _ _ _ _) rfl; refine ev_step ?_ (State.goodFrame_ev _ _) rfl; exact ev_refl
    · exact ev_refl
  · rename_i y28 y29 y30 y31 y32 y33; refine ev_step ?_ (State.complProgram_ev _ _ _ _ _ _ _) rfl
    refine ev_step ?_ (State.goodFrame_ev _ _) rfl; exact ev_refl
  · rename_i y34 y35 y36 y37 y38; refine ev_step ?_ (State.complReset_ev _ _ _ _ _ _) rfl
    refine ev_step ?_ (State.goodFrame_ev _ _) rfl; exact ev_refl
  · rename_i y39 y40; refine ev_step ?_ (State.mediaErr_ev _ _ _) rfl; refine ev_step ?_ (State.goodFrame_ev _ _) rfl
    exact ev_refl
  · rename_i y41 y42
    split
    · rename_i y43 y44 y45; refine ev_step ?_ (State.readLost_ev _ _) rfl; exact ev_refl
    · rename_i y46 y47; exact ev_refl
  · rename_i y48; refine ev_step ?_ (State.goodFrame_ev _ _) rfl; exact ev_refl
  · rename_i y49 y50
    split
    · rename_i y51 y52 y53; refine ev_step ?_ (State.nakFrame_ev _ _ _) rfl; exact ev_refl
    · rename_i y54 y55; refine ev_step ?_ (State.linkFailure_ev _ _ _) rfl; exact ev_refl
  · rename_i y56 y57; refine ev_step ?_ (State.upFcrc_ev _ _ _) rfl; exact ev_refl
  · rename_i y58; refine ev_step ?_ (State.linkFailure_ev _ _ _) rfl; exact ev_refl
  · rename_i y59 y60; refine ev_step ?_ (State.goodFrame_ev _ _) rfl; exact ev_refl
  · rename_i y61; refine ev_step ?_ (State.goodFrame_ev _ _) rfl; exact ev_refl

theorem execUpstreamFrame_ev (a0 : Nat) (a1 : UpFrame) (a2 : State) :
    State.evX a2 (execUpstreamFrame a0 a1 a2) [.regs, .pmc, .evt, .host, .fch, .map, .wp, .rd, .cry, .epo, .ntn, .warp, .link, .upk, .flt, .out, .freeCtr] := by
  unfold execUpstreamFrame; refine evX_done ?_; refine ev_when ?_ rfl ?_
  · exact ev_refl
  · intro x1 x2; refine ev_ite ?_ ?_
    · refine ev_step ?_ (State.upFcrc_ev _ _ _) rfl; refine ev_step ?_ (State.injFire_ev _) rfl; assumption
    · refine ev_step ?_ (State.upFrame_ev _ _ _) rfl; assumption

theorem State.tagRecovered_ev (a0 : State) (a1 : Rd) :
    State.evolves a0 (State.tagRecovered a0 a1) [.regs, .pmc, .evt, .host] := by
  unfold State.tagRecovered; extract_lets +onlyGivenNames x1
  have h1 : State.evolves a0 x1 [.regs, .pmc, .evt, .host] := by
    subst x1; refine ev_step ?_ (State.count_ev _ _ _ _) rfl; refine ev_step ?_ (State.bump_ev _ _ _) rfl
    exact ev_refl
  clear_value x1; refine ev_step ?_ (State.raiseN_ev _ _ _ _) rfl; assumption

theorem execCompletionTimeout_ev (a0 : Nat) (a1 : Nat) (a2 : Bool) (a3 : State) :
    State.evX a3 (execCompletionTimeout a0 a1 a2 a3) [.regs, .pmc, .evt, .host, .fch, .map, .wp, .rd, .ntn, .warp, .link, .upk, .flt, .out] := by
  unfold execCompletionTimeout; refine evX_done ?_; refine ev_when ?_ rfl ?_
  · exact ev_refl
  · intro x1 x2
    split
    · rename_i y3 y4; assumption
    · rename_i y5 y6 y7
      split
      · rename_i y8 y9; refine ev_step ?_ (State.complReset_ev _ _ _ _ _ _) rfl; assumption
      · rename_i y10 y11; assumption
      · rename_i y12 y13 y14; refine ev_step ?_ (State.complProgram_ev _ _ _ _ _ _ _) rfl; assumption

theorem State.finishRead_ev (a0 : State) (a1 : Rd) (a2 : Quad Sector) :
    State.evolves a0 (State.finishRead a0 a1 a2) [.regs, .pmc, .evt, .host, .fch, .map, .wp, .rd, .cry, .epo, .ntn, .warp, .upk, .flt, .out, .freeCtr] := by
  unfold State.finishRead; extract_lets +onlyGivenNames x1; clear_value x1; extract_lets +onlyGivenNames x2
  have h2 : State.evolves a0 x2 [.regs, .pmc, .evt, .host, .fch, .map, .wp, .rd, .cry, .epo, .ntn, .warp, .upk, .flt, .out, .freeCtr] := by
    subst x2; refine ev_step ?_ (State.count_ev _ _ _ _) rfl; refine ev_step ?_ (State.dropRead_ev _ _ _) rfl
    exact ev_refl
  clear_value x2
  split
  · rename_i y3 y4 y5; refine ev_step ?_ (State.mergeFill_ev _ _ _ _) rfl; assumption
  · rename_i y6 y7; refine ev_step ?_ (State.fillDone_ev _ _ _ _) rfl; assumption
  · rename_i y8 y9; refine ev_step ?_ (State.fillDone_ev _ _ _ _) rfl; assumption
  · rename_i y10 y11; refine ev_ite ?_ ?_
    · extract_lets +onlyGivenNames x12
      have h12 : State.evP a0 x12 [.regs, .pmc, .evt, .host, .fch, .map, .wp, .rd, .cry, .epo, .ntn, .warp, .upk, .flt, .out, .freeCtr] := by
        subst x12; refine evP_step ?_ (State.recoveredCode_ev _ _ _) rfl; assumption
      clear_value x12; refine ev_ite ?_ ?_
      · refine ev_step ?_ (State.sweepPast_ev _ _ _) rfl; assumption
      · refine ev_step ?_ (State.sweepCopy_ev _ _ _ _ _ _) rfl; exact ev_fst1 (by assumption)
    · assumption
  · rename_i y13 y14 y15 y16 y17; assumption

theorem State.integrityHalt_ev (a0 : State) (a1 : Rd) :
    State.evolves a0 (State.integrityHalt a0 a1) [.regs, .pmc, .evt, .host, .fch, .swt, .wp, .cry, .epo, .warp, .upk, .pwr, .out] := by
  unfold State.integrityHalt; refine ev_step ?_ (State.startHalt_ev _ _ _ _ _ _) rfl; exact ev_refl

theorem State.unrecoverable_ev (a0 : State) (a1 : Rd) :
    State.evolves a0 (State.unrecoverable a0 a1) [.regs, .pmc, .evt, .host, .fch, .map, .wp, .rd, .upk, .flt, .out] := by
  unfold State.unrecoverable; extract_lets +onlyGivenNames x1
  have h1 : State.evolves a0 x1 [.regs, .pmc, .evt, .host, .fch, .map, .wp, .rd, .upk, .flt, .out] := by
    subst x1; refine ev_step ?_ (State.makeLost_ev _ _ _ _) rfl; refine ev_step ?_ (State.dropRead_ev _ _ _) rfl
    exact ev_refl
  clear_value x1; extract_lets +onlyGivenNames x2
  have h2 : State.evolves a0 x2 [.regs, .pmc, .evt, .host, .fch, .map, .wp, .rd, .upk, .flt, .out] := by
    subst x2; refine ev_step ?_ (State.reportLine_ev _ _) rfl; assumption
  clear_value x2
  split
  · rename_i y3 y4; extract_lets +onlyGivenNames x5
    have h5 : State.evolves a0 x5 [.regs, .pmc, .evt, .host, .fch, .map, .wp, .rd, .upk, .flt, .out] := by
      subst x5; refine ev_ite ?_ ?_
      · refine ev_step ?_ (State.gme_ev _ _ _ _ _ _ _) rfl; assumption
      · assumption
    clear_value x5; refine ev_step ?_ (State.fillPoison_ev _ _ _) rfl; assumption
  · rename_i y6 y7; extract_lets +onlyGivenNames x8
    have h8 : State.evolves a0 x8 [.regs, .pmc, .evt, .host, .fch, .map, .wp, .rd, .upk, .flt, .out] := by
      subst x8; refine ev_ite ?_ ?_
      · refine ev_step ?_ (State.gme_ev _ _ _ _ _ _ _) rfl; assumption
      · assumption
    clear_value x8; refine ev_step ?_ (State.fillPoison_ev _ _ _) rfl; assumption
  · rename_i y9 y10; refine ev_step ?_ (State.gme_ev _ _ _ _ _ _ _) rfl; assumption
  · rename_i y11 y12 y13 y14; assumption

theorem State.mergeDone_ev (a0 : State) (a1 : Rd) (a2 : Nat) (a3 : MergeResult) :
    State.evolves a0 (State.mergeDone a0 a1 a2 a3) [.regs, .pmc, .evt, .host, .fch, .swt, .map, .wp, .rd, .cry, .epo, .ntn, .warp, .upk, .flt, .pwr, .out, .freeCtr] := by
  unfold State.mergeDone; extract_lets +onlyGivenNames x1; subst x1
  split
  · rename_i y2 y3; refine ev_step ?_ (State.finishRead_ev _ _ _) rfl; exact ev_refl
  · rename_i y4 y5; extract_lets +onlyGivenNames x6
    have h6 : State.evolves a0 x6 [.regs, .pmc, .evt, .host, .fch, .swt, .map, .wp, .rd, .cry, .epo, .ntn, .warp, .upk, .flt, .pwr, .out, .freeCtr] := by
      subst x6; refine ev_step ?_ (State.raiseN_ev _ _ _ _) rfl; refine ev_step ?_ (State.bump_ev _ _ _) rfl
      exact ev_refl
    clear_value x6; refine ev_step ?_ (State.finishRead_ev _ _ _) rfl; refine ev_step ?_ (State.reportLine_ev _ _) rfl
    assumption
  · rename_i y7; extract_lets +onlyGivenNames x8; clear_value x8; extract_lets +onlyGivenNames x9
    have h9 : State.evolves a0 x9 [.regs, .pmc, .evt, .host, .fch, .swt, .map, .wp, .rd, .cry, .epo, .ntn, .warp, .upk, .flt, .pwr, .out, .freeCtr] := by
      subst x9; refine ev_step ?_ (State.unrecoverable_ev _ _) rfl; exact ev_refl
    clear_value x9; extract_lets +onlyGivenNames x10
    have h10 : State.evolves a0 x10 [.regs, .pmc, .evt, .host, .fch, .swt, .map, .wp, .rd, .cry, .epo, .ntn, .warp, .upk, .flt, .pwr, .out, .freeCtr] := by
      subst x10; refine ev_foldl ?_ ?_
      · assumption
      · intro x11 x12 x13; refine ev_ite ?_ ?_
        · refine ev_step ?_ (State.unpoisonSector_ev _ _ _) rfl; assumption
        · assumption
    clear_value x10; refine ev_step ?_ (State.mergeFill_ev _ _ _ _) rfl; assumption
  · rename_i y14
    split
    · rename_i y15 y16; refine ev_step ?_ (State.dropRead_ev _ _ _) rfl; exact ev_refl
    · rename_i y17 y18 y19 y20; extract_lets +onlyGivenNames x21
      have h21 : State.evolves a0 x21 [.regs, .pmc, .evt, .host, .fch, .swt, .map, .wp, .rd, .cry, .epo, .ntn, .warp, .upk, .flt, .pwr, .out, .freeCtr] := by
        subst x21; refine ev_step ?_ (State.quarantine_ev _ _ _ _ _ _) rfl
        refine ev_step ?_ (State.dropRead_ev _ _ _) rfl; exact ev_refl
      clear_value x21; extract_lets +onlyGivenNames x22
      have h22 : State.evolves a0 x22 [.regs, .pmc, .evt, .host, .fch, .swt, .map, .wp, .rd, .cry, .epo, .ntn, .warp, .upk, .flt, .pwr, .out, .freeCtr] := by
        subst x22; refine ev_step ?_ (State.raiseN_ev _ _ _ _) rfl; refine ev_step ?_ (State.bump_ev _ _ _) rfl
        assumption
      clear_value x22; extract_lets +onlyGivenNames x23
      have h23 : State.evolves a0 x23 [.regs, .pmc, .evt, .host, .fch, .swt, .map, .wp, .rd, .cry, .epo, .ntn, .warp, .upk, .flt, .pwr, .out, .freeCtr] := by
        subst x23; refine ev_step ?_ (State.integrityHalt_ev _ _) rfl; assumption
      clear_value x23; refine ev_ite ?_ ?_
      · refine ev_step ?_ (State.mergeFill_ev _ _ _ _) rfl; refine ev_step ?_ (State.poisonMask_ev _ _ _ _) rfl
        assumption
      · refine ev_step ?_ (State.updStaged_ev _ _ _) rfl; assumption

theorem execMergeReadDone_ev (a0 : Nat) (a1 : MergeResult) (a2 : State) :
    State.evX a2 (execMergeReadDone a0 a1 a2) [.regs, .pmc, .evt, .host, .fch, .swt, .map, .wp, .rd, .cry, .epo, .ntn, .warp, .upk, .flt, .pwr, .out, .freeCtr] := by
  unfold execMergeReadDone; refine evX_done ?_; refine ev_when ?_ rfl ?_
  · exact ev_refl
  · intro x1 x2
    split
    · rename_i y3 y4; assumption
    · rename_i y5 y6 y7
      split
      · rename_i y8 y9 y10; refine ev_ite ?_ ?_
        · assumption
        · refine ev_step ?_ (State.mergeDone_ev _ _ _ _) rfl; assumption
      · rename_i y11 y12; assumption

theorem State.rewriteLine_ev (a0 : State) (a1 : Rd) (a2 : Quad Sector) :
    State.evolves a0 (State.rewriteLine a0 a1 a2) [.regs, .pmc, .evt, .host, .map, .wp, .warp, .upk, .out, .freeCtr] := by
  unfold State.rewriteLine; refine ev_ite ?_ ?_
  · extract_lets +onlyGivenNames x1
    have h1 : State.evP a0 x1 [.regs, .pmc, .evt, .host, .map, .wp, .warp, .upk, .out, .freeCtr] := by
      subst x1; refine evP_step ?_ (State.recoveredCode_ev _ _ _) rfl; exact ev_refl
    clear_value x1; refine ev_getD ?_ ?_
    · refine evO_step ?_ (State.placeCopy_ev _ _ _ _ _ _) rfl; exact ev_fst1 (by assumption)
    · exact ev_refl
  · exact ev_refl

theorem State.rewriteTag_ev (a0 : State) (a1 : Rd) (a2 : Quad Sector) :
    State.evolves a0 (State.rewriteTag a0 a1 a2) [.regs, .pmc, .evt, .host, .map, .wp, .warp, .upk, .out, .freeCtr] := by
  unfold State.rewriteTag; extract_lets +onlyGivenNames x1; clear_value x1
  extract_lets +onlyGivenNames x2; clear_value x2; extract_lets +onlyGivenNames x3
  have h3 : State.evolves a0 x3 [.regs, .pmc, .evt, .host, .map, .wp, .warp, .upk, .out, .freeCtr] := by
    subst x3; refine ev_step ?_ (State.setTag_ev _ _ _) rfl; exact ev_refl
  clear_value x3; extract_lets +onlyGivenNames x4; clear_value x4; extract_lets +onlyGivenNames x5; clear_value x5
  refine ev_ite ?_ ?_
  · extract_lets +onlyGivenNames x6; clear_value x6; refine ev_getD ?_ ?_
    · refine evO_step ?_ (State.placeCopy_ev _ _ _ _ _ _) rfl; assumption
    · assumption
  · assumption

theorem State.reconDone_ev (a0 : State) (a1 : Rd) (a2 : ReconResult) :
    State.evolves a0 (State.reconDone a0 a1 a2) [.regs, .pmc, .evt, .host, .fch, .swt, .map, .wp, .rd, .cry, .epo, .ntn, .warp, .upk, .flt, .pwr, .out, .freeCtr] := by
  unfold State.reconDone; extract_lets +onlyGivenNames x1; subst x1
  split
  · rename_i y2 y3; extract_lets +onlyGivenNames x4
    have h4 : State.evolves a0 x4 [.regs, .pmc, .evt, .host, .fch, .swt, .map, .wp, .rd, .cry, .epo, .ntn, .warp, .upk, .flt, .pwr, .out, .freeCtr] := by
      subst x4; refine ev_ite ?_ ?_
      · refine ev_step ?_ (State.reportLine_ev _ _) rfl; refine ev_step ?_ (State.tagRecovered_ev _ _) rfl
        exact ev_refl
      · exact ev_refl
    clear_value x4; extract_lets +onlyGivenNames x5
    have h5 : State.evolves a0 x5 [.regs, .pmc, .evt, .host, .fch, .swt, .map, .wp, .rd, .cry, .epo, .ntn, .warp, .upk, .flt, .pwr, .out, .freeCtr] := by
      subst x5; refine ev_ite ?_ ?_
      · refine ev_step ?_ (State.rewriteLine_ev _ _ _) rfl; assumption
      · assumption
    clear_value x5; refine ev_step ?_ (State.finishRead_ev _ _ _) rfl; assumption
  · rename_i y6 y7; extract_lets +onlyGivenNames x8
    have h8 : State.evolves a0 x8 [.regs, .pmc, .evt, .host, .fch, .swt, .map, .wp, .rd, .cry, .epo, .ntn, .warp, .upk, .flt, .pwr, .out, .freeCtr] := by
      subst x8; refine ev_step ?_ (State.rewriteTag_ev _ _ _) rfl; refine ev_step ?_ (State.reportLine_ev _ _) rfl
      refine ev_step ?_ (State.tagRecovered_ev _ _) rfl; exact ev_refl
    clear_value x8; refine ev_step ?_ (State.finishRead_ev _ _ _) rfl; assumption
  · rename_i y9; extract_lets +onlyGivenNames x10
    have h10 : State.evolves a0 x10 [.regs, .pmc, .evt, .host, .fch, .swt, .map, .wp, .rd, .cry, .epo, .ntn, .warp, .upk, .flt, .pwr, .out, .freeCtr] := by
      subst x10; refine ev_step ?_ (State.dropRead_ev _ _ _) rfl; exact ev_refl
    clear_value x10; extract_lets +onlyGivenNames x11
    have h11 : State.evolves a0 x11 [.regs, .pmc, .evt, .host, .fch, .swt, .map, .wp, .rd, .cry, .epo, .ntn, .warp, .upk, .flt, .pwr, .out, .freeCtr] := by
      subst x11
      split
      · rename_i y12 y13; refine ev_step ?_ (State.fillPoison_ev _ _ _) rfl; assumption
      · rename_i y14 y15; refine ev_step ?_ (State.fillPoison_ev _ _ _) rfl; assumption
      · rename_i y16 y17 y18; assumption
    clear_value x11; refine ev_step ?_ (State.integrityHalt_ev _ _) rfl; assumption
  · rename_i y19; refine ev_step ?_ (State.unrecoverable_ev _ _) rfl; exact ev_refl

theorem execReconstructionDone_ev (a0 : Nat) (a1 : ReconResult) (a2 : State) :
    State.evX a2 (execReconstructionDone a0 a1 a2) [.regs, .pmc, .evt, .host, .fch, .swt, .map, .wp, .rd, .cry, .epo, .ntn, .warp, .upk, .flt, .pwr, .out, .freeCtr] := by
  unfold execReconstructionDone; refine evX_done ?_; refine ev_when ?_ rfl ?_
  · exact ev_refl
  · intro x1 x2
    split
    · rename_i y3 y4; assumption
    · rename_i y5 y6 y7; extract_lets +onlyGivenNames x8; clear_value x8; extract_lets +onlyGivenNames x9
      have h9 : State.evolves a2 x9 [.regs, .pmc, .evt, .host, .fch, .swt, .map, .wp, .rd, .cry, .epo, .ntn, .warp, .upk, .flt, .pwr, .out, .freeCtr] := by
        subst x9; refine ev_ite ?_ ?_
        · refine ev_step ?_ (State.injFire_ev _) rfl; assumption
        · assumption
      clear_value x9; extract_lets +onlyGivenNames x10; clear_value x10; refine ev_ite ?_ ?_
      · assumption
      · split
        · rename_i y11 y12 y13; refine ev_step ?_ (State.mergeDone_ev _ _ _ _) rfl; assumption
        · rename_i y14 y15; refine ev_step ?_ (State.reconDone_ev _ _ _) rfl; assumption

theorem execLineVerify_ev (a0 : Nat) (a1 : State) :
    State.evX a1 (execLineVerify a0 a1) [.regs, .pmc, .evt, .host, .fch, .map, .wp, .rd, .cry, .epo, .ntn, .warp, .upk, .flt, .out, .freeCtr] := by
  unfold execLineVerify; refine evX_done ?_; refine ev_when ?_ rfl ?_
  · exact ev_refl
  · intro x1 x2
    split
    · rename_i y3 y4; assumption
    · rename_i y5 y6 y7
      split
      · rename_i y8 y9; assumption
      · rename_i y10 y11 y12; extract_lets +onlyGivenNames x13; clear_value x13; refine ev_ite ?_ ?_
        · assumption
        · extract_lets +onlyGivenNames x14; clear_value x14; extract_lets +onlyGivenNames x15
          have h15 : State.evolves a1 x15 [.regs, .pmc, .evt, .host, .fch, .map, .wp, .rd, .cry, .epo, .ntn, .warp, .upk, .flt, .out, .freeCtr] := by
            subst x15; refine ev_ite ?_ ?_
            · refine ev_step ?_ (State.injFire_ev _) rfl; assumption
            · assumption
          clear_value x15
          split
          · rename_i y16 y17 y18; refine ev_ite ?_ ?_
            · refine ev_step ?_ (State.finishRead_ev _ _ _) rfl; assumption
            · refine ev_step ?_ (State.toRecon_ev _ _) rfl; assumption
          · rename_i y19 y20; refine ev_step ?_ (State.toRecon_ev _ _) rfl; assumption

end Sys2Proof.Machine
end

