-- ==== Sys2Proof/Laws/EvLineMap.lean ====
section
/-!
SUPPORT. What each operation of Machine/LineMap.lean may change: its parts of the state, and that the register stores stay
canonical.
-/
set_option Elab.async false
namespace Sys2Proof.Machine

theorem State.mapActive_ev (a0 : State) : State.evolves a0 (State.mapActive a0) [.map] := by
  unfold State.mapActive; extract_lets +onlyGivenNames x1; subst x1; refine ev_map ?_ rfl MapState.wf_upd
  exact ev_refl

theorem State.blankMap_ev (a0 : State) :
    State.evolves a0 (State.blankMap a0) [.regs, .pmc, .evt, .host, .map, .rd, .upk] := by
  unfold State.blankMap; extract_lets +onlyGivenNames x1; subst x1; extract_lets +onlyGivenNames x2; clear_value x2
  extract_lets +onlyGivenNames x3; subst x3; extract_lets +onlyGivenNames x4
  have h4 : State.evolves a0 x4 [.regs, .pmc, .evt, .host, .map, .rd, .upk] := by
    subst x4
    refine ev_updW ?_ id id (fun z => (MapState.wf_iff _).mpr (by have w := (MapState.wf_iff _).mp z; dsimp only; exact ⟨⟨rfl, rfl⟩, rfl⟩)) id id id id id id (fun z => (UpkState.wf_iff _).mpr (by have w := (UpkState.wf_iff _).mp z; dsimp only; exact ⟨⟨⟨Tab.wf_mapVals _ _ _ w.1.1.1, w.1.1.2⟩, w.1.2⟩, rfl⟩)) (by intro p; cases p <;> first | exact .inl (by decide) | exact .inr rfl | exact .inr ⟨rfl, rfl⟩)
    exact ev_refl
  clear_value x4; refine ev_foldl ?_ ?_
  · assumption
  · intro x5 x6 x7; refine ev_step ?_ (State.settleBolt_ev _ _ _) rfl; assumption

theorem State.drawFormat_ev (a0 : State) : State.evP a0 (State.drawFormat a0) [.freeCtr] := by
  unfold State.drawFormat; refine evP_mk ?_; refine ev_freeCtr ?_ rfl; exact ev_refl

theorem State.defaultExtents_ev (a0 : State) : State.evolves a0 (State.defaultExtents a0) [.cry] := by
  unfold State.defaultExtents; refine ev_ite ?_ ?_
  · refine ev_step ?_ (State.setDom_ev _ _ _) rfl; exact ev_refl
  · exact ev_refl

theorem State.format_ev (a0 : State) :
    State.evolves a0 (State.format a0) [.regs, .pmc, .evt, .host, .map, .rd, .cry, .epo, .upk, .out, .freeCtr] := by
  unfold State.format; extract_lets +onlyGivenNames x1
  have h1 : State.evolves a0 x1 [.regs, .pmc, .evt, .host, .map, .rd, .cry, .epo, .upk, .out, .freeCtr] := by
    subst x1; refine ev_step ?_ (State.blankMap_ev _) rfl; exact ev_refl
  clear_value x1
  split
  · rename_i y2 y3 y4 y5 y6; extract_lets +onlyGivenNames x7; subst x7; extract_lets +onlyGivenNames x8
    have h8 : State.evolves a0 x8 [.regs, .pmc, .evt, .host, .map, .rd, .cry, .epo, .upk, .out, .freeCtr] := by
      subst x8; refine ev_map ?_ rfl MapState.wf_upd; refine ev_step ?_ (ev_fst (State.drawFormat_ev _) y6) rfl
      assumption
    clear_value x8; extract_lets +onlyGivenNames x9
    have h9 : State.evolves a0 x9 [.regs, .pmc, .evt, .host, .map, .rd, .cry, .epo, .upk, .out, .freeCtr] := by
      subst x9; refine ev_step ?_ (State.defaultExtents_ev _) rfl; assumption
    clear_value x9; refine ev_step ?_ (State.finishCkpt_ev _ _ _) rfl; assumption

theorem execCheckpointPeriod_ev (a0 : State) :
    State.evX a0 (execCheckpointPeriod a0) [.regs, .pmc, .evt, .host, .map, .upk, .out] := by
  unfold execCheckpointPeriod; refine evX_done ?_; refine ev_when ?_ rfl ?_
  · exact ev_refl
  · intro x1 x2; refine ev_step ?_ (State.startCkpt_ev _) rfl; assumption

theorem execFirstFormatDone_ev (a0 : State) :
    State.evX a0 (execFirstFormatDone a0) [.regs, .pmc, .pop, .evt, .host, .map, .rd, .cry, .epo, .upk, .out, .freeCtr] := by
  unfold execFirstFormatDone; refine evX_done ?_; refine ev_when ?_ rfl ?_
  · exact ev_refl
  · intro x1 x2; refine ev_ite ?_ ?_
    · extract_lets +onlyGivenNames x3
      have h3 : State.evolves a0 x3 [.regs, .pmc, .pop, .evt, .host, .map, .rd, .cry, .epo, .upk, .out, .freeCtr] := by
        subst x3
        refine ev_updW ?_ id id id id id id id id id id (by intro p; cases p <;> first | exact .inl (by decide) | exact .inr rfl | exact .inr ⟨rfl, rfl⟩)
        assumption
      clear_value x3; refine ev_step ?_ (State.raise_ev _ _) rfl; refine ev_step ?_ (State.mapActive_ev _) rfl
      refine ev_step ?_ (State.format_ev _) rfl; assumption
    · refine ev_step ?_ (State.raise_ev _ _) rfl; assumption

theorem State.unrecord_ev (a0 : State) (a1 : JRec) : State.evolves a0 (State.unrecord a0 a1) [.map] := by
  unfold State.unrecord; extract_lets +onlyGivenNames x1
  have h1 : State.evolves a0 x1 [.map] := by
    subst x1; refine ev_foldl ?_ ?_
    · exact ev_refl
    · intro x2 x3 x4; refine ev_step ?_ (State.setTag_ev _ _ _) rfl; refine ev_step ?_ (State.setEntry_ev _ _ _) rfl
      assumption
  clear_value x1; refine ev_ite ?_ ?_
  · refine ev_step ?_ (State.setDir_ev _ _ _) rfl; assumption
  · assumption

theorem State.mapDown_ev (a0 : State) : State.evolves a0 (State.mapDown a0) [.map] := by
  unfold State.mapDown; extract_lets +onlyGivenNames x1; clear_value x1; extract_lets +onlyGivenNames x2
  have h2 : State.evolves a0 x2 [.map] := by
    subst x2; refine ev_foldl ?_ ?_
    · exact ev_refl
    · intro x3 x4 x5; refine ev_step ?_ (State.unrecord_ev _ _) rfl; assumption
  clear_value x2; extract_lets +onlyGivenNames x6; subst x6; refine ev_map ?_ rfl MapState.wf_upd; assumption

theorem execCheckpointDone_ev (a0 : State) :
    State.evX a0 (execCheckpointDone a0) [.regs, .pmc, .evt, .host, .map, .rd, .cry, .epo, .upk, .out] := by
  unfold execCheckpointDone; refine evX_done ?_; refine ev_when ?_ rfl ?_
  · exact ev_refl
  · intro x1 x2
    split
    · rename_i y3 y4; assumption
    · rename_i y5 y6 y7; refine ev_ite ?_ ?_
      · refine ev_step ?_ (State.nextCkpt_ev _) rfl; refine ev_step ?_ (State.finishCkpt_ev _ _ _) rfl; assumption
      · assumption

theorem execMapDirtyWaitResume_ev (a0 : State) :
    State.evX a0 (execMapDirtyWaitResume a0) [.regs, .pmc, .evt, .host, .map, .wp, .rd, .epo, .upk, .out] := by
  unfold execMapDirtyWaitResume; refine evX_done ?_; refine ev_when ?_ rfl ?_
  · exact ev_refl
  · intro x1 x2
    split
    · rename_i y3 y4; assumption
    · rename_i y5 y6 y7 y8 y9; extract_lets +onlyGivenNames x10; subst x10; extract_lets +onlyGivenNames x11
      have h11 : State.evolves a0 x11 [.regs, .pmc, .evt, .host, .map, .wp, .rd, .epo, .upk, .out] := by
        subst x11; refine ev_map ?_ rfl MapState.wf_upd; assumption
      clear_value x11
      split
      · rename_i y12 y13; assumption
      · rename_i y14 y15 y16
        split
        · rename_i y17 y18; assumption
        · rename_i y19 y20 y21; refine ev_step ?_ (State.recordStripe_ev _ _ _) rfl; assumption

theorem State.resumeCleanups_ev (a0 : State) :
    State.evolves a0 (State.resumeCleanups a0) [.regs, .pmc, .evt, .host, .map, .rd, .upk] := by
  unfold State.resumeCleanups; refine ev_foldl ?_ ?_
  · exact ev_refl
  · intro x1 x2 x3; extract_lets +onlyGivenNames x4; clear_value x4
    split
    · rename_i y5 y6; assumption
    · rename_i y7 y8 y9; refine ev_ite ?_ ?_
      · refine ev_step ?_ (State.cleanupWalk_ev _ _ _ _) rfl; assumption
      · refine ev_ite ?_ ?_
        · refine ev_foldl ?_ ?_
          · assumption
          · intro x10 x11 x12; refine ev_ite ?_ ?_
            · assumption
            · refine ev_step ?_ (State.setEntry_ev _ _ _) rfl; assumption
        · assumption

theorem State.fillIn_ev (a0 : State) (a1 : Nat) (a2 : Nat) : State.evolves a0 (State.fillIn a0 a1 a2) [.map] := by
  unfold State.fillIn; refine ev_step ?_ (State.minstall_ev _ _ _) rfl; extract_lets +onlyGivenNames x1; subst x1
  refine ev_map ?_ rfl MapState.wf_upd; exact ev_refl

theorem execSgGapMove_ev (a0 : Nat) (a1 : Nat) (a2 : State) : State.evX a2 (execSgGapMove a0 a1 a2) [.map, .out] := by
  unfold execSgGapMove; extract_lets +onlyGivenNames x1; clear_value x1; refine evX_done ?_; refine ev_when ?_ rfl ?_
  · exact ev_refl
  · intro x2 x3; refine ev_step ?_ (State.setRegion_ev _ _ _ _) rfl; assumption

theorem execJournalLineTimeout_ev (a0 : State) :
    State.evX a0 (execJournalLineTimeout a0) [.regs, .pmc, .evt, .host, .map, .out] := by
  unfold execJournalLineTimeout; refine evX_done ?_; refine ev_when ?_ rfl ?_
  · exact ev_refl
  · intro x1 x2; refine ev_step ?_ (State.writeJnl_ev _) rfl; assumption

theorem State.mcleaned_ev (a0 : State) (a1 : MSlot) : State.evolves a0 (State.mcleaned a0 a1) [.map] := by
  unfold State.mcleaned; refine ev_step ?_ (State.mupdate_ev _ _ _ _) rfl; exact ev_refl

theorem State.writeBackMap_ev (a0 : State) (a1 : MSlot) :
    State.evolves a0 (State.writeBackMap a0 a1) [.regs, .pmc, .evt, .host, .map, .wp, .ntn, .warp, .upk, .out] := by
  unfold State.writeBackMap
  refine ev_ite ?_ ?_
  · refine ev_step ?_ (State.selvage_ev _ _ _) rfl
    refine ev_step ?_ (State.mcleaned_ev _ _) rfl
    exact ev_refl
  · refine ev_ite ?_ ?_
    · refine ev_step ?_ (State.selvage_ev _ _ _) rfl
      refine ev_step ?_ (State.mcleaned_ev _ _) rfl
      exact ev_refl
    · generalize a0.metGroup a1.idx = z
      cases z with
      | none => exact ev_refl
      | some g =>
        generalize hd : a0.drawMeta = d
        obtain ⟨t, q⟩ := d
        dsimp only
        generalize hp : t.place g .met (a0.stagedMap a1 q) = o
        cases o with
        | none => exact ev_refl
        | some u =>
          refine ev_step ?_ (State.mcleaned_ev _ _) rfl
          refine ev_step ?_ (ev_optS (State.place_ev _ _ _ _) hp) rfl
          refine ev_step ?_ (ev_fst (State.drawMeta_ev _) hd) rfl
          exact ev_refl

theorem State.mapReady_ev (a0 : State) (a1 : Nat) :
    State.evolves a0 (State.mapReady a0 a1) [.regs, .pmc, .evt, .host, .fch, .map, .wp, .rd, .cry, .epo, .ntn, .warp, .flt, .out] := by
  unfold State.mapReady; extract_lets +onlyGivenNames x1; clear_value x1; extract_lets +onlyGivenNames x2
  have h2 : State.evolves a0 x2 [.regs, .pmc, .evt, .host, .fch, .map, .wp, .rd, .cry, .epo, .ntn, .warp, .flt, .out] := by
    subst x2; refine ev_foldl ?_ ?_
    · exact ev_refl
    · intro x3 x4 x5; refine ev_ite ?_ ?_
      · refine ev_step ?_ (State.resolveFill_ev _ _) rfl; assumption
      · assumption
  clear_value x2; extract_lets +onlyGivenNames x6; clear_value x6; refine ev_foldl ?_ ?_
  · assumption
  · intro x7 x8 x9; refine ev_step ?_ (State.completeLine_ev _ _) rfl; assumption

theorem State.mapFilled_ev (a0 : State) (a1 : Nat) (a2 : Nat) :
    State.evolves a0 (State.mapFilled a0 a1 a2) [.regs, .pmc, .evt, .host, .fch, .map, .wp, .rd, .cry, .epo, .ntn, .warp, .flt, .out] := by
  unfold State.mapFilled; extract_lets +onlyGivenNames x1
  have h1 : State.evolves a0 x1 [.regs, .pmc, .evt, .host, .fch, .map, .wp, .rd, .cry, .epo, .ntn, .warp, .flt, .out] := by
    subst x1; refine ev_step ?_ (State.fillIn_ev _ _ _) rfl; exact ev_refl
  clear_value x1
  split
  · rename_i y2; refine ev_step ?_ (State.mapReady_ev _ _) rfl; assumption
  · rename_i y3; refine ev_foldl ?_ ?_
    · assumption
    · intro x4 x5 x6; refine ev_step ?_ (State.mapReady_ev _ _) rfl; refine ev_step ?_ (State.fillIn_ev _ _ _) rfl
      assumption
  · rename_i y7; refine ev_foldl ?_ ?_
    · assumption
    · intro x8 x9 x10; refine ev_step ?_ (State.fillIn_ev _ _ _) rfl; assumption
  · rename_i y11 y12 y13 y14; assumption

theorem execPadNow_ev (a0 : Nat) (a1 : Nat) (a2 : State) :
    State.evX a2 (execPadNow a0 a1 a2) [.regs, .pmc, .evt, .host, .wp, .warp, .upk, .out] := by
  unfold execPadNow; refine evX_done ?_; unfold State.barWrite; extract_lets +onlyGivenNames x1
  have h1 : State.evolves a2 x1 [.regs, .pmc, .evt, .host, .wp, .warp, .upk, .out] := by
    subst x1; refine ev_step ?_ (State.begin_ev _) rfl; exact ev_refl
  clear_value x1; refine ev_ite ?_ ?_
  · refine ev_step ?_ (State.emit_ev _ _) rfl; assumption
  · refine ev_ite ?_ ?_
    · refine ev_step ?_ (State.accessErr_ev _ _ _ _ _ _) rfl; assumption
    · beta_reduce; refine ev_foldl ?_ ?_
      · assumption
      · intro x2 x3 x4; refine ev_step ?_ (State.pad_ev _ _ _) rfl; assumption

theorem execJournalLineDurable_ev (a0 : State) :
    State.evX a0 (execJournalLineDurable a0) [.regs, .pmc, .evt, .host, .map, .out] := by
  unfold execJournalLineDurable; refine evX_done ?_; refine ev_when ?_ rfl ?_
  · exact ev_refl
  · intro x1 x2; refine ev_step ?_ (State.jnlDurable_ev _) rfl; assumption

theorem execStripeTimeout_ev (a0 : Nat) (a1 : State) :
    State.evX a1 (execStripeTimeout a0 a1) [.regs, .pmc, .evt, .host, .wp, .warp, .upk, .out] := by
  unfold execStripeTimeout; refine evX_done ?_; refine ev_when ?_ rfl ?_
  · exact ev_refl
  · intro x1 x2
    split
    · rename_i y3 y4; assumption
    · rename_i y5 y6 y7; refine ev_step ?_ (State.pad_ev _ _ _) rfl; assumption

theorem State.loadImage_ev (a0 : State) : State.evolves a0 (State.loadImage a0) [.rd, .upk] := by
  unfold State.loadImage; extract_lets +onlyGivenNames x1; subst x1; extract_lets +onlyGivenNames x2; clear_value x2
  extract_lets +onlyGivenNames x3; subst x3
  refine ev_updW ?_ id id id id id id id id id (fun z => (UpkState.wf_iff _).mpr (by have w := (UpkState.wf_iff _).mp z; dsimp only; exact ⟨⟨⟨Tab.wf_mapVals _ _ _ w.1.2, w.1.1.2⟩, w.1.2⟩, rfl⟩)) (by intro p; cases p <;> first | exact .inl (by decide) | exact .inr rfl | exact .inr ⟨rfl, rfl⟩)
  exact ev_refl

theorem execLineMapLoaded_ev (a0 : State) :
    State.evX a0 (execLineMapLoaded a0) [.regs, .pmc, .evt, .host, .map, .rd, .upk, .out] := by
  unfold execLineMapLoaded; refine evX_done ?_; refine ev_when ?_ rfl ?_
  · exact ev_refl
  · intro x1 x2
    split
    · rename_i y3 y4; refine ev_step ?_ (State.raise_ev _ _) rfl; extract_lets +onlyGivenNames x5; subst x5
      refine ev_map ?_ rfl MapState.wf_upd; assumption
    · rename_i y6 y7 y8; refine ev_ite ?_ ?_
      · refine ev_step ?_ (State.raise_ev _ _) rfl; extract_lets +onlyGivenNames x9; subst x9
        refine ev_map ?_ rfl MapState.wf_upd; assumption
      · extract_lets +onlyGivenNames x10; clear_value x10; extract_lets +onlyGivenNames x11
        have h11 : State.evolves a0 x11 [.regs, .pmc, .evt, .host, .map, .rd, .upk, .out] := by
          subst x11; refine ev_step ?_ (State.loadImage_ev _) rfl; assumption
        clear_value x11; extract_lets +onlyGivenNames x12; subst x12; refine ev_map ?_ rfl MapState.wf_upd; assumption

theorem execOpenBoltScanDone_ev (a0 : Nat) (a1 : State) :
    State.evX a1 (execOpenBoltScanDone a0 a1) [.regs, .pmc, .evt, .host, .map, .wp, .rd, .warp, .upk, .out] := by
  unfold execOpenBoltScanDone; refine evX_done ?_; refine ev_when ?_ rfl ?_
  · exact ev_refl
  · intro x1 x2; extract_lets +onlyGivenNames x3
    have h3 : State.evolves a1 x3 [.regs, .pmc, .evt, .host, .map, .wp, .rd, .warp, .upk, .out] := by
      subst x3; refine ev_foldl ?_ ?_
      · assumption
      · intro x4 x5 x6; refine ev_foldl ?_ ?_
        · assumption
        · intro x7 x8 x9
          split
          · rename_i y10 y11; assumption
          · rename_i y12 y13 y14; extract_lets +onlyGivenNames x15; clear_value x15
            extract_lets +onlyGivenNames x16; clear_value x16; refine ev_step ?_ (State.closeBolt_ev _ _ _ _) rfl
            refine ev_step ?_ (State.setBolt_ev _ _ _ _) rfl; assumption
    clear_value x3; extract_lets +onlyGivenNames x17; clear_value x17; extract_lets +onlyGivenNames x18
    have h18 : State.evolves a1 x18 [.regs, .pmc, .evt, .host, .map, .wp, .rd, .warp, .upk, .out] := by
      subst x18; refine ev_foldl ?_ ?_
      · assumption
      · intro x19 x20 x21; extract_lets +onlyGivenNames x22; clear_value x22
        extract_lets +onlyGivenNames x23; clear_value x23; refine ev_step ?_ (State.settleBolt_ev _ _ _) rfl
        refine ev_step ?_ (State.setBolt_ev _ _ _ _) rfl; assumption
    clear_value x18; extract_lets +onlyGivenNames x24
    have h24 : State.evolves a1 x24 [.regs, .pmc, .evt, .host, .map, .wp, .rd, .warp, .upk, .out] := by
      subst x24; refine ev_step ?_ (State.setFld_ev _ _ _) rfl; assumption
    clear_value x24; extract_lets +onlyGivenNames x25; subst x25; refine ev_map ?_ rfl MapState.wf_upd; assumption

theorem State.loseHalted_ev (a0 : State) :
    State.evolves a0 (State.loseHalted a0) [.regs, .pmc, .evt, .host, .map, .rd, .cry, .upk, .out] := by
  unfold State.loseHalted; extract_lets +onlyGivenNames x1; clear_value x1; extract_lets +onlyGivenNames x2
  have h2 : State.evolves a0 x2 [.regs, .pmc, .evt, .host, .map, .rd, .cry, .upk, .out] := by
    subst x2; refine ev_foldl ?_ ?_
    · exact ev_refl
    · intro x3 x4 x5; refine ev_ite ?_ ?_
      · refine ev_step ?_ (State.makeLost_ev _ _ _ _) rfl; assumption
      · assumption
  clear_value x2; extract_lets +onlyGivenNames x6; subst x6; refine ev_cry ?_ rfl CryState.wf_upd; assumption

theorem execRecoveryDone_ev (a0 : State) :
    State.evX a0 (execRecoveryDone a0) [.regs, .pmc, .evt, .host, .map, .rd, .cry, .epo, .upk, .out] := by
  unfold execRecoveryDone; refine evX_done ?_; refine ev_when ?_ rfl ?_
  · exact ev_refl
  · intro x1 x2; extract_lets +onlyGivenNames x3; clear_value x3; extract_lets +onlyGivenNames x4
    have h4 : State.evolves a0 x4 [.regs, .pmc, .evt, .host, .map, .rd, .cry, .epo, .upk, .out] := by
      subst x4; refine ev_step ?_ (State.setFld_ev _ _ _) rfl; assumption
    clear_value x4; extract_lets +onlyGivenNames x5
    have h5 : State.evolves a0 x5 [.regs, .pmc, .evt, .host, .map, .rd, .cry, .epo, .upk, .out] := by
      subst x5; refine ev_ite ?_ ?_
      · assumption
      · refine ev_step ?_ (State.setFld_ev _ _ _) rfl; refine ev_step ?_ (State.setFld_ev _ _ _) rfl; assumption
    clear_value x5; extract_lets +onlyGivenNames x6
    have h6 : State.evolves a0 x6 [.regs, .pmc, .evt, .host, .map, .rd, .cry, .epo, .upk, .out] := by
      subst x6; refine ev_step ?_ (State.loseHalted_ev _) rfl; refine ev_step ?_ (State.resumeCleanups_ev _) rfl
      assumption
    clear_value x6; extract_lets +onlyGivenNames x7; subst x7; extract_lets +onlyGivenNames x8
    have h8 : State.evolves a0 x8 [.regs, .pmc, .evt, .host, .map, .rd, .cry, .epo, .upk, .out] := by
      subst x8
      refine ev_upk ?_ rfl (fun z => (UpkState.wf_iff _).mpr (by have w := (UpkState.wf_iff _).mp z; exact ⟨⟨⟨w.1.1.1, w.1.1.2⟩, w.1.2⟩, rfl⟩))
      assumption
    clear_value x8; extract_lets +onlyGivenNames x9
    have h9 : State.evolves a0 x9 [.regs, .pmc, .evt, .host, .map, .rd, .cry, .epo, .upk, .out] := by
      subst x9; refine ev_step ?_ (State.finishCkpt_ev _ _ _) rfl; refine ev_step ?_ (State.writeJnl_ev _) rfl
      assumption
    clear_value x9; extract_lets +onlyGivenNames x10; subst x10; extract_lets +onlyGivenNames x11
    have h11 : State.evolves a0 x11 [.regs, .pmc, .evt, .host, .map, .rd, .cry, .epo, .upk, .out] := by
      subst x11; refine ev_step ?_ (State.raise_ev _ _) rfl; refine ev_map ?_ rfl MapState.wf_upd; assumption
    clear_value x11; refine ev_step ?_ (State.nextCkpt_ev _) rfl; refine ev_step ?_ (State.raiseIf_ev _ _ _) rfl
    assumption

theorem State.replayRec_ev (a0 : State) (a1 : JRec) : State.evolves a0 (State.replayRec a0 a1) [.upk] := by
  unfold State.replayRec; extract_lets +onlyGivenNames x1; clear_value x1; extract_lets +onlyGivenNames x2
  have h2 : State.evolves a0 x2 [.upk] := by
    subst x2; refine ev_foldl ?_ ?_
    · exact ev_refl
    · intro x3 x4 x5; extract_lets +onlyGivenNames x6; extract_lets +onlyGivenNames x7; clear_value x7
      refine ev_step ?_ (State.setBolt_ev _ _ _ _) rfl; assumption
  clear_value x2; refine ev_foldl ?_ ?_
  · assumption
  · intro x8 x9 x10; extract_lets +onlyGivenNames x11; clear_value x11; refine ev_ite ?_ ?_
    · refine ev_step ?_ (State.setBolt_ev _ _ _ _) rfl; assumption
    · assumption

theorem execJournalReplayDone_ev (a0 : Nat) (a1 : State) :
    State.evX a1 (execJournalReplayDone a0 a1) [.regs, .pmc, .evt, .host, .map, .upk, .out] := by
  unfold execJournalReplayDone; refine evX_done ?_; refine ev_when ?_ rfl ?_
  · exact ev_refl
  · intro x1 x2; extract_lets +onlyGivenNames x3; clear_value x3; extract_lets +onlyGivenNames x4; clear_value x4
    extract_lets +onlyGivenNames x5; clear_value x5; extract_lets +onlyGivenNames x6
    have h6 : State.evolves a1 x6 [.regs, .pmc, .evt, .host, .map, .upk, .out] := by
      subst x6; refine ev_foldl ?_ ?_
      · assumption
      · intro x7 x8 x9; refine ev_step ?_ (State.unrecord_ev _ _) rfl; assumption
    clear_value x6; extract_lets +onlyGivenNames x10; subst x10; extract_lets +onlyGivenNames x11
    have h11 : State.evolves a1 x11 [.regs, .pmc, .evt, .host, .map, .upk, .out] := by
      subst x11; refine ev_map ?_ rfl MapState.wf_upd; assumption
    clear_value x11; extract_lets +onlyGivenNames x12
    have h12 : State.evolves a1 x12 [.regs, .pmc, .evt, .host, .map, .upk, .out] := by
      subst x12; refine ev_foldl ?_ ?_
      · assumption
      · intro x13 x14 x15; refine ev_step ?_ (State.replayRec_ev _ _) rfl; assumption
    clear_value x12; extract_lets +onlyGivenNames x16
    have h16 : State.evolves a1 x16 [.regs, .pmc, .evt, .host, .map, .upk, .out] := by
      subst x16; refine ev_step ?_ (State.setFld_ev _ _ _) rfl; assumption
    clear_value x16; refine ev_step ?_ (State.raiseIf_ev _ _ _) rfl; assumption

theorem execMapRecordAppend_ev (a0 : Nat) (a1 : State) :
    State.evX a1 (execMapRecordAppend a0 a1) [.regs, .pmc, .evt, .host, .map, .wp, .rd, .epo, .upk, .out] := by
  unfold execMapRecordAppend; refine evX_done ?_; refine ev_when ?_ rfl ?_
  · exact ev_refl
  · intro x1 x2
    split
    · rename_i y3 y4; assumption
    · rename_i y5 y6 y7; refine ev_step ?_ (State.nextCkpt_ev _) rfl
      refine ev_step ?_ (State.recordStripe_ev _ _ _) rfl; assumption

theorem execPlyCntClr_ev (a0 : Nat) (a1 : Nat) (a2 : State) :
    State.evX a2 (execPlyCntClr a0 a1 a2) [.regs, .pmc, .evt, .host, .out] := by
  unfold execPlyCntClr; refine evX_done ?_; unfold State.barWrite; extract_lets +onlyGivenNames x1
  have h1 : State.evolves a2 x1 [.regs, .pmc, .evt, .host, .out] := by
    subst x1; refine ev_step ?_ (State.begin_ev _) rfl; exact ev_refl
  clear_value x1; refine ev_ite ?_ ?_
  · refine ev_step ?_ (State.emit_ev _ _) rfl; assumption
  · refine ev_ite ?_ ?_
    · refine ev_step ?_ (State.accessErr_ev _ _ _ _ _ _) rfl; assumption
    · beta_reduce; refine ev_step ?_ (State.setReg_ev _ _ _) rfl; refine ev_step ?_ (State.setReg_ev _ _ _) rfl
      refine ev_step ?_ (State.setReg_ev _ _ _) rfl; assumption

theorem execCkptNow_ev (a0 : Nat) (a1 : State) :
    State.evX a1 (execCkptNow a0 a1) [.regs, .pmc, .evt, .host, .map, .upk, .out] := by
  unfold execCkptNow; refine evX_done ?_; unfold State.barWrite; extract_lets +onlyGivenNames x1
  have h1 : State.evolves a1 x1 [.regs, .pmc, .evt, .host, .map, .upk, .out] := by
    subst x1; refine ev_step ?_ (State.begin_ev _) rfl; exact ev_refl
  clear_value x1; refine ev_ite ?_ ?_
  · refine ev_step ?_ (State.emit_ev _ _) rfl; assumption
  · refine ev_ite ?_ ?_
    · refine ev_step ?_ (State.accessErr_ev _ _ _ _ _ _) rfl; assumption
    · beta_reduce; refine ev_ite ?_ ?_
      · refine ev_step ?_ (State.startCkpt_ev _) rfl; assumption
      · assumption

theorem execMapPrefetchDrop_ev (a0 : Nat) (a1 : State) : State.evX a1 (execMapPrefetchDrop a0 a1) [.map, .out] := by
  unfold execMapPrefetchDrop; refine evX_done ?_; refine ev_when ?_ rfl ?_
  · exact ev_refl
  · intro x1 x2; extract_lets +onlyGivenNames x3; subst x3; refine ev_map ?_ rfl MapState.wf_upd; assumption

theorem State.fillFailed_ev (a0 : State) (a1 : Nat) (a2 : Nat) :
    State.evolves a0 (State.fillFailed a0 a1 a2) [.regs, .pmc, .evt, .host, .fch, .map, .wp, .rd, .cry, .epo, .ntn, .warp, .upk, .flt, .out] := by
  unfold State.fillFailed
  split
  · rename_i y1; refine ev_step ?_ (State.mapReady_ev _ _) rfl; refine ev_step ?_ (State.loseCovered_ev _ _) rfl
    refine ev_step ?_ (State.fillIn_ev _ _ _) rfl; exact ev_refl
  · rename_i y2; extract_lets +onlyGivenNames x3; clear_value x3; extract_lets +onlyGivenNames x4
    have h4 : State.evolves a0 x4 [.regs, .pmc, .evt, .host, .fch, .map, .wp, .rd, .cry, .epo, .ntn, .warp, .upk, .flt, .out] := by
      subst x4; refine ev_step ?_ (State.fillIn_ev _ _ _) rfl; exact ev_refl
    clear_value x4; extract_lets +onlyGivenNames x5; clear_value x5; extract_lets +onlyGivenNames x6
    have h6 : State.evolves a0 x6 [.regs, .pmc, .evt, .host, .fch, .map, .wp, .rd, .cry, .epo, .ntn, .warp, .upk, .flt, .out] := by
      subst x6; refine ev_step ?_ (State.mapRec_ev _ _ _ _ _ _) rfl; assumption
    clear_value x6; refine ev_step ?_ (State.loseCovered_ev _ _) rfl; refine ev_step ?_ (State.raiseN_ev _ _ _ _) rfl
    assumption
  · rename_i y7 y8 y9; extract_lets +onlyGivenNames x10; clear_value x10; refine ev_ite ?_ ?_
    · exact ev_refl
    · refine ev_step ?_ (State.raiseN_ev _ _ _ _) rfl; extract_lets +onlyGivenNames x11; subst x11
      refine ev_map ?_ rfl MapState.wf_upd; exact ev_refl

theorem execMapFill_ev (a0 : Nat) (a1 : Nat) (a2 : Bool) (a3 : State) :
    State.evX a3 (execMapFill a0 a1 a2 a3) [.regs, .pmc, .evt, .host, .fch, .map, .wp, .rd, .cry, .epo, .ntn, .warp, .upk, .flt, .out] := by
  unfold execMapFill; refine evX_done ?_; refine ev_when ?_ rfl ?_
  · exact ev_refl
  · intro x1 x2; refine ev_ite ?_ ?_
    · refine ev_step ?_ (State.mapFilled_ev _ _ _) rfl; assumption
    · refine ev_step ?_ (State.fillFailed_ev _ _ _) rfl; assumption

theorem execMapPrefetch_ev (a0 : Nat) (a1 : State) :
    State.evX a1 (execMapPrefetch a0 a1) [.regs, .pmc, .evt, .host, .map, .out] := by
  unfold execMapPrefetch; refine evX_done ?_; refine ev_when ?_ rfl ?_
  · exact ev_refl
  · intro x1 x2
    split
    · rename_i y3 y4; assumption
    · rename_i y5 y6 y7; extract_lets +onlyGivenNames x8; clear_value x8; refine ev_ite ?_ ?_
      · assumption
      · extract_lets +onlyGivenNames x9; subst x9; extract_lets +onlyGivenNames x10
        have h10 : State.evolves a1 x10 [.regs, .pmc, .evt, .host, .map, .out] := by
          subst x10; refine ev_map ?_ rfl MapState.wf_upd; assumption
        clear_value x10; refine ev_step ?_ (State.count_ev _ _ _ _) rfl; refine ev_step ?_ (State.mfetch_ev _ _ _) rfl
        assumption

theorem execGapMoveDone_ev (a0 : Nat) (a1 : Nat) (a2 : State) :
    State.evX a2 (execGapMoveDone a0 a1 a2) [.regs, .pmc, .map, .out] := by
  unfold execGapMoveDone; extract_lets +onlyGivenNames x1; clear_value x1; refine evX_done ?_
  refine ev_when ?_ rfl ?_
  · exact ev_refl
  · intro x2 x3; extract_lets +onlyGivenNames x4; clear_value x4; extract_lets +onlyGivenNames x5; clear_value x5
    refine ev_step ?_ (State.bump_ev _ _ _) rfl; refine ev_step ?_ (State.setRegion_ev _ _ _ _) rfl; assumption

theorem execCheckpointRecordCount_ev (a0 : State) :
    State.evX a0 (execCheckpointRecordCount a0) [.regs, .pmc, .evt, .host, .map, .upk, .out] := by
  unfold execCheckpointRecordCount; refine evX_done ?_; refine ev_when ?_ rfl ?_
  · exact ev_refl
  · intro x1 x2; refine ev_step ?_ (State.startCkpt_ev _) rfl; assumption

theorem execDirRebuildDone_ev (a0 : Nat) (a1 : State) :
    State.evX a1 (execDirRebuildDone a0 a1) [.regs, .pmc, .evt, .host, .fch, .map, .wp, .rd, .cry, .epo, .ntn, .warp, .flt, .out] := by
  unfold execDirRebuildDone; refine evX_done ?_; refine ev_when ?_ rfl ?_
  · exact ev_refl
  · intro x1 x2; extract_lets +onlyGivenNames x3; clear_value x3; extract_lets +onlyGivenNames x4; clear_value x4
    extract_lets +onlyGivenNames x5; subst x5; extract_lets +onlyGivenNames x6
    have h6 : State.evolves a1 x6 [.regs, .pmc, .evt, .host, .fch, .map, .wp, .rd, .cry, .epo, .ntn, .warp, .flt, .out] := by
      subst x6; refine ev_map ?_ rfl MapState.wf_upd; assumption
    clear_value x6; refine ev_step ?_ (State.raiseN_ev _ _ _ _) rfl; refine ev_step ?_ (State.mapFilled_ev _ _ _) rfl
    assumption

theorem execPlyAdmitOff_ev (a0 : Nat) (a1 : Nat) (a2 : Bool) (a3 : State) :
    State.evX a3 (execPlyAdmitOff a0 a1 a2 a3) [.regs, .pmc, .evt, .host, .out] := by
  unfold execPlyAdmitOff; refine evX_done ?_; unfold State.barWrite; extract_lets +onlyGivenNames x1
  have h1 : State.evolves a3 x1 [.regs, .pmc, .evt, .host, .out] := by
    subst x1; refine ev_step ?_ (State.begin_ev _) rfl; exact ev_refl
  clear_value x1; refine ev_ite ?_ ?_
  · refine ev_step ?_ (State.emit_ev _ _) rfl; assumption
  · refine ev_ite ?_ ?_
    · refine ev_step ?_ (State.accessErr_ev _ _ _ _ _ _) rfl; assumption
    · beta_reduce; refine ev_step ?_ (State.setFld_ev _ _ _) rfl; assumption

theorem execMapCntClr_ev (a0 : Nat) (a1 : State) :
    State.evX a1 (execMapCntClr a0 a1) [.regs, .pmc, .evt, .host, .out] := by
  unfold execMapCntClr; refine evX_done ?_; unfold State.barWrite; extract_lets +onlyGivenNames x1
  have h1 : State.evolves a1 x1 [.regs, .pmc, .evt, .host, .out] := by
    subst x1; refine ev_step ?_ (State.begin_ev _) rfl; exact ev_refl
  clear_value x1; refine ev_ite ?_ ?_
  · refine ev_step ?_ (State.emit_ev _ _) rfl; assumption
  · refine ev_ite ?_ ?_
    · refine ev_step ?_ (State.accessErr_ev _ _ _ _ _ _) rfl; assumption
    · beta_reduce; refine ev_step ?_ (State.setReg_ev _ _ _) rfl; assumption

theorem execMapCleaner_ev (a0 : State) :
    State.evX a0 (execMapCleaner a0) [.regs, .pmc, .evt, .host, .map, .wp, .ntn, .warp, .upk, .out] := by
  unfold execMapCleaner; refine evX_done ?_; refine ev_when ?_ rfl ?_
  · exact ev_refl
  · intro x1 x2
    split
    · rename_i y3 y4; assumption
    · rename_i y5 y6 y7; refine ev_step ?_ (State.writeBackMap_ev _ _) rfl; assumption

end Sys2Proof.Machine
end

