-- ==== Sys2Proof/Laws/EvBoot.lean ====
section
/-!
SUPPORT. What each operation of Machine/Boot.lean may change: its parts of the state, and that the register stores stay
canonical.
-/
set_option Elab.async false
namespace Sys2Proof.Machine

theorem State.fwRecord_ev (a0 : State) (a1 : Nat) (a2 : Nat) (a3 : Nat) (a4 : Nat) (a5 : Nat) :
    State.evolves a0 (State.fwRecord a0 a1 a2 a3 a4 a5) [.regs, .pmc, .evt] := by
  unfold State.fwRecord; refine ev_step ?_ (State.enqueue_ev _ _) rfl; exact ev_refl

theorem State.enterRecovery_ev (a0 : State) (a1 : Nat) :
    State.evolves a0 (State.enterRecovery a0 a1) [.regs, .pmc, .evt, .fwu] := by
  unfold State.enterRecovery; refine ev_step ?_ (State.fwRecord_ev _ _ _ _ _ _) rfl
  extract_lets +onlyGivenNames x1; clear_value x1; refine ev_fwu ?_ rfl; exact ev_refl

theorem State.setBoot_ev (a0 : State) (a1 : BootRec) : State.evolves a0 (State.setBoot a0 a1) [.fwu] := by
  unfold State.setBoot; extract_lets +onlyGivenNames x1; clear_value x1; refine ev_fwu ?_ rfl; exact ev_refl

theorem State.fellBack_ev (a0 : State) (a1 : Nat) (a2 : Nat) (a3 : Nat) :
    State.evolves a0 (State.fellBack a0 a1 a2 a3) [.regs, .pmc, .evt, .host, .fwu] := by
  unfold State.fellBack; extract_lets +onlyGivenNames x1; clear_value x1; extract_lets +onlyGivenNames x2
  have h2 : State.evolves a0 x2 [.regs, .pmc, .evt, .host, .fwu] := by
    subst x2; refine ev_step ?_ (State.setBoot_ev _ _) rfl; exact ev_refl
  clear_value x2; extract_lets +onlyGivenNames x3; clear_value x3; extract_lets +onlyGivenNames x4
  have h4 : State.evolves a0 x4 [.regs, .pmc, .evt, .host, .fwu] := by
    subst x4; refine ev_fwu ?_ rfl; assumption
  clear_value x4; extract_lets +onlyGivenNames x5
  have h5 : State.evolves a0 x5 [.regs, .pmc, .evt, .host, .fwu] := by
    subst x5; refine ev_step ?_ (State.raiseN_ev _ _ _ _) rfl; refine ev_step ?_ (State.bump_ev _ _ _) rfl; assumption
  clear_value x5; refine ev_step ?_ (State.fwRecord_ev _ _ _ _ _ _) rfl; assumption

theorem State.bootSlot_ev (a0 : State) : State.evolves a0 (State.bootSlot a0) [.regs, .pmc, .evt, .host, .fwu] := by
  unfold State.bootSlot; extract_lets +onlyGivenNames x1; clear_value x1; extract_lets +onlyGivenNames x2; subst x2
  refine ev_ite ?_ ?_
  · beta_reduce; extract_lets +onlyGivenNames x3; clear_value x3; refine ev_fwu ?_ rfl; exact ev_refl
  · refine ev_ite ?_ ?_
    · beta_reduce; extract_lets +onlyGivenNames x4; clear_value x4; refine ev_fwu ?_ rfl
      refine ev_step ?_ (State.fellBack_ev _ _ _ _) rfl; exact ev_refl
    · refine ev_step ?_ (State.enterRecovery_ev _ _) rfl; exact ev_refl

theorem State.romRecord_ev (a0 : State) : State.evolves a0 (State.romRecord a0) [.fwu] := by
  unfold State.romRecord; extract_lets +onlyGivenNames x1; clear_value x1
  extract_lets +onlyGivenNames x2; clear_value x2; extract_lets +onlyGivenNames x3; clear_value x3
  extract_lets +onlyGivenNames x4; clear_value x4; extract_lets +onlyGivenNames x5
  have h5 : State.evolves a0 x5 [.fwu] := by
    subst x5; refine ev_step ?_ (State.setBoot_ev _ _) rfl; exact ev_refl
  clear_value x5; extract_lets +onlyGivenNames x6; clear_value x6; refine ev_fwu ?_ rfl; assumption

theorem State.romStart_ev (a0 : State) : State.evolves a0 (State.romStart a0) [.regs, .pmc, .evt, .host, .fwu] := by
  unfold State.romStart; extract_lets +onlyGivenNames x1; clear_value x1
  extract_lets +onlyGivenNames x2; clear_value x2; extract_lets +onlyGivenNames x3; subst x3
  extract_lets +onlyGivenNames x4; clear_value x4; extract_lets +onlyGivenNames x5
  have h5 : State.evolves a0 x5 [.regs, .pmc, .evt, .host, .fwu] := by
    subst x5
    refine ev_updW ?_ id HostState.wf_upd id id id id id id id id (by intro p; cases p <;> first | exact .inl (by decide) | exact .inr rfl | exact .inr ⟨rfl, rfl⟩)
    exact ev_refl
  clear_value x5; extract_lets +onlyGivenNames x6
  have h6 : State.evolves a0 x6 [.regs, .pmc, .evt, .host, .fwu] := by
    subst x6; refine ev_step ?_ (State.raiseIf_ev _ _ _) rfl; assumption
  clear_value x6; refine ev_ite ?_ ?_
  · refine ev_step ?_ (State.enterRecovery_ev _ _) rfl; assumption
  · refine ev_step ?_ (State.bootSlot_ev _) rfl; refine ev_step ?_ (State.romRecord_ev _) rfl; assumption

theorem State.beginPause_ev (a0 : State) (a1 : Nat) : State.evolves a0 (State.beginPause a0 a1) [.fwu] := by
  unfold State.beginPause; extract_lets +onlyGivenNames x1; clear_value x1
  extract_lets +onlyGivenNames x2; clear_value x2; extract_lets +onlyGivenNames x3
  have h3 : State.evolves a0 x3 [.fwu] := by
    subst x3; refine ev_step ?_ (State.setBoot_ev _ _) rfl; exact ev_refl
  clear_value x3; extract_lets +onlyGivenNames x4; clear_value x4; refine ev_fwu ?_ rfl; assumption

theorem State.startSched_ev (a0 : State) : State.evolves a0 (State.startSched a0) [.fwu] := by
  unfold State.startSched
  split
  · rename_i y1 y2 y3; refine ev_ite ?_ ?_
    · refine ev_step ?_ (State.beginPause_ev _ _) rfl; extract_lets +onlyGivenNames x4; clear_value x4
      refine ev_fwu ?_ rfl; exact ev_refl
    · exact ev_refl
  · rename_i y5 y6; exact ev_refl

theorem State.restart_ev (a0 : State) (a1 : Nat) :
    State.evolves a0 (State.restart a0 a1) [.regs, .pmc, .evt, .host, .fwu] := by
  unfold State.restart; extract_lets +onlyGivenNames x1; clear_value x1; refine ev_ite ?_ ?_
  · refine ev_step ?_ (State.fellBack_ev _ _ _ _) rfl; exact ev_refl
  · exact ev_refl

end Sys2Proof.Machine
end

