-- ==== Sys2Proof/Laws/EvEvents.lean ====
section
/-!
SUPPORT. What each operation of Machine/Events.lean may change: its parts of the state, and that the register stores stay
canonical.
-/
set_option Elab.async false
namespace Sys2Proof.Machine

theorem execSetAlertConfiguration_ev (a0 : Nat) (a1 : BitVec 5) (a2 : List Nat) (a3 : State) :
    State.evX a3 (execSetAlertConfiguration a0 a1 a2 a3) [.evt, .host, .ntn, .out] := by
  unfold execSetAlertConfiguration; refine evX_done ?_; unfold State.mailboxRw; unfold State.mailbox
  extract_lets +onlyGivenNames x1
  have h1 : State.evolves a3 x1 [.evt, .host, .ntn, .out] := by
    subst x1; refine ev_step ?_ (State.begin_ev _) rfl; exact ev_refl
  clear_value x1; refine ev_ite ?_ ?_
  · refine ev_step ?_ (State.emit_ev _ _) rfl; assumption
  · refine ev_ite ?_ ?_
    · refine ev_step ?_ (State.emit_ev _ _) rfl; assumption
    · beta_reduce; refine ev_ite ?_ ?_
      · refine ev_step ?_ (State.answerMbox_ev _ _ _ _) rfl; assumption
      · refine ev_ite ?_ ?_
        · refine ev_step ?_ (State.answerMbox_ev _ _ _ _) rfl; refine ev_step ?_ (State.checkAlerts_ev _) rfl
          extract_lets +onlyGivenNames x2; subst x2; refine ev_ntn ?_ rfl NotionState.wf_upd; assumption
        · refine ev_step ?_ (State.answerMbox_ev _ _ _ _) rfl; assumption

theorem execGetHealthInfo_ev (a0 : Nat) (a1 : State) : State.evX a1 (execGetHealthInfo a0 a1) [.out] := by
  unfold execGetHealthInfo; refine evX_done ?_; unfold State.mailbox; extract_lets +onlyGivenNames x1
  have h1 : State.evolves a1 x1 [.out] := by
    subst x1; refine ev_step ?_ (State.begin_ev _) rfl; exact ev_refl
  clear_value x1; refine ev_ite ?_ ?_
  · refine ev_step ?_ (State.emit_ev _ _) rfl; assumption
  · refine ev_ite ?_ ?_
    · refine ev_step ?_ (State.emit_ev _ _) rfl; assumption
    · beta_reduce; refine ev_step ?_ (State.answerMbox_ev _ _ _ _) rfl; assumption

theorem State.foldRecord_ev (a0 : State) : State.evolves a0 (State.foldRecord a0) [.regs, .pmc, .evt] := by
  unfold State.foldRecord; extract_lets +onlyGivenNames x1; clear_value x1; extract_lets +onlyGivenNames x2; subst x2
  extract_lets +onlyGivenNames x3
  have h3 : State.evolves a0 x3 [.regs, .pmc, .evt] := by
    subst x3; refine ev_evt ?_ rfl EvtState.wf_upd; exact ev_refl
  clear_value x3; refine ev_step ?_ (State.bump_ev _ _ _) rfl; assumption

theorem execReadEventRecorder_ev (a0 : Nat) (a1 : Nat) (a2 : Nat) (a3 : State) :
    State.evX a3 (execReadEventRecorder a0 a1 a2 a3) [.out] := by
  unfold execReadEventRecorder; refine evX_done ?_; unfold State.mailbox; extract_lets +onlyGivenNames x1
  have h1 : State.evolves a3 x1 [.out] := by
    subst x1; refine ev_step ?_ (State.begin_ev _) rfl; exact ev_refl
  clear_value x1; refine ev_ite ?_ ?_
  · refine ev_step ?_ (State.emit_ev _ _) rfl; assumption
  · refine ev_ite ?_ ?_
    · refine ev_step ?_ (State.emit_ev _ _) rfl; assumption
    · beta_reduce; extract_lets +onlyGivenNames x2; extract_lets +onlyGivenNames x3; subst x3; refine ev_ite ?_ ?_
      · refine ev_step ?_ (State.answerMbox_ev _ _ _ _) rfl; assumption
      · refine ev_ite ?_ ?_
        · refine ev_step ?_ (State.answerMbox_ev _ _ _ _) rfl; assumption
        · extract_lets +onlyGivenNames x4; clear_value x4; extract_lets +onlyGivenNames x5; clear_value x5
          extract_lets +onlyGivenNames x6; clear_value x6; extract_lets +onlyGivenNames x7; clear_value x7
          refine ev_step ?_ (State.answerMbox_ev _ _ _ _) rfl; assumption

theorem State.setRing_ev (a0 : State) (a1 : Nat) (a2 : Option EvRec) :
    State.evolves a0 (State.setRing a0 a1 a2) [.evt] := by
  unfold State.setRing; extract_lets +onlyGivenNames x1; subst x1
  refine ev_evt ?_ rfl (fun w => Tab.wf_set _ _ _ _ w); exact ev_refl

theorem State.writeBackFold_ev (a0 : State) : State.evolves a0 (State.writeBackFold a0) [.evt] := by
  unfold State.writeBackFold
  split
  · rename_i y1 y2 y3 y4 y5 y6
    split
    · rename_i y7 y8 y9; extract_lets +onlyGivenNames x10
      have h10 : State.evolves a0 x10 [.evt] := by
        subst x10; refine ev_step ?_ (State.setRing_ev _ _ _) rfl; exact ev_refl
      clear_value x10; extract_lets +onlyGivenNames x11; subst x11; refine ev_evt ?_ rfl EvtState.wf_upd; assumption
    · rename_i y12 y13; extract_lets +onlyGivenNames x14; subst x14; refine ev_evt ?_ rfl EvtState.wf_upd
      exact ev_refl
  · rename_i y15 y16 y17; extract_lets +onlyGivenNames x18; subst x18; refine ev_evt ?_ rfl EvtState.wf_upd
    exact ev_refl

theorem State.writeRecord_ev (a0 : State) (a1 : QRec) :
    State.evolves a0 (State.writeRecord a0 a1) [.regs, .pmc, .evt, .host] := by
  unfold State.writeRecord; extract_lets +onlyGivenNames x1
  have h1 : State.evolves a0 x1 [.regs, .pmc, .evt, .host] := by
    subst x1; refine ev_step ?_ (State.writeBackFold_ev _) rfl; exact ev_refl
  clear_value x1; extract_lets +onlyGivenNames x2; clear_value x2; extract_lets +onlyGivenNames x3; clear_value x3
  extract_lets +onlyGivenNames x4; clear_value x4; extract_lets +onlyGivenNames x5
  have h5 : State.evolves a0 x5 [.regs, .pmc, .evt, .host] := by
    subst x5; refine ev_step ?_ (State.setRing_ev _ _ _) rfl; assumption
  clear_value x5; extract_lets +onlyGivenNames x6; subst x6; extract_lets +onlyGivenNames x7
  have h7 : State.evolves a0 x7 [.regs, .pmc, .evt, .host] := by
    subst x7; refine ev_evt ?_ rfl EvtState.wf_upd; assumption
  clear_value x7; extract_lets +onlyGivenNames x8
  have h8 : State.evolves a0 x8 [.regs, .pmc, .evt, .host] := by
    subst x8; refine ev_step ?_ (State.bump_ev _ _ _) rfl; assumption
  clear_value x8; refine ev_ite ?_ ?_
  · refine ev_step ?_ (State.postCxl_ev _ _ _ _ _) rfl; assumption
  · assumption

theorem State.clearRecorder_ev (a0 : State) (a1 : Nat) (a2 : Nat) :
    State.evP a0 (State.clearRecorder a0 a1 a2) [.regs, .pmc, .evt, .host, .ntn] := by
  unfold State.clearRecorder
  split
  · rename_i y1 y2 y3; extract_lets +onlyGivenNames x4; clear_value x4; extract_lets +onlyGivenNames x5; subst x5
    extract_lets +onlyGivenNames x6
    have h6 : State.evolves a0 x6 [.regs, .pmc, .evt, .host, .ntn] := by
      subst x6; refine ev_evt ?_ rfl (fun w => rfl); refine ev_step ?_ (ev_fst (State.ctrInc_ev _ _ _) y3) rfl
      exact ev_refl
    clear_value x6; extract_lets +onlyGivenNames x7
    have h7 : State.evolves a0 x7 [.regs, .pmc, .evt, .host, .ntn] := by
      subst x7; refine ev_step ?_ (State.writeRecord_ev _ _) rfl; assumption
    clear_value x7; refine evP_mk ?_; refine ev_step ?_ (State.raise_ev _ _) rfl; assumption
  · rename_i y8 y9 y10 y11 y12; refine evP_mk ?_; refine ev_step ?_ (State.raise_ev _ _) rfl
    refine ev_step ?_ (ev_fst (State.ctrInc_ev _ _ _) y12) rfl; exact ev_refl

theorem execClearEventRecorder_ev (a0 : ClearSource) (a1 : State) :
    State.evX a1 (execClearEventRecorder a0 a1) [.regs, .pmc, .evt, .host, .ntn, .out] := by
  unfold execClearEventRecorder
  split
  · rename_i y1 y2; refine evX_done ?_; refine ev_when ?_ rfl ?_
    · exact ev_refl
    · intro x3 x4; refine ev_ite ?_ ?_
      · split
        · rename_i y5 y6 y7; refine ev_step ?_ (State.emit_ev _ _) rfl
          refine ev_step ?_ (ev_fst (State.clearRecorder_ev _ _ _) y7) rfl; assumption
        · rename_i y8 y9 y10; refine ev_step ?_ (State.emit_ev _ _) rfl
          refine ev_step ?_ (ev_fst (State.clearRecorder_ev _ _ _) y10) rfl; assumption
      · refine ev_step ?_ (State.emit_ev _ _) rfl; refine ev_step ?_ (State.raise_ev _ _) rfl; assumption
  · rename_i y11 y12 y13 y14 y15; refine evX_done ?_; unfold State.mailboxRw; unfold State.mailbox
    extract_lets +onlyGivenNames x16
    have h16 : State.evolves a1 x16 [.regs, .pmc, .evt, .host, .ntn, .out] := by
      subst x16; refine ev_step ?_ (State.begin_ev _) rfl; exact ev_refl
    clear_value x16; refine ev_ite ?_ ?_
    · refine ev_step ?_ (State.emit_ev _ _) rfl; assumption
    · refine ev_ite ?_ ?_
      · refine ev_step ?_ (State.emit_ev _ _) rfl; assumption
      · beta_reduce; refine ev_ite ?_ ?_
        · refine ev_step ?_ (State.answerMbox_ev _ _ _ _) rfl; assumption
        · refine ev_ite ?_ ?_
          · split
            · rename_i y17 y18 y19
              split
              · rename_i y20 y21 y22; refine ev_step ?_ (State.answerMbox_ev _ _ _ _) rfl
                refine ev_step ?_ (ev_fst (State.clearRecorder_ev _ _ _) y22) rfl
                refine ev_step ?_ (ev_fst (State.ctrInc_ev _ _ _) y19) rfl; assumption
              · rename_i y23 y24 y25; refine ev_step ?_ (State.answerMbox_ev _ _ _ _) rfl
                refine ev_step ?_ (ev_fst (State.clearRecorder_ev _ _ _) y25) rfl
                refine ev_step ?_ (ev_fst (State.ctrInc_ev _ _ _) y19) rfl; assumption
            · rename_i y26 y27 y28 y29 y30; refine ev_step ?_ (State.answerMbox_ev _ _ _ _) rfl
              refine ev_step ?_ (State.raise_ev _ _) rfl; refine ev_step ?_ (ev_fst (State.ctrInc_ev _ _ _) y30) rfl
              assumption
          · refine ev_step ?_ (State.answerMbox_ev _ _ _ _) rfl; refine ev_step ?_ (State.raise_ev _ _) rfl
            assumption

theorem execMsixControlWrite_ev (a0 : Nat) (a1 : Bool) (a2 : BitVec 64) (a3 : State) :
    State.evX a3 (execMsixControlWrite a0 a1 a2 a3) [.host, .out] := by
  unfold execMsixControlWrite; refine evX_done ?_; refine ev_when ?_ rfl ?_
  · exact ev_refl
  · intro x1 x2; extract_lets +onlyGivenNames x3; clear_value x3; refine ev_step ?_ (State.setHead_ev _ _ _) rfl
    assumption

theorem execClearEventRecords_ev (a0 : Nat) (a1 : Nat) (a2 : Bool) (a3 : List Nat) (a4 : State) :
    State.evX a4 (execClearEventRecords a0 a1 a2 a3 a4) [.host, .out] := by
  unfold execClearEventRecords; refine evX_done ?_; unfold State.mailbox; extract_lets +onlyGivenNames x1
  have h1 : State.evolves a4 x1 [.host, .out] := by
    subst x1; refine ev_step ?_ (State.begin_ev _) rfl; exact ev_refl
  clear_value x1; refine ev_ite ?_ ?_
  · refine ev_step ?_ (State.emit_ev _ _) rfl; assumption
  · refine ev_ite ?_ ?_
    · refine ev_step ?_ (State.emit_ev _ _) rfl; assumption
    · beta_reduce; refine ev_ite ?_ ?_
      · refine ev_step ?_ (State.answerMbox_ev _ _ _ _) rfl; assumption
      · extract_lets +onlyGivenNames x2; clear_value x2; extract_lets +onlyGivenNames x3; clear_value x3
        refine ev_ite ?_ ?_
        · refine ev_step ?_ (State.answerMbox_ev _ _ _ _) rfl; refine ev_step ?_ (State.setHead_ev _ _ _) rfl
          assumption
        · refine ev_ite ?_ ?_
          · refine ev_step ?_ (State.answerMbox_ev _ _ _ _) rfl; assumption
          · refine ev_step ?_ (State.answerMbox_ev _ _ _ _) rfl; refine ev_step ?_ (State.setHead_ev _ _ _) rfl
            assumption

theorem execSetEventInterruptPolicy_ev (a0 : Nat) (a1 : Nat) (a2 : Nat) (a3 : Nat) (a4 : Nat) (a5 : State) :
    State.evX a5 (execSetEventInterruptPolicy a0 a1 a2 a3 a4 a5) [.host, .out] := by
  unfold execSetEventInterruptPolicy; refine evX_done ?_; unfold State.mailbox; extract_lets +onlyGivenNames x1
  have h1 : State.evolves a5 x1 [.host, .out] := by
    subst x1; refine ev_step ?_ (State.begin_ev _) rfl; exact ev_refl
  clear_value x1; refine ev_ite ?_ ?_
  · refine ev_step ?_ (State.emit_ev _ _) rfl; assumption
  · refine ev_ite ?_ ?_
    · refine ev_step ?_ (State.emit_ev _ _) rfl; assumption
    · beta_reduce; refine ev_step ?_ (State.answerMbox_ev _ _ _ _) rfl; refine ev_step ?_ (State.setHead_ev _ _ _) rfl
      assumption

theorem State.reportDrops_ev (a0 : State) : State.evolves a0 (State.reportDrops a0) [.regs, .pmc, .evt, .host] := by
  unfold State.reportDrops; refine ev_ite ?_ ?_
  · exact ev_refl
  · extract_lets +onlyGivenNames x1; clear_value x1; refine ev_step ?_ (State.raise_ev _ _) rfl
    extract_lets +onlyGivenNames x2; subst x2; refine ev_evt ?_ rfl EvtState.wf_upd; exact ev_refl

theorem execEvrCntClr_ev (a0 : Nat) (a1 : State) :
    State.evX a1 (execEvrCntClr a0 a1) [.regs, .pmc, .evt, .host, .out] := by
  unfold execEvrCntClr; refine evX_done ?_; unfold State.barWrite; extract_lets +onlyGivenNames x1
  have h1 : State.evolves a1 x1 [.regs, .pmc, .evt, .host, .out] := by
    subst x1; refine ev_step ?_ (State.begin_ev _) rfl; exact ev_refl
  clear_value x1; refine ev_ite ?_ ?_
  · refine ev_step ?_ (State.emit_ev _ _) rfl; assumption
  · refine ev_ite ?_ ?_
    · refine ev_step ?_ (State.accessErr_ev _ _ _ _ _ _) rfl; assumption
    · beta_reduce; refine ev_step ?_ (State.setReg_ev _ _ _) rfl; assumption

theorem execGetEventRecords_ev (a0 : Nat) (a1 : Nat) (a2 : State) :
    State.evX a2 (execGetEventRecords a0 a1 a2) [.out] := by
  unfold execGetEventRecords; refine evX_done ?_; unfold State.mailbox; extract_lets +onlyGivenNames x1
  have h1 : State.evolves a2 x1 [.out] := by
    subst x1; refine ev_step ?_ (State.begin_ev _) rfl; exact ev_refl
  clear_value x1; refine ev_ite ?_ ?_
  · refine ev_step ?_ (State.emit_ev _ _) rfl; assumption
  · refine ev_ite ?_ ?_
    · refine ev_step ?_ (State.emit_ev _ _) rfl; assumption
    · beta_reduce; refine ev_ite ?_ ?_
      · refine ev_step ?_ (State.answerMbox_ev _ _ _ _) rfl; assumption
      · extract_lets +onlyGivenNames x2; clear_value x2; refine ev_step ?_ (State.answerMbox_ev _ _ _ _) rfl
        assumption

theorem execGetAlertConfiguration_ev (a0 : Nat) (a1 : State) :
    State.evX a1 (execGetAlertConfiguration a0 a1) [.evt, .host, .ntn, .out] := by
  unfold execGetAlertConfiguration; refine evX_done ?_; unfold State.mailbox; extract_lets +onlyGivenNames x1
  have h1 : State.evolves a1 x1 [.evt, .host, .ntn, .out] := by
    subst x1; refine ev_step ?_ (State.begin_ev _) rfl; exact ev_refl
  clear_value x1; refine ev_ite ?_ ?_
  · refine ev_step ?_ (State.emit_ev _ _) rfl; assumption
  · refine ev_ite ?_ ?_
    · refine ev_step ?_ (State.emit_ev _ _) rfl; assumption
    · beta_reduce; extract_lets +onlyGivenNames x2
      have h2 : State.evolves a1 x2 [.evt, .host, .ntn, .out] := by
        subst x2; refine ev_step ?_ (State.checkAlerts_ev _) rfl; assumption
      clear_value x2; refine ev_step ?_ (State.answerMbox_ev _ _ _ _) rfl; assumption

theorem execRepeatWriteback_ev (a0 : State) : State.evX a0 (execRepeatWriteback a0) [.evt, .out] := by
  unfold execRepeatWriteback; refine evX_done ?_; refine ev_when ?_ rfl ?_
  · exact ev_refl
  · intro x1 x2; refine ev_step ?_ (State.writeBackFold_ev _) rfl; assumption

theorem execEventRecordWrite_ev (a0 : State) :
    State.evX a0 (execEventRecordWrite a0) [.regs, .pmc, .evt, .host, .ntn, .out] := by
  unfold execEventRecordWrite; refine evX_done ?_; refine ev_when ?_ rfl ?_
  · exact ev_refl
  · intro x1 x2
    split
    · rename_i y3 y4; refine ev_step ?_ (State.checkAlerts_ev _) rfl; assumption
    · rename_i y5 y6 y7 y8; extract_lets +onlyGivenNames x9; subst x9; extract_lets +onlyGivenNames x10
      have h10 : State.evolves a0 x10 [.regs, .pmc, .evt, .host, .ntn, .out] := by
        subst x10; refine ev_evt ?_ rfl EvtState.wf_upd; assumption
      clear_value x10; extract_lets +onlyGivenNames x11
      have h11 : State.evolves a0 x11 [.regs, .pmc, .evt, .host, .ntn, .out] := by
        subst x11; refine ev_ite ?_ ?_
        · refine ev_step ?_ (State.foldRecord_ev _) rfl; assumption
        · refine ev_step ?_ (State.writeRecord_ev _ _) rfl; assumption
      clear_value x11; refine ev_step ?_ (State.checkAlerts_ev _) rfl; refine ev_step ?_ (State.reportDrops_ev _) rfl
      assumption

theorem execMsixSend_ev (a0 : Nat) (a1 : Nat) (a2 : State) : State.evX a2 (execMsixSend a0 a1 a2) [.host, .out] := by
  unfold execMsixSend; extract_lets +onlyGivenNames x1; clear_value x1
  extract_lets +onlyGivenNames x2; clear_value x2; refine evX_done ?_; refine ev_when ?_ rfl ?_
  · exact ev_refl
  · intro x3 x4; refine ev_step ?_ (State.emit_ev _ _) rfl; refine ev_step ?_ (State.setHead_ev _ _ _) rfl; assumption

theorem execGetEventInterruptPolicy_ev (a0 : Nat) (a1 : State) :
    State.evX a1 (execGetEventInterruptPolicy a0 a1) [.out] := by
  unfold execGetEventInterruptPolicy; refine evX_done ?_; unfold State.mailbox; extract_lets +onlyGivenNames x1
  have h1 : State.evolves a1 x1 [.out] := by
    subst x1; refine ev_step ?_ (State.begin_ev _) rfl; exact ev_refl
  clear_value x1; refine ev_ite ?_ ?_
  · refine ev_step ?_ (State.emit_ev _ _) rfl; assumption
  · refine ev_ite ?_ ?_
    · refine ev_step ?_ (State.emit_ev _ _) rfl; assumption
    · beta_reduce; refine ev_step ?_ (State.answerMbox_ev _ _ _ _) rfl; assumption

end Sys2Proof.Machine
end

