-- ==== Sys2Proof/Laws/EvPower.lean ====
section
/-!
SUPPORT. What each operation of Machine/Power.lean may change: its parts of the state, and that the register stores stay
canonical.
-/
set_option Elab.async false
namespace Sys2Proof.Machine

theorem execRailQualified_ev (a0 : State) : State.evX a0 (execRailQualified a0) [.pwr, .out] := by
  unfold execRailQualified; refine evX_done ?_; refine ev_when ?_ rfl ?_
  · exact ev_refl
  · intro x1 x2; extract_lets +onlyGivenNames x3; clear_value x3; refine ev_pwr ?_ rfl; assumption

theorem execMemoryActive_ev (a0 : State) : State.evX a0 (execMemoryActive a0) [.host, .out] := by
  unfold execMemoryActive; refine evX_done ?_; refine ev_when ?_ rfl ?_
  · exact ev_refl
  · intro x1 x2; extract_lets +onlyGivenNames x3; subst x3; refine ev_host ?_ rfl HostState.wf_upd; assumption

theorem State.checkMarker_ev (a0 : State) :
    State.evolves a0 (State.checkMarker a0) [.regs, .pmc, .evt, .host, .map, .wp, .ntn] := by
  unfold State.checkMarker; refine ev_ite ?_ ?_
  · extract_lets +onlyGivenNames x1
    have h1 : State.evolves a0 x1 [.regs, .pmc, .evt, .host, .map, .wp, .ntn] := by
      subst x1; refine ev_fst1 ?_; refine evP_step ?_ (State.ctrInc_ev _ _ _) rfl; exact ev_refl
    clear_value x1; extract_lets +onlyGivenNames x2; subst x2; extract_lets +onlyGivenNames x3; subst x3
    extract_lets +onlyGivenNames x4
    have h4 : State.evolves a0 x4 [.regs, .pmc, .evt, .host, .map, .wp, .ntn] := by
      subst x4
      refine ev_updW ?_ id id MapState.wf_upd WriteState.wf_upd id id id id id id (by intro p; cases p <;> first | exact .inl (by decide) | exact .inr rfl | exact .inr ⟨rfl, rfl⟩)
      assumption
    clear_value x4; refine ev_step ?_ (State.raise_ev _ _) rfl; assumption
  · exact ev_refl

theorem State.recorderStart_ev (a0 : State) : State.evolves a0 (State.recorderStart a0) [.evt] := by
  unfold State.recorderStart; extract_lets +onlyGivenNames x1; clear_value x1
  extract_lets +onlyGivenNames x2; subst x2; refine ev_evt ?_ rfl EvtState.wf_upd; exact ev_refl

theorem State.coreUp_ev (a0 : State) :
    State.evolves a0 (State.coreUp a0) [.regs, .pmc, .time, .evt, .host, .fch, .swt, .map, .wp, .cry, .ntn, .upk, .pwr, .fwu, .side] := by
  unfold State.coreUp; extract_lets +onlyGivenNames x1; clear_value x1; extract_lets +onlyGivenNames x2; subst x2
  extract_lets +onlyGivenNames x3; clear_value x3; extract_lets +onlyGivenNames x4; clear_value x4
  extract_lets +onlyGivenNames x5
  have h5 : State.evolves a0 x5 [.regs, .pmc, .time, .evt, .host, .fch, .swt, .map, .wp, .cry, .ntn, .upk, .pwr, .fwu, .side] := by
    subst x5
    refine ev_updW ?_ id id id id id id id id id UpkState.wf_upd (by intro p; cases p <;> first | exact .inl (by decide) | exact .inr rfl | exact .inr ⟨rfl, rfl⟩)
    exact ev_refl
  clear_value x5; extract_lets +onlyGivenNames x6
  have h6 : State.evolves a0 x6 [.regs, .pmc, .time, .evt, .host, .fch, .swt, .map, .wp, .cry, .ntn, .upk, .pwr, .fwu, .side] := by
    subst x6; refine ev_step ?_ (State.checkMarker_ev _) rfl; refine ev_step ?_ (State.recorderStart_ev _) rfl
    assumption
  clear_value x6; extract_lets +onlyGivenNames x7; clear_value x7; extract_lets +onlyGivenNames x8; subst x8
  extract_lets +onlyGivenNames x9; clear_value x9; extract_lets +onlyGivenNames x10; subst x10
  extract_lets +onlyGivenNames x11; subst x11; extract_lets +onlyGivenNames x12
  have h12 : State.evolves a0 x12 [.regs, .pmc, .time, .evt, .host, .fch, .swt, .map, .wp, .cry, .ntn, .upk, .pwr, .fwu, .side] := by
    subst x12
    refine ev_updW ?_ id (fun w => by dsimp only [HostState.wf]; exact Tab.wf_mapVals _ _ _ w) MapState.wf_upd id CryState.wf_upd id id id id id (by intro p; cases p <;> first | exact .inl (by decide) | exact .inr rfl | exact .inr ⟨rfl, rfl⟩)
    assumption
  clear_value x12; refine ev_step ?_ (State.romStart_ev _) rfl; refine ev_step ?_ (State.restoreWindow_ev _ _) rfl
  refine ev_step ?_ (State.raise_ev _ _) rfl; assumption

theorem State.reachOn_ev (a0 : State) :
    State.evolves a0 (State.reachOn a0) [.regs, .pmc, .time, .evt, .host, .fch, .swt, .map, .wp, .cry, .ntn, .upk, .pwr, .thm, .fwu, .side] := by
  unfold State.reachOn; extract_lets +onlyGivenNames x1; clear_value x1; extract_lets +onlyGivenNames x2
  have h2 : State.evolves a0 x2 [.regs, .pmc, .time, .evt, .host, .fch, .swt, .map, .wp, .cry, .ntn, .upk, .pwr, .thm, .fwu, .side] := by
    subst x2; refine ev_fst1 ?_; refine evP_step ?_ (State.ctrInc_ev _ _ _) rfl; exact ev_refl
  clear_value x2; extract_lets +onlyGivenNames x3; clear_value x3; extract_lets +onlyGivenNames x4; clear_value x4
  extract_lets +onlyGivenNames x5
  have h5 : State.evolves a0 x5 [.regs, .pmc, .time, .evt, .host, .fch, .swt, .map, .wp, .cry, .ntn, .upk, .pwr, .thm, .fwu, .side] := by
    subst x5
    refine ev_updW ?_ id id id id id id id id id id (by intro p; cases p <;> first | exact .inl (by decide) | exact .inr rfl | exact .inr ⟨rfl, rfl⟩)
    assumption
  clear_value x5; extract_lets +onlyGivenNames x6
  have h6 : State.evolves a0 x6 [.regs, .pmc, .time, .evt, .host, .fch, .swt, .map, .wp, .cry, .ntn, .upk, .pwr, .thm, .fwu, .side] := by
    subst x6; refine ev_step ?_ (State.coreUp_ev _) rfl; refine ev_step ?_ (State.raise_ev _ _) rfl; assumption
  clear_value x6; refine ev_ite ?_ ?_
  · refine ev_step ?_ (State.setEvtBit_ev _ _) rfl; assumption
  · assumption

theorem State.cacheDown_ev (a0 : State) : State.evolves a0 (State.cacheDown a0) [.fch, .swt, .xq, .rd] := by
  unfold State.cacheDown; extract_lets +onlyGivenNames x1; clear_value x1
  extract_lets +onlyGivenNames x2; clear_value x2; extract_lets +onlyGivenNames x3; clear_value x3
  refine ev_updW ?_ id id id id id id id id id id (by intro p; cases p <;> first | exact .inl (by decide) | exact .inr rfl | exact .inr ⟨rfl, rfl⟩)
  exact ev_refl

theorem execQueuedFlushStart_ev (a0 : State) :
    State.evX a0 (execQueuedFlushStart a0) [.regs, .pmc, .evt, .host, .fch, .wp, .warp, .upk, .pwr, .out] := by
  unfold execQueuedFlushStart; refine evX_done ?_; refine ev_when ?_ rfl ?_
  · exact ev_refl
  · intro x1 x2
    split
    · rename_i y3 y4; assumption
    · rename_i y5 y6 y7 y8; refine ev_step ?_ (State.beginFlush_ev _ _) rfl; extract_lets +onlyGivenNames x9; subst x9
      refine ev_wp ?_ rfl WriteState.wf_upd; assumption

theorem State.stagingDown_ev (a0 : State) : State.evolves a0 (State.stagingDown a0) [.wp] := by
  unfold State.stagingDown; extract_lets +onlyGivenNames x1; subst x1; extract_lets +onlyGivenNames x2; subst x2
  refine ev_wp ?_ rfl (fun w => by dsimp only [WriteState.wf]; exact Tab.wf_mapVals _ _ _ w); exact ev_refl

theorem State.enginesDown_ev (a0 : State) :
    State.evolves a0 (State.enginesDown a0) [.cry, .epo, .ntn, .warp, .upk, .flt] := by
  unfold State.enginesDown; extract_lets +onlyGivenNames x1; subst x1; extract_lets +onlyGivenNames x2; subst x2
  extract_lets +onlyGivenNames x3; subst x3; extract_lets +onlyGivenNames x4; subst x4
  extract_lets +onlyGivenNames x5; clear_value x5
  refine ev_updW ?_ id id id id (fun w => by dsimp only [CryState.wf]; exact Tab.wf_mapVals _ _ _ w) (fun w => by dsimp only [EpoState.wf]; exact Tab.wf_mapVals _ _ _ w) NotionState.wf_upd (fun w => by dsimp only [WarpState.wf]; exact rfl) id (fun z => (UpkState.wf_iff _).mpr (by have w := (UpkState.wf_iff _).mp z; dsimp only; exact ⟨⟨⟨w.1.1.1, Tab.wf_mapVals _ _ _ w.1.1.2⟩, w.1.2⟩, w.2⟩)) (by intro p; cases p <;> first | exact .inl (by decide) | exact .inr rfl | exact .inr ⟨rfl, rfl⟩)
  exact ev_refl

theorem State.thermalDown_ev (a0 : State) : State.evolves a0 (State.thermalDown a0) [.thm] := by
  unfold State.thermalDown; extract_lets +onlyGivenNames x1; clear_value x1; refine ev_thm ?_ rfl; exact ev_refl

theorem State.resetRegs_ev (a0 : State) (a1 : Nat → Bool) :
    State.evolves a0 (State.resetRegs a0 a1) [.regs, .pmc, .route] := by
  unfold State.resetRegs; extract_lets +onlyGivenNames x1; clear_value x1; extract_lets +onlyGivenNames x2
  have h2 : State.evolves a0 x2 [.regs, .pmc, .route] := by
    subst x2; refine ev_step ?_ (State.dropRegs_ev _ _) rfl; exact ev_refl
  clear_value x2; refine ev_step ?_ (State.setFld_ev _ _ _) rfl; refine ev_step ?_ (State.setReg_ev _ _ _) rfl
  assumption

theorem State.mediaDown_ev (a0 : State) : State.evolves a0 (State.mediaDown a0) [.link, .pwr] := by
  unfold State.mediaDown; extract_lets +onlyGivenNames x1; clear_value x1; extract_lets +onlyGivenNames x2
  have h2 : State.evolves a0 x2 [.link, .pwr] := by
    subst x2; refine ev_pwr ?_ rfl; exact ev_refl
  clear_value x2; extract_lets +onlyGivenNames x3; clear_value x3; extract_lets +onlyGivenNames x4; subst x4
  extract_lets +onlyGivenNames x5; subst x5
  refine ev_link ?_ rfl (fun w => by dsimp only [LinkSt.wf]; exact Tab.wf_mapVals _ _ _ w); assumption

theorem State.headsDown_ev (a0 : State) : State.evolves a0 (State.headsDown a0) [.host] := by
  unfold State.headsDown; extract_lets +onlyGivenNames x1; subst x1
  refine ev_host ?_ rfl (fun w => by dsimp only [HostState.wf]; exact Tab.wf_mapVals _ _ _ w); exact ev_refl

theorem State.coreDown_ev (a0 : State) (a1 : Nat → Bool) (a2 : Bool) :
    State.evolves a0 (State.coreDown a0 a1 a2) [.regs, .pmc, .route, .time, .host, .fch, .swt, .xq, .map, .wp, .rd, .cry, .epo, .ntn, .warp, .link, .upk, .flt, .pwr, .thm, .fwu, .side] := by
  unfold State.coreDown; extract_lets +onlyGivenNames x1
  have h1 : State.evolves a0 x1 [.regs, .pmc, .route, .time, .host, .fch, .swt, .xq, .map, .wp, .rd, .cry, .epo, .ntn, .warp, .link, .upk, .flt, .pwr, .thm, .fwu, .side] := by
    subst x1; refine ev_step ?_ (State.cacheDown_ev _) rfl; refine ev_step ?_ (State.stagingDown_ev _) rfl
    refine ev_step ?_ (State.mapDown_ev _) rfl; exact ev_refl
  clear_value x1; extract_lets +onlyGivenNames x2
  have h2 : State.evolves a0 x2 [.regs, .pmc, .route, .time, .host, .fch, .swt, .xq, .map, .wp, .rd, .cry, .epo, .ntn, .warp, .link, .upk, .flt, .pwr, .thm, .fwu, .side] := by
    subst x2; refine ev_step ?_ (State.enginesDown_ev _) rfl; assumption
  clear_value x2; extract_lets +onlyGivenNames x3
  have h3 : State.evolves a0 x3 [.regs, .pmc, .route, .time, .host, .fch, .swt, .xq, .map, .wp, .rd, .cry, .epo, .ntn, .warp, .link, .upk, .flt, .pwr, .thm, .fwu, .side] := by
    subst x3; refine ev_ite ?_ ?_
    · refine ev_step ?_ (State.thermalDown_ev _) rfl; assumption
    · assumption
  clear_value x3; extract_lets +onlyGivenNames x4
  have h4 : State.evolves a0 x4 [.regs, .pmc, .route, .time, .host, .fch, .swt, .xq, .map, .wp, .rd, .cry, .epo, .ntn, .warp, .link, .upk, .flt, .pwr, .thm, .fwu, .side] := by
    subst x4; refine ev_step ?_ (State.resetRegs_ev _ _) rfl; refine ev_step ?_ (State.mediaDown_ev _) rfl
    refine ev_step ?_ (State.headsDown_ev _) rfl; assumption
  clear_value x4; extract_lets +onlyGivenNames x5; clear_value x5; extract_lets +onlyGivenNames x6; clear_value x6
  extract_lets +onlyGivenNames x7; clear_value x7
  refine ev_updW ?_ id id id id id id id id id id (by intro p; cases p <;> first | exact .inl (by decide) | exact .inr rfl | exact .inr ⟨rfl, rfl⟩)
  assumption

theorem State.holdReset_ev (a0 : State) :
    State.evolves a0 (State.holdReset a0) [.regs, .pmc, .route, .time, .host, .fch, .swt, .xq, .map, .wp, .rd, .cry, .epo, .ntn, .warp, .link, .upk, .flt, .pwr, .thm, .fwu, .side] := by
  unfold State.holdReset; extract_lets +onlyGivenNames x1
  have h1 : State.evolves a0 x1 [.regs, .pmc, .route, .time, .host, .fch, .swt, .xq, .map, .wp, .rd, .cry, .epo, .ntn, .warp, .link, .upk, .flt, .pwr, .thm, .fwu, .side] := by
    subst x1; refine ev_step ?_ (State.coreDown_ev _ _ _) rfl; exact ev_refl
  clear_value x1; extract_lets +onlyGivenNames x2; clear_value x2; refine ev_pwr ?_ rfl; assumption

theorem State.startDevReset_ev (a0 : State) :
    State.evolves a0 (State.startDevReset a0) [.regs, .pmc, .evt, .host, .fch, .wp, .warp, .upk, .pwr] := by
  unfold State.startDevReset; refine ev_step ?_ (State.requestFlush_ev _ _) rfl
  extract_lets +onlyGivenNames x1; clear_value x1; refine ev_pwr ?_ rfl; exact ev_refl

theorem execDevReset_ev (a0 : Nat) (a1 : Nat) (a2 : State) :
    State.evX a2 (execDevReset a0 a1 a2) [.regs, .pmc, .evt, .host, .fch, .wp, .warp, .upk, .pwr, .fwu, .out] := by
  unfold execDevReset; refine evX_done ?_; unfold State.barWrite; extract_lets +onlyGivenNames x1
  have h1 : State.evolves a2 x1 [.regs, .pmc, .evt, .host, .fch, .wp, .warp, .upk, .pwr, .fwu, .out] := by
    subst x1; refine ev_step ?_ (State.begin_ev _) rfl; exact ev_refl
  clear_value x1; refine ev_ite ?_ ?_
  · refine ev_step ?_ (State.emit_ev _ _) rfl; assumption
  · refine ev_ite ?_ ?_
    · refine ev_step ?_ (State.accessErr_ev _ _ _ _ _ _) rfl; assumption
    · beta_reduce; refine ev_ite ?_ ?_
      · refine ev_step ?_ (State.raise_ev _ _) rfl; assumption
      · refine ev_ite ?_ ?_
        · extract_lets +onlyGivenNames x2; clear_value x2; refine ev_fwu ?_ rfl; assumption
        · refine ev_step ?_ (State.startDevReset_ev _) rfl; assumption

theorem State.offInOn_ev (a0 : State) (a1 : OffWhy) :
    State.evolves a0 (State.offInOn a0 a1) [.regs, .pmc, .evt, .host, .fch, .wp, .warp, .upk, .pwr] := by
  unfold State.offInOn; extract_lets +onlyGivenNames x1; clear_value x1; extract_lets +onlyGivenNames x2
  have h2 : State.evolves a0 x2 [.regs, .pmc, .evt, .host, .fch, .wp, .warp, .upk, .pwr] := by
    subst x2; refine ev_pwr ?_ rfl; exact ev_refl
  clear_value x2
  split
  · rename_i y3 y4; extract_lets +onlyGivenNames x5; clear_value x5; refine ev_pwr ?_ rfl; assumption
  · rename_i y6 y7; extract_lets +onlyGivenNames x8; clear_value x8; refine ev_pwr ?_ rfl; assumption
  · rename_i y9 y10 y11; refine ev_step ?_ (State.requestFlush_ev _ _) rfl
    extract_lets +onlyGivenNames x12; clear_value x12; refine ev_pwr ?_ rfl; assumption

theorem execSeqUpInFall_ev (a0 : State) :
    State.evX a0 (execSeqUpInFall a0) [.regs, .pmc, .evt, .host, .fch, .wp, .warp, .upk, .pwr, .out] := by
  unfold execSeqUpInFall; refine evX_done ?_; refine ev_when ?_ rfl ?_
  · exact ev_refl
  · intro x1 x2; extract_lets +onlyGivenNames x3; clear_value x3; extract_lets +onlyGivenNames x4
    have h4 : State.evolves a0 x4 [.regs, .pmc, .evt, .host, .fch, .wp, .warp, .upk, .pwr, .out] := by
      subst x4; refine ev_pwr ?_ rfl; assumption
    clear_value x4
    split
    · rename_i y5 y6; extract_lets +onlyGivenNames x7; clear_value x7; refine ev_pwr ?_ rfl; assumption
    · rename_i y8 y9; refine ev_step ?_ (State.offInOn_ev _ _) rfl; assumption
    · rename_i y10 y11; extract_lets +onlyGivenNames x12; clear_value x12; refine ev_pwr ?_ rfl; assumption
    · rename_i y13 y14; extract_lets +onlyGivenNames x15; clear_value x15; refine ev_pwr ?_ rfl; assumption
    · rename_i y16 y17 y18 y19 y20; assumption

theorem State.pwrEvent_ev (a0 : State) (a1 : Evt) (a2 : Nat) :
    State.evolves a0 (State.pwrEvent a0 a1 a2) [.regs, .pmc, .evt, .host] := by
  unfold State.pwrEvent; refine ev_step ?_ (State.raiseN_ev _ _ _ _) rfl; exact ev_refl

theorem State.railCount_ev (a0 : State) (a1 : Nat) (a2 : Nat) :
    State.evolves a0 (State.railCount a0 a1 a2) [.regs, .pmc, .evt, .host, .ntn] := by
  unfold State.railCount; refine ev_fst1 ?_; refine evP_step ?_ (State.ctrIncField_ev _ _ _) rfl; exact ev_refl

theorem State.stopRail_ev (a0 : State) (a1 : Nat) : State.evolves a0 (State.stopRail a0 a1) [.pwr] := by
  unfold State.stopRail; extract_lets +onlyGivenNames x1; clear_value x1; refine ev_pwr ?_ rfl; exact ev_refl

theorem State.nextDown_ev (a0 : State) : State.evolves a0 (State.nextDown a0) [.pwr] := by
  unfold State.nextDown
  split
  · rename_i y1 y2 y3 y4; refine ev_step ?_ (State.stopRail_ev _ _) rfl; exact ev_refl
  · rename_i y5 y6; extract_lets +onlyGivenNames x7; clear_value x7; refine ev_pwr ?_ rfl; exact ev_refl

theorem State.rampDown_ev (a0 : State) (a1 : Option Nat) (a2 : OffWhy) :
    State.evolves a0 (State.rampDown a0 a1 a2) [.regs, .pmc, .route, .time, .host, .fch, .swt, .xq, .map, .wp, .rd, .cry, .epo, .ntn, .warp, .link, .upk, .flt, .pwr, .thm, .fwu, .side] := by
  unfold State.rampDown; extract_lets +onlyGivenNames x1; clear_value x1
  extract_lets +onlyGivenNames x2; clear_value x2; extract_lets +onlyGivenNames x3
  have h3 : State.evolves a0 x3 [.regs, .pmc, .route, .time, .host, .fch, .swt, .xq, .map, .wp, .rd, .cry, .epo, .ntn, .warp, .link, .upk, .flt, .pwr, .thm, .fwu, .side] := by
    subst x3; refine ev_ite ?_ ?_
    · refine ev_step ?_ (State.coreDown_ev _ _ _) rfl; exact ev_refl
    · refine ev_step ?_ (State.mediaDown_ev _) rfl; exact ev_refl
  clear_value x3; refine ev_step ?_ (State.nextDown_ev _) rfl; extract_lets +onlyGivenNames x4; clear_value x4
  refine ev_pwr ?_ rfl; assumption

theorem State.seqAbort_ev (a0 : State) (a1 : Nat) :
    State.evolves a0 (State.seqAbort a0 a1) [.regs, .pmc, .route, .time, .evt, .host, .fch, .swt, .xq, .map, .wp, .rd, .cry, .epo, .ntn, .warp, .link, .upk, .flt, .pwr, .thm, .fwu, .side] := by
  unfold State.seqAbort; extract_lets +onlyGivenNames x1
  have h1 : State.evolves a0 x1 [.regs, .pmc, .route, .time, .evt, .host, .fch, .swt, .xq, .map, .wp, .rd, .cry, .epo, .ntn, .warp, .link, .upk, .flt, .pwr, .thm, .fwu, .side] := by
    subst x1; refine ev_fst1 ?_; refine evP_step ?_ (State.ctrInc_ev _ _ _) rfl; exact ev_refl
  clear_value x1; extract_lets +onlyGivenNames x2
  have h2 : State.evolves a0 x2 [.regs, .pmc, .route, .time, .evt, .host, .fch, .swt, .xq, .map, .wp, .rd, .cry, .epo, .ntn, .warp, .link, .upk, .flt, .pwr, .thm, .fwu, .side] := by
    subst x2; refine ev_step ?_ (State.pwrEvent_ev _ _ _) rfl; assumption
  clear_value x2; refine ev_step ?_ (State.rampDown_ev _ _ _) rfl; extract_lets +onlyGivenNames x3; clear_value x3
  refine ev_pwr ?_ rfl; assumption

theorem State.chatter_ev (a0 : State) (a1 : Nat) :
    State.evolves a0 (State.chatter a0 a1) [.regs, .pmc, .route, .time, .evt, .host, .fch, .swt, .xq, .map, .wp, .rd, .cry, .epo, .ntn, .warp, .link, .upk, .flt, .pwr, .thm, .fwu, .side] := by
  unfold State.chatter; extract_lets +onlyGivenNames x1; clear_value x1
  extract_lets +onlyGivenNames x2; clear_value x2; extract_lets +onlyGivenNames x3
  have h3 : State.evolves a0 x3 [.regs, .pmc, .route, .time, .evt, .host, .fch, .swt, .xq, .map, .wp, .rd, .cry, .epo, .ntn, .warp, .link, .upk, .flt, .pwr, .thm, .fwu, .side] := by
    subst x3; refine ev_step ?_ (State.pwrEvent_ev _ _ _) rfl; refine ev_step ?_ (State.railCount_ev _ _ _) rfl
    refine ev_pwr ?_ rfl; exact ev_refl
  clear_value x3; refine ev_ite ?_ ?_
  · refine ev_step ?_ (State.seqAbort_ev _ _) rfl; assumption
  · assumption

theorem State.enterWaitDn_ev (a0 : State) :
    State.evolves a0 (State.enterWaitDn a0) [.regs, .pmc, .route, .time, .host, .fch, .swt, .xq, .map, .wp, .rd, .cry, .epo, .ntn, .warp, .link, .upk, .flt, .pwr, .thm, .fwu, .side] := by
  unfold State.enterWaitDn; extract_lets +onlyGivenNames x1
  have h1 : State.evolves a0 x1 [.regs, .pmc, .route, .time, .host, .fch, .swt, .xq, .map, .wp, .rd, .cry, .epo, .ntn, .warp, .link, .upk, .flt, .pwr, .thm, .fwu, .side] := by
    subst x1; refine ev_step ?_ (State.coreDown_ev _ _ _) rfl; exact ev_refl
  clear_value x1; extract_lets +onlyGivenNames x2; clear_value x2; extract_lets +onlyGivenNames x3
  have h3 : State.evolves a0 x3 [.regs, .pmc, .route, .time, .host, .fch, .swt, .xq, .map, .wp, .rd, .cry, .epo, .ntn, .warp, .link, .upk, .flt, .pwr, .thm, .fwu, .side] := by
    subst x3; refine ev_pwr ?_ rfl; assumption
  clear_value x3; refine ev_ite ?_ ?_
  · refine ev_step ?_ (State.rampDown_ev _ _ _) rfl; assumption
  · assumption

theorem State.afterFlush_ev (a0 : State) (a1 : FlushKind) :
    State.evolves a0 (State.afterFlush a0 a1) [.regs, .pmc, .route, .time, .host, .fch, .swt, .xq, .map, .wp, .rd, .cry, .epo, .ntn, .warp, .link, .upk, .flt, .pwr, .thm, .fwu, .side] := by
  unfold State.afterFlush
  split
  · rename_i y1; refine ev_step ?_ (State.rampDown_ev _ _ _) rfl; exact ev_refl
  · rename_i y2; refine ev_step ?_ (State.enterWaitDn_ev _) rfl; exact ev_refl
  · rename_i y3; refine ev_ite ?_ ?_
    · refine ev_step ?_ (State.enterWaitDn_ev _) rfl; exact ev_refl
    · refine ev_step ?_ (State.holdReset_ev _) rfl; exact ev_refl
  · rename_i y4 y5; refine ev_step ?_ (State.startSched_ev _) rfl; exact ev_refl
  · rename_i y6; refine ev_step ?_ (State.startSched_ev _) rfl; exact ev_refl

theorem State.startRail_ev (a0 : State) (a1 : Nat) : State.evolves a0 (State.startRail a0 a1) [.pwr] := by
  unfold State.startRail; extract_lets +onlyGivenNames x1; clear_value x1; refine ev_pwr ?_ rfl; exact ev_refl

theorem execRailSettled_ev (a0 : State) :
    State.evX a0 (execRailSettled a0) [.regs, .pmc, .route, .time, .evt, .host, .fch, .swt, .xq, .map, .wp, .rd, .cry, .epo, .ntn, .warp, .link, .upk, .flt, .pwr, .thm, .fwu, .side, .out] := by
  unfold execRailSettled; refine evX_done ?_; refine ev_when ?_ rfl ?_
  · exact ev_refl
  · intro x1 x2; extract_lets +onlyGivenNames x3; clear_value x3; extract_lets +onlyGivenNames x4
    have h4 : State.evolves a0 x4 [.regs, .pmc, .route, .time, .evt, .host, .fch, .swt, .xq, .map, .wp, .rd, .cry, .epo, .ntn, .warp, .link, .upk, .flt, .pwr, .thm, .fwu, .side, .out] := by
      subst x4; refine ev_pwr ?_ rfl; assumption
    clear_value x4; refine ev_ite ?_ ?_
    · refine ev_step ?_ (State.rampDown_ev _ _ _) rfl; assumption
    · split
      · rename_i y5 y6 y7; refine ev_step ?_ (State.startRail_ev _ _) rfl; assumption
      · rename_i y8 y9; refine ev_step ?_ (State.reachOn_ev _) rfl; assumption

theorem State.toPowerFail_ev (a0 : State) (a1 : Flush) :
    State.evolves a0 (State.toPowerFail a0 a1) [.regs, .pmc, .evt, .host, .fch, .wp, .warp, .upk, .pwr] := by
  unfold State.toPowerFail; extract_lets +onlyGivenNames x1; clear_value x1
  extract_lets +onlyGivenNames x2; clear_value x2; extract_lets +onlyGivenNames x3; clear_value x3
  extract_lets +onlyGivenNames x4
  have h4 : State.evolves a0 x4 [.regs, .pmc, .evt, .host, .fch, .wp, .warp, .upk, .pwr] := by
    subst x4; refine ev_step ?_ (State.dropUpkeep_ev _) rfl; exact ev_refl
  clear_value x4; extract_lets +onlyGivenNames x5; clear_value x5; extract_lets +onlyGivenNames x6
  have h6 : State.evolves a0 x6 [.regs, .pmc, .evt, .host, .fch, .wp, .warp, .upk, .pwr] := by
    subst x6; refine ev_pwr ?_ rfl; assumption
  clear_value x6; extract_lets +onlyGivenNames x7; subst x7; extract_lets +onlyGivenNames x8
  have h8 : State.evolves a0 x8 [.regs, .pmc, .evt, .host, .fch, .wp, .warp, .upk, .pwr] := by
    subst x8; refine ev_wp ?_ rfl WriteState.wf_upd; assumption
  clear_value x8; extract_lets +onlyGivenNames x9
  have h9 : State.evolves a0 x9 [.regs, .pmc, .evt, .host, .fch, .wp, .warp, .upk, .pwr] := by
    subst x9; refine ev_foldl ?_ ?_
    · assumption
    · intro x10 x11 x12; refine ev_step ?_ (State.hand_ev _ _) rfl; assumption
  clear_value x9; refine ev_ite ?_ ?_
  · refine ev_step ?_ (State.padAll_ev _) rfl; assumption
  · assumption

theorem State.enterPfFlush_ev (a0 : State) :
    State.evolves a0 (State.enterPfFlush a0) [.regs, .pmc, .evt, .host, .fch, .wp, .ntn, .warp, .upk, .pwr] := by
  unfold State.enterPfFlush; extract_lets +onlyGivenNames x1
  have h1 : State.evolves a0 x1 [.regs, .pmc, .evt, .host, .fch, .wp, .ntn, .warp, .upk, .pwr] := by
    subst x1; refine ev_fst1 ?_; refine evP_step ?_ (State.ctrInc_ev _ _ _) rfl; exact ev_refl
  clear_value x1; extract_lets +onlyGivenNames x2; clear_value x2; extract_lets +onlyGivenNames x3
  have h3 : State.evolves a0 x3 [.regs, .pmc, .evt, .host, .fch, .wp, .ntn, .warp, .upk, .pwr] := by
    subst x3; refine ev_pwr ?_ rfl; assumption
  clear_value x3; extract_lets +onlyGivenNames x4
  have h4 : State.evolves a0 x4 [.regs, .pmc, .evt, .host, .fch, .wp, .ntn, .warp, .upk, .pwr] := by
    subst x4
    split
    · rename_i y5 y6 y7; refine ev_step ?_ (State.toPowerFail_ev _ _) rfl; assumption
    · rename_i y8 y9; refine ev_step ?_ (State.beginFlush_ev _ _) rfl; assumption
  clear_value x4; extract_lets +onlyGivenNames x10; subst x10
  refine ev_host ?_ rfl (fun w => by dsimp only [HostState.wf]; exact Tab.wf_mapVals _ _ _ w); assumption

theorem execRailLost_ev (a0 : Nat) (a1 : State) :
    State.evX a1 (execRailLost a0 a1) [.regs, .pmc, .route, .time, .evt, .host, .fch, .swt, .xq, .map, .wp, .rd, .cry, .epo, .ntn, .warp, .link, .upk, .flt, .pwr, .thm, .fwu, .side, .out] := by
  unfold execRailLost; refine evX_done ?_; refine ev_when ?_ rfl ?_
  · exact ev_refl
  · intro x1 x2
    split
    · rename_i y3 y4; extract_lets +onlyGivenNames x5; clear_value x5; extract_lets +onlyGivenNames x6
      have h6 : State.evolves a1 x6 [.regs, .pmc, .route, .time, .evt, .host, .fch, .swt, .xq, .map, .wp, .rd, .cry, .epo, .ntn, .warp, .link, .upk, .flt, .pwr, .thm, .fwu, .side, .out] := by
        subst x6; refine ev_pwr ?_ rfl; assumption
      clear_value x6; refine ev_step ?_ (State.seqAbort_ev _ _) rfl; refine ev_step ?_ (State.pwrEvent_ev _ _ _) rfl
      refine ev_step ?_ (State.railCount_ev _ _ _) rfl; assumption
    · rename_i y7 y8; extract_lets +onlyGivenNames x9; clear_value x9; extract_lets +onlyGivenNames x10
      have h10 : State.evolves a1 x10 [.regs, .pmc, .route, .time, .evt, .host, .fch, .swt, .xq, .map, .wp, .rd, .cry, .epo, .ntn, .warp, .link, .upk, .flt, .pwr, .thm, .fwu, .side, .out] := by
        subst x10; refine ev_pwr ?_ rfl; assumption
      clear_value x10; extract_lets +onlyGivenNames x11
      have h11 : State.evolves a1 x11 [.regs, .pmc, .route, .time, .evt, .host, .fch, .swt, .xq, .map, .wp, .rd, .cry, .epo, .ntn, .warp, .link, .upk, .flt, .pwr, .thm, .fwu, .side, .out] := by
        subst x11; refine ev_step ?_ (State.pwrEvent_ev _ _ _) rfl; refine ev_step ?_ (State.railCount_ev _ _ _) rfl
        assumption
      clear_value x11; refine ev_ite ?_ ?_
      · refine ev_step ?_ (State.enterPfFlush_ev _) rfl; assumption
      · refine ev_step ?_ (State.rampDown_ev _ _ _) rfl; assumption
    · rename_i y12 y13 y14; assumption

theorem execSeqDnInRise_ev (a0 : State) :
    State.evX a0 (execSeqDnInRise a0) [.regs, .pmc, .route, .time, .host, .fch, .swt, .xq, .map, .wp, .rd, .cry, .epo, .ntn, .warp, .link, .upk, .flt, .pwr, .thm, .fwu, .side, .out] := by
  unfold execSeqDnInRise; refine evX_done ?_; refine ev_when ?_ rfl ?_
  · exact ev_refl
  · intro x1 x2; extract_lets +onlyGivenNames x3; extract_lets +onlyGivenNames x4
    have h4 : State.evolves a0 x4 [.regs, .pmc, .route, .time, .host, .fch, .swt, .xq, .map, .wp, .rd, .cry, .epo, .ntn, .warp, .link, .upk, .flt, .pwr, .thm, .fwu, .side, .out] := by
      subst x4; refine ev_pwr ?_ rfl; assumption
    refine ev_ite ?_ ?_
    · refine ev_step ?_ (State.rampDown_ev _ _ _) rfl; assumption
    · assumption

theorem State.flushCkpt_ev (a0 : State) (a1 : FlushKind) (a2 : Bool) :
    State.evolves a0 (State.flushCkpt a0 a1 a2) [.regs, .pmc, .evt, .host, .swt, .map, .wp, .rd, .cry, .epo, .ntn, .upk, .out] := by
  unfold State.flushCkpt; extract_lets +onlyGivenNames x1
  have h1 : State.evolves a0 x1 [.regs, .pmc, .evt, .host, .swt, .map, .wp, .rd, .cry, .epo, .ntn, .upk, .out] := by
    subst x1; refine ev_step ?_ (State.saveWindow_ev _ _) rfl; exact ev_refl
  clear_value x1; extract_lets +onlyGivenNames x2; clear_value x2; extract_lets +onlyGivenNames x3
  have h3 : State.evolves a0 x3 [.regs, .pmc, .evt, .host, .swt, .map, .wp, .rd, .cry, .epo, .ntn, .upk, .out] := by
    subst x3; refine ev_ite ?_ ?_
    · refine ev_fst1 ?_; refine evP_step ?_ (State.ctrInc_ev _ _ _) rfl; assumption
    · assumption
  clear_value x3; extract_lets +onlyGivenNames x4
  have h4 : State.evolves a0 x4 [.regs, .pmc, .evt, .host, .swt, .map, .wp, .rd, .cry, .epo, .ntn, .upk, .out] := by
    subst x4; refine ev_step ?_ (State.writeBackFold_ev _) rfl; assumption
  clear_value x4; extract_lets +onlyGivenNames x5
  have h5 : State.evolves a0 x5 [.regs, .pmc, .evt, .host, .swt, .map, .wp, .rd, .cry, .epo, .ntn, .upk, .out] := by
    subst x5; refine ev_step ?_ (State.writeJnl_ev _) rfl; assumption
  clear_value x5; extract_lets +onlyGivenNames x6; subst x6; extract_lets +onlyGivenNames x7
  have h7 : State.evolves a0 x7 [.regs, .pmc, .evt, .host, .swt, .map, .wp, .rd, .cry, .epo, .ntn, .upk, .out] := by
    subst x7
    refine ev_upk ?_ rfl (fun z => (UpkState.wf_iff _).mpr (by have w := (UpkState.wf_iff _).mp z; exact ⟨⟨⟨w.1.1.1, w.1.1.2⟩, w.1.2⟩, rfl⟩))
    assumption
  clear_value x7; extract_lets +onlyGivenNames x8
  have h8 : State.evolves a0 x8 [.regs, .pmc, .evt, .host, .swt, .map, .wp, .rd, .cry, .epo, .ntn, .upk, .out] := by
    subst x8; refine ev_ite ?_ ?_
    · refine ev_step ?_ (State.finishCkpt_ev _ _ _) rfl; assumption
    · assumption
  clear_value x8; extract_lets +onlyGivenNames x9; clear_value x9; extract_lets +onlyGivenNames x10; subst x10
  refine ev_wp ?_ rfl WriteState.wf_upd; assumption

theorem State.rampUp_ev (a0 : State) : State.evolves a0 (State.rampUp a0) [.pwr] := by
  unfold State.rampUp
  split
  · rename_i y1 y2; exact ev_refl
  · rename_i y3 y4 y5 y6; refine ev_step ?_ (State.startRail_ev _ _) rfl
    extract_lets +onlyGivenNames x7; clear_value x7; refine ev_pwr ?_ rfl; exact ev_refl

theorem execPowerUpStart_ev (a0 : State) : State.evX a0 (execPowerUpStart a0) [.pwr, .out] := by
  unfold execPowerUpStart; refine evX_done ?_; refine ev_when ?_ rfl ?_
  · exact ev_refl
  · intro x1 x2; refine ev_step ?_ (State.rampUp_ev _) rfl; assumption

theorem execChatter_ev (a0 : State) :
    State.evX a0 (execChatter a0) [.regs, .pmc, .route, .time, .evt, .host, .fch, .swt, .xq, .map, .wp, .rd, .cry, .epo, .ntn, .warp, .link, .upk, .flt, .pwr, .thm, .fwu, .side, .out] := by
  unfold execChatter; refine evX_done ?_; refine ev_when ?_ rfl ?_
  · exact ev_refl
  · intro x1 x2; refine ev_step ?_ (State.chatter_ev _ _) rfl; assumption

theorem execOffHoldEnd_ev (a0 : State) : State.evX a0 (execOffHoldEnd a0) [.regs, .pmc, .evt, .host, .pwr, .out] := by
  unfold execOffHoldEnd; refine evX_done ?_; refine ev_when ?_ rfl ?_
  · exact ev_refl
  · intro x1 x2; extract_lets +onlyGivenNames x3; clear_value x3; extract_lets +onlyGivenNames x4; subst x4
    extract_lets +onlyGivenNames x5; subst x5
    split
    · rename_i y6 y7; beta_reduce; refine ev_pwr ?_ rfl; assumption
    · rename_i y8 y9; beta_reduce; extract_lets +onlyGivenNames x10; clear_value x10; refine ev_pwr ?_ rfl; assumption
    · rename_i y11 y12; beta_reduce; extract_lets +onlyGivenNames x13; clear_value x13; refine ev_pwr ?_ rfl
      assumption
    · rename_i y14 y15; refine ev_ite ?_ ?_
      · beta_reduce; refine ev_pwr ?_ rfl; assumption
      · beta_reduce; extract_lets +onlyGivenNames x16; clear_value x16; refine ev_pwr ?_ rfl
        refine ev_step ?_ (State.pwrEvent_ev _ _ _) rfl; assumption

theorem execStandbyPowerOn_ev (a0 : Bool) (a1 : State) :
    State.evX a1 (execStandbyPowerOn a0 a1) [.regs, .pmc, .time, .host, .pwr, .out] := by
  unfold execStandbyPowerOn; refine evX_done ?_; refine ev_when ?_ rfl ?_
  · exact ev_refl
  · intro x1 x2; extract_lets +onlyGivenNames x3; clear_value x3; extract_lets +onlyGivenNames x4; subst x4
    extract_lets +onlyGivenNames x5; clear_value x5; extract_lets +onlyGivenNames x6
    have h6 : State.evolves a1 x6 [.regs, .pmc, .time, .host, .pwr, .out] := by
      subst x6
      refine ev_updW ?_ id HostState.wf_upd id id id id id id id id (by intro p; cases p <;> first | exact .inl (by decide) | exact .inr rfl | exact .inr ⟨rfl, rfl⟩)
      assumption
    clear_value x6; refine ev_step ?_ (State.setFld_ev _ _ _) rfl; assumption

theorem execStepTimeout_ev (a0 : State) :
    State.evX a0 (execStepTimeout a0) [.regs, .pmc, .route, .time, .evt, .host, .fch, .swt, .xq, .map, .wp, .rd, .cry, .epo, .ntn, .warp, .link, .upk, .flt, .pwr, .thm, .fwu, .side, .out] := by
  unfold execStepTimeout; refine evX_done ?_; refine ev_when ?_ rfl ?_
  · exact ev_refl
  · intro x1 x2; refine ev_ite ?_ ?_
    · refine ev_step ?_ (State.rampDown_ev _ _ _) rfl; assumption
    · refine ev_step ?_ (State.seqAbort_ev _ _) rfl; refine ev_step ?_ (State.pwrEvent_ev _ _ _) rfl
      refine ev_step ?_ (State.railCount_ev _ _ _) rfl; assumption

theorem execFirmwareRunning_ev (a0 : State) :
    State.evX a0 (execFirmwareRunning a0) [.regs, .pmc, .evt, .host, .fwu, .side, .out] := by
  unfold execFirmwareRunning; refine evX_done ?_; refine ev_when ?_ rfl ?_
  · exact ev_refl
  · intro x1 x2; extract_lets +onlyGivenNames x3; clear_value x3; extract_lets +onlyGivenNames x4
    extract_lets +onlyGivenNames x5; clear_value x5; extract_lets +onlyGivenNames x6
    have h6 : State.evolves a0 x6 [.regs, .pmc, .evt, .host, .fwu, .side, .out] := by
      subst x6
      refine ev_updW ?_ id id id id id id id id id id (by intro p; cases p <;> first | exact .inl (by decide) | exact .inr rfl | exact .inr ⟨rfl, rfl⟩)
      assumption
    extract_lets +onlyGivenNames x7; clear_value x7; extract_lets +onlyGivenNames x8
    have h8 : State.evolves a0 x8 [.regs, .pmc, .evt, .host, .fwu, .side, .out] := by
      subst x8; refine ev_ite ?_ ?_
      · refine ev_step ?_ (State.setBoot_ev _ _) rfl; assumption
      · assumption
    clear_value x8; refine ev_ite ?_ ?_
    · extract_lets +onlyGivenNames x9; clear_value x9; extract_lets +onlyGivenNames x10
      have h10 : State.evolves a0 x10 [.regs, .pmc, .evt, .host, .fwu, .side, .out] := by
        subst x10; refine ev_fwu ?_ rfl; assumption
      clear_value x10; refine ev_step ?_ (State.fwRecord_ev _ _ _ _ _ _) rfl
      refine ev_step ?_ (State.raiseN_ev _ _ _ _) rfl; refine ev_step ?_ (State.bump_ev _ _ _) rfl; assumption
    · assumption

theorem execDevResetDone_ev (a0 : State) :
    State.evX a0 (execDevResetDone a0) [.regs, .pmc, .time, .evt, .host, .fch, .swt, .map, .wp, .cry, .ntn, .link, .upk, .flt, .pwr, .fwu, .side, .out] := by
  unfold execDevResetDone; refine evX_done ?_; refine ev_when ?_ rfl ?_
  · exact ev_refl
  · intro x1 x2; refine ev_step ?_ (State.coreUp_ev _) rfl; refine ev_step ?_ (State.raise_ev _ _) rfl
    refine ev_step ?_ (State.applyUndo_ev _) rfl; extract_lets +onlyGivenNames x3; clear_value x3
    refine ev_pwr ?_ rfl; assumption

theorem execPowerFail_ev (a0 : State) :
    State.evX a0 (execPowerFail a0) [.regs, .pmc, .route, .time, .evt, .host, .fch, .swt, .xq, .map, .wp, .rd, .cry, .epo, .ntn, .warp, .link, .upk, .flt, .pwr, .thm, .fwu, .side, .out] := by
  unfold execPowerFail; refine evX_done ?_; refine ev_when ?_ rfl ?_
  · exact ev_refl
  · intro x1 x2; extract_lets +onlyGivenNames x3; subst x3
    split
    · rename_i y4 y5; refine ev_step ?_ (State.rampDown_ev _ _ _) rfl; beta_reduce
      refine ev_step ?_ (State.pwrEvent_ev _ _ _) rfl; extract_lets +onlyGivenNames x6; clear_value x6
      refine ev_pwr ?_ rfl; assumption
    · rename_i y7 y8; refine ev_ite ?_ ?_
      · refine ev_step ?_ (State.enterPfFlush_ev _) rfl; beta_reduce; refine ev_step ?_ (State.pwrEvent_ev _ _ _) rfl
        extract_lets +onlyGivenNames x9; clear_value x9; refine ev_pwr ?_ rfl; assumption
      · refine ev_step ?_ (State.rampDown_ev _ _ _) rfl; beta_reduce; refine ev_step ?_ (State.pwrEvent_ev _ _ _) rfl
        extract_lets +onlyGivenNames x10; clear_value x10; refine ev_pwr ?_ rfl; assumption
    · rename_i y11 y12; refine ev_step ?_ (State.enterPfFlush_ev _) rfl; beta_reduce
      refine ev_step ?_ (State.pwrEvent_ev _ _ _) rfl; extract_lets +onlyGivenNames x13; clear_value x13
      refine ev_pwr ?_ rfl; assumption
    · rename_i y14 y15; refine ev_step ?_ (State.rampDown_ev _ _ _) rfl; beta_reduce
      refine ev_step ?_ (State.pwrEvent_ev _ _ _) rfl; extract_lets +onlyGivenNames x16; clear_value x16
      refine ev_pwr ?_ rfl; assumption
    · rename_i y17 y18; beta_reduce; refine ev_step ?_ (State.pwrEvent_ev _ _ _) rfl
      extract_lets +onlyGivenNames x19; clear_value x19; refine ev_pwr ?_ rfl; assumption
    · rename_i y20 y21 y22 y23 y24 y25; assumption

theorem State.standbyDown_ev (a0 : State) :
    State.evolves a0 (State.standbyDown a0) [.regs, .pmc, .route, .time, .evt, .host, .fch, .swt, .xq, .map, .wp, .rd, .cry, .epo, .ntn, .warp, .link, .upk, .flt, .pwr, .thm, .fwu, .side] := by
  unfold State.standbyDown; extract_lets +onlyGivenNames x1; clear_value x1; extract_lets +onlyGivenNames x2
  have h2 : State.evolves a0 x2 [.regs, .pmc, .route, .time, .evt, .host, .fch, .swt, .xq, .map, .wp, .rd, .cry, .epo, .ntn, .warp, .link, .upk, .flt, .pwr, .thm, .fwu, .side] := by
    subst x2; refine ev_ite ?_ ?_
    · refine ev_step ?_ (State.coreDown_ev _ _ _) rfl; exact ev_refl
    · refine ev_step ?_ (State.thermalDown_ev _) rfl; refine ev_step ?_ (State.mediaDown_ev _) rfl; exact ev_refl
  clear_value x2; extract_lets +onlyGivenNames x3
  have h3 : State.evolves a0 x3 [.regs, .pmc, .route, .time, .evt, .host, .fch, .swt, .xq, .map, .wp, .rd, .cry, .epo, .ntn, .warp, .link, .upk, .flt, .pwr, .thm, .fwu, .side] := by
    subst x3; refine ev_step ?_ (State.resetRegs_ev _ _) rfl; assumption
  clear_value x3; extract_lets +onlyGivenNames x4; clear_value x4; extract_lets +onlyGivenNames x5; subst x5
  refine ev_updW ?_ EvtState.wf_upd id id id id id id id id id (by intro p; cases p <;> first | exact .inl (by decide) | exact .inr rfl | exact .inr ⟨rfl, rfl⟩)
  assumption

theorem execLocalOff_ev (a0 : Nat) (a1 : Nat) (a2 : State) :
    State.evX a2 (execLocalOff a0 a1 a2) [.regs, .pmc, .evt, .host, .fch, .wp, .warp, .upk, .pwr, .out] := by
  unfold execLocalOff; refine evX_done ?_; unfold State.barWrite; extract_lets +onlyGivenNames x1
  have h1 : State.evolves a2 x1 [.regs, .pmc, .evt, .host, .fch, .wp, .warp, .upk, .pwr, .out] := by
    subst x1; refine ev_step ?_ (State.begin_ev _) rfl; exact ev_refl
  clear_value x1; refine ev_ite ?_ ?_
  · refine ev_step ?_ (State.emit_ev _ _) rfl; assumption
  · refine ev_ite ?_ ?_
    · refine ev_step ?_ (State.accessErr_ev _ _ _ _ _ _) rfl; assumption
    · beta_reduce; refine ev_ite ?_ ?_
      · refine ev_step ?_ (State.offInOn_ev _ _) rfl; assumption
      · refine ev_step ?_ (State.raise_ev _ _) rfl; assumption

theorem execStandbyPowerLoss_ev (a0 : State) :
    State.evX a0 (execStandbyPowerLoss a0) [.regs, .pmc, .route, .time, .evt, .host, .fch, .swt, .xq, .map, .wp, .rd, .cry, .epo, .ntn, .warp, .link, .upk, .flt, .pwr, .thm, .fwu, .side, .out] := by
  unfold execStandbyPowerLoss; refine evX_done ?_; refine ev_when ?_ rfl ?_
  · exact ev_refl
  · intro x1 x2; refine ev_step ?_ (State.standbyDown_ev _) rfl; assumption

theorem execSeqUpInRise_ev (a0 : State) : State.evX a0 (execSeqUpInRise a0) [.pwr, .out] := by
  unfold execSeqUpInRise; refine evX_done ?_; refine ev_when ?_ rfl ?_
  · exact ev_refl
  · intro x1 x2; extract_lets +onlyGivenNames x3; clear_value x3; refine ev_pwr ?_ rfl; assumption

theorem execPwrCntClr_ev (a0 : Nat) (a1 : State) :
    State.evX a1 (execPwrCntClr a0 a1) [.regs, .pmc, .evt, .host, .ntn, .out] := by
  unfold execPwrCntClr; refine evX_done ?_; unfold State.barWrite; extract_lets +onlyGivenNames x1
  have h1 : State.evolves a1 x1 [.regs, .pmc, .evt, .host, .ntn, .out] := by
    subst x1; refine ev_step ?_ (State.begin_ev _) rfl; exact ev_refl
  clear_value x1; refine ev_ite ?_ ?_
  · refine ev_step ?_ (State.emit_ev _ _) rfl; assumption
  · refine ev_ite ?_ ?_
    · refine ev_step ?_ (State.accessErr_ev _ _ _ _ _ _) rfl; assumption
    · beta_reduce; refine ev_foldl ?_ ?_
      · assumption
      · intro x2 x3 x4
        split
        · rename_i y5 y6 y7; refine ev_step ?_ (ev_fst (State.ctrClear_ev _ _) y7) rfl; assumption
        · rename_i y8 y9 y10; refine ev_step ?_ (State.raise_ev _ _) rfl
          refine ev_step ?_ (ev_fst (State.ctrClear_ev _ _) y10) rfl; assumption

theorem State.stuckCount_ev (a0 : State) (a1 : Nat) :
    State.evolves a0 (State.stuckCount a0 a1) [.regs, .pmc, .evt, .host, .ntn] := by
  unfold State.stuckCount; refine ev_fst1 ?_; refine evP_step ?_ (State.ctrIncField_ev _ _ _) rfl; exact ev_refl

theorem execCascadeTimeout_ev (a0 : State) :
    State.evX a0 (execCascadeTimeout a0) [.regs, .pmc, .route, .time, .evt, .host, .fch, .swt, .xq, .map, .wp, .rd, .cry, .epo, .ntn, .warp, .link, .upk, .flt, .pwr, .thm, .fwu, .side, .out] := by
  unfold execCascadeTimeout; refine evX_done ?_; refine ev_when ?_ rfl ?_
  · exact ev_refl
  · intro x1 x2; refine ev_step ?_ (State.rampDown_ev _ _ _) rfl; refine ev_step ?_ (State.pwrEvent_ev _ _ _) rfl
    assumption

theorem execRailStuck_ev (a0 : Nat) (a1 : State) :
    State.evX a1 (execRailStuck a0 a1) [.regs, .pmc, .evt, .host, .ntn, .pwr, .out] := by
  unfold execRailStuck; refine evX_done ?_; refine ev_when ?_ rfl ?_
  · exact ev_refl
  · intro x1 x2; extract_lets +onlyGivenNames x3
    have h3 : State.evolves a1 x3 [.regs, .pmc, .evt, .host, .ntn, .pwr, .out] := by
      subst x3; refine ev_step ?_ (State.pwrEvent_ev _ _ _) rfl; refine ev_step ?_ (State.stuckCount_ev _ _) rfl
      assumption
    clear_value x3; refine ev_step ?_ (State.nextDown_ev _) rfl; extract_lets +onlyGivenNames x4; clear_value x4
    refine ev_pwr ?_ rfl; assumption

theorem State.gpfAnswers_ev (a0 : State) (a1 : FlushKind) (a2 : Bool) :
    State.evolves a0 (State.gpfAnswers a0 a1 a2) [.wp, .out] := by
  unfold State.gpfAnswers; extract_lets +onlyGivenNames x1; clear_value x1
  extract_lets +onlyGivenNames x2; clear_value x2; extract_lets +onlyGivenNames x3
  have h3 : State.evolves a0 x3 [.wp, .out] := by
    subst x3; refine ev_foldl ?_ ?_
    · exact ev_refl
    · intro x4 x5 x6; refine ev_step ?_ (State.emit_ev _ _) rfl; assumption
  clear_value x3; refine ev_ite ?_ ?_
  · extract_lets +onlyGivenNames x7; subst x7; refine ev_wp ?_ rfl WriteState.wf_upd; assumption
  · assumption

theorem execRailOff_ev (a0 : Nat) (a1 : State) : State.evX a1 (execRailOff a0 a1) [.pwr, .out] := by
  unfold execRailOff; refine evX_done ?_; refine ev_when ?_ rfl ?_
  · exact ev_refl
  · intro x1 x2; refine ev_step ?_ (State.nextDown_ev _) rfl; extract_lets +onlyGivenNames x3; clear_value x3
    refine ev_pwr ?_ rfl; assumption

theorem execGpfPhase2Request_ev (a0 : Nat) (a1 : State) :
    State.evX a1 (execGpfPhase2Request a0 a1) [.regs, .pmc, .evt, .host, .fch, .wp, .warp, .upk, .pwr, .out] := by
  unfold execGpfPhase2Request; extract_lets +onlyGivenNames x1
  have h1 : State.evolves a1 x1 [.regs, .pmc, .evt, .host, .fch, .wp, .warp, .upk, .pwr, .out] := by
    subst x1; refine ev_step ?_ (State.begin_ev _) rfl; exact ev_refl
  clear_value x1; refine evX_done ?_; refine ev_ite ?_ ?_
  · refine ev_step ?_ (State.requestFlush_ev _ _) rfl; assumption
  · refine ev_step ?_ (State.emit_ev _ _) rfl; assumption

theorem execFlushDone_ev (a0 : Bool) (a1 : State) :
    State.evX a1 (execFlushDone a0 a1) [.regs, .pmc, .route, .time, .evt, .host, .fch, .swt, .xq, .map, .wp, .rd, .cry, .epo, .ntn, .warp, .link, .upk, .flt, .pwr, .thm, .fwu, .side, .out] := by
  unfold execFlushDone; refine evX_done ?_; refine ev_when ?_ rfl ?_
  · exact ev_refl
  · intro x1 x2
    split
    · rename_i y3 y4; assumption
    · rename_i y5 y6 y7; extract_lets +onlyGivenNames x8; clear_value x8; refine ev_ite ?_ ?_
      · extract_lets +onlyGivenNames x9; clear_value x9; extract_lets +onlyGivenNames x10
        have h10 : State.evolves a1 x10 [.regs, .pmc, .route, .time, .evt, .host, .fch, .swt, .xq, .map, .wp, .rd, .cry, .epo, .ntn, .warp, .link, .upk, .flt, .pwr, .thm, .fwu, .side, .out] := by
          subst x10; refine ev_step ?_ (State.gpfAnswers_ev _ _ _) rfl
          refine ev_step ?_ (State.flushCkpt_ev _ _ _) rfl; assumption
        clear_value x10; extract_lets +onlyGivenNames x11
        have h11 : State.evolves a1 x11 [.regs, .pmc, .route, .time, .evt, .host, .fch, .swt, .xq, .map, .wp, .rd, .cry, .epo, .ntn, .warp, .link, .upk, .flt, .pwr, .thm, .fwu, .side, .out] := by
          subst x11; refine ev_ite ?_ ?_
          · refine ev_step ?_ (State.saveHist_ev _) rfl; assumption
          · assumption
        clear_value x11; extract_lets +onlyGivenNames x12
        have h12 : State.evolves a1 x12 [.regs, .pmc, .route, .time, .evt, .host, .fch, .swt, .xq, .map, .wp, .rd, .cry, .epo, .ntn, .warp, .link, .upk, .flt, .pwr, .thm, .fwu, .side, .out] := by
          subst x12; refine ev_step ?_ (State.raiseIf_ev _ _ _) rfl; assumption
        clear_value x12; refine ev_step ?_ (State.afterFlush_ev _ _) rfl; assumption
      · assumption

theorem execRetryStart_ev (a0 : State) : State.evX a0 (execRetryStart a0) [.pwr, .out] := by
  unfold execRetryStart; refine evX_done ?_; refine ev_when ?_ rfl ?_
  · exact ev_refl
  · intro x1 x2; refine ev_ite ?_ ?_
    · refine ev_step ?_ (State.rampUp_ev _) rfl; extract_lets +onlyGivenNames x3; clear_value x3; refine ev_pwr ?_ rfl
      assumption
    · extract_lets +onlyGivenNames x4; clear_value x4; refine ev_pwr ?_ rfl; assumption

end Sys2Proof.Machine
end

