-- ==== Sys2Proof/Laws/EvEpochs.lean ====
section
/-!
SUPPORT. What each operation of Machine/Epochs.lean may change: its parts of the state, and that the register stores stay
canonical.
-/
set_option Elab.async false
namespace Sys2Proof.Machine

theorem State.discardEpoch_ev (a0 : State) (a1 : Nat) :
    State.evolves a0 (State.discardEpoch a0 a1) [.regs, .pmc, .evt, .host, .map, .rd, .epo, .upk, .out] := by
  unfold State.discardEpoch; refine ev_ite ?_ ?_
  · extract_lets +onlyGivenNames x1; clear_value x1; extract_lets +onlyGivenNames x2
    have h2 : State.evolves a0 x2 [.regs, .pmc, .evt, .host, .map, .rd, .epo, .upk, .out] := by
      subst x2; refine ev_ite ?_ ?_
      · refine ev_step ?_ (State.failPrepare_ev _ _) rfl; exact ev_refl
      · exact ev_refl
    clear_value x2; extract_lets +onlyGivenNames x3; clear_value x3; extract_lets +onlyGivenNames x4
    have h4 : State.evolves a0 x4 [.regs, .pmc, .evt, .host, .map, .rd, .epo, .upk, .out] := by
      subst x4; refine ev_step ?_ (State.setEpoDom_ev _ _ _) rfl; assumption
    clear_value x4; refine ev_step ?_ (State.nextCkpt_ev _) rfl; refine ev_ite ?_ ?_
    · assumption
    · refine ev_step ?_ (State.toCleanup_ev _ _ _ _) rfl; assumption
  · exact ev_refl

theorem State.enableRefused_ev (a0 : State) (a1 : Nat) :
    State.evolves a0 (State.enableRefused a0 a1) [.regs, .pmc, .evt, .host] := by
  unfold State.enableRefused; refine ev_step ?_ (State.raiseN_ev _ _ _ _) rfl; exact ev_refl

theorem execEpochEnableWrite_ev (a0 : Nat) (a1 : Nat) (a2 : State) :
    State.evX a2 (execEpochEnableWrite a0 a1 a2) [.regs, .pmc, .evt, .host, .cry, .epo, .out] := by
  unfold execEpochEnableWrite; refine evX_done ?_; unfold State.barWrite; extract_lets +onlyGivenNames x1
  have h1 : State.evolves a2 x1 [.regs, .pmc, .evt, .host, .cry, .epo, .out] := by
    subst x1; refine ev_step ?_ (State.begin_ev _) rfl; exact ev_refl
  clear_value x1; refine ev_ite ?_ ?_
  · refine ev_step ?_ (State.emit_ev _ _) rfl; assumption
  · refine ev_ite ?_ ?_
    · refine ev_step ?_ (State.accessErr_ev _ _ _ _ _ _) rfl; assumption
    · beta_reduce; extract_lets +onlyGivenNames x2; clear_value x2; refine ev_ite ?_ ?_
      · assumption
      · refine ev_ite ?_ ?_
        · refine ev_step ?_ (State.enableRefused_ev _ _) rfl; assumption
        · split
          · rename_i y3 y4; refine ev_step ?_ (State.enableRefused_ev _ _) rfl; assumption
          · rename_i y5 y6 y7 y8; extract_lets +onlyGivenNames x9; clear_value x9; extract_lets +onlyGivenNames x10
            have h10 : State.evolves a2 x10 [.regs, .pmc, .evt, .host, .cry, .epo, .out] := by
              subst x10; refine ev_step ?_ (State.setDom_ev _ _ _) rfl; assumption
            clear_value x10; refine ev_step ?_ (State.setEpoDom_ev _ _ _) rfl; assumption

theorem State.restore_ev (a0 : State) (a1 : Nat) (a2 : List Nat) (a3 : Undo) :
    State.evolves a0 (State.restore a0 a1 a2 a3) [.regs, .pmc, .evt, .host, .map, .rd, .upk, .out] := by
  unfold State.restore; extract_lets +onlyGivenNames x1
  have h1 : State.evolves a0 x1 [.regs, .pmc, .evt, .host, .map, .rd, .upk, .out] := by
    subst x1; refine ev_step ?_ (State.count_ev _ _ _ _) rfl; exact ev_refl
  clear_value x1; extract_lets +onlyGivenNames x2; refine ev_ite ?_ ?_
  · extract_lets +onlyGivenNames x3
    have h3 : State.evolves a0 x3 [.regs, .pmc, .evt, .host, .map, .rd, .upk, .out] := by
      subst x3; refine ev_step ?_ (State.mapRec_ev _ _ _ _ _ _) rfl; assumption
    clear_value x3; refine ev_ite ?_ ?_
    · refine ev_step ?_ (State.raiseN_ev _ _ _ _) rfl; refine ev_step ?_ (State.poisonLine_ev _ _ _) rfl; assumption
    · refine ev_step ?_ (State.loseCovered_ev _ _) rfl; refine ev_step ?_ (State.raiseN_ev _ _ _ _) rfl; assumption
  · extract_lets +onlyGivenNames x4; clear_value x4; extract_lets +onlyGivenNames x5
    have h5 : State.evolves a0 x5 [.regs, .pmc, .evt, .host, .map, .rd, .upk, .out] := by
      subst x5; refine ev_step ?_ (State.mapRec_ev _ _ _ _ _ _) rfl; assumption
    clear_value x5; extract_lets +onlyGivenNames x6
    have h6 : State.evolves a0 x6 [.regs, .pmc, .evt, .host, .map, .rd, .upk, .out] := by
      subst x6; refine ev_ite ?_ ?_
      · refine ev_step ?_ (State.deadAt_ev _ _) rfl; assumption
      · assumption
    clear_value x6; refine ev_ite ?_ ?_
    · refine ev_foldl ?_ ?_
      · assumption
      · intro x7 x8 x9; refine ev_ite ?_ ?_
        · assumption
        · refine ev_step ?_ (State.unpoisonSector_ev _ _ _) rfl; assumption
    · extract_lets +onlyGivenNames x10; clear_value x10; extract_lets +onlyGivenNames x11
      have h11 : State.evolves a0 x11 [.regs, .pmc, .evt, .host, .map, .rd, .upk, .out] := by
        subst x11; refine ev_foldl ?_ ?_
        · assumption
        · intro x12 x13 x14; refine ev_step ?_ (State.setTag_ev _ _ _) rfl; assumption
      clear_value x11; extract_lets +onlyGivenNames x15; subst x15; refine ev_map ?_ rfl MapState.wf_upd; assumption

theorem State.abort_ev (a0 : State) (a1 : Nat) (a2 : Nat) :
    State.evolves a0 (State.abort a0 a1 a2) [.regs, .pmc, .evt, .host, .fch, .wp, .rd, .cry, .epo, .ntn, .warp, .out] := by
  unfold State.abort; extract_lets +onlyGivenNames x1; clear_value x1; refine ev_ite ?_ ?_
  · refine ev_step ?_ (State.setEpoDom_ev _ _ _) rfl; exact ev_refl
  · unfold State.dropDomain; unfold State.dropWhere; extract_lets +onlyGivenNames x2
    have h2 : State.evolves a0 x2 [.regs, .pmc, .evt, .host, .fch, .wp, .rd, .cry, .epo, .ntn, .warp, .out] := by
      subst x2; unfold State.endWhere; extract_lets +onlyGivenNames x3; subst x3
      extract_lets +onlyGivenNames x4; clear_value x4; extract_lets +onlyGivenNames x5; clear_value x5
      extract_lets +onlyGivenNames x6; clear_value x6; extract_lets +onlyGivenNames x7; subst x7
      extract_lets +onlyGivenNames x8; subst x8; extract_lets +onlyGivenNames x9
      have h9 : State.evolves a0 x9 [.regs, .pmc, .evt, .host, .fch, .wp, .rd, .cry, .epo, .ntn, .warp, .out] := by
        subst x9
        refine ev_updW ?_ id id id WriteState.wf_upd id EpoState.wf_upd id id id id (by intro p; cases p <;> first | exact .inl (by decide) | exact .inr rfl | exact .inr ⟨rfl, rfl⟩)
        refine ev_step ?_ (State.setEpoDom_ev _ _ _) rfl; exact ev_refl
      clear_value x9; refine ev_foldl ?_ ?_
      · refine ev_foldl ?_ ?_
        · assumption
        · intro x10 x11 x12; refine ev_step ?_ (State.failReq_ev _ _) rfl; assumption
      · intro x13 x14 x15; refine ev_step ?_ (State.cmp_ev _ _ _) rfl; assumption
    clear_value x2; extract_lets +onlyGivenNames x16; clear_value x16; extract_lets +onlyGivenNames x17
    have h17 : State.evolves a0 x17 [.regs, .pmc, .evt, .host, .fch, .wp, .rd, .cry, .epo, .ntn, .warp, .out] := by
      subst x17; refine ev_foldl ?_ ?_
      · assumption
      · intro x18 x19 x20; refine ev_step ?_ (State.dropSide_ev _ _) rfl
        refine ev_step ?_ (State.dropLine_ev _ _) rfl; assumption
    clear_value x17; extract_lets +onlyGivenNames x21; subst x21; extract_lets +onlyGivenNames x22; clear_value x22
    extract_lets +onlyGivenNames x23; clear_value x23; extract_lets +onlyGivenNames x24; clear_value x24
    extract_lets +onlyGivenNames x25; clear_value x25; extract_lets +onlyGivenNames x26; subst x26
    extract_lets +onlyGivenNames x27; clear_value x27; extract_lets +onlyGivenNames x28
    have h28 : State.evolves a0 x28 [.regs, .pmc, .evt, .host, .fch, .wp, .rd, .cry, .epo, .ntn, .warp, .out] := by
      subst x28
      refine ev_updW ?_ id id id WriteState.wf_upd id id id id id id (by intro p; cases p <;> first | exact .inl (by decide) | exact .inr rfl | exact .inr ⟨rfl, rfl⟩)
      assumption
    clear_value x28; extract_lets +onlyGivenNames x29; subst x29; refine ev_foldl ?_ ?_
    · assumption
    · intro x30 x31 x32; extract_lets +onlyGivenNames x33; clear_value x33
      refine ev_step ?_ (State.settleGroup_ev _ _) rfl; refine ev_step ?_ (State.setStripes_ev _ _ _) rfl; assumption

theorem execEpochAbort_ev (a0 : Nat) (a1 : Nat) (a2 : Nat) (a3 : State) :
    State.evX a3 (execEpochAbort a0 a1 a2 a3) [.regs, .pmc, .evt, .host, .fch, .wp, .rd, .cry, .epo, .ntn, .warp, .out] := by
  unfold execEpochAbort; refine evX_done ?_; unfold State.mailboxRw; unfold State.mailbox
  extract_lets +onlyGivenNames x1
  have h1 : State.evolves a3 x1 [.regs, .pmc, .evt, .host, .fch, .wp, .rd, .cry, .epo, .ntn, .warp, .out] := by
    subst x1; refine ev_step ?_ (State.begin_ev _) rfl; exact ev_refl
  clear_value x1; refine ev_ite ?_ ?_
  · refine ev_step ?_ (State.emit_ev _ _) rfl; assumption
  · refine ev_ite ?_ ?_
    · refine ev_step ?_ (State.emit_ev _ _) rfl; assumption
    · beta_reduce; refine ev_ite ?_ ?_
      · refine ev_step ?_ (State.answerMbox_ev _ _ _ _) rfl; assumption
      · unfold State.gated
        split
        · rename_i y2 y3 y4; refine ev_step ?_ (State.answerMbox_ev _ _ _ _) rfl; assumption
        · rename_i y5 y6; beta_reduce; refine ev_step ?_ (State.answerMbox_ev _ _ _ _) rfl
          refine ev_step ?_ (State.abort_ev _ _ _) rfl; assumption

theorem State.prepareNow_ev (a0 : State) (a1 : Nat) (a2 : Nat) (a3 : Nat) (a4 : Nat) :
    State.evolves a0 (State.prepareNow a0 a1 a2 a3 a4) [.regs, .pmc, .evt, .host, .fch, .swt, .map, .wp, .rd, .cry, .epo, .ntn, .warp, .link, .upk, .flt, .pwr, .out] := by
  unfold State.prepareNow; extract_lets +onlyGivenNames x1; clear_value x1; extract_lets +onlyGivenNames x2
  have h2 : State.evolves a0 x2 [.regs, .pmc, .evt, .host, .fch, .swt, .map, .wp, .rd, .cry, .epo, .ntn, .warp, .link, .upk, .flt, .pwr, .out] := by
    subst x2; refine ev_step ?_ (State.setEpoDom_ev _ _ _) rfl; exact ev_refl
  clear_value x2; refine ev_step ?_ (State.endDraining_ev _ _) rfl; refine ev_step ?_ (State.handDomain_ev _ _) rfl
  assumption

theorem State.firePrepare_ev (a0 : State) (a1 : Nat) (a2 : Nat) :
    State.evolves a0 (State.firePrepare a0 a1 a2) [.regs, .pmc, .evt, .host, .fch, .swt, .map, .wp, .rd, .cry, .epo, .ntn, .warp, .link, .upk, .flt, .pwr, .out] := by
  unfold State.firePrepare; extract_lets +onlyGivenNames x1; clear_value x1; extract_lets +onlyGivenNames x2; subst x2
  refine ev_ite ?_ ?_
  · beta_reduce; refine ev_step ?_ (State.raiseN_ev _ _ _ _) rfl; refine ev_step ?_ (State.setEpoDom_ev _ _ _) rfl
    exact ev_refl
  · refine ev_ite ?_ ?_
    · beta_reduce; refine ev_step ?_ (State.raiseN_ev _ _ _ _) rfl; refine ev_step ?_ (State.setEpoDom_ev _ _ _) rfl
      exact ev_refl
    · refine ev_ite ?_ ?_
      · exact ev_refl
      · refine ev_step ?_ (State.prepareNow_ev _ _ _ _ _) rfl; exact ev_refl

theorem State.fire_ev (a0 : State) (a1 : DeadlineId) (a2 : Nat → Bool → Bool) (a3 : Bool) :
    State.evolves a0 (State.fire a0 a1 a2 a3) [.regs, .pmc, .evt, .host, .fch, .swt, .map, .wp, .rd, .cry, .epo, .ntn, .warp, .link, .upk, .flt, .pwr, .fwu, .out] := by
  unfold State.fire
  split
  · rename_i y1 y2
    split
    · rename_i y3 y4 y5 y6 y7; refine ev_ite ?_ ?_
      · refine ev_step ?_ (State.firePrepare_ev _ _ _) rfl; refine ev_step ?_ (State.raiseIf_ev _ _ _) rfl
        exact ev_refl
      · exact ev_refl
    · rename_i y8 y9; exact ev_refl
  · rename_i y10
    split
    · rename_i y11 y12 y13; refine ev_ite ?_ ?_
      · extract_lets +onlyGivenNames x14
        have h14 : State.evolves a0 x14 [.regs, .pmc, .evt, .host, .fch, .swt, .map, .wp, .rd, .cry, .epo, .ntn, .warp, .link, .upk, .flt, .pwr, .fwu, .out] := by
          subst x14; refine ev_step ?_ (State.raiseIf_ev _ _ _) rfl; exact ev_refl
        clear_value x14; refine ev_step ?_ (State.startSched_ev _) rfl
        extract_lets +onlyGivenNames x15; clear_value x15; refine ev_fwu ?_ rfl; assumption
      · exact ev_refl
    · rename_i y16 y17; exact ev_refl

theorem State.prepare_ev (a0 : State) (a1 : Nat) (a2 : Nat) (a3 : Nat) (a4 : Bool) (a5 : Nat) (a6 : Nat) :
    State.evolves a0 (State.prepare a0 a1 a2 a3 a4 a5 a6) [.regs, .pmc, .evt, .host, .fch, .swt, .map, .wp, .rd, .cry, .epo, .ntn, .warp, .link, .upk, .flt, .pwr, .out] := by
  unfold State.prepare; refine ev_ite ?_ ?_
  · refine ev_step ?_ (State.prepareNow_ev _ _ _ _ _) rfl; exact ev_refl
  · refine ev_step ?_ (State.setEpoDom_ev _ _ _) rfl; exact ev_refl

theorem State.commit_ev (a0 : State) (a1 : Nat) :
    State.evolves a0 (State.commit a0 a1) [.regs, .pmc, .evt, .host, .map, .rd, .epo, .upk, .out] := by
  unfold State.commit; extract_lets +onlyGivenNames x1; clear_value x1; extract_lets +onlyGivenNames x2
  have h2 : State.evolves a0 x2 [.regs, .pmc, .evt, .host, .map, .rd, .epo, .upk, .out] := by
    subst x2; refine ev_step ?_ (State.setEpoDom_ev _ _ _) rfl; exact ev_refl
  clear_value x2; refine ev_step ?_ (State.nextCkpt_ev _) rfl; refine ev_step ?_ (State.toCleanup_ev _ _ _ _) rfl
  assumption

theorem execDoorbellCommit_ev (a0 : Nat) (a1 : Nat) (a2 : Nat) (a3 : State) :
    State.evX a3 (execDoorbellCommit a0 a1 a2 a3) [.regs, .pmc, .evt, .host, .map, .rd, .epo, .upk, .out] := by
  unfold execDoorbellCommit; refine evX_done ?_; unfold State.barWrite; extract_lets +onlyGivenNames x1
  have h1 : State.evolves a3 x1 [.regs, .pmc, .evt, .host, .map, .rd, .epo, .upk, .out] := by
    subst x1; refine ev_step ?_ (State.begin_ev _) rfl; exact ev_refl
  clear_value x1; refine ev_ite ?_ ?_
  · refine ev_step ?_ (State.emit_ev _ _) rfl; assumption
  · refine ev_ite ?_ ?_
    · refine ev_step ?_ (State.accessErr_ev _ _ _ _ _ _) rfl; assumption
    · beta_reduce; unfold State.doorbell; refine ev_ite ?_ ?_
      · refine ev_step ?_ (State.raiseN_ev _ _ _ _) rfl; assumption
      · extract_lets +onlyGivenNames x2; subst x2; extract_lets +onlyGivenNames x3
        have h3 : State.evolves a3 x3 [.regs, .pmc, .evt, .host, .map, .rd, .epo, .upk, .out] := by
          subst x3; refine ev_epo ?_ rfl EpoState.wf_upd; assumption
        clear_value x3
        split
        · rename_i y4 y5 y6; extract_lets +onlyGivenNames x7; subst x7; refine ev_epo ?_ rfl EpoState.wf_upd
          assumption
        · rename_i y8 y9; beta_reduce; refine ev_step ?_ (State.commit_ev _ _) rfl
          extract_lets +onlyGivenNames x10; subst x10; refine ev_epo ?_ rfl EpoState.wf_upd; assumption

theorem execEpochEnabled_ev (a0 : Nat) (a1 : State) : State.evX a1 (execEpochEnabled a0 a1) [.epo, .out] := by
  unfold execEpochEnabled; extract_lets +onlyGivenNames x1; clear_value x1; refine evX_done ?_
  refine ev_when ?_ rfl ?_
  · exact ev_refl
  · intro x2 x3; refine ev_step ?_ (State.setEpoDom_ev _ _ _) rfl; assumption

theorem execEpochDisableWrite_ev (a0 : Nat) (a1 : Nat) (a2 : State) :
    State.evX a2 (execEpochDisableWrite a0 a1 a2) [.regs, .pmc, .evt, .host, .map, .rd, .cry, .epo, .upk, .out] := by
  unfold execEpochDisableWrite; refine evX_done ?_; unfold State.barWrite; extract_lets +onlyGivenNames x1
  have h1 : State.evolves a2 x1 [.regs, .pmc, .evt, .host, .map, .rd, .cry, .epo, .upk, .out] := by
    subst x1; refine ev_step ?_ (State.begin_ev _) rfl; exact ev_refl
  clear_value x1; refine ev_ite ?_ ?_
  · refine ev_step ?_ (State.emit_ev _ _) rfl; assumption
  · refine ev_ite ?_ ?_
    · refine ev_step ?_ (State.accessErr_ev _ _ _ _ _ _) rfl; assumption
    · beta_reduce; extract_lets +onlyGivenNames x2; clear_value x2; refine ev_ite ?_ ?_
      · assumption
      · refine ev_ite ?_ ?_
        · refine ev_step ?_ (State.enableRefused_ev _ _) rfl; assumption
        · extract_lets +onlyGivenNames x3; clear_value x3; extract_lets +onlyGivenNames x4
          have h4 : State.evolves a2 x4 [.regs, .pmc, .evt, .host, .map, .rd, .cry, .epo, .upk, .out] := by
            subst x4; refine ev_step ?_ (State.setDom_ev _ _ _) rfl; assumption
          clear_value x4; extract_lets +onlyGivenNames x5
          have h5 : State.evolves a2 x5 [.regs, .pmc, .evt, .host, .map, .rd, .cry, .epo, .upk, .out] := by
            subst x5; refine ev_step ?_ (State.setEpoDom_ev _ _ _) rfl; assumption
          clear_value x5; refine ev_step ?_ (State.nextCkpt_ev _) rfl
          refine ev_step ?_ (State.toCleanup_ev _ _ _ _) rfl; assumption

theorem execCommitDone_ev (a0 : Nat) (a1 : State) :
    State.evX a1 (execCommitDone a0 a1) [.regs, .pmc, .evt, .host, .epo, .out] := by
  unfold execCommitDone; extract_lets +onlyGivenNames x1; clear_value x1; refine evX_done ?_; refine ev_when ?_ rfl ?_
  · exact ev_refl
  · intro x2 x3; refine ev_step ?_ (State.raiseN_ev _ _ _ _) rfl; refine ev_step ?_ (State.setEpoDom_ev _ _ _) rfl
    assumption

theorem execDoorbellPrepare_ev (a0 : Nat) (a1 : Nat) (a2 : Nat) (a3 : State) :
    State.evX a3 (execDoorbellPrepare a0 a1 a2 a3) [.regs, .pmc, .evt, .host, .fch, .swt, .map, .wp, .rd, .cry, .epo, .ntn, .warp, .link, .upk, .flt, .pwr, .out] := by
  unfold execDoorbellPrepare; refine evX_done ?_; unfold State.barWrite; extract_lets +onlyGivenNames x1
  have h1 : State.evolves a3 x1 [.regs, .pmc, .evt, .host, .fch, .swt, .map, .wp, .rd, .cry, .epo, .ntn, .warp, .link, .upk, .flt, .pwr, .out] := by
    subst x1; refine ev_step ?_ (State.begin_ev _) rfl; exact ev_refl
  clear_value x1; refine ev_ite ?_ ?_
  · refine ev_step ?_ (State.emit_ev _ _) rfl; assumption
  · refine ev_ite ?_ ?_
    · refine ev_step ?_ (State.accessErr_ev _ _ _ _ _ _) rfl; assumption
    · beta_reduce; extract_lets +onlyGivenNames x2; clear_value x2; extract_lets +onlyGivenNames x3; clear_value x3
      unfold State.doorbell; refine ev_ite ?_ ?_
      · refine ev_step ?_ (State.raiseN_ev _ _ _ _) rfl; assumption
      · extract_lets +onlyGivenNames x4; subst x4; extract_lets +onlyGivenNames x5
        have h5 : State.evolves a3 x5 [.regs, .pmc, .evt, .host, .fch, .swt, .map, .wp, .rd, .cry, .epo, .ntn, .warp, .link, .upk, .flt, .pwr, .out] := by
          subst x5; refine ev_epo ?_ rfl EpoState.wf_upd; assumption
        clear_value x5
        split
        · rename_i y6 y7 y8; extract_lets +onlyGivenNames x9; subst x9; refine ev_epo ?_ rfl EpoState.wf_upd
          assumption
        · rename_i y10 y11; beta_reduce; refine ev_ite ?_ ?_
          · refine ev_step ?_ (State.prepare_ev _ _ _ _ _ _ _) rfl; extract_lets +onlyGivenNames x12; subst x12
            extract_lets +onlyGivenNames x13; subst x13; refine ev_epo ?_ rfl EpoState.wf_upd
            refine ev_epo ?_ rfl EpoState.wf_upd; assumption
          · refine ev_step ?_ (State.prepare_ev _ _ _ _ _ _ _) rfl; extract_lets +onlyGivenNames x14; subst x14
            refine ev_epo ?_ rfl EpoState.wf_upd; assumption

theorem execEpochPrepare_ev (a0 : Nat) (a1 : Nat) (a2 : Nat) (a3 : Nat) (a4 : Bool) (a5 : State) :
    State.evX a5 (execEpochPrepare a0 a1 a2 a3 a4 a5) [.regs, .pmc, .evt, .host, .fch, .swt, .map, .wp, .rd, .cry, .epo, .ntn, .warp, .link, .upk, .flt, .pwr, .out] := by
  unfold execEpochPrepare; refine evX_done ?_; unfold State.mailboxRw; unfold State.mailbox
  extract_lets +onlyGivenNames x1
  have h1 : State.evolves a5 x1 [.regs, .pmc, .evt, .host, .fch, .swt, .map, .wp, .rd, .cry, .epo, .ntn, .warp, .link, .upk, .flt, .pwr, .out] := by
    subst x1; refine ev_step ?_ (State.begin_ev _) rfl; exact ev_refl
  clear_value x1; refine ev_ite ?_ ?_
  · refine ev_step ?_ (State.emit_ev _ _) rfl; assumption
  · refine ev_ite ?_ ?_
    · refine ev_step ?_ (State.emit_ev _ _) rfl; assumption
    · beta_reduce; refine ev_ite ?_ ?_
      · refine ev_step ?_ (State.answerMbox_ev _ _ _ _) rfl; assumption
      · unfold State.gated
        split
        · rename_i y2 y3 y4; refine ev_step ?_ (State.answerMbox_ev _ _ _ _) rfl; assumption
        · rename_i y5 y6; beta_reduce; extract_lets +onlyGivenNames x7
          have h7 : State.evolves a5 x7 [.regs, .pmc, .evt, .host, .fch, .swt, .map, .wp, .rd, .cry, .epo, .ntn, .warp, .link, .upk, .flt, .pwr, .out] := by
            subst x7; refine ev_step ?_ (State.prepare_ev _ _ _ _ _ _ _) rfl; assumption
          clear_value x7; refine ev_ite ?_ ?_
          · assumption
          · refine ev_step ?_ (State.answerMbox_ev _ _ _ _) rfl; assumption

theorem execGetEpochStatus_ev (a0 : Nat) (a1 : Nat) (a2 : State) :
    State.evX a2 (execGetEpochStatus a0 a1 a2) [.out] := by
  unfold execGetEpochStatus; refine evX_done ?_; unfold State.mailbox; extract_lets +onlyGivenNames x1
  have h1 : State.evolves a2 x1 [.out] := by
    subst x1; refine ev_step ?_ (State.begin_ev _) rfl; exact ev_refl
  clear_value x1; refine ev_ite ?_ ?_
  · refine ev_step ?_ (State.emit_ev _ _) rfl; assumption
  · refine ev_ite ?_ ?_
    · refine ev_step ?_ (State.emit_ev _ _) rfl; assumption
    · beta_reduce; refine ev_ite ?_ ?_
      · refine ev_step ?_ (State.answerMbox_ev _ _ _ _) rfl; assumption
      · extract_lets +onlyGivenNames x2; clear_value x2; extract_lets +onlyGivenNames x3; clear_value x3
        extract_lets +onlyGivenNames x4; clear_value x4; refine ev_step ?_ (State.answerMbox_ev _ _ _ _) rfl
        assumption

theorem execDoorbellAbort_ev (a0 : Nat) (a1 : Nat) (a2 : Nat) (a3 : State) :
    State.evX a3 (execDoorbellAbort a0 a1 a2 a3) [.regs, .pmc, .evt, .host, .fch, .wp, .rd, .cry, .epo, .ntn, .warp, .out] := by
  unfold execDoorbellAbort; refine evX_done ?_; unfold State.barWrite; extract_lets +onlyGivenNames x1
  have h1 : State.evolves a3 x1 [.regs, .pmc, .evt, .host, .fch, .wp, .rd, .cry, .epo, .ntn, .warp, .out] := by
    subst x1; refine ev_step ?_ (State.begin_ev _) rfl; exact ev_refl
  clear_value x1; refine ev_ite ?_ ?_
  · refine ev_step ?_ (State.emit_ev _ _) rfl; assumption
  · refine ev_ite ?_ ?_
    · refine ev_step ?_ (State.accessErr_ev _ _ _ _ _ _) rfl; assumption
    · beta_reduce; unfold State.doorbell; refine ev_ite ?_ ?_
      · refine ev_step ?_ (State.raiseN_ev _ _ _ _) rfl; assumption
      · extract_lets +onlyGivenNames x2; subst x2; extract_lets +onlyGivenNames x3
        have h3 : State.evolves a3 x3 [.regs, .pmc, .evt, .host, .fch, .wp, .rd, .cry, .epo, .ntn, .warp, .out] := by
          subst x3; refine ev_epo ?_ rfl EpoState.wf_upd; assumption
        clear_value x3
        split
        · rename_i y4 y5 y6; extract_lets +onlyGivenNames x7; subst x7; refine ev_epo ?_ rfl EpoState.wf_upd
          assumption
        · rename_i y8 y9; beta_reduce; refine ev_step ?_ (State.abort_ev _ _ _) rfl
          extract_lets +onlyGivenNames x10; subst x10; refine ev_epo ?_ rfl EpoState.wf_upd; assumption

theorem execEpochCommit_ev (a0 : Nat) (a1 : Nat) (a2 : Nat) (a3 : State) :
    State.evX a3 (execEpochCommit a0 a1 a2 a3) [.regs, .pmc, .evt, .host, .map, .rd, .epo, .upk, .out] := by
  unfold execEpochCommit; refine evX_done ?_; unfold State.mailboxRw; unfold State.mailbox
  extract_lets +onlyGivenNames x1
  have h1 : State.evolves a3 x1 [.regs, .pmc, .evt, .host, .map, .rd, .epo, .upk, .out] := by
    subst x1; refine ev_step ?_ (State.begin_ev _) rfl; exact ev_refl
  clear_value x1; refine ev_ite ?_ ?_
  · refine ev_step ?_ (State.emit_ev _ _) rfl; assumption
  · refine ev_ite ?_ ?_
    · refine ev_step ?_ (State.emit_ev _ _) rfl; assumption
    · beta_reduce; refine ev_ite ?_ ?_
      · refine ev_step ?_ (State.answerMbox_ev _ _ _ _) rfl; assumption
      · unfold State.gated
        split
        · rename_i y2 y3 y4; refine ev_step ?_ (State.answerMbox_ev _ _ _ _) rfl; assumption
        · rename_i y5 y6; beta_reduce; refine ev_step ?_ (State.answerMbox_ev _ _ _ _) rfl
          refine ev_step ?_ (State.commit_ev _ _) rfl; assumption

theorem execUnalignedFire_ev (a0 : DeadlineId) (a1 : State) :
    State.evX a1 (execUnalignedFire a0 a1) [.regs, .pmc, .evt, .host, .fch, .swt, .map, .wp, .rd, .cry, .epo, .ntn, .warp, .link, .upk, .flt, .pwr, .fwu, .out] := by
  unfold execUnalignedFire; refine evX_done ?_; refine ev_when ?_ rfl ?_
  · exact ev_refl
  · intro x1 x2; refine ev_step ?_ (State.fire_ev _ _ _ _) rfl; assumption

theorem State.restartSweep_ev (a0 : State) (a1 : Nat) :
    State.evolves a0 (State.restartSweep a0 a1) [.regs, .pmc, .evt, .host, .cry] := by
  unfold State.restartSweep; extract_lets +onlyGivenNames x1; clear_value x1; refine ev_ite ?_ ?_
  · refine ev_step ?_ (State.raiseN_ev _ _ _ _) rfl; refine ev_step ?_ (State.setDom_ev _ _ _) rfl; exact ev_refl
  · exact ev_refl

theorem execAbortDone_ev (a0 : Nat) (a1 : List Nat) (a2 : State) :
    State.evX a2 (execAbortDone a0 a1 a2) [.regs, .pmc, .evt, .host, .map, .rd, .cry, .epo, .upk, .out] := by
  unfold execAbortDone; extract_lets +onlyGivenNames x1; clear_value x1; refine evX_done ?_; refine ev_when ?_ rfl ?_
  · exact ev_refl
  · intro x2 x3; extract_lets +onlyGivenNames x4; clear_value x4; extract_lets +onlyGivenNames x5
    have h5 : State.evolves a2 x5 [.regs, .pmc, .evt, .host, .map, .rd, .cry, .epo, .upk, .out] := by
      subst x5; refine ev_foldl ?_ ?_
      · assumption
      · intro x6 x7 x8; refine ev_step ?_ (State.restore_ev _ _ _ _) rfl; assumption
    clear_value x5; extract_lets +onlyGivenNames x9; clear_value x9; extract_lets +onlyGivenNames x10
    have h10 : State.evolves a2 x10 [.regs, .pmc, .evt, .host, .map, .rd, .cry, .epo, .upk, .out] := by
      subst x10; refine ev_step ?_ (State.setEpoDom_ev _ _ _) rfl; assumption
    clear_value x10; extract_lets +onlyGivenNames x11
    have h11 : State.evolves a2 x11 [.regs, .pmc, .evt, .host, .map, .rd, .cry, .epo, .upk, .out] := by
      subst x11; refine ev_step ?_ (State.restartSweep_ev _ _) rfl
      refine ev_step ?_ (State.cleanupWalk_ev _ _ _ _) rfl; assumption
    clear_value x11; refine ev_step ?_ (State.raiseN_ev _ _ _ _) rfl; assumption

theorem execEpoCntClr_ev (a0 : Nat) (a1 : State) :
    State.evX a1 (execEpoCntClr a0 a1) [.regs, .pmc, .evt, .host, .out] := by
  unfold execEpoCntClr; refine evX_done ?_; unfold State.barWrite; extract_lets +onlyGivenNames x1
  have h1 : State.evolves a1 x1 [.regs, .pmc, .evt, .host, .out] := by
    subst x1; refine ev_step ?_ (State.begin_ev _) rfl; exact ev_refl
  clear_value x1; refine ev_ite ?_ ?_
  · refine ev_step ?_ (State.emit_ev _ _) rfl; assumption
  · refine ev_ite ?_ ?_
    · refine ev_step ?_ (State.accessErr_ev _ _ _ _ _ _) rfl; assumption
    · beta_reduce; assumption

theorem execDeadlineFire_ev (a0 : DeadlineId) (a1 : State) :
    State.evX a1 (execDeadlineFire a0 a1) [.regs, .pmc, .evt, .host, .fch, .swt, .map, .wp, .rd, .cry, .epo, .ntn, .warp, .link, .upk, .flt, .pwr, .fwu, .out] := by
  unfold execDeadlineFire; refine evX_done ?_; refine ev_when ?_ rfl ?_
  · exact ev_refl
  · intro x1 x2; refine ev_step ?_ (State.fire_ev _ _ _ _) rfl; assumption

theorem execPrepareDone_ev (a0 : Nat) (a1 : State) :
    State.evX a1 (execPrepareDone a0 a1) [.regs, .pmc, .evt, .host, .epo, .out] := by
  unfold execPrepareDone; extract_lets +onlyGivenNames x1; clear_value x1; refine evX_done ?_
  refine ev_when ?_ rfl ?_
  · exact ev_refl
  · intro x2 x3; extract_lets +onlyGivenNames x4
    have h4 : State.evolves a1 x4 [.regs, .pmc, .evt, .host, .epo, .out] := by
      subst x4; refine ev_step ?_ (State.raiseN_ev _ _ _ _) rfl; refine ev_step ?_ (State.setEpoDom_ev _ _ _) rfl
      assumption
    clear_value x4
    split
    · rename_i y5 y6; refine ev_step ?_ (State.answerMbox_ev _ _ _ _) rfl; assumption
    · rename_i y7 y8; extract_lets +onlyGivenNames x9; subst x9; refine ev_epo ?_ rfl EpoState.wf_upd; assumption
    · rename_i y10 y11 y12; assumption

end Sys2Proof.Machine
end

