-- ==== Sys2Proof/Laws/EvKeys.lean ====
section
/-!
SUPPORT. What each operation of Machine/Keys.lean may change: its parts of the state, and that the register stores stay
canonical.
-/
set_option Elab.async false
namespace Sys2Proof.Machine

theorem execOldGenerationZeroize_ev (a0 : Nat) (a1 : State) :
    State.evX a1 (execOldGenerationZeroize a0 a1) [.regs, .pmc, .evt, .host, .cry, .epo, .ntn, .out] := by
  unfold execOldGenerationZeroize; extract_lets +onlyGivenNames x1; clear_value x1; refine evX_done ?_
  refine ev_when ?_ rfl ?_
  · exact ev_refl
  · intro x2 x3; extract_lets +onlyGivenNames x4; clear_value x4; extract_lets +onlyGivenNames x5
    have h5 : State.evolves a1 x5 [.regs, .pmc, .evt, .host, .cry, .epo, .ntn, .out] := by
      subst x5; refine ev_step ?_ (State.raiseN_ev _ _ _ _) rfl; refine ev_step ?_ (State.setDom_ev _ _ _) rfl
      assumption
    clear_value x5; refine ev_ite ?_ ?_
    · refine ev_step ?_ (State.genSwitch_ev _ _) rfl; assumption
    · assumption

theorem State.reseed_ev (a0 : State) : State.evolves a0 (State.reseed a0) [.regs, .pmc, .cry] := by
  unfold State.reseed; refine ev_step ?_ (State.bump_ev _ _ _) rfl; extract_lets +onlyGivenNames x1; subst x1
  refine ev_cry ?_ rfl CryState.wf_upd; exact ev_refl

theorem State.keyAnswer_ev (a0 : State) (a1 : Nat) (a2 : Nat) (a3 : List Nat) :
    State.evolves a0 (State.keyAnswer a0 a1 a2 a3) [.out] := by
  unfold State.keyAnswer; refine ev_step ?_ (State.emit_ev _ _) rfl; exact ev_refl

theorem State.kvPush_ev (a0 : State) (a1 : KvOp) :
    State.evolves a0 (State.kvPush a0 a1) [.regs, .pmc, .evt, .host, .cry, .freeCtr] := by
  unfold State.kvPush
  split
  · rename_i y1 y2 y3 y4; extract_lets +onlyGivenNames x5; clear_value x5; extract_lets +onlyGivenNames x6; subst x6
    extract_lets +onlyGivenNames x7
    have h7 : State.evolves a0 x7 [.regs, .pmc, .evt, .host, .cry, .freeCtr] := by
      subst x7; refine ev_cry ?_ rfl CryState.wf_upd; refine ev_step ?_ (ev_fst (State.draw_ev _) y4) rfl
      exact ev_refl
    clear_value x7; refine ev_step ?_ (State.count_ev _ _ _ _) rfl; refine ev_step ?_ (State.bump_ev _ _ _) rfl
    assumption

theorem execUnsealQuarantine_ev (a0 : Nat) (a1 : Nat) (a2 : State) :
    State.evX a2 (execUnsealQuarantine a0 a1 a2) [.regs, .pmc, .evt, .host, .cry, .fwu, .out, .freeCtr] := by
  unfold execUnsealQuarantine; refine evX_done ?_; unfold State.keyMessage
  split
  · rename_i y1 y2; unfold State.spdm; extract_lets +onlyGivenNames x3
    have h3 : State.evolves a2 x3 [.regs, .pmc, .evt, .host, .cry, .fwu, .out, .freeCtr] := by
      subst x3; refine ev_step ?_ (State.begin_ev _) rfl; exact ev_refl
    clear_value x3; refine ev_ite ?_ ?_
    · refine ev_step ?_ (State.emit_ev _ _) rfl; assumption
    · refine ev_ite ?_ ?_
      · refine ev_ite ?_ ?_
        · refine ev_step ?_ (State.emit_ev _ _) rfl; assumption
        · refine ev_ite ?_ ?_
          · refine ev_step ?_ (State.emit_ev _ _) rfl; extract_lets +onlyGivenNames x4; clear_value x4
            refine ev_fwu ?_ rfl; assumption
          · refine ev_step ?_ (State.emit_ev _ _) rfl; assumption
      · beta_reduce; refine ev_step ?_ (State.keyAnswer_ev _ _ _ _) rfl; assumption
  · rename_i y5 y6 y7; unfold State.spdm; extract_lets +onlyGivenNames x8
    have h8 : State.evolves a2 x8 [.regs, .pmc, .evt, .host, .cry, .fwu, .out, .freeCtr] := by
      subst x8; refine ev_step ?_ (State.begin_ev _) rfl; exact ev_refl
    clear_value x8; refine ev_ite ?_ ?_
    · refine ev_step ?_ (State.emit_ev _ _) rfl; assumption
    · refine ev_ite ?_ ?_
      · refine ev_ite ?_ ?_
        · refine ev_step ?_ (State.emit_ev _ _) rfl; assumption
        · refine ev_ite ?_ ?_
          · refine ev_step ?_ (State.emit_ev _ _) rfl; extract_lets +onlyGivenNames x9; clear_value x9
            refine ev_fwu ?_ rfl; assumption
          · refine ev_step ?_ (State.emit_ev _ _) rfl; assumption
      · beta_reduce; refine ev_ite ?_ ?_
        · split
          · rename_i y10 y11; refine ev_step ?_ (State.keyAnswer_ev _ _ _ _) rfl; assumption
          · rename_i y12 y13 y14
            split
            · rename_i y15 y16; refine ev_step ?_ (State.keyAnswer_ev _ _ _ _) rfl; assumption
            · rename_i y17 y18 y19; extract_lets +onlyGivenNames x20
              have h20 : State.evolves a2 x20 [.regs, .pmc, .evt, .host, .cry, .fwu, .out, .freeCtr] := by
                subst x20; refine ev_step ?_ (State.kvPush_ev _ _) rfl; assumption
              clear_value x20; refine ev_ite ?_ ?_
              · refine ev_step ?_ (State.keyAnswer_ev _ _ _ _) rfl; assumption
              · refine ev_step ?_ (State.keyAnswer_ev _ _ _ _) rfl; refine ev_step ?_ (State.raiseN_ev _ _ _ _) rfl
                refine ev_step ?_ (State.bump_ev _ _ _) rfl; assumption
        · refine ev_step ?_ (State.keyAnswer_ev _ _ _ _) rfl; assumption

theorem State.zeroWindow_ev (a0 : State) (a1 : Nat) : State.evolves a0 (State.zeroWindow a0 a1) [.swt, .out] := by
  unfold State.zeroWindow; refine ev_ite ?_ ?_
  · refine ev_step ?_ (State.saveWindow_ev _ _) rfl; refine ev_step ?_ (State.fillWindow_ev _ _) rfl; exact ev_refl
  · exact ev_refl

theorem State.closeHalts_ev (a0 : State) (a1 : Nat) : State.evolves a0 (State.closeHalts a0 a1) [.cry] := by
  unfold State.closeHalts; extract_lets +onlyGivenNames x1; subst x1; extract_lets +onlyGivenNames x2; subst x2
  refine ev_cry ?_ rfl CryState.wf_upd; exact ev_refl

theorem execIntegEnWrite_ev (a0 : Nat) (a1 : Nat) (a2 : Bool) (a3 : State) :
    State.evX a3 (execIntegEnWrite a0 a1 a2 a3) [.regs, .pmc, .evt, .host, .cry, .out] := by
  unfold execIntegEnWrite; refine evX_done ?_; unfold State.barWrite; extract_lets +onlyGivenNames x1
  have h1 : State.evolves a3 x1 [.regs, .pmc, .evt, .host, .cry, .out] := by
    subst x1; refine ev_step ?_ (State.begin_ev _) rfl; exact ev_refl
  clear_value x1; refine ev_ite ?_ ?_
  · refine ev_step ?_ (State.emit_ev _ _) rfl; assumption
  · refine ev_ite ?_ ?_
    · refine ev_step ?_ (State.accessErr_ev _ _ _ _ _ _) rfl; assumption
    · beta_reduce; extract_lets +onlyGivenNames x2; clear_value x2; refine ev_ite ?_ ?_
      · refine ev_step ?_ (State.setDom_ev _ _ _) rfl; assumption
      · assumption

theorem State.loadKey_ev (a0 : State) (a1 : Nat) (a2 : Bool) (a3 : BitVec 256) (a4 : Nat) :
    State.evP a0 (State.loadKey a0 a1 a2 a3 a4) [.regs, .pmc, .evt, .host, .cry, .ntn, .freeCtr] := by
  unfold State.loadKey
  split
  · rename_i y1 y2 y3; refine evP_mk ?_; refine ev_step ?_ (ev_fst (State.wrapTick_ev _) y3) rfl; exact ev_refl
  · rename_i y4 y5 y6; extract_lets +onlyGivenNames x7
    have h7 : State.evolves a0 x7 [.regs, .pmc, .evt, .host, .cry, .ntn, .freeCtr] := by
      subst x7; refine ev_step ?_ (State.kvPush_ev _ _) rfl; refine ev_step ?_ (ev_fst (State.wrapTick_ev _) y6) rfl
      exact ev_refl
    clear_value x7; extract_lets +onlyGivenNames x8; clear_value x8; extract_lets +onlyGivenNames x9; clear_value x9
    extract_lets +onlyGivenNames x10; clear_value x10; refine evP_mk ?_
    refine ev_step ?_ (State.raiseN_ev _ _ _ _) rfl; refine ev_step ?_ (State.setDom_ev _ _ _) rfl; assumption

theorem execSetDomainKey_ev (a0 : Nat) (a1 : Nat) (a2 : Bool) (a3 : BitVec 256) (a4 : State) :
    State.evX a4 (execSetDomainKey a0 a1 a2 a3 a4) [.regs, .pmc, .evt, .host, .cry, .ntn, .fwu, .out, .freeCtr] := by
  unfold execSetDomainKey; refine evX_done ?_; unfold State.keyMessage
  split
  · rename_i y1 y2; unfold State.spdm; extract_lets +onlyGivenNames x3
    have h3 : State.evolves a4 x3 [.regs, .pmc, .evt, .host, .cry, .ntn, .fwu, .out, .freeCtr] := by
      subst x3; refine ev_step ?_ (State.begin_ev _) rfl; exact ev_refl
    clear_value x3; refine ev_ite ?_ ?_
    · refine ev_step ?_ (State.emit_ev _ _) rfl; assumption
    · refine ev_ite ?_ ?_
      · refine ev_ite ?_ ?_
        · refine ev_step ?_ (State.emit_ev _ _) rfl; assumption
        · refine ev_ite ?_ ?_
          · refine ev_step ?_ (State.emit_ev _ _) rfl; extract_lets +onlyGivenNames x4; clear_value x4
            refine ev_fwu ?_ rfl; assumption
          · refine ev_step ?_ (State.emit_ev _ _) rfl; assumption
      · beta_reduce; refine ev_step ?_ (State.keyAnswer_ev _ _ _ _) rfl; assumption
  · rename_i y5 y6 y7; unfold State.spdm; extract_lets +onlyGivenNames x8
    have h8 : State.evolves a4 x8 [.regs, .pmc, .evt, .host, .cry, .ntn, .fwu, .out, .freeCtr] := by
      subst x8; refine ev_step ?_ (State.begin_ev _) rfl; exact ev_refl
    clear_value x8; refine ev_ite ?_ ?_
    · refine ev_step ?_ (State.emit_ev _ _) rfl; assumption
    · refine ev_ite ?_ ?_
      · refine ev_ite ?_ ?_
        · refine ev_step ?_ (State.emit_ev _ _) rfl; assumption
        · refine ev_ite ?_ ?_
          · refine ev_step ?_ (State.emit_ev _ _) rfl; extract_lets +onlyGivenNames x9; clear_value x9
            refine ev_fwu ?_ rfl; assumption
          · refine ev_step ?_ (State.emit_ev _ _) rfl; assumption
      · beta_reduce; refine ev_ite ?_ ?_
        · refine ev_ite ?_ ?_
          · refine ev_step ?_ (State.keyAnswer_ev _ _ _ _) rfl; assumption
          · refine ev_ite ?_ ?_
            · refine ev_step ?_ (State.keyAnswer_ev _ _ _ _) rfl; assumption
            · refine ev_ite ?_ ?_
              · refine ev_step ?_ (State.keyAnswer_ev _ _ _ _) rfl; assumption
              · split
                · rename_i y10 y11 y12; refine ev_step ?_ (State.keyAnswer_ev _ _ _ _) rfl
                  refine ev_step ?_ (ev_fst (State.loadKey_ev _ _ _ _ _) y12) rfl; assumption
                · rename_i y13 y14 y15; refine ev_step ?_ (State.keyAnswer_ev _ _ _ _) rfl
                  refine ev_step ?_ (ev_fst (State.loadKey_ev _ _ _ _ _) y15) rfl; assumption
        · refine ev_step ?_ (State.keyAnswer_ev _ _ _ _) rfl; assumption

theorem execStartRekey_ev (a0 : Nat) (a1 : Nat) (a2 : State) :
    State.evX a2 (execStartRekey a0 a1 a2) [.regs, .pmc, .evt, .host, .cry, .epo, .ntn, .fwu, .out, .freeCtr] := by
  unfold execStartRekey; refine evX_done ?_; unfold State.keyMessage
  split
  · rename_i y1 y2; unfold State.spdm; extract_lets +onlyGivenNames x3
    have h3 : State.evolves a2 x3 [.regs, .pmc, .evt, .host, .cry, .epo, .ntn, .fwu, .out, .freeCtr] := by
      subst x3; refine ev_step ?_ (State.begin_ev _) rfl; exact ev_refl
    clear_value x3; refine ev_ite ?_ ?_
    · refine ev_step ?_ (State.emit_ev _ _) rfl; assumption
    · refine ev_ite ?_ ?_
      · refine ev_ite ?_ ?_
        · refine ev_step ?_ (State.emit_ev _ _) rfl; assumption
        · refine ev_ite ?_ ?_
          · refine ev_step ?_ (State.emit_ev _ _) rfl; extract_lets +onlyGivenNames x4; clear_value x4
            refine ev_fwu ?_ rfl; assumption
          · refine ev_step ?_ (State.emit_ev _ _) rfl; assumption
      · beta_reduce; refine ev_step ?_ (State.keyAnswer_ev _ _ _ _) rfl; assumption
  · rename_i y5 y6 y7; unfold State.spdm; extract_lets +onlyGivenNames x8
    have h8 : State.evolves a2 x8 [.regs, .pmc, .evt, .host, .cry, .epo, .ntn, .fwu, .out, .freeCtr] := by
      subst x8; refine ev_step ?_ (State.begin_ev _) rfl; exact ev_refl
    clear_value x8; refine ev_ite ?_ ?_
    · refine ev_step ?_ (State.emit_ev _ _) rfl; assumption
    · refine ev_ite ?_ ?_
      · refine ev_ite ?_ ?_
        · refine ev_step ?_ (State.emit_ev _ _) rfl; assumption
        · refine ev_ite ?_ ?_
          · refine ev_step ?_ (State.emit_ev _ _) rfl; extract_lets +onlyGivenNames x9; clear_value x9
            refine ev_fwu ?_ rfl; assumption
          · refine ev_step ?_ (State.emit_ev _ _) rfl; assumption
      · beta_reduce; refine ev_ite ?_ ?_
        · refine ev_ite ?_ ?_
          · refine ev_step ?_ (State.keyAnswer_ev _ _ _ _) rfl; assumption
          · refine ev_ite ?_ ?_
            · refine ev_step ?_ (State.keyAnswer_ev _ _ _ _) rfl; assumption
            · split
              · rename_i y10 y11; refine ev_step ?_ (State.keyAnswer_ev _ _ _ _) rfl; assumption
              · rename_i y12 y13; refine ev_ite ?_ ?_
                · refine ev_step ?_ (State.keyAnswer_ev _ _ _ _) rfl; assumption
                · extract_lets +onlyGivenNames x14
                  have h14 : State.evolves a2 x14 [.regs, .pmc, .evt, .host, .cry, .epo, .ntn, .fwu, .out, .freeCtr] := by
                    subst x14; refine ev_step ?_ (State.genSwitch_ev _ _) rfl; assumption
                  clear_value x14; refine ev_ite ?_ ?_
                  · refine ev_step ?_ (State.keyAnswer_ev _ _ _ _) rfl; refine ev_step ?_ (State.kvPush_ev _ _) rfl
                    assumption
                  · refine ev_step ?_ (State.keyAnswer_ev _ _ _ _) rfl; assumption
              · rename_i y15 y16 y17; refine ev_step ?_ (State.keyAnswer_ev _ _ _ _) rfl; assumption
        · refine ev_step ?_ (State.keyAnswer_ev _ _ _ _) rfl; assumption

theorem execCryCntClr_ev (a0 : Nat) (a1 : State) :
    State.evX a1 (execCryCntClr a0 a1) [.regs, .pmc, .evt, .host, .out] := by
  unfold execCryCntClr; refine evX_done ?_; unfold State.barWrite; extract_lets +onlyGivenNames x1
  have h1 : State.evolves a1 x1 [.regs, .pmc, .evt, .host, .out] := by
    subst x1; refine ev_step ?_ (State.begin_ev _) rfl; exact ev_refl
  clear_value x1; refine ev_ite ?_ ?_
  · refine ev_step ?_ (State.emit_ev _ _) rfl; assumption
  · refine ev_ite ?_ ?_
    · refine ev_step ?_ (State.accessErr_ev _ _ _ _ _ _) rfl; assumption
    · beta_reduce; refine ev_step ?_ (State.setReg_ev _ _ _) rfl; assumption

theorem State.requarantine_ev (a0 : State) (a1 : Nat) (a2 : QuarRec) :
    State.evP a0 (State.requarantine a0 a1 a2) [.regs, .pmc, .evt, .host, .cry, .epo, .ntn] := by
  unfold State.requarantine; extract_lets +onlyGivenNames x1; clear_value x1
  split
  · rename_i y2 y3 y4 y5 y6 y7; refine evP_ite ?_ ?_
    · split
      · rename_i y8 y9 y10 y11; extract_lets +onlyGivenNames x12; clear_value x12
        extract_lets +onlyGivenNames x13; clear_value x13; refine evP_mk ?_
        refine ev_step ?_ (ev_fst (State.drawSeq_ev _ _ _) y11) rfl; exact ev_refl
    · refine evP_mk ?_; exact ev_refl
  · rename_i y14 y15 y16; refine evP_mk ?_; exact ev_refl

theorem State.requarantineAll_ev (a0 : State) (a1 : Nat) (a2 : List QuarRec) :
    State.evP a0 (State.requarantineAll a0 a1 a2) [.regs, .pmc, .evt, .host, .cry, .epo, .ntn] := by
  induction a2 generalizing a0 a1
  · unfold State.requarantineAll; refine evP_mk ?_; exact ev_refl
  · rename_i z1 z2 ih3; unfold State.requarantineAll
    split
    · rename_i y1 y2 y3 y4
      split
      · rename_i y5 y6 y7 y8; refine evP_mk ?_; refine ev_fst (p := _) ?_ y8; refine evP_step ?_ (ih3 _ _) rfl
        refine ev_step ?_ (ev_fst (State.requarantine_ev _ _ _) y4) rfl; exact ev_refl

theorem execGenerateDomainKey_ev (a0 : Nat) (a1 : Nat) (a2 : Bool) (a3 : State) :
    State.evX a3 (execGenerateDomainKey a0 a1 a2 a3) [.regs, .pmc, .evt, .host, .cry, .ntn, .out, .freeCtr] := by
  unfold execGenerateDomainKey; refine evX_done ?_; unfold State.mailboxRw; unfold State.mailbox
  extract_lets +onlyGivenNames x1
  have h1 : State.evolves a3 x1 [.regs, .pmc, .evt, .host, .cry, .ntn, .out, .freeCtr] := by
    subst x1; refine ev_step ?_ (State.begin_ev _) rfl; exact ev_refl
  clear_value x1; refine ev_ite ?_ ?_
  · refine ev_step ?_ (State.emit_ev _ _) rfl; assumption
  · refine ev_ite ?_ ?_
    · refine ev_step ?_ (State.emit_ev _ _) rfl; assumption
    · beta_reduce; refine ev_ite ?_ ?_
      · refine ev_step ?_ (State.answerMbox_ev _ _ _ _) rfl; assumption
      · refine ev_ite ?_ ?_
        · refine ev_step ?_ (State.answerMbox_ev _ _ _ _) rfl; assumption
        · refine ev_ite ?_ ?_
          · refine ev_step ?_ (State.answerMbox_ev _ _ _ _) rfl; assumption
          · refine ev_ite ?_ ?_
            · refine ev_step ?_ (State.answerMbox_ev _ _ _ _) rfl; refine ev_step ?_ (State.raiseN_ev _ _ _ _) rfl
              assumption
            · refine ev_ite ?_ ?_
              · refine ev_step ?_ (State.answerMbox_ev _ _ _ _) rfl; assumption
              · split
                · rename_i y2 y3 y4 y5; refine ev_ite ?_ ?_
                  · refine ev_step ?_ (State.answerMbox_ev _ _ _ _) rfl
                    refine ev_step ?_ (ev_fst (State.genKey_ev _ _) y5) rfl
                    refine ev_step ?_ (State.kvPush_ev _ _) rfl; refine ev_step ?_ (State.reseed_ev _) rfl; assumption
                  · split
                    · rename_i y6 y7 y8; refine ev_step ?_ (State.answerMbox_ev _ _ _ _) rfl
                      refine ev_step ?_ (ev_fst (State.loadKey_ev _ _ _ _ _) y8) rfl
                      refine ev_step ?_ (ev_fst (State.genKey_ev _ _) y5) rfl
                      refine ev_step ?_ (State.kvPush_ev _ _) rfl; refine ev_step ?_ (State.reseed_ev _) rfl
                      assumption
                    · rename_i y9 y10 y11; refine ev_step ?_ (State.answerMbox_ev _ _ _ _) rfl
                      refine ev_step ?_ (ev_fst (State.loadKey_ev _ _ _ _ _) y11) rfl
                      refine ev_step ?_ (ev_fst (State.genKey_ev _ _) y5) rfl
                      refine ev_step ?_ (State.kvPush_ev _ _) rfl; refine ev_step ?_ (State.reseed_ev _) rfl
                      assumption

theorem execGetKeyInfo_ev (a0 : Nat) (a1 : Nat) (a2 : State) :
    State.evX a2 (execGetKeyInfo a0 a1 a2) [.fwu, .out] := by
  unfold execGetKeyInfo; refine evX_done ?_; unfold State.keyMessage
  split
  · rename_i y1 y2; unfold State.spdm; extract_lets +onlyGivenNames x3
    have h3 : State.evolves a2 x3 [.fwu, .out] := by
      subst x3; refine ev_step ?_ (State.begin_ev _) rfl; exact ev_refl
    clear_value x3; refine ev_ite ?_ ?_
    · refine ev_step ?_ (State.emit_ev _ _) rfl; assumption
    · refine ev_ite ?_ ?_
      · refine ev_ite ?_ ?_
        · refine ev_step ?_ (State.emit_ev _ _) rfl; assumption
        · refine ev_ite ?_ ?_
          · refine ev_step ?_ (State.emit_ev _ _) rfl; extract_lets +onlyGivenNames x4; clear_value x4
            refine ev_fwu ?_ rfl; assumption
          · refine ev_step ?_ (State.emit_ev _ _) rfl; assumption
      · beta_reduce; refine ev_step ?_ (State.keyAnswer_ev _ _ _ _) rfl; assumption
  · rename_i y5 y6 y7; unfold State.spdm; extract_lets +onlyGivenNames x8
    have h8 : State.evolves a2 x8 [.fwu, .out] := by
      subst x8; refine ev_step ?_ (State.begin_ev _) rfl; exact ev_refl
    clear_value x8; refine ev_ite ?_ ?_
    · refine ev_step ?_ (State.emit_ev _ _) rfl; assumption
    · refine ev_ite ?_ ?_
      · refine ev_ite ?_ ?_
        · refine ev_step ?_ (State.emit_ev _ _) rfl; assumption
        · refine ev_ite ?_ ?_
          · refine ev_step ?_ (State.emit_ev _ _) rfl; extract_lets +onlyGivenNames x9; clear_value x9
            refine ev_fwu ?_ rfl; assumption
          · refine ev_step ?_ (State.emit_ev _ _) rfl; assumption
      · beta_reduce; refine ev_ite ?_ ?_
        · refine ev_ite ?_ ?_
          · refine ev_step ?_ (State.keyAnswer_ev _ _ _ _) rfl; assumption
          · extract_lets +onlyGivenNames x10; clear_value x10; refine ev_step ?_ (State.keyAnswer_ev _ _ _ _) rfl
            assumption
        · refine ev_step ?_ (State.keyAnswer_ev _ _ _ _) rfl; assumption

theorem execDrbgReseedTimer_ev (a0 : State) : State.evX a0 (execDrbgReseedTimer a0) [.regs, .pmc, .cry, .out] := by
  unfold execDrbgReseedTimer; refine evX_done ?_; refine ev_when ?_ rfl ?_
  · exact ev_refl
  · intro x1 x2; refine ev_step ?_ (State.reseed_ev _) rfl; assumption

theorem execEntropyFail_ev (a0 : State) :
    State.evX a0 (execEntropyFail a0) [.regs, .pmc, .evt, .host, .cry, .out] := by
  unfold execEntropyFail; refine evX_done ?_; refine ev_when ?_ rfl ?_
  · exact ev_refl
  · intro x1 x2; refine ev_step ?_ (State.raise_ev _ _) rfl; refine ev_step ?_ (State.bump_ev _ _ _) rfl
    extract_lets +onlyGivenNames x3; subst x3; refine ev_cry ?_ rfl CryState.wf_upd; assumption

theorem execKveCntClr_ev (a0 : Nat) (a1 : State) :
    State.evX a1 (execKveCntClr a0 a1) [.regs, .pmc, .evt, .host, .out] := by
  unfold execKveCntClr; refine evX_done ?_; unfold State.barWrite; extract_lets +onlyGivenNames x1
  have h1 : State.evolves a1 x1 [.regs, .pmc, .evt, .host, .out] := by
    subst x1; refine ev_step ?_ (State.begin_ev _) rfl; exact ev_refl
  clear_value x1; refine ev_ite ?_ ?_
  · refine ev_step ?_ (State.emit_ev _ _) rfl; assumption
  · refine ev_ite ?_ ?_
    · refine ev_step ?_ (State.accessErr_ev _ _ _ _ _ _) rfl; assumption
    · beta_reduce; refine ev_step ?_ (State.setReg_ev _ _ _) rfl; assumption

theorem State.zeroReq_ev (a0 : State) (a1 : Req) :
    State.evolves a0 (State.zeroReq a0 a1) [.regs, .pmc, .evt, .host, .out] := by
  unfold State.zeroReq; refine ev_ite ?_ ?_
  · refine ev_step ?_ (State.cmp_ev _ _ _) rfl; exact ev_refl
  · refine ev_step ?_ (State.memData_ev _ _ _ _ _) rfl; exact ev_refl

theorem execDestroyDomainKey_ev (a0 : Nat) (a1 : Nat) (a2 : State) :
    State.evX a2 (execDestroyDomainKey a0 a1 a2) [.regs, .pmc, .evt, .host, .fch, .swt, .map, .wp, .rd, .cry, .epo, .ntn, .warp, .upk, .fwu, .out] := by
  unfold execDestroyDomainKey; refine evX_done ?_; unfold State.keyMessage
  split
  · rename_i y1 y2; unfold State.spdm; extract_lets +onlyGivenNames x3
    have h3 : State.evolves a2 x3 [.regs, .pmc, .evt, .host, .fch, .swt, .map, .wp, .rd, .cry, .epo, .ntn, .warp, .upk, .fwu, .out] := by
      subst x3; refine ev_step ?_ (State.begin_ev _) rfl; exact ev_refl
    clear_value x3; refine ev_ite ?_ ?_
    · refine ev_step ?_ (State.emit_ev _ _) rfl; assumption
    · refine ev_ite ?_ ?_
      · refine ev_ite ?_ ?_
        · refine ev_step ?_ (State.emit_ev _ _) rfl; assumption
        · refine ev_ite ?_ ?_
          · refine ev_step ?_ (State.emit_ev _ _) rfl; extract_lets +onlyGivenNames x4; clear_value x4
            refine ev_fwu ?_ rfl; assumption
          · refine ev_step ?_ (State.emit_ev _ _) rfl; assumption
      · beta_reduce; refine ev_step ?_ (State.keyAnswer_ev _ _ _ _) rfl; assumption
  · rename_i y5 y6 y7; unfold State.spdm; extract_lets +onlyGivenNames x8
    have h8 : State.evolves a2 x8 [.regs, .pmc, .evt, .host, .fch, .swt, .map, .wp, .rd, .cry, .epo, .ntn, .warp, .upk, .fwu, .out] := by
      subst x8; refine ev_step ?_ (State.begin_ev _) rfl; exact ev_refl
    clear_value x8; refine ev_ite ?_ ?_
    · refine ev_step ?_ (State.emit_ev _ _) rfl; assumption
    · refine ev_ite ?_ ?_
      · refine ev_ite ?_ ?_
        · refine ev_step ?_ (State.emit_ev _ _) rfl; assumption
        · refine ev_ite ?_ ?_
          · refine ev_step ?_ (State.emit_ev _ _) rfl; extract_lets +onlyGivenNames x9; clear_value x9
            refine ev_fwu ?_ rfl; assumption
          · refine ev_step ?_ (State.emit_ev _ _) rfl; assumption
      · beta_reduce; refine ev_ite ?_ ?_
        · refine ev_ite ?_ ?_
          · refine ev_step ?_ (State.keyAnswer_ev _ _ _ _) rfl; assumption
          · extract_lets +onlyGivenNames x10
            have h10 : State.evolves a2 x10 [.regs, .pmc, .evt, .host, .fch, .swt, .map, .wp, .rd, .cry, .epo, .ntn, .warp, .upk, .fwu, .out] := by
              subst x10; unfold State.destroyKey; extract_lets +onlyGivenNames x11
              have h11 : State.evolves a2 x11 [.regs, .pmc, .evt, .host, .fch, .swt, .map, .wp, .rd, .cry, .epo, .ntn, .warp, .upk, .fwu, .out] := by
                subst x11; refine ev_step ?_ (State.discardEpoch_ev _ _) rfl; unfold State.dropDomain
                unfold State.dropWhere; extract_lets +onlyGivenNames x12
                have h12 : State.evolves a2 x12 [.regs, .pmc, .evt, .host, .fch, .swt, .map, .wp, .rd, .cry, .epo, .ntn, .warp, .upk, .fwu, .out] := by
                  subst x12; unfold State.endWhere; extract_lets +onlyGivenNames x13; subst x13
                  extract_lets +onlyGivenNames x14; clear_value x14; extract_lets +onlyGivenNames x15; clear_value x15
                  extract_lets +onlyGivenNames x16; clear_value x16; extract_lets +onlyGivenNames x17; subst x17
                  extract_lets +onlyGivenNames x18; subst x18; extract_lets +onlyGivenNames x19
                  have h19 : State.evolves a2 x19 [.regs, .pmc, .evt, .host, .fch, .swt, .map, .wp, .rd, .cry, .epo, .ntn, .warp, .upk, .fwu, .out] := by
                    subst x19
                    refine ev_updW ?_ id id id WriteState.wf_upd id EpoState.wf_upd id id id id (by intro p; cases p <;> first | exact .inl (by decide) | exact .inr rfl | exact .inr ⟨rfl, rfl⟩)
                    assumption
                  clear_value x19; refine ev_foldl ?_ ?_
                  · refine ev_foldl ?_ ?_
                    · assumption
                    · intro x20 x21 x22; refine ev_step ?_ (State.zeroReq_ev _ _) rfl; assumption
                  · intro x23 x24 x25; refine ev_step ?_ (State.cmp_ev _ _ _) rfl; assumption
                clear_value x12; extract_lets +onlyGivenNames x26; clear_value x26; extract_lets +onlyGivenNames x27
                have h27 : State.evolves a2 x27 [.regs, .pmc, .evt, .host, .fch, .swt, .map, .wp, .rd, .cry, .epo, .ntn, .warp, .upk, .fwu, .out] := by
                  subst x27; refine ev_foldl ?_ ?_
                  · assumption
                  · intro x28 x29 x30; refine ev_step ?_ (State.dropSide_ev _ _) rfl
                    refine ev_step ?_ (State.dropLine_ev _ _) rfl; assumption
                clear_value x27; extract_lets +onlyGivenNames x31; subst x31
                extract_lets +onlyGivenNames x32; clear_value x32; extract_lets +onlyGivenNames x33; clear_value x33
                extract_lets +onlyGivenNames x34; clear_value x34; extract_lets +onlyGivenNames x35; clear_value x35
                extract_lets +onlyGivenNames x36; subst x36; extract_lets +onlyGivenNames x37; clear_value x37
                extract_lets +onlyGivenNames x38
                have h38 : State.evolves a2 x38 [.regs, .pmc, .evt, .host, .fch, .swt, .map, .wp, .rd, .cry, .epo, .ntn, .warp, .upk, .fwu, .out] := by
                  subst x38
                  refine ev_updW ?_ id id id WriteState.wf_upd id id id id id id (by intro p; cases p <;> first | exact .inl (by decide) | exact .inr rfl | exact .inr ⟨rfl, rfl⟩)
                  assumption
                clear_value x38; extract_lets +onlyGivenNames x39; subst x39; refine ev_foldl ?_ ?_
                · assumption
                · intro x40 x41 x42; extract_lets +onlyGivenNames x43; clear_value x43
                  refine ev_step ?_ (State.settleGroup_ev _ _) rfl; refine ev_step ?_ (State.setStripes_ev _ _ _) rfl
                  assumption
              clear_value x11; extract_lets +onlyGivenNames x44
              have h44 : State.evolves a2 x44 [.regs, .pmc, .evt, .host, .fch, .swt, .map, .wp, .rd, .cry, .epo, .ntn, .warp, .upk, .fwu, .out] := by
                subst x44; refine ev_step ?_ (State.zeroWindow_ev _ _) rfl
                refine ev_step ?_ (State.closeHalts_ev _ _) rfl; refine ev_step ?_ (State.setDom_ev _ _ _) rfl
                assumption
              clear_value x44; refine ev_step ?_ (State.raiseN_ev _ _ _ _) rfl; assumption
            clear_value x10; extract_lets +onlyGivenNames x45; clear_value x45
            extract_lets +onlyGivenNames x46; subst x46; extract_lets +onlyGivenNames x47
            have h47 : State.evolves a2 x47 [.regs, .pmc, .evt, .host, .fch, .swt, .map, .wp, .rd, .cry, .epo, .ntn, .warp, .upk, .fwu, .out] := by
              subst x47; refine ev_ite ?_ ?_
              · assumption
              · refine ev_map ?_ rfl MapState.wf_upd; assumption
            clear_value x47; refine ev_step ?_ (State.keyAnswer_ev _ _ _ _) rfl; assumption
        · refine ev_step ?_ (State.keyAnswer_ev _ _ _ _) rfl; assumption

theorem execKveReseed_ev (a0 : Nat) (a1 : State) :
    State.evX a1 (execKveReseed a0 a1) [.regs, .pmc, .evt, .host, .cry, .out] := by
  unfold execKveReseed; refine evX_done ?_; unfold State.barWrite; extract_lets +onlyGivenNames x1
  have h1 : State.evolves a1 x1 [.regs, .pmc, .evt, .host, .cry, .out] := by
    subst x1; refine ev_step ?_ (State.begin_ev _) rfl; exact ev_refl
  clear_value x1; refine ev_ite ?_ ?_
  · refine ev_step ?_ (State.emit_ev _ _) rfl; assumption
  · refine ev_ite ?_ ?_
    · refine ev_step ?_ (State.accessErr_ev _ _ _ _ _ _) rfl; assumption
    · beta_reduce; refine ev_ite ?_ ?_
      · refine ev_step ?_ (State.reseed_ev _) rfl; assumption
      · assumption

theorem State.failKey_ev (a0 : State) (a1 : Nat) :
    State.evolves a0 (State.failKey a0 a1) [.regs, .pmc, .evt, .host, .cry] := by
  unfold State.failKey; extract_lets +onlyGivenNames x1; clear_value x1
  refine ev_step ?_ (State.raiseN_ev _ _ _ _) rfl; refine ev_step ?_ (State.setDom_ev _ _ _) rfl; exact ev_refl

theorem execRekeySweepDone_ev (a0 : Nat) (a1 : State) :
    State.evX a1 (execRekeySweepDone a0 a1) [.regs, .pmc, .evt, .host, .swt, .cry, .epo, .ntn, .flt, .out] := by
  unfold execRekeySweepDone; refine evX_done ?_; refine ev_when ?_ rfl ?_
  · exact ev_refl
  · intro x1 x2
    split
    · rename_i y3 y4 y5 y6; extract_lets +onlyGivenNames x7; clear_value x7; extract_lets +onlyGivenNames x8
      have h8 : State.evolves a1 x8 [.regs, .pmc, .evt, .host, .swt, .cry, .epo, .ntn, .flt, .out] := by
        subst x8; refine ev_flt ?_ rfl; refine ev_step ?_ (ev_fst (State.requarantineAll_ev _ _ _) y6) rfl; assumption
      extract_lets +onlyGivenNames x9
      have h9 : State.evolves a1 x9 [.regs, .pmc, .evt, .host, .swt, .cry, .epo, .ntn, .flt, .out] := by
        subst x9; refine ev_ite ?_ ?_
        · refine ev_step ?_ (State.saveWindow_ev _ _) rfl; assumption
        · assumption
      clear_value x9; extract_lets +onlyGivenNames x10; clear_value x10; refine ev_step ?_ (State.setDom_ev _ _ _) rfl
      assumption

theorem execKeyVaultOpDone_ev (a0 : Bool) (a1 : State) :
    State.evX a1 (execKeyVaultOpDone a0 a1) [.regs, .pmc, .evt, .host, .cry, .out] := by
  unfold execKeyVaultOpDone; refine evX_done ?_; refine ev_when ?_ rfl ?_
  · exact ev_refl
  · intro x1 x2
    split
    · rename_i y3 y4; assumption
    · rename_i y5 y6 y7 y8; extract_lets +onlyGivenNames x9; subst x9; extract_lets +onlyGivenNames x10
      have h10 : State.evolves a1 x10 [.regs, .pmc, .evt, .host, .cry, .out] := by
        subst x10; refine ev_cry ?_ rfl CryState.wf_upd; assumption
      clear_value x10; extract_lets +onlyGivenNames x11; subst x11
      split
      · rename_i y12 y13; refine ev_ite ?_ ?_
        · assumption
        · refine ev_step ?_ (State.failKey_ev _ _) rfl; beta_reduce; refine ev_step ?_ (State.raiseN_ev _ _ _ _) rfl
          refine ev_step ?_ (State.bump_ev _ _ _) rfl; assumption
      · rename_i y14 y15; refine ev_ite ?_ ?_
        · assumption
        · beta_reduce; refine ev_step ?_ (State.raiseN_ev _ _ _ _) rfl; refine ev_step ?_ (State.bump_ev _ _ _) rfl
          assumption
      · rename_i y16 y17 y18 y19; refine ev_ite ?_ ?_
        · refine ev_step ?_ (State.emit_ev _ _) rfl; assumption
        · beta_reduce; refine ev_step ?_ (State.raiseN_ev _ _ _ _) rfl; refine ev_step ?_ (State.bump_ev _ _ _) rfl
          assumption
      · rename_i y20 y21 y22 y23; assumption

theorem execEntropyRetest_ev (a0 : Bool) (a1 : State) :
    State.evX a1 (execEntropyRetest a0 a1) [.regs, .pmc, .evt, .host, .cry, .out] := by
  unfold execEntropyRetest; refine evX_done ?_; refine ev_when ?_ rfl ?_
  · exact ev_refl
  · intro x1 x2; refine ev_ite ?_ ?_
    · refine ev_step ?_ (State.raise_ev _ _) rfl; extract_lets +onlyGivenNames x3; subst x3
      refine ev_cry ?_ rfl CryState.wf_upd; assumption
    · extract_lets +onlyGivenNames x4; clear_value x4; extract_lets +onlyGivenNames x5; subst x5
      extract_lets +onlyGivenNames x6
      have h6 : State.evolves a1 x6 [.regs, .pmc, .evt, .host, .cry, .out] := by
        subst x6; refine ev_step ?_ (State.bump_ev _ _ _) rfl; refine ev_cry ?_ rfl CryState.wf_upd; assumption
      clear_value x6; refine ev_ite ?_ ?_
      · refine ev_step ?_ (State.raise_ev _ _) rfl; extract_lets +onlyGivenNames x7; subst x7
        refine ev_cry ?_ rfl CryState.wf_upd; assumption
      · assumption

theorem execRekeySweepStart_ev (a0 : Nat) (a1 : State) : State.evX a1 (execRekeySweepStart a0 a1) [.cry, .out] := by
  unfold execRekeySweepStart; extract_lets +onlyGivenNames x1; clear_value x1
  extract_lets +onlyGivenNames x2; clear_value x2; refine evX_done ?_; refine ev_when ?_ rfl ?_
  · exact ev_refl
  · intro x3 x4; refine ev_step ?_ (State.setDom_ev _ _ _) rfl; assumption

end Sys2Proof.Machine
end

