-- ==== Sys2Proof/Laws/EvSpdm.lean ====
section
/-!
SUPPORT. What each operation of Machine/Spdm.lean may change: its parts of the state, and that the register stores stay
canonical.
-/
set_option Elab.async false
namespace Sys2Proof.Machine

theorem execDoeDiscovery_ev (a0 : Nat) (a1 : Nat) (a2 : State) :
    State.evX a2 (execDoeDiscovery a0 a1 a2) [.fwu, .out] := by
  unfold execDoeDiscovery; refine evX_done ?_; unfold State.spdm; extract_lets +onlyGivenNames x1
  have h1 : State.evolves a2 x1 [.fwu, .out] := by
    subst x1; refine ev_step ?_ (State.begin_ev _) rfl; exact ev_refl
  clear_value x1; refine ev_ite ?_ ?_
  · refine ev_step ?_ (State.emit_ev _ _) rfl; assumption
  · refine ev_ite ?_ ?_
    · refine ev_ite ?_ ?_
      · refine ev_step ?_ (State.emit_ev _ _) rfl; assumption
      · refine ev_ite ?_ ?_
        · refine ev_step ?_ (State.emit_ev _ _) rfl; extract_lets +onlyGivenNames x2; clear_value x2
          refine ev_fwu ?_ rfl; assumption
        · refine ev_step ?_ (State.emit_ev _ _) rfl; assumption
    · beta_reduce; extract_lets +onlyGivenNames x3; clear_value x3
      split
      · rename_i y4 y5 y6; refine ev_step ?_ (State.emit_ev _ _) rfl; assumption
      · rename_i y7 y8; refine ev_step ?_ (State.emit_ev _ _) rfl; assumption

theorem State.spdmError_ev (a0 : State) (a1 : Nat) : State.evolves a0 (State.spdmError a0 a1) [.out] := by
  unfold State.spdmError; refine ev_step ?_ (State.emit_ev _ _) rfl; exact ev_refl

theorem State.unsigned_ev (a0 : State) (a1 : Nat) : State.evolves a0 (State.unsigned a0 a1) [.fwu] := by
  unfold State.unsigned; extract_lets +onlyGivenNames x1; clear_value x1; refine ev_fwu ?_ rfl; exact ev_refl

theorem State.signedAnswer_ev (a0 : State) (a1 : Nat) (a2 : Nat) (a3 : List Nat) :
    State.evolves a0 (State.signedAnswer a0 a1 a2 a3) [.fwu, .out, .freeCtr] := by
  unfold State.signedAnswer; extract_lets +onlyGivenNames x1; clear_value x1
  refine ev_step ?_ (State.emit_ev _ _) rfl; extract_lets +onlyGivenNames x2
  have h2 : State.evolves a0 x2 [.fwu, .out, .freeCtr] := by
    subst x2; refine ev_step ?_ (State.unsigned_ev _ _) rfl; exact ev_refl
  clear_value x2; extract_lets +onlyGivenNames x3; clear_value x3
  refine ev_updW ?_ id id id id id id id id id id (by intro p; cases p <;> first | exact .inl (by decide) | exact .inr rfl | exact .inr ⟨rfl, rfl⟩)
  assumption

theorem execSpdmGetMeasurements_ev (a0 : Nat) (a1 : Nat) (a2 : Bool) (a3 : State) :
    State.evX a3 (execSpdmGetMeasurements a0 a1 a2 a3) [.fwu, .out, .freeCtr] := by
  unfold execSpdmGetMeasurements; refine evX_done ?_; unfold State.spdm; extract_lets +onlyGivenNames x1
  have h1 : State.evolves a3 x1 [.fwu, .out, .freeCtr] := by
    subst x1; refine ev_step ?_ (State.begin_ev _) rfl; exact ev_refl
  clear_value x1; refine ev_ite ?_ ?_
  · refine ev_step ?_ (State.emit_ev _ _) rfl; assumption
  · refine ev_ite ?_ ?_
    · refine ev_ite ?_ ?_
      · refine ev_step ?_ (State.emit_ev _ _) rfl; assumption
      · refine ev_ite ?_ ?_
        · refine ev_step ?_ (State.emit_ev _ _) rfl; extract_lets +onlyGivenNames x2; clear_value x2
          refine ev_fwu ?_ rfl; assumption
        · refine ev_step ?_ (State.emit_ev _ _) rfl; assumption
    · beta_reduce; extract_lets +onlyGivenNames x3; clear_value x3; refine ev_ite ?_ ?_
      · refine ev_step ?_ (State.spdmError_ev _ _) rfl; refine ev_step ?_ (State.unsigned_ev _ _) rfl; assumption
      · refine ev_ite ?_ ?_
        · refine ev_step ?_ (State.signedAnswer_ev _ _ _ _) rfl; assumption
        · refine ev_step ?_ (State.emit_ev _ _) rfl; refine ev_step ?_ (State.unsigned_ev _ _) rfl; assumption

theorem execGetPqSignature_ev (a0 : Nat) (a1 : State) : State.evX a1 (execGetPqSignature a0 a1) [.fwu, .out] := by
  unfold execGetPqSignature; refine evX_done ?_; unfold State.spdm; extract_lets +onlyGivenNames x1
  have h1 : State.evolves a1 x1 [.fwu, .out] := by
    subst x1; refine ev_step ?_ (State.begin_ev _) rfl; exact ev_refl
  clear_value x1; refine ev_ite ?_ ?_
  · refine ev_step ?_ (State.emit_ev _ _) rfl; assumption
  · refine ev_ite ?_ ?_
    · refine ev_ite ?_ ?_
      · refine ev_step ?_ (State.emit_ev _ _) rfl; assumption
      · refine ev_ite ?_ ?_
        · refine ev_step ?_ (State.emit_ev _ _) rfl; extract_lets +onlyGivenNames x2; clear_value x2
          refine ev_fwu ?_ rfl; assumption
        · refine ev_step ?_ (State.emit_ev _ _) rfl; assumption
    · beta_reduce; refine ev_ite ?_ ?_
      · extract_lets +onlyGivenNames x3
        have h3 : State.evolves a1 x3 [.fwu, .out] := by
          subst x3; refine ev_step ?_ (State.unsigned_ev _ _) rfl; assumption
        clear_value x3; refine ev_step ?_ (State.emit_ev _ _) rfl; extract_lets +onlyGivenNames x4; clear_value x4
        refine ev_fwu ?_ rfl; assumption
      · refine ev_step ?_ (State.keyAnswer_ev _ _ _ _) rfl; assumption

theorem execSpdmGetCertificate_ev (a0 : Nat) (a1 : Nat) (a2 : Nat) (a3 : State) :
    State.evX a3 (execSpdmGetCertificate a0 a1 a2 a3) [.fwu, .out] := by
  unfold execSpdmGetCertificate; refine evX_done ?_; unfold State.spdm; extract_lets +onlyGivenNames x1
  have h1 : State.evolves a3 x1 [.fwu, .out] := by
    subst x1; refine ev_step ?_ (State.begin_ev _) rfl; exact ev_refl
  clear_value x1; refine ev_ite ?_ ?_
  · refine ev_step ?_ (State.emit_ev _ _) rfl; assumption
  · refine ev_ite ?_ ?_
    · refine ev_ite ?_ ?_
      · refine ev_step ?_ (State.emit_ev _ _) rfl; assumption
      · refine ev_ite ?_ ?_
        · refine ev_step ?_ (State.emit_ev _ _) rfl; extract_lets +onlyGivenNames x2; clear_value x2
          refine ev_fwu ?_ rfl; assumption
        · refine ev_step ?_ (State.emit_ev _ _) rfl; assumption
    · beta_reduce; extract_lets +onlyGivenNames x3
      have h3 : State.evolves a3 x3 [.fwu, .out] := by
        subst x3; refine ev_step ?_ (State.unsigned_ev _ _) rfl; assumption
      clear_value x3; refine ev_ite ?_ ?_
      · refine ev_step ?_ (State.emit_ev _ _) rfl; assumption
      · refine ev_step ?_ (State.spdmError_ev _ _) rfl; assumption

theorem execSpdmKeyExchange_ev (a0 : Nat) (a1 : Nat) (a2 : State) :
    State.evX a2 (execSpdmKeyExchange a0 a1 a2) [.regs, .pmc, .evt, .host, .cry, .fwu, .out, .freeCtr] := by
  unfold execSpdmKeyExchange; refine evX_done ?_; unfold State.spdm; extract_lets +onlyGivenNames x1
  have h1 : State.evolves a2 x1 [.regs, .pmc, .evt, .host, .cry, .fwu, .out, .freeCtr] := by
    subst x1; refine ev_step ?_ (State.begin_ev _) rfl; exact ev_refl
  clear_value x1; refine ev_ite ?_ ?_
  · refine ev_step ?_ (State.emit_ev _ _) rfl; assumption
  · refine ev_ite ?_ ?_
    · refine ev_ite ?_ ?_
      · refine ev_step ?_ (State.emit_ev _ _) rfl; assumption
      · refine ev_ite ?_ ?_
        · refine ev_step ?_ (State.emit_ev _ _) rfl; extract_lets +onlyGivenNames x2; clear_value x2
          refine ev_fwu ?_ rfl; assumption
        · refine ev_step ?_ (State.emit_ev _ _) rfl; assumption
    · beta_reduce; refine ev_ite ?_ ?_
      · refine ev_step ?_ (State.spdmError_ev _ _) rfl; refine ev_step ?_ (State.unsigned_ev _ _) rfl; assumption
      · refine ev_ite ?_ ?_
        · refine ev_step ?_ (State.spdmError_ev _ _) rfl; refine ev_step ?_ (State.unsigned_ev _ _) rfl; assumption
        · extract_lets +onlyGivenNames x3; clear_value x3; extract_lets +onlyGivenNames x4; clear_value x4
          extract_lets +onlyGivenNames x5; clear_value x5; refine ev_step ?_ (State.signedAnswer_ev _ _ _ _) rfl
          refine ev_step ?_ (State.kvPush_ev _ _) rfl; extract_lets +onlyGivenNames x6; clear_value x6
          refine ev_fwu ?_ rfl; assumption

theorem execSpdmChallenge_ev (a0 : Nat) (a1 : BitVec 256) (a2 : State) :
    State.evX a2 (execSpdmChallenge a0 a1 a2) [.fwu, .out, .freeCtr] := by
  unfold execSpdmChallenge; refine evX_done ?_; unfold State.spdm; extract_lets +onlyGivenNames x1
  have h1 : State.evolves a2 x1 [.fwu, .out, .freeCtr] := by
    subst x1; refine ev_step ?_ (State.begin_ev _) rfl; exact ev_refl
  clear_value x1; refine ev_ite ?_ ?_
  · refine ev_step ?_ (State.emit_ev _ _) rfl; assumption
  · refine ev_ite ?_ ?_
    · refine ev_ite ?_ ?_
      · refine ev_step ?_ (State.emit_ev _ _) rfl; assumption
      · refine ev_ite ?_ ?_
        · refine ev_step ?_ (State.emit_ev _ _) rfl; extract_lets +onlyGivenNames x2; clear_value x2
          refine ev_fwu ?_ rfl; assumption
        · refine ev_step ?_ (State.emit_ev _ _) rfl; assumption
    · beta_reduce; refine ev_step ?_ (State.signedAnswer_ev _ _ _ _) rfl; assumption

theorem execRespondIfReady_ev (a0 : Nat) (a1 : State) :
    State.evX a1 (execRespondIfReady a0 a1) [.fwu, .out, .freeCtr] := by
  unfold execRespondIfReady; refine evX_done ?_; unfold State.spdm; extract_lets +onlyGivenNames x1
  have h1 : State.evolves a1 x1 [.fwu, .out, .freeCtr] := by
    subst x1; refine ev_step ?_ (State.begin_ev _) rfl; exact ev_refl
  clear_value x1; refine ev_ite ?_ ?_
  · refine ev_step ?_ (State.emit_ev _ _) rfl; assumption
  · refine ev_ite ?_ ?_
    · refine ev_ite ?_ ?_
      · refine ev_step ?_ (State.emit_ev _ _) rfl; assumption
      · refine ev_ite ?_ ?_
        · refine ev_step ?_ (State.emit_ev _ _) rfl; extract_lets +onlyGivenNames x2; clear_value x2
          refine ev_fwu ?_ rfl; assumption
        · refine ev_step ?_ (State.emit_ev _ _) rfl; assumption
    · beta_reduce; refine ev_ite ?_ ?_
      · extract_lets +onlyGivenNames x3; clear_value x3; refine ev_step ?_ (State.keyAnswer_ev _ _ _ _) rfl
        extract_lets +onlyGivenNames x4; clear_value x4
        refine ev_updW ?_ id id id id id id id id id id (by intro p; cases p <;> first | exact .inl (by decide) | exact .inr rfl | exact .inr ⟨rfl, rfl⟩)
        assumption
      · refine ev_step ?_ (State.spdmError_ev _ _) rfl; assumption

theorem execSecuredMessage_ev (a0 : Nat) (a1 : Nat) (a2 : Nat) (a3 : Bool) (a4 : State) :
    State.evX a4 (execSecuredMessage a0 a1 a2 a3 a4) [.regs, .pmc, .evt, .host, .cry, .fwu, .out, .freeCtr] := by
  unfold execSecuredMessage; refine evX_done ?_; unfold State.spdm; extract_lets +onlyGivenNames x1
  have h1 : State.evolves a4 x1 [.regs, .pmc, .evt, .host, .cry, .fwu, .out, .freeCtr] := by
    subst x1; refine ev_step ?_ (State.begin_ev _) rfl; exact ev_refl
  clear_value x1; refine ev_ite ?_ ?_
  · refine ev_step ?_ (State.emit_ev _ _) rfl; assumption
  · refine ev_ite ?_ ?_
    · refine ev_ite ?_ ?_
      · refine ev_step ?_ (State.emit_ev _ _) rfl; assumption
      · refine ev_ite ?_ ?_
        · refine ev_step ?_ (State.emit_ev _ _) rfl; extract_lets +onlyGivenNames x2; clear_value x2
          refine ev_fwu ?_ rfl; assumption
        · refine ev_step ?_ (State.emit_ev _ _) rfl; assumption
    · beta_reduce
      split
      · rename_i y3 y4; refine ev_step ?_ (State.spdmError_ev _ _) rfl; assumption
      · rename_i y5 y6 y7; refine ev_ite ?_ ?_
        · refine ev_step ?_ (State.spdmError_ev _ _) rfl; assumption
        · refine ev_ite ?_ ?_
          · refine ev_step ?_ (State.raiseN_ev _ _ _ _) rfl; assumption
          · refine ev_step ?_ (State.kvPush_ev _ _) rfl; assumption

theorem execGetPqCertificate_ev (a0 : Nat) (a1 : Nat) (a2 : Nat) (a3 : State) :
    State.evX a3 (execGetPqCertificate a0 a1 a2 a3) [.fwu, .out] := by
  unfold execGetPqCertificate; refine evX_done ?_; unfold State.spdm; extract_lets +onlyGivenNames x1
  have h1 : State.evolves a3 x1 [.fwu, .out] := by
    subst x1; refine ev_step ?_ (State.begin_ev _) rfl; exact ev_refl
  clear_value x1; refine ev_ite ?_ ?_
  · refine ev_step ?_ (State.emit_ev _ _) rfl; assumption
  · refine ev_ite ?_ ?_
    · refine ev_ite ?_ ?_
      · refine ev_step ?_ (State.emit_ev _ _) rfl; assumption
      · refine ev_ite ?_ ?_
        · refine ev_step ?_ (State.emit_ev _ _) rfl; extract_lets +onlyGivenNames x2; clear_value x2
          refine ev_fwu ?_ rfl; assumption
        · refine ev_step ?_ (State.emit_ev _ _) rfl; assumption
    · beta_reduce; extract_lets +onlyGivenNames x3
      have h3 : State.evolves a3 x3 [.fwu, .out] := by
        subst x3; refine ev_step ?_ (State.unsigned_ev _ _) rfl; assumption
      clear_value x3; refine ev_ite ?_ ?_
      · refine ev_step ?_ (State.keyAnswer_ev _ _ _ _) rfl; assumption
      · refine ev_ite ?_ ?_
        · refine ev_step ?_ (State.keyAnswer_ev _ _ _ _) rfl; assumption
        · refine ev_step ?_ (State.spdmError_ev _ _) rfl; assumption

theorem execCdatTableAccess_ev (a0 : Nat) (a1 : State) : State.evX a1 (execCdatTableAccess a0 a1) [.fwu, .out] := by
  unfold execCdatTableAccess; refine evX_done ?_; unfold State.spdm; extract_lets +onlyGivenNames x1
  have h1 : State.evolves a1 x1 [.fwu, .out] := by
    subst x1; refine ev_step ?_ (State.begin_ev _) rfl; exact ev_refl
  clear_value x1; refine ev_ite ?_ ?_
  · refine ev_step ?_ (State.emit_ev _ _) rfl; assumption
  · refine ev_ite ?_ ?_
    · refine ev_ite ?_ ?_
      · refine ev_step ?_ (State.emit_ev _ _) rfl; assumption
      · refine ev_ite ?_ ?_
        · refine ev_step ?_ (State.emit_ev _ _) rfl; extract_lets +onlyGivenNames x2; clear_value x2
          refine ev_fwu ?_ rfl; assumption
        · refine ev_step ?_ (State.emit_ev _ _) rfl; assumption
    · beta_reduce; extract_lets +onlyGivenNames x3; clear_value x3; refine ev_step ?_ (State.emit_ev _ _) rfl
      assumption

end Sys2Proof.Machine
end

