-- ==== Sys2Proof/Laws/EvSide.lean ====
section
/-!
SUPPORT. What each operation of Machine/Side.lean may change: its parts of the state, and that the register stores stay
canonical.
-/
set_option Elab.async false
namespace Sys2Proof.Machine

theorem State.leaveBalls_ev (a0 : State) :
    State.evolves a0 (State.leaveBalls a0) [.regs, .pmc, .evt, .host, .fch, .wp, .warp, .upk, .pwr, .side] := by
  unfold State.leaveBalls; refine ev_ite ?_ ?_
  · extract_lets +onlyGivenNames x1; clear_value x1; extract_lets +onlyGivenNames x2
    have h2 : State.evolves a0 x2 [.regs, .pmc, .evt, .host, .fch, .wp, .warp, .upk, .pwr, .side] := by
      subst x2; refine ev_side ?_ rfl; exact ev_refl
    clear_value x2; refine ev_ite ?_ ?_
    · refine ev_step ?_ (State.startDevReset_ev _) rfl; assumption
    · assumption
  · exact ev_refl

theorem execJtagInstructionLoad_ev (a0 : JtagInst) (a1 : State) :
    State.evX a1 (execJtagInstructionLoad a0 a1) [.regs, .pmc, .evt, .host, .fch, .wp, .warp, .upk, .pwr, .side, .out] := by
  unfold execJtagInstructionLoad; extract_lets +onlyGivenNames x1
  have h1 : State.evolves a1 x1 [.regs, .pmc, .evt, .host, .fch, .wp, .warp, .upk, .pwr, .side, .out] := by
    subst x1; refine ev_step ?_ (State.begin_ev _) rfl; exact ev_refl
  clear_value x1; extract_lets +onlyGivenNames x2; clear_value x2; extract_lets +onlyGivenNames x3; clear_value x3
  extract_lets +onlyGivenNames x4
  have h4 : State.evolves a1 x4 [.regs, .pmc, .evt, .host, .fch, .wp, .warp, .upk, .pwr, .side, .out] := by
    subst x4; refine ev_side ?_ rfl; assumption
  clear_value x4; refine evX_done ?_; refine ev_ite ?_ ?_
  · extract_lets +onlyGivenNames x5; clear_value x5; refine ev_side ?_ rfl; assumption
  · refine ev_step ?_ (State.leaveBalls_ev _) rfl; assumption

theorem State.giveAddr_ev (a0 : State) (a1 : Nat) : State.evolves a0 (State.giveAddr a0 a1) [.side, .out] := by
  unfold State.giveAddr; refine ev_step ?_ (State.emit_ev _ _) rfl; extract_lets +onlyGivenNames x1; clear_value x1
  refine ev_side ?_ rfl; exact ev_refl

theorem State.freeAnswer_ev (a0 : State) (a1 : Nat) : State.evolves a0 (State.freeAnswer a0 a1) [.out, .freeCtr] := by
  unfold State.freeAnswer
  split
  · rename_i y1 y2 y3 y4; refine ev_step ?_ (State.emit_ev _ _) rfl
    refine ev_step ?_ (ev_fst (State.draw_ev _) y4) rfl; exact ev_refl

theorem State.ccc_ev (a0 : State) (a1 : Nat) (a2 : Bool) (a3 : Nat) :
    State.evolves a0 (State.ccc a0 a1 a2 a3) [.side, .out, .freeCtr] := by
  unfold State.ccc; extract_lets +onlyGivenNames x1; subst x1; extract_lets +onlyGivenNames x2; clear_value x2
  split
  · rename_i y3 y4; refine ev_ite ?_ ?_
    · refine ev_step ?_ (State.emit_ev _ _) rfl; exact ev_refl
    · refine ev_step ?_ (State.giveAddr_ev _ _) rfl; exact ev_refl
  · rename_i y5 y6; refine ev_ite ?_ ?_
    · refine ev_step ?_ (State.emit_ev _ _) rfl; exact ev_refl
    · refine ev_step ?_ (State.giveAddr_ev _ _) rfl; exact ev_refl
  · rename_i y7 y8; unfold State.addressed; refine ev_ite ?_ ?_
    · refine ev_step ?_ (State.emit_ev _ _) rfl; exact ev_refl
    · beta_reduce; refine ev_step ?_ (State.emit_ev _ _) rfl; extract_lets +onlyGivenNames x9; clear_value x9
      refine ev_side ?_ rfl; exact ev_refl
  · rename_i y10 y11; unfold State.addressed; refine ev_ite ?_ ?_
    · refine ev_step ?_ (State.emit_ev _ _) rfl; exact ev_refl
    · beta_reduce; refine ev_step ?_ (State.emit_ev _ _) rfl; extract_lets +onlyGivenNames x12; clear_value x12
      refine ev_side ?_ rfl; exact ev_refl
  · rename_i y13 y14; unfold State.addressed; refine ev_ite ?_ ?_
    · refine ev_step ?_ (State.emit_ev _ _) rfl; exact ev_refl
    · beta_reduce; refine ev_step ?_ (State.emit_ev _ _) rfl; extract_lets +onlyGivenNames x15; clear_value x15
      refine ev_side ?_ rfl; exact ev_refl
  · rename_i y16 y17; unfold State.addressed; refine ev_ite ?_ ?_
    · refine ev_step ?_ (State.emit_ev _ _) rfl; exact ev_refl
    · beta_reduce; refine ev_step ?_ (State.emit_ev _ _) rfl; extract_lets +onlyGivenNames x18; clear_value x18
      refine ev_side ?_ rfl; exact ev_refl
  · rename_i y19 y20; unfold State.addressed; refine ev_ite ?_ ?_
    · refine ev_step ?_ (State.emit_ev _ _) rfl; exact ev_refl
    · beta_reduce; refine ev_step ?_ (State.emit_ev _ _) rfl; extract_lets +onlyGivenNames x21; clear_value x21
      refine ev_side ?_ rfl; exact ev_refl
  · rename_i y22 y23; unfold State.addressed; refine ev_ite ?_ ?_
    · refine ev_step ?_ (State.emit_ev _ _) rfl; exact ev_refl
    · beta_reduce; refine ev_step ?_ (State.emit_ev _ _) rfl; exact ev_refl
  · rename_i y24 y25; unfold State.addressed; refine ev_ite ?_ ?_
    · refine ev_step ?_ (State.emit_ev _ _) rfl; exact ev_refl
    · beta_reduce; refine ev_step ?_ (State.emit_ev _ _) rfl; exact ev_refl
  · rename_i y26 y27; unfold State.addressed; refine ev_ite ?_ ?_
    · refine ev_step ?_ (State.emit_ev _ _) rfl; exact ev_refl
    · beta_reduce; refine ev_step ?_ (State.emit_ev _ _) rfl; exact ev_refl
  · rename_i y28 y29; unfold State.addressed; refine ev_ite ?_ ?_
    · refine ev_step ?_ (State.emit_ev _ _) rfl; exact ev_refl
    · beta_reduce; refine ev_step ?_ (State.freeAnswer_ev _ _) rfl; exact ev_refl
  · rename_i y30 y31; unfold State.addressed; refine ev_ite ?_ ?_
    · refine ev_step ?_ (State.emit_ev _ _) rfl; exact ev_refl
    · beta_reduce; refine ev_step ?_ (State.freeAnswer_ev _ _) rfl; exact ev_refl
  · rename_i y32 y33; unfold State.addressed; refine ev_ite ?_ ?_
    · refine ev_step ?_ (State.emit_ev _ _) rfl; exact ev_refl
    · beta_reduce; refine ev_step ?_ (State.freeAnswer_ev _ _) rfl; exact ev_refl
  · rename_i y34 y35; beta_reduce; refine ev_step ?_ (State.emit_ev _ _) rfl; exact ev_refl
  · rename_i y36 y37; unfold State.addressed; refine ev_ite ?_ ?_
    · refine ev_step ?_ (State.emit_ev _ _) rfl; exact ev_refl
    · beta_reduce; refine ev_step ?_ (State.emit_ev _ _) rfl; exact ev_refl
  · rename_i y38 y39 y40 y41 y42 y43 y44 y45 y46 y47 y48 y49 y50 y51 y52 y53 y54
    refine ev_step ?_ (State.emit_ev _ _) rfl; exact ev_refl

theorem execI3cCcc_ev (a0 : Nat) (a1 : Bool) (a2 : Nat) (a3 : State) :
    State.evX a3 (execI3cCcc a0 a1 a2 a3) [.side, .out, .freeCtr] := by
  unfold execI3cCcc; extract_lets +onlyGivenNames x1
  have h1 : State.evolves a3 x1 [.side, .out, .freeCtr] := by
    subst x1; refine ev_step ?_ (State.begin_ev _) rfl; exact ev_refl
  clear_value x1; refine evX_done ?_; refine ev_ite ?_ ?_
  · refine ev_step ?_ (State.ccc_ev _ _ _ _) rfl; assumption
  · refine ev_step ?_ (State.emit_ev _ _) rfl; assumption

theorem execMctpMessage_ev (a0 : Bool) (a1 : Nat) (a2 : State) :
    State.evX a2 (execMctpMessage a0 a1 a2) [.fwu, .out] := by
  unfold execMctpMessage; refine evX_done ?_; unfold State.spdm; extract_lets +onlyGivenNames x1
  have h1 : State.evolves a2 x1 [.fwu, .out] := by
    subst x1; refine ev_step ?_ (State.begin_ev _) rfl; exact ev_refl
  clear_value x1; refine ev_ite ?_ ?_
  · refine ev_step ?_ (State.emit_ev _ _) rfl; assumption
  · refine ev_ite ?_ ?_
    · refine ev_ite ?_ ?_
      · refine ev_step ?_ (State.emit_ev _ _) rfl; assumption
      · refine ev_ite ?_ ?_
        · refine ev_step ?_ (State.emit_ev _ _) rfl; extract_lets +onlyGivenNames x2; clear_value x2
          refine ev_fwu ?_ rfl; assumption
        · refine ev_step ?_ (State.emit_ev _ _) rfl; assumption
    · beta_reduce; refine ev_step ?_ (State.emit_ev _ _) rfl; assumption

theorem execJtagExtestExit_ev (a0 : State) :
    State.evX a0 (execJtagExtestExit a0) [.regs, .pmc, .evt, .host, .fch, .wp, .warp, .upk, .pwr, .side, .out] := by
  unfold execJtagExtestExit; refine evX_done ?_; refine ev_when ?_ rfl ?_
  · exact ev_refl
  · intro x1 x2; refine ev_step ?_ (State.leaveBalls_ev _) rfl; extract_lets +onlyGivenNames x3; clear_value x3
    refine ev_side ?_ rfl; assumption

end Sys2Proof.Machine
end

