-- ==== Sys2Proof/Laws/EvFirmware.lean ====
section
/-!
SUPPORT. What each operation of Machine/Firmware.lean may change: its parts of the state, and that the register stores stay
canonical.
-/
set_option Elab.async false
namespace Sys2Proof.Machine

theorem execFwuCntClr_ev (a0 : Nat) (a1 : State) :
    State.evX a1 (execFwuCntClr a0 a1) [.regs, .pmc, .evt, .host, .out] := by
  unfold execFwuCntClr; refine evX_done ?_; unfold State.barWrite; extract_lets +onlyGivenNames x1
  have h1 : State.evolves a1 x1 [.regs, .pmc, .evt, .host, .out] := by
    subst x1; refine ev_step ?_ (State.begin_ev _) rfl; exact ev_refl
  clear_value x1; refine ev_ite ?_ ?_
  · refine ev_step ?_ (State.emit_ev _ _) rfl; assumption
  · refine ev_ite ?_ ?_
    · refine ev_step ?_ (State.accessErr_ev _ _ _ _ _ _) rfl; assumption
    · beta_reduce; refine ev_step ?_ (State.setReg_ev _ _ _) rfl; assumption

theorem State.answerDone_ev (a0 : State) (a1 : Xfer) : State.evolves a0 (State.answerDone a0 a1) [.out] := by
  unfold State.answerDone
  split
  · rename_i y1 y2; refine ev_step ?_ (State.answerMbox_ev _ _ _ _) rfl; exact ev_refl
  · rename_i y3 y4; refine ev_step ?_ (State.emit_ev _ _) rfl; refine ev_step ?_ (State.emit_ev _ _) rfl
    exact ev_refl
  · rename_i y5 y6; refine ev_step ?_ (State.emit_ev _ _) rfl; refine ev_step ?_ (State.emit_ev _ _) rfl
    exact ev_refl
  · rename_i y7 y8; refine ev_step ?_ (State.emit_ev _ _) rfl; exact ev_refl

theorem execWatchdog_ev (a0 : State) : State.evX a0 (execWatchdog a0) [.regs, .pmc, .evt, .host, .fwu, .out] := by
  unfold execWatchdog; refine evX_done ?_; refine ev_when ?_ rfl ?_
  · exact ev_refl
  · intro x1 x2; refine ev_step ?_ (State.restart_ev _ _) rfl; refine ev_step ?_ (State.raiseN_ev _ _ _ _) rfl
    assumption

theorem execFwuRecovery_ev (a0 : Nat) (a1 : Nat) (a2 : State) :
    State.evX a2 (execFwuRecovery a0 a1 a2) [.regs, .pmc, .evt, .host, .fwu, .out] := by
  unfold execFwuRecovery; refine evX_done ?_; unfold State.barWrite; extract_lets +onlyGivenNames x1
  have h1 : State.evolves a2 x1 [.regs, .pmc, .evt, .host, .fwu, .out] := by
    subst x1; refine ev_step ?_ (State.begin_ev _) rfl; exact ev_refl
  clear_value x1; refine ev_ite ?_ ?_
  · refine ev_step ?_ (State.emit_ev _ _) rfl; assumption
  · refine ev_ite ?_ ?_
    · refine ev_step ?_ (State.accessErr_ev _ _ _ _ _ _) rfl; assumption
    · beta_reduce; refine ev_ite ?_ ?_
      · extract_lets +onlyGivenNames x2; clear_value x2; refine ev_fwu ?_ rfl; assumption
      · assumption

theorem execSelfCheckDone_ev (a0 : Bool) (a1 : State) :
    State.evX a1 (execSelfCheckDone a0 a1) [.regs, .pmc, .evt, .host, .fwu, .out] := by
  unfold execSelfCheckDone; refine evX_done ?_; refine ev_when ?_ rfl ?_
  · exact ev_refl
  · intro x1 x2; refine ev_ite ?_ ?_
    · extract_lets +onlyGivenNames x3; clear_value x3; refine ev_fwu ?_ rfl; assumption
    · extract_lets +onlyGivenNames x4
      have h4 : State.evolves a1 x4 [.regs, .pmc, .evt, .host, .fwu, .out] := by
        subst x4; refine ev_step ?_ (State.restart_ev _ _) rfl; assumption
      clear_value x4; extract_lets +onlyGivenNames x5; clear_value x5; refine ev_fwu ?_ rfl; assumption

theorem execGetFwInfo_ev (a0 : Nat) (a1 : State) : State.evX a1 (execGetFwInfo a0 a1) [.out] := by
  unfold execGetFwInfo; refine evX_done ?_; unfold State.mailbox; extract_lets +onlyGivenNames x1
  have h1 : State.evolves a1 x1 [.out] := by
    subst x1; refine ev_step ?_ (State.begin_ev _) rfl; exact ev_refl
  clear_value x1; refine ev_ite ?_ ?_
  · refine ev_step ?_ (State.emit_ev _ _) rfl; assumption
  · refine ev_ite ?_ ?_
    · refine ev_step ?_ (State.emit_ev _ _) rfl; assumption
    · beta_reduce; extract_lets +onlyGivenNames x2; clear_value x2
      refine ev_step ?_ (State.answerMbox_ev _ _ _ _) rfl; assumption

theorem State.noteResume_ev (a0 : State) (a1 : Xfer) (a2 : Nat) :
    State.evolves a0 (State.noteResume a0 a1 a2) [.fwu] := by
  unfold State.noteResume; refine ev_ite ?_ ?_
  · extract_lets +onlyGivenNames x1; clear_value x1; refine ev_fwu ?_ rfl; exact ev_refl
  · exact ev_refl

theorem State.installSlot_ev (a0 : State) (a1 : Nat) (a2 : Image) (a3 : Bool) :
    State.evolves a0 (State.installSlot a0 a1 a2 a3) [.fwu] := by
  unfold State.installSlot; extract_lets +onlyGivenNames x1; clear_value x1
  extract_lets +onlyGivenNames x2; clear_value x2; extract_lets +onlyGivenNames x3
  have h3 : State.evolves a0 x3 [.fwu] := by
    subst x3; refine ev_step ?_ (State.setBoot_ev _ _) rfl; exact ev_refl
  clear_value x3; extract_lets +onlyGivenNames x4; clear_value x4; refine ev_fwu ?_ rfl; assumption

theorem State.rolledBack_ev (a0 : State) (a1 : ActHow) (a2 : Nat) (a3 : Nat) :
    State.evolves a0 (State.rolledBack a0 a1 a2 a3) [.regs, .pmc, .evt, .host, .out] := by
  unfold State.rolledBack; extract_lets +onlyGivenNames x1
  have h1 : State.evolves a0 x1 [.regs, .pmc, .evt, .host, .out] := by
    subst x1; refine ev_step ?_ (State.raiseN_ev _ _ _ _) rfl; exact ev_refl
  clear_value x1
  split
  · rename_i y2 y3; refine ev_step ?_ (State.answerMbox_ev _ _ _ _) rfl; assumption
  · rename_i y4 y5; assumption

theorem State.answerFailed_ev (a0 : State) (a1 : Xfer) : State.evolves a0 (State.answerFailed a0 a1) [.out] := by
  unfold State.answerFailed
  split
  · rename_i y1 y2; refine ev_step ?_ (State.answerMbox_ev _ _ _ _) rfl; exact ev_refl
  · rename_i y3 y4; refine ev_step ?_ (State.emit_ev _ _) rfl; exact ev_refl
  · rename_i y5 y6; refine ev_step ?_ (State.emit_ev _ _) rfl; exact ev_refl
  · rename_i y7 y8; refine ev_step ?_ (State.emit_ev _ _) rfl; exact ev_refl

theorem State.setXfer_ev (a0 : State) (a1 : Option Xfer) : State.evolves a0 (State.setXfer a0 a1) [.fwu] := by
  unfold State.setXfer; extract_lets +onlyGivenNames x1; clear_value x1; refine ev_fwu ?_ rfl; exact ev_refl

theorem State.xferFail_ev (a0 : State) (a1 : Xfer) (a2 : Nat) (a3 : Nat) :
    State.evolves a0 (State.xferFail a0 a1 a2 a3) [.regs, .pmc, .evt, .host, .fwu, .out] := by
  unfold State.xferFail; refine ev_step ?_ (State.answerFailed_ev _ _) rfl
  refine ev_step ?_ (State.raiseN_ev _ _ _ _) rfl; refine ev_step ?_ (State.setXfer_ev _ _) rfl; exact ev_refl

theorem State.afterHeader_ev (a0 : State) (a1 : Xfer) :
    State.evP a0 (State.afterHeader a0 a1) [.regs, .pmc, .evt, .host, .fwu] := by
  unfold State.afterHeader
  split
  · rename_i y1 y2 y3; refine evP_mk ?_; exact ev_refl
  · rename_i y4 y5; extract_lets +onlyGivenNames x6; clear_value x6; refine evP_ite ?_ ?_
    · refine evP_mk ?_; exact ev_refl
    · split
      · rename_i y7 y8; refine evP_mk ?_; exact ev_refl
      · rename_i y9 y10 y11; refine evP_ite ?_ ?_
        · extract_lets +onlyGivenNames x12
          have h12 : State.evolves a0 x12 [.regs, .pmc, .evt, .host, .fwu] := by
            subst x12; refine ev_step ?_ (State.fwRecord_ev _ _ _ _ _ _) rfl
            refine ev_step ?_ (State.raiseN_ev _ _ _ _) rfl; exact ev_refl
          clear_value x12; refine evP_mk ?_; assumption
        · refine evP_mk ?_; extract_lets +onlyGivenNames x13; clear_value x13; refine ev_fwu ?_ rfl; exact ev_refl

theorem State.feed_ev (a0 : State) (a1 : Xfer) (a2 : List Nat) (a3 : Bool) (a4 : Bool) :
    State.evP a0 (State.feed a0 a1 a2 a3 a4) [.regs, .pmc, .evt, .host, .fwu, .out, .freeCtr] := by
  unfold State.feed; extract_lets +onlyGivenNames x1; subst x1; extract_lets +onlyGivenNames x2; clear_value x2
  extract_lets +onlyGivenNames x3; clear_value x3; extract_lets +onlyGivenNames x4; clear_value x4
  extract_lets +onlyGivenNames x5; clear_value x5; extract_lets +onlyGivenNames x6; subst x6
  extract_lets +onlyGivenNames x7; clear_value x7
  split
  · rename_i y8 y9 y10 y11
    split
    · rename_i y12 y13; beta_reduce; refine evP_mk ?_; refine ev_step ?_ (State.xferFail_ev _ _ _ _) rfl
      refine ev_fst (p := _) ?_ y11; refine evP_ite ?_ ?_
      · refine evP_step ?_ (State.afterHeader_ev _ _) rfl; exact ev_refl
      · refine evP_mk ?_; exact ev_refl
    · rename_i y14 y15
      split
      · rename_i y16 y17 y18 y19; refine evP_ite ?_ ?_
        · beta_reduce; refine evP_mk ?_; refine ev_step ?_ (State.xferFail_ev _ _ _ _) rfl
          refine ev_step ?_ (ev_fst (State.draw_ev _) y19) rfl; refine ev_fst (p := _) ?_ y11; refine evP_ite ?_ ?_
          · refine evP_step ?_ (State.afterHeader_ev _ _) rfl; exact ev_refl
          · refine evP_mk ?_; exact ev_refl
        · refine evP_ite ?_ ?_
          · beta_reduce; refine evP_mk ?_; refine ev_step ?_ (State.xferFail_ev _ _ _ _) rfl
            refine ev_step ?_ (ev_fst (State.draw_ev _) y19) rfl; refine ev_fst (p := _) ?_ y11; refine evP_ite ?_ ?_
            · refine evP_step ?_ (State.afterHeader_ev _ _) rfl; exact ev_refl
            · refine evP_mk ?_; exact ev_refl
          · extract_lets +onlyGivenNames x20; clear_value x20; refine evP_ite ?_ ?_
            · extract_lets +onlyGivenNames x21; clear_value x21; extract_lets +onlyGivenNames x22; clear_value x22
              refine evP_ite ?_ ?_
              · beta_reduce; refine evP_mk ?_; refine ev_step ?_ (State.xferFail_ev _ _ _ _) rfl
                refine ev_step ?_ (ev_fst (State.draw_ev _) y19) rfl; refine ev_fst (p := _) ?_ y11
                refine evP_ite ?_ ?_
                · refine evP_step ?_ (State.afterHeader_ev _ _) rfl; exact ev_refl
                · refine evP_mk ?_; exact ev_refl
              · extract_lets +onlyGivenNames x23; clear_value x23; refine evP_mk ?_
                refine ev_step ?_ (State.setXfer_ev _ _) rfl; refine ev_step ?_ (ev_fst (State.draw_ev _) y19) rfl
                refine ev_fst (p := _) ?_ y11; refine evP_ite ?_ ?_
                · refine evP_step ?_ (State.afterHeader_ev _ _) rfl; exact ev_refl
                · refine evP_mk ?_; exact ev_refl
            · extract_lets +onlyGivenNames x24; clear_value x24; refine evP_mk ?_
              refine ev_step ?_ (State.noteResume_ev _ _ _) rfl; refine ev_step ?_ (State.setXfer_ev _ _) rfl
              refine ev_step ?_ (ev_fst (State.draw_ev _) y19) rfl; refine ev_fst (p := _) ?_ y11
              refine evP_ite ?_ ?_
              · refine evP_step ?_ (State.afterHeader_ev _ _) rfl; exact ev_refl
              · refine evP_mk ?_; exact ev_refl

theorem State.cxlFeed_ev (a0 : State) (a1 : Nat) (a2 : Nat) (a3 : Xfer) (a4 : List Nat) (a5 : Bool) (a6 : Bool) (a7 : Bool) :
    State.evolves a0 (State.cxlFeed a0 a1 a2 a3 a4 a5 a6 a7) [.regs, .pmc, .evt, .host, .fwu, .out, .freeCtr] := by
  unfold State.cxlFeed; refine ev_ite ?_ ?_
  · refine ev_step ?_ (State.answerMbox_ev _ _ _ _) rfl; exact ev_refl
  · refine ev_ite ?_ ?_
    · refine ev_step ?_ (State.answerMbox_ev _ _ _ _) rfl; exact ev_refl
    · split
      · rename_i y1 y2 y3; refine ev_step ?_ (ev_fst (State.feed_ev _ _ _ _ _) y3) rfl; exact ev_refl
      · rename_i y4 y5 y6 y7; refine ev_ite ?_ ?_
        · refine ev_step ?_ (State.answerMbox_ev _ _ _ _) rfl
          refine ev_step ?_ (ev_fst (State.feed_ev _ _ _ _ _) y7) rfl; exact ev_refl
        · refine ev_ite ?_ ?_
          · refine ev_step ?_ (State.answerMbox_ev _ _ _ _) rfl; extract_lets +onlyGivenNames x8; subst x8
            refine ev_host ?_ rfl HostState.wf_upd; refine ev_step ?_ (ev_fst (State.feed_ev _ _ _ _ _) y7) rfl
            exact ev_refl
          · refine ev_step ?_ (State.xferFail_ev _ _ _ _) rfl
            refine ev_step ?_ (ev_fst (State.feed_ev _ _ _ _ _) y7) rfl; exact ev_refl

theorem execActivationImageLoaded_ev (a0 : Bool) (a1 : State) :
    State.evX a1 (execActivationImageLoaded a0 a1) [.regs, .pmc, .evt, .host, .fwu, .out] := by
  unfold execActivationImageLoaded; refine evX_done ?_; refine ev_when ?_ rfl ?_
  · exact ev_refl
  · intro x1 x2
    split
    · rename_i y3 y4; assumption
    · rename_i y5 y6 y7 y8; refine ev_ite ?_ ?_
      · refine ev_step ?_ (State.beginPause_ev _ _) rfl; extract_lets +onlyGivenNames x9; clear_value x9
        refine ev_fwu ?_ rfl; assumption
      · refine ev_step ?_ (State.rolledBack_ev _ _ _ _) rfl; extract_lets +onlyGivenNames x10; clear_value x10
        refine ev_fwu ?_ rfl; assumption

theorem State.activate_ev (a0 : State) (a1 : Nat) (a2 : Bool) (a3 : ActHow) :
    State.evolves a0 (State.activate a0 a1 a2 a3) [.fwu] := by
  unfold State.activate; refine ev_ite ?_ ?_
  · extract_lets +onlyGivenNames x1; clear_value x1; refine ev_fwu ?_ rfl; exact ev_refl
  · refine ev_step ?_ (State.setBoot_ev _ _) rfl; exact ev_refl

theorem execActivateFw_ev (a0 : Nat) (a1 : Bool) (a2 : Nat) (a3 : State) :
    State.evX a3 (execActivateFw a0 a1 a2 a3) [.fwu, .out] := by
  unfold execActivateFw; refine evX_done ?_; unfold State.mailboxRw; unfold State.mailbox
  extract_lets +onlyGivenNames x1
  have h1 : State.evolves a3 x1 [.fwu, .out] := by
    subst x1; refine ev_step ?_ (State.begin_ev _) rfl; exact ev_refl
  clear_value x1; refine ev_ite ?_ ?_
  · refine ev_step ?_ (State.emit_ev _ _) rfl; assumption
  · refine ev_ite ?_ ?_
    · refine ev_step ?_ (State.emit_ev _ _) rfl; assumption
    · beta_reduce; refine ev_ite ?_ ?_
      · refine ev_step ?_ (State.answerMbox_ev _ _ _ _) rfl; assumption
      · split
        · rename_i y2 y3; refine ev_step ?_ (State.answerMbox_ev _ _ _ _) rfl; assumption
        · rename_i y4 y5 y6 y7; refine ev_step ?_ (State.answerMbox_ev _ _ _ _) rfl; assumption
        · rename_i y8 y9; extract_lets +onlyGivenNames x10
          have h10 : State.evolves a3 x10 [.fwu, .out] := by
            subst x10; refine ev_step ?_ (State.activate_ev _ _ _ _) rfl; assumption
          clear_value x10; refine ev_ite ?_ ?_
          · assumption
          · refine ev_step ?_ (State.answerMbox_ev _ _ _ _) rfl; assumption

theorem execRecoveryDoeTransfer_ev (a0 : Nat) (a1 : List Nat) (a2 : Bool) (a3 : State) :
    State.evX a3 (execRecoveryDoeTransfer a0 a1 a2 a3) [.regs, .pmc, .evt, .host, .fwu, .out, .freeCtr] := by
  unfold execRecoveryDoeTransfer; refine evX_done ?_; refine ev_when ?_ rfl ?_
  · exact ev_refl
  · intro x1 x2; extract_lets +onlyGivenNames x3; clear_value x3; refine ev_ite ?_ ?_
    · refine ev_step ?_ (State.emit_ev _ _) rfl; assumption
    · split
      · rename_i y4 y5 y6; refine ev_step ?_ (ev_fst (State.feed_ev _ _ _ _ _) y6) rfl; assumption
      · rename_i y7 y8 y9 y10; refine ev_ite ?_ ?_
        · refine ev_step ?_ (ev_fst (State.feed_ev _ _ _ _ _) y10) rfl; assumption
        · refine ev_step ?_ (State.emit_ev _ _) rfl; refine ev_step ?_ (ev_fst (State.feed_ev _ _ _ _ _) y10) rfl
          assumption

theorem execDeadlineNear_ev (a0 : State) :
    State.evX a0 (execDeadlineNear a0) [.regs, .pmc, .evt, .host, .fwu, .out] := by
  unfold execDeadlineNear; refine evX_done ?_; refine ev_when ?_ rfl ?_
  · exact ev_refl
  · intro x1 x2; refine ev_step ?_ (State.raiseN_ev _ _ _ _) rfl; extract_lets +onlyGivenNames x3; clear_value x3
    refine ev_fwu ?_ rfl; assumption

theorem State.afterPause_ev (a0 : State) :
    State.evolves a0 (State.afterPause a0) [.regs, .pmc, .evt, .host, .fch, .wp, .warp, .upk, .pwr, .fwu] := by
  unfold State.afterPause; extract_lets +onlyGivenNames x1; extract_lets +onlyGivenNames x2; clear_value x2
  extract_lets +onlyGivenNames x3
  have h3 : State.evolves a0 x3 [.regs, .pmc, .evt, .host, .fch, .wp, .warp, .upk, .pwr, .fwu] := by
    subst x3; refine ev_fwu ?_ rfl; exact ev_refl
  refine ev_ite ?_ ?_
  · refine ev_step ?_ (State.startDevReset_ev _) rfl; assumption
  · assumption

theorem execActivationPauseEnd_ev (a0 : Bool) (a1 : State) :
    State.evX a1 (execActivationPauseEnd a0 a1) [.regs, .pmc, .evt, .host, .fch, .wp, .warp, .upk, .pwr, .fwu, .out] := by
  unfold execActivationPauseEnd; refine evX_done ?_; refine ev_when ?_ rfl ?_
  · exact ev_refl
  · intro x1 x2
    split
    · rename_i y3 y4; refine ev_step ?_ (State.afterPause_ev _) rfl; extract_lets +onlyGivenNames x5; clear_value x5
      refine ev_fwu ?_ rfl; assumption
    · rename_i y6 y7 y8 y9; extract_lets +onlyGivenNames x10; clear_value x10
      extract_lets +onlyGivenNames x11; clear_value x11; extract_lets +onlyGivenNames x12
      have h12 : State.evolves a1 x12 [.regs, .pmc, .evt, .host, .fch, .wp, .warp, .upk, .pwr, .fwu, .out] := by
        subst x12; refine ev_fwu ?_ rfl; assumption
      clear_value x12; refine ev_ite ?_ ?_
      · extract_lets +onlyGivenNames x13; clear_value x13; extract_lets +onlyGivenNames x14
        have h14 : State.evolves a1 x14 [.regs, .pmc, .evt, .host, .fch, .wp, .warp, .upk, .pwr, .fwu, .out] := by
          subst x14; refine ev_fwu ?_ rfl; assumption
        clear_value x14; extract_lets +onlyGivenNames x15
        have h15 : State.evolves a1 x15 [.regs, .pmc, .evt, .host, .fch, .wp, .warp, .upk, .pwr, .fwu, .out] := by
          subst x15; refine ev_step ?_ (State.raiseN_ev _ _ _ _) rfl; refine ev_step ?_ (State.bump_ev _ _ _) rfl
          assumption
        clear_value x15; extract_lets +onlyGivenNames x16
        have h16 : State.evolves a1 x16 [.regs, .pmc, .evt, .host, .fch, .wp, .warp, .upk, .pwr, .fwu, .out] := by
          subst x16; refine ev_step ?_ (State.fwRecord_ev _ _ _ _ _ _) rfl; assumption
        clear_value x16; refine ev_step ?_ (State.afterPause_ev _) rfl
        split
        · rename_i y17 y18; refine ev_step ?_ (State.answerMbox_ev _ _ _ _) rfl; assumption
        · rename_i y19 y20; assumption
      · refine ev_step ?_ (State.afterPause_ev _) rfl; refine ev_step ?_ (State.rolledBack_ev _ _ _ _) rfl
        refine ev_step ?_ (State.setBoot_ev _ _) rfl; assumption

theorem execConfirmFw_ev (a0 : Nat) (a1 : State) :
    State.evX a1 (execConfirmFw a0 a1) [.regs, .pmc, .evt, .host, .ntn, .fwu, .out] := by
  unfold execConfirmFw; refine evX_done ?_; unfold State.mailboxRw; unfold State.mailbox
  extract_lets +onlyGivenNames x1
  have h1 : State.evolves a1 x1 [.regs, .pmc, .evt, .host, .ntn, .fwu, .out] := by
    subst x1; refine ev_step ?_ (State.begin_ev _) rfl; exact ev_refl
  clear_value x1; refine ev_ite ?_ ?_
  · refine ev_step ?_ (State.emit_ev _ _) rfl; assumption
  · refine ev_ite ?_ ?_
    · refine ev_step ?_ (State.emit_ev _ _) rfl; assumption
    · beta_reduce; refine ev_ite ?_ ?_
      · refine ev_step ?_ (State.answerMbox_ev _ _ _ _) rfl; assumption
      · refine ev_ite ?_ ?_
        · refine ev_step ?_ (State.answerMbox_ev _ _ _ _) rfl; assumption
        · refine ev_ite ?_ ?_
          · refine ev_step ?_ (State.answerMbox_ev _ _ _ _) rfl; assumption
          · extract_lets +onlyGivenNames x2; clear_value x2; extract_lets +onlyGivenNames x3; clear_value x3
            extract_lets +onlyGivenNames x4
            have h4 : State.evP a1 x4 [.regs, .pmc, .evt, .host, .ntn, .fwu, .out] := by
              subst x4; refine evP_ite ?_ ?_
              · refine evP_step ?_ (State.ctrWrite_ev _ _ _) rfl; assumption
              · refine evP_mk ?_; assumption
            clear_value x4
            split
            · rename_i y5 y6; extract_lets +onlyGivenNames x7; clear_value x7; extract_lets +onlyGivenNames x8
              have h8 : State.evolves a1 x8 [.regs, .pmc, .evt, .host, .ntn, .fwu, .out] := by
                subst x8; refine ev_step ?_ (State.setBoot_ev _ _) rfl; assumption
              clear_value x8; extract_lets +onlyGivenNames x9; clear_value x9; extract_lets +onlyGivenNames x10
              have h10 : State.evolves a1 x10 [.regs, .pmc, .evt, .host, .ntn, .fwu, .out] := by
                subst x10; refine ev_fwu ?_ rfl; assumption
              clear_value x10; refine ev_step ?_ (State.answerMbox_ev _ _ _ _) rfl
              refine ev_step ?_ (State.fwRecord_ev _ _ _ _ _ _) rfl; refine ev_step ?_ (State.raiseN_ev _ _ _ _) rfl
              assumption
            · rename_i y11 y12 y13 y14; refine ev_step ?_ (State.answerMbox_ev _ _ _ _) rfl; assumption

theorem execPldmDataTimeout_ev (a0 : State) :
    State.evX a0 (execPldmDataTimeout a0) [.regs, .pmc, .evt, .host, .fwu, .out] := by
  unfold execPldmDataTimeout; refine evX_done ?_; refine ev_when ?_ rfl ?_
  · exact ev_refl
  · intro x1 x2
    split
    · rename_i y3 y4; assumption
    · rename_i y5 y6 y7; refine ev_ite ?_ ?_
      · assumption
      · refine ev_ite ?_ ?_
        · refine ev_step ?_ (State.setXfer_ev _ _) rfl; assumption
        · refine ev_step ?_ (State.raiseN_ev _ _ _ _) rfl; refine ev_step ?_ (State.setXfer_ev _ _) rfl; assumption

theorem execPldmRequestUpdate_ev (a0 : Nat) (a1 : Nat) (a2 : State) :
    State.evX a2 (execPldmRequestUpdate a0 a1 a2) [.fwu, .out] := by
  unfold execPldmRequestUpdate; refine evX_ite ?_ ?_
  · refine evX_done ?_; refine ev_step ?_ (State.emit_ev _ _) rfl; refine ev_step ?_ (State.begin_ev _) rfl
    exact ev_refl
  · refine evX_done ?_; unfold State.spdm; extract_lets +onlyGivenNames x1
    have h1 : State.evolves a2 x1 [.fwu, .out] := by
      subst x1; refine ev_step ?_ (State.begin_ev _) rfl; exact ev_refl
    clear_value x1; refine ev_ite ?_ ?_
    · refine ev_step ?_ (State.emit_ev _ _) rfl; assumption
    · refine ev_ite ?_ ?_
      · refine ev_ite ?_ ?_
        · refine ev_step ?_ (State.emit_ev _ _) rfl; assumption
        · refine ev_ite ?_ ?_
          · refine ev_step ?_ (State.emit_ev _ _) rfl; extract_lets +onlyGivenNames x2; clear_value x2
            refine ev_fwu ?_ rfl; assumption
          · refine ev_step ?_ (State.emit_ev _ _) rfl; assumption
      · beta_reduce
        split
        · rename_i y3 y4 y5; refine ev_step ?_ (State.emit_ev _ _) rfl; assumption
        · rename_i y6 y7; refine ev_step ?_ (State.emit_ev _ _) rfl; refine ev_step ?_ (State.setXfer_ev _ _) rfl
          assumption

theorem execPldmFirmwareData_ev (a0 : Nat) (a1 : List Nat) (a2 : Bool) (a3 : State) :
    State.evX a3 (execPldmFirmwareData a0 a1 a2 a3) [.regs, .pmc, .evt, .host, .fwu, .out, .freeCtr] := by
  unfold execPldmFirmwareData; refine evX_done ?_; unfold State.spdm; extract_lets +onlyGivenNames x1
  have h1 : State.evolves a3 x1 [.regs, .pmc, .evt, .host, .fwu, .out, .freeCtr] := by
    subst x1; refine ev_step ?_ (State.begin_ev _) rfl; exact ev_refl
  clear_value x1; refine ev_ite ?_ ?_
  · refine ev_step ?_ (State.emit_ev _ _) rfl; assumption
  · refine ev_ite ?_ ?_
    · refine ev_ite ?_ ?_
      · refine ev_step ?_ (State.emit_ev _ _) rfl; assumption
      · refine ev_ite ?_ ?_
        · refine ev_step ?_ (State.emit_ev _ _) rfl; extract_lets +onlyGivenNames x2; clear_value x2
          refine ev_fwu ?_ rfl; assumption
        · refine ev_step ?_ (State.emit_ev _ _) rfl; assumption
    · beta_reduce
      split
      · rename_i y3 y4; assumption
      · rename_i y5 y6 y7; refine ev_ite ?_ ?_
        · assumption
        · refine ev_fst1 ?_; refine evP_step ?_ (State.feed_ev _ _ _ _ _) rfl; assumption

theorem execCancelScheduledActivation_ev (a0 : Nat) (a1 : State) :
    State.evX a1 (execCancelScheduledActivation a0 a1) [.fwu, .out] := by
  unfold execCancelScheduledActivation; refine evX_done ?_; unfold State.mailboxRw; unfold State.mailbox
  extract_lets +onlyGivenNames x1
  have h1 : State.evolves a1 x1 [.fwu, .out] := by
    subst x1; refine ev_step ?_ (State.begin_ev _) rfl; exact ev_refl
  clear_value x1; refine ev_ite ?_ ?_
  · refine ev_step ?_ (State.emit_ev _ _) rfl; assumption
  · refine ev_ite ?_ ?_
    · refine ev_step ?_ (State.emit_ev _ _) rfl; assumption
    · beta_reduce; refine ev_ite ?_ ?_
      · refine ev_step ?_ (State.answerMbox_ev _ _ _ _) rfl; assumption
      · split
        · rename_i y2 y3 y4; refine ev_ite ?_ ?_
          · refine ev_step ?_ (State.answerMbox_ev _ _ _ _) rfl; assumption
          · refine ev_step ?_ (State.answerMbox_ev _ _ _ _) rfl; extract_lets +onlyGivenNames x5; clear_value x5
            refine ev_fwu ?_ rfl; assumption
        · rename_i y6 y7; refine ev_step ?_ (State.answerMbox_ev _ _ _ _) rfl; assumption

theorem execScheduleFwActivation_ev (a0 : Nat) (a1 : Nat) (a2 : Nat) (a3 : Bool) (a4 : List Nat) (a5 : State) :
    State.evX a5 (execScheduleFwActivation a0 a1 a2 a3 a4 a5) [.fwu, .out] := by
  unfold execScheduleFwActivation; refine evX_done ?_; unfold State.mailboxRw; unfold State.mailbox
  extract_lets +onlyGivenNames x1
  have h1 : State.evolves a5 x1 [.fwu, .out] := by
    subst x1; refine ev_step ?_ (State.begin_ev _) rfl; exact ev_refl
  clear_value x1; refine ev_ite ?_ ?_
  · refine ev_step ?_ (State.emit_ev _ _) rfl; assumption
  · refine ev_ite ?_ ?_
    · refine ev_step ?_ (State.emit_ev _ _) rfl; assumption
    · beta_reduce; refine ev_ite ?_ ?_
      · refine ev_step ?_ (State.answerMbox_ev _ _ _ _) rfl; assumption
      · extract_lets +onlyGivenNames x2; clear_value x2; extract_lets +onlyGivenNames x3; clear_value x3
        refine ev_ite ?_ ?_
        · refine ev_step ?_ (State.answerMbox_ev _ _ _ _) rfl; assumption
        · refine ev_ite ?_ ?_
          · refine ev_step ?_ (State.answerMbox_ev _ _ _ _) rfl; assumption
          · refine ev_step ?_ (State.answerMbox_ev _ _ _ _) rfl; extract_lets +onlyGivenNames x4; clear_value x4
            refine ev_fwu ?_ rfl; assumption

theorem execTransferFw_ev (a0 : Nat) (a1 : Nat) (a2 : Nat) (a3 : Nat) (a4 : List Nat) (a5 : Bool) (a6 : Bool) (a7 : State) :
    State.evX a7 (execTransferFw a0 a1 a2 a3 a4 a5 a6 a7) [.regs, .pmc, .evt, .host, .fwu, .out, .freeCtr] := by
  unfold execTransferFw; refine evX_done ?_; unfold State.mailboxRw; unfold State.mailbox
  extract_lets +onlyGivenNames x1
  have h1 : State.evolves a7 x1 [.regs, .pmc, .evt, .host, .fwu, .out, .freeCtr] := by
    subst x1; refine ev_step ?_ (State.begin_ev _) rfl; exact ev_refl
  clear_value x1; refine ev_ite ?_ ?_
  · refine ev_step ?_ (State.emit_ev _ _) rfl; assumption
  · refine ev_ite ?_ ?_
    · refine ev_step ?_ (State.emit_ev _ _) rfl; assumption
    · beta_reduce; refine ev_ite ?_ ?_
      · refine ev_step ?_ (State.answerMbox_ev _ _ _ _) rfl; assumption
      · refine ev_ite ?_ ?_
        · split
          · rename_i y2 y3 y4; refine ev_step ?_ (State.answerMbox_ev _ _ _ _) rfl; assumption
          · rename_i y5 y6; refine ev_ite ?_ ?_
            · refine ev_step ?_ (State.answerMbox_ev _ _ _ _) rfl; assumption
            · extract_lets +onlyGivenNames x7; clear_value x7; extract_lets +onlyGivenNames x8
              have h8 : State.evolves a7 x8 [.regs, .pmc, .evt, .host, .fwu, .out, .freeCtr] := by
                subst x8; refine ev_fwu ?_ rfl; assumption
              clear_value x8; refine ev_step ?_ (State.cxlFeed_ev _ _ _ _ _ _ _ _) rfl; assumption
        · refine ev_ite ?_ ?_
          · refine ev_step ?_ (State.answerMbox_ev _ _ _ _) rfl; assumption
          · split
            · rename_i y9 y10; refine ev_step ?_ (State.answerMbox_ev _ _ _ _) rfl; assumption
            · rename_i y11 y12 y13; refine ev_ite ?_ ?_
              · refine ev_step ?_ (State.answerMbox_ev _ _ _ _) rfl; assumption
              · refine ev_ite ?_ ?_
                · refine ev_step ?_ (State.answerMbox_ev _ _ _ _) rfl; refine ev_step ?_ (State.setXfer_ev _ _) rfl
                  assumption
                · refine ev_ite ?_ ?_
                  · refine ev_step ?_ (State.answerMbox_ev _ _ _ _) rfl; assumption
                  · refine ev_step ?_ (State.cxlFeed_ev _ _ _ _ _ _ _ _) rfl; assumption

theorem State.endTransfer_ev (a0 : State) (a1 : Xfer) (a2 : Rc) :
    State.evolves a0 (State.endTransfer a0 a1 a2) [.host] := by
  unfold State.endTransfer; refine ev_ite ?_ ?_
  · extract_lets +onlyGivenNames x1; subst x1; refine ev_host ?_ rfl HostState.wf_upd; exact ev_refl
  · exact ev_refl

theorem execConfirmDeadline_ev (a0 : State) :
    State.evX a0 (execConfirmDeadline a0) [.regs, .pmc, .evt, .host, .fwu, .out] := by
  unfold execConfirmDeadline; refine evX_done ?_; refine ev_when ?_ rfl ?_
  · exact ev_refl
  · intro x1 x2; refine ev_step ?_ (State.restart_ev _ _) rfl; assumption

theorem State.applyItem_ev (a0 : State) (a1 : BundleItem) :
    State.evolves a0 (State.applyItem a0 a1) [.regs, .pmc, .evt, .host, .ntn, .flt, .fwu] := by
  unfold State.applyItem
  split
  · rename_i y1 y2 y3; extract_lets +onlyGivenNames x4; clear_value x4; refine ev_fwu ?_ rfl; exact ev_refl
  · rename_i y5 y6 y7; extract_lets +onlyGivenNames x8; clear_value x8; refine ev_fwu ?_ rfl; exact ev_refl
  · rename_i y9 y10 y11 y12; extract_lets +onlyGivenNames x13; clear_value x13; refine ev_fwu ?_ rfl; exact ev_refl
  · rename_i y14; refine ev_step ?_ (State.setFld_ev _ _ _) rfl; refine ev_step ?_ (State.setFld_ev _ _ _) rfl
    exact ev_refl
  · rename_i y15; extract_lets +onlyGivenNames x16; clear_value x16; refine ev_flt ?_ rfl; exact ev_refl
  · rename_i y17 y18; refine ev_ite ?_ ?_
    · refine ev_fst1 ?_; refine evP_step ?_ (State.ctrWrite_ev _ _ _) rfl; exact ev_refl
    · exact ev_refl
  · rename_i y19 y20; extract_lets +onlyGivenNames x21; clear_value x21; refine ev_fwu ?_ rfl; exact ev_refl
  · rename_i y22 y23; exact ev_refl

theorem execApplyConfigurationBundle_ev (a0 : Nat) (a1 : Bundle) (a2 : State) :
    State.evX a2 (execApplyConfigurationBundle a0 a1 a2) [.regs, .pmc, .evt, .host, .ntn, .flt, .fwu, .out] := by
  unfold execApplyConfigurationBundle; refine evX_done ?_; unfold State.mailboxRw; unfold State.mailbox
  extract_lets +onlyGivenNames x1
  have h1 : State.evolves a2 x1 [.regs, .pmc, .evt, .host, .ntn, .flt, .fwu, .out] := by
    subst x1; refine ev_step ?_ (State.begin_ev _) rfl; exact ev_refl
  clear_value x1; refine ev_ite ?_ ?_
  · refine ev_step ?_ (State.emit_ev _ _) rfl; assumption
  · refine ev_ite ?_ ?_
    · refine ev_step ?_ (State.emit_ev _ _) rfl; assumption
    · beta_reduce; refine ev_ite ?_ ?_
      · refine ev_step ?_ (State.answerMbox_ev _ _ _ _) rfl; assumption
      · extract_lets +onlyGivenNames x2; subst x2; extract_lets +onlyGivenNames x3; clear_value x3
        refine ev_ite ?_ ?_
        · beta_reduce; refine ev_step ?_ (State.answerMbox_ev _ _ _ _) rfl; refine ev_step ?_ (State.raise_ev _ _) rfl
          assumption
        · refine ev_ite ?_ ?_
          · beta_reduce; refine ev_step ?_ (State.answerMbox_ev _ _ _ _) rfl
            refine ev_step ?_ (State.raise_ev _ _) rfl; assumption
          · split
            · rename_i y4 y5 y6; extract_lets +onlyGivenNames x7
              have h7 : State.evolves a2 x7 [.regs, .pmc, .evt, .host, .ntn, .flt, .fwu, .out] := by
                subst x7; refine ev_step ?_ (State.raise_ev _ _) rfl; refine ev_foldl ?_ ?_
                · refine ev_fst (p := _) ?_ y6; refine evP_ite ?_ ?_
                  · refine evP_step ?_ (State.ctrWrite_ev _ _ _) rfl; assumption
                  · refine evP_mk ?_; assumption
                · intro x8 x9 x10; refine ev_step ?_ (State.applyItem_ev _ _) rfl; assumption
              clear_value x7; refine ev_step ?_ (State.answerMbox_ev _ _ _ _) rfl
              refine ev_step ?_ (State.fwRecord_ev _ _ _ _ _ _) rfl; assumption
            · rename_i y11 y12 y13 y14 y15; refine ev_step ?_ (State.answerMbox_ev _ _ _ _) rfl
              refine ev_fst (p := _) ?_ y15; refine evP_ite ?_ ?_
              · refine evP_step ?_ (State.ctrWrite_ev _ _ _) rfl; assumption
              · refine evP_mk ?_; assumption

theorem execPldmActivateFirmware_ev (a0 : Bool) (a1 : State) :
    State.evX a1 (execPldmActivateFirmware a0 a1) [.fwu, .out] := by
  unfold execPldmActivateFirmware; refine evX_done ?_; unfold State.spdm; extract_lets +onlyGivenNames x1
  have h1 : State.evolves a1 x1 [.fwu, .out] := by
    subst x1; refine ev_step ?_ (State.begin_ev _) rfl; exact ev_refl
  clear_value x1; refine ev_ite ?_ ?_
  · refine ev_step ?_ (State.emit_ev _ _) rfl; assumption
  · refine ev_ite ?_ ?_
    · refine ev_ite ?_ ?_
      · refine ev_step ?_ (State.emit_ev _ _) rfl; assumption
      · refine ev_ite ?_ ?_
        · refine ev_step ?_ (State.emit_ev _ _) rfl; extract_lets +onlyGivenNames x2; clear_value x2
          refine ev_fwu ?_ rfl; assumption
        · refine ev_step ?_ (State.emit_ev _ _) rfl; assumption
    · beta_reduce
      split
      · rename_i y3 y4; refine ev_step ?_ (State.emit_ev _ _) rfl; assumption
      · rename_i y5 y6; refine ev_step ?_ (State.emit_ev _ _) rfl; assumption
      · rename_i y7 y8 y9 y10 y11; refine ev_step ?_ (State.emit_ev _ _) rfl; assumption
      · rename_i y12 y13; refine ev_step ?_ (State.emit_ev _ _) rfl; refine ev_step ?_ (State.activate_ev _ _ _ _) rfl
        assumption

theorem execImageCopyDone_ev (a0 : Bool) (a1 : State) :
    State.evX a1 (execImageCopyDone a0 a1) [.regs, .pmc, .evt, .host, .fch, .wp, .warp, .upk, .pwr, .fwu, .out] := by
  unfold execImageCopyDone; refine evX_done ?_; refine ev_when ?_ rfl ?_
  · exact ev_refl
  · intro x1 x2
    split
    · rename_i y3 y4; assumption
    · rename_i y5 y6 y7; refine ev_ite ?_ ?_
      · assumption
      · refine ev_ite ?_ ?_
        · refine ev_step ?_ (State.xferFail_ev _ _ _ _) rfl; refine ev_step ?_ (State.endTransfer_ev _ _ _) rfl
          assumption
        · extract_lets +onlyGivenNames x8; clear_value x8; extract_lets +onlyGivenNames x9
          have h9 : State.evolves a1 x9 [.regs, .pmc, .evt, .host, .fch, .wp, .warp, .upk, .pwr, .fwu, .out] := by
            subst x9; refine ev_step ?_ (State.setXfer_ev _ _) rfl; assumption
          clear_value x9; refine ev_ite ?_ ?_
          · extract_lets +onlyGivenNames x10
            have h10 : State.evolves a1 x10 [.regs, .pmc, .evt, .host, .fch, .wp, .warp, .upk, .pwr, .fwu, .out] := by
              subst x10; refine ev_step ?_ (State.installSlot_ev _ _ _ _) rfl
              refine ev_step ?_ (State.installSlot_ev _ _ _ _) rfl; assumption
            clear_value x10; extract_lets +onlyGivenNames x11; clear_value x11; extract_lets +onlyGivenNames x12
            have h12 : State.evolves a1 x12 [.regs, .pmc, .evt, .host, .fch, .wp, .warp, .upk, .pwr, .fwu, .out] := by
              subst x12; refine ev_step ?_ (State.raiseN_ev _ _ _ _) rfl; refine ev_step ?_ (State.setBoot_ev _ _) rfl
              assumption
            clear_value x12; refine ev_step ?_ (State.startDevReset_ev _) rfl
            refine ev_step ?_ (State.answerDone_ev _ _) rfl; assumption
          · extract_lets +onlyGivenNames x13; clear_value x13; extract_lets +onlyGivenNames x14
            have h14 : State.evolves a1 x14 [.regs, .pmc, .evt, .host, .fch, .wp, .warp, .upk, .pwr, .fwu, .out] := by
              subst x14; refine ev_step ?_ (State.installSlot_ev _ _ _ _) rfl; assumption
            clear_value x14; extract_lets +onlyGivenNames x15; clear_value x15; extract_lets +onlyGivenNames x16
            have h16 : State.evolves a1 x16 [.regs, .pmc, .evt, .host, .fch, .wp, .warp, .upk, .pwr, .fwu, .out] := by
              subst x16; refine ev_fwu ?_ rfl; assumption
            clear_value x16; refine ev_step ?_ (State.answerDone_ev _ _) rfl
            refine ev_step ?_ (State.endTransfer_ev _ _ _) rfl; refine ev_step ?_ (State.raiseN_ev _ _ _ _) rfl
            assumption

end Sys2Proof.Machine
end

