-- ==== Sys2Proof/Laws/EvUpkeep.lean ====
section
/-!
SUPPORT. What each operation of Machine/Upkeep.lean may change: its parts of the state, and that the register stores stay
canonical.
-/
set_option Elab.async false
namespace Sys2Proof.Machine

theorem State.probedTriple_ev (a0 : State) (a1 : Nat) (a2 : Nat) (a3 : Nat) :
    State.evolves a0 (State.probedTriple a0 a1 a2 a3) [.regs, .pmc, .evt, .host, .upk] := by
  unfold State.probedTriple; extract_lets +onlyGivenNames x1; clear_value x1
  extract_lets +onlyGivenNames x2; clear_value x2; extract_lets +onlyGivenNames x3; clear_value x3
  extract_lets +onlyGivenNames x4
  have h4 : State.evolves a0 x4 [.regs, .pmc, .evt, .host, .upk] := by
    subst x4; refine ev_step ?_ (State.setTriple_ev _ _ _) rfl; exact ev_refl
  clear_value x4; refine ev_ite ?_ ?_
  · refine ev_step ?_ (State.upkEvent_ev _ _ _ _ _ _) rfl; assumption
  · assumption

theorem State.clearRinse_ev (a0 : State) : State.evolves a0 (State.clearRinse a0) [.upk] := by
  unfold State.clearRinse; extract_lets +onlyGivenNames x1; subst x1
  refine ev_upk ?_ rfl (fun z => (UpkState.wf_iff _).mpr (by have w := (UpkState.wf_iff _).mp z; dsimp only; exact ⟨⟨⟨Tab.wf_mapVals _ _ _ w.1.1.1, w.1.1.2⟩, w.1.2⟩, w.2⟩))
  exact ev_refl

theorem State.startPass_ev (a0 : State) : State.evolves a0 (State.startPass a0) [.upk] := by
  unfold State.startPass; extract_lets +onlyGivenNames x1
  have h1 : State.evolves a0 x1 [.upk] := by
    subst x1; refine ev_step ?_ (State.clearRinse_ev _) rfl; exact ev_refl
  clear_value x1; extract_lets +onlyGivenNames x2; subst x2; refine ev_upk ?_ rfl UpkState.wf_upd; assumption

theorem execRinseNow_ev (a0 : Nat) (a1 : State) :
    State.evX a1 (execRinseNow a0 a1) [.regs, .pmc, .evt, .host, .upk, .out] := by
  unfold execRinseNow; refine evX_done ?_; unfold State.barWrite; extract_lets +onlyGivenNames x1
  have h1 : State.evolves a1 x1 [.regs, .pmc, .evt, .host, .upk, .out] := by
    subst x1; refine ev_step ?_ (State.begin_ev _) rfl; exact ev_refl
  clear_value x1; refine ev_ite ?_ ?_
  · refine ev_step ?_ (State.emit_ev _ _) rfl; assumption
  · refine ev_ite ?_ ?_
    · refine ev_step ?_ (State.accessErr_ev _ _ _ _ _ _) rfl; assumption
    · beta_reduce; refine ev_step ?_ (State.startPass_ev _) rfl; assumption

theorem State.startReset_ev (a0 : State) (a1 : Nat) (a2 : Nat) :
    State.evolves a0 (State.startReset a0 a1 a2) [.regs, .pmc, .evt, .host, .map, .wp, .ntn, .warp, .upk, .out] := by
  unfold State.startReset; extract_lets +onlyGivenNames x1; clear_value x1
  extract_lets +onlyGivenNames x2; clear_value x2; extract_lets +onlyGivenNames x3
  have h3 : State.evolves a0 x3 [.regs, .pmc, .evt, .host, .map, .wp, .ntn, .warp, .upk, .out] := by
    subst x3; refine ev_step ?_ (State.setBolt_ev _ _ _ _) rfl; exact ev_refl
  clear_value x3; extract_lets +onlyGivenNames x4
  have h4 : State.evolves a0 x4 [.regs, .pmc, .evt, .host, .map, .wp, .ntn, .warp, .upk, .out] := by
    subst x4; refine ev_foldl ?_ ?_
    · assumption
    · intro x5 x6 x7; refine ev_step ?_ (State.pushDn_ev _ _ _) rfl; assumption
  clear_value x4; refine ev_ite ?_ ?_
  · refine ev_step ?_ (State.resetDone_ev _ _ _) rfl; assumption
  · assumption

theorem execBoltResetStart_ev (a0 : Nat) (a1 : Nat) (a2 : State) :
    State.evX a2 (execBoltResetStart a0 a1 a2) [.regs, .pmc, .evt, .host, .map, .wp, .ntn, .warp, .upk, .out] := by
  unfold execBoltResetStart; refine evX_done ?_; refine ev_when ?_ rfl ?_
  · exact ev_refl
  · intro x1 x2; refine ev_ite ?_ ?_
    · extract_lets +onlyGivenNames x3; clear_value x3; extract_lets +onlyGivenNames x4
      have h4 : State.evolves a2 x4 [.regs, .pmc, .evt, .host, .map, .wp, .ntn, .warp, .upk, .out] := by
        subst x4; refine ev_step ?_ (State.setUpkG_ev _ _ _) rfl; assumption
      clear_value x4; refine ev_ite ?_ ?_
      · assumption
      · refine ev_step ?_ (State.upkEvent_ev _ _ _ _ _ _) rfl; assumption
    · refine ev_step ?_ (State.startReset_ev _ _ _) rfl; assumption

theorem State.relocate_ev (a0 : State) (a1 : Nat) : State.evolves a0 (State.relocate a0 a1) [.map] := by
  unfold State.relocate; extract_lets +onlyGivenNames x1; clear_value x1; extract_lets +onlyGivenNames x2; subst x2
  extract_lets +onlyGivenNames x3; clear_value x3; extract_lets +onlyGivenNames x4; subst x4
  refine ev_map ?_ rfl MapState.wf_upd; exact ev_refl

theorem execDarnMetaDone_ev (a0 : Nat) (a1 : State) :
    State.evX a1 (execDarnMetaDone a0 a1) [.regs, .pmc, .evt, .host, .map, .upk, .out] := by
  unfold execDarnMetaDone; refine evX_done ?_; refine ev_when ?_ rfl ?_
  · exact ev_refl
  · intro x1 x2; extract_lets +onlyGivenNames x3
    have h3 : State.evolves a1 x3 [.regs, .pmc, .evt, .host, .map, .upk, .out] := by
      subst x3; refine ev_step ?_ (State.relocate_ev _ _) rfl; assumption
    clear_value x3; refine ev_step ?_ (State.upkEvent_ev _ _ _ _ _ _) rfl
    refine ev_step ?_ (State.setUpkG_ev _ _ _) rfl; assumption

theorem State.resumeHeld_ev (a0 : State) (a1 : Nat) (a2 : List Nat) :
    State.evolves a0 (State.resumeHeld a0 a1 a2) [.regs, .pmc, .evt, .host, .map, .wp, .ntn, .warp, .upk, .out] := by
  induction a2 generalizing a0 a1
  · unfold State.resumeHeld; refine ev_step ?_ (State.setUpkG_ev _ _ _) rfl; exact ev_refl
  · rename_i z1 z2 ih3; unfold State.resumeHeld; refine ev_ite ?_ ?_
    · refine ev_step ?_ (State.setUpkG_ev _ _ _) rfl; exact ev_refl
    · refine ev_ite ?_ ?_
      · refine ev_step ?_ (ih3 _ _) rfl; refine ev_step ?_ (State.startReset_ev _ _ _) rfl; exact ev_refl
      · refine ev_step ?_ (ih3 _ _) rfl; exact ev_refl

theorem execPaceResume_ev (a0 : Nat) (a1 : State) :
    State.evX a1 (execPaceResume a0 a1) [.regs, .pmc, .evt, .host, .map, .wp, .ntn, .warp, .upk, .out] := by
  unfold execPaceResume; refine evX_done ?_; refine ev_when ?_ rfl ?_
  · exact ev_refl
  · intro x1 x2; refine ev_step ?_ (State.resumeHeld_ev _ _ _) rfl; assumption

theorem execDarnDone_ev (a0 : Nat) (a1 : State) :
    State.evX a1 (execDarnDone a0 a1) [.regs, .pmc, .evt, .host, .map, .upk, .out] := by
  unfold execDarnDone; extract_lets +onlyGivenNames x1; clear_value x1; refine evX_done ?_; refine ev_when ?_ rfl ?_
  · exact ev_refl
  · intro x2 x3; extract_lets +onlyGivenNames x4
    have h4 : State.evolves a1 x4 [.regs, .pmc, .evt, .host, .map, .upk, .out] := by
      subst x4; refine ev_ite ?_ ?_
      · refine ev_step ?_ (State.relocate_ev _ _) rfl; assumption
      · assumption
    clear_value x4; refine ev_step ?_ (State.upkEvent_ev _ _ _ _ _ _) rfl
    refine ev_step ?_ (State.setUpkG_ev _ _ _) rfl; assumption

theorem State.probeMember_ev (a0 : State) (a1 : Nat) (a2 : Nat) (a3 : Nat) :
    State.evolves a0 (State.probeMember a0 a1 a2 a3) [.regs, .pmc, .evt, .host, .warp] := by
  unfold State.probeMember; extract_lets +onlyGivenNames x1; clear_value x1
  refine ev_step ?_ (State.count_ev _ _ _ _) rfl; refine ev_foldl ?_ ?_
  · exact ev_refl
  · intro x2 x3 x4; refine ev_step ?_ (State.pushRd_ev _ _ _) rfl; assumption

theorem execRecountDone_ev (a0 : Nat) (a1 : Nat) (a2 : Nat) (a3 : State) :
    State.evX a3 (execRecountDone a0 a1 a2 a3) [.regs, .pmc, .evt, .host, .rd, .upk, .out] := by
  unfold execRecountDone; extract_lets +onlyGivenNames x1; clear_value x1; refine evX_done ?_
  refine ev_when ?_ rfl ?_
  · exact ev_refl
  · intro x2 x3; extract_lets +onlyGivenNames x4
    have h4 : State.evolves a3 x4 [.regs, .pmc, .evt, .host, .rd, .upk, .out] := by
      subst x4; refine ev_step ?_ (State.bump_ev _ _ _) rfl; refine ev_step ?_ (State.setBolt_ev _ _ _ _) rfl
      assumption
    clear_value x4; extract_lets +onlyGivenNames x5
    have h5 : State.evolves a3 x5 [.regs, .pmc, .evt, .host, .rd, .upk, .out] := by
      subst x5; refine ev_step ?_ (State.settleBolt_ev _ _ _) rfl; assumption
    clear_value x5; refine ev_step ?_ (State.raiseIf_ev _ _ _) rfl; assumption

theorem execUpkCntClr_ev (a0 : Nat) (a1 : State) :
    State.evX a1 (execUpkCntClr a0 a1) [.regs, .pmc, .evt, .host, .out] := by
  unfold execUpkCntClr; refine evX_done ?_; unfold State.barWrite; extract_lets +onlyGivenNames x1
  have h1 : State.evolves a1 x1 [.regs, .pmc, .evt, .host, .out] := by
    subst x1; refine ev_step ?_ (State.begin_ev _) rfl; exact ev_refl
  clear_value x1; refine ev_ite ?_ ?_
  · refine ev_step ?_ (State.emit_ev _ _) rfl; assumption
  · refine ev_ite ?_ ?_
    · refine ev_step ?_ (State.accessErr_ev _ _ _ _ _ _) rfl; assumption
    · beta_reduce; refine ev_step ?_ (State.setReg_ev _ _ _) rfl; refine ev_step ?_ (State.setReg_ev _ _ _) rfl
      assumption

theorem State.escalateTriple_ev (a0 : State) (a1 : Nat) :
    State.evolves a0 (State.escalateTriple a0 a1) [.regs, .pmc, .evt, .host, .upk] := by
  unfold State.escalateTriple; extract_lets +onlyGivenNames x1; clear_value x1; extract_lets +onlyGivenNames x2
  have h2 : State.evolves a0 x2 [.regs, .pmc, .evt, .host, .upk] := by
    subst x2; refine ev_step ?_ (State.setTriple_ev _ _ _) rfl; exact ev_refl
  clear_value x2; refine ev_step ?_ (State.upkEvent_ev _ _ _ _ _ _) rfl; refine ev_step ?_ (State.bump_ev _ _ _) rfl
  assumption

theorem execAgeProbe_ev (a0 : Nat) (a1 : Nat) (a2 : State) :
    State.evX a2 (execAgeProbe a0 a1 a2) [.regs, .pmc, .evt, .host, .warp, .upk, .out] := by
  unfold execAgeProbe; refine evX_done ?_; refine ev_when ?_ rfl ?_
  · exact ev_refl
  · intro x1 x2; extract_lets +onlyGivenNames x3; clear_value x3; extract_lets +onlyGivenNames x4; clear_value x4
    extract_lets +onlyGivenNames x5; subst x5; extract_lets +onlyGivenNames x6
    have h6 : State.evolves a2 x6 [.regs, .pmc, .evt, .host, .warp, .upk, .out] := by
      subst x6; refine ev_upk ?_ rfl UpkState.wf_upd; assumption
    clear_value x6; extract_lets +onlyGivenNames x7
    have h7 : State.evolves a2 x7 [.regs, .pmc, .evt, .host, .warp, .upk, .out] := by
      subst x7; refine ev_ite ?_ ?_
      · refine ev_step ?_ (State.bump_ev _ _ _) rfl; assumption
      · assumption
    clear_value x7; refine ev_foldl ?_ ?_
    · assumption
    · intro x8 x9 x10; refine ev_step ?_ (State.probeMember_ev _ _ _ _) rfl; assumption

theorem State.escalate_ev (a0 : State) (a1 : Nat) (a2 : Nat) :
    State.evolves a0 (State.escalate a0 a1 a2) [.regs, .pmc, .evt, .host, .upk] := by
  unfold State.escalate; extract_lets +onlyGivenNames x1; clear_value x1
  refine ev_step ?_ (State.upkEvent_ev _ _ _ _ _ _) rfl; refine ev_step ?_ (State.bump_ev _ _ _) rfl
  refine ev_step ?_ (State.queuePress_ev _ _ _) rfl; exact ev_refl

theorem execSelvageRefresh_ev (a0 : Nat) (a1 : Nat) (a2 : Nat) (a3 : State) :
    State.evX a3 (execSelvageRefresh a0 a1 a2 a3) [.regs, .pmc, .evt, .host, .upk, .out] := by
  unfold execSelvageRefresh; extract_lets +onlyGivenNames x1; clear_value x1; refine evX_done ?_
  refine ev_when ?_ rfl ?_
  · exact ev_refl
  · intro x2 x3; extract_lets +onlyGivenNames x4; clear_value x4; extract_lets +onlyGivenNames x5
    have h5 : State.evolves a3 x5 [.regs, .pmc, .evt, .host, .upk, .out] := by
      subst x5; refine ev_ite ?_ ?_
      · assumption
      · refine ev_step ?_ (State.upkEvent_ev _ _ _ _ _ _) rfl; assumption
    clear_value x5; refine ev_step ?_ (State.setTriple_ev _ _ _) rfl; assumption

theorem execPressVictimSelect_ev (a0 : Nat) (a1 : State) :
    State.evX a1 (execPressVictimSelect a0 a1) [.upk, .out] := by
  unfold execPressVictimSelect; refine evX_done ?_; refine ev_when ?_ rfl ?_
  · exact ev_refl
  · intro x1 x2
    split
    · rename_i y3 y4; assumption
    · rename_i y5 y6 y7 y8; refine ev_step ?_ (State.setBolt_ev _ _ _ _) rfl; assumption

theorem State.unprobe_ev (a0 : State) (a1 : Nat) (a2 : Nat) : State.evolves a0 (State.unprobe a0 a1 a2) [.upk] := by
  unfold State.unprobe; extract_lets +onlyGivenNames x1; subst x1; refine ev_upk ?_ rfl UpkState.wf_upd; exact ev_refl

theorem State.probedBolt_ev (a0 : State) (a1 : Nat) (a2 : Nat) (a3 : Nat) (a4 : Nat) :
    State.evolves a0 (State.probedBolt a0 a1 a2 a3 a4) [.regs, .pmc, .evt, .host, .upk] := by
  unfold State.probedBolt; extract_lets +onlyGivenNames x1; clear_value x1; refine ev_ite ?_ ?_
  · exact ev_refl
  · extract_lets +onlyGivenNames x2
    have h2 : State.evolves a0 x2 [.regs, .pmc, .evt, .host, .upk] := by
      subst x2; refine ev_step ?_ (State.setBolt_ev _ _ _ _) rfl; exact ev_refl
    clear_value x2; extract_lets +onlyGivenNames x3
    have h3 : State.evolves a0 x3 [.regs, .pmc, .evt, .host, .upk] := by
      subst x3; refine ev_ite ?_ ?_
      · refine ev_step ?_ (State.queuePress_ev _ _ _) rfl; assumption
      · assumption
    clear_value x3; refine ev_step ?_ (State.checkAge_ev _ _ _) rfl; assumption

theorem State.probeEnd_ev (a0 : State) (a1 : Nat) (a2 : Nat) (a3 : Nat) :
    State.evolves a0 (State.probeEnd a0 a1 a2 a3) [.regs, .pmc, .evt, .host, .rd, .upk, .flt, .freeCtr] := by
  unfold State.probeEnd; extract_lets +onlyGivenNames x1; clear_value x1; extract_lets +onlyGivenNames x2
  have h2 : State.evP a0 x2 [.regs, .pmc, .evt, .host, .rd, .upk, .flt, .freeCtr] := by
    subst x2; refine evP_step ?_ (State.draw_ev _) rfl; exact ev_refl
  clear_value x2; extract_lets +onlyGivenNames x3; clear_value x3; extract_lets +onlyGivenNames x4
  have h4 : State.evolves a0 x4 [.regs, .pmc, .evt, .host, .rd, .upk, .flt, .freeCtr] := by
    subst x4; refine ev_step ?_ (State.unprobe_ev _ _ _) rfl; exact ev_fst1 (by assumption)
  clear_value x4; extract_lets +onlyGivenNames x5; clear_value x5; extract_lets +onlyGivenNames x6
  have h6 : State.evolves a0 x6 [.regs, .pmc, .evt, .host, .rd, .upk, .flt, .freeCtr] := by
    subst x6; refine ev_ite ?_ ?_
    · assumption
    · refine ev_step ?_ (State.reportLine_ev _ _) rfl; refine ev_step ?_ (State.bump_ev _ _ _) rfl; assumption
  clear_value x6; extract_lets +onlyGivenNames x7
  have h7 : State.evolves a0 x7 [.regs, .pmc, .evt, .host, .rd, .upk, .flt, .freeCtr] := by
    subst x7; refine ev_ite ?_ ?_
    · refine ev_foldl ?_ ?_
      · assumption
      · intro x8 x9 x10; refine ev_step ?_ (State.probedTriple_ev _ _ _ _) rfl; assumption
    · refine ev_step ?_ (State.probedBolt_ev _ _ _ _ _) rfl; assumption
  clear_value x7; refine ev_step ?_ (State.endUnknown_ev _) rfl; assumption

theorem execRinsePeriod_ev (a0 : State) :
    State.evX a0 (execRinsePeriod a0) [.regs, .pmc, .evt, .host, .upk, .out] := by
  unfold execRinsePeriod; refine evX_done ?_; refine ev_when ?_ rfl ?_
  · exact ev_refl
  · intro x1 x2; extract_lets +onlyGivenNames x3; clear_value x3; extract_lets +onlyGivenNames x4; subst x4
    extract_lets +onlyGivenNames x5
    have h5 : State.evolves a0 x5 [.regs, .pmc, .evt, .host, .upk, .out] := by
      subst x5; refine ev_upk ?_ rfl UpkState.wf_upd; assumption
    clear_value x5; refine ev_ite ?_ ?_
    · refine ev_step ?_ (State.upkEvent_ev _ _ _ _ _ _) rfl; assumption
    · refine ev_step ?_ (State.startPass_ev _) rfl; assumption

theorem execWringVictimSelect_ev (a0 : Nat) (a1 : State) :
    State.evX a1 (execWringVictimSelect a0 a1) [.upk, .out] := by
  unfold execWringVictimSelect; refine evX_done ?_; refine ev_when ?_ rfl ?_
  · exact ev_refl
  · intro x1 x2
    split
    · rename_i y3 y4; assumption
    · rename_i y5 y6 y7 y8; refine ev_step ?_ (State.setBolt_ev _ _ _ _) rfl; assumption

theorem execUpkBoltHiRead_ev (a0 : Nat) (a1 : State) : State.evX a1 (execUpkBoltHiRead a0 a1) [.upk, .out] := by
  unfold execUpkBoltHiRead; refine evX_done ?_; unfold State.barReadGate; extract_lets +onlyGivenNames x1
  have h1 : State.evolves a1 x1 [.upk, .out] := by
    subst x1; refine ev_step ?_ (State.begin_ev _) rfl; exact ev_refl
  clear_value x1; refine ev_ite ?_ ?_
  · refine ev_step ?_ (State.emit_ev _ _) rfl; assumption
  · beta_reduce; extract_lets +onlyGivenNames x2; clear_value x2; refine ev_step ?_ (State.emit_ev _ _) rfl
    extract_lets +onlyGivenNames x3; subst x3; refine ev_upk ?_ rfl UpkState.wf_upd; assumption

theorem execStaticSwapStart_ev (a0 : Nat) (a1 : State) :
    State.evX a1 (execStaticSwapStart a0 a1) [.regs, .pmc, .evt, .host, .upk, .out] := by
  unfold execStaticSwapStart; refine evX_done ?_; refine ev_when ?_ rfl ?_
  · exact ev_refl
  · intro x1 x2
    split
    · rename_i y3 y4; assumption
    · rename_i y5 y6 y7 y8; refine ev_ite ?_ ?_
      · extract_lets +onlyGivenNames x9; clear_value x9; extract_lets +onlyGivenNames x10
        have h10 : State.evolves a1 x10 [.regs, .pmc, .evt, .host, .upk, .out] := by
          subst x10; refine ev_step ?_ (State.setBolt_ev _ _ _ _) rfl; assumption
        clear_value x10; extract_lets +onlyGivenNames x11; clear_value x11; extract_lets +onlyGivenNames x12
        have h12 : State.evolves a1 x12 [.regs, .pmc, .evt, .host, .upk, .out] := by
          subst x12; refine ev_step ?_ (State.setUpkG_ev _ _ _) rfl; assumption
        clear_value x12; refine ev_step ?_ (State.upkEvent_ev _ _ _ _ _ _) rfl
        refine ev_step ?_ (State.bump_ev _ _ _) rfl; assumption
      · refine ev_step ?_ (State.setUpkG_ev _ _ _) rfl; assumption

theorem execRinsePassDone_ev (a0 : State) :
    State.evX a0 (execRinsePassDone a0) [.regs, .pmc, .evt, .host, .upk, .out] := by
  unfold execRinsePassDone; refine evX_done ?_; refine ev_when ?_ rfl ?_
  · exact ev_refl
  · intro x1 x2; extract_lets +onlyGivenNames x3; clear_value x3; extract_lets +onlyGivenNames x4; clear_value x4
    extract_lets +onlyGivenNames x5
    have h5 : State.evolves a0 x5 [.regs, .pmc, .evt, .host, .upk, .out] := by
      subst x5; refine ev_foldl ?_ ?_
      · assumption
      · intro x6 x7 x8; refine ev_step ?_ (State.escalate_ev _ _ _) rfl; assumption
    clear_value x5; extract_lets +onlyGivenNames x9
    have h9 : State.evolves a0 x9 [.regs, .pmc, .evt, .host, .upk, .out] := by
      subst x9; refine ev_step ?_ (State.clearRinse_ev _) rfl; refine ev_foldl ?_ ?_
      · assumption
      · intro x10 x11 x12; refine ev_step ?_ (State.escalateTriple_ev _ _) rfl; assumption
    clear_value x9; extract_lets +onlyGivenNames x13; subst x13; extract_lets +onlyGivenNames x14
    have h14 : State.evolves a0 x14 [.regs, .pmc, .evt, .host, .upk, .out] := by
      subst x14; refine ev_upk ?_ rfl UpkState.wf_upd; assumption
    clear_value x14; refine ev_step ?_ (State.upkEvent_ev _ _ _ _ _ _) rfl
    refine ev_step ?_ (State.bump_ev _ _ _) rfl; assumption

theorem execAgeProbeDone_ev (a0 : Nat) (a1 : Nat) (a2 : Nat) (a3 : State) :
    State.evX a3 (execAgeProbeDone a0 a1 a2 a3) [.regs, .pmc, .evt, .host, .rd, .upk, .flt, .out, .freeCtr] := by
  unfold execAgeProbeDone; refine evX_done ?_; refine ev_when ?_ rfl ?_
  · exact ev_refl
  · intro x1 x2; refine ev_step ?_ (State.probeEnd_ev _ _ _ _) rfl; assumption

end Sys2Proof.Machine
end

