-- ==== Sys2Proof/Laws/EvFaults.lean ====
section
/-!
SUPPORT. What each operation of Machine/Faults.lean may change: its parts of the state, and that the register stores stay
canonical.
-/
set_option Elab.async false
namespace Sys2Proof.Machine

theorem execTestRequest_ev (a0 : Nat) (a1 : Nat) (a2 : Nat) (a3 : State) :
    State.evX a3 (execTestRequest a0 a1 a2 a3) [.regs, .pmc, .evt, .host, .flt, .out] := by
  unfold execTestRequest; refine evX_done ?_; unfold State.barWrite; extract_lets +onlyGivenNames x1
  have h1 : State.evolves a3 x1 [.regs, .pmc, .evt, .host, .flt, .out] := by
    subst x1; refine ev_step ?_ (State.begin_ev _) rfl; exact ev_refl
  clear_value x1; refine ev_ite ?_ ?_
  · refine ev_step ?_ (State.emit_ev _ _) rfl; assumption
  · refine ev_ite ?_ ?_
    · refine ev_step ?_ (State.accessErr_ev _ _ _ _ _ _) rfl; assumption
    · beta_reduce; extract_lets +onlyGivenNames x2
      have h2 : State.evolves a3 x2 [.regs, .pmc, .evt, .host, .flt, .out] := by
        subst x2; refine ev_step ?_ (State.setFld_ev _ _ _) rfl; refine ev_step ?_ (State.setFld_ev _ _ _) rfl
        assumption
      clear_value x2; extract_lets +onlyGivenNames x3; clear_value x3; refine ev_ite ?_ ?_
      · assumption
      · refine ev_ite ?_ ?_
        · extract_lets +onlyGivenNames x4; clear_value x4; refine ev_flt ?_ rfl; assumption
        · extract_lets +onlyGivenNames x5; clear_value x5; refine ev_flt ?_ rfl; assumption

theorem execInjDisarm_ev (a0 : Nat) (a1 : State) :
    State.evX a1 (execInjDisarm a0 a1) [.regs, .pmc, .evt, .host, .flt, .out] := by
  unfold execInjDisarm; refine evX_done ?_; unfold State.barWrite; extract_lets +onlyGivenNames x1
  have h1 : State.evolves a1 x1 [.regs, .pmc, .evt, .host, .flt, .out] := by
    subst x1; refine ev_step ?_ (State.begin_ev _) rfl; exact ev_refl
  clear_value x1; refine ev_ite ?_ ?_
  · refine ev_step ?_ (State.emit_ev _ _) rfl; assumption
  · refine ev_ite ?_ ?_
    · refine ev_step ?_ (State.accessErr_ev _ _ _ _ _ _) rfl; assumption
    · beta_reduce; extract_lets +onlyGivenNames x2; clear_value x2; refine ev_flt ?_ rfl; assumption

theorem State.holdEngine_ev (a0 : State) (a1 : Nat) :
    State.evolves a0 (State.holdEngine a0 a1) [.regs, .pmc, .evt, .host, .wp, .flt] := by
  unfold State.holdEngine; extract_lets +onlyGivenNames x1; clear_value x1; extract_lets +onlyGivenNames x2
  have h2 : State.evolves a0 x2 [.regs, .pmc, .evt, .host, .wp, .flt] := by
    subst x2; refine ev_step ?_ (State.setGroup_ev _ _ _) rfl; exact ev_refl
  clear_value x2; refine ev_step ?_ (State.takeover_ev _ _) rfl; extract_lets +onlyGivenNames x3; clear_value x3
  refine ev_flt ?_ rfl; assumption

theorem State.takeTestBlock_ev (a0 : State) (a1 : Res) :
    State.evolves a0 (State.takeTestBlock a0 a1) [.regs, .pmc, .evt, .host, .map, .wp, .upk, .out] := by
  unfold State.takeTestBlock; extract_lets +onlyGivenNames x1; clear_value x1
  extract_lets +onlyGivenNames x2; clear_value x2; extract_lets +onlyGivenNames x3; clear_value x3
  refine ev_ite ?_ ?_
  · exact ev_refl
  · split
    · rename_i y4 y5; exact ev_refl
    · rename_i y6 y7 y8 y9; refine ev_step ?_ (State.freeLevels_ev _ _) rfl
      refine ev_step ?_ (State.setBolt_ev _ _ _ _) rfl; exact ev_refl

theorem State.startTest_ev (a0 : State) (a1 : TestRec) :
    State.evolves a0 (State.startTest a0 a1) [.regs, .pmc, .evt, .host, .map, .wp, .upk, .flt, .out] := by
  unfold State.startTest; extract_lets +onlyGivenNames x1; clear_value x1; extract_lets +onlyGivenNames x2
  have h2 : State.evolves a0 x2 [.regs, .pmc, .evt, .host, .map, .wp, .upk, .flt, .out] := by
    subst x2; refine ev_flt ?_ rfl; exact ev_refl
  clear_value x2; extract_lets +onlyGivenNames x3
  have h3 : State.evolves a0 x3 [.regs, .pmc, .evt, .host, .map, .wp, .upk, .flt, .out] := by
    subst x3
    split
    · rename_i y4 y5 y6; refine ev_step ?_ (State.holdEngine_ev _ _) rfl; assumption
    · rename_i y7 y8; assumption
  clear_value x3; refine ev_ite ?_ ?_
  · refine ev_step ?_ (State.takeTestBlock_ev _ _) rfl; assumption
  · assumption

theorem execInjArm_ev (a0 : Nat) (a1 : Nat) (a2 : Nat) (a3 : Bool) (a4 : Bool) (a5 : State) :
    State.evX a5 (execInjArm a0 a1 a2 a3 a4 a5) [.regs, .pmc, .evt, .host, .fch, .map, .wp, .rd, .ntn, .warp, .link, .upk, .flt, .out] := by
  unfold execInjArm; refine evX_done ?_; unfold State.barWrite; extract_lets +onlyGivenNames x1
  have h1 : State.evolves a5 x1 [.regs, .pmc, .evt, .host, .fch, .map, .wp, .rd, .ntn, .warp, .link, .upk, .flt, .out] := by
    subst x1; refine ev_step ?_ (State.begin_ev _) rfl; exact ev_refl
  clear_value x1; refine ev_ite ?_ ?_
  · refine ev_step ?_ (State.emit_ev _ _) rfl; assumption
  · refine ev_ite ?_ ?_
    · refine ev_step ?_ (State.accessErr_ev _ _ _ _ _ _) rfl; assumption
    · beta_reduce; extract_lets +onlyGivenNames x2
      have h2 : State.evolves a5 x2 [.regs, .pmc, .evt, .host, .fch, .map, .wp, .rd, .ntn, .warp, .link, .upk, .flt, .out] := by
        subst x2; refine ev_step ?_ (State.setFld_ev _ _ _) rfl; refine ev_step ?_ (State.setFld_ev _ _ _) rfl
        refine ev_step ?_ (State.setFld_ev _ _ _) rfl; refine ev_step ?_ (State.setFld_ev _ _ _) rfl; assumption
      clear_value x2; refine ev_ite ?_ ?_
      · extract_lets +onlyGivenNames x3; clear_value x3; extract_lets +onlyGivenNames x4; clear_value x4
        extract_lets +onlyGivenNames x5
        have h5 : State.evolves a5 x5 [.regs, .pmc, .evt, .host, .fch, .map, .wp, .rd, .ntn, .warp, .link, .upk, .flt, .out] := by
          subst x5; refine ev_flt ?_ rfl; assumption
        clear_value x5; extract_lets +onlyGivenNames x6; clear_value x6; refine ev_ite ?_ ?_
        · refine ev_step ?_ (State.islandFault_ev _ _) rfl; refine ev_step ?_ (State.injFire_ev _) rfl; assumption
        · assumption
      · assumption

theorem execEngineTakeback_ev (a0 : Nat) (a1 : State) :
    State.evX a1 (execEngineTakeback a0 a1) [.regs, .pmc, .evt, .host, .fch, .map, .wp, .rd, .ntn, .warp, .link, .upk, .flt, .out] := by
  unfold execEngineTakeback; refine evX_done ?_; refine ev_when ?_ rfl ?_
  · exact ev_refl
  · intro x1 x2; extract_lets +onlyGivenNames x3; clear_value x3; extract_lets +onlyGivenNames x4
    have h4 : State.evolves a1 x4 [.regs, .pmc, .evt, .host, .fch, .map, .wp, .rd, .ntn, .warp, .link, .upk, .flt, .out] := by
      subst x4; refine ev_step ?_ (State.setGroup_ev _ _ _) rfl; assumption
    clear_value x4; extract_lets +onlyGivenNames x5; clear_value x5; extract_lets +onlyGivenNames x6
    have h6 : State.evolves a1 x6 [.regs, .pmc, .evt, .host, .fch, .map, .wp, .rd, .ntn, .warp, .link, .upk, .flt, .out] := by
      subst x6; refine ev_flt ?_ rfl; assumption
    clear_value x6; refine ev_ite ?_ ?_
    · refine ev_step ?_ (State.islandFault_ev _ _) rfl; refine ev_step ?_ (State.injFire_ev _) rfl; assumption
    · assumption

theorem State.pipelineBack_ev (a0 : State) (a1 : Res) : State.evolves a0 (State.pipelineBack a0 a1) [.flt] := by
  unfold State.pipelineBack; extract_lets +onlyGivenNames x1; clear_value x1; refine ev_flt ?_ rfl; exact ev_refl

theorem State.freeEngine_ev (a0 : State) (a1 : Res) : State.evolves a0 (State.freeEngine a0 a1) [.flt] := by
  unfold State.freeEngine
  split
  · rename_i y1 y2 y3; extract_lets +onlyGivenNames x4; clear_value x4; refine ev_flt ?_ rfl; exact ev_refl
  · rename_i y5 y6; exact ev_refl

theorem execInjEnWrite_ev (a0 : Nat) (a1 : Bool) (a2 : State) :
    State.evX a2 (execInjEnWrite a0 a1 a2) [.regs, .pmc, .evt, .host, .out] := by
  unfold execInjEnWrite; refine evX_done ?_; unfold State.barWrite; extract_lets +onlyGivenNames x1
  have h1 : State.evolves a2 x1 [.regs, .pmc, .evt, .host, .out] := by
    subst x1; refine ev_step ?_ (State.begin_ev _) rfl; exact ev_refl
  clear_value x1; refine ev_ite ?_ ?_
  · refine ev_step ?_ (State.emit_ev _ _) rfl; assumption
  · refine ev_ite ?_ ?_
    · refine ev_step ?_ (State.accessErr_ev _ _ _ _ _ _) rfl; assumption
    · beta_reduce; refine ev_ite ?_ ?_
      · assumption
      · refine ev_step ?_ (State.setFld_ev _ _ _) rfl; assumption

theorem State.unspill_ev (a0 : State) : State.evolves a0 (State.unspill a0) [.flt] := by
  unfold State.unspill
  split
  · rename_i y1 y2; exact ev_refl
  · rename_i y3 y4 y5 y6; refine ev_step ?_ (State.queueTest_ev _ _ _ _) rfl
    extract_lets +onlyGivenNames x7; clear_value x7; refine ev_flt ?_ rfl; exact ev_refl

theorem State.resetRetried_ev (a0 : State) (a1 : Nat) (a2 : Nat) :
    State.evolves a0 (State.resetRetried a0 a1 a2) [.regs, .pmc, .evt, .host, .map, .wp, .ntn, .upk, .out] := by
  unfold State.resetRetried; extract_lets +onlyGivenNames x1; clear_value x1
  extract_lets +onlyGivenNames x2; clear_value x2; refine ev_ite ?_ ?_
  · refine ev_step ?_ (State.resetDone_ev _ _ _) rfl; refine ev_step ?_ (State.setBolt_ev _ _ _ _) rfl; exact ev_refl
  · exact ev_refl

theorem State.testPassed_ev (a0 : State) (a1 : TestRec) :
    State.evolves a0 (State.testPassed a0 a1) [.regs, .pmc, .evt, .host, .fch, .map, .wp, .rd, .ntn, .warp, .link, .upk, .flt, .out] := by
  unfold State.testPassed; extract_lets +onlyGivenNames x1
  have h1 : State.evolves a0 x1 [.regs, .pmc, .evt, .host, .fch, .map, .wp, .rd, .ntn, .warp, .link, .upk, .flt, .out] := by
    subst x1; refine ev_step ?_ (State.setFld_ev _ _ _) rfl; refine ev_step ?_ (State.bump_ev _ _ _) rfl
    exact ev_refl
  clear_value x1; extract_lets +onlyGivenNames x2
  have h2 : State.evolves a0 x2 [.regs, .pmc, .evt, .host, .fch, .map, .wp, .rd, .ntn, .warp, .link, .upk, .flt, .out] := by
    subst x2; refine ev_step ?_ (State.raiseN_ev _ _ _ _) rfl; assumption
  clear_value x2; extract_lets +onlyGivenNames x3
  have h3 : State.evolves a0 x3 [.regs, .pmc, .evt, .host, .fch, .map, .wp, .rd, .ntn, .warp, .link, .upk, .flt, .out] := by
    subst x3; refine ev_ite ?_ ?_
    · refine ev_step ?_ (State.resetRetried_ev _ _ _) rfl; assumption
    · assumption
  clear_value x3; extract_lets +onlyGivenNames x4
  have h4 : State.evolves a0 x4 [.regs, .pmc, .evt, .host, .fch, .map, .wp, .rd, .ntn, .warp, .link, .upk, .flt, .out] := by
    subst x4; refine ev_ite ?_ ?_
    · refine ev_step ?_ (State.pipelineBack_ev _ _) rfl; assumption
    · assumption
  clear_value x4; refine ev_ite ?_ ?_
  · assumption
  · refine ev_foldl ?_ ?_
    · assumption
    · intro x5 x6 x7; refine ev_step ?_ (State.countThresh_ev _ _ _) rfl; assumption

theorem State.testFailed_ev (a0 : State) (a1 : TestRec) (a2 : Nat) :
    State.evolves a0 (State.testFailed a0 a1 a2) [.regs, .pmc, .evt, .host, .fch, .map, .wp, .rd, .ntn, .warp, .link, .upk, .flt, .out] := by
  unfold State.testFailed; extract_lets +onlyGivenNames x1
  have h1 : State.evolves a0 x1 [.regs, .pmc, .evt, .host, .fch, .map, .wp, .rd, .ntn, .warp, .link, .upk, .flt, .out] := by
    subst x1; refine ev_step ?_ (State.setFld_ev _ _ _) rfl; refine ev_step ?_ (State.bump_ev _ _ _) rfl
    exact ev_refl
  clear_value x1; extract_lets +onlyGivenNames x2
  have h2 : State.evolves a0 x2 [.regs, .pmc, .evt, .host, .fch, .map, .wp, .rd, .ntn, .warp, .link, .upk, .flt, .out] := by
    subst x2; refine ev_step ?_ (State.raiseN_ev _ _ _ _) rfl; assumption
  clear_value x2; refine ev_step ?_ (State.retire_ev _ _ _ _) rfl; assumption

theorem State.testEnd_ev (a0 : State) (a1 : TestRec) (a2 : Nat) :
    State.evolves a0 (State.testEnd a0 a1 a2) [.regs, .pmc, .evt, .host, .fch, .map, .wp, .rd, .ntn, .warp, .link, .upk, .flt, .out] := by
  unfold State.testEnd; extract_lets +onlyGivenNames x1; clear_value x1
  extract_lets +onlyGivenNames x2; clear_value x2; extract_lets +onlyGivenNames x3
  have h3 : State.evolves a0 x3 [.regs, .pmc, .evt, .host, .fch, .map, .wp, .rd, .ntn, .warp, .link, .upk, .flt, .out] := by
    subst x3; refine ev_flt ?_ rfl; exact ev_refl
  clear_value x3; extract_lets +onlyGivenNames x4
  have h4 : State.evolves a0 x4 [.regs, .pmc, .evt, .host, .fch, .map, .wp, .rd, .ntn, .warp, .link, .upk, .flt, .out] := by
    subst x4; refine ev_step ?_ (State.freeEngine_ev _ _) rfl; refine ev_step ?_ (State.setFld_ev _ _ _) rfl
    refine ev_step ?_ (State.setFld_ev _ _ _) rfl; assumption
  clear_value x4; refine ev_ite ?_ ?_
  · refine ev_step ?_ (State.testPassed_ev _ _) rfl; assumption
  · refine ev_step ?_ (State.testFailed_ev _ _ _) rfl; assumption

theorem execTestDone_ev (a0 : Nat) (a1 : Nat) (a2 : Nat) (a3 : State) :
    State.evX a3 (execTestDone a0 a1 a2 a3) [.regs, .pmc, .evt, .host, .fch, .map, .wp, .rd, .ntn, .warp, .link, .upk, .flt, .out] := by
  unfold execTestDone; refine evX_done ?_; refine ev_when ?_ rfl ?_
  · exact ev_refl
  · intro x1 x2
    split
    · rename_i y3 y4; assumption
    · rename_i y5 y6 y7; refine ev_step ?_ (State.unspill_ev _) rfl; refine ev_step ?_ (State.testEnd_ev _ _ _) rfl
      assumption

theorem execFltUndo_ev (a0 : Nat) (a1 : State) :
    State.evX a1 (execFltUndo a0 a1) [.regs, .pmc, .evt, .host, .flt, .out] := by
  unfold execFltUndo; refine evX_done ?_; unfold State.barWrite; extract_lets +onlyGivenNames x1
  have h1 : State.evolves a1 x1 [.regs, .pmc, .evt, .host, .flt, .out] := by
    subst x1; refine ev_step ?_ (State.begin_ev _) rfl; exact ev_refl
  clear_value x1; refine ev_ite ?_ ?_
  · refine ev_step ?_ (State.emit_ev _ _) rfl; assumption
  · refine ev_ite ?_ ?_
    · refine ev_step ?_ (State.accessErr_ev _ _ _ _ _ _) rfl; assumption
    · beta_reduce; extract_lets +onlyGivenNames x2; clear_value x2; refine ev_flt ?_ rfl; assumption

theorem execFltCntClr_ev (a0 : Nat) (a1 : State) :
    State.evX a1 (execFltCntClr a0 a1) [.regs, .pmc, .evt, .host, .flt, .out] := by
  unfold execFltCntClr; refine evX_done ?_; unfold State.barWrite; extract_lets +onlyGivenNames x1
  have h1 : State.evolves a1 x1 [.regs, .pmc, .evt, .host, .flt, .out] := by
    subst x1; refine ev_step ?_ (State.begin_ev _) rfl; exact ev_refl
  clear_value x1; refine ev_ite ?_ ?_
  · refine ev_step ?_ (State.emit_ev _ _) rfl; assumption
  · refine ev_ite ?_ ?_
    · refine ev_step ?_ (State.accessErr_ev _ _ _ _ _ _) rfl; assumption
    · beta_reduce; extract_lets +onlyGivenNames x2
      have h2 : State.evolves a1 x2 [.regs, .pmc, .evt, .host, .flt, .out] := by
        subst x2; refine ev_step ?_ (State.setReg_ev _ _ _) rfl; refine ev_step ?_ (State.setReg_ev _ _ _) rfl
        refine ev_step ?_ (State.setReg_ev _ _ _) rfl; assumption
      clear_value x2; extract_lets +onlyGivenNames x3; clear_value x3; refine ev_flt ?_ rfl; assumption

theorem execTestStart_ev (a0 : State) :
    State.evX a0 (execTestStart a0) [.regs, .pmc, .evt, .host, .map, .wp, .upk, .flt, .out] := by
  unfold execTestStart; refine evX_done ?_; refine ev_when ?_ rfl ?_
  · exact ev_refl
  · intro x1 x2
    split
    · rename_i y3 y4; assumption
    · rename_i y5 y6 y7; refine ev_step ?_ (State.unspill_ev _) rfl; refine ev_step ?_ (State.startTest_ev _ _) rfl
      assumption

theorem execAesKat_ev (a0 : Nat) (a1 : Nat) (a2 : Bool) (a3 : State) :
    State.evX a3 (execAesKat a0 a1 a2 a3) [.regs, .pmc, .flt, .out] := by
  unfold execAesKat; refine evX_done ?_; refine ev_when ?_ rfl ?_
  · exact ev_refl
  · intro x1 x2; refine ev_ite ?_ ?_
    · assumption
    · extract_lets +onlyGivenNames x3; clear_value x3; extract_lets +onlyGivenNames x4
      have h4 : State.evolves a3 x4 [.regs, .pmc, .flt, .out] := by
        subst x4; refine ev_flt ?_ rfl; assumption
      clear_value x4; refine ev_step ?_ (State.report_ev _ _ _ _) rfl; assumption

theorem execQuarantineRelease_ev (a0 : Nat) (a1 : Nat) (a2 : State) :
    State.evX a2 (execQuarantineRelease a0 a1 a2) [.regs, .pmc, .evt, .host, .flt, .out] := by
  unfold execQuarantineRelease; refine evX_done ?_; unfold State.barWrite; extract_lets +onlyGivenNames x1
  have h1 : State.evolves a2 x1 [.regs, .pmc, .evt, .host, .flt, .out] := by
    subst x1; refine ev_step ?_ (State.begin_ev _) rfl; exact ev_refl
  clear_value x1; refine ev_ite ?_ ?_
  · refine ev_step ?_ (State.emit_ev _ _) rfl; assumption
  · refine ev_ite ?_ ?_
    · refine ev_step ?_ (State.accessErr_ev _ _ _ _ _ _) rfl; assumption
    · beta_reduce; extract_lets +onlyGivenNames x2; clear_value x2; extract_lets +onlyGivenNames x3; clear_value x3
      refine ev_flt ?_ rfl; assumption

end Sys2Proof.Machine
end

