-- ==== Sys2Proof/Laws/EvHosts.lean ====
section
/-!
SUPPORT. What each operation of Machine/Hosts.lean may change: its parts of the state, and that the register stores stay
canonical.
-/
set_option Elab.async false
namespace Sys2Proof.Machine

theorem execHstPerstDeassert_ev (a0 : Nat) (a1 : State) :
    State.evX a1 (execHstPerstDeassert a0 a1) [.host, .out] := by
  unfold execHstPerstDeassert; refine evX_done ?_; refine ev_when ?_ rfl ?_
  · exact ev_refl
  · intro x1 x2; extract_lets +onlyGivenNames x3; clear_value x3; extract_lets +onlyGivenNames x4
    have h4 : State.evolves a1 x4 [.host, .out] := by
      subst x4; refine ev_step ?_ (State.setHead_ev _ _ _) rfl; assumption
    clear_value x4; refine ev_ite ?_ ?_
    · refine ev_step ?_ (State.setHead_ev _ _ _) rfl; assumption
    · assumption

theorem execHeadCntClr_ev (a0 : Nat) (a1 : Nat) (a2 : State) :
    State.evX a2 (execHeadCntClr a0 a1 a2) [.regs, .pmc, .evt, .host, .out] := by
  unfold execHeadCntClr; refine evX_done ?_; unfold State.hstCtl; unfold State.barWrite
  extract_lets +onlyGivenNames x1
  have h1 : State.evolves a2 x1 [.regs, .pmc, .evt, .host, .out] := by
    subst x1; refine ev_step ?_ (State.begin_ev _) rfl; exact ev_refl
  clear_value x1; refine ev_ite ?_ ?_
  · refine ev_step ?_ (State.emit_ev _ _) rfl; assumption
  · refine ev_ite ?_ ?_
    · refine ev_step ?_ (State.accessErr_ev _ _ _ _ _ _) rfl; assumption
    · beta_reduce; refine ev_ite ?_ ?_
      · refine ev_step ?_ (State.setReg_ev _ _ _) rfl; refine ev_step ?_ (State.setReg_ev _ _ _) rfl; assumption
      · assumption

theorem State.dropHead_ev (a0 : State) (a1 : Nat) :
    State.evolves a0 (State.dropHead a0 a1) [.fch, .xq, .wp, .epo] := by
  unfold State.dropHead; extract_lets +onlyGivenNames x1; clear_value x1; extract_lets +onlyGivenNames x2; subst x2
  extract_lets +onlyGivenNames x3; subst x3
  refine ev_updW ?_ id id id WriteState.wf_upd id EpoState.wf_upd id id id id (by intro p; cases p <;> first | exact .inl (by decide) | exact .inr rfl | exact .inr ⟨rfl, rfl⟩)
  exact ev_refl

theorem execHeadCorrectableError_ev (a0 : Nat) (a1 : State) :
    State.evX a1 (execHeadCorrectableError a0 a1) [.regs, .pmc, .evt, .host, .out] := by
  unfold execHeadCorrectableError; refine evX_done ?_; refine ev_when ?_ rfl ?_
  · exact ev_refl
  · intro x1 x2; extract_lets +onlyGivenNames x3
    have h3 : State.evolves a1 x3 [.regs, .pmc, .evt, .host, .out] := by
      subst x3; refine ev_step ?_ (State.bump_ev _ _ _) rfl; assumption
    clear_value x3; extract_lets +onlyGivenNames x4; clear_value x4; extract_lets +onlyGivenNames x5; clear_value x5
    extract_lets +onlyGivenNames x6; clear_value x6; extract_lets +onlyGivenNames x7; clear_value x7
    refine ev_step ?_ (State.raiseIf_ev _ _ _) rfl; refine ev_step ?_ (State.setHead_ev _ _ _) rfl; assumption

theorem State.linkDownEvent_ev (a0 : State) (a1 : Nat) :
    State.evolves a0 (State.linkDownEvent a0 a1) [.regs, .pmc, .evt, .host] := by
  unfold State.linkDownEvent; refine ev_step ?_ (State.raise_ev _ _) rfl; refine ev_step ?_ (State.bump_ev _ _ _) rfl
  exact ev_refl

theorem State.loseLink_ev (a0 : State) (a1 : Nat) (a2 : LinkState) :
    State.evolves a0 (State.loseLink a0 a1 a2) [.regs, .pmc, .evt, .host, .fch, .xq, .wp, .epo] := by
  unfold State.loseLink; extract_lets +onlyGivenNames x1; clear_value x1
  extract_lets +onlyGivenNames x2; clear_value x2; extract_lets +onlyGivenNames x3
  have h3 : State.evolves a0 x3 [.regs, .pmc, .evt, .host, .fch, .xq, .wp, .epo] := by
    subst x3; refine ev_step ?_ (State.setHead_ev _ _ _) rfl; exact ev_refl
  clear_value x3; refine ev_ite ?_ ?_
  · refine ev_step ?_ (State.linkDownEvent_ev _ _) rfl; refine ev_step ?_ (State.dropHead_ev _ _) rfl; assumption
  · assumption

theorem execIdeIntegrityFail_ev (a0 : Nat) (a1 : State) :
    State.evX a1 (execIdeIntegrityFail a0 a1) [.regs, .pmc, .evt, .host, .fch, .xq, .wp, .epo, .out] := by
  unfold execIdeIntegrityFail; extract_lets +onlyGivenNames x1; clear_value x1; refine evX_done ?_
  refine ev_when ?_ rfl ?_
  · exact ev_refl
  · intro x2 x3; extract_lets +onlyGivenNames x4; clear_value x4; extract_lets +onlyGivenNames x5
    have h5 : State.evolves a1 x5 [.regs, .pmc, .evt, .host, .fch, .xq, .wp, .epo, .out] := by
      subst x5; refine ev_step ?_ (State.setHead_ev _ _ _) rfl; assumption
    clear_value x5; extract_lets +onlyGivenNames x6
    have h6 : State.evolves a1 x6 [.regs, .pmc, .evt, .host, .fch, .xq, .wp, .epo, .out] := by
      subst x6; refine ev_step ?_ (State.raise_ev _ _) rfl; refine ev_step ?_ (State.bump_ev _ _ _) rfl; assumption
    clear_value x6; refine ev_step ?_ (State.loseLink_ev _ _ _) rfl; assumption

theorem State.resetHead_ev (a0 : State) (a1 : Nat) :
    State.evolves a0 (State.resetHead a0 a1) [.regs, .pmc, .evt, .host, .fch, .xq, .wp, .epo] := by
  unfold State.resetHead; extract_lets +onlyGivenNames x1
  have h1 : State.evolves a0 x1 [.regs, .pmc, .evt, .host, .fch, .xq, .wp, .epo] := by
    subst x1; refine ev_step ?_ (State.loseLink_ev _ _ _) rfl; exact ev_refl
  clear_value x1; refine ev_step ?_ (State.setHead_ev _ _ _) rfl; assumption

theorem execHeadHotReset_ev (a0 : Nat) (a1 : State) :
    State.evX a1 (execHeadHotReset a0 a1) [.regs, .pmc, .evt, .host, .fch, .xq, .wp, .epo, .out] := by
  unfold execHeadHotReset; refine evX_done ?_; refine ev_when ?_ rfl ?_
  · exact ev_refl
  · intro x1 x2; refine ev_step ?_ (State.resetHead_ev _ _) rfl; assumption

theorem execHeadConventionalReset_ev (a0 : Nat) (a1 : State) :
    State.evX a1 (execHeadConventionalReset a0 a1) [.regs, .pmc, .evt, .host, .fch, .xq, .wp, .epo, .out] := by
  unfold execHeadConventionalReset; refine evX_done ?_; refine ev_when ?_ rfl ?_
  · exact ev_refl
  · intro x1 x2; refine ev_step ?_ (State.resetHead_ev _ _) rfl; assumption

theorem execHeadTrainingFailed_ev (a0 : Nat) (a1 : State) :
    State.evX a1 (execHeadTrainingFailed a0 a1) [.regs, .pmc, .evt, .host, .out] := by
  unfold execHeadTrainingFailed; refine evX_done ?_; refine ev_when ?_ rfl ?_
  · exact ev_refl
  · intro x1 x2; extract_lets +onlyGivenNames x3; clear_value x3; extract_lets +onlyGivenNames x4; clear_value x4
    extract_lets +onlyGivenNames x5
    have h5 : State.evolves a1 x5 [.regs, .pmc, .evt, .host, .out] := by
      subst x5; refine ev_step ?_ (State.setHead_ev _ _ _) rfl; assumption
    clear_value x5; refine ev_ite ?_ ?_
    · refine ev_step ?_ (State.linkDownEvent_ev _ _) rfl; assumption
    · assumption

theorem execD0Return_ev (a0 : Nat) (a1 : State) : State.evX a1 (execD0Return a0 a1) [.host, .out] := by
  unfold execD0Return; refine evX_done ?_; refine ev_when ?_ rfl ?_
  · exact ev_refl
  · intro x1 x2; refine ev_step ?_ (State.setHead_ev _ _ _) rfl; assumption

theorem execHstPerstAssert_ev (a0 : Nat) (a1 : State) :
    State.evX a1 (execHstPerstAssert a0 a1) [.regs, .pmc, .evt, .host, .fch, .xq, .wp, .epo, .out] := by
  unfold execHstPerstAssert; refine evX_done ?_; refine ev_when ?_ rfl ?_
  · exact ev_refl
  · intro x1 x2; refine ev_step ?_ (State.resetHead_ev _ _) rfl; refine ev_step ?_ (State.setHead_ev _ _ _) rfl
    assumption

theorem execHeadDisable_ev (a0 : Nat) (a1 : Nat) (a2 : Bool) (a3 : State) :
    State.evX a3 (execHeadDisable a0 a1 a2 a3) [.regs, .pmc, .evt, .host, .fch, .xq, .wp, .epo, .out] := by
  unfold execHeadDisable; refine evX_done ?_; unfold State.hstCtl; unfold State.barWrite
  extract_lets +onlyGivenNames x1
  have h1 : State.evolves a3 x1 [.regs, .pmc, .evt, .host, .fch, .xq, .wp, .epo, .out] := by
    subst x1; refine ev_step ?_ (State.begin_ev _) rfl; exact ev_refl
  clear_value x1; refine ev_ite ?_ ?_
  · refine ev_step ?_ (State.emit_ev _ _) rfl; assumption
  · refine ev_ite ?_ ?_
    · refine ev_step ?_ (State.accessErr_ev _ _ _ _ _ _) rfl; assumption
    · beta_reduce; refine ev_ite ?_ ?_
      · extract_lets +onlyGivenNames x2; clear_value x2; extract_lets +onlyGivenNames x3
        have h3 : State.evolves a3 x3 [.regs, .pmc, .evt, .host, .fch, .xq, .wp, .epo, .out] := by
          subst x3; refine ev_step ?_ (State.setFld_ev _ _ _) rfl; assumption
        clear_value x3; refine ev_ite ?_ ?_
        · refine ev_step ?_ (State.loseLink_ev _ _ _) rfl; assumption
        · refine ev_ite ?_ ?_
          · refine ev_step ?_ (State.setHead_ev _ _ _) rfl; assumption
          · assumption
      · assumption

theorem execHeadLinkRecovery_ev (a0 : Nat) (a1 : State) :
    State.evX a1 (execHeadLinkRecovery a0 a1) [.regs, .pmc, .host, .out] := by
  unfold execHeadLinkRecovery; refine evX_done ?_; refine ev_when ?_ rfl ?_
  · exact ev_refl
  · intro x1 x2; refine ev_ite ?_ ?_
    · refine ev_step ?_ (State.bump_ev _ _ _) rfl; refine ev_step ?_ (State.setHead_ev _ _ _) rfl; assumption
    · refine ev_step ?_ (State.setHead_ev _ _ _) rfl; assumption

theorem execIdeKeyProgram_ev (a0 : Nat) (a1 : Nat) (a2 : IdeStream) (a3 : Nat) (a4 : State) :
    State.evX a4 (execIdeKeyProgram a0 a1 a2 a3 a4) [.host, .out] := by
  unfold execIdeKeyProgram; refine evX_done ?_; refine ev_when ?_ rfl ?_
  · exact ev_refl
  · intro x1 x2; refine ev_ite ?_ ?_
    · refine ev_step ?_ (State.setHead_ev _ _ _) rfl; assumption
    · refine ev_step ?_ (State.emit_ev _ _) rfl; assumption

theorem execRoMgmtWrite_ev (a0 : Nat) (a1 : Nat) (a2 : Bool) (a3 : State) :
    State.evX a3 (execRoMgmtWrite a0 a1 a2 a3) [.regs, .pmc, .evt, .host, .out] := by
  unfold execRoMgmtWrite; refine evX_done ?_; unfold State.hstCtl; unfold State.barWrite
  extract_lets +onlyGivenNames x1
  have h1 : State.evolves a3 x1 [.regs, .pmc, .evt, .host, .out] := by
    subst x1; refine ev_step ?_ (State.begin_ev _) rfl; exact ev_refl
  clear_value x1; refine ev_ite ?_ ?_
  · refine ev_step ?_ (State.emit_ev _ _) rfl; assumption
  · refine ev_ite ?_ ?_
    · refine ev_step ?_ (State.accessErr_ev _ _ _ _ _ _) rfl; assumption
    · beta_reduce; refine ev_ite ?_ ?_
      · refine ev_ite ?_ ?_
        · assumption
        · refine ev_step ?_ (State.setFld_ev _ _ _) rfl; assumption
      · assumption

theorem execD3hotEntry_ev (a0 : Nat) (a1 : State) : State.evX a1 (execD3hotEntry a0 a1) [.host, .out] := by
  unfold execD3hotEntry; refine evX_done ?_; refine ev_when ?_ rfl ?_
  · exact ev_refl
  · intro x1 x2; refine ev_step ?_ (State.setHead_ev _ _ _) rfl; assumption

theorem execHeadLinkTrained_ev (a0 : Nat) (a1 : Nat) (a2 : Nat) (a3 : Bool) (a4 : BitVec 16) (a5 : State) :
    State.evX a5 (execHeadLinkTrained a0 a1 a2 a3 a4 a5) [.regs, .pmc, .evt, .host, .out] := by
  unfold execHeadLinkTrained; refine evX_done ?_; refine ev_when ?_ rfl ?_
  · exact ev_refl
  · intro x1 x2; extract_lets +onlyGivenNames x3; clear_value x3; extract_lets +onlyGivenNames x4; clear_value x4
    extract_lets +onlyGivenNames x5; clear_value x5; extract_lets +onlyGivenNames x6
    have h6 : State.evolves a5 x6 [.regs, .pmc, .evt, .host, .out] := by
      subst x6; refine ev_step ?_ (State.setHead_ev _ _ _) rfl; assumption
    clear_value x6; refine ev_step ?_ (State.raiseIf_ev _ _ _) rfl; assumption

theorem execHdmDecoderCommit_ev (a0 : Nat) (a1 : Nat) (a2 : BitVec 64) (a3 : BitVec 64) (a4 : Nat) (a5 : Nat) (a6 : BitVec 64) (a7 : BitVec 64) (a8 : Bool) (a9 : State) :
    State.evX a9 (execHdmDecoderCommit a0 a1 a2 a3 a4 a5 a6 a7 a8 a9) [.host, .out] := by
  unfold execHdmDecoderCommit; extract_lets +onlyGivenNames x1
  have h1 : State.evolves a9 x1 [.host, .out] := by
    subst x1; refine ev_step ?_ (State.begin_ev _) rfl; exact ev_refl
  clear_value x1; refine evX_ite ?_ ?_
  · refine evX_done ?_; refine ev_step ?_ (State.emit_ev _ _) rfl; assumption
  · extract_lets +onlyGivenNames x2; clear_value x2; extract_lets +onlyGivenNames x3; clear_value x3
    extract_lets +onlyGivenNames x4; clear_value x4; extract_lets +onlyGivenNames x5; clear_value x5
    refine evX_ite ?_ ?_
    · refine evX_done ?_; assumption
    · refine evX_done ?_; refine ev_step ?_ (State.setHead_ev _ _ _) rfl; assumption

theorem execHeadRetrain_ev (a0 : Nat) (a1 : Nat) (a2 : State) :
    State.evX a2 (execHeadRetrain a0 a1 a2) [.regs, .pmc, .evt, .host, .out] := by
  unfold execHeadRetrain; refine evX_done ?_; unfold State.hstCtl; unfold State.barWrite
  extract_lets +onlyGivenNames x1
  have h1 : State.evolves a2 x1 [.regs, .pmc, .evt, .host, .out] := by
    subst x1; refine ev_step ?_ (State.begin_ev _) rfl; exact ev_refl
  clear_value x1; refine ev_ite ?_ ?_
  · refine ev_step ?_ (State.emit_ev _ _) rfl; assumption
  · refine ev_ite ?_ ?_
    · refine ev_step ?_ (State.accessErr_ev _ _ _ _ _ _) rfl; assumption
    · beta_reduce; refine ev_ite ?_ ?_
      · refine ev_ite ?_ ?_
        · refine ev_step ?_ (State.bump_ev _ _ _) rfl; refine ev_step ?_ (State.setHead_ev _ _ _) rfl; assumption
        · assumption
      · assumption

theorem execHeadLinkDown_ev (a0 : Nat) (a1 : State) :
    State.evX a1 (execHeadLinkDown a0 a1) [.regs, .pmc, .evt, .host, .fch, .xq, .wp, .epo, .out] := by
  unfold execHeadLinkDown; refine evX_done ?_; refine ev_when ?_ rfl ?_
  · exact ev_refl
  · intro x1 x2; refine ev_step ?_ (State.loseLink_ev _ _ _) rfl; assumption

theorem execHeadFlr_ev (a0 : Nat) (a1 : State) : State.evX a1 (execHeadFlr a0 a1) [.host, .out] := by
  unfold execHeadFlr; refine evX_done ?_; refine ev_when ?_ rfl ?_
  · exact ev_refl
  · intro x1 x2; refine ev_step ?_ (State.setHead_ev _ _ _) rfl; assumption

end Sys2Proof.Machine
end

