-- ==== Sys2Proof/Laws/EvMailbox.lean ====
section
/-!
SUPPORT. What each operation of Machine/Mailbox.lean may change: its parts of the state, and that the register stores stay
canonical.
-/
set_option Elab.async false
namespace Sys2Proof.Machine

theorem State.voidStaging_ev (a0 : State) :
    State.evolves a0 (State.voidStaging a0) [.regs, .pmc, .evt, .host, .wp, .cry, .epo, .ntn, .warp] := by
  unfold State.voidStaging; extract_lets +onlyGivenNames x1; subst x1; refine ev_foldl ?_ ?_
  · extract_lets +onlyGivenNames x2; subst x2; refine ev_wp ?_ rfl WriteState.wf_upd; exact ev_refl
  · intro x3 x4 x5; refine ev_step ?_ (State.settleGroup_ev _ _) rfl
    refine ev_step ?_ (State.setStripes_ev _ _ _) rfl; assumption

theorem State.eraseMap_ev (a0 : State) :
    State.evolves a0 (State.eraseMap a0) [.regs, .pmc, .evt, .host, .map, .wp, .rd, .cry, .epo, .ntn, .warp, .upk, .out, .freeCtr] := by
  unfold State.eraseMap; extract_lets +onlyGivenNames x1
  have h1 : State.evolves a0 x1 [.regs, .pmc, .evt, .host, .map, .wp, .rd, .cry, .epo, .ntn, .warp, .upk, .out, .freeCtr] := by
    subst x1; refine ev_step ?_ (State.blankMap_ev _) rfl; refine ev_step ?_ (State.voidStaging_ev _) rfl
    exact ev_refl
  clear_value x1; extract_lets +onlyGivenNames x2; clear_value x2; extract_lets +onlyGivenNames x3
  have h3 : State.evolves a0 x3 [.regs, .pmc, .evt, .host, .map, .wp, .rd, .cry, .epo, .ntn, .warp, .upk, .out, .freeCtr] := by
    subst x3; refine ev_rd ?_ rfl; assumption
  clear_value x3; extract_lets +onlyGivenNames x4; clear_value x4; extract_lets +onlyGivenNames x5
  have h5 : State.evolves a0 x5 [.regs, .pmc, .evt, .host, .map, .wp, .rd, .cry, .epo, .ntn, .warp, .upk, .out, .freeCtr] := by
    subst x5; refine ev_fst1 ?_; refine evP_step ?_ (State.drawFormat_ev _) rfl; assumption
  clear_value x5; extract_lets +onlyGivenNames x6; clear_value x6; extract_lets +onlyGivenNames x7; subst x7
  extract_lets +onlyGivenNames x8
  have h8 : State.evolves a0 x8 [.regs, .pmc, .evt, .host, .map, .wp, .rd, .cry, .epo, .ntn, .warp, .upk, .out, .freeCtr] := by
    subst x8; refine ev_map ?_ rfl MapState.wf_upd; assumption
  clear_value x8; refine ev_step ?_ (State.finishCkpt_ev _ _ _) rfl; refine ev_step ?_ (State.defaultExtents_ev _) rfl
  assumption

theorem State.endErase_ev (a0 : State) :
    State.evolves a0 (State.endErase a0) [.regs, .pmc, .pop, .evt, .host, .map, .wp, .rd, .cry, .epo, .ntn, .warp, .upk, .out, .freeCtr] := by
  unfold State.endErase; extract_lets +onlyGivenNames x1
  have h1 : State.evolves a0 x1 [.regs, .pmc, .pop, .evt, .host, .map, .wp, .rd, .cry, .epo, .ntn, .warp, .upk, .out, .freeCtr] := by
    subst x1
    refine ev_updW ?_ id id id id id id id id id id (by intro p; cases p <;> first | exact .inl (by decide) | exact .inr rfl | exact .inr ⟨rfl, rfl⟩)
    exact ev_refl
  clear_value x1; extract_lets +onlyGivenNames x2
  have h2 : State.evolves a0 x2 [.regs, .pmc, .pop, .evt, .host, .map, .wp, .rd, .cry, .epo, .ntn, .warp, .upk, .out, .freeCtr] := by
    subst x2; refine ev_ite ?_ ?_
    · refine ev_ite ?_ ?_
      · refine ev_step ?_ (State.raise_ev _ _) rfl; refine ev_step ?_ (State.mapActive_ev _) rfl
        refine ev_step ?_ (State.format_ev _) rfl; refine ev_step ?_ (State.voidStaging_ev _) rfl; assumption
      · refine ev_step ?_ (State.raise_ev _ _) rfl; exact ev_refl
    · refine ev_step ?_ (State.eraseMap_ev _) rfl; exact ev_refl
  clear_value x2; extract_lets +onlyGivenNames x3; subst x3; refine ev_host ?_ rfl HostState.wf_upd; assumption

theorem execSanitizeDone_ev (a0 : State) :
    State.evX a0 (execSanitizeDone a0) [.regs, .pmc, .pop, .evt, .host, .map, .wp, .rd, .cry, .epo, .ntn, .warp, .upk, .out, .freeCtr] := by
  unfold execSanitizeDone; refine evX_done ?_; refine ev_when ?_ rfl ?_
  · exact ev_refl
  · intro x1 x2; refine ev_step ?_ (State.endErase_ev _) rfl; assumption

theorem State.cdatUp_ev (a0 : State) : State.evolves a0 (State.cdatUp a0) [.host] := by
  unfold State.cdatUp; refine ev_foldl ?_ ?_
  · exact ev_refl
  · intro x1 x2 x3; refine ev_step ?_ (State.setHead_ev _ _ _) rfl; assumption

theorem State.shrink_ev (a0 : State) (a1 : Nat) (a2 : Nat) (a3 : Nat) :
    State.evolves a0 (State.shrink a0 a1 a2 a3) [.regs, .pmc, .evt, .host, .fch, .map, .wp, .rd, .cry, .epo, .ntn, .warp, .out] := by
  unfold State.shrink; extract_lets +onlyGivenNames x1; clear_value x1
  extract_lets +onlyGivenNames x2; clear_value x2; extract_lets +onlyGivenNames x3; clear_value x3
  extract_lets +onlyGivenNames x4
  have h4 : State.evolves a0 x4 [.regs, .pmc, .evt, .host, .fch, .map, .wp, .rd, .cry, .epo, .ntn, .warp, .out] := by
    subst x4; refine ev_step ?_ (State.unpoisonRange_ev _ _ _ _) rfl; exact ev_refl
  clear_value x4; extract_lets +onlyGivenNames x5
  have h5 : State.evolves a0 x5 [.regs, .pmc, .evt, .host, .fch, .map, .wp, .rd, .cry, .epo, .ntn, .warp, .out] := by
    subst x5; unfold State.dropWhere; extract_lets +onlyGivenNames x6
    have h6 : State.evolves a0 x6 [.regs, .pmc, .evt, .host, .fch, .map, .wp, .rd, .cry, .epo, .ntn, .warp, .out] := by
      subst x6; unfold State.endWhere; extract_lets +onlyGivenNames x7; subst x7
      extract_lets +onlyGivenNames x8; clear_value x8; extract_lets +onlyGivenNames x9; clear_value x9
      extract_lets +onlyGivenNames x10; clear_value x10; extract_lets +onlyGivenNames x11; subst x11
      extract_lets +onlyGivenNames x12; subst x12; extract_lets +onlyGivenNames x13
      have h13 : State.evolves a0 x13 [.regs, .pmc, .evt, .host, .fch, .map, .wp, .rd, .cry, .epo, .ntn, .warp, .out] := by
        subst x13
        refine ev_updW ?_ id id id WriteState.wf_upd id EpoState.wf_upd id id id id (by intro p; cases p <;> first | exact .inl (by decide) | exact .inr rfl | exact .inr ⟨rfl, rfl⟩)
        assumption
      clear_value x13; refine ev_foldl ?_ ?_
      · refine ev_foldl ?_ ?_
        · assumption
        · intro x14 x15 x16; refine ev_step ?_ (State.failReq_ev _ _) rfl; assumption
      · intro x17 x18 x19; refine ev_step ?_ (State.cmp_ev _ _ _) rfl; assumption
    clear_value x6; extract_lets +onlyGivenNames x20; clear_value x20; extract_lets +onlyGivenNames x21
    have h21 : State.evolves a0 x21 [.regs, .pmc, .evt, .host, .fch, .map, .wp, .rd, .cry, .epo, .ntn, .warp, .out] := by
      subst x21; refine ev_foldl ?_ ?_
      · assumption
      · intro x22 x23 x24; refine ev_step ?_ (State.dropSide_ev _ _) rfl
        refine ev_step ?_ (State.dropLine_ev _ _) rfl; assumption
    clear_value x21; extract_lets +onlyGivenNames x25; subst x25; extract_lets +onlyGivenNames x26; clear_value x26
    extract_lets +onlyGivenNames x27; clear_value x27; extract_lets +onlyGivenNames x28; clear_value x28
    extract_lets +onlyGivenNames x29; clear_value x29; extract_lets +onlyGivenNames x30; subst x30
    extract_lets +onlyGivenNames x31; clear_value x31; extract_lets +onlyGivenNames x32
    have h32 : State.evolves a0 x32 [.regs, .pmc, .evt, .host, .fch, .map, .wp, .rd, .cry, .epo, .ntn, .warp, .out] := by
      subst x32
      refine ev_updW ?_ id id id WriteState.wf_upd id id id id id id (by intro p; cases p <;> first | exact .inl (by decide) | exact .inr rfl | exact .inr ⟨rfl, rfl⟩)
      assumption
    clear_value x32; extract_lets +onlyGivenNames x33; subst x33; refine ev_foldl ?_ ?_
    · assumption
    · intro x34 x35 x36; extract_lets +onlyGivenNames x37; clear_value x37
      refine ev_step ?_ (State.settleGroup_ev _ _) rfl; refine ev_step ?_ (State.setStripes_ev _ _ _) rfl; assumption
  clear_value x5; extract_lets +onlyGivenNames x38; clear_value x38; extract_lets +onlyGivenNames x39
  have h39 : State.evolves a0 x39 [.regs, .pmc, .evt, .host, .fch, .map, .wp, .rd, .cry, .epo, .ntn, .warp, .out] := by
    subst x39; refine ev_step ?_ (State.cdatUp_ev _) rfl; refine ev_step ?_ (State.setDom_ev _ _ _) rfl; assumption
  clear_value x39; extract_lets +onlyGivenNames x40; subst x40; extract_lets +onlyGivenNames x41; subst x41
  refine ev_updW ?_ id HostState.wf_upd MapState.wf_upd id id id id id id id (by intro p; cases p <;> first | exact .inl (by decide) | exact .inr rfl | exact .inr ⟨rfl, rfl⟩)
  assumption

theorem execSetDomainExtent_ev (a0 : Nat) (a1 : Nat) (a2 : Nat) (a3 : Nat) (a4 : State) :
    State.evX a4 (execSetDomainExtent a0 a1 a2 a3 a4) [.regs, .pmc, .evt, .host, .fch, .map, .wp, .rd, .cry, .epo, .ntn, .warp, .out] := by
  unfold execSetDomainExtent; refine evX_done ?_; unfold State.mailboxRw; unfold State.mailbox
  extract_lets +onlyGivenNames x1
  have h1 : State.evolves a4 x1 [.regs, .pmc, .evt, .host, .fch, .map, .wp, .rd, .cry, .epo, .ntn, .warp, .out] := by
    subst x1; refine ev_step ?_ (State.begin_ev _) rfl; exact ev_refl
  clear_value x1; refine ev_ite ?_ ?_
  · refine ev_step ?_ (State.emit_ev _ _) rfl; assumption
  · refine ev_ite ?_ ?_
    · refine ev_step ?_ (State.emit_ev _ _) rfl; assumption
    · beta_reduce; refine ev_ite ?_ ?_
      · refine ev_step ?_ (State.answerMbox_ev _ _ _ _) rfl; assumption
      · extract_lets +onlyGivenNames x2; clear_value x2; refine ev_ite ?_ ?_
        · refine ev_step ?_ (State.answerMbox_ev _ _ _ _) rfl; assumption
        · refine ev_ite ?_ ?_
          · refine ev_step ?_ (State.answerMbox_ev _ _ _ _) rfl; assumption
          · refine ev_ite ?_ ?_
            · refine ev_ite ?_ ?_
              · refine ev_step ?_ (State.answerMbox_ev _ _ _ _) rfl; assumption
              · refine ev_step ?_ (State.answerMbox_ev _ _ _ _) rfl; refine ev_step ?_ (State.shrink_ev _ _ _ _) rfl
                assumption
            · refine ev_ite ?_ ?_
              · refine ev_step ?_ (State.answerMbox_ev _ _ _ _) rfl; assumption
              · refine ev_step ?_ (State.answerMbox_ev _ _ _ _) rfl; refine ev_step ?_ (State.cdatUp_ev _) rfl
                refine ev_step ?_ (State.setDom_ev _ _ _) rfl; assumption

theorem execSetShutdownState_ev (a0 : Nat) (a1 : Nat) (a2 : State) :
    State.evX a2 (execSetShutdownState a0 a1 a2) [.host, .out] := by
  unfold execSetShutdownState; refine evX_done ?_; unfold State.mailboxRw; unfold State.mailbox
  extract_lets +onlyGivenNames x1
  have h1 : State.evolves a2 x1 [.host, .out] := by
    subst x1; refine ev_step ?_ (State.begin_ev _) rfl; exact ev_refl
  clear_value x1; refine ev_ite ?_ ?_
  · refine ev_step ?_ (State.emit_ev _ _) rfl; assumption
  · refine ev_ite ?_ ?_
    · refine ev_step ?_ (State.emit_ev _ _) rfl; assumption
    · beta_reduce; refine ev_ite ?_ ?_
      · refine ev_step ?_ (State.answerMbox_ev _ _ _ _) rfl; assumption
      · refine ev_step ?_ (State.answerMbox_ev _ _ _ _) rfl; extract_lets +onlyGivenNames x2; subst x2
        refine ev_host ?_ rfl HostState.wf_upd; assumption

theorem execUnsupportedOpcode_ev (a0 : Nat) (a1 : Nat) (a2 : State) :
    State.evX a2 (execUnsupportedOpcode a0 a1 a2) [.out] := by
  unfold execUnsupportedOpcode; refine evX_done ?_; unfold State.mailbox; extract_lets +onlyGivenNames x1
  have h1 : State.evolves a2 x1 [.out] := by
    subst x1; refine ev_step ?_ (State.begin_ev _) rfl; exact ev_refl
  clear_value x1; refine ev_ite ?_ ?_
  · refine ev_step ?_ (State.emit_ev _ _) rfl; assumption
  · refine ev_ite ?_ ?_
    · refine ev_step ?_ (State.emit_ev _ _) rfl; assumption
    · beta_reduce; refine ev_step ?_ (State.answerMbox_ev _ _ _ _) rfl; assumption

theorem execClearLog_ev (a0 : Nat) (a1 : LogId) (a2 : State) : State.evX a2 (execClearLog a0 a1 a2) [.out] := by
  unfold execClearLog; refine evX_done ?_; unfold State.mailbox; extract_lets +onlyGivenNames x1
  have h1 : State.evolves a2 x1 [.out] := by
    subst x1; refine ev_step ?_ (State.begin_ev _) rfl; exact ev_refl
  clear_value x1; refine ev_ite ?_ ?_
  · refine ev_step ?_ (State.emit_ev _ _) rfl; assumption
  · refine ev_ite ?_ ?_
    · refine ev_step ?_ (State.emit_ev _ _) rfl; assumption
    · beta_reduce; refine ev_step ?_ (State.answerMbox_ev _ _ _ _) rfl; assumption

theorem execBackgroundOperationStatus_ev (a0 : Nat) (a1 : State) :
    State.evX a1 (execBackgroundOperationStatus a0 a1) [.out, .freeCtr] := by
  unfold execBackgroundOperationStatus; refine evX_done ?_; unfold State.mailbox; extract_lets +onlyGivenNames x1
  have h1 : State.evolves a1 x1 [.out, .freeCtr] := by
    subst x1; refine ev_step ?_ (State.begin_ev _) rfl; exact ev_refl
  clear_value x1; refine ev_ite ?_ ?_
  · refine ev_step ?_ (State.emit_ev _ _) rfl; assumption
  · refine ev_ite ?_ ?_
    · refine ev_step ?_ (State.emit_ev _ _) rfl; assumption
    · beta_reduce
      split
      · rename_i y2 y3 y4 y5; extract_lets +onlyGivenNames x6
        have h6 : State.evP a1 x6 [.out, .freeCtr] := by
          subst x6; refine evP_step ?_ (State.draw_ev _) rfl; assumption
        clear_value x6; refine ev_step ?_ (State.answerMbox_ev _ _ _ _) rfl; exact ev_fst1 (by assumption)
      · rename_i y7 y8
        split
        · rename_i y9 y10 y11 y12 y13; refine ev_step ?_ (State.answerMbox_ev _ _ _ _) rfl; assumption
        · rename_i y14 y15; refine ev_step ?_ (State.answerMbox_ev _ _ _ _) rfl; assumption

theorem execGetScanMediaResults_ev (a0 : Nat) (a1 : State) : State.evX a1 (execGetScanMediaResults a0 a1) [.out] := by
  unfold execGetScanMediaResults; refine evX_done ?_; unfold State.mailbox; extract_lets +onlyGivenNames x1
  have h1 : State.evolves a1 x1 [.out] := by
    subst x1; refine ev_step ?_ (State.begin_ev _) rfl; exact ev_refl
  clear_value x1; refine ev_ite ?_ ?_
  · refine ev_step ?_ (State.emit_ev _ _) rfl; assumption
  · refine ev_ite ?_ ?_
    · refine ev_step ?_ (State.emit_ev _ _) rfl; assumption
    · beta_reduce; refine ev_step ?_ (State.answerMbox_ev _ _ _ _) rfl; assumption

theorem execIdentify_ev (a0 : Nat) (a1 : State) : State.evX a1 (execIdentify a0 a1) [.out] := by
  unfold execIdentify; refine evX_done ?_; unfold State.mailbox; extract_lets +onlyGivenNames x1
  have h1 : State.evolves a1 x1 [.out] := by
    subst x1; refine ev_step ?_ (State.begin_ev _) rfl; exact ev_refl
  clear_value x1; refine ev_ite ?_ ?_
  · refine ev_step ?_ (State.emit_ev _ _) rfl; assumption
  · refine ev_ite ?_ ?_
    · refine ev_step ?_ (State.emit_ev _ _) rfl; assumption
    · beta_reduce; refine ev_step ?_ (State.answerMbox_ev _ _ _ _) rfl; assumption

theorem execGetSldQosControl_ev (a0 : Nat) (a1 : State) : State.evX a1 (execGetSldQosControl a0 a1) [.out] := by
  unfold execGetSldQosControl; refine evX_done ?_; unfold State.mailbox; extract_lets +onlyGivenNames x1
  have h1 : State.evolves a1 x1 [.out] := by
    subst x1; refine ev_step ?_ (State.begin_ev _) rfl; exact ev_refl
  clear_value x1; refine ev_ite ?_ ?_
  · refine ev_step ?_ (State.emit_ev _ _) rfl; assumption
  · refine ev_ite ?_ ?_
    · refine ev_step ?_ (State.emit_ev _ _) rfl; assumption
    · beta_reduce; refine ev_step ?_ (State.answerMbox_ev _ _ _ _) rfl; assumption

theorem State.scanLine_ev (a0 : State) (a1 : Nat) :
    State.evolves a0 (State.scanLine a0 a1) [.regs, .pmc, .evt, .host, .map, .rd, .warp] := by
  unfold State.scanLine; extract_lets +onlyGivenNames x1; clear_value x1; refine ev_ite ?_ ?_
  · exact ev_refl
  · refine ev_step ?_ (State.startMedia_ev _ _ _ _) rfl; exact ev_refl

theorem execScanMedia_ev (a0 : Nat) (a1 : Nat) (a2 : Nat) (a3 : State) :
    State.evX a3 (execScanMedia a0 a1 a2 a3) [.regs, .pmc, .evt, .host, .map, .rd, .warp, .out] := by
  unfold execScanMedia; refine evX_done ?_; unfold State.mailboxRw; unfold State.mailbox
  extract_lets +onlyGivenNames x1
  have h1 : State.evolves a3 x1 [.regs, .pmc, .evt, .host, .map, .rd, .warp, .out] := by
    subst x1; refine ev_step ?_ (State.begin_ev _) rfl; exact ev_refl
  clear_value x1; refine ev_ite ?_ ?_
  · refine ev_step ?_ (State.emit_ev _ _) rfl; assumption
  · refine ev_ite ?_ ?_
    · refine ev_step ?_ (State.emit_ev _ _) rfl; assumption
    · beta_reduce; refine ev_ite ?_ ?_
      · refine ev_step ?_ (State.answerMbox_ev _ _ _ _) rfl; assumption
      · refine ev_ite ?_ ?_
        · refine ev_step ?_ (State.answerMbox_ev _ _ _ _) rfl; assumption
        · refine ev_ite ?_ ?_
          · refine ev_step ?_ (State.answerMbox_ev _ _ _ _) rfl; assumption
          · split
            · rename_i y2 y3; refine ev_step ?_ (State.answerMbox_ev _ _ _ _) rfl; assumption
            · rename_i y4 y5 y6 y7; extract_lets +onlyGivenNames x8; subst x8
              extract_lets +onlyGivenNames x9; clear_value x9; extract_lets +onlyGivenNames x10
              have h10 : State.evolves a3 x10 [.regs, .pmc, .evt, .host, .map, .rd, .warp, .out] := by
                subst x10
                refine ev_updW ?_ id HostState.wf_upd id id id id id id id id (by intro p; cases p <;> first | exact .inl (by decide) | exact .inr rfl | exact .inr ⟨rfl, rfl⟩)
                assumption
              clear_value x10; refine ev_step ?_ (State.answerMbox_ev _ _ _ _) rfl; refine ev_foldl ?_ ?_
              · assumption
              · intro x11 x12 x13; refine ev_step ?_ (State.scanLine_ev _ _) rfl; assumption

theorem execSetSldQosControl_ev (a0 : Nat) (a1 : Bool) (a2 : Nat) (a3 : Nat) (a4 : State) :
    State.evX a4 (execSetSldQosControl a0 a1 a2 a3 a4) [.host, .out] := by
  unfold execSetSldQosControl; refine evX_done ?_; unfold State.mailboxRw; unfold State.mailbox
  extract_lets +onlyGivenNames x1
  have h1 : State.evolves a4 x1 [.host, .out] := by
    subst x1; refine ev_step ?_ (State.begin_ev _) rfl; exact ev_refl
  clear_value x1; refine ev_ite ?_ ?_
  · refine ev_step ?_ (State.emit_ev _ _) rfl; assumption
  · refine ev_ite ?_ ?_
    · refine ev_step ?_ (State.emit_ev _ _) rfl; assumption
    · beta_reduce; refine ev_ite ?_ ?_
      · refine ev_step ?_ (State.answerMbox_ev _ _ _ _) rfl; assumption
      · refine ev_ite ?_ ?_
        · refine ev_step ?_ (State.answerMbox_ev _ _ _ _) rfl; assumption
        · refine ev_step ?_ (State.answerMbox_ev _ _ _ _) rfl; extract_lets +onlyGivenNames x2; subst x2
          refine ev_host ?_ rfl HostState.wf_upd; assumption

theorem State.listFound_ev (a0 : State) (a1 : Nat) : State.evolves a0 (State.listFound a0 a1) [.rd] := by
  unfold State.listFound; refine ev_ite ?_ ?_
  · refine ev_ite ?_ ?_
    · exact ev_refl
    · refine ev_step ?_ (State.poisonLine_ev _ _ _) rfl; exact ev_refl
  · refine ev_step ?_ (State.poisonMask_ev _ _ _ _) rfl; exact ev_refl

theorem State.unmapEnds_ev (a0 : State) (a1 : UnmapWhy) : State.evolves a0 (State.unmapEnds a0 a1) [.host] := by
  unfold State.unmapEnds
  split
  · rename_i y1 y2; extract_lets +onlyGivenNames x3; subst x3; refine ev_host ?_ rfl HostState.wf_upd; exact ev_refl
  · rename_i y4 y5; exact ev_refl
  · rename_i y6; exact ev_refl

theorem execUnmapDone_ev (a0 : State) :
    State.evX a0 (execUnmapDone a0) [.regs, .pmc, .evt, .host, .map, .rd, .upk, .out] := by
  unfold execUnmapDone; refine evX_done ?_; refine ev_when ?_ rfl ?_
  · exact ev_refl
  · intro x1 x2
    split
    · rename_i y3 y4; assumption
    · rename_i y5 y6 y7 y8 y9 y10; refine ev_ite ?_ ?_
      · assumption
      · extract_lets +onlyGivenNames x11
        have h11 : State.evolves a0 x11 [.regs, .pmc, .evt, .host, .map, .rd, .upk, .out] := by
          subst x11
          split
          · rename_i y12 y13; refine ev_step ?_ (State.unpoisonRange_ev _ _ _ _) rfl; assumption
          · rename_i y14 y15; assumption
        clear_value x11; extract_lets +onlyGivenNames x16; subst x16; extract_lets +onlyGivenNames x17
        have h17 : State.evolves a0 x17 [.regs, .pmc, .evt, .host, .map, .rd, .upk, .out] := by
          subst x17; refine ev_step ?_ (State.unmapEnds_ev _ _) rfl; refine ev_step ?_ (State.unmapRange_ev _ _ _) rfl
          refine ev_map ?_ rfl MapState.wf_upd; assumption
        clear_value x17; refine ev_step ?_ (State.raiseN_ev _ _ _ _) rfl; assumption

theorem execGetSupportedFeatures_ev (a0 : Nat) (a1 : State) :
    State.evX a1 (execGetSupportedFeatures a0 a1) [.out] := by
  unfold execGetSupportedFeatures; refine evX_done ?_; unfold State.mailbox; extract_lets +onlyGivenNames x1
  have h1 : State.evolves a1 x1 [.out] := by
    subst x1; refine ev_step ?_ (State.begin_ev _) rfl; exact ev_refl
  clear_value x1; refine ev_ite ?_ ?_
  · refine ev_step ?_ (State.emit_ev _ _) rfl; assumption
  · refine ev_ite ?_ ?_
    · refine ev_step ?_ (State.emit_ev _ _) rfl; assumption
    · beta_reduce; refine ev_step ?_ (State.answerMbox_ev _ _ _ _) rfl; assumption

theorem execGetLogCapabilities_ev (a0 : Nat) (a1 : LogId) (a2 : State) :
    State.evX a2 (execGetLogCapabilities a0 a1 a2) [.out] := by
  unfold execGetLogCapabilities; refine evX_done ?_; unfold State.mailbox; extract_lets +onlyGivenNames x1
  have h1 : State.evolves a2 x1 [.out] := by
    subst x1; refine ev_step ?_ (State.begin_ev _) rfl; exact ev_refl
  clear_value x1; refine ev_ite ?_ ?_
  · refine ev_step ?_ (State.emit_ev _ _) rfl; assumption
  · refine ev_ite ?_ ?_
    · refine ev_step ?_ (State.emit_ev _ _) rfl; assumption
    · beta_reduce
      split
      · rename_i y2; refine ev_step ?_ (State.answerMbox_ev _ _ _ _) rfl; assumption
      · rename_i y3; refine ev_step ?_ (State.answerMbox_ev _ _ _ _) rfl; assumption
      · rename_i y4; refine ev_step ?_ (State.answerMbox_ev _ _ _ _) rfl; assumption
      · rename_i y5; refine ev_step ?_ (State.answerMbox_ev _ _ _ _) rfl; assumption

theorem execSetFeature_ev (a0 : Nat) (a1 : Nat) (a2 : Nat) (a3 : State) :
    State.evX a3 (execSetFeature a0 a1 a2 a3) [.regs, .pmc, .out] := by
  unfold execSetFeature; refine evX_done ?_; unfold State.mailboxRw; unfold State.mailbox
  extract_lets +onlyGivenNames x1
  have h1 : State.evolves a3 x1 [.regs, .pmc, .out] := by
    subst x1; refine ev_step ?_ (State.begin_ev _) rfl; exact ev_refl
  clear_value x1; refine ev_ite ?_ ?_
  · refine ev_step ?_ (State.emit_ev _ _) rfl; assumption
  · refine ev_ite ?_ ?_
    · refine ev_step ?_ (State.emit_ev _ _) rfl; assumption
    · beta_reduce; refine ev_ite ?_ ?_
      · refine ev_step ?_ (State.answerMbox_ev _ _ _ _) rfl; assumption
      · refine ev_ite ?_ ?_
        · refine ev_step ?_ (State.answerMbox_ev _ _ _ _) rfl; assumption
        · refine ev_step ?_ (State.answerMbox_ev _ _ _ _) rfl; refine ev_step ?_ (State.setFld_ev _ _ _) rfl
          assumption

theorem State.startErase_ev (a0 : State) (a1 : BgKind) (a2 : Nat) :
    State.evolves a0 (State.startErase a0 a1 a2) [.regs, .pmc, .evt, .host, .fch, .swt, .map, .wp, .rd, .cry, .epo, .ntn, .warp, .upk, .out] := by
  unfold State.startErase; extract_lets +onlyGivenNames x1; subst x1; extract_lets +onlyGivenNames x2
  have h2 : State.evolves a0 x2 [.regs, .pmc, .evt, .host, .fch, .swt, .map, .wp, .rd, .cry, .epo, .ntn, .warp, .upk, .out] := by
    subst x2; refine ev_host ?_ rfl HostState.wf_upd; exact ev_refl
  clear_value x2; extract_lets +onlyGivenNames x3
  have h3 : State.evolves a0 x3 [.regs, .pmc, .evt, .host, .fch, .swt, .map, .wp, .rd, .cry, .epo, .ntn, .warp, .upk, .out] := by
    subst x3; refine ev_foldl ?_ ?_
    · assumption
    · intro x4 x5 x6; unfold State.destroyKey; extract_lets +onlyGivenNames x7
      have h7 : State.evolves a0 x7 [.regs, .pmc, .evt, .host, .fch, .swt, .map, .wp, .rd, .cry, .epo, .ntn, .warp, .upk, .out] := by
        subst x7; refine ev_step ?_ (State.discardEpoch_ev _ _) rfl; unfold State.dropDomain; unfold State.dropWhere
        extract_lets +onlyGivenNames x8
        have h8 : State.evolves a0 x8 [.regs, .pmc, .evt, .host, .fch, .swt, .map, .wp, .rd, .cry, .epo, .ntn, .warp, .upk, .out] := by
          subst x8; unfold State.endWhere; extract_lets +onlyGivenNames x9; subst x9
          extract_lets +onlyGivenNames x10; clear_value x10; extract_lets +onlyGivenNames x11; clear_value x11
          extract_lets +onlyGivenNames x12; clear_value x12; extract_lets +onlyGivenNames x13; subst x13
          extract_lets +onlyGivenNames x14; subst x14; extract_lets +onlyGivenNames x15
          have h15 : State.evolves a0 x15 [.regs, .pmc, .evt, .host, .fch, .swt, .map, .wp, .rd, .cry, .epo, .ntn, .warp, .upk, .out] := by
            subst x15
            refine ev_updW ?_ id id id WriteState.wf_upd id EpoState.wf_upd id id id id (by intro p; cases p <;> first | exact .inl (by decide) | exact .inr rfl | exact .inr ⟨rfl, rfl⟩)
            assumption
          clear_value x15; refine ev_foldl ?_ ?_
          · refine ev_foldl ?_ ?_
            · assumption
            · intro x16 x17 x18; refine ev_step ?_ (State.failReq_ev _ _) rfl; assumption
          · intro x19 x20 x21; refine ev_step ?_ (State.cmp_ev _ _ _) rfl; assumption
        clear_value x8; extract_lets +onlyGivenNames x22; clear_value x22; extract_lets +onlyGivenNames x23
        have h23 : State.evolves a0 x23 [.regs, .pmc, .evt, .host, .fch, .swt, .map, .wp, .rd, .cry, .epo, .ntn, .warp, .upk, .out] := by
          subst x23; refine ev_foldl ?_ ?_
          · assumption
          · intro x24 x25 x26; refine ev_step ?_ (State.dropSide_ev _ _) rfl
            refine ev_step ?_ (State.dropLine_ev _ _) rfl; assumption
        clear_value x23; extract_lets +onlyGivenNames x27; subst x27
        extract_lets +onlyGivenNames x28; clear_value x28; extract_lets +onlyGivenNames x29; clear_value x29
        extract_lets +onlyGivenNames x30; clear_value x30; extract_lets +onlyGivenNames x31; clear_value x31
        extract_lets +onlyGivenNames x32; subst x32; extract_lets +onlyGivenNames x33; clear_value x33
        extract_lets +onlyGivenNames x34
        have h34 : State.evolves a0 x34 [.regs, .pmc, .evt, .host, .fch, .swt, .map, .wp, .rd, .cry, .epo, .ntn, .warp, .upk, .out] := by
          subst x34
          refine ev_updW ?_ id id id WriteState.wf_upd id id id id id id (by intro p; cases p <;> first | exact .inl (by decide) | exact .inr rfl | exact .inr ⟨rfl, rfl⟩)
          assumption
        clear_value x34; extract_lets +onlyGivenNames x35; subst x35; refine ev_foldl ?_ ?_
        · assumption
        · intro x36 x37 x38; extract_lets +onlyGivenNames x39; clear_value x39
          refine ev_step ?_ (State.settleGroup_ev _ _) rfl; refine ev_step ?_ (State.setStripes_ev _ _ _) rfl
          assumption
      clear_value x7; extract_lets +onlyGivenNames x40
      have h40 : State.evolves a0 x40 [.regs, .pmc, .evt, .host, .fch, .swt, .map, .wp, .rd, .cry, .epo, .ntn, .warp, .upk, .out] := by
        subst x40; refine ev_step ?_ (State.zeroWindow_ev _ _) rfl; refine ev_step ?_ (State.closeHalts_ev _ _) rfl
        refine ev_step ?_ (State.setDom_ev _ _ _) rfl; assumption
      clear_value x40; refine ev_step ?_ (State.raiseN_ev _ _ _ _) rfl; assumption
  clear_value x3; refine ev_ite ?_ ?_
  · extract_lets +onlyGivenNames x41; subst x41; refine ev_map ?_ rfl MapState.wf_upd; assumption
  · assumption

theorem State.erase_ev (a0 : State) (a1 : BgKind) (a2 : Nat) :
    State.evolves a0 (State.erase a0 a1 a2) [.regs, .pmc, .evt, .host, .fch, .swt, .map, .wp, .rd, .cry, .epo, .ntn, .warp, .upk, .out] := by
  unfold State.erase; unfold State.mailboxRw; unfold State.mailbox; extract_lets +onlyGivenNames x1
  have h1 : State.evolves a0 x1 [.regs, .pmc, .evt, .host, .fch, .swt, .map, .wp, .rd, .cry, .epo, .ntn, .warp, .upk, .out] := by
    subst x1; refine ev_step ?_ (State.begin_ev _) rfl; exact ev_refl
  clear_value x1; refine ev_ite ?_ ?_
  · refine ev_step ?_ (State.emit_ev _ _) rfl; assumption
  · refine ev_ite ?_ ?_
    · refine ev_step ?_ (State.emit_ev _ _) rfl; assumption
    · beta_reduce; refine ev_ite ?_ ?_
      · refine ev_step ?_ (State.answerMbox_ev _ _ _ _) rfl; assumption
      · refine ev_ite ?_ ?_
        · refine ev_step ?_ (State.answerMbox_ev _ _ _ _) rfl; assumption
        · refine ev_step ?_ (State.answerMbox_ev _ _ _ _) rfl; refine ev_step ?_ (State.startErase_ev _ _ _) rfl
          assumption

theorem execSanitize_ev (a0 : Nat) (a1 : State) :
    State.evX a1 (execSanitize a0 a1) [.regs, .pmc, .evt, .host, .fch, .swt, .map, .wp, .rd, .cry, .epo, .ntn, .warp, .upk, .out] := by
  unfold execSanitize; refine evX_done ?_; refine ev_step ?_ (State.erase_ev _ _ _) rfl; exact ev_refl

theorem execGetShutdownState_ev (a0 : Nat) (a1 : State) : State.evX a1 (execGetShutdownState a0 a1) [.out] := by
  unfold execGetShutdownState; refine evX_done ?_; unfold State.mailbox; extract_lets +onlyGivenNames x1
  have h1 : State.evolves a1 x1 [.out] := by
    subst x1; refine ev_step ?_ (State.begin_ev _) rfl; exact ev_refl
  clear_value x1; refine ev_ite ?_ ?_
  · refine ev_step ?_ (State.emit_ev _ _) rfl; assumption
  · refine ev_ite ?_ ?_
    · refine ev_step ?_ (State.emit_ev _ _) rfl; assumption
    · beta_reduce; refine ev_step ?_ (State.answerMbox_ev _ _ _ _) rfl; assumption

theorem execGetSldQosStatus_ev (a0 : Nat) (a1 : State) : State.evX a1 (execGetSldQosStatus a0 a1) [.out] := by
  unfold execGetSldQosStatus; refine evX_done ?_; unfold State.mailbox; extract_lets +onlyGivenNames x1
  have h1 : State.evolves a1 x1 [.out] := by
    subst x1; refine ev_step ?_ (State.begin_ev _) rfl; exact ev_refl
  clear_value x1; refine ev_ite ?_ ?_
  · refine ev_step ?_ (State.emit_ev _ _) rfl; assumption
  · refine ev_ite ?_ ?_
    · refine ev_step ?_ (State.emit_ev _ _) rfl; assumption
    · beta_reduce; refine ev_step ?_ (State.answerMbox_ev _ _ _ _) rfl; assumption

theorem execIdentifyMemoryDevice_ev (a0 : Nat) (a1 : State) :
    State.evX a1 (execIdentifyMemoryDevice a0 a1) [.out] := by
  unfold execIdentifyMemoryDevice; refine evX_done ?_; unfold State.mailbox; extract_lets +onlyGivenNames x1
  have h1 : State.evolves a1 x1 [.out] := by
    subst x1; refine ev_step ?_ (State.begin_ev _) rfl; exact ev_refl
  clear_value x1; refine ev_ite ?_ ?_
  · refine ev_step ?_ (State.emit_ev _ _) rfl; assumption
  · refine ev_ite ?_ ?_
    · refine ev_step ?_ (State.emit_ev _ _) rfl; assumption
    · beta_reduce; refine ev_step ?_ (State.answerMbox_ev _ _ _ _) rfl; assumption

theorem execSecureErase_ev (a0 : Nat) (a1 : State) :
    State.evX a1 (execSecureErase a0 a1) [.regs, .pmc, .evt, .host, .fch, .swt, .map, .wp, .rd, .cry, .epo, .ntn, .warp, .upk, .out] := by
  unfold execSecureErase; refine evX_done ?_; refine ev_step ?_ (State.erase_ev _ _ _) rfl; exact ev_refl

theorem execSetPartitionInfo_ev (a0 : Nat) (a1 : State) : State.evX a1 (execSetPartitionInfo a0 a1) [.out] := by
  unfold execSetPartitionInfo; refine evX_done ?_; unfold State.mailbox; extract_lets +onlyGivenNames x1
  have h1 : State.evolves a1 x1 [.out] := by
    subst x1; refine ev_step ?_ (State.begin_ev _) rfl; exact ev_refl
  clear_value x1; refine ev_ite ?_ ?_
  · refine ev_step ?_ (State.emit_ev _ _) rfl; assumption
  · refine ev_ite ?_ ?_
    · refine ev_step ?_ (State.emit_ev _ _) rfl; assumption
    · beta_reduce; refine ev_step ?_ (State.answerMbox_ev _ _ _ _) rfl; assumption

theorem execGetSupportedLogs_ev (a0 : Nat) (a1 : State) : State.evX a1 (execGetSupportedLogs a0 a1) [.out] := by
  unfold execGetSupportedLogs; refine evX_done ?_; unfold State.mailbox; extract_lets +onlyGivenNames x1
  have h1 : State.evolves a1 x1 [.out] := by
    subst x1; refine ev_step ?_ (State.begin_ev _) rfl; exact ev_refl
  clear_value x1; refine ev_ite ?_ ?_
  · refine ev_step ?_ (State.emit_ev _ _) rfl; assumption
  · refine ev_ite ?_ ?_
    · refine ev_step ?_ (State.emit_ev _ _) rfl; assumption
    · beta_reduce; refine ev_step ?_ (State.answerMbox_ev _ _ _ _) rfl; assumption

theorem execGetPartitionInfo_ev (a0 : Nat) (a1 : State) : State.evX a1 (execGetPartitionInfo a0 a1) [.out] := by
  unfold execGetPartitionInfo; refine evX_done ?_; unfold State.mailbox; extract_lets +onlyGivenNames x1
  have h1 : State.evolves a1 x1 [.out] := by
    subst x1; refine ev_step ?_ (State.begin_ev _) rfl; exact ev_refl
  clear_value x1; refine ev_ite ?_ ?_
  · refine ev_step ?_ (State.emit_ev _ _) rfl; assumption
  · refine ev_ite ?_ ?_
    · refine ev_step ?_ (State.emit_ev _ _) rfl; assumption
    · beta_reduce; refine ev_step ?_ (State.answerMbox_ev _ _ _ _) rfl; assumption

theorem State.scanCounts_ev (a0 : State) (a1 : Scan) : State.evolves a0 (State.scanCounts a0 a1) [.rd] := by
  unfold State.scanCounts
  split
  · rename_i y1 y2; exact ev_refl
  · rename_i y3 y4 y5; refine ev_ite ?_ ?_
    · exact ev_refl
    · extract_lets +onlyGivenNames x6; clear_value x6; refine ev_ite ?_ ?_
      · extract_lets +onlyGivenNames x7; clear_value x7; refine ev_rd ?_ rfl; exact ev_refl
      · extract_lets +onlyGivenNames x8; clear_value x8; refine ev_rd ?_ rfl; exact ev_refl

theorem execGetHeadStatus_ev (a0 : Nat) (a1 : State) : State.evX a1 (execGetHeadStatus a0 a1) [.out] := by
  unfold execGetHeadStatus; refine evX_done ?_; unfold State.mailbox; extract_lets +onlyGivenNames x1
  have h1 : State.evolves a1 x1 [.out] := by
    subst x1; refine ev_step ?_ (State.begin_ev _) rfl; exact ev_refl
  clear_value x1; refine ev_ite ?_ ?_
  · refine ev_step ?_ (State.emit_ev _ _) rfl; assumption
  · refine ev_ite ?_ ?_
    · refine ev_step ?_ (State.emit_ev _ _) rfl; assumption
    · beta_reduce; refine ev_step ?_ (State.answerMbox_ev _ _ _ _) rfl; assumption

theorem execInjectPoison_ev (a0 : Nat) (a1 : BitVec 64) (a2 : State) :
    State.evX a2 (execInjectPoison a0 a1 a2) [.regs, .pmc, .evt, .host, .fch, .swt, .map, .wp, .rd, .cry, .epo, .ntn, .warp, .link, .upk, .flt, .pwr, .out] := by
  unfold execInjectPoison; refine evX_done ?_; unfold State.mailboxRw; unfold State.mailbox
  extract_lets +onlyGivenNames x1
  have h1 : State.evolves a2 x1 [.regs, .pmc, .evt, .host, .fch, .swt, .map, .wp, .rd, .cry, .epo, .ntn, .warp, .link, .upk, .flt, .pwr, .out] := by
    subst x1; refine ev_step ?_ (State.begin_ev _) rfl; exact ev_refl
  clear_value x1; refine ev_ite ?_ ?_
  · refine ev_step ?_ (State.emit_ev _ _) rfl; assumption
  · refine ev_ite ?_ ?_
    · refine ev_step ?_ (State.emit_ev _ _) rfl; assumption
    · beta_reduce; refine ev_ite ?_ ?_
      · refine ev_step ?_ (State.answerMbox_ev _ _ _ _) rfl; assumption
      · split
        · rename_i y2 y3; refine ev_step ?_ (State.answerMbox_ev _ _ _ _) rfl; assumption
        · rename_i y4 y5 y6; refine ev_ite ?_ ?_
          · refine ev_step ?_ (State.answerMbox_ev _ _ _ _) rfl; assumption
          · refine ev_ite ?_ ?_
            · refine ev_step ?_ (State.answerMbox_ev _ _ _ _) rfl; assumption
            · refine ev_step ?_ (State.answerMbox_ev _ _ _ _) rfl; refine ev_step ?_ (State.serve_ev _ _) rfl
              refine ev_step ?_ (State.poisonSector_ev _ _ _ _) rfl; assumption

theorem execGetLog_ev (a0 : Nat) (a1 : LogId) (a2 : Nat) (a3 : Nat) (a4 : State) :
    State.evX a4 (execGetLog a0 a1 a2 a3 a4) [.out] := by
  unfold execGetLog; refine evX_done ?_; unfold State.mailbox; extract_lets +onlyGivenNames x1
  have h1 : State.evolves a4 x1 [.out] := by
    subst x1; refine ev_step ?_ (State.begin_ev _) rfl; exact ev_refl
  clear_value x1; refine ev_ite ?_ ?_
  · refine ev_step ?_ (State.emit_ev _ _) rfl; assumption
  · refine ev_ite ?_ ?_
    · refine ev_step ?_ (State.emit_ev _ _) rfl; assumption
    · beta_reduce
      split
      · rename_i y2 y3; refine ev_step ?_ (State.answerMbox_ev _ _ _ _) rfl; assumption
      · rename_i y4 y5 y6; refine ev_ite ?_ ?_
        · refine ev_step ?_ (State.answerMbox_ev _ _ _ _) rfl; assumption
        · refine ev_step ?_ (State.answerMbox_ev _ _ _ _) rfl; assumption

theorem execGetDomainExtents_ev (a0 : Nat) (a1 : State) : State.evX a1 (execGetDomainExtents a0 a1) [.out] := by
  unfold execGetDomainExtents; refine evX_done ?_; unfold State.mailbox; extract_lets +onlyGivenNames x1
  have h1 : State.evolves a1 x1 [.out] := by
    subst x1; refine ev_step ?_ (State.begin_ev _) rfl; exact ev_refl
  clear_value x1; refine ev_ite ?_ ?_
  · refine ev_step ?_ (State.emit_ev _ _) rfl; assumption
  · refine ev_ite ?_ ?_
    · refine ev_step ?_ (State.emit_ev _ _) rfl; assumption
    · beta_reduce; refine ev_step ?_ (State.answerMbox_ev _ _ _ _) rfl; assumption

theorem execSetResponseMessageLimit_ev (a0 : Nat) (a1 : Nat) (a2 : State) :
    State.evX a2 (execSetResponseMessageLimit a0 a1 a2) [.host, .out] := by
  unfold execSetResponseMessageLimit; refine evX_done ?_; unfold State.mailbox; extract_lets +onlyGivenNames x1
  have h1 : State.evolves a2 x1 [.host, .out] := by
    subst x1; refine ev_step ?_ (State.begin_ev _) rfl; exact ev_refl
  clear_value x1; refine ev_ite ?_ ?_
  · refine ev_step ?_ (State.emit_ev _ _) rfl; assumption
  · refine ev_ite ?_ ?_
    · refine ev_step ?_ (State.emit_ev _ _) rfl; assumption
    · beta_reduce; refine ev_ite ?_ ?_
      · refine ev_step ?_ (State.answerMbox_ev _ _ _ _) rfl; assumption
      · refine ev_step ?_ (State.answerMbox_ev _ _ _ _) rfl; refine ev_step ?_ (State.setHead_ev _ _ _) rfl
        assumption

theorem execGetPoisonList_ev (a0 : Nat) (a1 : Nat) (a2 : Nat) (a3 : State) :
    State.evX a3 (execGetPoisonList a0 a1 a2 a3) [.out] := by
  unfold execGetPoisonList; refine evX_done ?_; unfold State.mailbox; extract_lets +onlyGivenNames x1
  have h1 : State.evolves a3 x1 [.out] := by
    subst x1; refine ev_step ?_ (State.begin_ev _) rfl; exact ev_refl
  clear_value x1; refine ev_ite ?_ ?_
  · refine ev_step ?_ (State.emit_ev _ _) rfl; assumption
  · refine ev_ite ?_ ?_
    · refine ev_step ?_ (State.emit_ev _ _) rfl; assumption
    · beta_reduce; extract_lets +onlyGivenNames x2; clear_value x2
      refine ev_step ?_ (State.answerMbox_ev _ _ _ _) rfl; assumption

theorem execGetResponseMessageLimit_ev (a0 : Nat) (a1 : State) :
    State.evX a1 (execGetResponseMessageLimit a0 a1) [.out] := by
  unfold execGetResponseMessageLimit; refine evX_done ?_; unfold State.mailbox; extract_lets +onlyGivenNames x1
  have h1 : State.evolves a1 x1 [.out] := by
    subst x1; refine ev_step ?_ (State.begin_ev _) rfl; exact ev_refl
  clear_value x1; refine ev_ite ?_ ?_
  · refine ev_step ?_ (State.emit_ev _ _) rfl; assumption
  · refine ev_ite ?_ ?_
    · refine ev_step ?_ (State.emit_ev _ _) rfl; assumption
    · beta_reduce; refine ev_step ?_ (State.answerMbox_ev _ _ _ _) rfl; assumption

theorem execGetFeature_ev (a0 : Nat) (a1 : Nat) (a2 : State) : State.evX a2 (execGetFeature a0 a1 a2) [.out] := by
  unfold execGetFeature; refine evX_done ?_; unfold State.mailbox; extract_lets +onlyGivenNames x1
  have h1 : State.evolves a2 x1 [.out] := by
    subst x1; refine ev_step ?_ (State.begin_ev _) rfl; exact ev_refl
  clear_value x1; refine ev_ite ?_ ?_
  · refine ev_step ?_ (State.emit_ev _ _) rfl; assumption
  · refine ev_ite ?_ ?_
    · refine ev_step ?_ (State.emit_ev _ _) rfl; assumption
    · beta_reduce; refine ev_ite ?_ ?_
      · refine ev_step ?_ (State.answerMbox_ev _ _ _ _) rfl; assumption
      · refine ev_step ?_ (State.answerMbox_ev _ _ _ _) rfl; assumption

theorem execScanMediaDone_ev (a0 : State) : State.evX a0 (execScanMediaDone a0) [.host, .rd, .out] := by
  unfold execScanMediaDone; refine evX_done ?_; refine ev_when ?_ rfl ?_
  · exact ev_refl
  · intro x1 x2
    split
    · rename_i y3 y4; assumption
    · rename_i y5 y6 y7; extract_lets +onlyGivenNames x8; clear_value x8; extract_lets +onlyGivenNames x9
      have h9 : State.evolves a0 x9 [.host, .rd, .out] := by
        subst x9; refine ev_foldl ?_ ?_
        · assumption
        · intro x10 x11 x12; refine ev_step ?_ (State.listFound_ev _ _) rfl; assumption
      clear_value x9; extract_lets +onlyGivenNames x13; clear_value x13
      extract_lets +onlyGivenNames x14; clear_value x14; extract_lets +onlyGivenNames x15; subst x15
      extract_lets +onlyGivenNames x16; clear_value x16; extract_lets +onlyGivenNames x17
      have h17 : State.evolves a0 x17 [.host, .rd, .out] := by
        subst x17
        refine ev_updW ?_ id HostState.wf_upd id id id id id id id id (by intro p; cases p <;> first | exact .inl (by decide) | exact .inr rfl | exact .inr ⟨rfl, rfl⟩)
        assumption
      clear_value x17; refine ev_step ?_ (State.scanCounts_ev _ _) rfl; assumption

theorem execGetScanMediaCapabilities_ev (a0 : Nat) (a1 : Nat) (a2 : Nat) (a3 : State) :
    State.evX a3 (execGetScanMediaCapabilities a0 a1 a2 a3) [.out] := by
  unfold execGetScanMediaCapabilities; refine evX_done ?_; unfold State.mailbox; extract_lets +onlyGivenNames x1
  have h1 : State.evolves a3 x1 [.out] := by
    subst x1; refine ev_step ?_ (State.begin_ev _) rfl; exact ev_refl
  clear_value x1; refine ev_ite ?_ ?_
  · refine ev_step ?_ (State.emit_ev _ _) rfl; assumption
  · refine ev_ite ?_ ?_
    · refine ev_step ?_ (State.emit_ev _ _) rfl; assumption
    · beta_reduce
      split
      · rename_i y2 y3; refine ev_step ?_ (State.answerMbox_ev _ _ _ _) rfl; assumption
      · rename_i y4 y5 y6 y7; refine ev_step ?_ (State.answerMbox_ev _ _ _ _) rfl; assumption

theorem execClearPoison_ev (a0 : Nat) (a1 : BitVec 64) (a2 : BitVec 512) (a3 : State) :
    State.evX a3 (execClearPoison a0 a1 a2 a3) [.regs, .pmc, .evt, .host, .fch, .swt, .map, .wp, .rd, .cry, .epo, .ntn, .warp, .link, .upk, .flt, .pwr, .out] := by
  unfold execClearPoison; refine evX_done ?_; unfold State.mailboxRw; unfold State.mailbox
  extract_lets +onlyGivenNames x1
  have h1 : State.evolves a3 x1 [.regs, .pmc, .evt, .host, .fch, .swt, .map, .wp, .rd, .cry, .epo, .ntn, .warp, .link, .upk, .flt, .pwr, .out] := by
    subst x1; refine ev_step ?_ (State.begin_ev _) rfl; exact ev_refl
  clear_value x1; refine ev_ite ?_ ?_
  · refine ev_step ?_ (State.emit_ev _ _) rfl; assumption
  · refine ev_ite ?_ ?_
    · refine ev_step ?_ (State.emit_ev _ _) rfl; assumption
    · beta_reduce; refine ev_ite ?_ ?_
      · refine ev_step ?_ (State.answerMbox_ev _ _ _ _) rfl; assumption
      · split
        · rename_i y2 y3; refine ev_step ?_ (State.answerMbox_ev _ _ _ _) rfl; assumption
        · rename_i y4 y5 y6; refine ev_ite ?_ ?_
          · refine ev_step ?_ (State.answerMbox_ev _ _ _ _) rfl; assumption
          · refine ev_step ?_ (State.answerMbox_ev _ _ _ _) rfl; refine ev_step ?_ (State.serve_ev _ _) rfl
            assumption

end Sys2Proof.Machine
end

