-- ==== Sys2Proof/Laws/EvThermal.lean ====
section
/-!
SUPPORT. What each operation of Machine/Thermal.lean may change: its parts of the state, and that the register stores stay
canonical.
-/
set_option Elab.async false
namespace Sys2Proof.Machine

theorem execGetMediaPowerCap_ev (a0 : Nat) (a1 : State) : State.evX a1 (execGetMediaPowerCap a0 a1) [.out] := by
  unfold execGetMediaPowerCap; refine evX_done ?_; unfold State.mailbox; extract_lets +onlyGivenNames x1
  have h1 : State.evolves a1 x1 [.out] := by
    subst x1; refine ev_step ?_ (State.begin_ev _) rfl; exact ev_refl
  clear_value x1; refine ev_ite ?_ ?_
  · refine ev_step ?_ (State.emit_ev _ _) rfl; assumption
  · refine ev_ite ?_ ?_
    · refine ev_step ?_ (State.emit_ev _ _) rfl; assumption
    · beta_reduce; refine ev_step ?_ (State.answerMbox_ev _ _ _ _) rfl; assumption

theorem execSetMediaPowerCap_ev (a0 : Nat) (a1 : Nat) (a2 : Bool) (a3 : State) :
    State.evX a3 (execSetMediaPowerCap a0 a1 a2 a3) [.regs, .pmc, .evt, .host, .thm, .out] := by
  unfold execSetMediaPowerCap; refine evX_done ?_; unfold State.mailboxRw; unfold State.mailbox
  extract_lets +onlyGivenNames x1
  have h1 : State.evolves a3 x1 [.regs, .pmc, .evt, .host, .thm, .out] := by
    subst x1; refine ev_step ?_ (State.begin_ev _) rfl; exact ev_refl
  clear_value x1; refine ev_ite ?_ ?_
  · refine ev_step ?_ (State.emit_ev _ _) rfl; assumption
  · refine ev_ite ?_ ?_
    · refine ev_step ?_ (State.emit_ev _ _) rfl; assumption
    · beta_reduce; refine ev_ite ?_ ?_
      · refine ev_step ?_ (State.answerMbox_ev _ _ _ _) rfl; assumption
      · refine ev_ite ?_ ?_
        · refine ev_step ?_ (State.answerMbox_ev _ _ _ _) rfl; assumption
        · extract_lets +onlyGivenNames x2; clear_value x2; extract_lets +onlyGivenNames x3; clear_value x3
          extract_lets +onlyGivenNames x4
          have h4 : State.evolves a3 x4 [.regs, .pmc, .evt, .host, .thm, .out] := by
            subst x4; refine ev_thm ?_ rfl; assumption
          clear_value x4; refine ev_step ?_ (State.answerMbox_ev _ _ _ _) rfl
          refine ev_step ?_ (State.raiseIf_ev _ _ _) rfl; assumption

theorem State.crossTile_ev (a0 : State) (a1 : List Nat) (a2 : Nat) :
    State.evolves a0 (State.crossTile a0 a1 a2) [.regs, .pmc, .evt, .host, .thm] := by
  unfold State.crossTile; extract_lets +onlyGivenNames x1; subst x1; refine ev_ite ?_ ?_
  · exact ev_refl
  · refine ev_ite ?_ ?_
    · extract_lets +onlyGivenNames x2; clear_value x2; refine ev_ite ?_ ?_
      · beta_reduce; extract_lets +onlyGivenNames x3; clear_value x3; refine ev_thm ?_ rfl; exact ev_refl
      · extract_lets +onlyGivenNames x4; clear_value x4; extract_lets +onlyGivenNames x5
        have h5 : State.evolves a0 x5 [.regs, .pmc, .evt, .host, .thm] := by
          subst x5; refine ev_thm ?_ rfl; exact ev_refl
        clear_value x5; refine ev_step ?_ (State.raiseN_ev _ _ _ _) rfl; refine ev_step ?_ (State.bump_ev _ _ _) rfl
        beta_reduce; extract_lets +onlyGivenNames x6; clear_value x6; refine ev_thm ?_ rfl; assumption
    · beta_reduce; extract_lets +onlyGivenNames x7; clear_value x7; refine ev_thm ?_ rfl; exact ev_refl

theorem State.crossCheck_ev (a0 : State) :
    State.evolves a0 (State.crossCheck a0) [.regs, .pmc, .evt, .host, .thm] := by
  unfold State.crossCheck; extract_lets +onlyGivenNames x1; clear_value x1; refine ev_foldl ?_ ?_
  · exact ev_refl
  · intro x2 x3 x4; refine ev_step ?_ (State.crossTile_ev _ _ _) rfl; assumption

theorem State.factorTile_ev (a0 : State) (a1 : Bool) (a2 : Nat) :
    State.evolves a0 (State.factorTile a0 a1 a2) [.regs, .pmc, .evt, .host, .thm] := by
  unfold State.factorTile; extract_lets +onlyGivenNames x1; clear_value x1
  extract_lets +onlyGivenNames x2; clear_value x2; extract_lets +onlyGivenNames x3; clear_value x3
  extract_lets +onlyGivenNames x4; clear_value x4; extract_lets +onlyGivenNames x5; clear_value x5
  extract_lets +onlyGivenNames x6; clear_value x6; extract_lets +onlyGivenNames x7
  have h7 : State.evolves a0 x7 [.regs, .pmc, .evt, .host, .thm] := by
    subst x7; refine ev_thm ?_ rfl; exact ev_refl
  clear_value x7; refine ev_ite ?_ ?_
  · refine ev_step ?_ (State.raiseN_ev _ _ _ _) rfl; assumption
  · assumption

theorem State.factors_ev (a0 : State) : State.evolves a0 (State.factors a0) [.regs, .pmc, .evt, .host, .thm] := by
  unfold State.factors; extract_lets +onlyGivenNames x1; clear_value x1; refine ev_foldl ?_ ?_
  · exact ev_refl
  · intro x2 x3 x4; refine ev_step ?_ (State.factorTile_ev _ _ _) rfl; assumption

theorem State.thermRound_ev (a0 : State) : State.evolves a0 (State.thermRound a0) [.thm] := by
  unfold State.thermRound; refine ev_ite ?_ ?_
  · refine ev_step ?_ (State.checkTherm_ev _) rfl; exact ev_refl
  · extract_lets +onlyGivenNames x1; clear_value x1; extract_lets +onlyGivenNames x2; clear_value x2
    refine ev_thm ?_ rfl; exact ev_refl

theorem State.moveIsland_ev (a0 : State) (a1 : Nat) : State.evolves a0 (State.moveIsland a0 a1) [.regs, .pmc] := by
  unfold State.moveIsland; extract_lets +onlyGivenNames x1; clear_value x1
  extract_lets +onlyGivenNames x2; clear_value x2; refine ev_step ?_ (State.setFld_ev _ _ _) rfl
  refine ev_step ?_ (State.setFld_ev _ _ _) rfl; exact ev_refl

theorem State.roundPassed_ev (a0 : State) :
    State.evolves a0 (State.roundPassed a0) [.regs, .pmc, .evt, .host, .ntn, .thm] := by
  unfold State.roundPassed; extract_lets +onlyGivenNames x1; clear_value x1
  extract_lets +onlyGivenNames x2; clear_value x2; extract_lets +onlyGivenNames x3
  have h3 : State.evolves a0 x3 [.regs, .pmc, .evt, .host, .ntn, .thm] := by
    subst x3; refine ev_thm ?_ rfl; exact ev_refl
  clear_value x3; extract_lets +onlyGivenNames x4
  have h4 : State.evolves a0 x4 [.regs, .pmc, .evt, .host, .ntn, .thm] := by
    subst x4; refine ev_step ?_ (State.setFld_ev _ _ _) rfl; assumption
  clear_value x4; extract_lets +onlyGivenNames x5
  have h5 : State.evolves a0 x5 [.regs, .pmc, .evt, .host, .ntn, .thm] := by
    subst x5; refine ev_step ?_ (State.crossCheck_ev _) rfl; assumption
  clear_value x5; extract_lets +onlyGivenNames x6
  have h6 : State.evolves a0 x6 [.regs, .pmc, .evt, .host, .ntn, .thm] := by
    subst x6; refine ev_ite ?_ ?_
    · refine ev_step ?_ (State.raise_ev _ _) rfl; assumption
    · assumption
  clear_value x6; extract_lets +onlyGivenNames x7
  have h7 : State.evolves a0 x7 [.regs, .pmc, .evt, .host, .ntn, .thm] := by
    subst x7; refine ev_step ?_ (State.factors_ev _) rfl; assumption
  clear_value x7; extract_lets +onlyGivenNames x8; clear_value x8; extract_lets +onlyGivenNames x9
  have h9 : State.evolves a0 x9 [.regs, .pmc, .evt, .host, .ntn, .thm] := by
    subst x9; refine ev_ite ?_ ?_
    · assumption
    · refine ev_step ?_ (State.raise_ev _ _) rfl; refine ev_thm ?_ rfl; assumption
  clear_value x9; refine ev_step ?_ (State.checkAlerts_ev _) rfl; refine ev_step ?_ (State.thermRound_ev _) rfl
  refine ev_foldl ?_ ?_
  · assumption
  · intro x10 x11 x12; refine ev_step ?_ (State.moveIsland_ev _ _) rfl; assumption

theorem State.voltCheck_ev (a0 : State) (a1 : Nat) (a2 : Nat) :
    State.evolves a0 (State.voltCheck a0 a1 a2) [.regs, .pmc, .evt, .host, .thm] := by
  unfold State.voltCheck
  split
  · rename_i y1 y2; exact ev_refl
  · rename_i y3 y4 y5; extract_lets +onlyGivenNames x6; clear_value x6
    extract_lets +onlyGivenNames x7; clear_value x7; extract_lets +onlyGivenNames x8; clear_value x8
    extract_lets +onlyGivenNames x9
    have h9 : State.evolves a0 x9 [.regs, .pmc, .evt, .host, .thm] := by
      subst x9; refine ev_thm ?_ rfl; exact ev_refl
    clear_value x9; refine ev_ite ?_ ?_
    · refine ev_step ?_ (State.raiseN_ev _ _ _ _) rfl; assumption
    · assumption

theorem State.tripOff_ev (a0 : State) :
    State.evolves a0 (State.tripOff a0) [.regs, .pmc, .evt, .host, .fch, .wp, .warp, .upk, .pwr] := by
  unfold State.tripOff
  split
  · rename_i y1 y2; refine ev_step ?_ (State.offInOn_ev _ _) rfl; exact ev_refl
  · rename_i y3 y4; extract_lets +onlyGivenNames x5; clear_value x5; refine ev_pwr ?_ rfl; exact ev_refl
  · rename_i y6 y7 y8; extract_lets +onlyGivenNames x9; clear_value x9; refine ev_pwr ?_ rfl; exact ev_refl

theorem State.roundFailed_ev (a0 : State) (a1 : Nat) :
    State.evolves a0 (State.roundFailed a0 a1) [.regs, .pmc, .evt, .host, .thm] := by
  unfold State.roundFailed; extract_lets +onlyGivenNames x1; clear_value x1
  extract_lets +onlyGivenNames x2; clear_value x2; extract_lets +onlyGivenNames x3; clear_value x3
  extract_lets +onlyGivenNames x4
  have h4 : State.evolves a0 x4 [.regs, .pmc, .evt, .host, .thm] := by
    subst x4; refine ev_thm ?_ rfl; exact ev_refl
  clear_value x4; extract_lets +onlyGivenNames x5
  have h5 : State.evolves a0 x5 [.regs, .pmc, .evt, .host, .thm] := by
    subst x5; refine ev_step ?_ (State.raiseN_ev _ _ _ _) rfl; refine ev_step ?_ (State.bump_ev _ _ _) rfl; assumption
  clear_value x5; refine ev_step ?_ (State.checkTherm_ev _) rfl; refine ev_ite ?_ ?_
  · refine ev_step ?_ (State.raise_ev _ _) rfl; assumption
  · assumption

theorem execThmReadmit_ev (a0 : Nat) (a1 : Nat) (a2 : State) :
    State.evX a2 (execThmReadmit a0 a1 a2) [.regs, .pmc, .evt, .host, .thm, .out] := by
  unfold execThmReadmit; refine evX_done ?_; unfold State.barWrite; extract_lets +onlyGivenNames x1
  have h1 : State.evolves a2 x1 [.regs, .pmc, .evt, .host, .thm, .out] := by
    subst x1; refine ev_step ?_ (State.begin_ev _) rfl; exact ev_refl
  clear_value x1; refine ev_ite ?_ ?_
  · refine ev_step ?_ (State.emit_ev _ _) rfl; assumption
  · refine ev_ite ?_ ?_
    · refine ev_step ?_ (State.accessErr_ev _ _ _ _ _ _) rfl; assumption
    · beta_reduce; extract_lets +onlyGivenNames x2
      have h2 : State.evolves a2 x2 [.regs, .pmc, .evt, .host, .thm, .out] := by
        subst x2; refine ev_step ?_ (State.setFld_ev _ _ _) rfl; assumption
      clear_value x2; refine ev_ite ?_ ?_
      · assumption
      · extract_lets +onlyGivenNames x3; clear_value x3; extract_lets +onlyGivenNames x4
        have h4 : State.evolves a2 x4 [.regs, .pmc, .evt, .host, .thm, .out] := by
          subst x4; refine ev_thm ?_ rfl; assumption
        clear_value x4; refine ev_step ?_ (State.raiseN_ev _ _ _ _) rfl; assumption

theorem execHkpCntClr_ev (a0 : Nat) (a1 : State) :
    State.evX a1 (execHkpCntClr a0 a1) [.regs, .pmc, .evt, .host, .out] := by
  unfold execHkpCntClr; refine evX_done ?_; unfold State.barWrite; extract_lets +onlyGivenNames x1
  have h1 : State.evolves a1 x1 [.regs, .pmc, .evt, .host, .out] := by
    subst x1; refine ev_step ?_ (State.begin_ev _) rfl; exact ev_refl
  clear_value x1; refine ev_ite ?_ ?_
  · refine ev_step ?_ (State.emit_ev _ _) rfl; assumption
  · refine ev_ite ?_ ?_
    · refine ev_step ?_ (State.accessErr_ev _ _ _ _ _ _) rfl; assumption
    · beta_reduce; refine ev_step ?_ (State.setFld_ev _ _ _) rfl; assumption

theorem execThmCntClr_ev (a0 : Nat) (a1 : State) :
    State.evX a1 (execThmCntClr a0 a1) [.regs, .pmc, .evt, .host, .out] := by
  unfold execThmCntClr; refine evX_done ?_; unfold State.barWrite; extract_lets +onlyGivenNames x1
  have h1 : State.evolves a1 x1 [.regs, .pmc, .evt, .host, .out] := by
    subst x1; refine ev_step ?_ (State.begin_ev _) rfl; exact ev_refl
  clear_value x1; refine ev_ite ?_ ?_
  · refine ev_step ?_ (State.emit_ev _ _) rfl; assumption
  · refine ev_ite ?_ ?_
    · refine ev_step ?_ (State.accessErr_ev _ _ _ _ _ _) rfl; assumption
    · beta_reduce; refine ev_step ?_ (State.setFld_ev _ _ _) rfl; refine ev_step ?_ (State.setFld_ev _ _ _) rfl
      assumption

theorem State.advanceAges_ev (a0 : State) :
    State.evolves a0 (State.advanceAges a0) [.regs, .pmc, .evt, .host, .upk] := by
  unfold State.advanceAges; extract_lets +onlyGivenNames x1; clear_value x1; extract_lets +onlyGivenNames x2; subst x2
  extract_lets +onlyGivenNames x3
  have h3 : State.evolves a0 x3 [.regs, .pmc, .evt, .host, .upk] := by
    subst x3; refine ev_upk ?_ rfl UpkState.wf_upd; exact ev_refl
  clear_value x3; refine ev_foldl ?_ ?_
  · assumption
  · intro x4 x5 x6; extract_lets +onlyGivenNames x7; clear_value x7; extract_lets +onlyGivenNames x8; subst x8
    extract_lets +onlyGivenNames x9
    have h9 : State.evolves a0 x9 [.regs, .pmc, .evt, .host, .upk] := by
      subst x9; refine ev_upk ?_ rfl UpkState.wf_upd; assumption
    clear_value x9; refine ev_foldl ?_ ?_
    · assumption
    · intro x10 x11 x12; refine ev_step ?_ (State.checkAge_ev _ _ _) rfl; assumption

theorem execHkpConversion_ev (a0 : BitVec 16) (a1 : State) :
    State.evX a1 (execHkpConversion a0 a1) [.regs, .pmc, .evt, .host, .ntn, .upk, .thm, .out] := by
  unfold execHkpConversion; refine evX_done ?_; refine ev_when ?_ rfl ?_
  · exact ev_refl
  · intro x1 x2; extract_lets +onlyGivenNames x3; clear_value x3; extract_lets +onlyGivenNames x4; clear_value x4
    extract_lets +onlyGivenNames x5; clear_value x5; extract_lets +onlyGivenNames x6
    have h6 : State.evolves a1 x6 [.regs, .pmc, .evt, .host, .ntn, .upk, .thm, .out] := by
      subst x6; refine ev_thm ?_ rfl; assumption
    clear_value x6; refine ev_ite ?_ ?_
    · refine ev_step ?_ (State.voltCheck_ev _ _ _) rfl; assumption
    · extract_lets +onlyGivenNames x7
      have h7 : State.evolves a1 x7 [.regs, .pmc, .evt, .host, .ntn, .upk, .thm, .out] := by
        subst x7; refine ev_ite ?_ ?_
        · refine ev_step ?_ (State.roundFailed_ev _ _) rfl; assumption
        · refine ev_step ?_ (State.roundPassed_ev _) rfl; assumption
      clear_value x7; refine ev_step ?_ (State.advanceAges_ev _) rfl; refine ev_step ?_ (State.bump_ev _ _ _) rfl
      assumption

theorem execTempHistoryMinute_ev (a0 : State) : State.evX a0 (execTempHistoryMinute a0) [.thm, .out] := by
  unfold execTempHistoryMinute; refine evX_done ?_; refine ev_when ?_ rfl ?_
  · exact ev_refl
  · intro x1 x2; extract_lets +onlyGivenNames x3; clear_value x3; extract_lets +onlyGivenNames x4; clear_value x4
    extract_lets +onlyGivenNames x5; clear_value x5; extract_lets +onlyGivenNames x6; clear_value x6
    extract_lets +onlyGivenNames x7; clear_value x7; extract_lets +onlyGivenNames x8; clear_value x8
    split
    · rename_i y9 y10; refine ev_thm ?_ rfl; assumption
    · rename_i y11 y12 y13; extract_lets +onlyGivenNames x14; clear_value x14
      extract_lets +onlyGivenNames x15; clear_value x15; extract_lets +onlyGivenNames x16; clear_value x16
      refine ev_thm ?_ rfl; assumption

theorem execTempHistorySave_ev (a0 : State) : State.evX a0 (execTempHistorySave a0) [.ntn, .out] := by
  unfold execTempHistorySave; refine evX_done ?_; refine ev_when ?_ rfl ?_
  · exact ev_refl
  · intro x1 x2; refine ev_step ?_ (State.saveHist_ev _) rfl; assumption

theorem execThermalTrip_ev (a0 : Nat) (a1 : State) :
    State.evX a1 (execThermalTrip a0 a1) [.regs, .pmc, .evt, .host, .fch, .wp, .ntn, .warp, .upk, .pwr, .thm, .out] := by
  unfold execThermalTrip; refine evX_done ?_; refine ev_when ?_ rfl ?_
  · exact ev_refl
  · intro x1 x2; extract_lets +onlyGivenNames x3
    have h3 : State.evolves a1 x3 [.regs, .pmc, .evt, .host, .fch, .wp, .ntn, .warp, .upk, .pwr, .thm, .out] := by
      subst x3; refine ev_fst1 ?_; refine evP_step ?_ (State.ctrInc_ev _ _ _) rfl; assumption
    clear_value x3; extract_lets +onlyGivenNames x4; clear_value x4; extract_lets +onlyGivenNames x5; clear_value x5
    extract_lets +onlyGivenNames x6
    have h6 : State.evolves a1 x6 [.regs, .pmc, .evt, .host, .fch, .wp, .ntn, .warp, .upk, .pwr, .thm, .out] := by
      subst x6
      refine ev_updW ?_ id id id id id id id id id id (by intro p; cases p <;> first | exact .inl (by decide) | exact .inr rfl | exact .inr ⟨rfl, rfl⟩)
      assumption
    clear_value x6; refine ev_step ?_ (State.tripOff_ev _) rfl; refine ev_step ?_ (State.checkTherm_ev _) rfl
    refine ev_step ?_ (State.raiseN_ev _ _ _ _) rfl; assumption

end Sys2Proof.Machine
end

