-- ==== Sys2Proof/Laws/EvBarView.lean ====
section
/-!
SUPPORT. What each operation of Machine/BarView.lean may change: its parts of the state, and that the register stores stay
canonical.
-/
set_option Elab.async false
namespace Sys2Proof.Machine

theorem execErrInfoRead_ev (a0 : Nat) (a1 : Nat) (a2 : Nat) (a3 : State) :
    State.evX a3 (execErrInfoRead a0 a1 a2 a3) [.regs, .pmc, .evt, .host, .out, .freeCtr] := by
  unfold execErrInfoRead; refine evX_done ?_; unfold State.barReadGate; extract_lets +onlyGivenNames x1
  have h1 : State.evolves a3 x1 [.regs, .pmc, .evt, .host, .out, .freeCtr] := by
    subst x1; refine ev_step ?_ (State.begin_ev _) rfl; exact ev_refl
  clear_value x1; refine ev_ite ?_ ?_
  · refine ev_step ?_ (State.emit_ev _ _) rfl; assumption
  · beta_reduce; refine ev_ite ?_ ?_
    · refine ev_step ?_ (State.emit_ev _ _) rfl; refine ev_step ?_ (State.accessErr_ev _ _ _ _ _ _) rfl; assumption
    · extract_lets +onlyGivenNames x2; clear_value x2; extract_lets +onlyGivenNames x3; subst x3
      extract_lets +onlyGivenNames x4; clear_value x4; extract_lets +onlyGivenNames x5; clear_value x5
      split
      · rename_i y6 y7 y8 y9; refine ev_ite ?_ ?_
        · refine ev_step ?_ (State.emit_ev _ _) rfl; assumption
        · refine ev_ite ?_ ?_
          · split
            · rename_i y10 y11 y12 y13; refine ev_step ?_ (State.emit_ev _ _) rfl; assumption
            · rename_i y14 y15; refine ev_step ?_ (State.emit_ev _ _) rfl; assumption
          · extract_lets +onlyGivenNames x16; clear_value x16; refine ev_step ?_ (State.emit_ev _ _) rfl
            refine ev_step ?_ (State.setHead_ev _ _ _) rfl; assumption
      · rename_i y17 y18 y19 y20; refine ev_ite ?_ ?_
        · refine ev_step ?_ (State.emit_ev _ _) rfl; assumption
        · split
          · rename_i y21 y22 y23 y24; refine ev_step ?_ (State.emit_ev _ _) rfl; assumption
          · rename_i y25 y26; refine ev_step ?_ (State.emit_ev _ _) rfl; assumption
      · rename_i y27 y28 y29; refine ev_step ?_ (State.emit_ev _ _) rfl; refine ev_fst1 ?_
        refine evP_step ?_ (State.draw_ev _) rfl; assumption

end Sys2Proof.Machine
end

