-- ==== Sys2Proof/Laws/EvPmc.lean ====
section
/-!
SUPPORT. What each operation of Machine/Pmc.lean may change: its parts of the state, and that the register stores stay
canonical.
-/
set_option Elab.async false
namespace Sys2Proof.Machine

theorem execCpmuConfigWrite_ev (a0 : Nat) (a1 : Nat) (a2 : Nat) (a3 : Nat) (a4 : BitVec 32) (a5 : Bool) (a6 : Bool) (a7 : State) :
    State.evX a7 (execCpmuConfigWrite a0 a1 a2 a3 a4 a5 a6 a7) [.regs, .pmc, .evt, .host, .out] := by
  unfold execCpmuConfigWrite; refine evX_done ?_; unfold State.barWrite; extract_lets +onlyGivenNames x1
  have h1 : State.evolves a7 x1 [.regs, .pmc, .evt, .host, .out] := by
    subst x1; refine ev_step ?_ (State.begin_ev _) rfl; exact ev_refl
  clear_value x1; refine ev_ite ?_ ?_
  · refine ev_step ?_ (State.emit_ev _ _) rfl; assumption
  · refine ev_ite ?_ ?_
    · refine ev_step ?_ (State.accessErr_ev _ _ _ _ _ _) rfl; assumption
    · beta_reduce; extract_lets +onlyGivenNames x2; subst x2; refine ev_ite ?_ ?_
      · assumption
      · refine ev_ite ?_ ?_
        · beta_reduce; refine ev_step ?_ (State.setReg_ev _ _ _) rfl; assumption
        · split
          · rename_i y3 y4 y5; refine ev_ite ?_ ?_
            · beta_reduce; refine ev_step ?_ (State.setReg_ev _ _ _) rfl; assumption
            · assumption
          · rename_i y6 y7; assumption

theorem execPmcOverflow_ev (a0 : Nat) (a1 : Nat) (a2 : Nat) (a3 : State) :
    State.evX a3 (execPmcOverflow a0 a1 a2 a3) [.regs, .pmc, .evt, .host, .out] := by
  unfold execPmcOverflow; refine evX_done ?_; refine ev_when ?_ rfl ?_
  · exact ev_refl
  · intro x1 x2; refine ev_step ?_ (State.pmcAdd_ev _ _ _ _ _) rfl; assumption

theorem State.zeroCounters_ev (a0 : State) (a1 : Nat) (a2 : Nat) :
    State.evolves a0 (State.zeroCounters a0 a1 a2) [.regs, .pmc] := by
  induction a2 generalizing a0 a1
  · unfold State.zeroCounters; exact ev_refl
  · rename_i z1 ih2; unfold State.zeroCounters; refine ev_step ?_ (State.setReg_ev _ _ _) rfl
    refine ev_step ?_ (ih2 _ _) rfl; exact ev_refl

theorem execPmcCntClr_ev (a0 : Nat) (a1 : Nat) (a2 : State) :
    State.evX a2 (execPmcCntClr a0 a1 a2) [.regs, .pmc, .evt, .host, .out] := by
  unfold execPmcCntClr; refine evX_done ?_; unfold State.barWrite; extract_lets +onlyGivenNames x1
  have h1 : State.evolves a2 x1 [.regs, .pmc, .evt, .host, .out] := by
    subst x1; refine ev_step ?_ (State.begin_ev _) rfl; exact ev_refl
  clear_value x1; refine ev_ite ?_ ?_
  · refine ev_step ?_ (State.emit_ev _ _) rfl; assumption
  · refine ev_ite ?_ ?_
    · refine ev_step ?_ (State.accessErr_ev _ _ _ _ _ _) rfl; assumption
    · beta_reduce; refine ev_ite ?_ ?_
      · refine ev_step ?_ (State.setReg_ev _ _ _) rfl; refine ev_step ?_ (State.zeroCounters_ev _ _ _) rfl; assumption
      · assumption

theorem execPmcFreezeWrite_ev (a0 : Nat) (a1 : Bool) (a2 : State) :
    State.evX a2 (execPmcFreezeWrite a0 a1 a2) [.regs, .pmc, .evt, .host, .out] := by
  unfold execPmcFreezeWrite; refine evX_done ?_; unfold State.barWrite; extract_lets +onlyGivenNames x1
  have h1 : State.evolves a2 x1 [.regs, .pmc, .evt, .host, .out] := by
    subst x1; refine ev_step ?_ (State.begin_ev _) rfl; exact ev_refl
  clear_value x1; refine ev_ite ?_ ?_
  · refine ev_step ?_ (State.emit_ev _ _) rfl; assumption
  · refine ev_ite ?_ ?_
    · refine ev_step ?_ (State.accessErr_ev _ _ _ _ _ _) rfl; assumption
    · beta_reduce; refine ev_step ?_ (State.setFld_ev _ _ _) rfl; assumption

end Sys2Proof.Machine
end

