-- ==== Sys2Proof/Laws/EvNotion.lean ====
section
/-!
SUPPORT. What each operation of Machine/Notion.lean may change: its parts of the state, and that the register stores stay
canonical.
-/
set_option Elab.async false
namespace Sys2Proof.Machine

theorem State.setLsaByte_ev (a0 : State) (a1 : Nat) (a2 : BitVec 8) :
    State.evolves a0 (State.setLsaByte a0 a1 a2) [.ntn] := by
  unfold State.setLsaByte; extract_lets +onlyGivenNames x1; clear_value x1; extract_lets +onlyGivenNames x2; subst x2
  refine ev_ntn ?_ rfl NotionState.wf_upd; exact ev_refl

theorem State.setLsaBytes_ev (a0 : State) (a1 : Nat) (a2 : List Nat) :
    State.evolves a0 (State.setLsaBytes a0 a1 a2) [.ntn] := by
  induction a2 generalizing a0 a1
  · unfold State.setLsaBytes; exact ev_refl
  · rename_i z1 z2 ih3; unfold State.setLsaBytes; refine ev_step ?_ (ih3 _ _) rfl
    refine ev_step ?_ (State.setLsaByte_ev _ _ _) rfl; exact ev_refl

theorem State.scrubCounter_ev (a0 : State) (a1 : Nat) :
    State.evolves a0 (State.scrubCounter a0 a1) [.regs, .pmc, .evt, .host] := by
  unfold State.scrubCounter
  split
  · rename_i y1 y2 y3 y4; refine ev_ite ?_ ?_
    · refine ev_step ?_ (State.raiseN_ev _ _ _ _) rfl; exact ev_refl
    · exact ev_refl
  · rename_i y5 y6; refine ev_step ?_ (State.raiseN_ev _ _ _ _) rfl; exact ev_refl

theorem State.wordCorrected_ev (a0 : State) (a1 : Nat) :
    State.evolves a0 (State.wordCorrected a0 a1) [.regs, .pmc, .evt, .host] := by
  unfold State.wordCorrected; refine ev_step ?_ (State.raiseN_ev _ _ _ _) rfl
  refine ev_step ?_ (State.bump_ev _ _ _) rfl; exact ev_refl

theorem State.wordUncorr_ev (a0 : State) (a1 : Nat) :
    State.evolves a0 (State.wordUncorr a0 a1) [.regs, .pmc, .evt, .host, .ntn] := by
  unfold State.wordUncorr; extract_lets +onlyGivenNames x1
  have h1 : State.evolves a0 x1 [.regs, .pmc, .evt, .host, .ntn] := by
    subst x1; refine ev_step ?_ (State.raiseN_ev _ _ _ _) rfl; refine ev_step ?_ (State.bump_ev _ _ _) rfl
    exact ev_refl
  clear_value x1
  split
  · rename_i y2 y3; extract_lets +onlyGivenNames x4; subst x4; refine ev_ntn ?_ rfl NotionState.wf_upd; assumption
  · rename_i y5 y6; refine ev_step ?_ (State.setCell_ev _ _ _ _) rfl; assumption
  · rename_i y7 y8; refine ev_step ?_ (State.raiseN_ev _ _ _ _) rfl; extract_lets +onlyGivenNames x9; subst x9
    refine ev_ntn ?_ rfl NotionState.wf_upd; assumption
  · rename_i y10 y11; extract_lets +onlyGivenNames x12; subst x12
    refine ev_evt ?_ rfl (fun w => by dsimp only [EvtState.wf]; exact Tab.wf_set _ _ _ _ w); assumption
  · rename_i y13 y14; refine ev_step ?_ (State.raiseN_ev _ _ _ _) rfl; assumption
  · rename_i y15 y16; assumption

theorem execNtnScrub_ev (a0 : List Nat) (a1 : List Nat) (a2 : List Nat) (a3 : State) :
    State.evX a3 (execNtnScrub a0 a1 a2 a3) [.regs, .pmc, .evt, .host, .ntn, .out] := by
  unfold execNtnScrub; refine evX_done ?_; refine ev_when ?_ rfl ?_
  · exact ev_refl
  · intro x1 x2; extract_lets +onlyGivenNames x3; subst x3; extract_lets +onlyGivenNames x4
    have h4 : State.evolves a3 x4 [.regs, .pmc, .evt, .host, .ntn, .out] := by
      subst x4; refine ev_ntn ?_ rfl NotionState.wf_upd; assumption
    clear_value x4; extract_lets +onlyGivenNames x5
    have h5 : State.evolves a3 x5 [.regs, .pmc, .evt, .host, .ntn, .out] := by
      subst x5; refine ev_foldl ?_ ?_
      · assumption
      · intro x6 x7 x8; refine ev_step ?_ (State.wordCorrected_ev _ _) rfl; assumption
    clear_value x5; extract_lets +onlyGivenNames x9
    have h9 : State.evolves a3 x9 [.regs, .pmc, .evt, .host, .ntn, .out] := by
      subst x9; refine ev_foldl ?_ ?_
      · assumption
      · intro x10 x11 x12; refine ev_step ?_ (State.wordUncorr_ev _ _) rfl; assumption
    clear_value x9; extract_lets +onlyGivenNames x13
    have h13 : State.evolves a3 x13 [.regs, .pmc, .evt, .host, .ntn, .out] := by
      subst x13; refine ev_foldl ?_ ?_
      · assumption
      · intro x14 x15 x16; refine ev_step ?_ (State.setCell_ev _ _ _ _) rfl; assumption
    clear_value x13; refine ev_foldl ?_ ?_
    · assumption
    · intro x17 x18 x19; refine ev_step ?_ (State.scrubCounter_ev _ _) rfl; assumption

theorem execScrubDone_ev (a0 : State) : State.evX a0 (execScrubDone a0) [.regs, .pmc, .evt, .host, .ntn, .out] := by
  unfold execScrubDone; refine evX_done ?_; refine ev_when ?_ rfl ?_
  · exact ev_refl
  · intro x1 x2; refine ev_step ?_ (State.raise_ev _ _) rfl; refine ev_step ?_ (State.bump_ev _ _ _) rfl
    extract_lets +onlyGivenNames x3; subst x3; refine ev_ntn ?_ rfl NotionState.wf_upd; assumption

theorem execGetLsa_ev (a0 : Nat) (a1 : Nat) (a2 : Nat) (a3 : State) :
    State.evX a3 (execGetLsa a0 a1 a2 a3) [.out] := by
  unfold execGetLsa; refine evX_done ?_; unfold State.mailbox; extract_lets +onlyGivenNames x1
  have h1 : State.evolves a3 x1 [.out] := by
    subst x1; refine ev_step ?_ (State.begin_ev _) rfl; exact ev_refl
  clear_value x1; refine ev_ite ?_ ?_
  · refine ev_step ?_ (State.emit_ev _ _) rfl; assumption
  · refine ev_ite ?_ ?_
    · refine ev_step ?_ (State.emit_ev _ _) rfl; assumption
    · beta_reduce; refine ev_ite ?_ ?_
      · refine ev_step ?_ (State.answerMbox_ev _ _ _ _) rfl; assumption
      · refine ev_step ?_ (State.answerMbox_ev _ _ _ _) rfl; assumption

theorem execNtnCntClr_ev (a0 : Nat) (a1 : State) :
    State.evX a1 (execNtnCntClr a0 a1) [.regs, .pmc, .evt, .host, .out] := by
  unfold execNtnCntClr; refine evX_done ?_; unfold State.barWrite; extract_lets +onlyGivenNames x1
  have h1 : State.evolves a1 x1 [.regs, .pmc, .evt, .host, .out] := by
    subst x1; refine ev_step ?_ (State.begin_ev _) rfl; exact ev_refl
  clear_value x1; refine ev_ite ?_ ?_
  · refine ev_step ?_ (State.emit_ev _ _) rfl; assumption
  · refine ev_ite ?_ ?_
    · refine ev_step ?_ (State.accessErr_ev _ _ _ _ _ _) rfl; assumption
    · beta_reduce; refine ev_step ?_ (State.setReg_ev _ _ _) rfl; assumption

theorem execScrubNow_ev (a0 : Nat) (a1 : State) :
    State.evX a1 (execScrubNow a0 a1) [.regs, .pmc, .evt, .host, .ntn, .out] := by
  unfold execScrubNow; refine evX_done ?_; unfold State.barWrite; extract_lets +onlyGivenNames x1
  have h1 : State.evolves a1 x1 [.regs, .pmc, .evt, .host, .ntn, .out] := by
    subst x1; refine ev_step ?_ (State.begin_ev _) rfl; exact ev_refl
  clear_value x1; refine ev_ite ?_ ?_
  · refine ev_step ?_ (State.emit_ev _ _) rfl; assumption
  · refine ev_ite ?_ ?_
    · refine ev_step ?_ (State.accessErr_ev _ _ _ _ _ _) rfl; assumption
    · beta_reduce; refine ev_ite ?_ ?_
      · assumption
      · extract_lets +onlyGivenNames x2; subst x2; refine ev_ntn ?_ rfl NotionState.wf_upd; assumption

theorem execSetLsa_ev (a0 : Nat) (a1 : Nat) (a2 : List Nat) (a3 : State) :
    State.evX a3 (execSetLsa a0 a1 a2 a3) [.ntn, .out] := by
  unfold execSetLsa; refine evX_done ?_; unfold State.mailboxRw; unfold State.mailbox; extract_lets +onlyGivenNames x1
  have h1 : State.evolves a3 x1 [.ntn, .out] := by
    subst x1; refine ev_step ?_ (State.begin_ev _) rfl; exact ev_refl
  clear_value x1; refine ev_ite ?_ ?_
  · refine ev_step ?_ (State.emit_ev _ _) rfl; assumption
  · refine ev_ite ?_ ?_
    · refine ev_step ?_ (State.emit_ev _ _) rfl; assumption
    · beta_reduce; refine ev_ite ?_ ?_
      · refine ev_step ?_ (State.answerMbox_ev _ _ _ _) rfl; assumption
      · refine ev_ite ?_ ?_
        · refine ev_step ?_ (State.answerMbox_ev _ _ _ _) rfl; assumption
        · refine ev_step ?_ (State.answerMbox_ev _ _ _ _) rfl; refine ev_step ?_ (State.setLsaBytes_ev _ _ _) rfl
          assumption

end Sys2Proof.Machine
end

