-- ==== Sys2Proof/Laws/EvStep.lean ====
section
/-!
SUPPORT. What each operation of Machine/Step.lean may change: its parts of the state, and that the register stores stay
canonical.
-/
set_option Elab.async false
namespace Sys2Proof.Machine

theorem State.withFetchWord_ev (a0 : State) (a1 : Nat) (a2 : Nat) :
    State.evolves a0 (State.withFetchWord a0 a1 a2) [.pending] := by
  unfold State.withFetchWord
  split
  · rename_i y1 y2 y3
    refine ev_updW ?_ id id id id id id id id id id (by intro p; cases p <;> first | exact .inl (by decide) | exact .inr rfl | exact .inr ⟨rfl, rfl⟩)
    exact ev_refl
  · rename_i y4 y5; exact ev_refl

end Sys2Proof.Machine
end

