-- ==== Sys2Proof/WellFormed.lean ====
section
/-!
DEFINITION. Which commands are well formed: every operand in the range its field or signal has (head 0 to 7, skein 0
to 127, ply group 0 to 7, domain 0 to 255, line index of 38 bits, access width 4 or 8 with its alignment, and so on).
exec is total all the same.
-/
namespace Sys2Proof

/-- The operands of a command lie in the ranges of their fields. -/
def Instr.wf (i : Instr) : Bool :=
  match i with
  | .misalignedAccess h _ off width => decide (h < 8) && decide (off < 2 ^ 25) && decide (1 ≤ width ∧ width ≤ 8 ∧ ((width ≠ 4 ∧ width ≠ 8) ∨ off % width ≠ 0))
  | .controlBarWrite h off width _ => decide (h < 8) && decide (off % width = 0 ∧ off < 2 ^ 25) && (width == 4 || width == 8)
  | .errInfoRead h off width => decide (h < 8) && decide (off % width = 0 ∧ off % 4096 = 0x38 ∧ off < 2 ^ 25) && (width == 4 || width == 8)
  | .evtStsClear h off width _ => decide (h < 8) && decide (off % width = 0 ∧ (off % 4096 = 0x20 ∨ off % 4096 = 0x24) ∧ off < 2 ^ 25) && (width == 4 || width == 8)
  | .evtForce h off width _ => decide (h < 8) && decide (off % width = 0 ∧ (off % 4096 = 0x30 ∨ off % 4096 = 0x34) ∧ off < 2 ^ 25) && (width == 4 || width == 8)
  | .setMachineIndex h _ => decide (h < 8)
  | .setTimestamp h _ => decide (h < 8)
  | .getTimestamp h => decide (h < 8)
  | .ppsEdge => true
  | .ppsLost => true
  | .deadlineFire _ => true
  | .unalignedFire _ => true
  | .pickBoundary => true
  | .tokenInstalment => true
  | .downstreamSlot n => decide (n < 128)
  | .aging n cls => decide (n < 128) && decide (cls < 16)
  | .stall q cls _ => decide (q < 2 ^ 16) && decide (cls < 16)
  | .stallCleared q => decide (q < 2 ^ 16)
  | .stallPersist q => decide (q < 2 ^ 16)
  | .laneWake n => decide (n < 128)
  | .wrpTemplateWrite h _ t p width _ _ => decide (h < 8) && decide (t < 8) && decide (p < 8) && (width == 4 || width == 8)
  | .validate h t => decide (h < 8) && decide (t < 8)
  | .validateDone => true
  | .wrpCntClr h => decide (h < 8)
  | .sknWarpSelWrite h n norm degr => decide (h < 8) && decide (n < 128) && decide (norm < 8) && decide (degr < 8)
  | .hkpConversion _ => true
  | .thmReadmit h t => decide (h < 8) && decide (t < 64)
  | .thmCntClr h => decide (h < 8)
  | .hkpCntClr h => decide (h < 8)
  | .thermalTrip t => decide (t < 64)
  | .tempHistoryMinute => true
  | .tempHistorySave => true
  | .setMediaPowerCap h watts _ => decide (h < 8) && decide (watts < 2 ^ 16)
  | .getMediaPowerCap h => decide (h < 8)
  | .hstPerstDeassert h => decide (h < 8)
  | .hstPerstAssert h => decide (h < 8)
  | .headLinkTrained h speed width _ _ => decide (h < 8) && (decide (1 ≤ speed) && decide (speed ≤ 4)) && (width == 1 || width == 2 || width == 4 || width == 8 || width == 16)
  | .headTrainingFailed h => decide (h < 8)
  | .headLinkDown h => decide (h < 8)
  | .headConventionalReset h => decide (h < 8)
  | .headHotReset h => decide (h < 8)
  | .headFlr h => decide (h < 8)
  | .d3hotEntry h => decide (h < 8)
  | .d0Return h => decide (h < 8)
  | .headDisable h target _ => decide (h < 8) && decide (target < 8)
  | .headRetrain h target => decide (h < 8) && decide (target < 8)
  | .headCntClr h target => decide (h < 8) && decide (target < 8)
  | .roMgmtWrite h target _ => decide (h < 8) && decide (target < 8)
  | .headCorrectableError h => decide (h < 8)
  | .ideIntegrityFail h => decide (h < 8)
  | .ideKeyProgram h _ _ _ => decide (h < 8)
  | .memRd h tag _ => decide (h < 8) && decide (tag < 2 ^ 16)
  | .memRdData h tag _ => decide (h < 8) && decide (tag < 2 ^ 16)
  | .memSpecRd h _ => decide (h < 8)
  | .memInv h tag => decide (h < 8) && decide (tag < 2 ^ 16)
  | .memInvNt h tag => decide (h < 8) && decide (tag < 2 ^ 16)
  | .memWr h tag _ _ _ => decide (h < 8) && decide (tag < 2 ^ 16)
  | .memWrPtl h tag _ _ _ _ => decide (h < 8) && decide (tag < 2 ^ 16)
  | .invalidMemOpcode h opcode _ => decide (h < 8) && decide (opcode < 16)
  | .missWaitResume => true
  | .dirtyWaitAdmit => true
  | .cleanerWriteback => true
  | .evictionResume => true
  | .stagingEntry line => decide (line < 2 ^ 38)
  | .prefetchIssue t => decide (t < 64)
  | .prefetchFill line data => decide (line < 2 ^ 38) && (data.length == 4)
  | .fchWaymaskWrite h _ _ _ => decide (h < 8)
  | .wayEmpty w => decide (w < 16)
  | .dirtyLimitWrite h _ _ => decide (h < 8)
  | .fchEnable h => decide (h < 8)
  | .fchEnabled => true
  | .fchDisable h => decide (h < 8)
  | .drainDone => true
  | .fchCntClr h => decide (h < 8)
  | .maintWb h first _ => decide (h < 8) && decide (first < 2 ^ 38)
  | .maintWbInv h first _ => decide (h < 8) && decide (first < 2 ^ 38)
  | .maintInv h first _ => decide (h < 8) && decide (first < 2 ^ 38)
  | .maintWbAll h => decide (h < 8)
  | .maintInvalidOp h _ _ _ => decide (h < 8)
  | .maintDone => true
  | .groupFolded bg => decide (bg < 16)
  | .diagRead h set way word => decide (h < 8) && decide (set < 2 ^ 16) && decide (way < 16) && decide (word < 32)
  | .diagWrite h set way word => decide (h < 8) && decide (set < 2 ^ 16) && decide (way < 16) && decide (word < 32)
  | .swatchCarve h _ => decide (h < 8)
  | .carveDone => true
  | .swatchRelease h _ => decide (h < 8)
  | .swatchLineHandback => true
  | .queuePacket q _ _ => decide (q < 2 ^ 16)
  | .queueReplay q _ => decide (q < 2 ^ 16)
  | .requestTimeout _ _ h tag => decide (h < 8) && decide (tag < 2 ^ 16)
  | .clockDriftLinkError n => decide (n < 128)
  | .islandFault g => decide (g < 8)
  | .gpfPhase2Request h => decide (h < 8)
  | .queuedFlushStart => true
  | .flushDone _ => true
  | .identify h => decide (h < 8)
  | .backgroundOperationStatus h => decide (h < 8)
  | .getResponseMessageLimit h => decide (h < 8)
  | .setResponseMessageLimit h _ => decide (h < 8)
  | .getEventRecords h _ => decide (h < 8)
  | .clearEventRecords h _ _ _ => decide (h < 8)
  | .getEventInterruptPolicy h => decide (h < 8)
  | .setEventInterruptPolicy h _ _ _ _ => decide (h < 8)
  | .getFwInfo h => decide (h < 8)
  | .transferFw h _ _ off _ _ _ => decide (h < 8) && decide (off < 2 ^ 32)
  | .activateFw h _ slot => decide (h < 8) && decide (slot < 256)
  | .getSupportedLogs h => decide (h < 8)
  | .getLog h _ off _ => decide (h < 8) && decide (off < 2 ^ 32)
  | .getLogCapabilities h _ => decide (h < 8)
  | .clearLog h _ => decide (h < 8)
  | .getSupportedFeatures h => decide (h < 8)
  | .getFeature h _ => decide (h < 8)
  | .setFeature h _ _ => decide (h < 8)
  | .identifyMemoryDevice h => decide (h < 8)
  | .getPartitionInfo h => decide (h < 8)
  | .setPartitionInfo h => decide (h < 8)
  | .getLsa h off _ => decide (h < 8) && decide (off < 2 ^ 32)
  | .setLsa h off _ => decide (h < 8) && decide (off < 2 ^ 32)
  | .getHealthInfo h => decide (h < 8)
  | .getAlertConfiguration h => decide (h < 8)
  | .setAlertConfiguration h _ _ => decide (h < 8)
  | .getShutdownState h => decide (h < 8)
  | .setShutdownState h value => decide (h < 8) && decide (value < 256)
  | .getPoisonList h _ _ => decide (h < 8)
  | .injectPoison h _ => decide (h < 8)
  | .clearPoison h _ _ => decide (h < 8)
  | .getScanMediaCapabilities h _ _ => decide (h < 8)
  | .scanMedia h _ _ => decide (h < 8)
  | .scanMediaDone => true
  | .getScanMediaResults h => decide (h < 8)
  | .sanitize h => decide (h < 8)
  | .secureErase h => decide (h < 8)
  | .sanitizeDone => true
  | .getSldQosControl h => decide (h < 8)
  | .setSldQosControl h _ _ _ => decide (h < 8)
  | .getSldQosStatus h => decide (h < 8)
  | .unsupportedOpcode h opcode => decide (h < 8) && decide (opcode < 2 ^ 16)
  | .setDomainExtent h d _ _ => decide (h < 8) && decide (d < 256)
  | .getDomainExtents h => decide (h < 8)
  | .getHeadStatus h => decide (h < 8)
  | .unmapDone => true
  | .doeDiscovery h _ => decide (h < 8)
  | .cdatTableAccess h => decide (h < 8)
  | .spdmGetCertificate port off _ => decide (port ≤ 8) && decide (off < 2 ^ 32)
  | .spdmChallenge port _ => decide (port ≤ 8)
  | .spdmGetMeasurements port _ _ => decide (port ≤ 8)
  | .spdmKeyExchange port _ => decide (port ≤ 8)
  | .securedMessage port _ _ _ => decide (port ≤ 8)
  | .getPqSignature port => decide (port ≤ 8)
  | .respondIfReady port => decide (port ≤ 8)
  | .getPqCertificate port off _ => decide (port ≤ 8) && decide (off < 2 ^ 32)
  | .setDomainKey _ d _ _ => decide (d < 256)
  | .destroyDomainKey _ d => decide (d < 256)
  | .startRekey _ d => decide (d < 256)
  | .getKeyInfo _ d => decide (d < 256)
  | .unsealQuarantine _ _ => true
  | .generateDomainKey h d _ => decide (h < 8) && decide (d < 256)
  | .rekeySweepStart d => decide (d < 256)
  | .rekeySweepDone d => decide (d < 256)
  | .oldGenerationZeroize d => decide (d < 256)
  | .integEnWrite h d _ => decide (h < 8) && decide (d < 256)
  | .cryCntClr h => decide (h < 8)
  | .kveReseed h => decide (h < 8)
  | .kveCntClr h => decide (h < 8)
  | .drbgReseedTimer => true
  | .entropyFail => true
  | .entropyRetest _ => true
  | .keyVaultOpDone _ => true
  | .epochPrepare h d e deadline _ => decide (h < 8) && decide (d < 256) && decide (e < 2 ^ 48) && decide (deadline < 2 ^ 64)
  | .epochCommit h d e => decide (h < 8) && decide (d < 256) && decide (e < 2 ^ 48)
  | .epochAbort h d e => decide (h < 8) && decide (d < 256) && decide (e < 2 ^ 48)
  | .getEpochStatus h d => decide (h < 8) && decide (d < 256)
  | .doorbellPrepare h d e => decide (h < 8) && decide (d < 256) && decide (e < 2 ^ 48)
  | .doorbellCommit h d e => decide (h < 8) && decide (d < 256) && decide (e < 2 ^ 48)
  | .doorbellAbort h d e => decide (h < 8) && decide (d < 256) && decide (e < 2 ^ 48)
  | .prepareDone d => decide (d < 256)
  | .commitDone d => decide (d < 256)
  | .abortDone d _ => decide (d < 256)
  | .epochEnableWrite h d => decide (h < 8) && decide (d < 256)
  | .epochDisableWrite h d => decide (h < 8) && decide (d < 256)
  | .epochEnabled d => decide (d < 256)
  | .epoCntClr h => decide (h < 8)
  | .stripeTimeout g => decide (g < 8)
  | .padNow h g => decide (h < 8) && decide (g < 8)
  | .plyAdmitOff h g _ => decide (h < 8) && decide (g < 8)
  | .plyCntClr h g => decide (h < 8) && decide (g < 8)
  | .mergeReadDone line _ => decide (line < 2 ^ 38)
  | .upstreamFrame n _ => decide (n < 128)
  | .lineVerify line => decide (line < 2 ^ 38)
  | .reconstructionDone line _ => decide (line < 2 ^ 38)
  | .poisonTimer line => decide (line < 2 ^ 38)
  | .downstreamFrameAccepted n => decide (n < 128)
  | .completionTimeout n slot _ => decide (n < 128) && decide (slot < 128)
  | .mapRecordAppend g => decide (g < 8)
  | .journalLineTimeout => true
  | .journalLineDurable => true
  | .checkpointRecordCount => true
  | .checkpointPeriod => true
  | .ckptNow h => decide (h < 8)
  | .mapCntClr h => decide (h < 8)
  | .checkpointDone => true
  | .mapFill kind _ _ => decide (kind < 4)
  | .mapDirtyWaitResume => true
  | .mapCleaner => true
  | .mapPrefetch _ => true
  | .mapPrefetchDrop _ => true
  | .sgGapMove n half => decide (n < 128) && decide (half < 2)
  | .gapMoveDone n half => decide (n < 128) && decide (half < 2)
  | .dirRebuildDone line => decide (line < 2 ^ 38)
  | .lineMapLoaded => true
  | .journalReplayDone _ => true
  | .openBoltScanDone _ => true
  | .recoveryDone => true
  | .ageProbe g b => decide (g < 8) && decide (b < 2 ^ 17)
  | .ageProbeDone g b cls => decide (g < 8) && decide (b < 2 ^ 17) && decide (cls ≤ 16)
  | .wringVictimSelect g => decide (g < 8)
  | .staticSwapStart g => decide (g < 8)
  | .pressVictimSelect g => decide (g < 8)
  | .selvageRefresh n die triple => decide (n < 128) && decide (die < 16) && decide (triple < 32)
  | .boltResetStart g b => decide (g < 8) && decide (b < 2 ^ 17)
  | .paceResume g => decide (g < 8)
  | .recountDone g b _ => decide (g < 8) && decide (b < 2 ^ 17)
  | .rinsePeriod => true
  | .rinseNow h => decide (h < 8)
  | .rinsePassDone => true
  | .upkCntClr h => decide (h < 8)
  | .upkBoltHiRead h => decide (h < 8)
  | .darnMetaDone g => decide (g < 8)
  | .darnDone g => decide (g < 8)
  | .testStart => true
  | .testDone type res parts => decide (type < 16) && decide (res < 2 ^ 32) && decide (parts < 8)
  | .engineTakeback g => decide (g < 8)
  | .aesKat g p _ => decide (g < 8) && decide (p < 6)
  | .testRequest h type res => decide (h < 8) && decide (type < 16) && decide (res < 2 ^ 32)
  | .fltUndo h => decide (h < 8)
  | .fltCntClr h => decide (h < 8)
  | .injEnWrite h _ => decide (h < 8)
  | .injArm h kind count _ _ => decide (h < 8) && decide (kind < 16) && decide (count < 256)
  | .injDisarm h => decide (h < 8)
  | .quarantineRelease h n => decide (h < 8) && decide (n < 2 ^ 32)
  | .queueSelWrite h q => decide (h < 8) && decide (q < 2 ^ 16)
  | .mrstDeassert g => decide (g < 8)
  | .mrstPulse h _ => decide (h < 8)
  | .mrstPulseEnd g => decide (g < 8)
  | .brdRstDeassert => true
  | .trainingStepDone n _ => decide (n < 128)
  | .trainingStepTimeout n => decide (n < 128)
  | .retrainDone n _ => decide (n < 128)
  | .skeinOutTimeout n => decide (n < 128)
  | .sknRetrain h n => decide (h < 8) && decide (n < 128)
  | .sknFullRetrain h n => decide (h < 8) && decide (n < 128)
  | .sknPkgReset h n => decide (h < 8) && decide (n < 128)
  | .sknCntClr h n => decide (h < 8) && decide (n < 128)
  | .sidebandResponse n _ _ => decide (n < 128)
  | .sidebandTimeout n => decide (n < 128)
  | .tempPoll => true
  | .standbyPowerOn _ => true
  | .standbyPowerLoss => true
  | .powerUpStart => true
  | .railQualified => true
  | .railSettled => true
  | .chatter => true
  | .stepTimeout => true
  | .railLost i => decide (i < 12)
  | .retryStart => true
  | .railOff i => decide (i < 12)
  | .railStuck i => decide (i < 12)
  | .offHoldEnd => true
  | .seqUpInFall => true
  | .seqUpInRise => true
  | .seqDnInRise => true
  | .cascadeTimeout => true
  | .localOff h key => decide (h < 8) && decide (key < 256)
  | .powerFail => true
  | .devReset h key => decide (h < 8) && decide (key < 256)
  | .devResetDone => true
  | .pwrCntClr h => decide (h < 8)
  | .firmwareRunning => true
  | .memoryActive => true
  | .pldmRequestUpdate port _ => decide (port ≤ 8)
  | .pldmFirmwareData off _ _ => decide (off < 2 ^ 32)
  | .pldmDataTimeout => true
  | .pldmActivateFirmware _ => true
  | .recoveryDoeTransfer off _ _ => decide (off < 2 ^ 32)
  | .imageCopyDone _ => true
  | .scheduleFwActivation h slot deadline _ _ => decide (h < 8) && decide (slot < 256) && decide (deadline < 2 ^ 63)
  | .cancelScheduledActivation h => decide (h < 8)
  | .activationImageLoaded _ => true
  | .activationPauseEnd _ => true
  | .selfCheckDone _ => true
  | .confirmFw h => decide (h < 8)
  | .confirmDeadline => true
  | .deadlineNear => true
  | .watchdog => true
  | .applyConfigurationBundle h _ => decide (h < 8)
  | .fwuRecovery h key => decide (h < 8) && decide (key < 256)
  | .fwuCntClr h => decide (h < 8)
  | .mctpMessage _ opcode => decide (opcode < 2 ^ 16)
  | .i3cCcc _ _ _ => true
  | .readEventRecorder h _ _ => decide (h < 8)
  | .clearEventRecorder _ => true
  | .eventRecordWrite => true
  | .repeatWriteback => true
  | .evrCntClr h => decide (h < 8)
  | .msixSend h v => decide (h < 8) && decide (v < 64)
  | .ntnScrub _ _ _ => true
  | .scrubNow h => decide (h < 8)
  | .scrubDone => true
  | .ntnCntClr h => decide (h < 8)
  | .optimeTick => true
  | .pmcFreezeWrite h _ => decide (h < 8)
  | .pmcOverflow i k _ => decide (i < 4) && decide (k < 64)
  | .pmcCntClr h i => decide (h < 8) && decide (i < 4)
  | .cpmuConfigWrite h i k _ _ _ _ => decide (h < 8) && decide (i < 4) && decide (k < 64)
  | .jtagInstructionLoad _ => true
  | .jtagExtestExit => true
  | .hdmDecoderCommit h i _ _ _ _ _ _ _ => decide (h < 8) && decide (i < 32)
  | .firstFormatDone => true
  | .headLinkRecovery h => decide (h < 8)
  | .msixControlWrite h _ _ => decide (h < 8)

/-- The host port a command comes through, for the commands that come through one. -/
def Instr.viaHead (i : Instr) : Option Nat :=
  match i with
  | .misalignedAccess h _ _ _ => some h
  | .controlBarWrite h _ _ _ => some h
  | .errInfoRead h _ _ => some h
  | .evtStsClear h _ _ _ => some h
  | .evtForce h _ _ _ => some h
  | .setMachineIndex h _ => some h
  | .setTimestamp h _ => some h
  | .getTimestamp h => some h
  | .ppsEdge => none
  | .ppsLost => none
  | .deadlineFire _ => none
  | .unalignedFire _ => none
  | .pickBoundary => none
  | .tokenInstalment => none
  | .downstreamSlot _ => none
  | .aging _ _ => none
  | .stall _ _ _ => none
  | .stallCleared _ => none
  | .stallPersist _ => none
  | .laneWake _ => none
  | .wrpTemplateWrite h _ _ _ _ _ _ => some h
  | .validate h _ => some h
  | .validateDone => none
  | .wrpCntClr h => some h
  | .sknWarpSelWrite h _ _ _ => some h
  | .hkpConversion _ => none
  | .thmReadmit h _ => some h
  | .thmCntClr h => some h
  | .hkpCntClr h => some h
  | .thermalTrip _ => none
  | .tempHistoryMinute => none
  | .tempHistorySave => none
  | .setMediaPowerCap h _ _ => some h
  | .getMediaPowerCap h => some h
  | .hstPerstDeassert h => some h
  | .hstPerstAssert h => some h
  | .headLinkTrained h _ _ _ _ => some h
  | .headTrainingFailed h => some h
  | .headLinkDown h => some h
  | .headConventionalReset h => some h
  | .headHotReset h => some h
  | .headFlr h => some h
  | .d3hotEntry h => some h
  | .d0Return h => some h
  | .headDisable h _ _ => some h
  | .headRetrain h _ => some h
  | .headCntClr h _ => some h
  | .roMgmtWrite h _ _ => some h
  | .headCorrectableError h => some h
  | .ideIntegrityFail h => some h
  | .ideKeyProgram h _ _ _ => some h
  | .memRd h _ _ => some h
  | .memRdData h _ _ => some h
  | .memSpecRd h _ => some h
  | .memInv h _ => some h
  | .memInvNt h _ => some h
  | .memWr h _ _ _ _ => some h
  | .memWrPtl h _ _ _ _ _ => some h
  | .invalidMemOpcode h _ _ => some h
  | .missWaitResume => none
  | .dirtyWaitAdmit => none
  | .cleanerWriteback => none
  | .evictionResume => none
  | .stagingEntry _ => none
  | .prefetchIssue _ => none
  | .prefetchFill _ _ => none
  | .fchWaymaskWrite h _ _ _ => some h
  | .wayEmpty _ => none
  | .dirtyLimitWrite h _ _ => some h
  | .fchEnable h => some h
  | .fchEnabled => none
  | .fchDisable h => some h
  | .drainDone => none
  | .fchCntClr h => some h
  | .maintWb h _ _ => some h
  | .maintWbInv h _ _ => some h
  | .maintInv h _ _ => some h
  | .maintWbAll h => some h
  | .maintInvalidOp h _ _ _ => some h
  | .maintDone => none
  | .groupFolded _ => none
  | .diagRead h _ _ _ => some h
  | .diagWrite h _ _ _ => some h
  | .swatchCarve h _ => some h
  | .carveDone => none
  | .swatchRelease h _ => some h
  | .swatchLineHandback => none
  | .queuePacket _ _ _ => none
  | .queueReplay _ _ => none
  | .requestTimeout _ _ h _ => some h
  | .clockDriftLinkError _ => none
  | .islandFault _ => none
  | .gpfPhase2Request h => some h
  | .queuedFlushStart => none
  | .flushDone _ => none
  | .identify h => some h
  | .backgroundOperationStatus h => some h
  | .getResponseMessageLimit h => some h
  | .setResponseMessageLimit h _ => some h
  | .getEventRecords h _ => some h
  | .clearEventRecords h _ _ _ => some h
  | .getEventInterruptPolicy h => some h
  | .setEventInterruptPolicy h _ _ _ _ => some h
  | .getFwInfo h => some h
  | .transferFw h _ _ _ _ _ _ => some h
  | .activateFw h _ _ => some h
  | .getSupportedLogs h => some h
  | .getLog h _ _ _ => some h
  | .getLogCapabilities h _ => some h
  | .clearLog h _ => some h
  | .getSupportedFeatures h => some h
  | .getFeature h _ => some h
  | .setFeature h _ _ => some h
  | .identifyMemoryDevice h => some h
  | .getPartitionInfo h => some h
  | .setPartitionInfo h => some h
  | .getLsa h _ _ => some h
  | .setLsa h _ _ => some h
  | .getHealthInfo h => some h
  | .getAlertConfiguration h => some h
  | .setAlertConfiguration h _ _ => some h
  | .getShutdownState h => some h
  | .setShutdownState h _ => some h
  | .getPoisonList h _ _ => some h
  | .injectPoison h _ => some h
  | .clearPoison h _ _ => some h
  | .getScanMediaCapabilities h _ _ => some h
  | .scanMedia h _ _ => some h
  | .scanMediaDone => none
  | .getScanMediaResults h => some h
  | .sanitize h => some h
  | .secureErase h => some h
  | .sanitizeDone => none
  | .getSldQosControl h => some h
  | .setSldQosControl h _ _ _ => some h
  | .getSldQosStatus h => some h
  | .unsupportedOpcode h _ => some h
  | .setDomainExtent h _ _ _ => some h
  | .getDomainExtents h => some h
  | .getHeadStatus h => some h
  | .unmapDone => none
  | .doeDiscovery h _ => some h
  | .cdatTableAccess h => some h
  | .spdmGetCertificate _ _ _ => none
  | .spdmChallenge _ _ => none
  | .spdmGetMeasurements _ _ _ => none
  | .spdmKeyExchange _ _ => none
  | .securedMessage _ _ _ _ => none
  | .getPqSignature _ => none
  | .respondIfReady _ => none
  | .getPqCertificate _ _ _ => none
  | .setDomainKey _ _ _ _ => none
  | .destroyDomainKey _ _ => none
  | .startRekey _ _ => none
  | .getKeyInfo _ _ => none
  | .unsealQuarantine _ _ => none
  | .generateDomainKey h _ _ => some h
  | .rekeySweepStart _ => none
  | .rekeySweepDone _ => none
  | .oldGenerationZeroize _ => none
  | .integEnWrite h _ _ => some h
  | .cryCntClr h => some h
  | .kveReseed h => some h
  | .kveCntClr h => some h
  | .drbgReseedTimer => none
  | .entropyFail => none
  | .entropyRetest _ => none
  | .keyVaultOpDone _ => none
  | .epochPrepare h _ _ _ _ => some h
  | .epochCommit h _ _ => some h
  | .epochAbort h _ _ => some h
  | .getEpochStatus h _ => some h
  | .doorbellPrepare h _ _ => some h
  | .doorbellCommit h _ _ => some h
  | .doorbellAbort h _ _ => some h
  | .prepareDone _ => none
  | .commitDone _ => none
  | .abortDone _ _ => none
  | .epochEnableWrite h _ => some h
  | .epochDisableWrite h _ => some h
  | .epochEnabled _ => none
  | .epoCntClr h => some h
  | .stripeTimeout _ => none
  | .padNow h _ => some h
  | .plyAdmitOff h _ _ => some h
  | .plyCntClr h _ => some h
  | .mergeReadDone _ _ => none
  | .upstreamFrame _ _ => none
  | .lineVerify _ => none
  | .reconstructionDone _ _ => none
  | .poisonTimer _ => none
  | .downstreamFrameAccepted _ => none
  | .completionTimeout _ _ _ => none
  | .mapRecordAppend _ => none
  | .journalLineTimeout => none
  | .journalLineDurable => none
  | .checkpointRecordCount => none
  | .checkpointPeriod => none
  | .ckptNow h => some h
  | .mapCntClr h => some h
  | .checkpointDone => none
  | .mapFill _ _ _ => none
  | .mapDirtyWaitResume => none
  | .mapCleaner => none
  | .mapPrefetch _ => none
  | .mapPrefetchDrop _ => none
  | .sgGapMove _ _ => none
  | .gapMoveDone _ _ => none
  | .dirRebuildDone _ => none
  | .lineMapLoaded => none
  | .journalReplayDone _ => none
  | .openBoltScanDone _ => none
  | .recoveryDone => none
  | .ageProbe _ _ => none
  | .ageProbeDone _ _ _ => none
  | .wringVictimSelect _ => none
  | .staticSwapStart _ => none
  | .pressVictimSelect _ => none
  | .selvageRefresh _ _ _ => none
  | .boltResetStart _ _ => none
  | .paceResume _ => none
  | .recountDone _ _ _ => none
  | .rinsePeriod => none
  | .rinseNow h => some h
  | .rinsePassDone => none
  | .upkCntClr h => some h
  | .upkBoltHiRead h => some h
  | .darnMetaDone _ => none
  | .darnDone _ => none
  | .testStart => none
  | .testDone _ _ _ => none
  | .engineTakeback _ => none
  | .aesKat _ _ _ => none
  | .testRequest h _ _ => some h
  | .fltUndo h => some h
  | .fltCntClr h => some h
  | .injEnWrite h _ => some h
  | .injArm h _ _ _ _ => some h
  | .injDisarm h => some h
  | .quarantineRelease h _ => some h
  | .queueSelWrite h _ => some h
  | .mrstDeassert _ => none
  | .mrstPulse h _ => some h
  | .mrstPulseEnd _ => none
  | .brdRstDeassert => none
  | .trainingStepDone _ _ => none
  | .trainingStepTimeout _ => none
  | .retrainDone _ _ => none
  | .skeinOutTimeout _ => none
  | .sknRetrain h _ => some h
  | .sknFullRetrain h _ => some h
  | .sknPkgReset h _ => some h
  | .sknCntClr h _ => some h
  | .sidebandResponse _ _ _ => none
  | .sidebandTimeout _ => none
  | .tempPoll => none
  | .standbyPowerOn _ => none
  | .standbyPowerLoss => none
  | .powerUpStart => none
  | .railQualified => none
  | .railSettled => none
  | .chatter => none
  | .stepTimeout => none
  | .railLost _ => none
  | .retryStart => none
  | .railOff _ => none
  | .railStuck _ => none
  | .offHoldEnd => none
  | .seqUpInFall => none
  | .seqUpInRise => none
  | .seqDnInRise => none
  | .cascadeTimeout => none
  | .localOff h _ => some h
  | .powerFail => none
  | .devReset h _ => some h
  | .devResetDone => none
  | .pwrCntClr h => some h
  | .firmwareRunning => none
  | .memoryActive => none
  | .pldmRequestUpdate _ _ => none
  | .pldmFirmwareData _ _ _ => none
  | .pldmDataTimeout => none
  | .pldmActivateFirmware _ => none
  | .recoveryDoeTransfer _ _ _ => none
  | .imageCopyDone _ => none
  | .scheduleFwActivation h _ _ _ _ => some h
  | .cancelScheduledActivation h => some h
  | .activationImageLoaded _ => none
  | .activationPauseEnd _ => none
  | .selfCheckDone _ => none
  | .confirmFw h => some h
  | .confirmDeadline => none
  | .deadlineNear => none
  | .watchdog => none
  | .applyConfigurationBundle h _ => some h
  | .fwuRecovery h _ => some h
  | .fwuCntClr h => some h
  | .mctpMessage _ _ => none
  | .i3cCcc _ _ _ => none
  | .readEventRecorder h _ _ => some h
  | .clearEventRecorder _ => none
  | .eventRecordWrite => none
  | .repeatWriteback => none
  | .evrCntClr h => some h
  | .msixSend h _ => some h
  | .ntnScrub _ _ _ => none
  | .scrubNow h => some h
  | .scrubDone => none
  | .ntnCntClr h => some h
  | .optimeTick => none
  | .pmcFreezeWrite h _ => some h
  | .pmcOverflow _ _ _ => none
  | .pmcCntClr h _ => some h
  | .cpmuConfigWrite h _ _ _ _ _ _ => some h
  | .jtagInstructionLoad _ => none
  | .jtagExtestExit => none
  | .hdmDecoderCommit h _ _ _ _ _ _ _ _ => some h
  | .firstFormatDone => none
  | .headLinkRecovery h => some h
  | .msixControlWrite h _ _ => some h

end Sys2Proof
end

