-- ==== Sys2Proof/Laws/PerInstr.lean ====
section
/-!
SUPPORT. Per-command lemmas about the operands: a well-formed command that comes through a host port names one of the
eight ports.
-/
namespace Sys2Proof.Laws.Operands

/-- A well-formed command that comes through a head names a head below 8. -/
def Statement (i : Instr) : Prop := i.wf = true → ∀ h, i.viaHead = some h → h < 8

/-- Every command at once; the lemmas below are its cases, one for each command. -/
theorem all : ∀ i, Statement i := by
  intro i hw k hk
  cases i <;> simp only [Instr.viaHead, Option.some.injEq, reduceCtorEq] at hk <;>
    simp only [Instr.wf, Bool.and_eq_true, decide_eq_true_eq] at hw <;> omega

theorem misalignedAccess : ∀ h write off width, Statement (.misalignedAccess h write off width) := fun _ _ _ _ => all _
theorem controlBarWrite : ∀ h off width data, Statement (.controlBarWrite h off width data) := fun _ _ _ _ => all _
theorem errInfoRead : ∀ h off width, Statement (.errInfoRead h off width) := fun _ _ _ => all _
theorem evtStsClear : ∀ h off width data, Statement (.evtStsClear h off width data) := fun _ _ _ _ => all _
theorem evtForce : ∀ h off width data, Statement (.evtForce h off width data) := fun _ _ _ _ => all _
theorem setMachineIndex : ∀ h payload, Statement (.setMachineIndex h payload) := fun _ _ => all _
theorem setTimestamp : ∀ h ns, Statement (.setTimestamp h ns) := fun _ _ => all _
theorem getTimestamp : ∀ h, Statement (.getTimestamp h) := fun _ => all _
theorem ppsEdge : Statement (.ppsEdge) := all _
theorem ppsLost : Statement (.ppsLost) := all _
theorem deadlineFire : ∀ id, Statement (.deadlineFire id) := fun _ => all _
theorem unalignedFire : ∀ id, Statement (.unalignedFire id) := fun _ => all _
theorem pickBoundary : Statement (.pickBoundary) := all _
theorem tokenInstalment : Statement (.tokenInstalment) := all _
theorem downstreamSlot : ∀ n, Statement (.downstreamSlot n) := fun _ => all _
theorem aging : ∀ n cls, Statement (.aging n cls) := fun _ _ => all _
theorem stall : ∀ q cls skeins, Statement (.stall q cls skeins) := fun _ _ _ => all _
theorem stallCleared : ∀ q, Statement (.stallCleared q) := fun _ => all _
theorem stallPersist : ∀ q, Statement (.stallPersist q) := fun _ => all _
theorem laneWake : ∀ n, Statement (.laneWake n) := fun _ => all _
theorem wrpTemplateWrite : ∀ h up t p width lo data, Statement (.wrpTemplateWrite h up t p width lo data) := fun _ _ _ _ _ _ _ => all _
theorem validate : ∀ h t, Statement (.validate h t) := fun _ _ => all _
theorem validateDone : Statement (.validateDone) := all _
theorem wrpCntClr : ∀ h, Statement (.wrpCntClr h) := fun _ => all _
theorem sknWarpSelWrite : ∀ h n norm degr, Statement (.sknWarpSelWrite h n norm degr) := fun _ _ _ _ => all _
theorem hkpConversion : ∀ value, Statement (.hkpConversion value) := fun _ => all _
theorem thmReadmit : ∀ h t, Statement (.thmReadmit h t) := fun _ _ => all _
theorem thmCntClr : ∀ h, Statement (.thmCntClr h) := fun _ => all _
theorem hkpCntClr : ∀ h, Statement (.hkpCntClr h) := fun _ => all _
theorem thermalTrip : ∀ t, Statement (.thermalTrip t) := fun _ => all _
theorem tempHistoryMinute : Statement (.tempHistoryMinute) := all _
theorem tempHistorySave : Statement (.tempHistorySave) := all _
theorem setMediaPowerCap : ∀ h watts save, Statement (.setMediaPowerCap h watts save) := fun _ _ _ => all _
theorem getMediaPowerCap : ∀ h, Statement (.getMediaPowerCap h) := fun _ => all _
theorem hstPerstDeassert : ∀ h, Statement (.hstPerstDeassert h) := fun _ => all _
theorem hstPerstAssert : ∀ h, Statement (.hstPerstAssert h) := fun _ => all _
theorem headLinkTrained : ∀ h speed width reversed polarity, Statement (.headLinkTrained h speed width reversed polarity) := fun _ _ _ _ _ => all _
theorem headTrainingFailed : ∀ h, Statement (.headTrainingFailed h) := fun _ => all _
theorem headLinkDown : ∀ h, Statement (.headLinkDown h) := fun _ => all _
theorem headConventionalReset : ∀ h, Statement (.headConventionalReset h) := fun _ => all _
theorem headHotReset : ∀ h, Statement (.headHotReset h) := fun _ => all _
theorem headFlr : ∀ h, Statement (.headFlr h) := fun _ => all _
theorem d3hotEntry : ∀ h, Statement (.d3hotEntry h) := fun _ => all _
theorem d0Return : ∀ h, Statement (.d0Return h) := fun _ => all _
theorem headDisable : ∀ h target value, Statement (.headDisable h target value) := fun _ _ _ => all _
theorem headRetrain : ∀ h target, Statement (.headRetrain h target) := fun _ _ => all _
theorem headCntClr : ∀ h target, Statement (.headCntClr h target) := fun _ _ => all _
theorem roMgmtWrite : ∀ h target value, Statement (.roMgmtWrite h target value) := fun _ _ _ => all _
theorem headCorrectableError : ∀ h, Statement (.headCorrectableError h) := fun _ => all _
theorem ideIntegrityFail : ∀ h, Statement (.ideIntegrityFail h) := fun _ => all _
theorem ideKeyProgram : ∀ h session stream mode, Statement (.ideKeyProgram h session stream mode) := fun _ _ _ _ => all _
theorem memRd : ∀ h tag hpa, Statement (.memRd h tag hpa) := fun _ _ _ => all _
theorem memRdData : ∀ h tag hpa, Statement (.memRdData h tag hpa) := fun _ _ _ => all _
theorem memSpecRd : ∀ h hpa, Statement (.memSpecRd h hpa) := fun _ _ => all _
theorem memInv : ∀ h tag, Statement (.memInv h tag) := fun _ _ => all _
theorem memInvNt : ∀ h tag, Statement (.memInvNt h tag) := fun _ _ => all _
theorem memWr : ∀ h tag hpa data poison, Statement (.memWr h tag hpa data poison) := fun _ _ _ _ _ => all _
theorem memWrPtl : ∀ h tag hpa data be poison, Statement (.memWrPtl h tag hpa data be poison) := fun _ _ _ _ _ _ => all _
theorem invalidMemOpcode : ∀ h opcode hpa, Statement (.invalidMemOpcode h opcode hpa) := fun _ _ _ => all _
theorem missWaitResume : Statement (.missWaitResume) := all _
theorem dirtyWaitAdmit : Statement (.dirtyWaitAdmit) := all _
theorem cleanerWriteback : Statement (.cleanerWriteback) := all _
theorem evictionResume : Statement (.evictionResume) := all _
theorem stagingEntry : ∀ line, Statement (.stagingEntry line) := fun _ => all _
theorem prefetchIssue : ∀ t, Statement (.prefetchIssue t) := fun _ => all _
theorem prefetchFill : ∀ line data, Statement (.prefetchFill line data) := fun _ _ => all _
theorem fchWaymaskWrite : ∀ h rd wr pf, Statement (.fchWaymaskWrite h rd wr pf) := fun _ _ _ _ => all _
theorem wayEmpty : ∀ w, Statement (.wayEmpty w) := fun _ => all _
theorem dirtyLimitWrite : ∀ h limitMib cleanPct, Statement (.dirtyLimitWrite h limitMib cleanPct) := fun _ _ _ => all _
theorem fchEnable : ∀ h, Statement (.fchEnable h) := fun _ => all _
theorem fchEnabled : Statement (.fchEnabled) := all _
theorem fchDisable : ∀ h, Statement (.fchDisable h) := fun _ => all _
theorem drainDone : Statement (.drainDone) := all _
theorem fchCntClr : ∀ h, Statement (.fchCntClr h) := fun _ => all _
theorem maintWb : ∀ h first count, Statement (.maintWb h first count) := fun _ _ _ => all _
theorem maintWbInv : ∀ h first count, Statement (.maintWbInv h first count) := fun _ _ _ => all _
theorem maintInv : ∀ h first count, Statement (.maintInv h first count) := fun _ _ _ => all _
theorem maintWbAll : ∀ h, Statement (.maintWbAll h) := fun _ => all _
theorem maintInvalidOp : ∀ h op first count, Statement (.maintInvalidOp h op first count) := fun _ _ _ _ => all _
theorem maintDone : Statement (.maintDone) := all _
theorem groupFolded : ∀ bg, Statement (.groupFolded bg) := fun _ => all _
theorem diagRead : ∀ h set way word, Statement (.diagRead h set way word) := fun _ _ _ _ => all _
theorem diagWrite : ∀ h set way word, Statement (.diagWrite h set way word) := fun _ _ _ _ => all _
theorem swatchCarve : ∀ h ways, Statement (.swatchCarve h ways) := fun _ _ => all _
theorem carveDone : Statement (.carveDone) := all _
theorem swatchRelease : ∀ h keep, Statement (.swatchRelease h keep) := fun _ _ => all _
theorem swatchLineHandback : Statement (.swatchLineHandback) := all _
theorem queuePacket : ∀ q pkt parityOk, Statement (.queuePacket q pkt parityOk) := fun _ _ _ => all _
theorem queueReplay : ∀ q parityOk, Statement (.queueReplay q parityOk) := fun _ _ => all _
theorem requestTimeout : ∀ src reissued h tag, Statement (.requestTimeout src reissued h tag) := fun _ _ _ _ => all _
theorem clockDriftLinkError : ∀ n, Statement (.clockDriftLinkError n) := fun _ => all _
theorem islandFault : ∀ g, Statement (.islandFault g) := fun _ => all _
theorem gpfPhase2Request : ∀ h, Statement (.gpfPhase2Request h) := fun _ => all _
theorem queuedFlushStart : Statement (.queuedFlushStart) := all _
theorem flushDone : ∀ notionOk, Statement (.flushDone notionOk) := fun _ => all _
theorem identify : ∀ h, Statement (.identify h) := fun _ => all _
theorem backgroundOperationStatus : ∀ h, Statement (.backgroundOperationStatus h) := fun _ => all _
theorem getResponseMessageLimit : ∀ h, Statement (.getResponseMessageLimit h) := fun _ => all _
theorem setResponseMessageLimit : ∀ h limit, Statement (.setResponseMessageLimit h limit) := fun _ _ => all _
theorem getEventRecords : ∀ h log, Statement (.getEventRecords h log) := fun _ _ => all _
theorem clearEventRecords : ∀ h log all handles, Statement (.clearEventRecords h log all handles) := fun _ _ _ _ => all _
theorem getEventInterruptPolicy : ∀ h, Statement (.getEventInterruptPolicy h) := fun _ => all _
theorem setEventInterruptPolicy : ∀ h info warn fail fatal, Statement (.setEventInterruptPolicy h info warn fail fatal) := fun _ _ _ _ _ => all _
theorem getFwInfo : ∀ h, Statement (.getFwInfo h) := fun _ => all _
theorem transferFw : ∀ h action slot off data leavesOk sigOk, Statement (.transferFw h action slot off data leavesOk sigOk) := fun _ _ _ _ _ _ _ => all _
theorem activateFw : ∀ h online slot, Statement (.activateFw h online slot) := fun _ _ _ => all _
theorem getSupportedLogs : ∀ h, Statement (.getSupportedLogs h) := fun _ => all _
theorem getLog : ∀ h log off len, Statement (.getLog h log off len) := fun _ _ _ _ => all _
theorem getLogCapabilities : ∀ h log, Statement (.getLogCapabilities h log) := fun _ _ => all _
theorem clearLog : ∀ h log, Statement (.clearLog h log) := fun _ _ => all _
theorem getSupportedFeatures : ∀ h, Statement (.getSupportedFeatures h) := fun _ => all _
theorem getFeature : ∀ h feature, Statement (.getFeature h feature) := fun _ _ => all _
theorem setFeature : ∀ h feature hours, Statement (.setFeature h feature hours) := fun _ _ _ => all _
theorem identifyMemoryDevice : ∀ h, Statement (.identifyMemoryDevice h) := fun _ => all _
theorem getPartitionInfo : ∀ h, Statement (.getPartitionInfo h) := fun _ => all _
theorem setPartitionInfo : ∀ h, Statement (.setPartitionInfo h) := fun _ => all _
theorem getLsa : ∀ h off len, Statement (.getLsa h off len) := fun _ _ _ => all _
theorem setLsa : ∀ h off data, Statement (.setLsa h off data) := fun _ _ _ => all _
theorem getHealthInfo : ∀ h, Statement (.getHealthInfo h) := fun _ => all _
theorem getAlertConfiguration : ∀ h, Statement (.getAlertConfiguration h) := fun _ => all _
theorem setAlertConfiguration : ∀ h enable values, Statement (.setAlertConfiguration h enable values) := fun _ _ _ => all _
theorem getShutdownState : ∀ h, Statement (.getShutdownState h) := fun _ => all _
theorem setShutdownState : ∀ h value, Statement (.setShutdownState h value) := fun _ _ => all _
theorem getPoisonList : ∀ h first len, Statement (.getPoisonList h first len) := fun _ _ _ => all _
theorem injectPoison : ∀ h dpa, Statement (.injectPoison h dpa) := fun _ _ => all _
theorem clearPoison : ∀ h dpa data, Statement (.clearPoison h dpa data) := fun _ _ _ => all _
theorem getScanMediaCapabilities : ∀ h first len, Statement (.getScanMediaCapabilities h first len) := fun _ _ _ => all _
theorem scanMedia : ∀ h first len, Statement (.scanMedia h first len) := fun _ _ _ => all _
theorem scanMediaDone : Statement (.scanMediaDone) := all _
theorem getScanMediaResults : ∀ h, Statement (.getScanMediaResults h) := fun _ => all _
theorem sanitize : ∀ h, Statement (.sanitize h) := fun _ => all _
theorem secureErase : ∀ h, Statement (.secureErase h) := fun _ => all _
theorem sanitizeDone : Statement (.sanitizeDone) := all _
theorem getSldQosControl : ∀ h, Statement (.getSldQosControl h) := fun _ => all _
theorem setSldQosControl : ∀ h egress moderate severe, Statement (.setSldQosControl h egress moderate severe) := fun _ _ _ _ => all _
theorem getSldQosStatus : ∀ h, Statement (.getSldQosStatus h) := fun _ => all _
theorem unsupportedOpcode : ∀ h opcode, Statement (.unsupportedOpcode h opcode) := fun _ _ => all _
theorem setDomainExtent : ∀ h d base count, Statement (.setDomainExtent h d base count) := fun _ _ _ _ => all _
theorem getDomainExtents : ∀ h, Statement (.getDomainExtents h) := fun _ => all _
theorem getHeadStatus : ∀ h, Statement (.getHeadStatus h) := fun _ => all _
theorem unmapDone : Statement (.unmapDone) := all _
theorem doeDiscovery : ∀ h index, Statement (.doeDiscovery h index) := fun _ _ => all _
theorem cdatTableAccess : ∀ h, Statement (.cdatTableAccess h) := fun _ => all _
theorem spdmGetCertificate : ∀ port off len, Statement (.spdmGetCertificate port off len) := fun _ _ _ => all _
theorem spdmChallenge : ∀ port nonce, Statement (.spdmChallenge port nonce) := fun _ _ => all _
theorem spdmGetMeasurements : ∀ port index sign, Statement (.spdmGetMeasurements port index sign) := fun _ _ _ => all _
theorem spdmKeyExchange : ∀ port requester, Statement (.spdmKeyExchange port requester) := fun _ _ => all _
theorem securedMessage : ∀ port session len tagOk, Statement (.securedMessage port session len tagOk) := fun _ _ _ _ => all _
theorem getPqSignature : ∀ port, Statement (.getPqSignature port) := fun _ => all _
theorem respondIfReady : ∀ port, Statement (.respondIfReady port) := fun _ => all _
theorem getPqCertificate : ∀ port off len, Statement (.getPqCertificate port off len) := fun _ _ _ => all _
theorem setDomainKey : ∀ session d next key, Statement (.setDomainKey session d next key) := fun _ _ _ _ => all _
theorem destroyDomainKey : ∀ session d, Statement (.destroyDomainKey session d) := fun _ _ => all _
theorem startRekey : ∀ session d, Statement (.startRekey session d) := fun _ _ => all _
theorem getKeyInfo : ∀ session d, Statement (.getKeyInfo session d) := fun _ _ => all _
theorem unsealQuarantine : ∀ session seq, Statement (.unsealQuarantine session seq) := fun _ _ => all _
theorem generateDomainKey : ∀ h d next, Statement (.generateDomainKey h d next) := fun _ _ _ => all _
theorem rekeySweepStart : ∀ d, Statement (.rekeySweepStart d) := fun _ => all _
theorem rekeySweepDone : ∀ d, Statement (.rekeySweepDone d) := fun _ => all _
theorem oldGenerationZeroize : ∀ d, Statement (.oldGenerationZeroize d) := fun _ => all _
theorem integEnWrite : ∀ h d value, Statement (.integEnWrite h d value) := fun _ _ _ => all _
theorem cryCntClr : ∀ h, Statement (.cryCntClr h) := fun _ => all _
theorem kveReseed : ∀ h, Statement (.kveReseed h) := fun _ => all _
theorem kveCntClr : ∀ h, Statement (.kveCntClr h) := fun _ => all _
theorem drbgReseedTimer : Statement (.drbgReseedTimer) := all _
theorem entropyFail : Statement (.entropyFail) := all _
theorem entropyRetest : ∀ pass, Statement (.entropyRetest pass) := fun _ => all _
theorem keyVaultOpDone : ∀ ok, Statement (.keyVaultOpDone ok) := fun _ => all _
theorem epochPrepare : ∀ h d e deadline pps, Statement (.epochPrepare h d e deadline pps) := fun _ _ _ _ _ => all _
theorem epochCommit : ∀ h d e, Statement (.epochCommit h d e) := fun _ _ _ => all _
theorem epochAbort : ∀ h d e, Statement (.epochAbort h d e) := fun _ _ _ => all _
theorem getEpochStatus : ∀ h d, Statement (.getEpochStatus h d) := fun _ _ => all _
theorem doorbellPrepare : ∀ h d e, Statement (.doorbellPrepare h d e) := fun _ _ _ => all _
theorem doorbellCommit : ∀ h d e, Statement (.doorbellCommit h d e) := fun _ _ _ => all _
theorem doorbellAbort : ∀ h d e, Statement (.doorbellAbort h d e) := fun _ _ _ => all _
theorem prepareDone : ∀ d, Statement (.prepareDone d) := fun _ => all _
theorem commitDone : ∀ d, Statement (.commitDone d) := fun _ => all _
theorem abortDone : ∀ d bad, Statement (.abortDone d bad) := fun _ _ => all _
theorem epochEnableWrite : ∀ h d, Statement (.epochEnableWrite h d) := fun _ _ => all _
theorem epochDisableWrite : ∀ h d, Statement (.epochDisableWrite h d) := fun _ _ => all _
theorem epochEnabled : ∀ d, Statement (.epochEnabled d) := fun _ => all _
theorem epoCntClr : ∀ h, Statement (.epoCntClr h) := fun _ => all _
theorem stripeTimeout : ∀ g, Statement (.stripeTimeout g) := fun _ => all _
theorem padNow : ∀ h g, Statement (.padNow h g) := fun _ _ => all _
theorem plyAdmitOff : ∀ h g value, Statement (.plyAdmitOff h g value) := fun _ _ _ => all _
theorem plyCntClr : ∀ h g, Statement (.plyCntClr h g) := fun _ _ => all _
theorem mergeReadDone : ∀ line result, Statement (.mergeReadDone line result) := fun _ _ => all _
theorem upstreamFrame : ∀ n f, Statement (.upstreamFrame n f) := fun _ _ => all _
theorem lineVerify : ∀ line, Statement (.lineVerify line) := fun _ => all _
theorem reconstructionDone : ∀ line result, Statement (.reconstructionDone line result) := fun _ _ => all _
theorem poisonTimer : ∀ line, Statement (.poisonTimer line) := fun _ => all _
theorem downstreamFrameAccepted : ∀ n, Statement (.downstreamFrameAccepted n) := fun _ => all _
theorem completionTimeout : ∀ n slot found, Statement (.completionTimeout n slot found) := fun _ _ _ => all _
theorem mapRecordAppend : ∀ g, Statement (.mapRecordAppend g) := fun _ => all _
theorem journalLineTimeout : Statement (.journalLineTimeout) := all _
theorem journalLineDurable : Statement (.journalLineDurable) := all _
theorem checkpointRecordCount : Statement (.checkpointRecordCount) := all _
theorem checkpointPeriod : Statement (.checkpointPeriod) := all _
theorem ckptNow : ∀ h, Statement (.ckptNow h) := fun _ => all _
theorem mapCntClr : ∀ h, Statement (.mapCntClr h) := fun _ => all _
theorem checkpointDone : Statement (.checkpointDone) := all _
theorem mapFill : ∀ kind idx ok, Statement (.mapFill kind idx ok) := fun _ _ _ => all _
theorem mapDirtyWaitResume : Statement (.mapDirtyWaitResume) := all _
theorem mapCleaner : Statement (.mapCleaner) := all _
theorem mapPrefetch : ∀ m, Statement (.mapPrefetch m) := fun _ => all _
theorem mapPrefetchDrop : ∀ m, Statement (.mapPrefetchDrop m) := fun _ => all _
theorem sgGapMove : ∀ n half, Statement (.sgGapMove n half) := fun _ _ => all _
theorem gapMoveDone : ∀ n half, Statement (.gapMoveDone n half) := fun _ _ => all _
theorem dirRebuildDone : ∀ line, Statement (.dirRebuildDone line) := fun _ => all _
theorem lineMapLoaded : Statement (.lineMapLoaded) := all _
theorem journalReplayDone : ∀ unreadable, Statement (.journalReplayDone unreadable) := fun _ => all _
theorem openBoltScanDone : ∀ orphans, Statement (.openBoltScanDone orphans) := fun _ => all _
theorem recoveryDone : Statement (.recoveryDone) := all _
theorem ageProbe : ∀ g b, Statement (.ageProbe g b) := fun _ _ => all _
theorem ageProbeDone : ∀ g b cls, Statement (.ageProbeDone g b cls) := fun _ _ _ => all _
theorem wringVictimSelect : ∀ g, Statement (.wringVictimSelect g) := fun _ => all _
theorem staticSwapStart : ∀ g, Statement (.staticSwapStart g) := fun _ => all _
theorem pressVictimSelect : ∀ g, Statement (.pressVictimSelect g) := fun _ => all _
theorem selvageRefresh : ∀ n die triple, Statement (.selvageRefresh n die triple) := fun _ _ _ => all _
theorem boltResetStart : ∀ g b, Statement (.boltResetStart g b) := fun _ _ => all _
theorem paceResume : ∀ g, Statement (.paceResume g) := fun _ => all _
theorem recountDone : ∀ g b valid, Statement (.recountDone g b valid) := fun _ _ _ => all _
theorem rinsePeriod : Statement (.rinsePeriod) := all _
theorem rinseNow : ∀ h, Statement (.rinseNow h) := fun _ => all _
theorem rinsePassDone : Statement (.rinsePassDone) := all _
theorem upkCntClr : ∀ h, Statement (.upkCntClr h) := fun _ => all _
theorem upkBoltHiRead : ∀ h, Statement (.upkBoltHiRead h) := fun _ => all _
theorem darnMetaDone : ∀ g, Statement (.darnMetaDone g) := fun _ => all _
theorem darnDone : ∀ g, Statement (.darnDone g) := fun _ => all _
theorem testStart : Statement (.testStart) := all _
theorem testDone : ∀ type res parts, Statement (.testDone type res parts) := fun _ _ _ => all _
theorem engineTakeback : ∀ g, Statement (.engineTakeback g) := fun _ => all _
theorem aesKat : ∀ g p ok, Statement (.aesKat g p ok) := fun _ _ _ => all _
theorem testRequest : ∀ h type res, Statement (.testRequest h type res) := fun _ _ _ => all _
theorem fltUndo : ∀ h, Statement (.fltUndo h) := fun _ => all _
theorem fltCntClr : ∀ h, Statement (.fltCntClr h) := fun _ => all _
theorem injEnWrite : ∀ h value, Statement (.injEnWrite h value) := fun _ _ => all _
theorem injArm : ∀ h kind count sticky haltOk, Statement (.injArm h kind count sticky haltOk) := fun _ _ _ _ _ => all _
theorem injDisarm : ∀ h, Statement (.injDisarm h) := fun _ => all _
theorem quarantineRelease : ∀ h n, Statement (.quarantineRelease h n) := fun _ _ => all _
theorem queueSelWrite : ∀ h q, Statement (.queueSelWrite h q) := fun _ _ => all _
theorem mrstDeassert : ∀ g, Statement (.mrstDeassert g) := fun _ => all _
theorem mrstPulse : ∀ h mask, Statement (.mrstPulse h mask) := fun _ _ => all _
theorem mrstPulseEnd : ∀ g, Statement (.mrstPulseEnd g) := fun _ => all _
theorem brdRstDeassert : Statement (.brdRstDeassert) := all _
theorem trainingStepDone : ∀ n info, Statement (.trainingStepDone n info) := fun _ _ => all _
theorem trainingStepTimeout : ∀ n, Statement (.trainingStepTimeout n) := fun _ => all _
theorem retrainDone : ∀ n ok, Statement (.retrainDone n ok) := fun _ _ => all _
theorem skeinOutTimeout : ∀ n, Statement (.skeinOutTimeout n) := fun _ => all _
theorem sknRetrain : ∀ h n, Statement (.sknRetrain h n) := fun _ _ => all _
theorem sknFullRetrain : ∀ h n, Statement (.sknFullRetrain h n) := fun _ _ => all _
theorem sknPkgReset : ∀ h n, Statement (.sknPkgReset h n) := fun _ _ => all _
theorem sknCntClr : ∀ h n, Statement (.sknCntClr h n) := fun _ _ => all _
theorem sidebandResponse : ∀ n status data, Statement (.sidebandResponse n status data) := fun _ _ _ => all _
theorem sidebandTimeout : ∀ n, Statement (.sidebandTimeout n) := fun _ => all _
theorem tempPoll : Statement (.tempPoll) := all _
theorem standbyPowerOn : ∀ hbif, Statement (.standbyPowerOn hbif) := fun _ => all _
theorem standbyPowerLoss : Statement (.standbyPowerLoss) := all _
theorem powerUpStart : Statement (.powerUpStart) := all _
theorem railQualified : Statement (.railQualified) := all _
theorem railSettled : Statement (.railSettled) := all _
theorem chatter : Statement (.chatter) := all _
theorem stepTimeout : Statement (.stepTimeout) := all _
theorem railLost : ∀ i, Statement (.railLost i) := fun _ => all _
theorem retryStart : Statement (.retryStart) := all _
theorem railOff : ∀ i, Statement (.railOff i) := fun _ => all _
theorem railStuck : ∀ i, Statement (.railStuck i) := fun _ => all _
theorem offHoldEnd : Statement (.offHoldEnd) := all _
theorem seqUpInFall : Statement (.seqUpInFall) := all _
theorem seqUpInRise : Statement (.seqUpInRise) := all _
theorem seqDnInRise : Statement (.seqDnInRise) := all _
theorem cascadeTimeout : Statement (.cascadeTimeout) := all _
theorem localOff : ∀ h key, Statement (.localOff h key) := fun _ _ => all _
theorem powerFail : Statement (.powerFail) := all _
theorem devReset : ∀ h key, Statement (.devReset h key) := fun _ _ => all _
theorem devResetDone : Statement (.devResetDone) := all _
theorem pwrCntClr : ∀ h, Statement (.pwrCntClr h) := fun _ => all _
theorem firmwareRunning : Statement (.firmwareRunning) := all _
theorem memoryActive : Statement (.memoryActive) := all _
theorem pldmRequestUpdate : ∀ port size, Statement (.pldmRequestUpdate port size) := fun _ _ => all _
theorem pldmFirmwareData : ∀ off data leavesOk, Statement (.pldmFirmwareData off data leavesOk) := fun _ _ _ => all _
theorem pldmDataTimeout : Statement (.pldmDataTimeout) := all _
theorem pldmActivateFirmware : ∀ hitless, Statement (.pldmActivateFirmware hitless) := fun _ => all _
theorem recoveryDoeTransfer : ∀ off data leavesOk, Statement (.recoveryDoeTransfer off data leavesOk) := fun _ _ _ => all _
theorem imageCopyDone : ∀ ok, Statement (.imageCopyDone ok) := fun _ => all _
theorem scheduleFwActivation : ∀ h slot deadline pps targets, Statement (.scheduleFwActivation h slot deadline pps targets) := fun _ _ _ _ _ => all _
theorem cancelScheduledActivation : ∀ h, Statement (.cancelScheduledActivation h) := fun _ => all _
theorem activationImageLoaded : ∀ ok, Statement (.activationImageLoaded ok) := fun _ => all _
theorem activationPauseEnd : ∀ ok, Statement (.activationPauseEnd ok) := fun _ => all _
theorem selfCheckDone : ∀ pass, Statement (.selfCheckDone pass) := fun _ => all _
theorem confirmFw : ∀ h, Statement (.confirmFw h) := fun _ => all _
theorem confirmDeadline : Statement (.confirmDeadline) := all _
theorem deadlineNear : Statement (.deadlineNear) := all _
theorem watchdog : Statement (.watchdog) := all _
theorem applyConfigurationBundle : ∀ h b, Statement (.applyConfigurationBundle h b) := fun _ _ => all _
theorem fwuRecovery : ∀ h key, Statement (.fwuRecovery h key) := fun _ _ => all _
theorem fwuCntClr : ∀ h, Statement (.fwuCntClr h) := fun _ => all _
theorem mctpMessage : ∀ pldm opcode, Statement (.mctpMessage pldm opcode) := fun _ _ => all _
theorem i3cCcc : ∀ code direct arg, Statement (.i3cCcc code direct arg) := fun _ _ _ => all _
theorem readEventRecorder : ∀ h first max, Statement (.readEventRecorder h first max) := fun _ _ _ => all _
theorem clearEventRecorder : ∀ src, Statement (.clearEventRecorder src) := fun _ => all _
theorem eventRecordWrite : Statement (.eventRecordWrite) := all _
theorem repeatWriteback : Statement (.repeatWriteback) := all _
theorem evrCntClr : ∀ h, Statement (.evrCntClr h) := fun _ => all _
theorem msixSend : ∀ h v, Statement (.msixSend h v) := fun _ _ => all _
theorem ntnScrub : ∀ corrected uncorr badCells, Statement (.ntnScrub corrected uncorr badCells) := fun _ _ _ => all _
theorem scrubNow : ∀ h, Statement (.scrubNow h) := fun _ => all _
theorem scrubDone : Statement (.scrubDone) := all _
theorem ntnCntClr : ∀ h, Statement (.ntnCntClr h) := fun _ => all _
theorem optimeTick : Statement (.optimeTick) := all _
theorem pmcFreezeWrite : ∀ h value, Statement (.pmcFreezeWrite h value) := fun _ _ => all _
theorem pmcOverflow : ∀ i k inc, Statement (.pmcOverflow i k inc) := fun _ _ _ => all _
theorem pmcCntClr : ∀ h i, Statement (.pmcCntClr h i) := fun _ _ => all _
theorem cpmuConfigWrite : ∀ h i k group mask enable intEn, Statement (.cpmuConfigWrite h i k group mask enable intEn) := fun _ _ _ _ _ _ _ => all _
theorem jtagInstructionLoad : ∀ inst, Statement (.jtagInstructionLoad inst) := fun _ => all _
theorem jtagExtestExit : Statement (.jtagExtestExit) := all _
theorem hdmDecoderCommit : ∀ h i base size ways gran dpaBase skip lock, Statement (.hdmDecoderCommit h i base size ways gran dpaBase skip lock) := fun _ _ _ _ _ _ _ _ _ => all _
theorem firstFormatDone : Statement (.firstFormatDone) := all _
theorem headLinkRecovery : ∀ h, Statement (.headLinkRecovery h) := fun _ => all _
theorem msixControlWrite : ∀ h enable mask, Statement (.msixControlWrite h enable mask) := fun _ _ _ => all _

end Sys2Proof.Laws.Operands
end

