-- ==== Sys2Proof/Tests/Slice0.lean ====
section
/-!
SUPPORT. Tests of the model: small states, what well-formedness refuses, worked values of the spec, and for every statement
with hypotheses a state and operands that meet them all.
-/
set_option Elab.async false
namespace Sys2Proof.Tests
open Machine

/-! ### Small states -/

/-- A small running unit: in ON with the core released, firmware running, the Line Map and the memory active, head 0 up. -/
def up : State :=
  { State.reset with
    pwr := { State.reset.pwr with st := .on, en := 0xFFF#12, qual := 0xFFF#12, settled := 0xFFF#12, coreOn := true, mrst := 0#8, brd := false
                                  seqUpIn := true, seqUpOut := true, seqDnOut := false }
    fwu := { State.reset.fwu with running := true, imgA := some ⟨1, 0x01000000, 1, 1, 1, true, 0⟩ }
    host := { State.reset.host with memActive := true, heads := [(0, { Head.fresh with link := .active, perst := false })] }
    map := { State.reset.map with st := .active, fmt := some ⟨1, 0, 8, 16⟩ }
    cry := { State.reset.cry with drbg := .ready }
    side := { State.reset.side with i3cAddr := some 0x22 } }

/-- `up` with another power state. -/
def pw (f : PwrState → PwrState) : State := { up with pwr := f up.pwr }

/-- `up` with a register field set. -/
def upFld (f : Fld) (v : Nat) : State := up.setFld f v

/-- `up` with skein `n`'s link as given. -/
def lk (n : Nat) (f : SkeinLink → SkeinLink) : State := up.setLink1 n (f SkeinLink.fresh)

/-- An active link. -/
def act (x : SkeinLink) : SkeinLink := { x with st := .active, pkg := .compatible, trained := true, version := 2, dies := 16 }

/-- `up` with the front cache in a mode. -/
def ca (m : FchMode) (f : FchState → FchState) : State := { up with fch := f { up.fch with mode := m } }

/-- A unit whose head 0 decodes a 1 GiB extent of domain 0 (host lines 0 to 2^22 - 1) at host address 0. -/
def hostUp (m : FchMode) (d : Dom) (f : FchState → FchState) : State :=
  { ca m f with
    host := { up.host with heads := [(0, { Head.fresh with link := .active, perst := false, decoders := [(0, ⟨true, false, false, 0, 2 ^ 30, 1, 256, 0, 0⟩)] })] }
    cry := { up.cry with doms := [(0, { d with base := 0, count := 1 })] } }

/-- A domain that is ACTIVE. -/
def liveDom : Dom := { Dom.fresh with st := .active, gen0 := none }

/-- A cached line, all of whose sectors are valid, dirty where `sd` says. -/
def cl (line : Nat) (sd : BitVec 4) : CLine := { CLine.blank line 0 with sv := 0xF#4, sd := sd, d := Quad.all 7#512 }

/-- `hostUp` with ply group 0 able to take host lines: an open host bolt of width 16. -/
def stageUp (f : FchState → FchState) (hs : List Handed) : State :=
  { hostUp .on liveDom f with
    wp := { up.wp with groups := [(0, { Group.fresh with host := some ⟨0, 16, 0⟩ })], handed := hs }
    upk := { up.upk with bolts := [(0, { Bolt.fresh with st := .open_ })] } }

/-- A full-line write going around the cache. -/
def hd (line : Nat) : Handed :=
  ⟨line, 0, 0, Quad.all 7#512, 0xF#4, Quad.all 0#64, 0#4, false, false, some (0, 7)⟩

/-- Domain 0 with epochs on, in a state of its own. -/
def ep (f : EpoDom → EpoDom) : State :=
  { (hostUp .on { liveDom with epochEn := true } id).setFld F.topMidxAssigned 1 with
    epo := { up.epo with doms := [(0, f { EpoDom.fresh with st := .open_, c := 4, openTab := [] })] } }

/-- A key-administrator session 9 on head 0's connection. -/
def adm (s : State) : State := { s with fwu := { s.fwu with sessions := [⟨0, 9, true, true⟩] } }

/-- A key in a slot. -/
def key1 : KeySlot := ⟨1#256, 1, 2#64, 0, 1⟩

/-- `hostUp` with domain 0 as given and an administrator session. -/
def kd (d : Dom) : State := adm (hostUp .on d id)

/-- A quarantine record of domain 0, before and with its tag. -/
def q0 : QuarRec := ⟨false, false, 5, 0, 1#4, 77, 0, 0, 0, 3, 0#64, [1#512, 2#512, 3#512]⟩
def q1 : QuarRec := { q0 with tag := quarTag key1.key q0 }

/-- A stripe of bolt 0 of a group, holding lines. -/
def strp (xs : List Staged) : Stripe :=
  { part := .host, block := 0, idx := 0, w := 16, lines := xs, done := 0#16, fails := 0, isOpen := true, sealed := false, first := 0 }

/-- A host line of domain 0 in staging. -/
def sl (line : Nat) : Staged := { Staged.filler with kind := .host, line := line, seq := 5, recorded := false }

/-- Group 0 with stripes; domain 0 without integrity; map line 0 in the map cache. -/
def grp (xs : List Stripe) : State :=
  let s := stageUp id []
  { s with
    cry := { s.cry with doms := [(0, { liveDom with integ := false, base := 0, count := 1 })] }
    map := { s.map with cached := [⟨0, 0, false, 0, 0, 0, 0⟩] }
    wp := { s.wp with groups := [(0, { Group.fresh with host := some ⟨0, 16, 1⟩, stripes := xs })] } }

/-- `up` with the map state changed. -/
def mp (f : MapState → MapState) : State := { up with map := f up.map }

/-- A journal record. -/
def jr (n : Nat) : JRec := { JRec.blank with jsn := n, line := 1 }

/-- `hostUp` with one media read in progress of line 5, for tag 7 of head 0. -/
def rdUp (f : Rd → Rd) : State :=
  let s := hostUp .off { liveDom with integ := false, gen0 := some ⟨1#256, 1, 2#64, 0, 1⟩ }
    (fun x => { x with mshr := [⟨5, 0, [{ Req.rd 0 7 with line := 5, sec := 3 }], [], false, false, false⟩] })
  { s with rd := { s.rd with reads := [f { Rd.fresh 5 0 .demand with st := .needData, addr := 3, seq10 := 9 }] }
           link := { s.link with sk := [(0, act SkeinLink.fresh)] } }

/-- The decoded line of `rdUp`. -/
def cd : Code := ⟨Quad.all 1#512, 5, 9, 0, 0, false⟩

/-- A read of line 5 for tag 7 of head 0. -/
def rq : Req := { Req.rd 0 7 with line := 5, sec := 3 }

/-- A program of member 2 of bolt 0 of group 0, stripe 0, outstanding in slot 5. -/
def op5 : Nat × DnOp := (5, ⟨clsHwr, .programDense, mkAddr 2 0 0⟩)
def opUp : State :=
  (grp [{ strp [sl 3] with isOpen := false }]).setWarp1 2 { SkeinWarp.fresh with ops := [op5] }

/-- A downstream frame without an operation. -/
def fr0 : DnFrame := ⟨0, none, []⟩

/-- `up` with the warp state of skein `n` as given and its link active. -/
def wk (n : Nat) (f : SkeinWarp → SkeinWarp) : State := (lk n act).setWarp1 n (f { SkeinWarp.fresh with mode := .normal })

/-- A waiting program. -/
def dn0 : DnOp := ⟨clsHwr, .programDense, mkAddr 2 0 0⟩

/-- `up` with bolt 200 of group 0 as given, and the upkeep state of group 0. -/
def bo (x : Bolt) (f : UpkGroup → UpkGroup) : State :=
  { up with upk := { up.upk with bolts := [(200, x)], groups := [(0, f { UpkGroup.fresh with total := 1 })] } }

/-- A sealed bolt with one live line. -/
def b0 : Bolt := { Bolt.fresh with st := .sealed, kind := 0, valid := 1, tt := 16382 }

/-- `up` with the fault manager's state changed. -/
def ft (f : FltState → FltState) : State := { up with flt := f up.flt }

/-- A running test of skein 3. -/
def te (errors : Nat) : TestRec := ⟨resSkein 3, true, errors, 0, 3, false, 0⟩

/-- An INJECTED entry of the retirement table. -/
def ret0 : RetEnt := ⟨true, false, resSkein 3, 1, 0⟩

/-- `ft` with injection enabled for a skein's link. -/
def injUp : State :=
  ((ft (fun f => { f with injAllowed := true })).setFld F.fltCtlInjEn 1).setFld F.fltInjTgtType 4

/-- `up` with head 0 as given. -/
def h0 (f : Head → Head) : State :=
  { up with host := { up.host with heads := [(0, f { Head.fresh with link := .active, perst := false })] } }

/-- `up` with the poison list, scan state and results changed. -/
def rs (f : ReadState → ReadState) : State := { up with rd := f up.rd }

/-- `hostUp` with a lost line 3 and a scan of lines 0 to 7 running. -/
def scanUp : State :=
  let q := hostUp .on liveDom id
  { q with map := { q.map with ent := [(3, Entry.lost)] }, rd := { q.rd with scan := some ⟨0, 8, false⟩ }
           host := { q.host with bg := some (.scan, 0) } }

/-- `up` with the firmware's state changed. -/
def fw (f : FwuState → FwuState) : State := { up with fwu := f up.fwu }

/-- An image. -/
def im (svn : Nat) : Image := ⟨svn, 0x01000000, 1, 1, 1, true, 0⟩

/-- A boot record. -/
def br (st : BootSt) : BootRec := { BootRec.blank with st := st, deadline := 0 }

/-- A transfer whose image is all there. -/
def xf : Xfer := { Xfer.start .pldm 16 8 with copying := true }

/-- `up` with an image waiting in slot B. -/
def stUp : State := fw (fun f => { f with imgB := some (im 1), pendingImg := true })

/-- `up` with its image in trial. -/
def trUp (k : Nat) (svn : Nat) : State :=
  fw (fun f => { f with imgA := some (im svn), boot := some (br .trial), selfCheck := k })

/-- A configuration bundle that names no unit. -/
def bu (ok : Bool) : Bundle := ⟨0#64, 1, 0, ok, [.subsystem 5 6]⟩

/-- `up` with every link of group 0 active. -/
def lkUp : State := { up with link := ⟨(List.range 16).map fun n => (n, act SkeinLink.fresh)⟩ }

/-- A record of the event recorder. -/
def ev0 : EvRec := ⟨5, 6, 1, 0, 0, 0, 0, 5, 7, 8, 9⟩

/-! ### What well-formedness refuses: one term for each check -/

theorem test_wf_misalignedAccess_h_1 : Instr.wf (.misalignedAccess 8 false 3 8) = false := by decide
theorem test_wf_misalignedAccess_off_2 : Instr.wf (.misalignedAccess 0 false (2 ^ 25) 8) = false := by decide
theorem test_wf_misalignedAccess_off_3 : Instr.wf (.misalignedAccess 0 false 8 8) = false := by decide
theorem test_wf_controlBarWrite_off_4 : Instr.wf (.controlBarWrite 0 4 8 0#64) = false := by decide
theorem test_wf_controlBarWrite_width_5 : Instr.wf (.controlBarWrite 0 0 3 0#64) = false := by decide
theorem test_wf_errInfoRead_off_6 : Instr.wf (.errInfoRead 0 0x40 8) = false := by decide
theorem test_wf_evtStsClear_off_7 : Instr.wf (.evtStsClear 0 0x30 8 0#64) = false := by decide
theorem test_wf_evtForce_off_8 : Instr.wf (.evtForce 0 0x20 8 0#64) = false := by decide
theorem test_wf_downstreamSlot_n_9 : Instr.wf (.downstreamSlot 128) = false := by decide
theorem test_wf_aging_cls_10 : Instr.wf (.aging 0 16) = false := by decide
theorem test_wf_stall_q_11 : Instr.wf (.stall (2 ^ 16) 0 []) = false := by decide
theorem test_wf_wrpTemplateWrite_t_12 : Instr.wf (.wrpTemplateWrite 0 false 8 0 8 false 0#64) = false := by decide
theorem test_wf_wrpTemplateWrite_p_13 : Instr.wf (.wrpTemplateWrite 0 false 0 8 8 false 0#64) = false := by decide
theorem test_wf_sknWarpSelWrite_norm_14 : Instr.wf (.sknWarpSelWrite 0 0 8 0) = false := by decide
theorem test_wf_sknWarpSelWrite_degr_15 : Instr.wf (.sknWarpSelWrite 0 0 0 8) = false := by decide
theorem test_wf_thmReadmit_t_16 : Instr.wf (.thmReadmit 0 64) = false := by decide
theorem test_wf_setMediaPowerCap_watts_17 : Instr.wf (.setMediaPowerCap 0 (2 ^ 16) false) = false := by decide
theorem test_wf_headLinkTrained_speed_18 : Instr.wf (.headLinkTrained 0 0 16 false 0#16) = false := by decide
theorem test_wf_headLinkTrained_speed_19 : Instr.wf (.headLinkTrained 0 (4 + 1) 16 false 0#16) = false := by decide
theorem test_wf_headLinkTrained_width_20 : Instr.wf (.headLinkTrained 0 1 3 false 0#16) = false := by decide
theorem test_wf_headDisable_target_21 : Instr.wf (.headDisable 0 8 false) = false := by decide
theorem test_wf_memRd_tag_22 : Instr.wf (.memRd 0 (2 ^ 16) 0#64) = false := by decide
theorem test_wf_invalidMemOpcode_opcode_23 : Instr.wf (.invalidMemOpcode 0 16 0#64) = false := by decide
theorem test_wf_stagingEntry_line_24 : Instr.wf (.stagingEntry (2 ^ 38)) = false := by decide
theorem test_wf_prefetchFill_data_25 : Instr.wf (.prefetchFill 0 [1]) = false := by decide
theorem test_wf_wayEmpty_w_26 : Instr.wf (.wayEmpty 16) = false := by decide
theorem test_wf_maintWb_first_27 : Instr.wf (.maintWb 0 (2 ^ 38) 0) = false := by decide
theorem test_wf_groupFolded_bg_28 : Instr.wf (.groupFolded 16) = false := by decide
theorem test_wf_diagRead_set_29 : Instr.wf (.diagRead 0 (2 ^ 16) 0 0) = false := by decide
theorem test_wf_diagRead_way_30 : Instr.wf (.diagRead 0 0 16 0) = false := by decide
theorem test_wf_diagRead_word_31 : Instr.wf (.diagRead 0 0 0 32) = false := by decide
theorem test_wf_islandFault_g_32 : Instr.wf (.islandFault 8) = false := by decide
theorem test_wf_transferFw_off_33 : Instr.wf (.transferFw 0 0 0 (2 ^ 32) [1, 2, 3, 4] false false) = false := by decide
theorem test_wf_activateFw_slot_34 : Instr.wf (.activateFw 0 false 256) = false := by decide
theorem test_wf_setShutdownState_value_35 : Instr.wf (.setShutdownState 0 256) = false := by decide
theorem test_wf_unsupportedOpcode_opcode_36 : Instr.wf (.unsupportedOpcode 0 (2 ^ 16)) = false := by decide
theorem test_wf_setDomainExtent_d_37 : Instr.wf (.setDomainExtent 0 256 0 0) = false := by decide
theorem test_wf_spdmGetCertificate_port_38 : Instr.wf (.spdmGetCertificate (8 + 1) 0 0) = false := by decide
theorem test_wf_epochPrepare_e_39 : Instr.wf (.epochPrepare 0 0 (2 ^ 48) 0 false) = false := by decide
theorem test_wf_epochPrepare_deadline_40 : Instr.wf (.epochPrepare 0 0 0 (2 ^ 64) false) = false := by decide
theorem test_wf_completionTimeout_slot_41 : Instr.wf (.completionTimeout 0 128 false) = false := by decide
theorem test_wf_mapFill_kind_42 : Instr.wf (.mapFill 4 0 false) = false := by decide
theorem test_wf_sgGapMove_half_43 : Instr.wf (.sgGapMove 0 2) = false := by decide
theorem test_wf_ageProbe_b_44 : Instr.wf (.ageProbe 0 (2 ^ 17)) = false := by decide
theorem test_wf_ageProbeDone_cls_45 : Instr.wf (.ageProbeDone 0 0 (16 + 1)) = false := by decide
theorem test_wf_selvageRefresh_die_46 : Instr.wf (.selvageRefresh 0 16 0) = false := by decide
theorem test_wf_selvageRefresh_triple_47 : Instr.wf (.selvageRefresh 0 0 32) = false := by decide
theorem test_wf_testDone_type_48 : Instr.wf (.testDone 16 0 0) = false := by decide
theorem test_wf_testDone_res_49 : Instr.wf (.testDone 0 (2 ^ 32) 0) = false := by decide
theorem test_wf_testDone_parts_50 : Instr.wf (.testDone 0 0 8) = false := by decide
theorem test_wf_aesKat_p_51 : Instr.wf (.aesKat 0 6 false) = false := by decide
theorem test_wf_injArm_kind_52 : Instr.wf (.injArm 0 16 0 false false) = false := by decide
theorem test_wf_injArm_count_53 : Instr.wf (.injArm 0 0 256 false false) = false := by decide
theorem test_wf_quarantineRelease_n_54 : Instr.wf (.quarantineRelease 0 (2 ^ 32)) = false := by decide
theorem test_wf_railLost_i_55 : Instr.wf (.railLost 12) = false := by decide
theorem test_wf_localOff_key_56 : Instr.wf (.localOff 0 256) = false := by decide
theorem test_wf_scheduleFwActivation_deadline_57 : Instr.wf (.scheduleFwActivation 0 0 (2 ^ 63) false []) = false := by decide
theorem test_wf_msixSend_v_58 : Instr.wf (.msixSend 0 64) = false := by decide
theorem test_wf_pmcOverflow_i_59 : Instr.wf (.pmcOverflow 4 0 0) = false := by decide
theorem test_wf_pmcOverflow_k_60 : Instr.wf (.pmcOverflow 0 64 0) = false := by decide
theorem test_wf_hdmDecoderCommit_i_61 : Instr.wf (.hdmDecoderCommit 0 32 0#64 0#64 0 0 0#64 0#64 false) = false := by decide

/-! ### The hypotheses of every statement can be met -/

theorem witness_BarAccessCommands_1 : up.wf = true ∧ up.ioUp (0 : Nat) = true ∧ (¬ (((4 : Nat) = 4 ∨ (4 : Nat) = 8) ∧
  (2 : Nat) % (4 : Nat) = 0)) :=
  by decide +kernel

theorem witness_BarAccessCommands_2 : up.wf = true ∧ up.ioUp (0 : Nat) = true ∧ (¬ (((16 : Nat) = 4 ∨ (16 : Nat) = 8) ∧
  (0x1100 : Nat) % (16 : Nat) = 0)) :=
  by decide +kernel

theorem witness_BarAccessCommands_3 : up.wf = true ∧ up.barReady (0 : Nat) ∧ (0x1108 : Nat) % 8 = 0 ∧
  windowAt (0x1108 : Nat) = none ∧ pageAt (0x1108 : Nat) = some ((Block.pwr : Block), (0 : Nat), (0x108 : Nat)) ∧
  (Block.pwr : Block) ≠ .hst ∧ ¬ ((Block.pwr : Block) = .epo ∧ (0x108 : Nat) = 0x130) ∧ (0x108 : Nat) ≠ 0x28 ∧
  fieldsAt (Block.pwr : Block) (0 : Nat) (0x108 : Nat) = some ((fieldsIn Block.pwr.regs 0x108).getD [] : List FieldDef) ∧
  orderOk up.begin (0x1108 : Nat) (writeFields ((fieldsIn Block.pwr.regs 0x108).getD [] : List FieldDef) (up.reg (0x1108 :
    Nat)) (0x2AF826AC#64 : BitVec 64) (BitVec.allOnes 64)) = true :=
  by decide +kernel

theorem witness_BarAccessCommands_4 : (up.raise Ev.topAccessErr : State).wf = true ∧
  (up.raise Ev.topAccessErr : State).ioUp (0 : Nat) = true ∧ (0x38 : Nat) % 8 = 0 ∧ (Block.top : Block) ≠ .hst ∧
  pageAt (0x38 : Nat) = some ((Block.top : Block), (0 : Nat), 0x38) :=
  by decide +kernel

theorem witness_BarAccessCommands_5 : (up.raise Ev.topAccessErr : State).wf = true ∧
  (up.raise Ev.topAccessErr : State).barReady (0 : Nat) ∧ (0x20 : Nat) % 8 = 0 ∧ (Block.top : Block) ≠ .hst ∧
  pageAt (0x20 : Nat) = some ((Block.top : Block), (0 : Nat), 0x20) :=
  by decide +kernel

theorem witness_BarAccessCommands_6 : up.wf = true ∧ up.barReady (0 : Nat) ∧ (0x40030 : Nat) % 8 = 0 ∧
  (Block.skn : Block) ≠ .hst ∧ pageAt (0x40030 : Nat) = some ((Block.skn : Block), (0 : Nat), 0x30) ∧
  (6 : Nat) < (Block.skn : Block).eventBits ∧ (0x40#64 : BitVec 64).getLsbD (6 : Nat) = true ∧
  ¬ ((Block.skn : Block) = .skn ∧ (6 : Nat) = 7) :=
  by decide +kernel

theorem witness_TimeCommands_1 : up.wf = true ∧ up.mboxRwReady (0 : Nat) :=
  by decide +kernel

theorem witness_TimeCommands_2 : up.mboxReady (0 : Nat) :=
  by decide +kernel

theorem witness_TimeCommands_3_1 :
    ({ up with time := { up.time with ppsLocked := true, lastEdge := some 0, upNs := 1000000000, devtime := 5000250000 } }
    : State).wf = true ∧
  ({ up with time := { up.time with ppsLocked := true, lastEdge := some 0, upNs := 1000000000, devtime := 5000250000 } } :
    State).pwr.coreOn = true ∧
  ({ up with time := { up.time with ppsLocked := true, lastEdge := some 0, upNs := 1000000000, devtime := 5000250000 } } :
    State).time.ppsLocked = true ∧
  edgeFits
    (({ up with time := { up.time with ppsLocked := true, lastEdge := some 0, upNs := 1000000000, devtime := 5000250000 } }
    : State).time.upNs -
    ({ up with time := { up.time with ppsLocked := true, lastEdge := some 0, upNs := 1000000000, devtime := 5000250000 } }
    : State).time.lastEdge.getD 0) = true ∧
  (250000 : Int) =
    (({ up with time := { up.time with ppsLocked := true, lastEdge := some 0, upNs := 1000000000, devtime := 5000250000 } }
    : State).time.devtime : Int) - nearestSecond
    ({ up with time := { up.time with ppsLocked := true, lastEdge := some 0, upNs := 1000000000, devtime := 5000250000 } }
    : State).time.devtime :=
  by decide +kernel

theorem witness_TimeCommands_3_2 :
    ({ up with time := { up.time with ppsLocked := true, lastEdge := some 0, upNs := 1000000000, devtime := 5000250001 } }
    : State).wf = true ∧
  ({ up with time := { up.time with ppsLocked := true, lastEdge := some 0, upNs := 1000000000, devtime := 5000250001 } } :
    State).pwr.coreOn = true ∧
  ({ up with time := { up.time with ppsLocked := true, lastEdge := some 0, upNs := 1000000000, devtime := 5000250001 } } :
    State).time.ppsLocked = true ∧
  edgeFits
    (({ up with time := { up.time with ppsLocked := true, lastEdge := some 0, upNs := 1000000000, devtime := 5000250001 } }
    : State).time.upNs -
    ({ up with time := { up.time with ppsLocked := true, lastEdge := some 0, upNs := 1000000000, devtime := 5000250001 } }
    : State).time.lastEdge.getD 0) = true ∧
  (250001 : Int) =
    (({ up with time := { up.time with ppsLocked := true, lastEdge := some 0, upNs := 1000000000, devtime := 5000250001 } }
    : State).time.devtime : Int) - nearestSecond
    ({ up with time := { up.time with ppsLocked := true, lastEdge := some 0, upNs := 1000000000, devtime := 5000250001 } }
    : State).time.devtime :=
  by decide +kernel

theorem witness_TimeCommands_3_3 :
    ({ up with time := { up.time with ppsLocked := true, lastEdge := some 0, upNs := 3100000000, devtime := 4999749999 } }
    : State).wf = true ∧
  ({ up with time := { up.time with ppsLocked := true, lastEdge := some 0, upNs := 3100000000, devtime := 4999749999 } } :
    State).pwr.coreOn = true ∧
  ({ up with time := { up.time with ppsLocked := true, lastEdge := some 0, upNs := 3100000000, devtime := 4999749999 } } :
    State).time.ppsLocked = true ∧
  edgeFits
    (({ up with time := { up.time with ppsLocked := true, lastEdge := some 0, upNs := 3100000000, devtime := 4999749999 } }
    : State).time.upNs -
    ({ up with time := { up.time with ppsLocked := true, lastEdge := some 0, upNs := 3100000000, devtime := 4999749999 } }
    : State).time.lastEdge.getD 0) = true ∧
  (-250001 : Int) =
    (({ up with time := { up.time with ppsLocked := true, lastEdge := some 0, upNs := 3100000000, devtime := 4999749999 } }
    : State).time.devtime : Int) - nearestSecond
    ({ up with time := { up.time with ppsLocked := true, lastEdge := some 0, upNs := 3100000000, devtime := 4999749999 } }
    : State).time.devtime :=
  by decide +kernel

theorem witness_TimeCommands_4 :
    ({ up with time := { up.time with ppsLocked := true, lastEdge := some 0, upNs := 1100000001 } } : State).wf = true ∧
  ({ up with time := { up.time with ppsLocked := true, lastEdge := some 0, upNs := 1100000001 } } : State).pwr.coreOn =
    true ∧
  ({ up with time := { up.time with ppsLocked := true, lastEdge := some 0, upNs := 1100000001 } } : State).time.ppsLocked
    = true ∧
  edgeFits (({ up with time := { up.time with ppsLocked := true, lastEdge := some 0, upNs := 1100000001 } } :
    State).time.upNs - ({ up with time := { up.time with ppsLocked := true, lastEdge := some 0, upNs := 1100000001 } } :
    State).time.lastEdge.getD 0) = false :=
  by decide +kernel

theorem witness_TimeCommands_5 : ({ up with time := { up.time with candidate := some 5, upNs := 900000005 } } : State).wf
    = true ∧ ({ up with time := { up.time with candidate := some 5, upNs := 900000005 } } : State).pwr.coreOn = true ∧
  ({ up with time := { up.time with candidate := some 5, upNs := 900000005 } } : State).time.ppsLocked = false ∧
  ({ up with time := { up.time with candidate := some 5, upNs := 900000005 } } : State).time.candidate = some (5 : Nat) ∧
  900000000 ≤ ({ up with time := { up.time with candidate := some 5, upNs := 900000005 } } : State).time.upNs - (5 : Nat)
    ∧
  ({ up with time := { up.time with candidate := some 5, upNs := 900000005 } } : State).time.upNs - (5 : Nat) ≤ 1100000000
    :=
  by decide +kernel

theorem witness_TimeCommands_6 : ({ up with time := { up.time with ppsLocked := true, slewLeft := 5 } } : State).wf = true
    ∧ ({ up with time := { up.time with ppsLocked := true, slewLeft := 5 } } : State).pwr.coreOn = true ∧
  ({ up with time := { up.time with ppsLocked := true, slewLeft := 5 } } : State).time.ppsLocked = true :=
  by decide +kernel

theorem witness_TimeCommands_7 : up.wf = true ∧ up.mboxRwReady (0 : Nat) ∧ (0x3FFFF#32 : BitVec 32).toNat < 2 ^ 18 ∧
  up.fld F.topMidxAssigned = 0 :=
  by decide +kernel

theorem witness_TimeCommands_8 : up.wf = true ∧ up.pwr.coreOn = true ∧ up.bestCell 4 16 = some ((0 : Nat), (0 : Nat)) ∧
  (0 : Nat) + 1000 ≤ 2 ^ 56 - 1 ∧ up.cellGood 4 (((0 : Nat) + 1) % 16) = true :=
  by decide +kernel

theorem witness_LinkTrainingCommands_1 : (lk 127 (fun x => { x with st := .equalise }) : State).wf = true ∧
  (lk 127 (fun x => { x with st := .equalise }) : State).pwr.coreOn = true ∧
  (lk 127 (fun x => { x with st := .equalise }) : State).populated (127 : Nat) = true ∧
  ((lk 127 (fun x => { x with st := .equalise }) : State).link1 (127 : Nat)).st = .equalise :=
  by decide +kernel

theorem witness_LinkTrainingCommands_2 : (lk 0 (fun x => { x with st := .align }) : State).wf = true ∧
  (lk 0 (fun x => { x with st := .align }) : State).pwr.coreOn = true ∧
  (lk 0 (fun x => { x with st := .align }) : State).populated (0 : Nat) = true ∧
  ((lk 0 (fun x => { x with st := .align }) : State).link1 (0 : Nat)).st = .align ∧ 4 ≤ (16 : Nat) ∧ (16 : Nat) ≤ 16 :=
  by decide +kernel

theorem witness_LinkTrainingCommands_3 : (lk 0 (fun x => { x with st := .test }) : State).wf = true ∧
  (lk 0 (fun x => { x with st := .test }) : State).pwr.coreOn = true ∧
  (lk 0 (fun x => { x with st := .test }) : State).populated (0 : Nat) = true ∧
  ((lk 0 (fun x => { x with st := .test }) : State).link1 (0 : Nat)).st = .test :=
  by decide +kernel

theorem witness_LinkTrainingCommands_4 :
    ({ lk 0 (fun x => { x with st := .discover }) with map := { up.map with fmt := none } } : State).wf = true ∧
  ({ lk 0 (fun x => { x with st := .discover }) with map := { up.map with fmt := none } } : State).pwr.coreOn = true ∧
  ({ lk 0 (fun x => { x with st := .discover }) with map := { up.map with fmt := none } } : State).populated (0 : Nat) =
    true ∧
  (({ lk 0 (fun x => { x with st := .discover }) with map := { up.map with fmt := none } } : State).link1 (0 : Nat)).st =
    .discover ∧
  ({ lk 0 (fun x => { x with st := .discover }) with map := { up.map with fmt := none } } : State).map.fmt = none ∧
  ((1 : Nat),
  (5 : Nat)) ∈ shortRows (16 : Nat)
    (({ lk 0 (fun x => { x with st := .discover }) with map := { up.map with fmt := none } } : State).pickVersion (0 :
    Nat) (0 : Nat)) ([] : List Nat) ∧ (1 : Nat) ≤ 3 :=
  by decide +kernel

theorem witness_LinkTrainingCommands_5_1 : (lk 0 (fun x => { x with st := .test }) : State).wf = true ∧
  (lk 0 (fun x => { x with st := .test }) : State).pwr.coreOn = true ∧
  (lk 0 (fun x => { x with st := .test }) : State).populated (0 : Nat) = true ∧
  (((lk 0 (fun x => { x with st := .test }) : State).link1 (0 : Nat)).st = .equalise ∨ ((lk 0 (fun x =>
    { x with st := .test }) : State).link1 (0 : Nat)).st = .align ∨ ((lk 0 (fun x => { x with st := .test }) :
    State).link1 (0 : Nat)).st = .test) :=
  by decide +kernel

theorem witness_LinkTrainingCommands_5_2 : (lk 0 (fun x => { x with st := .align, fails := 1 }) : State).wf = true ∧
  (lk 0 (fun x => { x with st := .align, fails := 1 }) : State).pwr.coreOn = true ∧
  (lk 0 (fun x => { x with st := .align, fails := 1 }) : State).populated (0 : Nat) = true ∧
  (((lk 0 (fun x => { x with st := .align, fails := 1 }) : State).link1 (0 : Nat)).st = .equalise ∨ ((lk 0 (fun x =>
    { x with st := .align, fails := 1 }) : State).link1 (0 : Nat)).st = .align ∨ ((lk 0 (fun x =>
    { x with st := .align, fails := 1 }) : State).link1 (0 : Nat)).st = .test) :=
  by decide +kernel

theorem witness_LinkTrainingCommands_6_1 : (lk 0 (fun x => { x with st := .retrain }) : State).wf = true ∧
  (lk 0 (fun x => { x with st := .retrain }) : State).pwr.coreOn = true ∧
  ((lk 0 (fun x => { x with st := .retrain }) : State).link1 (0 : Nat)).st = .retrain ∧
  (((lk 0 (fun x => { x with st := .retrain }) : State).link1 (0 : Nat)).retrainFails = 0 ∨ (true : Bool) = true ∨ ((lk 0
    (fun x => { x with st := .retrain }) : State).link1 (0 : Nat)).retrainFails = 1) :=
  by decide +kernel

theorem witness_LinkTrainingCommands_6_2 : (lk 0 (fun x => { x with st := .retrain, retrainFails := 1 }) : State).wf =
    true ∧ (lk 0 (fun x => { x with st := .retrain, retrainFails := 1 }) : State).pwr.coreOn = true ∧
  ((lk 0 (fun x => { x with st := .retrain, retrainFails := 1 }) : State).link1 (0 : Nat)).st = .retrain ∧
  (((lk 0 (fun x => { x with st := .retrain, retrainFails := 1 }) : State).link1 (0 : Nat)).retrainFails = 0 ∨ (false :
    Bool) = true ∨ ((lk 0 (fun x => { x with st := .retrain, retrainFails := 1 }) : State).link1 (0 : Nat)).retrainFails =
    1) :=
  by decide +kernel

theorem witness_LinkTrainingCommands_7 : (lk 0 (fun x => { x with st := .retrain, trained := true }) : State).wf = true ∧
  (lk 0 (fun x => { x with st := .retrain, trained := true }) : State).pwr.coreOn = true ∧
  ((lk 0 (fun x => { x with st := .retrain, trained := true }) : State).link1 (0 : Nat)).trained = true ∧
  ((lk 0 (fun x => { x with st := .retrain, trained := true }) : State).link1 (0 : Nat)).st ≠ .active ∧
  ((lk 0 (fun x => { x with st := .retrain, trained := true }) : State).link1 (0 : Nat)).outLong = false ∧
  (lk 0 (fun x => { x with st := .retrain, trained := true }) : State).skeinRetired (0 : Nat) = false :=
  by decide +kernel

theorem witness_LinkTrainingCommands_8 : (lk 127 act : State).wf = true ∧ (lk 127 act : State).barReady (0 : Nat) ∧
  ((lk 127 act : State).link1 (127 : Nat)).st = .active ∧ (127 : Nat) < 128 :=
  by decide +kernel

theorem witness_LinkTrainingCommands_9 : (lk 0 act : State).wf = true ∧ (lk 0 act : State).barReady (0 : Nat) ∧
  (((lk 0 act : State).link1 (0 : Nat)).st = .active ∨ ((lk 0 act : State).link1 (0 : Nat)).st = .retrain) :=
  by decide +kernel

theorem witness_LinkTrainingCommands_10 : (lk 0 act : State).wf = true ∧ (lk 0 act : State).barReady (0 : Nat) ∧
  (lk 0 act : State).populated (0 : Nat) = true ∧ ((lk 0 act : State).link1 (0 : Nat)).st ≠ .reset ∧
  (lk 0 act : State).retiredRes (resSkein (0 : Nat)) = false :=
  by decide +kernel

theorem witness_LinkTrainingCommands_11 : (up.bump (F.sknLinkCntUpFails 5) 3 : State).wf = true ∧
  (up.bump (F.sknLinkCntUpFails 5) 3 : State).barReady (0 : Nat) :=
  by decide +kernel

theorem witness_MediaResetCommands_1 : (lk 0 (fun x => { act x with sb := some ⟨3, 0⟩ }) : State).wf = true ∧
  (lk 0 (fun x => { act x with sb := some ⟨3, 0⟩ }) : State).pwr.coreOn = true ∧
  ((lk 0 (fun x => { act x with sb := some ⟨3, 0⟩ }) : State).link1 (0 : Nat)).sb = some (⟨3, 0⟩ : SbOp) ∧ (⟨3,
  0⟩ : SbOp).cmd = 3 ∧ ((lk 0 (fun x => { act x with sb := some ⟨3, 0⟩ }) : State).link1 (0 : Nat)).pollDue = false :=
  by decide +kernel

theorem witness_MediaResetCommands_2 : (lk 0 (fun x => { act x with sb := some ⟨3, 2⟩ }) : State).wf = true ∧
  (lk 0 (fun x => { act x with sb := some ⟨3, 2⟩ }) : State).pwr.coreOn = true ∧
  ((lk 0 (fun x => { act x with sb := some ⟨3, 2⟩ }) : State).link1 (0 : Nat)).sb = some (⟨3, 2⟩ : SbOp) ∧ (⟨3,
  2⟩ : SbOp).tries < 3 :=
  by decide +kernel

theorem witness_MediaResetCommands_3 : (lk 0 (fun x => { act x with sb := some ⟨7, 3⟩ }) : State).wf = true ∧
  (lk 0 (fun x => { act x with sb := some ⟨7, 3⟩ }) : State).pwr.coreOn = true ∧
  ((lk 0 (fun x => { act x with sb := some ⟨7, 3⟩ }) : State).link1 (0 : Nat)).sb = some (⟨7, 3⟩ : SbOp) ∧ (⟨7,
  3⟩ : SbOp).tries = 3 ∧ (⟨7, 3⟩ : SbOp).cmd ≠ 3 ∧
  ((lk 0 (fun x => { act x with sb := some ⟨7, 3⟩ }) : State).link1 (0 : Nat)).pollDue = false :=
  by decide +kernel

theorem witness_MediaResetCommands_4 : ({ lk 0 act with popP := 1 } : State).wf = true ∧
  ({ lk 0 act with popP := 1 } : State).pwr.coreOn = true ∧ ({ lk 0 act with popP := 1 } : State).popP = 1 ∧
  (({ lk 0 act with popP := 1 } : State).link1 0).st = .active ∧
  (({ lk 0 act with popP := 1 } : State).link1 0).sb = none ∧
  ((List.range 15).all fun i => (({ lk 0 act with popP := 1 } : State).link1 (i + 1)).st != .active) = true :=
  by decide +kernel

theorem witness_MediaResetCommands_5 : (pw (fun p => { p with mrst := 0xFF#8 }) : State).wf = true ∧
  (pw (fun p => { p with mrst := 0xFF#8 }) : State).pwr.stby = true ∧
  (7 : Nat) < (pw (fun p => { p with mrst := 0xFF#8 }) : State).popP ∧ (7 : Nat) < 8 ∧
  (pw (fun p => { p with mrst := 0xFF#8 }) : State).mediaUp (7 : Nat) = true ∧
  (pw (fun p => { p with mrst := 0xFF#8 }) : State).pwr.mrst.getLsbD (7 : Nat) = true ∧
  (pw (fun p => { p with mrst := 0xFF#8 }) : State).pwr.pulse.getLsbD (7 : Nat) = false ∧
  (pw (fun p => { p with mrst := 0xFF#8 }) : State).pwr.devReset ≠ .holding :=
  by decide +kernel

theorem witness_MediaResetCommands_6 : up.wf = true ∧ up.barReady (0 : Nat) ∧ (7 : Nat) < up.popP ∧ (7 : Nat) < 8 ∧
  ((List.range 16).all fun i => decide ((up.link1 (16 * (7 : Nat) + i)).st ≠ .active)) = true :=
  by decide +kernel

theorem witness_MediaResetCommands_7 : (pw (fun p => { p with mrst := 0x80#8, pulse := 0x80#8 }) : State).pwr.stby = true
    ∧ (pw (fun p => { p with mrst := 0x80#8, pulse := 0x80#8 }) : State).pwr.pulse.getLsbD (7 : Nat) = true :=
  by decide +kernel

theorem witness_MediaResetCommands_8 : (pw (fun p => { p with brd := true }) : State).pwr.stby = true ∧
  (pw (fun p => { p with brd := true }) : State).pwr.st = .on ∧
  (pw (fun p => { p with brd := true }) : State).pwr.brd = true :=
  by decide +kernel

theorem witness_PowerUpCommands_1 : (pw (fun p => { p with stby := false, lossSt := 9 }) : State).wf = true ∧
  (pw (fun p => { p with stby := false, lossSt := 9 }) : State).pwr.stby = false :=
  by decide +kernel

theorem witness_PowerUpCommands_2 : up.pwr.stby = true :=
  by decide +kernel

theorem witness_PowerUpCommands_3 : ({ State.reset with pwr := { State.reset.pwr with seqUpIn := true } } : State).wf =
    true ∧ ({ State.reset with pwr := { State.reset.pwr with seqUpIn := true } } : State).pwr.stby = true ∧
  ({ State.reset with pwr := { State.reset.pwr with seqUpIn := true } } : State).pwr.st = .standby ∧
  ({ State.reset with pwr := { State.reset.pwr with seqUpIn := true } } : State).pwr.seqUpIn = true :=
  by decide +kernel

theorem witness_PowerUpCommands_4 :
    ({ State.reset with pwr := { State.reset.pwr with st := .rampUp, cur := 8, en := 0x100#12 } } : State).pwr.st =
    .rampUp ∧
  ({ State.reset with pwr := { State.reset.pwr with st := .rampUp, cur := 8, en := 0x100#12 } } : State).pwr.en.getLsbD
    ({ State.reset with pwr := { State.reset.pwr with st := .rampUp, cur := 8, en := 0x100#12 } } : State).pwr.cur = true
    ∧
  ({ State.reset with pwr := { State.reset.pwr with st := .rampUp, cur := 8, en := 0x100#12 } } : State).pwr.qual.getLsbD
    ({ State.reset with pwr := { State.reset.pwr with st := .rampUp, cur := 8, en := 0x100#12 } } : State).pwr.cur = false
    :=
  by decide +kernel

theorem witness_PowerUpCommands_5 :
    ({ State.reset with pwr := { State.reset.pwr with st := .rampUp, cur := 11, en := 0xFFF#12, qual := 0xFFF#12, settled := 0x7FF#12 } }
    : State).wf = true ∧
  ({ State.reset with pwr := { State.reset.pwr with st := .rampUp, cur := 11, en := 0xFFF#12, qual := 0xFFF#12, settled := 0x7FF#12 } }
    : State).pwr.st = .rampUp ∧
  ({ State.reset with pwr := { State.reset.pwr with st := .rampUp, cur := 11, en := 0xFFF#12, qual := 0xFFF#12, settled := 0x7FF#12 } }
    : State).pwr.qual.getLsbD
    ({ State.reset with pwr := { State.reset.pwr with st := .rampUp, cur := 11, en := 0xFFF#12, qual := 0xFFF#12, settled := 0x7FF#12 } }
    : State).pwr.cur = true ∧
  ({ State.reset with pwr := { State.reset.pwr with st := .rampUp, cur := 11, en := 0xFFF#12, qual := 0xFFF#12, settled := 0x7FF#12 } }
    : State).pwr.settled.getLsbD
    ({ State.reset with pwr := { State.reset.pwr with st := .rampUp, cur := 11, en := 0xFFF#12, qual := 0xFFF#12, settled := 0x7FF#12 } }
    : State).pwr.cur = false ∧
  ({ State.reset with pwr := { State.reset.pwr with st := .rampUp, cur := 11, en := 0xFFF#12, qual := 0xFFF#12, settled := 0x7FF#12 } }
    : State).pwr.offReq = false ∧
  (({ State.reset with pwr := { State.reset.pwr with st := .rampUp, cur := 11, en := 0xFFF#12, qual := 0xFFF#12, settled := 0x7FF#12 } }
    : State).rails.all fun i =>
    (({ State.reset with pwr := { State.reset.pwr with st := .rampUp, cur := 11, en := 0xFFF#12, qual := 0xFFF#12, settled := 0x7FF#12 } }
    : State).pwr.settled ||| bit12
    ({ State.reset with pwr := { State.reset.pwr with st := .rampUp, cur := 11, en := 0xFFF#12, qual := 0xFFF#12, settled := 0x7FF#12 } }
    : State).pwr.cur).getLsbD i) = true :=
  by decide +kernel

theorem witness_PowerUpCommands_6 :
    ({ State.reset with pwr := { State.reset.pwr with st := .rampUp, cur := 8, en := 0x100#12, qual := 0x100#12, offReq := true } }
    : State).wf = true ∧
  ({ State.reset with pwr := { State.reset.pwr with st := .rampUp, cur := 8, en := 0x100#12, qual := 0x100#12, offReq := true } }
    : State).pwr.st = .rampUp ∧
  ({ State.reset with pwr := { State.reset.pwr with st := .rampUp, cur := 8, en := 0x100#12, qual := 0x100#12, offReq := true } }
    : State).pwr.qual.getLsbD
    ({ State.reset with pwr := { State.reset.pwr with st := .rampUp, cur := 8, en := 0x100#12, qual := 0x100#12, offReq := true } }
    : State).pwr.cur = true ∧
  ({ State.reset with pwr := { State.reset.pwr with st := .rampUp, cur := 8, en := 0x100#12, qual := 0x100#12, offReq := true } }
    : State).pwr.settled.getLsbD
    ({ State.reset with pwr := { State.reset.pwr with st := .rampUp, cur := 8, en := 0x100#12, qual := 0x100#12, offReq := true } }
    : State).pwr.cur = false ∧
  ({ State.reset with pwr := { State.reset.pwr with st := .rampUp, cur := 8, en := 0x100#12, qual := 0x100#12, offReq := true } }
    : State).pwr.offReq = true ∧
  ({ State.reset with pwr := { State.reset.pwr with st := .rampUp, cur := 8, en := 0x100#12, qual := 0x100#12, offReq := true } }
    : State).pwr.en.getLsbD 8 = true :=
  by decide +kernel

theorem witness_PowerUpCommands_7_1 :
    ({ State.reset with pwr := { State.reset.pwr with st := .rampUp, cur := 8, en := 0x100#12, qual := 0x100#12, chat := 2 } }
    : State).wf = true ∧
  ({ State.reset with pwr := { State.reset.pwr with st := .rampUp, cur := 8, en := 0x100#12, qual := 0x100#12, chat := 2 } }
    : State).pwr.st = .rampUp ∧
  ({ State.reset with pwr := { State.reset.pwr with st := .rampUp, cur := 8, en := 0x100#12, qual := 0x100#12, chat := 2 } }
    : State).pwr.qual.getLsbD
    ({ State.reset with pwr := { State.reset.pwr with st := .rampUp, cur := 8, en := 0x100#12, qual := 0x100#12, chat := 2 } }
    : State).pwr.cur = true ∧
  ({ State.reset with pwr := { State.reset.pwr with st := .rampUp, cur := 8, en := 0x100#12, qual := 0x100#12, chat := 2 } }
    : State).pwr.settled.getLsbD
    ({ State.reset with pwr := { State.reset.pwr with st := .rampUp, cur := 8, en := 0x100#12, qual := 0x100#12, chat := 2 } }
    : State).pwr.cur = false ∧
  ({ State.reset with pwr := { State.reset.pwr with st := .rampUp, cur := 8, en := 0x100#12, qual := 0x100#12, chat := 2 } }
    : State).pwr.offReq = false ∧
  ({ State.reset with pwr := { State.reset.pwr with st := .rampUp, cur := 8, en := 0x100#12, qual := 0x100#12, chat := 2 } }
    : State).pwr.cur < 12 :=
  by decide +kernel

theorem witness_PowerUpCommands_7_2 :
    ({ State.reset with pwr := { State.reset.pwr with st := .rampUp, cur := 8, en := 0x100#12, qual := 0x100#12, chat := 3 } }
    : State).wf = true ∧
  ({ State.reset with pwr := { State.reset.pwr with st := .rampUp, cur := 8, en := 0x100#12, qual := 0x100#12, chat := 3 } }
    : State).pwr.st = .rampUp ∧
  ({ State.reset with pwr := { State.reset.pwr with st := .rampUp, cur := 8, en := 0x100#12, qual := 0x100#12, chat := 3 } }
    : State).pwr.qual.getLsbD
    ({ State.reset with pwr := { State.reset.pwr with st := .rampUp, cur := 8, en := 0x100#12, qual := 0x100#12, chat := 3 } }
    : State).pwr.cur = true ∧
  ({ State.reset with pwr := { State.reset.pwr with st := .rampUp, cur := 8, en := 0x100#12, qual := 0x100#12, chat := 3 } }
    : State).pwr.settled.getLsbD
    ({ State.reset with pwr := { State.reset.pwr with st := .rampUp, cur := 8, en := 0x100#12, qual := 0x100#12, chat := 3 } }
    : State).pwr.cur = false ∧
  ({ State.reset with pwr := { State.reset.pwr with st := .rampUp, cur := 8, en := 0x100#12, qual := 0x100#12, chat := 3 } }
    : State).pwr.offReq = false ∧
  ({ State.reset with pwr := { State.reset.pwr with st := .rampUp, cur := 8, en := 0x100#12, qual := 0x100#12, chat := 3 } }
    : State).pwr.cur < 12 :=
  by decide +kernel

theorem witness_PowerUpCommands_8 :
    ({ State.reset with pwr := { State.reset.pwr with st := .rampUp, cur := 8, en := 0x100#12 } } : State).wf = true ∧
  ({ State.reset with pwr := { State.reset.pwr with st := .rampUp, cur := 8, en := 0x100#12 } } : State).pwr.st = .rampUp
    ∧
  ({ State.reset with pwr := { State.reset.pwr with st := .rampUp, cur := 8, en := 0x100#12 } } :
    State).pwr.settled.getLsbD
    ({ State.reset with pwr := { State.reset.pwr with st := .rampUp, cur := 8, en := 0x100#12 } } : State).pwr.cur = false
    ∧
  ({ State.reset with pwr := { State.reset.pwr with st := .rampUp, cur := 8, en := 0x100#12 } } : State).pwr.offReq =
    false ∧
  ({ State.reset with pwr := { State.reset.pwr with st := .rampUp, cur := 8, en := 0x100#12 } } : State).pwr.coreOn =
    false :=
  by decide +kernel

theorem witness_PowerUpCommands_9_1 : up.wf = true ∧ up.pwr.settled.getLsbD (3 : Nat) = true ∧
  (up.pwr.st = .rampUp ∨ (up.pwr.st = .on ∧ up.pwr.coreOn = true)) :=
  by decide +kernel

theorem witness_PowerUpCommands_9_2 : (pw (fun p => { p with st := .rampUp, coreOn := false }) : State).wf = true ∧
  (pw (fun p => { p with st := .rampUp, coreOn := false }) : State).pwr.settled.getLsbD (3 : Nat) = true ∧
  ((pw (fun p => { p with st := .rampUp, coreOn := false }) : State).pwr.st = .rampUp ∨ ((pw (fun p =>
    { p with st := .rampUp, coreOn := false }) : State).pwr.st = .on ∧
  (pw (fun p => { p with st := .rampUp, coreOn := false }) : State).pwr.coreOn = true)) :=
  by decide +kernel

theorem witness_PowerUpCommands_10 : (pw (fun p => { p with st := .retryWait }) : State).pwr.st = .retryWait ∧
  (pw (fun p => { p with st := .retryWait }) : State).pwr.seqUpIn = true :=
  by decide +kernel

theorem witness_PowerDownCommands_1_1 : (pw (fun p => { p with st := .rampDown, coreOn := false, down := [4, 3] }) :
    State).pwr.st = .rampDown ∧
  (pw (fun p => { p with st := .rampDown, coreOn := false, down := [4, 3] }) : State).pwr.down = (4 : Nat) :: ([3] : List
    Nat) :=
  by decide +kernel

theorem witness_PowerDownCommands_1_2 : (pw (fun p => { p with st := .rampDown, coreOn := false, down := [8] }) :
    State).pwr.st = .rampDown ∧
  (pw (fun p => { p with st := .rampDown, coreOn := false, down := [8] }) : State).pwr.down = (8 : Nat) :: ([] : List Nat)
    :=
  by decide +kernel

theorem witness_PowerDownCommands_2 : (pw (fun p => { p with st := .rampDown, coreOn := false, down := [11, 3] }) :
    State).wf = true ∧
  (pw (fun p => { p with st := .rampDown, coreOn := false, down := [11, 3] }) : State).pwr.st = .rampDown ∧
  (pw (fun p => { p with st := .rampDown, coreOn := false, down := [11, 3] }) : State).pwr.down = (11 : Nat) :: ([3] :
    List Nat) :=
  by decide +kernel

theorem witness_PowerDownCommands_3_1 : (pw (fun p =>
    { p with st := .offHold, coreOn := false, why := .abort, retries := 3 }) : State).pwr.st = .offHold ∧
  (pw (fun p => { p with st := .offHold, coreOn := false, why := .abort, retries := 3 }) : State).pwr.seqUpIn = true :=
  by decide +kernel

theorem witness_PowerDownCommands_3_2 : (pw (fun p => { p with st := .offHold, coreOn := false, why := .trip }) :
    State).pwr.st = .offHold ∧
  (pw (fun p => { p with st := .offHold, coreOn := false, why := .trip }) : State).pwr.seqUpIn = true :=
  by decide +kernel

theorem witness_PowerDownCommands_4_1 : up.pwr.stby = true ∧ up.pwr.devReset = .none :=
  by decide +kernel

theorem witness_PowerDownCommands_4_2 : (pw (fun p => { p with st := .latched, coreOn := false }) : State).pwr.stby = true
    ∧ (pw (fun p => { p with st := .latched, coreOn := false }) : State).pwr.devReset = .none :=
  by decide +kernel

theorem witness_PowerDownCommands_5 : (State.reset : State).pwr.stby = true :=
  by decide +kernel

theorem witness_PowerDownCommands_6 : (pw (fun p => { p with st := .waitDn, coreOn := false }) : State).wf = true ∧
  (pw (fun p => { p with st := .waitDn, coreOn := false }) : State).pwr.stby = true ∧
  (pw (fun p => { p with st := .waitDn, coreOn := false }) : State).pwr.st = .waitDn ∧
  (pw (fun p => { p with st := .waitDn, coreOn := false }) : State).pwr.en.getLsbD 8 = true :=
  by decide +kernel

theorem witness_PowerDownCommands_7 : (pw (fun p => { p with st := .waitDn, coreOn := false }) : State).wf = true ∧
  (pw (fun p => { p with st := .waitDn, coreOn := false }) : State).pwr.st = .waitDn ∧
  (pw (fun p => { p with st := .waitDn, coreOn := false }) : State).pwr.seqDnIn = false ∧
  (pw (fun p => { p with st := .waitDn, coreOn := false }) : State).pwr.coreOn = false ∧
  (pw (fun p => { p with st := .waitDn, coreOn := false }) : State).pwr.en.getLsbD 8 = true :=
  by decide +kernel

theorem witness_PowerDownCommands_8_1 : up.wf = true ∧ up.barReady (0 : Nat) ∧ up.pwr.st = .on ∧
  up.pwr.devReset = .none :=
  by decide +kernel

theorem witness_PowerDownCommands_8_2 : up.wf = true ∧ up.barReady (0 : Nat) ∧ up.pwr.st = .on ∧
  up.pwr.devReset = .none :=
  by decide +kernel

theorem witness_PowerDownCommands_9 : up.wf = true ∧ up.pwr.stby = true ∧ up.pwr.coreOn = true ∧
  (up.pwr.st = .on ∨ up.pwr.st = .quiesce) :=
  by decide +kernel

theorem witness_PowerDownCommands_10_1 : up.wf = true ∧ up.barReady (0 : Nat) ∧ up.pwr.st = .on ∧
  up.pwr.devReset = .none ∧ up.fwu.paused = false :=
  by decide +kernel

theorem witness_PowerDownCommands_10_2 : up.wf = true ∧ up.barReady (0 : Nat) ∧ up.pwr.st = .on ∧
  up.pwr.devReset = .none ∧ up.fwu.paused = false :=
  by decide +kernel

theorem witness_PowerDownCommands_11 : (pw (fun p => { p with devReset := .holding, coreOn := false }) : State).wf = true
    ∧ (pw (fun p => { p with devReset := .holding, coreOn := false }) : State).pwr.devReset = .holding :=
  by decide +kernel

theorem witness_PowerDownCommands_12 : up.wf = true ∧ up.barReady (0 : Nat) ∧
  ((1 :: (List.range 16).map (fun i => 16 + i)).all fun c => (List.range 16).all fun j => (up.cell c j) == some 0 &&
    up.cellGood c j) = true :=
  by decide +kernel

theorem witness_FlushAndStartCommands_1 : up.ioUp (0 : Nat) = true ∧ up.wp.flush = none ∧ up.dirtyLines = [] :=
  by decide +kernel

theorem witness_FlushAndStartCommands_2 : ({ up with wp := { up.wp with flush := some ⟨.halt, false, []⟩ } } : State).ioUp
    (0 : Nat) = true ∧
  ({ up with wp := { up.wp with flush := some ⟨.halt, false, []⟩ } } : State).wp.flush = some (⟨.halt, false,
  []⟩ : Flush) :=
  by decide +kernel

theorem witness_FlushAndStartCommands_3 : ({ up with wp := { up.wp with flushQ := [.quiesce, .halt] } } :
    State).pwr.coreOn = true ∧ ({ up with wp := { up.wp with flushQ := [.quiesce, .halt] } } : State).wp.flush = none ∧
  ({ up with wp := { up.wp with flushQ := [.quiesce, .halt] } } : State).wp.flushQ = (.quiesce : FlushKind) :: ([.halt] :
    List FlushKind) ∧ ({ up with wp := { up.wp with flushQ := [.quiesce, .halt] } } : State).dirtyLines = [] :=
  by decide +kernel

theorem witness_FlushAndStartCommands_4 :
    ({ up with pwr := { up.pwr with st := .pfFlush }, wp := { up.wp with flush := some ⟨.powerFail, false, []⟩ } } :
    State).wf = true ∧
  ({ up with pwr := { up.pwr with st := .pfFlush }, wp := { up.wp with flush := some ⟨.powerFail, false, []⟩ } } :
    State).pwr.coreOn = true ∧
  ({ up with pwr := { up.pwr with st := .pfFlush }, wp := { up.wp with flush := some ⟨.powerFail, false, []⟩ } } :
    State).wp.flush = some (⟨.powerFail, false, []⟩ : Flush) ∧ (⟨.powerFail, false, []⟩ : Flush).kind = .powerFail ∧
  (⟨.powerFail, false, []⟩ : Flush).failed = false ∧ (⟨.powerFail, false, []⟩ : Flush).lines = [] ∧
  ({ up with pwr := { up.pwr with st := .pfFlush }, wp := { up.wp with flush := some ⟨.powerFail, false, []⟩ } } :
    State).flushWritten (⟨.powerFail, false, []⟩ : Flush) = true ∧
  ({ up with pwr := { up.pwr with st := .pfFlush }, wp := { up.wp with flush := some ⟨.powerFail, false, []⟩ } } :
    State).pwr.en.getLsbD 8 = true :=
  by decide +kernel

theorem witness_FlushAndStartCommands_5 : ({ up with fwu := { up.fwu with running := false, rom := true } } : State).wf =
    true ∧ ({ up with fwu := { up.fwu with running := false, rom := true } } : State).pwr.coreOn = true ∧
  ({ up with fwu := { up.fwu with running := false, rom := true } } : State).fwu.rom = true ∧
  ({ up with fwu := { up.fwu with running := false, rom := true } } : State).fwu.trialMethod ≠ 3 :=
  by decide +kernel

theorem witness_FlushAndStartCommands_6 : ({ up with host := { up.host with memActive := false } } : State).mayActivate =
    true :=
  by decide +kernel

theorem witness_FrontCacheCommands_1 : ({ up with swt := { up.swt with st := .active, ways := 4 } } : State).wf = true ∧
  ({ up with swt := { up.swt with st := .active, ways := 4 } } : State).barReady (0 : Nat) ∧
  (0xF000#16 : BitVec 16) &&& ~~~({ up with swt := { up.swt with st := .active, ways := 4 } } : State).swtMask = 0#16 :=
  by decide +kernel

theorem witness_FrontCacheCommands_2 : up.wf = true ∧ up.barReady (0 : Nat) ∧
  (0x0001#16 : BitVec 16) &&& ~~~up.swtMask ≠ 0#16 ∧ up.fch.arr = [] :=
  by decide +kernel

theorem witness_FrontCacheCommands_3 : (ca .on (fun f => { f with emptying := 0x8000#16, arr := [(15, some (cl 5 0#4))] })
    : State).wf = true ∧
  (ca .on (fun f => { f with emptying := 0x8000#16, arr := [(15, some (cl 5 0#4))] }) : State).pwr.coreOn = true ∧
  (15 : Nat) < 16 ∧
  (ca .on (fun f => { f with emptying := 0x8000#16, arr := [(15, some (cl 5 0#4))] }) : State).fch.emptying.getLsbD (15 :
    Nat) = true ∧
  ((ca .on (fun f => { f with emptying := 0x8000#16, arr := [(15, some (cl 5 0#4))] }) : State).fch.arr.any fun p => p.1 %
    16 == (15 : Nat) && p.2.any fun c => c.sd != 0#4) = false :=
  by decide +kernel

theorem witness_FrontCacheCommands_4 : up.wf = true ∧ up.barReady (0 : Nat) ∧ 16 ≤ (160 : Nat) ∧ (160 : Nat) ≤ 160 ∧
  20 ≤ (20 : Nat) ∧ (20 : Nat) ≤ 95 :=
  by decide +kernel

theorem witness_FrontCacheCommands_5_1 : (ca .off id : State).wf = true ∧ (ca .off id : State).barReady (0 : Nat) :=
  by decide +kernel

theorem witness_FrontCacheCommands_5_2 : (ca .draining id : State).wf = true ∧
  (ca .draining id : State).barReady (0 : Nat) :=
  by decide +kernel

theorem witness_FrontCacheCommands_6 : (ca .enabling id : State).pwr.coreOn = true ∧
  (ca .enabling id : State).fch.mode = .enabling :=
  by decide +kernel

theorem witness_FrontCacheCommands_7_1 : (ca .on id : State).wf = true ∧ (ca .on id : State).barReady (0 : Nat) ∧
  (ca .on id : State).fch.mode = .on :=
  by decide +kernel

theorem witness_FrontCacheCommands_7_2 : ({ ca .on id with swt := { up.swt with st := .active, ways := 1 } } : State).wf =
    true ∧ ({ ca .on id with swt := { up.swt with st := .active, ways := 1 } } : State).barReady (0 : Nat) ∧
  ({ ca .on id with swt := { up.swt with st := .active, ways := 1 } } : State).fch.mode = .on :=
  by decide +kernel

theorem witness_FrontCacheCommands_8 : (ca .draining (fun f => { f with arr := [(15, some (cl 5 0#4))] }) : State).wf =
    true ∧ (ca .draining (fun f => { f with arr := [(15, some (cl 5 0#4))] }) : State).pwr.coreOn = true ∧
  (ca .draining (fun f => { f with arr := [(15, some (cl 5 0#4))] }) : State).fch.mode = .draining ∧
  (ca .draining (fun f => { f with arr := [(15, some (cl 5 0#4))] }) : State).dirtyCount = 0 :=
  by decide +kernel

theorem witness_FrontCacheCommands_9 : (up.bump F.fchEccCntCorr 2 : State).wf = true ∧
  (up.bump F.fchEccCntCorr 2 : State).barReady (0 : Nat) :=
  by decide +kernel

theorem witness_FrontCacheCommands_10 : (ca .on (fun f => { f with foldWait := 0x8000#16 }) : State).wf = true ∧
  (ca .on (fun f => { f with foldWait := 0x8000#16 }) : State).pwr.coreOn = true ∧ (15 : Nat) < 16 ∧
  (ca .on (fun f => { f with foldWait := 0x8000#16 }) : State).fch.foldWait.getLsbD (15 : Nat) = true ∧
  (ca .on (fun f => { f with foldWait := 0x8000#16 }) : State).swt.st = .none ∧
  ((ca .on (fun f => { f with foldWait := 0x8000#16 }) : State).fch.arr.any fun p => p.1 / 65536 == (15 : Nat) && p.2.any
    fun c => c.sd != 0#4) = false :=
  by decide +kernel

theorem witness_FrontCacheCommands_11 :
    ({ upFld F.fchCtlDiagEn 1 with fch := { up.fch with wayEmpty := 0x8000#16, raw := [((16 * 65535 + 15) * 32 + 31, some (9#64, 3#8))] } }
    : State).wf = true ∧
  ({ upFld F.fchCtlDiagEn 1 with fch := { up.fch with wayEmpty := 0x8000#16, raw := [((16 * 65535 + 15) * 32 + 31, some (9#64, 3#8))] } }
    : State).barReady (0 : Nat) ∧
  ({ upFld F.fchCtlDiagEn 1 with fch := { up.fch with wayEmpty := 0x8000#16, raw := [((16 * 65535 + 15) * 32 + 31, some (9#64, 3#8))] } }
    : State).fld F.fchCtlDiagEn = 1 ∧
  ({ upFld F.fchCtlDiagEn 1 with fch := { up.fch with wayEmpty := 0x8000#16, raw := [((16 * 65535 + 15) * 32 + 31, some (9#64, 3#8))] } }
    : State).swt.st = .none ∧ (65535 : Nat) < 65536 ∧ (15 : Nat) < 16 ∧ (31 : Nat) < 32 ∧
  ({ upFld F.fchCtlDiagEn 1 with fch := { up.fch with wayEmpty := 0x8000#16, raw := [((16 * 65535 + 15) * 32 + 31, some (9#64, 3#8))] } }
    : State).fch.wayEmpty.getLsbD (15 : Nat) = true ∧
  Tab.get (fun _ => none)
    ({ upFld F.fchCtlDiagEn 1 with fch := { up.fch with wayEmpty := 0x8000#16, raw := [((16 * 65535 + 15) * 32 + 31, some (9#64, 3#8))] } }
    : State).fch.raw ((16 * (65535 : Nat) + (15 : Nat)) * 32 + (31 : Nat)) = some ((9#64 : BitVec 64),
  (3#8 : BitVec 8)) :=
  by decide +kernel

theorem witness_FrontCacheCommands_12 : ({ upFld F.fchCtlDiagEn 1 with fch := { up.fch with wayEmpty := 0x8000#16 } } :
    State).wf = true ∧
  ({ upFld F.fchCtlDiagEn 1 with fch := { up.fch with wayEmpty := 0x8000#16 } } : State).barReady (0 : Nat) ∧
  ({ upFld F.fchCtlDiagEn 1 with fch := { up.fch with wayEmpty := 0x8000#16 } } : State).fld F.fchCtlDiagEn = 1 ∧
  ({ upFld F.fchCtlDiagEn 1 with fch := { up.fch with wayEmpty := 0x8000#16 } } : State).swt.st = .none ∧
  (65535 : Nat) < 65536 ∧ (15 : Nat) < 16 ∧ (31 : Nat) < 32 ∧
  ({ upFld F.fchCtlDiagEn 1 with fch := { up.fch with wayEmpty := 0x8000#16 } } : State).fch.wayEmpty.getLsbD (15 : Nat) =
    true :=
  by decide +kernel

theorem witness_MaintenanceCommands_1 : (ca .on id : State).wf = true ∧ (ca .on id : State).barReady (0 : Nat) ∧
  (ca .on id : State).fch.maint = none ∧ (ca .on id : State).fch.mshr = [] ∧ (ca .on id : State).cacheLines = [] ∧
  1 ≤ (1 : Nat) ∧ (1 : Nat) < 2 ^ 32 ∧ (0 : Nat) + (1 : Nat) ≤ (ca .on id : State).hostLines :=
  by decide +kernel

theorem witness_MaintenanceCommands_2 : (ca .on id : State).wf = true ∧ (ca .on id : State).barReady (0 : Nat) ∧
  (ca .on id : State).fch.maint = none ∧ (ca .on id : State).fch.mshr = [] ∧ (ca .on id : State).cacheLines = [] ∧
  1 ≤ (1 : Nat) ∧ (1 : Nat) < 2 ^ 32 ∧ (0 : Nat) + (1 : Nat) ≤ (ca .on id : State).hostLines :=
  by decide +kernel

theorem witness_MaintenanceCommands_3 : (ca .on id : State).wf = true ∧ (ca .on id : State).barReady (0 : Nat) ∧
  (ca .on id : State).fch.maint = none ∧ (ca .on id : State).fch.mshr = [] ∧ (ca .on id : State).cacheLines = [] ∧
  1 ≤ (1 : Nat) ∧ (1 : Nat) < 2 ^ 32 ∧ (0 : Nat) + (1 : Nat) ≤ (ca .on id : State).hostLines :=
  by decide +kernel

theorem witness_MaintenanceCommands_4 : (ca .on (fun f => { f with arr := [(15, some (cl 5 0#4))] }) : State).wf = true ∧
  (ca .on (fun f => { f with arr := [(15, some (cl 5 0#4))] }) : State).barReady (0 : Nat) ∧
  (ca .on (fun f => { f with arr := [(15, some (cl 5 0#4))] }) : State).fch.maint = none ∧
  (ca .on (fun f => { f with arr := [(15, some (cl 5 0#4))] }) : State).dirtyLines = [] :=
  by decide +kernel

theorem witness_MaintenanceCommands_5 : up.wf = true ∧ up.barReady (0 : Nat) ∧ up.fch.maint = none ∧
  ((5 : Nat) % 8 = 0 ∨ 4 < (5 : Nat) % 8) :=
  by decide +kernel

theorem witness_MaintenanceCommands_6 : (ca .on (fun f => { f with maint := some ⟨4, 0, 0, [], []⟩ }) : State).barReady (0
    : Nat) ∧ (ca .on (fun f => { f with maint := some ⟨4, 0, 0, [], []⟩ }) : State).fch.maint ≠ none :=
  by decide +kernel

theorem witness_MaintenanceCommands_7 : (ca .on (fun f => { f with maint := some ⟨4, 0, 0, [], []⟩ }) : State).wf = true ∧
  (ca .on (fun f => { f with maint := some ⟨4, 0, 0, [], []⟩ }) : State).pwr.coreOn = true ∧
  (ca .on (fun f => { f with maint := some ⟨4, 0, 0, [], []⟩ }) : State).fch.maint = some (⟨4, 0, 0, [], []⟩ : Maint) ∧
  (⟨4, 0, 0, [], []⟩ : Maint).waiting = [] ∧ (⟨4, 0, 0, [], []⟩ : Maint).fills = [] :=
  by decide +kernel

theorem witness_MemRequestCommands_1 : (hostUp .on Dom.fresh id : State).reaches (Req.rd (0 : Nat) (7 : Nat))
    (0x3FFFFFC0#64 : BitVec 64).toNat ({ Req.rd 0 7 with line := 4194303, sec := 3 } : Req) ∧
  ((hostUp .on Dom.fresh id : State).dom ({ Req.rd 0 7 with line := 4194303, sec := 3 } : Req).dom).st = .empty :=
  by decide +kernel

theorem witness_MemRequestCommands_2 : (hostUp .on liveDom (fun f => { f with arr := [(16 * 5 + 15, some (cl 5 0#4))] }) :
    State).reaches (Req.rd (0 : Nat) (7 : Nat)) (0x5C0#64 : BitVec 64).toNat ({ Req.rd 0 7 with line := 5, sec := 3 } :
    Req) ∧
  ((hostUp .on liveDom (fun f => { f with arr := [(16 * 5 + 15, some (cl 5 0#4))] }) : State).dom
    ({ Req.rd 0 7 with line := 5, sec := 3 } : Req).dom).st = .active ∧
  (hostUp .on liveDom (fun f => { f with arr := [(16 * 5 + 15, some (cl 5 0#4))] }) : State).fch.mode = .on ∧
  (hostUp .on liveDom (fun f => { f with arr := [(16 * 5 + 15, some (cl 5 0#4))] }) : State).findWay
    ({ Req.rd 0 7 with line := 5, sec := 3 } : Req).line = some ((95 : Nat), (cl 5 0#4 : CLine)) ∧
  (hostUp .on liveDom (fun f => { f with arr := [(16 * 5 + 15, some (cl 5 0#4))] }) : State).findVictim
    ({ Req.rd 0 7 with line := 5, sec := 3 } : Req).line = none ∧
  (cl 5 0#4 : CLine).sv.getLsbD ({ Req.rd 0 7 with line := 5, sec := 3 } : Req).sec = true ∧
  (cl 5 0#4 : CLine).sp.getLsbD ({ Req.rd 0 7 with line := 5, sec := 3 } : Req).sec = false ∧
  (cl 5 0#4 : CLine).flaw = [] ∧ (7 : Nat) ≠ noTag :=
  by decide +kernel

theorem witness_MemRequestCommands_3 : (hostUp .off liveDom id : State).reaches (Req.write (0 : Nat) (7 : Nat) (9#512 :
    BitVec 512) (BitVec.allOnes 64) false) (0x5C0#64 : BitVec 64).toNat
    ({ Req.write 0 7 9#512 (BitVec.allOnes 64) false with line := 5, sec := 3 } : Req) ∧
  ((hostUp .off liveDom id : State).dom ({ Req.write 0 7 9#512 (BitVec.allOnes 64) false with line := 5, sec := 3 } :
    Req).dom).st = .active ∧
  ((hostUp .off liveDom id : State).epoDom ({ Req.write 0 7 9#512 (BitVec.allOnes 64) false with line := 5, sec := 3 } :
    Req).dom).draining = false ∧ (hostUp .off liveDom id : State).fch.mode = .off :=
  by decide +kernel

theorem witness_MemRequestCommands_4 : (hostUp .on liveDom (fun f => { f with arr := [(16 * 5 + 15, some (cl 5 1#4))] }) :
    State).reaches (Req.write (0 : Nat) (7 : Nat) (0x1234#512 : BitVec 512) (1#64 : BitVec 64) false) (0x5C0#64 : BitVec
    64).toNat ({ Req.write 0 7 0x1234#512 1#64 false with line := 5, sec := 3 } : Req) ∧
  (1#64 : BitVec 64) ≠ BitVec.allOnes 64 ∧
  ((hostUp .on liveDom (fun f => { f with arr := [(16 * 5 + 15, some (cl 5 1#4))] }) : State).dom
    ({ Req.write 0 7 0x1234#512 1#64 false with line := 5, sec := 3 } : Req).dom).st = .active ∧
  ((hostUp .on liveDom (fun f => { f with arr := [(16 * 5 + 15, some (cl 5 1#4))] }) : State).epoDom
    ({ Req.write 0 7 0x1234#512 1#64 false with line := 5, sec := 3 } : Req).dom).draining = false ∧
  (hostUp .on liveDom (fun f => { f with arr := [(16 * 5 + 15, some (cl 5 1#4))] }) : State).fch.mode = .on ∧
  (hostUp .on liveDom (fun f => { f with arr := [(16 * 5 + 15, some (cl 5 1#4))] }) : State).fch.mshr = [] ∧
  (hostUp .on liveDom (fun f => { f with arr := [(16 * 5 + 15, some (cl 5 1#4))] }) : State).flt.inj = none ∧
  (hostUp .on liveDom (fun f => { f with arr := [(16 * 5 + 15, some (cl 5 1#4))] }) : State).findSide
    ({ Req.write 0 7 0x1234#512 1#64 false with line := 5, sec := 3 } : Req).line = none ∧
  (hostUp .on liveDom (fun f => { f with arr := [(16 * 5 + 15, some (cl 5 1#4))] }) : State).findWay
    ({ Req.write 0 7 0x1234#512 1#64 false with line := 5, sec := 3 } : Req).line = some ((95 : Nat),
  (cl 5 1#4 : CLine)) ∧
  (hostUp .on liveDom (fun f => { f with arr := [(16 * 5 + 15, some (cl 5 1#4))] }) : State).findVictim
    ({ Req.write 0 7 0x1234#512 1#64 false with line := 5, sec := 3 } : Req).line = none ∧
  (cl 5 1#4 : CLine).sv.getLsbD ({ Req.write 0 7 0x1234#512 1#64 false with line := 5, sec := 3 } : Req).sec = true ∧
  (cl 5 1#4 : CLine).sp.getLsbD ({ Req.write 0 7 0x1234#512 1#64 false with line := 5, sec := 3 } : Req).sec = false ∧
  (cl 5 1#4 : CLine).sd ≠ 0#4 ∧ (cl 5 1#4 : CLine).flaw = [] ∧ (7 : Nat) ≠ noTag :=
  by decide +kernel

theorem witness_MemRequestCommands_5 : (hostUp .on liveDom id : State).wf = true ∧ (0 : Nat) < 8 ∧
  (hostUp .on liveDom id : State).memUp (0 : Nat) = true ∧ (hostUp .on liveDom id : State).host.memActive = true ∧
  (hostUp .on liveDom id : State).decoderOf (0 : Nat) (0x40000000#64 : BitVec 64).toNat = none ∧ (7 : Nat) ≠ noTag :=
  by decide +kernel

theorem witness_MemRequestCommands_6 : up.memUp (0 : Nat) = true ∧ (7 : Nat) ≠ noTag :=
  by decide +kernel

theorem witness_MemRequestCommands_7 : up.memUp (0 : Nat) = true ∧ (7 : Nat) ≠ noTag :=
  by decide +kernel

theorem witness_MemRequestCommands_8 : up.wf = true ∧ up.memUp (0 : Nat) = true :=
  by decide +kernel

theorem witness_MemRequestCommands_9 :
    ({ hostUp .on liveDom id with map := { up.map with cached := [⟨0, 0, false, 0, 0, 0, 0⟩] } } : State).reaches (Req.rd
    (0 : Nat) 0) (0x5C0#64 : BitVec 64).toNat ({ Req.rd 0 0 with line := 5, sec := 3 } : Req) ∧
  (({ hostUp .on liveDom id with map := { up.map with cached := [⟨0, 0, false, 0, 0, 0, 0⟩] } } : State).dom
    ({ Req.rd 0 0 with line := 5, sec := 3 } : Req).dom).st = .active ∧
  ({ hostUp .on liveDom id with map := { up.map with cached := [⟨0, 0, false, 0, 0, 0, 0⟩] } } : State).fch.mode = .on ∧
  ({ hostUp .on liveDom id with map := { up.map with cached := [⟨0, 0, false, 0, 0, 0, 0⟩] } } : State).mpresent 0
    (({ Req.rd 0 0 with line := 5, sec := 3 } : Req).line / 32) = true ∧
  (({ hostUp .on liveDom id with map := { up.map with cached := [⟨0, 0, false, 0, 0, 0, 0⟩] } } : State).entry
    ({ Req.rd 0 0 with line := 5, sec := 3 } : Req).line).st = 0 ∧
  ({ hostUp .on liveDom id with map := { up.map with cached := [⟨0, 0, false, 0, 0, 0, 0⟩] } } : State).lineOf
    ({ Req.rd 0 0 with line := 5, sec := 3 } : Req).line = none ∧
  ({ hostUp .on liveDom id with map := { up.map with cached := [⟨0, 0, false, 0, 0, 0, 0⟩] } } : State).findSide
    ({ Req.rd 0 0 with line := 5, sec := 3 } : Req).line = none ∧
  ({ hostUp .on liveDom id with map := { up.map with cached := [⟨0, 0, false, 0, 0, 0, 0⟩] } } : State).fch.mshr = [] ∧
  ({ hostUp .on liveDom id with map := { up.map with cached := [⟨0, 0, false, 0, 0, 0, 0⟩] } } : State).fch.side = [] ∧
  ({ hostUp .on liveDom id with map := { up.map with cached := [⟨0, 0, false, 0, 0, 0, 0⟩] } } : State).fch.maint = none ∧
  ({ hostUp .on liveDom id with map := { up.map with cached := [⟨0, 0, false, 0, 0, 0, 0⟩] } } : State).stagedCopy
    ({ Req.rd 0 0 with line := 5, sec := 3 } : Req).line = none :=
  by decide +kernel

theorem witness_MemWaitCommands_1 : (hostUp .on liveDom (fun f =>
    { f with arr := [(16 * 5 + 15, some (cl 5 0#4))], missWait := [{ Req.rd 0 7 with line := 5, sec := 3 }] }) :
    State).pwr.coreOn = true ∧
  (hostUp .on liveDom (fun f =>
    { f with arr := [(16 * 5 + 15, some (cl 5 0#4))], missWait := [{ Req.rd 0 7 with line := 5, sec := 3 }] }) :
    State).fch.mode = .on ∧
  (hostUp .on liveDom (fun f =>
    { f with arr := [(16 * 5 + 15, some (cl 5 0#4))], missWait := [{ Req.rd 0 7 with line := 5, sec := 3 }] }) :
    State).fch.mshr.length < 4096 ∧
  (hostUp .on liveDom (fun f =>
    { f with arr := [(16 * 5 + 15, some (cl 5 0#4))], missWait := [{ Req.rd 0 7 with line := 5, sec := 3 }] }) :
    State).fch.missWait = ({ Req.rd 0 7 with line := 5, sec := 3 } : Req) :: ([] : List Req) ∧
  ({ Req.rd 0 7 with line := 5, sec := 3 } : Req).wr = false ∧
  ({ Req.rd 0 7 with line := 5, sec := 3 } : Req).tag ≠ noTag ∧
  (hostUp .on liveDom (fun f =>
    { f with arr := [(16 * 5 + 15, some (cl 5 0#4))], missWait := [{ Req.rd 0 7 with line := 5, sec := 3 }] }) :
    State).findWay ({ Req.rd 0 7 with line := 5, sec := 3 } : Req).line = some ((95 : Nat), (cl 5 0#4 : CLine)) ∧
  (hostUp .on liveDom (fun f =>
    { f with arr := [(16 * 5 + 15, some (cl 5 0#4))], missWait := [{ Req.rd 0 7 with line := 5, sec := 3 }] }) :
    State).findVictim ({ Req.rd 0 7 with line := 5, sec := 3 } : Req).line = none ∧
  (cl 5 0#4 : CLine).sv.getLsbD ({ Req.rd 0 7 with line := 5, sec := 3 } : Req).sec = true ∧
  (cl 5 0#4 : CLine).sp.getLsbD ({ Req.rd 0 7 with line := 5, sec := 3 } : Req).sec = false ∧
  (cl 5 0#4 : CLine).flaw = [] :=
  by decide +kernel

theorem witness_MemWaitCommands_2 : (hostUp .off liveDom (fun f =>
    { f with dirtyWait := [{ Req.write 0 7 1#512 1#64 false with line := 5, sec := 3 }] }) : State).pwr.coreOn = true ∧
  (hostUp .off liveDom (fun f => { f with dirtyWait := [{ Req.write 0 7 1#512 1#64 false with line := 5, sec := 3 }] }) :
    State).fch.mode = .off ∧
  (hostUp .off liveDom (fun f => { f with dirtyWait := [{ Req.write 0 7 1#512 1#64 false with line := 5, sec := 3 }] }) :
    State).fch.dirtyWait.find? (hostUp .off liveDom (fun f =>
    { f with dirtyWait := [{ Req.write 0 7 1#512 1#64 false with line := 5, sec := 3 }] }) : State).mayAdmit = some
    ({ Req.write 0 7 1#512 1#64 false with line := 5, sec := 3 } : Req) ∧
  ((hostUp .off liveDom (fun f => { f with dirtyWait := [{ Req.write 0 7 1#512 1#64 false with line := 5, sec := 3 }] }) :
    State).epoDom ({ Req.write 0 7 1#512 1#64 false with line := 5, sec := 3 } : Req).dom).draining = false :=
  by decide +kernel

theorem witness_MemWaitCommands_3 : (hostUp .on liveDom (fun f =>
    { f with arr := [(16 * 5 + 15, some (cl 5 1#4))], cleaning := true }) : State).pwr.coreOn = true ∧
  (hostUp .on liveDom (fun f => { f with arr := [(16 * 5 + 15, some (cl 5 1#4))], cleaning := true }) : State).fch.mode =
    .on ∧
  (hostUp .on liveDom (fun f => { f with arr := [(16 * 5 + 15, some (cl 5 1#4))], cleaning := true }) : State).cleanable =
    (5 : Nat) :: ([] : List Nat) ∧
  (hostUp .on liveDom (fun f => { f with arr := [(16 * 5 + 15, some (cl 5 1#4))], cleaning := true }) : State).lineOf (5 :
    Nat) = some (cl 5 1#4 : CLine) ∧ (cl 5 1#4 : CLine).sd ≠ 0#4 ∧ (cl 5 1#4 : CLine).handed = false ∧
  ((hostUp .on liveDom (fun f => { f with arr := [(16 * 5 + 15, some (cl 5 1#4))], cleaning := true }) : State).dom (cl 5
    1#4 : CLine).dom).due = false :=
  by decide +kernel

theorem witness_MemWaitCommands_4 : (hostUp .off liveDom (fun f =>
    { f with evictWait := [{ Req.write 0 7 1#512 1#64 false with line := 5, sec := 3 }] }) : State).pwr.coreOn = true ∧
  (hostUp .off liveDom (fun f => { f with evictWait := [{ Req.write 0 7 1#512 1#64 false with line := 5, sec := 3 }] }) :
    State).fch.victim.length < 512 ∧
  (hostUp .off liveDom (fun f => { f with evictWait := [{ Req.write 0 7 1#512 1#64 false with line := 5, sec := 3 }] }) :
    State).fch.mode = .off ∧
  (hostUp .off liveDom (fun f => { f with evictWait := [{ Req.write 0 7 1#512 1#64 false with line := 5, sec := 3 }] }) :
    State).fch.evictWait = ({ Req.write 0 7 1#512 1#64 false with line := 5, sec := 3 } : Req) :: ([] : List Req) ∧
  ((hostUp .off liveDom (fun f => { f with evictWait := [{ Req.write 0 7 1#512 1#64 false with line := 5, sec := 3 }] }) :
    State).epoDom ({ Req.write 0 7 1#512 1#64 false with line := 5, sec := 3 } : Req).dom).draining = false :=
  by decide +kernel

theorem witness_MemWaitCommands_5 : (stageUp id [hd 5] : State).pwr.coreOn = true ∧
  (stageUp id [hd 5] : State).wp.handed.find? (fun z => z.line == (5 : Nat)) = some (hd 5 : Handed) ∧
  (stageUp id [hd 5] : State).stagedOf (hd 5 : Handed) = some (((stageUp id [hd 5]).stagedOf (hd 5)).getD Staged.filler :
    Staged) ∧ (stageUp id [hd 5] : State).entryGroup (hd 5 : Handed) = some (0 : Nat) ∧
  ((stageUp id [hd 5] : State).begin.enterStaging (0 : Nat) (((stageUp id [hd 5]).stagedOf (hd 5)).getD Staged.filler :
    Staged)).isSome = true ∧ (hd 5 : Handed).cached = false ∧ (hd 5 : Handed).ack = some ((0 : Nat), (7 : Nat)) ∧
  (7 : Nat) ≠ noTag ∧ ((stageUp id [hd 5] : State).epoDom (hd 5 : Handed).dom).draining = false ∧
  (stageUp id [hd 5] : State).wp.flush = none :=
  by decide +kernel

theorem witness_MemWaitCommands_6 :
    ({ (hostUp .on liveDom (fun f => { f with trackers := [⟨0, 4, true, 2, true, true, 4, 5⟩] })).setFld F.fchPfCtlEnable 1 with map := { up.map with cached := [⟨0, 0, false, 0, 0, 0, 0⟩] } }
    : State).pwr.coreOn = true ∧
  ({ (hostUp .on liveDom (fun f => { f with trackers := [⟨0, 4, true, 2, true, true, 4, 5⟩] })).setFld F.fchPfCtlEnable 1 with map := { up.map with cached := [⟨0, 0, false, 0, 0, 0, 0⟩] } }
    : State).fld F.fchPfCtlEnable = 1 ∧
  ({ (hostUp .on liveDom (fun f => { f with trackers := [⟨0, 4, true, 2, true, true, 4, 5⟩] })).setFld F.fchPfCtlEnable 1 with map := { up.map with cached := [⟨0, 0, false, 0, 0, 0, 0⟩] } }
    : State).fch.trackers[(0 : Nat)]? = some (⟨0, 4, true, 2, true, true, 4, 5⟩ : Tracker) ∧ (⟨0, 4, true, 2, true, true,
  4, 5⟩ : Tracker).active = true ∧ (⟨0, 4, true, 2, true, true, 4, 5⟩ : Tracker).up = true ∧ (⟨0, 4, true, 2, true, true,
  4, 5⟩ : Tracker).issue - (⟨0, 4, true, 2, true, true, 4,
  5⟩ : Tracker).next <
    ({ (hostUp .on liveDom (fun f => { f with trackers := [⟨0, 4, true, 2, true, true, 4, 5⟩] })).setFld F.fchPfCtlEnable 1 with map := { up.map with cached := [⟨0, 0, false, 0, 0, 0, 0⟩] } }
    : State).fld F.fchPfCtlDepth ∧
  ({ (hostUp .on liveDom (fun f => { f with trackers := [⟨0, 4, true, 2, true, true, 4, 5⟩] })).setFld F.fchPfCtlEnable 1 with map := { up.map with cached := [⟨0, 0, false, 0, 0, 0, 0⟩] } }
    : State).domOf (⟨0, 4, true, 2, true, true, 4, 5⟩ : Tracker).issue = some (⟨0, 4, true, 2, true, true, 4,
  5⟩ : Tracker).dom ∧
  ({ (hostUp .on liveDom (fun f => { f with trackers := [⟨0, 4, true, 2, true, true, 4, 5⟩] })).setFld F.fchPfCtlEnable 1 with map := { up.map with cached := [⟨0, 0, false, 0, 0, 0, 0⟩] } }
    : State).mpresent 0 ((⟨0, 4, true, 2, true, true, 4, 5⟩ : Tracker).issue / 32) = true ∧
  ({ (hostUp .on liveDom (fun f => { f with trackers := [⟨0, 4, true, 2, true, true, 4, 5⟩] })).setFld F.fchPfCtlEnable 1 with map := { up.map with cached := [⟨0, 0, false, 0, 0, 0, 0⟩] } }
    : State).fch.mode = .on ∧
  ({ (hostUp .on liveDom (fun f => { f with trackers := [⟨0, 4, true, 2, true, true, 4, 5⟩] })).setFld F.fchPfCtlEnable 1 with map := { up.map with cached := [⟨0, 0, false, 0, 0, 0, 0⟩] } }
    : State).swt.st = .none ∧
  (({ (hostUp .on liveDom (fun f => { f with trackers := [⟨0, 4, true, 2, true, true, 4, 5⟩] })).setFld F.fchPfCtlEnable 1 with map := { up.map with cached := [⟨0, 0, false, 0, 0, 0, 0⟩] } }
    : State).entry (⟨0, 4, true, 2, true, true, 4, 5⟩ : Tracker).issue).st = 0 ∧
  ({ (hostUp .on liveDom (fun f => { f with trackers := [⟨0, 4, true, 2, true, true, 4, 5⟩] })).setFld F.fchPfCtlEnable 1 with map := { up.map with cached := [⟨0, 0, false, 0, 0, 0, 0⟩] } }
    : State).lineOf (⟨0, 4, true, 2, true, true, 4, 5⟩ : Tracker).issue = none ∧
  ({ (hostUp .on liveDom (fun f => { f with trackers := [⟨0, 4, true, 2, true, true, 4, 5⟩] })).setFld F.fchPfCtlEnable 1 with map := { up.map with cached := [⟨0, 0, false, 0, 0, 0, 0⟩] } }
    : State).findSide (⟨0, 4, true, 2, true, true, 4, 5⟩ : Tracker).issue = none ∧
  ({ (hostUp .on liveDom (fun f => { f with trackers := [⟨0, 4, true, 2, true, true, 4, 5⟩] })).setFld F.fchPfCtlEnable 1 with map := { up.map with cached := [⟨0, 0, false, 0, 0, 0, 0⟩] } }
    : State).fch.mshr = [] ∧
  ({ (hostUp .on liveDom (fun f => { f with trackers := [⟨0, 4, true, 2, true, true, 4, 5⟩] })).setFld F.fchPfCtlEnable 1 with map := { up.map with cached := [⟨0, 0, false, 0, 0, 0, 0⟩] } }
    : State).fch.side = [] ∧
  ({ (hostUp .on liveDom (fun f => { f with trackers := [⟨0, 4, true, 2, true, true, 4, 5⟩] })).setFld F.fchPfCtlEnable 1 with map := { up.map with cached := [⟨0, 0, false, 0, 0, 0, 0⟩] } }
    : State).fch.maint = none ∧
  ({ (hostUp .on liveDom (fun f => { f with trackers := [⟨0, 4, true, 2, true, true, 4, 5⟩] })).setFld F.fchPfCtlEnable 1 with map := { up.map with cached := [⟨0, 0, false, 0, 0, 0, 0⟩] } }
    : State).stagedCopy (⟨0, 4, true, 2, true, true, 4, 5⟩ : Tracker).issue = none :=
  by decide +kernel

theorem witness_MemWaitCommands_7 :
    ({ hostUp .on liveDom (fun f => { f with mshr := [⟨5, 0, [], [], true, false, false⟩] }) with rd := { up.rd with reads := [{ Rd.fresh 5 0 .prefetch with st := .needData }] } }
    : State).pwr.coreOn = true ∧
  ({ hostUp .on liveDom (fun f => { f with mshr := [⟨5, 0, [], [], true, false, false⟩] }) with rd := { up.rd with reads := [{ Rd.fresh 5 0 .prefetch with st := .needData }] } }
    : State).fch.mode = .on ∧
  (({ hostUp .on liveDom (fun f => { f with mshr := [⟨5, 0, [], [], true, false, false⟩] }) with rd := { up.rd with reads := [{ Rd.fresh 5 0 .prefetch with st := .needData }] } }
    : State).rd.reads.any fun r => r.line == (5 : Nat) && r.why == .prefetch && decide (r.st ≠ .needMap)) = true ∧
  ({ hostUp .on liveDom (fun f => { f with mshr := [⟨5, 0, [], [], true, false, false⟩] }) with rd := { up.rd with reads := [{ Rd.fresh 5 0 .prefetch with st := .needData }] } }
    : State).mshrOf (5 : Nat) = some (⟨5, 0, [], [], true, false, false⟩ : Mshr) ∧ (⟨5, 0, [], [], true, false,
  false⟩ : Mshr).line = (5 : Nat) ∧ (⟨5, 0, [], [], true, false, false⟩ : Mshr).pf = true ∧ (⟨5, 0, [], [], true, false,
  false⟩ : Mshr).reqs = [] ∧ (⟨5, 0, [], [], true, false, false⟩ : Mshr).drop = false ∧
  ({ hostUp .on liveDom (fun f => { f with mshr := [⟨5, 0, [], [], true, false, false⟩] }) with rd := { up.rd with reads := [{ Rd.fresh 5 0 .prefetch with st := .needData }] } }
    : State).lineOf (5 : Nat) = none ∧
  ({ hostUp .on liveDom (fun f => { f with mshr := [⟨5, 0, [], [], true, false, false⟩] }) with rd := { up.rd with reads := [{ Rd.fresh 5 0 .prefetch with st := .needData }] } }
    : State).findSide (5 : Nat) = none ∧
  ({ hostUp .on liveDom (fun f => { f with mshr := [⟨5, 0, [], [], true, false, false⟩] }) with rd := { up.rd with reads := [{ Rd.fresh 5 0 .prefetch with st := .needData }] } }
    : State).fch.side = [] ∧
  ({ hostUp .on liveDom (fun f => { f with mshr := [⟨5, 0, [], [], true, false, false⟩] }) with rd := { up.rd with reads := [{ Rd.fresh 5 0 .prefetch with st := .needData }] } }
    : State).fch.maint = none ∧
  ({ hostUp .on liveDom (fun f => { f with mshr := [⟨5, 0, [], [], true, false, false⟩] }) with rd := { up.rd with reads := [{ Rd.fresh 5 0 .prefetch with st := .needData }] } }
    : State).stagedCopy (5 : Nat) = none :=
  by decide +kernel

theorem witness_SwatchCommands_1 : (hostUp .on liveDom id : State).wf = true ∧
  (hostUp .on liveDom id : State).barReady (0 : Nat) ∧ 1 ≤ (4 : Nat) ∧ (4 : Nat) ≤ 4 ∧
  (hostUp .on liveDom id : State).carveWhy (4 : Nat) = 0 :=
  by decide +kernel

theorem witness_SwatchCommands_2 : (ca .off id : State).wf = true ∧ (ca .off id : State).barReady (0 : Nat) ∧
  1 ≤ (1 : Nat) ∧ (1 : Nat) ≤ 4 ∧ (ca .off id : State).carveWhy (1 : Nat) ≠ 0 :=
  by decide +kernel

theorem witness_SwatchCommands_3 : ({ hostUp .on liveDom id with swt := { up.swt with st := .carving, ways := 1 } } :
    State).wf = true ∧
  ({ hostUp .on liveDom id with swt := { up.swt with st := .carving, ways := 1 } } : State).pwr.coreOn = true ∧
  ({ hostUp .on liveDom id with swt := { up.swt with st := .carving, ways := 1 } } : State).swt.st = .carving ∧
  ({ hostUp .on liveDom id with swt := { up.swt with st := .carving, ways := 1 } } : State).map.st = .active ∧
  ({ hostUp .on liveDom id with swt := { up.swt with st := .carving, ways := 1 } } : State).waysClear = true :=
  by decide +kernel

theorem witness_SwatchCommands_4 : ({ hostUp .on liveDom id with swt := { up.swt with st := .active, ways := 1 } } :
    State).wf = true ∧
  ({ hostUp .on liveDom id with swt := { up.swt with st := .active, ways := 1 } } : State).barReady (0 : Nat) ∧
  ({ hostUp .on liveDom id with swt := { up.swt with st := .active, ways := 1 } } : State).swt.st = .active :=
  by decide +kernel

theorem witness_SwatchCommands_5_1 :
    ({ hostUp .on liveDom id with swt := { up.swt with st := .releasing, ways := 1, pos := 65534 } } : State).wf = true ∧
  ({ hostUp .on liveDom id with swt := { up.swt with st := .releasing, ways := 1, pos := 65534 } } : State).pwr.coreOn =
    true ∧
  ({ hostUp .on liveDom id with swt := { up.swt with st := .releasing, ways := 1, pos := 65534 } } : State).swt.st =
    .releasing ∧
  ({ hostUp .on liveDom id with swt := { up.swt with st := .releasing, ways := 1, pos := 65534 } } : State).swt.handing =
    none ∧
  ({ hostUp .on liveDom id with swt := { up.swt with st := .releasing, ways := 1, pos := 65534 } } : State).swt.keep =
    false :=
  by decide +kernel

theorem witness_SwatchCommands_5_2 :
    ({ hostUp .on liveDom id with swt := { up.swt with st := .releasing, ways := 1, pos := 65535 } } : State).wf = true ∧
  ({ hostUp .on liveDom id with swt := { up.swt with st := .releasing, ways := 1, pos := 65535 } } : State).pwr.coreOn =
    true ∧
  ({ hostUp .on liveDom id with swt := { up.swt with st := .releasing, ways := 1, pos := 65535 } } : State).swt.st =
    .releasing ∧
  ({ hostUp .on liveDom id with swt := { up.swt with st := .releasing, ways := 1, pos := 65535 } } : State).swt.handing =
    none ∧
  ({ hostUp .on liveDom id with swt := { up.swt with st := .releasing, ways := 1, pos := 65535 } } : State).swt.keep =
    false :=
  by decide +kernel

theorem witness_EpochCommands_1 : (ep id : State).wf = true ∧ (ep id : State).mboxRwReady (0 : Nat) ∧
  (ep id : State).prepareGate (0 : Nat) (5 : Nat) 0 (false : Bool) = none ∧
  ((ep id : State).epo.epochWait.any fun r => r.dom == (0 : Nat)) = false :=
  by decide +kernel

theorem witness_EpochCommands_2 : ((ep id).setFld F.topTimeValid 1 : State).wf = true ∧
  ((ep id).setFld F.topTimeValid 1 : State).mboxRwReady (0 : Nat) ∧ (1000000000 : Nat) ≠ 0 ∧
  ((ep id).setFld F.topTimeValid 1 : State).prepareGate (0 : Nat) (5 : Nat) (1000000000 : Nat) (true : Bool) = none :=
  by decide +kernel

theorem witness_EpochCommands_3 : (ep id : State).mboxRwReady (0 : Nat) ∧
  (ep id : State).prepareGate (255 : Nat) (5 : Nat) (0 : Nat) (false : Bool) = some (.invalidInput : Rc) :=
  by decide +kernel

theorem witness_EpochCommands_4 : (ep (fun x => { x with st := .preparing, e := 5, via := 1 }) : State).wf = true ∧
  (ep (fun x => { x with st := .preparing, e := 5, via := 1 }) : State).pwr.coreOn = true ∧
  ((ep (fun x => { x with st := .preparing, e := 5, via := 1 }) : State).epoDom (0 : Nat)).st = .preparing ∧
  ((ep (fun x => { x with st := .preparing, e := 5, via := 1 }) : State).epoDom (0 : Nat)).draining = false ∧
  (ep (fun x => { x with st := .preparing, e := 5, via := 1 }) : State).phasePending (0 : Nat) = false ∧
  (ep (fun x => { x with st := .preparing, e := 5, via := 1 }) : State).tagsDirty (0 : Nat) = false ∧
  (ep (fun x => { x with st := .preparing, e := 5, via := 1 }) : State).haltCovers (0 : Nat) = false :=
  by decide +kernel

theorem witness_EpochCommands_5 : (ep (fun x => { x with st := .prepared, e := 5 }) : State).wf = true ∧
  (ep (fun x => { x with st := .prepared, e := 5 }) : State).mboxRwReady (0 : Nat) ∧
  (ep (fun x => { x with st := .prepared, e := 5 }) : State).commitGate (0 : Nat) (5 : Nat) = none :=
  by decide +kernel

theorem witness_EpochCommands_6 : (ep (fun x => { x with cleanup := some [], ckptsDone := 2 }) : State).wf = true ∧
  (ep (fun x => { x with cleanup := some [], ckptsDone := 2 }) : State).pwr.coreOn = true ∧
  ((ep (fun x => { x with cleanup := some [], ckptsDone := 2 }) : State).epoDom (0 : Nat)).cleanup.isSome = true ∧
  2 ≤ ((ep (fun x => { x with cleanup := some [], ckptsDone := 2 }) : State).epoDom (0 : Nat)).ckptsDone :=
  by decide +kernel

theorem witness_EpochCommands_7_1 : (ep (fun x => { x with armed := some (5, 9, false) }) : State).wf = true ∧
  (ep (fun x => { x with armed := some (5, 9, false) }) : State).mboxRwReady (0 : Nat) ∧
  (ep (fun x => { x with armed := some (5, 9, false) }) : State).abortGate (0 : Nat) (5 : Nat) = none :=
  by decide +kernel

theorem witness_EpochCommands_7_2 : (ep (fun x => { x with st := .prepared, e := 5 }) : State).wf = true ∧
  (ep (fun x => { x with st := .prepared, e := 5 }) : State).mboxRwReady (0 : Nat) ∧
  (ep (fun x => { x with st := .prepared, e := 5 }) : State).abortGate (0 : Nat) (5 : Nat) = none :=
  by decide +kernel

theorem witness_EpochCommands_8 : (ep (fun x => { x with st := .aborting }) : State).wf = true ∧
  (ep (fun x => { x with st := .aborting }) : State).pwr.coreOn = true ∧
  ((ep (fun x => { x with st := .aborting }) : State).epoDom (0 : Nat)).st = .aborting ∧
  (ep (fun x => { x with st := .aborting }) : State).map.st = .active ∧
  (ep (fun x => { x with st := .aborting }) : State).sealedPending (0 : Nat) = false ∧
  (ep (fun x => { x with st := .aborting }) : State).haltCovers (0 : Nat) = false ∧
  ((ep (fun x => { x with st := .aborting }) : State).epoDom (0 : Nat)).openTab = [] ∧
  ((ep (fun x => { x with st := .aborting }) : State).epoDom (0 : Nat)).prepTab = [] :=
  by decide +kernel

theorem witness_EpochCommands_9 : (ep id : State).mboxReady (0 : Nat) ∧ (0 : Nat) < 256 :=
  by decide +kernel

theorem witness_EpochCommands_10 :
    ({ ep (fun x => { x with armed := some (5, 1000, false) }) with time := { up.time with devtime := 1000 } } : State).wf
    = true ∧
  ({ ep (fun x => { x with armed := some (5, 1000, false) }) with time := { up.time with devtime := 1000 } } :
    State).pwr.coreOn = true ∧
  (({ ep (fun x => { x with armed := some (5, 1000, false) }) with time := { up.time with devtime := 1000 } } :
    State).epoDom (0 : Nat)).armed = some ((5 : Nat), (1000 : Nat), (false : Bool)) ∧
  ({ ep (fun x => { x with armed := some (5, 1000, false) }) with time := { up.time with devtime := 1000 } } :
    State).deadlineDue (1000 : Nat) (false : Bool) = true ∧
  ({ ep (fun x => { x with armed := some (5, 1000, false) }) with time := { up.time with devtime := 1000 } } :
    State).haltCovers (0 : Nat) = false ∧
  (({ ep (fun x => { x with armed := some (5, 1000, false) }) with time := { up.time with devtime := 1000 } } :
    State).epoDom (0 : Nat)).st = .open_ ∧
  (({ ep (fun x => { x with armed := some (5, 1000, false) }) with time := { up.time with devtime := 1000 } } :
    State).epoDom (0 : Nat)).c < (5 : Nat) ∧
  (({ ep (fun x => { x with armed := some (5, 1000, false) }) with time := { up.time with devtime := 1000 } } :
    State).epoDom (0 : Nat)).cleanup = none ∧
  (({ ep (fun x => { x with armed := some (5, 1000, false) }) with time := { up.time with devtime := 1000 } } :
    State).epo.epochWait.any fun r => r.dom == (0 : Nat)) = false :=
  by decide +kernel

theorem witness_EpochCommands_11 :
    ({ ep (fun x => { x with armed := some (5, 1000, true) }) with time := { up.time with devtime := 1000 } } : State).wf
    = true ∧
  ({ ep (fun x => { x with armed := some (5, 1000, true) }) with time := { up.time with devtime := 1000 } } :
    State).pwr.coreOn = true ∧
  (({ ep (fun x => { x with armed := some (5, 1000, true) }) with time := { up.time with devtime := 1000 } } :
    State).epoDom (0 : Nat)).armed = some ((5 : Nat), (1000 : Nat), true) ∧
  ({ ep (fun x => { x with armed := some (5, 1000, true) }) with time := { up.time with devtime := 1000 } } :
    State).deadlineAlone (1000 : Nat) = true ∧
  ({ ep (fun x => { x with armed := some (5, 1000, true) }) with time := { up.time with devtime := 1000 } } :
    State).haltCovers (0 : Nat) = false ∧
  (({ ep (fun x => { x with armed := some (5, 1000, true) }) with time := { up.time with devtime := 1000 } } :
    State).epoDom (0 : Nat)).st = .open_ ∧
  (({ ep (fun x => { x with armed := some (5, 1000, true) }) with time := { up.time with devtime := 1000 } } :
    State).epoDom (0 : Nat)).c < (5 : Nat) ∧
  (({ ep (fun x => { x with armed := some (5, 1000, true) }) with time := { up.time with devtime := 1000 } } :
    State).epoDom (0 : Nat)).cleanup = none ∧
  (({ ep (fun x => { x with armed := some (5, 1000, true) }) with time := { up.time with devtime := 1000 } } :
    State).epo.epochWait.any fun r => r.dom == (0 : Nat)) = false :=
  by decide +kernel

theorem witness_EpochControlCommands_1 : (ep id : State).wf = true ∧ (ep id : State).barReady (0 : Nat) ∧
  (ep id : State).epo.dbBusy = false ∧ (ep id : State).fld F.epoDbDeadlineDevtime = 0 ∧
  (ep id : State).prepareGate (0 : Nat) (5 : Nat) 0 ((ep id : State).fld F.epoDbDeadlinePps == 1) = none ∧
  ((ep id : State).epo.epochWait.any fun r => r.dom == (0 : Nat)) = false :=
  by decide +kernel

theorem witness_EpochControlCommands_2 : (ep (fun x => { x with st := .prepared, e := 5 }) : State).wf = true ∧
  (ep (fun x => { x with st := .prepared, e := 5 }) : State).barReady (0 : Nat) ∧
  (ep (fun x => { x with st := .prepared, e := 5 }) : State).epo.dbBusy = false ∧
  (ep (fun x => { x with st := .prepared, e := 5 }) : State).commitGate (0 : Nat) (5 : Nat) = none :=
  by decide +kernel

theorem witness_EpochControlCommands_3 : (ep (fun x => { x with st := .prepared, e := 5 }) : State).wf = true ∧
  (ep (fun x => { x with st := .prepared, e := 5 }) : State).barReady (0 : Nat) ∧
  (ep (fun x => { x with st := .prepared, e := 5 }) : State).epo.dbBusy = false ∧
  (ep (fun x => { x with st := .prepared, e := 5 }) : State).abortGate (0 : Nat) (5 : Nat) = none ∧
  ((ep (fun x => { x with st := .prepared, e := 5 }) : State).epoDom (0 : Nat)).armed = none :=
  by decide +kernel

theorem witness_EpochControlCommands_4 : (ep id : State).barReady (0 : Nat) ∧ (ep id : State).epo.dbBusy = false ∧
  (ep id : State).commitGate (0 : Nat) (5 : Nat) = some (.busy : Rc) :=
  by decide +kernel

theorem witness_EpochControlCommands_5 : ({ ep id with epo := { (ep id).epo with dbBusy := true } } : State).wf = true ∧
  ({ ep id with epo := { (ep id).epo with dbBusy := true } } : State).barReady (0 : Nat) ∧
  ({ ep id with epo := { (ep id).epo with dbBusy := true } } : State).epo.dbBusy = true :=
  by decide +kernel

theorem witness_EpochControlCommands_6 : (hostUp .on liveDom id : State).wf = true ∧
  (hostUp .on liveDom id : State).barReady (0 : Nat) ∧ (255 : Nat) < 256 ∧
  ((hostUp .on liveDom id : State).dom (255 : Nat)).epochEn = false ∧ (hostUp .on liveDom id : State).swt.st = .none ∧
  ((hostUp .on liveDom id : State).epoDom (255 : Nat)).cleanup = none ∧
  (hostUp .on liveDom id : State).undoAlloc (255 : Nat) = some ((1 : Nat), (1048577 : Nat)) :=
  by decide +kernel

theorem witness_EpochControlCommands_7 : (ep id : State).wf = true ∧ (ep id : State).barReady (0 : Nat) ∧
  (0 : Nat) < 256 ∧ ((ep id : State).dom (0 : Nat)).epochEn = true ∧ ((ep id : State).epoDom (0 : Nat)).st = .open_ ∧
  ((ep id : State).epoDom (0 : Nat)).cleanup = none :=
  by decide +kernel

theorem witness_EpochControlCommands_8 : (ep (fun x => { x with st := .enabling }) : State).wf = true ∧
  (ep (fun x => { x with st := .enabling }) : State).pwr.coreOn = true ∧
  ((ep (fun x => { x with st := .enabling }) : State).epoDom (0 : Nat)).st = .enabling ∧
  (ep (fun x => { x with st := .enabling }) : State).map.st = .active ∧
  (ep (fun x => { x with st := .enabling }) : State).tagsDirty (0 : Nat) = false :=
  by decide +kernel

theorem witness_EpochControlCommands_9 : up.barReady (0 : Nat) :=
  by decide +kernel

theorem witness_DomainKeyCommands_1 : (kd Dom.fresh : State).wf = true ∧
  (kd Dom.fresh : State).session (9 : Nat) = some (⟨0, 9, true, true⟩ : Session) ∧ (⟨0, 9, true,
  true⟩ : Session).keyAdmin = true ∧ (kd Dom.fresh : State).portUp (⟨0, 9, true, true⟩ : Session).port = true ∧
  (kd Dom.fresh : State).fwu.paused = false ∧ (0 : Nat) < 256 ∧ (kd Dom.fresh : State).haltCovers (0 : Nat) = false ∧
  (kd Dom.fresh : State).slotFree (0 : Nat) false = true ∧
  ((kd Dom.fresh : State).dom (0 : Nat)).hasId (keyIdOf (5#256 : BitVec 256)) = false ∧
  (kd Dom.fresh : State).bestCell 5 16 = some ((0 : Nat), (0 : Nat)) ∧ (0 : Nat) + 1 < 2 ^ 56 ∧
  (kd Dom.fresh : State).cellGood 5 (((0 : Nat) + 1) % 16) = true :=
  by decide +kernel

theorem witness_DomainKeyCommands_2 : ((kd Dom.fresh).setFld F.topMidxAssigned 1 : State).wf = true ∧
  ((kd Dom.fresh).setFld F.topMidxAssigned 1 : State).mboxRwReady (0 : Nat) ∧ (0 : Nat) < 256 ∧
  ((kd Dom.fresh).setFld F.topMidxAssigned 1 : State).haltCovers (0 : Nat) = false ∧
  ((kd Dom.fresh).setFld F.topMidxAssigned 1 : State).fld F.topMidxAssigned = 1 ∧
  ((kd Dom.fresh).setFld F.topMidxAssigned 1 : State).cry.drbg ≠ .failed ∧
  ((kd Dom.fresh).setFld F.topMidxAssigned 1 : State).slotFree (0 : Nat) false = true ∧
  (((kd Dom.fresh).setFld F.topMidxAssigned 1 : State).dom (0 : Nat)).gen0 = none ∧
  (((kd Dom.fresh).setFld F.topMidxAssigned 1 : State).dom (0 : Nat)).gen1 = none ∧
  (((kd Dom.fresh).setFld F.topMidxAssigned 1 : State).dom (0 : Nat)).next = none ∧
  ((kd Dom.fresh).setFld F.topMidxAssigned 1 : State).bestCell 5 16 = some ((0 : Nat), (0 : Nat)) ∧
  (0 : Nat) + 1 < 2 ^ 56 ∧ ((kd Dom.fresh).setFld F.topMidxAssigned 1 : State).cellGood 5 (((0 : Nat) + 1) % 16) = true :=
  by decide +kernel

theorem witness_DomainKeyCommands_3 : (kd liveDom : State).wf = true ∧ (kd liveDom : State).session (9 : Nat) = some (⟨0,
  9, true, true⟩ : Session) ∧ (⟨0, 9, true, true⟩ : Session).keyAdmin = true ∧ (kd liveDom : State).portUp (⟨0, 9, true,
  true⟩ : Session).port = true ∧ (kd liveDom : State).fwu.paused = false ∧ (0 : Nat) < 256 :=
  by decide +kernel

theorem witness_DomainKeyCommands_4 : (kd { liveDom with gen0 := some key1, next := some { key1 with key := 3#256 } } :
    State).wf = true ∧
  (kd { liveDom with gen0 := some key1, next := some { key1 with key := 3#256 } } : State).session (9 : Nat) = some (⟨0,
  9, true, true⟩ : Session) ∧ (⟨0, 9, true, true⟩ : Session).keyAdmin = true ∧
  (kd { liveDom with gen0 := some key1, next := some { key1 with key := 3#256 } } : State).portUp (⟨0, 9, true,
  true⟩ : Session).port = true ∧
  (kd { liveDom with gen0 := some key1, next := some { key1 with key := 3#256 } } : State).fwu.paused = false ∧
  (0 : Nat) < 256 ∧
  (kd { liveDom with gen0 := some key1, next := some { key1 with key := 3#256 } } : State).haltCovers (0 : Nat) = false ∧
  ((kd { liveDom with gen0 := some key1, next := some { key1 with key := 3#256 } } : State).dom (0 : Nat)).st = .active ∧
  ((kd { liveDom with gen0 := some key1, next := some { key1 with key := 3#256 } } : State).dom (0 : Nat)).next = some
    ({ key1 with key := 3#256 } : KeySlot) ∧
  (kd { liveDom with gen0 := some key1, next := some { key1 with key := 3#256 } } : State).bestCell 5 16 = some ((0 :
    Nat), (0 : Nat)) ∧ (0 : Nat) + 1 < 2 ^ 56 ∧
  (kd { liveDom with gen0 := some key1, next := some { key1 with key := 3#256 } } : State).cellGood 5 (((0 : Nat) + 1) %
    16) = true :=
  by decide +kernel

theorem witness_DomainKeyCommands_5 : (kd { liveDom with gen0 := some key1 } : State).session (9 : Nat) = some (⟨0, 9,
  true, true⟩ : Session) ∧ (⟨0, 9, true, true⟩ : Session).keyAdmin = true ∧
  (kd { liveDom with gen0 := some key1 } : State).portUp (⟨0, 9, true, true⟩ : Session).port = true ∧
  (kd { liveDom with gen0 := some key1 } : State).fwu.paused = false ∧ (0 : Nat) < 256 :=
  by decide +kernel

theorem witness_DomainKeyCommands_6 : (kd { liveDom with st := .rekeying, cur := 1, sweep := .waiting } : State).wf = true
    ∧ (kd { liveDom with st := .rekeying, cur := 1, sweep := .waiting } : State).pwr.coreOn = true ∧
  ((kd { liveDom with st := .rekeying, cur := 1, sweep := .waiting } : State).dom (0 : Nat)).st = .rekeying ∧
  ((kd { liveDom with st := .rekeying, cur := 1, sweep := .waiting } : State).dom (0 : Nat)).sweep = .waiting ∧
  (kd { liveDom with st := .rekeying, cur := 1, sweep := .waiting } : State).map.st = .active ∧
  ((kd { liveDom with st := .rekeying, cur := 1, sweep := .waiting } : State).cry.doms.any fun p => decide (p.2.sweep =
    .running)) = false ∧
  (kd { liveDom with st := .rekeying, cur := 1, sweep := .waiting } : State).haltCovers (0 : Nat) = false ∧
  (kd { liveDom with st := .rekeying, cur := 1, sweep := .waiting } : State).oldStaged (0 : Nat) = false :=
  by decide +kernel

theorem witness_DomainKeyCommands_7 : (kd { liveDom with st := .rekeying, cur := 1, sweep := .running } : State).wf = true
    ∧ (kd { liveDom with st := .rekeying, cur := 1, sweep := .running } : State).pwr.coreOn = true ∧
  ((kd { liveDom with st := .rekeying, cur := 1, sweep := .running } : State).dom (0 : Nat)).sweep = .running ∧
  (kd { liveDom with st := .rekeying, cur := 1, sweep := .running } : State).sweepNext (0 : Nat) = none ∧
  (kd { liveDom with st := .rekeying, cur := 1, sweep := .running } : State).sweepStaged (0 : Nat) = false ∧
  (kd { liveDom with st := .rekeying, cur := 1, sweep := .running } : State).flt.quar = [] ∧
  (kd { liveDom with st := .rekeying, cur := 1, sweep := .running } : State).swt.st = .none :=
  by decide +kernel

theorem witness_DomainKeyCommands_8 : (kd
    { liveDom with st := .rekeying, cur := 1, gen0 := some key1, gen1 := some { key1 with key := 3#256 } } : State).wf =
    true ∧
  (kd { liveDom with st := .rekeying, cur := 1, gen0 := some key1, gen1 := some { key1 with key := 3#256 } } :
    State).pwr.coreOn = true ∧
  ((kd { liveDom with st := .rekeying, cur := 1, gen0 := some key1, gen1 := some { key1 with key := 3#256 } } : State).dom
    (0 : Nat)).st = .rekeying ∧
  ((kd { liveDom with st := .rekeying, cur := 1, gen0 := some key1, gen1 := some { key1 with key := 3#256 } } : State).dom
    (0 : Nat)).sweep = .idle ∧
  ((kd { liveDom with st := .rekeying, cur := 1, gen0 := some key1, gen1 := some { key1 with key := 3#256 } } : State).dom
    (0 : Nat)).due = false ∧
  ((kd { liveDom with st := .rekeying, cur := 1, gen0 := some key1, gen1 := some { key1 with key := 3#256 } } : State).dom
    (0 : Nat)).cur ≤ 1 ∧
  (kd { liveDom with st := .rekeying, cur := 1, gen0 := some key1, gen1 := some { key1 with key := 3#256 } } :
    State).oldRetained (0 : Nat) = false ∧
  (kd { liveDom with st := .rekeying, cur := 1, gen0 := some key1, gen1 := some { key1 with key := 3#256 } } :
    State).haltCovers (0 : Nat) = false :=
  by decide +kernel

theorem witness_DomainKeyCommands_9 : ({ kd { liveDom with gen0 := some key1 } with flt := { up.flt with quar := [q1] } }
    : State).wf = true ∧
  ({ kd { liveDom with gen0 := some key1 } with flt := { up.flt with quar := [q1] } } : State).session (9 : Nat) = some
    (⟨0, 9, true, true⟩ : Session) ∧ (⟨0, 9, true, true⟩ : Session).keyAdmin = true ∧
  ({ kd { liveDom with gen0 := some key1 } with flt := { up.flt with quar := [q1] } } : State).portUp (⟨0, 9, true,
  true⟩ : Session).port = true ∧
  ({ kd { liveDom with gen0 := some key1 } with flt := { up.flt with quar := [q1] } } : State).fwu.paused = false ∧
  (({ kd { liveDom with gen0 := some key1 } with flt := { up.flt with quar := [q1] } } : State).dom (q1 :
    QuarRec).dom).gen (q1 : QuarRec).kgen = some (key1 : KeySlot) ∧
  (({ kd { liveDom with gen0 := some key1 } with flt := { up.flt with quar := [q1] } } : State).flt.quar.find? fun (q1 :
    QuarRec) => (q1 : QuarRec).no == (3 : Nat)) = some (q1 : QuarRec) ∧
  quarTag (key1 : KeySlot).key (q1 : QuarRec) = (q1 : QuarRec).tag :=
  ⟨by decide +kernel,
    by decide +kernel,
    by decide +kernel,
    by decide +kernel,
    by decide +kernel,
    by decide +kernel,
    rfl,
    by simp only [q1, quarTag, quarIv, quarBytes]⟩

theorem witness_DomainKeyCommands_10 : up.wf = true ∧ up.barReady (0 : Nat) ∧ (255 : Nat) < 256 ∧
  ((up.dom (255 : Nat)).count = 0 ∨ (up.dom (255 : Nat)).st = .empty) :=
  by decide +kernel

theorem witness_DomainKeyCommands_11 : (up.bump F.cryCntHalts 1 : State).wf = true ∧
  (up.bump F.cryCntHalts 1 : State).barReady (0 : Nat) :=
  by decide +kernel

theorem witness_KeyVaultCommands_1 : ({ up with cry := { up.cry with kvOps := [.wrap 3, .kdf 0] } } : State).pwr.coreOn =
    true ∧
  ({ up with cry := { up.cry with kvOps := [.wrap 3, .kdf 0] } } : State).cry.kvOps = (.wrap 3 : KvOp) :: ([.kdf 0] : List
    KvOp) ∧ (.wrap 3 : KvOp).code ≠ 5 :=
  by decide +kernel

theorem witness_KeyVaultCommands_2 : ({ up with cry := { up.cry with kvOps := [.unwrap 767] } } : State).wf = true ∧
  ({ up with cry := { up.cry with kvOps := [.unwrap 767] } } : State).pwr.coreOn = true ∧
  ({ up with cry := { up.cry with kvOps := [.unwrap 767] } } : State).cry.kvOps = .unwrap (767 : Nat) :: ([] : List KvOp)
    :=
  by decide +kernel

theorem witness_KeyVaultCommands_3 : ({ up with cry := { up.cry with drbgReqs := 5 } } : State).wf = true ∧
  ({ up with cry := { up.cry with drbgReqs := 5 } } : State).barReady (0 : Nat) ∧
  ({ up with cry := { up.cry with drbgReqs := 5 } } : State).cry.drbg = .ready :=
  by decide +kernel

theorem witness_KeyVaultCommands_4 : ({ up with time := { up.time with opNs := 1000000000 } } : State).wf = true ∧
  ({ up with time := { up.time with opNs := 1000000000 } } : State).pwr.coreOn = true ∧
  ({ up with time := { up.time with opNs := 1000000000 } } : State).cry.drbg = .ready ∧
  (2 ^ 20 ≤ ({ up with time := { up.time with opNs := 1000000000 } } : State).cry.drbgReqs ∨
    ({ up with time := { up.time with opNs := 1000000000 } } : State).cry.lastSeed + 1000000000 ≤
    ({ up with time := { up.time with opNs := 1000000000 } } : State).time.opNs) :=
  by decide +kernel

theorem witness_KeyVaultCommands_5 : up.wf = true ∧ up.pwr.coreOn = true ∧ up.cry.drbg ≠ .failed :=
  by decide +kernel

theorem witness_KeyVaultCommands_6 : ({ up with cry := { up.cry with drbg := .starting } } : State).wf = true ∧
  ({ up with cry := { up.cry with drbg := .starting } } : State).pwr.coreOn = true ∧
  ({ up with cry := { up.cry with drbg := .starting } } : State).cry.drbg = .starting :=
  by decide +kernel

theorem witness_KeyVaultCommands_7_1 : ({ up with cry := { up.cry with drbg := .starting, drbgRetries := 1 } } : State).wf
    = true ∧ ({ up with cry := { up.cry with drbg := .starting, drbgRetries := 1 } } : State).pwr.coreOn = true ∧
  ({ up with cry := { up.cry with drbg := .starting, drbgRetries := 1 } } : State).cry.drbg = .starting :=
  by decide +kernel

theorem witness_KeyVaultCommands_7_2 : ({ up with cry := { up.cry with drbg := .starting, drbgRetries := 2 } } : State).wf
    = true ∧ ({ up with cry := { up.cry with drbg := .starting, drbgRetries := 2 } } : State).pwr.coreOn = true ∧
  ({ up with cry := { up.cry with drbg := .starting, drbgRetries := 2 } } : State).cry.drbg = .starting :=
  by decide +kernel

theorem witness_KeyVaultCommands_8 : (up.bump F.kveCntBlocks 1 : State).wf = true ∧
  (up.bump F.kveCntBlocks 1 : State).barReady (0 : Nat) :=
  by decide +kernel

theorem witness_StripeAndJournalCommands_1 : ({ grp [strp [sl 3]] with time := { up.time with pick := 100000 } } :
    State).wf = true ∧ (0 : Nat) < 8 ∧
  ({ grp [strp [sl 3]] with time := { up.time with pick := 100000 } } : State).pwr.coreOn = true ∧
  ((({ grp [strp [sl 3]] with time := { up.time with pick := 100000 } } : State).openHeld (0 : Nat)).find? fun y => decide
    (y.first + ({ grp [strp [sl 3]] with time := { up.time with pick := 100000 } } : State).fld (F.plyCfgStripeTimeout (0
    : Nat)) ≤ ({ grp [strp [sl 3]] with time := { up.time with pick := 100000 } } : State).time.pick)) = some (strp [sl 3]
    : Stripe) :=
  by decide +kernel

theorem witness_StripeAndJournalCommands_2 : (grp [strp [sl 3]] : State).wf = true ∧
  (grp [strp [sl 3]] : State).barReady (0 : Nat) :=
  by decide +kernel

theorem witness_StripeAndJournalCommands_3 : up.wf = true ∧ (7 : Nat) < 8 ∧ up.barReady (0 : Nat) :=
  by decide +kernel

theorem witness_StripeAndJournalCommands_4 : (up.bump (F.plyPadCntFillerLines 7) 3 : State).wf = true ∧ (7 : Nat) < 8 ∧
  (up.bump (F.plyPadCntFillerLines 7) 3 : State).barReady (0 : Nat) :=
  by decide +kernel

theorem witness_StripeAndJournalCommands_5 : (grp
    [{ strp [sl 3] with isOpen := false, sealed := true, done := 0xFFFF#16 }] : State).wf = true ∧
  (grp [{ strp [sl 3] with isOpen := false, sealed := true, done := 0xFFFF#16 }] : State).pwr.coreOn = true ∧
  (grp [{ strp [sl 3] with isOpen := false, sealed := true, done := 0xFFFF#16 }] : State).map.st = .active ∧
  (grp [{ strp [sl 3] with isOpen := false, sealed := true, done := 0xFFFF#16 }] : State).nextSealed (0 : Nat) = some
    ({ strp [sl 3] with isOpen := false, sealed := true, done := 0xFFFF#16 } : Stripe) ∧
  ({ strp [sl 3] with isOpen := false, sealed := true, done := 0xFFFF#16 } : Stripe).lines = [(sl 3 : Staged)] ∧
  (sl 3 : Staged).kind = .host ∧ (sl 3 : Staged).superseded = false ∧ (sl 3 : Staged).recorded = false ∧
  ((grp [{ strp [sl 3] with isOpen := false, sealed := true, done := 0xFFFF#16 }] : State).dom (sl 3 : Staged).dom).integ
    = false ∧
  (grp [{ strp [sl 3] with isOpen := false, sealed := true, done := 0xFFFF#16 }] : State).epochOn (sl 3 : Staged).dom =
    false ∧
  (grp [{ strp [sl 3] with isOpen := false, sealed := true, done := 0xFFFF#16 }] : State).mpresent 0 ((sl 3 : Staged).line
    / 32) = true ∧
  (grp [{ strp [sl 3] with isOpen := false, sealed := true, done := 0xFFFF#16 }] : State).epochHold (sl 3 : Staged) =
    false ∧ (grp [{ strp [sl 3] with isOpen := false, sealed := true, done := 0xFFFF#16 }] : State).jnlFull = false ∧
  (grp [{ strp [sl 3] with isOpen := false, sealed := true, done := 0xFFFF#16 }] : State).heldBack (sl 3 : Staged) = false
    :=
  by decide +kernel

theorem witness_StripeAndJournalCommands_6 :
    ({ grp [{ strp [sl 3] with isOpen := false, sealed := true, done := 0xFFFF#16 }] with map := { up.map with cached := [⟨0, 0, false, 0, 0, 0, 0⟩], dirtyHeld := [(0, 0)] } }
    : State).wf = true ∧
  ({ grp [{ strp [sl 3] with isOpen := false, sealed := true, done := 0xFFFF#16 }] with map := { up.map with cached := [⟨0, 0, false, 0, 0, 0, 0⟩], dirtyHeld := [(0, 0)] } }
    : State).pwr.coreOn = true ∧
  ({ grp [{ strp [sl 3] with isOpen := false, sealed := true, done := 0xFFFF#16 }] with map := { up.map with cached := [⟨0, 0, false, 0, 0, 0, 0⟩], dirtyHeld := [(0, 0)] } }
    : State).map.st = .active ∧
  ({ grp [{ strp [sl 3] with isOpen := false, sealed := true, done := 0xFFFF#16 }] with map := { up.map with cached := [⟨0, 0, false, 0, 0, 0, 0⟩], dirtyHeld := [(0, 0)] } }
    : State).map.dirtyHeld = ((0 : Nat), (0 : Nat)) :: ([] : List (Nat × Nat)) ∧
  ({ ({ grp [{ strp [sl 3] with isOpen := false, sealed := true, done := 0xFFFF#16 }] with map := { up.map with cached := [⟨0, 0, false, 0, 0, 0, 0⟩], dirtyHeld := [(0, 0)] } } : State) with map := { ({ grp [{ strp [sl 3] with isOpen := false, sealed := true, done := 0xFFFF#16 }] with map := { up.map with cached := [⟨0, 0, false, 0, 0, 0, 0⟩], dirtyHeld := [(0, 0)] } } : State).map with dirtyHeld := ([] : List (Nat × Nat)) } }
    : State).nextSealed (0 : Nat) = some ({ strp [sl 3] with isOpen := false, sealed := true, done := 0xFFFF#16 } :
    Stripe) ∧ ({ strp [sl 3] with isOpen := false, sealed := true, done := 0xFFFF#16 } : Stripe).block = (0 : Nat) ∧
  ({ strp [sl 3] with isOpen := false, sealed := true, done := 0xFFFF#16 } : Stripe).lines = [(sl 3 : Staged)] ∧
  (sl 3 : Staged).kind = .host ∧ (sl 3 : Staged).superseded = false ∧ (sl 3 : Staged).recorded = false ∧
  (({ grp [{ strp [sl 3] with isOpen := false, sealed := true, done := 0xFFFF#16 }] with map := { up.map with cached := [⟨0, 0, false, 0, 0, 0, 0⟩], dirtyHeld := [(0, 0)] } }
    : State).dom (sl 3 : Staged).dom).integ = false ∧
  ({ grp [{ strp [sl 3] with isOpen := false, sealed := true, done := 0xFFFF#16 }] with map := { up.map with cached := [⟨0, 0, false, 0, 0, 0, 0⟩], dirtyHeld := [(0, 0)] } }
    : State).epochOn (sl 3 : Staged).dom = false ∧
  ({ grp [{ strp [sl 3] with isOpen := false, sealed := true, done := 0xFFFF#16 }] with map := { up.map with cached := [⟨0, 0, false, 0, 0, 0, 0⟩], dirtyHeld := [(0, 0)] } }
    : State).mpresent 0 ((sl 3 : Staged).line / 32) = true ∧
  ({ grp [{ strp [sl 3] with isOpen := false, sealed := true, done := 0xFFFF#16 }] with map := { up.map with cached := [⟨0, 0, false, 0, 0, 0, 0⟩], dirtyHeld := [(0, 0)] } }
    : State).epochHold (sl 3 : Staged) = false ∧
  ({ grp [{ strp [sl 3] with isOpen := false, sealed := true, done := 0xFFFF#16 }] with map := { up.map with cached := [⟨0, 0, false, 0, 0, 0, 0⟩], dirtyHeld := [(0, 0)] } }
    : State).jnlFull = false ∧
  ({ grp [{ strp [sl 3] with isOpen := false, sealed := true, done := 0xFFFF#16 }] with map := { up.map with cached := [⟨0, 0, false, 0, 0, 0, 0⟩], dirtyHeld := [(0, 0)] } }
    : State).heldBack (sl 3 : Staged) = false :=
  by decide +kernel

theorem witness_StripeAndJournalCommands_7 : (mp (fun m => { m with jbuf := [jr 0], nextJsn := 1 }) : State).pwr.coreOn =
    true ∧ (mp (fun m => { m with jbuf := [jr 0], nextJsn := 1 }) : State).map.jbuf ≠ [] :=
  by decide +kernel

theorem witness_StripeAndJournalCommands_8 : (mp (fun m => { m with jlines := [[jr 4]], nextJsn := 5 }) :
    State).pwr.coreOn = true ∧
  (mp (fun m => { m with jlines := [[jr 4]], nextJsn := 5 }) : State).map.jlines = ([jr 4] : List JRec) :: ([] : List
    (List JRec)) :=
  by decide +kernel

theorem witness_StripeAndJournalCommands_9 : (mp (fun m => { m with recsSince := 2 ^ 30, jbuf := [jr 0], nextJsn := 1 }) :
    State).pwr.coreOn = true ∧
  (mp (fun m => { m with recsSince := 2 ^ 30, jbuf := [jr 0], nextJsn := 1 }) : State).map.st = .active ∧
  (mp (fun m => { m with recsSince := 2 ^ 30, jbuf := [jr 0], nextJsn := 1 }) : State).map.ckpt = none ∧
  2 ^ (mp (fun m => { m with recsSince := 2 ^ 30, jbuf := [jr 0], nextJsn := 1 }) : State).fld F.mapJnlCfgCkptRecordsLog2
    ≤ (mp (fun m => { m with recsSince := 2 ^ 30, jbuf := [jr 0], nextJsn := 1 }) : State).map.recsSince :=
  by decide +kernel

theorem witness_StripeAndJournalCommands_10 : (mp (fun m => { m with recsSince := 1, jbuf := [jr 0], nextJsn := 1 }) :
    State).pwr.coreOn = true ∧
  (mp (fun m => { m with recsSince := 1, jbuf := [jr 0], nextJsn := 1 }) : State).map.st = .active ∧
  (mp (fun m => { m with recsSince := 1, jbuf := [jr 0], nextJsn := 1 }) : State).map.ckpt = none ∧
  1 ≤ (mp (fun m => { m with recsSince := 1, jbuf := [jr 0], nextJsn := 1 }) : State).map.recsSince :=
  by decide +kernel

theorem witness_StripeAndJournalCommands_11 : up.barReady (0 : Nat) ∧ up.map.st = .active ∧ up.map.ckpt = none :=
  by decide +kernel

theorem witness_StripeAndJournalCommands_12 : (mp (fun m => { m with ckpt := some ⟨1⟩, nextJsn := 1 }) : State).wf = true
    ∧ (mp (fun m => { m with ckpt := some ⟨1⟩, nextJsn := 1 }) : State).pwr.coreOn = true ∧
  (mp (fun m => { m with ckpt := some ⟨1⟩, nextJsn := 1 }) : State).map.st = .active ∧
  (mp (fun m => { m with ckpt := some ⟨1⟩, nextJsn := 1 }) : State).wp.flush = none ∧
  (mp (fun m => { m with ckpt := some ⟨1⟩, nextJsn := 1 }) : State).map.ckpt = some (⟨1⟩ : Ckpt) ∧
  (mp (fun m => { m with ckpt := some ⟨1⟩, nextJsn := 1 }) : State).ckptReady (⟨1⟩ : Ckpt).x = true :=
  by decide +kernel

theorem witness_StripeAndJournalCommands_13 : (up.bump F.mapErrCntEntryCheck 2 : State).wf = true ∧
  (up.bump F.mapErrCntEntryCheck 2 : State).barReady (0 : Nat) :=
  by decide +kernel

theorem witness_MapCacheCommands_1 : (mp (fun m => { m with fills := [⟨3, 7⟩], cached := [⟨2, 0, false, 0, 0, 0, 0⟩] }) :
    State).pwr.coreOn = true ∧
  (mp (fun m => { m with fills := [⟨3, 7⟩], cached := [⟨2, 0, false, 0, 0, 0, 0⟩] }) : State).map.st = .active ∧
  (mp (fun m => { m with fills := [⟨3, 7⟩], cached := [⟨2, 0, false, 0, 0, 0, 0⟩] }) : State).fillCan 3 (7 : Nat) = true
    :=
  by decide +kernel

theorem witness_MapCacheCommands_2 : (mp (fun m => { m with fills := [⟨1, 7⟩] }) : State).wf = true ∧
  (mp (fun m => { m with fills := [⟨1, 7⟩] }) : State).pwr.coreOn = true ∧
  (mp (fun m => { m with fills := [⟨1, 7⟩] }) : State).map.st = .active ∧
  (mp (fun m => { m with fills := [⟨1, 7⟩] }) : State).fillCan 1 (7 : Nat) = true :=
  by decide +kernel

theorem witness_MapCacheCommands_3 : (mp (fun m => { m with fills := [⟨1, 7⟩], dirLost := [7] }) : State).wf = true ∧
  (mp (fun m => { m with fills := [⟨1, 7⟩], dirLost := [7] }) : State).pwr.coreOn = true ∧
  (7 : Nat) < (mp (fun m => { m with fills := [⟨1, 7⟩], dirLost := [7] }) : State).intmapBase ∧
  (mp (fun m => { m with fills := [⟨1, 7⟩], dirLost := [7] }) : State).map.dirLost.contains (7 : Nat) = true ∧
  (mp (fun m => { m with fills := [⟨1, 7⟩], dirLost := [7] }) : State).map.fills.all (fun f => f.kind != 0) = true :=
  by decide +kernel

theorem witness_MapCacheCommands_4 : (mp (fun m => { m with ckpt := some ⟨1⟩, cached := [⟨1, 9, true, 0, 0, 0, 0⟩] }) :
    State).pwr.coreOn = true ∧
  (mp (fun m => { m with ckpt := some ⟨1⟩, cached := [⟨1, 9, true, 0, 0, 0, 0⟩] }) : State).map.st = .active ∧
  (mp (fun m => { m with ckpt := some ⟨1⟩, cached := [⟨1, 9, true, 0, 0, 0, 0⟩] }) : State).mclean = some (⟨1, 9, true, 0,
  0, 0, 0⟩ : MSlot) ∧ (⟨1, 9, true, 0, 0, 0, 0⟩ : MSlot).kind = 1 :=
  by decide +kernel

theorem witness_MapCacheCommands_5 : ((mp (fun m => { m with pfq := [(5, 0)], dir := [(5, some 0)] })).setFld
    F.mapPfCfgHintMax 0xFFFFF : State).pwr.coreOn = true ∧
  ((mp (fun m => { m with pfq := [(5, 0)], dir := [(5, some 0)] })).setFld F.mapPfCfgHintMax 0xFFFFF : State).map.pfq.any
    (fun p => p.1 == (5 : Nat)) = true ∧
  ((mp (fun m => { m with pfq := [(5, 0)], dir := [(5, some 0)] })).setFld F.mapPfCfgHintMax 0xFFFFF : State).dirAt (5 :
    Nat) = some (0 : Nat) ∧
  ((mp (fun m => { m with pfq := [(5, 0)], dir := [(5, some 0)] })).setFld F.mapPfCfgHintMax 0xFFFFF : State).turnHint
    (addrSkein (0 : Nat)) clsMet true ≤ ((mp (fun m => { m with pfq := [(5, 0)], dir := [(5, some 0)] })).setFld
    F.mapPfCfgHintMax 0xFFFFF : State).fld F.mapPfCfgHintMax ∧
  (((mp (fun m => { m with pfq := [(5, 0)], dir := [(5, some 0)] })).setFld F.mapPfCfgHintMax 0xFFFFF : State).warp1
    (addrSkein (0 : Nat))).rq.any (fun r => r.cls == clsMet && !r.pf) = false :=
  by decide +kernel

theorem witness_MapCacheCommands_6 : ({ mp (fun m => { m with pfq := [(5, 0)] }) with time := { up.time with pick := 1 } }
    : State).pwr.coreOn = true :=
  by decide +kernel

theorem witness_MapCacheCommands_7 : (mp (fun m => { m with regions := [(3, { Region.fresh with writes := 2 ^ 40 })] }) :
    State).pwr.coreOn = true ∧
  (mp (fun m => { m with regions := [(3, { Region.fresh with writes := 2 ^ 40 })] }) : State).populated (1 : Nat) = true ∧
  (1 : Nat) < 2 ∧
  (mp (fun m => { m with regions := [(3, { Region.fresh with writes := 2 ^ 40 })] }) : State).fld F.mapSgCfgPsi ≤ ((mp
    (fun m => { m with regions := [(3, { Region.fresh with writes := 2 ^ 40 })] }) : State).region (1 : Nat) (1 :
    Nat)).writes ∧
  ((mp (fun m => { m with regions := [(3, { Region.fresh with writes := 2 ^ 40 })] }) : State).region (1 : Nat) (1 :
    Nat)).moving = false ∧
  ((mp (fun m => { m with regions := [(3, { Region.fresh with writes := 2 ^ 40 })] }) : State).region (1 : Nat) (1 :
    Nat)).frozen = false :=
  by decide +kernel

theorem witness_MapCacheCommands_8_1 : Tab.wf (fun _ => Region.fresh) (mp (fun m =>
    { m with regions := [(3, { Region.fresh with writes := 2 ^ 40, moving := true })] }) : State).map.regions = true ∧
  (mp (fun m => { m with regions := [(3, { Region.fresh with writes := 2 ^ 40, moving := true })] }) : State).pwr.coreOn =
    true ∧
  ((mp (fun m => { m with regions := [(3, { Region.fresh with writes := 2 ^ 40, moving := true })] }) : State).region (1 :
    Nat) (1 : Nat)).moving = true :=
  by decide +kernel

theorem witness_MapCacheCommands_8_2 : Tab.wf (fun _ => Region.fresh) (mp (fun m =>
    { m with regions := [(3, { Region.fresh with gap := some 0, start := 2 ^ 22 - 2, moving := true })] }) :
    State).map.regions = true ∧
  (mp (fun m => { m with regions := [(3, { Region.fresh with gap := some 0, start := 2 ^ 22 - 2, moving := true })] }) :
    State).pwr.coreOn = true ∧
  ((mp (fun m => { m with regions := [(3, { Region.fresh with gap := some 0, start := 2 ^ 22 - 2, moving := true })] }) :
    State).region (1 : Nat) (1 : Nat)).moving = true :=
  by decide +kernel

theorem witness_RecoveryCommands_1_1 : (mp (fun m => { m with st := .loading, anchor := some ⟨1, 0, true, false, 1, 1⟩ })
    : State).pwr.coreOn = true ∧
  (mp (fun m => { m with st := .loading, anchor := some ⟨1, 0, true, false, 1, 1⟩ }) : State).map.st = .loading ∧
  (mp (fun m => { m with st := .loading, anchor := some ⟨1, 0, true, false, 1, 1⟩ }) : State).map.anchor = some (⟨1, 0,
  true, false, 1, 1⟩ : Anchor) ∧
  ((mp (fun m => { m with st := .loading, anchor := some ⟨1, 0, true, false, 1, 1⟩ }) : State).fmtMismatch = false) :=
  by decide +kernel

theorem witness_RecoveryCommands_1_2 : (mp (fun m => { m with st := .loading, anchor := some ⟨1, 0, false, false, 1, 1⟩ })
    : State).pwr.coreOn = true ∧
  (mp (fun m => { m with st := .loading, anchor := some ⟨1, 0, false, false, 1, 1⟩ }) : State).map.st = .loading ∧
  (mp (fun m => { m with st := .loading, anchor := some ⟨1, 0, false, false, 1, 1⟩ }) : State).map.anchor = some (⟨1, 0,
  false, false, 1, 1⟩ : Anchor) ∧
  ((mp (fun m => { m with st := .loading, anchor := some ⟨1, 0, false, false, 1, 1⟩ }) : State).fmtMismatch = false) :=
  by decide +kernel

theorem witness_RecoveryCommands_2 : (mp (fun m => { m with st := .loading }) : State).wf = true ∧
  (mp (fun m => { m with st := .loading }) : State).pwr.coreOn = true ∧
  (mp (fun m => { m with st := .loading }) : State).map.st = .loading ∧
  (mp (fun m => { m with st := .loading }) : State).map.anchor = none :=
  by decide +kernel

theorem witness_RecoveryCommands_3_1 : (mp (fun m => { m with st := .replaying, jlog := [jr 4, jr 5] }) : State).wf = true
    ∧ (mp (fun m => { m with st := .replaying, jlog := [jr 4, jr 5] }) : State).pwr.coreOn = true ∧
  (mp (fun m => { m with st := .replaying, jlog := [jr 4, jr 5] }) : State).map.st = .replaying :=
  by decide +kernel

theorem witness_RecoveryCommands_3_2 : (mp (fun m => { m with st := .replaying, jlog := [jr 4, jr 5] }) : State).wf = true
    ∧ (mp (fun m => { m with st := .replaying, jlog := [jr 4, jr 5] }) : State).pwr.coreOn = true ∧
  (mp (fun m => { m with st := .replaying, jlog := [jr 4, jr 5] }) : State).map.st = .replaying :=
  by decide +kernel

theorem witness_RecoveryCommands_4 : (mp (fun m => { m with st := .scanning }) : State).wf = true ∧
  (mp (fun m => { m with st := .scanning }) : State).pwr.coreOn = true ∧
  (mp (fun m => { m with st := .scanning }) : State).map.st = .scanning :=
  by decide +kernel

theorem witness_RecoveryCommands_5 :
    ({ mp (fun m => { m with st := .closing }) with time := { up.time with opNs := 9000000 } } : State).wf = true ∧
  ({ mp (fun m => { m with st := .closing }) with time := { up.time with opNs := 9000000 } } : State).pwr.coreOn = true ∧
  ({ mp (fun m => { m with st := .closing }) with time := { up.time with opNs := 9000000 } } : State).map.st = .closing :=
  by decide +kernel

theorem witness_RecoveryCommands_6 :
    ({ mp (fun m => { m with st := .unformatted }) with popP := 2, link := ⟨(List.range 32).map fun n => (n, act SkeinLink.fresh)⟩ }
    : State).wf = true ∧
  ({ mp (fun m => { m with st := .unformatted }) with popP := 2, link := ⟨(List.range 32).map fun n => (n, act SkeinLink.fresh)⟩ }
    : State).pwr.coreOn = true ∧
  ({ mp (fun m => { m with st := .unformatted }) with popP := 2, link := ⟨(List.range 32).map fun n => (n, act SkeinLink.fresh)⟩ }
    : State).map.st = .unformatted ∧
  ({ mp (fun m => { m with st := .unformatted }) with popP := 2, link := ⟨(List.range 32).map fun n => (n, act SkeinLink.fresh)⟩ }
    : State).discoveryOver = true ∧
  ({ mp (fun m => { m with st := .unformatted }) with popP := 2, link := ⟨(List.range 32).map fun n => (n, act SkeinLink.fresh)⟩ }
    : State).popValid = true :=
  by decide +kernel

theorem witness_RecoveryCommands_7 :
    ({ mp (fun m => { m with st := .unformatted }) with popP := 1, link := ⟨(List.range 16).map fun n => (n, act SkeinLink.fresh)⟩ }
    : State).wf = true ∧
  ({ mp (fun m => { m with st := .unformatted }) with popP := 1, link := ⟨(List.range 16).map fun n => (n, act SkeinLink.fresh)⟩ }
    : State).pwr.coreOn = true ∧
  ({ mp (fun m => { m with st := .unformatted }) with popP := 1, link := ⟨(List.range 16).map fun n => (n, act SkeinLink.fresh)⟩ }
    : State).map.st = .unformatted ∧
  ({ mp (fun m => { m with st := .unformatted }) with popP := 1, link := ⟨(List.range 16).map fun n => (n, act SkeinLink.fresh)⟩ }
    : State).discoveryOver = true ∧
  ({ mp (fun m => { m with st := .unformatted }) with popP := 1, link := ⟨(List.range 16).map fun n => (n, act SkeinLink.fresh)⟩ }
    : State).popValid = false :=
  by decide +kernel

theorem witness_MediaCommands_1 : (rdUp (fun x => { x with why := .merge 1 }) : State).wf = true ∧ (1 : Nat) < 8 ∧
  (rdUp (fun x => { x with why := .merge 1 }) : State).pwr.coreOn = true ∧
  (rdUp (fun x => { x with why := .merge 1 }) : State).rd.reads =
    [({ Rd.fresh 5 0 (.merge 1) with st := .needData, addr := 3, seq10 := 9 } : Rd)] ∧
  ({ Rd.fresh 5 0 (.merge 1) with st := .needData, addr := 3, seq10 := 9 } : Rd).why = .merge (1 : Nat) :=
  by decide +kernel

theorem witness_MediaCommands_2 : (rdUp (fun x => { x with st := .decoded, code := some cd }) : State).pwr.coreOn = true ∧
  (rdUp (fun x => { x with st := .decoded, code := some cd }) : State).rd.reads =
    [({ Rd.fresh 5 0 .demand with st := .decoded, addr := 3, seq10 := 9, code := some cd } : Rd)] ∧
  ({ Rd.fresh 5 0 .demand with st := .decoded, addr := 3, seq10 := 9, code := some cd } : Rd).why = .demand ∧
  ({ Rd.fresh 5 0 .demand with st := .decoded, addr := 3, seq10 := 9, code := some cd } : Rd).st = .decoded ∧
  ({ Rd.fresh 5 0 .demand with st := .decoded, addr := 3, seq10 := 9, code := some cd } : Rd).code = some (cd : Code) ∧
  ((rdUp (fun x => { x with st := .decoded, code := some cd }) : State).dom
    ({ Rd.fresh 5 0 .demand with st := .decoded, addr := 3, seq10 := 9, code := some cd } : Rd).dom).integ = false ∧
  (rdUp (fun x => { x with st := .decoded, code := some cd }) : State).spOf
    ({ Rd.fresh 5 0 .demand with st := .decoded, addr := 3, seq10 := 9, code := some cd } : Rd) = 0#4 ∧
  (rdUp (fun x => { x with st := .decoded, code := some cd }) : State).stagedCopy
    ({ Rd.fresh 5 0 .demand with st := .decoded, addr := 3, seq10 := 9, code := some cd } : Rd).line = none ∧
  (rdUp (fun x => { x with st := .decoded, code := some cd }) : State).mshrOf
    ({ Rd.fresh 5 0 .demand with st := .decoded, addr := 3, seq10 := 9, code := some cd } : Rd).line = some (⟨5, 0, [rq],
  [], false, false, false⟩ : Mshr) ∧ (⟨5, 0, [rq], [], false, false, false⟩ : Mshr).reqs = [(rq : Req)] ∧
  (rq : Req).wr = false ∧ (rq : Req).tag ≠ noTag ∧
  (rdUp (fun x => { x with st := .decoded, code := some cd }) : State).fch.maint = none ∧
  (rdUp (fun x => { x with st := .decoded, code := some cd }) : State).plainOf
    ({ Rd.fresh 5 0 .demand with st := .decoded, addr := 3, seq10 := 9, code := some cd } : Rd).line
    ({ Rd.fresh 5 0 .demand with st := .decoded, addr := 3, seq10 := 9, code := some cd } : Rd).dom (cd : Code) = some
    (hostCipher 1#256 9 5 0 (Quad.all 1#512) : Quad Sector) :=
  ⟨by decide +kernel,
    by decide +kernel,
    by decide +kernel,
    by decide +kernel,
    by decide +kernel,
    by decide +kernel,
    by decide +kernel,
    by decide +kernel,
    by decide +kernel,
    by decide +kernel,
    by decide +kernel,
    by decide +kernel,
    by decide +kernel,
    rfl⟩

theorem witness_MediaCommands_3 : (rdUp (fun x => { x with why := .scan, st := .recon }) : State).wf = true ∧
  (rdUp (fun x => { x with why := .scan, st := .recon }) : State).pwr.coreOn = true ∧
  (rdUp (fun x => { x with why := .scan, st := .recon }) : State).flt.inj = none ∧
  (rdUp (fun x => { x with why := .scan, st := .recon }) : State).rd.reads =
    [({ Rd.fresh 5 0 .scan with st := .recon, addr := 3, seq10 := 9 } : Rd)] ∧
  ({ Rd.fresh 5 0 .scan with st := .recon, addr := 3, seq10 := 9 } : Rd).st = .recon ∧
  ({ Rd.fresh 5 0 .scan with st := .recon, addr := 3, seq10 := 9 } : Rd).why = .scan :=
  by decide +kernel

theorem witness_MediaCommands_4 : (rdUp (fun x => { x with armed := some 0 }) : State).pwr.coreOn = true ∧
  (rdUp (fun x => { x with armed := some 0 }) : State).rd.reads =
    [({ Rd.fresh 5 0 .demand with st := .needData, addr := 3, seq10 := 9, armed := some 0 } : Rd)] ∧
  ({ Rd.fresh 5 0 .demand with st := .needData, addr := 3, seq10 := 9, armed := some 0 } : Rd).why = .demand ∧
  ({ Rd.fresh 5 0 .demand with st := .needData, addr := 3, seq10 := 9, armed := some 0 } : Rd).armed.isSome = true ∧
  ({ Rd.fresh 5 0 .demand with st := .needData, addr := 3, seq10 := 9, armed := some 0 } : Rd).timedOut = false ∧
  (rdUp (fun x => { x with armed := some 0 }) : State).mshrOf
    ({ Rd.fresh 5 0 .demand with st := .needData, addr := 3, seq10 := 9, armed := some 0 } : Rd).line = some (⟨5, 0, [rq],
  [], false, false, false⟩ : Mshr) ∧ (⟨5, 0, [rq], [], false, false, false⟩ : Mshr).reqs = [(rq : Req)] ∧
  (rq : Req).wr = false ∧ (rq : Req).tag ≠ noTag :=
  by decide +kernel

theorem witness_MediaCommands_5 : (rdUp id : State).pwr.coreOn = true ∧ ((rdUp id : State).link1 (0 : Nat)).st = .active ∧
  (rdUp id : State).flt.inj = none ∧
  (rdUp id : State).rd.reads = [({ Rd.fresh 5 0 .demand with st := .needData, addr := 3, seq10 := 9 } : Rd)] ∧
  ({ Rd.fresh 5 0 .demand with st := .needData, addr := 3, seq10 := 9 } : Rd).st = .needData ∧
  addrSkein ({ Rd.fresh 5 0 .demand with st := .needData, addr := 3, seq10 := 9 } : Rd).addr = (0 : Nat) ∧
  (5 : Nat) = ({ Rd.fresh 5 0 .demand with st := .needData, addr := 3, seq10 := 9 } : Rd).line ∧
  (9 : Nat) % 1024 = ({ Rd.fresh 5 0 .demand with st := .needData, addr := 3, seq10 := 9 } : Rd).seq10 :=
  by decide +kernel

theorem witness_MediaCommands_6 : (rdUp id : State).pwr.coreOn = true ∧ ((rdUp id : State).link1 (0 : Nat)).st = .active ∧
  (rdUp id : State).flt.inj = none ∧
  (rdUp id : State).rd.reads = [({ Rd.fresh 5 0 .demand with st := .needData, addr := 3, seq10 := 9 } : Rd)] ∧
  ({ Rd.fresh 5 0 .demand with st := .needData, addr := 3, seq10 := 9 } : Rd).st = .needData ∧
  addrSkein ({ Rd.fresh 5 0 .demand with st := .needData, addr := 3, seq10 := 9 } : Rd).addr = (0 : Nat) :=
  by decide +kernel

theorem witness_MediaCommands_7 : ((rdUp id).setWarp1 0 { SkeinWarp.fresh with frames := [fr0] } : State).wf = true ∧
  ((rdUp id).setWarp1 0 { SkeinWarp.fresh with frames := [fr0] } : State).pwr.coreOn = true ∧
  ((rdUp id).setWarp1 0 { SkeinWarp.fresh with frames := [fr0] } : State).flt.inj = none ∧
  (((rdUp id).setWarp1 0 { SkeinWarp.fresh with frames := [fr0] } : State).warp1 (0 : Nat)).frames = (fr0 : DnFrame) ::
    ([] : List DnFrame) :=
  by decide +kernel

theorem witness_MediaCommands_8 : opUp.wf = true ∧ opUp.pwr.coreOn = true ∧ opUp.flt.inj = none ∧
  (opUp.warp1 (2 : Nat)).ops = [(op5 : Nat × DnOp)] ∧ (op5 : Nat × DnOp).2.kind = .programDense ∧
  (op5 : Nat × DnOp).2.addr = mkAddr (2 : Nat) (addrBlock (op5 : Nat × DnOp).2.addr) (addrOff (op5 : Nat × DnOp).2.addr)
    :=
  by decide +kernel

theorem witness_QueueAndIslandCommands_1 : up.pwr.coreOn = true ∧ (up.qcnt (3 : Nat)).retired = false ∧
  up.parityInj (3 : Nat) = false ∧ (7 : Nat) ≠ noTag :=
  by decide +kernel

theorem witness_QueueAndIslandCommands_2 : up.pwr.coreOn = true ∧ (up.qcnt (3 : Nat)).retired = false :=
  by decide +kernel

theorem witness_QueueAndIslandCommands_3 : ({ up with xq := [⟨3, .readData 0 7 9#512⟩] } : State).pwr.coreOn = true ∧
  ({ up with xq := [⟨3, .readData 0 7 9#512⟩] } : State).xq = [⟨(3 : Nat),
  .readData (0 : Nat) (7 : Nat) (9#512 : Sector)⟩] ∧
  ({ up with xq := [⟨3, .readData 0 7 9#512⟩] } : State).parityInj (3 : Nat) = false ∧ (7 : Nat) ≠ noTag :=
  by decide +kernel

theorem witness_QueueAndIslandCommands_4 : ({ up with xq := [⟨3, .readData 0 7 9#512⟩] } : State).pwr.coreOn = true ∧
  ({ up with xq := [⟨3, .readData 0 7 9#512⟩] } : State).xq = [⟨(3 : Nat),
  .readData (0 : Nat) (7 : Nat) (9#512 : Sector)⟩] ∧ (7 : Nat) ≠ noTag :=
  by decide +kernel

theorem witness_QueueAndIslandCommands_5 : up.wf = true ∧ up.pwr.coreOn = true :=
  by decide +kernel

theorem witness_QueueAndIslandCommands_6 : (rdUp id : State).pwr.coreOn = true ∧
  ((rdUp id : State).takeReq (0 : Nat) (7 : Nat)).map (fun p => p.2) = some (rq : Req) ∧ (rq : Req).wr = false ∧
  (rq : Req).tag ≠ noTag :=
  by decide +kernel

theorem witness_QueueAndIslandCommands_7 : (rdUp id : State).pwr.coreOn = true ∧
  (rdUp id : State).populated (0 : Nat) = true ∧ ((rdUp id : State).link1 (0 : Nat)).st = .active ∧
  (rdUp id : State).flt.tests.length < 256 :=
  by decide +kernel

theorem witness_QueueAndIslandCommands_8 : up.wf = true ∧ up.pwr.coreOn = true ∧ (7 : Nat) < up.popP ∧ (7 : Nat) < 8 :=
  by decide +kernel

theorem witness_QueueAndIslandCommands_9 : (up.setQcnt 9 ⟨3, 2, 1, 0, false⟩ : State).wf = true ∧ (up.setQcnt 9 ⟨3, 2, 1,
  0, false⟩ : State).barReady (0 : Nat) ∧ (⟨3, 2, 1, 0, false⟩ : QCnt) = (up.setQcnt 9 ⟨3, 2, 1, 0,
  false⟩ : State).qcnt ((9 : Nat) % 65536) :=
  by decide +kernel

theorem witness_WarpCommands_1_1 : up.wf = true ∧ up.barReady (0 : Nat) ∧ 3 ≤ (7 : Nat) ∧ (7 : Nat) < 8 ∧ (7 : Nat) < 8 ∧
  up.tplInUse (7 : Nat) = false ∧
  (((F.wrpTplUpSlots 7 7).off : Nat) = (if (true : Bool) then F.wrpTplUpSlots (7 : Nat) (7 : Nat) else F.wrpTplDnSlots (7
    : Nat) (7 : Nat)).off) ∧ (((F.wrpTplUpSlots 7 7).off : Nat) = (if (8 : Nat) = 4 ∧
  (true : Bool) = false then ((F.wrpTplUpSlots 7 7).off : Nat) + 4 else ((F.wrpTplUpSlots 7 7).off : Nat))) :=
  by decide +kernel

theorem witness_WarpCommands_1_2 : up.wf = true ∧ up.barReady (0 : Nat) ∧ 3 ≤ (3 : Nat) ∧ (3 : Nat) < 8 ∧ (0 : Nat) < 8 ∧
  up.tplInUse (3 : Nat) = false ∧
  (((F.wrpTplDnSlots 3 0).off : Nat) = (if (false : Bool) then F.wrpTplUpSlots (3 : Nat) (0 : Nat) else F.wrpTplDnSlots (3
    : Nat) (0 : Nat)).off) ∧ (((F.wrpTplDnSlots 3 0).off + 4 : Nat) = (if (4 : Nat) = 4 ∧
  (false : Bool) = false then ((F.wrpTplDnSlots 3 0).off : Nat) + 4 else ((F.wrpTplDnSlots 3 0).off : Nat))) :=
  by decide +kernel

theorem witness_WarpCommands_2 : up.wf = true ∧ up.barReady (0 : Nat) ∧ (7 : Nat) < 8 ∧ up.warp.valBusy = none :=
  by decide +kernel

theorem witness_WarpCommands_3 : ({ up with warp := { up.warp with valBusy := some 1 } } : State).wf = true ∧
  ({ up with warp := { up.warp with valBusy := some 1 } } : State).pwr.coreOn = true ∧ (1 : Nat) < 8 ∧
  ({ up with warp := { up.warp with valBusy := some 1 } } : State).warp.valBusy = some (1 : Nat) ∧
  ({ up with warp := { up.warp with valBusy := some 1 } } : State).firstFail (1 : Nat) = none :=
  by decide +kernel

theorem witness_WarpCommands_4 : ({ up with warp := { up.warp with valBusy := some 3 } } : State).wf = true ∧
  ({ up with warp := { up.warp with valBusy := some 3 } } : State).pwr.coreOn = true ∧ (3 : Nat) < 8 ∧
  ({ up with warp := { up.warp with valBusy := some 3 } } : State).warp.valBusy = some (3 : Nat) ∧
  ({ up with warp := { up.warp with valBusy := some 3 } } : State).firstFail (3 : Nat) = some ((2 : Nat), (true : Bool),
  (0 : Nat)) ∧ (2 : Nat) ≤ 8 :=
  by decide +kernel

theorem witness_WarpCommands_5 : (up.bump F.wrpStallCntStalls 2 : State).wf = true ∧
  (up.bump F.wrpStallCntStalls 2 : State).barReady (0 : Nat) :=
  by decide +kernel

theorem witness_WarpCommands_6 : up.wf = true ∧ up.barReady (0 : Nat) ∧ (127 : Nat) < 128 ∧ (0 : Nat) < 8 ∧
  (1 : Nat) < 8 ∧ up.warp.valid.getLsbD (0 : Nat) = true ∧ up.warp.degrOk.getLsbD (1 : Nat) = true :=
  by decide +kernel

theorem witness_WarpCommands_7 : (wk 0 (fun w => { w with tokens := 5 }) : State).wf = true ∧
  (wk 0 (fun w => { w with tokens := 5 }) : State).pwr.coreOn = true :=
  by decide +kernel

theorem witness_WarpCommands_8 : (wk 0 (fun w => { w with budget := 45 }) : State).wf = true ∧
  (wk 0 (fun w => { w with budget := 45 }) : State).pwr.coreOn = true ∧
  (wk 0 (fun w => { w with budget := 45 }) : State).time.slot % 16 = 0 :=
  by decide +kernel

theorem witness_WarpCommands_9 : (wk 3 id : State).wf = true ∧ (wk 3 id : State).pwr.coreOn = true ∧
  ((wk 3 id : State).link1 (3 : Nat)).st = .active ∧ ((wk 3 id : State).warp1 (3 : Nat)).mode ≠ .off ∧
  ((wk 3 id : State).warp1 (3 : Nat)).dn = [] ∧ ((wk 3 id : State).warp1 (3 : Nat)).rq = [] :=
  by decide +kernel

theorem witness_WarpCommands_10 : (wk 2 (fun w => { w with dn := [dn0], tokens := 1000 }) : State).wf = true ∧
  (wk 2 (fun w => { w with dn := [dn0], tokens := 1000 }) : State).pwr.coreOn = true ∧
  ((wk 2 (fun w => { w with dn := [dn0], tokens := 1000 }) : State).link1 (2 : Nat)).st = .active ∧
  ((wk 2 (fun w => { w with dn := [dn0], tokens := 1000 }) : State).warp1 (2 : Nat)).mode ≠ .off ∧
  ((wk 2 (fun w => { w with dn := [dn0], tokens := 1000 }) : State).warp1 (2 : Nat)).rq = [] ∧
  ((wk 2 (fun w => { w with dn := [dn0], tokens := 1000 }) : State).dnGrant (2 : Nat)).map (fun p => p.1) = some (dn0 :
    DnOp) ∧ (dn0 : DnOp).kind ≠ .sys :=
  by decide +kernel

theorem witness_WarpCommands_11 : (wk 2 (fun w => { w with asleep := true }) : State).wf = true ∧
  (wk 2 (fun w => { w with asleep := true }) : State).pwr.coreOn = true ∧
  ((wk 2 (fun w => { w with asleep := true }) : State).warp1 (2 : Nat)).asleep = true :=
  by decide +kernel

theorem witness_WarpCommands_12 : (wk 2 (fun w => { w with starved := [(4, 16)] }) : State).wf = true ∧
  (wk 2 (fun w => { w with starved := [(4, 16)] }) : State).pwr.coreOn = true ∧
  16 ≤ Tab.get (fun _ => 0) ((wk 2 (fun w => { w with starved := [(4, 16)] }) : State).warp1 (2 : Nat)).starved (4 : Nat)
    :=
  by decide +kernel

theorem witness_WarpCommands_13 : (wk 2 (fun w => { w with dn := [dn0] }) : State).wf = true ∧
  (wk 2 (fun w => { w with dn := [dn0] }) : State).pwr.coreOn = true ∧
  (wk 2 (fun w => { w with dn := [dn0] }) : State).wp.flush = none ∧
  ((wk 2 (fun w => { w with dn := [dn0] }) : State).waitLine (1 : Nat) (clsHwr : Nat) ([2] : List Nat)).isSome = true ∧
  (wk 2 (fun w => { w with dn := [dn0] }) : State).warp.stalls.any (fun r => r.q == (1 : Nat) && r.cls == (clsHwr : Nat))
    = false :=
  by decide +kernel

theorem witness_WarpCommands_14 : ({ up with warp := { up.warp with stalls := [⟨1, 2, [2], 0, false⟩] } } : State).wf =
    true ∧ ({ up with warp := { up.warp with stalls := [⟨1, 2, [2], 0, false⟩] } } : State).pwr.coreOn = true ∧
  ({ up with warp := { up.warp with stalls := [⟨1, 2, [2], 0, false⟩] } } : State).wp.flush = none ∧
  ({ up with warp := { up.warp with stalls := [⟨1, 2, [2], 0, false⟩] } } : State).warp.stalls.any (fun r => r.q == (1 :
    Nat)) = true :=
  by decide +kernel

theorem witness_WarpCommands_15 : ({ up with warp := { up.warp with stalls := [⟨1, 2, [2], 0, false⟩] } } : State).wf =
    true ∧ ({ up with warp := { up.warp with stalls := [⟨1, 2, [2], 0, false⟩] } } : State).pwr.coreOn = true ∧
  ({ up with warp := { up.warp with stalls := [⟨1, 2, [2], 0, false⟩] } } : State).wp.flush = none ∧
  ({ up with warp := { up.warp with stalls := [⟨1, 2, [2], 0, false⟩] } } : State).warp.stalls = [(⟨1, 2, [2], 0,
  false⟩ : StallRec)] ∧ (⟨1, 2, [2], 0, false⟩ : StallRec).q = (1 : Nat) ∧ (⟨1, 2, [2], 0,
  false⟩ : StallRec).persist = false :=
  by decide +kernel

theorem witness_UpkeepCommands_1 : (bo { b0 with ageUnk := true } id : State).pwr.coreOn = true ∧
  (bo { b0 with ageUnk := true } id : State).probesRun (200 : Nat) = true ∧
  (0 : Nat) < (bo { b0 with ageUnk := true } id : State).popP ∧
  (200 : Nat) < (bo { b0 with ageUnk := true } id : State).blocksPerSkein ∧
  (bo { b0 with ageUnk := true } id : State).probeable (0 : Nat) (200 : Nat) = true :=
  by decide +kernel

theorem witness_UpkeepCommands_2_1 : (let q := bo { b0 with ageUnk := true } id;
    { q with upk := { q.upk with probing := [200] } } : State).wf = true ∧
  (let q := bo { b0 with ageUnk := true } id; { q with upk := { q.upk with probing := [200] } } : State).pwr.coreOn = true
    ∧
  (let q := bo { b0 with ageUnk := true } id; { q with upk := { q.upk with probing := [200] } } :
    State).upk.probing.contains (boltKey (0 : Nat) (200 : Nat)) = true ∧ selvageBlock (200 : Nat) = false ∧
  ((let q := bo { b0 with ageUnk := true } id; { q with upk := { q.upk with probing := [200] } } : State).bolt (0 : Nat)
    (200 : Nat)).st = .sealed :=
  by decide +kernel

theorem witness_UpkeepCommands_2_2 : (let q := bo { b0 with ageUnk := true } id;
    { q with upk := { q.upk with probing := [200] } } : State).wf = true ∧
  (let q := bo { b0 with ageUnk := true } id; { q with upk := { q.upk with probing := [200] } } : State).pwr.coreOn = true
    ∧
  (let q := bo { b0 with ageUnk := true } id; { q with upk := { q.upk with probing := [200] } } :
    State).upk.probing.contains (boltKey (0 : Nat) (200 : Nat)) = true ∧ selvageBlock (200 : Nat) = false ∧
  ((let q := bo { b0 with ageUnk := true } id; { q with upk := { q.upk with probing := [200] } } : State).bolt (0 : Nat)
    (200 : Nat)).st = .sealed :=
  by decide +kernel

theorem witness_UpkeepCommands_3 : (bo b0 (fun u => { u with wring := true }) : State).wf = true ∧
  (bo b0 (fun u => { u with wring := true }) : State).upkeepRuns = true ∧
  ((bo b0 (fun u => { u with wring := true }) : State).upkG (0 : Nat)).wring = true ∧
  (bo b0 (fun u => { u with wring := true }) : State).hasVictim (0 : Nat) .wring = false ∧
  (bo b0 (fun u => { u with wring := true }) : State).wringChoice (0 : Nat) = some ((200 : Nat), (b0 : Bolt)) :=
  by decide +kernel

theorem witness_UpkeepCommands_4 : (let q := bo b0 id;
    { q with upk := { q.upk with bolts := [(200, b0), (201, { Bolt.fresh with resets := 100000 })] } } : State).wf = true
    ∧
  (let q := bo b0 id; { q with upk := { q.upk with bolts := [(200, b0), (201, { Bolt.fresh with resets := 100000 })] } } :
    State).upkeepRuns = true ∧
  (let q := bo b0 id; { q with upk := { q.upk with bolts := [(200, b0), (201, { Bolt.fresh with resets := 100000 })] } } :
    State).fld F.upkCtlSwapEn = 1 ∧
  ((let q := bo b0 id; { q with upk := { q.upk with bolts := [(200, b0), (201, { Bolt.fresh with resets := 100000 })] } }
    : State).upkG (0 : Nat)).urgent = false ∧
  ((let q := bo b0 id; { q with upk := { q.upk with bolts := [(200, b0), (201, { Bolt.fresh with resets := 100000 })] } }
    : State).upkG (0 : Nat)).swap = false ∧
  (let q := bo b0 id; { q with upk := { q.upk with bolts := [(200, b0), (201, { Bolt.fresh with resets := 100000 })] } } :
    State).swapChoice (0 : Nat) = some ((200 : Nat), (b0 : Bolt)) ∧
  (b0 : Bolt).resets + (let q := bo b0 id;
    { q with upk := { q.upk with bolts := [(200, b0), (201, { Bolt.fresh with resets := 100000 })] } } : State).swapLimit
    (0 : Nat) < (let q := bo b0 id;
    { q with upk := { q.upk with bolts := [(200, b0), (201, { Bolt.fresh with resets := 100000 })] } } : State).maxResets
    (0 : Nat) :=
  by decide +kernel

theorem witness_UpkeepCommands_5 : (bo { b0 with pressQ := true } id : State).wf = true ∧
  (bo { b0 with pressQ := true } id : State).upkeepRuns = true ∧
  ((bo { b0 with pressQ := true } id : State).upkG (0 : Nat)).urgent = false ∧
  (bo { b0 with pressQ := true } id : State).hasVictim (0 : Nat) .press = false ∧
  (bo { b0 with pressQ := true } id : State).pressChoice (0 : Nat) = some ((200 : Nat),
  ({ b0 with pressQ := true } : Bolt)) :=
  by decide +kernel

theorem witness_UpkeepCommands_6 : Tab.wf (fun _ =>
    { Triple.fresh with clk := ({ up with upk := { up.upk with triples := [(tripleKey 1 2 3, { Triple.fresh with queued := true })] } } : State).upk.tripBase })
    ({ up with upk := { up.upk with triples := [(tripleKey 1 2 3, { Triple.fresh with queued := true })] } } :
    State).upk.triples = true ∧
  ({ up with upk := { up.upk with triples := [(tripleKey 1 2 3, { Triple.fresh with queued := true })] } } :
    State).upkeepRuns = true ∧
  ({ up with upk := { up.upk with triples := [(tripleKey 1 2 3, { Triple.fresh with queued := true })] } } :
    State).dieUsable (1 : Nat) (2 : Nat) = true ∧
  (({ up with upk := { up.upk with triples := [(tripleKey 1 2 3, { Triple.fresh with queued := true })] } } :
    State).triple (tripleKey (1 : Nat) (2 : Nat) (3 : Nat))).queued = true :=
  by decide +kernel

theorem witness_UpkeepCommands_7 : (bo { b0 with st := .empty, valid := 0 } id : State).wf = true ∧
  (bo { b0 with st := .empty, valid := 0 } id : State).upkeepRuns = true ∧
  (bo { b0 with st := .empty, valid := 0 } id : State).resetEligible (0 : Nat) (200 : Nat) = true ∧
  (bo { b0 with st := .empty, valid := 0 } id : State).paced (0 : Nat) = false ∧
  ((bo { b0 with st := .empty, valid := 0 } id : State).bolt (0 : Nat) (200 : Nat)).members &&& (bo
    { b0 with st := .empty, valid := 0 } id : State).usable (0 : Nat) (200 : Nat) ≠ 0#16 :=
  by decide +kernel

theorem witness_UpkeepCommands_8 : (bo { b0 with st := .empty, valid := 0 } (fun u => { u with total := 2 ^ 60 }) :
    State).wf = true ∧
  (bo { b0 with st := .empty, valid := 0 } (fun u => { u with total := 2 ^ 60 }) : State).upkeepRuns = true ∧
  (bo { b0 with st := .empty, valid := 0 } (fun u => { u with total := 2 ^ 60 }) : State).resetEligible (0 : Nat) (200 :
    Nat) = true ∧
  (bo { b0 with st := .empty, valid := 0 } (fun u => { u with total := 2 ^ 60 }) : State).paced (0 : Nat) = true ∧
  ((bo { b0 with st := .empty, valid := 0 } (fun u => { u with total := 2 ^ 60 }) : State).upkG (0 : Nat)).pace = false :=
  by decide +kernel

theorem witness_UpkeepCommands_9 : (bo { b0 with st := .empty, valid := 0 } (fun u =>
    { u with pace := true, held := [200] }) : State).wf = true ∧
  (bo { b0 with st := .empty, valid := 0 } (fun u => { u with pace := true, held := [200] }) : State).upkeepRuns = true ∧
  ((bo { b0 with st := .empty, valid := 0 } (fun u => { u with pace := true, held := [200] }) : State).upkG (0 :
    Nat)).pace = true ∧
  ((bo { b0 with st := .empty, valid := 0 } (fun u => { u with pace := true, held := [200] }) : State).upkG (0 :
    Nat)).held = [(200 : Nat)] ∧
  (bo { b0 with st := .empty, valid := 0 } (fun u => { u with pace := true, held := [200] }) : State).paced (0 : Nat) =
    false ∧
  (bo { b0 with st := .empty, valid := 0 } (fun u => { u with pace := true, held := [200] }) : State).resetEligible (0 :
    Nat) (200 : Nat) = true ∧
  ((bo { b0 with st := .empty, valid := 0 } (fun u => { u with pace := true, held := [200] }) : State).bolt (0 : Nat) (200
    : Nat)).members &&& (bo { b0 with st := .empty, valid := 0 } (fun u => { u with pace := true, held := [200] }) :
    State).usable (0 : Nat) (200 : Nat) ≠ 0#16 :=
  by decide +kernel

theorem witness_UpkeepCommands_10 : (bo { b0 with cntUnk := true } id : State).wf = true ∧
  (bo { b0 with cntUnk := true } id : State).upkeepRuns = true ∧
  ((bo { b0 with cntUnk := true } id : State).bolt (0 : Nat) (200 : Nat)).cntUnk = true ∧
  ((bo { b0 with cntUnk := true } id : State).bolt (0 : Nat) (200 : Nat)).st = .sealed ∧ (7 : Nat) ≠ 0 :=
  by decide +kernel

theorem witness_UpkeepCommands_11_1 :
    ({ up with upk := { up.upk with unknown := false }, time := { up.time with opNs := 5 } } : State).wf = true ∧
  ({ up with upk := { up.upk with unknown := false }, time := { up.time with opNs := 5 } } : State).upkeepRuns = true ∧
  ({ up with upk := { up.upk with unknown := false }, time := { up.time with opNs := 5 } } : State).upk.unknown = false :=
  by decide +kernel

theorem witness_UpkeepCommands_11_2 :
    ({ up with upk := { up.upk with unknown := false, rinse := true }, time := { up.time with opNs := 5 } } : State).wf =
    true ∧
  ({ up with upk := { up.upk with unknown := false, rinse := true }, time := { up.time with opNs := 5 } } :
    State).upkeepRuns = true ∧
  ({ up with upk := { up.upk with unknown := false, rinse := true }, time := { up.time with opNs := 5 } } :
    State).upk.unknown = false :=
  by decide +kernel

theorem witness_UpkeepCommands_12 : up.barReady (0 : Nat) :=
  by decide +kernel

theorem witness_UpkeepCommands_13 : ({ up with upk := { up.upk with unknown := false, rinse := true } } : State).wf = true
    ∧ ({ up with upk := { up.upk with unknown := false, rinse := true } } : State).upkeepRuns = true ∧
  ({ up with upk := { up.upk with unknown := false, rinse := true } } : State).upk.unknown = false ∧
  ({ up with upk := { up.upk with unknown := false, rinse := true } } : State).upk.rinse = true :=
  by decide +kernel

theorem witness_UpkeepCommands_14 : (up.bump F.upkCntSwaps 2 : State).wf = true ∧
  (up.bump F.upkCntSwaps 2 : State).barReady (0 : Nat) :=
  by decide +kernel

theorem witness_UpkeepCommands_15 : up.ioUp (0 : Nat) = true ∧
  ((up.bolt (up.fld F.upkBoltSelGroup) (up.fld F.upkBoltSelBlock)).word : Nat) = (up.bolt (up.fld F.upkBoltSelGroup)
    (up.fld F.upkBoltSelBlock)).word :=
  by decide +kernel

theorem witness_UpkeepCommands_16 : (bo b0 (fun u => { u with darn := 1 }) : State).wf = true ∧
  (bo b0 (fun u => { u with darn := 1 }) : State).upkeepRuns = true ∧
  ((bo b0 (fun u => { u with darn := 1 }) : State).upkG (0 : Nat)).darn = 1 ∧
  (bo b0 (fun u => { u with darn := 1 }) : State).darnLeft (0 : Nat) (fun x => x.degraded && x.kind == 1) = false :=
  by decide +kernel

theorem witness_UpkeepCommands_17 : (bo b0 (fun u => { u with darn := 2 }) : State).wf = true ∧
  (bo b0 (fun u => { u with darn := 2 }) : State).upkeepRuns = true ∧
  ((bo b0 (fun u => { u with darn := 2 }) : State).upkG (0 : Nat)).darn = 2 ∧
  (bo b0 (fun u => { u with darn := 2 }) : State).darnLeft (0 : Nat) (fun x => x.degraded) = false :=
  by decide +kernel

theorem witness_FaultCommands_1 : (ft (fun f => { f with tests := [{ te 1 with running := false }] }) : State).pwr.coreOn
    = true ∧
  (ft (fun f => { f with tests := [{ te 1 with running := false }] }) : State).flt.tests.find? (fun x => !x.running && (ft
    (fun f => { f with tests := [{ te 1 with running := false }] }) : State).testFree x.res) = some
    ({ te 1 with running := false } : TestRec) :=
  by decide +kernel

theorem witness_FaultCommands_2 : (ft (fun f => { f with tests := [te 1] }) : State).wf = true ∧
  (ft (fun f => { f with tests := [te 1] }) : State).pwr.coreOn = true ∧
  (ft (fun f => { f with tests := [te 1] }) : State).flt.tests = [(te 1 : TestRec)] ∧ (te 1 : TestRec).running = true ∧
  (te 1 : TestRec).failing (0 : Nat) = 0 :=
  by decide +kernel

theorem witness_FaultCommands_3 : (ft (fun f => { f with tests := [te 1] }) : State).wf = true ∧
  (ft (fun f => { f with tests := [te 1] }) : State).pwr.coreOn = true ∧
  (ft (fun f => { f with tests := [te 1] }) : State).flt.tests = [(te 1 : TestRec)] ∧ (te 1 : TestRec).running = true ∧
  (te 1 : TestRec).failing (1 : Nat) ≠ 0 :=
  by decide +kernel

theorem witness_FaultCommands_4 : (ft (fun f => { f with takeover := 0x80#8 }) : State).wf = true ∧
  (ft (fun f => { f with takeover := 0x80#8 }) : State).pwr.coreOn = true ∧
  (ft (fun f => { f with takeover := 0x80#8 }) : State).flt.inj = none ∧
  (ft (fun f => { f with takeover := 0x80#8 }) : State).flt.takeover.getLsbD (7 : Nat) = true ∧
  (ft (fun f => { f with takeover := 0x80#8 }) : State).flt.engRetired.getLsbD (7 : Nat) = false ∧
  (ft (fun f => { f with takeover := 0x80#8 }) : State).flt.engHeld.getLsbD (7 : Nat) = false ∧
  (ft (fun f => { f with takeover := 0x80#8 }) : State).flt.tests.any (fun x => decide (x.res.testEngine = some (7 :
    Nat))) = false :=
  by decide +kernel

theorem witness_FaultCommands_5 : up.pwr.coreOn = true ∧ (7 : Nat) < up.popP ∧
  Tab.get (fun _ => false) up.flt.aesOut (8 * (7 : Nat) + (3 : Nat)) = false ∧ up.flt.tests.length < 256 :=
  by decide +kernel

theorem witness_FaultCommands_6 : (ft (fun f => { f with tests := [te 1] }) : State).wf = true ∧
  (ft (fun f => { f with tests := [te 1] }) : State).barReady (0 : Nat) ∧ 1 ≤ (8 : Nat) ∧ (8 : Nat) ≤ 8 ∧
  (4 : Nat) < 2 ^ 32 ∧
  (ft (fun f => { f with tests := [te 1] }) : State).flt.tests.any (fun x => decide (x.res = ⟨(8 : Nat),
  (4 : Nat)⟩)) = false ∧ (ft (fun f => { f with tests := [te 1] }) : State).flt.tests.length < 256 :=
  by decide +kernel

theorem witness_FaultCommands_7 : (ft (fun f => { f with ret := [ret0] }) : State).barReady (0 : Nat) ∧
  (ft (fun f => { f with ret := [ret0] }) : State).fld F.fltRetSelIndex = (0 : Nat) ∧
  (ft (fun f => { f with ret := [ret0] }) : State).flt.ret[(0 : Nat)]? = some (ret0 : RetEnt) ∧
  (ret0 : RetEnt).injected = true :=
  by decide +kernel

theorem witness_FaultCommands_8 : (up.setQcnt 9 ⟨3, 2, 1, 0, false⟩ : State).wf = true ∧ (up.setQcnt 9 ⟨3, 2, 1, 0,
  false⟩ : State).barReady (0 : Nat) :=
  by decide +kernel

theorem witness_FaultCommands_9 : (ft (fun f => { f with injAllowed := true }) : State).wf = true ∧
  (ft (fun f => { f with injAllowed := true }) : State).barReady (0 : Nat) ∧
  (ft (fun f => { f with injAllowed := true }) : State).flt.injAllowed = true :=
  by decide +kernel

theorem witness_FaultCommands_10 : up.barReady (0 : Nat) ∧ up.flt.injAllowed = false :=
  by decide +kernel

theorem witness_FaultCommands_11 : injUp.wf = true ∧ injUp.barReady (0 : Nat) ∧ (7 : Nat) ≠ 12 ∧
  injUp.armable (7 : Nat) (false : Bool) = true :=
  by decide +kernel

theorem witness_FaultCommands_12 : (ft (fun f => { f with inj := some ⟨7, 1, false, resSkein 3, 0⟩ }) : State).barReady (0
    : Nat) :=
  by decide +kernel

theorem witness_FaultCommands_13 : (ft (fun f => { f with quar := [q0, q0] }) : State).barReady (0 : Nat) :=
  by decide +kernel

theorem witness_HeadCommands_1 : ({ up with host := { up.host with heads := [] } } : State).wf = true ∧
  ({ up with host := { up.host with heads := [] } } : State).present (0 : Nat) = true ∧
  (({ up with host := { up.host with heads := [] } } : State).head (0 : Nat)).perst = true ∧
  ({ up with host := { up.host with heads := [] } } : State).pwr.coreOn = true ∧
  ({ up with host := { up.host with heads := [] } } : State).fld (F.hstCtlDisable (0 : Nat)) = 0 :=
  by decide +kernel

theorem witness_HeadCommands_2 : (h0 id : State).wf = true ∧ (h0 id : State).present (0 : Nat) = true ∧
  ((h0 id : State).head (0 : Nat)).perst = false :=
  by decide +kernel

theorem witness_HeadCommands_3_1 : (h0 (fun x => { x with link := .detect }) : State).wf = true ∧
  (h0 (fun x => { x with link := .detect }) : State).mayTrain (0 : Nat) = true ∧ (5 : Nat) < 2 ^ 16 :=
  by decide +kernel

theorem witness_HeadCommands_3_2 : (h0 (fun x => { x with link := .detect }) : State).wf = true ∧
  (h0 (fun x => { x with link := .detect }) : State).mayTrain (0 : Nat) = true ∧ (0 : Nat) < 2 ^ 16 :=
  by decide +kernel

theorem witness_HeadCommands_4 : (h0 (fun x => { x with link := .detect }) : State).wf = true ∧
  (h0 (fun x => { x with link := .detect }) : State).mayTrain (0 : Nat) = true ∧
  ((h0 (fun x => { x with link := .detect }) : State).head (0 : Nat)).link ≠ .recovery ∧
  ((h0 (fun x => { x with link := .detect }) : State).head (0 : Nat)).attemptDown = false :=
  by decide +kernel

theorem witness_HeadCommands_5 : (h0 id : State).wf = true ∧ (h0 id : State).pwr.coreOn = true ∧
  (h0 id : State).present (0 : Nat) = true ∧ (h0 id : State).headUp (0 : Nat) = true ∧
  ((h0 id : State).head (0 : Nat)).perst = false ∧ (h0 id : State).fld (F.hstCtlDisable (0 : Nat)) = 0 :=
  by decide +kernel

theorem witness_HeadCommands_6 : (h0 id : State).wf = true ∧ (h0 id : State).pwr.coreOn = true ∧
  (h0 id : State).present (0 : Nat) = true ∧ ((h0 id : State).head (0 : Nat)).link = .active :=
  by decide +kernel

theorem witness_HeadCommands_7 : (h0 (fun x => { x with link := .recovery }) : State).wf = true ∧
  (h0 (fun x => { x with link := .recovery }) : State).pwr.coreOn = true ∧
  (h0 (fun x => { x with link := .recovery }) : State).present (0 : Nat) = true ∧
  ((h0 (fun x => { x with link := .recovery }) : State).head (0 : Nat)).link = .recovery :=
  by decide +kernel

theorem witness_HeadCommands_8 : (h0 (fun x => { x with msixOn := true }) : State).wf = true ∧
  (h0 (fun x => { x with msixOn := true }) : State).pwr.coreOn = true ∧
  (h0 (fun x => { x with msixOn := true }) : State).present (0 : Nat) = true :=
  by decide +kernel

theorem witness_HeadCommands_9 : (h0 (fun x => { x with msixOn := true }) : State).wf = true ∧
  (h0 (fun x => { x with msixOn := true }) : State).pwr.coreOn = true ∧
  (h0 (fun x => { x with msixOn := true }) : State).present (0 : Nat) = true ∧
  (h0 (fun x => { x with msixOn := true }) : State).headUp (0 : Nat) = true :=
  by decide +kernel

theorem witness_HeadCommands_10 : (h0 (fun x => { x with msixOn := true }) : State).wf = true ∧
  (h0 (fun x => { x with msixOn := true }) : State).pwr.coreOn = true ∧
  (h0 (fun x => { x with msixOn := true }) : State).present (0 : Nat) = true ∧
  (h0 (fun x => { x with msixOn := true }) : State).headUp (0 : Nat) = true :=
  by decide +kernel

theorem witness_HeadCommands_11 : (h0 id : State).wf = true ∧ (h0 id : State).pwr.coreOn = true ∧
  (h0 id : State).present (0 : Nat) = true ∧ ((h0 id : State).head (0 : Nat)).link = .active :=
  by decide +kernel

theorem witness_HeadCommands_12 : (h0 (fun x => { x with link := .d3 }) : State).wf = true ∧
  (h0 (fun x => { x with link := .d3 }) : State).pwr.coreOn = true ∧
  (h0 (fun x => { x with link := .d3 }) : State).present (0 : Nat) = true ∧
  ((h0 (fun x => { x with link := .d3 }) : State).head (0 : Nat)).link = .d3 :=
  by decide +kernel

theorem witness_HeadCommands_13 : (h0 id : State).wf = true ∧ (h0 id : State).barReady (0 : Nat) ∧
  (h0 id : State).present (3 : Nat) = true :=
  by decide +kernel

theorem witness_HeadCommands_14 : (let q := h0 id;
    ({ q with host := { q.host with heads := q.host.heads ++ [(2, { Head.fresh with perst := false })] } }).setFld
    (F.hstCtlDisable 2) 1 : State).wf = true ∧
  (let q := h0 id;
    ({ q with host := { q.host with heads := q.host.heads ++ [(2, { Head.fresh with perst := false })] } }).setFld
    (F.hstCtlDisable 2) 1 : State).barReady (0 : Nat) ∧
  (let q := h0 id;
    ({ q with host := { q.host with heads := q.host.heads ++ [(2, { Head.fresh with perst := false })] } }).setFld
    (F.hstCtlDisable 2) 1 : State).present (2 : Nat) = true ∧
  (let q := h0 id;
    ({ q with host := { q.host with heads := q.host.heads ++ [(2, { Head.fresh with perst := false })] } }).setFld
    (F.hstCtlDisable 2) 1 : State).fld (F.hstCtlDisable (2 : Nat)) = 1 ∧
  ((let q := h0 id;
    ({ q with host := { q.host with heads := q.host.heads ++ [(2, { Head.fresh with perst := false })] } }).setFld
    (F.hstCtlDisable 2) 1 : State).head (2 : Nat)).perst = false :=
  by decide +kernel

theorem witness_HeadCommands_15 : (h0 id : State).wf = true ∧ (h0 id : State).barReady (0 : Nat) ∧
  (h0 id : State).present (0 : Nat) = true ∧ ((h0 id : State).head (0 : Nat)).link = .active :=
  by decide +kernel

theorem witness_HeadCommands_16 : ((h0 id).bump (F.hstLinkerrCorrCount 3) 4 : State).wf = true ∧
  ((h0 id).bump (F.hstLinkerrCorrCount 3) 4 : State).barReady (0 : Nat) ∧
  ((h0 id).bump (F.hstLinkerrCorrCount 3) 4 : State).present (3 : Nat) = true :=
  by decide +kernel

theorem witness_HeadCommands_17_1 : (h0 id : State).wf = true ∧ (h0 id : State).barReady (0 : Nat) ∧
  (h0 id : State).present (0 : Nat) = true ∧ ((0 : Nat) ≠ (0 : Nat) ∨ (true : Bool) = true) :=
  by decide +kernel

theorem witness_HeadCommands_17_2 : (h0 id : State).wf = true ∧ (h0 id : State).barReady (0 : Nat) ∧
  (h0 id : State).present (3 : Nat) = true ∧ ((3 : Nat) ≠ (0 : Nat) ∨ (false : Bool) = true) :=
  by decide +kernel

theorem witness_HeadCommands_18_1 : (h0 id : State).wf = true ∧ (h0 id : State).pwr.coreOn = true ∧
  (h0 id : State).present (0 : Nat) = true :=
  by decide +kernel

theorem witness_HeadCommands_18_2 : (h0 (fun x => { x with corrWin := 4 }) : State).wf = true ∧
  (h0 (fun x => { x with corrWin := 4 }) : State).pwr.coreOn = true ∧
  (h0 (fun x => { x with corrWin := 4 }) : State).present (0 : Nat) = true :=
  by decide +kernel

theorem witness_HeadCommands_19 : (h0 (fun x => { x with ideMode := 1 }) : State).wf = true ∧
  (h0 (fun x => { x with ideMode := 1 }) : State).pwr.coreOn = true ∧
  (h0 (fun x => { x with ideMode := 1 }) : State).present (0 : Nat) = true ∧
  (h0 (fun x => { x with ideMode := 1 }) : State).headUp (0 : Nat) = true ∧
  ((h0 (fun x => { x with ideMode := 1 }) : State).head (0 : Nat)).ideMode ≠ 0 :=
  by decide +kernel

theorem witness_HeadCommands_20 : (adm (h0 id) : State).wf = true ∧ (adm (h0 id) : State).pwr.coreOn = true ∧
  (adm (h0 id) : State).present (0 : Nat) = true ∧
  (adm (h0 id) : State).fwu.sessions.any (fun x => x.id == (9 : Nat) && x.port == (0 : Nat)) = true :=
  by decide +kernel

theorem witness_HeadCommands_21 : (h0 id : State).wf = true ∧ (h0 id : State).ioUp (0 : Nat) = true ∧
  okWays (2 : Nat) = true ∧ okGran (512 : Nat) = true ∧ ((h0 id : State).decoder (0 : Nat) (3 : Nat)).lock = false :=
  by decide +kernel

theorem witness_MailboxQueries_1 : up.mboxReady (0 : Nat) :=
  by decide +kernel

theorem witness_MailboxQueries_2 : up.mboxReady (0 : Nat) ∧ up.host.bg = none ∧ up.host.bgLast = none :=
  by decide +kernel

theorem witness_MailboxQueries_3 : ({ up with host := { up.host with bgLast := some (.scan, 2, .success) } } :
    State).mboxReady (0 : Nat) ∧
  ({ up with host := { up.host with bgLast := some (.scan, 2, .success) } } : State).host.bg = none ∧
  ({ up with host := { up.host with bgLast := some (.scan, 2, .success) } } : State).host.bgLast = some ((.scan : BgKind),
  (2 : Nat), (.success : Rc)) :=
  by decide +kernel

theorem witness_MailboxQueries_4 : up.mboxReady (0 : Nat) :=
  by decide +kernel

theorem witness_MailboxQueries_5 : up.mboxReady (0 : Nat) :=
  by decide +kernel

theorem witness_MailboxQueries_6 : up.mboxReady (0 : Nat) ∧ up.logBytes (.quarantine : LogId) = some ([] : Bytes) ∧
  (0 : Nat) + (0 : Nat) ≤ ([] : Bytes).length :=
  by decide +kernel

theorem witness_MailboxQueries_7 : up.mboxReady (0 : Nat) ∧ up.logBytes (.quarantine : LogId) = some ([] : Bytes) ∧
  ([] : Bytes).length < (0 : Nat) + (1 : Nat) :=
  by decide +kernel

theorem witness_MailboxQueries_8 : up.mboxReady (0 : Nat) ∧ (.cel : LogId) ≠ .other :=
  by decide +kernel

theorem witness_MailboxQueries_9 : up.mboxReady (0 : Nat) :=
  by decide +kernel

theorem witness_MailboxQueries_10 : up.mboxReady (0 : Nat) :=
  by decide +kernel

theorem witness_MailboxQueries_11 : up.mboxReady (0 : Nat) :=
  by decide +kernel

theorem witness_MailboxQueries_12 : up.mboxReady (0 : Nat) :=
  by decide +kernel

theorem witness_MailboxQueries_13 : up.mboxReady (0 : Nat) :=
  by decide +kernel

theorem witness_MailboxQueries_14 : up.mboxReady (0 : Nat) :=
  by decide +kernel

theorem witness_MailboxQueries_15 : up.mboxReady (0 : Nat) :=
  by decide +kernel

theorem witness_MailboxQueries_16 : (rs (fun x => { x with poison := [⟨128, 4, .injected⟩] }) : State).mboxReady (0 : Nat)
    ∧ (rs (fun x => { x with poison := [⟨128, 4, .injected⟩] }) : State).rd.poison = [(⟨128, 4, .injected⟩ : PRec)] ∧
  (⟨128, 4, .injected⟩ : PRec).dpa < (320 : Nat) + 64 * (1 : Nat) ∧ (320 : Nat) < (⟨128, 4,
  .injected⟩ : PRec).dpa + 64 * (⟨128, 4, .injected⟩ : PRec).len ∧
  (rs (fun x => { x with poison := [⟨128, 4, .injected⟩] }) : State).rd.ovf = none ∧
  (rs (fun x => { x with poison := [⟨128, 4, .injected⟩] }) : State).rd.scan = none :=
  by decide +kernel

theorem witness_MailboxQueries_17 : (hostUp .on liveDom id : State).mboxReady (0 : Nat) ∧
  (hostUp .on liveDom id : State).scanRange (0 : Nat) (4 : Nat) = some ((0 : Nat), (1 : Nat)) :=
  by decide +kernel

theorem witness_MailboxQueries_18 : (rs (fun x => { x with scanRes := [(256, 4)] }) : State).mboxReady (0 : Nat) :=
  by decide +kernel

theorem witness_MailboxQueries_19 : up.mboxReady (0 : Nat) :=
  by decide +kernel

theorem witness_MailboxQueries_20 : up.mboxReady (0 : Nat) :=
  by decide +kernel

theorem witness_MailboxQueries_21 : up.mboxReady (0 : Nat) :=
  by decide +kernel

theorem witness_MailboxQueries_22 : up.mboxReady (0 : Nat) :=
  by decide +kernel

theorem witness_MailboxQueries_23 : up.mboxReady (0 : Nat) :=
  by decide +kernel

theorem witness_MailboxChanges_1 : (upFld (F.hstCtlRoMgmt 0) 1 : State).mboxReady (0 : Nat) ∧
  (upFld (F.hstCtlRoMgmt 0) 1 : State).roMgmt (0 : Nat) = true :=
  by decide +kernel

theorem witness_MailboxChanges_2 : up.wf = true ∧ up.mboxReady (0 : Nat) ∧ 8 ≤ (8 : Nat) ∧ (8 : Nat) ≤ 16 :=
  by decide +kernel

theorem witness_MailboxChanges_3 : up.mboxReady (0 : Nat) ∧ ((7 : Nat) < 8 ∨ 16 < (7 : Nat)) :=
  by decide +kernel

theorem witness_MailboxChanges_4 : up.wf = true ∧ up.mboxRwReady (0 : Nat) ∧ 1 ≤ (720 : Nat) ∧ (720 : Nat) ≤ 720 :=
  by decide +kernel

theorem witness_MailboxChanges_5 : up.mboxRwReady (0 : Nat) :=
  by decide +kernel

theorem witness_MailboxChanges_6 : (hostUp .on liveDom id : State).mboxRwReady (0 : Nat) ∧
  (hostUp .on liveDom id : State).place? (mailWrite (0 : Nat) 0#512 true) (320#64 : BitVec 64).toNat = some
    ({ mailWrite 0 0#512 true with line := 1, sec := 1 } : Req) ∧ (hostUp .on liveDom id : State).injected < 256 ∧
  (hostUp .on liveDom id : State).rd.poison.length < 32768 ∧
  (hostUp .on liveDom id : State).writable ({ mailWrite 0 0#512 true with line := 1, sec := 1 } : Req).dom = true ∧
  (hostUp .on liveDom id : State).dpaOf ({ mailWrite 0 0#512 true with line := 1, sec := 1 } : Req).line
    ({ mailWrite 0 0#512 true with line := 1, sec := 1 } : Req).sec = some (320 : Nat) :=
  by decide +kernel

theorem witness_MailboxChanges_7 : (let q := hostUp .off liveDom id;
    { q with rd := { q.rd with poison := [⟨256, 4, .injected⟩] } } : State).mboxRwReady (0 : Nat) ∧
  (let q := hostUp .off liveDom id; { q with rd := { q.rd with poison := [⟨256, 4, .injected⟩] } } : State).place?
    (mailWrite (0 : Nat) (7#512 : BitVec 512) false) (320#64 : BitVec 64).toNat = some
    ({ mailWrite 0 7#512 false with line := 1, sec := 1 } : Req) ∧
  (let q := hostUp .off liveDom id; { q with rd := { q.rd with poison := [⟨256, 4, .injected⟩] } } : State).writable
    ({ mailWrite 0 7#512 false with line := 1, sec := 1 } : Req).dom = true ∧
  (let q := hostUp .off liveDom id; { q with rd := { q.rd with poison := [⟨256, 4, .injected⟩] } } : State).fch.mode =
    .off ∧
  (let q := hostUp .off liveDom id; { q with rd := { q.rd with poison := [⟨256, 4, .injected⟩] } } : State).swt.st = .none
    ∧
  ((let q := hostUp .off liveDom id; { q with rd := { q.rd with poison := [⟨256, 4, .injected⟩] } } : State).epoDom
    ({ mailWrite 0 7#512 false with line := 1, sec := 1 } : Req).dom).draining = false ∧
  (let q := hostUp .off liveDom id; { q with rd := { q.rd with poison := [⟨256, 4, .injected⟩] } } : State).dpaOf
    ({ mailWrite 0 7#512 false with line := 1, sec := 1 } : Req).line
    ({ mailWrite 0 7#512 false with line := 1, sec := 1 } : Req).sec = some (320 : Nat) :=
  by decide +kernel

theorem witness_MailboxChanges_8 : (hostUp .on liveDom id : State).mboxRwReady (0 : Nat) ∧
  (hostUp .on liveDom id : State).host.bg = none ∧ (hostUp .on liveDom id : State).host.memActive = true ∧
  (hostUp .on liveDom id : State).scanRange (0 : Nat) (4 : Nat) = some ((0 : Nat), (1 : Nat)) :=
  by decide +kernel

theorem witness_MailboxChanges_9 : scanUp.pwr.coreOn = true ∧ scanUp.rd.scan = some (⟨0, 8, false⟩ : Scan) ∧
  scanUp.rd.reads.any (fun r => r.why == .scan) = false ∧ scanUp.host.bg = some (.scan, (0 : Nat)) :=
  by decide +kernel

theorem witness_MailboxChanges_10 : (hostUp .on liveDom id : State).wf = true ∧
  (hostUp .on liveDom id : State).mboxRwReady (0 : Nat) ∧ (hostUp .on liveDom id : State).host.bg = none :=
  by decide +kernel

theorem witness_MailboxChanges_11 : (hostUp .on liveDom id : State).wf = true ∧
  (hostUp .on liveDom id : State).mboxRwReady (0 : Nat) ∧ (hostUp .on liveDom id : State).host.bg = none :=
  by decide +kernel

theorem witness_MailboxChanges_12 : ({ up with host := { up.host with sanitizing := true, bg := some (.sanitize, 0) } } :
    State).wf = true ∧
  ({ up with host := { up.host with sanitizing := true, bg := some (.sanitize, 0) } } : State).pwr.coreOn = true ∧
  ({ up with host := { up.host with sanitizing := true, bg := some (.sanitize, 0) } } : State).host.sanitizing = true ∧
  ({ up with host := { up.host with sanitizing := true, bg := some (.sanitize, 0) } } : State).map.st = .active :=
  by decide +kernel

theorem witness_MailboxChanges_13 : up.mboxRwReady (0 : Nat) ∧ 1 ≤ (1 : Nat) ∧ (1 : Nat) ≤ (100 : Nat) ∧
  (100 : Nat) ≤ 100 :=
  by decide +kernel

theorem witness_MailboxChanges_14 : (hostUp .on liveDom id : State).wf = true ∧
  (hostUp .on liveDom id : State).mboxRwReady (0 : Nat) ∧
  (hostUp .on liveDom id : State).extentBad (0 : Nat) (0 : Nat) (2 : Nat) = false ∧
  (hostUp .on liveDom id : State).takesReleased (0 : Nat) (2 : Nat) = false ∧
  ((hostUp .on liveDom id : State).dom (0 : Nat)).count < (2 : Nat) :=
  by decide +kernel

theorem witness_MailboxChanges_15 : (hostUp .on liveDom id : State).wf = true ∧
  (hostUp .on liveDom id : State).mboxRwReady (0 : Nat) ∧
  (hostUp .on liveDom id : State).extentBad (0 : Nat) (0 : Nat) (0 : Nat) = false ∧
  (hostUp .on liveDom id : State).takesReleased (0 : Nat) (0 : Nat) = false ∧
  (0 : Nat) < ((hostUp .on liveDom id : State).dom (0 : Nat)).count ∧
  (hostUp .on liveDom id : State).shrinkBusy (0 : Nat) (0 : Nat) (0 : Nat) = false :=
  by decide +kernel

theorem witness_MailboxChanges_16 : (mp (fun m => { m with unmap := [(0, 64, .carve)], ent := [(3, Entry.lost)] }) :
    State).wf = true ∧
  (mp (fun m => { m with unmap := [(0, 64, .carve)], ent := [(3, Entry.lost)] }) : State).pwr.coreOn = true ∧
  (mp (fun m => { m with unmap := [(0, 64, .carve)], ent := [(3, Entry.lost)] }) : State).map.st = .active ∧
  (mp (fun m => { m with unmap := [(0, 64, .carve)], ent := [(3, Entry.lost)] }) : State).map.unmap = ((0 : Nat),
  (64 : Nat), (.carve : UnmapWhy)) :: ([] : List (Nat × Nat × UnmapWhy)) ∧
  (mp (fun m => { m with unmap := [(0, 64, .carve)], ent := [(3, Entry.lost)] }) : State).recordDue (0 : Nat) (64 : Nat) =
    false :=
  by decide +kernel

theorem witness_FirmwareCommands_1 : (fw (fun f => { f with xfer := some xf }) : State).wf = true ∧
  (fw (fun f => { f with xfer := some xf }) : State).pwr.coreOn = true ∧
  (fw (fun f => { f with xfer := some xf }) : State).fwu.xfer = some (xf : Xfer) ∧ (xf : Xfer).copying = true ∧
  (xf : Xfer).src.recovery = false :=
  by decide +kernel

theorem witness_FirmwareCommands_2 : (fw (fun f => { f with xfer := some xf }) : State).wf = true ∧
  (fw (fun f => { f with xfer := some xf }) : State).pwr.coreOn = true ∧
  (fw (fun f => { f with xfer := some xf }) : State).fwu.xfer = some (xf : Xfer) ∧ (xf : Xfer).copying = true :=
  by decide +kernel

theorem witness_FirmwareCommands_3 : up.mboxRwReady (0 : Nat) ∧ up.xferRefused = none ∧ ([1, 2,
  3] : List Nat).length < 4096 :=
  by decide +kernel

theorem witness_FirmwareCommands_4 : (fw (fun f => { f with xfer := some (Xfer.start .cxl 16 0) }) : State).mboxRwReady (0
    : Nat) ∧
  (fw (fun f => { f with xfer := some (Xfer.start .cxl 16 0) }) : State).fwu.xfer = some (Xfer.start .cxl 16 0 : Xfer) ∧
  (Xfer.start .cxl 16 0 : Xfer).src = .cxl ∧ (Xfer.start .cxl 16 0 : Xfer).h = (0 : Nat) ∧
  (Xfer.start .cxl 16 0 : Xfer).copying = false :=
  by decide +kernel

theorem witness_FirmwareCommands_5 : up.mboxReady (0 : Nat) :=
  by decide +kernel

theorem witness_FirmwareCommands_6 : up.portUp 8 = true ∧ up.fwu.paused = false ∧ up.fwu.recovery = false ∧
  up.xferRefused = none :=
  by decide +kernel

theorem witness_FirmwareCommands_7 : (fw (fun f => { f with xfer := some (Xfer.start .pldm 8 8) }) : State).portUp 8 =
    true ∧ (fw (fun f => { f with xfer := some (Xfer.start .pldm 8 8) }) : State).fwu.paused = false ∧
  (fw (fun f => { f with xfer := some (Xfer.start .pldm 8 8) }) : State).fwu.xfer = some (Xfer.start .pldm 8 8 : Xfer) ∧
  (Xfer.start .pldm 8 8 : Xfer).src = .pldm ∧ (Xfer.start .pldm 8 8 : Xfer).copying = false ∧
  (Xfer.start .pldm 8 8 : Xfer).len = 0 ∧ (0 : Nat) = (Xfer.start .pldm 8 8 : Xfer).next ∧ ([1, 2,
  3] : List Nat).length ≤ 2 ^ (Xfer.start .pldm 8 8 : Xfer).chunk ∧ (0 : Nat) + ([1, 2, 3] : List Nat).length < 4096 :=
  by decide +kernel

theorem witness_FirmwareCommands_8 : (fw (fun f => { f with xfer := some (Xfer.start .pldm 8 8) }) : State).pwr.coreOn =
    true ∧ (fw (fun f => { f with xfer := some (Xfer.start .pldm 8 8) }) : State).fwu.running = true ∧
  (fw (fun f => { f with xfer := some (Xfer.start .pldm 8 8) }) : State).fwu.paused = false ∧
  (fw (fun f => { f with xfer := some (Xfer.start .pldm 8 8) }) : State).fwu.xfer = some (Xfer.start .pldm 8 8 : Xfer) ∧
  (Xfer.start .pldm 8 8 : Xfer).src = .pldm ∧ (Xfer.start .pldm 8 8 : Xfer).copying = false ∧
  (Xfer.start .pldm 8 8 : Xfer).repeats < 3 :=
  by decide +kernel

theorem witness_FirmwareCommands_9 : (fw (fun f => { f with xfer := some { Xfer.start .pldm 8 8 with repeats := 3 } }) :
    State).wf = true ∧
  (fw (fun f => { f with xfer := some { Xfer.start .pldm 8 8 with repeats := 3 } }) : State).pwr.coreOn = true ∧
  (fw (fun f => { f with xfer := some { Xfer.start .pldm 8 8 with repeats := 3 } }) : State).fwu.running = true ∧
  (fw (fun f => { f with xfer := some { Xfer.start .pldm 8 8 with repeats := 3 } }) : State).fwu.paused = false ∧
  (fw (fun f => { f with xfer := some { Xfer.start .pldm 8 8 with repeats := 3 } }) : State).fwu.xfer = some
    ({ Xfer.start .pldm 8 8 with repeats := 3 } : Xfer) ∧
  ({ Xfer.start .pldm 8 8 with repeats := 3 } : Xfer).src = .pldm ∧
  ({ Xfer.start .pldm 8 8 with repeats := 3 } : Xfer).copying = false ∧
  3 ≤ ({ Xfer.start .pldm 8 8 with repeats := 3 } : Xfer).repeats :=
  by decide +kernel

theorem witness_FirmwareCommands_10 : (fw (fun f => { f with recovery := true, running := false }) : State).pwr.coreOn =
    true ∧ (fw (fun f => { f with recovery := true, running := false }) : State).fwu.recovery = true ∧
  (fw (fun f => { f with recovery := true, running := false }) : State).fwu.xfer = none ∧ ([1,
  2] : List Nat).length < 4096 :=
  by decide +kernel

theorem witness_FirmwareCommands_11 : stUp.mboxRwReady (0 : Nat) ∧ stUp.activateRefused (2 : Nat) false = none :=
  by decide +kernel

theorem witness_FirmwareCommands_12 : stUp.mboxRwReady (0 : Nat) ∧ stUp.activateRefused (2 : Nat) true = none :=
  by decide +kernel

theorem witness_FirmwareCommands_13 : stUp.portUp 8 = true ∧ stUp.fwu.paused = false ∧
  stUp.activateRefused (stUp.otherSlot + 1) true = none :=
  by decide +kernel

theorem witness_FirmwareCommands_14 : ({ stUp with fwu := { stUp.fwu with act := some (1, .pldm) } } : State).pwr.coreOn =
    true ∧ ({ stUp with fwu := { stUp.fwu with act := some (1, .pldm) } } : State).fwu.running = true ∧
  ({ stUp with fwu := { stUp.fwu with act := some (1, .pldm) } } : State).fwu.paused = false ∧
  ({ stUp with fwu := { stUp.fwu with act := some (1, .pldm) } } : State).fwu.act = some ((1 : Nat), (.pldm : ActHow)) :=
  by decide +kernel

theorem witness_FirmwareCommands_15 : ({ stUp with fwu := { stUp.fwu with act := some (1, .pldm) } } : State).wf = true ∧
  ({ stUp with fwu := { stUp.fwu with act := some (1, .pldm) } } : State).pwr.coreOn = true ∧
  ({ stUp with fwu := { stUp.fwu with act := some (1, .pldm) } } : State).fwu.running = true ∧
  ({ stUp with fwu := { stUp.fwu with act := some (1, .pldm) } } : State).fwu.paused = false ∧
  ({ stUp with fwu := { stUp.fwu with act := some (1, .pldm) } } : State).fwu.act = some ((1 : Nat), (.pldm : ActHow)) :=
  by decide +kernel

theorem witness_FirmwareCommands_16 : ({ stUp with fwu := { stUp.fwu with paused := true, act := some (1, .pldm) } } :
    State).wf = true ∧
  ({ stUp with fwu := { stUp.fwu with paused := true, act := some (1, .pldm) } } : State).pwr.coreOn = true ∧
  ({ stUp with fwu := { stUp.fwu with paused := true, act := some (1, .pldm) } } : State).fwu.paused = true ∧
  ({ stUp with fwu := { stUp.fwu with paused := true, act := some (1, .pldm) } } : State).fwu.act = some ((1 : Nat),
  (.pldm : ActHow)) :=
  by decide +kernel

theorem witness_FirmwareCommands_17 : ({ stUp with fwu := { stUp.fwu with paused := true, act := some (1, .pldm) } } :
    State).wf = true ∧
  ({ stUp with fwu := { stUp.fwu with paused := true, act := some (1, .pldm) } } : State).pwr.coreOn = true ∧
  ({ stUp with fwu := { stUp.fwu with paused := true, act := some (1, .pldm) } } : State).fwu.paused = true ∧
  ({ stUp with fwu := { stUp.fwu with paused := true, act := some (1, .pldm) } } : State).fwu.act = some ((1 : Nat),
  (.pldm : ActHow)) :=
  by decide +kernel

theorem witness_FirmwareCommands_18 : ((stUp.setFld F.topMidxAssigned 1).setFld F.topTimeValid 1 : State).mboxRwReady (0 :
    Nat) ∧ ((stUp.setFld F.topMidxAssigned 1).setFld F.topTimeValid 1 : State).fld F.topMidxAssigned ≠ 0 ∧
  ((stUp.setFld F.topMidxAssigned 1).setFld F.topTimeValid 1 : State).fld F.topTimeValid ≠ 0 ∧
  ((stUp.setFld F.topMidxAssigned 1).setFld F.topTimeValid 1 : State).activateRefused (2 : Nat) true = none ∧
  ((stUp.setFld F.topMidxAssigned 1).setFld F.topTimeValid 1 : State).time.devtime + 10 ^ 9 ≤ (1000000000 : Nat) ∧
  (1000000000 : Nat) ≤ ((stUp.setFld F.topMidxAssigned 1).setFld F.topTimeValid 1 : State).time.devtime + 604800 * 10 ^ 9
    ∧ ((true : Bool) = true → (1000000000 : Nat) % 10 ^ 9 = 0) ∧ 2 ≤ ([0, 9] : List Nat).length ∧ ([0,
  9] : List Nat).length ≤ 32 ∧ ([0, 9] : List Nat).length % 2 = 0 ∧
  inTargets (((stUp.setFld F.topMidxAssigned 1).setFld F.topTimeValid 1 : State).fld F.topMidxIndex) ([0,
  9] : List Nat) = true :=
  by decide +kernel

theorem witness_FirmwareCommands_19 : (fw (fun f => { f with sched := some ⟨1, 5, false, false⟩ }) : State).mboxRwReady (0
    : Nat) ∧ (fw (fun f => { f with sched := some ⟨1, 5, false, false⟩ }) : State).fwu.sched = some (⟨1, 5, false,
  false⟩ : Sched) ∧ (⟨1, 5, false, false⟩ : Sched).fired = false :=
  by decide +kernel

theorem witness_FirmwareCommands_20 : (trUp 1 1 : State).pwr.coreOn = true ∧ (trUp 1 1 : State).fwu.running = true ∧
  (trUp 1 1 : State).boot.st = .trial ∧ (trUp 1 1 : State).fwu.selfCheck = 1 :=
  by decide +kernel

theorem witness_FirmwareCommands_21 : (trUp 1 1 : State).wf = true ∧ (trUp 1 1 : State).pwr.coreOn = true ∧
  (trUp 1 1 : State).fwu.running = true ∧ (trUp 1 1 : State).boot.st = .trial ∧ (trUp 1 1 : State).fwu.selfCheck = 1 :=
  by decide +kernel

theorem witness_FirmwareCommands_22 : (trUp 2 0 : State).wf = true ∧ (trUp 2 0 : State).mboxRwReady (0 : Nat) ∧
  (trUp 2 0 : State).boot.st = .trial ∧ (trUp 2 0 : State).fwu.selfCheck = 2 ∧
  (trUp 2 0 : State).slotImg (trUp 2 0 : State).boot.running = some (im 0 : Image) ∧
  (im 0 : Image).svn ≤ (trUp 2 0 : State).ctrVal 8 :=
  by decide +kernel

theorem witness_FirmwareCommands_23 : (trUp 2 4 : State).wf = true ∧ (trUp 2 4 : State).mboxRwReady (0 : Nat) ∧
  (trUp 2 4 : State).boot.st = .trial ∧ (trUp 2 4 : State).fwu.selfCheck = 2 ∧
  (trUp 2 4 : State).slotImg (trUp 2 4 : State).boot.running = some (im 4 : Image) ∧
  (trUp 2 4 : State).bestCell 8 16 = some ((0 : Nat), (0 : Nat)) ∧ (0 : Nat) < (im 4 : Image).svn ∧
  (trUp 2 4 : State).cellGood 8 (((0 : Nat) + 1) % 16) = true :=
  by decide +kernel

theorem witness_FirmwareCommands_24 : (trUp 1 1 : State).wf = true ∧ (trUp 1 1 : State).pwr.coreOn = true ∧
  (trUp 1 1 : State).fwu.running = true ∧ (trUp 1 1 : State).boot.st = .trial ∧
  (trUp 1 1 : State).boot.deadline ≤ (trUp 1 1 : State).opMs :=
  by decide +kernel

theorem witness_FirmwareCommands_25 : (trUp 1 1 : State).wf = true ∧ (trUp 1 1 : State).pwr.coreOn = true ∧
  (trUp 1 1 : State).fwu.running = true ∧ (trUp 1 1 : State).fwu.near = false ∧ (trUp 1 1 : State).boot.st = .trial ∧
  (trUp 1 1 : State).boot.deadline ≤ (trUp 1 1 : State).opMs + 3600000 :=
  by decide +kernel

theorem witness_FirmwareCommands_26_1 : (trUp 1 1 : State).wf = true ∧ (trUp 1 1 : State).pwr.coreOn = true ∧
  (trUp 1 1 : State).fwu.running = true :=
  by decide +kernel

theorem witness_FirmwareCommands_26_2 : up.wf = true ∧ up.pwr.coreOn = true ∧ up.fwu.running = true :=
  by decide +kernel

theorem witness_FirmwareCommands_27 : up.wf = true ∧ up.mboxRwReady (0 : Nat) ∧
  up.bundleSigned (bu true : Bundle) = true ∧ (bu true : Bundle).serial = 0#64 ∧
  (bu true : Bundle).items = [.subsystem (5 : Nat) (6 : Nat)] ∧ (5 : Nat) < 2 ^ 16 ∧ (6 : Nat) < 2 ^ 16 ∧
  up.bestCell 10 16 = some ((0 : Nat), (0 : Nat)) ∧ (0 : Nat) < (bu true : Bundle).seq ∧
  (bu true : Bundle).seq ≤ ctrLimit 10 ∧ up.cellGood 10 (((0 : Nat) + 1) % 16) = true :=
  by decide +kernel

theorem witness_FirmwareCommands_28 : up.wf = true ∧ up.mboxRwReady (0 : Nat) ∧
  up.bundleSigned (bu false : Bundle) = false :=
  by decide +kernel

theorem witness_FirmwareCommands_29 : up.barReady (0 : Nat) :=
  by decide +kernel

theorem witness_FirmwareCommands_30 : (up.bump F.fwuCntActivations 1 : State).wf = true ∧
  (up.bump F.fwuCntActivations 1 : State).barReady (0 : Nat) :=
  by decide +kernel

theorem witness_AttestationCommands_1 : lkUp.portUp (8 : Nat) = true ∧ lkUp.fwu.paused = false ∧
  lkUp.identReadable (0 : Nat) (1024 : Nat) = true :=
  by decide +kernel

theorem witness_AttestationCommands_2 : lkUp.portUp (8 : Nat) = true ∧ lkUp.fwu.paused = false ∧ (1024 : Nat) ≤ 1024 ∧
  lkUp.identReadable (0 : Nat) (1024 : Nat) = true :=
  by decide +kernel

theorem witness_AttestationCommands_3 : up.portUp (8 : Nat) = true ∧ up.fwu.paused = false ∧ 1024 < (1025 : Nat) :=
  by decide +kernel

theorem witness_AttestationCommands_4 : up.portUp (0 : Nat) = true ∧ up.fwu.paused = false :=
  by decide +kernel

theorem witness_AttestationCommands_5 : up.portUp (8 : Nat) = true ∧ up.fwu.paused = false :=
  by decide +kernel

theorem witness_AttestationCommands_6 : (fw (fun f => { f with roles := [⟨0, 77, 1⟩] }) : State).portUp (8 : Nat) = true ∧
  (fw (fun f => { f with roles := [⟨0, 77, 1⟩] }) : State).fwu.paused = false ∧
  ((fw (fun f => { f with roles := [⟨0, 77, 1⟩] }) : State).fwu.sessions.filter fun x => x.port == (8 : Nat)).length < 4 ∧
  (fw (fun f => { f with roles := [⟨0, 77, 1⟩] }) : State).cry.drbg ≠ .failed :=
  by decide +kernel

theorem witness_AttestationCommands_7 : (adm up : State).portUp (0 : Nat) = true ∧ (adm up : State).fwu.paused = false ∧
  (adm up : State).session (9 : Nat) = some (⟨0, 9, true, true⟩ : Session) ∧ (⟨0, 9, true,
  true⟩ : Session).port = (0 : Nat) ∧ (4096 : Nat) ≤ 4096 :=
  by decide +kernel

theorem witness_AttestationCommands_8 : (fw (fun f => { f with pqReady := [0] }) : State).portUp (0 : Nat) = true ∧
  (fw (fun f => { f with pqReady := [0] }) : State).fwu.paused = false ∧
  (fw (fun f => { f with pqReady := [0] }) : State).fwu.pqReady.contains (0 : Nat) = true :=
  by decide +kernel

theorem witness_AttestationCommands_9 : (fw (fun f => { f with pqMaking := [0] }) : State).portUp (0 : Nat) = true ∧
  (fw (fun f => { f with pqMaking := [0] }) : State).fwu.paused = false ∧
  (fw (fun f => { f with pqMaking := [0] }) : State).fwu.pqMaking.contains (0 : Nat) = true :=
  by decide +kernel

theorem witness_AttestationCommands_10 : up.portUp (0 : Nat) = true ∧ up.fwu.paused = false :=
  by decide +kernel

theorem witness_AttestationCommands_11 : (hostUp .on liveDom id : State).portUp (0 : Nat) = true ∧
  (hostUp .on liveDom id : State).fwu.paused = false :=
  by decide +kernel

theorem witness_SidebandPortCommands_1 : up.portUp 8 = true ∧ up.fwu.paused = false :=
  by decide +kernel

theorem witness_SidebandPortCommands_2_1 : (fw (fun f => { f with paused := true, heldMctp := 7 }) : State).portUp 8 =
    true ∧ (fw (fun f => { f with paused := true, heldMctp := 7 }) : State).fwu.paused = true :=
  by decide +kernel

theorem witness_SidebandPortCommands_2_2 : (fw (fun f => { f with paused := true, heldMctp := 8 }) : State).portUp 8 =
    true ∧ (fw (fun f => { f with paused := true, heldMctp := 8 }) : State).fwu.paused = true :=
  by decide +kernel

theorem witness_SidebandPortCommands_3 : ({ up with side := { up.side with i3cAddr := none } } : State).pwr.st = .on ∧
  ({ up with side := { up.side with i3cAddr := none } } : State).side.i3cAddr = none :=
  by decide +kernel

theorem witness_SidebandPortCommands_4 : up.pwr.st = .on ∧ up.side.i3cAddr ≠ none :=
  by decide +kernel

theorem witness_SidebandPortCommands_5 : ({ up with side := { up.side with i3cAddr := none } } : State).pwr.st = .on ∧
  ({ up with side := { up.side with i3cAddr := none } } : State).side.i3cAddr = none :=
  by decide +kernel

theorem witness_SidebandPortCommands_6 : holdsBalls (.extest : JtagInst) = true ∧
  (State.reset : State).host.memActive = false :=
  by decide +kernel

theorem witness_SidebandPortCommands_7 : holdsBalls (.extest : JtagInst) = true ∧ up.host.memActive = true ∧
  up.side.jtagHeld = false :=
  by decide +kernel

theorem witness_SidebandPortCommands_8 : holdsBalls
    ({ up with side := { up.side with jtag := .extest, jtagHeld := true } } : State).side.jtag = true :=
  by decide +kernel

theorem witness_ThermalCommands_1 : ({ up with thm := { up.thm with next := 94 } } : State).pwr.coreOn = true ∧
  ({ up with thm := { up.thm with next := 94 } } : State).thm.next = (94 : Nat) ∧ (94 : Nat) < 95 :=
  by decide +kernel

theorem witness_ThermalCommands_2 : ({ up with thm := { up.thm with next := 95 } } : State).wf = true ∧
  ({ up with thm := { up.thm with next := 95 } } : State).pwr.coreOn = true ∧
  ({ up with thm := { up.thm with next := 95 } } : State).thm.next = 95 ∧
  offBy (594#16 : BitVec 16).toNat 600 1 = false :=
  by decide +kernel

theorem witness_ThermalCommands_3 : ({ up with thm := { up.thm with next := 95 } } : State).wf = true ∧
  ({ up with thm := { up.thm with next := 95 } } : State).pwr.coreOn = true ∧
  ({ up with thm := { up.thm with next := 95 } } : State).thm.next = 95 ∧ offBy (593#16 : BitVec 16).toNat 600 1 = true :=
  by decide +kernel

theorem witness_ThermalCommands_4 : ({ up with thm := { up.thm with excl := 0x8000000000000000#64 } } : State).wf = true ∧
  ({ up with thm := { up.thm with excl := 0x8000000000000000#64 } } : State).barReady (0 : Nat) ∧ (63 : Nat) < 64 ∧
  ({ up with thm := { up.thm with excl := 0x8000000000000000#64 } } : State).included (63 : Nat) = false :=
  by decide +kernel

theorem witness_ThermalCommands_5 : (up.bump F.thmCntExclusions 1 : State).wf = true ∧
  (up.bump F.thmCntExclusions 1 : State).barReady (0 : Nat) :=
  by decide +kernel

theorem witness_ThermalCommands_6 : (up.bump F.hkpStsRefFails 1 : State).wf = true ∧
  (up.bump F.hkpStsRefFails 1 : State).barReady (0 : Nat) :=
  by decide +kernel

theorem witness_ThermalCommands_7 : up.wf = true ∧ up.tripArmed = true ∧ up.included (5 : Nat) = true ∧
  up.pwr.why ≠ .trip :=
  by decide +kernel

theorem witness_ThermalCommands_8 : ({ up with thm := { up.thm with first := true } } : State).pwr.coreOn = true ∧
  ({ up with thm := { up.thm with first := true } } : State).thm.first = true :=
  by decide +kernel

theorem witness_ThermalCommands_9 : ({ up with thm := { up.thm with hDie := [(3, 5)] } } : State).pwr.coreOn = true :=
  by decide +kernel

theorem witness_ThermalCommands_10 : up.mboxRwReady (0 : Nat) ∧ 128 ≤ (640 : Nat) ∧ (640 : Nat) ≤ 640 :=
  by decide +kernel

theorem witness_ThermalCommands_11 : up.mboxRwReady (0 : Nat) ∧ ((641 : Nat) < 128 ∨ 640 < (641 : Nat)) :=
  by decide +kernel

theorem witness_ThermalCommands_12 : up.mboxReady (0 : Nat) :=
  by decide +kernel

theorem witness_NotionAndCounterCommands_1 : up.wf = true ∧ up.pwr.coreOn = true ∧ up.ntn.scrubbing = false :=
  by decide +kernel

theorem witness_NotionAndCounterCommands_2 : up.barReady (0 : Nat) :=
  by decide +kernel

theorem witness_NotionAndCounterCommands_3 : ({ up with ntn := { up.ntn with scrubbing := true } } : State).wf = true ∧
  ({ up with ntn := { up.ntn with scrubbing := true } } : State).pwr.coreOn = true ∧
  ({ up with ntn := { up.ntn with scrubbing := true } } : State).ntn.scrubbing = true :=
  by decide +kernel

theorem witness_NotionAndCounterCommands_4 : (up.bump F.ntnCntCorr 1 : State).wf = true ∧
  (up.bump F.ntnCntCorr 1 : State).barReady (0 : Nat) :=
  by decide +kernel

theorem witness_NotionAndCounterCommands_5 : ({ up with ntn := { up.ntn with lsa := [(32767, 0x1234567812345678#64)] } } :
    State).mboxReady (0 : Nat) ∧ (262143 : Nat) < 262144 :=
  by decide +kernel

theorem witness_NotionAndCounterCommands_6 : Tab.wf (fun _ => 0#64) up.ntn.lsa = true ∧ up.mboxRwReady (0 : Nat) ∧
  (262143 : Nat) < 262144 :=
  by decide +kernel

theorem witness_NotionAndCounterCommands_7 : up.mboxReady (0 : Nat) ∧ 262144 < (262143 : Nat) + (2 : Nat) :=
  by decide +kernel

theorem witness_NotionAndCounterCommands_8 : up.wf = true ∧ up.barReady (0 : Nat) :=
  by decide +kernel

theorem witness_NotionAndCounterCommands_9 : ((up.setReg (pmcCfgOff 3 63) 0x90000100#64).setReg (pmcCntOff 3 63)
    0xFFFFFFFFFFFF#64 : State).wf = true ∧
  ((up.setReg (pmcCfgOff 3 63) 0x90000100#64).setReg (pmcCntOff 3 63) 0xFFFFFFFFFFFF#64 : State).pwr.coreOn = true ∧
  (3 : Nat) < 4 ∧ (63 : Nat) < 64 ∧
  ((up.setReg (pmcCfgOff 3 63) 0x90000100#64).setReg (pmcCntOff 3 63) 0xFFFFFFFFFFFF#64 : State).pmcRuns (3 : Nat) (63 :
    Nat) = true ∧
  2 ^ 48 ≤ (((up.setReg (pmcCfgOff 3 63) 0x90000100#64).setReg (pmcCntOff 3 63) 0xFFFFFFFFFFFF#64 : State).reg (pmcCntOff
    (3 : Nat) (63 : Nat))).toNat % 2 ^ 48 + (5 : Nat) ∧ ((63 : Nat) < 63 →
  getBits (((up.setReg (pmcCfgOff 3 63) 0x90000100#64).setReg (pmcCntOff 3 63) 0xFFFFFFFFFFFF#64 : State).reg (pmcCfgOff
    (3 : Nat) ((63 : Nat) + 1))) 30 30 = 0) :=
  by decide +kernel

theorem witness_NotionAndCounterCommands_10 : (up.setReg (pmcCntOff 3 63) 0xFFFFFFFFFFFF#64 : State).wf = true ∧
  (up.setReg (pmcCntOff 3 63) 0xFFFFFFFFFFFF#64 : State).barReady (0 : Nat) ∧ (3 : Nat) < 4 :=
  by decide +kernel

theorem witness_NotionAndCounterCommands_11 : up.wf = true ∧ up.barReady (0 : Nat) ∧ (3 : Nat) < 4 ∧ (63 : Nat) < 64 ∧
  onlyBit (0x80000000#32 : BitVec 32) = some (31 : Nat) ∧ 32 * (127 : Nat) + (31 : Nat) < 4096 :=
  by decide +kernel

theorem witness_NotionAndCounterCommands_12 : up.barReady (0 : Nat) ∧ (3#32 : BitVec 32) ≠ 0#32 ∧
  onlyBit (3#32 : BitVec 32) = none :=
  by decide +kernel

theorem witness_EventCommands_1 :
    ({ up with evt := { up.evt with queue := [⟨5, 6, 1, 7, 8, 9, 0, false⟩], next := 65535 } } : State).pwr.coreOn = true
    ∧
  ({ up with evt := { up.evt with queue := [⟨5, 6, 1, 7, 8, 9, 0, false⟩], next := 65535 } } : State).evt.clearing = false
    ∧ ({ up with evt := { up.evt with queue := [⟨5, 6, 1, 7, 8, 9, 0, false⟩], next := 65535 } } : State).evt.queue = (⟨5,
  6, 1, 7, 8, 9, 0, false⟩ : QRec) :: ([] : List QRec) ∧
  ({ up with evt := { up.evt with queue := [⟨5, 6, 1, 7, 8, 9, 0, false⟩], next := 65535 } } : State).evt.dropped = 0 ∧
  ({ up with evt := { up.evt with queue := [⟨5, 6, 1, 7, 8, 9, 0, false⟩], next := 65535 } } : State).folds (⟨5, 6, 1, 7,
  8, 9, 0, false⟩ : QRec) = false ∧ (⟨5, 6, 1, 7, 8, 9, 0, false⟩ : QRec).code ≠ 0x2003 :=
  by decide +kernel

theorem witness_EventCommands_2 :
    ({ up with evt := { up.evt with ring := [(5, some ev0)], newest := some 5, fold := some 9 } } : State).pwr.coreOn =
    true ∧
  ({ up with evt := { up.evt with ring := [(5, some ev0)], newest := some 5, fold := some 9 } } : State).evt.newest = some
    (5 : Nat) ∧
  ({ up with evt := { up.evt with ring := [(5, some ev0)], newest := some 5, fold := some 9 } } : State).evt.fold = some
    (9 : Nat) ∧
  ({ up with evt := { up.evt with ring := [(5, some ev0)], newest := some 5, fold := some 9 } } : State).ringAt (slotOf (5
    : Nat)) = some (ev0 : EvRec) :=
  by decide +kernel

theorem witness_EventCommands_3 : (up.bump F.evrCntWritten 1 : State).wf = true ∧
  (up.bump F.evrCntWritten 1 : State).barReady (0 : Nat) :=
  by decide +kernel

theorem witness_EventCommands_4 : up.mboxReady (0 : Nat) ∧ 1 ≤ (2047 : Nat) ∧ (2047 : Nat) ≤ 2047 ∧ (0 : Nat) < 2 ^ 16 ∧
  ((0 : Nat) + 2 ^ 16 - up.evt.next) % 2 ^ 16 < 2 ^ 15 :=
  by decide +kernel

theorem witness_EventCommands_5 : (adm
    { up with evt := { up.evt with ring := [(5, some ev0), (6, some ev0)], newest := some 6 } } : State).wf = true ∧
  (adm { up with evt := { up.evt with ring := [(5, some ev0), (6, some ev0)], newest := some 6 } } : State).fwu.running =
    true ∧
  (adm { up with evt := { up.evt with ring := [(5, some ev0), (6, some ev0)], newest := some 6 } } :
    State).fwu.sessions.any (fun x => x.id == (9 : Nat) && x.admin) = true ∧
  (adm { up with evt := { up.evt with ring := [(5, some ev0), (6, some ev0)], newest := some 6 } } : State).bestCell 7 16
    = some ((0 : Nat), (0 : Nat)) ∧ (0 : Nat) + 1 ≤ ctrLimit 7 ∧
  (adm { up with evt := { up.evt with ring := [(5, some ev0), (6, some ev0)], newest := some 6 } } : State).cellGood 7
    (((0 : Nat) + 1) % 16) = true :=
  by decide +kernel

theorem witness_EventCommands_6 : up.wf = true ∧ up.fwu.running = true ∧
  up.fwu.sessions.any (fun x => x.id == (9 : Nat) && x.admin) = false :=
  by decide +kernel

theorem witness_EventCommands_7 : (h0 (fun x =>
    { x with msixOn := true, msixMask := 0#64, msixPend := 0x8000000000000000#64 }) : State).wf = true ∧
  (h0 (fun x => { x with msixOn := true, msixMask := 0#64, msixPend := 0x8000000000000000#64 }) : State).ioUp (0 : Nat) =
    true ∧
  ((h0 (fun x => { x with msixOn := true, msixMask := 0#64, msixPend := 0x8000000000000000#64 }) : State).head (0 :
    Nat)).msixOn = true ∧ (63 : Nat) < 64 ∧
  ((h0 (fun x => { x with msixOn := true, msixMask := 0#64, msixPend := 0x8000000000000000#64 }) : State).head (0 :
    Nat)).msixPend.getLsbD (63 : Nat) = true ∧
  ((h0 (fun x => { x with msixOn := true, msixMask := 0#64, msixPend := 0x8000000000000000#64 }) : State).head (0 :
    Nat)).msixMask.getLsbD (63 : Nat) = false ∧
  Tab.get (fun _ => none) ((h0 (fun x => { x with msixOn := true, msixMask := 0#64, msixPend := 0x8000000000000000#64 }) :
    State).head (0 : Nat)).msixLast (63 : Nat) = none :=
  by decide +kernel

theorem witness_EventCommands_8 : (h0 (fun x => { x with msixPend := 5#64 }) : State).wf = true ∧
  (h0 (fun x => { x with msixPend := 5#64 }) : State).pwr.coreOn = true ∧
  (h0 (fun x => { x with msixPend := 5#64 }) : State).present (0 : Nat) = true ∧
  ((h0 (fun x => { x with msixPend := 5#64 }) : State).head (0 : Nat)).perst = false :=
  by decide +kernel

theorem witness_EventCommands_9 : up.mboxReady (0 : Nat) ∧ (3 : Nat) < 4 :=
  by decide +kernel

theorem witness_EventCommands_10 : (h0 (fun x => { x with ovf := Quad.all 3 }) : State).wf = true ∧
  (h0 (fun x => { x with ovf := Quad.all 3 }) : State).mboxReady (0 : Nat) ∧ (3 : Nat) < 4 :=
  by decide +kernel

theorem witness_EventCommands_11 : up.mboxReady (0 : Nat) :=
  by decide +kernel

theorem witness_EventCommands_12 : up.wf = true ∧ up.mboxReady (0 : Nat) :=
  by decide +kernel

theorem witness_EventCommands_13 : up.mboxRwReady (0 : Nat) ∧ ([80, 90, 0, 5, 5] : List Nat).length = 5 :=
  by decide +kernel

theorem witness_EventCommands_14 : up.mboxReady (0 : Nat) :=
  by decide +kernel

theorem witness_EventCommands_15 : up.mboxReady (0 : Nat) :=
  by decide +kernel

theorem witness_StepRunsTheFrontCommand_1 : (({ up with pending := [.getTimestamp 0, .ppsEdge] } : State) : State).pending
    = (.getTimestamp 0 : Instr) :: ([.ppsEdge] : List Instr) :=
  by decide +kernel

theorem witness_IdleStepIsOneReferencePeriod_1 : up.pending = [] ∧ up.pwr.stby = true ∧ up.time.slewLeft = 0 :=
  by decide +kernel

theorem witness_IdleStepIsOneReferencePeriod_2 : (({ up with time := { up.time with slewLeft := 5, slewE := 100 } } :
    State) : State).pending = [] ∧
  (({ up with time := { up.time with slewLeft := 5, slewE := 100 } } : State) : State).pwr.stby = true ∧
  0 < (({ up with time := { up.time with slewLeft := 5, slewE := 100 } } : State) : State).time.slewLeft :=
  by decide +kernel

theorem witness_IdleStepIsOneReferencePeriod_3 : (({ up with time := { up.time with slot := 127 } } : State) :
    State).pending = [] ∧ (({ up with time := { up.time with slot := 127 } } : State) : State).pwr.stby = true ∧
  (({ up with time := { up.time with slot := 127 } } : State) : State).time.slot < 128 :=
  by decide +kernel

theorem witness_IdleStepIsOneReferencePeriod_4 : (pw (fun p => { p with stby := false }) : State).pending = [] ∧
  (pw (fun p => { p with stby := false }) : State).pwr.stby = false :=
  by decide +kernel

theorem witness_EveryCommandKeepsItsFrame_1 : exec (.getTimestamp 0 : Instr) up = .next
    ({ up with out := [.mbox 0 .success [0]] } : State) :=
  rfl

theorem witness_EveryCommandKeepsItsFrame_2 : exec (.getTimestamp 0 : Instr) up = .next
    ({ up with out := [.mbox 0 .success [0]] } : State) :=
  rfl

theorem witness_StepKeepsTablesCanonical_1 : (({ up with pending := [.getTimestamp 0] } : State) : State).wf = true ∧
  step (({ up with pending := [.getTimestamp 0] } : State) : State) = .next ({ up with out := [.mbox 0 .success [0]] } :
    State) :=
  ⟨by decide +kernel,
    rfl⟩

theorem witness_ResetValues_3 : (Ev.topAccessErr : Evt).inst < (Ev.topAccessErr : Evt).blk.pages ∧
  (Ev.topAccessErr : Evt).bit < (Ev.topAccessErr : Evt).blk.eventBits :=
  by decide +kernel

theorem witness_MisalignedAccesses_1 : up.wf = true ∧ up.ioUp (0 : Nat) = true ∧ (¬ (((4 : Nat) = 4 ∨ (4 : Nat) = 8) ∧
  (0x1102 : Nat) % (4 : Nat) = 0)) :=
  by decide +kernel

theorem witness_MisalignedAccesses_2 : up.wf = true ∧ up.ioUp (0 : Nat) = true ∧ (¬ (((2 : Nat) = 4 ∨ (2 : Nat) = 8) ∧
  (0x38 : Nat) % (2 : Nat) = 0)) :=
  by decide +kernel

theorem witness_UnoccupiedOffsets_1 : up.wf = true ∧ up.barReady (0 : Nat) ∧ ((8 : Nat) = 4 ∨ (8 : Nat) = 8) ∧
  (0x120000 : Nat) % (8 : Nat) = 0 ∧ windowAt (0x120000 : Nat) = none ∧ pageAt ((0x120000 : Nat) / 8 * 8) = none :=
  by decide +kernel

theorem witness_UnoccupiedOffsets_2 : up.ioUp (0 : Nat) = true ∧ (0x120000 : Nat) % 8 = 0 ∧
  windowAt (0x120000 : Nat) = none ∧ pageAt (0x120000 : Nat) = none :=
  by decide +kernel

theorem witness_UnoccupiedOffsets_3 : up.barReady (0 : Nat) ∧ ((8 : Nat) = 4 ∨ (8 : Nat) = 8) ∧
  (0x1FF8 : Nat) % (8 : Nat) = 0 ∧ windowAt (0x1FF8 : Nat) = none ∧
  pageAt ((0x1FF8 : Nat) / 8 * 8) = some ((Block.pwr : Block), (0 : Nat), (0xFF8 : Nat)) ∧
  fieldsAt (Block.pwr : Block) (0 : Nat) (0xFF8 : Nat) = none ∧ ¬ ((Block.pwr : Block) = .epo ∧ (0xFF8 : Nat) = 0x130) :=
  by decide +kernel

theorem witness_UnoccupiedOffsets_4 : up.wf = true ∧ up.ioUp (0 : Nat) = true ∧ (0x1FF8 : Nat) % 8 = 0 ∧
  windowAt (0x1FF8 : Nat) = none ∧ pageAt (0x1FF8 : Nat) = some ((Block.pwr : Block), (0 : Nat), (0xFF8 : Nat)) ∧
  fieldsAt (Block.pwr : Block) (0 : Nat) (0xFF8 : Nat) = none ∧ (0xFF8 : Nat) ≠ 0x38 ∧ (0xFF8 : Nat) ≠ 0x40 :=
  by decide +kernel

theorem witness_UnoccupiedOffsets_5 : ((({ up with host := { up.host with hbif := false } } : State) : State).ioUp (0 :
    Nat) = true) ∧ (7 : Nat) < 8 ∧
  ((({ up with host := { up.host with hbif := false } } : State) : State).present (7 : Nat) = false) ∧
  (0x10 : Nat) < 0x1000 ∧ (0x10 : Nat) % 8 = 0 :=
  by decide +kernel

theorem witness_UnoccupiedOffsets_6 : ((({ up with host := { up.host with hbif := false } } : State) : State).barReady (0
    : Nat)) ∧ (7 : Nat) < 8 ∧
  ((({ up with host := { up.host with hbif := false } } : State) : State).present (7 : Nat) = false) ∧
  (0x10 : Nat) < 0x1000 ∧ (0x10 : Nat) % 8 = 0 :=
  by decide +kernel

theorem witness_UnoccupiedOffsets_7 : up.wf = true ∧ up.barReady (0 : Nat) ∧ (0x8 : Nat) % 8 = 0 ∧
  windowAt (0x8 : Nat) = none ∧ pageAt (0x8 : Nat) = some ((Block.top : Block), (0 : Nat), (8 : Nat)) ∧
  ¬ ((Block.top : Block) = .epo ∧ (8 : Nat) = 0x130) ∧ (8 : Nat) ≠ 0x28 ∧
  fieldsAt (Block.top : Block) (0 : Nat) (8 : Nat) = some ((fieldsIn Block.top.regs 8).getD [] : List FieldDef) ∧
  (((fieldsIn Block.top.regs 8).getD [] : List FieldDef).all fun f => f.acc == .ro || f.acc == .rov) = true :=
  by decide +kernel

theorem witness_AssignedMachineIndex_1_1 : ((upFld F.topMidxAssigned 1).setFld F.topMidxIndex 7 : State).mboxRwReady (0 :
    Nat) ∧ ((upFld F.topMidxAssigned 1).setFld F.topMidxIndex 7 : State).fld F.topMidxAssigned = 1 ∧
  (7#32 : BitVec 32).toNat < 2 ^ 18 :=
  by decide +kernel

theorem witness_AssignedMachineIndex_1_2 : ((upFld F.topMidxAssigned 1).setFld F.topMidxIndex 7 : State).mboxRwReady (0 :
    Nat) ∧ ((upFld F.topMidxAssigned 1).setFld F.topMidxIndex 7 : State).fld F.topMidxAssigned = 1 ∧
  (8#32 : BitVec 32).toNat < 2 ^ 18 :=
  by decide +kernel

theorem witness_TimestampTakesEffectAtOnce_1 : up.wf = true ∧ up.mboxRwReady (0 : Nat) :=
  by decide +kernel

theorem witness_NoDeadlineWithoutTime_1 : up.mboxRwReady (0 : Nat) ∧ up.fld F.topTimeValid = 0 :=
  by decide +kernel

theorem witness_NoDeadlineWithoutTime_2 : ((ep id).setFld F.topMidxAssigned 1 : State).mboxRwReady (0 : Nat) ∧
  ((ep id).setFld F.topMidxAssigned 1 : State).fld F.topTimeValid = 0 ∧ (5000000000 : Nat) ≠ 0 :=
  by decide +kernel

theorem witness_NoDeadlineWithoutTime_3 : ((ep id).setFld F.epoDbDeadlineDevtime 5000000 : State).wf = true ∧
  ((ep id).setFld F.epoDbDeadlineDevtime 5000000 : State).barReady (0 : Nat) ∧
  ((ep id).setFld F.epoDbDeadlineDevtime 5000000 : State).epo.dbBusy = false ∧
  ((ep id).setFld F.epoDbDeadlineDevtime 5000000 : State).fld F.topTimeValid = 0 ∧
  ((ep id).setFld F.epoDbDeadlineDevtime 5000000 : State).fld F.epoDbDeadlineDevtime ≠ 0 :=
  by decide +kernel

theorem witness_MemoryInactive_1 : (({ up with host := { up.host with memActive := false } } : State) : State).wf = true ∧
  (({ up with host := { up.host with memActive := false } } : State) : State).memUp (0 : Nat) = true ∧
  (({ up with host := { up.host with memActive := false } } : State) : State).host.memActive = false ∧
  (7 : Nat) ≠ noTag :=
  by decide +kernel

theorem witness_MemoryInactive_2 : (({ up with host := { up.host with memActive := false } } : State) : State).wf = true ∧
  (({ up with host := { up.host with memActive := false } } : State) : State).memUp (0 : Nat) = true ∧
  (({ up with host := { up.host with memActive := false } } : State) : State).host.memActive = false ∧
  (7 : Nat) ≠ noTag :=
  by decide +kernel

theorem witness_MemoryInactive_3 : (({ up with host := { up.host with memActive := false } } : State) : State).wf = true ∧
  (({ up with host := { up.host with memActive := false } } : State) : State).memUp (0 : Nat) = true ∧
  (({ up with host := { up.host with memActive := false } } : State) : State).host.memActive = false ∧
  (7 : Nat) ≠ noTag :=
  by decide +kernel

theorem witness_MemoryInactive_4 : (({ up with host := { up.host with memActive := false } } : State) : State).wf = true ∧
  (({ up with host := { up.host with memActive := false } } : State) : State).memUp (0 : Nat) = true ∧
  (({ up with host := { up.host with memActive := false } } : State) : State).host.memActive = false ∧
  (7 : Nat) ≠ noTag :=
  by decide +kernel

theorem witness_OutsideTheExtent_1 : (({ hostUp .on liveDom id with cry := up.cry } : State) : State).wf = true ∧
  (0 : Nat) < 8 ∧ (({ hostUp .on liveDom id with cry := up.cry } : State) : State).memUp (0 : Nat) = true ∧
  (({ hostUp .on liveDom id with cry := up.cry } : State) : State).host.memActive = true ∧
  (({ hostUp .on liveDom id with cry := up.cry } : State) : State).decoderOf (0 : Nat) (0x40#64 : BitVec 64).toNat = some
    ((hostUp .on liveDom id).decoder 0 0 : Decoder) ∧
  (({ hostUp .on liveDom id with cry := up.cry } : State) : State).place? (Req.rd (0 : Nat) (7 : Nat)) (((hostUp .on
    liveDom id).decoder 0 0 : Decoder).dpa (0x40#64 : BitVec 64).toNat) = none ∧ (7 : Nat) ≠ noTag :=
  by decide +kernel

theorem witness_OutsideTheExtent_2 : (({ hostUp .on liveDom id with cry := up.cry } : State) : State).wf = true ∧
  (0 : Nat) < 8 ∧ (({ hostUp .on liveDom id with cry := up.cry } : State) : State).memUp (0 : Nat) = true ∧
  (({ hostUp .on liveDom id with cry := up.cry } : State) : State).host.memActive = true ∧
  (({ hostUp .on liveDom id with cry := up.cry } : State) : State).decoderOf (0 : Nat) (0x40#64 : BitVec 64).toNat = some
    ((hostUp .on liveDom id).decoder 0 0 : Decoder) ∧
  (({ hostUp .on liveDom id with cry := up.cry } : State) : State).place? (Req.write (0 : Nat) (7 : Nat) (9#512 : BitVec
    512) (BitVec.allOnes 64) false) (((hostUp .on liveDom id).decoder 0 0 : Decoder).dpa (0x40#64 : BitVec 64).toNat) =
    none ∧ (7 : Nat) ≠ noTag :=
  by decide +kernel

theorem witness_PowerStateD3hot_1 : up.wf = true ∧ up.pwr.coreOn = true ∧ up.present (0 : Nat) = true ∧
  (up.head (0 : Nat)).link = .active :=
  by decide +kernel

theorem witness_PowerStateD3hot_2 : ((up.setHead 0 { up.head 0 with link := .d3 } : State).head (0 : Nat)).link = .d3 :=
  by decide +kernel

theorem witness_PowerStateD3hot_3 : ((up.setHead 0 { up.head 0 with link := .d3 } : State).head (0 : Nat)).link = .d3 :=
  by decide +kernel

theorem witness_PowerStateD3hot_4 : (up.setHead 0 { up.head 0 with link := .d3 } : State).wf = true ∧
  (up.setHead 0 { up.head 0 with link := .d3 } : State).pwr.coreOn = true ∧
  (up.setHead 0 { up.head 0 with link := .d3 } : State).present (0 : Nat) = true ∧
  ((up.setHead 0 { up.head 0 with link := .d3 } : State).head (0 : Nat)).link = .d3 :=
  by decide +kernel

theorem witness_CacheStaysOnUnderAWindow_1 :
    (({ hostUp .on liveDom id with swt := { up.swt with st := .active, ways := 1 } } : State) : State).wf = true ∧
  (({ hostUp .on liveDom id with swt := { up.swt with st := .active, ways := 1 } } : State) : State).barReady (0 : Nat) ∧
  (({ hostUp .on liveDom id with swt := { up.swt with st := .active, ways := 1 } } : State) : State).swt.st ≠ .none :=
  by decide +kernel

theorem witness_WindowClosedWhileItMoves_1 :
    (({ hostUp .on liveDom id with swt := { up.swt with st := .carving, ways := 1, base := 0 } } : State) : State).memUp
    (0 : Nat) = true ∧
  (({ hostUp .on liveDom id with swt := { up.swt with st := .carving, ways := 1, base := 0 } } : State) :
    State).host.memActive = true ∧
  (({ hostUp .on liveDom id with swt := { up.swt with st := .carving, ways := 1, base := 0 } } : State) : State).decoderOf
    (0 : Nat) (0x40#64 : BitVec 64).toNat = some ((hostUp .on liveDom id).decoder 0 0 : Decoder) ∧
  (({ hostUp .on liveDom id with swt := { up.swt with st := .carving, ways := 1, base := 0 } } : State) : State).place?
    (Req.rd (0 : Nat) (7 : Nat)) (((hostUp .on liveDom id).decoder 0 0 : Decoder).dpa (0x40#64 : BitVec 64).toNat) = some
    ({ Req.rd 0 7 with sec := 1 } : Req) ∧
  ((({ hostUp .on liveDom id with swt := { up.swt with st := .carving, ways := 1, base := 0 } } : State) : State).dom
    ({ Req.rd 0 7 with sec := 1 } : Req).dom).st = .active ∧
  (({ hostUp .on liveDom id with swt := { up.swt with st := .carving, ways := 1, base := 0 } } : State) :
    State).inWindowRange ({ Req.rd 0 7 with sec := 1 } : Req).line = true ∧
  ((({ hostUp .on liveDom id with swt := { up.swt with st := .carving, ways := 1, base := 0 } } : State) : State).swt.st =
    .carving ∨ (({ hostUp .on liveDom id with swt := { up.swt with st := .carving, ways := 1, base := 0 } } : State) :
    State).swt.st = .restoring) ∧ (7 : Nat) ≠ noTag :=
  by decide +kernel

theorem witness_WindowClosedWhileItMoves_2 :
    (({ hostUp .on liveDom id with swt := { up.swt with st := .restoring, ways := 1, base := 0 } } : State) : State).memUp
    (0 : Nat) = true ∧
  (({ hostUp .on liveDom id with swt := { up.swt with st := .restoring, ways := 1, base := 0 } } : State) :
    State).host.memActive = true ∧
  (({ hostUp .on liveDom id with swt := { up.swt with st := .restoring, ways := 1, base := 0 } } : State) :
    State).decoderOf (0 : Nat) (0x40#64 : BitVec 64).toNat = some ((hostUp .on liveDom id).decoder 0 0 : Decoder) ∧
  (({ hostUp .on liveDom id with swt := { up.swt with st := .restoring, ways := 1, base := 0 } } : State) : State).place?
    (Req.write (0 : Nat) (7 : Nat) (9#512 : BitVec 512) (BitVec.allOnes 64) false) (((hostUp .on liveDom id).decoder 0 0 :
    Decoder).dpa (0x40#64 : BitVec 64).toNat) = some ({ Req.write 0 7 9#512 (BitVec.allOnes 64) false with sec := 1 } :
    Req) ∧
  ((({ hostUp .on liveDom id with swt := { up.swt with st := .restoring, ways := 1, base := 0 } } : State) : State).dom
    ({ Req.write 0 7 9#512 (BitVec.allOnes 64) false with sec := 1 } : Req).dom).st = .active ∧
  (({ hostUp .on liveDom id with swt := { up.swt with st := .restoring, ways := 1, base := 0 } } : State) :
    State).inWindowRange ({ Req.write 0 7 9#512 (BitVec.allOnes 64) false with sec := 1 } : Req).line = true ∧
  ((({ hostUp .on liveDom id with swt := { up.swt with st := .restoring, ways := 1, base := 0 } } : State) : State).swt.st
    = .carving ∨ (({ hostUp .on liveDom id with swt := { up.swt with st := .restoring, ways := 1, base := 0 } } : State) :
    State).swt.st = .restoring) ∧ (7 : Nat) ≠ noTag :=
  by decide +kernel

theorem witness_RecorderQueue_1 : up.fld F.evrCfgMinSev ≤ (Ev.topAccessErr : Evt).sev ∧
  (Ev.topAccessErr : Evt).ownRecord = false ∧ up.evt.queue.length < 256 :=
  by decide +kernel

theorem witness_RecorderQueue_2 :
    ({ up with evt := { up.evt with queue := List.replicate 256 ⟨5, 6, 1, 7, 8, 9, 0, false⟩ } } : State).fld
    F.evrCfgMinSev ≤ (Ev.topAccessErr : Evt).sev ∧ (Ev.topAccessErr : Evt).ownRecord = false ∧
  256 ≤ ({ up with evt := { up.evt with queue := List.replicate 256 ⟨5, 6, 1, 7, 8, 9, 0, false⟩ } } :
    State).evt.queue.length :=
  by decide +kernel

theorem witness_RecorderQueue_3 : (Ev.topAccessErr : Evt).sev < (upFld F.evrCfgMinSev 2 : State).fld F.evrCfgMinSev :=
  by decide +kernel

theorem witness_RecorderQueue_4 :
    ({ up with evt := { up.evt with queue := [⟨5, 6, 1, 7, 8, 9, 0, false⟩], dropped := 3 } } : State).wf = true ∧
  ({ up with evt := { up.evt with queue := [⟨5, 6, 1, 7, 8, 9, 0, false⟩], dropped := 3 } } : State).pwr.coreOn = true ∧
  ({ up with evt := { up.evt with queue := [⟨5, 6, 1, 7, 8, 9, 0, false⟩], dropped := 3 } } : State).evt.clearing = false
    ∧ ({ up with evt := { up.evt with queue := [⟨5, 6, 1, 7, 8, 9, 0, false⟩], dropped := 3 } } : State).evt.queue = (⟨5,
  6, 1, 7, 8, 9, 0, false⟩ : QRec) :: ([] : List QRec) ∧ ([] : List QRec).length < 256 ∧
  ({ up with evt := { up.evt with queue := [⟨5, 6, 1, 7, 8, 9, 0, false⟩], dropped := 3 } } : State).evt.dropped ≠ 0 ∧
  (⟨5, 6, 1, 7, 8, 9, 0, false⟩ : QRec).code ≠ 0x2003 :=
  by decide +kernel

theorem witness_ReservedSources_1 : (Ev.topAccessErr : Evt).inst < (Ev.topAccessErr : Evt).blk.pages ∧
  (Ev.topAccessErr : Evt).bit < (Ev.topAccessErr : Evt).blk.eventBits :=
  by decide +kernel

theorem witness_ReservedSources_2 : up.barReady (0 : Nat) ∧ reservedSource (743 : Nat) = true :=
  by decide +kernel

theorem witness_ReservedSources_3 : up.ioUp (0 : Nat) = true ∧ reservedSource (396 : Nat) = true :=
  by decide +kernel

theorem witness_CountersRunAsEnabled_1 : ¬ (getBits (up.reg (pmcCfgOff (0 : Nat) (3 : Nat))) 31 31 = 1 ∧
  up.fld (F.pmcCtlFreeze (0 : Nat)) = 0 ∧ up.fld F.topCtlPmcFreeze = 0) :=
  by decide +kernel

theorem witness_CountersRunAsEnabled_2 : (upFld F.topCtlPmcFreeze 1 : State).wf = true ∧
  (upFld F.topCtlPmcFreeze 1 : State).barReady (0 : Nat) :=
  by decide +kernel

theorem witness_CountersRunAsEnabled_3 : up.wf = true ∧ up.barReady (0 : Nat) :=
  by decide +kernel

theorem witness_UserCounterView_1 : ((upFld (F.pmcCtlUserRead 2) 1).setReg (pmcCntOff 2 5) 77#64 : State).ioUp (0 : Nat) =
    true ∧ (2 : Nat) < 4 ∧ (5 : Nat) < 64 ∧
  ((upFld (F.pmcCtlUserRead 2) 1).setReg (pmcCntOff 2 5) 77#64 : State).fld (F.pmcCtlUserRead (2 : Nat)) = 1 :=
  by decide +kernel

theorem witness_UserCounterView_2 : up.ioUp (0 : Nat) = true ∧ (3 : Nat) < 4 ∧ (63 : Nat) < 64 ∧
  up.fld (F.pmcCtlUserRead (3 : Nat)) = 0 :=
  by decide +kernel

theorem witness_UserCounterView_3 : up.ioUp (0 : Nat) = true ∧ 0x800 ≤ (0x800 : Nat) ∧ (0x800 : Nat) < 0x10000 ∧
  (0x800 : Nat) % 8 = 0 :=
  by decide +kernel

theorem witness_UserCounterView_4 : up.barReady (0 : Nat) ∧ ((8 : Nat) = 4 ∨ (8 : Nat) = 8) ∧ (0x7F8 : Nat) < 0x10000 ∧
  (0x7F8 : Nat) % (8 : Nat) = 0 :=
  by decide +kernel

end Sys2Proof.Tests
end

/-!
PROOF. The scope chapter's register access rules: what an access error leaves behind (R7, R557), and that a control-BAR access
which is misaligned or of a wrong width does nothing else.
-/
namespace Sys2Proof.Machine

section AccessErrors

variable {s : State} (h width off reason : Nat) (write : Bool)

/-- Raising an event changes no registers but the event's own. -/
theorem keepsRegs_raiseAt (s : State) (e : Evt) (info addr : Word) : s.keepsRegs (s.raiseAt e info addr) e.regs :=
  fun off => (Decidable.em (off ∈ e.regs)).imp_right (reg_raiseAt_other s e info addr off)

theorem keepsRegs_accessErr : s.keepsRegs (s.accessErr h write width off reason) Ev.topAccessErr.regs :=
  keepsRegs_raiseAt s _ _ _

theorem evtSet_accessErr (wf : s.wf = true) : (s.accessErr h write width off reason).evtSet Ev.topAccessErr :=
  evtSet_raiseN s _ _ _ wf (by decide)

/-- TOP_ERR_ADDR takes the offset of the access (Table 17-5). -/
theorem reg_accessErr_addr (wf : s.wf = true) :
    (s.accessErr h write width off reason).reg 0x40 = BitVec.ofNat 64 (off % 2 ^ 25) :=
  reg_raiseAt_addr s Ev.topAccessErr _ _ wf

/-- A command that only raises an access error changes, beside what it shows, only what reporting may change. -/
theorem keeps_begin_accessErr : s.keeps (s.begin.accessErr h write width off reason) (.out :: reporting) :=
  have cleared : s.evolves s.begin (.out :: reporting) := ev_step ev_refl (State.begin_ev s) rfl
  (ev_step cleared (State.accessErr_ev s.begin h write width off reason) rfl).1

variable {h width off}

/-- The commands' own test for R7 is the negation of an aligned access of 32 or 64 bits. -/
theorem misaligned_iff : ((width ≠ 4 ∧ width ≠ 8) ∨ off % width ≠ 0) ↔ ¬ ((width = 4 ∨ width = 8) ∧ off % width = 0) := by
  rw [not_and_or, not_or]

/-- R7: a misaligned write is discarded, whatever the head's management rights are. -/
theorem exec_controlBarWrite_misaligned (data : BitVec 64) (up : s.ioUp h = true)
    (bad : ¬ ((width = 4 ∨ width = 8) ∧ off % width = 0)) :
    exec (.controlBarWrite h off width data) s = .next (s.begin.accessErr h true width off 1) := by
  have up' : s.begin.ioUp h = true := up
  change execControlBarWrite h off width data s = _
  unfold execControlBarWrite
  simp only [up', Bool.not_true, Bool.false_eq_true, if_false, if_pos (misaligned_iff.mpr bad), done]

/-- R7: a misaligned read returns all ones. -/
theorem exec_errInfoRead_misaligned (up : s.ioUp h = true) (bad : ¬ ((width = 4 ∨ width = 8) ∧ off % width = 0)) :
    exec (.errInfoRead h off width) s =
      .next ((s.begin.accessErr h false width off 1).emit (.barData h (BitVec.allOnes 64))) := by
  change execErrInfoRead h off width s = _
  unfold execErrInfoRead
  rw [barRead_ready up, if_pos (misaligned_iff.mpr bad), done]

end AccessErrors

/-- Settles O42: either access only raises the access error, on the state as the command finds it. -/
theorem misalignedAccesses : Obligations.MisalignedAccesses := by
  unfold Obligations.MisalignedAccesses
  refine ⟨fun s h off width data wf up bad => ?write, fun s h off width wf up bad => ?read⟩
  case write =>
    exact ⟨_, exec_controlBarWrite_misaligned data up bad, State.accessErr_out .., evtSet_accessErr h width off 1 true wf,
      reg_accessErr_addr h width off 1 true wf, keepsRegs_accessErr (s := s.begin) h width off 1 true,
      keeps_begin_accessErr h width off 1 true⟩
  case read =>
    refine ⟨_, exec_errInfoRead_misaligned up bad, ?_, evtSet_accessErr h width off 1 false wf,
      reg_accessErr_addr h width off 1 false wf, keepsRegs_accessErr (s := s.begin) h width off 1 false⟩
    rw [State.emit_out, State.accessErr_out, State.begin_out, List.nil_append]

end Sys2Proof.Machine

/-!
PROOF. The architecture chapter's rules of the machine index and of device time: what a Set Machine Index does once the index
is assigned (R12), what Set Timestamp makes of DEVTIME (R30), and that no deadline is accepted while the time is not valid (R34).
-/
namespace Sys2Proof.Machine

/-! ### Commands that only answer -/

/-- A mailbox command that only answers changes nothing but what it shows. -/
theorem keeps_begin_answerMbox (s : State) (h : Nat) (rc : Rc) (l : List Nat) : s.keeps (s.begin.answerMbox h rc l) [.out] :=
  have cleared : s.evolves s.begin [.out] := ev_step ev_refl (State.begin_ev s) rfl
  (ev_step cleared (State.answerMbox_ev s.begin h rc l) rfl).1

/-- The one answer of a command that only answers. -/
theorem out_begin_answerMbox (s : State) (h : Nat) (rc : Rc) (l : List Nat) :
    (s.begin.answerMbox h rc l).out = [.mbox h rc l] := by
  rw [State.answerMbox_out, State.begin_out, List.nil_append]

/-! ### The machine index (R12) -/

/-- R12: an index that is assigned is only compared with the payload. -/
theorem exec_setMachineIndex_assigned {s : State} {h : Nat} {v : BitVec 32} (ready : s.mboxRwReady h)
    (assigned : s.fld F.topMidxAssigned = 1) (inRange : v.toNat < 2 ^ 18) :
    exec (.setMachineIndex h v) s =
      .next (s.begin.answerMbox h (if s.fld F.topMidxIndex = v.toNat then .success else .invalidInput) []) := by
  change execSetMachineIndex h v s = _
  unfold execSetMachineIndex
  rw [mailboxRw_ready ready, done]
  dsimp only
  rw [if_neg (Nat.not_le.mpr inRange), fld_begin, if_pos assigned, fld_begin]
  split <;> rfl

/-- Settles O44: the command does no more than answer. -/
theorem assignedMachineIndex : Obligations.AssignedMachineIndex := by
  unfold Obligations.AssignedMachineIndex
  intro s h v ready assigned inRange
  exact ⟨_, exec_setMachineIndex_assigned ready assigned inRange, out_begin_answerMbox .., keeps_begin_answerMbox _ _ _ _⟩

/-! ### Device time (R30) -/

/-- DEVTIME takes the value, TOP_TIME.VALID is set and TIME_SET raised (R30, R73). -/
def State.takeTime (s : State) (ns : Nat) : State :=
  (({ s with time := { s.time with devtime := ns, slewLeft := 0, slewAcc := 0,
                                   setTs := some (s.time.upNs, s.time.devtime, ns), marked := none } } : State).setFld
    F.topTimeValid 1).raise Ev.topTimeSet

theorem devtime_takeTime (s : State) (ns : Nat) : (s.takeTime ns).time.devtime = ns := by
  rw [State.takeTime, State.raise_time, State.setFld_time]

theorem fld_takeTime_valid (s : State) (ns : Nat) (wf : s.wf = true) : (s.takeTime ns).fld F.topTimeValid = 1 := by
  rw [State.takeTime, fld_raise_other _ _ _ (by decide)]
  exact fld_setFld_same _ F.topTimeValid 1 wf (by decide) (by decide) (by decide)

/-- Set Timestamp takes the time and answers; beside that it may only give the ages of a unit that was off (R247). -/
theorem exec_setTimestamp_ready {s : State} {h : Nat} (ns : BitVec 64) (ready : s.mboxRwReady h) :
    ∃ t, exec (.setTimestamp h ns) s = .next (t.answerMbox h .success []) ∧
      (s.begin.takeTime ns.toNat).evolves t [.rd, .upk] := by
  refine ⟨_, congrArg done (mailboxRw_ready ready), ?_⟩
  split
  · exact ev_ite (ev_step ev_refl (State.provisionalAges_ev _ _) rfl) ev_refl
  · exact ev_refl

/-- R71: Get Timestamp answers DEVTIME, whichever head asks. -/
theorem exec_getTimestamp_ready {s : State} {h : Nat} (ready : s.mboxReady h) :
    exec (.getTimestamp h) s = .next (s.begin.answerMbox h .success [s.time.devtime]) :=
  congrArg done (mailbox_ready ready)

/-- Settles O45: giving ages moves neither DEVTIME nor a register, so both stand as the command's first act left them. -/
theorem timestampTakesEffectAtOnce : Obligations.TimestampTakesEffectAtOnce := by
  unfold Obligations.TimestampTakesEffectAtOnce
  intro s h ns wf ready
  obtain ⟨t, run, ages⟩ := exec_setTimestamp_ready ns ready
  have time : t.time.devtime = ns.toNat := by
    rw [show t.time = _ from evolves_get ages .time rfl, devtime_takeTime]
  have valid : t.fld F.topTimeValid = 1 := by
    rw [fld_of_reg (reg_evolves ages rfl rfl F.topTimeValid.off), fld_takeTime_valid s.begin _ wf]
  refine ⟨_, run, time, valid, fun h' ready' => ⟨_, exec_getTimestamp_ready ready', ?_⟩⟩
  rw [out_begin_answerMbox, State.answerMbox_time, time]

/-! ### Deadlines without a valid time (R34) -/

/-- A scheduled activation is refused before anything else of it is looked at. -/
theorem exec_scheduleFwActivation_noTime {s : State} {h : Nat} (slot deadline : Nat) (pps : Bool) (targets : List Nat)
    (ready : s.mboxRwReady h) (noTime : s.fld F.topTimeValid = 0) :
    exec (.scheduleFwActivation h slot deadline pps targets) s = .next (s.begin.answerMbox h .invalidSecurityState []) := by
  change execScheduleFwActivation h slot deadline pps targets s = _
  unfold execScheduleFwActivation
  rw [mailboxRw_ready ready, done]
  exact congrArg _ (if_pos (.inr noTime))

/-- The refusals of Table 12-5's first rows. -/
theorem epochGate_refuses {s : State} {d : Nat} {r : Rc} (refused : s.epochGate d = some r) :
    r = .invalidInput ∨ r = .mediaDisabled := by
  unfold State.epochGate at refused
  split at refused
  · exact .inl (Option.some.inj refused).symm
  · split at refused
    · exact .inr (Option.some.inj refused).symm
    · split at refused
      · cases refused
      · exact .inl (Option.some.inj refused).symm

/-- A Prepare with a deadline is refused, by the rows common to all epoch commands or for want of a valid time. -/
theorem prepareGate_noTime {s : State} {deadline : Nat} (d e : Nat) (pps : Bool) (noTime : s.fld F.topTimeValid = 0)
    (timed : deadline ≠ 0) : ∃ r, s.prepareGate d e deadline pps = some r ∧
      (r = .invalidInput ∨ r = .mediaDisabled ∨ r = .invalidSecurityState) := by
  unfold State.prepareGate
  cases gate : s.epochGate d with
  | some r => exact ⟨r, rfl, (epochGate_refuses gate).imp_right .inl⟩
  | none => exact ⟨.invalidSecurityState, if_pos (.inr ⟨timed, noTime⟩), .inr (.inr rfl)⟩

/-- A refused Prepare of the mailbox only answers. -/
theorem exec_epochPrepare_refused {s : State} {h d e deadline : Nat} {pps : Bool} {r : Rc} (ready : s.mboxRwReady h)
    (refused : s.prepareGate d e deadline pps = some r) :
    exec (.epochPrepare h d e deadline pps) s = .next (s.begin.answerMbox h r []) := by
  have refused' : s.begin.prepareGate d e deadline pps = some r := refused
  change execEpochPrepare h d e deadline pps s = _
  unfold execEpochPrepare
  rw [mailboxRw_ready ready, done, refused', State.gated]

/-- R430: a refused command of a doorbell that is not BUSY leaves its return code in EPO_DB_STS. -/
theorem doorbell_refused {s : State} (d op : Nat) (r : Rc) (k : State → State) (idle : s.epo.dbBusy = false) :
    s.doorbell d op (some r) k = { s with epo := { s.epo with dbDom := d, dbOp := op, dbResult := r.code } } := by
  unfold State.doorbell
  rw [if_neg (Bool.eq_false_iff.mp idle)]

/-- The doorbell Prepare takes its deadline from EPO_DB_DEADLINE. -/
theorem exec_doorbellPrepare_refused {s : State} {h d e : Nat} {r : Rc} (ready : s.barReady h) (idle : s.epo.dbBusy = false)
    (refused : s.prepareGate d e (s.fld F.epoDbDeadlineDevtime) (s.fld F.epoDbDeadlinePps == 1) = some r) :
    exec (.doorbellPrepare h d e) s =
      .next { s.begin with epo := { s.epo with dbDom := d, dbOp := 1, dbResult := r.code } } := by
  have refused' : s.begin.prepareGate d e (s.begin.fld F.epoDbDeadlineDevtime) (s.begin.fld F.epoDbDeadlinePps == 1) = some r :=
    refused
  change execDoorbellPrepare h d e s = _
  unfold execDoorbellPrepare
  rw [barWrite_ready ready, done]
  dsimp only
  rw [refused', doorbell_refused (s := s.begin) d 1 r _ idle]
  rfl

/-- Settles O46: each command meets its refusal, and none of the refusals is Success. -/
theorem noDeadlineWithoutTime : Obligations.NoDeadlineWithoutTime := by
  unfold Obligations.NoDeadlineWithoutTime
  refine ⟨fun s h slot deadline pps targets ready noTime => ?schedule,
    fun s h d e deadline pps ready noTime timed => ?mailbox, fun s h d e wf ready idle noTime timed => ?doorbell⟩
  case schedule =>
    exact ⟨_, exec_scheduleFwActivation_noTime slot deadline pps targets ready noTime, out_begin_answerMbox ..,
      keeps_begin_answerMbox _ _ _ _⟩
  case mailbox =>
    obtain ⟨r, refused, code⟩ := prepareGate_noTime d e pps noTime timed
    refine ⟨_, exec_epochPrepare_refused ready refused, ?_, keeps_begin_answerMbox _ _ _ _⟩
    rw [out_begin_answerMbox]
    obtain rfl | rfl | rfl := code <;> simp
  case doorbell =>
    obtain ⟨r, refused, code⟩ := prepareGate_noTime d e _ noTime timed
    refine ⟨_, exec_doorbellPrepare_refused ready idle refused, rfl, idle, ?_⟩
    change r.code ≠ 0
    obtain rfl | rfl | rfl := code <;> decide

end Sys2Proof.Machine

/-!
PROOF. The host ports chapter's power states of a head (R87): D3hot and the return to D0 change one head's link, and a head
whose link is not active takes no CXL.mem request.
-/
namespace Sys2Proof.Machine

/-! ### The gate of CXL.mem requests -/

theorem memReq_up {s : State} {h : Nat} (k : State → State) (up : s.memUp h = true) : s.memReq h k = k s.begin :=
  if_pos (c := s.begin.memUp h = true) up

theorem memReq_notUp {s : State} {h : Nat} (k : State → State) (down : s.memUp h = false) :
    s.memReq h k = s.begin.emit .notAccepted :=
  if_neg (c := s.begin.memUp h = true) (Bool.eq_false_iff.mp down)

/-- R87: CXL.mem needs the link in its active state, which D3hot is not. -/
theorem memUp_d3 {s : State} {h : Nat} (d3 : (s.head h).link = .d3) : s.memUp h = false := by
  simp [State.memUp, d3]

/-- A command that only shows an output changes nothing else. -/
theorem keeps_begin_emit (s : State) (o : Output) : s.keeps (s.begin.emit o) [.out] :=
  have cleared : s.evolves s.begin [.out] := ev_step ev_refl (State.begin_ev s) rfl
  (ev_step cleared (State.emit_ev s.begin o) rfl).1

theorem exec_memRd_notUp {s : State} {h : Nat} (tag : Nat) (hpa : BitVec 64) (down : s.memUp h = false) :
    exec (.memRd h tag hpa) s = .next (s.begin.emit .notAccepted) := by
  change execMemRd h tag hpa s = _
  rw [execMemRd, memReq_notUp _ down, done]

theorem exec_memWr_notUp {s : State} {h : Nat} (tag : Nat) (hpa : BitVec 64) (data : BitVec 512) (poison : Bool)
    (down : s.memUp h = false) : exec (.memWr h tag hpa data poison) s = .next (s.begin.emit .notAccepted) := by
  change execMemWr h tag hpa data poison s = _
  rw [execMemWr, memReq_notUp _ down, done]

/-! ### The change of power state -/

/-- A command that gives one head another link state changes nothing else of the heads, and no other part. -/
theorem setLink_only (s : State) (h : Nat) (l : LinkState) (wf : s.wf = true) :
    ((s.begin.setHead h { s.head h with link := l }).head h).link = l ∧
      (∀ j, j ≠ h → (s.begin.setHead h { s.head h with link := l }).head j = s.head j) ∧
      s.keeps (s.begin.setHead h { s.head h with link := l }) [.host, .out] := by
  refine ⟨?_, fun j other => head_setHead_other s.begin h j _ other, ?_⟩
  · rw [head_setHead_same s.begin h _ wf]
  · have cleared : s.evolves s.begin [.host, .out] := ev_step ev_refl (State.begin_ev s) rfl
    exact (ev_step cleared (State.setHead_ev s.begin h _) rfl).1

theorem exec_d3hotEntry_active {s : State} {h : Nat} (on : s.pwr.coreOn = true) (present : s.present h = true)
    (active : (s.head h).link = .active) :
    exec (.d3hotEntry h) s = .next (s.begin.setHead h { s.head h with link := .d3 }) := by
  change execD3hotEntry h s = _
  rw [execD3hotEntry, when_true (by simp [on, present, active]), done]
  rfl

theorem exec_d0Return_d3 {s : State} {h : Nat} (on : s.pwr.coreOn = true) (present : s.present h = true)
    (d3 : (s.head h).link = .d3) : exec (.d0Return h) s = .next (s.begin.setHead h { s.head h with link := .active }) := by
  change execD0Return h s = _
  rw [execD0Return, when_true (by simp [on, present, d3]), done]
  rfl

/-- Settles O49: both changes set one link, and in between the gate of CXL.mem turns requests away. -/
theorem powerStateD3hot : Obligations.PowerStateD3hot := by
  unfold Obligations.PowerStateD3hot
  refine ⟨fun s h wf on present active => ?entry, fun s h tag hpa d3 => ?read, fun s h tag hpa data poison d3 => ?write,
    fun s h wf on present d3 => ?back⟩
  case entry => exact ⟨_, exec_d3hotEntry_active on present active, setLink_only s h .d3 wf⟩
  case read => exact ⟨_, exec_memRd_notUp tag hpa (memUp_d3 d3), rfl, keeps_begin_emit s _⟩
  case write => exact ⟨_, exec_memWr_notUp tag hpa data poison (memUp_d3 d3), rfl, keeps_begin_emit s _⟩
  case back => exact ⟨_, exec_d0Return_d3 on present d3, setLink_only s h .active wf⟩

end Sys2Proof.Machine

/-!
PROOF. What counting may change. A performance counter that adds may overflow, raise an event and make vectors pending; it
reaches no register below the PMC pages but the recorder's drop count, and of the heads only their pending vectors
(R562, R566 to R569).
-/
namespace Sys2Proof.Machine

/-! ### Pending vectors -/

/-- `t` is canonical, and from `s` to `t` the hosts' part changes only in the vectors that are pending on its heads. -/
structure State.pendsOnly (s t : State) : Prop where
  wf : t.wf = true
  hosts : { t.host with heads := [] } = { s.host with heads := [] }
  heads : ∀ j, { t.head j with msixPend := 0#64 } = { s.head j with msixPend := 0#64 }

section PendsOnly

variable {s t u : State}

theorem State.pendsOnly.refl (wf : s.wf = true) : s.pendsOnly s := ⟨wf, rfl, fun _ => rfl⟩

theorem State.pendsOnly.trans (a : s.pendsOnly t) (b : t.pendsOnly u) : s.pendsOnly u :=
  ⟨b.wf, b.hosts.trans a.hosts, fun j => (b.heads j).trans (a.heads j)⟩

/-- An operation whose frame leaves out the hosts makes no vector pending. -/
theorem State.pendsOnly.of_evolves {L : List Piece} (wf : s.wf = true) (e : s.evolves t L)
    (m : L.contains .host = false) : s.pendsOnly t := by
  have same : t.host = s.host := evolves_get e .host m
  exact ⟨e.2 wf, by rw [same], fun j => by rw [head_congr same]⟩

theorem pendsOnly_pendVector (wf : s.wf = true) (h v : Nat) : s.pendsOnly (s.pendVector h v) := by
  unfold State.pendVector
  dsimp only
  split
  · refine ⟨wf_setHead s h _ wf, rfl, fun j => ?_⟩
    by_cases same : j = h
    · rw [same, head_setHead_same s h _ wf]
    · rw [head_setHead_other s h j _ same]
  · exact .refl wf

theorem pendsOnly_pendSource (wf : s.wf = true) (src : Nat) : s.pendsOnly (s.pendSource src) := by
  unfold State.pendSource
  refine List.foldlRecOn _ _ (State.pendsOnly.refl wf) fun t reached v _ => ?_
  split
  · exact reached.trans (pendsOnly_pendVector reached.wf _ _)
  · exact reached

theorem pendsOnly_noteSource (wf : s.wf = true) (was : Bool) (e : Evt) : s.pendsOnly (s.noteSource was e) := by
  unfold State.noteSource
  split
  · exact pendsOnly_pendSource wf _
  · exact .refl wf

/-- Of the hosts' part, an event reaches nothing but pending vectors (R562). -/
theorem pendsOnly_raiseAt (wf : s.wf = true) (e : Evt) (info addr : Word) : s.pendsOnly (s.raiseAt e info addr) := by
  have captured := State.pendsOnly.of_evolves wf (State.capture_ev s e info addr) rfl
  have stored := captured.trans
    (.of_evolves captured.wf (State.setReg_ev _ e.stsOff ((s.capture e info addr).reg e.stsOff ||| (1#64 <<< e.bit))) rfl)
  have noted := stored.trans (pendsOnly_noteSource stored.wf ((s.capture e info addr).raised e) e)
  exact noted.trans (.of_evolves noted.wf (State.recordEvt_ev _ _ _ _ _) rfl)

theorem State.pendsOnly.memActive (a : s.pendsOnly t) : t.host.memActive = s.host.memActive := by
  have same := congrArg HostState.memActive a.hosts
  exact same

theorem State.pendsOnly.decoderOf (a : s.pendsOnly t) (h hpa : Nat) : t.decoderOf h hpa = s.decoderOf h hpa := by
  have same := congrArg Head.decoders (a.heads h)
  dsimp only at same
  unfold State.decoderOf State.decoder
  rw [same]

end PendsOnly

/-! ### Performance counting -/

/-- From `s` to `t` no register below the PMC pages changes but EVR_CNT, and the hosts' part only in pending vectors. -/
structure State.countsOnly (s t : State) : Prop where
  pends : s.pendsOnly t
  regs : ∀ off, off < 0x30000 → off ≠ 0x5130 → t.reg off = s.reg off

section CountsOnly

variable {s t u : State}

theorem State.countsOnly.refl (wf : s.wf = true) : s.countsOnly s := ⟨.refl wf, fun _ _ _ => rfl⟩

theorem State.countsOnly.trans (a : s.countsOnly t) (b : t.countsOnly u) : s.countsOnly u :=
  ⟨a.pends.trans b.pends, fun off low other => (b.regs off low other).trans (a.regs off low other)⟩

theorem State.countsOnly.wf (a : s.countsOnly t) : t.wf = true := a.pends.wf

theorem countsOnly_setReg (wf : s.wf = true) {off : Nat} (high : 0x30000 ≤ off) (v : Word) : s.countsOnly (s.setReg off v) :=
  ⟨.of_evolves wf (State.setReg_ev s off v) rfl, fun off' low _ => reg_setReg_other s off off' v (by omega)⟩

theorem countsOnly_setFld (wf : s.wf = true) {f : Fld} (high : 0x30000 ≤ f.off) (v : Nat) : s.countsOnly (s.setFld f v) :=
  countsOnly_setReg wf high _

/-- An event of a page at or above the PMC pages. -/
theorem countsOnly_raiseN (wf : s.wf = true) {e : Evt} (high : 0x30000 ≤ e.stsOff) (info addr : Nat) :
    s.countsOnly (s.raiseN e info addr) := by
  refine ⟨pendsOnly_raiseAt wf e _ _, fun off low other => reg_raiseAt_other s e _ _ off ?_⟩
  simp only [Evt.regs, List.mem_cons, List.not_mem_nil, or_false, not_or]
  omega

/-- The events of a PMC page have their registers there. -/
theorem stsOff_pmc (i bit : Nat) : 0x30000 ≤ (⟨.pmc, i, bit⟩ : Evt).stsOff := by
  simp only [Evt.stsOff, Block.base]
  omega

theorem off_pmcCtlFreeze (i : Nat) : 0x30000 ≤ (F.pmcCtlFreeze i).off := by
  change 0x30000 ≤ 0x30010 + i * 0x1000
  omega

theorem countsOnly_pmcOverflowed (wf : s.wf = true) (i k : Nat) : s.countsOnly (s.pmcOverflowed i k) := by
  unfold State.pmcOverflowed
  extract_lets noted reported
  have noted_only : s.countsOnly noted := countsOnly_setReg wf (by unfold pmcOvfOff; omega) _
  have reported_only : s.countsOnly reported := by
    unfold reported
    split
    · exact noted_only.trans (countsOnly_raiseN noted_only.wf (stsOff_pmc i 0) 0 k)
    · exact noted_only
  split
  · have frozen_only := reported_only.trans (countsOnly_setFld reported_only.wf (off_pmcCtlFreeze i) 1)
    exact frozen_only.trans (countsOnly_raiseN frozen_only.wf (stsOff_pmc i 1) 0 k)
  · exact reported_only

theorem countsOnly_pmcAdd (fuel : Nat) (wf : s.wf = true) (i k n : Nat) : s.countsOnly (State.pmcAdd fuel s i k n) := by
  induction fuel generalizing s k n with
  | zero => exact .refl wf
  | succ fuel ih =>
    unfold State.pmcAdd
    extract_lets c added chain carried
    have added_only : s.countsOnly added := countsOnly_setReg wf (by unfold pmcCntOff; omega) _
    split
    · exact added_only
    · have carried_only : s.countsOnly carried := by
        unfold carried
        split
        · exact added_only.trans (ih added_only.wf (k + 1) 1)
        · exact added_only
      exact carried_only.trans (countsOnly_pmcOverflowed carried_only.wf i k)

theorem countsOnly_count (wf : s.wf = true) (ev inst n : Nat) : s.countsOnly (s.count ev inst n) := by
  unfold State.count
  refine List.foldlRecOn _ _ (State.countsOnly.refl wf) fun t reached p _ => ?_
  dsimp only
  split
  · exact reached.trans (countsOnly_pmcAdd 64 reached.wf _ _ _)
  · exact reached

/-- A command that counts itself, as it starts. -/
theorem countsOnly_begin_count (wf : s.wf = true) (ev inst n : Nat) : s.countsOnly (s.begin.count ev inst n) :=
  have begun : s.countsOnly s.begin := ⟨.of_evolves wf (State.begin_ev s) rfl, fun off _ _ => reg_begin s off⟩
  begun.trans (countsOnly_count begun.wf ev inst n)

theorem State.countsOnly.fld (a : s.countsOnly t) {f : Fld} (low : f.off < 0x30000) (other : f.off ≠ 0x5130) :
    t.fld f = s.fld f :=
  fld_of_reg (a.regs f.off low other)

end CountsOnly

end Sys2Proof.Machine

/-!
PROOF. The host ports chapter's accesses outside a domain's extent (R51): the request completes, with poison or discarded, and
OUTSIDE_EXTENT is counted and raised with the DPA.
-/
namespace Sys2Proof.Machine

section Outside

variable {s : State} {r : Req} {h : Nat}

/-! ### The response of a request that fails -/

/-- The response of a failed request counts at most one performance event. -/
theorem countsOnly_failReq (wf : s.wf = true) (r : Req) : s.countsOnly (s.failReq r) := by
  have answered (tag : Nat) (o : Output) : s.countsOnly (s.respond tag o) :=
    have e := State.respond_ev s tag o
    ⟨.of_evolves wf e rfl, fun off _ _ => reg_evolves e rfl rfl off⟩
  unfold State.failReq
  split
  · exact answered _ _
  · exact (answered _ _).trans (countsOnly_count (answered _ _).wf _ _ _)

theorem out_failReq_read (read : r.wr = false) (tagged : r.tag ≠ noTag) :
    (s.failReq r).out = s.out ++ [.memData r.h r.tag 0#512 true (s.devload r.h)] := by
  simp [State.failReq, State.memData, State.respond, read, tagged, State.emit]

theorem out_failReq_write (write : r.wr = true) (tagged : r.tag ≠ noTag) :
    (s.failReq r).out = s.out ++ [.cmp r.h r.tag (s.devload r.h)] := by
  simp [State.failReq, State.cmp, State.respond, write, tagged, State.emit]

/-- Counting leaves the fields of the HST pages as they are. -/
theorem State.countsOnly.fld_hst {t : State} {f : Fld} (a : s.countsOnly t) (lo : 0x10000 ≤ f.off) (hi : f.off < 0x18000) :
    t.fld f = s.fld f :=
  a.fld (by omega) (by omega)

theorem devload_countsOnly {t : State} (a : s.countsOnly t) (head : h < 8) : t.devload h = s.devload h :=
  a.fld_hst (show 0x10000 ≤ 0x10118 + h * 0x1000 by omega) (show 0x10118 + h * 0x1000 < 0x18000 by omega)

theorem outsideCount_countsOnly {t : State} (a : s.countsOnly t) (head : h < 8) :
    t.fld (F.hstExterrCntOutsideExtent h) = s.fld (F.hstExterrCntOutsideExtent h) :=
  a.fld_hst (show 0x10000 ≤ 0x10130 + h * 0x1000 by omega) (show 0x10130 + h * 0x1000 < 0x18000 by omega)

/-! ### What an access outside the extent leaves -/

theorem out_outside (opcode dpa : Nat) : (s.outside r opcode dpa).out = (s.failReq r).out := by
  have reported := evolves_get (State.hostErr_ev ((s.failReq r).bump (F.hstExterrCntOutsideExtent r.h) 1)
    (Ev.hstOutsideExtent r.h) opcode dpa) .out rfl
  have counted := evolves_get (State.bump_ev (s.failReq r) (F.hstExterrCntOutsideExtent r.h) 1) .out rfl
  exact reported.trans counted

theorem evtSet_outside (wf : s.wf = true) (opcode dpa : Nat) :
    (s.outside r opcode dpa).evtSet (Ev.hstOutsideExtent r.h) :=
  evtSet_raiseN _ _ _ _ (wf_bump _ _ _ (countsOnly_failReq wf r).wf) (show 3 < 64 by decide)

/-- HST_ERR_ADDR holds the DPA. -/
theorem reg_outside_addr (wf : s.wf = true) (opcode dpa : Nat) :
    (s.outside r opcode dpa).reg ((Ev.hstOutsideExtent r.h).stsOff + 0x20) = BitVec.ofNat 64 dpa :=
  reg_raiseAt_addr _ _ _ _ (wf_bump _ _ _ (countsOnly_failReq wf r).wf)

/-- OUTSIDE_EXTENT is counted once, and its report leaves the count. -/
theorem fld_outside_count (wf : s.wf = true) (head : r.h < 8) (opcode dpa : Nat) :
    (s.outside r opcode dpa).fld (F.hstExterrCntOutsideExtent r.h) =
      satAdd 32 (s.fld (F.hstExterrCntOutsideExtent r.h)) 1 := by
  have failed := countsOnly_failReq wf r
  have apart : (F.hstExterrCntOutsideExtent r.h).off ∉ (Ev.hstOutsideExtent r.h).regs := by
    simp only [Evt.regs, Evt.stsOff, Block.base, Ev.hstOutsideExtent, F.hstExterrCntOutsideExtent, List.mem_cons,
      List.not_mem_nil, or_false, not_or]
    omega
  have counted := fld_bump_same (s.failReq r) (F.hstExterrCntOutsideExtent r.h) 1 failed.wf (Nat.zero_le _)
    (show 31 < 64 by decide)
  rw [outsideCount_countsOnly failed head] at counted
  exact (fld_raiseN_other _ _ _ _ _ apart).trans counted

/-! ### The commands -/

theorem place?_congr {t : State} (same : t.cry = s.cry) (r : Req) (dpa : Nat) : t.place? r dpa = s.place? r dpa := by
  unfold State.place?
  simp only [dom_congr same]

/-- R51: a decoded DPA without a place is an access outside the extent. -/
theorem hostReq_noPlace {hpa : Nat} {d : Decoder} (opcode : Nat) (active : s.host.memActive = true)
    (decoded : s.decoderOf r.h hpa = some d) (noPlace : s.place? r (d.dpa hpa) = none) :
    s.hostReq r hpa opcode = s.outside r opcode (d.dpa hpa) := by
  simp [State.hostReq, active, decoded, noPlace]

/-- Counting the request does not change where it leads. -/
theorem hostReq_count_noPlace {hpa : Nat} {d : Decoder} (ev opcode : Nat) (wf : s.wf = true)
    (active : s.host.memActive = true) (decoded : s.decoderOf r.h hpa = some d)
    (noPlace : s.place? r (d.dpa hpa) = none) :
    (s.begin.count ev r.h 1).hostReq r hpa opcode = (s.begin.count ev r.h 1).outside r opcode (d.dpa hpa) := by
  have counted : s.countsOnly (s.begin.count ev r.h 1) := countsOnly_begin_count wf ev r.h 1
  refine hostReq_noPlace opcode (counted.pends.memActive.trans active) ((counted.pends.decoderOf _ _).trans decoded) ?_
  rw [place?_congr (State.count_cry s.begin ev r.h 1)]
  exact noPlace

theorem exec_memRd_noPlace {tag : Nat} {hpa : BitVec 64} {d : Decoder} (wf : s.wf = true) (up : s.memUp h = true)
    (active : s.host.memActive = true) (decoded : s.decoderOf h hpa.toNat = some d)
    (noPlace : s.place? (Req.rd h tag) (d.dpa hpa.toNat) = none) :
    exec (.memRd h tag hpa) s = .next ((s.begin.count 0x100 h 1).outside (Req.rd h tag) 1 (d.dpa hpa.toNat)) := by
  change execMemRd h tag hpa s = _
  rw [execMemRd, memReq_up _ up, done]
  exact congrArg _ (hostReq_count_noPlace (r := Req.rd h tag) 0x100 1 wf active decoded noPlace)

theorem exec_memWr_noPlace {tag : Nat} {hpa : BitVec 64} {data : BitVec 512} {poison : Bool} {d : Decoder}
    (wf : s.wf = true) (up : s.memUp h = true) (active : s.host.memActive = true)
    (decoded : s.decoderOf h hpa.toNat = some d)
    (noPlace : s.place? (Req.write h tag data (BitVec.allOnes 64) poison) (d.dpa hpa.toNat) = none) :
    exec (.memWr h tag hpa data poison) s = .next ((s.begin.count 0x101 h 1).outside
      (Req.write h tag data (BitVec.allOnes 64) poison) 0x11 (d.dpa hpa.toNat)) := by
  change execMemWr h tag hpa data poison s = _
  rw [execMemWr, memReq_up _ up, done]
  exact congrArg _ (hostReq_count_noPlace (r := Req.write h tag data (BitVec.allOnes 64) poison) 0x101 0x11 wf active
    decoded noPlace)

/-- R51, beside the response: the event and its count and address, for a request counted as performance event `ev`. -/
theorem outside_reports (wf : s.wf = true) (head : r.h < 8) (ev opcode dpa : Nat) :
    ((s.begin.count ev r.h 1).outside r opcode dpa).evtSet (Ev.hstOutsideExtent r.h) ∧
    ((s.begin.count ev r.h 1).outside r opcode dpa).fld (F.hstExterrCntOutsideExtent r.h) =
      satAdd 32 (s.fld (F.hstExterrCntOutsideExtent r.h)) 1 ∧
    ((s.begin.count ev r.h 1).outside r opcode dpa).reg ((Ev.hstOutsideExtent r.h).stsOff + 0x20) = BitVec.ofNat 64 dpa ∧
    s.keeps ((s.begin.count ev r.h 1).outside r opcode dpa) (.out :: reporting) := by
  have counted : s.countsOnly (s.begin.count ev r.h 1) := countsOnly_begin_count wf ev r.h 1
  have frame : s.evolves (s.begin.count ev r.h 1) (.out :: reporting) :=
    ev_step (ev_step ev_refl (State.begin_ev s) rfl) (State.count_ev s.begin ev r.h 1) rfl
  refine ⟨evtSet_outside counted.wf opcode dpa, ?_, reg_outside_addr counted.wf opcode dpa,
    (ev_step frame (State.outside_ev _ r opcode dpa) rfl).1⟩
  rw [fld_outside_count counted.wf head, outsideCount_countsOnly counted head]

end Outside

/-- Settles O48: either command counts itself and ends in `State.outside`. -/
theorem outsideTheExtent : Obligations.OutsideTheExtent := by
  unfold Obligations.OutsideTheExtent
  refine ⟨fun s h tag hpa d wf head up active decoded noPlace tagged => ?read,
    fun s h tag hpa data d wf head up active decoded noPlace tagged => ?write⟩
  case read =>
    refine ⟨_, exec_memRd_noPlace wf up active decoded noPlace, ?_,
      outside_reports (r := Req.rd h tag) wf head 0x100 1 (d.dpa hpa.toNat)⟩
    rw [out_outside, out_failReq_read rfl tagged, State.count_out]
    rfl
  case write =>
    refine ⟨_, exec_memWr_noPlace wf up active decoded noPlace, ?_,
      outside_reports (r := Req.write h tag data (BitVec.allOnes 64) false) wf head 0x101 0x11 (d.dpa hpa.toNat)⟩
    have counted : s.countsOnly (s.begin.count 0x101 h 1) := countsOnly_begin_count wf 0x101 h 1
    rw [out_outside, out_failReq_write rfl tagged, State.count_out]
    exact congrArg (fun load => [Output.cmp h tag load]) (devload_countsOnly counted head)

end Sys2Proof.Machine

/-!
PROOF. The front cache chapter's Swatch window: FCH_CTL.ENABLE stays 1 under a window (R125), and a window that is being carved
or restored fails the accesses to its range (R130). The tables need not be canonical for the latter, so what counting leaves is
said here without `State.wf`.
-/
namespace Sys2Proof.Machine

/-! ### Turning the cache off (R125) -/

/-- R125: under a window the write only raises REFUSED. -/
theorem exec_fchDisable_window {s : State} {h : Nat} (ready : s.barReady h) (window : s.swt.st ≠ .none) :
    exec (.fchDisable h) s = .next (s.begin.raise Ev.fchRefused) := by
  have window' : s.begin.swt.st ≠ .none := window
  change execFchDisable h s = _
  rw [execFchDisable, barWrite_ready ready, done, if_pos window']

/-- A command that only raises an event changes, beside what it shows, only what reporting may change. -/
theorem keeps_begin_raise (s : State) (e : Evt) : s.keeps (s.begin.raise e) (.out :: reporting) :=
  have cleared : s.evolves s.begin (.out :: reporting) := ev_step ev_refl (State.begin_ev s) rfl
  (ev_step cleared (State.raise_ev s.begin e) rfl).1

/-- Settles O50: raising REFUSED is all that the write does. -/
theorem cacheStaysOnUnderAWindow : Obligations.CacheStaysOnUnderAWindow := by
  unfold Obligations.CacheStaysOnUnderAWindow
  intro s h wf ready window
  exact ⟨_, exec_fchDisable_window ready window, evtSet_raise s.begin Ev.fchRefused wf (by decide),
    fld_raise_other s.begin Ev.fchRefused F.fchCtlEnable (by decide), keeps_begin_raise s Ev.fchRefused,
    keepsRegs_raiseAt s.begin Ev.fchRefused _ _⟩

/-! ### What every count preserves -/

section CountPreserves

/-- What survives every act of counting: a register of the PMC pages is set, or an event of theirs is raised. -/
structure CountInvariant (P : State → Prop) : Prop where
  setReg : ∀ {t : State} {off : Nat} (v : Word), 0x30000 ≤ off → P t → P (t.setReg off v)
  raiseN : ∀ {t : State} {e : Evt} (info addr : Nat), 0x30000 ≤ e.stsOff → P t → P (t.raiseN e info addr)

variable {P : State → Prop} {s : State}

theorem CountInvariant.pmcOverflowed (inv : CountInvariant P) (holds : P s) (i k : Nat) : P (s.pmcOverflowed i k) := by
  unfold State.pmcOverflowed
  extract_lets noted reported
  have noted_holds : P noted := inv.setReg _ (by unfold pmcOvfOff; omega) holds
  have reported_holds : P reported := by
    unfold reported
    split
    · exact inv.raiseN 0 k (stsOff_pmc i 0) noted_holds
    · exact noted_holds
  split
  · exact inv.raiseN 0 k (stsOff_pmc i 1) (inv.setReg _ (off_pmcCtlFreeze i) reported_holds)
  · exact reported_holds

theorem CountInvariant.pmcAdd (inv : CountInvariant P) (fuel : Nat) (holds : P s) (i k n : Nat) :
    P (State.pmcAdd fuel s i k n) := by
  induction fuel generalizing s k n with
  | zero => exact holds
  | succ fuel ih =>
    unfold State.pmcAdd
    extract_lets c added chain carried
    have added_holds : P added := inv.setReg _ (by unfold pmcCntOff; omega) holds
    split
    · exact added_holds
    · have carried_holds : P carried := by
        unfold carried
        split
        · exact ih added_holds (k + 1) 1
        · exact added_holds
      exact inv.pmcOverflowed carried_holds i k

theorem CountInvariant.count (inv : CountInvariant P) (holds : P s) (ev inst n : Nat) : P (s.count ev inst n) := by
  unfold State.count
  refine List.foldlRecOn _ _ holds fun t reached p _ => ?_
  dsimp only
  split
  · exact inv.pmcAdd 64 reached _ _ _
  · exact reached

end CountPreserves

/-! ### Counting and decoding -/

/-- `t` decodes host addresses as `s` does. -/
structure State.decodesLike (s t : State) : Prop where
  memActive : t.host.memActive = s.host.memActive
  decoders : ∀ j, (t.head j).decoders = (s.head j).decoders

section DecodesLike

variable {s t u : State}

theorem State.decodesLike.refl (s : State) : s.decodesLike s := ⟨rfl, fun _ => rfl⟩

theorem State.decodesLike.trans (a : s.decodesLike t) (b : t.decodesLike u) : s.decodesLike u :=
  ⟨b.memActive.trans a.memActive, fun j => (b.decoders j).trans (a.decoders j)⟩

theorem State.decodesLike.of_host (same : t.host = s.host) : s.decodesLike t :=
  ⟨by rw [same], fun j => by rw [head_congr same]⟩

theorem State.decodesLike.decoderOf (a : s.decodesLike t) (h hpa : Nat) : t.decoderOf h hpa = s.decoderOf h hpa := by
  unfold State.decoderOf State.decoder
  rw [a.decoders h]

/-- A head that differs from a fresh one reads back, whatever the table looked like. -/
theorem head_setHead_listed (s : State) (h : Nat) {x : Head} (listed : x ≠ Head.fresh) : (s.setHead h x).head h = x := by
  unfold State.setHead State.head Tab.set
  rw [if_neg listed]
  exact Tab.get_put_same _ _ h x

/-- Only a head with MSI-X on gets a pending vector, and a fresh head has it off. -/
theorem decodesLike_pendVector (s : State) (h v : Nat) : s.decodesLike (s.pendVector h v) := by
  unfold State.pendVector
  dsimp only
  split
  case isTrue on =>
    obtain ⟨-, msixOn⟩ := Bool.and_eq_true_iff.mp on
    have listed : { s.head h with msixPend := (s.head h).msixPend ||| (1#64 <<< v) } ≠ Head.fresh := fun fresh =>
      Bool.false_ne_true ((congrArg Head.msixOn fresh).symm.trans msixOn)
    refine ⟨rfl, fun j => ?_⟩
    by_cases same : j = h
    · rw [same, head_setHead_listed s h listed]
    · rw [head_setHead_other s h j _ same]
  case isFalse => exact .refl s

theorem decodesLike_noteSource (s : State) (was : Bool) (e : Evt) : s.decodesLike (s.noteSource was e) := by
  unfold State.noteSource State.pendSource
  split
  · refine List.foldlRecOn _ _ (State.decodesLike.refl s) fun t reached v _ => ?_
    split
    · exact reached.trans (decodesLike_pendVector t _ _)
    · exact reached
  · exact .refl s

/-- Of what an event changes, only the pending vectors belong to the hosts. -/
theorem decodesLike_raiseAt (s : State) (e : Evt) (info addr : Word) : s.decodesLike (s.raiseAt e info addr) := by
  have captured : s.decodesLike (s.capture e info addr) := .of_host (evolves_get (State.capture_ev s e info addr) .host rfl)
  have stored := captured.trans (.of_host (evolves_get (State.setReg_ev _ e.stsOff
    ((s.capture e info addr).reg e.stsOff ||| (1#64 <<< e.bit))) .host rfl))
  have noted := stored.trans (decodesLike_noteSource _ ((s.capture e info addr).raised e) e)
  exact noted.trans (.of_host (evolves_get (State.recordEvt_ev _ _ _ _ _) .host rfl))

theorem countInvariant_decodesLike (s : State) : CountInvariant s.decodesLike where
  setReg v _ like := like.trans (.of_host (evolves_get (State.setReg_ev _ _ v) .host rfl))
  raiseN _ _ _ like := like.trans (decodesLike_raiseAt _ _ _ _)

/-- A register below the PMC pages other than EVR_CNT. -/
theorem countInvariant_reg {off : Nat} (w : Word) (low : off < 0x30000) (other : off ≠ 0x5130) :
    CountInvariant fun t => t.reg off = w where
  setReg v high same := (reg_setReg_other _ _ off v (by omega)).trans same
  raiseN _ _ high same := (reg_raiseAt_other _ _ _ _ off (by
    simp only [Evt.regs, List.mem_cons, List.not_mem_nil, or_false, not_or]
    omega)).trans same

theorem devload_count (s : State) {h : Nat} (head : h < 8) (ev inst n : Nat) : (s.count ev inst n).devload h = s.devload h :=
  have low : (F.hstDevloadDevload h).off < 0x18000 := show 0x10118 + h * 0x1000 < 0x18000 by omega
  have above : 0x10000 ≤ (F.hstDevloadDevload h).off := show 0x10000 ≤ 0x10118 + h * 0x1000 by omega
  fld_of_reg ((countInvariant_reg (s.reg (F.hstDevloadDevload h).off) (by omega) (by omega)).count rfl ev inst n)

end DecodesLike

/-! ### The window while it moves (R130) -/

section Moving

variable {s : State} {r q : Req} {h : Nat}

/-- Placing a request changes where it goes, not what answers it. -/
theorem place?_answer {dpa : Nat} (placed : s.place? r dpa = some q) : q.h = r.h ∧ q.tag = r.tag ∧ q.wr = r.wr := by
  unfold State.place? at placed
  dsimp only at placed
  split at placed
  · cases placed
  · cases placed
    exact ⟨rfl, rfl, rfl⟩

theorem lt_of_memUp (up : s.memUp h = true) : h < 8 := by
  simp only [State.memUp, Bool.and_eq_true] at up
  obtain ⟨⟨⟨-, present⟩, -⟩, -⟩ := up
  have inArrangement : h < s.nHeads := of_decide_eq_true present
  unfold State.nHeads at inArrangement
  split at inArrangement <;> omega

theorem inWindowRange_congr {t : State} (same : t.swt = s.swt) (line : Nat) :
    t.inWindowRange line = s.inWindowRange line := by
  unfold State.inWindowRange State.swtLines
  rw [same]

/-- R130: the checks before the window's fail the request too, once its domain can be served. -/
theorem serve_moving (active : (s.dom r.dom).st = .active) (range : s.inWindowRange r.line = true)
    (moving : s.swt.st = .carving ∨ s.swt.st = .restoring) : s.serve r = s.failReq r := by
  simp [State.serve, active, range, moving]

theorem hostReq_place {hpa : Nat} {d : Decoder} (opcode : Nat) (active : s.host.memActive = true)
    (decoded : s.decoderOf r.h hpa = some d) (placed : s.place? r (d.dpa hpa) = some q) :
    s.hostReq r hpa opcode = s.serve q := by
  simp [State.hostReq, active, decoded, placed]

/-- Counting the request changes neither its place nor the window. -/
theorem hostReq_count_moving {hpa : Nat} {d : Decoder} (ev opcode : Nat) (active : s.host.memActive = true)
    (decoded : s.decoderOf r.h hpa = some d) (placed : s.place? r (d.dpa hpa) = some q)
    (served : (s.dom q.dom).st = .active) (range : s.inWindowRange q.line = true)
    (moving : s.swt.st = .carving ∨ s.swt.st = .restoring) :
    (s.begin.count ev r.h 1).hostReq r hpa opcode = (s.begin.count ev r.h 1).failReq q := by
  have like : s.decodesLike (s.begin.count ev r.h 1) :=
    (countInvariant_decodesLike s).count (s := s.begin) (.of_host rfl) ev r.h 1
  have window : (s.begin.count ev r.h 1).swt = s.swt := State.count_swt s.begin ev r.h 1
  have domains : (s.begin.count ev r.h 1).cry = s.cry := State.count_cry s.begin ev r.h 1
  rw [hostReq_place opcode (like.memActive.trans active) ((like.decoderOf r.h hpa).trans decoded)
    ((place?_congr domains r _).trans placed)]
  refine serve_moving ?_ ?_ ?_
  · rw [dom_congr domains, served]
  · rw [inWindowRange_congr window, range]
  · rw [window]
    exact moving

/-- A request that counts itself and fails changes only what reporting may change, beside its response. -/
theorem keeps_begin_count_failReq (s : State) (q : Req) (ev inst n : Nat) :
    s.keeps ((s.begin.count ev inst n).failReq q) (.out :: reporting) :=
  have counted : s.evolves (s.begin.count ev inst n) (.out :: reporting) :=
    ev_step (ev_step ev_refl (State.begin_ev s) rfl) (State.count_ev s.begin ev inst n) rfl
  (ev_step counted (State.failReq_ev _ q) rfl).1

theorem exec_memRd_moving {tag : Nat} {hpa : BitVec 64} {d : Decoder} (up : s.memUp h = true)
    (active : s.host.memActive = true) (decoded : s.decoderOf h hpa.toNat = some d)
    (placed : s.place? (Req.rd h tag) (d.dpa hpa.toNat) = some q) (served : (s.dom q.dom).st = .active)
    (range : s.inWindowRange q.line = true) (moving : s.swt.st = .carving ∨ s.swt.st = .restoring) :
    exec (.memRd h tag hpa) s = .next ((s.begin.count 0x100 h 1).failReq q) := by
  change execMemRd h tag hpa s = _
  rw [execMemRd, memReq_up _ up, done]
  exact congrArg _ (hostReq_count_moving (r := Req.rd h tag) 0x100 1 active decoded placed served range moving)

theorem exec_memWr_moving {tag : Nat} {hpa : BitVec 64} {data : BitVec 512} {poison : Bool} {d : Decoder}
    (up : s.memUp h = true) (active : s.host.memActive = true) (decoded : s.decoderOf h hpa.toNat = some d)
    (placed : s.place? (Req.write h tag data (BitVec.allOnes 64) poison) (d.dpa hpa.toNat) = some q)
    (served : (s.dom q.dom).st = .active) (range : s.inWindowRange q.line = true)
    (moving : s.swt.st = .carving ∨ s.swt.st = .restoring) :
    exec (.memWr h tag hpa data poison) s = .next ((s.begin.count 0x101 h 1).failReq q) := by
  change execMemWr h tag hpa data poison s = _
  rw [execMemWr, memReq_up _ up, done]
  exact congrArg _ (hostReq_count_moving (r := Req.write h tag data (BitVec.allOnes 64) poison) 0x101 0x11 active decoded
    placed served range moving)

end Moving

/-- Settles O51: either command counts itself and fails its request. -/
theorem windowClosedWhileItMoves : Obligations.WindowClosedWhileItMoves := by
  unfold Obligations.WindowClosedWhileItMoves
  refine ⟨fun s h tag hpa d q up active decoded placed served range moving tagged => ?read,
    fun s h tag hpa data d q up active decoded placed served range moving tagged => ?write⟩
  case read =>
    obtain ⟨-, sameTag, read⟩ := place?_answer placed
    refine ⟨_, exec_memRd_moving up active decoded placed served range moving, ?_,
      keeps_begin_count_failReq s q 0x100 h 1⟩
    rw [out_failReq_read read (sameTag.trans_ne tagged), State.count_out]
    rfl
  case write =>
    obtain ⟨sameHead, sameTag, write⟩ := place?_answer placed
    refine ⟨_, exec_memWr_moving up active decoded placed served range moving, ?_,
      keeps_begin_count_failReq s q 0x101 h 1⟩
    rw [out_failReq_write write (sameTag.trans_ne tagged), State.count_out, sameHead, sameTag]
    exact congrArg (fun load => [Output.cmp h tag load]) (devload_count s.begin (lt_of_memUp up) 0x101 h 1)

end Sys2Proof.Machine

/-!
PROOF. The event recorder's queue (R502): what joins it, what a full queue does, and what the write of the oldest record
leaves of it.
-/
namespace Sys2Proof.Machine

/-! ### What joins the queue -/

section Joining

variable {s : State}

/-- A record that finds room joins the end of the queue. -/
theorem evt_enqueue_room (r : QRec) (room : s.evt.queue.length < 256) :
    (s.enqueue r).evt = { s.evt with queue := s.evt.queue ++ [r] } := by
  rw [State.enqueue, if_pos room]

/-- A record that finds 256 waiting is counted. -/
theorem evt_enqueue_full (r : QRec) (full : 256 ≤ s.evt.queue.length) :
    (s.enqueue r).evt = { s.evt with dropped := s.evt.dropped + 1 } := by
  rw [State.enqueue, if_neg (by omega), State.bump_evt]

theorem recordEvt_recorded {e : Evt} (severe : s.fld F.evrCfgMinSev ≤ e.sev) (other : e.ownRecord = false)
    (p0 p1 p2 : Nat) : s.recordEvt e p0 p1 p2 = s.enqueue (s.evtRecord e p0 p1 p2) := by
  rw [State.recordEvt, if_neg (by simp [severe, other])]

theorem recordEvt_unrecorded {e : Evt} (skipped : e.ownRecord = true ∨ e.sev < s.fld F.evrCfgMinSev) (p0 p1 p2 : Nat) :
    s.recordEvt e p0 p1 p2 = s := by
  rw [State.recordEvt, if_pos (by simpa using skipped)]

variable (s) (e : Evt) (info addr : Word)

/-- No event writes EVR_CFG: its registers lie elsewhere in their page. -/
theorem evrCfg_not_mem_regs : F.evrCfgMinSev.off ∉ e.regs := by
  have aligned : e.blk.base % 0x1000 = 0 := by cases e.blk <;> rfl
  simp only [Evt.regs, Evt.stsOff, F.evrCfgMinSev, List.mem_cons, List.not_mem_nil, or_false, not_or]
  omega

/-- What an event does before it is recorded leaves the recorder alone. -/
theorem evt_setEvtBit_capture : ((s.capture e info addr).setEvtBit e).evt = s.evt :=
  have captured : (s.capture e info addr).evt = s.evt := evolves_get (State.capture_ev s e info addr) .evt rfl
  have noted : ((s.capture e info addr).setEvtBit e).evt = (s.capture e info addr).evt :=
    evolves_get (State.setEvtBit_ev _ e) .evt rfl
  noted.trans captured

/-- What an event does before it is recorded leaves MIN_SEV. -/
theorem minSev_setEvtBit_capture :
    ((s.capture e info addr).setEvtBit e).fld F.evrCfgMinSev = s.fld F.evrCfgMinSev := by
  have apart := evrCfg_not_mem_regs e
  simp only [Evt.regs, List.mem_cons, List.not_mem_nil, or_false, not_or] at apart
  obtain ⟨sts, errInfo, errAddr, -⟩ := apart
  refine fld_of_reg ?_
  rw [reg_setEvtBit_other _ _ _ sts, State.capture, reg_setReg_other _ _ _ _ errAddr, reg_setReg_other _ _ _ _ errInfo]

variable {s e}

/-- An event of enough severity is recorded, with its bit number as code (Table 15-6). -/
theorem raiseAt_recorded (severe : s.fld F.evrCfgMinSev ≤ e.sev) (other : e.ownRecord = false) :
    ∃ r : QRec, s.raiseAt e info addr = ((s.capture e info addr).setEvtBit e).enqueue r ∧
      r.code = e.bit ∧ r.src = e.src ∧ r.sev = e.sev := by
  refine ⟨_, recordEvt_recorded ?_ other _ _ _, rfl, rfl, rfl⟩
  rwa [minSev_setEvtBit_capture]

/-- An event below MIN_SEV, or with a record of its own, leaves the recorder alone. -/
theorem evt_raiseAt_unrecorded (skipped : e.ownRecord = true ∨ e.sev < s.fld F.evrCfgMinSev) :
    (s.raiseAt e info addr).evt = s.evt := by
  rw [← minSev_setEvtBit_capture s e info addr] at skipped
  rw [State.raiseAt, recordEvt_unrecorded skipped, evt_setEvtBit_capture]

end Joining

/-! ### What leaves the waiting records alone -/

/-- From `s` to `t` neither the waiting records nor the count of dropped events change. -/
structure State.sameWaiting (s t : State) : Prop where
  queue : t.evt.queue = s.evt.queue
  dropped : t.evt.dropped = s.evt.dropped

section SameWaiting

variable {s t u : State}

theorem State.sameWaiting.of_evt (same : t.evt = s.evt) : s.sameWaiting t := ⟨by rw [same], by rw [same]⟩

theorem State.sameWaiting.trans (a : s.sameWaiting t) (b : t.sameWaiting u) : s.sameWaiting u :=
  ⟨b.queue.trans a.queue, b.dropped.trans a.dropped⟩

theorem State.sameWaiting.bump (a : s.sameWaiting t) (f : Fld) (k : Nat) : s.sameWaiting (t.bump f k) :=
  a.trans (.of_evt (State.bump_evt t f k))

theorem sameWaiting_postCxl (s : State) (kind : CxlKind) (sev time : Nat) (data : List Nat) :
    s.sameWaiting (s.postCxl kind sev time data) := by
  unfold State.postCxl
  refine List.foldlRecOn _ _ (State.sameWaiting.mk rfl rfl) fun t kept h _ => kept.trans (.of_evt ?_)
  exact evolves_get (State.logAdd_ev t h _ _) .evt rfl

theorem sameWaiting_checkAlerts (s : State) : s.sameWaiting s.checkAlerts := by
  unfold State.checkAlerts
  refine State.sameWaiting.trans (List.foldlRecOn (motive := s.sameWaiting) _ _ (.of_evt rfl) fun t kept i _ => ?_)
    (.of_evt rfl)
  split
  · exact kept.trans (sameWaiting_postCxl t _ _ _ _)
  · exact kept

theorem sameWaiting_writeBackFold (s : State) : s.sameWaiting s.writeBackFold := by
  unfold State.writeBackFold
  split
  · split <;> exact ⟨rfl, rfl⟩
  · exact ⟨rfl, rfl⟩

theorem sameWaiting_foldRecord (s : State) : s.sameWaiting s.foldRecord := by
  unfold State.foldRecord
  refine .bump ?_ _ _
  exact ⟨rfl, rfl⟩

theorem sameWaiting_writeRecord (s : State) (r : QRec) : s.sameWaiting (s.writeRecord r) := by
  unfold State.writeRecord
  extract_lets unfolded post seq record stored recorder advanced counted
  have written : s.sameWaiting advanced := (sameWaiting_writeBackFold s).trans ⟨rfl, rfl⟩
  have kept : s.sameWaiting counted := written.bump F.evrCntWritten 1
  clear_value counted
  split
  · exact kept.trans (sameWaiting_postCxl counted _ _ _ _)
  · exact kept

end SameWaiting

/-! ### The write of the oldest record -/

/-- The oldest record leaves the queue, `rest` behind it, and is folded or written (R502, R504). -/
def State.takeOldest (s : State) (r : QRec) (rest : List QRec) : State :=
  let s : State := { s with evt := { s.evt with queue := rest } }
  if s.folds r then s.foldRecord else s.writeRecord r

section Writing

variable {s : State}

theorem exec_eventRecordWrite_cons {r : QRec} {rest : List QRec} (on : s.pwr.coreOn = true)
    (held : s.evt.clearing = false) (waiting : s.evt.queue = r :: rest) :
    exec .eventRecordWrite s = .next (s.begin.takeOldest r rest).reportDrops.checkAlerts := by
  change execEventRecordWrite s = _
  rw [execEventRecordWrite, when_true (by simp [on, held]), done, State.begin_evt, waiting]
  rfl

/-- Nothing but the oldest record leaves the queue. -/
theorem takeOldest_waiting (s : State) (r : QRec) (rest : List QRec) :
    (s.takeOldest r rest).evt.queue = rest ∧ (s.takeOldest r rest).evt.dropped = s.evt.dropped := by
  have kept : State.sameWaiting { s with evt := { s.evt with queue := rest } } (s.takeOldest r rest) := by
    unfold State.takeOldest
    dsimp only
    split
    · exact sameWaiting_foldRecord _
    · exact sameWaiting_writeRecord _ r
  exact ⟨kept.queue, kept.dropped⟩

theorem wf_takeOldest (wf : s.wf = true) (r : QRec) (rest : List QRec) : (s.takeOldest r rest).wf = true := by
  have popped : ({ s with evt := { s.evt with queue := rest } } : State).wf = true := wf
  unfold State.takeOldest
  dsimp only
  split
  · exact (State.foldRecord_ev _).2 popped
  · exact (State.writeRecord_ev _ r).2 popped

/-- The report of dropped events waits last, and holds their number. -/
theorem evt_reportDrops (lost : s.evt.dropped ≠ 0) (room : s.evt.queue.length < 256) :
    ∃ q : QRec, s.reportDrops.evt = { s.evt with queue := s.evt.queue ++ [q], dropped := 0 } ∧ q.code = 0x2003 ∧
      q.p0 = s.evt.dropped := by
  rw [State.reportDrops, if_neg (by omega)]
  exact ⟨_, evt_raiseAt_unrecorded _ _ (.inl rfl), rfl, rfl⟩

theorem evtSet_reportDrops (wf : s.wf = true) (lost : s.evt.dropped ≠ 0) (room : s.evt.queue.length < 256) :
    s.reportDrops.evtSet Ev.evrDropped := by
  rw [State.reportDrops, if_neg (by omega)]
  exact evtSet_raise _ _ wf (by decide)

theorem evtSet_checkAlerts (e : Evt) : s.checkAlerts.evtSet e ↔ s.evtSet e :=
  evtSet_of_reg (reg_evolves (State.checkAlerts_ev s) rfl rfl e.stsOff)

end Writing

/-- Settles O52: an event of enough severity is enqueued, and the write of the oldest record makes room for the report. -/
theorem recorderQueue : Obligations.RecorderQueue := by
  unfold Obligations.RecorderQueue
  refine ⟨fun s e info addr severe other room => ?joins, fun s e info addr severe other full => ?full,
    fun s e info addr below => ?below, fun s r rest wf on held waiting room lost _ => ?oldest⟩
  case joins =>
    obtain ⟨r, recorded, named⟩ := raiseAt_recorded info addr severe other
    refine ⟨r, ?_, named⟩
    rw [recorded, evt_enqueue_room r (by rwa [evt_setEvtBit_capture]), evt_setEvtBit_capture]
  case full =>
    obtain ⟨r, recorded, -⟩ := raiseAt_recorded info addr severe other
    rw [recorded, evt_enqueue_full r (by rwa [evt_setEvtBit_capture]), evt_setEvtBit_capture]
    exact ⟨rfl, rfl⟩
  case below =>
    rw [evt_raiseAt_unrecorded info addr (.inr below)]
    exact ⟨rfl, rfl⟩
  case oldest =>
    obtain ⟨left, number⟩ := takeOldest_waiting s.begin r rest
    rw [← left] at room
    have unreported : (s.begin.takeOldest r rest).evt.dropped ≠ 0 := number.trans_ne lost
    obtain ⟨q, reported, code, counts⟩ := evt_reportDrops unreported room
    obtain ⟨queue, dropped⟩ := sameWaiting_checkAlerts (s.begin.takeOldest r rest).reportDrops
    rw [reported, left] at queue
    rw [reported] at dropped
    refine ⟨_, exec_eventRecordWrite_cons on held waiting, ?_, ?_, ?_, dropped, ?_⟩
    · rw [queue, List.length_append, List.length_singleton]
    · rw [queue, List.take_left]
    · rw [queue, List.getLast?_concat, Option.map_some, code, counts, number, State.begin_evt]
    · exact (evtSet_checkAlerts Ev.evrDropped).2
        (evtSet_reportDrops (wf_takeOldest (s := s.begin) wf r rest) unreported room)

end Sys2Proof.Machine

/-!
PROOF. The windows of the control BAR: how an access beyond the common pages is taken, that the routing entries of the reserved
sources read zero and ignore writes (R560), and what the user counter view shows (R570).
-/
namespace Sys2Proof.Machine

/-! ### Where the windows lie (Table 17-1) -/

theorem pageAt_beyond {off : Nat} (beyond : 0xC0000 ≤ off) : pageAt off = none := by
  unfold pageAt
  dsimp only
  rw [if_neg (by omega), if_neg (by omega), if_neg (by omega), if_neg (by omega), if_neg (by omega)]

theorem windowAt_userView {o : Nat} (inside : o < 0x10000) : windowAt (0xC0000 + o) = some .userView := by
  rw [windowAt, if_pos (by omega)]

theorem windowAt_routing {o : Nat} (inside : o < 0x2000) : windowAt (0x110000 + o) = some .routing := by
  rw [windowAt, if_neg (by omega), if_neg (by omega), if_pos (by omega)]

/-! ### Accesses beyond the pages -/

section WindowAccess

variable {s : State} {h off width : Nat}

/-- Beyond the pages there is no ERR_INFO to latch: a read shows the view, and draws what figures the spec leaves free. -/
theorem exec_errInfoRead_beyond (up : s.ioUp h = true) (aligned : off % 8 = 0) (beyond : 0xC0000 ≤ off) :
    exec (.errInfoRead h off 8) s = .next (s.begin.draw.1.emit (.barData h (s.begin.view off))) := by
  have base : off / 8 * 8 = off := Nat.div_mul_cancel (Nat.dvd_of_mod_eq_zero aligned)
  change execErrInfoRead h off 8 s = _
  unfold execErrInfoRead
  rw [barRead_ready up, if_neg (by omega), base, done]
  dsimp only
  rw [pageAt_beyond beyond]
  rfl

/-- A read beyond the pages changes nothing but what it shows and the free figures that it draws. -/
theorem errInfoRead_beyond_shows {v : Word} (up : s.ioUp h = true) (aligned : off % 8 = 0) (beyond : 0xC0000 ≤ off)
    (value : s.begin.view off = v) :
    ∃ t, exec (.errInfoRead h off 8) s = .next t ∧ t.out = [.barData h v] ∧ s.keeps t [.out, .freeCtr] := by
  have cleared : s.evolves s.begin [.out, .freeCtr] := ev_step ev_refl (State.begin_ev s) rfl
  have drawn : s.evolves s.begin.draw.1 [.out, .freeCtr] := ev_fst1 (evP_step cleared (State.draw_ev _) rfl)
  refine ⟨_, exec_errInfoRead_beyond up aligned beyond, ?_, (ev_step drawn (State.emit_ev _ _) rfl).1⟩
  rw [value]
  rfl

/-- An aligned write reaches the register through a head that may write. -/
theorem exec_controlBarWrite_aligned (data : BitVec 64) (ready : s.barReady h)
    (aligned : (width = 4 ∨ width = 8) ∧ off % width = 0) :
    exec (.controlBarWrite h off width data) s = .next (s.begin.writeBar h off width data) := by
  obtain ⟨up, writes⟩ := ready
  have up' : s.begin.ioUp h = true := up
  have writes' : s.begin.roMgmt h = false := writes
  change execControlBarWrite h off width data s = _
  unfold execControlBarWrite
  simp only [up', writes', Bool.not_true, Bool.false_eq_true, if_false, if_neg (not_not_intro aligned ∘ misaligned_iff.mp), done]

/-- A write that the window ignores changes nothing, and raises nothing. -/
theorem controlBarWrite_ignored {data : BitVec 64} (ready : s.barReady h)
    (aligned : (width = 4 ∨ width = 8) ∧ off % width = 0) (ignored : s.begin.writeBar h off width data = s.begin) :
    ∃ t, exec (.controlBarWrite h off width data) s = .next t ∧ t.out = [] ∧ s.keeps t [.out] :=
  ⟨_, (exec_controlBarWrite_aligned data ready aligned).trans (congrArg _ ignored), rfl, (State.begin_ev s).1⟩

end WindowAccess

/-! ### Reserved sources (R560) -/

/-- Table 17-7 gives no event bit of any block a reserved source. -/
theorem reservedSource_src {e : Evt} (page : e.inst < e.blk.pages) (bit : e.bit < e.blk.eventBits) :
    reservedSource e.src = false ∧ e.src < 768 := by
  obtain ⟨b, i, k⟩ := e
  rw [reservedSource, decide_eq_false_iff_not]
  cases b with
  | skn =>
    simp only [Block.pages, Evt.src] at page ⊢
    split <;> omega
  | _ =>
    simp only [Block.pages, Block.eventBits, Evt.src] at page bit ⊢
    omega

theorem lt_of_reservedSource {k : Nat} (reserved : reservedSource k = true) : k < 768 := by
  rw [reservedSource, decide_eq_true_iff] at reserved
  omega

section ReservedEntries

variable {k : Nat} (s : State)

theorem view_routing (inside : k < 1024) : s.view (0x110000 + 8 * k) = s.viewRouting k := by
  rw [State.view, windowAt_routing (by omega)]
  dsimp only
  rw [Nat.add_sub_cancel_left, Nat.mul_div_cancel_left k (by decide)]

theorem viewRouting_reserved (reserved : reservedSource k = true) : s.viewRouting k = 0#64 := by
  rw [State.viewRouting, if_pos (.inr reserved)]

theorem writeBar_routing (h : Nat) (data : Word) (inside : k < 1024) :
    s.writeBar h (0x110000 + 8 * k) 8 data = s.writeRouting (8 * k) (laneData (0x110000 + 8 * k) 8 data)
      (laneMask (0x110000 + 8 * k) 8) := by
  have base : (0x110000 + 8 * k) / 8 * 8 = 0x110000 + 8 * k := by omega
  rw [State.writeBar, windowAt_routing (by omega)]
  dsimp only
  rw [base, Nat.add_sub_cancel_left]

theorem writeRouting_reserved (data mask : Word) (reserved : reservedSource k = true) :
    s.writeRouting (8 * k) data mask = s := by
  have entry : 8 * k / 8 = k := Nat.mul_div_cancel_left k (by decide)
  rw [State.writeRouting, entry, if_pos (.inr reserved)]

end ReservedEntries

/-- Settles O53: no event has a reserved source, and both accesses find the entry of one closed. -/
theorem reservedSources : Obligations.ReservedSources := by
  unfold Obligations.ReservedSources
  refine ⟨fun e page bit => reservedSource_src page bit, fun s h k data ready reserved => ?write,
    fun s h k up reserved => ?read⟩
  case write =>
    have known := lt_of_reservedSource reserved
    refine controlBarWrite_ignored ready ⟨.inr rfl, by omega⟩ ?_
    rw [writeBar_routing _ h data (by omega), writeRouting_reserved _ _ _ reserved]
  case read =>
    have known := lt_of_reservedSource reserved
    refine errInfoRead_beyond_shows up (by omega) (by omega) ?_
    rw [view_routing _ (by omega), viewRouting_reserved _ reserved]

/-! ### The user counter view (R570) -/

section UserView

variable {i k o : Nat} (s : State)

theorem view_userView (inside : o < 0x10000) : s.view (0xC0000 + o) = s.viewUser o := by
  rw [State.view, windowAt_userView inside]
  dsimp only
  rw [Nat.add_sub_cancel_left]

/-- Offset 8 × (64i + k) belongs to counter `k` of page `i`, whose USER_READ decides what it shows. -/
theorem viewUser_counter (page : i < 4) (counter : k < 64) :
    s.viewUser (8 * (64 * i + k)) =
      if s.fld (F.pmcCtlUserRead i) = 1 then s.reg (pmcCntOff i k) &&& maskOf 47 0 else 0#64 := by
  have ofPage : 8 * (64 * i + k) / 8 / 64 = i := by omega
  have ofCounter : 8 * (64 * i + k) / 8 % 64 = k := by omega
  rw [State.viewUser, ofPage, ofCounter, if_neg (by omega)]
  rfl

/-- From offset 0x800 on there is no counter. -/
theorem viewUser_beyond (past : 0x800 ≤ o) : s.viewUser o = 0#64 := by
  rw [State.viewUser, if_pos (by omega)]

/-- Writes to the view are discarded. -/
theorem writeBar_userView (h width : Nat) (data : Word) (inside : o < 0x10000) :
    s.writeBar h (0xC0000 + o) width data = s := by
  rw [State.writeBar, windowAt_userView inside]

end UserView

/-- Settles O55: reads follow USER_READ of the counter's page up to offset 0x800, and writes meet a window that ignores them. -/
theorem userCounterView : Obligations.UserCounterView := by
  unfold Obligations.UserCounterView
  refine ⟨fun s h i k up page counter shown => ?shown, fun s h i k up page counter hidden => ?hidden,
    fun s h o up past inside aligned => ?past, fun s h o width data ready wide inside aligned => ?write⟩
  case shown =>
    refine errInfoRead_beyond_shows up (by omega) (by omega) ?_
    rw [view_userView _ (by omega), viewUser_counter _ page counter, fld_begin, if_pos shown, reg_begin]
  case hidden =>
    refine errInfoRead_beyond_shows up (by omega) (by omega) ?_
    rw [view_userView _ (by omega), viewUser_counter _ page counter, fld_begin, if_neg (by omega)]
  case past =>
    refine errInfoRead_beyond_shows up (by omega) (by omega) ?_
    rw [view_userView _ inside, viewUser_beyond _ past]
  case write =>
    have onLane : (0xC0000 + o) % width = 0 := by obtain rfl | rfl := wide <;> omega
    exact controlBarWrite_ignored ready ⟨wide, onLane⟩ (writeBar_userView _ h width data inside)

end Sys2Proof.Machine

/-!
PROOF. The rules of the whole machine: every command goes on, keeps its frame and keeps the tables canonical, so every step does;
which commands alone reach some parts; the step over the queue; and the state after reset.
-/
namespace Sys2Proof.Machine
set_option Elab.async false

/-! ### Every command -/

/-- The frame of every command, and that it keeps canonical tables canonical: the cases are the laws of the meanings. -/
theorem exec_evX (c : Instr) (s : State) : s.evX (exec c s) (touches c) :=
  match c with
  | .misalignedAccess _ _ _ _ => execMisalignedAccess_ev _ _ _ _ _
  | .controlBarWrite _ _ _ _ => execControlBarWrite_ev _ _ _ _ _
  | .errInfoRead _ _ _ => execErrInfoRead_ev _ _ _ _
  | .evtStsClear _ _ _ _ => execEvtStsClear_ev _ _ _ _ _
  | .evtForce _ _ _ _ => execEvtForce_ev _ _ _ _ _
  | .setMachineIndex _ _ => execSetMachineIndex_ev _ _ _
  | .setTimestamp _ _ => execSetTimestamp_ev _ _ _
  | .getTimestamp _ => execGetTimestamp_ev _ _
  | .ppsEdge => execPpsEdge_ev _
  | .ppsLost => execPpsLost_ev _
  | .deadlineFire _ => execDeadlineFire_ev _ _
  | .unalignedFire _ => execUnalignedFire_ev _ _
  | .pickBoundary => execPickBoundary_ev _
  | .tokenInstalment => execTokenInstalment_ev _
  | .downstreamSlot _ => execDownstreamSlot_ev _ _
  | .aging _ _ => execAging_ev _ _ _
  | .stall _ _ _ => execStall_ev _ _ _ _
  | .stallCleared _ => execStallCleared_ev _ _
  | .stallPersist _ => execStallPersist_ev _ _
  | .laneWake _ => execLaneWake_ev _ _
  | .wrpTemplateWrite _ _ _ _ _ _ _ => execWrpTemplateWrite_ev _ _ _ _ _ _ _ _
  | .validate _ _ => execValidate_ev _ _ _
  | .validateDone => execValidateDone_ev _
  | .wrpCntClr _ => execWrpCntClr_ev _ _
  | .sknWarpSelWrite _ _ _ _ => execSknWarpSelWrite_ev _ _ _ _ _
  | .hkpConversion _ => execHkpConversion_ev _ _
  | .thmReadmit _ _ => execThmReadmit_ev _ _ _
  | .thmCntClr _ => execThmCntClr_ev _ _
  | .hkpCntClr _ => execHkpCntClr_ev _ _
  | .thermalTrip _ => execThermalTrip_ev _ _
  | .tempHistoryMinute => execTempHistoryMinute_ev _
  | .tempHistorySave => execTempHistorySave_ev _
  | .setMediaPowerCap _ _ _ => execSetMediaPowerCap_ev _ _ _ _
  | .getMediaPowerCap _ => execGetMediaPowerCap_ev _ _
  | .hstPerstDeassert _ => execHstPerstDeassert_ev _ _
  | .hstPerstAssert _ => execHstPerstAssert_ev _ _
  | .headLinkTrained _ _ _ _ _ => execHeadLinkTrained_ev _ _ _ _ _ _
  | .headTrainingFailed _ => execHeadTrainingFailed_ev _ _
  | .headLinkDown _ => execHeadLinkDown_ev _ _
  | .headConventionalReset _ => execHeadConventionalReset_ev _ _
  | .headHotReset _ => execHeadHotReset_ev _ _
  | .headFlr _ => execHeadFlr_ev _ _
  | .d3hotEntry _ => execD3hotEntry_ev _ _
  | .d0Return _ => execD0Return_ev _ _
  | .headDisable _ _ _ => execHeadDisable_ev _ _ _ _
  | .headRetrain _ _ => execHeadRetrain_ev _ _ _
  | .headCntClr _ _ => execHeadCntClr_ev _ _ _
  | .roMgmtWrite _ _ _ => execRoMgmtWrite_ev _ _ _ _
  | .headCorrectableError _ => execHeadCorrectableError_ev _ _
  | .ideIntegrityFail _ => execIdeIntegrityFail_ev _ _
  | .ideKeyProgram _ _ _ _ => execIdeKeyProgram_ev _ _ _ _ _
  | .memRd _ _ _ => execMemRd_ev _ _ _ _
  | .memRdData _ _ _ => execMemRdData_ev _ _ _ _
  | .memSpecRd _ _ => execMemSpecRd_ev _ _ _
  | .memInv _ _ => execMemInv_ev _ _ _
  | .memInvNt _ _ => execMemInvNt_ev _ _ _
  | .memWr _ _ _ _ _ => execMemWr_ev _ _ _ _ _ _
  | .memWrPtl _ _ _ _ _ _ => execMemWrPtl_ev _ _ _ _ _ _ _
  | .invalidMemOpcode _ _ _ => execInvalidMemOpcode_ev _ _ _ _
  | .missWaitResume => execMissWaitResume_ev _
  | .dirtyWaitAdmit => execDirtyWaitAdmit_ev _
  | .cleanerWriteback => execCleanerWriteback_ev _
  | .evictionResume => execEvictionResume_ev _
  | .stagingEntry _ => execStagingEntry_ev _ _
  | .prefetchIssue _ => execPrefetchIssue_ev _ _
  | .prefetchFill _ _ => execPrefetchFill_ev _ _ _
  | .fchWaymaskWrite _ _ _ _ => execFchWaymaskWrite_ev _ _ _ _ _
  | .wayEmpty _ => execWayEmpty_ev _ _
  | .dirtyLimitWrite _ _ _ => execDirtyLimitWrite_ev _ _ _ _
  | .fchEnable _ => execFchEnable_ev _ _
  | .fchEnabled => execFchEnabled_ev _
  | .fchDisable _ => execFchDisable_ev _ _
  | .drainDone => execDrainDone_ev _
  | .fchCntClr _ => execFchCntClr_ev _ _
  | .maintWb _ _ _ => execMaintWb_ev _ _ _ _
  | .maintWbInv _ _ _ => execMaintWbInv_ev _ _ _ _
  | .maintInv _ _ _ => execMaintInv_ev _ _ _ _
  | .maintWbAll _ => execMaintWbAll_ev _ _
  | .maintInvalidOp _ _ _ _ => execMaintInvalidOp_ev _ _ _ _ _
  | .maintDone => execMaintDone_ev _
  | .groupFolded _ => execGroupFolded_ev _ _
  | .diagRead _ _ _ _ => execDiagRead_ev _ _ _ _ _
  | .diagWrite _ _ _ _ => execDiagWrite_ev _ _ _ _ _
  | .swatchCarve _ _ => execSwatchCarve_ev _ _ _
  | .carveDone => execCarveDone_ev _
  | .swatchRelease _ _ => execSwatchRelease_ev _ _ _
  | .swatchLineHandback => execSwatchLineHandback_ev _
  | .queuePacket _ _ _ => execQueuePacket_ev _ _ _ _
  | .queueReplay _ _ => execQueueReplay_ev _ _ _
  | .requestTimeout _ _ _ _ => execRequestTimeout_ev _ _ _ _ _
  | .clockDriftLinkError _ => execClockDriftLinkError_ev _ _
  | .islandFault _ => execIslandFault_ev _ _
  | .gpfPhase2Request _ => execGpfPhase2Request_ev _ _
  | .queuedFlushStart => execQueuedFlushStart_ev _
  | .flushDone _ => execFlushDone_ev _ _
  | .identify _ => execIdentify_ev _ _
  | .backgroundOperationStatus _ => execBackgroundOperationStatus_ev _ _
  | .getResponseMessageLimit _ => execGetResponseMessageLimit_ev _ _
  | .setResponseMessageLimit _ _ => execSetResponseMessageLimit_ev _ _ _
  | .getEventRecords _ _ => execGetEventRecords_ev _ _ _
  | .clearEventRecords _ _ _ _ => execClearEventRecords_ev _ _ _ _ _
  | .getEventInterruptPolicy _ => execGetEventInterruptPolicy_ev _ _
  | .setEventInterruptPolicy _ _ _ _ _ => execSetEventInterruptPolicy_ev _ _ _ _ _ _
  | .getFwInfo _ => execGetFwInfo_ev _ _
  | .transferFw _ _ _ _ _ _ _ => execTransferFw_ev _ _ _ _ _ _ _ _
  | .activateFw _ _ _ => execActivateFw_ev _ _ _ _
  | .getSupportedLogs _ => execGetSupportedLogs_ev _ _
  | .getLog _ _ _ _ => execGetLog_ev _ _ _ _ _
  | .getLogCapabilities _ _ => execGetLogCapabilities_ev _ _ _
  | .clearLog _ log => execClearLog_ev _ log _
  | .getSupportedFeatures _ => execGetSupportedFeatures_ev _ _
  | .getFeature _ _ => execGetFeature_ev _ _ _
  | .setFeature _ _ _ => execSetFeature_ev _ _ _ _
  | .identifyMemoryDevice _ => execIdentifyMemoryDevice_ev _ _
  | .getPartitionInfo _ => execGetPartitionInfo_ev _ _
  | .setPartitionInfo _ => execSetPartitionInfo_ev _ _
  | .getLsa _ _ _ => execGetLsa_ev _ _ _ _
  | .setLsa _ _ _ => execSetLsa_ev _ _ _ _
  | .getHealthInfo _ => execGetHealthInfo_ev _ _
  | .getAlertConfiguration _ => execGetAlertConfiguration_ev _ _
  | .setAlertConfiguration _ _ _ => execSetAlertConfiguration_ev _ _ _ _
  | .getShutdownState _ => execGetShutdownState_ev _ _
  | .setShutdownState _ _ => execSetShutdownState_ev _ _ _
  | .getPoisonList _ _ _ => execGetPoisonList_ev _ _ _ _
  | .injectPoison _ _ => execInjectPoison_ev _ _ _
  | .clearPoison _ _ _ => execClearPoison_ev _ _ _ _
  | .getScanMediaCapabilities _ _ _ => execGetScanMediaCapabilities_ev _ _ _ _
  | .scanMedia _ _ _ => execScanMedia_ev _ _ _ _
  | .scanMediaDone => execScanMediaDone_ev _
  | .getScanMediaResults _ => execGetScanMediaResults_ev _ _
  | .sanitize _ => execSanitize_ev _ _
  | .secureErase _ => execSecureErase_ev _ _
  | .sanitizeDone => execSanitizeDone_ev _
  | .getSldQosControl _ => execGetSldQosControl_ev _ _
  | .setSldQosControl _ _ _ _ => execSetSldQosControl_ev _ _ _ _ _
  | .getSldQosStatus _ => execGetSldQosStatus_ev _ _
  | .unsupportedOpcode _ op => execUnsupportedOpcode_ev _ op _
  | .setDomainExtent _ _ _ _ => execSetDomainExtent_ev _ _ _ _ _
  | .getDomainExtents _ => execGetDomainExtents_ev _ _
  | .getHeadStatus _ => execGetHeadStatus_ev _ _
  | .unmapDone => execUnmapDone_ev _
  | .doeDiscovery _ _ => execDoeDiscovery_ev _ _ _
  | .cdatTableAccess _ => execCdatTableAccess_ev _ _
  | .spdmGetCertificate _ _ _ => execSpdmGetCertificate_ev _ _ _ _
  | .spdmChallenge _ _ => execSpdmChallenge_ev _ _ _
  | .spdmGetMeasurements _ _ _ => execSpdmGetMeasurements_ev _ _ _ _
  | .spdmKeyExchange _ _ => execSpdmKeyExchange_ev _ _ _
  | .securedMessage _ _ _ _ => execSecuredMessage_ev _ _ _ _ _
  | .getPqSignature _ => execGetPqSignature_ev _ _
  | .respondIfReady _ => execRespondIfReady_ev _ _
  | .getPqCertificate _ _ _ => execGetPqCertificate_ev _ _ _ _
  | .setDomainKey _ _ _ _ => execSetDomainKey_ev _ _ _ _ _
  | .destroyDomainKey _ _ => execDestroyDomainKey_ev _ _ _
  | .startRekey _ _ => execStartRekey_ev _ _ _
  | .getKeyInfo _ _ => execGetKeyInfo_ev _ _ _
  | .unsealQuarantine _ _ => execUnsealQuarantine_ev _ _ _
  | .generateDomainKey _ _ _ => execGenerateDomainKey_ev _ _ _ _
  | .rekeySweepStart _ => execRekeySweepStart_ev _ _
  | .rekeySweepDone _ => execRekeySweepDone_ev _ _
  | .oldGenerationZeroize _ => execOldGenerationZeroize_ev _ _
  | .integEnWrite _ _ _ => execIntegEnWrite_ev _ _ _ _
  | .cryCntClr _ => execCryCntClr_ev _ _
  | .kveReseed _ => execKveReseed_ev _ _
  | .kveCntClr _ => execKveCntClr_ev _ _
  | .drbgReseedTimer => execDrbgReseedTimer_ev _
  | .entropyFail => execEntropyFail_ev _
  | .entropyRetest _ => execEntropyRetest_ev _ _
  | .keyVaultOpDone _ => execKeyVaultOpDone_ev _ _
  | .epochPrepare _ _ _ _ _ => execEpochPrepare_ev _ _ _ _ _ _
  | .epochCommit _ _ _ => execEpochCommit_ev _ _ _ _
  | .epochAbort _ _ _ => execEpochAbort_ev _ _ _ _
  | .getEpochStatus _ _ => execGetEpochStatus_ev _ _ _
  | .doorbellPrepare _ _ _ => execDoorbellPrepare_ev _ _ _ _
  | .doorbellCommit _ _ _ => execDoorbellCommit_ev _ _ _ _
  | .doorbellAbort _ _ _ => execDoorbellAbort_ev _ _ _ _
  | .prepareDone _ => execPrepareDone_ev _ _
  | .commitDone _ => execCommitDone_ev _ _
  | .abortDone _ _ => execAbortDone_ev _ _ _
  | .epochEnableWrite _ _ => execEpochEnableWrite_ev _ _ _
  | .epochDisableWrite _ _ => execEpochDisableWrite_ev _ _ _
  | .epochEnabled _ => execEpochEnabled_ev _ _
  | .epoCntClr _ => execEpoCntClr_ev _ _
  | .stripeTimeout _ => execStripeTimeout_ev _ _
  | .padNow _ _ => execPadNow_ev _ _ _
  | .plyAdmitOff _ _ _ => execPlyAdmitOff_ev _ _ _ _
  | .plyCntClr _ _ => execPlyCntClr_ev _ _ _
  | .mergeReadDone _ _ => execMergeReadDone_ev _ _ _
  | .upstreamFrame _ _ => execUpstreamFrame_ev _ _ _
  | .lineVerify _ => execLineVerify_ev _ _
  | .reconstructionDone _ _ => execReconstructionDone_ev _ _ _
  | .poisonTimer _ => execPoisonTimer_ev _ _
  | .downstreamFrameAccepted _ => execDownstreamFrameAccepted_ev _ _
  | .completionTimeout _ _ _ => execCompletionTimeout_ev _ _ _ _
  | .mapRecordAppend _ => execMapRecordAppend_ev _ _
  | .journalLineTimeout => execJournalLineTimeout_ev _
  | .journalLineDurable => execJournalLineDurable_ev _
  | .checkpointRecordCount => execCheckpointRecordCount_ev _
  | .checkpointPeriod => execCheckpointPeriod_ev _
  | .ckptNow _ => execCkptNow_ev _ _
  | .mapCntClr _ => execMapCntClr_ev _ _
  | .checkpointDone => execCheckpointDone_ev _
  | .mapFill _ _ _ => execMapFill_ev _ _ _ _
  | .mapDirtyWaitResume => execMapDirtyWaitResume_ev _
  | .mapCleaner => execMapCleaner_ev _
  | .mapPrefetch _ => execMapPrefetch_ev _ _
  | .mapPrefetchDrop _ => execMapPrefetchDrop_ev _ _
  | .sgGapMove _ _ => execSgGapMove_ev _ _ _
  | .gapMoveDone _ _ => execGapMoveDone_ev _ _ _
  | .dirRebuildDone _ => execDirRebuildDone_ev _ _
  | .lineMapLoaded => execLineMapLoaded_ev _
  | .journalReplayDone _ => execJournalReplayDone_ev _ _
  | .openBoltScanDone _ => execOpenBoltScanDone_ev _ _
  | .recoveryDone => execRecoveryDone_ev _
  | .ageProbe _ _ => execAgeProbe_ev _ _ _
  | .ageProbeDone _ _ _ => execAgeProbeDone_ev _ _ _ _
  | .wringVictimSelect _ => execWringVictimSelect_ev _ _
  | .staticSwapStart _ => execStaticSwapStart_ev _ _
  | .pressVictimSelect _ => execPressVictimSelect_ev _ _
  | .selvageRefresh _ _ _ => execSelvageRefresh_ev _ _ _ _
  | .boltResetStart _ _ => execBoltResetStart_ev _ _ _
  | .paceResume _ => execPaceResume_ev _ _
  | .recountDone _ _ _ => execRecountDone_ev _ _ _ _
  | .rinsePeriod => execRinsePeriod_ev _
  | .rinseNow _ => execRinseNow_ev _ _
  | .rinsePassDone => execRinsePassDone_ev _
  | .upkCntClr _ => execUpkCntClr_ev _ _
  | .upkBoltHiRead _ => execUpkBoltHiRead_ev _ _
  | .darnMetaDone _ => execDarnMetaDone_ev _ _
  | .darnDone _ => execDarnDone_ev _ _
  | .testStart => execTestStart_ev _
  | .testDone _ _ _ => execTestDone_ev _ _ _ _
  | .engineTakeback _ => execEngineTakeback_ev _ _
  | .aesKat _ _ _ => execAesKat_ev _ _ _ _
  | .testRequest _ _ _ => execTestRequest_ev _ _ _ _
  | .fltUndo _ => execFltUndo_ev _ _
  | .fltCntClr _ => execFltCntClr_ev _ _
  | .injEnWrite _ _ => execInjEnWrite_ev _ _ _
  | .injArm _ _ _ _ _ => execInjArm_ev _ _ _ _ _ _
  | .injDisarm _ => execInjDisarm_ev _ _
  | .quarantineRelease _ _ => execQuarantineRelease_ev _ _ _
  | .queueSelWrite _ _ => execQueueSelWrite_ev _ _ _
  | .mrstDeassert _ => execMrstDeassert_ev _ _
  | .mrstPulse _ _ => execMrstPulse_ev _ _ _
  | .mrstPulseEnd _ => execMrstPulseEnd_ev _ _
  | .brdRstDeassert => execBrdRstDeassert_ev _
  | .trainingStepDone _ _ => execTrainingStepDone_ev _ _ _
  | .trainingStepTimeout _ => execTrainingStepTimeout_ev _ _
  | .retrainDone _ _ => execRetrainDone_ev _ _ _
  | .skeinOutTimeout _ => execSkeinOutTimeout_ev _ _
  | .sknRetrain _ _ => execSknRetrain_ev _ _ _
  | .sknFullRetrain _ _ => execSknFullRetrain_ev _ _ _
  | .sknPkgReset _ _ => execSknPkgReset_ev _ _ _
  | .sknCntClr _ _ => execSknCntClr_ev _ _ _
  | .sidebandResponse _ _ _ => execSidebandResponse_ev _ _ _ _
  | .sidebandTimeout _ => execSidebandTimeout_ev _ _
  | .tempPoll => execTempPoll_ev _
  | .standbyPowerOn _ => execStandbyPowerOn_ev _ _
  | .standbyPowerLoss => execStandbyPowerLoss_ev _
  | .powerUpStart => execPowerUpStart_ev _
  | .railQualified => execRailQualified_ev _
  | .railSettled => execRailSettled_ev _
  | .chatter => execChatter_ev _
  | .stepTimeout => execStepTimeout_ev _
  | .railLost _ => execRailLost_ev _ _
  | .retryStart => execRetryStart_ev _
  | .railOff _ => execRailOff_ev _ _
  | .railStuck _ => execRailStuck_ev _ _
  | .offHoldEnd => execOffHoldEnd_ev _
  | .seqUpInFall => execSeqUpInFall_ev _
  | .seqUpInRise => execSeqUpInRise_ev _
  | .seqDnInRise => execSeqDnInRise_ev _
  | .cascadeTimeout => execCascadeTimeout_ev _
  | .localOff _ _ => execLocalOff_ev _ _ _
  | .powerFail => execPowerFail_ev _
  | .devReset _ _ => execDevReset_ev _ _ _
  | .devResetDone => execDevResetDone_ev _
  | .pwrCntClr _ => execPwrCntClr_ev _ _
  | .firmwareRunning => execFirmwareRunning_ev _
  | .memoryActive => execMemoryActive_ev _
  | .pldmRequestUpdate _ _ => execPldmRequestUpdate_ev _ _ _
  | .pldmFirmwareData _ _ _ => execPldmFirmwareData_ev _ _ _ _
  | .pldmDataTimeout => execPldmDataTimeout_ev _
  | .pldmActivateFirmware _ => execPldmActivateFirmware_ev _ _
  | .recoveryDoeTransfer _ _ _ => execRecoveryDoeTransfer_ev _ _ _ _
  | .imageCopyDone _ => execImageCopyDone_ev _ _
  | .scheduleFwActivation _ _ _ _ _ => execScheduleFwActivation_ev _ _ _ _ _ _
  | .cancelScheduledActivation _ => execCancelScheduledActivation_ev _ _
  | .activationImageLoaded _ => execActivationImageLoaded_ev _ _
  | .activationPauseEnd _ => execActivationPauseEnd_ev _ _
  | .selfCheckDone _ => execSelfCheckDone_ev _ _
  | .confirmFw _ => execConfirmFw_ev _ _
  | .confirmDeadline => execConfirmDeadline_ev _
  | .deadlineNear => execDeadlineNear_ev _
  | .watchdog => execWatchdog_ev _
  | .applyConfigurationBundle _ _ => execApplyConfigurationBundle_ev _ _ _
  | .fwuRecovery _ _ => execFwuRecovery_ev _ _ _
  | .fwuCntClr _ => execFwuCntClr_ev _ _
  | .mctpMessage _ _ => execMctpMessage_ev _ _ _
  | .i3cCcc _ _ _ => execI3cCcc_ev _ _ _ _
  | .readEventRecorder _ _ _ => execReadEventRecorder_ev _ _ _ _
  | .clearEventRecorder _ => execClearEventRecorder_ev _ _
  | .eventRecordWrite => execEventRecordWrite_ev _
  | .repeatWriteback => execRepeatWriteback_ev _
  | .evrCntClr _ => execEvrCntClr_ev _ _
  | .msixSend _ _ => execMsixSend_ev _ _ _
  | .ntnScrub _ _ _ => execNtnScrub_ev _ _ _ _
  | .scrubNow _ => execScrubNow_ev _ _
  | .scrubDone => execScrubDone_ev _
  | .ntnCntClr _ => execNtnCntClr_ev _ _
  | .optimeTick => execOptimeTick_ev _
  | .pmcFreezeWrite _ _ => execPmcFreezeWrite_ev _ _ _
  | .pmcOverflow _ _ _ => execPmcOverflow_ev _ _ _ _
  | .pmcCntClr _ _ => execPmcCntClr_ev _ _ _
  | .cpmuConfigWrite _ _ _ _ _ _ _ => execCpmuConfigWrite_ev _ _ _ _ _ _ _ _
  | .jtagInstructionLoad _ => execJtagInstructionLoad_ev _ _
  | .jtagExtestExit => execJtagExtestExit_ev _
  | .hdmDecoderCommit _ _ _ _ _ _ _ _ _ => execHdmDecoderCommit_ev _ _ _ _ _ _ _ _ _ _
  | .firstFormatDone => execFirstFormatDone_ev _
  | .headLinkRecovery _ => execHeadLinkRecovery_ev _ _
  | .msixControlWrite _ _ _ => execMsixControlWrite_ev _ _ _ _

theorem execMisalignedAccess_goesOn (h : Nat) (write : Bool) (off width : Nat) (s : State) :
    ∃ t, execMisalignedAccess h write off width s = .next t := by
  unfold execMisalignedAccess done
  dsimp only
  split
  · exact ⟨_, rfl⟩
  · split <;> exact ⟨_, rfl⟩

theorem execControlBarWrite_goesOn (h off width : Nat) (data : BitVec 64) (s : State) :
    ∃ t, execControlBarWrite h off width data s = .next t := by
  unfold execControlBarWrite done
  dsimp only
  split
  · exact ⟨_, rfl⟩
  · split
    · exact ⟨_, rfl⟩
    · split <;> exact ⟨_, rfl⟩

theorem execPldmRequestUpdate_goesOn (port size : Nat) (s : State) : ∃ t, execPldmRequestUpdate port size s = .next t := by
  unfold execPldmRequestUpdate done
  split <;> exact ⟨_, rfl⟩

theorem execClearEventRecorder_goesOn (src : ClearSource) (s : State) : ∃ t, execClearEventRecorder src s = .next t := by
  cases src <;> exact ⟨_, rfl⟩

theorem execHdmDecoderCommit_goesOn (h i : Nat) (base size : BitVec 64) (ways gran : Nat) (dpaBase skip : BitVec 64)
    (lock : Bool) (s : State) : ∃ t, execHdmDecoderCommit h i base size ways gran dpaBase skip lock s = .next t := by
  unfold execHdmDecoderCommit done
  dsimp only
  split
  · exact ⟨_, rfl⟩
  · split <;> exact ⟨_, rfl⟩

/-- No command stops: the meaning of all but five is `done` of a state, and those five are `done` in each of their branches. -/
theorem exec_goesOn (c : Instr) (s : State) : ∃ t, exec c s = .next t := by
  cases c
  case misalignedAccess => exact execMisalignedAccess_goesOn ..
  case controlBarWrite => exact execControlBarWrite_goesOn ..
  case pldmRequestUpdate => exact execPldmRequestUpdate_goesOn ..
  case clearEventRecorder => exact execClearEventRecorder_goesOn ..
  case hdmDecoderCommit => exact execHdmDecoderCommit_goesOn ..
  all_goals exact ⟨_, rfl⟩

/-- No command has the queue of waiting commands in its frame. -/
theorem pending_not_touched (c : Instr) : Piece.pending ∉ touches c := by
  cases c <;> simp [touches]

/-- Settles O37: the frames of the meanings, none of which holds the queue. -/
theorem everyCommandKeepsItsFrame : Obligations.EveryCommandKeepsItsFrame := by
  unfold Obligations.EveryCommandKeepsItsFrame
  exact ⟨fun c s t run => (exec_evX c s t run).1,
    fun c s t run => ((exec_evX c s t run).1 .pending).resolve_left (pending_not_touched c)⟩

/-! ### Every step -/

/-- A step on an empty queue is a tick, which stops nothing. -/
theorem step_goesOn (s : State) : s.goesOn := by
  unfold State.goesOn step
  split
  · exact ⟨_, rfl⟩
  · exact exec_goesOn _ _

theorem safeFor_any (n : Nat) (s : State) : s.safeFor n := by
  induction n generalizing s with
  | zero => trivial
  | succ n ih =>
    obtain ⟨t, run⟩ := step_goesOn s
    exact ⟨t, run, ih t⟩

/-- Settles O36: a command goes on, so a step does, and any number of steps by induction. -/
theorem everyCommandGoesOn : Obligations.EveryCommandGoesOn := by
  unfold Obligations.EveryCommandGoesOn
  exact ⟨exec_goesOn, safeFor_any⟩

/-- Settles O34: the queue's front command is what `step` runs. -/
theorem stepRunsTheFrontCommand : Obligations.StepRunsTheFrontCommand := by
  unfold Obligations.StepRunsTheFrontCommand
  intro s c rest front
  rw [step, front]

/-- A tick writes the time bases and the outputs, where no table is. -/
theorem wf_tick (s : State) : s.tick.wf = s.wf := by
  unfold State.tick
  split <;> rfl

/-- Settles O38: taking a command off the queue and ticking reach no table, and every command keeps them canonical. -/
theorem stepKeepsTablesCanonical : Obligations.StepKeepsTablesCanonical := by
  unfold Obligations.StepKeepsTablesCanonical
  intro s t wf run
  unfold step at run
  split at run
  case h_1 =>
    cases run
    rw [wf_tick, wf]
  case h_2 c rest front =>
    have taken : ({ s with pending := rest } : State).wf = true := wf
    exact (exec_evX c _ t run).2 taken

/-! ### The idle step (R29, R31) -/

section Idle

variable {s : State}

theorem step_idle (empty : s.pending = []) : step s = .next s.tick := by
  rw [step, empty]

theorem time_tick_stby (on : s.pwr.stby = true) :
    s.tick.time = if s.pwr.coreOn then s.time.advance.advanceCore else s.time.advance := by
  rw [State.tick, if_pos on]

/-- A tick reaches nothing but the time bases and the outputs. -/
theorem keeps_tick (s : State) : s.keeps s.tick [.time, .out] := by
  unfold State.tick
  intro p
  split <;> cases p <;> first | exact .inl (by decide) | exact .inr rfl | exact .inr ⟨rfl, rfl⟩

/-- Without standby power the time bases stand too. -/
theorem keeps_tick_off (off : s.pwr.stby = false) : s.keeps s.tick [.out] := by
  rw [State.tick, off]
  intro p
  cases p <;> first | exact .inl (by decide) | exact .inr rfl | exact .inr ⟨rfl, rfl⟩

/-! The slot counter is apart from DEVTIME. -/

theorem devtime_advanceCore (t : Time) : t.advanceCore.devtime = t.devtime := by
  unfold Time.advanceCore
  split <;> rfl

theorem slewLeft_advanceCore (t : Time) : t.advanceCore.slewLeft = t.slewLeft := by
  unfold Time.advanceCore
  split <;> rfl

theorem slot_advance (t : Time) : t.advance.slot = t.slot := by
  unfold Time.advance
  split <;> rfl

theorem pick_advance (t : Time) : t.advance.pick = t.pick := by
  unfold Time.advance
  split <;> rfl

theorem devtime_tick (on : s.pwr.stby = true) : s.tick.time.devtime = s.time.advance.devtime := by
  rw [time_tick_stby on]
  split
  · exact devtime_advanceCore _
  · rfl

theorem slewLeft_tick (on : s.pwr.stby = true) : s.tick.time.slewLeft = s.time.advance.slewLeft := by
  rw [time_tick_stby on]
  split
  · exact slewLeft_advanceCore _
  · rfl

theorem devtime_advance_steady {t : Time} (steady : t.slewLeft = 0) : t.advance.devtime = (t.devtime + 40) % 2 ^ 64 := by
  rw [Time.advance, if_pos steady]

/-- R31: while it is slewed, DEVTIME gains at most 1 ns more or less than the 40 ns of the period. -/
theorem devtime_advance_slewed {t : Time} (slewed : 0 < t.slewLeft) :
    t.advance.devtime = (t.devtime + 39) % 2 ^ 64 ∨ t.advance.devtime = (t.devtime + 40) % 2 ^ 64 ∨
      t.advance.devtime = (t.devtime + 41) % 2 ^ 64 := by
  rw [Time.advance, if_neg (Nat.ne_of_gt slewed)]
  dsimp only
  split
  · left; omega
  · split <;> right
    · right; omega
    · left; omega

theorem slewLeft_advance_slewed {t : Time} (slewed : 0 < t.slewLeft) : t.advance.slewLeft + 1 = t.slewLeft := by
  rw [Time.advance, if_neg (Nat.ne_of_gt slewed)]
  exact Nat.sub_add_cancel slewed

/-- R29: 128 slots make a Pick. -/
theorem slots_advanceCore {t : Time} (slot : t.slot < 128) :
    t.advanceCore.pick * 128 + t.advanceCore.slot = t.pick * 128 + t.slot + 1 ∧ t.advanceCore.slot < 128 := by
  unfold Time.advanceCore
  split <;> dsimp only <;> omega

end Idle

/-- Settles O35: a step on an empty queue is a tick. -/
theorem idleStepIsOneReferencePeriod : Obligations.IdleStepIsOneReferencePeriod := by
  unfold Obligations.IdleStepIsOneReferencePeriod
  refine ⟨fun s empty on steady => ⟨_, step_idle empty, ?steady, keeps_tick s⟩,
    fun s empty on slewed => ⟨_, step_idle empty, ?left, ?slewed⟩,
    fun s empty on slot => ⟨_, step_idle empty, ?slots⟩, fun s empty off => ⟨_, step_idle empty, keeps_tick_off off⟩⟩
  case steady => rw [devtime_tick on, devtime_advance_steady steady]
  case left => rw [slewLeft_tick on, slewLeft_advance_slewed slewed]
  case slewed =>
    rw [devtime_tick on]
    exact devtime_advance_slewed slewed
  case slots =>
    unfold State.slotAbs
    rw [time_tick_stby on]
    have slot' : s.time.advance.slot < 128 := by rwa [slot_advance]
    split
    · obtain ⟨slots, below⟩ := slots_advanceCore slot'
      rw [slots, pick_advance, slot_advance]
      exact ⟨rfl, below⟩
    · rw [pick_advance, slot_advance]
      exact ⟨rfl, slot⟩

/-! ### Which commands alone change a part -/

/-- A part that a command changed is in its frame. -/
theorem mem_touches_of_changed {c : Instr} {s t : State} {p : Piece} (run : exec c s = .next t) (changed : ¬ p.same s t) :
    p ∈ touches c :=
  ((exec_evX c s t run).1 p).resolve_right changed

theorem mem_touches_time {c : Instr} (touched : Piece.time ∈ touches c) :
    c ∈ [.ppsEdge, .ppsLost, .standbyPowerLoss, .railSettled, .chatter, .stepTimeout, .seqDnInRise, .cascadeTimeout, .powerFail,
      .devResetDone] ∨ (∃ x1 x2, c = .setTimestamp x1 x2) ∨ (∃ x1, c = .flushDone x1) ∨ (∃ x1, c = .standbyPowerOn x1) ∨
      (∃ x1, c = .railLost x1) := by
  cases c <;> simp [touches] at touched ⊢

theorem mem_touches_pop {c : Instr} (touched : Piece.pop ∈ touches c) :
    c ∈ [.sanitizeDone, .firstFormatDone] ∨ (∃ x1 x2, c = .trainingStepDone x1 x2) := by
  cases c <;> simp [touches] at touched ⊢

theorem mem_touches_xq {c : Instr} (touched : Piece.xq ∈ touches c) :
    c ∈ [.standbyPowerLoss, .railSettled, .chatter, .stepTimeout, .seqDnInRise, .cascadeTimeout, .powerFail] ∨
      (∃ x1, c = .hstPerstAssert x1) ∨ (∃ x1, c = .headLinkDown x1) ∨ (∃ x1, c = .headConventionalReset x1) ∨
      (∃ x1, c = .headHotReset x1) ∨ (∃ x1 x2 x3, c = .headDisable x1 x2 x3) ∨ (∃ x1, c = .ideIntegrityFail x1) ∨
      (∃ x1 x2 x3, c = .queuePacket x1 x2 x3) ∨ (∃ x1 x2, c = .queueReplay x1 x2) ∨ (∃ x1, c = .flushDone x1) ∨
      (∃ x1, c = .railLost x1) := by
  cases c <;> simp [touches] at touched ⊢

theorem mem_touches_thm {c : Instr} (touched : Piece.thm ∈ touches c) :
    c ∈ [.pickBoundary, .tempHistoryMinute, .standbyPowerLoss, .railSettled, .chatter, .stepTimeout, .seqDnInRise,
      .cascadeTimeout, .powerFail] ∨ (∃ x1, c = .hkpConversion x1) ∨ (∃ x1 x2, c = .thmReadmit x1 x2) ∨
      (∃ x1, c = .thermalTrip x1) ∨ (∃ x1 x2 x3, c = .setMediaPowerCap x1 x2 x3) ∨ (∃ x1, c = .flushDone x1) ∨
      (∃ x1 x2, c = .trainingStepDone x1 x2) ∨ (∃ x1 x2, c = .retrainDone x1 x2) ∨
      (∃ x1 x2 x3, c = .sidebandResponse x1 x2 x3) ∨ (∃ x1, c = .sidebandTimeout x1) ∨ (∃ x1, c = .railLost x1) := by
  cases c <;> simp [touches] at touched ⊢

theorem mem_touches_side {c : Instr} (touched : Piece.side ∈ touches c) :
    c ∈ [.standbyPowerLoss, .railSettled, .chatter, .stepTimeout, .seqDnInRise, .cascadeTimeout, .powerFail, .devResetDone,
      .firmwareRunning, .jtagExtestExit] ∨ (∃ x1, c = .flushDone x1) ∨ (∃ x1, c = .railLost x1) ∨
      (∃ x1 x2 x3, c = .i3cCcc x1 x2 x3) ∨ (∃ x1, c = .jtagInstructionLoad x1) := by
  cases c <;> simp [touches] at touched ⊢

theorem mem_touches_route {c : Instr} (touched : Piece.route ∈ touches c) :
    c ∈ [.standbyPowerLoss, .railSettled, .chatter, .stepTimeout, .seqDnInRise, .cascadeTimeout, .powerFail] ∨
      (∃ x1 x2 x3 x4, c = .controlBarWrite x1 x2 x3 x4) ∨ (∃ x1, c = .flushDone x1) ∨ (∃ x1, c = .railLost x1) := by
  cases c <;> simp [touches] at touched ⊢

/-- Settles O41: a part that changed is in the command's frame, and the commands named are those whose frame holds it. -/
theorem onlyTheseCommandsChange : Obligations.OnlyTheseCommandsChange := by
  unfold Obligations.OnlyTheseCommandsChange
  refine ⟨fun c s t run changed => mem_touches_time (mem_touches_of_changed (p := .time) run changed),
    fun c s t run changed => mem_touches_pop (mem_touches_of_changed (p := .pop) run ?pop),
    fun c s t run changed => mem_touches_xq (mem_touches_of_changed (p := .xq) run changed),
    fun c s t run changed => mem_touches_thm (mem_touches_of_changed (p := .thm) run changed),
    fun c s t run changed => mem_touches_side (mem_touches_of_changed (p := .side) run changed),
    fun c s t run changed => mem_touches_route (mem_touches_of_changed (p := .route) run changed)⟩
  case pop => exact fun ⟨sameP, sameD⟩ => changed.elim (· sameP) (· sameD)

/-! ### Reset -/

/-- Settles O39: at reset no table lists anything. -/
theorem resetIsCanonical : Obligations.ResetIsCanonical := by
  unfold Obligations.ResetIsCanonical
  decide

end Sys2Proof.Machine

/-!
PROOF. Where the registers of a page lie (R550), and the state after reset.
-/
namespace Sys2Proof.Machine
set_option Elab.async false

/-! ### The pages of Table 17-1 -/

theorem pageAt_single {b : Block} {o : Nat} (single : b.pages = 1) (inside : o < 0x1000) :
    pageAt (b.base + o) = some (b, 0, o) := by
  have row : (b.base + o) / 0x1000 = b.base / 0x1000 := by
    cases b <;> simp only [Block.base] <;> omega
  have low : b.base + o < 0x10000 := by
    cases b <;> simp only [Block.base, Block.pages] at single ⊢ <;> omega
  unfold pageAt
  rw [if_pos low, row]
  cases b <;> simp only [Block.pages] at single <;>
    simp [Block.base, Block.pages, Nat.mod_eq_of_lt inside, Nat.div_eq_of_lt inside] <;> omega

/-- Beyond the single pages a range of 64 KiB or more belongs to one block, whose page the offset in the range gives. -/
theorem pageAt_range {b : Block} {off : Nat} (several : b.pages ≠ 1) (lo : b.base ≤ off)
    (hi : (off - b.base) / 0x1000 < b.pages) : pageAt off = some (b, (off - b.base) / 0x1000, off % 0x1000) := by
  have found : pageAt off =
      if b.base ≤ off ∧ (off - b.base) / 0x1000 < b.pages then some (b, (off - b.base) / 0x1000, off % 0x1000) else none := by
    unfold pageAt
    cases b
    case hst =>
      change 0x10000 ≤ off at lo
      change (off - 0x10000) / 0x1000 < 8 at hi
      rw [if_neg (by omega), if_pos (by omega)]
    case ply =>
      change 0x20000 ≤ off at lo
      change (off - 0x20000) / 0x1000 < 8 at hi
      rw [if_neg (by omega), if_neg (by omega), if_pos (by omega)]
    case pmc =>
      change 0x30000 ≤ off at lo
      change (off - 0x30000) / 0x1000 < 4 at hi
      rw [if_neg (by omega), if_neg (by omega), if_neg (by omega), if_pos (by omega)]
    case skn =>
      change 0x40000 ≤ off at lo
      change (off - 0x40000) / 0x1000 < 128 at hi
      rw [if_neg (by omega), if_neg (by omega), if_neg (by omega), if_neg (by omega), if_pos (by omega)]
    all_goals exact absurd rfl several
  rw [found, if_pos ⟨lo, hi⟩]

/-- A page's own offsets lead back to it. -/
theorem pageAt_page {b : Block} {i o : Nat} (page : i < b.pages) (inside : o < 0x1000) :
    pageAt (b.base + i * 0x1000 + o) = some (b, i, o) := by
  by_cases single : b.pages = 1
  · obtain rfl : i = 0 := by omega
    rw [Nat.zero_mul, Nat.add_zero]
    exact pageAt_single single inside
  · have number : (b.base + i * 0x1000 + o - b.base) / 0x1000 = i := by omega
    have inPage : (b.base + i * 0x1000 + o) % 0x1000 = o := by
      cases b <;> simp only [Block.base] <;> omega
    rw [pageAt_range single (by omega) (by rwa [number]), number, inPage]

/-! ### The state after reset -/

/-- No register table gives an EVT_STS a reset value. -/
theorem fieldsAt_evtSts (b : Block) (i : Nat) : ∃ fs, fieldsAt b i 0x20 = some fs ∧ resetOf fs = 0 := by
  cases b <;> exact ⟨_, rfl, rfl⟩

/-- EVT_STS is not among the registers whose reset value is given by reference. -/
theorem specialReset_evtSts (e : Evt) : specialReset e.stsOff = none := by
  have inPage : e.stsOff % 0x1000 = 0x20 := by
    have base : e.blk.base % 0x1000 = 0 := by cases e.blk <;> rfl
    unfold Evt.stsOff
    omega
  unfold specialReset
  rw [if_neg (by omega), if_neg (by omega), if_neg (by omega)]

theorem regReset_evtSts {e : Evt} (page : e.inst < e.blk.pages) : regReset e.stsOff = 0#64 := by
  obtain ⟨fs, fields, zero⟩ := fieldsAt_evtSts e.blk e.inst
  have at_ : pageAt e.stsOff = some (e.blk, e.inst, 0x20) := pageAt_page page (by decide)
  unfold regReset
  rw [specialReset_evtSts, at_]
  dsimp only
  rw [fields]
  dsimp only
  rw [zero]

theorem reg_reset (off : Nat) : State.reset.reg off = regReset off := by
  unfold State.reg
  split <;> rfl

/-- Settles O40: the stores are empty at reset, so a register holds its reset value, which no EVT_STS has. -/
theorem resetValues : Obligations.ResetValues := by
  unfold Obligations.ResetValues
  refine ⟨by decide, by decide, fun e page bit set => ?_⟩
  rw [State.evtSet, reg_reset, regReset_evtSts page] at set
  simp at set

end Sys2Proof.Machine

/-!
PROOF. The scope chapter's accesses to the control BAR, case by case (R4, R6, R7, R551, R556, R557).
-/
namespace Sys2Proof.Machine
set_option Elab.async false

/-! ### Pages, read backwards -/

/-- An offset is its page's base and what is left of it. -/
theorem eq_of_pageAt {off i o : Nat} {b : Block} (page : pageAt off = some (b, i, o)) :
    off = b.base + i * 0x1000 + o ∧ i < b.pages ∧ o < 0x1000 := by
  have inPage {c : Block} (aligned : c.base % 0x1000 = 0)
      (found : (if c.base ≤ off ∧ (off - c.base) / 0x1000 < c.pages then
        some (c, (off - c.base) / 0x1000, off % 0x1000) else none) = some (b, i, o)) :
      off = b.base + i * 0x1000 + o ∧ i < b.pages ∧ o < 0x1000 := by
    split at found
    next inside =>
      obtain ⟨rfl, rfl, rfl⟩ : c = b ∧ (off - c.base) / 0x1000 = i ∧ off % 0x1000 = o := by simpa using found
      omega
    next => cases found
  unfold pageAt at page
  dsimp only at page
  split at page
  · split at page <;> exact inPage rfl page
  · split at page
    · exact inPage rfl page
    · split at page
      · exact inPage rfl page
      · split at page
        · exact inPage rfl page
        · split at page
          · exact inPage rfl page
          · cases page

/-! ### The access errors -/

/-- TOP_ERR_INFO takes the reason of the access error. -/
theorem reason_accessErr {s : State} (h width off : Nat) (write : Bool) (wf : s.wf = true) :
    getBits ((s.accessErr h write width off 1).reg 0x38) 11 8 = 1 := by
  rw [State.accessErr, getBits_info s Ev.topAccessErr _ _ 0x38 11 8 wf rfl (by decide) (by decide) (by decide)]
  unfold accessErrInfo
  omega

theorem exec_misalignedAccess_misaligned {s : State} {h width off : Nat} (write : Bool) (up : s.ioUp h = true)
    (bad : ¬ ((width = 4 ∨ width = 8) ∧ off % width = 0)) :
    exec (.misalignedAccess h write off width) s = .next (if write then s.begin.accessErr h write width off 1
      else (s.begin.accessErr h write width off 1).emit (.barData h (BitVec.allOnes 64))) := by
  have up' : s.begin.ioUp h = true := up
  change execMisalignedAccess h write off width s = _
  unfold execMisalignedAccess
  simp only [up', Bool.not_true, Bool.false_eq_true, if_false, if_neg bad, done]

/-! ### Writes of a whole register -/

section WholeRegister

variable {s : State} {h off i o : Nat} {b : Block} (data : Word)

/-- A write of 64 bits addresses the whole register. -/
theorem laneData_whole : laneData off 8 data = data := BitVec.and_allOnes

theorem laneMask_whole : laneMask off 8 = BitVec.allOnes 64 := rfl

theorem whole_base (aligned : off % 8 = 0) : off / 8 * 8 = off := Nat.div_mul_cancel (Nat.dvd_of_mod_eq_zero aligned)

/-- R551, R598: the field rules decide what a register of a common page takes. -/
theorem writeBar_whole {fs : List FieldDef} (aligned : off % 8 = 0) (noWindow : windowAt off = none)
    (page : pageAt off = some (b, i, o)) (notHst : b ≠ .hst) (notCfg : ¬ (b = .epo ∧ o = 0x130)) (notEn : o ≠ 0x28)
    (fields : fieldsAt b i o = some fs)
    (order : orderOk s off (writeFields fs (s.reg off) data (BitVec.allOnes 64)) = true) :
    s.writeBar h off 8 data = s.setReg off (writeFields fs (s.reg off) data (BitVec.allOnes 64)) := by
  unfold State.writeBar
  rw [noWindow, whole_base aligned]
  dsimp only
  rw [page, laneData_whole, laneMask_whole]
  dsimp only
  unfold State.writePage
  rw [if_neg (notHst ·.1), if_neg notCfg, fields]
  dsimp only
  rw [if_pos order, if_neg notEn]

/-- A register that was set is the only one that changed. -/
theorem keepsRegs_setReg (s : State) (off : Nat) (v : Word) : s.keepsRegs (s.setReg off v) [off] :=
  fun off' => (Decidable.em (off' = off)).imp (List.mem_singleton.mpr) (reg_setReg_other s _ _ v)

/-- R557: a read of ERR_INFO latches its upper half and ERR_ADDR. -/
theorem exec_errInfoRead_whole (up : s.ioUp h = true) (aligned : off % 8 = 0) (notHst : b ≠ .hst)
    (page : pageAt off = some (b, i, 0x38)) :
    exec (.errInfoRead h off 8) s = .next ((s.begin.setHead h { s.head h with
      latch := Tab.set (fun _ => none) (s.head h).latch (off - 0x38)
        (some ((s.reg off).extractLsb' 32 32, s.reg (off + 8))) }).emit (.barData h (s.reg off))) := by
  change execErrInfoRead h off 8 s = _
  unfold execErrInfoRead
  rw [barRead_ready up, if_neg (by omega)]
  rw [whole_base aligned]
  dsimp only
  rw [page]
  simp only []
  rw [if_neg (notHst ·.1), if_neg (fun h4 => absurd h4.1 (by decide))]
  rfl

theorem exec_evtStsClear_whole (ready : s.barReady h) (aligned : off % 8 = 0) (notHst : b ≠ .hst)
    (page : pageAt off = some (b, i, 0x20)) :
    exec (.evtStsClear h off 8 data) s = .next (s.begin.setReg off (s.reg off &&& ~~~data)) := by
  change execEvtStsClear h off 8 data s = _
  unfold execEvtStsClear
  rw [barWrite_ready ready]
  rw [whole_base aligned]
  dsimp only
  rw [page, laneData_whole]
  simp only []
  rw [if_neg (notHst ·.1)]
  rfl

theorem exec_evtForce_whole (ready : s.barReady h) (aligned : off % 8 = 0) (notHst : b ≠ .hst)
    (page : pageAt off = some (b, i, 0x30)) :
    exec (.evtForce h off 8 data) s = .next (s.begin.forceBits b i data b.eventBits) := by
  change execEvtForce h off 8 data s = _
  unfold execEvtForce
  rw [barWrite_ready ready]
  rw [whole_base aligned]
  dsimp only
  rw [page, laneData_whole]
  simp only []
  rw [if_neg (notHst ·.1)]
  rfl

end WholeRegister

/-! ### Forced events (R556) -/

section Forced

variable {s : State}

/-- A forced event touches no register but its EVT_STS and EVR_CNT: nothing is captured. -/
theorem reg_force_other (e : Evt) {off : Nat} (other : off ≠ e.stsOff) (notCnt : off ≠ 0x5130) :
    (s.force e).reg off = s.reg off := by
  rw [State.force, reg_recordEvt_other _ _ _ _ _ _ notCnt, reg_setEvtBit_other _ _ _ other]

theorem reg_force_sts (e : Evt) (wf : s.wf = true) : (s.force e).reg e.stsOff = s.reg e.stsOff ||| (1#64 <<< e.bit) := by
  rw [State.force, reg_recordEvt_other _ _ _ _ _ _ (stsOff_ne_cnt e), reg_setEvtBit_same _ _ wf]

theorem wf_forceBits (wf : s.wf = true) (b : Block) (i : Nat) (d : Word) (n : Nat) : (s.forceBits b i d n).wf = true :=
  (State.forceBits_ev s b i d n).2 wf

theorem reg_forceBits_other (b : Block) (i : Nat) (d : Word) (n : Nat) {off : Nat}
    (other : off ≠ b.base + i * 0x1000 + 0x20) (notCnt : off ≠ 0x5130) : (s.forceBits b i d n).reg off = s.reg off := by
  induction n with
  | zero => rfl
  | succ n ih =>
    unfold State.forceBits
    dsimp only
    split
    · rw [reg_force_other _ other notCnt, ih]
    · exact ih

/-- The field of one bit. -/
theorem getBits_bit {d : Word} {k : Nat} (small : k < 64) (set : d.getLsbD k = true) : getBits d k k = 1 := by
  have bits := getBits_putBits_same d k k 1 (Nat.le_refl k) small (by simp)
  rw [← bits]
  refine getBits_eq_of_bits (Nat.le_refl k) small fun i lo hi => ?_
  obtain rfl : i = k := by omega
  rw [getLsbD_putBits _ _ _ _ _ (Nat.le_refl i) small small, if_pos ⟨lo, hi⟩, set, Nat.sub_self]
  rfl

/-- Every written bit of an implemented event is set, and stays so while the others are forced. -/
theorem evtSet_forceBits {b : Block} {i k : Nat} {d : Word} {n : Nat} (wf : s.wf = true) (below : k < n) (small : k < 64)
    (set : d.getLsbD k = true) (forceable : ¬ (b = .skn ∧ k = 7)) : (s.forceBits b i d n).evtSet ⟨b, i, k⟩ := by
  induction n with
  | zero => exact absurd below (Nat.not_lt_zero k)
  | succ n ih =>
    have wf' := wf_forceBits wf b i d n
    unfold State.forceBits
    dsimp only
    by_cases last : k = n
    · subst last
      rw [if_pos ⟨getBits_bit small set, by simpa [imp_iff_not_or] using forceable⟩]
      change ((_ : State).reg (Evt.stsOff ⟨b, i, k⟩)).getLsbD k = true
      rw [reg_force_sts _ wf']
      simp [small]
    · have before := ih (by omega)
      split
      · change ((_ : State).reg (Evt.stsOff ⟨b, i, n⟩)).getLsbD k = true
        rw [reg_force_sts _ wf', BitVec.getLsbD_or]
        simp [show ((s.forceBits b i d n).reg (Evt.stsOff ⟨b, i, n⟩)).getLsbD k = true from before]
      · exact before

end Forced

/-- Settles O1: each access is one effect of the command's gate, and what it leaves follows from the laws of registers. -/
theorem barAccessCommands : Obligations.BarAccessCommands := by
  unfold Obligations.BarAccessCommands
  refine ⟨fun s h off width wf up bad => ?read, fun s h off width wf up bad => ?write,
    fun s h off i o b fs data wf ready aligned noWindow page notHst notCfg notEn fields order => ?store,
    fun s h off i b wf up aligned notHst page => ?info, fun s h off i b data wf ready aligned notHst page => ?clear,
    fun s h off i k b data wf ready aligned notHst page bit set forceable => ?force⟩
  case read =>
    refine ⟨_, exec_misalignedAccess_misaligned false up bad, ?_, evtSet_accessErr h width off 1 false wf,
      reason_accessErr (s := s.begin) h width off false wf, keepsRegs_accessErr (s := s.begin) h width off 1 false⟩
    rw [if_neg (by decide), State.emit_out, State.accessErr_out, State.begin_out, List.nil_append]
  case write =>
    exact ⟨_, exec_misalignedAccess_misaligned true up bad, State.accessErr_out .., evtSet_accessErr h width off 1 true wf,
      reason_accessErr (s := s.begin) h width off true wf, keepsRegs_accessErr (s := s.begin) h width off 1 true⟩
  case store =>
    refine ⟨_, exec_controlBarWrite_aligned data ready ⟨.inr rfl, aligned⟩, ?_⟩
    rw [writeBar_whole (s := s.begin) data aligned noWindow page notHst notCfg notEn fields order]
    exact ⟨State.setReg_out .., reg_setReg_same s.begin _ _ wf, keepsRegs_setReg s.begin _ _⟩
  case info =>
    refine ⟨_, exec_errInfoRead_whole up aligned notHst page, rfl, ?_,
      (ev_step (ev_step (ev_step ev_refl (State.begin_ev s) rfl) (State.setHead_ev _ h _) rfl) (State.emit_ev _ _) rfl).1⟩
    change Tab.get _ ((s.begin.setHead h _).head h).latch _ = _
    rw [head_setHead_same s.begin h _ wf]
    dsimp only
    rw [Tab.set, if_neg (by simp), Tab.get_put_same]
  case clear =>
    exact ⟨_, exec_evtStsClear_whole data ready aligned notHst page, State.setReg_out ..,
      reg_setReg_same s.begin _ _ wf, keepsRegs_setReg s.begin _ _⟩
  case force =>
    obtain ⟨place, inst, -⟩ := eq_of_pageAt page
    have bits : b.eventBits ≤ 16 := by cases b <;> decide
    have base : b.base % 0x1000 = 0 := by cases b <;> rfl
    refine ⟨_, exec_evtForce_whole data ready aligned notHst page, evtSet_forceBits wf bit (by omega) set forceable, ?_, ?_⟩
    · exact reg_forceBits_other _ _ _ _ (by omega) (by omega)
    · exact reg_forceBits_other _ _ _ _ (by omega) (by omega)

end Sys2Proof.Machine

/-!
PROOF. The architecture chapter's time bases (R31): a PPS edge near the end of the range of DEVTIME.
-/
namespace Sys2Proof.Machine
set_option Elab.async false

/-- A state with the PPS lock held whose DEVTIME is 0.4 s below a whole second that 64 bits of nanoseconds cannot hold. -/
def nearEndOfTime : State :=
  { State.reset with
    pwr := { State.reset.pwr with coreOn := true }
    time := { State.reset.time with devtime := 18446744073600000000, ppsLocked := true, lastEdge := some 0, upNs := 1000000000 } }

/-- The edge steps DEVTIME to the nearest second, kept to 64 bits. -/
theorem devtime_ppsEdge_nearEndOfTime :
    ∃ t, exec .ppsEdge nearEndOfTime = .next t ∧ t.time.devtime = 290448384 :=
  ⟨_, rfl, by decide⟩

/-- Refutes O2: clause 3 says that a stepped DEVTIME is the nearest second, and DEVTIME keeps only 64 bits of it. -/
theorem not_timeCommands : ¬ Obligations.TimeCommands := by
  unfold Obligations.TimeCommands
  intro ⟨_, _, edge, _⟩
  obtain ⟨t, run, -, -, time⟩ := edge nearEndOfTime (-400000000) (by decide) rfl rfl (by decide) (by decide)
  obtain ⟨t', run', time'⟩ := devtime_ppsEdge_nearEndOfTime
  obtain rfl : t' = t := Host.Outcome.next.inj (run'.symm.trans run)
  rw [if_neg (by decide), time'] at time
  exact absurd time.1 (by decide)

end Sys2Proof.Machine

/-!
PROOF. Event bits only ever set: what raises, counts or reports something leaves every bit of EVT_STS that is set (R555). And the
registers that a loss of the core keeps (Table 13-5).
-/
namespace Sys2Proof.Machine
set_option Elab.async false

/-! ### Event bits stay -/

/-- Canonical tables stay canonical from `s` to `t`, and every event bit that is set stays set. -/
structure State.keepsEvents (s t : State) : Prop where
  of_wf : s.wf = true → t.wf = true ∧ ∀ e : Evt, s.evtSet e → t.evtSet e

theorem stsOff_inPage (e : Evt) : e.stsOff % 0x1000 = 0x20 := by
  have base : e.blk.base % 0x1000 = 0 := by cases e.blk <;> rfl
  unfold Evt.stsOff
  omega

section KeepsEvents

variable {s t u : State}

theorem State.keepsEvents.refl : s.keepsEvents s := ⟨fun wf => ⟨wf, fun _ set => set⟩⟩

theorem State.keepsEvents.trans (a : s.keepsEvents t) (b : t.keepsEvents u) : s.keepsEvents u where
  of_wf wf :=
    have ⟨wfT, setT⟩ := a.of_wf wf
    have ⟨wfU, setU⟩ := b.of_wf wfT
    ⟨wfU, fun e set => setU e (setT e set)⟩

theorem State.keepsEvents.wf (a : s.keepsEvents t) (wf : s.wf = true) : t.wf = true := (a.of_wf wf).1

theorem State.keepsEvents.evtSet (a : s.keepsEvents t) (wf : s.wf = true) {e : Evt} (set : s.evtSet e) : t.evtSet e :=
  (a.of_wf wf).2 e set

/-- What leaves the register stores leaves the events. -/
theorem State.keepsEvents.of_evolves {L : List Piece} (a : s.evolves t L) (noRegs : L.contains .regs = false := by rfl)
    (noPmc : L.contains .pmc = false := by rfl) : s.keepsEvents t where
  of_wf wf := ⟨a.2 wf, fun _ => (evtSet_of_reg (reg_evolves a noRegs noPmc _)).mpr⟩

/-- An update that leaves the register stores leaves the events. -/
theorem State.keepsEvents.of_same (regs : t.regs = s.regs) (pmc : t.pmc = s.pmc) (wf : s.wf = true → t.wf = true) :
    s.keepsEvents t where
  of_wf canonical := ⟨wf canonical, fun _ => (evtSet_of_reg (reg_congr regs pmc _)).mpr⟩

theorem State.keepsEvents.foldl {α : Type} {f : State → α → State} (step : ∀ (t : State) (x : α), t.keepsEvents (f t x)) (l : List α) (s : State) :
    s.keepsEvents (l.foldl f s) := by
  induction l generalizing s with
  | nil => exact .refl
  | cons x l ih => exact (step s x).trans (ih _)

theorem State.keepsEvents.ite {c : Prop} [Decidable c] (a : s.keepsEvents t) (b : s.keepsEvents u) :
    s.keepsEvents (if c then t else u) := by
  split <;> assumption

theorem keepsEvents_setReg (s : State) {off : Nat} (notSts : off % 0x1000 ≠ 0x20) (v : Word) : s.keepsEvents (s.setReg off v) where
  of_wf wf := ⟨wf_setReg s off v wf, fun e =>
    (evtSet_of_reg (reg_setReg_other s off e.stsOff v (fun same => notSts (same ▸ stsOff_inPage e)))).mpr⟩

theorem keepsEvents_setFld (s : State) {f : Fld} (notSts : f.off % 0x1000 ≠ 0x20) (v : Nat) : s.keepsEvents (s.setFld f v) :=
  keepsEvents_setReg s notSts _

theorem keepsEvents_bump (s : State) {f : Fld} (notSts : f.off % 0x1000 ≠ 0x20) (k : Nat) : s.keepsEvents (s.bump f k) :=
  keepsEvents_setFld s notSts _

theorem keepsEvents_enqueue (s : State) (r : QRec) : s.keepsEvents (s.enqueue r) where
  of_wf wf := ⟨(State.enqueue_ev s r).2 wf, fun e => (evtSet_of_reg (reg_enqueue_other s r _ (stsOff_ne_cnt e))).mpr⟩

theorem keepsEvents_setEvtBit (s : State) (e : Evt) : s.keepsEvents (s.setEvtBit e) where
  of_wf wf := ⟨(State.setEvtBit_ev s e).2 wf, fun f set => by
    by_cases same : f.stsOff = e.stsOff
    · unfold State.evtSet at *
      rw [same, reg_setEvtBit_same s e wf, BitVec.getLsbD_or, ← same, set, Bool.true_or]
    · exact (evtSet_of_reg (reg_setEvtBit_other s e _ same)).mpr set⟩

theorem keepsEvents_raiseAt (s : State) (e : Evt) (info addr : Word) : s.keepsEvents (s.raiseAt e info addr) where
  of_wf wf := ⟨wf_raiseAt s e info addr wf, fun f set => by
    have here := stsOff_inPage e
    have there := stsOff_inPage f
    exact evtSet_raiseAt_mono s f e info addr wf set (by omega) (by omega)⟩

theorem keepsEvents_raise (s : State) (e : Evt) : s.keepsEvents (s.raise e) := keepsEvents_raiseAt s e _ _

theorem keepsEvents_raiseN (s : State) (e : Evt) (info addr : Nat) : s.keepsEvents (s.raiseN e info addr) :=
  keepsEvents_raiseAt s e _ _

theorem keepsEvents_raiseIf (s : State) (c : Bool) (e : Evt) : s.keepsEvents (s.raiseIf c e) :=
  .ite (keepsEvents_raise s e) .refl

/-! Performance counting sets its own registers and raises events. -/

theorem keepsEvents_pmcOverflowed (s : State) (i k : Nat) : s.keepsEvents (s.pmcOverflowed i k) := by
  have flagged : s.keepsEvents (s.setReg (pmcOvfOff i) (s.reg (pmcOvfOff i) ||| (1#64 <<< k))) :=
    keepsEvents_setReg s (by unfold pmcOvfOff; omega) _
  have freezes : (F.pmcCtlFreeze i).off % 0x1000 ≠ 0x20 := by
    change (0x30010 + i * 0x1000) % 0x1000 ≠ 0x20
    omega
  have raised := flagged.trans (.ite (c := getBits ((s.setReg (pmcOvfOff i)
    (s.reg (pmcOvfOff i) ||| (1#64 <<< k))).reg (pmcCfgOff i k)) 29 29 = 1) (keepsEvents_raiseN _ (Ev.pmcOverflow i) 0 k) .refl)
  exact raised.trans (.ite ((keepsEvents_setFld _ freezes 1).trans (keepsEvents_raiseN _ _ _ _)) .refl)

theorem keepsEvents_pmcAdd (fuel : Nat) (s : State) (i : Nat) {k : Nat} (n : Nat) (small : k < 64) :
    s.keepsEvents (State.pmcAdd fuel s i k n) := by
  induction fuel generalizing s k n with
  | zero => exact .refl
  | succ fuel ih =>
    have counted (v : Word) : s.keepsEvents (s.setReg (pmcCntOff i k) v) :=
      keepsEvents_setReg s (by unfold pmcCntOff; omega) v
    unfold State.pmcAdd
    refine .ite (counted _) ((State.keepsEvents.trans ?_ (keepsEvents_pmcOverflowed _ i k)))
    split
    next chain =>
      have below : k < 63 := by
        simp only [Bool.and_eq_true, decide_eq_true_eq] at chain
        exact chain.1.1
      exact (counted _).trans (ih _ _ (by omega))
    next => exact counted _

/-- A page has 64 counters. -/
theorem lt_of_mem_pmcListed {p : Nat × Nat} (listed : p ∈ s.pmcListed) : p.2 < 64 := by
  obtain ⟨q, -, found⟩ := List.mem_filterMap.mp listed
  dsimp only at found
  split at found
  next inside =>
    obtain rfl := Option.some.inj found
    dsimp only
    omega
  next => cases found

theorem keepsEvents_count (s : State) (ev inst n : Nat) : s.keepsEvents (s.count ev inst n) := by
  unfold State.count
  have listed := fun p (mem : p ∈ s.pmcListed) => lt_of_mem_pmcListed mem
  generalize s.pmcListed = l at listed
  induction l generalizing s with
  | nil => exact .refl
  | cons p l ih =>
    refine State.keepsEvents.trans ?_ (ih _ fun q mem => listed q (List.mem_cons_of_mem p mem))
    exact .ite (keepsEvents_pmcAdd 64 s p.1 n (listed p List.mem_cons_self)) .refl

/-! Spread counters report on the Notion page. -/

theorem keepsEvents_setCell (s : State) (c j : Nat) (v : Option Nat) : s.keepsEvents (s.setCell c j v) :=
  .of_evolves (State.setCell_ev s c j v)

theorem keepsEvents_ctrWrite (s : State) (c v : Nat) : s.keepsEvents (s.ctrWrite c v).1 := by
  unfold State.ctrWrite
  split
  · exact keepsEvents_raiseN ..
  · dsimp only
    split
    · exact keepsEvents_setCell ..
    · have bad (j : Nat) := (keepsEvents_setCell s c j none).trans
        (keepsEvents_raiseN _ Ev.ntnCounterCellBad (c * 2 ^ 8) (cellOffset c j))
      split <;> exact (bad _).trans (keepsEvents_setCell ..)

theorem keepsEvents_ctrInc (s : State) (c k : Nat) : s.keepsEvents (s.ctrInc c k).1 := by
  unfold State.ctrInc
  dsimp only
  generalize (if c = 1 then s.ctrVal c / 2 ^ 48 * 2 ^ 48 else 0) = gen
  split
  · exact keepsEvents_ctrWrite ..
  · generalize written : (if s.ctrVal c - gen = ctrLimit c then (s, CtrRes.ok) else s.ctrWrite c (gen + ctrLimit c)) = p
    have first : s.keepsEvents p.1 := by
      subst written
      split
      · exact .refl
      · exact keepsEvents_ctrWrite ..
    split
    · exact first
    · exact first.trans (keepsEvents_raiseN ..)

theorem keepsEvents_ctrIncField (s : State) (c lo : Nat) : s.keepsEvents (s.ctrIncField c lo).1 := by
  unfold State.ctrIncField
  dsimp only
  split
  · exact keepsEvents_raiseN ..
  · exact keepsEvents_ctrWrite ..

end KeepsEvents

end Sys2Proof.Machine

/-!
PROOF. The power-up sequence (R440 to R445, Tables 13-1 to 13-3): what a loss and a release of the core leave, and each command
of the sequence.
-/
namespace Sys2Proof.Machine
set_option Elab.async false

/-! ### Registers kept through a loss of the core -/

theorem Tab.get_keep_kept {α : Type} (d : Nat → α) (kept : Nat → Bool) (t : Tab α) {k : Nat} (stays : kept k = true) :
    Tab.get d (Tab.keep (fun j _ => kept j) t) k = Tab.get d t k := by
  induction t with
  | nil => rfl
  | cons p t ih =>
    obtain ⟨j, v⟩ := p
    unfold Tab.keep at ih ⊢
    by_cases same : j = k
    · subst same
      simp [Tab.get, stays]
    · by_cases keep : kept j = true <;> simp [Tab.get, same, keep, ih]

section Kept

variable {s : State} {kept : Nat → Bool} {off : Nat}

theorem reg_dropRegs_kept (stays : kept off = true) (notPmc : isPmcCounter off = false) :
    (s.dropRegs kept).reg off = s.reg off := by
  unfold State.reg
  rw [notPmc]
  exact Tab.get_keep_kept regReset kept s.regs stays

theorem reg_resetRegs_kept (stays : kept off = true) (notPmc : isPmcCounter off = false) (notFch : off ≠ F.fchCtlEnable.off) :
    (s.resetRegs kept).reg off = s.reg off := by
  unfold State.resetRegs
  rw [reg_setFld_other _ _ _ _ notFch, reg_setReg_other _ _ _ _ notFch, reg_dropRegs_kept stays notPmc]

/-- Everything a loss of the core does before it resets the registers leaves them alone. -/
theorem coreDown_evolves_resetRegs (s : State) (kept : Nat → Bool) (thermal : Bool) :
    ∃ t, s.evolves t [.host, .fch, .swt, .xq, .map, .wp, .rd, .cry, .epo, .ntn, .warp, .link, .upk, .flt, .pwr, .thm] ∧
      (t.resetRegs kept).evolves (s.coreDown kept thermal) [.time, .pwr, .fwu, .side] := by
  have engines : s.evolves s.mapDown.stagingDown.cacheDown.enginesDown
      [.host, .fch, .swt, .xq, .map, .wp, .rd, .cry, .epo, .ntn, .warp, .link, .upk, .flt, .pwr, .thm] :=
    ev_step (ev_step (ev_step (ev_step ev_refl (State.mapDown_ev s) rfl) (State.stagingDown_ev _) rfl) (State.cacheDown_ev _) rfl)
      (State.enginesDown_ev _) rfl
  have thermals := ev_ite (c := thermal = true) (ev_step engines (State.thermalDown_ev _) rfl) engines
  refine ⟨_, ev_step (ev_step thermals (State.headsDown_ev _) rfl) (State.mediaDown_ev _) rfl, ?_⟩
  exact ev_updW ev_refl id id id id id id id id id id fun p => by
    cases p <;> first | exact .inl (by decide) | exact .inr rfl | exact .inr ⟨rfl, rfl⟩

theorem reg_coreDown_kept (thermal : Bool) (stays : kept off = true) (notPmc : isPmcCounter off = false)
    (notFch : off ≠ F.fchCtlEnable.off) : (s.coreDown kept thermal).reg off = s.reg off := by
  obtain ⟨t, before, after⟩ := coreDown_evolves_resetRegs s kept thermal
  rw [reg_evolves after rfl rfl, reg_resetRegs_kept stays notPmc notFch, reg_evolves before rfl rfl]

end Kept

/-! ### What the shared operations leave of the sequencer -/

section Sequencer

variable (s : State)

@[simp] theorem pwr_ctrInc (c k : Nat) : (s.ctrInc c k).1.pwr = s.pwr := evolves_get (ev_fst1 (State.ctrInc_ev s c k)) .pwr rfl

@[simp] theorem pwr_ctrIncField (c lo : Nat) : (s.ctrIncField c lo).1.pwr = s.pwr :=
  evolves_get (ev_fst1 (State.ctrIncField_ev s c lo)) .pwr rfl

@[simp] theorem pwr_pwrEvent (e : Evt) (i : Nat) : (s.pwrEvent e i).pwr = s.pwr := State.raiseN_pwr ..

@[simp] theorem pwr_railCount (i lo : Nat) : (s.railCount i lo).pwr = s.pwr := pwr_ctrIncField ..

@[simp] theorem pwr_stuckCount (i : Nat) : (s.stuckCount i).pwr = s.pwr := pwr_ctrIncField ..

theorem keepsEvents_pwrEvent (e : Evt) (i : Nat) : s.keepsEvents (s.pwrEvent e i) := keepsEvents_raiseN ..

theorem keepsEvents_railCount (i lo : Nat) : s.keepsEvents (s.railCount i lo) := keepsEvents_ctrIncField ..

theorem keepsEvents_stuckCount (i : Nat) : s.keepsEvents (s.stuckCount i) := keepsEvents_ctrIncField ..

variable {s}

theorem evtSet_pwrEvent {e : Evt} (wf : s.wf = true) (i : Nat) (small : e.bit < 64) : (s.pwrEvent e i).evtSet e :=
  evtSet_raiseN s e _ _ wf small

/-- The first rail of a sequence is PWC8, which nothing skips. -/
theorem rails_eq (s : State) : ∃ rest, s.rails = 8 :: rest := by
  simp [State.rails, upOrder, State.skipped]

end Sequencer

/-! ### RAMP_UP and RAMP_DOWN -/

section Ramps

variable {s : State}

theorem pwr_rampUp (s : State) : s.rampUp.pwr.st = .rampUp ∧ s.rampUp.pwr.cur = 8 ∧ s.rampUp.pwr.en = s.pwr.en ||| bit12 8 ∧
    s.rampUp.pwr.seqDnOut = false ∧ s.rampUp.pwr.retries = s.pwr.retries := by
  obtain ⟨rest, rails⟩ := rails_eq s
  unfold State.rampUp
  rw [rails]
  exact ⟨rfl, rfl, rfl, rfl, rfl⟩

/-- The rails that a RAMP_DOWN brings down, in their order. -/
def State.downList (s : State) (first : Option Nat) : List Nat :=
  let on := downOrder.filter fun i => s.pwr.en.getLsbD i
  match first with | some i => i :: on.filter (fun k => k != i) | none => on

/-- The core goes down, or, when it is down already, the packages do. -/
def State.powerDown (s : State) : State := if s.pwr.coreOn then s.coreDown keptByCycle true else s.mediaDown

@[simp] theorem pwr_mapDown (s : State) : s.mapDown.pwr = s.pwr := evolves_get (State.mapDown_ev s) .pwr rfl

@[simp] theorem pwr_coreDown (s : State) (kept : Nat → Bool) (thermal : Bool) : (s.coreDown kept thermal).pwr =
    { s.pwr with mrst := 0xFF#8, pulse := 0#8, coreOn := false, hostStopped := true } := by
  unfold State.coreDown State.resetRegs
  cases thermal <;> simp [State.dropRegs, State.headsDown, State.mediaDown, State.enginesDown, State.cacheDown, State.stagingDown,
    State.thermalDown]

theorem coreOn_powerDown (s : State) : s.powerDown.pwr.coreOn = false := by
  unfold State.powerDown
  split
  next => rw [pwr_coreDown]
  next down => exact Bool.eq_false_iff.mpr down

/-- A power cycle keeps the power page's registers. -/
theorem reg_powerDown {off : Nat} (lo : 0x1000 ≤ off) (hi : off < 0x2000) : s.powerDown.reg off = s.reg off := by
  unfold State.powerDown
  split
  · exact reg_coreDown_kept true (by unfold keptByCycle; simp; omega) (by unfold isPmcCounter; simp; omega)
      (by change off ≠ 0xD010; omega)
  · exact reg_evolves (State.mediaDown_ev s) rfl rfl off

/-- The sequencer as a RAMP_DOWN over a list of rails finds it. -/
def PwrState.ramping (p : PwrState) (down : List Nat) (why : OffWhy) : PwrState :=
  { p with st := .rampDown, down := down, why := why, seqUpOut := false, brd := true, offReq := false, devReset := .none }

theorem rampDown_eq (s : State) (first : Option Nat) (why : OffWhy) : s.rampDown first why =
    ({ s.powerDown with pwr := s.powerDown.pwr.ramping (s.downList first) why } : State).nextDown := rfl

/-- With a rail to bring down, RAMP_DOWN begins by disabling the first. -/
theorem rampDown_cons {i : Nat} {rest : List Nat} {first : Option Nat} (why : OffWhy) (down : s.downList first = i :: rest) :
    s.rampDown first why =
      ({ s.powerDown with pwr := s.powerDown.pwr.ramping (i :: rest) why } : State).stopRail i := by
  rw [rampDown_eq, down]
  rfl

theorem downList_first (s : State) (i : Nat) : ∃ rest, s.downList (some i) = i :: rest := ⟨_, rfl⟩

/-- An enabled rail among the twelve is one to bring down. -/
theorem downList_enabled {i : Nat} (known : i ∈ downOrder) (en : s.pwr.en.getLsbD i = true) :
    ∃ j rest, s.downList none = j :: rest := by
  have listed : i ∈ s.downList none := List.mem_filter.mpr ⟨known, en⟩
  exact List.exists_cons_of_ne_nil (List.ne_nil_of_mem listed)

/-- What holds of the sequencer once RAMP_DOWN has begun with a rail to bring down. -/
theorem pwr_rampDown_cons {i : Nat} {rest : List Nat} {first : Option Nat} (why : OffWhy) (down : s.downList first = i :: rest) :
    (s.rampDown first why).pwr.st = .rampDown ∧ (s.rampDown first why).pwr.down = i :: rest ∧
      (s.rampDown first why).pwr.why = why ∧ (s.rampDown first why).pwr.coreOn = false ∧
      (s.rampDown first why).pwr.seqUpOut = false ∧ (s.rampDown first why).pwr.offReq = false ∧
      (s.rampDown first why).pwr.faultSeq = s.pwr.faultSeq := by
  have fault : s.powerDown.pwr.faultSeq = s.pwr.faultSeq := by
    unfold State.powerDown
    split
    · rw [pwr_coreDown]
    · rfl
  rw [rampDown_cons why down]
  exact ⟨rfl, rfl, rfl, coreOn_powerDown s, rfl, rfl, fault⟩

/-- The power page's registers stay as they were. -/
theorem reg_rampDown_cons {i : Nat} {rest : List Nat} {first : Option Nat} (why : OffWhy) (down : s.downList first = i :: rest)
    {off : Nat} (lo : 0x1000 ≤ off) (hi : off < 0x2000) : (s.rampDown first why).reg off = s.reg off := by
  rw [rampDown_cons why down]
  exact reg_powerDown lo hi

/-- The sequencing fault noted. -/
def State.withFault (s : State) : State := { s with pwr := { s.pwr with faultSeq := true } }

/-- An abort as RAMP_DOWN finds it: counted, reported, and noted as a fault. -/
def State.aborting (s : State) (i : Nat) : State := ((s.ctrInc 1 1).1.pwrEvent Ev.pwrSeqAbort i).withFault

theorem seqAbort_eq (s : State) (i : Nat) : s.seqAbort i = (s.aborting i).rampDown (some i) .abort := rfl

theorem keepsEvents_aborting (s : State) (i : Nat) : s.keepsEvents (s.aborting i) :=
  ((keepsEvents_ctrInc s 1 1).trans (keepsEvents_pwrEvent ..)).trans (.of_evolves (L := [.pwr]) (ev_pwr ev_refl rfl))

theorem evtSet_withFault (s : State) (e : Evt) : s.withFault.evtSet e ↔ s.evtSet e := Iff.rfl

theorem evtSet_aborting (i : Nat) (wf : s.wf = true) : (s.aborting i).evtSet Ev.pwrSeqAbort :=
  (evtSet_withFault _ _).mpr (evtSet_pwrEvent ((keepsEvents_ctrInc s 1 1).wf wf) i (by decide))

theorem faultSeq_aborting (s : State) (i : Nat) : (s.aborting i).pwr.faultSeq = true := rfl

/-- An abort begins RAMP_DOWN with the rail that failed. -/
theorem pwr_seqAbort (s : State) (i : Nat) : (s.seqAbort i).pwr.st = .rampDown ∧ (s.seqAbort i).pwr.why = .abort ∧
    (s.seqAbort i).pwr.faultSeq = true ∧ (s.seqAbort i).pwr.down.head? = some i := by
  obtain ⟨rest, down⟩ := downList_first (s.aborting i) i
  obtain ⟨st, list, why, -, -, -, fault⟩ := pwr_rampDown_cons .abort down
  rw [seqAbort_eq]
  exact ⟨st, why, fault.trans (faultSeq_aborting s i), congrArg List.head? list⟩

/-- An event of the power page that was raised before the abort or by it stays. -/
theorem evtSet_seqAbort {i : Nat} {e : Evt} (lo : 0x1000 ≤ e.stsOff) (hi : e.stsOff < 0x2000)
    (set : (s.aborting i).evtSet e) : (s.seqAbort i).evtSet e := by
  obtain ⟨rest, down⟩ := downList_first (s.aborting i) i
  rw [seqAbort_eq]
  exact (evtSet_of_reg (reg_rampDown_cons .abort down lo hi)).mpr set

end Ramps

end Sys2Proof.Machine

/-!
PROOF. The release of the core (R514) and of the power-fail flush: the sequencer they leave, and that event bits stay.
-/
namespace Sys2Proof.Machine
set_option Elab.async false

/-! ### Release of the core -/

section Release

variable (s : State)

theorem keepsEvents_checkMarker : s.keepsEvents s.checkMarker := by
  unfold State.checkMarker
  refine .ite ?_ .refl
  extract_lets +onlyGivenNames counted write map seen
  have inc : s.keepsEvents counted := keepsEvents_ctrInc s 2 1
  clear_value counted
  have noted : counted.keepsEvents seen := .of_evolves (L := [.wp, .map])
    (ev_updW ev_refl id id MapState.wf_upd WriteState.wf_upd id id id id id id fun p => by
      cases p <;> first | exact .inl (by decide) | exact .inr rfl | exact .inr ⟨rfl, rfl⟩)
  clear_value seen
  exact (inc.trans noted).trans (keepsEvents_raise ..)

theorem keepsEvents_restoreWindow (clean : Bool) : s.keepsEvents (s.restoreWindow clean) := by
  unfold State.restoreWindow
  split
  · exact .of_same rfl rfl id
  next r _ =>
    extract_lets +onlyGivenNames d window back
    have recorded : s.keepsEvents back := .of_same rfl rfl id
    have failed : s.keepsEvents ((back.fillWindow { WWord.zero with st := .poisoned }).raiseN Ev.swtRestoreFail 0 0) :=
      (recorded.trans (.of_evolves (State.fillWindow_ev ..))).trans (keepsEvents_raiseN ..)
    refine .ite (recorded.trans (.of_evolves (State.fillWindow_ev ..))) ?_
    split
    · exact .ite (recorded.trans (.of_same rfl rfl id)) failed
    · exact failed

theorem keepsEvents_fwRecord (code sev p0 p1 p2 : Nat) : s.keepsEvents (s.fwRecord code sev p0 p1 p2) := keepsEvents_enqueue ..

theorem keepsEvents_enterRecovery (cause : Nat) : s.keepsEvents (s.enterRecovery cause) := by
  unfold State.enterRecovery
  extract_lets firmware
  exact .trans (.of_evolves (L := [.fwu]) (ev_fwu ev_refl rfl)) (keepsEvents_fwRecord ..)

theorem keepsEvents_fellBack (cause failed slot : Nat) : s.keepsEvents (s.fellBack cause failed slot) := by
  unfold State.fellBack
  extract_lets +onlyGivenNames r confirmed firmware named raised
  have first : s.keepsEvents confirmed := .of_evolves (State.setBoot_ev s _)
  clear_value confirmed
  have second : s.keepsEvents named := first.trans (.of_same rfl rfl id)
  clear_value named
  exact ((second.trans (keepsEvents_bump _ (by decide) 1)).trans (keepsEvents_raiseN ..)).trans (keepsEvents_fwRecord ..)

theorem keepsEvents_bootSlot : s.keepsEvents s.bootSlot := by
  unfold State.bootSlot
  extract_lets k go
  have rom (t : State) : t.keepsEvents (go t) := .of_same rfl rfl id
  clear_value go
  exact .ite (rom s) (.ite ((keepsEvents_fellBack ..).trans (rom _)) (keepsEvents_enterRecovery ..))

theorem keepsEvents_romStart : s.keepsEvents s.romStart := by
  unfold State.romStart
  extract_lets +onlyGivenNames lost req host firmware cleared told
  have first : s.keepsEvents cleared := .of_same rfl rfl id
  clear_value cleared
  have second : s.keepsEvents told := first.trans (keepsEvents_raiseIf ..)
  clear_value told
  exact .ite (second.trans (keepsEvents_enterRecovery ..))
    ((second.trans (.of_evolves (State.romRecord_ev told))).trans (keepsEvents_bootSlot _))

theorem keepsEvents_coreUp : s.keepsEvents s.coreUp := by
  unfold State.coreUp
  extract_lets +onlyGivenNames pwr side time upk released checked clean cry map fch host started
  have first : s.keepsEvents released := .of_same rfl rfl id
  clear_value released
  have second : s.keepsEvents checked :=
    (first.trans (.of_evolves (State.recorderStart_ev released))).trans (keepsEvents_checkMarker _)
  clear_value checked
  have third : s.keepsEvents started := second.trans
    (.of_evolves (L := [.cry, .map, .fch, .host]) (ev_updW ev_refl id (fun w => by dsimp only [HostState.wf]; exact Tab.wf_mapVals _ _ _ w) MapState.wf_upd id
      CryState.wf_upd id id id id id fun p => by
      cases p <;> first | exact .inl (by decide) | exact .inr rfl | exact .inr ⟨rfl, rfl⟩))
  clear_value started
  exact ((third.trans (keepsEvents_raise ..)).trans (keepsEvents_restoreWindow ..)).trans (keepsEvents_romStart _)

theorem pwr_coreUp : s.coreUp.pwr = { s.pwr with coreOn := true, hostStopped := false } := by
  unfold State.coreUp
  extract_lets +onlyGivenNames pwr side time upk released checked clean cry map fch host started
  have kept : checked.pwr = { s.pwr with coreOn := true, hostStopped := false } :=
    evolves_get (ev_step (ev_step ev_refl (State.recorderStart_ev released) rfl) (State.checkMarker_ev _) rfl :
      released.evolves checked [.regs, .pmc, .evt, .host, .map, .wp, .ntn]) .pwr rfl
  clear_value checked
  have after : started.evolves _ [.regs, .pmc, .evt, .host, .swt, .fwu] :=
    ev_step (ev_step (ev_step ev_refl (State.raise_ev started Ev.kveDrbgReady) rfl) (State.restoreWindow_ev _ clean) rfl)
      (State.romStart_ev _) rfl
  exact (evolves_get after .pwr rfl).trans kept

/-- ON is reached: the sequence is done, and the core is released. -/
theorem reachOn_spec (wf : s.wf = true) : s.reachOn.pwr.st = .on ∧ s.reachOn.pwr.seqUpOut = true ∧ s.reachOn.pwr.coreOn = true ∧
    s.reachOn.pwr.retries = 0 ∧ s.reachOn.evtSet Ev.pwrSeqDone := by
  unfold State.reachOn
  extract_lets +onlyGivenNames tripped counted pwr thm reached up
  have inc : s.keepsEvents counted := keepsEvents_ctrInc s 0 1
  have canonical : reached.wf = true := (inc.trans (.of_same rfl rfl id)).wf wf
  have pwr : up.pwr = { reached.pwr with coreOn := true, hostStopped := false } :=
    (pwr_coreUp _).trans (congrArg (fun p : PwrState => { p with coreOn := true, hostStopped := false }) (State.raise_pwr ..))
  have done : up.evtSet Ev.pwrSeqDone :=
    (keepsEvents_coreUp _).evtSet (wf_raise reached _ canonical) (evtSet_raise reached _ canonical (by decide))
  have late : up.evolves (if tripped then up.setEvtBit Ev.thmTrip else up) [.regs, .pmc, .host] :=
    ev_ite (State.setEvtBit_ev up _) ev_refl
  have events : up.keepsEvents (if tripped then up.setEvtBit Ev.thmTrip else up) := .ite (keepsEvents_setEvtBit ..) .refl
  have upWf : up.wf = true := (keepsEvents_coreUp _).wf (wf_raise reached _ canonical)
  rw [show State.pwr (if tripped then up.setEvtBit Ev.thmTrip else up) = _ from evolves_get late .pwr rfl, pwr]
  exact ⟨rfl, rfl, rfl, rfl, events.evtSet upWf done⟩

end Release
end Sys2Proof.Machine

/-!
PROOF. Flushes of the persistence domain (R180, R217, R599): what handing lines and padding stripes leave of the flush, of the
sequencer and of the events.
-/
namespace Sys2Proof.Machine
set_option Elab.async false

/-! ### What handing and padding leave -/

/-- The flush, its marker and the flushes that wait are the same in both states. -/
structure State.sameFlush (s t : State) : Prop where
  flush : t.wp.flush = s.wp.flush
  marker : t.wp.marker = s.wp.marker
  queue : t.wp.flushQ = s.wp.flushQ
  pwr : t.pwr = s.pwr

section SameFlush

variable {s t u : State}

theorem State.sameFlush.refl : s.sameFlush s := ⟨rfl, rfl, rfl, rfl⟩

theorem State.sameFlush.trans (a : s.sameFlush t) (b : t.sameFlush u) : s.sameFlush u :=
  ⟨b.flush.trans a.flush, b.marker.trans a.marker, b.queue.trans a.queue, b.pwr.trans a.pwr⟩

theorem State.sameFlush.of_evolves {L : List Piece} (a : s.evolves t L) (noWp : L.contains .wp = false := by rfl)
    (noPwr : L.contains .pwr = false := by rfl) : s.sameFlush t :=
  have wp : t.wp = s.wp := evolves_get a .wp noWp
  ⟨by rw [wp], by rw [wp], by rw [wp], evolves_get a .pwr noPwr⟩

theorem State.sameFlush.foldl {α : Type} {f : State → α → State} (step : ∀ (t : State) (x : α), t.sameFlush (f t x)) (l : List α) (s : State) :
    s.sameFlush (l.foldl f s) := by
  induction l generalizing s with
  | nil => exact .refl
  | cons x l ih => exact (step s x).trans (ih _)

theorem State.sameFlush.ite {c : Prop} [Decidable c] (a : s.sameFlush t) (b : s.sameFlush u) : s.sameFlush (if c then t else u) := by
  split <;> assumption

theorem sameFlush_setGroup (s : State) (g : Nat) (x : Group) : s.sameFlush (s.setGroup g x) := ⟨rfl, rfl, rfl, rfl⟩

theorem sameFlush_updStripe (s : State) (g b idx : Nat) (f : Stripe → Stripe) : s.sameFlush (s.updStripe g b idx f) := ⟨rfl, rfl, rfl, rfl⟩

theorem sameFlush_launch (s : State) (g : Nat) (t : Stripe) : s.sameFlush (s.launch g t) := .of_evolves (State.launch_ev ..)

theorem sameFlush_assemble (s : State) (g b idx : Nat) : s.sameFlush (s.assemble g b idx) := by
  unfold State.assemble
  extract_lets +onlyGivenNames closed launched
  have first : s.sameFlush closed := sameFlush_updStripe ..
  clear_value closed
  have second : s.sameFlush launched := first.trans (by
    subst launched
    split
    · exact .ite (sameFlush_launch ..) .refl
    · exact .refl)
  clear_value launched
  refine second.trans (.ite ?_ .refl)
  split
  · extract_lets +onlyGivenNames mk group grown bolt full
    have third : launched.sameFlush grown := sameFlush_setGroup ..
    clear_value grown
    have fourth : grown.sameFlush full := .of_evolves (State.setBolt_ev ..)
    clear_value full
    exact ((third.trans fourth).trans (sameFlush_launch ..)).trans (sameFlush_launch ..)
  · exact .refl

theorem plyPadCnt_notSts (g : Nat) : (F.plyPadCntFillerLines g).off % 0x1000 ≠ 0x20 := by
  change (0x20140 + g * 0x1000) % 0x1000 ≠ 0x20
  omega

/-- A stripe with its last slots taken by filler lines. -/
def State.filled (s : State) (g : Nat) (t : Stripe) : State :=
  s.updStripe g t.block t.idx fun u => { u with lines := u.lines ++ List.replicate (t.w - 1 - t.lines.length) Staged.filler }

theorem pad_eq (s : State) (g : Nat) (t : Stripe) : s.pad g t =
    (((s.filled g t).bump (F.plyPadCntFillerLines g) (t.w - 1 - t.lines.length)).count 0x401 g (t.w - 1 - t.lines.length)).assemble
      g t.block t.idx := rfl

theorem sameFlush_pad (s : State) (g : Nat) (t : Stripe) : s.sameFlush (s.pad g t) := by
  rw [pad_eq]
  have filled : s.sameFlush (s.filled g t) := sameFlush_updStripe ..
  exact ((filled.trans (.of_evolves (State.bump_ev ..))).trans (.of_evolves (State.count_ev ..))).trans (sameFlush_assemble ..)

theorem keepsEvents_pad (s : State) (g : Nat) (t : Stripe) : s.keepsEvents (s.pad g t) := by
  rw [pad_eq]
  have filled : s.keepsEvents (s.filled g t) := .of_evolves (State.updStripe_ev ..)
  exact ((filled.trans (keepsEvents_bump _ (plyPadCnt_notSts g) _)).trans (keepsEvents_count ..)).trans
    (.of_evolves (State.assemble_ev ..))

theorem sameFlush_padPart (s : State) (g : Nat) (p : Part) : s.sameFlush (s.padPart g p) := by
  unfold State.padPart
  split
  · exact .ite .refl (sameFlush_pad ..)
  · exact .refl

theorem keepsEvents_padPart (s : State) (g : Nat) (p : Part) : s.keepsEvents (s.padPart g p) := by
  unfold State.padPart
  split
  · exact .ite .refl (keepsEvents_pad ..)
  · exact .refl

theorem sameFlush_padAll (s : State) : s.sameFlush s.padAll :=
  .foldl (fun _ _ => (sameFlush_padPart ..).trans (sameFlush_padPart ..)) _ s

theorem keepsEvents_padAll (s : State) : s.keepsEvents s.padAll :=
  .foldl (fun _ _ => (keepsEvents_padPart ..).trans (keepsEvents_padPart ..)) _ s

theorem sameFlush_hand (s : State) (line : Nat) : s.sameFlush (s.hand line) := by
  unfold State.hand
  split
  · exact .refl
  · refine .ite .refl ?_
    extract_lets +onlyGivenNames noted e
    have first : s.sameFlush noted := .of_evolves (State.updLine_ev ..)
    clear_value noted
    refine first.trans (.trans ?_ (.of_evolves (State.count_ev ..)))
    exact ⟨rfl, rfl, rfl, rfl⟩

theorem keepsEvents_hand (s : State) (line : Nat) : s.keepsEvents (s.hand line) := by
  unfold State.hand
  split
  · exact .refl
  · refine .ite .refl ?_
    extract_lets +onlyGivenNames noted e
    have first : s.keepsEvents noted := .of_evolves (State.updLine_ev ..)
    clear_value noted
    refine first.trans (.trans ?_ (keepsEvents_count ..))
    exact .of_same rfl rfl id

theorem sameFlush_dropUpkeep (s : State) : s.sameFlush s.dropUpkeep := .foldl (fun _ _ => sameFlush_setGroup ..) _ s

/-! ### The beginning of a flush -/

/-- The flush of kind `k` noted, with its marker. -/
def State.flushNoted (s : State) (k : FlushKind) : State :=
  { s with wp := { s.wp with flush := some ⟨k, false, s.dirtyOldest⟩, marker := true } }

/-- The host ports stopped and upkeep's open stripes discarded. -/
def State.hostsStopped (s : State) : State := { s.dropUpkeep with pwr := { s.dropUpkeep.pwr with hostStopped := true } }

/-- A GPF flush leaves the host ports and upkeep. -/
def FlushKind.isGpf : FlushKind → Bool
  | .gpf _ => true
  | _ => false

theorem beginFlush_eq (s : State) (k : FlushKind) : s.beginFlush k =
    let t := s.dirtyOldest.foldl State.hand (if k.isGpf then s.flushNoted k else (s.flushNoted k).hostsStopped)
    if s.dirtyOldest = [] then t.padAll else t := by
  cases k <;> rfl

theorem keepsEvents_hostsStopped (s : State) : s.keepsEvents s.hostsStopped :=
  .of_evolves (ev_pwr (ev_step ev_refl (State.dropUpkeep_ev s) rfl) rfl : s.evolves s.hostsStopped [.wp, .pwr])

theorem keepsEvents_beginFlush (s : State) (k : FlushKind) : s.keepsEvents (s.beginFlush k) := by
  rw [beginFlush_eq]
  have noted : s.keepsEvents (s.flushNoted k) := .of_same rfl rfl id
  have handed (t : State) : t.keepsEvents (s.dirtyOldest.foldl State.hand t) := .foldl keepsEvents_hand _ t
  have started : s.keepsEvents (if k.isGpf then s.flushNoted k else (s.flushNoted k).hostsStopped) :=
    .ite noted (noted.trans (keepsEvents_hostsStopped _))
  exact .ite ((started.trans (handed _)).trans (keepsEvents_padAll _)) (started.trans (handed _))

/-- What a flush that begins leaves: it runs with the lines that were dirty, the marker is set, and, unless it is a GPF's, the
host ports have stopped. -/
theorem flush_beginFlush (s : State) (k : FlushKind) : (s.beginFlush k).wp.flush = some ⟨k, false, s.dirtyOldest⟩ ∧
    (s.beginFlush k).wp.marker = true ∧ (s.beginFlush k).wp.flushQ = s.wp.flushQ ∧
    (s.beginFlush k).pwr = { s.pwr with hostStopped := s.pwr.hostStopped || !k.isGpf } := by
  rw [beginFlush_eq]
  generalize started : (if k.isGpf then s.flushNoted k else (s.flushNoted k).hostsStopped) = t
  have begun : t.wp.flush = some ⟨k, false, s.dirtyOldest⟩ ∧ t.wp.marker = true ∧ t.wp.flushQ = s.wp.flushQ ∧
      t.pwr = { s.pwr with hostStopped := s.pwr.hostStopped || !k.isGpf } := by
    subst started
    obtain ⟨flush, marker, queue, pwr⟩ := sameFlush_dropUpkeep (s.flushNoted k)
    split
    next gpf => simp [State.flushNoted, gpf]
    next other =>
      refine ⟨flush, marker, queue, ?_⟩
      simp only [State.hostsStopped, pwr, Bool.not_eq_true _ ▸ other, Bool.not_false, Bool.or_true]
      rfl
  have same : t.sameFlush (if s.dirtyOldest = [] then (s.dirtyOldest.foldl State.hand t).padAll else s.dirtyOldest.foldl State.hand t) := by
    have handed : t.sameFlush (s.dirtyOldest.foldl State.hand t) := .foldl sameFlush_hand _ t
    exact .ite (handed.trans (sameFlush_padAll _)) handed
  obtain ⟨flush, marker, queue, pwr⟩ := begun
  exact ⟨same.flush.trans flush, same.marker.trans marker, same.queue.trans queue, same.pwr.trans pwr⟩

theorem dirtyOldest_nil {s : State} (clean : s.dirtyLines = []) : s.dirtyOldest = [] := by
  rw [State.dirtyOldest, clean, List.map_nil, List.mergeSort_nil, List.map_nil]

/-! ### A power failure's flush -/

/-- The running flush noted as the power failure's. -/
def State.takenOver (s : State) (f : Flush) (lines owed : List Nat) : State :=
  { s with wp := { s.wp with flush := some ⟨.powerFail, f.failed, lines⟩, gpfOwed := s.wp.gpfOwed ++ owed } }

theorem toPowerFail_eq (s : State) (f : Flush) : ∃ (more lines owed : List Nat), s.toPowerFail f =
    let t := more.foldl State.hand (s.hostsStopped.takenOver f lines owed)
    if lines = [] then t.padAll else t := ⟨_, _, _, rfl⟩

theorem keepsEvents_toPowerFail (s : State) (f : Flush) : s.keepsEvents (s.toPowerFail f) := by
  obtain ⟨more, lines, owed, eq⟩ := toPowerFail_eq s f
  rw [eq]
  have taken (t : State) : t.keepsEvents (t.takenOver f lines owed) := .of_same rfl rfl id
  have handed := ((keepsEvents_hostsStopped s).trans (taken _)).trans (.foldl keepsEvents_hand more _)
  exact .ite (handed.trans (keepsEvents_padAll _)) handed

theorem pwr_toPowerFail (s : State) (f : Flush) : (s.toPowerFail f).pwr = { s.pwr with hostStopped := true } := by
  obtain ⟨more, lines, owed, eq⟩ := toPowerFail_eq s f
  rw [eq]
  have handed (t : State) : t.sameFlush (more.foldl State.hand t) := .foldl sameFlush_hand _ t
  have kept (t : State) : (if lines = [] then (more.foldl State.hand t).padAll else more.foldl State.hand t).pwr = t.pwr :=
    (State.sameFlush.ite ((handed t).trans (sameFlush_padAll _)) (handed t)).pwr
  have stopped (t : State) : (t.takenOver f lines owed).pwr = t.pwr := rfl
  have ports : s.hostsStopped.pwr = { s.pwr with hostStopped := true } :=
    congrArg (fun p : PwrState => { p with hostStopped := true }) (sameFlush_dropUpkeep s).pwr
  exact (kept _).trans ((stopped _).trans ports)

/-- The flush of a power failure begins, or takes over. -/
def State.pfFlushing (s : State) : State :=
  match s.wp.flush with
  | some f => s.toPowerFail f
  | none => s.beginFlush .powerFail

theorem keepsEvents_pfFlushing (s : State) : s.keepsEvents s.pfFlushing := by
  unfold State.pfFlushing
  split
  · exact keepsEvents_toPowerFail ..
  · exact keepsEvents_beginFlush ..

theorem pwr_pfFlushing (s : State) : s.pfFlushing.pwr = { s.pwr with hostStopped := true } := by
  unfold State.pfFlushing
  split
  · exact pwr_toPowerFail ..
  · obtain ⟨-, -, -, pwr⟩ := flush_beginFlush s .powerFail
    rw [pwr, show FlushKind.isGpf .powerFail = false from rfl, Bool.not_false, Bool.or_true]

/-- The sequencer in PF_FLUSH. -/
def State.inPfFlush (s : State) : State :=
  { s with pwr := { s.pwr with st := .pfFlush, seqUpOut := false, hostStopped := true, devReset := .none } }

/-- Every host port off. -/
def State.portsOff (s : State) : State :=
  { s with host := { s.host with heads := Tab.mapVals (fun _ => Head.fresh) (fun _ x => { x with link := .off }) s.host.heads } }

theorem enterPfFlush_eq (s : State) : s.enterPfFlush = (s.ctrInc 3 1).1.inPfFlush.pfFlushing.portsOff := by
  unfold State.enterPfFlush
  generalize (s.ctrInc 3 1).1 = t
  rfl

theorem keepsEvents_portsOff (s : State) : s.keepsEvents s.portsOff :=
  .of_evolves (L := [.host]) (ev_host ev_refl rfl fun w => by dsimp only [HostState.wf]; exact Tab.wf_mapVals _ _ _ w)

theorem keepsEvents_enterPfFlush (s : State) : s.keepsEvents s.enterPfFlush := by
  rw [enterPfFlush_eq]
  have entered (t : State) : t.keepsEvents t.inPfFlush := .of_same rfl rfl id
  exact (((keepsEvents_ctrInc s 3 1).trans (entered _)).trans (keepsEvents_pfFlushing _)).trans (keepsEvents_portsOff _)

theorem pwr_enterPfFlush (s : State) : s.enterPfFlush.pwr =
    { s.pwr with st := .pfFlush, seqUpOut := false, hostStopped := true, devReset := .none } := by
  have entered (t : State) : t.inPfFlush.pfFlushing.portsOff.pwr =
      { t.pwr with st := .pfFlush, seqUpOut := false, hostStopped := true, devReset := .none } := pwr_pfFlushing t.inPfFlush
  rw [enterPfFlush_eq]
  exact (entered _).trans (by rw [pwr_ctrInc])

end SameFlush
end Sys2Proof.Machine

/-!
PROOF. The power-up sequence (R440 to R445, Tables 13-1 to 13-3), command by command.
-/
namespace Sys2Proof.Machine
set_option Elab.async false

/-- A field keeps only the low bits of what is written to it. -/
theorem putBits_mod (w : Word) {hi lo : Nat} (v : Nat) (hl : lo ≤ hi) (hh : hi < 64) :
    putBits w hi lo v = putBits w hi lo (v % 2 ^ (hi + 1 - lo)) := by
  refine BitVec.eq_of_getLsbD_eq fun i small => ?_
  rw [getLsbD_putBits w hi lo _ i hl hh small, getLsbD_putBits w hi lo _ i hl hh small]
  split
  next inside => rw [Nat.testBit_mod_two_pow, decide_eq_true (by omega), Bool.true_and]
  next => rfl

theorem fld_setFld_mod (s : State) (f : Fld) (v : Nat) (wf : s.wf = true) (hl : f.lo ≤ f.hi) (hh : f.hi < 64) :
    (s.setFld f v).fld f = v % 2 ^ (f.hi + 1 - f.lo) := by
  have same : s.setFld f v = s.setFld f (v % 2 ^ (f.hi + 1 - f.lo)) := by
    unfold State.setFld
    rw [putBits_mod _ v hl hh]
  rw [same]
  exact fld_setFld_same s f _ wf hl hh (Nat.mod_lt _ (Nat.two_pow_pos _))

section PowerUp

variable {s : State}

theorem pwr_standbyDown (s : State) : s.standbyDown.pwr.stby = false ∧ s.standbyDown.pwr.en = 0#12 ∧
    s.standbyDown.pwr.coreOn = false ∧ s.standbyDown.evt.queue = [] := by
  refine ⟨rfl, rfl, ?_, rfl⟩
  have kept (t : State) : (t.resetRegs keptByStandby).pwr = t.pwr := evolves_get (State.resetRegs_ev t _) .pwr rfl
  change (State.resetRegs (if s.pwr.coreOn then s.coreDown keptByStandby true else s.mediaDown.thermalDown) keptByStandby).pwr.coreOn
    = false
  rw [kept]
  split
  next => rw [pwr_coreDown]
  next down => exact Bool.eq_false_iff.mpr down

theorem exec_standbyPowerOn (hbif : Bool) (wf : s.wf = true) (off : s.pwr.stby = false) :
    ∃ t, exec (.standbyPowerOn hbif) s = .next t ∧ t.pwr.stby = true ∧ t.pwr.st = .standby ∧ (t.host.hbif = hbif) ∧
      t.time.devtime = 0 ∧ t.fld F.pwrErrInfoStateAt = s.pwr.lossSt % 16 := by
  refine ⟨_, congrArg done (when_true (by rw [off]; rfl)), rfl, rfl, rfl, rfl, ?_⟩
  refine fld_setFld_mod _ F.pwrErrInfoStateAt s.pwr.lossSt ?_ (by decide) (by decide)
  exact wf

/-- The last rail has settled: ON. -/
theorem exec_railSettled_last (wf : s.wf = true) (st : s.pwr.st = .rampUp) (qual : s.pwr.qual.getLsbD s.pwr.cur = true)
    (settling : s.pwr.settled.getLsbD s.pwr.cur = false) (stay : s.pwr.offReq = false)
    (all : (s.rails.all fun i => (s.pwr.settled ||| bit12 s.pwr.cur).getLsbD i) = true) : ∃ t, exec (.railSettled) s = .next t ∧
      t.pwr.st = .on ∧ t.pwr.seqUpOut = true ∧ t.pwr.coreOn = true ∧ t.pwr.retries = 0 ∧ t.evtSet Ev.pwrSeqDone := by
  let settled : State := { s.begin with pwr := { s.pwr with settled := s.pwr.settled ||| bit12 s.pwr.cur } }
  have none : (settled.rails.find? fun i => !settled.pwr.settled.getLsbD i) = none := by
    rw [List.find?_eq_none]
    intro i mem unsettled
    have isSettled := List.all_eq_true.mp all i mem
    rw [Bool.not_eq_true'] at unsettled
    exact Bool.false_ne_true (unsettled.symm.trans isSettled)
  refine ⟨_, (congrArg done (when_true (by simp [st, qual, settling]))).trans ?_, reachOn_spec settled wf⟩
  dsimp only [State.begin_pwr]
  rw [if_neg (by rw [stay]; decide)]
  change Host.Outcome.next (match settled.rails.find? fun i => !settled.pwr.settled.getLsbD i with
    | some i => settled.startRail i
    | Option.none => settled.reachOn) = _
  rw [none]

/-- A rail has settled while an off request waits: the sequence turns down. -/
theorem exec_railSettled_off (st : s.pwr.st = .rampUp) (qual : s.pwr.qual.getLsbD s.pwr.cur = true)
    (settling : s.pwr.settled.getLsbD s.pwr.cur = false) (off : s.pwr.offReq = true) (first : s.pwr.en.getLsbD 8 = true) :
    ∃ t, exec (.railSettled) s = .next t ∧ t.pwr.st = .rampDown ∧ t.pwr.seqUpOut = false ∧ t.pwr.offReq = false := by
  let settled : State := { s.begin with pwr := { s.pwr with settled := s.pwr.settled ||| bit12 s.pwr.cur } }
  obtain ⟨i, rest, down⟩ := downList_enabled (s := settled) (i := 8) (by decide) first
  obtain ⟨ramp, -, -, -, up, offReq, -⟩ := pwr_rampDown_cons settled.pwr.why down
  exact ⟨_, (congrArg done (when_true (by simp [st, qual, settling]))).trans (congrArg Host.Outcome.next (if_pos off)), ramp, up,
    offReq⟩

/-- The rail waits to qualify again, and the event is counted and reported. -/
def State.chattered (s : State) (i : Nat) : State :=
  (({ s with pwr := { s.pwr with qual := s.pwr.qual &&& ~~~(bit12 i), chat := s.pwr.chat + 1 } } : State).railCount i 32).pwrEvent
    Ev.pwrChatter i

theorem chatter_eq (s : State) (i : Nat) : s.chatter i =
    if decide (4 ≤ s.pwr.chat + 1) && !s.pwr.offReq then (s.chattered i).seqAbort i else s.chattered i := rfl

theorem pwr_chattered (s : State) (i : Nat) :
    (s.chattered i).pwr = { s.pwr with qual := s.pwr.qual &&& ~~~(bit12 i), chat := s.pwr.chat + 1 } := by
  rw [State.chattered, pwr_pwrEvent, pwr_railCount]

theorem evtSet_chattered (i : Nat) (wf : s.wf = true) : (s.chattered i).evtSet Ev.pwrChatter :=
  evtSet_pwrEvent ((keepsEvents_railCount _ _ _).wf (by exact wf)) i (by decide)

theorem exec_chatter (wf : s.wf = true) (st : s.pwr.st = .rampUp) (qual : s.pwr.qual.getLsbD s.pwr.cur = true)
    (settling : s.pwr.settled.getLsbD s.pwr.cur = false) (stay : s.pwr.offReq = false) : ∃ t, exec (.chatter) s = .next t ∧
      (if s.pwr.chat < 3 then t.pwr.st = .rampUp ∧ t.pwr.chat = s.pwr.chat + 1 ∧
        t.pwr.qual = s.pwr.qual &&& ~~~(bit12 s.pwr.cur) ∧ t.evtSet Ev.pwrChatter else t.pwr.st = .rampDown ∧
        t.pwr.why = .abort ∧ t.pwr.faultSeq = true) := by
  refine ⟨s.begin.chatter s.pwr.cur, congrArg done (when_true (by simp [st, qual, settling])), ?_⟩
  rw [chatter_eq]
  by_cases few : s.pwr.chat < 3
  · rw [if_pos few, if_neg (by simp; omega), pwr_chattered]
    exact ⟨st, rfl, rfl, evtSet_chattered _ wf⟩
  · rw [if_neg few, if_pos (by simp [stay]; omega)]
    obtain ⟨ramp, why, fault, -⟩ := pwr_seqAbort (s.begin.chattered s.pwr.cur) s.pwr.cur
    exact ⟨ramp, why, fault⟩

theorem exec_stepTimeout (wf : s.wf = true) (st : s.pwr.st = .rampUp) (settling : s.pwr.settled.getLsbD s.pwr.cur = false)
    (stay : s.pwr.offReq = false) : ∃ t, exec (.stepTimeout) s = .next t ∧ t.pwr.st = .rampDown ∧ t.pwr.why = .abort ∧
      t.pwr.faultSeq = true ∧ t.pwr.down.head? = some s.pwr.cur ∧ t.evtSet Ev.pwrStepTimeout ∧ t.evtSet Ev.pwrSeqAbort := by
  have counted : (s.begin.railCount s.pwr.cur 16).wf = true := (keepsEvents_railCount ..).wf wf
  let reported := (s.begin.railCount s.pwr.cur 16).pwrEvent Ev.pwrStepTimeout s.pwr.cur
  have canonical : reported.wf = true := (keepsEvents_pwrEvent ..).wf counted
  have timeout : reported.evtSet Ev.pwrStepTimeout := evtSet_pwrEvent counted _ (by decide)
  obtain ⟨ramp, why, fault, first⟩ := pwr_seqAbort reported s.pwr.cur
  refine ⟨reported.seqAbort s.pwr.cur, (congrArg done (when_true (by simp [st, settling]))).trans ?_, ramp, why, fault, first,
    evtSet_seqAbort (by decide) (by decide) ((keepsEvents_aborting ..).evtSet canonical timeout),
    evtSet_seqAbort (by decide) (by decide) (evtSet_aborting _ canonical)⟩
  exact congrArg Host.Outcome.next (if_neg (by rw [State.begin_pwr, stay]; decide))

/-- A settled rail lost: its bit falls, and it is counted and reported. -/
def State.railGone (s : State) (i : Nat) : State :=
  (({ s with pwr := { s.pwr with qual := s.pwr.qual &&& ~~~(bit12 i) } } : State).railCount i 0).pwrEvent Ev.pwrRailLost i

theorem pwr_railGone (s : State) (i : Nat) : (s.railGone i).pwr = { s.pwr with qual := s.pwr.qual &&& ~~~(bit12 i) } := by
  rw [State.railGone, pwr_pwrEvent, pwr_railCount]

theorem evtSet_railGone (i : Nat) (wf : s.wf = true) : (s.railGone i).evtSet Ev.pwrRailLost :=
  evtSet_pwrEvent ((keepsEvents_railCount _ _ _).wf (by exact wf)) i (by decide)

theorem wf_railGone (i : Nat) (wf : s.wf = true) : (s.railGone i).wf = true :=
  ((keepsEvents_railCount _ _ _).trans (keepsEvents_pwrEvent ..)).wf (by exact wf)

theorem exec_railLost_rampUp {i : Nat} (settled : s.pwr.settled.getLsbD i = true) (st : s.pwr.st = .rampUp) :
    exec (.railLost i) s = .next ((s.begin.railGone i).seqAbort i) := by
  refine (congrArg done (when_true settled)).trans ?_
  rw [State.begin_pwr, st]
  rfl

theorem exec_railLost_on {i : Nat} (settled : s.pwr.settled.getLsbD i = true) (st : s.pwr.st = .on) (core : s.pwr.coreOn = true) :
    exec (.railLost i) s = .next (s.begin.railGone i).enterPfFlush := by
  have still : (s.begin.railGone i).pwr.coreOn = true := by
    rw [pwr_railGone]
    exact core
  refine (congrArg done (when_true settled)).trans ?_
  rw [State.begin_pwr, st]
  exact congrArg Host.Outcome.next (if_pos still)

theorem exec_railLost (i : Nat) (wf : s.wf = true) (settled : s.pwr.settled.getLsbD i = true)
    (st : s.pwr.st = .rampUp ∨ (s.pwr.st = .on ∧ s.pwr.coreOn = true)) : ∃ t, exec (.railLost i) s = .next t ∧
      (s.pwr.st = .rampUp → t.pwr.st = .rampDown ∧ t.pwr.why = .abort) ∧
      (s.pwr.st = .on → t.pwr.st = .pfFlush ∧ t.pwr.hostStopped = true ∧ t.evtSet Ev.pwrRailLost) := by
  rcases st with up | ⟨on, core⟩
  · obtain ⟨ramp, why, -, -⟩ := pwr_seqAbort (s.begin.railGone i) i
    exact ⟨_, exec_railLost_rampUp settled up, fun _ => ⟨ramp, why⟩, fun on => SeqSt.noConfusion (up.symm.trans on)⟩
  · refine ⟨_, exec_railLost_on settled on core, fun up => SeqSt.noConfusion (on.symm.trans up), fun _ => ?_⟩
    rw [pwr_enterPfFlush]
    exact ⟨rfl, rfl, (keepsEvents_enterPfFlush _).evtSet (wf_railGone (s := s.begin) i wf)
      (evtSet_railGone (s := s.begin) i wf)⟩

theorem exec_railQualified (st : s.pwr.st = .rampUp) (en : s.pwr.en.getLsbD s.pwr.cur = true)
    (qual : s.pwr.qual.getLsbD s.pwr.cur = false) : ∃ t, exec (.railQualified) s = .next t ∧
      t.pwr.qual = s.pwr.qual ||| bit12 s.pwr.cur ∧ s.keeps t [.pwr, .out] :=
  have run := congrArg done (when_true (by simp [st, en, qual]))
  ⟨_, run, rfl, (exec_evX .railQualified s _ run).1⟩

end PowerUp

/-- Settles O5: each command of the power-up sequence. -/
theorem powerUpCommands : Obligations.PowerUpCommands := by
  unfold Obligations.PowerUpCommands
  refine ⟨fun _ hbif wf off => exec_standbyPowerOn hbif wf off, fun s stby => ?_, fun s _ stby st up => ?_,
    fun _ st en qual => exec_railQualified st en qual, fun _ wf st qual settling stay all =>
      exec_railSettled_last wf st qual settling stay all, fun _ _ st qual settling off first =>
      exec_railSettled_off st qual settling off first, fun _ wf st qual settling stay _ => exec_chatter wf st qual settling stay,
    fun _ wf st settling stay _ => exec_stepTimeout wf st settling stay, fun _ i wf settled st => exec_railLost i wf settled st,
    fun s st up => ?_⟩
  case _ =>
    exact ⟨_, congrArg done (when_true stby), pwr_standbyDown _⟩
  case _ =>
    obtain ⟨ramp, cur, en, dn, -⟩ := pwr_rampUp s.begin
    exact ⟨_, congrArg done (when_true (by simp [stby, st, up])), ramp, cur, en, dn⟩
  case _ =>
    let again : State := { s.begin with pwr := { s.pwr with retries := s.pwr.retries + 1 } }
    obtain ⟨ramp, cur, -, -, retries⟩ := pwr_rampUp again
    refine ⟨_, (congrArg done (when_true (by rw [st]; rfl))).trans ?_, ramp, retries, cur⟩
    rw [State.begin_pwr, if_pos up]
    rfl

end Sys2Proof.Machine

/-!
PROOF. Power-down, requests and device conventional reset (R446 to R455, R461, R465, Tables 13-2 and 13-3), command by command.
-/
namespace Sys2Proof.Machine
set_option Elab.async false

section PowerDown

variable {s : State}

/-- The first of several rails to come down is disabled. -/
theorem nextDown_spec (s : State) : s.nextDown.pwr.st = (if s.pwr.down = [] then .offHold else s.pwr.st) ∧
    s.nextDown.pwr.down = s.pwr.down ∧ (s.pwr.down = [] → s.nextDown.pwr.seqDnOut = true) ∧
    (s.pwr.down.head?.all fun j => !s.nextDown.pwr.en.getLsbD j) = true ∧ s.nextDown.pwr.faultSeq = s.pwr.faultSeq := by
  unfold State.nextDown
  split
  next i rest down =>
    rw [down]
    refine ⟨rfl, down, fun none => (List.cons_ne_nil _ _ none).elim, ?_, rfl⟩
    by_cases inside : i < 12 <;> simp [State.stopRail, bit12, inside]
  next down => simp [down]

theorem exec_railOff {i : Nat} {rest : List Nat} (st : s.pwr.st = .rampDown) (down : s.pwr.down = i :: rest) : ∃ t,
    exec (.railOff i) s = .next t ∧ (t.pwr.st = (if rest = [] then .offHold else .rampDown)) ∧ t.pwr.down = rest ∧
      (rest = [] → t.pwr.seqDnOut = true) ∧ (rest.head?.all fun j => !t.pwr.en.getLsbD j) = true ∧ s.keeps t [.pwr, .out] := by
  have run := congrArg done (when_true (s := s) (k := fun s => ({ s with pwr := { s.pwr with down := s.pwr.down.tail } } : State).nextDown)
    (c := s.pwr.st == .rampDown && s.pwr.down.head? == some i) (by simp [st, down]))
  obtain ⟨next, left, held, off, -⟩ := nextDown_spec { s.begin with pwr := { s.begin.pwr with down := s.begin.pwr.down.tail } }
  simp only [State.begin_pwr, down, List.tail_cons, st] at next left held off
  refine ⟨_, run, ?_⟩
  simp only [State.begin_pwr, down, List.tail_cons, st]
  refine ⟨next, left, held, off, ?_⟩
  have frame := (exec_evX (.railOff i) s _ run).1
  simp only [State.begin_pwr, down, List.tail_cons, st] at frame
  exact frame

/-- A stuck rail, counted and reported. -/
def State.stuck (s : State) (i : Nat) : State := (s.stuckCount i).pwrEvent Ev.pwrRailStuck i

theorem exec_railStuck {i : Nat} {rest : List Nat} (wf : s.wf = true) (st : s.pwr.st = .rampDown) (down : s.pwr.down = i :: rest) :
    ∃ t, exec (.railStuck i) s = .next t ∧ t.pwr.faultSeq = true ∧ t.pwr.down = rest ∧ t.evtSet Ev.pwrRailStuck := by
  have counted : (s.begin.stuckCount i).wf = true := (keepsEvents_stuckCount ..).wf wf
  have pwr : (s.begin.stuck i).pwr = s.pwr := by rw [State.stuck, pwr_pwrEvent, pwr_stuckCount, State.begin_pwr]
  have reported : (s.begin.stuck i).evtSet Ev.pwrRailStuck := evtSet_pwrEvent counted i (by decide)
  generalize stuck : s.begin.stuck i = u at pwr reported
  obtain ⟨-, left, -, -, fault⟩ := nextDown_spec { u with pwr := { u.pwr with faultSeq := true, down := u.pwr.down.tail } }
  refine ⟨_, (congrArg done (when_true (by simp [st, down]))).trans ?_, fault, ?_,
    (evtSet_of_reg (reg_evolves (State.nextDown_ev _) rfl rfl _)).mpr reported⟩
  · rw [← stuck]
    rfl
  · rw [left, pwr, down]
    rfl

theorem exec_offHoldEnd (st : s.pwr.st = .offHold) (up : s.pwr.seqUpIn = true) : ∃ t, exec (.offHoldEnd) s = .next t ∧
    (s.pwr.why = .normal → t.pwr.st = .standby) ∧ (s.pwr.why = .localOff ∨ s.pwr.why = .trip → t.pwr.st = .latched) ∧
    (s.pwr.why = .abort → t.pwr.st = (if s.pwr.retries < s.fld F.pwrCfgRetries then .retryWait else .latched)) := by
  refine ⟨_, congrArg done (when_true (by rw [st]; rfl)), ?_⟩
  have fld : s.begin.fld F.pwrCfgRetries = s.fld F.pwrCfgRetries := rfl
  cases why : s.pwr.why <;> simp only [State.begin_pwr, why, up, fld, pwr_pwrEvent, if_true]
  case abort => split <;> simp
  all_goals simp

/-- A flush that is asked for leaves the sequencer, but for the host ports that it stops. -/
theorem pwr_requestFlush (s : State) (k : FlushKind) : (s.requestFlush k).pwr =
    { s.pwr with hostStopped := s.pwr.hostStopped || (s.wp.flush.isNone && !k.isGpf) } := by
  unfold State.requestFlush
  split
  next idle =>
    obtain ⟨-, -, -, pwr⟩ := flush_beginFlush s k
    rw [pwr, idle]
    rfl
  next f running => simp [running]

/-- SEQ_UP_IN falls in ON: QUIESCE begins. -/
theorem pwr_offInOn (why : OffWhy) (noReset : s.pwr.devReset = .none) : (s.offInOn why).pwr.st = .quiesce ∧
    (s.offInOn why).pwr.hostStopped = true ∧ (s.offInOn why).pwr.why = why ∧
    (s.offInOn why).pwr.seqUpIn = s.pwr.seqUpIn := by
  unfold State.offInOn
  dsimp only
  rw [noReset]
  simp [pwr_requestFlush]

theorem exec_seqUpInFall (stby : s.pwr.stby = true) (noReset : s.pwr.devReset = .none) : ∃ t, exec (.seqUpInFall) s = .next t ∧
    t.pwr.seqUpIn = false ∧ (s.pwr.st = .rampUp → t.pwr.st = .rampUp ∧ t.pwr.offReq = true) ∧
    (s.pwr.st = .retryWait ∨ s.pwr.st = .latched → t.pwr.st = .standby) ∧ (s.pwr.st = .on → t.pwr.st = .quiesce ∧
    t.pwr.hostStopped = true ∧ t.pwr.why = .normal) := by
  refine ⟨_, congrArg done (when_true stby), ?_⟩
  cases st : s.pwr.st <;> simp only [State.begin_pwr, st]
  case on =>
    obtain ⟨quiet, stopped, why, low⟩ := pwr_offInOn (s := { s.begin with pwr := { s.pwr with seqUpIn := false } }) .normal noReset
    dsimp only at quiet stopped why low
    simpa using ⟨low, quiet, stopped, why⟩
  all_goals simp

/-- What RAMP_DOWN leaves of the cascade's input. -/
theorem seqDnIn_rampDown (s : State) (first : Option Nat) (why : OffWhy) :
    (s.rampDown first why).pwr.seqDnIn = s.pwr.seqDnIn := by
  have kept : s.powerDown.pwr.seqDnIn = s.pwr.seqDnIn := by
    unfold State.powerDown
    split
    · rw [pwr_coreDown]
    · rfl
  rw [rampDown_eq]
  unfold State.nextDown
  split <;> exact kept

theorem exec_seqDnInRise (stby : s.pwr.stby = true) (st : s.pwr.st = .waitDn) (en : s.pwr.en.getLsbD 8 = true) : ∃ t,
    exec (.seqDnInRise) s = .next t ∧ t.pwr.seqDnIn = true ∧ t.pwr.st = .rampDown ∧ t.pwr.why = s.pwr.why := by
  let risen : State := { s.begin with pwr := { s.pwr with seqDnIn := true } }
  obtain ⟨i, rest, down⟩ := downList_enabled (s := risen) (i := 8) (by decide) en
  obtain ⟨ramp, -, why, -⟩ := pwr_rampDown_cons s.pwr.why down
  exact ⟨_, (congrArg done (when_true stby)).trans (congrArg Host.Outcome.next (if_pos st)), seqDnIn_rampDown risen _ _, ramp, why⟩

theorem exec_cascadeTimeout (wf : s.wf = true) (st : s.pwr.st = .waitDn) (low : s.pwr.seqDnIn = false)
    (en : s.pwr.en.getLsbD 8 = true) : ∃ t, exec (.cascadeTimeout) s = .next t ∧ t.pwr.st = .rampDown ∧
      t.evtSet Ev.pwrCascadeTimeout := by
  let told := s.begin.pwrEvent Ev.pwrCascadeTimeout 0
  have pwr : told.pwr = s.pwr := pwr_pwrEvent ..
  obtain ⟨i, rest, down⟩ := downList_enabled (s := told) (i := 8) (by decide) (by rw [pwr]; exact en)
  obtain ⟨ramp, -⟩ := pwr_rampDown_cons s.pwr.why down
  exact ⟨told.rampDown none s.pwr.why, congrArg done (when_true (by simp [st, low])), ramp,
    (evtSet_of_reg (reg_rampDown_cons _ down (by decide) (by decide))).mpr (evtSet_pwrEvent (s := s.begin) wf 0 (by decide))⟩

theorem exec_localOff {h : Nat} (key : Nat) (wf : s.wf = true) (ready : s.barReady h) (st : s.pwr.st = .on)
    (noReset : s.pwr.devReset = .none) : ∃ t, exec (.localOff h key) s = .next t ∧ (key = 0xD5 → t.pwr.st = .quiesce ∧
      t.pwr.why = .localOff ∧ t.pwr.hostStopped = true) ∧ (key ≠ 0xD5 → t.pwr = s.pwr ∧ t.evtSet Ev.pwrRefused) := by
  refine ⟨_, congrArg done (barWrite_ready ready), ?_⟩
  by_cases keyed : key = 0xD5
  · rw [if_pos ⟨keyed, st⟩]
    obtain ⟨quiet, stopped, why, -⟩ := pwr_offInOn (s := s.begin) .localOff noReset
    exact ⟨fun _ => ⟨quiet, why, stopped⟩, fun other => absurd keyed other⟩
  · rw [if_neg fun both => keyed both.1]
    exact ⟨fun same => absurd same keyed, fun _ => ⟨State.raise_pwr .., evtSet_raise s.begin _ wf (by decide)⟩⟩

/-! ### Power failure and device conventional reset -/

/-- What holds of every listed value and of every default holds of every entry. -/
theorem Tab.get_of_all {α : Type} {P : α → Prop} {d : Nat → α} {t : Tab α} (listed : ∀ p ∈ t, P p.2) (default : ∀ k, P (d k)) (k : Nat) :
    P (Tab.get d t k) := by
  induction t with
  | nil => exact default k
  | cons p t ih =>
    unfold Tab.get
    split
    · exact listed p List.mem_cons_self
    · exact ih fun q mem => listed q (List.mem_cons_of_mem p mem)

theorem link_portsOff (s : State) (h : Nat) : (s.portsOff.head h).link = .off := by
  refine Tab.get_of_all (P := fun x : Head => x.link = .off) (fun p mem => ?_) (fun _ => rfl) h
  obtain ⟨q, -, rfl⟩ := List.mem_map.mp (List.mem_of_mem_filter mem)
  rfl

/-- The warning of a power failure. -/
def State.warned (s : State) : State := ({ s with pwr := { s.pwr with pfw := true } } : State).pwrEvent Ev.pwrPowerFail s.pwr.cur

theorem pwr_warned (s : State) : s.warned.pwr = { s.pwr with pfw := true } := pwr_pwrEvent ..

theorem keepsEvents_warned (s : State) : s.keepsEvents s.warned := by
  unfold State.warned
  exact .trans (.of_evolves (L := [.pwr]) (ev_pwr ev_refl rfl)) (keepsEvents_pwrEvent ..)

theorem evtSet_warned (wf : s.wf = true) : s.warned.evtSet Ev.pwrPowerFail := by
  unfold State.warned
  exact evtSet_pwrEvent ((ev_pwr (L := [.pwr]) ev_refl rfl).2 wf) _ (by decide)

theorem exec_powerFail_flush (stby : s.pwr.stby = true) (core : s.pwr.coreOn = true) (st : s.pwr.st = .on ∨ s.pwr.st = .quiesce) :
    exec (.powerFail) s = .next s.begin.warned.enterPfFlush := by
  refine (congrArg done (when_true stby)).trans ?_
  replace st : s.begin.pwr.st = .on ∨ s.begin.pwr.st = .quiesce := st
  replace core : s.begin.pwr.coreOn = true := core
  generalize s.begin = u at st core
  unfold State.warned
  dsimp only
  rcases st with on | quiet
  · rw [on]
    dsimp only
    rw [if_pos core]
    rfl
  · rw [quiet]
    rfl

theorem exec_powerFail (wf : s.wf = true) (stby : s.pwr.stby = true) (core : s.pwr.coreOn = true)
    (st : s.pwr.st = .on ∨ s.pwr.st = .quiesce) : ∃ t, exec (.powerFail) s = .next t ∧ t.pwr.st = .pfFlush ∧
      t.pwr.pfw = true ∧ t.pwr.hostStopped = true ∧ t.evtSet Ev.pwrPowerFail ∧
      (s.host.heads.all fun p => (t.head p.1).link == .off) = true := by
  have told : s.begin.warned.evtSet Ev.pwrPowerFail := evtSet_warned (s := s.begin) wf
  have canonical : s.begin.warned.wf = true := (keepsEvents_warned s.begin).wf wf
  have pwr := pwr_enterPfFlush s.begin.warned
  rw [pwr_warned] at pwr
  refine ⟨_, exec_powerFail_flush stby core st, ?_, ?_, ?_, (keepsEvents_enterPfFlush _).evtSet canonical told,
    List.all_eq_true.mpr fun p _ => ?_⟩
  · rw [pwr]
  · rw [pwr]
  · rw [pwr]
  · rw [enterPfFlush_eq, link_portsOff]
    rfl

theorem exec_devReset {h : Nat} (key : Nat) (wf : s.wf = true) (ready : s.barReady h) (st : s.pwr.st = .on)
    (noReset : s.pwr.devReset = .none) (runs : s.fwu.paused = false) : ∃ t, exec (.devReset h key) s = .next t ∧
      (key = 0xD5 → t.pwr.devReset = .flushing ∧ t.pwr.hostStopped = true) ∧
      (key ≠ 0xD5 → t.pwr = s.pwr ∧ t.evtSet Ev.pwrRefused) := by
  refine ⟨_, congrArg done (barWrite_ready ready), ?_⟩
  by_cases keyed : key = 0xD5
  · rw [if_neg (by simp [keyed, st, noReset]), if_neg (by simp [runs])]
    refine ⟨fun _ => ?_, fun other => absurd keyed other⟩
    unfold State.startDevReset
    simp [pwr_requestFlush]
  · rw [if_pos (.inl keyed)]
    exact ⟨fun same => absurd same keyed, fun _ => ⟨State.raise_pwr .., evtSet_raise s.begin _ wf (by decide)⟩⟩

theorem exec_devResetDone (wf : s.wf = true) (holding : s.pwr.devReset = .holding) : ∃ t, exec (.devResetDone) s = .next t ∧
    t.pwr.devReset = .none ∧ t.pwr.coreOn = true ∧ t.evtSet Ev.pwrDevResetDone := by
  let ended : State := { s.begin with pwr := { s.pwr with devReset := .none } }
  have undone : ended.applyUndo.wf = true := (State.applyUndo_ev ended).2 wf
  have pwr : (ended.applyUndo.raise Ev.pwrDevResetDone).pwr = ended.pwr :=
    (State.raise_pwr ..).trans (evolves_get (State.applyUndo_ev ended) .pwr rfl)
  refine ⟨(ended.applyUndo.raise Ev.pwrDevResetDone).coreUp, congrArg done (when_true (by rw [holding]; rfl)), ?_, ?_,
    (keepsEvents_coreUp _).evtSet (wf_raise _ _ undone) (evtSet_raise _ _ undone (by decide))⟩
  · rw [pwr_coreUp, pwr]
  · rw [pwr_coreUp]

/-! ### The clear of the sequencing counters -/

/-- A counter whose cells are all blank and good. -/
def State.blankCounter (s : State) (c : Nat) : Prop := ∀ j < 16, s.cell c j = some 0 ∧ s.cellGood c j = true

theorem bestCell_blank {c : Nat} (n : Nat) (small : n < 16) (blank : s.blankCounter c) : s.bestCell c (n + 1) = some (0, 0) := by
  induction n with
  | zero =>
    unfold State.bestCell
    rw [(blank 0 (by omega)).1]
    rfl
  | succ n ih =>
    unfold State.bestCell
    rw [ih (by omega), (blank (n + 1) small).1]
    rfl

/-- A clear of a blank counter starts generation 1. -/
theorem ctrClear_blank {c : Nat} (blank : s.blankCounter c) : s.ctrClear c = (s.setCell c 1 (some (2 ^ 48)), true) := by
  have best : s.bestCell c 16 = some (0, 0) := bestCell_blank 15 (by omega) blank
  have written : s.ctrWrite c (2 ^ 48) = (s.setCell c 1 (some (2 ^ 48)), .ok) := by
    unfold State.ctrWrite
    rw [best]
    exact if_pos (blank 1 (by omega)).2
  unfold State.ctrClear
  simp only [ctrVal_of_best best, Nat.zero_div, Nat.zero_add, one_mul, written]
  rfl

/-- One counter's part of PWR_CTL.CNT_CLR. -/
def State.pwrClear (s : State) (c : Nat) : State :=
  match s.ctrClear c with
  | (u, true) => u
  | (u, false) => u.raise Ev.pwrRefused

theorem pwrClear_blank {c : Nat} (blank : s.blankCounter c) : s.pwrClear c = s.setCell c 1 (some (2 ^ 48)) := by
  unfold State.pwrClear
  rw [ctrClear_blank blank]

/-- Clearing one blank counter after the other leaves each in generation 1, and the others as they were. -/
theorem pwrClear_all {l : List Nat} (distinct : l.Nodup) (wf : s.wf = true) (blank : ∀ c ∈ l, s.blankCounter c) :
    (∀ c ∈ l, (l.foldl State.pwrClear s).ctr c = some (2 ^ 48)) ∧
      (∀ c ∉ l, ∀ j < 16, (l.foldl State.pwrClear s).cell c j = s.cell c j) := by
  induction l generalizing s with
  | nil => exact ⟨fun c mem => absurd mem List.not_mem_nil, fun _ _ _ _ => rfl⟩
  | cons a l ih =>
    obtain ⟨fresh, distinct⟩ := List.nodup_cons.mp distinct
    have here := blank a List.mem_cons_self
    rw [List.foldl_cons, pwrClear_blank here]
    have apart (c : Nat) (other : c ≠ a) (j : Nat) (small : j < 16) :
        (s.setCell a 1 (some (2 ^ 48))).cell c j = s.cell c j := cell_setCell_other s a 1 c j _ (by omega)
    obtain ⟨cleared, kept⟩ := ih (s := s.setCell a 1 (some (2 ^ 48))) distinct ((State.setCell_ev ..).2 wf) fun c mem j small =>
      have ⟨zero, good⟩ := blank c (List.mem_cons_of_mem a mem) j small
      ⟨(apart c (fun same => fresh (same ▸ mem)) j small).trans zero, good⟩
    refine ⟨fun c mem => ?_, fun c out j small => ?_⟩
    · rcases List.mem_cons.mp mem with rfl | later
      · have first := ctr_setCell s c 0 1 0 (2 ^ 48) wf (by omega) (bestCell_blank 15 (by omega) here) (by omega)
        unfold State.ctr at first ⊢
        rw [bestCell_congr c 16 (kept c fresh), first]
      · exact cleared c later
    · rw [List.mem_cons, not_or] at out
      exact (kept c out.2 j small).trans (apart c out.1 j small)

/-- The counters that PWR_CTL.CNT_CLR clears. -/
def seqCounters : List Nat := 1 :: (List.range 16).map (fun i => 16 + i)

theorem exec_pwrCntClr {h : Nat} (wf : s.wf = true) (ready : s.barReady h)
    (blank : (seqCounters.all fun c => (List.range 16).all fun j => (s.cell c j) == some 0 && s.cellGood c j) = true) :
    ∃ t, exec (.pwrCntClr h) s = .next t ∧ (seqCounters.all fun c => t.ctr c == some (2 ^ 48)) = true := by
  have blanks (c : Nat) (mem : c ∈ seqCounters) : s.begin.blankCounter c := fun j small => by
    have both := List.all_eq_true.mp (List.all_eq_true.mp blank c mem) j (List.mem_range.mpr small)
    rw [Bool.and_eq_true, beq_iff_eq] at both
    exact both
  obtain ⟨cleared, -⟩ := pwrClear_all (s := s.begin) (l := seqCounters) (by decide) wf blanks
  exact ⟨seqCounters.foldl State.pwrClear s.begin, congrArg done (barWrite_ready ready),
    List.all_eq_true.mpr fun c mem => beq_iff_eq.mpr (cleared c mem)⟩

end PowerDown

/-- Settles O6: each command of power-down, of the requests and of the device conventional reset. -/
theorem powerDownCommands : Obligations.PowerDownCommands := by
  unfold Obligations.PowerDownCommands
  refine ⟨fun _ _ _ st down => exec_railOff st down, fun _ _ _ wf st down => exec_railStuck wf st down,
    fun _ st up => exec_offHoldEnd st up, fun _ stby noReset => exec_seqUpInFall stby noReset, fun s stby => ?_,
    fun _ _ stby st en => exec_seqDnInRise stby st en, fun _ wf st low _ en => exec_cascadeTimeout wf st low en,
    fun _ _ key wf ready st noReset => exec_localOff key wf ready st noReset,
    fun _ wf stby core st => exec_powerFail wf stby core st,
    fun _ _ key wf ready st noReset runs => exec_devReset key wf ready st noReset runs,
    fun _ wf holding => exec_devResetDone wf holding, fun _ _ wf ready blank => exec_pwrCntClr wf ready blank⟩
  have run : exec (.seqUpInRise) s = .next _ := congrArg done (when_true stby)
  exact ⟨_, run, rfl, rfl, (exec_evX .seqUpInRise s _ run).1⟩

end Sys2Proof.Machine

/-!
PROOF. Flushes, the start of the management firmware and the memory becoming active (R62, R180, R217, R514, R515, R599).
-/
namespace Sys2Proof.Machine
set_option Elab.async false

section FlushAndStart

variable {s : State}

theorem dirtyOldest_begin (clean : s.dirtyLines = []) : s.begin.dirtyOldest = [] := dirtyOldest_nil (s := s.begin) clean

theorem exec_gpfPhase2Request_idle {h : Nat} (up : s.ioUp h = true) (idle : s.wp.flush = none) (clean : s.dirtyLines = []) : ∃ t,
    exec (.gpfPhase2Request h) s = .next t ∧ t.wp.flush = some ⟨.gpf h, false, []⟩ ∧ t.wp.marker = true := by
  obtain ⟨flush, marker, -, -⟩ := flush_beginFlush s.begin (.gpf h)
  rw [dirtyOldest_begin clean] at flush
  refine ⟨_, (congrArg done (if_pos up)).trans ?_, flush, marker⟩
  unfold State.requestFlush
  rw [State.begin_wp, idle]
  rfl

theorem exec_gpfPhase2Request_busy {h : Nat} {f : Flush} (up : s.ioUp h = true) (runs : s.wp.flush = some f) :
    exec (.gpfPhase2Request h) s = .next { s.begin with wp := { s.wp with flushQ := s.wp.flushQ ++ [.gpf h] } } := by
  refine (congrArg done (if_pos up)).trans ?_
  unfold State.requestFlush
  rw [State.begin_wp, runs]
  rfl

theorem exec_queuedFlushStart {k : FlushKind} {rest : List FlushKind} (core : s.pwr.coreOn = true) (idle : s.wp.flush = none)
    (queue : s.wp.flushQ = k :: rest) (clean : s.dirtyLines = []) : ∃ t, exec (.queuedFlushStart) s = .next t ∧
      t.wp.flush = some ⟨k, false, []⟩ ∧ t.wp.flushQ = rest := by
  let taken : State := { s.begin with wp := { s.wp with flushQ := rest } }
  obtain ⟨flush, -, left, -⟩ := flush_beginFlush taken k
  rw [dirtyOldest_nil (s := taken) clean] at flush
  refine ⟨taken.beginFlush k, (congrArg done (when_true (by simp [core, idle]))).trans ?_, flush, left⟩
  dsimp only
  rw [State.begin_wp, queue]
  rfl

theorem flush_coreDown (s : State) (kept : Nat → Bool) (thermal : Bool) : (s.coreDown kept thermal).wp.flush = none := by
  unfold State.coreDown State.resetRegs
  cases thermal <;> simp [State.dropRegs, State.headsDown, State.mediaDown, State.enginesDown, State.cacheDown, State.stagingDown,
    State.thermalDown]

/-- With the core on, RAMP_DOWN ends the flush. -/
theorem flush_rampDown (first : Option Nat) (why : OffWhy) (core : s.pwr.coreOn = true) : (s.rampDown first why).wp.flush = none := by
  have down : s.powerDown.wp.flush = none := by
    rw [State.powerDown, if_pos core]
    exact flush_coreDown ..
  rw [rampDown_eq, evolves_get (State.nextDown_ev _) .wp rfl]
  exact down

/-- What the end of a power failure's flush does before the rails come down. -/
def State.flushed (s : State) (f : Flush) : State :=
  (((s.flushCkpt f.kind false).gpfAnswers f.kind false).saveHist).raise Ev.pwrFlushDone

theorem evolves_flushed (s : State) (f : Flush) :
    s.evolves (((s.flushCkpt f.kind false).gpfAnswers f.kind false).saveHist)
      [.regs, .pmc, .evt, .host, .swt, .map, .wp, .rd, .cry, .epo, .ntn, .upk, .out] :=
  ev_step (ev_step (ev_step ev_refl (State.flushCkpt_ev s _ _) rfl) (State.gpfAnswers_ev _ _ _) rfl) (State.saveHist_ev _) rfl

theorem pwr_flushed (s : State) (f : Flush) : (s.flushed f).pwr = s.pwr :=
  (State.raise_pwr ..).trans (evolves_get (evolves_flushed s f) .pwr rfl)

theorem exec_flushDone {f : Flush} (wf : s.wf = true) (core : s.pwr.coreOn = true) (runs : s.wp.flush = some f)
    (kind : f.kind = .powerFail) (good : f.failed = false) (empty : f.lines = []) (written : s.flushWritten f = true)
    (en : s.pwr.en.getLsbD 8 = true) : ∃ t, exec (.flushDone true) s = .next t ∧ t.wp.flush = none ∧ t.pwr.st = .rampDown ∧
      t.pwr.coreOn = false ∧ t.evtSet Ev.pwrFlushDone := by
  have pwr : (s.begin.flushed f).pwr = s.pwr := pwr_flushed ..
  have told : (s.begin.flushed f).evtSet Ev.pwrFlushDone :=
    evtSet_raise _ _ ((evolves_flushed s.begin f).2 wf) (by decide)
  obtain ⟨i, rest, down⟩ := downList_enabled (s := s.begin.flushed f) (i := 8) (by decide) (by rw [pwr]; exact en)
  obtain ⟨ramp, -, -, off, -⟩ := pwr_rampDown_cons (s.begin.flushed f).pwr.why down
  refine ⟨(s.begin.flushed f).rampDown none (s.begin.flushed f).pwr.why, (congrArg done (when_true core)).trans ?_,
    flush_rampDown _ _ (by rw [pwr]; exact core), ramp, off,
    (evtSet_of_reg (reg_rampDown_cons _ down (by decide) (by decide))).mpr told⟩
  have notStuck : s.begin.flushStuck f = false := by simp [State.flushStuck, empty]
  replace written : s.begin.flushWritten f = true := written
  replace runs : s.begin.wp.flush = some f := runs
  generalize s.begin = u at runs notStuck written
  dsimp only
  rw [runs]
  unfold State.flushed
  dsimp only
  rw [written, notStuck, good, kind]
  simp only [Bool.or_self, Bool.not_true, Bool.not_false, Bool.true_or, if_true, State.raiseIf,
    State.afterFlush]
  rfl

/-- The management firmware runs. -/
def State.firmwareStarted (s : State) : State :=
  { s with fwu := { s.fwu with running := true, rom := false, trialMethod := 0 },
           side := { s.side with hotJoin := s.side.i3cAddr.isNone } }

/-- A trial's boot attempts are forgotten once its image runs. -/
def State.attemptsOver (s : State) : State :=
  if s.boot.st = .trial then s.setBoot { s.boot with attempts := 0 } else s

theorem fwu_attemptsOver (s : State) : s.attemptsOver.fwu.running = s.fwu.running ∧ s.attemptsOver.fwu.rom = s.fwu.rom := by
  unfold State.attemptsOver
  split <;> exact ⟨rfl, rfl⟩

theorem exec_firmwareRunning (core : s.pwr.coreOn = true) (rom : s.fwu.rom = true) (later : s.fwu.trialMethod ≠ 3) : ∃ t,
    exec (.firmwareRunning) s = .next t ∧ t.fwu.running = true ∧ t.fwu.rom = false := by
  refine ⟨s.begin.firmwareStarted.attemptsOver, (congrArg done (when_true (by simp [core, rom]))).trans ?_, fwu_attemptsOver _⟩
  have notFirst : (s.fwu.trialMethod == 3) = false := beq_eq_false_iff_ne.mpr later
  simp only [State.begin_fwu, notFirst, Bool.false_and, Bool.false_eq_true, if_false]
  rfl

end FlushAndStart

/-- Settles O7: the commands of the flushes and of the start-up. -/
theorem flushAndStartCommands : Obligations.FlushAndStartCommands := by
  unfold Obligations.FlushAndStartCommands
  refine ⟨fun _ _ up idle clean => exec_gpfPhase2Request_idle up idle clean, fun s h f up runs => ?_,
    fun _ _ _ core idle queue clean => exec_queuedFlushStart core idle queue clean,
    fun _ _ wf core runs kind good empty written en => exec_flushDone wf core runs kind good empty written en,
    fun _ _ core rom later => exec_firmwareRunning core rom later, fun s may => ?_⟩
  case _ =>
    refine ⟨_, exec_gpfPhase2Request_busy up runs, runs, rfl, fun p => ?_⟩
    cases p <;> first | exact .inl (by decide) | exact .inr rfl | exact .inr ⟨rfl, rfl⟩
  case _ =>
    have run : exec (.memoryActive) s = .next _ := congrArg done (when_true may)
    exact ⟨_, run, rfl, rfl, (exec_evX .memoryActive s _ run).1⟩

end Sys2Proof.Machine

/-!
PROOF. Several fields set one after the other: fields of one register that share no bit, and registers that are not written.
-/
namespace Sys2Proof.Machine
set_option Elab.async false

/-- Bits of a 64-bit register. -/
def Fld.valid (f : Fld) : Bool := decide (f.lo ≤ f.hi) && decide (f.hi < 64)

/-- The two fields share no bit. -/
def Fld.apart (f g : Fld) : Bool := f.off != g.off || decide (f.hi < g.lo) || decide (g.hi < f.lo)

/-- The fields of a list are valid and share no bit. -/
def apartAll : List (Fld × Nat) → Bool
  | [] => true
  | p :: l => p.1.valid && (l.all fun q => q.1.valid && p.1.apart q.1) && apartAll l

/-- Fields set one after the other. -/
def State.setFlds (s : State) (l : List (Fld × Nat)) : State := l.foldl (fun t p => t.setFld p.1 p.2) s

section Fields

variable {s : State} {f g : Fld}

theorem fld_setFld_of_apart (v : Nat) (wf : s.wf = true) (validF : f.valid = true) (validG : g.valid = true)
    (apart : f.apart g = true) : (s.setFld g v).fld f = s.fld f := by
  simp only [Fld.valid, Bool.and_eq_true, decide_eq_true_eq] at validF validG
  by_cases same : f.off = g.off
  · simp only [Fld.apart, same, bne_self_eq_false, Bool.false_or, Bool.or_eq_true, decide_eq_true_eq] at apart
    exact fld_setFld_apart s g f v wf same validG.1 validG.2 validF.1 validF.2 apart
  · exact fld_setFld_off s g f v same

theorem setFlds_cons (s : State) (p : Fld × Nat) (l : List (Fld × Nat)) : s.setFlds (p :: l) = (s.setFld p.1 p.2).setFlds l := rfl

/-- A field that shares no bit with those set stays. -/
theorem fld_setFlds_other (l : List (Fld × Nat)) (wf : s.wf = true) (valid : f.valid = true)
    (apart : (l.all fun q => q.1.valid && f.apart q.1) = true) : (s.setFlds l).fld f = s.fld f := by
  induction l generalizing s with
  | nil => rfl
  | cons p l ih =>
    rw [List.all_cons, Bool.and_eq_true, Bool.and_eq_true] at apart
    obtain ⟨⟨validP, here⟩, rest⟩ := apart
    rw [setFlds_cons, ih (wf_setFld _ _ _ wf) rest, fld_setFld_of_apart _ wf valid validP here]

/-- Each field set reads what it was set to. -/
theorem fld_setFlds_mem {l : List (Fld × Nat)} {v : Nat} (wf : s.wf = true) (apart : apartAll l = true) (mem : (f, v) ∈ l)
    (fits : v < 2 ^ (f.hi + 1 - f.lo)) : (s.setFlds l).fld f = v := by
  induction l generalizing s with
  | nil => exact absurd mem List.not_mem_nil
  | cons p l ih =>
    rw [apartAll, Bool.and_eq_true, Bool.and_eq_true] at apart
    obtain ⟨⟨valid, others⟩, rest⟩ := apart
    rcases List.mem_cons.mp mem with rfl | later
    · simp only [Fld.valid, Bool.and_eq_true, decide_eq_true_eq] at valid
      rw [setFlds_cons, fld_setFlds_other l (wf_setFld _ _ _ wf) (by simp [Fld.valid, valid]) others]
      exact fld_setFld_same s f v wf valid.1 valid.2 fits
    · exact ih (wf_setFld _ _ _ wf) rest later

/-- A register with none of the fields set stays. -/
theorem reg_setFlds_other (l : List (Fld × Nat)) {off : Nat} (other : (l.all fun q => off != q.1.off) = true) :
    (s.setFlds l).reg off = s.reg off := by
  induction l generalizing s with
  | nil => rfl
  | cons p l ih =>
    rw [List.all_cons, Bool.and_eq_true, bne_iff_ne] at other
    rw [setFlds_cons, ih other.2, reg_setFld_other s p.1 p.2 off other.1]

theorem keepsRegs_setFlds (s : State) (l : List (Fld × Nat)) : s.keepsRegs (s.setFlds l) (l.map fun q => q.1.off) := fun off => by
  by_cases mem : off ∈ l.map fun q => q.1.off
  · exact .inl mem
  · refine .inr (reg_setFlds_other l (List.all_eq_true.mpr fun q inside => bne_iff_ne.mpr fun same => mem ?_))
    exact List.mem_map.mpr ⟨q, inside, same.symm⟩

/-- What sets fields leaves every part of the state but the register stores. -/
theorem evolves_setFlds (s : State) (l : List (Fld × Nat)) : s.evolves (s.setFlds l) [.regs, .pmc] :=
  ev_foldl ev_refl fun _ _ reached => ev_step reached (State.setFld_ev ..) rfl

theorem keepsRegs_trans {t u : State} {L M N : List Nat} (a : s.keepsRegs t L) (b : t.keepsRegs u M)
    (left : L ⊆ N) (right : M ⊆ N) : s.keepsRegs u N := fun off =>
  (b off).elim (fun mem => .inl (right mem)) fun same => (a off).imp (left ·) same.trans

/-- What leaves the register stores leaves every register. -/
theorem keepsRegs_evolves {t : State} {L : List Piece} (N : List Nat) (a : s.evolves t L) (noRegs : L.contains .regs = false := by rfl)
    (noPmc : L.contains .pmc = false := by rfl) : s.keepsRegs t N := fun off => .inr (reg_evolves a noRegs noPmc off)

end Fields

end Sys2Proof.Machine

/-!
PROOF. The front cache's control (R97, R98, R107, R118 to R126, R137, R138, Table 3-9), command by command.
-/
namespace Sys2Proof.Machine
set_option Elab.async false

section FrontCache

variable {s : State} {h : Nat}

/-! ### Way masks -/

/-- The mask fields as written. -/
def State.waymasksSet (s : State) (rd wr pf : BitVec 16) : State :=
  s.setFlds [(F.fchWaymaskRd, rd.toNat), (F.fchWaymaskWr, wr.toNat), (F.fchWaymaskPf, pf.toNat)]

theorem clearWay_empty (w : Nat) (drop : Bool) (empty : s.fch.arr = []) : s.clearWay w drop = s := by
  unfold State.clearWay
  rw [empty]
  rfl

theorem foldl_clearWay_empty (gone back : BitVec 16) (l : List Nat) (empty : s.fch.arr = []) :
    l.foldl (fun t w => if gone.getLsbD w then t.clearWay w false else if back.getLsbD w then t.clearWay w true else t) s = s := by
  refine List.foldlRecOn l _ (motive := fun t => t = s) rfl fun t same w _ => ?_
  subst same
  rw [clearWay_empty w false empty, clearWay_empty w true empty, ite_self, ite_self]

theorem exec_fchWaymaskWrite_refused (rd : BitVec 16) {wr : BitVec 16} (pf : BitVec 16) (wf : s.wf = true) (ready : s.barReady h)
    (none : wr &&& ~~~s.swtMask = 0#16) : ∃ t, exec (.fchWaymaskWrite h rd wr pf) s = .next t ∧ t.evtSet Ev.fchRefused ∧
      t.fld F.fchWaymaskWr = s.fld F.fchWaymaskWr ∧ t.fch = s.fch :=
  ⟨s.begin.raise Ev.fchRefused, congrArg done ((barWrite_ready ready).trans (if_pos none)), evtSet_raise s.begin _ wf (by decide),
    fld_raise_other s.begin _ _ (by decide), State.raise_fch ..⟩

/-- The ways noted: those being emptied, those empty, and the raw words kept. -/
def State.waysNoted (s : State) (emptying wayEmpty : BitVec 16) (raw : Tab (Option (BitVec 64 × BitVec 8))) : State :=
  { s with fch := { s.fch with emptying := emptying, wayEmpty := wayEmpty, raw := raw } }

theorem waysNoted_evolves (s : State) (emptying wayEmpty : BitVec 16) (raw : Tab (Option (BitVec 64 × BitVec 8))) :
    s.evolves (s.waysNoted emptying wayEmpty raw) [.fch] := ev_fch ev_refl rfl

theorem fld_waysNoted (s : State) (emptying wayEmpty : BitVec 16) (raw : Tab (Option (BitVec 64 × BitVec 8))) (f : Fld) :
    (s.waysNoted emptying wayEmpty raw).fld f = s.fld f := rfl

theorem arr_waysNoted (s : State) (emptying wayEmpty : BitVec 16) (raw : Tab (Option (BitVec 64 × BitVec 8))) :
    (s.waysNoted emptying wayEmpty raw).fch.arr = s.fch.arr := rfl

theorem keepsRegs_of_begin {t : State} {L : List Nat} (a : s.begin.keepsRegs t L) : s.keepsRegs t L := a

theorem exec_fchWaymaskWrite_eq (rd : BitVec 16) {wr : BitVec 16} (pf : BitVec 16) (ready : s.barReady h)
    (some : wr &&& ~~~s.swtMask ≠ 0#16) (empty : s.fch.arr = []) : ∃ emptying wayEmpty raw,
      exec (.fchWaymaskWrite h rd wr pf) s = .next ((s.begin.waymasksSet rd wr pf).waysNoted emptying wayEmpty raw) := by
  have run : exec (.fchWaymaskWrite h rd wr pf) s = .next _ := congrArg done ((barWrite_ready ready).trans (if_neg some))
  have arr : (s.begin.waymasksSet rd wr pf).fch.arr = [] := (congrArg FchState.arr (evolves_get (evolves_setFlds ..) .fch rfl)).trans empty
  have folded (gone back : BitVec 16) := foldl_clearWay_empty gone back (List.range 16) arr
  change exec _ s = .next (let t := List.foldl _ (s.begin.waymasksSet rd wr pf) (List.range 16); t.waysNoted _ _ _) at run
  rw [folded] at run
  exact ⟨_, _, _, run⟩

theorem exec_fchWaymaskWrite_empty (rd : BitVec 16) {wr : BitVec 16} (pf : BitVec 16) (wf : s.wf = true) (ready : s.barReady h)
    (some : wr &&& ~~~s.swtMask ≠ 0#16) (empty : s.fch.arr = []) : ∃ t, exec (.fchWaymaskWrite h rd wr pf) s = .next t ∧
      t.fld F.fchWaymaskRd = rd.toNat ∧ t.fld F.fchWaymaskWr = wr.toNat ∧ t.fld F.fchWaymaskPf = pf.toNat ∧ t.fch.arr = [] ∧
      s.keepsRegs t [0xD110] := by
  obtain ⟨emptying, wayEmpty, raw, run⟩ := exec_fchWaymaskWrite_eq rd pf ready some empty
  have fld (f : Fld) := fld_waysNoted (s.begin.waymasksSet rd wr pf) emptying wayEmpty raw f
  refine ⟨_, run, (fld _).trans (fld_setFlds_mem (s := s.begin) wf rfl (by simp) rd.isLt),
    (fld _).trans (fld_setFlds_mem (s := s.begin) wf rfl (by simp) wr.isLt),
    (fld _).trans (fld_setFlds_mem (s := s.begin) wf rfl (by simp) pf.isLt),
    (arr_waysNoted ..).trans ((congrArg FchState.arr (evolves_get (evolves_setFlds s.begin _) .fch rfl)).trans empty), ?_⟩
  exact keepsRegs_of_begin (keepsRegs_trans (keepsRegs_setFlds s.begin _) (keepsRegs_evolves [] (waysNoted_evolves ..))
    (by simp [F.fchWaymaskRd, F.fchWaymaskWr, F.fchWaymaskPf]) (List.nil_subset _))

/-! ### Ways, the dirty limit, on and off -/

/-- No dirty line in a part of the array, as the commands ask for it. -/
theorem any_dirty_eq (arr : List (Nat × Option CLine)) (part : Nat → Bool) :
    (arr.any fun p => part p.1 && (match p.2 with | some c => c.sd != 0#4 | none => false)) =
      arr.any fun p => part p.1 && p.2.any fun c => c.sd != 0#4 :=
  congrArg arr.any (funext fun p => congrArg (part p.1 && ·) (by cases p.2 <;> rfl))

theorem exec_wayEmpty {w : Nat} (core : s.pwr.coreOn = true) (small : w < 16) (emptying : s.fch.emptying.getLsbD w = true)
    (clean : (s.fch.arr.any fun p => p.1 % 16 == w && p.2.any fun c => c.sd != 0#4) = false) : ∃ t, exec (.wayEmpty w) s = .next t ∧
      t.fch.wayEmpty.getLsbD w = true ∧ t.fch.emptying.getLsbD w = false := by
  have noDirty := (any_dirty_eq s.fch.arr fun k => k % 16 == w).trans clean
  refine ⟨_, congrArg done (when_true ?_), ?_, ?_⟩
  · rw [core, emptying, Bool.and_self, Bool.true_and]
    exact congrArg (! ·) noDirty
  · simp [small]
  · simp [small]

/-- The dirty limit in force, which the hold-up requirement follows upwards. -/
def State.limitIs (s : State) (limit : Nat) : State :=
  { s with fch := { s.fch with limit := limit, holdLimit := max s.fch.holdLimit limit } }

theorem limitIs_evolves (s : State) (limit : Nat) : s.evolves (s.limitIs limit).checkHold.checkCleaner [.fch] :=
  ev_step (ev_step (ev_fch (u := s) ev_refl rfl) (State.checkHold_ev (s.limitIs limit)) rfl) (State.checkCleaner_ev _) rfl

theorem limits_checkHold (s : State) (limit : Nat) : (s.limitIs limit).checkHold.fch.limit = limit ∧
    limit ≤ (s.limitIs limit).checkHold.fch.holdLimit := by
  unfold State.checkHold
  split
  · exact ⟨rfl, le_refl _⟩
  · exact ⟨rfl, le_max_right _ _⟩

theorem limits_checkCleaner (s : State) : s.checkCleaner.fch.limit = s.fch.limit ∧ s.checkCleaner.fch.holdLimit = s.fch.holdLimit := by
  unfold State.checkCleaner
  dsimp only
  split
  · exact ⟨rfl, rfl⟩
  · split <;> exact ⟨rfl, rfl⟩

theorem exec_dirtyLimitWrite {limit pct : Nat} (wf : s.wf = true) (ready : s.barReady h) (limitLo : 16 ≤ limit) (limitHi : limit ≤ 160)
    (pctLo : 20 ≤ pct) (pctHi : pct ≤ 95) : ∃ t, exec (.dirtyLimitWrite h limit pct) s = .next t ∧
      t.fld F.fchDirtyCfgLimitMib = limit ∧ t.fld F.fchDirtyCfgCleanPct = pct ∧ t.fch.limit = limit ∧ limit ≤ t.fch.holdLimit := by
  let written := s.begin.setFlds [(F.fchDirtyCfgCleanPct, pct), (F.fchDirtyCfgLimitMib, limit)]
  have same (f : Fld) : (written.limitIs limit).checkHold.checkCleaner.fld f = written.fld f :=
    fld_of_reg (reg_evolves (limitIs_evolves written limit) rfl rfl f.off)
  obtain ⟨limited, held⟩ := limits_checkHold written limit
  obtain ⟨limitKept, holdKept⟩ := limits_checkCleaner (written.limitIs limit).checkHold
  refine ⟨(written.limitIs limit).checkHold.checkCleaner, (congrArg done (barWrite_ready ready)).trans ?_, (same _).trans ?_,
    (same _).trans ?_, limitKept.trans limited, holdKept ▸ held⟩
  · simp only [pctLo, pctHi, limitLo, limitHi, and_self, if_true]
    rfl
  · exact fld_setFlds_mem (s := s.begin) wf rfl (by simp) (show limit < 256 by omega)
  · exact fld_setFlds_mem (s := s.begin) wf rfl (by simp) (show pct < 256 by omega)

theorem exec_fchEnable (wf : s.wf = true) (ready : s.barReady h) : ∃ t, exec (.fchEnable h) s = .next t ∧ t.fld F.fchCtlEnable = 1 ∧
    (s.fch.mode = .off → t.fch.mode = .enabling) ∧ (s.fch.mode = .draining → t.fch.mode = .on) := by
  have set : (s.begin.setFld F.fchCtlEnable 1).fld F.fchCtlEnable = 1 :=
    fld_setFld_same s.begin _ _ wf (by decide) (by decide) (by decide)
  refine ⟨_, congrArg done (barWrite_ready ready), ?_⟩
  cases mode : s.fch.mode <;> simp only [State.setFld_fch, State.begin_fch, mode]
  all_goals refine ⟨set, ?_⟩; simp

theorem mode_hand (s : State) (line : Nat) : (s.hand line).fch.mode = s.fch.mode := by
  have upd (f : CLine → CLine) : (s.updLine line f).fch.mode = s.fch.mode := by
    unfold State.updLine
    split <;> rfl
  unfold State.hand
  split
  · rfl
  · split
    · rfl
    · exact (congrArg FchState.mode (State.count_fch ..)).trans (upd _)

/-- A line handed to staging changes registers of the performance counters only. -/
theorem fld_hand (line : Nat) {f : Fld} (wf : s.wf = true) (low : f.off < 0x30000) (other : f.off ≠ 0x5130) :
    (s.hand line).fld f = s.fld f := by
  unfold State.hand
  split
  · rfl
  next c _ =>
    split
    · rfl
    · extract_lets +onlyGivenNames noted e
      have upd : s.evolves noted [.fch] := State.updLine_ev ..
      refine ((countsOnly_count ?_ 0x206 0 1).fld low other).trans (fld_of_reg (reg_evolves upd rfl rfl f.off))
      exact upd.2 wf

theorem exec_fchDisable (wf : s.wf = true) (ready : s.barReady h) (on : s.fch.mode = .on) : ∃ t, exec (.fchDisable h) s = .next t ∧
    (s.swt.st = .none → t.fch.mode = .draining ∧ t.fld F.fchCtlEnable = 0) ∧ (s.swt.st ≠ .none → t.fch = s.fch ∧
    t.evtSet Ev.fchRefused) := by
  refine ⟨_, congrArg done (barWrite_ready ready), ?_⟩
  dsimp only
  by_cases carved : s.swt.st = .none
  · refine ⟨fun _ => ?_, fun no => absurd carved no⟩
    rw [if_neg (fun no => no carved), State.setFld_fch, State.begin_fch, on]
    dsimp only
    let off : State := s.begin.setFld F.fchCtlEnable 0
    have disabled : off.fld F.fchCtlEnable = 0 := fld_setFld_same s.begin _ _ wf (by decide) (by decide) (by decide)
    have offWf : off.wf = true := wf_setFld s.begin _ _ wf
    let draining : State := { off with fch := { off.fch with mode := .draining } }
    refine (List.foldlRecOn (b := draining) (motive := fun t : State => t.wf = true ∧ t.fch.mode = .draining ∧ t.fld F.fchCtlEnable = 0) _ _
      ⟨offWf, rfl, disabled⟩ fun t ⟨tWf, mode, enable⟩ line _ => ?_).2
    exact ⟨(State.hand_ev t line).2 tWf, (mode_hand t line).trans mode, (fld_hand line tWf (by decide) (by decide)).trans enable⟩
  · refine ⟨fun no => absurd no carved, fun _ => ?_⟩
    rw [if_pos (show s.begin.swt.st ≠ .none from carved)]
    exact ⟨State.raise_fch .., evtSet_raise s.begin _ wf (by decide)⟩

theorem exec_drainDone (wf : s.wf = true) (core : s.pwr.coreOn = true) (draining : s.fch.mode = .draining) (clean : s.dirtyCount = 0) :
    ∃ t, exec (.drainDone) s = .next t ∧ t.fch.mode = .off ∧ t.fch.arr = [] ∧ t.evtSet Ev.fchDrainDone := by
  let off : State := { s.begin with fch := { s.fch with mode := .off, arr := [], plru := [], victim := [], side := [], trackers := [] } }
  have fch : (off.raise Ev.fchDrainDone).fch = off.fch := State.raise_fch ..
  exact ⟨off.raise Ev.fchDrainDone, congrArg done (when_true (by simp [core, draining, clean])), by rw [fch], by rw [fch],
    evtSet_raise off _ wf (by decide)⟩

theorem exec_fchCntClr (wf : s.wf = true) (ready : s.barReady h) : ∃ t, exec (.fchCntClr h) s = .next t ∧ t.reg 0xD130 = 0#64 ∧
    s.keepsRegs t [0xD130, F.fchEccCfgEchoUncorr.off] := by
  let cleared := s.begin.setReg 0xD130 0#64
  have set : cleared.reg 0xD130 = 0#64 := reg_setReg_same s.begin _ _ wf
  refine ⟨cleared.setFlds [(F.fchEccCfgEchoUncorr, 0), (F.fchEccCfgUncorrDirty, 0)], congrArg done (barWrite_ready ready),
    (reg_setFlds_other _ rfl).trans set, fun off => ?_⟩
  by_cases here : off = 0xD130
  · exact .inl (here ▸ List.mem_cons_self)
  · refine (keepsRegs_setFlds cleared _ off).imp (fun mem => ?_) fun same => same.trans (reg_setReg_other s.begin _ _ _ here)
    rcases List.mem_cons.mp mem with rfl | second
    · exact List.mem_cons_of_mem _ List.mem_cons_self
    · exact List.mem_cons_of_mem _ second

/-! ### Folding and diagnostic accesses -/

theorem exec_groupFolded {bg : Nat} (wf : s.wf = true) (core : s.pwr.coreOn = true) (small : bg < 16)
    (waits : s.fch.foldWait.getLsbD bg = true) (noWindow : s.swt.st = .none)
    (clean : (s.fch.arr.any fun p => p.1 / 65536 == bg && p.2.any fun c => c.sd != 0#4) = false) : ∃ t,
      exec (.groupFolded bg) s = .next t ∧ t.fch.folded.getLsbD bg = true ∧ t.fch.foldWait.getLsbD bg = false ∧
      t.evtSet Ev.fchGroupFolded := by
  have noDirty := (any_dirty_eq s.fch.arr fun k => k / 65536 == bg).trans clean
  let folded : State := { s.begin with fch := { s.fch with
    arr := s.fch.arr.filter fun p => p.1 / 65536 != bg, folded := s.fch.folded ||| (1#16 <<< bg)
    foldWait := s.fch.foldWait &&& ~~~(1#16 <<< bg) } }
  have fch : (folded.raiseN Ev.fchGroupFolded (bg * 4096 * 2 ^ 28) 0).fch = folded.fch := State.raiseN_fch ..
  refine ⟨folded.raiseN Ev.fchGroupFolded (bg * 4096 * 2 ^ 28) 0, congrArg done (when_true ?_), ?_, ?_,
    evtSet_raiseN folded _ _ _ wf (by decide)⟩
  · simp only [core, waits, noWindow, Bool.and_self, decide_true, Bool.true_and]
    exact congrArg (! ·) noDirty
  · rw [fch]
    simp [folded, small]
  · rw [fch]
    simp [folded, small]

/-- An empty way may be reached by diagnostic accesses. -/
theorem diagOk_empty {way : Nat} (enabled : s.fld F.fchCtlDiagEn = 1) (empty : s.fch.wayEmpty.getLsbD way = true) :
    s.diagOk way = true := by
  simp [State.diagOk, enabled, empty]

theorem diagWindow_none (set way word : Nat) (noWindow : s.swt.st = .none) : s.diagWindow set way word = none := by
  simp [State.diagWindow, noWindow]

/-- A diagnostic access leaves the operation's fields. -/
def diagFields (set way word op : Nat) : List (Fld × Nat) :=
  [(F.fchDiagCtlSet, set), (F.fchDiagCtlWay, way), (F.fchDiagCtlWord, word), (F.fchDiagCtlOp, op), (F.fchDiagCtlStatus, 0)]

theorem exec_diagRead {set way word : Nat} {d : BitVec 64} {c : BitVec 8} (wf : s.wf = true) (ready : s.barReady h)
    (enabled : s.fld F.fchCtlDiagEn = 1) (noWindow : s.swt.st = .none) (setLt : set < 65536) (wayLt : way < 16) (wordLt : word < 32)
    (empty : s.fch.wayEmpty.getLsbD way = true)
    (stored : Tab.get (fun _ => none) s.fch.raw ((16 * set + way) * 32 + word) = some (d, c)) : ∃ t,
      exec (.diagRead h set way word) s = .next t ∧ t.fld F.fchDiagDataData = d.toNat ∧ t.fld F.fchDiagChkChk = c.toNat ∧
      t.fld F.fchDiagCtlStatus = 0 ∧ t.fch = s.fch := by
  have raw : s.begin.rawWord set way word = (s.begin, d, c) := by
    unfold State.rawWord
    rw [diagWindow_none (s := s.begin) set way word noWindow, State.begin_fch, stored]
  let l := diagFields set way word 0 ++ [(F.fchDiagDataData, d.toNat), (F.fchDiagChkChk, c.toNat),
    (F.fchDiagChkSyndrome, (checkWord d c).1.toNat), (F.fchDiagChkResult, (checkWord d c).2.1)]
  refine ⟨s.begin.setFlds l, (congrArg done (barWrite_ready ready)).trans ?_,
    fld_setFlds_mem (s := s.begin) wf rfl (by simp [l, diagFields]) d.isLt,
    fld_setFlds_mem (s := s.begin) wf rfl (by simp [l, diagFields]) c.isLt,
    fld_setFlds_mem (s := s.begin) wf rfl (by simp [l, diagFields]) (by decide), evolves_get (evolves_setFlds s.begin l) .fch rfl⟩
  dsimp only
  rw [Nat.mod_eq_of_lt setLt, Nat.mod_eq_of_lt wayLt, Nat.mod_eq_of_lt wordLt, diagOk_empty (s := s.begin) enabled empty, raw]
  rfl

/-- A word of an empty way stored with its check bits. -/
def State.rawSet (s : State) (k : Nat) (w : BitVec 64 × BitVec 8) : State :=
  { s with fch := { s.fch with raw := Tab.set (fun _ => none) s.fch.raw k (some w) } }

theorem fld_rawSet (s : State) (k : Nat) (w : BitVec 64 × BitVec 8) (f : Fld) : (s.rawSet k w).fld f = s.fld f := rfl

theorem exec_diagWrite {set way word : Nat} (wf : s.wf = true) (ready : s.barReady h)
    (enabled : s.fld F.fchCtlDiagEn = 1) (noWindow : s.swt.st = .none) (setLt : set < 65536) (wayLt : way < 16) (wordLt : word < 32)
    (empty : s.fch.wayEmpty.getLsbD way = true) : ∃ t, exec (.diagWrite h set way word) s = .next t ∧
      Tab.get (fun _ => none) t.fch.raw ((16 * set + way) * 32 + word) = some (BitVec.ofNat 64 (s.fld F.fchDiagDataData),
      BitVec.ofNat 8 (s.fld F.fchDiagChkChk)) ∧ t.fld F.fchDiagCtlStatus = 0 := by
  let noted := s.begin.diagCtl set way word 1 0
  have window : noted.diagWindow set way word = none := diagWindow_none set way word
    ((congrArg SwtState.st (evolves_get (State.diagCtl_ev ..) .swt rfl)).trans noWindow)
  refine ⟨noted.rawSet ((16 * set + way) * 32 + word)
    (BitVec.ofNat 64 (s.fld F.fchDiagDataData), BitVec.ofNat 8 (s.fld F.fchDiagChkChk)),
    (congrArg done (barWrite_ready ready)).trans ?_, Tab.get_put_same .., (fld_rawSet ..).trans
      (fld_setFlds_mem (s := s.begin) (l := diagFields set way word 1) wf rfl (by simp [diagFields]) (by decide))⟩
  dsimp only
  rw [Nat.mod_eq_of_lt setLt, Nat.mod_eq_of_lt wayLt, Nat.mod_eq_of_lt wordLt, diagOk_empty (s := s.begin) enabled empty]
  simp only [Bool.not_true, Bool.false_eq_true, if_false, window, noted]
  rfl

end FrontCache

/-- Settles O8: each command of the front cache's control. -/
theorem frontCacheCommands : Obligations.FrontCacheCommands := by
  unfold Obligations.FrontCacheCommands
  refine ⟨fun _ _ rd _ pf wf ready none => exec_fchWaymaskWrite_refused rd pf wf ready none,
    fun _ _ rd _ pf wf ready some empty => exec_fchWaymaskWrite_empty rd pf wf ready some empty,
    fun _ _ _ core small emptying clean => exec_wayEmpty core small emptying clean,
    fun _ _ _ _ wf ready limitLo limitHi pctLo pctHi => exec_dirtyLimitWrite wf ready limitLo limitHi pctLo pctHi,
    fun _ _ wf ready => exec_fchEnable wf ready, fun s core mode => ?_, fun _ _ wf ready on => exec_fchDisable wf ready on,
    fun _ wf core draining clean => exec_drainDone wf core draining clean, fun _ _ wf ready => exec_fchCntClr wf ready,
    fun _ _ wf core small waits noWindow clean => exec_groupFolded wf core small waits noWindow clean,
    fun _ _ _ _ _ _ _ wf ready enabled noWindow setLt wayLt wordLt empty stored =>
      exec_diagRead wf ready enabled noWindow setLt wayLt wordLt empty stored,
    fun _ _ _ _ _ wf ready enabled noWindow setLt wayLt wordLt empty =>
      exec_diagWrite wf ready enabled noWindow setLt wayLt wordLt empty⟩
  have run : exec (.fchEnabled) s = .next _ := congrArg done (when_true (by simp [core, mode]))
  exact ⟨_, run, rfl, rfl, (exec_evX .fchEnabled s _ run).1⟩

end Sys2Proof.Machine

/-!
PROOF. CXL.mem requests (R47 to R57, R103, R111, R126): how a request reaches its domain, and what serves it. Nothing here asks for
canonical tables.
-/
namespace Sys2Proof.Machine
set_option Elab.async false

/-! ### Reaching the domain -/

section Reaching

variable {s : State} {r q : Req} {hpa : Nat}

theorem sanitizing_pendVector (s : State) (h v : Nat) : (s.pendVector h v).host.sanitizing = s.host.sanitizing := by
  unfold State.pendVector
  dsimp only
  split <;> rfl

theorem sanitizing_raiseAt (s : State) (e : Evt) (info addr : Word) : (s.raiseAt e info addr).host.sanitizing = s.host.sanitizing := by
  have captured : ((s.capture e info addr).setReg e.stsOff
      ((s.capture e info addr).reg e.stsOff ||| (1#64 <<< e.bit))).host.sanitizing = s.host.sanitizing := by
    rw [evolves_get (State.setReg_ev ..) .host rfl, evolves_get (State.capture_ev ..) .host rfl]
  have noted (t : State) (was : Bool) : (t.noteSource was e).host.sanitizing = t.host.sanitizing := by
    unfold State.noteSource State.pendSource
    split
    · refine List.foldlRecOn (motive := fun u : State => u.host.sanitizing = t.host.sanitizing) _ _ rfl fun u same v _ => ?_
      split
      · exact (sanitizing_pendVector ..).trans same
      · exact same
    · rfl
  unfold State.raiseAt
  dsimp only
  rw [evolves_get (State.recordEvt_ev ..) .host rfl]
  exact (noted _ _).trans captured

theorem countInvariant_sanitizing (b : Bool) : CountInvariant fun t => t.host.sanitizing = b where
  setReg v _ same := (congrArg HostState.sanitizing (evolves_get (State.setReg_ev _ _ v) .host rfl)).trans same
  raiseN _ _ _ same := (sanitizing_raiseAt ..).trans same

/-- A request that reaches its domain is served there, once it has counted itself. -/
theorem hostReq_reaches (ev opcode : Nat) (reached : s.reaches r hpa q) :
    (s.begin.count ev r.h 1).hostReq r hpa opcode = (s.begin.count ev r.h 1).serve q := by
  obtain ⟨-, active, place, -⟩ := reached
  obtain ⟨d, decoded, placed⟩ := Option.bind_eq_some_iff.mp place
  have like : s.decodesLike (s.begin.count ev r.h 1) :=
    (countInvariant_decodesLike s).count (s := s.begin) (.of_host rfl) ev r.h 1
  have domains : (s.begin.count ev r.h 1).cry = s.cry := State.count_cry s.begin ev r.h 1
  exact hostReq_place opcode (like.memActive.trans active) ((like.decoderOf r.h hpa).trans decoded)
    ((place?_congr domains r _).trans placed)

/-- What `State.reaches` says of the domain, as serving finds it. -/
structure State.open_ (s : State) (d : Nat) : Prop where
  sanitizing : s.host.sanitizing = false
  deviceHalt : s.cry.deviceHalt = false
  halted : (s.dom d).halted = false
  epoch : (s.epoDom d).st ≠ .aborting
  window : s.swt.st = .none

theorem open_count (ev : Nat) (reached : s.reaches r hpa q) : (s.begin.count ev r.h 1).open_ q.dom := by
  obtain ⟨-, -, -, sanitizing, deviceHalt, halted, epoch, window⟩ := reached
  have domains : (s.begin.count ev r.h 1).cry = s.cry := State.count_cry s.begin ev r.h 1
  have epochs : (s.begin.count ev r.h 1).epo = s.epo := State.count_epo s.begin ev r.h 1
  have swatch : (s.begin.count ev r.h 1).swt = s.swt := State.count_swt s.begin ev r.h 1
  refine ⟨(countInvariant_sanitizing _).count (s := s.begin) sanitizing ev r.h 1, by rw [domains, deviceHalt], ?_, ?_,
    by rw [swatch, window]⟩
  · rw [dom_congr domains, halted]
  · unfold State.epoDom at epoch ⊢
    rw [epochs]
    exact epoch

theorem inWindow_none (line : Nat) (window : s.swt.st = .none) : s.inWindow line = false := by
  simp [State.inWindow, window]

/-- An ACTIVE domain reads or writes. -/
theorem serve_active (ready : s.open_ r.dom) (active : (s.dom r.dom).st = .active) :
    s.serve r = if r.wr then s.write r false else s.read r := by
  obtain ⟨sanitizing, deviceHalt, halted, epoch, window⟩ := ready
  simp [State.serve, sanitizing, deviceHalt, halted, active, epoch, window, inWindow_none r.line window]

theorem serve_empty (ready : s.open_ r.dom) (empty : (s.dom r.dom).st = .empty) :
    s.serve r = if r.wr then s.keyAbsent r else s.memData r.h r.tag 0#512 false := by
  obtain ⟨sanitizing, deviceHalt, halted, -, -⟩ := ready
  simp [State.serve, sanitizing, deviceHalt, halted, empty]

/-- Where a placed request goes; the rest of it is as it was. -/
theorem place?_rest {dpa : Nat} (placed : s.place? r dpa = some q) :
    q = { r with line := q.line, dom := q.dom, sec := q.sec } ∧ q.sec < 4 := by
  unfold State.place? at placed
  dsimp only at placed
  split at placed
  · cases placed
  · cases placed
    exact ⟨rfl, Nat.mod_lt _ (by decide)⟩

theorem rest_of_reaches (reached : s.reaches r hpa q) : q = { r with line := q.line, dom := q.dom, sec := q.sec } ∧ q.sec < 4 := by
  obtain ⟨-, -, place, -⟩ := reached
  obtain ⟨d, -, placed⟩ := Option.bind_eq_some_iff.mp place
  exact place?_rest placed

end Reaching

/-! ### Places of a line -/

section Places

variable {s t : State} {line k : Nat} {c : CLine}

theorem findWay_congr (same : t.fch = s.fch) (line : Nat) : t.findWay line = s.findWay line := by
  unfold State.findWay State.slotAt State.fset
  rw [same]

theorem findVictim_congr (same : t.fch = s.fch) (line : Nat) : t.findVictim line = s.findVictim line := by
  unfold State.findVictim
  rw [same]

theorem findSide_congr (same : t.fch = s.fch) (line : Nat) : t.findSide line = s.findSide line := by
  unfold State.findSide
  rw [same]

theorem lineOf_congr (same : t.fch = s.fch) (line : Nat) : t.lineOf line = s.lineOf line := by
  unfold State.lineOf
  rw [findWay_congr same, findVictim_congr same]

theorem lineOf_of_findWay (found : s.findWay line = some (k, c)) : s.lineOf line = some c := by
  unfold State.lineOf
  rw [found]

/-- What a way holds of a line. -/
def State.wayHas (s : State) (line set w : Nat) : Option (Nat × CLine) :=
  match s.slotAt (16 * set + w) with
  | some c => if c.line = line then some (16 * set + w, c) else none
  | none => none

theorem findWay_eq (s : State) (line : Nat) : s.findWay line = (List.range 16).findSome? (s.wayHas line (s.fset line)) := rfl

theorem wayHas_some {set w : Nat} (found : s.wayHas line set w = some (k, c)) :
    k = 16 * set + w ∧ s.slotAt k = some c ∧ c.line = line := by
  unfold State.wayHas at found
  split at found
  next x stored =>
    split at found
    next same =>
      cases found
      exact ⟨rfl, stored, same⟩
    next => cases found
  next => cases found

theorem line_of_findWay (found : s.findWay line = some (k, c)) : c.line = line := by
  rw [findWay_eq] at found
  obtain ⟨w, -, here⟩ := List.exists_of_findSome?_eq_some found
  exact (wayHas_some here).2.2

theorem slotAt_setSlot_same (s : State) (k : Nat) (c : CLine) : (s.setSlot k (some c)).slotAt k = some c := Tab.get_put_same ..

theorem slotAt_setSlot_other (s : State) {k j : Nat} (c : Option CLine) (other : j ≠ k) : (s.setSlot k c).slotAt j = s.slotAt j :=
  Tab.get_set_other _ _ _ _ _ other

/-- A line rewritten in its slot is found there again. -/
theorem findWay_setSlot {c' : CLine} (found : s.findWay line = some (k, c)) (same : c'.line = line) :
    (s.setSlot k (some c')).findWay line = some (k, c') := by
  rw [findWay_eq, List.findSome?_eq_some_iff] at found ⊢
  obtain ⟨before, w, after, range, here, none⟩ := found
  obtain ⟨rfl, -, -⟩ := wayHas_some here
  refine ⟨before, w, after, range, ?_, fun v mem => ?_⟩
  · change State.wayHas _ line (s.fset line) w = _
    rw [State.wayHas, slotAt_setSlot_same]
    exact if_pos same
  · change State.wayHas _ line (s.fset line) v = _
    have other : 16 * s.fset line + v ≠ 16 * s.fset line + w := fun equal => by
      have sameWay : v = w := by omega
      rw [← sameWay, none v mem] at here
      cases here
    have kept := none v mem
    unfold State.wayHas at kept ⊢
    rwa [slotAt_setSlot_other s (some c') other]

/-- With no flawed word stored, an access meets none. -/
theorem probe_sound (sec : Nat) (sound : ∀ k c, s.findWay line = some (k, c) → c.flaw = []) : s.probe line sec = s := by
  unfold State.probe
  split
  · rfl
  next k c found =>
    rw [sound k c found]
    rfl

theorem unvictim_absent (mask : BitVec 16) (absent : s.findVictim line = none) : s.unvictim line mask = s := by
  unfold State.unvictim
  rw [absent]

theorem promote_absent (mask : BitVec 16) (absent : s.findSide line = none) : s.promote line mask = s := by
  unfold State.promote
  rw [absent]

theorem findWay_ftouch (s : State) (j line : Nat) : (s.ftouch j).findWay line = s.findWay line := rfl

/-- A read of a valid sector in the main array is answered with it. -/
theorem read_hit {r : Req} (on : s.fch.mode = .on) (found : s.findWay r.line = some (k, c)) (noVictim : s.findVictim r.line = none)
    (valid : c.sv.getLsbD r.sec = true) (clean : c.sp.getLsbD r.sec = false) (sound : c.flaw = []) :
    s.read r = ((s.count 0x200 0 1).ftouch k).memData r.h r.tag (c.d.at r.sec) false := by
  have probed : s.probe r.line r.sec = s := probe_sound _ fun k' c' found' => by
    cases found.symm.trans found'
    exact sound
  have again : (s.count 0x200 0 1).findWay r.line = some (k, c) := (findWay_congr (State.count_fch ..) _).trans found
  unfold State.read
  simp only [on, true_or, decide_true, if_true, probed, lineOf_of_findWay found, valid, Bool.and_self, unvictim_absent _ noVictim,
    again, State.answer, clean, Bool.false_eq_true, if_false]

end Places

/-! ### Requests without a data effect -/

section Requests

variable {s : State} {h tag : Nat}

theorem out_memData_good (s : State) (d : Sector) (tagged : tag ≠ noTag) :
    (s.memData h tag d false).out = s.out ++ [.memData h tag d false ((s.memData h tag d false).devload h)] := by
  have answered : s.memData h tag d false = s.emit (.memData h tag d false (s.devload h)) := by
    simp [State.memData, State.respond, tagged]
  rw [answered]
  rfl

theorem out_cmp (s : State) (h : Nat) (tagged : tag ≠ noTag) : (s.cmp h tag).out = s.out ++ [.cmp h tag (s.devload h)] := by
  simp [State.cmp, State.respond, tagged, State.emit]

theorem exec_memRd_empty {hpa : BitVec 64} {q : Req} (reached : s.reaches (Req.rd h tag) hpa.toNat q)
    (empty : (s.dom q.dom).st = .empty) : exec (.memRd h tag hpa) s = .next ((s.begin.count 0x100 h 1).memData h tag 0#512 false) := by
  have served := serve_empty (open_count 0x100 reached) ((congrArg Dom.st (dom_congr (State.count_cry ..) _)).trans empty)
  have placed := hostReq_reaches 0x100 1 reached
  obtain ⟨rest, -⟩ := rest_of_reaches reached
  refine congrArg done ((memReq_up _ reached.1).trans (placed.trans (served.trans ?_)))
  rw [rest]
  rfl

theorem exec_memRdData_hit {hpa : BitVec 64} {q : Req} {k : Nat} {c : CLine} (reached : s.reaches (Req.rd h tag) hpa.toNat q)
    (active : (s.dom q.dom).st = .active) (on : s.fch.mode = .on) (found : s.findWay q.line = some (k, c))
    (noVictim : s.findVictim q.line = none) (valid : c.sv.getLsbD q.sec = true) (clean : c.sp.getLsbD q.sec = false)
    (sound : c.flaw = []) : exec (.memRdData h tag hpa) s =
      .next ((((s.begin.count 0x100 h 1).count 0x200 0 1).ftouch k).memData h tag (c.d.at q.sec) false) := by
  let u := s.begin.count 0x100 h 1
  have fch : u.fch = s.fch := State.count_fch ..
  have served := serve_active (open_count 0x100 reached) ((congrArg Dom.st (dom_congr (State.count_cry ..) _)).trans active)
  have placed := hostReq_reaches 0x100 2 reached
  obtain ⟨rest, -⟩ := rest_of_reaches reached
  have isRead : q.wr = false := by rw [rest]; rfl
  have hit := read_hit (s := u) (by rw [fch, on]) ((findWay_congr fch _).trans found) ((findVictim_congr fch _).trans noVictim)
    valid clean sound
  refine congrArg done ((memReq_up _ reached.1).trans (placed.trans (served.trans ?_)))
  rw [isRead, if_neg Bool.false_ne_true]
  refine hit.trans ?_
  rw [rest]
  rfl

/-! ### Writes -/

theorem Quad.at_put_same {α : Type} (q : Quad α) (k : Nat) (v : α) : (q.put k v).at k = v := by
  unfold Quad.put
  split_ifs <;> simp_all [Quad.at]

/-- The write that goes around the cache, as staging will take it. -/
structure Handed.carries (e : Handed) (r : Req) : Prop where
  line : e.line = r.line
  dom : e.dom = r.dom
  data : e.d = (Quad.all 0#512).put r.sec r.data
  sectors : e.have_ = if r.full then bit4 r.sec else 0#4
  cached : e.cached = false
  ack : e.ack = some (r.h, r.tag)

/-- The cache's copy of a prefetch and the fill of the line no longer count. -/
def State.bypassed (s : State) (line : Nat) : State := (s.updMshr line fun m => { m with drop := true }).dropSide line

/-- A write around the cache joins the handed lines, and leaves what waits elsewhere. -/
theorem around_spec (s : State) (r : Req) : ∃ e : Handed, e.carries r ∧ (s.around r).wp.handed = s.wp.handed ++ [e] ∧
    (s.around r).fch = (s.bypassed r.line).fch ∧
    s.around r = State.writePoison { s.bypassed r.line with wp := { s.wp with handed := s.wp.handed ++ [e] } } r false := by
  refine ⟨_, ⟨rfl, rfl, rfl, rfl, rfl, rfl⟩, ?_, ?_, rfl⟩
  · exact congrArg WriteState.handed (evolves_get (State.writePoison_ev ..) .wp rfl)
  · exact evolves_get (State.writePoison_ev ..) .fch rfl

theorem writePoison_full {r : Req} (full : r.full = true) (good : r.poison = false) (old : Bool) :
    s.writePoison r old = s.unpoisonSector r.line r.sec := by
  simp [State.writePoison, full, good]

theorem writePoison_partial {r : Req} (part : r.full = false) (good : r.poison = false) : s.writePoison r false = s := by
  simp [State.writePoison, part, good]

/-- With the cache off a write goes around it. -/
theorem write_off {r : Req} (admitted : Bool) (flowing : (s.epoDom r.dom).draining = false) (off : s.fch.mode = .off) :
    s.write r admitted = s.around r := by
  simp [State.write, flowing, off]

theorem exec_memWr_off {hpa : BitVec 64} {data : BitVec 512} {q : Req}
    (reached : s.reaches (Req.write h tag data (BitVec.allOnes 64) false) hpa.toNat q) (active : (s.dom q.dom).st = .active)
    (flowing : (s.epoDom q.dom).draining = false) (off : s.fch.mode = .off) : ∃ t, exec (.memWr h tag hpa data false) s = .next t ∧
      t.out = [] ∧ t.wp.handed.length = s.wp.handed.length + 1 ∧ (t.wp.handed.getLast?.map fun x => (x.line, x.dom,
      x.d.at q.sec)) = some (q.line, q.dom, data) ∧ (t.wp.handed.getLast?.map fun x => (x.have_, x.cached,
      x.ack)) = some (bit4 q.sec, false, some (h, tag)) := by
  let u := s.begin.count 0x101 h 1
  have fch : u.fch = s.fch := State.count_fch ..
  have served := serve_active (open_count 0x101 reached) ((congrArg Dom.st (dom_congr (State.count_cry ..) _)).trans active)
  have placed := hostReq_reaches 0x101 0x11 reached
  obtain ⟨rest, -⟩ := rest_of_reaches reached
  have isWrite : q.wr = true := by rw [rest]; rfl
  have full : q.full = true := by rw [rest]; rfl
  have good : q.poison = false := by rw [rest]; rfl
  have sent : q.data = data ∧ q.h = h ∧ q.tag = tag := by rw [rest]; exact ⟨rfl, rfl, rfl⟩
  have goes := write_off (s := u) (r := q) false ((congrArg EpoDom.draining (epoDom_congr (State.count_epo ..) _)).trans flowing)
    (by rw [fch, off])
  obtain ⟨e, carries, handed, -, around⟩ := around_spec u q
  obtain ⟨line, dom, d, sectors, cached, ack⟩ := carries
  have before : u.wp = s.wp := State.count_wp ..
  rw [before] at handed
  refine ⟨u.around q, congrArg done ((memReq_up _ reached.1).trans (placed.trans (served.trans ?_))), ?_, ?_, ?_, ?_⟩
  · rw [isWrite, if_pos rfl]
    exact goes
  · rw [around, writePoison_full full good, evolves_get (State.unpoisonSector_ev ..) .out rfl]
    exact State.count_out ..
  · rw [handed, List.length_append, List.length_singleton]
  · rw [handed, List.getLast?_concat, Option.map_some, line, dom, d, sent.1, Quad.at_put_same]
  · rw [handed, List.getLast?_concat, Option.map_some, sectors, full, cached, ack, sent.2.1, sent.2.2]
    rfl

/-- A partial write merged into a line that is there, as it is stored. -/
theorem write_partial (c : CLine) {r : Req} (base : Sector × Bool) (ep : Bool) (stamp : Nat) (part : r.full = false) (good : r.poison = false)
    (valid : c.sv.getLsbD r.sec = true) (clean : c.sp.getLsbD r.sec = false) :
    (c.write r base ep stamp).line = c.line ∧ (c.write r base ep stamp).d.at r.sec = mergeBytes (c.d.at r.sec) r.data r.be ∧
      (c.write r base ep stamp).sd = c.sd ||| bit4 r.sec ∧ (c.write r base ep stamp).sp = c.sp := by
  refine ⟨rfl, ?_, rfl, ?_⟩
  · simp [CLine.write, part, valid, Quad.at_put_same]
  · simp only [CLine.write, part, good, valid, clean, if_true, Bool.not_false, Bool.and_false, Bool.or_false, Bool.false_eq_true,
      if_false, BitVec.or_zero]
    refine BitVec.eq_of_getLsbD_eq fun i small => ?_
    by_cases here : i = r.sec
    · subst here
      simp [clean]
    · simp only [BitVec.getLsbD_and, BitVec.getLsbD_not, bit4, BitVec.getLsbD_shiftLeft, small, decide_true, Bool.true_and]
      rcases Nat.lt_or_gt_of_ne here with below | above
      · simp [below]
      · have apart : i - r.sec ≠ 0 := by omega
        simp [BitVec.getLsbD_one, apart]

theorem updMshr_nil (line : Nat) (f : Mshr → Mshr) (idle : s.fch.mshr = []) : s.updMshr line f = s := by
  have same : (s.fch.mshr.map fun e => if e.line = line then f e else e) = s.fch.mshr := by rw [idle]; rfl
  unfold State.updMshr
  rw [same]

theorem mshrOf_nil (line : Nat) (idle : s.fch.mshr = []) : s.mshrOf line = none := by
  unfold State.mshrOf
  rw [idle]
  rfl

theorem storeLine_sound (k : Nat) (c : CLine) (secs : BitVec 4) (isNew : Bool) (noInj : s.flt.inj = none) :
    s.storeLine k c secs isNew = s.setSlot k (some c) := by
  unfold State.storeLine State.flip
  rw [noInj]

/-- The next write's stamp taken. -/
def State.stamped (s : State) : State := { s with fch := { s.fch with stamp := s.fch.stamp + 1 } }

/-- A partial write into a valid sector of a slot, with no injection armed. -/
theorem writeSlot_partial {k : Nat} {c : CLine} {r : Req} (base : Sector × Bool) (noInj : s.flt.inj = none) (part : r.full = false)
    (good : r.poison = false) (valid : c.sv.getLsbD r.sec = true) (clean : c.sp.getLsbD r.sec = false) :
    s.writeSlot k c r base false =
      (((((s.stamped.setSlot k (some (c.write r base (s.stamped.epTag r.dom) s.stamped.fch.stamp))).ftouch k).count 0x207 0 1).cmp
        r.h r.tag).checkCleaner) := by
  obtain ⟨-, -, -, sp⟩ := write_partial c base (s.stamped.epTag r.dom) s.stamped.fch.stamp part good valid clean
  have steps : s.writeSlot k c r base false =
      let v := (s.stamped.storeLine k (c.write r base (s.stamped.epTag r.dom) s.stamped.fch.stamp) (bit4 r.sec) false).ftouch k
      let v := v.writePoison r ((c.write r base (s.stamped.epTag r.dom) s.stamped.fch.stamp).sp.getLsbD r.sec)
      ((if r.full then v else v.count 0x207 0 1).cmp r.h r.tag).checkCleaner := rfl
  rw [steps, sp, clean, storeLine_sound k _ _ false (show s.stamped.flt.inj = none from noInj)]
  dsimp only
  rw [writePoison_partial part good, part, if_neg Bool.false_ne_true]

/-- A partial write into a dirty line of the main array goes to its slot. -/
theorem write_dirty {k : Nat} {c : CLine} {r : Req} (flowing : (s.epoDom r.dom).draining = false) (on : s.fch.mode = .on)
    (idle : s.fch.mshr = []) (noSide : s.findSide r.line = none) (found : s.findWay r.line = some (k, c))
    (noVictim : s.findVictim r.line = none) (valid : c.sv.getLsbD r.sec = true) (dirty : c.sd ≠ 0#4) (sound : c.flaw = []) :
    s.write r false = s.writeSlot k c r (0#512, false) false := by
  have there := lineOf_of_findWay found
  have unlocked : s.locked r = false := by
    unfold State.locked
    rw [mshrOf_nil r.line idle]
  have isDirty : s.isDirty r.line = true := by
    unfold State.isDirty
    rw [there]
    exact decide_eq_true dirty
  have probed : s.probe r.line r.sec = s := probe_sound _ fun k' c' found' => by
    cases found.symm.trans found'
    exact sound
  have admitted : s.write r false = s.writeOn r := by
    simp [State.write, flowing, on, unlocked, isDirty]
  have entered : s.writeOn r = s.writeIn r (0#512, false) := by
    simp [State.writeOn, probed, there, valid]
  rw [admitted, entered]
  unfold State.writeIn
  simp only [updMshr_nil _ _ idle, unvictim_absent _ noVictim, promote_absent _ noSide, found]

theorem exec_memWrPtl_dirty {hpa : BitVec 64} {data : BitVec 512} {be : BitVec 64} {q : Req} {k : Nat} {c : CLine}
    (reached : s.reaches (Req.write h tag data be false) hpa.toNat q) (some : be ≠ BitVec.allOnes 64) (active : (s.dom q.dom).st = .active)
    (flowing : (s.epoDom q.dom).draining = false) (on : s.fch.mode = .on) (idle : s.fch.mshr = []) (noInj : s.flt.inj = none)
    (noSide : s.findSide q.line = none) (found : s.findWay q.line = .some (k, c)) (noVictim : s.findVictim q.line = none)
    (valid : c.sv.getLsbD q.sec = true) (clean : c.sp.getLsbD q.sec = false) (dirty : c.sd ≠ 0#4) (sound : c.flaw = [])
    (tagged : tag ≠ noTag) : ∃ t, exec (.memWrPtl h tag hpa data be false) s = .next t ∧
      ((t.findWay q.line).map fun x => (x.1, x.2.d.at q.sec, x.2.sd, x.2.sp)) = .some (k, mergeBytes (c.d.at q.sec) data be,
      c.sd ||| bit4 q.sec, c.sp) ∧ t.out.map Output.answers = [.some (h, tag)] := by
  let u := s.begin.count 0x102 h 1
  have fch : u.fch = s.fch := State.count_fch ..
  have served := serve_active (open_count 0x102 reached) ((congrArg Dom.st (dom_congr (State.count_cry ..) _)).trans active)
  have placed := hostReq_reaches 0x102 0x12 reached
  obtain ⟨rest, -⟩ := rest_of_reaches reached
  have isWrite : q.wr = true := by rw [rest]; rfl
  have part : q.full = false := by rw [rest]; exact decide_eq_false some
  have good : q.poison = false := by rw [rest]; rfl
  have sent : q.data = data ∧ q.be = be ∧ q.h = h ∧ q.tag = tag := by rw [rest]; exact ⟨rfl, rfl, rfl, rfl⟩
  have found' : u.findWay q.line = .some (k, c) := (findWay_congr fch _).trans found
  have goes := write_dirty (s := u) (r := q) ((congrArg EpoDom.draining (epoDom_congr (State.count_epo ..) _)).trans flowing)
    (by rw [fch, on]) (by rw [fch, idle]) ((findSide_congr fch _).trans noSide) found'
    ((findVictim_congr fch _).trans noVictim) valid dirty sound
  have stored := writeSlot_partial (s := u) (k := k) (c := c) (r := q) (0#512, false)
    (by rw [State.count_flt]; exact noInj) part good valid clean
  obtain ⟨named, merged, sd, sp⟩ := write_partial c (0#512, false) (u.stamped.epTag q.dom) u.stamped.fch.stamp part good valid clean
  generalize written : c.write q (0#512, false) (u.stamped.epTag q.dom) u.stamped.fch.stamp = c2 at stored named merged sd sp
  have way := line_of_findWay found
  have again : (u.stamped.setSlot k (.some c2)).findWay q.line = .some (k, c2) :=
    findWay_setSlot (show u.stamped.findWay q.line = _ from found') (named.trans way)
  have counted (v : State) : (v.count 0x207 0 1).findWay q.line = v.findWay q.line := findWay_congr (State.count_fch ..) _
  have cleaned (v : State) : v.checkCleaner.findWay q.line = v.findWay q.line := by
    unfold State.checkCleaner
    dsimp only
    split
    · rfl
    · split <;> rfl
  have answered (v : State) : (v.cmp q.h q.tag).findWay q.line = v.findWay q.line :=
    findWay_congr (evolves_get (State.cmp_ev ..) .fch rfl) _
  refine ⟨_, congrArg done ((memReq_up _ reached.1).trans (placed.trans (served.trans ((if_pos isWrite).trans (goes.trans stored))))),
    ?_, ?_⟩
  · rw [cleaned, answered, counted, findWay_ftouch, again, Option.map_some, merged, sd, sp, sent.1, sent.2.1]
  · rw [evolves_get (State.checkCleaner_ev _) .out rfl, sent.2.2.1, sent.2.2.2]
    have before : ((((u.stamped.setSlot k (.some c2)).ftouch k).count 0x207 0 1)).out = [] :=
      (State.count_out ..).trans (State.count_out ..)
    rw [out_cmp _ _ tagged, before]
    rfl

/-! ### Requests that no decoder holds, and those without a data effect -/

theorem exec_memRd_noDecoder {hpa : BitVec 64} (wf : s.wf = true) (up : s.memUp h = true) (active : s.host.memActive = true)
    (undecoded : s.decoderOf h hpa.toNat = none) :
    exec (.memRd h tag hpa) s = .next ((s.begin.count 0x100 h 1).outside (Req.rd h tag) 1 hpa.toNat) := by
  have counted : s.countsOnly (s.begin.count 0x100 h 1) := countsOnly_begin_count wf 0x100 h 1
  refine congrArg done ((memReq_up _ up).trans ?_)
  unfold State.hostReq
  rw [counted.pends.memActive.trans active, if_neg (by decide)]
  change (match State.decoderOf _ h hpa.toNat with | none => _ | some d => _) = _
  rw [(counted.pends.decoderOf h hpa.toNat).trans undecoded]

theorem exec_memInv (up : s.memUp h = true) (tagged : tag ≠ noTag) : ∃ t, exec (.memInv h tag) s = .next t ∧
    t.out = [.cmp h tag (s.devload h)] ∧ s.keeps t [.out] := by
  have run : exec (.memInv h tag) s = .next (s.begin.cmp h tag) := congrArg done (memReq_up _ up)
  exact ⟨_, run, out_cmp s.begin h tagged, (exec_evX (.memInv h tag) s _ run).1⟩

theorem exec_memInvNt (up : s.memUp h = true) (tagged : tag ≠ noTag) : ∃ t, exec (.memInvNt h tag) s = .next t ∧
    t.out = [.cmp h tag (s.devload h)] ∧ s.keeps t [.out] := by
  have run : exec (.memInvNt h tag) s = .next (s.begin.cmp h tag) := congrArg done (memReq_up _ up)
  exact ⟨_, run, out_cmp s.begin h tagged, (exec_evX (.memInvNt h tag) s _ run).1⟩

theorem exec_invalidMemOpcode (op : Nat) (hpa : BitVec 64) (wf : s.wf = true) (up : s.memUp h = true) : ∃ t,
    exec (.invalidMemOpcode h op hpa) s = .next t ∧ t.out = [] ∧ t.evtSet (Ev.hstProtocolErr h) ∧
      s.keeps t (.out :: reporting) := by
  have run : exec (.invalidMemOpcode h op hpa) s = .next (s.begin.hostErr (Ev.hstProtocolErr h) op hpa.toNat) :=
    congrArg done (memReq_up _ up)
  have cleared : s.evolves s.begin (.out :: reporting) := ev_step ev_refl (State.begin_ev s) rfl
  exact ⟨_, run, State.raiseN_out .., evtSet_raiseN s.begin _ _ _ wf (show 7 < 64 by decide),
    (ev_step cleared (State.hostErr_ev ..) rfl).1⟩

/-! ### Fetches into the side buffer -/

/-- A whole line, clean, as a prefetch brings it. -/
def CLine.fetched (line d : Nat) (data : Quad Sector) (sp : BitVec 4) : CLine :=
  { CLine.blank line d with sv := 0xF#4, d := data, sp := sp }

/-- One line in the side buffer. -/
def State.withSide (s : State) (c : CLine) : State := { s with fch := { s.fch with side := [c] } }

theorem findSide_withSide (s : State) (line d : Nat) (data : Quad Sector) (sp : BitVec 4) :
    (s.withSide (CLine.fetched line d data sp)).findSide line = some (CLine.fetched line d data sp) :=
  List.find?_cons_of_pos (by simp [CLine.fetched, CLine.blank])

section CloseMshr

variable (s : State) (m : Mshr)

theorem mode_closeMshr : (s.closeMshr m).fch.mode = s.fch.mode := rfl

theorem lineOf_closeMshr (line : Nat) : (s.closeMshr m).lineOf line = s.lineOf line := rfl

theorem side_closeMshr : (s.closeMshr m).fch.side = s.fch.side := rfl

theorem maint_closeMshr : (s.closeMshr m).fch.maint = s.fch.maint := rfl

theorem stagedCopy_closeMshr (line : Nat) : (s.closeMshr m).stagedCopy line = s.stagedCopy line := rfl

end CloseMshr

theorem overlay_unstaged {line : Nat} (data : Quad Sector) (sp : BitVec 4) (unstaged : s.stagedCopy line = none) :
    s.overlay line data sp = (data, sp) := by
  unfold State.overlay
  rw [unstaged]

theorem maintFill_none (line : Nat) (noMaint : s.fch.maint = none) : s.maintFill line = s := by
  unfold State.maintFill
  rw [noMaint]

/-- A fill that only a prefetch waits for enters the side buffer. -/
theorem fillDone_prefetch {line : Nat} {data : Quad Sector} {sp : BitVec 4} {m : Mshr} (waits : s.mshrOf line = some m)
    (pf : m.pf = true) (alone : m.reqs = []) (wanted : m.drop = false) (on : s.fch.mode = .on) (absent : s.lineOf line = none)
    (empty : s.fch.side = []) (noMaint : s.fch.maint = none) (unstaged : s.stagedCopy line = none) :
    s.fillDone line data sp = (s.closeMshr m).withSide (CLine.fetched line m.dom data sp) := by
  rw [← mode_closeMshr s m] at on
  rw [← lineOf_closeMshr s m] at absent
  rw [← side_closeMshr s m] at empty
  rw [← maint_closeMshr s m] at noMaint
  rw [← stagedCopy_closeMshr s m] at unstaged
  unfold State.fillDone
  split
  next none => cases none.symm.trans waits
  next e found =>
    cases found.symm.trans waits
    extract_lets +onlyGivenNames u o blank c side fch v
    change _ = u.withSide (CLine.fetched line m.dom data sp)
    replace on : u.fch.mode = .on := on
    replace absent : u.lineOf line = none := absent
    replace empty : u.fch.side = [] := empty
    replace noMaint : u.fch.maint = none := noMaint
    replace unstaged : u.stagedCopy line = none := unstaged
    clear_value u
    have kept : o = (data, sp) := overlay_unstaged data sp unstaged
    have stored : v = u.withSide (CLine.fetched line m.dom data sp) := by
      have whole : c = CLine.fetched line m.dom data sp := by
        unfold c
        rw [kept]
        rfl
      have alone' : side = [c] := congrArg (· ++ [c]) empty
      clear_value side c
      have kept' : side.drop (side.length - 8192) = side := by simp [alone']
      unfold v fch
      rw [if_pos ⟨pf, alone⟩, if_neg (by simp [wanted, on, absent]), kept', alone', whole]
      rfl
    rw [alone, State.answerAll, stored]
    exact maintFill_none (s := u.withSide (CLine.fetched line m.dom data sp)) line noMaint

theorem mshrOf_one (s : State) (e : Mshr) (alone : s.fch.mshr = [e]) : s.mshrOf e.line = some e := by
  unfold State.mshrOf
  rw [alone]
  exact List.find?_cons_of_pos (by simp)

/-- The entry of a prefetch. -/
def Mshr.prefetching (line d : Nat) : Mshr :=
  { line := line, dom := d, reqs := [], again := [], pf := true, drop := false, maint := false }

/-- The fetch of an unmapped line whose map line is there brings zeros at once. -/
theorem prefetchLine_unmapped {line : Nat} (d : Nat) (present : s.mpresent 0 (line / 32) = true) (unmapped : (s.entry line).st = 0)
    (on : s.fch.mode = .on) (window : s.swt.st = .none) (absent : s.lineOf line = none) (noSide : s.findSide line = none)
    (idle : s.fch.mshr = []) (empty : s.fch.side = []) (noMaint : s.fch.maint = none) (unstaged : s.stagedCopy line = none) :
    ∃ u : State, u.fch = { s.fch with mshr := [Mshr.prefetching line d] } ∧ u.out = s.out ∧
      s.prefetchLine line d = (u.closeMshr (Mshr.prefetching line d)).withSide (CLine.fetched line d (Quad.all 0#512) 0#4) := by
  let v : State := { s with fch := { s.fch with mshr := [Mshr.prefetching line d] } }
  let u := (((v.count 0x208 0 1).count 0x300 0 1).dropRead line Rd.forFill).count 0x307 0 1
  have fch : u.fch = v.fch := by simp [u, State.dropRead, State.setReads]
  have wp : u.wp = s.wp := by simp [u, v, State.dropRead, State.setReads]
  have out : u.out = s.out := by simp [u, v, State.dropRead, State.setReads]
  refine ⟨u, fch, out, ?_⟩
  have filled := fillDone_prefetch (s := u) (line := line) (data := Quad.all 0#512) (sp := 0#4)
    (m := Mshr.prefetching line d) (mshrOf_one u (Mshr.prefetching line d) (by rw [fch])) rfl rfl rfl (by rw [fch]; exact on)
    ((lineOf_congr fch line).trans absent) (by rw [fch]; exact empty) (by rw [fch]; exact noMaint) (by
      unfold State.stagedCopy State.stagedCopies at unstaged ⊢
      simp only [group_congr wp]
      exact unstaged)
  have resolved : ((v.count 0x208 0 1).count 0x300 0 1).resolveFill line = u.fillDone line (Quad.all 0#512) 0#4 := by
    have counted : ((v.count 0x208 0 1).count 0x300 0 1).mshrOf line = some (Mshr.prefetching line d) :=
      mshrOf_one _ (Mshr.prefetching line d) (by simp [v])
    have entry : ((v.count 0x208 0 1).count 0x300 0 1).entry line = s.entry line := by
      simp [State.entry, v]
    unfold State.resolveFill
    rw [counted, entry]
    dsimp only
    rw [if_pos unmapped]
  have found : (v.count 0x208 0 1).lookup line d .prefetch = ((v.count 0x208 0 1).count 0x300 0 1).resolveFill line := by
    have there : (v.count 0x208 0 1).mpresent 0 (line / 32) = true := by
      unfold State.mpresent State.mslot at present ⊢
      simpa [v] using present
    unfold State.lookup
    dsimp only
    rw [if_pos there]
  have outside : s.inWindowRange line = false := by simp [State.inWindowRange, window]
  unfold State.prefetchLine
  rw [if_neg (by simp [on, outside, absent, noSide, mshrOf_nil line idle, idle])]
  dsimp only
  rw [idle]
  exact found.trans (resolved.trans filled)

end Requests
end Sys2Proof.Machine

/-!
PROOF. The obligation about CXL.mem requests (R47 to R57, R103, R111, R126).
-/
namespace Sys2Proof.Machine
set_option Elab.async false

section SpecRd

variable {s : State} {h : Nat}

theorem exec_memSpecRd_unmapped {hpa : BitVec 64} {q : Req} (reached : s.reaches (Req.rd h 0) hpa.toNat q)
    (active : (s.dom q.dom).st = .active) (on : s.fch.mode = .on) (present : s.mpresent 0 (q.line / 32) = true)
    (unmapped : (s.entry q.line).st = 0) (absent : s.lineOf q.line = none) (noSide : s.findSide q.line = none)
    (idle : s.fch.mshr = []) (empty : s.fch.side = []) (noMaint : s.fch.maint = none) (unstaged : s.stagedCopy q.line = none) : ∃ t,
      exec (.memSpecRd h hpa) s = .next t ∧ t.out = [] ∧ ((t.findSide q.line).map fun c => (c.sv, c.d, c.sp)) = some (0xF#4,
      Quad.all 0#512, 0#4) := by
  have fch : (s.begin.count 0x103 h 1).fch = s.fch := State.count_fch ..
  have map : (s.begin.count 0x103 h 1).map = s.map := State.count_map ..
  have wp : (s.begin.count 0x103 h 1).wp = s.wp := State.count_wp ..
  have cry : (s.begin.count 0x103 h 1).cry = s.cry := State.count_cry ..
  have shown : (s.begin.count 0x103 h 1).out = [] := State.count_out ..
  have like : s.decodesLike (s.begin.count 0x103 h 1) :=
    (countInvariant_decodesLike s).count (s := s.begin) (.of_host rfl) 0x103 h 1
  obtain ⟨sanitizing, deviceHalt, halted, epoch, window⟩ : (s.begin.count 0x103 h 1).open_ q.dom := open_count 0x103 reached
  obtain ⟨up, activated, place, -⟩ := reached
  have run : exec (.memSpecRd h hpa) s = .next _ := congrArg done (memReq_up _ up)
  dsimp only at run
  generalize s.begin.count 0x103 h 1 = u at *
  obtain ⟨v, fch', out, fetched⟩ := prefetchLine_unmapped (s := u) (line := q.line) q.dom
    (by unfold State.mpresent State.mslot at present ⊢; rwa [map]) (by unfold State.entry at unmapped ⊢; rwa [map]) (by rw [fch, on])
    window ((lineOf_congr fch _).trans absent) ((findSide_congr fch _).trans noSide) (by rw [fch, idle]) (by rw [fch, empty])
    (by rw [fch, noMaint]) (by
      unfold State.stagedCopy State.stagedCopies at unstaged ⊢
      simp only [group_congr wp]
      exact unstaged)
  have there : u.mpresent 0 (q.line / 32) = true := by unfold State.mpresent State.mslot at present ⊢; rwa [map]
  have state : (u.dom q.dom).st = .active := (congrArg Dom.st (dom_congr cry _)).trans active
  obtain ⟨d, decoded, placed⟩ := Option.bind_eq_some_iff.mp place
  have decoded' : u.decoderOf h hpa.toNat = some d := (like.decoderOf h hpa.toNat).trans decoded
  have placed' : u.place? (Req.rd h 0) (d.dpa hpa.toNat) = some q := (place?_congr cry _ _).trans placed
  refine ⟨u.prefetchLine q.line q.dom, run.trans (congrArg _ ?_), ?_, ?_⟩
  · rw [if_neg (by simp [like.memActive, activated, sanitizing, deviceHalt]), decoded']
    dsimp only
    rw [placed']
    dsimp only
    rw [if_neg (by simp [halted, state, epoch]), if_pos there]
  · rw [fetched]
    exact out.trans shown
  · rw [fetched, findSide_withSide]
    rfl

end SpecRd

/-- Settles O10: each request, on the way that its place and its domain give it. -/
theorem memRequestCommands : Obligations.MemRequestCommands := by
  unfold Obligations.MemRequestCommands
  refine ⟨fun s h tag hpa q reached empty => ?_,
    fun s h tag k hpa q c reached active on found noVictim valid clean sound tagged => ?_,
    fun _ _ _ _ _ _ reached active flowing off => exec_memWr_off reached active flowing off,
    fun _ _ _ _ _ _ _ _ _ reached part active flowing on idle noInj noSide found noVictim valid clean dirty sound tagged =>
      exec_memWrPtl_dirty reached part active flowing on idle noInj noSide found noVictim valid clean dirty sound tagged,
    fun s h tag hpa wf head up active undecoded tagged => ?_, fun _ _ _ up tagged => exec_memInv up tagged,
    fun _ _ _ up tagged => exec_memInvNt up tagged, fun _ _ op hpa wf up => exec_invalidMemOpcode op hpa wf up,
    fun _ _ _ _ reached active on present unmapped absent noSide idle empty noMaint unstaged =>
      exec_memSpecRd_unmapped reached active on present unmapped absent noSide idle empty noMaint unstaged⟩
  case _ =>
    refine ⟨_, exec_memRd_empty reached empty, fun tagged => ?_⟩
    rw [out_memData_good _ _ tagged, State.count_out]
    rfl
  case _ =>
    refine ⟨_, exec_memRdData_hit reached active on found noVictim valid clean sound, ?_⟩
    have before : (((s.begin.count 0x100 h 1).count 0x200 0 1).ftouch k).out = [] := (State.count_out ..).trans (State.count_out ..)
    rw [out_memData_good _ _ tagged, before]
    rfl
  case _ =>
    have shown : ((s.begin.count 0x100 h 1).outside (Req.rd h tag) 1 hpa.toNat).out =
        [.memData h tag 0#512 true ((s.begin.count 0x100 h 1).devload h)] := by
      rw [out_outside, out_failReq_read rfl tagged, State.count_out]
      rfl
    refine ⟨_, exec_memRd_noDecoder wf up active undecoded,
      (outside_reports (r := Req.rd h tag) wf head 0x100 1 hpa.toNat).1, ?_, ?_⟩ <;> rw [shown] <;> rfl

end Sys2Proof.Machine

/-!
PROOF. The obligation about lines and requests that waited fails (R191, R425): its entry into staging is stated for every state,
also for one that lists a domain's epoch entry twice.
-/
namespace Sys2Proof.Machine
set_option Elab.async false
open Tests

/-- The epoch table lists domain 0 twice, first with its default. The staged line's sequence counter is dry, so its generation
switches; the switch stores the default entry, which takes the first listing away and uncovers the second, whose waiting write
then goes on to be handed. -/
def drainTwice : State :=
  { grp [strp []] with
    fch := { up.fch with mode := .off }
    cry := { up.cry with deviceHalt := true, doms := [(0, { liveDom with gen0 := some key1, next := some key1, seq := 2 ^ 48 })] }
    epo := { up.epo with doms := [(0, EpoDom.fresh), (0, { EpoDom.fresh with draining := true })]
                         epochWait := [{ Req.rd 0 8 with wr := true, line := 4 }] }
    wp := { up.wp with groups := [(0, { Group.fresh with host := some ⟨0, 16, 1⟩, stripes := [strp []] })], handed := [hd 3] } }

theorem drainTwice_enters : ∃ y, drainTwice.stagedOf (hd 3) = some y ∧ drainTwice.entryGroup (hd 3) = some 0 ∧
    (drainTwice.begin.enterStaging 0 y).isSome = true := ⟨_, rfl, by decide +kernel, by decide +kernel⟩

theorem drainTwice_hands : (drainTwice.begin.stageHanded (hd 3)).wp.handed ≠ [] := by decide +kernel

theorem exec_stagingEntry {s : State} {line : Nat} {x : Handed} (core : s.pwr.coreOn = true)
    (found : s.wp.handed.find? (fun z => z.line == line) = some x) : exec (.stagingEntry line) s = .next (s.begin.stageHanded x) := by
  refine (congrArg done (when_true core)).trans ?_
  rw [State.begin_wp, found]
  rfl

/-- Refutes O11: clause 5 says that the handed list only loses the staged line, but in a state that lists an epoch entry twice
the generation switch of the staged line lets a waiting write join that list. -/
theorem not_memWaitCommands : ¬ Obligations.MemWaitCommands := by
  unfold Obligations.MemWaitCommands
  intro all
  obtain ⟨-, -, -, -, staging, -⟩ := all
  obtain ⟨y, staged, group, enters⟩ := drainTwice_enters
  obtain ⟨t, run, handed, -⟩ := staging drainTwice 3 0 0 7 (hd 3) y rfl rfl staged group enters rfl rfl (by decide +kernel) rfl rfl
  rw [← Host.Outcome.next.inj ((exec_stagingEntry (s := drainTwice) (line := 3) (x := hd 3) rfl rfl).symm.trans run)] at handed
  exact drainTwice_hands (handed.trans (by decide +kernel))

end Sys2Proof.Machine

/-!
PROOF. The Swatch window (R128, R129, R131, R133, R136), command by command.
-/
namespace Sys2Proof.Machine
set_option Elab.async false

section Swatch

variable {s : State} {h : Nat}

/-- An event's ERR_INFO holds what it was raised with, its bit number as CAUSE (R557). -/
theorem errInfo_raiseAt (e : Evt) (info addr : Word) (wf : s.wf = true) :
    (s.raiseAt e info addr).reg (e.stsOff + 0x18) = putBits info 7 0 e.bit := by
  have aligned : e.blk.base % 0x1000 = 0 := by cases e.blk <;> rfl
  have cnt : e.stsOff + 0x18 ≠ 0x5130 := by unfold Evt.stsOff; omega
  unfold State.raiseAt
  dsimp only
  rw [reg_recordEvt_other _ _ _ _ _ _ cnt, reg_setEvtBit_other _ _ _ (by omega), State.capture, reg_setReg_other _ _ _ _ (by omega),
    reg_setReg_same s _ _ wf]

/-- The field above CAUSE, of an ERR_INFO whose other fields are zero. -/
theorem reason_raiseN (e : Evt) {why : Nat} (addr : Nat) (wf : s.wf = true) (small : why < 16) :
    getBits ((s.raiseN e (why * 2 ^ 8) addr).reg (e.stsOff + 0x18)) 11 8 = why := by
  unfold State.raiseN
  rw [errInfo_raiseAt e _ _ wf, getBits_putBits_other _ _ _ _ _ _ (by decide) (by decide) (by decide) (by decide) (.inr (by decide))]
  clear wf
  interval_cases why <;> rfl

/-! ### Carving -/

theorem carveWhy_lt (n : Nat) : s.carveWhy n < 16 := by
  unfold State.carveWhy
  dsimp only
  repeat' split
  all_goals decide

theorem carveWhy_setFld (n v : Nat) : (s.setFld F.swtCtlWays v).carveWhy n = s.carveWhy n := by
  have base : (s.setFld F.swtCtlWays v).fld F.swtBaseBase = s.fld F.swtBaseBase := fld_setFld_off s _ _ v (by decide)
  have mask : (s.setFld F.swtCtlWays v).fld F.fchWaymaskWr = s.fld F.fchWaymaskWr := fld_setFld_off s _ _ v (by decide)
  unfold State.carveWhy
  rw [base, mask]
  rfl

/-- The window's ways are being carved over the range at SWT_BASE. -/
def State.carving (s : State) (n : Nat) : State :=
  { s with swt := { s.swt with
      st := .carving, ways := n, base := s.fld F.swtBaseBase * 65536, pos := 0, handing := none
      dom := (s.domOfRange (s.fld F.swtBaseBase * 65536) (n * 65536)).getD 0 } }

/-- The same, with the range's copies gone. -/
def State.carves (s : State) (n : Nat) : State := (s.carving n).discardRange (s.fld F.swtBaseBase * 65536) (n * 65536)

theorem wf_carves (n : Nat) (wf : s.wf = true) : (s.carves n).wf = true := (State.discardRange_ev ..).2 wf

theorem fld_carves (n : Nat) (f : Fld) : (s.carves n).fld f = s.fld f :=
  fld_of_reg (reg_evolves (State.discardRange_ev ..) rfl rfl f.off)

theorem swt_carves (n : Nat) : (s.carves n).swt.st = .carving ∧ (s.carves n).swt.ways = n ∧
    (s.carves n).swt.base = s.fld F.swtBaseBase * 65536 := by
  have swt : (s.carves n).swt = (s.carving n).swt := evolves_get (State.discardRange_ev ..) .swt rfl
  exact ⟨congrArg SwtState.st swt, congrArg SwtState.ways swt, congrArg SwtState.base swt⟩

/-- Emptying a way changes registers of the performance counters only. -/
theorem fld_clearWay (w : Nat) (drop : Bool) {f : Fld} (wf : s.wf = true) (low : f.off < 0x30000) (other : f.off ≠ 0x5130) :
    (s.clearWay w drop).fld f = s.fld f := by
  unfold State.clearWay
  refine (List.foldlRecOn (motive := fun t : State => t.wf = true ∧ t.fld f = s.fld f) _ _ ⟨wf, rfl⟩ fun t ⟨tWf, same⟩ p _ => ?_).2
  split_ifs
  · exact ⟨(State.hand_ev ..).2 tWf, (fld_hand _ tWf low other).trans same⟩
  · have ev := State.setSlot_ev t p.1 none
    exact ⟨ev.2 tWf, (fld_of_reg (reg_evolves ev rfl rfl f.off)).trans same⟩
  · exact ⟨tWf, same⟩

theorem clearWays_leaves (l : List Nat) {f : Fld} (wf : s.wf = true) (low : f.off < 0x30000) (other : f.off ≠ 0x5130) :
    (l.foldl (fun t i => t.clearWay (15 - i) true) s).swt = s.swt ∧
      (l.foldl (fun t i => t.clearWay (15 - i) true) s).fld f = s.fld f := by
  refine (List.foldlRecOn (motive := fun t : State => t.wf = true ∧ t.swt = s.swt ∧ t.fld f = s.fld f) _ _ ⟨wf, rfl, rfl⟩
    fun t ⟨tWf, swt, same⟩ i _ => ?_).2
  have ev := State.clearWay_ev t (15 - i) true
  exact ⟨ev.2 tWf, (evolves_get ev .swt rfl).trans swt, (fld_clearWay _ _ tWf low other).trans same⟩

theorem fld_swtCtlWays_set {ways : Nat} (wf : s.wf = true) (hi : ways ≤ 4) :
    (s.setFld F.swtCtlWays ways).fld F.swtCtlWays = ways :=
  fld_setFld_same s _ _ wf (by decide) (by decide) (by change ways < 8; omega)

theorem exec_swatchCarve {ways : Nat} (wf : s.wf = true) (ready : s.barReady h) (lo : 1 ≤ ways) (hi : ways ≤ 4)
    (meets : s.carveWhy ways = 0) : ∃ t, exec (.swatchCarve h ways) s = .next t ∧ t.swt.st = .carving ∧ t.swt.ways = ways ∧
      t.swt.base = s.fld F.swtBaseBase * 65536 ∧ t.fld F.swtCtlWays = ways := by
  have set := fld_swtCtlWays_set (s := s.begin) wf hi
  have why : (s.begin.setFld F.swtCtlWays ways).carveWhy ways = 0 := (carveWhy_setFld ..).trans meets
  have base : (s.begin.setFld F.swtCtlWays ways).fld F.swtBaseBase = s.fld F.swtBaseBase := fld_setFld_off s.begin _ _ _ (by decide)
  have setWf : (s.begin.setFld F.swtCtlWays ways).wf = true := wf_setFld s.begin _ _ wf
  have run : exec (.swatchCarve h ways) s = .next _ := congrArg done (barWrite_ready ready)
  dsimp only at run
  rw [if_pos (show 1 ≤ ways ∧ ways ≤ 4 from ⟨lo, hi⟩), set, why, if_neg (fun no => no rfl)] at run
  generalize s.begin.setFld F.swtCtlWays ways = u at *
  obtain ⟨st, taken, from_⟩ := swt_carves (s := u) ways
  obtain ⟨swt, same⟩ := clearWays_leaves (s := u.carves ways) (List.range ways) (f := F.swtCtlWays) (wf_carves ways setWf)
    (by decide) (by decide)
  refine ⟨_, run, ?_⟩
  change (List.foldl (fun t i => State.clearWay t (15 - i) true) (u.carves ways) (List.range ways)).swt.st = _ ∧ _
  exact ⟨(congrArg SwtState.st swt).trans st, (congrArg SwtState.ways swt).trans taken,
    ((congrArg SwtState.base swt).trans from_).trans (by rw [base]), same.trans ((fld_carves ..).trans set)⟩

theorem exec_swatchCarve_refused {ways : Nat} (wf : s.wf = true) (ready : s.barReady h) (lo : 1 ≤ ways) (hi : ways ≤ 4)
    (fails : s.carveWhy ways ≠ 0) : ∃ t, exec (.swatchCarve h ways) s = .next t ∧ t.swt = s.swt ∧ t.evtSet Ev.swtRefused ∧
      getBits (t.reg (Ev.swtRefused.stsOff + 0x18)) 11 8 = s.carveWhy ways := by
  have set := fld_swtCtlWays_set (s := s.begin) wf hi
  have why : (s.begin.setFld F.swtCtlWays ways).carveWhy ways = s.carveWhy ways := carveWhy_setFld ..
  have setWf : (s.begin.setFld F.swtCtlWays ways).wf = true := wf_setFld s.begin _ _ wf
  have small : s.carveWhy ways < 16 := carveWhy_lt ways
  have run : exec (.swatchCarve h ways) s = .next _ := congrArg done (barWrite_ready ready)
  dsimp only at run
  rw [if_pos (show 1 ≤ ways ∧ ways ≤ 4 from ⟨lo, hi⟩), set, why, if_pos fails] at run
  exact ⟨_, run, (State.raiseN_swt ..).trans rfl, evtSet_raiseN _ _ _ _ setWf (by decide), reason_raiseN _ 0 setWf small⟩

theorem exec_carveDone (wf : s.wf = true) (core : s.pwr.coreOn = true) (carving : s.swt.st = .carving) (map : s.map.st = .active)
    (clear : s.waysClear = true) : ∃ t, exec (.carveDone) s = .next t ∧ t.swt.st = .active ∧ t.swt.ways = s.swt.ways ∧
      t.swt.record = some ⟨false, s.swt.ways, s.swt.base, s.swt.keep, s.swt.pos⟩ ∧ t.evtSet Ev.swtCarveDone := by
  have run : exec (.carveDone) s = .next _ := congrArg done (when_true ?_)
  · extract_lets +onlyGivenNames n mask gone fch emptied unmapped filled swt' active at run
    have unmappedEv : s.begin.evolves unmapped [.fch, .wp, .regs, .pmc, .evt, .host, .map, .rd, .upk, .out] := by
      refine ev_step (ev_step (u := emptied) (ev_fch ?_ rfl) (State.unmapRange_ev ..) rfl) (State.unpoisonRange_ev ..) rfl
      exact ev_step ev_refl (State.discardRange_ev ..) rfl
    have swt : unmapped.swt = s.swt := evolves_get unmappedEv .swt rfl
    have unmappedWf : unmapped.wf = true := unmappedEv.2 wf
    clear_value unmapped
    have filledWf : filled.wf = true := (State.fillWindow_ev ..).2 unmappedWf
    have kept : filled.swt.base = s.swt.base ∧ filled.swt.keep = s.swt.keep ∧ filled.swt.pos = s.swt.pos := by rw [← swt]; exact ⟨rfl, rfl, rfl⟩
    clear_value filled
    obtain ⟨base, keep, pos⟩ := kept
    have after : ((active.swtRecord false).raise Ev.swtCarveDone).swt = (active.swtRecord false).swt := State.raise_swt ..
    refine ⟨_, run, congrArg SwtState.st after, (congrArg SwtState.ways after).trans rfl, (congrArg SwtState.record after).trans ?_,
      evtSet_raise _ _ filledWf (by decide)⟩
    rw [← base, ← keep, ← pos]
    rfl
  · simp only [core, carving, map, and_self, decide_true, Bool.and_self, Bool.true_and]
    exact clear

/-! ### Release -/

theorem exec_swatchRelease (keep : Bool) (wf : s.wf = true) (ready : s.barReady h) (active : s.swt.st = .active) : ∃ t,
    exec (.swatchRelease h keep) s = .next t ∧ t.swt.st = .releasing ∧ t.swt.keep = keep ∧ t.swt.pos = 0 ∧
      t.fld F.swtCtlKeep = ofBool keep := by
  have set : (s.begin.setFld F.swtCtlKeep (ofBool keep)).fld F.swtCtlKeep = ofBool keep :=
    fld_setFld_same s.begin _ _ wf (by decide) (by decide) (by cases keep <;> decide)
  refine ⟨_, congrArg done ((barWrite_ready ready).trans (if_pos active)), rfl, rfl, rfl, set⟩

/-- The window's position past the line handed back. -/
def State.pastLine (s : State) : State := { s with swt := { s.swt with pos := s.swt.pos + 1, handing := none } }

theorem handedBack_more (more : s.swt.pos + 1 < s.swtLines) : s.handedBack = s.pastLine.swtRecord true := if_pos more

theorem handedBack_last (wf : s.wf = true) (last : s.swtLines ≤ s.swt.pos + 1) : s.handedBack.swt.st = .none ∧
    s.handedBack.swt.record = none ∧ s.handedBack.evtSet Ev.swtReleaseDone := by
  rw [show s.handedBack = _ from if_neg (Nat.not_lt.mpr last)]
  exact ⟨congrArg SwtState.st (State.raise_swt ..), congrArg SwtState.record (State.raise_swt ..), evtSet_raise _ _ wf (by decide)⟩

theorem exec_swatchLineHandback (core : s.pwr.coreOn = true) (releasing : s.swt.st = .releasing)
    (idle : s.swt.handing = none) (dropped : s.swt.keep = false) : exec (.swatchLineHandback) s = .next s.begin.handedBack := by
  refine (congrArg done (when_true (by simp [core, releasing]))).trans ?_
  dsimp only
  rw [State.begin_swt, idle]
  exact congrArg Host.Outcome.next (if_pos (.inl (by simp [dropped])))

end Swatch

/-- Settles O12: each command of the Swatch window. -/
theorem swatchCommands : Obligations.SwatchCommands := by
  unfold Obligations.SwatchCommands
  refine ⟨fun _ _ _ wf ready lo hi meets => exec_swatchCarve wf ready lo hi meets,
    fun _ _ _ wf ready lo hi fails => exec_swatchCarve_refused wf ready lo hi fails,
    fun _ wf core carving map clear => exec_carveDone wf core carving map clear,
    fun _ _ keep wf ready active => exec_swatchRelease keep wf ready active,
    fun s wf core releasing idle dropped => ⟨_, exec_swatchLineHandback core releasing idle dropped, fun more => ?_,
      handedBack_last (s := s.begin) wf⟩⟩
  rw [handedBack_more (s := s.begin) more]
  exact ⟨releasing, rfl⟩

end Sys2Proof.Machine

/-!
PROOF. Epochs (R33, R34, R424 to R431): what the prepare point, staging and discarding leave of a domain's epoch state.
-/
namespace Sys2Proof.Machine
set_option Elab.async false

/-! ### Staging keeps the state of every domain's epochs -/

/-- Canonical tables stay canonical from `s` to `t`, no domain's epoch STATE changes, and EPO_DB_STS keeps what it shows. -/
structure State.keepsEpoSt (s t : State) : Prop where
  dbResult : t.epo.dbResult = s.epo.dbResult
  dbOp : t.epo.dbOp = s.epo.dbOp
  of_wf : s.wf = true → t.wf = true ∧ ∀ d, (t.epoDom d).st = (s.epoDom d).st

section KeepsEpoSt

variable {s t u : State}

theorem State.keepsEpoSt.refl : s.keepsEpoSt s := ⟨rfl, rfl, fun wf => ⟨wf, fun _ => rfl⟩⟩

theorem State.keepsEpoSt.trans (a : s.keepsEpoSt t) (b : t.keepsEpoSt u) : s.keepsEpoSt u where
  dbResult := b.dbResult.trans a.dbResult
  dbOp := b.dbOp.trans a.dbOp
  of_wf wf :=
    have ⟨wfT, stT⟩ := a.of_wf wf
    have ⟨wfU, stU⟩ := b.of_wf wfT
    ⟨wfU, fun d => (stU d).trans (stT d)⟩

theorem State.keepsEpoSt.of_evolves {L : List Piece} (a : s.evolves t L) (noEpo : L.contains .epo = false := by rfl) : s.keepsEpoSt t :=
  have epo : t.epo = s.epo := evolves_get a .epo noEpo
  ⟨by rw [epo], by rw [epo], fun wf => ⟨a.2 wf, fun d => congrArg EpoDom.st (epoDom_congr epo d)⟩⟩

theorem State.keepsEpoSt.ite {c : Prop} [Decidable c] (a : s.keepsEpoSt t) (b : s.keepsEpoSt u) : s.keepsEpoSt (if c then t else u) := by
  split <;> assumption

theorem State.keepsEpoSt.foldl {α : Type} {f : State → α → State} (step : ∀ (t : State) (x : α), t.keepsEpoSt (f t x)) (l : List α)
    (s : State) : s.keepsEpoSt (l.foldl f s) := by
  induction l generalizing s with
  | nil => exact .refl
  | cons x l ih => exact (step s x).trans (ih _)

theorem keepsEpoSt_setEpoDom (s : State) (d : Nat) {x : EpoDom} (same : x.st = (s.epoDom d).st) : s.keepsEpoSt (s.setEpoDom d x) :=
  ⟨rfl, rfl, fun wf => ⟨(State.setEpoDom_ev ..).2 wf, fun j => by
    by_cases here : j = d
    · rw [here, epoDom_setEpoDom_same _ _ _ wf, same]
    · rw [epoDom_setEpoDom_other _ _ _ _ here]⟩⟩

theorem keepsEpoSt_genSwitch (s : State) (d : Nat) : s.keepsEpoSt (s.genSwitch d) := by
  have ticked : s.keepsEpoSt s.wrapTick.1 := .of_evolves (State.wrapTick_ev s)
  unfold State.genSwitch
  split
  · exact .refl
  · split
    next tick =>
      rw [tick] at ticked
      exact ticked
    next u tick =>
      rw [tick] at ticked
      have keyed : u.keepsEpoSt (u.nextKey d).1 := .of_evolves (State.nextKey_ev ..)
      split
      next failed =>
        rw [failed] at keyed
        exact ticked.trans keyed
      next v key src found =>
        rw [found] at keyed
        have aged : v.keepsEpoSt (v.agedUndo d) := keepsEpoSt_setEpoDom _ _ rfl
        exact ((ticked.trans keyed).trans aged).trans
          ((State.keepsEpoSt.of_evolves (State.setDom_ev ..)).trans (.of_evolves (State.raiseN_ev ..)))

theorem keepsEpoSt_drawSeq (s : State) (d g : Nat) : s.keepsEpoSt (s.drawSeq d g).1 := by
  unfold State.drawSeq
  extract_lets +onlyGivenNames dom switched
  have first : s.keepsEpoSt switched := .ite (.ite (.of_evolves (State.setDom_ev ..)) (keepsEpoSt_genSwitch s d)) .refl
  clear_value switched
  split
  · exact first
  · extract_lets +onlyGivenNames batched
    have second : switched.keepsEpoSt batched := .ite (.of_evolves (State.takeBatch_ev ..)) .refl
    clear_value batched
    exact (first.trans second).trans (.of_evolves (State.setDom_ev ..))

theorem keepsEpoSt_encrypt (s : State) (g : Nat) (x : Staged) : s.keepsEpoSt (s.encrypt g x).1 := by
  have drawn := keepsEpoSt_drawSeq s x.dom g
  unfold State.encrypt
  split
  next draw =>
    rw [draw] at drawn
    exact drawn
  next draw =>
    rw [draw] at drawn
    dsimp only at drawn ⊢
    split
    · exact drawn
    · exact drawn.trans (.of_evolves (State.count_ev ..))

theorem keepsEpoSt_encryptLines (s : State) (g : Nat) (l : List Staged) : s.keepsEpoSt (s.encryptLines g l).1 := by
  induction l generalizing s with
  | nil => exact .refl
  | cons x l ih =>
    unfold State.encryptLines
    have first : s.keepsEpoSt (if x.kind = .host ∧ !x.enc ∧ x.missing = 0#4 then s.encrypt g x else (s, x)).1 := by
      split
      · exact keepsEpoSt_encrypt ..
      · exact .refl
    exact first.trans (ih _)

theorem keepsEpoSt_settleGroup (s : State) (g : Nat) : s.keepsEpoSt (s.settleGroup g) := by
  refine .foldl (fun u x => .ite ?_ .refl) _ s
  have lines := keepsEpoSt_encryptLines u g x.lines
  unfold State.settleStripe
  exact .ite ((lines.trans (.of_evolves (State.updStripe_ev ..))).trans (.of_evolves (State.launch_ev ..)))
    (lines.trans (.of_evolves (State.updStripe_ev ..)))

theorem State.keepsEpoSt.of_doms (same : t.epo.doms = s.epo.doms) (dbResult : t.epo.dbResult = s.epo.dbResult)
    (dbOp : t.epo.dbOp = s.epo.dbOp) (wf : s.wf = true → t.wf = true) : s.keepsEpoSt t :=
  ⟨dbResult, dbOp, fun canonical => ⟨wf canonical, fun d => congrArg (fun doms => (Tab.get (fun _ => EpoDom.fresh) doms d).st) same⟩⟩

theorem keepsEpoSt_endWhere {ans : State → Req → State} (answers : ∀ (s : State) (r : Req), s.keepsEpoSt (ans s r)) (s : State)
    (sel : Nat → Nat → Bool) : s.keepsEpoSt (s.endWhere ans sel) := by
  unfold State.endWhere
  extract_lets +onlyGivenNames p reqs acks fch epo wp ended
  have first : s.keepsEpoSt ended :=
    .of_doms rfl rfl rfl (ev_wp (ev_epo (ev_fch (u := s) (L := [.fch, .epo, .wp]) ev_refl rfl) rfl EpoState.wf_upd) rfl WriteState.wf_upd).2
  clear_value ended
  exact (first.trans (.foldl answers _ _)).trans (.foldl (fun _ _ => .of_evolves (State.cmp_ev ..)) _ _)

/-- Discarding what a domain, or a range, has not yet on media leaves the epochs of every domain where they are. -/
theorem keepsEpoSt_dropWhere {ans : State → Req → State} (answers : ∀ (s : State) (r : Req), s.keepsEpoSt (ans s r)) (s : State)
    (sel : Nat → Nat → Bool) : s.keepsEpoSt (s.dropWhere ans sel) := by
  unfold State.dropWhere
  extract_lets +onlyGivenNames ended lines dropped gone maint mshr flush fch wp rd kept mark
  have first : s.keepsEpoSt ended := keepsEpoSt_endWhere answers s sel
  clear_value ended
  have second : ended.keepsEpoSt dropped :=
    .foldl (fun _ _ => (State.keepsEpoSt.of_evolves (State.dropLine_ev ..)).trans (.of_evolves (State.dropSide_ev ..))) _ _
  clear_value dropped
  have third : dropped.keepsEpoSt kept := .of_evolves (L := [.fch, .wp, .rd])
    (ev_updW ev_refl id id id WriteState.wf_upd id id id id id id (by
      intro p; cases p <;> first | exact .inl (by decide) | exact .inr rfl | exact .inr ⟨rfl, rfl⟩))
  clear_value kept
  exact ((first.trans second).trans third).trans
    (.foldl (fun _ _ => (State.keepsEpoSt.of_evolves (State.setStripes_ev ..)).trans (keepsEpoSt_settleGroup ..)) _ _)

end KeepsEpoSt
end Sys2Proof.Machine

/-!
PROOF. The obligations about epochs (R33, R34, R410 to R437): the mailbox, the doorbell, deadlines, enabling and disabling.
-/
namespace Sys2Proof.Machine
set_option Elab.async false

section Epochs

variable {s : State} {h d e : Nat}

/-! ### The prepare point -/

theorem keepsEvents_handDomain (s : State) (d : Nat) : s.keepsEvents (s.handDomain d) := .foldl keepsEvents_hand _ s

theorem keepsEvents_padDomain (s : State) (d : Nat) : s.keepsEvents (s.padDomain d) :=
  .foldl (fun _ _ => .foldl (fun _ _ => keepsEvents_pad ..) _ _) _ s

/-- The domain's writes may go on again. -/
def State.drained (s : State) (d : Nat) : State :=
  let t := s.setEpoDom d { s.epoDom d with draining := false }
  { t with epo := { t.epo with epochWait := t.epo.epochWait.filter fun r => r.dom != d } }

theorem drained_evolves (s : State) (d : Nat) : s.evolves (s.drained d) [.epo] :=
  ev_epo (ev_step ev_refl (State.setEpoDom_ev ..) rfl) rfl EpoState.wf_upd

theorem epoDom_drained (wf : s.wf = true) : (s.drained d).epoDom d = { s.epoDom d with draining := false } :=
  epoDom_setEpoDom_same s d _ wf

/-- With no write of the domain waiting, the end of the drain changes nothing else of its epochs. -/
theorem endDraining_idle (wf : s.wf = true) (idle : (s.epo.epochWait.any fun r => r.dom == d) = false) :
    s.keepsEvents (s.endDraining d) ∧ (∃ draining, (s.endDraining d).epoDom d = { s.epoDom d with draining := draining }) ∧
      ∃ doms waits, (s.endDraining d).epo = { s.epo with doms := doms, epochWait := waits } := by
  have none : s.epo.epochWait.filter (fun r => r.dom == d) = [] := by simpa using idle
  unfold State.endDraining
  split
  · rw [none]
    have epo := evolves_get (State.padDomain_ev (s.drained d) d) .epo rfl
    exact ⟨(State.keepsEvents.of_evolves (drained_evolves s d)).trans (keepsEvents_padDomain ..),
      ⟨false, (epoDom_congr epo d).trans (epoDom_drained wf)⟩, _, _, epo⟩
  · exact ⟨.refl, ⟨(s.epoDom d).draining, rfl⟩, _, _, rfl⟩

/-- The domain's epoch state at its prepare point. -/
def EpoDom.atPrepare (x : EpoDom) (e via owner : Nat) : EpoDom :=
  { x with st := .preparing, e := e, phase := x.phase + 1, prepTab := x.openTab, openTab := [], armed := none, draining := true
           via := via, owner := owner }

theorem prepareNow_idle (via owner : Nat) (wf : s.wf = true) (idle : (s.epo.epochWait.any fun r => r.dom == d) = false) :
    s.keepsEvents (s.prepareNow d e via owner) ∧ (∃ draining,
      (s.prepareNow d e via owner).epoDom d = { (s.epoDom d).atPrepare e via owner with draining := draining }) ∧
      ∃ doms waits, (s.prepareNow d e via owner).epo = { s.epo with doms := doms, epochWait := waits } := by
  let set := s.setEpoDom d ((s.epoDom d).atPrepare e via owner)
  have setEv : s.evolves set [.epo] := State.setEpoDom_ev ..
  have epo : (set.handDomain d).epo = set.epo := evolves_get (State.handDomain_ev set d) .epo rfl
  obtain ⟨kept, ⟨draining, ended⟩, doms, waits, left⟩ := endDraining_idle (s := set.handDomain d) (d := d) ((State.handDomain_ev ..).2 (setEv.2 wf))
    (by rw [epo]; exact idle)
  refine ⟨((State.keepsEvents.of_evolves setEv).trans (keepsEvents_handDomain ..)).trans kept, ⟨draining, ended.trans ?_⟩, doms, waits,
    left.trans ?_⟩
  · rw [epoDom_congr epo, epoDom_setEpoDom_same s d _ wf]
  · rw [epo]
    rfl

/-! ### Prepare -/

theorem exec_epochPrepare_gated (deadline : Nat) (pps : Bool) (ready : s.mboxRwReady h) (gate : s.prepareGate d e deadline pps = none) :
    exec (.epochPrepare h d e deadline pps) s = .next (if deadline = 0 then s.begin.prepare d e deadline pps 1 h
      else (s.begin.prepare d e deadline pps 1 h).answerMbox h .success []) := by
  refine (congrArg done (mailboxRw_ready ready)).trans ?_
  have gate' : s.begin.prepareGate d e deadline pps = none := gate
  rw [gate']
  rfl

theorem exec_epochPrepare_now {pps : Bool} (wf : s.wf = true) (ready : s.mboxRwReady h) (gate : s.prepareGate d e 0 pps = none)
    (idle : (s.epo.epochWait.any fun r => r.dom == d) = false) : ∃ t, exec (.epochPrepare h d e 0 pps) s = .next t ∧
      (t.epoDom d).st = .preparing ∧ (t.epoDom d).e = e ∧ (t.epoDom d).phase = (s.epoDom d).phase + 1 ∧
      (t.epoDom d).prepTab = (s.epoDom d).openTab ∧ (t.epoDom d).c = (s.epoDom d).c := by
  obtain ⟨-, ⟨draining, prepared⟩, -⟩ := prepareNow_idle (s := s.begin) (e := e) 1 h wf idle
  refine ⟨s.begin.prepareNow d e 1 h, exec_epochPrepare_gated 0 pps ready gate, ?_⟩
  rw [prepared]
  exact ⟨rfl, rfl, rfl, rfl, rfl⟩

theorem exec_epochPrepare_armed {deadline : Nat} {pps : Bool} (wf : s.wf = true) (ready : s.mboxRwReady h) (later : deadline ≠ 0)
    (gate : s.prepareGate d e deadline pps = none) : ∃ t, exec (.epochPrepare h d e deadline pps) s = .next t ∧
      (t.epoDom d).armed = some (e, deadline, pps) ∧ (t.epoDom d).st = (s.epoDom d).st ∧ t.out = [.mbox h .success []] ∧
      s.keeps t [.epo, .out] := by
  have armed (x : EpoDom) : ((s.begin.setEpoDom d x).answerMbox h .success []).epoDom d = x := epoDom_setEpoDom_same s.begin d x wf
  have ev (x : EpoDom) : s.evolves ((s.begin.setEpoDom d x).answerMbox h .success []) [.out, .epo] :=
    ev_step (ev_step (ev_step ev_refl (State.begin_ev s) rfl) (State.setEpoDom_ev ..) rfl) (State.answerMbox_ev ..) rfl
  have run := exec_epochPrepare_gated deadline pps ready gate
  rw [if_neg later, State.prepare, if_neg later] at run
  exact ⟨_, run, congrArg EpoDom.armed (armed _), (congrArg EpoDom.st (armed _)).trans rfl, rfl, (ev_step ev_refl (ev _) rfl).1⟩

/-! ### Its completion -/

/-- The domain PREPARED, and the event raised. -/
def State.prepareEnds (s : State) (d : Nat) : State :=
  (s.begin.setEpoDom d { s.epoDom d with st := .prepared, jp := s.map.nextJsn, via := 0 }).raiseN Ev.epoPrepareDone (d * 2 ^ 40) 0

theorem prepareEnds_spec (wf : s.wf = true) : ((s.prepareEnds d).epoDom d).st = .prepared ∧
    ((s.prepareEnds d).epoDom d).e = (s.epoDom d).e ∧ (s.prepareEnds d).out = [] ∧ (s.prepareEnds d).evtSet Ev.epoPrepareDone := by
  unfold State.prepareEnds
  rw [epoDom_congr (State.raiseN_epo ..), epoDom_setEpoDom_same s.begin d _ wf]
  exact ⟨rfl, rfl, State.raiseN_out .., evtSet_raiseN _ _ _ _ ((State.setEpoDom_ev ..).2 wf) (by decide)⟩

/-- The Prepare is answered where it came by. -/
def State.prepareAnswered (s : State) (x : EpoDom) : State :=
  match x.via with
  | 1 => s.answerMbox x.owner .success []
  | 2 => { s with epo := { s.epo with dbBusy := false, dbResult := 0 } }
  | _ => s

theorem prepareAnswered_spec (s : State) (x : EpoDom) : (s.prepareAnswered x).epoDom d = s.epoDom d ∧
    (∀ ev, s.evtSet ev → (s.prepareAnswered x).evtSet ev) ∧
    (x.via = 1 → (s.prepareAnswered x).out = s.out ++ [.mbox x.owner .success []]) := by
  unfold State.prepareAnswered
  split
  case _ => exact ⟨rfl, fun _ set => set, fun _ => rfl⟩
  case _ two => exact ⟨rfl, fun _ set => set, fun one => absurd (two.symm.trans one) (by decide)⟩
  case _ no _ => exact ⟨rfl, fun _ set => set, fun one => absurd one no⟩

theorem exec_prepareDone (wf : s.wf = true) (core : s.pwr.coreOn = true) (preparing : (s.epoDom d).st = .preparing)
    (flowing : (s.epoDom d).draining = false) (settled : s.phasePending d = false) (clean : s.tagsDirty d = false)
    (free : s.haltCovers d = false) : ∃ t, exec (.prepareDone d) s = .next t ∧ (t.epoDom d).st = .prepared ∧
      (t.epoDom d).e = (s.epoDom d).e ∧ t.evtSet Ev.epoPrepareDone ∧
      ((s.epoDom d).via = 1 → t.out = [.mbox (s.epoDom d).owner .success []]) := by
  have run : exec (.prepareDone d) s = .next ((s.prepareEnds d).prepareAnswered (s.epoDom d)) :=
    congrArg done (when_true (by simp [core, preparing, flowing, settled, clean, free]))
  obtain ⟨st, same, shown, reported⟩ := prepareEnds_spec (d := d) wf
  obtain ⟨answered, events, out⟩ := prepareAnswered_spec (d := d) (s.prepareEnds d) (s.epoDom d)
  rw [shown] at out
  exact ⟨_, run, answered ▸ st, answered ▸ same, events _ reported, out⟩

/-! ### Deadlines -/

theorem firePrepare_now (free : s.haltCovers d = false) (opened : (s.epoDom d).st = .open_) (above : (s.epoDom d).c < e)
    (clean : (s.epoDom d).cleanup = none) : s.firePrepare d e = s.prepareNow d e 0 0 := by
  unfold State.firePrepare
  dsimp only
  rw [if_neg (by simp [free]), if_neg (by simp [opened, above]), if_neg (by simp [clean])]

theorem exec_deadlineFire_prepare {deadline : Nat} {pps : Bool} (wf : s.wf = true) (core : s.pwr.coreOn = true)
    (armed : (s.epoDom d).armed = some (e, deadline, pps)) (due : s.deadlineDue deadline pps = true) (free : s.haltCovers d = false)
    (opened : (s.epoDom d).st = .open_) (above : (s.epoDom d).c < e) (clean : (s.epoDom d).cleanup = none)
    (idle : (s.epo.epochWait.any fun r => r.dom == d) = false) : ∃ t, exec (.deadlineFire (.prepare d)) s = .next t ∧
      (t.epoDom d).st = .preparing ∧ (t.epoDom d).e = e ∧ (t.epoDom d).armed = none := by
  obtain ⟨-, ⟨draining, prepared⟩, -⟩ := prepareNow_idle (s := s.begin) (e := e) 0 0 wf idle
  refine ⟨s.begin.prepareNow d e 0 0, (congrArg done (when_true core)).trans ?_, ?_⟩
  · have armed' : (s.begin.epoDom d).armed = some (e, deadline, pps) := armed
    unfold State.fire
    dsimp only
    rw [armed']
    exact congrArg Host.Outcome.next ((if_pos due).trans (firePrepare_now (s := s.begin) free opened above clean))
  · rw [prepared]
    exact ⟨rfl, rfl, rfl⟩

theorem exec_unalignedFire_prepare {deadline : Nat} (wf : s.wf = true) (core : s.pwr.coreOn = true)
    (armed : (s.epoDom d).armed = some (e, deadline, true)) (alone : s.deadlineAlone deadline = true) (free : s.haltCovers d = false)
    (opened : (s.epoDom d).st = .open_) (above : (s.epoDom d).c < e) (clean : (s.epoDom d).cleanup = none)
    (idle : (s.epo.epochWait.any fun r => r.dom == d) = false) : ∃ t, exec (.unalignedFire (.prepare d)) s = .next t ∧
      (t.epoDom d).st = .preparing ∧ (t.epoDom d).e = e ∧ t.evtSet Ev.topUnalignedFire := by
  let u := s.begin.raise Ev.topUnalignedFire
  have epo : u.epo = s.epo := State.raise_epo ..
  have cry : u.cry = s.cry := State.raise_cry ..
  have same : u.epoDom d = s.epoDom d := epoDom_congr epo d
  have free' : u.haltCovers d = false := by
    unfold State.haltCovers at free ⊢
    rw [dom_congr cry, cry]
    exact free
  have reported : u.evtSet Ev.topUnalignedFire := evtSet_raise s.begin _ wf (by decide)
  have wfU : u.wf = true := wf_raise s.begin _ wf
  obtain ⟨kept, ⟨draining, prepared⟩, -⟩ := prepareNow_idle (s := u) (d := d) (e := e) 0 0 wfU (by rw [epo]; exact idle)
  refine ⟨u.prepareNow d e 0 0, (congrArg done (when_true core)).trans ?_, ?_, ?_, kept.evtSet wfU reported⟩
  · have armed' : (s.begin.epoDom d).armed = some (e, deadline, true) := armed
    unfold State.fire
    dsimp only
    rw [armed']
    refine congrArg Host.Outcome.next ((if_pos ?_).trans (firePrepare_now free' (same ▸ opened) (same ▸ above) (same ▸ clean)))
    exact (Bool.true_and _).trans alone
  · rw [prepared]
    rfl
  · rw [prepared]
    rfl

/-! ### Commit and its end -/

theorem epoDom_toCleanup (bits : Bool) (tab : List Undo) (wf : s.wf = true) : ∃ from_, (s.toCleanup d bits tab).epoDom d =
    { s.epoDom d with cleanup := some ((s.epoDom d).cleanup.getD [] ++ tab), ckptsDone := 0, ckptFrom := from_, bits := bits } := by
  have walked := State.cleanupWalk_ev s d bits tab
  have same : (s.cleanupWalk d bits tab).epoDom d = s.epoDom d := epoDom_congr (evolves_get walked .epo rfl) d
  unfold State.toCleanup
  dsimp only
  rw [epoDom_setEpoDom_same _ _ _ (walked.2 wf), same]
  exact ⟨_, rfl⟩

/-- A commit's effect on the domain's epochs: its prepared table is to be cleaned up. -/
theorem epoDom_commit (wf : s.wf = true) : ((s.commit d).epoDom d).st = .open_ ∧ ((s.commit d).epoDom d).c = (s.epoDom d).e ∧
    ((s.commit d).epoDom d).prepTab = [] ∧ ((s.commit d).epoDom d).cleanup.isSome = true := by
  let x : EpoDom := { s.epoDom d with st := .open_, c := (s.epoDom d).e, e := 0, prepTab := [], rollbackInc := false }
  have set : (s.setEpoDom d x).epoDom d = x := epoDom_setEpoDom_same s d x wf
  obtain ⟨from_, cleaned⟩ := epoDom_toCleanup (s := s.setEpoDom d x) (d := d) true (s.epoDom d).prepTab ((State.setEpoDom_ev ..).2 wf)
  have after : (s.commit d).epoDom d = ((s.setEpoDom d x).toCleanup d true (s.epoDom d).prepTab).epoDom d :=
    epoDom_congr (evolves_get (State.nextCkpt_ev _) .epo rfl) d
  rw [after, cleaned, set]
  exact ⟨rfl, rfl, rfl, rfl⟩

theorem e_of_commitGate (gate : s.commitGate d e = none) : (s.epoDom d).e = e := by
  unfold State.commitGate at gate
  split at gate
  · exact absurd gate (by simp)
  · dsimp only at gate
    split_ifs at gate with st other
    exact (not_not.mp other).symm

theorem exec_epochCommit (wf : s.wf = true) (ready : s.mboxRwReady h) (gate : s.commitGate d e = none) : ∃ t,
    exec (.epochCommit h d e) s = .next t ∧ (t.epoDom d).st = .open_ ∧ (t.epoDom d).c = e ∧ (t.epoDom d).prepTab = [] ∧
      (t.epoDom d).cleanup.isSome = true ∧ t.out.getLast? = some (.mbox h .success []) := by
  obtain ⟨st, c, prep, cleanup⟩ := epoDom_commit (s := s.begin) (d := d) wf
  refine ⟨(s.begin.commit d).answerMbox h .success [], (congrArg done (mailboxRw_ready ready)).trans ?_, st,
    c.trans (e_of_commitGate gate), prep, cleanup, List.getLast?_concat⟩
  have gate' : s.begin.commitGate d e = none := gate
  rw [gate']
  rfl

theorem exec_commitDone (wf : s.wf = true) (core : s.pwr.coreOn = true) (cleaning : (s.epoDom d).cleanup.isSome = true)
    (ended : 2 ≤ (s.epoDom d).ckptsDone) : ∃ t, exec (.commitDone d) s = .next t ∧ (t.epoDom d).cleanup = none ∧
      t.evtSet Ev.epoCommitDone := by
  have run : exec (.commitDone d) s = .next _ := congrArg done (when_true (by simp [core, cleaning, ended]))
  refine ⟨_, run, ?_, evtSet_raiseN _ _ _ _ ((State.setEpoDom_ev ..).2 wf) (by decide)⟩
  rw [epoDom_congr (State.raiseN_epo ..), epoDom_setEpoDom_same s.begin d _ wf]

/-! ### Abort and its end -/

theorem keepsEpoSt_dropDomain (s : State) (d : Nat) : s.keepsEpoSt (s.dropDomain State.failReq d) :=
  keepsEpoSt_dropWhere (fun _ _ => .of_evolves (State.failReq_ev ..)) s _

/-- An Abort that is not for an armed Prepare: the domain is ABORTING, what it has not yet on media is discarded. -/
theorem abort_running (other : (s.epoDom d).armedFor e = false) :
    (s.setEpoDom d { s.epoDom d with st := .aborting, armed := none }).keepsEpoSt (s.abort d e) := by
  unfold State.abort
  dsimp only
  rw [if_neg (by simp [other])]
  exact keepsEpoSt_dropDomain ..

theorem st_abort_running (wf : s.wf = true) (other : (s.epoDom d).armedFor e = false) : ((s.abort d e).epoDom d).st = .aborting := by
  rw [((abort_running other).of_wf ((State.setEpoDom_ev ..).2 wf)).2 d, epoDom_setEpoDom_same s d _ wf]

theorem abort_armed (wf : s.wf = true) (armed : (s.epoDom d).armedFor e = true) : ((s.abort d e).epoDom d).armed = none ∧
    ((s.abort d e).epoDom d).st = (s.epoDom d).st := by
  unfold State.abort
  dsimp only
  rw [if_pos armed, epoDom_setEpoDom_same s d _ wf]
  exact ⟨rfl, rfl⟩

theorem exec_epochAbort (wf : s.wf = true) (ready : s.mboxRwReady h) (gate : s.abortGate d e = none) : ∃ t,
    exec (.epochAbort h d e) s = .next t ∧ ((s.epoDom d).armedFor e = true → (t.epoDom d).armed = none ∧
      (t.epoDom d).st = (s.epoDom d).st) ∧ ((s.epoDom d).armedFor e = false → (t.epoDom d).st = .aborting) ∧
      t.out.getLast? = some (.mbox h .success []) := by
  refine ⟨(s.begin.abort d e).answerMbox h .success [], (congrArg done (mailboxRw_ready ready)).trans ?_,
    abort_armed (s := s.begin) wf, st_abort_running (s := s.begin) wf, List.getLast?_concat⟩
  have gate' : s.begin.abortGate d e = none := gate
  rw [gate']
  rfl

theorem exec_abortDone_empty (bad : List Nat) (wf : s.wf = true) (core : s.pwr.coreOn = true) (aborting : (s.epoDom d).st = .aborting)
    (map : s.map.st = .active) (settled : s.sealedPending d = false) (free : s.haltCovers d = false)
    (noOpen : (s.epoDom d).openTab = []) (noPrep : (s.epoDom d).prepTab = []) : ∃ t, exec (.abortDone d bad) s = .next t ∧
      (t.epoDom d).st = .open_ ∧ (t.epoDom d).e = 0 ∧ (t.epoDom d).c = (s.epoDom d).c ∧ t.evtSet Ev.epoAbortDone := by
  have run : exec (.abortDone d bad) s = .next _ := congrArg done (when_true (by simp [core, aborting, map, settled, free]))
  dsimp only at run
  rw [noOpen, noPrep] at run
  let set := s.begin.setEpoDom d { s.epoDom d with st := .open_, e := 0, openTab := [], prepTab := [] }
  have swept := State.restartSweep_ev set d
  have wfSwept : (set.restartSweep d).wf = true := swept.2 ((State.setEpoDom_ev ..).2 wf)
  have same : (set.restartSweep d).epoDom d = _ :=
    (epoDom_congr (evolves_get swept .epo rfl) d).trans (epoDom_setEpoDom_same s.begin d _ wf)
  refine ⟨(set.restartSweep d).raiseN Ev.epoAbortDone (d * 2 ^ 40) 0, run, ?_⟩
  rw [epoDom_congr (State.raiseN_epo ..), same]
  exact ⟨rfl, rfl, rfl, evtSet_raiseN _ _ _ _ wfSwept (by decide)⟩

/-! ### The status -/

theorem exec_getEpochStatus (ready : s.mboxReady h) (small : d < 256) : ∃ t, exec (.getEpochStatus h d) s = .next t ∧
    t.out = [.mbox h .success [s.midxWord, epoCode (s.epoDom d).st,
      ofBool (s.epoDom d).cleanup.isSome + 2 * ofBool (s.epoDom d).armed.isSome + 4 * ofBool (s.epoDom d).rollbackInc + 8 *
        ofBool ((s.epoDom d).st == .aborting), (s.epoDom d).c, (s.epoDom d).shown, (s.epoDom d).openTab.length,
      (s.epoDom d).other, ((s.epoDom d).armed.map fun a => a.2.1).getD 0]] ∧ s.keeps t [.out] := by
  have armed : (match (s.epoDom d).armed with | some a => a.2.1 | none => 0) = ((s.epoDom d).armed.map fun a => a.2.1).getD 0 := by
    cases (s.epoDom d).armed <;> rfl
  refine ⟨_, congrArg done ((mailbox_ready ready).trans (if_neg (by omega))), ?_, keeps_begin_answerMbox _ _ _ _⟩
  rw [← armed]
  rfl

end Epochs

/-- Settles O13: each epoch command, its completion and its deadline. -/
theorem epochCommands : Obligations.EpochCommands := by
  unfold Obligations.EpochCommands
  exact ⟨fun _ _ _ _ _ wf ready gate idle => exec_epochPrepare_now wf ready gate idle,
    fun _ _ _ _ _ _ wf ready later gate => exec_epochPrepare_armed wf ready later gate,
    fun s h _ _ _ _ r ready gate => ⟨_, exec_epochPrepare_refused ready gate, out_begin_answerMbox s h r [],
      keeps_begin_answerMbox s h r []⟩,
    fun _ _ wf core preparing flowing settled clean free => exec_prepareDone wf core preparing flowing settled clean free,
    fun _ _ _ _ wf ready gate => exec_epochCommit wf ready gate,
    fun _ _ wf core cleaning ended => exec_commitDone wf core cleaning ended,
    fun _ _ _ _ wf ready gate => exec_epochAbort wf ready gate,
    fun _ _ bad wf core aborting map settled free noOpen noPrep =>
      exec_abortDone_empty bad wf core aborting map settled free noOpen noPrep,
    fun _ _ _ ready small => exec_getEpochStatus ready small,
    fun _ _ _ _ _ wf core armed due free opened above clean idle =>
      exec_deadlineFire_prepare wf core armed due free opened above clean idle,
    fun _ _ _ _ wf core armed alone free opened above clean idle =>
      exec_unalignedFire_prepare wf core armed alone free opened above clean idle⟩

end Sys2Proof.Machine

/-!
PROOF. The obligation about epoch control (R410, R411, R417, R424 to R430, R437): the doorbell, and enabling and disabling the
epochs of a domain.
-/
namespace Sys2Proof.Machine
set_option Elab.async false

section EpochControl

variable {s : State} {h d e : Nat}

/-! ### The doorbell -/

/-- The doorbell's registers as an accepted write leaves them before its effect. -/
def State.dbTaken (s : State) (d op : Nat) : State := { s with epo := { s.epo with dbDom := d, dbOp := op, dbResult := 0 } }

theorem doorbell_accepted (op : Nat) (k : State → State) (idle : s.epo.dbBusy = false) : s.doorbell d op none k = k (s.dbTaken d op) := by
  unfold State.doorbell
  rw [if_neg (Bool.eq_false_iff.mp idle)]
  rfl

theorem wf_dbTaken (op : Nat) (wf : s.wf = true) : (s.dbTaken d op).wf = true :=
  (ev_epo (u := s) (L := [.epo]) ev_refl rfl EpoState.wf_upd).2 wf

theorem exec_doorbellPrepare_now (wf : s.wf = true) (ready : s.barReady h) (free : s.epo.dbBusy = false)
    (now : s.fld F.epoDbDeadlineDevtime = 0) (gate : s.prepareGate d e 0 (s.fld F.epoDbDeadlinePps == 1) = none)
    (idle : (s.epo.epochWait.any fun r => r.dom == d) = false) : ∃ t, exec (.doorbellPrepare h d e) s = .next t ∧
      t.epo.dbBusy = true ∧ t.epo.dbDom = d ∧ (t.epoDom d).st = .preparing ∧ (t.epoDom d).e = e := by
  let taken := s.begin.dbTaken d 1
  let busy : State := { taken with epo := { taken.epo with dbBusy := true } }
  have busyWf : busy.wf = true := (ev_epo (u := taken) (L := [.epo]) ev_refl rfl EpoState.wf_upd).2 (wf_dbTaken (s := s.begin) 1 wf)
  obtain ⟨-, ⟨draining, prepared⟩, doms, waits, epo⟩ := prepareNow_idle (s := busy) (d := d) (e := e) 2 0 busyWf idle
  have gate' : s.begin.prepareGate d e 0 (s.begin.fld F.epoDbDeadlinePps == 1) = none := gate
  have now' : s.begin.fld F.epoDbDeadlineDevtime = 0 := now
  have run : exec (.doorbellPrepare h d e) s = .next (busy.prepareNow d e 2 0) := by
    refine (congrArg done (barWrite_ready ready)).trans ?_
    dsimp only
    rw [now', gate', doorbell_accepted 1 _ (s := s.begin) free]
    rfl
  refine ⟨_, run, by rw [epo], by rw [epo]; rfl, ?_⟩
  rw [prepared]
  exact ⟨rfl, rfl⟩

/-- A commit leaves the doorbell's registers. -/
theorem epo_commit (s : State) (d : Nat) : (s.commit d).epo.dbResult = s.epo.dbResult ∧ (s.commit d).epo.dbOp = s.epo.dbOp := by
  unfold State.commit
  extract_lets +onlyGivenNames x set
  have same : set.epo.dbResult = s.epo.dbResult ∧ set.epo.dbOp = s.epo.dbOp := ⟨rfl, rfl⟩
  clear_value set
  have last : ((set.toCleanup d true x.prepTab).nextCkpt).epo = (set.toCleanup d true x.prepTab).epo :=
    evolves_get (State.nextCkpt_ev _) .epo rfl
  have walked : (set.cleanupWalk d true x.prepTab).epo = set.epo := evolves_get (State.cleanupWalk_ev ..) .epo rfl
  rw [last]
  exact ⟨(congrArg EpoState.dbResult walked).trans same.1, (congrArg EpoState.dbOp walked).trans same.2⟩

theorem exec_doorbellCommit (wf : s.wf = true) (ready : s.barReady h) (free : s.epo.dbBusy = false) (gate : s.commitGate d e = none) :
    ∃ t, exec (.doorbellCommit h d e) s = .next t ∧ (t.epoDom d).st = .open_ ∧ (t.epoDom d).c = e ∧ t.epo.dbResult = 0 ∧
      t.epo.dbOp = 2 := by
  let taken := s.begin.dbTaken d 2
  obtain ⟨st, c, -⟩ := epoDom_commit (s := taken) (d := d) (wf_dbTaken (s := s.begin) 2 wf)
  obtain ⟨result, op⟩ := epo_commit taken d
  refine ⟨taken.commit d, (congrArg done (barWrite_ready ready)).trans ?_, st, c.trans (e_of_commitGate gate), result, op⟩
  have gate' : s.begin.commitGate d e = none := gate
  rw [gate', doorbell_accepted 2 _ (s := s.begin) free]
  rfl

theorem exec_doorbellAbort (wf : s.wf = true) (ready : s.barReady h) (free : s.epo.dbBusy = false) (gate : s.abortGate d e = none)
    (unarmed : (s.epoDom d).armed = none) : ∃ t, exec (.doorbellAbort h d e) s = .next t ∧ (t.epoDom d).st = .aborting ∧
      t.epo.dbResult = 0 ∧ t.epo.dbOp = 3 := by
  let taken := s.begin.dbTaken d 3
  have other : (taken.epoDom d).armedFor e = false := by
    have same : (taken.epoDom d).armed = none := unarmed
    unfold EpoDom.armedFor
    rw [same]
  have kept := abort_running other
  refine ⟨taken.abort d e, (congrArg done (barWrite_ready ready)).trans ?_, st_abort_running (wf_dbTaken (s := s.begin) 3 wf) other,
    kept.dbResult, kept.dbOp⟩
  have gate' : s.begin.abortGate d e = none := gate
  rw [gate', doorbell_accepted 3 _ (s := s.begin) free]
  rfl

theorem exec_doorbellCommit_refused {r : Rc} (ready : s.barReady h) (free : s.epo.dbBusy = false) (gate : s.commitGate d e = some r) :
    ∃ t, exec (.doorbellCommit h d e) s = .next t ∧ t.epo.dbResult = r.code ∧ t.epo.doms = s.epo.doms ∧ s.keeps t [.epo, .out] := by
  have run : exec (.doorbellCommit h d e) s = .next { s.begin with epo := { s.epo with dbDom := d, dbOp := 2, dbResult := r.code } } := by
    refine (congrArg done (barWrite_ready ready)).trans ?_
    have gate' : s.begin.commitGate d e = some r := gate
    rw [gate', doorbell_refused (s := s.begin) d 2 r _ free]
    rfl
  exact ⟨_, run, rfl, rfl, (ev_epo (ev_step ev_refl (State.begin_ev s) rfl) rfl EpoState.wf_upd).1⟩

theorem exec_doorbellCommit_busy (wf : s.wf = true) (ready : s.barReady h) (busy : s.epo.dbBusy = true) : ∃ t,
    exec (.doorbellCommit h d e) s = .next t ∧ t.epo = s.epo ∧ t.evtSet Ev.epoRefused :=
  ⟨_, congrArg done ((barWrite_ready ready).trans (if_pos busy)), State.raiseN_epo .., evtSet_raiseN s.begin _ _ _ wf (by decide)⟩

/-! ### Enabling and disabling -/

theorem exec_epochEnableWrite {a b : Nat} (wf : s.wf = true) (ready : s.barReady h) (small : d < 256)
    (off : (s.dom d).epochEn = false) (noWindow : s.swt.st = .none) (clean : (s.epoDom d).cleanup = none)
    (room : s.undoAlloc d = some (a, b)) : ∃ t, exec (.epochEnableWrite h d) s = .next t ∧ (t.dom d).epochEn = true ∧
      (t.epoDom d).st = .enabling ∧ (t.epoDom d).tbl0 = a ∧ (t.epoDom d).tbl1 = b ∧ s.keeps t [.cry, .epo, .out] := by
  have run : exec (.epochEnableWrite h d) s = .next _ := congrArg done (barWrite_ready ready)
  dsimp only at run
  have off' : (s.begin.dom d).epochEn = false := off
  have clean' : (s.begin.epoDom d).cleanup = none := clean
  have room' : s.begin.undoAlloc d = some (a, b) := room
  rw [if_neg (by simp [off', small]), if_neg (by simp [clean', noWindow]), room'] at run
  let enabled := s.begin.setDom d { s.dom d with epochEn := true }
  have enabledEv : s.begin.evolves enabled [.cry] := State.setDom_ev ..
  have there := dom_setDom_same s.begin d { s.dom d with epochEn := true } wf
  let x : EpoDom := { s.epoDom d with
    st := .enabling, c := 0, e := 0, phase := 0, openTab := [], prepTab := [], armed := none, rollbackInc := false, tbl0 := a, tbl1 := b }
  have same : (enabled.setEpoDom d x).epoDom d = x := epoDom_setEpoDom_same enabled d x (enabledEv.2 wf)
  refine ⟨enabled.setEpoDom d x, run, congrArg Dom.epochEn there, congrArg EpoDom.st same, congrArg EpoDom.tbl0 same,
    congrArg EpoDom.tbl1 same, ?_⟩
  exact (ev_step (ev_step (ev_step (ev_refl (L := [.cry, .epo, .out])) (State.begin_ev s) rfl) enabledEv rfl) (State.setEpoDom_ev ..) rfl).1

theorem exec_epochDisableWrite (wf : s.wf = true) (ready : s.barReady h) (small : d < 256)
    (on : (s.dom d).epochEn = true) (opened : (s.epoDom d).st = .open_) (clean : (s.epoDom d).cleanup = none) : ∃ t,
      exec (.epochDisableWrite h d) s = .next t ∧ (t.dom d).epochEn = false ∧ (t.epoDom d).st = .disabled ∧
      (t.epoDom d).cleanup.isSome = true := by
  have run : exec (.epochDisableWrite h d) s = .next _ := congrArg done (barWrite_ready ready)
  dsimp only at run
  have on' : (s.begin.dom d).epochEn = true := on
  have opened' : (s.begin.epoDom d).st = .open_ := opened
  have clean' : (s.begin.epoDom d).cleanup = none := clean
  rw [if_neg (by simp [on', small]), if_neg (by simp [clean', opened'])] at run
  let disabled := s.begin.setDom d { s.dom d with epochEn := false }
  have disabledEv : s.begin.evolves disabled [.cry] := State.setDom_ev ..
  have there := dom_setDom_same s.begin d { s.dom d with epochEn := false } wf
  let x : EpoDom := { s.epoDom d with st := .disabled, openTab := [], armed := none, rollbackInc := false }
  let closed := disabled.setEpoDom d x
  have closedEv : disabled.evolves closed [.epo] := State.setEpoDom_ev ..
  have same : closed.epoDom d = x := epoDom_setEpoDom_same disabled d x (disabledEv.2 wf)
  obtain ⟨from_, cleaned⟩ := epoDom_toCleanup (s := closed) (d := d) true (s.epoDom d).openTab (closedEv.2 (disabledEv.2 wf))
  have lastEv := State.nextCkpt_ev (closed.toCleanup d true (s.epoDom d).openTab)
  have cry : (closed.toCleanup d true (s.epoDom d).openTab).nextCkpt.cry = disabled.cry :=
    (evolves_get lastEv .cry rfl).trans ((evolves_get (State.toCleanup_ev ..) .cry rfl).trans (evolves_get closedEv .cry rfl))
  have epo := (epoDom_congr (evolves_get lastEv .epo rfl) d).trans cleaned
  rw [same] at epo
  exact ⟨(closed.toCleanup d true (s.epoDom d).openTab).nextCkpt, run, congrArg Dom.epochEn ((dom_congr cry d).trans there),
    congrArg EpoDom.st epo, congrArg (fun y => y.cleanup.isSome) epo⟩

theorem exec_epochEnabled (wf : s.wf = true) (core : s.pwr.coreOn = true) (enabling : (s.epoDom d).st = .enabling)
    (map : s.map.st = .active) (clean : s.tagsDirty d = false) : ∃ t, exec (.epochEnabled d) s = .next t ∧
      (t.epoDom d).st = .open_ ∧ (t.epoDom d).c = 0 ∧ s.keeps t [.epo, .out] := by
  let x : EpoDom := { s.epoDom d with st := .open_, c := 0 }
  have same : (s.begin.setEpoDom d x).epoDom d = x := epoDom_setEpoDom_same s.begin d x wf
  refine ⟨s.begin.setEpoDom d x, congrArg done (when_true (by simp [core, enabling, map, clean])), congrArg EpoDom.st same,
    congrArg EpoDom.c same, ?_⟩
  exact (ev_step (ev_step (ev_refl (L := [.epo, .out])) (State.begin_ev s) rfl) (State.setEpoDom_ev ..) rfl).1

end EpochControl

/-- Settles O14: each doorbell write, and the enabling and disabling of epochs. -/
theorem epochControlCommands : Obligations.EpochControlCommands := by
  unfold Obligations.EpochControlCommands
  exact ⟨fun _ _ _ _ wf ready free now gate idle => exec_doorbellPrepare_now wf ready free now gate idle,
    fun _ _ _ _ wf ready free gate => exec_doorbellCommit wf ready free gate,
    fun _ _ _ _ wf ready free gate unarmed => exec_doorbellAbort wf ready free gate unarmed,
    fun _ _ _ _ _ ready free gate => exec_doorbellCommit_refused ready free gate,
    fun _ _ _ _ wf ready busy => exec_doorbellCommit_busy wf ready busy,
    fun _ _ _ _ _ wf ready small off noWindow clean room => exec_epochEnableWrite wf ready small off noWindow clean room,
    fun _ _ _ wf ready small on opened clean => exec_epochDisableWrite wf ready small on opened clean,
    fun _ _ wf core enabling map clean => exec_epochEnabled wf core enabling map clean,
    fun s _ ready => ⟨s.begin, congrArg done (barWrite_ready ready), rfl, (State.begin_ev s).1⟩⟩

end Sys2Proof.Machine

/-!
PROOF. The obligation about domain keys (R372, R373, R378, R389 to R399, R406): key messages, generations and the rekey sweep.
-/
namespace Sys2Proof.Machine
set_option Elab.async false

section DomainKeys

variable {s : State} {h d : Nat}

/-! ### Key messages and the key vault -/

theorem keyMessage_ready {session : Nat} {x : Session} (op : Nat) (k : State → State) (found : s.session session = some x)
    (admin : x.keyAdmin = true) (up : s.portUp x.port = true) (running : s.fwu.paused = false) :
    s.keyMessage session op k = k s.begin := by
  have up' : s.begin.portUp x.port = true := up
  unfold State.keyMessage State.spdm
  rw [found]
  dsimp only
  rw [if_neg (by simp [up']), if_neg (by simp [running]), if_pos admin]

theorem doms_kvPush (s : State) (o : KvOp) : (s.kvPush o).cry.doms = s.cry.doms := by
  unfold State.kvPush
  split
  next u w drawn =>
    have cry : u.cry = s.cry := evolves_get (ev_fst (State.draw_ev s) drawn) .cry rfl
    rw [State.count_cry, State.bump_cry, cry]

theorem dom_kvPush (s : State) (o : KvOp) (d : Nat) : (s.kvPush o).dom d = s.dom d :=
  congrArg (fun doms => Tab.get (fun _ => Dom.fresh) doms d) (doms_kvPush s o)

theorem keepsEvents_kvPush (s : State) (o : KvOp) : s.keepsEvents (s.kvPush o) := by
  unfold State.kvPush
  split
  next u w drawn =>
    have first : s.keepsEvents u := .of_evolves (ev_fst (State.draw_ev s) drawn)
    refine ((first.trans ?_).trans (keepsEvents_bump _ (by decide) _)).trans (keepsEvents_count ..)
    exact .of_evolves (ev_cry (u := u) (L := [.cry]) ev_refl rfl CryState.wf_upd)

theorem bestCell_of_ntn {t : State} (same : t.ntn = s.ntn) (c n : Nat) : t.bestCell c n = s.bestCell c n :=
  bestCell_congr c n fun j _ => by unfold State.cell; rw [same]

theorem cellGood_of_ntn {t : State} (same : t.ntn = s.ntn) (c j : Nat) : t.cellGood c j = s.cellGood c j := by
  unfold State.cellGood
  rw [same]

/-- The wrap counter can count: below its limit, with its next cell good. -/
def State.wrapCounts (s : State) : Prop :=
  ∃ j v, s.bestCell 5 16 = some (j, v) ∧ v + 1 < 2 ^ 56 ∧ s.cellGood 5 ((j + 1) % 16) = true

theorem State.wrapCounts.of_ntn {t : State} (counts : s.wrapCounts) (same : t.ntn = s.ntn) : t.wrapCounts := by
  obtain ⟨j, v, best, room, good⟩ := counts
  exact ⟨j, v, (bestCell_of_ntn same 5 16).trans best, room, (cellGood_of_ntn same 5 _).trans good⟩

theorem wrapTick_counts (counts : s.wrapCounts) : s.wrapTick = (s.wrapTick.1, true) := by
  obtain ⟨j, v, best, room, good⟩ := counts
  have inc := ctrInc_ok s 5 1 j v (by decide) best (show v + 1 ≤ ctrLimit 5 by change v + 1 ≤ 2 ^ 56 - 1; omega) good
  unfold State.wrapTick
  rw [inc]

theorem doms_reseed (s : State) : s.reseed.cry.doms = s.cry.doms :=
  (congrArg CryState.doms (State.bump_cry ..)).trans rfl

theorem doms_genKey (s : State) (d : Nat) : (s.genKey d).1.cry.doms = s.cry.doms :=
  (congrArg CryState.doms (State.bump_cry ..)).trans rfl

/-! ### Loading a key -/

/-- The domain with a key current as generation 0, its sequence going on from the saved mark. -/
def Dom.loaded (x : Dom) (k : KeySlot) : Dom :=
  { x with gen0 := some k, gen1 := none, cur := 0, st := .active, seq := x.mark, batches := [], sweep := .idle, due := false }

theorem loadKey_counts (key : BitVec 256) (src : Nat) (wf : s.wf = true) (counts : s.wrapCounts) : ∃ u k,
    s.loadKey d false key src = (u, true) ∧ u.dom d = (s.dom d).loaded k ∧ k.key = key ∧ k.src = src ∧ u.out = s.out ∧
      u.evtSet Ev.cryKeyLoaded := by
  have tickEv := ev_fst1 (State.wrapTick_ev s)
  have tick := wrapTick_counts counts
  generalize s.wrapTick.1 = t at tick tickEv
  have pushEv := State.kvPush_ev t (.wrap (3 * d + 0))
  have pushed : (t.kvPush (.wrap (3 * d + 0))).dom d = s.dom d :=
    (dom_kvPush t _ d).trans (dom_congr (evolves_get tickEv .cry rfl) d)
  have shown : (t.kvPush (.wrap (3 * d + 0))).out = s.out := (evolves_get pushEv .out rfl).trans (evolves_get tickEv .out rfl)
  have pushedWf : (t.kvPush (.wrap (3 * d + 0))).wf = true := pushEv.2 (tickEv.2 wf)
  unfold State.loadKey
  rw [tick]
  dsimp only
  rw [if_neg Bool.false_ne_true]
  generalize t.kvPush (.wrap (3 * d + 0)) = u at *
  refine ⟨_, u.keySlot key src 1, rfl, ?_, rfl, rfl, (State.raiseN_out ..).trans shown,
    evtSet_raiseN _ _ _ _ ((State.setDom_ev ..).2 pushedWf) (by decide)⟩
  rw [dom_congr (State.raiseN_cry ..), if_neg Bool.false_ne_true, dom_setDom_same u d _ pushedWf, pushed]
  rfl

theorem exec_setDomainKey {session : Nat} {key : BitVec 256} {x : Session} (wf : s.wf = true) (found : s.session session = some x)
    (admin : x.keyAdmin = true) (up : s.portUp x.port = true) (running : s.fwu.paused = false) (small : d < 256)
    (free : s.haltCovers d = false) (slot : s.slotFree d false = true) (new : (s.dom d).hasId (keyIdOf key) = false)
    (counts : s.wrapCounts) : ∃ t, exec (.setDomainKey session d false key) s = .next t ∧ (t.dom d).st = .active ∧
      (t.dom d).cur = 0 ∧ ((t.dom d).gen0.map fun k => k.key) = some key ∧ (t.dom d).seq = (s.dom d).mark ∧
      t.evtSet Ev.cryKeyLoaded ∧ t.out = [.answer 0x81 0 [(keyIdOf key).toNat]] := by
  obtain ⟨u, k, loads, dom, named, -, shown, reported⟩ := loadKey_counts (s := s.begin) (d := d) key 1 wf counts
  have dom' : (u.keyAnswer 1 0 [(keyIdOf key).toNat]).dom d = (s.dom d).loaded k := dom
  refine ⟨u.keyAnswer 1 0 [(keyIdOf key).toNat], (congrArg done (keyMessage_ready 1 _ found admin up running)).trans ?_, ?_⟩
  · have free' : s.begin.haltCovers d = false := free
    have slot' : s.begin.slotFree d false = true := slot
    have new' : (s.begin.dom d).hasId (keyIdOf key) = false := new
    rw [if_neg (by omega), if_neg (by simp [free', slot']), if_neg (by simp [new']), loads]
    rfl
  · rw [dom']
    exact ⟨rfl, rfl, congrArg some named, rfl, reported, congrArg (· ++ [_]) shown⟩

theorem exec_generateDomainKey (wf : s.wf = true) (ready : s.mboxRwReady h) (small : d < 256) (free : s.haltCovers d = false)
    (assigned : s.fld F.topMidxAssigned = 1) (random : s.cry.drbg ≠ .failed) (slot : s.slotFree d false = true)
    (gen0 : (s.dom d).gen0 = none) (gen1 : (s.dom d).gen1 = none) (next : (s.dom d).next = none) (counts : s.wrapCounts) : ∃ t,
      exec (.generateDomainKey h d false) s = .next t ∧ (t.dom d).st = .active ∧ (t.dom d).cur = 0 ∧
      ((t.dom d).gen0.map fun k => k.src) = some 2 ∧ t.evtSet Ev.cryKeyLoaded := by
  have run : exec (.generateDomainKey h d false) s = .next _ := congrArg done (mailboxRw_ready ready)
  have free' : s.begin.haltCovers d = false := free
  have assigned' : s.begin.fld F.topMidxAssigned = 1 := assigned
  have slot' : s.begin.slotFree d false = true := slot
  rw [if_neg (by omega), if_neg (by simp [free']), if_neg (by simp [assigned', random]), if_neg (by simp [slot'])] at run
  have genEv : s.begin.evolves ((s.begin.reseed.kvPush (.kdf (3 * d))).genKey d).1 [.regs, .pmc, .evt, .host, .cry, .freeCtr] :=
    ev_step (ev_step (ev_step ev_refl (State.reseed_ev _) rfl) (State.kvPush_ev ..) rfl) (State.genKey_ev ..) rfl
  have dom : (((s.begin.reseed.kvPush (.kdf (3 * d))).genKey d).1).dom d = s.dom d := by
    have doms : ((s.begin.reseed.kvPush (.kdf (3 * d))).genKey d).1.cry.doms = s.cry.doms :=
      (doms_genKey ..).trans ((doms_kvPush ..).trans (doms_reseed ..))
    exact congrArg (fun doms => Tab.get (fun _ => Dom.fresh) doms d) doms
  rw [show (s.begin.reseed.kvPush (.kdf (3 * d))).genKey d = (((s.begin.reseed.kvPush (.kdf (3 * d))).genKey d).1,
    ((s.begin.reseed.kvPush (.kdf (3 * d))).genKey d).2) from rfl] at run
  generalize ((s.begin.reseed.kvPush (.kdf (3 * d))).genKey d).1 = t at *
  generalize ((s.begin.reseed.kvPush (.kdf (3 * d))).genKey d).2 = key at *
  have fresh : (t.dom d).hasId (keyIdOf key) = false := by simp [dom, Dom.hasId, gen0, gen1, next]
  obtain ⟨u, k, loads, loaded, -, source, -, reported⟩ := loadKey_counts (s := t) (d := d) key 2 (genEv.2 wf)
    (counts.of_ntn (evolves_get genEv .ntn rfl))
  dsimp only at run
  rw [if_neg (by simp [fresh]), loads] at run
  have loaded' : (u.answerMbox h .success [(keyIdOf key).toNat]).dom d = (t.dom d).loaded k := loaded
  refine ⟨_, run, ?_⟩
  dsimp only
  rw [loaded']
  exact ⟨rfl, rfl, congrArg some source, reported⟩

/-! ### Destroying a key -/

theorem dom_zeroWindow (s : State) (d j : Nat) : (s.zeroWindow d).dom j = s.dom j :=
  dom_congr (evolves_get (State.zeroWindow_ev s d) .cry rfl) j

theorem destroyKey_spec {ans : State → Req → State} (wf : s.wf = true) (answers : ∀ (t : State) (r : Req), t.keepsEpoSt (ans t r)) :
    (∃ x : Dom, (s.destroyKey ans d).dom d = x.erased) ∧ (s.destroyKey ans d).evtSet Ev.cryKeyDestroyed := by
  unfold State.destroyKey
  extract_lets +onlyGivenNames t u
  have dropped : (s.dropDomain ans d).wf = true := ((keepsEpoSt_dropWhere answers s _).of_wf wf).1
  have tWf : t.wf = true := (State.discardEpoch_ev ..).2 dropped
  clear_value t
  have setWf : (t.setDom d (t.dom d).erased).wf = true := (State.setDom_ev ..).2 tWf
  have uWf : u.wf = true := (State.zeroWindow_ev ..).2 ((State.closeHalts_ev ..).2 setWf)
  refine ⟨⟨t.dom d, ?_⟩, evtSet_raiseN _ _ _ _ uWf (by decide)⟩
  rw [dom_congr (State.raiseN_cry ..), dom_zeroWindow]
  exact dom_setDom_same t d _ tWf

/-- The extent of a domain without keys is to be unmapped in the background. -/
def State.unmapDestroyed (s : State) (d : Nat) : State :=
  if (s.dom d).count = 0 then s
  else { s with map := { s.map with unmap := s.map.unmap ++ [((s.dom d).base * 2 ^ 22, (s.dom d).count * 2 ^ 22, .destroy d)] } }

theorem unmapDestroyed_evolves (s : State) (d : Nat) : s.evolves (s.unmapDestroyed d) [.map] :=
  ev_ite ev_refl (ev_map ev_refl rfl MapState.wf_upd)

theorem exec_destroyDomainKey_eq {session : Nat} {x : Session} (found : s.session session = some x)
    (admin : x.keyAdmin = true) (up : s.portUp x.port = true) (running : s.fwu.paused = false) (small : d < 256) :
    exec (.destroyDomainKey session d) s = .next (((s.begin.destroyKey State.zeroReq d).unmapDestroyed d).keyAnswer 2 0 []) :=
  congrArg done ((keyMessage_ready 2 _ found admin up running).trans (if_neg (by omega)))

theorem unmapDestroyed_spec (wf : s.wf = true) :
    (∃ y : Dom, ((s.begin.destroyKey State.zeroReq d).unmapDestroyed d).dom d = y.erased) ∧
      ((s.begin.destroyKey State.zeroReq d).unmapDestroyed d).evtSet Ev.cryKeyDestroyed := by
  obtain ⟨⟨y, erased⟩, reported⟩ := destroyKey_spec (s := s.begin) (d := d) (ans := State.zeroReq) wf
    fun _ _ => .of_evolves (State.zeroReq_ev ..)
  have unmapped := unmapDestroyed_evolves (s.begin.destroyKey State.zeroReq d) d
  exact ⟨⟨y, (dom_congr (evolves_get unmapped .cry rfl) d).trans erased⟩,
    (evtSet_of_reg (reg_evolves unmapped rfl rfl _)).mpr reported⟩

theorem keyAnswer_destroyed {y : Dom} (erased : s.dom d = y.erased) (reported : s.evtSet Ev.cryKeyDestroyed) :
    ((s.keyAnswer 2 0 []).dom d).st = .empty ∧ ((s.keyAnswer 2 0 []).dom d).gen0 = none ∧ ((s.keyAnswer 2 0 []).dom d).gen1 = none ∧
      ((s.keyAnswer 2 0 []).dom d).next = none ∧ (s.keyAnswer 2 0 []).evtSet Ev.cryKeyDestroyed ∧
      (s.keyAnswer 2 0 []).out.getLast? = some (.answer 0x82 0 []) := by
  have dom : (s.keyAnswer 2 0 []).dom d = y.erased := erased
  rw [dom]
  exact ⟨rfl, rfl, rfl, rfl, reported, List.getLast?_concat⟩

theorem exec_destroyDomainKey {session : Nat} {x : Session} (wf : s.wf = true) (found : s.session session = some x)
    (admin : x.keyAdmin = true) (up : s.portUp x.port = true) (running : s.fwu.paused = false) (small : d < 256) : ∃ t,
      exec (.destroyDomainKey session d) s = .next t ∧ (t.dom d).st = .empty ∧ (t.dom d).gen0 = none ∧ (t.dom d).gen1 = none ∧
      (t.dom d).next = none ∧ t.evtSet Ev.cryKeyDestroyed ∧ t.out.getLast? = some (.answer 0x82 0 []) := by
  obtain ⟨⟨y, erased⟩, reported⟩ := unmapDestroyed_spec (d := d) wf
  exact ⟨_, exec_destroyDomainKey_eq found admin up running small, keyAnswer_destroyed erased reported⟩

/-! ### Generations -/

/-- A generation switch to a staged key. -/
theorem genSwitch_staged {k : KeySlot} (wf : s.wf = true) (staged : (s.dom d).next = some k) (counts : s.wrapCounts) :
    ((s.genSwitch d).dom d).st = .rekeying ∧ ((s.genSwitch d).dom d).cur = 1 - (s.dom d).cur ∧
      ((s.genSwitch d).dom d).genCount = (s.dom d).genCount + 1 ∧ ((s.genSwitch d).dom d).sweep = .waiting ∧
      (s.genSwitch d).evtSet Ev.cryRekeyStart := by
  have tickEv := ev_fst1 (State.wrapTick_ev s)
  have tick := wrapTick_counts counts
  have may : s.noSwitchKey d = false := by simp [State.noSwitchKey, staged]
  generalize s.wrapTick.1 = t at tick tickEv
  have dom : t.dom d = s.dom d := dom_congr (evolves_get tickEv .cry rfl) d
  have staged' : (t.dom d).next = some k := by rw [dom, staged]
  have key : t.nextKey d = (t, some (k.key, k.src)) := by
    unfold State.nextKey
    dsimp only
    rw [staged']
  have agedEv := State.agedUndo_ev t d
  have tWf := tickEv.2 wf
  unfold State.genSwitch
  rw [if_neg (by simp [may]), tick]
  dsimp only
  rw [key]
  dsimp only
  generalize t.agedUndo d = u at *
  refine ⟨?_, ?_, ?_, ?_, evtSet_raiseN _ _ _ _ ((State.setDom_ev ..).2 (agedEv.2 tWf)) (by decide)⟩ <;>
    rw [dom_congr (State.raiseN_cry ..), dom_setDom_same u d _ (agedEv.2 tWf)] <;> dsimp only <;> rw [dom]

theorem exec_startRekey {session : Nat} {x : Session} {k : KeySlot} (wf : s.wf = true) (found : s.session session = some x)
    (admin : x.keyAdmin = true) (up : s.portUp x.port = true) (running : s.fwu.paused = false) (small : d < 256)
    (free : s.haltCovers d = false) (active : (s.dom d).st = .active) (staged : (s.dom d).next = some k) (counts : s.wrapCounts) :
    ∃ t, exec (.startRekey session d) s = .next t ∧ (t.dom d).st = .rekeying ∧ (t.dom d).cur = 1 - (s.dom d).cur ∧
      (t.dom d).genCount = (s.dom d).genCount + 1 ∧ (t.dom d).sweep = .waiting ∧ t.evtSet Ev.cryRekeyStart ∧
      t.out = [.answer 0x83 0 []] := by
  obtain ⟨st, cur, count, sweep, reported⟩ := genSwitch_staged (s := s.begin) (d := d) wf staged counts
  have switchEv := State.genSwitch_ev s.begin d
  have out : (s.begin.genSwitch d).out = [] := evolves_get switchEv .out rfl
  have may : s.begin.noSwitchKey d = false := by
    have staged' : (s.begin.dom d).next = some k := staged
    simp [State.noSwitchKey, staged']
  have free' : s.begin.haltCovers d = false := free
  have active' : (s.begin.dom d).st = .active := active
  have run : exec (.startRekey session d) s = .next _ := congrArg done (keyMessage_ready 3 _ found admin up running)
  rw [if_neg (by omega), if_neg (by simp [free']), active'] at run
  dsimp only at run
  rw [if_neg (by simp [may]), if_pos st] at run
  have wfSwitched := switchEv.2 wf
  generalize s.begin.genSwitch d = t at *
  have dom := dom_kvPush t (.wrap (3 * d + (t.dom d).cur)) d
  refine ⟨_, run, (congrArg Dom.st dom).trans st, (congrArg Dom.cur dom).trans cur, (congrArg Dom.genCount dom).trans count,
    (congrArg Dom.sweep dom).trans sweep, (keepsEvents_kvPush ..).evtSet wfSwitched reported, ?_⟩
  exact congrArg (· ++ [_]) ((evolves_get (State.kvPush_ev ..) .out rfl).trans out)

theorem exec_getKeyInfo {session : Nat} {x : Session} (found : s.session session = some x) (admin : x.keyAdmin = true)
    (up : s.portUp x.port = true) (running : s.fwu.paused = false) (small : d < 256) : ∃ t, exec (.getKeyInfo session d) s = .next t ∧
      t.out = [.answer 0x84 0 [keyCode (s.dom d).st, (s.dom d).cur, slotId (s.dom d).gen0, slotId (s.dom d).gen1,
        slotId (s.dom d).next, (s.dom d).genCount]] ∧ s.keeps t [.out] :=
  ⟨_, congrArg done ((keyMessage_ready 4 _ found admin up running).trans (if_neg (by omega))), rfl, keeps_begin_emit _ _⟩

/-! ### The sweep -/

theorem exec_rekeySweepStart (wf : s.wf = true) (core : s.pwr.coreOn = true) (rekeying : (s.dom d).st = .rekeying)
    (waiting : (s.dom d).sweep = .waiting) (map : s.map.st = .active)
    (alone : (s.cry.doms.any fun p => decide (p.2.sweep = .running)) = false) (free : s.haltCovers d = false)
    (settled : s.oldStaged d = false) : ∃ t, exec (.rekeySweepStart d) s = .next t ∧ (t.dom d).sweep = .running ∧
      s.keeps t [.cry, .out] := by
  have same (x : Dom) : (s.begin.setDom d x).dom d = x := dom_setDom_same s.begin d x wf
  refine ⟨_, congrArg done (when_true ?_), congrArg Dom.sweep (same _), ?_⟩
  · simp only [core, rekeying, waiting, map, alone, free, settled, and_self, decide_true, Bool.not_false, Bool.and_self]
  · exact (ev_step (ev_step (ev_refl (L := [.cry, .out])) (State.begin_ev s) rfl) (State.setDom_ev ..) rfl).1

theorem exec_rekeySweepDone (wf : s.wf = true) (core : s.pwr.coreOn = true) (sweeping : (s.dom d).sweep = .running)
    (last : s.sweepNext d = none) (settled : s.sweepStaged d = false) (noQuar : s.flt.quar = []) (noWindow : s.swt.st = .none) :
    ∃ t, exec (.rekeySweepDone d) s = .next t ∧ (t.dom d).sweep = .idle ∧
      (t.dom d).pos = ((s.dom d).base + (s.dom d).count) * 2 ^ 22 ∧ (t.dom d).st = (s.dom d).st := by
  have run : exec (.rekeySweepDone d) s = .next _ := congrArg done (when_true (by simp [core, sweeping, last, settled]))
  rw [State.begin_flt, noQuar] at run
  dsimp only [State.requarantineAll] at run
  rw [if_neg (fun both => both.1 noWindow)] at run
  have same (x : Dom) : (({ s.begin with flt := { s.begin.flt with quar := [] } } : State).setDom d x).dom d = x :=
    dom_setDom_same _ d x wf
  exact ⟨_, run, (congrArg Dom.sweep (same _)).trans rfl, (congrArg Dom.pos (same _)).trans rfl, (congrArg Dom.st (same _)).trans rfl⟩

theorem gen_setGen (x : Dom) (small : x.cur ≤ 1) : (x.setGen (1 - x.cur) none).gen (1 - x.cur) = none ∧
    (x.setGen (1 - x.cur) none).gen x.cur = x.gen x.cur := by
  obtain cur | cur : x.cur = 0 ∨ x.cur = 1 := by omega
  all_goals simp [Dom.setGen, Dom.gen, cur]

theorem exec_oldGenerationZeroize (wf : s.wf = true) (core : s.pwr.coreOn = true) (rekeying : (s.dom d).st = .rekeying)
    (idle : (s.dom d).sweep = .idle) (single : (s.dom d).due = false) (small : (s.dom d).cur ≤ 1) (unused : s.oldRetained d = false)
    (free : s.haltCovers d = false) : ∃ t, exec (.oldGenerationZeroize d) s = .next t ∧ (t.dom d).st = .active ∧
      (t.dom d).gen (1 - (s.dom d).cur) = none ∧ (t.dom d).gen (s.dom d).cur = (s.dom d).gen (s.dom d).cur ∧
      t.evtSet Ev.cryRekeyDone := by
  have run : exec (.oldGenerationZeroize d) s = .next _ := congrArg done (when_true (by simp [core, rekeying, idle, unused, free]))
  dsimp only at run
  rw [if_neg (by simp [single])] at run
  obtain ⟨gone, kept⟩ := gen_setGen (s.dom d) small
  refine ⟨_, run, ?_⟩
  rw [dom_congr (State.raiseN_cry ..), dom_setDom_same s.begin d _ wf]
  exact ⟨rfl, gone, kept, evtSet_raiseN _ _ _ _ ((State.setDom_ev ..).2 wf) (by decide)⟩

/-! ### Quarantine records and registers -/

theorem exec_unsealQuarantine {session no : Nat} {x : Session} {r : QuarRec} {k : KeySlot} (found : s.session session = some x)
    (admin : x.keyAdmin = true) (up : s.portUp x.port = true) (running : s.fwu.paused = false)
    (listed : (s.flt.quar.find? fun r => r.no == no) = some r) (key : (s.dom r.dom).gen r.kgen = some k)
    (verifies : quarTag k.key r = r.tag) : ∃ t, exec (.unsealQuarantine session no) s = .next t ∧
      t.out = [.answer 0x85 0 (r.sectors.toNat :: (quarXor k.key r).map fun v => v.toNat)] ∧ t.flt = s.flt := by
  have run : exec (.unsealQuarantine session no) s = .next _ := congrArg done (keyMessage_ready 5 _ found admin up running)
  have key' : (s.begin.dom r.dom).gen r.kgen = some k := key
  rw [State.begin_flt, listed] at run
  dsimp only at run
  rw [key'] at run
  dsimp only at run
  rw [if_pos verifies] at run
  have push := State.kvPush_ev s.begin (.unseal 0)
  exact ⟨_, run, congrArg (· ++ [_]) (evolves_get push .out rfl), evolves_get push .flt rfl⟩

theorem exec_integEnWrite (v : Bool) (wf : s.wf = true) (ready : s.barReady h) (small : d < 256)
    (unused : (s.dom d).count = 0 ∨ (s.dom d).st = .empty) : ∃ t, exec (.integEnWrite h d v) s = .next t ∧ (t.dom d).integ = v ∧
      (t.dom d).st = (s.dom d).st ∧ s.keeps t [.cry, .out] := by
  have same (x : Dom) : (s.begin.setDom d x).dom d = x := dom_setDom_same s.begin d x wf
  refine ⟨_, congrArg done ((barWrite_ready ready).trans (if_pos ⟨small, unused⟩)), congrArg Dom.integ (same _),
    (congrArg Dom.st (same _)).trans rfl, ?_⟩
  exact (ev_step (ev_step (ev_refl (L := [.cry, .out])) (State.begin_ev s) rfl) (State.setDom_ev ..) rfl).1

end DomainKeys

/-- Settles O15: each key message, the sweep, and the domain's key registers. -/
theorem domainKeyCommands : Obligations.DomainKeyCommands := by
  unfold Obligations.DomainKeyCommands
  exact ⟨fun _ _ _ j v _ _ wf found admin up running small free slot new best room good =>
      exec_setDomainKey wf found admin up running small free slot new ⟨j, v, best, room, good⟩,
    fun _ _ _ j v wf ready small free assigned random slot gen0 gen1 next best room good =>
      exec_generateDomainKey wf ready small free assigned random slot gen0 gen1 next ⟨j, v, best, room, good⟩,
    fun _ _ _ _ wf found admin up running small => exec_destroyDomainKey wf found admin up running small,
    fun _ _ _ j v _ _ wf found admin up running small free active staged best room good =>
      exec_startRekey wf found admin up running small free active staged ⟨j, v, best, room, good⟩,
    fun _ _ _ _ found admin up running small => exec_getKeyInfo found admin up running small,
    fun _ _ wf core rekeying waiting map alone free settled =>
      exec_rekeySweepStart wf core rekeying waiting map alone free settled,
    fun _ _ wf core sweeping last settled noQuar noWindow =>
      exec_rekeySweepDone wf core sweeping last settled noQuar noWindow,
    fun _ _ wf core rekeying idle single small unused free =>
      exec_oldGenerationZeroize wf core rekeying idle single small unused free,
    fun _ _ _ _ _ _ _ found admin up running listed key verifies =>
      exec_unsealQuarantine found admin up running listed key verifies,
    fun _ _ _ v wf ready small unused => exec_integEnWrite v wf ready small unused,
    fun s _ wf ready => ⟨_, congrArg done (barWrite_ready ready), reg_setReg_same s.begin _ _ wf, keepsRegs_setReg s.begin _ _⟩⟩

end Sys2Proof.Machine

/-!
PROOF. The obligation about the key vault (R377, R401 to R403, R408): the ends of its operations, its DRBG and its counters.
-/
namespace Sys2Proof.Machine
set_option Elab.async false

section KeyVault

variable {s : State} {h : Nat}

/-! ### The ends of operations -/

/-- The state with its oldest operation taken off the queue. -/
def State.kvTaken (s : State) (rest : List KvOp) : State := { s with cry := { s.cry with kvOps := rest } }

theorem kvTaken_evolves (s : State) (rest : List KvOp) : s.evolves (s.kvTaken rest) [.cry] := ev_cry ev_refl rfl CryState.wf_upd

theorem exec_keyVaultOpDone_ok {o : KvOp} {rest : List KvOp} (core : s.pwr.coreOn = true) (queue : s.cry.kvOps = o :: rest)
    (notDecrypt : o.code ≠ 5) : ∃ t, exec (.keyVaultOpDone true) s = .next t ∧ t.cry.kvOps = rest ∧ t.out = [] ∧
      s.keeps t [.cry, .out] := by
  have run : exec (.keyVaultOpDone true) s = .next _ := congrArg done (when_true (by simp [core, queue]))
  rw [State.begin_cry, queue] at run
  have kept := (ev_step (ev_step (ev_refl (L := [.cry, .out])) (State.begin_ev s) rfl) (kvTaken_evolves s.begin rest) rfl).1
  cases o
  case decrypt => exact absurd rfl notDecrypt
  all_goals exact ⟨s.begin.kvTaken rest, run, rfl, rfl, kept⟩

theorem failKey_spec (d : Nat) (wf : s.wf = true) : ((s.failKey d).dom d).st = .failed ∧ (s.failKey d).cry.kvOps = s.cry.kvOps ∧
    (s.failKey d).evtSet Ev.cryKeyFailed ∧ s.keepsEvents (s.failKey d) := by
  have setEv (x : Dom) := State.setDom_ev s d x
  have cry (t : State) : (t.raiseN Ev.cryKeyFailed (d * 2 ^ 40) 0).cry = t.cry := State.raiseN_cry ..
  unfold State.failKey
  refine ⟨?_, ?_, evtSet_raiseN _ _ _ _ ((setEv _).2 wf) (by decide),
    (State.keepsEvents.of_evolves (setEv _)).trans (keepsEvents_raiseN ..)⟩
  · rw [dom_congr (cry _), dom_setDom_same s d _ wf]
  · rw [cry]
    rfl

/-- A record that did not unwrap, counted and reported. -/
def State.unwrapFailed (s : State) (r : Nat) : State :=
  (s.bump F.kveCntVerifyFails 1).raiseN Ev.kveUnwrapFail ((KvOp.unwrap r).code * 2 ^ 8) (KvOp.unwrap r).record

theorem unwrapFailed_spec (r : Nat) (wf : s.wf = true) : (s.unwrapFailed r).wf = true ∧
    (s.unwrapFailed r).cry.kvOps = s.cry.kvOps ∧ (s.unwrapFailed r).evtSet Ev.kveUnwrapFail :=
  have countedWf : (s.bump F.kveCntVerifyFails 1).wf = true := (State.bump_ev ..).2 wf
  ⟨(State.raiseN_ev ..).2 countedWf, congrArg CryState.kvOps ((State.raiseN_cry ..).trans (State.bump_cry ..)),
    evtSet_raiseN _ _ _ _ countedWf (by decide)⟩

theorem exec_keyVaultOpDone_unwrapFail {r : Nat} {rest : List KvOp} (wf : s.wf = true) (core : s.pwr.coreOn = true)
    (queue : s.cry.kvOps = .unwrap r :: rest) : ∃ t, exec (.keyVaultOpDone false) s = .next t ∧ t.cry.kvOps = rest ∧
      (t.dom (r / 3)).st = .failed ∧ t.evtSet Ev.kveUnwrapFail ∧ t.evtSet Ev.cryKeyFailed := by
  have run : exec (.keyVaultOpDone false) s = .next (((s.begin.kvTaken rest).unwrapFailed r).failKey (r / 3)) := by
    refine (congrArg done (when_true (by simp [core, queue]))).trans ?_
    rw [State.begin_cry, queue]
    dsimp only
    exact congrArg Host.Outcome.next (if_neg Bool.false_ne_true)
  obtain ⟨takenWf, kvOps, set⟩ := unwrapFailed_spec r ((kvTaken_evolves s.begin rest).2 wf)
  obtain ⟨failed, queued, keyFailed, kept⟩ := failKey_spec (r / 3) takenWf
  exact ⟨_, run, queued.trans kvOps, failed, kept.evtSet takenWf set, keyFailed⟩

/-! ### The DRBG -/

theorem reseed_spec (wf : s.wf = true) : s.reseed.cry.drbgReqs = 0 ∧ s.reseed.cry.lastSeed = s.time.opNs ∧
    s.reseed.cry.drbg = s.cry.drbg ∧ s.reseed.fld F.kveDrbgReseeds = satAdd 32 (s.fld F.kveDrbgReseeds) 1 := by
  let seeded : State := { s with cry := { s.cry with drbgReqs := 0, lastSeed := s.time.opNs } }
  have seededWf : seeded.wf = true := (ev_cry (u := s) (L := [.cry]) ev_refl rfl CryState.wf_upd).2 wf
  have cry : s.reseed.cry = seeded.cry := State.bump_cry ..
  rw [cry]
  exact ⟨rfl, rfl, rfl, fld_setFld_same seeded _ _ seededWf (by decide) (by decide) (by
    change satAdd 32 _ 1 < 2 ^ 32
    unfold satAdd
    omega)⟩

theorem exec_kveReseed (wf : s.wf = true) (ready : s.barReady h) (seeded : s.cry.drbg = .ready) : ∃ t,
    exec (.kveReseed h) s = .next t ∧ t.cry.drbgReqs = 0 ∧ t.cry.lastSeed = s.time.opNs ∧
      t.fld F.kveDrbgReseeds = satAdd 32 (s.fld F.kveDrbgReseeds) 1 := by
  obtain ⟨reqs, last, -, count⟩ := reseed_spec (s := s.begin) wf
  exact ⟨_, congrArg done ((barWrite_ready ready).trans (if_pos seeded)), reqs, last, count⟩

theorem exec_drbgReseedTimer (wf : s.wf = true) (core : s.pwr.coreOn = true) (ready : s.cry.drbg = .ready)
    (due : 2 ^ 20 ≤ s.cry.drbgReqs ∨ s.cry.lastSeed + 1000000000 ≤ s.time.opNs) : ∃ t, exec (.drbgReseedTimer) s = .next t ∧
      t.cry.drbgReqs = 0 ∧ t.cry.lastSeed = s.time.opNs ∧ t.cry.drbg = .ready := by
  obtain ⟨reqs, last, drbg, -⟩ := reseed_spec (s := s.begin) wf
  exact ⟨_, congrArg done (when_true (by rw [core, Bool.true_and]; exact decide_eq_true ⟨ready, due⟩)), reqs, last, drbg.trans ready⟩

/-! ### Entropy -/

theorem exec_entropyFail (wf : s.wf = true) (core : s.pwr.coreOn = true) (alive : s.cry.drbg ≠ .failed) : ∃ t,
    exec (.entropyFail) s = .next t ∧ t.cry.drbg = .starting ∧ t.cry.drbgRetries = 0 ∧ t.evtSet Ev.kveEntropyFail := by
  let starts : State := { s.begin with cry := { s.cry with drbg := .starting, drbgRetries := 0 } }
  have startsWf : starts.wf = true := (ev_cry (u := s.begin) (L := [.cry]) ev_refl rfl CryState.wf_upd).2 wf
  have cry : ((starts.bump F.kveCntHealthFails 1).raise Ev.kveEntropyFail).cry = starts.cry :=
    (State.raise_cry ..).trans (State.bump_cry ..)
  refine ⟨(starts.bump F.kveCntHealthFails 1).raise Ev.kveEntropyFail, congrArg done (when_true (by simp [core, alive])),
    congrArg CryState.drbg cry, congrArg CryState.drbgRetries cry, evtSet_raise _ _ ((State.bump_ev ..).2 startsWf) (by decide)⟩

theorem exec_entropyRetest_pass (wf : s.wf = true) (core : s.pwr.coreOn = true) (starting : s.cry.drbg = .starting) : ∃ t,
    exec (.entropyRetest true) s = .next t ∧ t.cry.drbg = .ready ∧ t.evtSet Ev.kveDrbgReady := by
  let passed : State := { s.begin with cry := { s.cry with drbg := .ready, drbgRetries := 0, lastSeed := s.time.opNs } }
  have passedWf : passed.wf = true := (ev_cry (u := s.begin) (L := [.cry]) ev_refl rfl CryState.wf_upd).2 wf
  exact ⟨passed.raise Ev.kveDrbgReady, congrArg done (when_true (by simp [core, starting])),
    (congrArg CryState.drbg (State.raise_cry ..)).trans rfl, evtSet_raise _ _ passedWf (by decide)⟩

/-- A start-up test that failed, counted. -/
def State.retested (s : State) : State :=
  ({ s with cry := { s.cry with drbgRetries := s.cry.drbgRetries + 1 } } : State).bump F.kveCntHealthFails 1

theorem retested_spec (wf : s.wf = true) : s.retested.wf = true ∧ s.retested.cry.drbgRetries = s.cry.drbgRetries + 1 ∧
    s.retested.cry.drbg = s.cry.drbg := by
  have counted : s.evolves { s with cry := { s.cry with drbgRetries := s.cry.drbgRetries + 1 } } [.cry] :=
    ev_cry ev_refl rfl CryState.wf_upd
  have cry := State.bump_cry { s with cry := { s.cry with drbgRetries := s.cry.drbgRetries + 1 } } F.kveCntHealthFails 1
  exact ⟨(State.bump_ev ..).2 (counted.2 wf), (congrArg CryState.drbgRetries cry).trans rfl, (congrArg CryState.drbg cry).trans rfl⟩

theorem exec_entropyRetest_fail (wf : s.wf = true) (core : s.pwr.coreOn = true) (starting : s.cry.drbg = .starting) : ∃ t,
    exec (.entropyRetest false) s = .next t ∧ t.cry.drbgRetries = s.cry.drbgRetries + 1 ∧
      (s.cry.drbgRetries < 2 → t.cry.drbg = .starting) ∧
      (2 ≤ s.cry.drbgRetries → t.cry.drbg = .failed ∧ t.evtSet Ev.kveDrbgFailed) := by
  have run : exec (.entropyRetest false) s = .next (if 3 ≤ s.cry.drbgRetries + 1
      then ({ s.begin.retested with cry := { s.begin.retested.cry with drbg := .failed } } : State).raise Ev.kveDrbgFailed
      else s.begin.retested) := congrArg done (when_true (by simp [core, starting]))
  obtain ⟨retestedWf, retries, drbg⟩ := retested_spec (s := s.begin) wf
  refine ⟨_, run, ?_⟩
  by_cases third : 3 ≤ s.cry.drbgRetries + 1
  · rw [if_pos third]
    have failedWf : ({ s.begin.retested with cry := { s.begin.retested.cry with drbg := .failed } } : State).wf = true :=
      (ev_cry (u := s.begin.retested) (L := [.cry]) ev_refl rfl CryState.wf_upd).2 retestedWf
    exact ⟨(congrArg CryState.drbgRetries (State.raise_cry ..)).trans retries, fun few => absurd third (by omega),
      fun _ => ⟨(congrArg CryState.drbg (State.raise_cry ..)).trans rfl, evtSet_raise _ _ failedWf (by decide)⟩⟩
  · rw [if_neg third]
    exact ⟨retries, fun _ => drbg.trans starting, fun many => absurd many (by omega)⟩

end KeyVault

/-- Settles O16: the ends of the vault's operations, its DRBG and its counters. -/
theorem keyVaultCommands : Obligations.KeyVaultCommands := by
  unfold Obligations.KeyVaultCommands
  exact ⟨fun _ _ _ core queue notDecrypt => exec_keyVaultOpDone_ok core queue notDecrypt,
    fun _ _ _ wf core queue => exec_keyVaultOpDone_unwrapFail wf core queue, fun _ _ wf ready seeded => exec_kveReseed wf ready seeded,
    fun _ wf core ready due => exec_drbgReseedTimer wf core ready due, fun _ wf core alive => exec_entropyFail wf core alive,
    fun _ wf core starting => exec_entropyRetest_pass wf core starting,
    fun _ wf core starting => exec_entropyRetest_fail wf core starting,
    fun s _ wf ready => ⟨_, congrArg done (barWrite_ready ready), reg_setReg_same s.begin _ _ wf, keepsRegs_setReg s.begin _ _⟩⟩

end Sys2Proof.Machine

/-!
PROOF. Stripes (R205, R213, R223): completing open stripes with filler lines, and the registers of a ply engine's page.
-/
namespace Sys2Proof.Machine
set_option Elab.async false

section Stripes

variable {s : State} {g b idx : Nat}

theorem stripes_updStripe (f : Stripe → Stripe) (wf : s.wf = true) : ((s.updStripe g b idx f).group g).stripes =
    (s.group g).stripes.map fun t => if t.block = b ∧ t.idx = idx then f t else t := by
  unfold State.updStripe State.setStripes
  rw [group_setGroup_same s g _ wf]

theorem stripes_evolves {t : State} {L : List Piece} (a : s.evolves t L) (noWp : L.contains .wp = false := by rfl) :
    (t.group g).stripes = (s.group g).stripes :=
  congrArg Group.stripes (group_congr (evolves_get a .wp noWp) g)

/-- The stripe stops taking lines. -/
def State.closed (s : State) (g b idx : Nat) : State := s.updStripe g b idx fun t => { t with isOpen := false }

theorem closed_open (wf : s.wf = true) : ∀ y ∈ ((s.closed g b idx).group g).stripes, y.isOpen = true →
    y ∈ (s.group g).stripes ∧ ¬(y.block = b ∧ y.idx = idx) := by
  intro y mem opened
  rw [State.closed, stripes_updStripe _ wf, List.mem_map] at mem
  obtain ⟨z, inside, rfl⟩ := mem
  by_cases here : z.block = b ∧ z.idx = idx
  · rw [if_pos here] at opened
    exact absurd opened Bool.false_ne_true
  · rw [if_neg here]
    exact ⟨inside, here⟩

/-- The bolt's tell-tale stripes join the group's. -/
theorem stripes_tells (x : Group) (t : Stripe) (tells : List Stripe) (wf : s.wf = true) :
    ((s.setGroup g { x.withOpen t.part none with stripes := (s.group g).stripes ++ tells }).group g).stripes =
      (s.group g).stripes ++ tells := by
  rw [group_setGroup_same s g _ wf]

/-- Assembling a stripe closes it, and no other stripe opens. -/
theorem assemble_open (wf : s.wf = true) : ∀ y ∈ ((s.assemble g b idx).group g).stripes, y.isOpen = true →
    y ∈ (s.group g).stripes ∧ ¬(y.block = b ∧ y.idx = idx) := by
  have closedOpen := closed_open (g := g) (b := b) (idx := idx) wf
  have closedWf : (s.closed g b idx).wf = true := (State.updStripe_ev ..).2 wf
  unfold State.assemble
  extract_lets +onlyGivenNames closed launched
  have first : closed = s.closed g b idx := rfl
  clear_value closed
  subst first
  have launchedEv : (s.closed g b idx).evolves launched [.warp] := by
    subst launched
    split
    · exact ev_ite (State.launch_ev ..) ev_refl
    · exact ev_refl
  clear_value launched
  have launchedWf := launchedEv.2 closedWf
  rw [← stripes_evolves launchedEv] at closedOpen
  split
  case _ last =>
    split
    case _ t found =>
      have closedT : t.isOpen = false := by
        refine Bool.eq_false_iff.mpr fun opened => (closedOpen t (List.mem_of_find?_eq_some found) opened).2 ?_
        simpa using List.find?_some found
      extract_lets +onlyGivenNames mk group grown bolt full
      have fullEv : grown.evolves ((full.launch g (mk 0)).launch g (mk 1)) [.upk, .warp] :=
        ev_step (ev_step (ev_step ev_refl (State.setBolt_ev ..) rfl) (State.launch_ev ..) rfl) (State.launch_ev ..) rfl
      intro y mem opened
      rw [stripes_evolves fullEv, stripes_tells _ _ _ launchedWf, List.mem_append] at mem
      refine mem.elim (fun inside => closedOpen y inside opened) fun tells => ?_
      have shut : y.isOpen = false := by
        simp only [List.mem_cons, List.not_mem_nil, or_false] at tells
        rcases tells with rfl | rfl <;> exact closedT
      exact absurd opened (by simp [shut])
    case _ => exact closedOpen
  case _ => exact closedOpen

/-- Completing a stripe with filler lines closes it, and no other stripe opens. -/
theorem pad_open (x : Stripe) (wf : s.wf = true) : ∀ y ∈ ((s.pad g x).group g).stripes, y.isOpen = true →
    y ∈ (s.group g).stripes ∧ ¬(y.block = x.block ∧ y.idx = x.idx) := by
  rw [pad_eq]
  let counted := ((s.filled g x).bump (F.plyPadCntFillerLines g) (x.w - 1 - x.lines.length)).count 0x401 g (x.w - 1 - x.lines.length)
  have filledWf : (s.filled g x).wf = true := (State.updStripe_ev ..).2 wf
  have countedEv : (s.filled g x).evolves counted [.regs, .pmc, .evt, .host] :=
    ev_step (ev_step ev_refl (State.bump_ev ..) rfl) (State.count_ev ..) rfl
  intro y mem opened
  obtain ⟨inside, apart⟩ := assemble_open (countedEv.2 filledWf) y mem opened
  rw [stripes_evolves countedEv, State.filled, stripes_updStripe _ wf, List.mem_map] at inside
  obtain ⟨z, there, rfl⟩ := inside
  by_cases here : z.block = x.block ∧ z.idx = x.idx
  · rw [if_pos here] at apart
    exact absurd here apart
  · rw [if_neg here]
    exact ⟨there, here⟩

/-- Completing every stripe of a list leaves no open stripe that holds a line, when the list names all of them. -/
theorem foldl_pad_open (l : List Stripe) (wf : s.wf = true)
    (all : ∀ y ∈ (s.group g).stripes, y.isOpen = true → y.lines ≠ [] → ∃ x ∈ l, y.block = x.block ∧ y.idx = x.idx) :
    ∀ y ∈ ((l.foldl (fun t x => t.pad g x) s).group g).stripes, y.isOpen = true → y.lines = [] := by
  induction l generalizing s with
  | nil =>
    intro y mem opened
    by_contra holds
    obtain ⟨x, no, -⟩ := all y mem opened holds
    exact absurd no List.not_mem_nil
  | cons x l ih =>
    refine ih ((State.pad_ev ..).2 wf) fun y mem opened holds => ?_
    obtain ⟨inside, apart⟩ := pad_open x wf y mem opened
    obtain ⟨z, listed, same⟩ := all y inside opened holds
    rcases List.mem_cons.mp listed with rfl | later
    · exact absurd same apart
    · exact ⟨z, later, same⟩

/-! ### The commands -/

theorem fld_padCnt (x : Stripe) (wf : s.wf = true) (small : g < 8) : (s.pad g x).fld (F.plyPadCntFillerLines g) =
    satAdd 32 (s.fld (F.plyPadCntFillerLines g)) (x.w - 1 - x.lines.length) := by
  have off : (F.plyPadCntFillerLines g).off = 0x20140 + g * 0x1000 := rfl
  have filledEv : s.evolves (s.filled g x) [.wp] := State.updStripe_ev ..
  have same : (s.filled g x).fld (F.plyPadCntFillerLines g) = s.fld (F.plyPadCntFillerLines g) :=
    fld_of_reg (reg_evolves filledEv rfl rfl _)
  have bumpedWf : ((s.filled g x).bump (F.plyPadCntFillerLines g) (x.w - 1 - x.lines.length)).wf = true :=
    (State.bump_ev ..).2 (filledEv.2 wf)
  rw [pad_eq, fld_of_reg (reg_evolves (State.assemble_ev ..) rfl rfl _),
    (countsOnly_count bumpedWf 0x401 g _).fld (by omega) (by omega), State.bump, same]
  exact fld_setFld_same _ _ _ (filledEv.2 wf) (show 32 ≤ 63 by decide) (show 63 < 64 by decide) (by
    change satAdd 32 _ _ < 2 ^ 32
    unfold satAdd
    omega)

theorem exec_stripeTimeout {x : Stripe} (wf : s.wf = true) (small : g < 8) (core : s.pwr.coreOn = true)
    (oldest : ((s.openHeld g).find? fun y => decide (y.first + s.fld (F.plyCfgStripeTimeout g) ≤ s.time.pick)) = some x) : ∃ t,
      exec (.stripeTimeout g) s = .next t ∧
      (∀ y ∈ (t.group g).stripes, y.block = x.block ∧ y.idx = x.idx → y.isOpen = false) ∧
      t.fld (F.plyPadCntFillerLines g) = satAdd 32 (s.fld (F.plyPadCntFillerLines g)) (x.w - 1 - x.lines.length) := by
  refine ⟨s.begin.pad g x, (congrArg done (when_true core)).trans ?_, fun y mem same => ?_, fld_padCnt (s := s.begin) x wf small⟩
  · have oldest' : ((s.begin.openHeld g).find? fun y =>
        decide (y.first + s.begin.fld (F.plyCfgStripeTimeout g) ≤ s.begin.time.pick)) = some x := oldest
    rw [oldest']
    rfl
  · exact Bool.eq_false_iff.mpr fun opened => (pad_open (s := s.begin) x wf y mem opened).2 same

theorem exec_padNow {h : Nat} (wf : s.wf = true) (ready : s.barReady h) : ∃ t, exec (.padNow h g) s = .next t ∧
    (∀ y ∈ (t.group g).stripes, y.isOpen = true → y.lines = []) := by
  refine ⟨_, congrArg done (barWrite_ready ready), foldl_pad_open (s := s.begin) _ wf fun y mem opened holds => ⟨y, ?_, rfl, rfl⟩⟩
  exact List.mem_filter.mpr ⟨mem, by simp [opened, holds]⟩

theorem exec_plyAdmitOff {h : Nat} (v : Bool) (wf : s.wf = true) (ready : s.barReady h) : ∃ t,
    exec (.plyAdmitOff h g v) s = .next t ∧ t.fld (F.plyCtlAdmitOff g) = ofBool v ∧ s.keepsRegs t [(F.plyCtlAdmitOff g).off] :=
  ⟨_, congrArg done (barWrite_ready ready), fld_setFld_same s.begin _ _ wf (show 1 ≤ 1 by decide) (show 1 < 64 by decide)
    (show ofBool v < 2 by cases v <;> decide), keepsRegs_setReg s.begin _ _⟩

theorem exec_plyCntClr {h : Nat} (wf : s.wf = true) (ready : s.barReady h) : ∃ t, exec (.plyCntClr h g) s = .next t ∧
    t.reg (F.plySealCntStripes g).off = 0#64 ∧ t.reg (F.plyPadCntFillerLines g).off = 0#64 ∧
      t.reg (F.plyMergeCntMergeReads g).off = 0#64 ∧ s.keepsRegs t [(F.plySealCntStripes g).off, (F.plyPadCntFillerLines g).off,
      (F.plyMergeCntMergeReads g).off] := by
  have sealOff : (F.plySealCntStripes g).off = 0x20138 + g * 0x1000 := rfl
  have padOff : (F.plyPadCntFillerLines g).off = 0x20140 + g * 0x1000 := rfl
  have mergeOff : (F.plyMergeCntMergeReads g).off = 0x20148 + g * 0x1000 := rfl
  let one := s.begin.setReg (F.plySealCntStripes g).off 0#64
  let two := one.setReg (F.plyPadCntFillerLines g).off 0#64
  have oneWf : one.wf = true := wf_setReg s.begin _ _ wf
  have twoWf : two.wf = true := wf_setReg one _ _ oneWf
  refine ⟨two.setReg (F.plyMergeCntMergeReads g).off 0#64, congrArg done (barWrite_ready ready), ?_, ?_, reg_setReg_same _ _ _ twoWf, ?_⟩
  · rw [reg_setReg_other _ _ _ _ (by omega), reg_setReg_other _ _ _ _ (by omega)]
    exact reg_setReg_same s.begin _ _ wf
  · rw [reg_setReg_other _ _ _ _ (by omega)]
    exact reg_setReg_same one _ _ oneWf
  · exact keepsRegs_trans (keepsRegs_trans (keepsRegs_setReg s.begin _ _) (keepsRegs_setReg one _ _) (N := [(F.plySealCntStripes g).off, (F.plyPadCntFillerLines g).off])
      (by simp) (by simp)) (keepsRegs_setReg two _ _) (by simp) (by simp)

end Stripes
end Sys2Proof.Machine

/-!
PROOF. The obligation about stripes, their records and the journal (R166, R176, R177, R179, R181, R188, R205 to R207, R213, R223).
-/
namespace Sys2Proof.Machine
set_option Elab.async false

section Journal

variable {s : State} {g : Nat}

/-! ### What records and journal lines write of the map's state -/

theorem map_selvage (s : State) (l purpose : Nat) : ∃ regions, (s.selvage l purpose).map = { s.map with regions := regions } := ⟨_, rfl⟩

theorem map_writeJnl_held (held : s.map.jbuf ≠ []) : ∃ regions, s.writeJnl.map = { s.map with
    regions := regions, jlines := s.map.jlines ++ [s.map.jbuf], jbuf := [], headPos := (s.map.headPos + 1) % max 1 s.ringLines } := by
  let counted := (s.selvage (s.jnlBase + s.map.headPos) 3).count 0x305 0 1
  have map : counted.map = (s.selvage (s.jnlBase + s.map.headPos) 3).map := State.count_map ..
  have popP : counted.popP = s.popP := State.count_popP ..
  have popD : counted.popD = s.popD := State.count_popD ..
  have lines : counted.ringLines = s.ringLines := by
    unfold State.ringLines State.userGib State.netGib State.boltsPerGroup
    rw [popP, popD]
  obtain ⟨regions, there⟩ := map_selvage s (s.jnlBase + s.map.headPos) 3
  refine ⟨regions, ?_⟩
  unfold State.writeJnl
  rw [if_neg held]
  change { counted.map with jlines := counted.map.jlines ++ [counted.map.jbuf], jbuf := [],
                            headPos := (counted.map.headPos + 1) % max 1 counted.ringLines } = _
  rw [lines, map, there]

theorem map_writeJnl (s : State) : ∃ regions jlines headPos, s.writeJnl.map = { s.map with
    regions := regions, jlines := jlines, jbuf := [], headPos := headPos } := by
  by_cases empty : s.map.jbuf = []
  · refine ⟨s.map.regions, s.map.jlines, s.map.headPos, ?_⟩
    rw [State.writeJnl, if_pos empty]
    exact congrArg (fun jbuf => { s.map with jbuf := jbuf }) empty
  · obtain ⟨regions, written⟩ := map_writeJnl_held empty
    exact ⟨_, _, _, written⟩

theorem map_pushRec (s : State) (r : JRec) : ∃ regions jlines jbuf jbufPick headPos recsSince, (s.pushRec r).map = { s.map with
    regions := regions, jlines := jlines, jbuf := jbuf, jbufPick := jbufPick, headPos := headPos, recsSince := recsSince
    nextJsn := s.map.nextJsn + 1 } := by
  unfold State.pushRec
  extract_lets +onlyGivenNames map pushed counted
  have same : counted.map = pushed.map := State.count_map ..
  clear_value counted
  split
  · obtain ⟨regions, jlines, headPos, written⟩ := map_writeJnl counted
    exact ⟨_, _, _, _, _, _, written.trans (by rw [same])⟩
  · exact ⟨_, _, _, _, _, _, same⟩

theorem map_minstall (s : State) (kind idx : Nat) : ∃ cached plru stamp,
    (s.minstall kind idx).map = { s.map with cached := cached, plru := plru, stamp := stamp } := by
  unfold State.minstall
  split
  · exact ⟨_, _, _, rfl⟩
  · exact ⟨_, _, _, rfl⟩

theorem map_mdirtied (s : State) (kind idx j : Nat) : ∃ cached plru stamp,
    (s.mdirtied kind idx j).map = { s.map with cached := cached, plru := plru, stamp := stamp } := by
  obtain ⟨cached, plru, stamp, installed⟩ := map_minstall s kind idx
  refine ⟨(s.mdirtied kind idx j).map.cached, plru, stamp, ?_⟩
  exact congrArg (fun m => { m with cached := (s.mdirtied kind idx j).map.cached }) installed

/-- A MAP record without a tag changes the line's entry, the journal and the map cache. -/
theorem mapRec_spec (d line : Nat) (reloc : Bool) (e : Entry) (wf : s.wf = true) : (s.mapRec d line reloc none e).entry line = e ∧
    (s.mapRec d line reloc none e).map.nextJsn = s.map.nextJsn + 1 ∧
    (s.mapRec d line reloc none e).map.dirtyHeld = s.map.dirtyHeld := by
  unfold State.mapRec
  extract_lets +onlyGivenNames old j record pushed set tagged live released
  obtain ⟨regions, jlines, jbuf, jbufPick, headPos, recsSince, pushedMap⟩ := map_pushRec s
    { JRec.blank with kind := .map, line := line, reloc := reloc, tag := none, dom := d, ent := e, old := [(line, old, s.tagAt line)] }
  have pushedWf : pushed.wf = true := (State.pushRec_ev ..).2 wf
  have jsn : pushed.map.nextJsn = s.map.nextJsn + 1 := congrArg MapState.nextJsn pushedMap
  have held : pushed.map.dirtyHeld = s.map.dirtyHeld := (congrArg MapState.dirtyHeld pushedMap).trans rfl
  clear_value pushed
  have releasedMap : released.map = (pushed.setEntry line e).map := by
    have liveMap : live.map = set.map := by
      change (if e.st = 1 then tagged.liveAt e.addr else tagged).map = tagged.map
      split
      · exact evolves_get (State.liveAt_ev ..) .map rfl
      · rfl
    exact (evolves_get (State.release_ev ..) .map rfl).trans liveMap
  clear_value released
  have entry : (pushed.setEntry line e).entry line = e := 
    Tab.get_set_same _ _ _ _ ((MapState.wf_iff _).mp (State.map_wf _ pushedWf)).1.1
  have last (t : State) (kind idx : Nat) (same : t.map = (pushed.setEntry line e).map) : (t.mdirtied kind idx j).entry line = e ∧
      (t.mdirtied kind idx j).map.nextJsn = s.map.nextJsn + 1 ∧ (t.mdirtied kind idx j).map.dirtyHeld = s.map.dirtyHeld := by
    obtain ⟨cached, plru, stamp, dirtied⟩ := map_mdirtied t kind idx j
    unfold State.entry
    rw [dirtied, same]
    exact ⟨entry, jsn, held⟩
  split
  · exact last released 0 (line / 32) releasedMap
  · exact last released 2 ((line - tagBase) / 32) releasedMap


/-! ### The record of a sealed stripe -/

/-- The one line of a sealed stripe, on its way to its record: nothing makes it wait. -/
structure State.records (s : State) (y : Staged) : Prop where
  kind : y.kind = .host
  current : y.superseded = false
  unrecorded : y.recorded = false
  noTag : (s.dom y.dom).integ = false
  noEpoch : s.epochOn y.dom = false
  present : s.mpresent 0 (y.line / 32) = true
  free : s.epochHold y = false
  room : s.jnlFull = false
  clean : s.heldBack y = false

theorem recordLines_one {x : Stripe} {y : Staged} (goes : s.records y) : s.recordLines g x 0 [y] =
    (s.mapRec y.dom y.line false none (s.newEntry g x 0 y false), [{ y with recorded := true }], false) := by
  obtain ⟨kind, current, unrecorded, noTag, noEpoch, present, free, room, clean⟩ := goes
  have needs : s.needs y = [(0, y.line / 32)] := by simp [State.needs, kind, noTag]
  have recorded : s.recordLine g x 0 y = s.mapRec y.dom y.line false none (s.newEntry g x 0 y false) := by
    unfold State.recordLine
    rw [kind]
    simp [current, noTag, State.hostRec, noEpoch]
  unfold State.recordLines
  rw [if_neg (by simp [unrecorded]), if_neg (by simp [needs, present, free, room]), if_neg (by simp [clean]), recorded]
  rfl

theorem recordStripe_one {x : Stripe} {y : Staged} (wf : s.wf = true) (lines : x.lines = [y]) (goes : s.records y) :
    (s.recordStripe g x).entry y.line = s.newEntry g x 0 y false ∧ (s.recordStripe g x).map.nextJsn = s.map.nextJsn + 1 ∧
      (s.recordStripe g x).map.dirtyHeld = s.map.dirtyHeld ∧
      ∀ z ∈ ((s.recordStripe g x).group g).stripes, ¬(z.block = x.block ∧ z.idx = x.idx) := by
  obtain ⟨entry, jsn, held⟩ := mapRec_spec y.dom y.line false (s.newEntry g x 0 y false) wf
  have recordedWf : (s.mapRec y.dom y.line false none (s.newEntry g x 0 y false)).wf = true := (State.mapRec_ev ..).2 wf
  unfold State.recordStripe
  rw [lines, recordLines_one goes]
  dsimp only
  rw [if_pos (by simp)]
  generalize s.mapRec y.dom y.line false none (s.newEntry g x 0 y false) = u at *
  let marked := u.updStripe g x.block x.idx fun v => { v with lines := [{ y with recorded := true }] }
  let left := (marked.group g).stripes.filter fun v => !(decide (v.block = x.block ∧ v.idx = x.idx))
  have markedWf : marked.wf = true := (State.updStripe_ev ..).2 recordedWf
  have settled := State.settleBolt_ev (marked.setStripes g left) g x.block
  have map : ((marked.setStripes g left).settleBolt g x.block).map = u.map := evolves_get settled .map rfl
  have stripes : (((marked.setStripes g left).settleBolt g x.block).group g).stripes = left := by
    rw [stripes_evolves settled, State.setStripes, group_setGroup_same marked g _ markedWf]
  refine ⟨?_, (congrArg MapState.nextJsn map).trans jsn, (congrArg MapState.dirtyHeld map).trans held, ?_⟩
  · unfold State.entry at entry ⊢
    rw [map, entry]
  · intro z mem
    rw [stripes] at mem
    exact not_and_or.mpr (by simpa using (List.mem_filter.mp mem).2)

theorem map_startCkpt (s : State) : s.startCkpt.map.ent = s.map.ent ∧ s.startCkpt.map.nextJsn = s.map.nextJsn := by
  unfold State.startCkpt
  split
  · exact ⟨rfl, rfl⟩
  · obtain ⟨regions, jlines, headPos, written⟩ := map_writeJnl s
    have ent : s.writeJnl.map.ent = s.map.ent := by rw [written]
    have jsn : s.writeJnl.map.nextJsn = s.map.nextJsn := by rw [written]
    exact ⟨ent, jsn⟩

theorem map_nextCkpt (s : State) : s.nextCkpt.map.ent = s.map.ent ∧ s.nextCkpt.map.nextJsn = s.map.nextJsn := by
  unfold State.nextCkpt
  split
  · exact map_startCkpt s
  · exact ⟨rfl, rfl⟩

theorem exec_mapRecordAppend {x : Stripe} {y : Staged} (wf : s.wf = true) (core : s.pwr.coreOn = true) (map : s.map.st = .active)
    (first : s.nextSealed g = some x) (lines : x.lines = [y]) (goes : s.records y) : ∃ t, exec (.mapRecordAppend g) s = .next t ∧
      t.entry y.line = s.newEntry g x 0 y false ∧ t.map.nextJsn = s.map.nextJsn + 1 ∧
      (∀ z ∈ (t.group g).stripes, ¬(z.block = x.block ∧ z.idx = x.idx)) := by
  have goes' : s.begin.records y := { goes with }
  obtain ⟨entry, jsn, -, gone⟩ := recordStripe_one (s := s.begin) (g := g) wf lines goes'
  have run : exec (.mapRecordAppend g) s = .next (s.begin.recordStripe g x).nextCkpt := by
    refine (congrArg done (when_true (by simp [core, map]))).trans ?_
    have first' : s.begin.nextSealed g = some x := first
    rw [first']
    rfl
  obtain ⟨ent, next⟩ := map_nextCkpt (s.begin.recordStripe g x)
  refine ⟨_, run, ?_, next.trans jsn, ?_⟩
  · unfold State.entry at entry ⊢
    rw [ent, entry]
    rfl
  · rw [stripes_evolves (State.nextCkpt_ev _)]
    exact gone

theorem exec_mapDirtyWaitResume {b : Nat} {rest : List (Nat × Nat)} {x : Stripe} {y : Staged} (wf : s.wf = true)
    (core : s.pwr.coreOn = true) (map : s.map.st = .active) (held : s.map.dirtyHeld = (g, b) :: rest)
    (first : ({ s with map := { s.map with dirtyHeld := rest } } : State).nextSealed g = some x) (block : x.block = b)
    (lines : x.lines = [y]) (goes : s.records y) : ∃ t, exec (.mapDirtyWaitResume) s = .next t ∧ t.map.dirtyHeld = rest ∧
      t.entry y.line = s.newEntry g x 0 y false ∧ (∀ z ∈ (t.group g).stripes, ¬(z.block = x.block ∧ z.idx = x.idx)) := by
  let u : State := { s.begin with map := { s.map with dirtyHeld := rest } }
  have uWf : u.wf = true := (ev_map (u := s) (L := [.map]) ev_refl rfl MapState.wf_upd).2 wf
  have goes' : u.records y := { goes with }
  obtain ⟨entry, -, left, gone⟩ := recordStripe_one (s := u) (g := g) uWf lines goes'
  have first' : u.nextSealed g = some x := first
  have isSealed : (x.sealed && x.block == b) = true := by
    have found := List.find?_some first'
    simp only [Bool.and_eq_true] at found
    simp [found.1.1, block]
  obtain ⟨z, found⟩ : ∃ z, (u.group g).stripes.find? (fun t => t.sealed && t.block == b) = some z :=
    Option.isSome_iff_exists.mp (List.find?_isSome.mpr ⟨x, List.mem_of_find?_eq_some first', isSealed⟩)
  refine ⟨u.recordStripe g x, ?_, left, entry, gone⟩
  refine (congrArg done (when_true (by simp [core, map]))).trans ?_
  rw [State.begin_map, held]
  dsimp only
  rw [show ({ s.begin with map := { s.map with dirtyHeld := rest } } : State) = u from rfl, found, first']
  dsimp only
  rw [if_pos block]
  rfl

/-! ### The journal -/

theorem exec_journalLineTimeout (core : s.pwr.coreOn = true) (held : s.map.jbuf ≠ []) : ∃ t, exec (.journalLineTimeout) s = .next t ∧
    t.map.jlines = s.map.jlines ++ [s.map.jbuf] ∧ t.map.jbuf = [] ∧ t.map.headPos = (s.map.headPos + 1) % max 1 s.ringLines := by
  obtain ⟨regions, written⟩ := map_writeJnl_held (s := s.begin) held
  refine ⟨_, congrArg done (when_true core), ?_⟩
  rw [written]
  exact ⟨rfl, rfl, rfl⟩

theorem map_overflowJnl (s : State) : ∃ lines, s.overflowJnl.map = { s.map with ovfLines := lines } := by
  unfold State.overflowJnl
  split
  · exact ⟨_, State.raiseN_map ..⟩
  · exact ⟨_, rfl⟩

theorem exec_journalLineDurable {l : List JRec} {ls : List (List JRec)} (core : s.pwr.coreOn = true) (lines : s.map.jlines = l :: ls) :
    ∃ t, exec (.journalLineDurable) s = .next t ∧ t.map.jlines = ls ∧ t.map.jlog = s.map.jlog ++ l ∧
      t.map.durJsn = max s.map.durJsn ((l.getLast?.map JRec.jsn).getD 0) := by
  let u : State := { s.begin with map := { s.map with jlines := ls, jlog := s.map.jlog ++ l
                                                      durJsn := max s.map.durJsn ((l.getLast?.map JRec.jsn).getD 0) } }
  obtain ⟨ovf, after⟩ := map_overflowJnl u
  refine ⟨u.overflowJnl, (congrArg done (when_true core)).trans ?_, ?_⟩
  · unfold State.jnlDurable
    rw [State.begin_map, lines]
    rfl
  · rw [after]
    exact ⟨rfl, rfl, rfl⟩

/-! ### Checkpoints -/

theorem startCkpt_idle (idle : s.map.ckpt = none) : s.startCkpt.map.ckpt = some ⟨s.map.nextJsn⟩ ∧ s.startCkpt.map.recsSince = 0 ∧
    s.startCkpt.map.jbuf = [] := by
  obtain ⟨regions, jlines, headPos, written⟩ := map_writeJnl s
  unfold State.startCkpt
  rw [if_neg (by simp [idle])]
  exact ⟨rfl, rfl, congrArg MapState.jbuf written⟩

theorem exec_ckptNow {h : Nat} (ready : s.barReady h) (map : s.map.st = .active) (idle : s.map.ckpt = none) : ∃ t,
    exec (.ckptNow h) s = .next t ∧ t.map.ckpt = some ⟨s.map.nextJsn⟩ ∧ t.map.recsSince = 0 := by
  obtain ⟨ckpt, recs, -⟩ := startCkpt_idle (s := s.begin) idle
  exact ⟨_, congrArg done ((barWrite_ready ready).trans (if_pos map)), ckpt, recs⟩

theorem keepsEvents_writeJnl (s : State) : s.keepsEvents s.writeJnl := by
  unfold State.writeJnl
  split
  · exact .refl
  · extract_lets +onlyGivenNames counted
    have first : s.keepsEvents counted := (State.keepsEvents.of_evolves (State.selvage_ev ..)).trans (keepsEvents_count ..)
    clear_value counted
    exact first.trans (.of_evolves (L := [.map]) (ev_map ev_refl rfl MapState.wf_upd))

theorem keepsEvents_startCkpt (s : State) : s.keepsEvents s.startCkpt where
  of_wf wf := by
    refine ⟨(State.startCkpt_ev s).2 wf, fun e set => ?_⟩
    have journal := (keepsEvents_writeJnl s).evtSet wf set
    unfold State.startCkpt
    split
    · exact set
    · exact journal

/-- A checkpoint that starts leaves what the last one stored, and every event. -/
theorem nextCkpt_keeps (s : State) : s.nextCkpt.map.ckptJsn = s.map.ckptJsn ∧ s.nextCkpt.map.lastCkptNs = s.map.lastCkptNs ∧
    s.keepsEvents s.nextCkpt := by
  have started : s.startCkpt.map.ckptJsn = s.map.ckptJsn ∧ s.startCkpt.map.lastCkptNs = s.map.lastCkptNs := by
    unfold State.startCkpt
    split
    · exact ⟨rfl, rfl⟩
    · obtain ⟨regions, jlines, headPos, written⟩ := map_writeJnl s
      have jsn : s.writeJnl.map.ckptJsn = s.map.ckptJsn := by rw [written]
      have ns : s.writeJnl.map.lastCkptNs = s.map.lastCkptNs := by rw [written]
      exact ⟨jsn, ns⟩
  unfold State.nextCkpt
  split
  · exact ⟨started.1, started.2, keepsEvents_startCkpt s⟩
  · exact ⟨rfl, rfl, .refl⟩

theorem finishCkpt_spec (x : Nat) (clean : Bool) (wf : s.wf = true) : (s.finishCkpt x clean).map.ckptJsn = x ∧
    (s.finishCkpt x clean).map.lastCkptNs = s.time.opNs ∧ (s.finishCkpt x clean).rd.saved = s.rd.poison ∧
    (s.finishCkpt x clean).evtSet Ev.mapCkptDone := by
  unfold State.finishCkpt
  extract_lets +onlyGivenNames taken record pushed written drained seq fmt map upk rd cry ended
  have drainedEv : s.evolves drained [.regs, .pmc, .evt, .host, .map, .upk, .out] :=
    ev_step (ev_step (ev_step (ev_step ev_refl (State.takeImage_ev _) rfl) (State.pushRec_ev ..) rfl) (State.writeJnl_ev _) rfl)
      (State.jnlDrain_ev ..) rfl
  have poison : drained.rd = s.rd := evolves_get drainedEv .rd rfl
  have time : drained.time = s.time := evolves_get drainedEv .time rfl
  have drainedWf := drainedEv.2 wf
  clear_value drained
  have endedEv : drained.evolves ended [.map, .upk, .rd, .cry] :=
    ev_updW ev_refl id id MapState.wf_upd id (fun w => by dsimp only [CryState.wf]; exact Tab.wf_mapVals _ _ _ w) id id
      id id
      (fun z => (UpkState.wf_iff _).mpr (by
        obtain ⟨⟨⟨bolts, groups⟩, saved⟩, -⟩ := (UpkState.wf_iff _).mp z
        exact ⟨⟨⟨bolts, groups⟩, saved⟩, rfl⟩))
      (by intro p; cases p <;> first | exact .inl (by decide) | exact .inr rfl | exact .inr ⟨rfl, rfl⟩)
  have countedWf : (ended.countCleanups x).wf = true := (State.countCleanups_ev ..).2 (endedEv.2 drainedWf)
  have after : (ended.countCleanups x).evolves (((ended.countCleanups x).raise Ev.mapCkptDone).count 0x306 0 1)
      [.regs, .pmc, .evt, .host] := ev_step (ev_step ev_refl (State.raise_ev ..) rfl) (State.count_ev ..) rfl
  have sameMap : (((ended.countCleanups x).raise Ev.mapCkptDone).count 0x306 0 1).map = ended.map := evolves_get after .map rfl
  have sameRd : (((ended.countCleanups x).raise Ev.mapCkptDone).count 0x306 0 1).rd = ended.rd := evolves_get after .rd rfl
  rw [sameMap, sameRd]
  refine ⟨rfl, congrArg (fun u => u.opNs) time, congrArg ReadState.poison poison, ?_⟩
  exact (keepsEvents_count ..).evtSet (wf_raise _ _ countedWf) (evtSet_raise _ _ countedWf (by decide))

theorem exec_checkpointDone {c : Ckpt} (wf : s.wf = true) (core : s.pwr.coreOn = true) (map : s.map.st = .active)
    (noFlush : s.wp.flush = none) (running : s.map.ckpt = some c) (ready : s.ckptReady c.x = true) : ∃ t,
      exec (.checkpointDone) s = .next t ∧ t.map.ckptJsn = c.x ∧ t.map.lastCkptNs = s.time.opNs ∧ t.rd.saved = s.rd.poison ∧
      t.evtSet Ev.mapCkptDone := by
  obtain ⟨jsn, at_, saved, reported⟩ := finishCkpt_spec (s := s.begin) c.x false wf
  have finishedWf := (State.finishCkpt_ev s.begin c.x false).2 wf
  have run : exec (.checkpointDone) s = .next (s.begin.finishCkpt c.x false).nextCkpt := by
    refine (congrArg done (when_true (by simp [core, map, noFlush]))).trans ?_
    rw [State.begin_map, running]
    exact congrArg Host.Outcome.next (if_pos ready)
  generalize s.begin.finishCkpt c.x false = t at *
  obtain ⟨ckptJsn, lastCkptNs, keeps⟩ := nextCkpt_keeps t
  exact ⟨_, run, ckptJsn.trans jsn, lastCkptNs.trans at_, (congrArg ReadState.saved (evolves_get (State.nextCkpt_ev t) .rd rfl)).trans saved,
    keeps.evtSet finishedWf reported⟩

end Journal

/-- Settles O17: stripes, their records, the journal and checkpoints. -/
theorem stripeAndJournalCommands : Obligations.StripeAndJournalCommands := by
  unfold Obligations.StripeAndJournalCommands
  refine ⟨fun _ _ _ wf small core oldest => exec_stripeTimeout wf small core oldest, fun _ _ _ wf ready => exec_padNow wf ready,
    fun _ _ _ v wf _ ready => exec_plyAdmitOff v wf ready, fun _ _ _ wf _ ready => exec_plyCntClr wf ready,
    fun _ _ _ _ wf core map first lines kind current unrecorded noTag noEpoch present free room clean =>
      exec_mapRecordAppend wf core map first lines ⟨kind, current, unrecorded, noTag, noEpoch, present, free, room, clean⟩,
    fun _ _ _ _ _ _ wf core map held first block lines kind current unrecorded noTag noEpoch present free room clean =>
      exec_mapDirtyWaitResume wf core map held first block lines
        ⟨kind, current, unrecorded, noTag, noEpoch, present, free, room, clean⟩,
    fun _ core held => exec_journalLineTimeout core held, fun _ _ _ core lines => exec_journalLineDurable core lines,
    fun s core map idle due => ⟨_, congrArg done (when_true (by simp [core, map, due])), startCkpt_idle (s := s.begin) idle⟩,
    fun s core map idle due => ⟨_, congrArg done (when_true (by simp [core, map, due])), startCkpt_idle (s := s.begin) idle⟩,
    fun _ _ ready map idle => exec_ckptNow ready map idle,
    fun _ _ wf core map noFlush running ready => exec_checkpointDone wf core map noFlush running ready,
    fun s _ wf ready => ⟨_, congrArg done (barWrite_ready ready), reg_setReg_same s.begin _ _ wf, keepsRegs_setReg s.begin _ _⟩⟩
end Sys2Proof.Machine

/-!
PROOF. The fills, rebuilds, write-backs and prefetches of the map cache, and the gap moves of the Selvage rotation.
-/
namespace Sys2Proof.Machine
set_option Elab.async false
open Sys2Proof

section MapCache
variable {s : State}

/-- An installed line is present. -/
theorem mpresent_minstall (s : State) (kind idx : Nat) : (s.minstall kind idx).mpresent kind idx = true := by
  unfold State.minstall
  split
  case isTrue present => exact present
  case isFalse => simp [State.mpresent, State.mslot, State.mtouch]

theorem mpresent_congr {t : State} (kind idx : Nat) (same : t.map = s.map) : t.mpresent kind idx = s.mpresent kind idx := by
  unfold State.mpresent State.mslot; rw [same]

theorem mpresent_fillIn (s : State) (kind idx : Nat) : (s.fillIn kind idx).mpresent kind idx = true := mpresent_minstall _ kind idx

/-- A fill that is in leaves the table of fills; of the rest of the map only the cache changes. -/
theorem map_fillIn (s : State) (kind idx : Nat) : ∃ cached plru stamp, (s.fillIn kind idx).map = { s.map with
    cached := cached, plru := plru, stamp := stamp, fills := s.map.fills.filter fun f => !(decide (f.kind = kind ∧ f.idx = idx)) } := by
  unfold State.fillIn
  exact map_minstall _ kind idx

theorem exec_mapFill_tag {i : Nat} (core : s.pwr.coreOn = true) (map : s.map.st = .active) (can : s.fillCan 3 i = true) :
    exec (.mapFill 3 i true) s = .next (s.begin.fillIn 3 i) :=
  congrArg done (when_true (by simp [core, map, can]))

/-- A directory line no copy of which could be read waits for its rebuild. -/
theorem exec_mapFill_dirLost {i : Nat} (wf : s.wf = true) (core : s.pwr.coreOn = true) (map : s.map.st = .active)
    (can : s.fillCan 1 i = true) : ∃ t, exec (.mapFill 1 i false) s = .next t ∧ t.map.dirLost = s.map.dirLost ++ [i] ∧
    t.evtSet Ev.mapSlvLost := by
  have absent : s.map.dirLost.contains i = false := by
    unfold State.fillCan at can
    rw [Bool.and_eq_true] at can
    exact Bool.not_eq_true' _ |>.mp can.2
  have run : exec (.mapFill 1 i false) s = .next (s.begin.fillFailed 1 i) :=
    congrArg done (when_true (by simp [core, map, can]))
  have failed : s.begin.fillFailed 1 i =
      ({ s.begin with map := { s.begin.map with dirLost := s.map.dirLost ++ [i] } } : State).raiseN Ev.mapSlvLost 0 (mapKey 1 i) :=
    if_neg (show ¬ s.map.dirLost.contains i = true by simp only [absent, Bool.false_eq_true, not_false_eq_true])
  refine ⟨_, run.trans (congrArg _ failed), ?_, ?_⟩
  · rw [State.raiseN_map]
  · exact evtSet_raiseN _ _ _ _ (by exact wf) (by decide)

/-- With no fill of a map line waiting, a filled directory line sets nothing free. -/
theorem mapFilled_dir_idle {i : Nat} (idle : s.map.fills.all (fun f => f.kind != 0) = true) : s.mapFilled 1 i = s.fillIn 1 i := by
  have none : (s.fillIn 1 i).unwrittenFills 1 i = [] := by
    obtain ⟨_, _, _, filled⟩ := map_fillIn s 1 i
    unfold State.unwrittenFills
    rw [filled]
    simp only [if_true]
    rw [List.filterMap_eq_nil_iff]
    intro f listed
    have kind : f.kind ≠ 0 := by simpa using List.all_eq_true.mp idle f (List.mem_of_mem_filter listed)
    simp [kind]
  unfold State.mapFilled
  dsimp only
  rw [none]
  rfl

theorem exec_dirRebuildDone {i : Nat} (wf : s.wf = true) (core : s.pwr.coreOn = true) (dir : i < s.intmapBase)
    (lost : s.map.dirLost.contains i = true) (idle : s.map.fills.all (fun f => f.kind != 0) = true) : ∃ t,
    exec (.dirRebuildDone i) s = .next t ∧ t.map.dirLost = s.map.dirLost.filter (fun l => l != i) ∧ t.mpresent 1 i = true ∧
    t.evtSet Ev.mapDirRebuildDone := by
  have dir' : i < s.begin.intmapBase := dir
  let u : State := { s.begin with map := { s.begin.map with dirLost := s.map.dirLost.filter fun l => l != i } }
  have run : exec (.dirRebuildDone i) s = .next ((u.fillIn 1 i).raiseN Ev.mapDirRebuildDone 0 (mapKey 1 i)) := by
    refine (congrArg done (when_true (by simp [core]; simpa using lost))).trans (congrArg Host.Outcome.next ?_)
    simp only [if_pos dir']
    exact congrArg (fun t : State => t.raiseN Ev.mapDirRebuildDone 0 (mapKey 1 i)) (mapFilled_dir_idle (s := u) idle)
  refine ⟨_, run, ?_, ?_, ?_⟩
  · obtain ⟨_, _, _, filled⟩ := map_fillIn u 1 i
    rw [State.raiseN_map, filled]
  · exact (mpresent_congr 1 i (State.raiseN_map ..)).trans (mpresent_fillIn u 1 i)
  · exact evtSet_raiseN _ _ _ _ ((State.fillIn_ev u 1 i).2 wf) (by decide)

/-- The line the cleaner's search settles on is the start or one of those searched. -/
theorem foldl_oldest_mem (l : List MSlot) (b : Option MSlot) (x : MSlot) (found : l.foldl (fun b x => match b with
    | some y => if x.oldest < y.oldest then some x else some y
    | none => some x) b = some x) : b = some x ∨ x ∈ l := by
  induction l generalizing b with
  | nil => exact .inl found
  | cons y l ih =>
    rcases ih _ found with step | later
    · cases b with
      | none => exact .inr (by simp_all)
      | some z =>
        dsimp only at step
        split at step
        · exact .inr (by simp_all)
        · exact .inl step
    · exact .inr (List.mem_cons_of_mem _ later)

/-- What the cleaner takes is in the map cache. -/
theorem mclean_cached {x : MSlot} (next : s.mclean = some x) : x ∈ s.map.cached := by
  unfold State.mclean at next
  extract_lets +onlyGivenNames cand full due l at next
  have listed : x ∈ l := by
    rcases foldl_oldest_mem l none x next with bad | listed
    · cases bad
    · exact listed
  have inCand : x ∈ cand := by
    subst l
    split at listed
    · subst full
      split at listed
      · cases listed
      · exact List.mem_of_mem_filter listed
    · split at listed
      · exact listed
      · cases listed
  exact List.mem_of_mem_filter inCand

/-- A line of the map cache that is cleaned is present and clean. -/
theorem mslot_mcleaned {x : MSlot} (cached : x ∈ s.map.cached) :
    ((s.mcleaned x).mslot x.kind x.idx).map (fun y => y.dirty) = some false := by
  unfold State.mcleaned State.mupdate State.mslot
  dsimp only
  generalize s.map.cached = l at cached
  induction l with
  | nil => cases cached
  | cons y l ih =>
    by_cases same : y.kind = x.kind ∧ y.idx = x.idx
    · simp [same]
    · have later : x ∈ l := by
        rcases List.mem_cons.mp cached with first | later
        · exact absurd (by simp [first]) same
        · exact later
      rw [List.map_cons, if_neg same, List.find?_cons_of_neg (by simpa using same)]
      exact ih later

theorem exec_mapCleaner_dir {x : MSlot} (core : s.pwr.coreOn = true) (map : s.map.st = .active) (next : s.mclean = some x)
    (kind : x.kind = 1) : ∃ t, exec .mapCleaner s = .next t ∧ (t.mslot 1 x.idx).map (fun y => y.dirty) = some false ∧
    t.out = [.selvageWrite x.idx 1] := by
  have next' : s.begin.mclean = some x := next
  have run : exec .mapCleaner s = .next ((s.begin.mcleaned x).selvage x.idx 1) := by
    refine (congrArg done (when_true (by simp [core, map]))).trans ?_
    rw [next']
    exact congrArg Host.Outcome.next (if_pos kind)
  refine ⟨_, run, ?_, rfl⟩
  have clean := mslot_mcleaned (s := s.begin) (mclean_cached next')
  rw [kind] at clean
  exact clean

/-- A line whose fetch was started is present, or its fill runs; of the map only the fills may change. -/
theorem mfetch_spec (s : State) (kind idx : Nat) : (∃ fills, (s.mfetch kind idx).map = { s.map with fills := fills }) ∧
    ((s.mfetch kind idx).mpresent kind idx = true ∨
      (s.mfetch kind idx).map.fills.any (fun f => decide (f.kind = kind ∧ f.idx = idx)) = true) := by
  unfold State.mfetch
  split
  case isTrue held => exact ⟨⟨_, rfl⟩, held⟩
  case isFalse => exact ⟨⟨_, rfl⟩, .inr (by simp)⟩

theorem exec_mapPrefetch {l a : Nat} (core : s.pwr.coreOn = true) (queued : s.map.pfq.any (fun p => p.1 == l) = true)
    (dir : s.dirAt l = some a) (near : s.turnHint (addrSkein a) clsMet true ≤ s.fld F.mapPfCfgHintMax)
    (free : (s.warp1 (addrSkein a)).rq.any (fun r => r.cls == clsMet && !r.pf) = false) : ∃ t,
    exec (.mapPrefetch l) s = .next t ∧ t.map.pfq = s.map.pfq.filter (fun p => p.1 != l) ∧
    (t.mpresent 0 l || t.map.fills.any fun f => decide (f.kind = 0 ∧ f.idx = l)) = true := by
  have dir' : s.begin.dirAt l = some a := dir
  have go : ¬ (s.begin.fld F.mapPfCfgHintMax < s.begin.turnHint (addrSkein a) clsMet true ∨
      (s.begin.warp1 (addrSkein a)).rq.any (fun r => r.cls == clsMet && !r.pf) = true) := by
    rintro (late | busy)
    · exact absurd near (Nat.not_le.mpr late)
    · exact Bool.false_ne_true (free.symm.trans busy)
  let u : State := { s.begin with map := { s.begin.map with pfq := s.map.pfq.filter fun p => p.1 != l } }
  have run : exec (.mapPrefetch l) s = .next ((u.mfetch 0 l).count 0x303 0 1) := by
    refine (congrArg done (when_true (by simp only [core, queued, Bool.and_self]))).trans ?_
    rw [dir']
    exact congrArg Host.Outcome.next (if_neg go)
  obtain ⟨⟨_, fetched⟩, started⟩ := mfetch_spec u 0 l
  refine ⟨_, run, ?_, ?_⟩
  · rw [State.count_map, fetched]
  · rw [mpresent_congr 0 l (State.count_map ..), State.count_map, Bool.or_eq_true]
    exact started

theorem region_congr {t : State} (n half : Nat) (same : t.map = s.map) : t.region n half = s.region n half := by
  unfold State.region; rw [same]

theorem exec_sgGapMove {n half : Nat} (core : s.pwr.coreOn = true) (used : s.populated n = true) (half2 : half < 2)
    (due : s.fld F.mapSgCfgPsi ≤ (s.region n half).writes) (still : (s.region n half).moving = false)
    (thawed : (s.region n half).frozen = false) : ∃ t, exec (.sgGapMove n half) s = .next t ∧
    t.region n half = { s.region n half with moving := true } := by
  refine ⟨_, congrArg done (when_true (by simp [core, used, half2, due, still, thawed])), ?_⟩
  unfold State.setRegion
  exact (congrArg (fun t => Tab.get _ t _) (if_neg (by simp [Region.fresh]))).trans (Tab.get_put_same ..)

/-- The region after a gap move whose GAP was `gap`, of `rows` rows. -/
def Region.moved (r : Region) (gap rows : Nat) : Region :=
  if 0 < gap then { r with gap := some (gap - 1), writes := 0, moving := false }
  else { r with gap := none, start := (r.start + 1) % rows, writes := 0, moving := false }

theorem exec_gapMoveDone {n half : Nat} (canonical : Tab.wf (fun _ => Region.fresh) s.map.regions = true)
    (core : s.pwr.coreOn = true) (moving : (s.region n half).moving = true) : ∃ t, exec (.gapMoveDone n half) s = .next t ∧
    t.region n half = (s.region n half).moved (s.gapOf (s.region n half)) s.rows :=
  ⟨_, congrArg done (when_true (by simp [core, moving])),
    (region_congr n half (State.bump_map ..)).trans (Tab.get_set_same _ _ _ _ canonical)⟩

end MapCache

/-- Settles O18. -/
theorem mapCacheCommands : Obligations.MapCacheCommands := by
  unfold Obligations.MapCacheCommands
  refine ⟨?_, ?_, ?_, ?_, ?_, ?_, ?_, ?_⟩
  · intro s i core map can
    refine ⟨_, exec_mapFill_tag core map can, ?_, mpresent_fillIn _ 3 i⟩
    obtain ⟨_, _, _, filled⟩ := map_fillIn s.begin 3 i
    rw [filled, State.begin_map]
  · intro s i wf core map can
    exact exec_mapFill_dirLost wf core map can
  · intro s i wf core dir lost idle
    exact exec_dirRebuildDone wf core dir lost idle
  · intro s x core map next kind
    exact exec_mapCleaner_dir core map next kind
  · intro s l a core queued dir near free
    exact exec_mapPrefetch core queued dir near free
  · intro s l core
    exact ⟨_, congrArg done (when_true core), rfl, rfl, rfl, 
      (ev_map (L := [.map, .out]) (ev_step ev_refl (State.begin_ev s) rfl) rfl MapState.wf_upd).1⟩
  · intro s n half core used half2 due still thawed
    exact exec_sgGapMove core used half2 due still thawed
  · intro s n half canonical core moving
    obtain ⟨t, run, region⟩ := exec_gapMoveDone (s := s) canonical core moving
    refine ⟨t, run, ?_⟩
    rw [region]
    unfold Region.moved
    by_cases above : 0 < s.gapOf (s.region n half)
    · rw [if_pos above]
      exact ⟨rfl, rfl, fun _ => rfl, fun zero => absurd zero (Nat.ne_of_gt above)⟩
    · rw [if_neg above]
      exact ⟨rfl, rfl, fun pos => absurd pos above, fun _ => ⟨rfl, rfl⟩⟩

end Sys2Proof.Machine

/-!
PROOF. What reporting, counting and the map's own operations leave of the register stores: every register but those of the
event blocks, the performance counters, the recorder's counter and the two counters of upkeep.
-/
namespace Sys2Proof.Machine
set_option Elab.async false
open Sys2Proof

/-- A register that neither an event, nor a performance counter, nor a retirement, nor the end of a bolt writes, outside the pages
of the Notion store, the recorder and the key vault, whose counters any operation may move, and but for the fault manager's own
counters. -/
def quietReg (off : Nat) : Bool :=
  decide (off < 0x30000) && off % 0x1000 != 0x20 && off % 0x1000 != 0x38 && off % 0x1000 != 0x40 &&
    !([4, 5, 7].contains (off / 0x1000)) && !([0x8158, 0x8160, 0x8168, 0xB128, 0xB198, 0xB1A0].contains off) &&
    !(decide (0x20000 ≤ off) && off % 0x1000 == 0x108)

/-- Every event set in `s` is set in `t`, and every quiet register is as in `s`. -/
structure State.reportsOnly (s t : State) : Prop where
  reg : ∀ {off : Nat}, quietReg off = true → t.reg off = s.reg off
  events : s.keepsEvents t

section Reports
variable {s t u : State}

theorem State.reportsOnly.refl : s.reportsOnly s := ⟨fun _ => rfl, .refl⟩

theorem State.reportsOnly.trans (a : s.reportsOnly t) (b : t.reportsOnly u) : s.reportsOnly u :=
  ⟨fun quiet => (b.reg quiet).trans (a.reg quiet), a.events.trans b.events⟩

theorem State.reportsOnly.fld (a : s.reportsOnly t) {f : Fld} (quiet : quietReg f.off = true) : t.fld f = s.fld f :=
  fld_of_reg (a.reg quiet)

theorem State.reportsOnly.wf (a : s.reportsOnly t) (wf : s.wf = true) : t.wf = true := a.events.wf wf

theorem State.reportsOnly.evtSet (a : s.reportsOnly t) (wf : s.wf = true) {e : Evt} (set : s.evtSet e) : t.evtSet e :=
  a.events.evtSet wf set

theorem State.reportsOnly.of_evolves {L : List Piece} (a : s.evolves t L) (noRegs : L.contains .regs = false := by rfl)
    (noPmc : L.contains .pmc = false := by rfl) : s.reportsOnly t :=
  ⟨fun {off} _ => reg_evolves a noRegs noPmc off, .of_evolves a noRegs noPmc⟩

theorem State.reportsOnly.of_same (regs : t.regs = s.regs) (pmc : t.pmc = s.pmc) (wf : s.wf = true → t.wf = true) : s.reportsOnly t :=
  ⟨fun {off} _ => by unfold State.reg; rw [regs, pmc], .of_same regs pmc wf⟩

theorem State.reportsOnly.foldl {α : Type} {f : State → α → State} (step : ∀ (t : State) (x : α), t.reportsOnly (f t x)) (l : List α)
    (s : State) : s.reportsOnly (l.foldl f s) := by
  induction l generalizing s with
  | nil => exact .refl
  | cons x l ih => exact (step s x).trans (ih _)

theorem State.reportsOnly.ite {c : Prop} [Decidable c] (a : s.reportsOnly t) (b : s.reportsOnly u) :
    s.reportsOnly (if c then t else u) := by
  split <;> assumption

theorem reportsOnly_setReg (s : State) {off : Nat} (loud : quietReg off = false) (notSts : off % 0x1000 ≠ 0x20) (v : Word) :
    s.reportsOnly (s.setReg off v) where
  reg quiet := reg_setReg_other _ _ _ _ fun same => by rw [same, loud] at quiet; cases quiet
  events := keepsEvents_setReg s notSts v

theorem reportsOnly_bump (s : State) {f : Fld} (loud : quietReg f.off = false) (notSts : f.off % 0x1000 ≠ 0x20) (k : Nat) :
    s.reportsOnly (s.bump f k) := reportsOnly_setReg s loud notSts _

theorem quietReg_not_evt {off : Nat} (quiet : quietReg off = true) (e : Evt) : off ∉ e.regs := by
  have page := stsOff_inPage e
  simp only [quietReg, Bool.and_eq_true, decide_eq_true_eq, bne_iff_ne, ne_eq,
    Bool.not_eq_true', List.contains_eq_mem, decide_eq_false_iff_not, List.mem_cons, List.not_mem_nil, or_false, not_or] at quiet
  simp only [Evt.regs, List.mem_cons, List.not_mem_nil, or_false, not_or]
  omega

theorem reportsOnly_raiseAt (s : State) (e : Evt) (info addr : Word) : s.reportsOnly (s.raiseAt e info addr) where
  reg quiet := reg_raiseAt_other _ _ _ _ _ (quietReg_not_evt quiet e)
  events := keepsEvents_raiseAt s e info addr

theorem reportsOnly_raise (s : State) (e : Evt) : s.reportsOnly (s.raise e) := reportsOnly_raiseAt s e _ _

theorem reportsOnly_raiseN (s : State) (e : Evt) (info addr : Nat) : s.reportsOnly (s.raiseN e info addr) :=
  reportsOnly_raiseAt s e _ _

theorem reportsOnly_raiseIf (s : State) (c : Bool) (e : Evt) : s.reportsOnly (s.raiseIf c e) :=
  .ite (reportsOnly_raise s e) .refl

theorem reportsOnly_count (s : State) (ev inst n : Nat) : s.reportsOnly (s.count ev inst n) where
  reg {off} quiet := by
    simp only [quietReg, Bool.and_eq_true, decide_eq_true_eq, bne_iff_ne, ne_eq,
    Bool.not_eq_true', List.contains_eq_mem, decide_eq_false_iff_not, List.mem_cons, List.not_mem_nil, or_false, not_or] at quiet
    obtain ⟨⟨⟨⟨⟨⟨low, -⟩, -⟩, -⟩, page⟩, -⟩, -⟩ := quiet
    have other : off ≠ 0x5130 := fun same => page.2.1 (by rw [same])
    exact (countInvariant_reg (s.reg off) low other).count rfl ev inst n
  events := keepsEvents_count s ev inst n

/-! ### Bolts -/

theorem reportsOnly_endUnknown (s : State) : s.reportsOnly s.endUnknown := by
  unfold State.endUnknown
  refine .ite (.trans ?_ (reportsOnly_raiseN ..)) .refl
  exact .of_evolves (L := [.rd, .upk]) (ev_updW ev_refl id id id id id id id id id UpkState.wf_upd
    (by intro p; cases p <;> first | exact .inl (by decide) | exact .inr rfl | exact .inr ⟨rfl, rfl⟩))

theorem reportsOnly_emptied (s : State) (g : Nat) (p : Option Proc) : s.reportsOnly (s.emptied g p) := by
  unfold State.emptied
  split
  · exact reportsOnly_bump s (by decide) (by decide) 1
  · exact reportsOnly_bump s (by decide) (by decide) 1
  · exact reportsOnly_bump s (by decide) (by decide) 1
  · exact .of_evolves (State.setUpkG_ev ..)
  · exact .refl

theorem reportsOnly_settleBolt (s : State) (g b : Nat) : s.reportsOnly (s.settleBolt g b) := by
  unfold State.settleBolt
  extract_lets +onlyGivenNames x pending ended
  refine .ite ?_ .refl
  have settled : s.reportsOnly ended := .trans (.of_evolves (State.setBolt_ev ..)) (reportsOnly_emptied ..)
  clear_value ended
  exact .ite (settled.trans (reportsOnly_endUnknown _)) settled

theorem reportsOnly_deadAt (s : State) (a : Nat) : s.reportsOnly (s.deadAt a) := by
  unfold State.deadAt
  exact .trans (.of_evolves (State.setBolt_ev ..)) (reportsOnly_settleBolt ..)

/-! ### The journal and MAP records -/

theorem reportsOnly_writeJnl (s : State) : s.reportsOnly s.writeJnl := by
  unfold State.writeJnl
  refine .ite .refl ?_
  extract_lets +onlyGivenNames counted
  have first : s.reportsOnly counted := .trans (.of_evolves (State.selvage_ev ..)) (reportsOnly_count ..)
  clear_value counted
  exact first.trans (.of_same rfl rfl id)

theorem reportsOnly_pushRec (s : State) (r : JRec) : s.reportsOnly (s.pushRec r) := by
  unfold State.pushRec
  extract_lets +onlyGivenNames map pushed counted
  have first : s.reportsOnly pushed := .of_same rfl rfl id
  have second : s.reportsOnly counted := first.trans (reportsOnly_count ..)
  clear_value counted
  exact .ite (second.trans (reportsOnly_writeJnl _)) second

theorem reportsOnly_overflowJnl (s : State) : s.reportsOnly s.overflowJnl := by
  unfold State.overflowJnl
  refine .ite (.trans ?_ (reportsOnly_raiseN ..)) .refl
  exact .of_evolves (L := [.map]) (ev_map ev_refl rfl MapState.wf_upd)

theorem reportsOnly_jnlDurable (s : State) : s.reportsOnly s.jnlDurable := by
  unfold State.jnlDurable
  split
  · exact .refl
  · refine .trans ?_ (reportsOnly_overflowJnl _)
    exact .of_evolves (L := [.map]) (ev_map ev_refl rfl MapState.wf_upd)

theorem reportsOnly_jnlDrain (n : Nat) (s : State) : s.reportsOnly (s.jnlDrain n) := by
  induction n generalizing s with
  | zero => exact .refl
  | succ n ih => exact (reportsOnly_jnlDurable s).trans (ih _)

theorem reportsOnly_release (s : State) (d line : Nat) (old : Entry) : s.reportsOnly (s.release d line old) :=
  .ite (reportsOnly_deadAt ..) .refl

theorem reportsOnly_mapRec (s : State) (d line : Nat) (reloc : Bool) (tag : Option (BitVec 64)) (e : Entry) :
    s.reportsOnly (s.mapRec d line reloc tag e) := by
  unfold State.mapRec
  extract_lets +onlyGivenNames old j record pushed stored tagged live released
  have first : s.reportsOnly pushed := reportsOnly_pushRec ..
  clear_value pushed
  have second : s.reportsOnly stored := first.trans (.of_evolves (State.setEntry_ev ..))
  clear_value stored
  have third : s.reportsOnly tagged := by
    subst tagged
    split
    · exact second.trans (.of_evolves (State.setTag_ev ..))
    · exact second
  clear_value tagged
  have fourth : s.reportsOnly live := .ite (third.trans (.of_evolves (State.liveAt_ev ..))) third
  clear_value live
  have fifth : s.reportsOnly released := fourth.trans (reportsOnly_release ..)
  clear_value released
  have dirtied (t : State) (kind idx : Nat) : t.reportsOnly (t.mdirtied kind idx j) := .of_evolves (State.mdirtied_ev ..)
  exact .ite (.ite ((fifth.trans (dirtied ..)).trans (dirtied ..)) (fifth.trans (dirtied ..))) (fifth.trans (dirtied ..))

theorem reportsOnly_makeLost (s : State) (d line : Nat) (src : PSource) : s.reportsOnly (s.makeLost d line src) := by
  unfold State.makeLost
  extract_lets +onlyGivenNames old lostEntry recorded lostMap lost
  have first : s.reportsOnly recorded := reportsOnly_mapRec ..
  clear_value recorded
  have second : s.reportsOnly lost := first.trans (.of_same rfl rfl id)
  clear_value lost
  exact (second.trans (.of_evolves (State.poisonLine_ev ..))).trans (reportsOnly_raiseN ..)

theorem reportsOnly_loseCovered (s : State) (m : Nat) : s.reportsOnly (s.loseCovered m) :=
  .foldl (fun _ _ => .ite (reportsOnly_makeLost ..) .refl) _ s

theorem reportsOnly_cleanupWalk (s : State) (d : Nat) (bitClears : Bool) (tab : List Undo) :
    s.reportsOnly (s.cleanupWalk d bitClears tab) := by
  unfold State.cleanupWalk
  refine .foldl (fun t x => ?_) _ s
  extract_lets +onlyGivenNames entry cleared
  have first : t.reportsOnly cleared := .ite (.of_evolves (State.setEntry_ev ..)) .refl
  clear_value cleared
  exact .ite first (.ite first (first.trans (reportsOnly_deadAt ..)))

/-! ### Checkpoints -/

theorem reportsOnly_finishCkpt (s : State) (x : Nat) (clean : Bool) : s.reportsOnly (s.finishCkpt x clean) := by
  unfold State.finishCkpt
  extract_lets +onlyGivenNames taken record pushed written drained seq fmt map upk rd cry ended
  have first : s.reportsOnly taken := .of_evolves (State.takeImage_ev _)
  clear_value taken
  have second : s.reportsOnly pushed := first.trans (reportsOnly_pushRec ..)
  clear_value pushed
  have third : s.reportsOnly written := second.trans (reportsOnly_writeJnl _)
  clear_value written
  have fourth : s.reportsOnly drained := third.trans (reportsOnly_jnlDrain ..)
  clear_value drained
  have stored : drained.evolves ended [.map, .upk, .rd, .cry] :=
    ev_updW ev_refl id id MapState.wf_upd id (fun w => by dsimp only [CryState.wf]; exact Tab.wf_mapVals _ _ _ w) id id
      id id
      (fun z => (UpkState.wf_iff _).mpr (by
        obtain ⟨⟨⟨bolts, groups⟩, saved⟩, -⟩ := (UpkState.wf_iff _).mp z
        exact ⟨⟨⟨bolts, groups⟩, saved⟩, rfl⟩))
      (by intro p; cases p <;> first | exact .inl (by decide) | exact .inr rfl | exact .inr ⟨rfl, rfl⟩)
  have fifth : s.reportsOnly ended := fourth.trans (.of_evolves stored)
  clear_value ended
  exact ((fifth.trans (.of_evolves (State.countCleanups_ev ..))).trans (reportsOnly_raise ..)).trans (reportsOnly_count ..)

theorem reportsOnly_startCkpt (s : State) : s.reportsOnly s.startCkpt where
  reg {off} quiet := by
    have journal : s.writeJnl.reg off = s.reg off := (reportsOnly_writeJnl s).reg quiet
    unfold State.startCkpt
    split
    · rfl
    · exact journal
  events := keepsEvents_startCkpt s

theorem reportsOnly_nextCkpt (s : State) : s.reportsOnly s.nextCkpt := .ite (reportsOnly_startCkpt s) .refl

end Reports

end Sys2Proof.Machine

/-!
PROOF. Recovery of the Line Map after power-up (R180, R184 to R187), and the first format (R22, R184).
-/
namespace Sys2Proof.Machine
set_option Elab.async false
open Sys2Proof

section Recovery
variable {s : State}

/-- The map has failed to load. -/
def State.mapFailed (s : State) : State := { s with map := { s.map with st := .failed } }

/-- The map as the anchor and the saved image describe it, to be replayed or, after a clean stop, only closed. -/
def State.loadedFrom (s : State) (a : Anchor) : State :=
  { s.loadImage with map := { s.loadImage.map with
      st := if a.clean then .closing else .replaying, dirtyRecovery := !a.clean
      anchor := some { a with clean := false, seq := a.seq + 1 } } }

theorem exec_lineMapLoaded {a : Anchor} (core : s.pwr.coreOn = true) (loading : s.map.st = .loading)
    (anchor : s.map.anchor = some a) (fits : s.fmtMismatch = false) : ∃ t, exec .lineMapLoaded s = .next t ∧
    t.map.st = (if a.clean then .closing else .replaying) ∧ t.map.anchor = some { a with clean := false, seq := a.seq + 1 } ∧
    t.rd.poison = s.rd.saved := by
  have fits' : ¬ s.begin.fmtMismatch = true := fun bad => Bool.false_ne_true (fits.symm.trans bad)
  refine ⟨s.begin.loadedFrom a, (congrArg done (when_true (by simp [core, loading]))).trans ?_, rfl, rfl, rfl⟩
  rw [State.begin_map, anchor]
  exact congrArg Host.Outcome.next (if_neg fits')

theorem exec_lineMapLoaded_none (wf : s.wf = true) (core : s.pwr.coreOn = true) (loading : s.map.st = .loading)
    (anchor : s.map.anchor = none) : ∃ t, exec .lineMapLoaded s = .next t ∧ t.map.st = .failed ∧ t.evtSet Ev.mapRecoveryFail := by
  refine ⟨s.begin.mapFailed.raise Ev.mapRecoveryFail, (congrArg done (when_true (by simp [core, loading]))).trans ?_, ?_, ?_⟩
  · rw [State.begin_map, anchor]
    rfl
  · rw [State.raise_map]
    rfl
  · exact evtSet_raise _ _ wf (by decide)

/-! ### Replay and the scan of the open bolts -/

/-- The durable records from number `n` on are taken back, and the scan is next. -/
def State.replayCut (s : State) (n : Nat) : State :=
  let t := (s.map.jlog.drop n).reverse.foldl State.unrecord s
  { t with map := { t.map with jlog := s.map.jlog.take n, st := .scanning } }

/-- The records below number `n` are replayed and counted. -/
def State.replayed (s : State) (n : Nat) : State :=
  ((s.map.jlog.take n).foldl State.replayRec (s.replayCut n)).setFld F.mapRecoveryRecordsK
    (min (2 ^ 20 - 1) ((s.map.jlog.take n).length / 1024))

theorem replayCut_evolves (s : State) (n : Nat) : s.evolves (s.replayCut n) [.map, .upk] :=
  ev_map (ev_foldl ev_refl fun _ _ e => ev_step e (State.unrecord_ev ..) rfl) rfl MapState.wf_upd

theorem replay_evolves (s : State) (l : List JRec) : s.evolves (l.foldl State.replayRec s) [.upk] :=
  ev_foldl ev_refl fun _ _ e => ev_step e (State.replayRec_ev ..) rfl

theorem map_replayed (s : State) (n : Nat) : (s.replayed n).map = (s.replayCut n).map :=
  (State.setFld_map ..).trans (evolves_get (replay_evolves ..) .map rfl)

theorem fld_replayed (n : Nat) (wf : s.wf = true) :
    (s.replayed n).fld F.mapRecoveryRecordsK = min (2 ^ 20 - 1) ((s.map.jlog.take n).length / 1024) :=
  fld_setFld_same _ _ _ ((replay_evolves ..).2 ((replayCut_evolves s n).2 wf)) (by decide) (by decide)
    (by simp only [F.mapRecoveryRecordsK]; omega)

theorem wf_replayed (n : Nat) (wf : s.wf = true) : (s.replayed n).wf = true :=
  (State.setFld_ev ..).2 ((replay_evolves ..).2 ((replayCut_evolves s n).2 wf))

theorem exec_journalReplayDone (u : Nat) (wf : s.wf = true) (core : s.pwr.coreOn = true) (replaying : s.map.st = .replaying) : ∃ t,
    exec (.journalReplayDone u) s = .next t ∧ t.map.st = .scanning ∧ t.map.jlog = s.map.jlog.take (s.map.jlog.length - u) ∧
    t.fld F.mapRecoveryRecordsK = min (2 ^ 20 - 1) (t.map.jlog.length / 1024) ∧ (u = 0 → t.map.ent = s.map.ent) ∧
    (0 < u ∧ s.map.jlog ≠ [] → t.evtSet Ev.mapJnlLineLost) := by
  let n := s.map.jlog.length - u
  let t := (s.begin.replayed n).raiseIf (decide (s.map.jlog.drop n ≠ [])) Ev.mapJnlLineLost
  have run : exec (.journalReplayDone u) s = .next t := congrArg done (when_true (by simp [core, replaying]))
  have map : t.map = (s.begin.replayCut n).map := (State.raiseIf_map ..).trans (map_replayed ..)
  have fld : t.fld F.mapRecoveryRecordsK = min (2 ^ 20 - 1) ((s.map.jlog.take n).length / 1024) :=
    ((reportsOnly_raiseIf ..).fld (by decide)).trans (fld_replayed (s := s.begin) n wf)
  refine ⟨t, run, ?_, ?_, ?_, fun zero => ?_, fun ⟨lost, held⟩ => ?_⟩
  · rw [map]
    rfl
  · rw [map]
    rfl
  · rw [fld, map]
    rfl
  · rw [map]
    have all : s.map.jlog.drop n = [] := by simp [n, zero]
    simp [State.replayCut, all]
  · have gone : s.map.jlog.drop n ≠ [] := by
      have := List.length_pos_iff.mpr held
      simp only [ne_eq, List.drop_eq_nil_iff, n]
      omega
    have raised : t = (s.begin.replayed n).raise Ev.mapJnlLineLost := if_pos (decide_eq_true gone)
    rw [raised]
    exact evtSet_raise _ _ (wf_replayed (s := s.begin) n wf) (by decide)

theorem exec_openBoltScanDone (n : Nat) (wf : s.wf = true) (core : s.pwr.coreOn = true) (scanning : s.map.st = .scanning) : ∃ t,
    exec (.openBoltScanDone n) s = .next t ∧ t.map.st = .closing ∧ t.fld F.mapRecoveryOrphans = min (2 ^ 24 - 1) n := by
  refine ⟨_, congrArg done (when_true (by simp [core, scanning])), rfl, ?_⟩
  extract_lets +onlyGivenNames closed left settled noted
  have closedEv : s.begin.evolves closed [.regs, .pmc, .evt, .host, .map, .wp, .rd, .warp, .upk, .out] := by
    refine ev_foldl ev_refl fun t g e => ev_foldl e fun t p e => ?_
    dsimp only
    split
    · exact e
    · exact ev_step (ev_step e (State.setBolt_ev ..) rfl) (State.closeBolt_ev ..) rfl
  clear_value closed
  have settledEv : s.begin.evolves settled [.regs, .pmc, .evt, .host, .map, .wp, .rd, .warp, .upk, .out] :=
    ev_foldl closedEv fun _ _ e => ev_step (ev_step e (State.setBolt_ev ..) rfl) (State.settleBolt_ev ..) rfl
  exact fld_setFld_same settled F.mapRecoveryOrphans _ (settledEv.2 wf) (by decide) (by decide)
    (by simp only [F.mapRecoveryOrphans]; omega)

/-! ### The closing checkpoint -/

theorem layout_pushRec (s : State) (r : JRec) : (s.pushRec r).map.ent = s.map.ent ∧ (s.pushRec r).map.fmt = s.map.fmt := by
  obtain ⟨_, _, _, _, _, _, same⟩ := map_pushRec s r
  exact ⟨by rw [same], by rw [same]⟩

theorem map_jnlDurable (s : State) : s.jnlDurable.map.ent = s.map.ent ∧ s.jnlDurable.map.fmt = s.map.fmt := by
  unfold State.jnlDurable
  split
  · exact ⟨rfl, rfl⟩
  next l ls _ =>
    obtain ⟨_, same⟩ := map_overflowJnl { s with map := { s.map with
      jlines := ls, jlog := s.map.jlog ++ l, durJsn := max s.map.durJsn ((l.getLast?.map JRec.jsn).getD 0) } }
    exact ⟨by rw [same], by rw [same]⟩

theorem map_jnlDrain (s : State) (n : Nat) : (s.jnlDrain n).map.ent = s.map.ent ∧ (s.jnlDrain n).map.fmt = s.map.fmt := by
  induction n generalizing s with
  | zero => exact ⟨rfl, rfl⟩
  | succ n ih => exact ⟨(ih _).1.trans (map_jnlDurable s).1, (ih _).2.trans (map_jnlDurable s).2⟩

/-- The last checkpoint's own part of the map's state. -/
theorem map_finishCkpt (s : State) (x : Nat) (clean : Bool) : (s.finishCkpt x clean).map.ent = s.map.ent ∧
    (s.finishCkpt x clean).map.fmt = s.map.fmt ∧ ((s.finishCkpt x clean).map.anchor.map fun a => a.clean) = some clean := by
  unfold State.finishCkpt
  extract_lets +onlyGivenNames taken record pushed written drained seq fmt map upk rd cry ended
  have takenMap : taken.map = s.map := evolves_get (State.takeImage_ev s) .map rfl
  have pushedMap : pushed.map.ent = taken.map.ent ∧ pushed.map.fmt = taken.map.fmt := layout_pushRec ..
  have writtenMap : written.map.ent = pushed.map.ent ∧ written.map.fmt = pushed.map.fmt := by
    obtain ⟨_, _, _, same⟩ := map_writeJnl pushed
    exact ⟨by rw [same], by rw [same]⟩
  have drainedMap : drained.map.ent = written.map.ent ∧ drained.map.fmt = written.map.fmt := map_jnlDrain ..
  have after : (ended.countCleanups x).evolves (((ended.countCleanups x).raise Ev.mapCkptDone).count 0x306 0 1)
      [.regs, .pmc, .evt, .host] := ev_step (ev_step ev_refl (State.raise_ev ..) rfl) (State.count_ev ..) rfl
  have sameMap : (((ended.countCleanups x).raise Ev.mapCkptDone).count 0x306 0 1).map = ended.map := evolves_get after .map rfl
  rw [sameMap]
  refine ⟨?_, ?_, rfl⟩
  · exact (drainedMap.1.trans writtenMap.1).trans (pushedMap.1.trans (congrArg MapState.ent takenMap))
  · exact (drainedMap.2.trans writtenMap.2).trans (pushedMap.2.trans (congrArg MapState.fmt takenMap))

theorem reportsOnly_resumeCleanups (s : State) : s.reportsOnly s.resumeCleanups := by
  unfold State.resumeCleanups
  refine .foldl (fun t d => ?_) _ s
  dsimp only
  split
  · exact .refl
  · refine .ite (reportsOnly_cleanupWalk ..) (.ite ?_ .refl)
    exact .foldl (fun u x => .ite .refl (.of_evolves (State.setEntry_ev ..))) _ t

theorem reportsOnly_loseHalted (s : State) : s.reportsOnly s.loseHalted := by
  unfold State.loseHalted
  extract_lets +onlyGivenNames open_ lost
  have first : s.reportsOnly lost := .foldl (fun t r => .ite (reportsOnly_makeLost ..) .refl) _ s
  clear_value lost
  exact first.trans (.of_same rfl rfl id)

/-- The time that recovery took, with the counts of the records and the orphans cleared after a clean stop. -/
def State.recoveryTimed (s : State) : State :=
  let t := s.setFld F.mapRecoveryTimeMs (min (2 ^ 20 - 1) ((s.time.opNs - s.map.lastCkptNs) / 1000000))
  if t.map.dirtyRecovery then t else (t.setFld F.mapRecoveryRecordsK 0).setFld F.mapRecoveryOrphans 0

/-- The closing checkpoint of a recovery, with no image of the bolt table taken before. -/
def State.closingCkpt (s : State) : State :=
  let t : State := { s with upk := { s.upk with shot := none } }
  t.writeJnl.finishCkpt t.map.nextJsn false

/-- The map serves, and says so. -/
def State.recovered (s : State) : State := ({ s with map := { s.map with st := .active } } : State).raise Ev.mapRecoveryDone

theorem fld_recoveryTimed (wf : s.wf = true) : s.recoveryTimed.wf = true ∧ s.recoveryTimed.fld F.mapRecoveryTimeMs =
    min (2 ^ 20 - 1) ((s.time.opNs - s.map.lastCkptNs) / 1000000) := by
  unfold State.recoveryTimed
  extract_lets +onlyGivenNames t
  have timed : t.wf = true ∧ t.fld F.mapRecoveryTimeMs = min (2 ^ 20 - 1) ((s.time.opNs - s.map.lastCkptNs) / 1000000) :=
    ⟨(State.setFld_ev ..).2 wf, fld_setFld_same _ _ _ wf (by decide) (by decide) (by simp only [F.mapRecoveryTimeMs]; omega)⟩
  clear_value t
  split
  · exact timed
  · have records := (State.setFld_ev t F.mapRecoveryRecordsK 0).2 timed.1
    refine ⟨(State.setFld_ev ..).2 records, ?_⟩
    rw [fld_setFld_of_apart 0 records (by decide) (by decide) (by decide),
      fld_setFld_of_apart 0 timed.1 (by decide) (by decide) (by decide)]
    exact timed.2

theorem reportsOnly_closingCkpt (s : State) : s.reportsOnly s.closingCkpt := by
  unfold State.closingCkpt
  extract_lets +onlyGivenNames upk t
  have first : s.reportsOnly t := .of_evolves (L := [.upk]) (ev_upk ev_refl rfl fun z => (UpkState.wf_iff _).mpr (by
    obtain ⟨⟨⟨bolts, groups⟩, saved⟩, -⟩ := (UpkState.wf_iff _).mp z
    exact ⟨⟨⟨bolts, groups⟩, saved⟩, rfl⟩))
  clear_value t
  exact (first.trans (reportsOnly_writeJnl _)).trans (reportsOnly_finishCkpt ..)

theorem reportsOnly_recovered (s : State) : s.reportsOnly s.recovered := by
  unfold State.recovered
  refine .trans ?_ (reportsOnly_raise ..)
  exact .of_evolves (L := [.map]) (ev_map ev_refl rfl MapState.wf_upd)

theorem map_nextCkpt_stays (s : State) : s.nextCkpt.map.st = s.map.st ∧ s.nextCkpt.map.anchor = s.map.anchor := by
  have started : s.startCkpt.map.st = s.map.st ∧ s.startCkpt.map.anchor = s.map.anchor := by
    unfold State.startCkpt
    split
    · exact ⟨rfl, rfl⟩
    · obtain ⟨regions, jlines, headPos, written⟩ := map_writeJnl s
      have st : s.writeJnl.map.st = s.map.st := by rw [written]
      have anchor : s.writeJnl.map.anchor = s.map.anchor := by rw [written]
      exact ⟨st, anchor⟩
  unfold State.nextCkpt
  split
  · exact started
  · exact ⟨rfl, rfl⟩

theorem exec_recoveryDone (wf : s.wf = true) (core : s.pwr.coreOn = true) (closing : s.map.st = .closing) : ∃ t,
    exec .recoveryDone s = .next t ∧ t.map.st = .active ∧ (t.map.anchor.map fun a => a.clean) = some false ∧
    t.fld F.mapRecoveryTimeMs = min (2 ^ 20 - 1) ((s.time.opNs - s.map.lastCkptNs) / 1000000) ∧ t.evtSet Ev.mapRecoveryDone := by
  let timed := s.begin.recoveryTimed
  let closed := timed.resumeCleanups.loseHalted.closingCkpt
  let done_ := closed.recovered.raiseIf closed.recovered.map.dirtyRecovery Ev.mapDirtyRecovery
  have run : exec .recoveryDone s = .next done_.nextCkpt := congrArg done (when_true (by simp [core, closing]))
  obtain ⟨timedWf, time⟩ := fld_recoveryTimed (s := s.begin) wf
  have toClosed : timed.reportsOnly closed :=
    ((reportsOnly_resumeCleanups _).trans (reportsOnly_loseHalted _)).trans (reportsOnly_closingCkpt _)
  have toEnd : closed.recovered.reportsOnly done_.nextCkpt := (reportsOnly_raiseIf ..).trans (reportsOnly_nextCkpt _)
  have all : timed.reportsOnly done_.nextCkpt := (toClosed.trans (reportsOnly_recovered _)).trans toEnd
  have raised : closed.recovered.evtSet Ev.mapRecoveryDone :=
    evtSet_raise _ _ ((ev_map (L := [.map]) ev_refl rfl MapState.wf_upd).2 (toClosed.wf timedWf)) (by decide)
  have recoveredWf := ((toClosed.trans (reportsOnly_recovered _)).wf timedWf)
  have map : done_.map = { closed.map with st := .active } := (State.raiseIf_map ..).trans (State.raise_map ..)
  obtain ⟨st, anchor⟩ := map_nextCkpt_stays done_
  refine ⟨_, run, ?_, ?_, ?_, toEnd.evtSet recoveredWf raised⟩
  · rw [st, map]
  · rw [anchor, map]
    exact (map_finishCkpt ..).2.2
  · exact (all.fld (by decide)).trans time

/-! ### The first format -/

/-- The format record of the map's new format, with nothing rotated. -/
def State.formatted (s : State) (id b : Nat) : State :=
  { s with map := { s.map with fmt := some ⟨id, b, s.popP, s.popD⟩, regions := [], nextJsn := max 1 s.map.nextJsn } }

theorem map_defaultExtents (s : State) : s.defaultExtents.map = s.map := evolves_get (State.defaultExtents_ev s) .map rfl

theorem ent_blankMap (s : State) : s.blankMap.map.ent = [] := by
  unfold State.blankMap
  extract_lets +onlyGivenNames map upk rd blank
  have cleared : blank.map.ent = [] := rfl
  clear_value blank
  have settled : blank.evolves ((blank.upk.bolts.map fun p => p.1).foldl (fun t k => t.settleBolt (k / 131072) (k % 131072)) blank)
      [.regs, .pmc, .evt, .host, .rd, .upk] := ev_foldl ev_refl fun _ _ e => ev_step e (State.settleBolt_ev ..) rfl
  rw [evolves_get settled .map rfl, cleared]

/-- A formatted map holds no line, for the population in force. -/
theorem map_format (s : State) : s.format.map.ent = [] ∧ (s.format.map.fmt.map fun f => (f.p, f.d)) = some (s.popP, s.popD) := by
  let blank := s.blankMap.drawFormat
  let laid := blank.1.formatted blank.2.1 blank.2.2
  have eq : s.format = laid.defaultExtents.finishCkpt laid.defaultExtents.map.nextJsn false := rfl
  obtain ⟨ent, fmt, -⟩ := map_finishCkpt laid.defaultExtents laid.defaultExtents.map.nextJsn false
  rw [eq, ent, fmt, map_defaultExtents]
  have pop := evolves_get (State.blankMap_ev s) .pop rfl
  exact ⟨ent_blankMap s, congrArg some (Prod.ext pop.1 pop.2)⟩

/-- The population's groups are `p`. -/
def State.withGroups (s : State) (p : Nat) : State := { s with popP := p }

/-- The leading groups found are the population. -/
def State.grown (s : State) : State := s.withGroups s.fullGroups

theorem withGroups_spec (s : State) (p : Nat) : (s.withGroups p).popP = p ∧ (s.withGroups p).popD = s.popD ∧
    (s.withGroups p).wf = s.wf := ⟨rfl, rfl, rfl⟩

theorem fmt_mapActive (s : State) : s.mapActive.map.fmt = s.map.fmt := rfl

theorem ent_mapActive (s : State) : s.mapActive.map.ent = s.map.ent := rfl

theorem fullGroups_begin (s : State) : s.begin.fullGroups = s.fullGroups := by
  have found (g : Nat) : s.begin.groupFound g = s.groupFound g := rfl
  unfold State.fullGroups
  simp only [found]

theorem exec_firstFormatDone (wf : s.wf = true) (core : s.pwr.coreOn = true) (unformatted : s.map.st = .unformatted)
    (discovered : s.discoveryOver = true) (valid : s.popValid = true) : ∃ t, exec .firstFormatDone s = .next t ∧ t.map.st = .active ∧
    t.popP = s.fullGroups ∧ (t.map.fmt.map fun f => (f.p, f.d)) = some (s.fullGroups, s.popD) ∧ t.map.ent = [] ∧
    t.evtSet Ev.mapRecoveryDone := by
  have valid' : s.begin.popValid = true := valid
  have run : exec .firstFormatDone s = .next (s.begin.grown.format.mapActive.raise Ev.mapRecoveryDone) :=
    (congrArg done (when_true (by simp only [core, unformatted, discovered, decide_true, Bool.and_self]))).trans
      (congrArg Host.Outcome.next (if_pos valid'))
  have groups : s.begin.grown.popP = s.fullGroups := (withGroups_spec s.begin _).1.trans (fullGroups_begin s)
  have dies : s.begin.grown.popD = s.popD := (withGroups_spec s.begin _).2.1
  have grownWf : s.begin.grown.wf = true := (withGroups_spec s.begin _).2.2.trans wf
  generalize s.begin.grown = grown at *
  obtain ⟨ent, fmt⟩ := map_format grown
  have format := evolves_get (State.format_ev grown) .pop rfl
  have active := evolves_get (State.mapActive_ev grown.format) .pop rfl
  have told := evolves_get (State.raise_ev grown.format.mapActive Ev.mapRecoveryDone) .pop rfl
  refine ⟨_, run, ?_, ?_, ?_, ?_, ?_⟩
  · rw [State.raise_map]
    rfl
  · exact told.1.trans (active.1.trans (format.1.trans groups))
  · rw [State.raise_map, fmt_mapActive, fmt, groups, dies]
  · rw [State.raise_map, ent_mapActive, ent]
  · have formattedWf := (State.mapActive_ev grown.format).2 ((State.format_ev grown).2 grownWf)
    exact evtSet_raise grown.format.mapActive Ev.mapRecoveryDone formattedWf (by decide)

theorem exec_firstFormatDone_invalid (wf : s.wf = true) (core : s.pwr.coreOn = true) (unformatted : s.map.st = .unformatted)
    (discovered : s.discoveryOver = true) (invalid : s.popValid = false) : ∃ t, exec .firstFormatDone s = .next t ∧
    t.map.st = .unformatted ∧ t.evtSet Ev.topConfig := by
  have invalid' : ¬ s.begin.popValid = true := fun bad => Bool.false_ne_true (invalid.symm.trans bad)
  have run : exec .firstFormatDone s = .next (s.begin.raise Ev.topConfig) :=
    (congrArg done (when_true (by simp only [core, unformatted, discovered, decide_true, Bool.and_self]))).trans
      (congrArg Host.Outcome.next (if_neg invalid'))
  refine ⟨_, run, ?_, evtSet_raise _ _ wf (by decide)⟩
  rw [State.raise_map]
  exact unformatted

end Recovery

/-- Settles O19. -/
theorem recoveryCommands : Obligations.RecoveryCommands := by
  unfold Obligations.RecoveryCommands
  exact ⟨fun _ _ core loading anchor fits => exec_lineMapLoaded core loading anchor fits,
    fun _ wf core loading anchor => exec_lineMapLoaded_none wf core loading anchor,
    fun _ u wf core replaying => exec_journalReplayDone u wf core replaying,
    fun _ n wf core scanning => exec_openBoltScanDone n wf core scanning,
    fun _ wf core closing => exec_recoveryDone wf core closing,
    fun _ wf core unformatted discovered valid => exec_firstFormatDone wf core unformatted discovered valid,
    fun _ wf core unformatted discovered invalid => exec_firstFormatDone_invalid wf core unformatted discovered invalid⟩

end Sys2Proof.Machine

/-!
PROOF. The write path's own operations report, and change no quiet register: spread counters, sequences and generation switches,
the encryption of staged lines, and a media error that reaches the fault manager.
-/
namespace Sys2Proof.Machine
set_option Elab.async false
open Sys2Proof

section Sequences
variable (s : State)

theorem reportsOnly_setCell (c j : Nat) (v : Option Nat) : s.reportsOnly (s.setCell c j v) := .of_evolves (State.setCell_ev s c j v)

theorem reportsOnly_ctrWrite (c v : Nat) : s.reportsOnly (s.ctrWrite c v).1 := by
  unfold State.ctrWrite
  split
  · exact reportsOnly_raiseN ..
  · dsimp only
    split
    · exact reportsOnly_setCell ..
    · have bad (j : Nat) := (reportsOnly_setCell s c j none).trans
        (reportsOnly_raiseN _ Ev.ntnCounterCellBad (c * 2 ^ 8) (cellOffset c j))
      split <;> exact (bad _).trans (reportsOnly_setCell ..)

theorem reportsOnly_ctrInc (c k : Nat) : s.reportsOnly (s.ctrInc c k).1 := by
  unfold State.ctrInc
  dsimp only
  generalize (if c = 1 then s.ctrVal c / 2 ^ 48 * 2 ^ 48 else 0) = gen
  split
  · exact reportsOnly_ctrWrite ..
  · generalize written : (if s.ctrVal c - gen = ctrLimit c then (s, CtrRes.ok) else s.ctrWrite c (gen + ctrLimit c)) = p
    have first : s.reportsOnly p.1 := by
      subst written
      split
      · exact .refl
      · exact reportsOnly_ctrWrite ..
    split
    · exact first
    · exact first.trans (reportsOnly_raiseN ..)

theorem reportsOnly_wrapTick : s.reportsOnly s.wrapTick.1 := by
  have counted := reportsOnly_ctrInc s 5 1
  unfold State.wrapTick
  split
  next t ok =>
    rw [ok] at counted
    exact counted.trans (reportsOnly_raise ..)
  next t _ _ failed =>
    rw [failed] at counted
    exact counted

theorem reportsOnly_nextKey (d : Nat) : s.reportsOnly (s.nextKey d).1 := by
  have drawn : s.reportsOnly (s.genKey d).1 := by
    refine State.reportsOnly.trans (t := { s with cry := { s.cry with draws := s.cry.draws + 1, drbgReqs := s.cry.drbgReqs + 1 } })
      (.of_same rfl rfl id) ?_
    exact reportsOnly_bump _ (f := F.kveDrbgGenerates) (by decide) (by decide) 1
  unfold State.nextKey
  dsimp only
  split
  · exact .refl
  · split
    · exact drawn
    · exact .refl
  · exact .refl

theorem reportsOnly_genSwitch (d : Nat) : s.reportsOnly (s.genSwitch d) := by
  have ticked := reportsOnly_wrapTick s
  unfold State.genSwitch
  split
  · exact .refl
  · split
    next tick =>
      rw [tick] at ticked
      exact ticked
    next u tick =>
      rw [tick] at ticked
      have keyed := reportsOnly_nextKey u d
      split
      next failed =>
        rw [failed] at keyed
        exact ticked.trans keyed
      next v key src found =>
        rw [found] at keyed
        have aged : v.reportsOnly (v.agedUndo d) := .of_evolves (State.setEpoDom_ev ..)
        exact ((ticked.trans keyed).trans aged).trans
          ((State.reportsOnly.of_evolves (State.setDom_ev ..)).trans (reportsOnly_raiseN ..))

theorem reportsOnly_takeBatch (d g : Nat) : s.reportsOnly (s.takeBatch d g) := by
  unfold State.takeBatch
  dsimp only
  exact .ite (.trans (.of_evolves (State.setDom_ev ..)) (reportsOnly_raiseN ..)) (.of_evolves (State.setDom_ev ..))

theorem reportsOnly_drawSeq (d g : Nat) : s.reportsOnly (s.drawSeq d g).1 := by
  unfold State.drawSeq
  extract_lets +onlyGivenNames dom switched
  have first : s.reportsOnly switched := .ite (.ite (.of_evolves (State.setDom_ev ..)) (reportsOnly_genSwitch s d)) .refl
  clear_value switched
  split
  · exact first
  · extract_lets +onlyGivenNames batched
    have second : switched.reportsOnly batched := .ite (reportsOnly_takeBatch ..) .refl
    clear_value batched
    exact (first.trans second).trans (.of_evolves (State.setDom_ev ..))

theorem reportsOnly_encrypt (g : Nat) (x : Staged) : s.reportsOnly (s.encrypt g x).1 := by
  have drawn := reportsOnly_drawSeq s x.dom g
  unfold State.encrypt
  split
  next draw =>
    rw [draw] at drawn
    exact drawn
  next draw =>
    rw [draw] at drawn
    dsimp only at drawn ⊢
    split
    · exact drawn
    · exact drawn.trans (reportsOnly_count ..)

theorem reportsOnly_encryptLines (g : Nat) (l : List Staged) : s.reportsOnly (s.encryptLines g l).1 := by
  induction l generalizing s with
  | nil => exact .refl
  | cons x l ih =>
    unfold State.encryptLines
    have first : s.reportsOnly (if x.kind = .host ∧ !x.enc ∧ x.missing = 0#4 then s.encrypt g x else (s, x)).1 := by
      split
      · exact reportsOnly_encrypt ..
      · exact .refl
    exact first.trans (ih _)

theorem reportsOnly_settleGroup (g : Nat) : s.reportsOnly (s.settleGroup g) := by
  refine .foldl (fun u x => .ite ?_ .refl) _ s
  have lines := reportsOnly_encryptLines u g x.lines
  unfold State.settleStripe
  exact .ite ((lines.trans (.of_evolves (State.updStripe_ev ..))).trans (.of_evolves (State.launch_ev ..)))
    (lines.trans (.of_evolves (State.updStripe_ev ..)))

theorem reportsOnly_mergeFill (line : Nat) (d : Quad Sector) (sp : BitVec 4) : s.reportsOnly (s.mergeFill line d sp) := by
  unfold State.mergeFill
  exact .trans (.of_evolves (State.updStaged_ev ..)) (.foldl (fun t g => reportsOnly_settleGroup t g) _ _)

/-! ### The fault manager -/

theorem reportsOnly_countErr (c : ErrCls) : s.reportsOnly (s.countErr c) := by
  cases c <;> exact reportsOnly_bump s (by decide) (by decide) 1

theorem reportsOnly_report (r : Res) (c : ErrCls) (block : Nat) : s.reportsOnly (s.report r c block) :=
  (reportsOnly_countErr s c).trans (.of_evolves (State.queueTest_ev ..))

theorem reportsOnly_reportLine (a : Nat) : s.reportsOnly (s.reportLine a) := reportsOnly_report ..

end Sequences

end Sys2Proof.Machine

/-!
PROOF. The ends of media reads and operations (R197, R232, R235, R240, R241, R294 to R298, R382).
-/
namespace Sys2Proof.Machine
set_option Elab.async false
open Sys2Proof

section Media
variable {s : State} {r : Rd}

theorem warp1_setWarp1_same (n : Nat) (x : SkeinWarp) (wf : s.wf = true) : (s.setWarp1 n x).warp1 n = x :=
  Tab.get_set_same _ _ _ _ (s.warp_wf wf)

theorem warp1_congr {t : State} (n : Nat) (same : t.warp = s.warp) : t.warp1 n = s.warp1 n := by unfold State.warp1; rw [same]

/-- The one outstanding read is gone once it is dropped. -/
theorem reads_dropRead_only (one : s.rd.reads = [r]) : (s.dropRead r.line r.same).rd.reads = [] := by
  simp [State.dropRead, State.setReads, one, Rd.same]

theorem reads_updRead_only (f : Rd → Rd) (one : s.rd.reads = [r]) : (s.updRead r.line r.same f).rd.reads = [f r] := by
  simp [State.updRead, State.setReads, one, Rd.same]

theorem reads_evolves {t : State} {L : List Piece} (e : s.evolves t L) (noRd : L.contains .rd = false := by rfl) :
    t.rd.reads = s.rd.reads := congrArg ReadState.reads (evolves_get e .rd noRd)

/-! ### Merge reads -/

theorem exec_mergeReadDone {g : Nat} (l : List Nat) (core : s.pwr.coreOn = true) (one : s.rd.reads = [r]) (why : r.why = .merge g) :
    exec (.mergeReadDone r.line (.reconstructed l)) s = .next (s.begin.mergeDone r g (.reconstructed l)) := by
  refine (congrArg done (when_true core)).trans (congrArg Host.Outcome.next ?_)
  rw [State.begin_rd, one]
  simp [why]

theorem finishRead_merge {g : Nat} (d : Quad Sector) (why : r.why = .merge g) : s.finishRead r d =
    ((s.dropRead r.line r.same).count 0x407 (addrGroup r.addr) 1).mergeFill r.line d (s.spOf r) := by
  unfold State.finishRead
  rw [why]

theorem exec_mergeReadDone_spec {g : Nat} (l : List Nat) (wf : s.wf = true) (small : g < 8) (core : s.pwr.coreOn = true)
    (one : s.rd.reads = [r]) (why : r.why = .merge g) : ∃ t, exec (.mergeReadDone r.line (.reconstructed l)) s = .next t ∧
    t.rd.reads = [] ∧ t.fld (F.plyMergeCntMergeRecovered g) = satAdd 16 (s.fld (F.plyMergeCntMergeRecovered g)) 1 ∧
    t.evtSet (Ev.plyMergeRecovered g) := by
  have off : (F.plyMergeCntMergeRecovered g).off = 0x20148 + g * 0x1000 := rfl
  have quiet : quietReg (F.plyMergeCntMergeRecovered g).off = true := by
    rw [off]
    interval_cases g <;> rfl
  let u := s.begin.bump (F.plyMergeCntMergeRecovered g) 1
  let v := u.raiseN (Ev.plyMergeRecovered g) (mergeInfo r) r.line
  obtain ⟨d, run⟩ : ∃ d, exec (.mergeReadDone r.line (.reconstructed l)) s = .next ((v.reportLine r.addr).finishRead r d) :=
    ⟨_, exec_mergeReadDone l core one why⟩
  rw [finishRead_merge d why] at run
  have kept : v.reportsOnly ((((v.reportLine r.addr).dropRead r.line r.same).count 0x407 (addrGroup r.addr) 1).mergeFill r.line d
      ((v.reportLine r.addr).spOf r)) :=
    (((reportsOnly_reportLine v r.addr).trans (.of_evolves (State.dropRead_ev ..))).trans (reportsOnly_count ..)).trans
      (reportsOnly_mergeFill ..)
  have uWf : u.wf = true := (State.bump_ev ..).2 wf
  have vWf : v.wf = true := (State.raiseN_ev ..).2 uWf
  have bumped : u.fld (F.plyMergeCntMergeRecovered g) = satAdd 16 (s.fld (F.plyMergeCntMergeRecovered g)) 1 :=
    fld_bump_same s.begin _ 1 wf (show 16 ≤ 31 by decide) (show 31 < 64 by decide)
  have held : (v.reportLine r.addr).rd.reads = [r] := by
    have ev : s.begin.evolves (v.reportLine r.addr) [.regs, .pmc, .evt, .host, .flt] :=
      ev_step (ev_step (ev_step ev_refl (State.bump_ev ..) rfl) (State.raiseN_ev ..) rfl) (State.reportLine_ev ..) rfl
    have same : (v.reportLine r.addr).rd = s.rd := evolves_get ev .rd rfl
    rw [same, one]
  refine ⟨_, run, ?_, ?_, kept.evtSet vWf (evtSet_raiseN _ _ _ _ uWf (show 4 < 64 by decide))⟩
  · rw [reads_evolves (State.mergeFill_ev ..), reads_evolves (State.count_ev ..), reads_dropRead_only held]
  · rw [kept.fld quiet, (reportsOnly_raiseN u ..).fld quiet, bumped]

/-! ### Verified lines -/

/-- A miss-status entry with one read: verified contents answer it, and leave the outstanding reads as they are. -/
theorem fillDone_read {line : Nat} {e : Mshr} {q : Req} (d : Quad Sector) (entry : s.mshrOf line = some e) (single : e.reqs = [q])
    (read : q.wr = false) (tagged : q.tag ≠ noTag) (unstaged : s.stagedCopy line = none) :
    (∃ load, (s.fillDone line d 0#4).out = s.out ++ [.memData q.h q.tag (d.at q.sec) false load]) ∧
    (s.fillDone line d 0#4).rd = s.rd := by
  unfold State.fillDone
  rw [entry]
  dsimp only
  have closed : s.evolves (s.closeMshr e) [.fch] := State.closeMshr_ev ..
  have over_ : (s.closeMshr e).overlay line d 0#4 = (d, 0#4) := by
    have same : (s.closeMshr e).stagedCopy line = none := unstaged
    unfold State.overlay
    rw [same]
  rw [over_, single]
  generalize filled : (if e.pf = true ∧ [q] = [] then _ else _ : State) = t
  have tEv : s.evolves t [.regs, .pmc, .evt, .host, .fch, .wp, .flt] := by
    subst filled
    rw [if_neg (by simp)]
    exact ev_ite (ev_step (ev_step ev_refl closed rfl) (State.install_ev ..) rfl) (ev_step ev_refl closed rfl)
  have answered : t.answerAll d 0#4 0#4 [q] = t.memData q.h q.tag (d.at q.sec) false := by
    cases found : t.lineOf q.line <;> simp [State.answerAll, read, State.answer, found]
  rw [answered]
  have maintEv := State.maintFill_ev (t.memData q.h q.tag (d.at q.sec) false) line
  have dataEv := State.memData_ev t q.h q.tag (d.at q.sec) false
  have kept : t.out = s.out := evolves_get tEv .out rfl
  refine ⟨⟨_, (evolves_get maintEv .out rfl).trans ((out_memData_good t _ tagged).trans (by rw [kept]))⟩, ?_⟩
  · exact (evolves_get maintEv .rd rfl).trans ((evolves_get dataEv .rd rfl).trans (evolves_get tEv .rd rfl))

theorem finishRead_demand (d : Quad Sector) (why : r.why = .demand) : s.finishRead r d =
    ((s.dropRead r.line r.same).count 0x407 (addrGroup r.addr) 1).fillDone r.line d (s.spOf r) := by
  unfold State.finishRead
  rw [why]

theorem exec_lineVerify {c : Code} {d : Quad Sector} (core : s.pwr.coreOn = true) (one : s.rd.reads = [r]) (decoded : r.st = .decoded)
    (code : r.code = some c) (plain : (s.dom r.dom).integ = false) (text : s.plainOf r.line r.dom c = some d) :
    exec (.lineVerify r.line) s = .next (s.begin.finishRead r d) := by
  have plain' : (s.begin.dom r.dom).integ = false := plain
  have text' : s.begin.plainOf r.line r.dom c = some d := text
  have good : s.begin.tagGood r.line r.dom c = true := by
    obtain ⟨k, gen, -⟩ := Option.map_eq_some_iff.mp text'
    simp [State.tagGood, plain', gen]
  refine (congrArg done (when_true core)).trans (congrArg Host.Outcome.next ?_)
  rw [State.begin_rd, one]
  simp [decoded, code, plain', text', good]

theorem exec_lineVerify_spec {c : Code} {d : Quad Sector} {e : Mshr} {q : Req} (core : s.pwr.coreOn = true) (one : s.rd.reads = [r])
    (why : r.why = .demand) (decoded : r.st = .decoded) (code : r.code = some c) (plain : (s.dom r.dom).integ = false)
    (text : s.plainOf r.line r.dom c = some d) (unpoisoned : s.spOf r = 0#4) (unstaged : s.stagedCopy r.line = none)
    (entry : s.mshrOf r.line = some e) (single : e.reqs = [q]) (read : q.wr = false) (tagged : q.tag ≠ noTag) : ∃ t,
    exec (.lineVerify r.line) s = .next t ∧ t.rd.reads = [] ∧ t.out.map Output.answers = [some (q.h, q.tag)] ∧
    t.out.map Output.carries = [some (d.at q.sec, false)] := by
  have run := exec_lineVerify core one decoded code plain text
  have poison : s.begin.spOf r = 0#4 := unpoisoned
  rw [finishRead_demand d why, poison] at run
  let u := (s.begin.dropRead r.line r.same).count 0x407 (addrGroup r.addr) 1
  have uEv : s.evolves u [.regs, .pmc, .evt, .host, .rd, .out] :=
    ev_step (ev_step (ev_step ev_refl (State.begin_ev s) rfl) (State.dropRead_ev ..) rfl) (State.count_ev ..) rfl
  have entry' : u.mshrOf r.line = some e := by
    unfold State.mshrOf
    rw [evolves_get uEv .fch rfl]
    exact entry
  have unstaged' : u.stagedCopy r.line = none := by
    have groups (g : Nat) : u.group g = s.group g := group_congr (evolves_get uEv .wp rfl) g
    unfold State.stagedCopy State.stagedCopies
    simp only [groups]
    exact unstaged
  obtain ⟨⟨load, out⟩, rd⟩ := fillDone_read d entry' single read tagged unstaged'
  have start : u.out = [] := State.count_out ..
  refine ⟨_, run, ?_, ?_, ?_⟩
  · rw [rd]
    exact (reads_evolves (State.count_ev ..)).trans (reads_dropRead_only one)
  · rw [out, start]
    rfl
  · rw [out, start]
    rfl

/-! ### Lines that are lost -/

theorem reads_endUnknown (s : State) : s.endUnknown.rd.reads = s.rd.reads := by
  unfold State.endUnknown
  split
  · rw [State.raiseN_rd]
  · rfl

theorem reads_settleBolt (s : State) (g b : Nat) : (s.settleBolt g b).rd.reads = s.rd.reads := by
  unfold State.settleBolt
  extract_lets +onlyGivenNames x pending ended
  have settled : ended.rd.reads = s.rd.reads :=
    reads_evolves (ev_step (ev_step (ev_refl (L := [.regs, .pmc, .upk])) (State.setBolt_ev ..) rfl) (State.emptied_ev ..) rfl)
  clear_value ended
  split
  · split
    · exact (reads_endUnknown ended).trans settled
    · exact settled
  · rfl

theorem reads_deadAt (s : State) (a : Nat) : (s.deadAt a).rd.reads = s.rd.reads :=
  (reads_settleBolt ..).trans (reads_evolves (State.setBolt_ev ..))

theorem reads_mapRec (s : State) (d line : Nat) (reloc : Bool) (tag : Option (BitVec 64)) (e : Entry) :
    (s.mapRec d line reloc tag e).rd.reads = s.rd.reads := by
  unfold State.mapRec
  extract_lets +onlyGivenNames old j record pushed stored tagged live released
  have pushedReads : pushed.rd.reads = s.rd.reads := reads_evolves (State.pushRec_ev ..)
  clear_value pushed
  have taggedReads : tagged.rd.reads = pushed.rd.reads := by
    subst tagged
    split
    · rfl
    · rfl
  clear_value tagged
  have liveReads : live.rd.reads = tagged.rd.reads := by
    subst live
    split
    · exact reads_evolves (State.liveAt_ev ..)
    · rfl
  clear_value live
  have releasedReads : released.rd.reads = live.rd.reads := by
    change (State.release _ _ _ _).rd.reads = _
    unfold State.release
    split
    · exact reads_deadAt ..
    · rfl
  clear_value released
  have dirtied (t : State) (kind idx : Nat) : (t.mdirtied kind idx j).rd.reads = t.rd.reads := reads_evolves (State.mdirtied_ev ..)
  have all := ((releasedReads.trans liveReads).trans taggedReads).trans pushedReads
  split
  · split
    · rw [dirtied, dirtied, all]
    · rw [dirtied, all]
  · rw [dirtied, all]

theorem reads_addPRec (s : State) (x : PRec) : (s.addPRec x).rd.reads = s.rd.reads := by
  unfold State.addPRec
  split <;> rfl

theorem reads_unpoisonSector (s : State) (line k : Nat) : (s.unpoisonSector line k).rd.reads = s.rd.reads := by
  unfold State.unpoisonSector
  split <;> rfl

theorem reads_poisonLine (s : State) (line : Nat) (src : PSource) : (s.poisonLine line src).rd.reads = s.rd.reads := by
  unfold State.poisonLine
  extract_lets +onlyGivenNames cleared
  have clearedReads : cleared.rd.reads = s.rd.reads :=
    List.foldlRecOn (motive := fun t : State => t.rd.reads = s.rd.reads) _ _ rfl fun t same k _ =>
      (reads_unpoisonSector t line k).trans same
  clear_value cleared
  split
  · exact (reads_addPRec ..).trans clearedReads
  · exact clearedReads

theorem entry_congr {t : State} (same : t.map = s.map) (line : Nat) : t.entry line = s.entry line := by unfold State.entry; rw [same]

/-- A line made LOST: its entry, the reads outstanding, and what is reported. -/
theorem makeLost_spec (d line : Nat) (src : PSource) (wf : s.wf = true) : ((s.makeLost d line src).entry line).st = 2 ∧
    (s.makeLost d line src).rd.reads = s.rd.reads ∧ (s.makeLost d line src).evtSet Ev.mapLineLost := by
  obtain ⟨entry, -, -⟩ := mapRec_spec (s := s) d line false { Entry.lost with epoch := (s.entry line).epoch } wf
  have reads := reads_mapRec s d line false none { Entry.lost with epoch := (s.entry line).epoch }
  have recordedWf := (State.mapRec_ev s d line false none { Entry.lost with epoch := (s.entry line).epoch }).2 wf
  unfold State.makeLost
  dsimp only
  generalize s.mapRec d line false none { Entry.lost with epoch := (s.entry line).epoch } = u at *
  let v : State := { u with map := { u.map with lostLines := u.map.lostLines + 1 } }
  have vWf : v.wf = true := (ev_map (L := [.map]) ev_refl rfl MapState.wf_upd : u.evolves v [.map]).2 recordedWf
  have poisonedMap : (v.poisonLine line src).map = v.map := evolves_get (State.poisonLine_ev ..) .map rfl
  refine ⟨?_, ?_, evtSet_raiseN _ _ _ _ ((State.poisonLine_ev v line src).2 vWf) (by decide)⟩
  · rw [entry_congr ((State.raiseN_map ..).trans poisonedMap)]
    exact congrArg Entry.st entry
  · rw [State.raiseN_rd, reads_poisonLine]
    exact reads

theorem injRead_none (kinds : List Nat) (a : Nat) (none : s.flt.inj = none) : s.injRead kinds a = false := by
  unfold State.injRead
  rw [none]

theorem injOn_none (kind : Nat) (x : Res) (none : s.flt.inj = none) : s.injOn kind x = false := by
  unfold State.injOn
  rw [none]

theorem unrecoverable_scan (why : r.why = .scan) : s.unrecoverable r =
    (((s.dropRead r.line r.same).makeLost r.dom r.line .internal).reportLine r.addr).gme 2 r.line 0 0 true 2 := by
  unfold State.unrecoverable
  rw [why]

theorem exec_reconstructionDone (core : s.pwr.coreOn = true) (noInj : s.flt.inj = none) (one : s.rd.reads = [r]) (recon : r.st = .recon)
    (why : r.why = .scan) : exec (.reconstructionDone r.line .unrecoverable) s = .next (s.begin.unrecoverable r) := by
  refine (congrArg done (when_true core)).trans (congrArg Host.Outcome.next ?_)
  rw [State.begin_rd, one]
  simp [recon, why, injRead_none (s := s.begin) [4] r.addr noInj, State.reconDone]

theorem exec_reconstructionDone_spec (wf : s.wf = true) (core : s.pwr.coreOn = true) (noInj : s.flt.inj = none)
    (one : s.rd.reads = [r]) (recon : r.st = .recon) (why : r.why = .scan) : ∃ t,
    exec (.reconstructionDone r.line .unrecoverable) s = .next t ∧ t.rd.reads = [] ∧ (t.entry r.line).st = 2 ∧
    t.evtSet Ev.mapLineLost := by
  have run := exec_reconstructionDone core noInj one recon why
  rw [unrecoverable_scan why] at run
  have droppedWf : (s.begin.dropRead r.line r.same).wf = true := (State.dropRead_ev ..).2 wf
  obtain ⟨lost, reads, set⟩ := makeLost_spec r.dom r.line .internal droppedWf
  have lostWf := (State.makeLost_ev _ r.dom r.line .internal).2 droppedWf
  have none := reads_dropRead_only (s := s.begin) one
  generalize (s.begin.dropRead r.line r.same).makeLost r.dom r.line .internal = u at *
  have ev : u.evolves ((u.reportLine r.addr).gme 2 r.line 0 0 true 2) [.regs, .pmc, .evt, .host, .flt] :=
    ev_step (ev_step ev_refl (State.reportLine_ev ..) rfl) (State.gme_ev ..) rfl
  have kept : u.reportsOnly ((u.reportLine r.addr).gme 2 r.line 0 0 true 2) :=
    (reportsOnly_reportLine u r.addr).trans (.of_evolves (State.gme_ev ..))
  refine ⟨_, run, ?_, ?_, kept.evtSet lostWf set⟩
  · rw [reads_evolves ev, reads, none]
  · rw [entry_congr (evolves_get ev .map rfl), lost]

/-! ### The poison timer -/

theorem out_memData_poison (h tag : Nat) (d : Sector) (tagged : tag ≠ noTag) :
    (s.memData h tag d true).out = s.out ++ [.memData h tag d true (s.devload h)] := by
  simp [State.memData, State.respond, tagged, State.emit]

theorem exec_poisonTimer {e : Mshr} {q : Req} (core : s.pwr.coreOn = true) (one : s.rd.reads = [r]) (why : r.why = .demand)
    (armed : r.armed.isSome = true) (early : r.timedOut = false) (entry : s.mshrOf r.line = some e) (single : e.reqs = [q])
    (read : q.wr = false) : exec (.poisonTimer r.line) s =
      .next ((((s.begin.updRead r.line r.same fun x => { x with timedOut := true }).updMshr r.line fun x => { x with reqs := [] }).gme
        1 r.line q.sec 0 false 1).memData q.h q.tag 0#512 true) := by
  refine (congrArg done (when_true core)).trans (congrArg Host.Outcome.next ?_)
  rw [State.begin_rd, one]
  have found : (s.begin.updRead r.line r.same fun x => { x with timedOut := true }).mshrOf r.line = some e := entry
  simp [Rd.forFill, why, armed, early, found, single, State.poisonAll, read]

theorem exec_poisonTimer_spec {e : Mshr} {q : Req} (core : s.pwr.coreOn = true) (one : s.rd.reads = [r]) (why : r.why = .demand)
    (armed : r.armed.isSome = true) (early : r.timedOut = false) (entry : s.mshrOf r.line = some e) (single : e.reqs = [q])
    (read : q.wr = false) (tagged : q.tag ≠ noTag) : ∃ t, exec (.poisonTimer r.line) s = .next t ∧
    t.rd.reads.map (fun x => (x.line, x.timedOut)) = [(r.line, true)] ∧ t.out.map Output.answers = [some (q.h, q.tag)] ∧
    t.out.map Output.carries = [some (0#512, true)] := by
  have run := exec_poisonTimer core one why armed early entry single read
  have reads := reads_updRead_only (s := s.begin) (fun x => { x with timedOut := true }) one
  have out : (s.begin.updRead r.line r.same fun x => { x with timedOut := true }).out = [] := rfl
  generalize (s.begin.updRead r.line r.same fun x => { x with timedOut := true }) = u at *
  have ev : u.evolves ((u.updMshr r.line fun x => { x with reqs := [] }).gme 1 r.line q.sec 0 false 1) [.evt, .host, .fch] :=
    ev_step (ev_step ev_refl (State.updMshr_ev ..) rfl) (State.gme_ev ..) rfl
  generalize (u.updMshr r.line fun x => { x with reqs := [] }).gme 1 r.line q.sec 0 false 1 = v at *
  have sent := out_memData_poison (s := v) q.h q.tag 0#512 tagged
  rw [evolves_get ev .out rfl, out] at sent
  refine ⟨_, run, ?_, ?_, ?_⟩
  · rw [reads_evolves (State.memData_ev ..), reads_evolves ev, reads]
    rfl
  · rw [sent]
    rfl
  · rw [sent]
    rfl

/-! ### Frames -/

theorem activeRead_only {n : Nat} (one : s.rd.reads = [r]) (waits : r.st = .needData) (skein : addrSkein r.addr = n) :
    s.activeRead n r.line = some r := by
  unfold State.activeRead
  rw [one]
  simp [waits, skein]

theorem injDie_none (a : Nat) (none : s.flt.inj = none) : s.injDie a = false := injOn_none _ _ none

theorem exec_upstreamFrame {n : Nat} (f : UpFrame) (core : s.pwr.coreOn = true) (link : (s.link1 n).st = .active)
    (noInj : s.flt.inj = none) : exec (.upstreamFrame n f) s = .next (s.begin.upFrame n f) :=
  (congrArg done (when_true (by simp [core, link]))).trans
    (congrArg Host.Outcome.next (if_neg (by simp [injOn_none (s := s.begin) 8 (resSkein n) noInj])))

/-- A frame with the line of the one read, at its first attempt and with no injection armed. -/
theorem lineFrame_only {n : Nat} (corr : Nat) (c : Option Code) (one : s.rd.reads = [r]) (waits : r.st = .needData)
    (skein : addrSkein r.addr = n) (noInj : s.flt.inj = none) : s.lineFrame n r.line corr c =
      match c with
      | some x => (s.count 0x525 n corr).decodedRead r x
      | none => (s.count 0x525 n corr).decodeFailed r := by
  have counted : (s.count 0x525 n corr).flt.inj = none := by rw [State.count_flt, noInj]
  unfold State.lineFrame
  rw [activeRead_only one waits skein]
  cases c with
  | none => simp only [injDie_none r.addr noInj, injRead_none _ r.addr counted, Bool.and_false, Bool.or_false, Bool.false_eq_true, if_false]
  | some x =>
    simp only [injDie_none r.addr noInj, injRead_none _ r.addr counted, Bool.and_false, Bool.or_false, Bool.false_eq_true, if_false]

theorem exec_upstreamFrame_decoded {n seq dom kgen corr : Nat} {data : List Nat} {epoch : Bool} (core : s.pwr.coreOn = true)
    (link : (s.link1 n).st = .active) (noInj : s.flt.inj = none) (one : s.rd.reads = [r]) (waits : r.st = .needData)
    (skein : addrSkein r.addr = n) (fits : seq % 1024 = r.seq10) : ∃ t,
    exec (.upstreamFrame n (.decoded r.line data r.line seq dom kgen epoch corr)) s = .next t ∧
    t.rd.reads = [{ r with st := .decoded, code := some ⟨frameData data, r.line, seq, dom, kgen, epoch⟩ }] := by
  let c : Code := ⟨frameData data, r.line, seq, dom, kgen, epoch⟩
  have frame : s.begin.upFrame n (.decoded r.line data r.line seq dom kgen epoch corr) =
      ((s.begin.goodFrame n).count 0x525 n corr).decodedRead r c :=
    lineFrame_only (s := s.begin.goodFrame n) corr (some c) one waits skein noInj
  have kept : ((s.begin.goodFrame n).count 0x525 n corr).rd.reads = [r] := by rw [State.count_rd]; exact one
  refine ⟨_, (exec_upstreamFrame _ core link noInj).trans (congrArg _ frame), ?_⟩
  generalize (s.begin.goodFrame n).count 0x525 n corr = u at *
  have decoded : u.decodedRead r c = u.updRead r.line r.same fun x => { x with st := .decoded, code := some c } := by
    simp [State.decodedRead, waits, c, fits]
  rw [decoded]
  exact reads_updRead_only _ kept

theorem exec_upstreamFrame_undecoded {n : Nat} (core : s.pwr.coreOn = true) (link : (s.link1 n).st = .active)
    (noInj : s.flt.inj = none) (one : s.rd.reads = [r]) (waits : r.st = .needData) (skein : addrSkein r.addr = n) : ∃ t,
    exec (.upstreamFrame n (.undecoded r.line)) s = .next t ∧ t.rd.reads.map (fun x => x.st) = [.reread] := by
  have frame : s.begin.upFrame n (.undecoded r.line) = ((s.begin.goodFrame n).count 0x525 n 0).decodeFailed r :=
    lineFrame_only (s := s.begin.goodFrame n) 0 none one waits skein noInj
  have kept : ((s.begin.goodFrame n).count 0x525 n 0).rd.reads = [r] := by rw [State.count_rd]; exact one
  refine ⟨_, (exec_upstreamFrame _ core link noInj).trans (congrArg _ frame), ?_⟩
  generalize (s.begin.goodFrame n).count 0x525 n 0 = u at *
  unfold State.decodeFailed
  rw [if_pos waits]
  have counted : (u.count 0x522 (addrSkein r.addr) 1).rd.reads = [r] := by rw [State.count_rd]; exact kept
  generalize u.count 0x522 (addrSkein r.addr) 1 = v at *
  have armed := reads_updRead_only (fun x => x.arm u.time.upNs) counted
  generalize (v.updRead r.line r.same fun x => x.arm u.time.upNs) = w at *
  have reread : (w.updRead r.line r.same fun x => { x with st := .reread }).rd.reads = [{ r.arm u.time.upNs with st := .reread }] :=
    reads_updRead_only (s := w) (r := r.arm u.time.upNs) (fun x => { x with st := .reread }) armed
  unfold State.driftReread
  extract_lets +onlyGivenNames k queued
  have same : queued.rd = (w.updRead r.line r.same fun x => { x with st := .reread }).rd :=
    (State.count_rd ..).trans (State.count_rd ..)
  rw [reads_evolves (State.pushRd_ev ..), same, reread]
  rfl

/-! ### Operations -/

theorem exec_downstreamFrameAccepted {n : Nat} {f : DnFrame} {fs : List DnFrame} (wf : s.wf = true) (core : s.pwr.coreOn = true)
    (noInj : s.flt.inj = none) (kept : (s.warp1 n).frames = f :: fs) : ∃ t, exec (.downstreamFrameAccepted n) s = .next t ∧
    (t.warp1 n).frames = fs := by
  have kept' : (s.begin.warp1 n).frames = f :: fs := kept
  have run : exec (.downstreamFrameAccepted n) s = .next ((s.begin.setWarp1 n { s.begin.warp1 n with frames := fs }).goodFrame n) := by
    refine (congrArg done (when_true core)).trans ?_
    rw [kept']
    exact congrArg Host.Outcome.next (if_neg (by simp [injOn_none (s := s.begin) 7 (resSkein n) noInj]))
  refine ⟨_, run, ?_⟩
  rw [warp1_congr n (evolves_get (State.goodFrame_ev ..) .warp rfl), warp1_setWarp1_same _ _ (by exact wf)]

/-- Sealing a stripe drops stripes, or marks them sealed: what is left was there, with the programs that had ended. -/
theorem stripes_sealStripe {g b idx : Nat} (wf : s.wf = true) : ∀ y ∈ ((s.sealStripe g b idx).group g).stripes,
    ∃ z ∈ (s.group g).stripes, z.block = y.block ∧ z.idx = y.idx ∧ z.done = y.done := by
  unfold State.sealStripe
  split
  · exact fun y listed => ⟨y, listed, rfl, rfl, rfl⟩
  · split
    · exact fun y listed => ⟨y, listed, rfl, rfl, rfl⟩
    · intro y listed
      rw [stripes_evolves (State.sealBolt_ev ..)] at listed
      split at listed
      · rw [State.setStripes, group_setGroup_same _ _ _ wf] at listed
        exact ⟨y, List.mem_of_mem_filter listed, rfl, rfl, rfl⟩
      · rw [stripes_evolves (State.count_ev ..), stripes_evolves (State.setFld_ev ..), stripes_updStripe _ wf, List.mem_map] at listed
        obtain ⟨z, inside, rfl⟩ := listed
        refine ⟨z, inside, ?_⟩
        split <;> exact ⟨rfl, rfl, rfl⟩

/-- A program that succeeded is noted in its stripe, wherever that stripe still is. -/
theorem stripes_programDone {g b idx i slot : Nat} (o : DnOp) (small : i < 16) (wf : s.wf = true) :
    ((s.programDone g b idx i slot o true).group g).stripes.all (fun y => !(decide (y.block = b ∧ y.idx = idx)) || y.done.getLsbD i) =
      true := by
  refine List.all_eq_true.mpr fun y listed => ?_
  unfold State.programDone at listed
  dsimp only at listed
  split at listed
  next none =>
    have other : ¬(y.block = b ∧ y.idx = idx) := by simpa using List.find?_eq_none.mp none y listed
    simp [other]
  next =>
    rw [if_pos rfl] at listed
    have notedWf := (State.updStripe_ev s g b idx fun u => { u with done := u.done ||| (1#16 <<< i) }).2 wf
    obtain ⟨z, inside, block, index, ended⟩ := stripes_sealStripe ((State.count_ev _ 0x52A (16 * g + i) 1).2 notedWf) y listed
    rw [stripes_evolves (State.count_ev ..), stripes_updStripe _ wf, List.mem_map] at inside
    obtain ⟨x, -, rfl⟩ := inside
    rw [← block, ← index, ← ended]
    by_cases here : x.block = b ∧ x.idx = idx
    · rw [if_pos here]
      simp [small]
    · rw [if_neg here]
      simp [here]

theorem warp_programDone {g b idx i slot : Nat} (o : DnOp) : (s.programDone g b idx i slot o true).warp = s.warp := by
  unfold State.programDone
  dsimp only
  split
  · rfl
  · rw [if_pos rfl]
    exact evolves_get (ev_step (ev_step (ev_step (ev_refl (L := [.regs, .pmc, .evt, .host, .wp, .rd, .upk])) (State.updStripe_ev ..) rfl)
      (State.count_ev ..) rfl) (State.sealStripe_ev ..) rfl) .warp rfl

theorem exec_completionTimeout {n : Nat} {x : Nat × DnOp} (wf : s.wf = true) (core : s.pwr.coreOn = true) (noInj : s.flt.inj = none)
    (ops : (s.warp1 n).ops = [x]) (kind : x.2.kind = .programDense)
    (place : x.2.addr = mkAddr n (addrBlock x.2.addr) (addrOff x.2.addr)) : ∃ t,
    exec (.completionTimeout n (x.1 % 128) true) s = .next t ∧ (t.warp1 n).ops = [] ∧
    (t.group (n / 16)).stripes.all (fun y => !(decide (y.block = addrBlock x.2.addr ∧ y.idx = addrOff x.2.addr)) ||
      y.done.getLsbD (n % 16)) = true := by
  let u := s.begin.setWarp1 n { s.begin.warp1 n with ops := [] }
  have ops' : (s.begin.warp1 n).ops = [x] := ops
  have uWf : u.wf = true := (State.setWarp1_ev ..).2 wf
  have taken : s.begin.takeOp n (fun o => (o.kind == .programDense || o.kind == .programSingle) &&
      decide (o.addr = mkAddr n (addrBlock x.2.addr) (addrOff x.2.addr))) = some (u, x.1, x.2) := by
    unfold State.takeOp
    simp [ops', kind, ← place, u]
  have program : s.begin.complProgram n (n / 16) (addrBlock x.2.addr) (addrOff x.2.addr) (n % 16) true =
      u.programDone (n / 16) (addrBlock x.2.addr) (addrOff x.2.addr) (n % 16) x.1 x.2 true := by
    have inj : u.injOp 5 n (addrBlock x.2.addr) (addrOff x.2.addr) = false := by
      unfold State.injOp
      rw [show u.flt.inj = none from noInj]
    unfold State.complProgram
    rw [if_neg (by omega), taken]
    simp [inj]
  have run : exec (.completionTimeout n (x.1 % 128) true) s =
      .next (u.programDone (n / 16) (addrBlock x.2.addr) (addrOff x.2.addr) (n % 16) x.1 x.2 true) := by
    refine (congrArg done (when_true core)).trans (congrArg Host.Outcome.next ?_)
    rw [ops']
    simp [kind, program]
  refine ⟨_, run, ?_, stripes_programDone x.2 (Nat.mod_lt _ (by decide)) uWf⟩
  rw [warp1_congr n (warp_programDone x.2), warp1_setWarp1_same _ _ (by exact wf)]

end Media

/-- Settles O20. -/
theorem mediaCommands : Obligations.MediaCommands := by
  unfold Obligations.MediaCommands
  refine ⟨?_, ?_, ?_, ?_, ?_, ?_, ?_, ?_⟩
  · intro s r g l wf small core one why
    exact exec_mergeReadDone_spec l wf small core one why
  · intro s r c d e q core one why decoded code plain text unpoisoned unstaged entry single read tagged _
    exact exec_lineVerify_spec core one why decoded code plain text unpoisoned unstaged entry single read tagged
  · intro s r wf core noInj one recon why
    exact exec_reconstructionDone_spec wf core noInj one recon why
  · intro s r e q core one why armed early entry single read tagged
    exact exec_poisonTimer_spec core one why armed early entry single read tagged
  · rintro s r n back seq dom kgen corr data epoch core link noInj one waits skein rfl fits
    exact exec_upstreamFrame_decoded core link noInj one waits skein fits
  · intro s r n core link noInj one waits skein
    exact exec_upstreamFrame_undecoded core link noInj one waits skein
  · intro s n f fs wf core noInj kept
    exact exec_downstreamFrameAccepted wf core noInj kept
  · intro s n x wf core noInj ops kind place
    exact exec_completionTimeout wf core noInj ops kind place

end Sys2Proof.Machine

/-!
PROOF. The obligation about crossing queues fails (R141, R143, R356): a packet that fails parity may retire its queue and, with
it, a skein.
-/
namespace Sys2Proof.Machine
set_option Elab.async false
open Tests

/-- Queue 0's spares are used up and its parity errors have reached their threshold; group 0 has a Darn pass under way and a
sealed bolt that has lost more than one member, and nine records wait in the journal buffer. The next parity error retires the
queue's skein, a second fault, whose lost line is the journal's tenth record. -/
def spareless : State :=
  { up with
    flt := { up.flt with queues := [(0, { QCnt.fresh with spares := 4 })], buckets := [⟨resQueue 0 0, 2, 0, 255⟩] }
    upk := { up.upk with groups := [(0, { UpkGroup.fresh with darn := 1 })]
                         bolts := [(100, { Bolt.fresh with st := .sealed, degraded := true, members := 0#16 })] }
    map := { up.map with ent := [(5, { Entry.unmapped with st := 1, addr := mkAddr 0 100 0 })]
                         jbuf := List.replicate 9 JRec.blank } }

def sparelessEnd : State := ({ spareless.begin with xq := spareless.xq ++ [⟨0, .header 0 0⟩] } : State).parityError 0

theorem exec_queuePacket_bad {s : State} {q : Nat} (k : PacketRef) (core : s.pwr.coreOn = true) (serves : (s.qcnt q).retired = false)
    (noInj : s.parityInj q = false) : exec (.queuePacket q k false) s =
      .next (({ s.begin with xq := s.begin.xq ++ [⟨q, k⟩] } : State).parityError q) := by
  have noInj' : s.begin.parityInj q = false := noInj
  refine (congrArg done (when_true (by simp [core, serves]))).trans (congrArg Host.Outcome.next ?_)
  simp [noInj']

/-- The journal line that the retirement writes is shown. -/
theorem sparelessEnd_shows : sparelessEnd.out ≠ [] := by decide +kernel

/-- Refutes O21: clause 2 says that a packet that fails parity shows nothing, but the parity error may retire the queue's skein,
and the lines lost with it write a journal line to the Selvage. -/
theorem not_queueAndIslandCommands : ¬ Obligations.QueueAndIslandCommands := by
  unfold Obligations.QueueAndIslandCommands
  intro all
  obtain ⟨-, bad, -⟩ := all
  obtain ⟨t, run, -, out⟩ := bad spareless 0 (.header 0 0) rfl (by decide +kernel)
  have same : sparelessEnd = t :=
    Host.Outcome.next.inj ((exec_queuePacket_bad (.header 0 0) rfl (by decide +kernel) rfl).symm.trans run)
  exact sparelessEnd_shows ((congrArg State.out same).trans out)

end Sys2Proof.Machine

/-!
PROOF. The obligation about Warp scheduling fails (R265, R276): it is stated for every template number a skein may hold, and the
refusal that a slot counts may lie in the registers such a number names.
-/
namespace Sys2Proof.Machine
set_option Elab.async false
open Tests

/-- Template 1582 has its downstream codes of slots 48 to 63 in SKN_TOKENS of skein 0. Slot 56 belongs there to class WRG, whose
program the balance does not cover; the count of that refusal turns the slot's code into PRS. -/
def shiftingSlot : State :=
  let w : SkeinWarp := { SkeinWarp.fresh with
    mode := .normal, tpl := 1582, dn := [⟨clsHwr, .reset, 1⟩, ⟨clsPrs, .reset, 2⟩, ⟨clsWrg, .programDense, 3⟩] }
  { up.setReg 0x40818 (4#64 <<< 32) with
    time := { up.time with slot := 56 }
    link := { up.link with sk := [(0, { SkeinLink.fresh with st := .active })] }
    warp := { up.warp with sk := [(0, w)] } }

/-- What the slot leaves of the requests. -/
theorem exec_shiftingSlot : (match exec (.downstreamSlot 0) shiftingSlot with
    | .next t => (t.warp1 0).dn
    | _ => []) = [⟨clsHwr, .reset, 1⟩, ⟨clsWrg, .programDense, 3⟩] := by decide +kernel

theorem dnGrant_shiftingSlot : (shiftingSlot.dnGrant 0).map (fun p => p.1) = some ⟨clsHwr, .reset, 1⟩ := by decide +kernel

/-- Refutes O22: clause 10 says that the operation granted before the slot's refusal is counted leaves the queue, but with a
template that reads its codes from that count another class's operation does. -/
theorem not_warpCommands : ¬ Obligations.WarpCommands := by
  unfold Obligations.WarpCommands
  intro all
  obtain ⟨-, -, -, -, -, -, -, -, -, granted, -⟩ := all
  obtain ⟨t, run, dn, -⟩ := granted shiftingSlot 0 ⟨clsHwr, .reset, 1⟩ (by decide +kernel) rfl (by decide +kernel) (by decide +kernel)
    (by decide +kernel) dnGrant_shiftingSlot (by decide)
  have left := exec_shiftingSlot
  rw [run] at left
  exact absurd (left.symm.trans dn) (by decide +kernel)

end Sys2Proof.Machine

/-!
PROOF. The obligation about upkeep fails (R321): a canonical bolt table may list a Selvage block, which is no bolt.
-/
namespace Sys2Proof.Machine
set_option Elab.async false
open Tests

/-- The bolt table of group 0 lists block 0, a Selvage block, as sealed with a live line; Wring has work in the group. -/
def listedSelvage : State :=
  { up with upk := { up.upk with bolts := [(0, b0)], groups := [(0, { UpkGroup.fresh with wring := true })] } }

theorem bolt_selvage {s : State} {g b : Nat} (inUse : ¬(s.popP ≤ g ∨ s.blocksPerSkein ≤ b)) (selvage : selvageBlock b = true) :
    (s.bolt g b).st = .selvage := by
  unfold State.bolt
  rw [if_neg inUse, if_pos selvage]

theorem exec_wringVictimSelect {s : State} {g b : Nat} {x : Bolt} (runs : s.upkeepRuns = true) (wring : (s.upkG g).wring = true)
    (free : s.hasVictim g .wring = false) (choice : s.wringChoice g = some (b, x)) : exec (.wringVictimSelect g) s =
      .next (s.begin.setBolt g b { x with st := .victim, proc := some .wring, pressQ := false }) := by
  have choice' : s.begin.wringChoice g = some (b, x) := choice
  refine (congrArg done (when_true (by simp [runs, wring, free]))).trans ?_
  rw [choice']
  rfl

/-- Refutes O23: clause 3 says that the bolt Wring chose is a victim, but it may choose a listed Selvage block, which stays one. -/
theorem not_upkeepCommands : ¬ Obligations.UpkeepCommands := by
  unfold Obligations.UpkeepCommands
  intro all
  obtain ⟨-, -, wring, -⟩ := all
  have choice : listedSelvage.wringChoice 0 = some (0, b0) := by decide +kernel
  obtain ⟨t, run, victim⟩ := wring listedSelvage 0 0 b0 (by decide +kernel) rfl rfl (by decide +kernel) choice
  have same := Host.Outcome.next.inj ((exec_wringVictimSelect rfl rfl (by decide +kernel) choice).symm.trans run)
  have selvage : (t.bolt 0 0).st = .selvage := by
    rw [← same]
    exact bolt_selvage (by decide +kernel) rfl
  rw [victim] at selvage
  cases selvage

end Sys2Proof.Machine

/-!
PROOF. What placing and closing, retiring a resource and counting against the thresholds leave of the register stores.
-/
namespace Sys2Proof.Machine
set_option Elab.async false
open Sys2Proof

section Retires
variable (s : State)

/-! ### Opening, placing and closing -/

theorem reportsOnly_upkEvent (e : Evt) (p : Proc) (cls g b : Nat) : s.reportsOnly (s.upkEvent e p cls g b) := reportsOnly_raiseN ..

theorem reportsOnly_setGroup (g : Nat) (x : Group) : s.reportsOnly (s.setGroup g x) := .of_evolves (State.setGroup_ev ..)

theorem reportsOnly_setUpkG (g : Nat) (x : UpkGroup) : s.reportsOnly (s.setUpkG g x) := .of_evolves (State.setUpkG_ev ..)

theorem reportsOnly_setBolt (g b : Nat) (x : Bolt) : s.reportsOnly (s.setBolt g b x) := .of_evolves (State.setBolt_ev ..)

theorem reportsOnly_freeLevels (g : Nat) : s.reportsOnly (s.freeLevels g) := by
  unfold State.freeLevels
  extract_lets +onlyGivenNames f u x admitted src wrung src' urgent
  have first : s.reportsOnly admitted :=
    .ite ((reportsOnly_setGroup ..).trans (reportsOnly_raise ..)) (.ite (reportsOnly_setGroup ..) .refl)
  clear_value admitted
  have second : s.reportsOnly wrung := first.trans
    (.ite ((reportsOnly_setUpkG ..).trans (reportsOnly_upkEvent ..)) (.ite (reportsOnly_setUpkG ..) .refl))
  clear_value wrung
  have third : s.reportsOnly urgent := second.trans ((reportsOnly_setUpkG ..).trans (reportsOnly_upkEvent ..))
  clear_value urgent
  exact .ite (.ite (third.trans (reportsOnly_startCkpt _)) third) (.ite (second.trans (reportsOnly_setUpkG ..)) second)

theorem reportsOnly_openBolt (g : Nat) (p : Part) : s.reportsOnly (s.openBolt g p) := by
  unfold State.openBolt
  split
  · exact .refl
  · extract_lets +onlyGivenNames high
    split
    · exact .refl
    · extract_lets +onlyGivenNames m
      refine .ite .refl ?_
      · exact ((reportsOnly_setBolt ..).trans (reportsOnly_setGroup ..)).trans (reportsOnly_freeLevels ..)

theorem reportsOnly_newStripe (g : Nat) (p : Part) : s.reportsOnly (s.newStripe g p) := by
  unfold State.newStripe
  extract_lets +onlyGivenNames opened
  have first : s.reportsOnly opened := .ite (reportsOnly_openBolt ..) .refl
  clear_value opened
  split
  · exact first
  · exact .ite first (first.trans (reportsOnly_setGroup ..))

theorem reportsOnly_place {g : Nat} {p : Part} {x : Staged} {t : State} (placed : s.place g p x = some t) : s.reportsOnly t := by
  unfold State.place at placed
  extract_lets +onlyGivenNames ready at placed
  have first : s.reportsOnly ready := .ite (reportsOnly_newStripe ..) .refl
  clear_value ready
  split at placed
  · cases placed
  · cases placed
    exact .ite ((first.trans (.of_evolves (State.updStripe_ev ..))).trans (.of_evolves (State.assemble_ev ..)))
      (first.trans (.of_evolves (State.updStripe_ev ..)))

theorem reportsOnly_replace (g : Nat) (p : Part) (x : Staged) : s.reportsOnly (s.replace g p x) := by
  unfold State.replace
  split
  · exact reportsOnly_place s ‹_›
  · exact .refl

theorem reportsOnly_sealBolt (g b : Nat) : s.reportsOnly (s.sealBolt g b) :=
  .ite ((reportsOnly_setBolt ..).trans (reportsOnly_settleBolt ..)) .refl

theorem reportsOnly_closeBolt (g : Nat) (p : Part) (o : OpenBolt) : s.reportsOnly (s.closeBolt g p o) := by
  unfold State.closeBolt
  extract_lets +onlyGivenNames own again top tells opened x closed bolt taken launched reported sealed
  have first : s.reportsOnly taken :=
    ((reportsOnly_setGroup ..).trans (.of_evolves (State.takeBack_ev ..))).trans (reportsOnly_setBolt ..)
  clear_value taken
  have second : s.reportsOnly launched :=
    first.trans (.foldl (fun t _ => .of_evolves (State.launch_ev ..)) ..)
  clear_value launched
  have third : s.reportsOnly sealed := (second.trans (reportsOnly_raiseN ..)).trans (reportsOnly_sealBolt ..)
  clear_value sealed
  exact third.trans (.foldl (fun t _ => reportsOnly_replace ..) ..)

theorem reportsOnly_closeEarly (g : Nat) (p : Part) : s.reportsOnly (s.closeEarly g p) := by
  unfold State.closeEarly
  split
  · exact .refl
  · exact reportsOnly_closeBolt ..

/-! ### Retirements -/

theorem reportsOnly_loseDoubly (g : Nat) : s.reportsOnly (s.loseDoubly g) := by
  unfold State.loseDoubly
  extract_lets +onlyGivenNames twice hit lines maps lostEntry lost
  have first : s.reportsOnly lost := .foldl (fun t l => .ite
    ((reportsOnly_makeLost ..).trans (reportsOnly_bump (f := F.upkDarnStsLostLines) _ (by decide) (by decide) 1))
    (.ite (((reportsOnly_mapRec ..).trans (reportsOnly_loseCovered ..)).trans (reportsOnly_raiseN ..)) (reportsOnly_mapRec ..))) ..
  clear_value lost
  exact first.trans (.foldl (fun t _ => reportsOnly_loseCovered ..) ..)

theorem reportsOnly_darnStart (g : Nat) : s.reportsOnly (s.darnStart g) := by
  unfold State.darnStart
  extract_lets +onlyGivenNames u second working started
  have first : s.reportsOnly started := (reportsOnly_setUpkG ..).trans (reportsOnly_upkEvent ..)
  clear_value started
  exact .ite ((first.trans (reportsOnly_upkEvent ..)).trans (reportsOnly_loseDoubly ..)) first

theorem reportsOnly_checkWidth (g : Nat) : s.reportsOnly (s.checkWidth g) :=
  .ite ((((reportsOnly_setGroup ..).trans (reportsOnly_raise ..)).trans (reportsOnly_setUpkG ..)).trans (reportsOnly_upkEvent ..)) .refl

theorem reportsOnly_checkAlerts : s.reportsOnly s.checkAlerts := .of_evolves (State.checkAlerts_ev s)

theorem reportsOnly_resetDone (g b : Nat) : s.reportsOnly (s.resetDone g b) :=
  .ite .refl (((((reportsOnly_setBolt ..).trans (reportsOnly_setUpkG ..)).trans (reportsOnly_count ..)).trans
    (reportsOnly_freeLevels ..)).trans (reportsOnly_checkAlerts _))

theorem reportsOnly_loseMember (g i : Nat) (sel : Nat → Bool) : s.reportsOnly (s.loseMember g i sel) := by
  unfold State.loseMember
  extract_lets +onlyGivenNames upk cleared
  have first : s.reportsOnly cleared := .of_evolves (L := [.upk]) (ev_upk ev_refl rfl fun z => (UpkState.wf_iff _).mpr (by
    obtain ⟨⟨⟨bolts, groups⟩, triples⟩, rest⟩ := (UpkState.wf_iff _).mp z
    dsimp only
    exact ⟨⟨⟨Tab.wf_mapVals _ _ _ bolts, groups⟩, triples⟩, rest⟩))
  clear_value cleared
  refine first.trans (.foldl (fun t p => ?_) ..)
  split
  · exact .ite (reportsOnly_closeEarly ..) .refl
  · exact .refl

theorem reportsOnly_loseSelvage (n dies : Nat) : s.reportsOnly (s.loseSelvage n dies) := by
  unfold State.loseSelvage
  extract_lets +onlyGivenNames freeze frozen
  have first : s.reportsOnly frozen :=
    .trans (.of_evolves (State.setRegion_ev ..)) (.of_evolves (State.setRegion_ev ..))
  clear_value frozen
  exact (first.trans (.of_evolves (L := [.map]) (ev_map ev_refl rfl MapState.wf_upd))).trans (reportsOnly_raise ..)

theorem reportsOnly_retireSkein (n : Nat) : s.reportsOnly (s.retireSkein n) := by
  unfold State.retireSkein
  extract_lets +onlyGivenNames g was failed lost gone
  have first : s.reportsOnly lost := .trans (.of_evolves (State.setLink1_ev ..)) (reportsOnly_loseMember ..)
  clear_value lost
  exact (((((first.trans (reportsOnly_setGroup ..)).trans (reportsOnly_loseSelvage ..)).trans (reportsOnly_raiseN ..)).trans
    (reportsOnly_darnStart ..)).trans (reportsOnly_checkWidth ..)).trans (reportsOnly_endUnknown _)

theorem reportsOnly_startFold (bg : Nat) : s.reportsOnly (s.startFold bg) :=
  .ite (.trans (.of_evolves (L := [.fch]) (ev_fch ev_refl rfl)) (reportsOnly_raise ..)) (.of_evolves (L := [.fch]) (ev_fch ev_refl rfl))

theorem reportsOnly_stageCfg {s t : State} (kept : s.reportsOnly t) (g a b : Nat) :
    s.reportsOnly ((t.setFld (F.plyStageCfgHostStripes g) a).setFld (F.plyStageCfgMetaStripes g) b) := by
  have loud : quietReg (0x20108 + g * 0x1000) = false := by
    simp only [quietReg, Bool.and_eq_false_iff, Bool.not_eq_false', Bool.and_eq_true, decide_eq_true_eq, beq_iff_eq]
    right; omega
  have notSts : (0x20108 + g * 0x1000) % 0x1000 ≠ 0x20 := by omega
  exact (kept.trans (reportsOnly_setReg _ loud notSts _)).trans (reportsOnly_setReg _ loud notSts _)

theorem reportsOnly_spareBank (arr grp : Nat) : s.reportsOnly (s.spareBank arr grp) := by
  unfold State.spareBank
  extract_lets +onlyGivenNames used flt spared counted full
  have first : s.reportsOnly spared := (.of_evolves (L := [.flt]) (ev_flt ev_refl rfl))
  clear_value spared
  have second : s.reportsOnly full := .trans (.of_evolves (L := [.flt]) (ev_flt ev_refl rfl)) (reportsOnly_raiseN ..)
  clear_value full
  exact .ite (.ite (first.trans (reportsOnly_raise ..)) first)
    (.ite (second.trans (reportsOnly_startFold ..))
      (.ite (second.trans (.of_evolves (L := [.map]) (ev_map ev_refl rfl MapState.wf_upd)))
        (.ite (reportsOnly_stageCfg second grp 320 64) second)))

theorem reportsOnly_takeover (g : Nat) : s.reportsOnly (s.takeover g) :=
  .ite .refl (.trans (.of_evolves (L := [.flt]) (ev_flt ev_refl rfl)) (reportsOnly_raiseN ..))

theorem reportsOnly_retireAct (r : Res) : s.reportsOnly (s.retireAct r) := by
  unfold State.retireAct
  extract_lets +onlyGivenNames n g
  split
  · extract_lets +onlyGivenNames b lost x
    have first : s.reportsOnly lost := reportsOnly_loseMember ..
    clear_value lost
    exact .ite (first.trans (reportsOnly_resetDone ..)) (.ite (first.trans (reportsOnly_darnStart ..)) first)
  · exact ((reportsOnly_loseMember ..).trans (reportsOnly_loseSelvage ..)).trans (reportsOnly_darnStart ..)
  · exact reportsOnly_retireSkein ..
  · exact reportsOnly_spareBank ..
  · extract_lets +onlyGivenNames q c marked
    have first : s.reportsOnly marked := (.of_evolves (L := [.flt]) (ev_flt ev_refl rfl))
    clear_value marked
    exact .ite (.of_evolves (L := [.flt]) (ev_flt ev_refl rfl)) (.ite (first.trans (reportsOnly_retireSkein ..))
      (.ite (first.trans (.trans (.of_evolves (State.setHead_ev ..)) (reportsOnly_raise ..)))
        (.ite (first.trans (.trans (.of_evolves (L := [.flt]) (ev_flt ev_refl rfl)) (reportsOnly_takeover ..))) first)))
  · exact (.of_evolves (L := [.flt]) (ev_flt ev_refl rfl))
  · exact .trans (.of_evolves (L := [.flt]) (ev_flt ev_refl rfl)) (reportsOnly_takeover ..)
  · exact .refl

theorem reportsOnly_writeRet (r : Res) (cause : Nat) (injected : Bool) : s.reportsOnly (s.writeRet r cause injected) := by
  unfold State.writeRet
  extract_lets +onlyGivenNames freed e blockHeld full flt written
  have first : s.reportsOnly freed := .ite (.of_evolves (State.freeCovered_ev ..)) .refl
  clear_value freed
  have second : s.reportsOnly written := first.trans (.ite (.of_evolves (L := [.flt]) (ev_flt ev_refl rfl)) (.ite (.of_evolves (L := [.flt]) (ev_flt ev_refl rfl)) (.of_evolves (L := [.flt]) (ev_flt ev_refl rfl))))
  clear_value written
  exact second.trans (reportsOnly_raiseN ..)

theorem reportsOnly_retire (r : Res) (cause : Nat) (injected : Bool) : s.reportsOnly (s.retire r cause injected) := by
  unfold State.retire
  refine .ite .refl ?_
  extract_lets +onlyGivenNames counted n
  have first : s.reportsOnly counted := reportsOnly_bump s (by decide) (by decide) 1
  clear_value counted
  exact .ite (.ite first ((first.trans (reportsOnly_writeRet ..)).trans (reportsOnly_retireAct ..)))
    ((first.trans (reportsOnly_writeRet ..)).trans (reportsOnly_retireAct ..))

theorem reportsOnly_countThresh (r : Res) (what : Nat) : s.reportsOnly (s.countThresh r what) := by
  unfold State.countThresh
  extract_lets +onlyGivenNames counted
  have first : s.reportsOnly counted := .of_evolves (State.addBucket_ev ..)
  clear_value counted
  split
  · exact .ite ((first.trans (reportsOnly_raiseN ..)).trans (reportsOnly_retire ..)) first
  · exact first

end Retires

end Sys2Proof.Machine

/-!
PROOF. The obligation about the fault manager (R350 to R352, R355, R358, R365, R367 to R370): self-tests, take-back, known-answer
checks, the undo of a retirement, counters, injection and the release of quarantine records.
-/
namespace Sys2Proof.Machine
set_option Elab.async false
open Sys2Proof

/-! ### Registers that clear together -/

/-- The registers at the listed offsets are cleared. -/
def State.clearRegs (s : State) (offs : List Nat) : State := offs.foldl (fun t off => t.setReg off 0#64) s

section Clears
variable {s : State}

theorem keepsRegs_clearRegs (s : State) (offs : List Nat) : s.keepsRegs (s.clearRegs offs) offs := by
  induction offs generalizing s with
  | nil => exact fun _ => .inr rfl
  | cons a offs ih =>
    exact keepsRegs_trans (t := s.setReg a 0#64) (keepsRegs_setReg s a _) (ih _) (by simp) (by simp)

theorem reg_clearRegs {offs : List Nat} {off : Nat} (wf : s.wf = true) (mem : off ∈ offs) : (s.clearRegs offs).reg off = 0#64 := by
  induction offs generalizing s with
  | nil => exact absurd mem List.not_mem_nil
  | cons a offs ih =>
    have wfA : (s.setReg a 0#64).wf = true := wf_setReg s a _ wf
    by_cases later : off ∈ offs
    · exact ih wfA later
    · obtain rfl : off = a := (List.mem_cons.mp mem).resolve_right later
      exact ((keepsRegs_clearRegs (s.setReg off 0#64) offs off).resolve_left later).trans (reg_setReg_same s off _ wf)

end Clears

section Faults
variable {s : State} {h : Nat}

/-! ### The start of a test -/

/-- A running test of the resource is among the tests. -/
def State.testRuns (s : State) (r : Res) : Prop := s.flt.tests.any (fun x => decide (x.res = r) && x.running) = true

theorem testRuns_congr {t : State} {r : Res} (same : t.flt.tests = s.flt.tests) (runs : s.testRuns r) : t.testRuns r := by
  unfold State.testRuns
  rw [same]
  exact runs

theorem testRuns_queueTest {r q : Res} {block why : Nat} (runs : s.testRuns r) : (s.queueTest q block why).testRuns r := by
  obtain ⟨x, mem, is⟩ := List.any_eq_true.mp runs
  unfold State.queueTest
  split
  · refine List.any_eq_true.mpr ⟨_, List.mem_map.mpr ⟨x, mem, rfl⟩, ?_⟩
    split
    · exact is
    · exact is
  · split
    · exact List.any_eq_true.mpr ⟨x, List.mem_append_left _ mem, is⟩
    · exact runs

theorem testRuns_unspill {r : Res} (runs : s.testRuns r) : s.unspill.testRuns r := by
  unfold State.unspill
  split
  · exact runs
  · exact testRuns_queueTest (testRuns_congr (s := s) rfl runs)

theorem tests_takeover (g : Nat) : (s.takeover g).flt.tests = s.flt.tests := by
  unfold State.takeover
  split
  · rfl
  · rw [State.raiseN_flt]

theorem tests_holdEngine (g : Nat) : (s.holdEngine g).flt.tests = s.flt.tests := by
  unfold State.holdEngine
  rw [tests_takeover]
  rfl

theorem flt_takeTestBlock (r : Res) : (s.takeTestBlock r).flt = s.flt := evolves_get (State.takeTestBlock_ev s r) .flt rfl

theorem testRuns_startTest {r : TestRec} (queued : r ∈ s.flt.tests) : (s.startTest r).testRuns r.res := by
  unfold State.startTest
  extract_lets +onlyGivenNames flt marked held
  have first : marked.testRuns r.res :=
    List.any_eq_true.mpr ⟨_, List.mem_map.mpr ⟨r, queued, rfl⟩, by simp⟩
  clear_value marked
  have second : held.testRuns r.res := by
    subst held
    split
    · exact testRuns_congr (tests_holdEngine _) first
    · exact first
  clear_value held
  split
  · exact testRuns_congr (congrArg FltState.tests (flt_takeTestBlock _)) second
  · exact second

theorem exec_testStart_free {r : TestRec} (core : s.pwr.coreOn = true)
    (first : s.flt.tests.find? (fun x => !x.running && s.testFree x.res) = some r) : ∃ t, exec (.testStart) s = .next t ∧
      t.testRuns r.res := by
  have run : exec (.testStart) s = .next (s.begin.startTest r).unspill := by
    refine (congrArg done (when_true core)).trans ?_
    have found : s.begin.flt.tests.find? (fun x => !x.running && s.begin.testFree x.res) = some r := first
    rw [found]
    rfl
  exact ⟨_, run, testRuns_unspill (testRuns_startTest (s := s.begin) (List.mem_of_find?_eq_some first))⟩

/-! ### The outcome of a test -/

theorem reportsOnly_unspill (s : State) : s.reportsOnly s.unspill := .of_evolves (State.unspill_ev s)

theorem reportsOnly_resetRetried (s : State) (n b : Nat) : s.reportsOnly (s.resetRetried n b) :=
  .ite ((reportsOnly_setBolt ..).trans (reportsOnly_resetDone ..)) .refl

theorem fld_result {t : State} {v : Nat} (wf : s.wf = true) (fits : v < 4) (after : (s.setFld F.fltTestStsResult v).reportsOnly t) :
    t.fld F.fltTestStsResult = v :=
  (after.fld (by decide)).trans (fld_setFld_same s F.fltTestStsResult v wf (by decide) (by decide) fits)

theorem testPassed_spec (r : TestRec) (wf : s.wf = true) : (s.testPassed r).wf = true ∧ (s.testPassed r).fld F.fltTestStsResult = 1 ∧
    (s.testPassed r).evtSet Ev.fltTestPass := by
  unfold State.testPassed
  extract_lets +onlyGivenNames told raised reset back
  have countedWf : (s.bump F.fltCnt2Transient r.errors).wf = true := (State.bump_ev ..).2 wf
  have toldWf : told.wf = true := wf_setFld _ _ _ countedWf
  have set : raised.evtSet Ev.fltTestPass := evtSet_raiseN told _ _ _ toldWf (by decide)
  have raisedWf : raised.wf = true := (State.raiseN_ev ..).2 toldWf
  have first : told.reportsOnly raised := reportsOnly_raiseN ..
  clear_value raised
  have second : raised.reportsOnly reset := .ite (reportsOnly_resetRetried ..) .refl
  clear_value reset
  have third : raised.reportsOnly back := second.trans (.ite (.of_evolves (State.pipelineBack_ev ..)) .refl)
  clear_value back
  have rest : raised.reportsOnly (if r.why = 3 then back
      else (List.range r.errors).foldl (fun (u : State) _ => u.countThresh r.res 0) back) :=
    third.trans (.ite .refl (.foldl (fun t _ => reportsOnly_countThresh ..) ..))
  exact ⟨rest.wf raisedWf, fld_result countedWf (by decide) (first.trans rest), rest.evtSet raisedWf set⟩

theorem testFailed_spec (r : TestRec) (parts : Nat) (wf : s.wf = true) : (s.testFailed r parts).wf = true ∧
    (s.testFailed r parts).fld F.fltTestStsResult = 2 ∧ (s.testFailed r parts).evtSet Ev.fltTestFail := by
  unfold State.testFailed
  extract_lets +onlyGivenNames told raised
  have countedWf : (s.bump F.fltCnt2Permanent (r.errors - 1)).wf = true := (State.bump_ev ..).2 wf
  have toldWf : told.wf = true := wf_setFld _ _ _ countedWf
  have set : raised.evtSet Ev.fltTestFail := evtSet_raiseN told _ _ _ toldWf (by decide)
  have raisedWf : raised.wf = true := (State.raiseN_ev ..).2 toldWf
  have first : told.reportsOnly raised := reportsOnly_raiseN ..
  clear_value raised
  have rest : raised.reportsOnly (raised.retire (failUnit r parts) 1 r.sticky) := reportsOnly_retire ..
  exact ⟨rest.wf raisedWf, fld_result countedWf (by decide) (first.trans rest), rest.evtSet raisedWf set⟩

/-- The state in which the outcome of a test that ends is told: the test is no longer queued, and FLT_TEST_STS names it. -/
def State.testOver (s : State) (r : TestRec) : State :=
  ((({ s with flt := { s.flt with
        tests := s.flt.tests.filter (fun x => !decide (x.res = r.res)), hit := s.flt.hit.filter fun x => !decide (x = r.res) } } : State).setFld
      F.fltTestStsDurationUs (min (2 ^ 32 - 1) ((s.time.upNs - r.since) / 1000))).setFld F.fltTestStsType r.res.ty).freeEngine r.res

theorem wf_testOver (r : TestRec) (wf : s.wf = true) : (s.testOver r).wf = true :=
  (State.freeEngine_ev ..).2 (wf_setFld _ _ _ (wf_setFld _ _ _ wf))

theorem exec_testDone {r : TestRec} {parts : Nat} (core : s.pwr.coreOn = true) (only : s.flt.tests = [r]) (runs : r.running = true) :
    exec (.testDone r.res.ty r.res.id parts) s = .next (if r.failing parts = 0 then (s.begin.testOver r).testPassed r
      else (s.begin.testOver r).testFailed r (r.failing parts)).unspill := by
  refine (congrArg done (when_true core)).trans ?_
  have found : s.begin.flt.tests.find? (fun t => t.running && decide (t.res = ⟨r.res.ty, r.res.id⟩)) = some r := by
    rw [State.begin_flt, only]
    simp [runs]
  rw [found]
  rfl

theorem exec_testDone_pass {r : TestRec} {parts : Nat} (wf : s.wf = true) (core : s.pwr.coreOn = true) (only : s.flt.tests = [r])
    (runs : r.running = true) (passes : r.failing parts = 0) : ∃ t, exec (.testDone r.res.ty r.res.id parts) s = .next t ∧
      t.fld F.fltTestStsResult = 1 ∧ t.evtSet Ev.fltTestPass := by
  obtain ⟨endWf, result, set⟩ := testPassed_spec r (wf_testOver (s := s.begin) r wf)
  have rest := reportsOnly_unspill ((s.begin.testOver r).testPassed r)
  refine ⟨_, exec_testDone core only runs, ?_⟩
  rw [if_pos passes]
  exact ⟨(rest.fld (by decide)).trans result, rest.evtSet endWf set⟩

theorem exec_testDone_fail {r : TestRec} {parts : Nat} (wf : s.wf = true) (core : s.pwr.coreOn = true) (only : s.flt.tests = [r])
    (runs : r.running = true) (fails : r.failing parts ≠ 0) : ∃ t, exec (.testDone r.res.ty r.res.id parts) s = .next t ∧
      t.fld F.fltTestStsResult = 2 ∧ t.evtSet Ev.fltTestFail := by
  obtain ⟨endWf, result, set⟩ := testFailed_spec r (r.failing parts) (wf_testOver (s := s.begin) r wf)
  have rest := reportsOnly_unspill ((s.begin.testOver r).testFailed r (r.failing parts))
  refine ⟨_, exec_testDone core only runs, ?_⟩
  rw [if_neg fails]
  exact ⟨(rest.fld (by decide)).trans result, rest.evtSet endWf set⟩

/-! ### Engines and pipelines -/

theorem exec_engineTakeback_noInj {g : Nat} (wf : s.wf = true) (core : s.pwr.coreOn = true) (noInj : s.flt.inj = none)
    (taken : s.flt.takeover.getLsbD g = true) (alive : s.flt.engRetired.getLsbD g = false) (free : s.flt.engHeld.getLsbD g = false)
    (untested : s.flt.tests.any (fun x => decide (x.res.testEngine = some g)) = false) : ∃ t, exec (.engineTakeback g) s = .next t ∧
      t.flt.takeover.getLsbD g = false ∧ t.group g = { s.group g with taken := false, islandReset := false } := by
  let served := s.begin.setGroup g { s.begin.group g with taken := false, islandReset := false }
  let back : State := { served with flt := { served.flt with takeover := served.flt.takeover &&& ~~~(1#8 <<< g) } }
  have quiet : back.injOn 12 (resEngine g) = false := by
    change (match s.flt.inj with | some i => _ | none => false) = false
    rw [noInj]
  have run : exec (.engineTakeback g) s = .next back :=
    (congrArg done (when_true (by simp [core, taken, alive, free, untested]))).trans
      (congrArg Host.Outcome.next (if_neg (by rw [quiet]; exact Bool.false_ne_true)))
  have small : g < 8 := BitVec.lt_of_getLsbD taken
  refine ⟨_, run, ?_, (group_congr (s := served) rfl g).trans (group_setGroup_same s.begin g _ wf)⟩
  change (s.flt.takeover &&& ~~~(1#8 <<< g)).getLsbD g = false
  simp [small]

theorem exec_aesKat_bad {g p : Nat} (core : s.pwr.coreOn = true) (group : g < s.popP)
    (used : Tab.get (fun _ => false) s.flt.aesOut (8 * g + p) = false) (room : s.flt.tests.length < 256) : ∃ t,
      exec (.aesKat g p false) s = .next t ∧ Tab.get (fun _ => false) t.flt.aesOut (8 * g + p) = true ∧
        t.flt.tests.any (fun x => decide (x.res = resAes g p)) = true := by
  let out : State := { s.begin with flt := { s.flt with aesOut := Tab.set (fun _ => false) s.flt.aesOut (8 * g + p) true } }
  have counted : (out.countErr .logic).flt = out.flt := evolves_get (State.countErr_ev out .logic) .flt rfl
  have run : exec (.aesKat g p false) s = .next (out.report (resAes g p) .logic 0) :=
    (congrArg done (when_true (by simp [core, group, used]))).trans (congrArg Host.Outcome.next (if_neg Bool.false_ne_true))
  have listed : Tab.get (fun _ => false) out.flt.aesOut (8 * g + p) = true := Tab.get_put_same ..
  refine ⟨_, run, ?_⟩
  unfold State.report State.queueTest
  rw [counted]
  split
  · next already =>
    refine ⟨listed, ?_⟩
    obtain ⟨x, mem, is⟩ := List.any_eq_true.mp already
    refine List.any_eq_true.mpr ⟨_, List.mem_map.mpr ⟨x, mem, rfl⟩, ?_⟩
    split
    · exact is
    · exact is
  · split
    · exact ⟨listed, by simp⟩
    · next full => exact absurd ((List.length_filter_le ..).trans_lt room) full

/-! ### Requests, undo and counters -/

/-- The two fields that name what is tested, as a test request writes them. -/
def State.testSel (s : State) (ty r : Nat) : State := s.setFlds [(F.fltTestSelType, ty), (F.fltTestSelRes, r)]

theorem testSel_eq (ty r : Nat) : (s.setFld F.fltTestSelType ty).setFld F.fltTestSelRes r = s.testSel ty r := by
  simp only [State.testSel, State.setFlds, List.foldl_cons, List.foldl_nil]

theorem fld_testSel {ty r : Nat} (wf : s.wf = true) (type : ty ≤ 8) (res : r < 2 ^ 32) :
    (s.testSel ty r).fld F.fltTestSelType = ty ∧ (s.testSel ty r).fld F.fltTestSelRes = r := by
  have apart : apartAll [(F.fltTestSelType, ty), (F.fltTestSelRes, r)] = true := rfl
  exact ⟨fld_setFlds_mem wf apart (by simp) (show ty < 2 ^ 4 by omega), fld_setFlds_mem wf apart (by simp) (by
    have width : F.fltTestSelRes.hi + 1 - F.fltTestSelRes.lo = 32 := rfl
    rw [width]
    exact res)⟩

theorem exec_testRequest_new {ty r : Nat} (wf : s.wf = true) (ready : s.barReady h) (valid : 1 ≤ ty) (type : ty ≤ 8) (res : r < 2 ^ 32)
    (new : s.flt.tests.any (fun x => decide (x.res = ⟨ty, r⟩)) = false) (room : s.flt.tests.length < 256) : ∃ t,
      exec (.testRequest h ty r) s = .next t ∧ t.flt.tests.length = s.flt.tests.length + 1 ∧
        t.flt.tests.any (fun x => decide (x.res = ⟨ty, r⟩) && !x.running && decide (x.errors = 0)) = true ∧
        t.fld F.fltTestSelType = ty ∧ t.fld F.fltTestSelRes = r := by
  let named := s.begin.testSel ty r
  have flt : named.flt = s.flt := evolves_get (evolves_setFlds s.begin _) .flt rfl
  have invalid : ¬(ty = 0 ∨ 8 < ty ∨ named.flt.tests.any (fun t => decide (t.res = ⟨ty, r⟩)) = true) := by
    rw [flt, new]
    simp only [Bool.false_eq_true, or_false]
    omega
  have free : (named.flt.tests.filter fun t => !t.running).length < 256 := by
    rw [flt]
    exact (List.length_filter_le ..).trans_lt room
  obtain ⟨selType, selRes⟩ := fld_testSel (s := s.begin) wf type res
  have run : exec (.testRequest h ty r) s = .next { named with flt := { named.flt with
      tests := named.flt.tests ++ [⟨⟨ty, r⟩, false, 0, r % 2 ^ 17, 0, named.stickyOn ⟨ty, r⟩, named.time.upNs⟩] } } := by
    refine (congrArg done (barWrite_ready ready)).trans ?_
    rw [testSel_eq]
    exact congrArg Host.Outcome.next ((if_neg invalid).trans (if_pos free))
  have kept (x : FltState) (f : Fld) : ({ named with flt := x } : State).fld f = named.fld f :=
    fld_of_reg (reg_evolves (ev_flt (u := named) (L := [.flt]) ev_refl rfl) rfl rfl _)
  refine ⟨_, run, ?_, ?_, (kept ..).trans selType, (kept ..).trans selRes⟩
  · rw [← flt]
    exact List.length_append
  · simp

theorem getElem?_changeAt {α : Type} (f : α → α) (i : Nat) (l : List α) : (changeAt f i l)[i]? = l[i]?.map f := by
  induction l generalizing i with
  | nil => simp [changeAt]
  | cons x l ih =>
    cases i with
    | zero => rfl
    | succ i => exact ih i

theorem length_changeAt {α : Type} (f : α → α) (i : Nat) (l : List α) : (changeAt f i l).length = l.length := by
  induction l generalizing i with
  | nil => simp [changeAt]
  | cons x l ih =>
    cases i with
    | zero => rfl
    | succ i => exact congrArg Nat.succ (ih i)

/-- What changes only the fault manager's part, and starts from an empty output, keeps every other part. -/
theorem keeps_begin_flt (s : State) (x : FltState) : s.keeps { s.begin with flt := x } [.flt, .out] :=
  (ev_flt (ev_step ev_refl (State.begin_ev s) rfl) rfl).1

theorem exec_fltUndo_injected {e : RetEnt} (ready : s.barReady h) (listed : s.flt.ret[s.fld F.fltRetSelIndex]? = some e)
    (injected : e.injected = true) : ∃ t, exec (.fltUndo h) s = .next t ∧
      t.flt.ret[s.fld F.fltRetSelIndex]? = some { e with undo := true } ∧ t.flt.ret.length = s.flt.ret.length ∧
      s.keeps t [.flt, .out] :=
  ⟨_, congrArg done (barWrite_ready ready), (getElem?_changeAt ..).trans (by
    rw [State.begin_flt]
    refine (congrArg (Option.map _) listed).trans ?_
    exact congrArg some (if_pos injected)), length_changeAt .., keeps_begin_flt s _⟩

theorem qcnt_cleared (queues : Tab QCnt) (q : Nat) :
    let x := Tab.get (fun _ => QCnt.fresh) (Tab.mapVals (fun _ => QCnt.fresh)
      (fun _ x => { x with parity := 0, replays := 0, propagated := 0 }) queues) q
    x.parity = 0 ∧ x.replays = 0 ∧ x.propagated = 0 := by
  refine Tab.get_of_all (P := fun x : QCnt => x.parity = 0 ∧ x.replays = 0 ∧ x.propagated = 0) ?_ (fun _ => ⟨rfl, rfl, rfl⟩) q
  intro p mem
  obtain ⟨y, -, rfl⟩ := List.mem_map.mp (List.mem_filter.mp mem).1
  exact ⟨rfl, rfl, rfl⟩

theorem exec_fltCntClr (wf : s.wf = true) (ready : s.barReady h) : ∃ t, exec (.fltCntClr h) s = .next t ∧
    t.reg F.fltCnt0Link.off = 0#64 ∧ t.reg F.fltCnt1Logic.off = 0#64 ∧ t.reg F.fltCnt2ReqTimeouts.off = 0#64 ∧
    (∀ q, (t.qcnt q).parity = 0 ∧ (t.qcnt q).replays = 0 ∧ (t.qcnt q).propagated = 0) ∧
    s.keepsRegs t [F.fltCnt0Link.off, F.fltCnt1Logic.off, F.fltCnt2ReqTimeouts.off] :=
  have cleared {off : Nat} (mem : off ∈ [F.fltCnt0Link.off, F.fltCnt1Logic.off, F.fltCnt2ReqTimeouts.off]) :=
    reg_clearRegs (s := s.begin) wf mem
  ⟨_, congrArg done (barWrite_ready ready), cleared (by simp), cleared (by simp), cleared (by simp), fun q => qcnt_cleared _ q,
    keepsRegs_clearRegs s.begin [F.fltCnt0Link.off, F.fltCnt1Logic.off, F.fltCnt2ReqTimeouts.off]⟩

/-! ### Injection -/

theorem exec_injEnWrite_allowed (v : Bool) (wf : s.wf = true) (ready : s.barReady h) (allowed : s.flt.injAllowed = true) : ∃ t,
    exec (.injEnWrite h v) s = .next t ∧ t.fld F.fltCtlInjEn = ofBool v :=
  ⟨_, congrArg done ((barWrite_ready ready).trans (if_neg (by simp [allowed]))),
    fld_setFld_same s.begin F.fltCtlInjEn _ wf (by decide) (by decide) (show ofBool v < 2 by cases v <;> decide)⟩

theorem exec_injEnWrite_ignored (ready : s.barReady h) (barred : s.flt.injAllowed = false) : ∃ t,
    exec (.injEnWrite h true) s = .next t ∧ s.keeps t [.out] :=
  ⟨_, congrArg done ((barWrite_ready ready).trans (if_pos (by simp [barred]))), (State.begin_ev s).1⟩

/-- FLT_INJ_CTL with the fields of a write of ARM. -/
def State.injCtl (s : State) (k n : Nat) (sticky haltOk : Bool) : State :=
  s.setFlds [(F.fltInjCtlCount, n), (F.fltInjCtlKind, k), (F.fltInjCtlHaltOk, ofBool haltOk), (F.fltInjCtlSticky, ofBool sticky)]

theorem fld_injCtl (k n : Nat) (sticky haltOk : Bool) {f : Fld} (other : f.off ≠ 0x8140) :
    (s.injCtl k n sticky haltOk).fld f = s.fld f :=
  fld_of_reg (reg_setFlds_other _ (by simp [other, F.fltInjCtlCount, F.fltInjCtlKind, F.fltInjCtlHaltOk, F.fltInjCtlSticky]))

theorem flt_injCtl (k n : Nat) (sticky haltOk : Bool) : (s.injCtl k n sticky haltOk).flt = s.flt :=
  evolves_get (evolves_setFlds s _) .flt rfl

theorem armable_injCtl (k n : Nat) (sticky haltOk : Bool) : (s.injCtl k n sticky haltOk).armable k haltOk = s.armable k haltOk := by
  unfold State.armable
  rw [fld_injCtl _ _ _ _ (show F.fltCtlInjEn.off ≠ _ by decide), fld_injCtl _ _ _ _ (show F.fltInjTgtType.off ≠ _ by decide), flt_injCtl]

theorem exec_injArm_armable {k n : Nat} {sticky haltOk : Bool} (ready : s.barReady h) (notIsland : k ≠ 12)
    (armable : s.armable k haltOk = true) : ∃ t, exec (.injArm h k n sticky haltOk) s = .next t ∧
      (t.flt.inj.map fun i => (i.kind, i.left, i.sticky, i.res)) =
        some (k, max 1 n, sticky, ⟨s.fld F.fltInjTgtType, s.fld F.fltInjTgtRes⟩) ∧
      (t.flt.inj.map fun i => i.addr) = some (s.fld F.fltInjAddrAddr) := by
  have armed : (s.begin.injCtl k n sticky haltOk).armable k haltOk = true := (armable_injCtl ..).trans armable
  have type := fld_injCtl (s := s.begin) k n sticky haltOk (show F.fltInjTgtType.off ≠ _ by decide)
  have res := fld_injCtl (s := s.begin) k n sticky haltOk (show F.fltInjTgtRes.off ≠ _ by decide)
  have addr := fld_injCtl (s := s.begin) k n sticky haltOk (show F.fltInjAddrAddr.off ≠ _ by decide)
  refine ⟨_, congrArg done ((barWrite_ready ready).trans ((if_pos armed).trans (if_neg fun c => notIsland c.1))), ?_, ?_⟩
  · exact congrArg some (Prod.ext rfl (Prod.ext rfl (Prod.ext rfl (congrArg₂ Res.mk type res))))
  · exact congrArg some addr

end Faults

/-- Settles O24: tests, engines, pipelines, the retirement table, counters, injection and quarantine records. -/
theorem faultCommands : Obligations.FaultCommands := by
  unfold Obligations.FaultCommands
  exact ⟨fun _ _ core first => exec_testStart_free core first,
    fun _ _ _ wf core only runs passes => exec_testDone_pass wf core only runs passes,
    fun _ _ _ wf core only runs fails => exec_testDone_fail wf core only runs fails,
    fun _ _ wf core noInj taken alive free untested => exec_engineTakeback_noInj wf core noInj taken alive free untested,
    fun _ _ _ core group used room => exec_aesKat_bad core group used room,
    fun _ _ _ _ wf ready valid type res new room => exec_testRequest_new wf ready valid type res new room,
    fun _ _ _ _ ready selected listed injected => by subst selected; exact exec_fltUndo_injected ready listed injected,
    fun _ _ wf ready => exec_fltCntClr wf ready,
    fun _ _ v wf ready allowed => exec_injEnWrite_allowed v wf ready allowed,
    fun _ _ ready barred => exec_injEnWrite_ignored ready barred,
    fun _ _ _ _ _ _ _ ready notIsland armable => exec_injArm_armable ready notIsland armable,
    fun s _ ready => ⟨_, congrArg done (barWrite_ready ready), rfl, keeps_begin_flt s _⟩,
    fun s _ _ ready => ⟨_, congrArg done (barWrite_ready ready), rfl, keeps_begin_flt s _⟩⟩

end Sys2Proof.Machine

/-!
PROOF. The obligation about the heads (R37 to R41, R45, R48, R82 to R88).
-/
namespace Sys2Proof.Machine
set_option Elab.async false
open Sys2Proof

section Heads
variable {s t : State} {h k : Nat}

/-! ### One head -/

theorem hstCtl_ready {f : State → State} (ready : s.barReady h) (present : s.present k = true) : s.hstCtl h k f = f s.begin :=
  (barWrite_ready ready).trans (if_pos present)

/-- A command that rewrites one head changes the heads alone. -/
theorem keeps_begin_setHead (s : State) (h : Nat) (x : Head) : s.keeps (s.begin.setHead h x) [.host, .out] :=
  (ev_step (ev_step ev_refl (State.begin_ev s) rfl) (State.setHead_ev s.begin h x) rfl).1

theorem head_begin_setHead (x : Head) (wf : s.wf = true) : (s.begin.setHead h x).head h = x := head_setHead_same s.begin h x wf

theorem present_lt (present : s.present h = true) : h < 8 := by
  have low : h < s.nHeads := of_decide_eq_true present
  unfold State.nHeads at low
  split at low <;> omega

theorem pendsOnly_raise (wf : s.wf = true) (e : Evt) : s.pendsOnly (s.raise e) := pendsOnly_raiseAt wf ..

theorem pendsOnly_raiseIf (wf : s.wf = true) (c : Bool) (e : Evt) : s.pendsOnly (s.raiseIf c e) := by
  unfold State.raiseIf
  split
  · exact pendsOnly_raise wf e
  · exact .refl wf

theorem head_bump (f : Fld) (n : Nat) : (s.bump f n).head h = s.head h := head_congr (State.bump_host ..) h

/-! ### A link that goes down -/

/-- The head without its link. -/
def Head.linkLost (x : Head) (st : LinkState) : Head := { x with link := st, width := 0, speed := 0, reversed := false, polarity := 0 }

theorem loseLink_eq (st : LinkState) : s.loseLink h st = if s.headUp h = true
    then ((s.setHead h ((s.head h).linkLost st)).dropHead h).linkDownEvent h else s.setHead h ((s.head h).linkLost st) := rfl

theorem wf_dropHead (wf : s.wf = true) : (s.dropHead h).wf = true := (State.dropHead_ev s h).2 wf

theorem pendsOnly_linkDownEvent (wf : s.wf = true) : s.pendsOnly (s.linkDownEvent h) := by
  have counted : s.pendsOnly (s.bump (F.hstLinkerrDownCount h) 1) := .of_evolves wf (State.bump_ev ..) rfl
  exact counted.trans (pendsOnly_raise counted.wf _)

theorem evtSet_linkDownEvent (wf : s.wf = true) : (s.linkDownEvent h).evtSet (Ev.hstLinkDown h) :=
  evtSet_raise _ _ ((State.bump_ev ..).2 wf) (show 0 < 64 by decide)

theorem keepsEvents_linkDownEvent (s : State) (h : Nat) : s.keepsEvents (s.linkDownEvent h) :=
  (keepsEvents_bump s (show (0x10108 + h * 0x1000) % 0x1000 ≠ 0x20 by omega) 1).trans (keepsEvents_raise ..)

/-- What a lost link leaves of the heads: the head's own link down, and pending vectors. -/
theorem pendsOnly_loseLink (st : LinkState) (wf : s.wf = true) :
    (s.setHead h ((s.head h).linkLost st)).pendsOnly (s.loseLink h st) := by
  have lostWf := wf_setHead s h ((s.head h).linkLost st) wf
  rw [loseLink_eq]
  split
  · exact (State.pendsOnly.of_evolves lostWf (State.dropHead_ev ..) rfl).trans (pendsOnly_linkDownEvent (wf_dropHead lostWf))
  · exact .refl lostWf

theorem head_loseLink (st : LinkState) (wf : s.wf = true) :
    { (s.loseLink h st).head h with msixPend := 0#64 } = { (s.head h).linkLost st with msixPend := 0#64 } := by
  rw [(pendsOnly_loseLink st wf).heads h, head_setHead_same s h _ wf]

theorem wf_loseLink (st : LinkState) (wf : s.wf = true) : (s.loseLink h st).wf = true := (pendsOnly_loseLink st wf).wf

theorem link_loseLink (st : LinkState) (wf : s.wf = true) : ((s.loseLink h st).head h).link = st := by
  have same := congrArg Head.link (head_loseLink (h := h) st wf)
  exact same

theorem evtSet_loseLink (st : LinkState) (wf : s.wf = true) (up : s.headUp h = true) : (s.loseLink h st).evtSet (Ev.hstLinkDown h) := by
  rw [loseLink_eq, if_pos up]
  exact evtSet_linkDownEvent (wf_dropHead (wf_setHead _ _ _ wf))

theorem keepsEvents_loseLink (s : State) (h : Nat) (st : LinkState) : s.keepsEvents (s.loseLink h st) := by
  rw [loseLink_eq]
  have lost : s.keepsEvents (s.setHead h ((s.head h).linkLost st)) := .of_evolves (State.setHead_ev ..)
  split
  · exact (lost.trans (.of_evolves (State.dropHead_ev ..))).trans (keepsEvents_linkDownEvent ..)
  · exact lost

theorem reg_loseLink {off : Nat} (st : LinkState) (count : off ≠ (F.hstLinkerrDownCount h).off) (event : off ∉ (Ev.hstLinkDown h).regs) :
    (s.loseLink h st).reg off = s.reg off := by
  have lost : (s.setHead h ((s.head h).linkLost st)).reg off = s.reg off := reg_evolves (State.setHead_ev ..) rfl rfl off
  rw [loseLink_eq]
  split
  · rw [← lost, ← reg_evolves (State.dropHead_ev (s.setHead h ((s.head h).linkLost st)) h) rfl rfl off]
    exact (reg_raiseAt_other _ _ _ _ _ event).trans (reg_setReg_other _ _ _ _ count)
  · exact lost

/-! ### Resets -/

theorem head_resetHead (wf : s.wf = true) : (s.resetHead h).head h = ((s.loseLink h (s.restLink h)).head h).reset :=
  head_setHead_same _ h _ (wf_loseLink _ wf)

theorem link_resetHead (wf : s.wf = true) : ((s.resetHead h).head h).link = s.restLink h := by
  rw [head_resetHead wf]
  exact link_loseLink _ wf

theorem perst_resetHead (wf : s.wf = true) : ((s.resetHead h).head h).perst = (s.head h).perst := by
  rw [head_resetHead wf]
  have same := congrArg Head.perst (head_loseLink (h := h) (s.restLink h) wf)
  exact same

/-- What a reset of a head's function leaves: no decoders, no logs, MSI-X off and no IDE keys (R86). -/
theorem reset_resetHead (wf : s.wf = true) : ((s.resetHead h).head h).decoders = [] ∧ ((s.resetHead h).head h).logs = Quad.all [] ∧
    ((s.resetHead h).head h).msixOn = false ∧ ((s.resetHead h).head h).ideKeys = false := by
  rw [head_resetHead wf]
  exact ⟨rfl, rfl, rfl, rfl⟩

theorem evtSet_resetHead (wf : s.wf = true) (up : s.headUp h = true) : (s.resetHead h).evtSet (Ev.hstLinkDown h) :=
  (State.keepsEvents.of_evolves (State.setHead_ev _ h _)).evtSet (wf_loseLink _ wf) (evtSet_loseLink _ wf up)

/-! ### PERST, training and loss -/

theorem restLink_detect (perst : (s.head h).perst = false) (enabled : s.fld (F.hstCtlDisable h) = 0) : s.restLink h = .detect := by
  unfold State.restLink
  rw [perst, enabled]
  rfl

theorem exec_hstPerstDeassert (wf : s.wf = true) (present : s.present h = true) (perst : (s.head h).perst = true)
    (core : s.pwr.coreOn = true) (enabled : s.fld (F.hstCtlDisable h) = 0) : ∃ t, exec (.hstPerstDeassert h) s = .next t ∧
      t.head h = { s.head h with perst := false, link := .detect } ∧ s.keeps t [.host, .out] := by
  let freed := s.begin.setHead h { s.head h with perst := false }
  have freedHead : freed.head h = { s.head h with perst := false } := head_begin_setHead _ wf
  have run : exec (.hstPerstDeassert h) s = .next (freed.setHead h { freed.head h with link := freed.restLink h }) :=
    (congrArg done (when_true (by simp [present, perst]))).trans (congrArg Host.Outcome.next (if_pos core))
  have rest : freed.restLink h = .detect := restLink_detect (by rw [freedHead])
    ((fld_of_reg (reg_evolves (State.setHead_ev s.begin h _) rfl rfl _)).trans enabled)
  refine ⟨_, run, ?_, ?_⟩
  · rw [head_setHead_same freed h _ (wf_setHead _ _ _ wf), rest, freedHead]
  · exact (ev_step (ev_step (ev_step ev_refl (State.begin_ev s) rfl) (State.setHead_ev ..) rfl) (State.setHead_ev ..) rfl).1

theorem exec_hstPerstAssert (wf : s.wf = true) (present : s.present h = true) (perst : (s.head h).perst = false) : ∃ t,
    exec (.hstPerstAssert h) s = .next t ∧ (t.head h).perst = true ∧ (t.head h).link = .off ∧ (t.head h).decoders = [] := by
  let held := s.begin.setHead h { s.head h with perst := true }
  have heldWf : held.wf = true := wf_setHead _ _ _ wf
  have heldPerst : (held.head h).perst = true := by rw [head_begin_setHead _ wf]
  have rest : held.restLink h = .off := by
    unfold State.restLink
    rw [heldPerst]
    rfl
  obtain ⟨decoders, -⟩ := reset_resetHead (h := h) heldWf
  exact ⟨held.resetHead h, congrArg done (when_true (by simp [present, perst])), (perst_resetHead heldWf).trans heldPerst,
    (link_resetHead heldWf).trans rest, decoders⟩

/-- The head with a link of the speed and width trained. -/
def Head.trained (x : Head) (v w : Nat) (rev : Bool) (pol : BitVec 16) : Head :=
  { x with link := .active, speed := v, width := w, reversed := rev, polarity := pol.toNat, attemptDown := false }

theorem exec_headLinkTrained {v w pol : Nat} {rev : Bool} (wf : s.wf = true) (may : s.mayTrain h = true) (fits : pol < 2 ^ 16) : ∃ t,
    exec (.headLinkTrained h v w rev (BitVec.ofNat 16 pol)) s = .next t ∧ (t.head h).link = .active ∧
      (t.head h).speed = min v (s.maxSpeed h) ∧ (t.head h).width = min w s.lanes ∧ (t.head h).polarity = pol ∧
      (min v (s.maxSpeed h) < s.maxSpeed h ∨ min w s.lanes < s.lanes → t.evtSet (Ev.hstLinkDegraded h)) := by
  let x := (s.head h).trained (min v (s.maxSpeed h)) (min w s.lanes) rev (BitVec.ofNat 16 pol)
  let up := s.begin.setHead h x
  have upWf : up.wf = true := wf_setHead _ _ _ wf
  let slow := decide (min v (s.maxSpeed h) < up.maxSpeed h ∨ min w s.lanes < up.lanes)
  have run : exec (.headLinkTrained h v w rev (BitVec.ofNat 16 pol)) s = .next (up.raiseIf slow (Ev.hstLinkDegraded h)) :=
    congrArg done (when_true may)
  have pends := (pendsOnly_raiseIf upWf slow (Ev.hstLinkDegraded h)).heads h
  rw [show up.head h = x from head_begin_setHead _ wf] at pends
  have link := congrArg Head.link pends
  have speed := congrArg Head.speed pends
  have width := congrArg Head.width pends
  have polarity := congrArg Head.polarity pends
  have polNat : (BitVec.ofNat 16 pol).toNat = pol := by simpa using fits
  refine ⟨_, run, link, speed, width, polarity.trans polNat, fun degraded => ?_⟩
  have maxSpeed : up.maxSpeed h = s.maxSpeed h := by
    unfold State.maxSpeed
    rw [show up.fld (F.hstCtlMaxSpeed h) = s.fld (F.hstCtlMaxSpeed h) from
      fld_of_reg (reg_evolves (State.setHead_ev s.begin h _) rfl rfl _)]
  have isSlow : slow = true := decide_eq_true (by rw [maxSpeed]; exact degraded)
  rw [isSlow]
  exact evtSet_raise _ _ upWf (show 1 < 64 by decide)

theorem exec_headTrainingFailed (wf : s.wf = true) (may : s.mayTrain h = true) (fresh : (s.head h).link ≠ .recovery)
    (first : (s.head h).attemptDown = false) : ∃ t, exec (.headTrainingFailed h) s = .next t ∧ (t.head h).link = .training ∧
      (t.head h).attemptDown = true ∧ t.evtSet (Ev.hstLinkDown h) := by
  let x : Head := { s.head h with link := .training, attemptDown := true }
  let failed := s.begin.setHead h x
  have failedWf : failed.wf = true := wf_setHead _ _ _ wf
  have isFirst : (!(s.begin.head h).attemptDown) = true := by
    rw [show (s.begin.head h).attemptDown = false from first]
    rfl
  have run : exec (.headTrainingFailed h) s = .next (failed.linkDownEvent h) :=
    (congrArg done (when_true (by simp [may, fresh]))).trans (congrArg Host.Outcome.next (if_pos isFirst))
  have pends := (pendsOnly_linkDownEvent (h := h) failedWf).heads h
  rw [show failed.head h = x from head_begin_setHead _ wf] at pends
  have link := congrArg Head.link pends
  have attempt := congrArg Head.attemptDown pends
  exact ⟨_, run, link, attempt, evtSet_linkDownEvent failedWf⟩

theorem exec_headLinkDown (wf : s.wf = true) (core : s.pwr.coreOn = true) (present : s.present h = true) (up : s.headUp h = true)
    (perst : (s.head h).perst = false) (enabled : s.fld (F.hstCtlDisable h) = 0) : ∃ t, exec (.headLinkDown h) s = .next t ∧
      (t.head h).link = .detect ∧ (t.head h).width = 0 ∧ t.evtSet (Ev.hstLinkDown h) := by
  have rest : s.begin.restLink h = .detect := restLink_detect perst enabled
  have width := congrArg Head.width (head_loseLink (s := s.begin) (h := h) (s.begin.restLink h) wf)
  exact ⟨_, congrArg done (when_true (by simp [core, present, up])), (link_loseLink (s := s.begin) _ wf).trans rest, width,
    evtSet_loseLink (s := s.begin) _ wf up⟩

/-- Recovery, as the entry and HST_CTL.RETRAIN count it. -/
theorem recovery_spec (wf : s.wf = true) :
    ((s.begin.setHead k { s.head k with link := .recovery }).bump (F.hstLinkerrRecoveryCount k) 1).head k =
      { s.head k with link := .recovery } ∧
    s.keepsRegs ((s.begin.setHead k { s.head k with link := .recovery }).bump (F.hstLinkerrRecoveryCount k) 1)
      [(F.hstLinkerrRecoveryCount k).off] :=
  ⟨(head_bump ..).trans (head_begin_setHead _ wf),
    keepsRegs_trans (s := s.begin) (L := []) (keepsRegs_evolves [] (State.setHead_ev s.begin k _)) (keepsRegs_setReg _ _ _) (by simp)
      (by simp)⟩

theorem exec_headLinkRecovery_entry (wf : s.wf = true) (core : s.pwr.coreOn = true) (present : s.present h = true)
    (active : (s.head h).link = .active) : ∃ t, exec (.headLinkRecovery h) s = .next t ∧
      t.head h = { s.head h with link := .recovery } ∧ s.keepsRegs t [(F.hstLinkerrRecoveryCount h).off] :=
  ⟨_, (congrArg done (when_true (by simp [core, present, active]))).trans (congrArg Host.Outcome.next (if_pos active)),
    recovery_spec wf⟩

theorem exec_headLinkRecovery_exit (wf : s.wf = true) (core : s.pwr.coreOn = true) (present : s.present h = true)
    (recovering : (s.head h).link = .recovery) : ∃ t, exec (.headLinkRecovery h) s = .next t ∧
      t.head h = { s.head h with link := .active } ∧ s.keeps t [.host, .out] := by
  have notActive : ¬(s.begin.head h).link = .active := by
    change ¬(s.head h).link = .active
    rw [recovering]
    decide
  exact ⟨_, (congrArg done (when_true (by simp [core, present, recovering]))).trans (congrArg Host.Outcome.next (if_neg notActive)),
    head_begin_setHead _ wf, keeps_begin_setHead _ _ _⟩

/-! ### HST_CTL -/

theorem reg_disable_loseLink (st : LinkState) (low : k < 8) :
    (s.loseLink k st).reg (F.hstCtlDisable k).off = s.reg (F.hstCtlDisable k).off := by
  have ctlOff : (F.hstCtlDisable k).off = 0x10010 + k * 0x1000 := rfl
  have cntOff : (F.hstLinkerrDownCount k).off = 0x10108 + k * 0x1000 := rfl
  have stsOff : (Ev.hstLinkDown k).stsOff = 0x10000 + k * 0x1000 + 0x20 := rfl
  refine reg_loseLink st (by omega) ?_
  simp only [Evt.regs, List.mem_cons, List.not_mem_nil, or_false, not_or]
  omega

theorem exec_headDisable_set (wf : s.wf = true) (ready : s.barReady h) (present : s.present k = true) : ∃ t,
    exec (.headDisable h k true) s = .next t ∧ t.fld (F.hstCtlDisable k) = 1 ∧ (t.head k).link = .off := by
  let off := s.begin.setFld (F.hstCtlDisable k) (ofBool true)
  have run : exec (.headDisable h k true) s = .next (off.loseLink k .off) :=
    (congrArg done (hstCtl_ready ready present)).trans (congrArg Host.Outcome.next (if_pos rfl))
  have set : off.fld (F.hstCtlDisable k) = 1 :=
    fld_setFld_same s.begin _ _ wf (show 0 ≤ 0 by decide) (show 0 < 64 by decide) (show 1 < 2 by decide)
  exact ⟨_, run, (fld_of_reg (reg_disable_loseLink .off (present_lt present))).trans set, link_loseLink .off (wf_setFld _ _ _ wf)⟩

theorem exec_headDisable_clear (wf : s.wf = true) (ready : s.barReady h) (present : s.present k = true)
    (disabled : s.fld (F.hstCtlDisable k) = 1) (perst : (s.head k).perst = false) : ∃ t,
      exec (.headDisable h k false) s = .next t ∧ t.fld (F.hstCtlDisable k) = 0 ∧ (t.head k).link = .detect := by
  let on := s.begin.setFld (F.hstCtlDisable k) (ofBool false)
  have onWf : on.wf = true := wf_setFld _ _ _ wf
  have onHead : on.head k = s.head k := head_congr (State.setFld_host ..) k
  have was : (s.begin.fld (F.hstCtlDisable k) == 1) = true := beq_iff_eq.mpr disabled
  have run : exec (.headDisable h k false) s = .next (on.setHead k { on.head k with link := on.restLink k }) :=
    (congrArg done (hstCtl_ready ready present)).trans
      (congrArg Host.Outcome.next ((if_neg Bool.false_ne_true).trans (if_pos was)))
  have clear : on.fld (F.hstCtlDisable k) = 0 :=
    fld_setFld_same s.begin _ _ wf (show 0 ≤ 0 by decide) (show 0 < 64 by decide) (show 0 < 2 by decide)
  refine ⟨_, run, (fld_of_reg (reg_evolves (State.setHead_ev ..) rfl rfl _)).trans clear, ?_⟩
  rw [head_setHead_same on k _ onWf]
  exact restLink_detect (by rw [onHead, perst]) clear

theorem exec_headRetrain (wf : s.wf = true) (ready : s.barReady h) (present : s.present k = true) (active : (s.head k).link = .active) :
    ∃ t, exec (.headRetrain h k) s = .next t ∧ t.head k = { s.head k with link := .recovery } ∧
      s.keepsRegs t [(F.hstLinkerrRecoveryCount k).off] :=
  ⟨_, (congrArg done (hstCtl_ready ready present)).trans (congrArg Host.Outcome.next (if_pos active)), recovery_spec wf⟩

theorem exec_headCntClr (wf : s.wf = true) (ready : s.barReady h) (present : s.present k = true) : ∃ t,
    exec (.headCntClr h k) s = .next t ∧ t.reg (F.hstLinkerrCorrCount k).off = 0#64 ∧
      t.reg (F.hstExterrCntOutsideExtent k).off = 0#64 ∧
      s.keepsRegs t [(F.hstLinkerrCorrCount k).off, (F.hstExterrCntOutsideExtent k).off] :=
  ⟨s.begin.clearRegs [(F.hstLinkerrCorrCount k).off, (F.hstExterrCntOutsideExtent k).off],
    congrArg done (hstCtl_ready ready present), reg_clearRegs (s := s.begin) wf (by simp), reg_clearRegs (s := s.begin) wf (by simp),
    keepsRegs_clearRegs s.begin _⟩

theorem exec_roMgmtWrite {v : Bool} (wf : s.wf = true) (ready : s.barReady h) (present : s.present k = true)
    (may : k ≠ h ∨ v = true) : ∃ t, exec (.roMgmtWrite h k v) s = .next t ∧ t.fld (F.hstCtlRoMgmt k) = ofBool v ∧
      s.keepsRegs t [(F.hstCtlRoMgmt k).off] := by
  have taken : ¬(!v && k == h) = true := by
    rcases may with other | set
    · simp [other]
    · simp [set]
  exact ⟨_, (congrArg done (hstCtl_ready ready present)).trans (congrArg Host.Outcome.next (if_neg taken)),
    fld_setFld_same s.begin _ _ wf (show 3 ≤ 3 by decide) (show 3 < 64 by decide) (show ofBool v < 2 by cases v <;> decide),
    keepsRegs_setReg s.begin _ _⟩

/-! ### Correctable errors, IDE and decoders -/

/-- The head's window of correctable errors with one more. -/
def Head.corrected (x : Head) (now : Nat) : Head :=
  if x.corrWin = 0 ∨ x.corrStart + 1000000000 ≤ now then { x with corrWin := 1, corrStart := now, corrDone := false }
  else { x with corrWin := x.corrWin + 1 }

theorem corrWin_corrected (x : Head) (now : Nat) : (x.corrected now).corrWin =
    if x.corrWin = 0 ∨ x.corrStart + 1000000000 ≤ now then 1 else x.corrWin + 1 := by
  unfold Head.corrected
  split <;> rfl

theorem exec_headCorrectableError (wf : s.wf = true) (core : s.pwr.coreOn = true) (present : s.present h = true) : ∃ t,
    exec (.headCorrectableError h) s = .next t ∧
      t.fld (F.hstLinkerrCorrCount h) = satAdd 32 (s.fld (F.hstLinkerrCorrCount h)) 1 ∧
      (t.head h).corrWin = (if (s.head h).corrWin = 0 ∨ (s.head h).corrStart + 1000000000 ≤ s.time.upNs then 1
        else (s.head h).corrWin + 1) := by
  let counted := s.begin.bump (F.hstLinkerrCorrCount h) 1
  have countedWf : counted.wf = true := (State.bump_ev ..).2 wf
  have countedHead : counted.head h = s.head h := head_bump ..
  have countedTime : counted.time = s.time := State.bump_time ..
  let x := (counted.head h).corrected counted.time.upNs
  let past := decide (counted.fld (F.hstLinkerrCfgCorrThresh h) < x.corrWin) && !x.corrDone
  let noted := counted.setHead h { x with corrDone := x.corrDone || past }
  have run : exec (.headCorrectableError h) s = .next (noted.raiseIf past (Ev.hstCorrThresh h)) := by
    refine (congrArg done (when_true (by simp [core, present]))).trans ?_
    simp only [noted, past, x, Head.corrected, decide_eq_true_eq]
    rfl
  have notedWf : noted.wf = true := wf_setHead _ _ _ countedWf
  have low := present_lt present
  have cntOff : (F.hstLinkerrCorrCount h).off = 0x10108 + h * 0x1000 := rfl
  have quiet : quietReg (F.hstLinkerrCorrCount h).off = true := by
    rw [cntOff]
    interval_cases h <;> decide
  have count : noted.fld (F.hstLinkerrCorrCount h) = satAdd 32 (s.fld (F.hstLinkerrCorrCount h)) 1 :=
    (fld_of_reg (reg_evolves (State.setHead_ev ..) rfl rfl _)).trans
      (fld_bump_same s.begin (F.hstLinkerrCorrCount h) 1 wf (show 0 ≤ 31 by decide) (show 31 < 64 by decide))
  have window := congrArg Head.corrWin ((pendsOnly_raiseIf notedWf past (Ev.hstCorrThresh h)).heads h)
  rw [show noted.head h = { x with corrDone := x.corrDone || past } from head_setHead_same counted h _ countedWf] at window
  refine ⟨_, run, ((reportsOnly_raiseIf ..).fld quiet).trans count, window.trans ?_⟩
  exact (corrWin_corrected ..).trans (by rw [countedHead, countedTime])

theorem exec_ideIntegrityFail (wf : s.wf = true) (core : s.pwr.coreOn = true) (present : s.present h = true) (up : s.headUp h = true)
    (mode : (s.head h).ideMode ≠ 0) : ∃ t, exec (.ideIntegrityFail h) s = .next t ∧ (t.head h).ideInsecure = true ∧
      (t.head h).link = .detect ∧ t.evtSet (Ev.hstIdeFail h) ∧ t.evtSet (Ev.hstLinkDown h) := by
  let insecure := s.begin.setHead h { s.head h with ideInsecure := true }
  let counted := insecure.bump (F.hstIdeFailCount h) 1
  let told := counted.raise (Ev.hstIdeFail h)
  have run : exec (.ideIntegrityFail h) s = .next (told.loseLink h .detect) :=
    congrArg done (when_true (by simp [core, present, up, mode]))
  have countedWf : counted.wf = true := (State.bump_ev ..).2 (wf_setHead _ _ _ wf)
  have pends := pendsOnly_raise countedWf (Ev.hstIdeFail h)
  have toldHead := pends.heads h
  rw [show counted.head h = { s.head h with ideInsecure := true } from (head_bump ..).trans (head_begin_setHead _ wf)] at toldHead
  have toldLink := congrArg Head.link toldHead
  have toldUp : told.headUp h = true := by
    unfold State.headUp
    rw [show (told.head h).link = (s.head h).link from toldLink]
    exact up
  have bad := congrArg Head.ideInsecure ((head_loseLink (h := h) .detect pends.wf).trans
    (congrArg (fun x : Head => { x.linkLost .detect with msixPend := 0#64 }) rfl))
  have toldBad := congrArg Head.ideInsecure toldHead
  exact ⟨_, run, bad.trans toldBad, link_loseLink .detect pends.wf,
    (keepsEvents_loseLink told h .detect).evtSet pends.wf (evtSet_raise _ _ countedWf (show 2 < 64 by decide)), evtSet_loseLink .detect pends.wf toldUp⟩

theorem exec_hdmDecoderCommit {i ways gran : Nat} {base size dpa skip : BitVec 64} {lock : Bool} (wf : s.wf = true)
    (up : s.ioUp h = true) (okW : okWays ways = true) (okG : okGran gran = true) (open_ : (s.decoder h i).lock = false) : ∃ t,
      exec (.hdmDecoderCommit h i base size ways gran dpa skip lock) s = .next t ∧ t.decoder h i = ⟨true, false, lock,
        base.toNat, size.toNat, ways, gran, dpa.toNat, skip.toNat⟩ ∧ s.keeps t [.host, .out] := by
  let new : Decoder := ⟨true, false, lock, base.toNat, size.toNat, ways, gran, dpa.toNat, skip.toNat⟩
  have up' : ¬(!s.begin.ioUp h) = true := by
    rw [show s.begin.ioUp h = true from up]
    decide
  have free : ¬((s.begin.decoder h i).committed = true ∧ (s.begin.decoder h i).lock = true) := fun c =>
    Bool.false_ne_true (open_.symm.trans c.2)
  have good : (okWays ways && okGran gran) = true := by rw [okW, okG]; rfl
  have run : exec (.hdmDecoderCommit h i base size ways gran dpa skip lock) s =
      .next (s.begin.setHead h { s.head h with decoders := Tab.set (fun _ => Decoder.none) (s.head h).decoders i new }) := by
    refine (if_neg up').trans ((if_neg free).trans ?_)
    rw [if_pos good]
    rfl
  refine ⟨_, run, ?_, keeps_begin_setHead _ _ _⟩
  unfold State.decoder
  rw [head_begin_setHead _ wf]
  exact Tab.get_put_same ..

end Heads

/-- Settles O25: each head command, on the state of the head that it finds. -/
theorem headCommands : Obligations.HeadCommands := by
  unfold Obligations.HeadCommands
  exact ⟨fun _ _ wf present perst core enabled => exec_hstPerstDeassert wf present perst core enabled,
    fun _ _ wf present perst => exec_hstPerstAssert wf present perst,
    fun _ _ _ _ _ _ wf may fits => exec_headLinkTrained wf may fits,
    fun _ _ wf may fresh first => exec_headTrainingFailed wf may fresh first,
    fun _ _ wf core present up perst enabled => exec_headLinkDown wf core present up perst enabled,
    fun _ _ wf core present active => exec_headLinkRecovery_entry wf core present active,
    fun _ _ wf core present recovering => exec_headLinkRecovery_exit wf core present recovering,
    fun s _ wf core present => ⟨_, congrArg done (when_true (by simp [core, present])), link_resetHead (s := s.begin) wf,
      reset_resetHead (s := s.begin) wf⟩,
    fun s h wf core present up => by
      obtain ⟨decoders, logs, msix, -⟩ := reset_resetHead (s := s.begin) (h := h) wf
      exact ⟨_, congrArg done (when_true (by simp [core, present, up])), link_resetHead (s := s.begin) wf, decoders, logs, msix,
        evtSet_resetHead (s := s.begin) wf up⟩,
    fun s h wf core present up => by
      refine ⟨_, congrArg done (when_true (by simp [core, present, up])), ?_, ?_, ?_, keeps_begin_setHead _ _ _⟩
      all_goals rw [head_begin_setHead _ wf]
      all_goals rfl,
    fun s h wf core present active => ⟨_, congrArg done (when_true (by simp [core, present, active])),
      head_begin_setHead _ wf, keeps_begin_setHead _ _ _⟩,
    fun s h wf core present d3 => ⟨_, congrArg done (when_true (by simp [core, present, d3])),
      head_begin_setHead _ wf, keeps_begin_setHead _ _ _⟩,
    fun _ _ _ wf ready present => exec_headDisable_set wf ready present,
    fun _ _ _ wf ready present disabled perst => exec_headDisable_clear wf ready present disabled perst,
    fun _ _ _ wf ready present active => exec_headRetrain wf ready present active,
    fun _ _ _ wf ready present => exec_headCntClr wf ready present,
    fun _ _ _ _ wf ready present may => exec_roMgmtWrite wf ready present may,
    fun _ _ wf core present => exec_headCorrectableError wf core present,
    fun _ _ wf core present up mode => exec_ideIntegrityFail wf core present up mode,
    fun s h _ st mode wf core present session => ⟨_, (congrArg done (when_true (by simp [core, present]))).trans
      (congrArg Host.Outcome.next (if_pos session)), head_begin_setHead _ wf, keeps_begin_setHead _ _ _⟩,
    fun _ _ _ _ _ _ _ _ _ _ wf up okW okG open_ => exec_hdmDecoderCommit wf up okW okG open_⟩

end Sys2Proof.Machine

/-!
PROOF. The obligation about the mailbox commands that only report (R43, R65 to R71, R79, R250, R252, R255, R337, R364, R365, R510).
-/
namespace Sys2Proof.Machine
set_option Elab.async false
open Sys2Proof

section Queries
variable {s : State} {h : Nat}

/-- A mailbox command that does nothing but answer. -/
theorem mailbox_answers {c : Instr} {k : State → State} {rc : Rc} {l : List Nat} (ready : s.mboxReady h)
    (run : exec c s = done (s.mailbox h k)) (answer : k s.begin = s.begin.answerMbox h rc l) :
    ∃ t, exec c s = .next t ∧ t.out = [.mbox h rc l] ∧ s.keeps t [.out] :=
  ⟨s.begin.answerMbox h rc l, run.trans (congrArg done ((mailbox_ready ready).trans answer)), out_begin_answerMbox ..,
    keeps_begin_answerMbox s h rc l⟩

end Queries

/-- Settles O26: what each query answers. -/
theorem mailboxQueries : Obligations.MailboxQueries := by
  unfold Obligations.MailboxQueries
  refine ⟨fun s h ready => mailbox_answers ready rfl rfl, fun s h ready idle last => mailbox_answers ready rfl ?idle,
    fun s h k o rc ready idle last => mailbox_answers ready rfl ?last, fun s h ready => mailbox_answers ready rfl rfl,
    fun s h ready => mailbox_answers ready rfl rfl, fun s h off len l b ready log inside => mailbox_answers ready rfl ?inside,
    fun s h off len l b ready log past => mailbox_answers ready rfl ?past, fun s h l ready known => mailbox_answers ready rfl ?known,
    fun s h l ready => mailbox_answers ready rfl rfl, fun s h ready => mailbox_answers ready rfl rfl,
    fun s h ready => mailbox_answers ready rfl rfl, fun s h ready => mailbox_answers ready rfl rfl,
    fun s h ready => mailbox_answers ready rfl rfl, fun s h ready => mailbox_answers ready rfl rfl,
    fun s h ready => mailbox_answers ready rfl rfl,
    fun s h first len r ready one above below noOvf noScan => mailbox_answers ready rfl ?poison,
    fun s h first len l n ready range => mailbox_answers ready rfl ?estimate, fun s h ready => mailbox_answers ready rfl rfl,
    fun s h ready => mailbox_answers ready rfl rfl, fun s h ready => mailbox_answers ready rfl rfl,
    fun s h o ready => mailbox_answers ready rfl rfl, fun s h ready => mailbox_answers ready rfl rfl,
    fun s h ready => mailbox_answers ready rfl rfl⟩
  case idle =>
    rw [State.begin_host, idle]
    dsimp only
    rw [last]
  case last =>
    rw [State.begin_host, idle]
    dsimp only
    rw [last]
  case inside =>
    rw [show s.begin.logBytes l = some b from log]
    exact if_neg (by omega)
  case past =>
    rw [show s.begin.logBytes l = some b from log]
    exact if_pos past
  case known =>
    cases l with
    | cel => rfl
    | healthDetail => rfl
    | quarantine => rfl
    | other => exact absurd rfl known
  case poison =>
    dsimp only
    rw [State.begin_rd, one, noOvf, noScan]
    simp only [List.filter_cons, List.filter_nil, above, below, and_self, decide_true, if_true]
    rfl
  case estimate =>
    rw [show s.begin.scanRange first len = some (l, n) from range]
    rfl

end Sys2Proof.Machine

/-!
PROOF. The obligation about thermal sensing fails (R468): in a table that lists a channel twice, a write leaves the second row.
-/
namespace Sys2Proof.Machine
set_option Elab.async false
open Tests

/-- The round is at channel 0, which the conversion table lists twice. -/
def twiceListed : State :=
  { up with thm := { up.thm with next := 0, chan := [(0, (1, 1)), (0, (5, 5))] } }

/-- Refutes O31: clause 1, which does not ask for canonical tables, says that the conversion is kept, but removing the row of a
default conversion uncovers the second row of the channel. -/
theorem not_thermalCommands : ¬ Obligations.ThermalCommands := by
  unfold Obligations.ThermalCommands
  intro all
  obtain ⟨conversion, -⟩ := all
  obtain ⟨t, run, -, kept⟩ := conversion twiceListed 0 0#16 rfl rfl (by decide)
  have uncovered : ∀ u, exec (.hkpConversion 0#16) twiceListed = .next u → u.chan 0 = (5, 5) := by
    intro u here
    rw [← Host.Outcome.next.inj here]
    decide +kernel
  have zero : twiceListed.fld F.hkpStsRounds = 0 := by decide +kernel
  rw [uncovered t run, zero] at kept
  exact absurd kept (by decide)

end Sys2Proof.Machine

/-!
PROOF. The obligation about the sideband ports (R528, R592, R593).
-/
namespace Sys2Proof.Machine
set_option Elab.async false
open Sys2Proof

section Sideband
variable {s : State}

theorem keeps_begin_side_emit (s : State) (x : SideState) (o : Output) :
    s.keeps (({ s.begin with side := x } : State).emit o) [.side, .out] :=
  (ev_step (ev_side (ev_step ev_refl (State.begin_ev s) rfl) rfl) (State.emit_ev _ o) rfl).1

theorem keeps_begin_side (s : State) (x : SideState) : s.keeps { s.begin with side := x } [.side, .out] :=
  (ev_side (ev_step ev_refl (State.begin_ev s) rfl) rfl).1

/-- An SPDM message over a port that is up, while no management pause lasts, runs its meaning. -/
theorem spdm_ready {port : Nat} {k : State → State} (up : s.portUp port = true) (free : s.fwu.paused = false) :
    s.spdm port k = k s.begin := by
  have up' : s.begin.portUp port = true := up
  simp [State.spdm, up', free]

/-- Over I3C a management pause holds up to eight messages and refuses the next. -/
theorem spdm_i3c_paused {k : State → State} (up : s.portUp 8 = true) (paused : s.fwu.paused = true) :
    s.spdm 8 k = if s.fwu.heldMctp < 8
      then ({ s.begin with fwu := { s.begin.fwu with heldMctp := s.fwu.heldMctp + 1 } } : State).emit .held
      else s.begin.emit (.i3c false []) := by
  have up' : s.begin.portUp 8 = true := up
  simp [State.spdm, up', paused]

/-- An instruction that drives the balls is in force while the memory is not active. -/
theorem exec_jtagInstructionLoad_drives {i : JtagInst} (drives : holdsBalls i = true) (idle : s.host.memActive = false) :
    exec (.jtagInstructionLoad i) s = .next { s.begin with side := { s.side with
      jtag := i, jtagHeld := s.side.jtagHeld || s.pwr.coreOn } } := by
  have idle' : s.begin.host.memActive = false := idle
  have done' : exec (.jtagInstructionLoad i) s = execJtagInstructionLoad i s := rfl
  have named : i ≠ .other := by
    rintro rfl
    cases drives
  rw [done', execJtagInstructionLoad.eq_2 _ _ named]
  simp only [drives, idle', Bool.and_false, Bool.false_eq_true, if_false, if_true]
  rfl

/-- While the memory is active such an instruction acts as BYPASS. -/
theorem exec_jtagInstructionLoad_bypass {i : JtagInst} (drives : holdsBalls i = true) (active : s.host.memActive = true) :
    exec (.jtagInstructionLoad i) s =
      .next ({ s.begin with side := { s.side with jtag := .bypass } } : State).leaveBalls := by
  have active' : s.begin.host.memActive = true := active
  have done' : exec (.jtagInstructionLoad i) s = execJtagInstructionLoad i s := rfl
  have named : i ≠ .other := by
    rintro rfl
    cases drives
  rw [done', execJtagInstructionLoad.eq_2 _ _ named]
  simp only [drives, active', Bool.and_self, if_true]
  exact congrArg done (if_neg (by decide))

/-- Without a hold, leaving a ball-controlling instruction changes nothing. -/
theorem leaveBalls_free (free : s.side.jtagHeld = false) : s.leaveBalls = s := by simp [State.leaveBalls, free]

/-- Leaving a ball-controlling instruction ends the hold, whatever becomes of the device. -/
theorem side_leaveBalls (s : State) : s.leaveBalls.side = { s.side with jtagHeld := false } := by
  unfold State.leaveBalls
  by_cases held : s.side.jtagHeld = true
  · rw [if_pos held]
    dsimp only
    split
    · exact evolves_get (State.startDevReset_ev _) .side rfl
    · rfl
  · rw [if_neg held]
    have free : s.side.jtagHeld = false := by simpa using held
    rw [← free]

end Sideband

/-- Settles O30: what I3C, MCTP and the TAP do. -/
theorem sidebandPortCommands : Obligations.SidebandPortCommands := by
  unfold Obligations.SidebandPortCommands
  refine ⟨?mctp, ?held, ?give, ?length, ?silent, ?drive, ?bypass, ?leave⟩
  case mctp =>
    intro s pldm o up free
    exact ⟨_, congrArg done (spdm_ready up free), rfl, keeps_begin_emit s _⟩
  case held =>
    intro s pldm o up paused
    refine ⟨_, congrArg done (spdm_i3c_paused up paused), fun room => ?_, fun full => ?_⟩
    · rw [if_pos room]
      exact ⟨rfl, rfl⟩
    · rw [if_neg (by omega)]
      exact ⟨rfl, rfl⟩
  case give =>
    intro s a on none
    have given : s.begin.ccc 0x07 false a = s.begin.giveAddr a := by simp [State.ccc, none]
    exact ⟨s.begin.giveAddr a, (congrArg Host.Outcome.next (if_pos on)).trans (congrArg Host.Outcome.next given), rfl, rfl,
      keeps_begin_side_emit s _ _⟩
  case length =>
    intro s a on given
    have told : s.begin.ccc 0x8C true a = s.begin.emit (.i3c true [s.side.mrl]) := by simp [State.ccc, State.addressed, given]
    exact ⟨_, (congrArg Host.Outcome.next (if_pos on)).trans (congrArg Host.Outcome.next told), rfl, keeps_begin_emit s _⟩
  case silent =>
    intro s a on none
    have told : s.begin.ccc 0x8C true a = s.begin.emit (.i3c false []) := by simp [State.ccc, State.addressed, none]
    exact ⟨_, (congrArg Host.Outcome.next (if_pos on)).trans (congrArg Host.Outcome.next told), rfl, keeps_begin_emit s _⟩
  case drive =>
    intro s i drives idle
    exact ⟨_, exec_jtagInstructionLoad_drives drives idle, rfl, rfl, keeps_begin_side s _⟩
  case bypass =>
    intro s i drives active free
    have here : exec (.jtagInstructionLoad i) s = .next { s.begin with side := { s.side with jtag := .bypass } } :=
      (exec_jtagInstructionLoad_bypass drives active).trans (congrArg Host.Outcome.next (leaveBalls_free free))
    exact ⟨_, here, rfl, keeps_begin_side s _⟩
  case leave =>
    intro s drives
    exact ⟨_, congrArg done (when_true drives), by rw [side_leaveBalls], by rw [side_leaveBalls]⟩

end Sys2Proof.Machine

/-!
PROOF. The obligation about attestation and secured sessions (R80, R81, R397, R402, R543 to R547).
-/
namespace Sys2Proof.Machine
set_option Elab.async false
open Sys2Proof

section Attestation
variable {s : State}

theorem keeps_begin_fwu_emit (s : State) (x : FwuState) (o : Output) :
    s.keeps (({ s.begin with fwu := x } : State).emit o) [.fwu, .out] :=
  (ev_step (ev_fwu (ev_step ev_refl (State.begin_ev s) rfl) rfl) (State.emit_ev _ o) rfl).1

theorem keeps_begin_unsigned_emit (s : State) (port : Nat) (o : Output) :
    s.keeps ((s.begin.unsigned port).emit o) [.fwu, .out] := keeps_begin_fwu_emit s _ o

theorem keeps_begin_fwu_freeCtr_emit (s : State) (x : FwuState) (n : Nat) (o : Output) :
    s.keeps (({ s.begin with freeCtr := n, fwu := x } : State).emit o) [.fwu, .freeCtr, .out] := by
  have cleared : s.evolves s.begin [.fwu, .freeCtr, .out] := ev_step ev_refl (State.begin_ev s) rfl
  have changed : s.evolves { s.begin with freeCtr := n, fwu := x } [.fwu, .freeCtr, .out] :=
    ev_freeCtr (u := { s.begin with fwu := x }) (ev_fwu cleared rfl) rfl
  exact (ev_step changed (State.emit_ev _ o) rfl).1

theorem kvOps_kvPush (s : State) (o : KvOp) : (s.kvPush o).cry.kvOps = s.cry.kvOps ++ [o] := by
  unfold State.kvPush
  split
  next u w drawn =>
    have cry : u.cry = s.cry := evolves_get (ev_fst (State.draw_ev s) drawn) .cry rfl
    rw [State.count_cry, State.bump_cry, cry]

/-- An SPDM message that does nothing but answer. -/
theorem spdm_answers {c : Instr} {k : State → State} {port : Nat} {o : Output} (up : s.portUp port = true)
    (free : s.fwu.paused = false) (run : exec c s = done (s.spdm port k)) (answer : k s.begin = s.begin.emit o) :
    ∃ t, exec c s = .next t ∧ t.out = [o] ∧ s.keeps t [.out] :=
  ⟨s.begin.emit o, run.trans (congrArg done ((spdm_ready up free).trans answer)), rfl, keeps_begin_emit s o⟩

/-- An SPDM message that answers and takes back the post-quantum signature its connection could ask for. -/
theorem spdm_answers_unsigned {c : Instr} {k : State → State} {port : Nat} {o : Output} (up : s.portUp port = true)
    (free : s.fwu.paused = false) (run : exec c s = done (s.spdm port k)) (answer : k s.begin = (s.begin.unsigned port).emit o) :
    ∃ t, exec c s = .next t ∧ t.out = [o] ∧ s.keeps t [.fwu, .out] :=
  ⟨_, run.trans (congrArg done ((spdm_ready up free).trans answer)), rfl, keeps_begin_unsigned_emit s port o⟩

/-- The session that a key exchange opens. -/
def State.openedSession (s : State) (p r : Nat) : Session :=
  ⟨p, s.newSession, decide (s.rolesOf r % 2 = 1), decide (s.rolesOf r / 2 % 2 = 1)⟩

/-- The session joins the list and the derivation of its keys the key vault's queue. -/
def State.exchanged (s : State) (p r : Nat) : State :=
  ({ s with fwu := { s.fwu with sessions := s.fwu.sessions ++ [s.openedSession p r] } } : State).kvPush (.kdf 0)

theorem sessions_exchanged (s : State) (p r : Nat) :
    (s.exchanged p r).fwu.sessions = s.fwu.sessions ++ [s.openedSession p r] :=
  congrArg FwuState.sessions (evolves_get (State.kvPush_ev _ (.kdf 0)) .fwu rfl)

theorem exec_spdmKeyExchange_opens {p r : Nat} (up : s.portUp p = true) (free : s.fwu.paused = false)
    (room : (s.fwu.sessions.filter fun x => x.port == p).length < 4) (drbg : s.cry.drbg ≠ .failed) :
    exec (.spdmKeyExchange p r) s = .next ((s.begin.exchanged p r).signedAnswer p 0x64 [s.newSession]) :=
  (congrArg done (spdm_ready up free)).trans (congrArg Host.Outcome.next
    ((if_neg (Nat.not_le.mpr room)).trans (if_neg drbg)))

end Attestation

/-- Settles O29: what each attestation message answers. -/
theorem attestationCommands : Obligations.AttestationCommands := by
  unfold Obligations.AttestationCommands
  refine ⟨fun s p off len up free readable => spdm_answers_unsigned up free rfl (if_pos readable),
    fun s p off len up free short readable =>
      spdm_answers_unsigned up free rfl ((if_neg (Nat.not_lt.mpr short)).trans (if_pos readable)),
    fun s p off len up free long => spdm_answers_unsigned up free rfl (if_pos long), ?challenge,
    fun s p up free => spdm_answers_unsigned up free rfl rfl, ?exchange, ?secured, ?making, ?given,
    fun s h up free => spdm_answers up free rfl ?discovery, fun s h up free => spdm_answers up free rfl rfl⟩
  case challenge =>
    intro s p n up free
    refine ⟨s.begin.signedAnswer p 0x03 [n.toNat], congrArg done (spdm_ready up free), rfl, ?_,
      (ev_step (ev_step ev_refl (State.begin_ev s) rfl) (State.signedAnswer_ev ..) rfl).1⟩
    simp [State.signedAnswer]
  case exchange =>
    intro s p r up free room drbg
    have sessions : ((s.begin.exchanged p r).signedAnswer p 0x64 [s.newSession]).fwu.sessions =
        s.fwu.sessions ++ [s.openedSession p r] := sessions_exchanged s.begin p r
    refine ⟨_, exec_spdmKeyExchange_opens up free room drbg, ?_, ?_, ?_⟩
    · rw [sessions, List.length_append, List.length_singleton]
    · rw [sessions, List.getLast?_concat]
      rfl
    · rw [sessions, List.getLast?_concat]
      rfl
  case secured =>
    intro s p n len ok x up free session port fits
    have session' : s.begin.session n = some x := session
    have run : exec (.securedMessage p n len ok) s = .next (s.begin.kvPush (.decrypt p n ok)) := by
      refine (congrArg done (spdm_ready up free)).trans (congrArg Host.Outcome.next ?_)
      simp only [session', port, ne_eq, not_true_eq_false, if_false, if_neg (Nat.not_lt.mpr fits)]
    exact ⟨_, run, kvOps_kvPush .., evolves_get (State.kvPush_ev s.begin _) .out rfl⟩
  case making =>
    intro s p up free ready
    refine ⟨_, (congrArg done (spdm_ready up free)).trans (congrArg Host.Outcome.next (if_pos ready)), rfl, rfl, ?_,
      keeps_begin_fwu_emit s _ _⟩
    simp [State.unsigned]
  case given =>
    intro s p up free making
    refine ⟨_, (congrArg done (spdm_ready up free)).trans (congrArg Host.Outcome.next (if_pos making)), rfl, rfl, ?_⟩
    exact keeps_begin_fwu_freeCtr_emit s _ _ _
  case discovery =>
    simp [State.doeObjects]

end Sys2Proof.Machine

/-!
PROOF. The obligation about the event recorder, MSI-X, the CXL event logs, alerts and health (R75, R502 to R513, R562).
-/
namespace Sys2Proof.Machine
set_option Elab.async false
open Sys2Proof

/-! ### What leaves the ring of records alone -/

/-- From `s` to `t` neither the ring of records nor its place changes. -/
structure State.sameRing (s t : State) : Prop where
  ring : t.evt.ring = s.evt.ring
  next : t.evt.next = s.evt.next
  newest : t.evt.newest = s.evt.newest

theorem Tab.set_some {α : Type} [DecidableEq α] (t : Tab (Option α)) (k : Nat) (x : α) :
    Tab.set (fun _ => none) t k (some x) = Tab.put t k (some x) := if_neg (Option.some_ne_none x)

section Ring
variable {s t u : State}

theorem State.sameRing.of_evt (same : t.evt = s.evt) : s.sameRing t := ⟨by rw [same], by rw [same], by rw [same]⟩

theorem State.sameRing.trans (a : s.sameRing t) (b : t.sameRing u) : s.sameRing u :=
  ⟨b.ring.trans a.ring, b.next.trans a.next, b.newest.trans a.newest⟩

theorem State.sameRing.at (a : s.sameRing t) (slot : Nat) : t.ringAt slot = s.ringAt slot := by
  unfold State.ringAt
  rw [a.ring]

theorem sameRing_postCxl (s : State) (kind : CxlKind) (sev time : Nat) (data : List Nat) :
    s.sameRing (s.postCxl kind sev time data) := by
  unfold State.postCxl
  refine List.foldlRecOn _ _ (State.sameRing.mk rfl rfl rfl) fun t kept h _ => kept.trans (.of_evt ?_)
  exact evolves_get (State.logAdd_ev t h _ _) .evt rfl

theorem sameRing_checkAlerts (s : State) : s.sameRing s.checkAlerts := by
  unfold State.checkAlerts
  refine State.sameRing.trans (List.foldlRecOn (motive := s.sameRing) _ _ (.of_evt rfl) fun t kept i _ => ?_) (.of_evt rfl)
  split
  · exact kept.trans (sameRing_postCxl t _ _ _ _)
  · exact kept

theorem sameRing_enqueue (s : State) (r : QRec) : s.sameRing (s.enqueue r) := by
  unfold State.enqueue
  split
  · exact ⟨rfl, rfl, rfl⟩
  · exact State.sameRing.trans (t := { s with evt := { s.evt with dropped := s.evt.dropped + 1 } }) ⟨rfl, rfl, rfl⟩
      (.of_evt (State.bump_evt ..))

theorem sameRing_raise (s : State) (e : Evt) : s.sameRing (s.raise e) := by
  refine State.sameRing.trans (.of_evt (evt_setEvtBit_capture s e 0#64 0#64)) ?_
  unfold State.raise State.raiseAt State.recordEvt
  dsimp only
  split
  · exact .of_evt rfl
  · exact sameRing_enqueue _ _

theorem writeBackFold_kept (s : State) : s.writeBackFold.evt.next = s.evt.next ∧ s.writeBackFold.evt.newest = s.evt.newest := by
  unfold State.writeBackFold
  split
  · split <;> exact ⟨rfl, rfl⟩
  · exact ⟨rfl, rfl⟩

theorem ring_writeBackFold_idle (idle : s.evt.fold = none) : s.writeBackFold.evt.ring = s.evt.ring := by
  simp [State.writeBackFold, idle]

/-- A written record stands in the slot of the next sequence number (R503). -/
theorem writeRecord_spec (s : State) (r : QRec) : ∃ e : EvRec, (e.code, e.src, e.sev, e.seq) = (r.code, r.src, r.sev, s.evt.next) ∧
    (r.code ≠ 0x2003 → (e.p0, e.p1, e.p2) = (r.p0, r.p1, r.p2)) ∧
    (s.writeRecord r).evt.ring = Tab.put s.writeBackFold.evt.ring (slotOf s.evt.next) (some e) ∧
    (s.writeRecord r).evt.next = (s.evt.next + 1) % 2 ^ 16 ∧ (s.writeRecord r).evt.newest = some s.evt.next := by
  obtain ⟨next, newest⟩ := writeBackFold_kept s
  unfold State.writeRecord
  extract_lets unfolded post seq record stored recorder advanced counted
  have seq' : seq = s.evt.next := next
  have kept : advanced.sameRing (if post = true then counted.postCxl .vendor r.sev r.time
      [r.code, r.src + 4096 * r.sev, record.hours, record.cycles, record.flags, seq, record.p0, record.p1, record.p2]
      else counted) := by
    have bumped : advanced.sameRing counted := .of_evt (State.bump_evt ..)
    split
    · exact bumped.trans (sameRing_postCxl ..)
    · exact bumped
  refine ⟨record, by rw [← seq'], fun other => ?_, kept.ring.trans ?_, kept.next.trans ?_, kept.newest.trans ?_⟩
  · exact congrArg (fun p => (r.p0, p, r.p2)) (if_neg other)
  · rw [← seq']
    exact Tab.set_some ..
  · rw [← seq']
  · rw [← seq']

theorem ringAt_put {e : EvRec} {ring : Tab (Option EvRec)} {slot : Nat} (here : s.evt.ring = Tab.put ring slot (some e)) :
    s.ringAt slot = some e := by
  unfold State.ringAt
  rw [here]
  exact Tab.get_put_same ..

/-! ### The commands on the ring -/

/-- The oldest waiting record has left the queue. -/
def State.popped (s : State) (rest : List QRec) : State := { s with evt := { s.evt with queue := rest } }

theorem exec_eventRecordWrite_new {r : QRec} {rest : List QRec} (on : s.pwr.coreOn = true) (free : s.evt.clearing = false)
    (waiting : s.evt.queue = r :: rest) (none : s.evt.dropped = 0) (fresh : s.folds r = false) :
    exec .eventRecordWrite s =
      .next ((s.begin.popped rest).writeRecord r).checkAlerts := by
  have fresh' : (s.begin.popped rest).folds r = false := fresh
  have taken : s.begin.takeOldest r rest = (s.begin.popped rest).writeRecord r :=
    if_neg fun folds => absurd (fresh'.symm.trans folds) (by decide)
  have drops : (s.begin.takeOldest r rest).reportDrops = s.begin.takeOldest r rest :=
    if_pos (.inl ((takeOldest_waiting s.begin r rest).2.trans none))
  rw [exec_eventRecordWrite_cons on free waiting, drops, taken]

theorem writeBackFold_folded {q k : Nat} {e : EvRec} (newest : s.evt.newest = some q) (fold : s.evt.fold = some k)
    (here : s.ringAt (slotOf q) = some e) : s.writeBackFold.ringAt (slotOf q) = some { e with rep := k } ∧
    s.writeBackFold.evt.fold = none := by
  have folded : s.writeBackFold = { s.setRing (slotOf q) (some { e with rep := k }) with
      evt := { (s.setRing (slotOf q) (some { e with rep := k })).evt with fold := none } } := by
    simp [State.writeBackFold, newest, fold, here]
  rw [folded]
  exact ⟨ringAt_put (Tab.set_some ..), rfl⟩

/-- The state a clear of the ring begins from: the clear is counted, and nothing is in the ring. -/
def State.ringCleared (s : State) (j v : Nat) : State :=
  { s.setCell 7 j (some v) with evt := { s.evt with ring := [], fold := none, newest := none } }

/-- The record of a clear (R508). -/
def State.clearRec (s : State) (how seq : Nat) (t : State) : QRec :=
  { code := 0x2001, src := 0xFFF, sev := 0, p0 := s.ringCount, p1 := how * 2 ^ 30 + seq % 2 ^ 30,
    p2 := t.ctrVal 7 % 2 ^ 32, time := s.time.devtime, off := false }

theorem ctrVal_of_ntn (same : t.ntn = s.ntn) (c : Nat) : t.ctrVal c = s.ctrVal c := by
  unfold State.ctrVal State.ctr
  rw [bestCell_of_ntn same]

theorem clearRecorder_ok {how seq j v : Nat} (best : s.bestCell 7 16 = some (j, v)) (room : v + 1 ≤ ctrLimit 7)
    (good : s.cellGood 7 ((j + 1) % 16) = true) : s.clearRecorder how seq =
      (((s.ringCleared ((j + 1) % 16) (v + 1)).writeRecord
        (s.clearRec how seq (s.ringCleared ((j + 1) % 16) (v + 1)))).raise Ev.evrCleared, true) := by
  unfold State.clearRecorder
  rw [ctrInc_ok s 7 1 j v (by decide) best room good]
  rfl

theorem ntn_ringCleared (s : State) (j v : Nat) : (s.ringCleared j v).ntn = (s.setCell 7 j (some v)).ntn := rfl

theorem wf_ringCleared (wf : s.wf = true) (j v : Nat) : (s.ringCleared j v).wf = true := by
  have counted : s.evolves (s.setCell 7 j (some v)) [.ntn, .evt] := ev_step ev_refl (State.setCell_ev ..) rfl
  exact (ev_evt counted rfl fun _ => rfl).2 wf

theorem clearRecorder_spec {how seq j v : Nat} (wf : s.wf = true) (best : s.bestCell 7 16 = some (j, v))
    (room : v + 1 ≤ ctrLimit 7) (good : s.cellGood 7 ((j + 1) % 16) = true) : ∃ t, s.clearRecorder how seq = (t, true) ∧
    t.evt.ring.length = 1 ∧ t.evt.newest = some s.evt.next ∧ t.ctrVal 7 = v + 1 ∧ t.evtSet Ev.evrCleared ∧ t.out = s.out := by
  refine ⟨_, clearRecorder_ok best room good, ?_⟩
  have cleared := wf_ringCleared wf ((j + 1) % 16) (v + 1)
  generalize s.clearRec how seq _ = r
  obtain ⟨e, -, -, ring, -, newest⟩ := writeRecord_spec (s.ringCleared ((j + 1) % 16) (v + 1)) r
  have first : ((s.ringCleared ((j + 1) % 16) (v + 1)).writeBackFold).evt.ring = [] := ring_writeBackFold_idle rfl
  have writeEv := State.writeRecord_ev (s.ringCleared ((j + 1) % 16) (v + 1)) r
  have raiseEv := State.raise_ev ((s.ringCleared ((j + 1) % 16) (v + 1)).writeRecord r) Ev.evrCleared
  have raised := sameRing_raise ((s.ringCleared ((j + 1) % 16) (v + 1)).writeRecord r) Ev.evrCleared
  have counter : (s.ringCleared ((j + 1) % 16) (v + 1)).ctrVal 7 = v + 1 := by
    have set := ctr_setCell s 7 j ((j + 1) % 16) v (v + 1) wf (by omega) best (by omega)
    rw [ctrVal_of_ntn (ntn_ringCleared s _ _) 7, State.ctrVal, set, Option.getD_some]
  refine ⟨?_, ?_, ?_, evtSet_raise _ _ (writeEv.2 cleared) (by decide), ?_⟩
  · rw [raised.ring, ring, first]
    rfl
  · rw [raised.newest, newest]
    rfl
  · exact (ctrVal_of_ntn ((evolves_get raiseEv .ntn rfl).trans (evolves_get writeEv .ntn rfl)) 7).trans counter
  · exact (evolves_get raiseEv .out rfl).trans (evolves_get writeEv .out rfl)

end Ring

/-! ### Per-log state of a head -/

section Heads
variable {s : State} {h : Nat}

theorem keeps_begin_setHead_emit (s : State) (h : Nat) (x : Head) (o : Output) :
    s.keeps ((s.begin.setHead h x).emit o) [.host, .out] :=
  (ev_step (ev_step (ev_step ev_refl (State.begin_ev s) rfl) (State.setHead_ev ..) rfl) (State.emit_ev ..) rfl).1

/-- The Warning records of the alerts that began to hold are posted. -/
def State.alertsPosted (s : State) : State :=
  (List.range 5).foldl (fun t i => if bitAt s.alertsNow i && !bitAt s.ntn.alertSts i
    then t.postCxl .healthAlert 1 s.time.devtime [i] else t) s

theorem ntn_alertsPosted (s : State) : s.alertsPosted.ntn = s.ntn := by
  have posted : s.evolves s.alertsPosted [.evt, .host] :=
    ev_foldl ev_refl fun t i kept => ev_ite (ev_step kept (State.postCxl_ev ..) rfl) kept
  exact evolves_get posted .ntn rfl

theorem checkAlerts_eq (s : State) : s.checkAlerts =
    { s.alertsPosted with ntn := { s.alertsPosted.ntn with alertSts := s.alertsNow } } := rfl

theorem checkAlerts_alerts (s : State) : s.checkAlerts.ntn.alertEn = s.ntn.alertEn ∧ s.checkAlerts.ntn.alerts = s.ntn.alerts := by
  rw [checkAlerts_eq, ntn_alertsPosted]
  exact ⟨rfl, rfl⟩

end Heads

/-- Settles O33: what the commands on records, vectors and alerts do. -/
theorem eventCommands : Obligations.EventCommands := by
  unfold Obligations.EventCommands
  refine ⟨?write, ?fold, ?clear, fun s h first n ready low high small past => mailbox_answers ready rfl ?empty, ?cleared,
    ?refused, ?send, ?control, fun s h l ready small => mailbox_answers ready rfl (if_neg (Nat.not_le.mpr small)), ?forget,
    fun s h ready => mailbox_answers ready rfl rfl, ?policy, ?alert, ?alerts, fun s h ready => mailbox_answers ready rfl rfl⟩
  case write =>
    intro s r rest on free waiting none fresh other
    have alerts := sameRing_checkAlerts ((s.begin.popped rest).writeRecord r)
    have left := sameWaiting_checkAlerts ((s.begin.popped rest).writeRecord r)
    have wrote := sameWaiting_writeRecord (s.begin.popped rest) r
    obtain ⟨e, named, held, ring, next, -⟩ := writeRecord_spec (s.begin.popped rest) r
    have here := (alerts.at (slotOf s.evt.next)).trans (ringAt_put ring)
    refine ⟨_, exec_eventRecordWrite_new on free waiting none fresh, left.queue.trans wrote.queue, alerts.next.trans next, ?_, ?_⟩
    · rw [here, Option.map_some, named]
      rfl
    · rw [here, Option.map_some, held other]
  case fold =>
    intro s q k e on newest fold here
    obtain ⟨back, none⟩ := writeBackFold_folded (s := s.begin) newest fold here
    exact ⟨_, congrArg done (when_true on), back, none,
      (ev_step (ev_step ev_refl (State.begin_ev s) rfl) (State.writeBackFold_ev _) rfl).1⟩
  case clear =>
    intro s h wf ready
    exact ⟨_, congrArg done (barWrite_ready ready), reg_setReg_same s.begin _ _ wf, keepsRegs_setReg s.begin _ _⟩
  case empty =>
    exact (if_neg (by omega)).trans (if_pos past)
  case cleared =>
    intro s n j v wf runs admin best room good
    obtain ⟨t, clear, one, newest, counted, raised, shown⟩ :=
      clearRecorder_spec (s := s.begin) (how := 1) (seq := 0) wf best room good
    have run : exec (.clearEventRecorder (.spdm n)) s = .next (t.emit (.answer 0x90 0 [])) := by
      refine (congrArg done (when_true runs)).trans (congrArg Host.Outcome.next ((if_pos admin).trans ?_))
      rw [clear]
    refine ⟨_, run, ?_, one, newest, counted, raised⟩
    exact congrArg (· ++ [Output.answer 0x90 0 []]) shown
  case refused =>
    intro s n wf runs other
    have run : exec (.clearEventRecorder (.spdm n)) s = .next ((s.begin.raise Ev.evrClearRefused).emit (.answer 0x90 4 [])) :=
      (congrArg done (when_true runs)).trans (congrArg Host.Outcome.next (if_neg (by rw [State.begin_fwu, other]; decide)))
    have shown : (s.begin.raise Ev.evrClearRefused).out = [] := evolves_get (State.raise_ev ..) .out rfl
    exact ⟨_, run, congrArg (· ++ [Output.answer 0x90 4 []]) shown, (sameRing_raise s.begin _).ring,
      evtSet_raise s.begin _ wf (by decide)⟩
  case send =>
    intro s h v wf up on small pending unmasked first
    have run : exec (.msixSend h v) s = .next ((s.begin.setHead h { s.head h with
        msixPend := (s.head h).msixPend &&& ~~~(1#64 <<< v)
        msixLast := Tab.set (fun _ => none) (s.head h).msixLast v (some s.time.upNs) }).emit (.msix h v)) :=
      congrArg done (when_true (by simp only [up, on, small, pending, unmasked, first, decide_true, Bool.and_self, Bool.not_false]))
    have head := head_begin_setHead (s := s) (h := h) { s.head h with
        msixPend := (s.head h).msixPend &&& ~~~(1#64 <<< v)
        msixLast := Tab.set (fun _ => none) (s.head h).msixLast v (some s.time.upNs) } wf
    refine ⟨_, run, rfl, congrArg Head.msixPend head, ?_, keeps_begin_setHead_emit s h _ _⟩
    rw [show ((s.begin.setHead h _).emit (.msix h v)).head h = _ from head]
    exact (congrArg (Tab.get _ · v) (Tab.set_some ..)).trans (Tab.get_put_same ..)
  case control =>
    intro s h en m wf on present released
    exact ⟨_, congrArg done (when_true (by simp [on, present, released])), head_begin_setHead _ wf, keeps_begin_setHead s h _⟩
  case forget =>
    intro s h l wf ready small
    have run : exec (.clearEventRecords h l true []) s = .next ((s.begin.setHead h { s.head h with
        logs := (s.head h).logs.put l [], ovf := (s.head h).ovf.put l 0 }).answerMbox h .success []) :=
      (congrArg done (mailbox_ready ready)).trans (congrArg Host.Outcome.next ((if_neg (Nat.not_le.mpr small)).trans (if_pos rfl)))
    have head := head_begin_setHead (s := s) (h := h) { s.head h with
        logs := (s.head h).logs.put l [], ovf := (s.head h).ovf.put l 0 } wf
    refine ⟨_, run, ?_, ?_, rfl, keeps_begin_setHead_emit s h _ _⟩
    · exact (congrArg (fun x => (Head.logs x).at l) head).trans (Quad.at_put_same (s.head h).logs l [])
    · exact (congrArg (fun x => (Head.ovf x).at l) head).trans (Quad.at_put_same (s.head h).ovf l 0)
  case policy =>
    intro s h a b c d wf ready
    exact ⟨_, congrArg done (mailbox_ready ready), head_begin_setHead (s := s) (h := h) _ wf, rfl,
      keeps_begin_setHead_emit s h _ _⟩
  case alert =>
    intro s h en l ready five
    obtain ⟨enabled, stored⟩ := checkAlerts_alerts { s.begin with ntn := { s.ntn with alerts := l, alertEn := en } }
    refine ⟨_, (congrArg done (mailboxRw_ready ready)).trans (congrArg Host.Outcome.next (if_pos five)), enabled, stored, ?_⟩
    exact congrArg (· ++ [Output.mbox h .success []]) (evolves_get (State.checkAlerts_ev _) .out rfl)
  case alerts =>
    intro s h ready
    obtain ⟨enabled, stored⟩ := checkAlerts_alerts s.begin
    refine ⟨_, congrArg done (mailbox_ready ready), ?_⟩
    have shown : s.begin.checkAlerts.out = [] := evolves_get (State.checkAlerts_ev _) .out rfl
    show s.begin.checkAlerts.out ++ [Output.mbox h .success _] = _
    rw [shown, enabled, stored]
    rfl

end Sys2Proof.Machine

/-!
PROOF. The obligation about the Notion store, the Label Storage Area and the performance counters (R74, R489, R500, R512,
R566 to R572).
-/
namespace Sys2Proof.Machine
set_option Elab.async false
open Sys2Proof

section Notion
variable {s t : State}

/-! ### The scrub -/

/-- NTN_CNT is apart from what an event of the Notion page changes. -/
theorem ntnCnt_apart {e : Evt} (page : e.stsOff = 0x4020) : F.ntnCntCorr.off ∉ e.regs := by
  simp [Evt.regs, page, F.ntnCntCorr]

theorem scrubCounter_keeps (s : State) (c : Nat) : (s.scrubCounter c).reg F.ntnCntCorr.off = s.reg F.ntnCntCorr.off ∧
    s.keepsEvents (s.scrubCounter c) := by
  unfold State.scrubCounter
  split
  · split
    · exact ⟨reg_raiseAt_other _ _ _ _ _ (ntnCnt_apart rfl), keepsEvents_raiseN ..⟩
    · exact ⟨rfl, .refl⟩
  · exact ⟨reg_raiseAt_other _ _ _ _ _ (ntnCnt_apart rfl), keepsEvents_raiseN ..⟩

theorem scrubCounters_keep (s : State) (l : List Nat) :
    (l.foldl State.scrubCounter s).reg F.ntnCntCorr.off = s.reg F.ntnCntCorr.off ∧
    s.keepsEvents (l.foldl State.scrubCounter s) := by
  refine ⟨?_, .foldl (fun t c => (scrubCounter_keeps t c).2) l s⟩
  exact List.foldlRecOn (motive := fun t => t.reg F.ntnCntCorr.off = s.reg F.ntnCntCorr.off) l _ rfl
    fun t kept c _ => (scrubCounter_keeps t c).1.trans kept

theorem keeps_begin_ntn (s : State) (x : NotionState) (canonical : s.begin.ntn.wf = true → x.wf = true) :
    s.keeps { s.begin with ntn := x } [.ntn, .out] :=
  (ev_ntn (ev_step ev_refl (State.begin_ev s) rfl) rfl canonical).1

/-- A pass has started. -/
def State.scrubStarted (s : State) : State := { s with ntn := { s.ntn with scrubbing := true } }

/-- The pass has found a corrected word. -/
def State.scrubFound (s : State) (o : Nat) : State := s.begin.scrubStarted.wordCorrected o

theorem exec_ntnScrub_word (core : s.pwr.coreOn = true) (idle : s.ntn.scrubbing = false) (o : Nat) :
    exec (.ntnScrub [o] [] []) s = .next ((List.range 33).foldl State.scrubCounter (s.scrubFound o)) :=
  congrArg done (when_true (by simp [core, idle]))

theorem scrubbing_scrubFound (s : State) (o : Nat) : (s.scrubFound o).ntn.scrubbing = true := by
  have word : s.begin.scrubStarted.evolves (s.scrubFound o) [.regs, .pmc, .evt, .host] :=
    ev_step (ev_step ev_refl (State.bump_ev ..) rfl) (State.raiseN_ev ..) rfl
  exact congrArg NotionState.scrubbing (evolves_get word .ntn rfl)

/-! ### The Label Storage Area -/

theorem byte_putBits (w : Word) (v : BitVec 8) {k j : Nat} (hk : k < 8) (hj : j < 8) :
    ((putBits w (8 * k + 7) (8 * k) v.toNat) >>> (8 * j)).truncate 8 =
      if j = k then v else (w >>> (8 * j)).truncate 8 := by
  refine BitVec.eq_of_getLsbD_eq fun i small => ?_
  have place : ((putBits w (8 * k + 7) (8 * k) v.toNat >>> (8 * j)).truncate 8).getLsbD i =
      (putBits w (8 * k + 7) (8 * k) v.toNat).getLsbD (8 * j + i) := by simp [small]
  rw [place, getLsbD_putBits w _ _ _ _ (by omega) (by omega) (by omega)]
  by_cases same : j = k
  · rw [if_pos same, if_pos (by omega), same, Nat.add_sub_cancel_left]
    rfl
  · rw [if_neg same, if_neg (by omega)]
    simp [small]

theorem lsaByte_setLsaByte (wf : Tab.wf (fun _ => 0#64) s.ntn.lsa = true) (a : Nat) (v : BitVec 8) (b : Nat) :
    (s.setLsaByte a v).lsaByte b = if b = a then v else s.lsaByte b := by
  by_cases word : b / 8 = a / 8
  · have stored : Tab.get (fun _ => 0#64) (s.setLsaByte a v).ntn.lsa (b / 8) =
        putBits (Tab.get (fun _ => 0#64) s.ntn.lsa (a / 8)) (8 * (a % 8) + 7) (8 * (a % 8)) v.toNat := by
      rw [word]
      exact Tab.get_set_same _ _ _ _ wf
    unfold State.lsaByte
    rw [stored, byte_putBits _ _ (by omega) (by omega), word]
    exact if_congr (by omega) rfl rfl
  · have other : Tab.get (fun _ => 0#64) (s.setLsaByte a v).ntn.lsa (b / 8) = Tab.get (fun _ => 0#64) s.ntn.lsa (b / 8) :=
      Tab.get_set_other _ _ _ _ _ word
    rw [if_neg (fun same => word (by rw [same]))]
    unfold State.lsaByte
    rw [other]

/-! ### Performance counters -/

/-- Beside the overflow bit, an overflow changes no register past the first 256 bytes of a page. -/
theorem reg_pmcOverflowed (s : State) (i k : Nat) {off : Nat} (past : 0x100 ≤ off % 0x1000) (page : 0x30000 ≤ off) :
    (s.pmcOverflowed i k).reg off = (s.setReg (pmcOvfOff i) (s.reg (pmcOvfOff i) ||| (1#64 <<< k))).reg off := by
  have apart : ∀ bit : Nat, off ∉ (⟨.pmc, i, bit⟩ : Evt).regs := by
    intro bit
    simp only [Evt.regs, Evt.stsOff, Block.base, List.mem_cons, List.not_mem_nil, or_false]
    omega
  unfold State.pmcOverflowed
  generalize s.setReg (pmcOvfOff i) _ = t
  have told : ∀ u : State, (if getBits (t.reg (pmcCfgOff i k)) 29 29 = 1 then t.raiseN (Ev.pmcOverflow i) 0 k else t) = u →
      u.reg off = t.reg off := by
    rintro u rfl
    split
    · exact reg_raiseAt_other _ _ _ _ _ (apart 0)
    · rfl
  dsimp only
  generalize asked : (if getBits (t.reg (pmcCfgOff i k)) 29 29 = 1 then t.raiseN (Ev.pmcOverflow i) 0 k else t) = u
  rw [← told u asked]
  split
  · have ctl : (F.pmcCtlFreeze i).off = 0x30010 + i * 0x1000 := rfl
    exact (reg_raiseAt_other _ _ _ _ _ (apart 1)).trans (reg_setReg_other _ _ _ _ (by omega))
  · rfl

theorem pmcAdd_overflow {i k n : Nat} (fuel : Nat) (passes : 2 ^ 48 ≤ (s.reg (pmcCntOff i k)).toNat % 2 ^ 48 + n)
    (alone : k < 63 → getBits (s.reg (pmcCfgOff i (k + 1))) 30 30 = 0) : State.pmcAdd (fuel + 1) s i k n =
      (s.setReg (pmcCntOff i k) (BitVec.ofNat 64 (((s.reg (pmcCntOff i k)).toNat % 2 ^ 48 + n) % 2 ^ 48))).pmcOverflowed i k := by
  have chain : (decide (k < 63) && getBits (s.reg (pmcCfgOff i (k + 1))) 30 30 == 1 && s.pmcRuns i (k + 1)) = false := by
    by_cases last : k < 63
    · simp [alone last]
    · simp [last]
  rw [State.pmcAdd]
  dsimp only
  rw [if_neg (by omega), chain]
  rfl

theorem wf_zeroCounters (wf : s.wf = true) (i n : Nat) : (s.zeroCounters i n).wf = true := by
  induction n with
  | zero => exact wf
  | succ n ih => exact wf_setReg _ _ _ ih

theorem reg_zeroCounters (wf : s.wf = true) (i : Nat) {k n : Nat} (below : k < n) :
    (s.zeroCounters i n).reg (pmcCntOff i k) = 0#64 := by
  induction n with
  | zero => omega
  | succ n ih =>
    by_cases last : k = n
    · rw [last]
      exact reg_setReg_same _ _ _ (wf_zeroCounters wf i n)
    · have apart : pmcCntOff i k ≠ pmcCntOff i n := by
        unfold pmcCntOff
        omega
      exact (reg_setReg_other _ _ _ _ apart).trans (ih (by omega))

/-- The event a CPMU configuration names: ALL is 1. -/
def cpmuWord (en irq : Bool) (ev : Nat) : Word := BitVec.ofNat 64 (ofBool en * 2 ^ 31 + ofBool irq * 2 ^ 29 + 2 ^ 28 + ev)

theorem exec_cpmuConfigWrite_one {h i k g b : Nat} {m : BitVec 32} (en irq : Bool) (ready : s.barReady h) (hi : i < 4)
    (hk : k < 64) (one : onlyBit m = some b) (event : 32 * g + b < 4096) : exec (.cpmuConfigWrite h i k g m en irq) s =
      .next (s.begin.setReg (pmcCfgOff i k) (cpmuWord en irq (32 * g + b))) := by
  have some' : m ≠ 0#32 := by
    rintro rfl
    cases one
  refine (congrArg done (barWrite_ready ready)).trans (congrArg Host.Outcome.next ?_)
  dsimp only
  rw [if_neg (by omega), if_neg some', one]
  exact if_pos event

theorem exec_cpmuConfigWrite_many {h i k g : Nat} {m : BitVec 32} (en irq : Bool) (ready : s.barReady h) (some' : m ≠ 0#32)
    (many : onlyBit m = none) : exec (.cpmuConfigWrite h i k g m en irq) s = .next s.begin := by
  refine (congrArg done (barWrite_ready ready)).trans (congrArg Host.Outcome.next ?_)
  dsimp only
  rw [if_neg some', many]
  exact ite_self _

end Notion

/-- Settles O32: what scrubs, the label area and the counters do. -/
theorem notionAndCounterCommands : Obligations.NotionAndCounterCommands := by
  unfold Obligations.NotionAndCounterCommands
  refine ⟨?word, ?now, ?finished, ?clear, fun s h a ready inside => mailbox_answers ready rfl (if_neg (by omega)), ?lsa,
    fun s h a len ready past => mailbox_answers ready rfl (if_pos past), ?freeze, ?overflow, ?zero, ?one, ?many⟩
  case word =>
    intro s o wf core idle
    obtain ⟨stays, events⟩ := scrubCounters_keep (s.scrubFound o) (List.range 33)
    have started : s.begin.scrubStarted.wf = true := wf
    have bumpEv := State.bump_ev s.begin.scrubStarted F.ntnCntCorr 1
    have found : (s.scrubFound o).wf = true := (State.raiseN_ev ..).2 (bumpEv.2 started)
    have counters : (s.scrubFound o).evolves ((List.range 33).foldl State.scrubCounter (s.scrubFound o))
        [.regs, .pmc, .evt, .host] := ev_foldl ev_refl fun t c kept => ev_step kept (State.scrubCounter_ev t c) rfl
    refine ⟨_, exec_ntnScrub_word core idle o, ?_, ?_, events.evtSet found (evtSet_raiseN _ _ _ _ (bumpEv.2 started) (by decide))⟩
    · rw [show _ = (s.scrubFound o).ntn from evolves_get counters .ntn rfl, scrubbing_scrubFound]
    · rw [fld_of_reg (stays.trans (reg_raiseAt_other _ _ _ _ _ (ntnCnt_apart rfl))),
        fld_bump_same _ F.ntnCntCorr 1 started (by decide) (by decide)]
      rfl
  case now =>
    intro s h ready
    have run := congrArg done (barWrite_ready (s := s) (h := h) (off := 0x4010) (k := fun s =>
      if s.ntn.scrubbing then s else { s with ntn := { s.ntn with scrubbing := true } }) ready)
    by_cases busy : s.ntn.scrubbing = true
    · exact ⟨s.begin, run.trans (congrArg Host.Outcome.next (if_pos busy)), busy,
        (ev_step ev_refl (State.begin_ev s) rfl).1⟩
    · exact ⟨_, run.trans (congrArg Host.Outcome.next (if_neg busy)), rfl,
        keeps_begin_ntn s { s.ntn with scrubbing := true } id⟩
  case finished =>
    intro s wf core busy
    have bumpEv := State.bump_ev { s.begin with ntn := { s.ntn with scrubbing := false } } F.ntnCntScrubs 1
    have raiseEv := State.raise_ev (({ s.begin with ntn := { s.ntn with scrubbing := false } } : State).bump F.ntnCntScrubs 1)
      Ev.ntnScrubDone
    refine ⟨_, congrArg done (when_true (by simp [core, busy])), ?_, ?_, evtSet_raise _ _ (bumpEv.2 wf) (by decide)⟩
    · exact congrArg NotionState.scrubbing ((evolves_get raiseEv .ntn rfl).trans (evolves_get bumpEv .ntn rfl))
    · exact (fld_of_reg (f := F.ntnCntScrubs) (reg_raiseAt_other _ _ _ _ _ (ntnCnt_apart rfl))).trans
        (fld_bump_same _ F.ntnCntScrubs 1 wf (by decide) (by decide))
  case clear =>
    intro s h wf ready
    exact ⟨_, congrArg done (barWrite_ready ready), reg_setReg_same s.begin _ _ wf, keepsRegs_setReg s.begin _ _⟩
  case lsa =>
    intro s h a v wf ready inside
    have byte := lsaByte_setLsaByte (s := s.begin) wf a (BitVec.ofNat 8 v)
    refine ⟨(s.begin.setLsaBytes a [v]).answerMbox h .success [], ?_, (byte a).trans (if_pos rfl), rfl, byte, ?_⟩
    · exact (congrArg done (mailboxRw_ready ready)).trans (congrArg Host.Outcome.next (if_neg (Nat.not_lt.mpr inside)))
    · exact (ev_step (ev_step (ev_step ev_refl (State.begin_ev s) rfl) (State.setLsaBytes_ev ..) rfl)
        (State.answerMbox_ev ..) rfl).1
  case freeze =>
    intro s h v wf ready
    have fits : ofBool v < 2 := by cases v <;> decide
    exact ⟨_, congrArg done (barWrite_ready ready), fld_setFld_same s.begin F.topCtlPmcFreeze _ wf (by decide) (by decide) fits,
      keepsRegs_setReg s.begin _ _⟩
  case overflow =>
    intro s i k n wf core hi hk runs passes alone
    have run : exec (.pmcOverflow i k n) s = .next (State.pmcAdd 64 s.begin i k n) :=
      congrArg done (when_true (by
        rw [core, runs, decide_eq_true ⟨hi, hk⟩, decide_eq_true passes]
        rfl))
    have cnt : pmcCntOff i k ≠ pmcOvfOff i := by
      unfold pmcCntOff pmcOvfOff
      omega
    refine ⟨_, run.trans (congrArg Host.Outcome.next (pmcAdd_overflow (s := s.begin) 63 passes alone)), ?_, ?_⟩
    · rw [reg_pmcOverflowed _ _ _ (by unfold pmcCntOff; omega) (by unfold pmcCntOff; omega), reg_setReg_other _ _ _ _ cnt,
        reg_setReg_same s.begin _ _ wf, BitVec.toNat_ofNat]
      exact Nat.mod_eq_of_lt (by omega)
    · rw [reg_pmcOverflowed _ _ _ (by unfold pmcOvfOff; omega) (by unfold pmcOvfOff; omega), reg_setReg_same _ _ _ (wf_setReg s.begin _ _ wf)]
      simp [hk]
  case zero =>
    intro s h i wf ready hi
    have run : exec (.pmcCntClr h i) s = .next ((s.begin.zeroCounters i 64).setReg (pmcOvfOff i) 0#64) :=
      (congrArg done (barWrite_ready ready)).trans (congrArg Host.Outcome.next (if_pos hi))
    have zero : ∀ k, k < 64 → ((s.begin.zeroCounters i 64).setReg (pmcOvfOff i) 0#64).reg (pmcCntOff i k) = 0#64 := by
      intro k hk
      have apart : pmcCntOff i k ≠ pmcOvfOff i := by
        unfold pmcCntOff pmcOvfOff
        omega
      exact (reg_setReg_other _ _ _ _ apart).trans (reg_zeroCounters (s := s.begin) wf i hk)
    exact ⟨_, run, reg_setReg_same _ _ _ (wf_zeroCounters (s := s.begin) wf i 64), zero 63 (by omega), zero⟩
  case one =>
    intro s h i k g b m en irq wf ready hi hk one event
    exact ⟨_, exec_cpmuConfigWrite_one en irq ready hi hk one event, reg_setReg_same s.begin _ _ wf, keepsRegs_setReg s.begin _ _⟩
  case many =>
    intro s h i k g m en irq ready some' many
    exact ⟨_, exec_cpmuConfigWrite_many en irq ready some' many, (ev_step ev_refl (State.begin_ev s) rfl).1⟩

end Sys2Proof.Machine

/-!
PROOF. What the steps of a firmware update do to the firmware's state (R522 to R535).
-/
namespace Sys2Proof.Machine
set_option Elab.async false
open Sys2Proof

section FirmwareSteps
variable {s : State}

theorem boot_of_fwu {t : State} (same : t.fwu.boot = s.fwu.boot) : t.boot = s.boot := by
  unfold State.boot
  rw [same]

theorem keepsEvents_fwu (s : State) (x : FwuState) : s.keepsEvents { s with fwu := x } :=
  .of_evolves (L := [.fwu]) (ev_fwu ev_refl rfl)

theorem fwu_fwRecord (s : State) (code sev p0 p1 p2 : Nat) : (s.fwRecord code sev p0 p1 p2).fwu = s.fwu :=
  evolves_get (State.fwRecord_ev ..) .fwu rfl

/-! ### Transfers -/

/-- A transfer that has taken `data`, all of it in front of the payload. -/
def Xfer.fed (x : Xfer) (data : List Nat) : Xfer :=
  { x with next := x.next + data.length, repeats := 0, head := (x.head ++ data).take 4096 }

/-- Bytes that end before the header's end complete no check: they only move the transfer on. -/
theorem feed_short {x : Xfer} {data : List Nat} (leaves sig : Bool) (unknown : x.len = 0) (idle : x.copying = false)
    (short : x.next + data.length < 4096) :
    s.feed x data leaves sig = (s.draw.1.setXfer (some (x.fed data)), some (x.fed data)) := by
  have bytes : (if x.next < 4096 ∧ x.src ≠ .cxl then data.take (4096 - x.next) else data) = data :=
    (ite_congr rfl (fun _ => List.take_of_length_le (by omega)) fun _ => rfl).trans (ite_self data)
  have crosses : ∀ k, 4096 ≤ k → ∀ n, n = x.next + data.length → decide (x.next < k ∧ k ≤ n) = false := by
    intro k large n here
    exact decide_eq_false (by omega)
  have floor : ∀ n, leafFloor 0 n = 0 := fun n => if_pos (Nat.zero_le n)
  have stays : ∀ (t : State) (y : Xfer), t.noteResume y y.verified = t := fun t y => if_neg (Nat.lt_irrefl _)
  have fed : ({ x with
      len := 0, next := x.next + data.length, repeats := 0, head := (x.head ++ data).take 4096, copying := false } : Xfer) =
      x.fed data := by
    cases x
    cases unknown
    cases idle
    rfl
  unfold State.feed
  simp only [bytes, unknown, Nat.lt_irrefl, if_false, crosses 4096 (Nat.le_refl _) _ rfl, crosses 0x5400 (by decide) _ rfl,
    crosses 0x20000 (by decide) _ rfl, Bool.false_eq_true, false_and, floor, Nat.max_zero, if_pos (show x.next < 4096 by omega),
    decide_false]
  rw [fed]
  exact congrArg (·, some (x.fed data)) (stays (s.draw.1.setXfer (some (x.fed data))) (x.fed data))

/-! ### Falling back -/

/-- The boot record names the other slot, and nothing of the trial is left. -/
def State.trialOver (s : State) (slot : Nat) : State :=
  { s.setBoot { s.boot with running := slot, st := .confirmed, attempts := 0 } with
    fwu := { (s.setBoot { s.boot with running := slot, st := .confirmed, attempts := 0 }).fwu with
      near := false, selfCheck := 0, trialMethod := 0 } }

theorem fellBack_eq (s : State) (cause failed slot : Nat) : s.fellBack cause failed slot =
    (((s.trialOver slot).bump F.fwuCntFallbacks 1).raiseN Ev.fwuFallback (fwuInfo slot 0) 0).fwRecord 0x1101 1 cause failed
      ((((s.trialOver slot).bump F.fwuCntFallbacks 1).raiseN Ev.fwuFallback (fwuInfo slot 0) 0).verOf slot) := rfl

theorem fwu_fellBack (s : State) (cause failed slot : Nat) : (s.fellBack cause failed slot).fwu = (s.trialOver slot).fwu := by
  rw [fellBack_eq, fwu_fwRecord, State.raiseN_fwu, State.bump_fwu]

theorem boot_fellBack (s : State) (cause failed slot : Nat) : (s.fellBack cause failed slot).boot.running = slot ∧
    (s.fellBack cause failed slot).boot.st = .confirmed := by
  rw [boot_of_fwu (congrArg FwuState.boot (fwu_fellBack s cause failed slot))]
  exact ⟨rfl, rfl⟩

theorem evtSet_fellBack (wf : s.wf = true) (cause failed slot : Nat) : (s.fellBack cause failed slot).evtSet Ev.fwuFallback := by
  have ended : (s.trialOver slot).wf = true := wf
  have counted := (State.bump_ev (s.trialOver slot) F.fwuCntFallbacks 1).2 ended
  rw [fellBack_eq]
  exact (keepsEvents_fwRecord ..).evtSet ((State.raiseN_ev ..).2 counted) (evtSet_raiseN _ _ _ _ counted (by decide))

/-- What is true of a fall-back is true of a restart during a trial. -/
theorem restart_trial (trial : s.boot.st = .trial) (cause : Nat) :
    s.restart cause = s.fellBack cause (s.verOf s.boot.running) (1 - s.boot.running) := if_pos trial

theorem restart_confirmed (other : s.boot.st ≠ .trial) (cause : Nat) : s.restart cause = s := if_neg other

theorem keepsEvents_restart (s : State) (cause : Nat) : s.keepsEvents (s.restart cause) :=
  .ite (keepsEvents_fellBack ..) .refl

/-! ### The pause -/

theorem keepsEvents_requestFlush (s : State) (k : FlushKind) : s.keepsEvents (s.requestFlush k) := by
  unfold State.requestFlush
  split
  · exact keepsEvents_beginFlush ..
  · exact .of_same rfl rfl id

theorem keepsEvents_startDevReset (s : State) : s.keepsEvents s.startDevReset := by
  unfold State.startDevReset
  exact .trans (.of_evolves (L := [.pwr]) (ev_pwr ev_refl rfl)) (keepsEvents_requestFlush ..)

/-- The messages held for the pause are gone. -/
def State.pauseOver (s : State) : State := { s with fwu := { s.fwu with heldMctp := 0, devResetHeld := false } }

theorem afterPause_eq (s : State) : s.afterPause = if s.fwu.devResetHeld ∧ s.pwr.devReset = .none ∧ s.pwr.st = .on
    then s.pauseOver.startDevReset else s.pauseOver := rfl

theorem fwu_afterPause (s : State) : s.afterPause.fwu = s.pauseOver.fwu := by
  rw [afterPause_eq]
  split
  · exact evolves_get (State.startDevReset_ev _) .fwu rfl
  · rfl

theorem keepsEvents_afterPause (s : State) : s.keepsEvents s.afterPause := by
  rw [afterPause_eq]
  exact .ite (.trans (keepsEvents_fwu s _) (keepsEvents_startDevReset _)) (keepsEvents_fwu s _)

/-! ### Images in their slots -/

theorem slotImg_installSlot (s : State) {k : Nat} (i : Image) (rec_ : Bool) : (s.installSlot k i rec_).slotImg k = some i := by
  unfold State.installSlot State.slotImg
  by_cases first : k = 0
  · simp [first]
  · simp [first]

theorem rolledBack_told (wf : s.wf = true) (how : ActHow) (slot reason : Nat) :
    (s.rolledBack how slot reason).evtSet Ev.fwuActivationFailed := by
  have told := evtSet_raiseN (s := s) Ev.fwuActivationFailed (fwuInfo slot reason) 0 wf (by decide)
  unfold State.rolledBack
  cases how with
  | mailbox h => exact told
  | pldm => exact told
  | sched => exact told

end FirmwareSteps

end Sys2Proof.Machine

/-!
PROOF. The obligation about firmware update and configuration (R13, R517 to R535, R539 to R542, R549).
-/
namespace Sys2Proof.Machine
set_option Elab.async false
open Sys2Proof

section FirmwareCommands
variable {s : State} {x : Xfer}

theorem keeps_begin_fwu (s : State) (x : FwuState) : s.keeps { s.begin with fwu := x } [.fwu, .out] :=
  (ev_fwu (ev_step ev_refl (State.begin_ev s) rfl) rfl).1

/-! ### Transfers -/

/-- The image of a finished transfer is in the slot that does not run, and waits for its activation. -/
def State.imageInstalled (s : State) (x : Xfer) : State :=
  let t := (s.setXfer none).installSlot s.otherSlot (imageOf x.head) false
  { t with fwu := { t.fwu with pendingImg := true } }

theorem wf_imageInstalled (wf : s.wf = true) (x : Xfer) : (s.imageInstalled x).wf = true := by
  have installed : s.evolves ((s.setXfer none).installSlot s.otherSlot (imageOf x.head) false) [.fwu] :=
    ev_step (ev_step ev_refl (State.setXfer_ev ..) rfl) (State.installSlot_ev ..) rfl
  exact (ev_fwu installed rfl).2 wf

theorem slotImg_pending (s : State) (pending : Bool) (k : Nat) :
    ({ s with fwu := { s.fwu with pendingImg := pending } } : State).slotImg k = s.slotImg k := rfl

theorem slotImg_imageInstalled (s : State) (x : Xfer) : (s.imageInstalled x).slotImg s.otherSlot = some (imageOf x.head) := by
  unfold State.imageInstalled
  rw [slotImg_pending, slotImg_installSlot]

theorem xfer_imageInstalled (s : State) (x : Xfer) :
    (s.imageInstalled x).fwu.xfer = none ∧ (s.imageInstalled x).fwu.pendingImg = true := ⟨rfl, rfl⟩

theorem exec_imageCopyDone_good (core : s.pwr.coreOn = true) (here : s.fwu.xfer = some x) (copying : x.copying = true)
    (plain : x.src.recovery = false) : exec (.imageCopyDone true) s =
      .next ((((s.begin.imageInstalled x).raiseN Ev.fwuXferDone (fwuInfo s.otherSlot 0) 0).endTransfer x .success).answerDone x) := by
  have here' : s.begin.fwu.xfer = some x := here
  refine (congrArg done (when_true core)).trans (congrArg Host.Outcome.next ?_)
  dsimp only
  rw [here']
  dsimp only
  rw [copying, plain]
  rfl

theorem exec_imageCopyDone_bad (core : s.pwr.coreOn = true) (here : s.fwu.xfer = some x) (copying : x.copying = true) :
    exec (.imageCopyDone false) s = .next ((s.begin.endTransfer x .fwVerificationFailed).xferFail x 6 0) := by
  have here' : s.begin.fwu.xfer = some x := here
  refine (congrArg done (when_true core)).trans (congrArg Host.Outcome.next ?_)
  dsimp only
  rw [here']
  dsimp only
  rw [copying]
  rfl

theorem imageCopyDone_good (wf : s.wf = true) (core : s.pwr.coreOn = true) (here : s.fwu.xfer = some x)
    (copying : x.copying = true) (plain : x.src.recovery = false) : ∃ t, exec (.imageCopyDone true) s = .next t ∧
      t.fwu.xfer = none ∧ t.slotImg s.otherSlot = some (imageOf x.head) ∧ t.fwu.pendingImg = true ∧ t.evtSet Ev.fwuXferDone := by
  refine ⟨_, exec_imageCopyDone_good core here copying plain, ?_⟩
  have raiseEv := State.raiseN_ev (s.begin.imageInstalled x) Ev.fwuXferDone (fwuInfo s.otherSlot 0) 0
  have raised : ((s.begin.imageInstalled x).raiseN Ev.fwuXferDone (fwuInfo s.otherSlot 0) 0).evtSet Ev.fwuXferDone :=
    evtSet_raiseN _ _ _ _ (wf_imageInstalled (s := s.begin) wf x) (by decide)
  obtain ⟨gone, pending⟩ := xfer_imageInstalled s.begin x
  generalize (s.begin.imageInstalled x).raiseN Ev.fwuXferDone (fwuInfo s.otherSlot 0) 0 = t at raiseEv raised
  have answered : t.evolves ((t.endTransfer x .success).answerDone x) [.host, .out] :=
    ev_step (ev_step ev_refl (State.endTransfer_ev ..) rfl) (State.answerDone_ev ..) rfl
  have fwu : ((t.endTransfer x .success).answerDone x).fwu = (s.begin.imageInstalled x).fwu :=
    (evolves_get answered .fwu rfl).trans (evolves_get raiseEv .fwu rfl)
  refine ⟨by rw [fwu, gone], ?_, by rw [fwu, pending], (evtSet_of_reg (reg_evolves answered rfl rfl _)).2 raised⟩
  unfold State.slotImg
  rw [fwu]
  exact slotImg_imageInstalled s.begin x

theorem imageCopyDone_bad (wf : s.wf = true) (core : s.pwr.coreOn = true) (here : s.fwu.xfer = some x)
    (copying : x.copying = true) : ∃ t, exec (.imageCopyDone false) s = .next t ∧ t.fwu.xfer = none ∧
      t.slotImg s.otherSlot = s.slotImg s.otherSlot ∧ t.evtSet Ev.fwuXferFail := by
  refine ⟨_, exec_imageCopyDone_bad core here copying, ?_⟩
  have endEv : s.evolves (s.begin.endTransfer x .fwVerificationFailed) [.host, .out] :=
    ev_step (ev_step ev_refl (State.begin_ev s) rfl) (State.endTransfer_ev ..) rfl
  have ended : (s.begin.endTransfer x .fwVerificationFailed).fwu = s.fwu := evolves_get endEv .fwu rfl
  have ready := endEv.2 wf
  generalize s.begin.endTransfer x .fwVerificationFailed = u at *
  have told : (u.setXfer none).evolves (u.xferFail x 6 0) [.regs, .pmc, .evt, .host, .out] :=
    ev_step (ev_step ev_refl (State.raiseN_ev ..) rfl) (State.answerFailed_ev ..) rfl
  have fwu : (u.xferFail x 6 0).fwu = { s.fwu with xfer := none } := by
    rw [← ended]
    exact evolves_get told .fwu rfl
  refine ⟨by rw [fwu], ?_, ?_⟩
  · unfold State.slotImg
    rw [fwu]
  · refine (evtSet_of_reg (reg_evolves (State.answerFailed_ev ..) rfl rfl _)).2 ?_
    exact evtSet_raiseN (s := u.setXfer none) _ _ _ ready (by decide)

theorem exec_transferFw_first {h slot : Nat} {d : List Nat} (leaves sig : Bool) (ready : s.mboxRwReady h)
    (free : s.xferRefused = none) (short : d.length < 4096) : ∃ t, exec (.transferFw h 1 slot 0 d leaves sig) s = .next t ∧
      t.fwu.xfer = some ((Xfer.start .cxl 16 h).fed d) ∧ t.out = [.mbox h .success []] := by
  have free' : s.begin.xferRefused = none := free
  have fed : ∀ t : State, t.cxlFeed h slot (Xfer.start .cxl 16 h) d false leaves sig =
      (t.draw.1.setXfer (some ((Xfer.start .cxl 16 h).fed d))).answerMbox h .success [] := by
    intro t
    have short' : (Xfer.start .cxl 16 h).next + d.length < 4096 := by
      rw [show (Xfer.start .cxl 16 h).next = 0 from rfl, Nat.zero_add]
      exact short
    unfold State.cxlFeed
    rw [if_neg (by simp), if_neg (by simp), feed_short leaves sig rfl rfl short']
    rfl
  have run : exec (.transferFw h 1 slot 0 d leaves sig) s = .next (({ s.begin with fwu := { s.fwu with resume := none } } :
      State).cxlFeed h slot (Xfer.start .cxl 16 h) d false leaves sig) := by
    refine (congrArg done (mailboxRw_ready ready)).trans (congrArg Host.Outcome.next ((if_pos (by decide)).trans ?_))
    rw [free']
    exact if_neg (by simp)
  exact ⟨_, run.trans (congrArg Host.Outcome.next (fed _)), rfl, rfl⟩

theorem exec_transferFw_abort {h slot off : Nat} {d : List Nat} (leaves sig : Bool) (ready : s.mboxRwReady h)
    (here : s.fwu.xfer = some x) (src : x.src = .cxl) (same : x.h = h) (idle : x.copying = false) :
    exec (.transferFw h 4 slot off d leaves sig) s = .next ((s.begin.setXfer none).answerMbox h .success []) := by
  have here' : s.begin.fwu.xfer = some x := here
  refine (congrArg done (mailboxRw_ready ready)).trans (congrArg Host.Outcome.next ?_)
  refine (if_neg (by decide)).trans ((if_neg (by decide)).trans ?_)
  rw [here']
  exact (if_neg (by simp [src, same, idle])).trans (if_pos rfl)

theorem exec_pldmRequestUpdate_starts {size : Nat} (up : s.portUp 8 = true) (free : s.fwu.paused = false)
    (normal : s.fwu.recovery = false) (none : s.xferRefused = none) : exec (.pldmRequestUpdate 8 size) s =
      .next ((s.begin.setXfer (some (Xfer.start .pldm (s.chunkLog size) 8))).emit (.answer 0x10 0 [])) := by
  have none' : s.begin.xferRefused = Option.none := none
  have normal' : s.begin.fwu.recovery = false := normal
  have mctp : ¬ (8 : Nat) ≠ 8 := fun other => other rfl
  have route : exec (.pldmRequestUpdate 8 size) s = execPldmRequestUpdate 8 size s := rfl
  rw [route, execPldmRequestUpdate, if_neg mctp, spdm_ready up free]
  refine congrArg Host.Outcome.next ?_
  rw [normal', if_neg (by decide), none']
  rfl

theorem exec_pldmFirmwareData_short {off : Nat} {d : List Nat} (leaves : Bool) (up : s.portUp 8 = true)
    (free : s.fwu.paused = false) (here : s.fwu.xfer = some x) (src : x.src = .pldm) (idle : x.copying = false)
    (unknown : x.len = 0) (next : off = x.next) (fits : d.length ≤ 2 ^ x.chunk) (short : off + d.length < 4096) :
    exec (.pldmFirmwareData off d leaves) s = .next (s.begin.draw.1.setXfer (some (x.fed d))) := by
  have here' : s.begin.fwu.xfer = some x := here
  refine (congrArg done (spdm_ready up free)).trans (congrArg Host.Outcome.next ?_)
  rw [here']
  refine (if_neg (by simp [src, idle, next, fits])).trans ?_
  rw [feed_short leaves leaves unknown idle (by omega)]

theorem exec_pldmDataTimeout {src : x.src = .pldm} (core : s.pwr.coreOn = true) (runs : s.fwu.running = true)
    (free : s.fwu.paused = false) (here : s.fwu.xfer = some x) (idle : x.copying = false) : exec .pldmDataTimeout s =
      .next (if x.repeats < 3 then s.begin.setXfer (some { x with repeats := x.repeats + 1 })
        else (s.begin.setXfer none).raiseN Ev.fwuXferFail (fwuInfo s.otherSlot 0) x.next) := by
  have here' : s.begin.fwu.xfer = some x := here
  refine (congrArg done (when_true (by simp [core, runs, free]))).trans (congrArg Host.Outcome.next ?_)
  rw [here']
  exact if_neg (by simp [src, idle])

theorem exec_recoveryDoeTransfer_first {d : List Nat} (leaves : Bool) (core : s.pwr.coreOn = true)
    (recovery : s.fwu.recovery = true) (none : s.fwu.xfer = none) (short : d.length < 4096) :
    exec (.recoveryDoeTransfer 0 d leaves) s =
      .next ((s.begin.draw.1.setXfer (some ((Xfer.start .recoveryDoe 16 0).fed d))).emit
        (.answer 1 0 [((Xfer.start .recoveryDoe 16 0).fed d).next])) := by
  have none' : s.begin.fwu.xfer = Option.none := none
  have short' : (Xfer.start .recoveryDoe 16 0).next + d.length < 4096 := by
    rw [show (Xfer.start .recoveryDoe 16 0).next = 0 from rfl, Nat.zero_add]
    exact short
  refine (congrArg done (when_true (by simp [core, recovery]))).trans (congrArg Host.Outcome.next ?_)
  rw [none', Option.getD_none]
  refine (if_neg (by simp [Xfer.start]; omega)).trans ?_
  rw [feed_short leaves leaves rfl rfl short']
  rfl

end FirmwareCommands

end Sys2Proof.Machine

/-!
PROOF. The obligation about firmware update, continued: activation, trial, confirmation and bundles (R527 to R540, R549).
-/
namespace Sys2Proof.Machine
set_option Elab.async false
open Sys2Proof

section Activation
variable {s : State}

theorem keeps_begin_setBoot_emit (s : State) (r : BootRec) (o : Output) : s.keeps ((s.begin.setBoot r).emit o) [.fwu, .out] :=
  keeps_begin_fwu_emit s _ o

theorem exec_activateFw_reset {h slot : Nat} (ready : s.mboxRwReady h) (none : s.activateRefused slot false = none) :
    exec (.activateFw h false slot) s =
      .next ((s.begin.setBoot { s.boot with st := .pendingReset }).answerMbox h .success []) := by
  have none' : s.begin.activateRefused slot false = Option.none := none
  refine (congrArg done (mailboxRw_ready ready)).trans (congrArg Host.Outcome.next ?_)
  dsimp only
  rw [none']
  rfl

/-- An online activation has begun. -/
def State.activating (s : State) (k : Nat) (how : ActHow) : State := { s with fwu := { s.fwu with act := some (k, how) } }

theorem exec_activateFw_online {h slot : Nat} (ready : s.mboxRwReady h) (none : s.activateRefused slot true = none) :
    exec (.activateFw h true slot) s = .next (s.begin.activating (slot - 1) (.mailbox h)) := by
  have none' : s.begin.activateRefused slot true = Option.none := none
  refine (congrArg done (mailboxRw_ready ready)).trans (congrArg Host.Outcome.next ?_)
  dsimp only
  rw [none']
  rfl

theorem exec_pldmActivateFirmware_hitless (up : s.portUp 8 = true) (free : s.fwu.paused = false)
    (none : s.activateRefused (s.otherSlot + 1) true = none) : exec (.pldmActivateFirmware true) s =
      .next ((s.begin.activating s.otherSlot .pldm).emit (.answer 0x1A 0 [])) := by
  have none' : s.begin.activateRefused (s.begin.otherSlot + 1) true = Option.none := none
  refine (congrArg done (spdm_ready up free)).trans (congrArg Host.Outcome.next ?_)
  rw [none']
  rfl

/-- The activation under way is given up. -/
def State.actDropped (s : State) : State := { s with fwu := { s.fwu with act := none } }

theorem exec_activationImageLoaded {slot : Nat} {how : ActHow} (ok : Bool) (core : s.pwr.coreOn = true)
    (runs : s.fwu.running = true) (free : s.fwu.paused = false) (here : s.fwu.act = some (slot, how)) :
    exec (.activationImageLoaded ok) s =
      .next (if ok then ({ s.begin with fwu := { s.begin.fwu with trialMethod := 1 } } : State).beginPause slot
        else s.begin.actDropped.rolledBack how slot 6) := by
  have here' : s.begin.fwu.act = some (slot, how) := here
  refine (congrArg done (when_true (by simp [core, runs, free]))).trans (congrArg Host.Outcome.next ?_)
  dsimp only
  rw [here']
  cases ok with
  | true => rfl
  | false => rfl

theorem activationImageLoaded_bad {slot : Nat} {how : ActHow} (wf : s.wf = true) (core : s.pwr.coreOn = true)
    (runs : s.fwu.running = true) (free : s.fwu.paused = false) (here : s.fwu.act = some (slot, how)) :
    ∃ t, exec (.activationImageLoaded false) s = .next t ∧ t.fwu.act = none ∧ t.fwu.boot = s.fwu.boot ∧
      t.evtSet Ev.fwuActivationFailed := by
  have fwu : (s.begin.actDropped.rolledBack how slot 6).fwu = s.begin.actDropped.fwu :=
    evolves_get (State.rolledBack_ev ..) .fwu rfl
  exact ⟨_, (exec_activationImageLoaded false core runs free here).trans (congrArg Host.Outcome.next (if_neg Bool.false_ne_true)),
    by rw [fwu]; rfl, by rw [fwu]; rfl, rolledBack_told (s := s.begin.actDropped) wf how slot 6⟩

/-- The pause is over: the new image runs, and its self-check begins. -/
def State.activated (s : State) : State :=
  { s with fwu := { s.fwu with paused := false, act := none, trialMethod := 0, selfCheck := 1, pendingImg := false } }

/-- The new image's activation is counted and reported. -/
def State.activationTold (s : State) (slot m : Nat) : State :=
  ((s.activated.bump F.fwuCntActivations 1).raiseN Ev.fwuActivated (fwuInfo slot 0) 0).fwRecord 0x1100 0
    (((s.activated.bump F.fwuCntActivations 1).raiseN Ev.fwuActivated (fwuInfo slot 0) 0).verOf slot)
    ((s.activated.bump F.fwuCntActivations 1).raiseN Ev.fwuActivated (fwuInfo slot 0) 0).fwu.prevVer m

theorem activationTold_spec (wf : s.wf = true) (slot m : Nat) :
    (s.activationTold slot m).fwu = s.activated.fwu ∧ (s.activationTold slot m).evtSet Ev.fwuActivated := by
  have ready : s.activated.wf = true := wf
  have counted := (State.bump_ev s.activated F.fwuCntActivations 1).2 ready
  refine ⟨?_, (keepsEvents_fwRecord ..).evtSet ((State.raiseN_ev ..).2 counted) (evtSet_raiseN _ _ _ _ counted (by decide))⟩
  unfold State.activationTold
  rw [fwu_fwRecord, State.raiseN_fwu, State.bump_fwu]

theorem wf_activationTold (wf : s.wf = true) (slot m : Nat) : (s.activationTold slot m).wf = true := by
  have ready : s.activated.wf = true := wf
  exact (State.fwRecord_ev ..).2 ((State.raiseN_ev ..).2 ((State.bump_ev ..).2 ready))

/-- Whoever asked by mailbox is answered when the pause ends. -/
theorem exec_activationPauseEnd_good {slot : Nat} {how : ActHow} (core : s.pwr.coreOn = true) (paused : s.fwu.paused = true)
    (here : s.fwu.act = some (slot, how)) : ∃ t, exec (.activationPauseEnd true) s = .next t.afterPause ∧
      (s.begin.activationTold slot s.fwu.trialMethod).evolves t [.out] := by
  have here' : s.begin.fwu.act = some (slot, how) := here
  have run : ∀ t, (match how with
      | .mailbox h => (s.begin.activationTold slot s.fwu.trialMethod).answerMbox h .success []
      | _ => s.begin.activationTold slot s.fwu.trialMethod) = t → exec (.activationPauseEnd true) s = .next t.afterPause := by
    rintro t rfl
    refine (congrArg done (when_true (by simp [core, paused]))).trans (congrArg Host.Outcome.next ?_)
    dsimp only
    rw [here']
    rfl
  cases how with
  | mailbox h => exact ⟨_, run _ rfl, State.answerMbox_ev ..⟩
  | pldm => exact ⟨_, run _ rfl, ev_refl⟩
  | sched => exact ⟨_, run _ rfl, ev_refl⟩

theorem activationPauseEnd_good {slot : Nat} {how : ActHow} (wf : s.wf = true) (core : s.pwr.coreOn = true)
    (paused : s.fwu.paused = true) (here : s.fwu.act = some (slot, how)) : ∃ t,
      exec (.activationPauseEnd true) s = .next t ∧ t.fwu.paused = false ∧ t.fwu.act = none ∧ t.fwu.selfCheck = 1 ∧
      t.evtSet Ev.fwuActivated := by
  obtain ⟨t, run, answered⟩ := exec_activationPauseEnd_good core paused here
  obtain ⟨told, event⟩ := activationTold_spec (s := s.begin) wf slot s.fwu.trialMethod
  have ready := answered.2 (wf_activationTold (s := s.begin) wf slot s.fwu.trialMethod)
  have fwu : t.pauseOver.fwu = { s.begin.activated.fwu with heldMctp := 0, devResetHeld := false } := by
    rw [← told, ← show t.fwu = (s.begin.activationTold slot s.fwu.trialMethod).fwu from evolves_get answered .fwu rfl]
    rfl
  refine ⟨_, run, ?_, ?_, ?_,
    (keepsEvents_afterPause t).evtSet ready ((evtSet_of_reg (reg_evolves answered rfl rfl _)).2 event)⟩
  · rw [fwu_afterPause, fwu]
    rfl
  · rw [fwu_afterPause, fwu]
    rfl
  · rw [fwu_afterPause, fwu]
    rfl

/-- The pause ends with the old image: the boot record names it again. -/
def State.pauseUndone (s : State) (slot : Nat) : State :=
  let t : State := { s with fwu := { s.fwu with paused := false, act := none, trialMethod := 0 } }
  t.setBoot { t.boot with running := 1 - slot, st := .confirmed, attempts := 0 }

theorem exec_activationPauseEnd_bad {slot : Nat} {how : ActHow} (core : s.pwr.coreOn = true) (paused : s.fwu.paused = true)
    (here : s.fwu.act = some (slot, how)) : exec (.activationPauseEnd false) s =
      .next ((s.begin.pauseUndone slot).rolledBack how slot 9).afterPause := by
  have here' : s.begin.fwu.act = some (slot, how) := here
  refine (congrArg done (when_true (by simp [core, paused]))).trans (congrArg Host.Outcome.next ?_)
  dsimp only
  rw [here']
  rfl

theorem activationPauseEnd_bad {slot : Nat} {how : ActHow} (wf : s.wf = true) (core : s.pwr.coreOn = true)
    (paused : s.fwu.paused = true) (here : s.fwu.act = some (slot, how)) : ∃ t,
      exec (.activationPauseEnd false) s = .next t ∧ t.fwu.paused = false ∧ t.fwu.act = none ∧ t.boot.running = 1 - slot ∧
      t.boot.st = .confirmed ∧ t.evtSet Ev.fwuActivationFailed := by
  have ready : (s.begin.pauseUndone slot).wf = true := wf
  have undone := State.rolledBack_ev (s.begin.pauseUndone slot) how slot 9
  have fwu : ((s.begin.pauseUndone slot).rolledBack how slot 9).afterPause.fwu =
      { (s.begin.pauseUndone slot).fwu with heldMctp := 0, devResetHeld := false } := by
    rw [fwu_afterPause, ← show _ = (s.begin.pauseUndone slot).fwu from evolves_get undone .fwu rfl]
    rfl
  have boot : ((s.begin.pauseUndone slot).rolledBack how slot 9).afterPause.boot = (s.begin.pauseUndone slot).boot :=
    boot_of_fwu (by rw [fwu])
  refine ⟨_, exec_activationPauseEnd_bad core paused here, by rw [fwu]; rfl, by rw [fwu]; rfl, by rw [boot]; rfl,
    by rw [boot]; rfl, (keepsEvents_afterPause _).evtSet (undone.2 ready) (rolledBack_told ready how slot 9)⟩

theorem exec_scheduleFwActivation_taken {h slot dl : Nat} {pps : Bool} {l : List Nat} (ready : s.mboxRwReady h)
    (assigned : s.fld F.topMidxAssigned ≠ 0) (valid : s.fld F.topTimeValid ≠ 0) (none : s.activateRefused slot true = none)
    (late : s.time.devtime + 10 ^ 9 ≤ dl) (early : dl ≤ s.time.devtime + 604800 * 10 ^ 9) (aligned : pps = true → dl % 10 ^ 9 = 0)
    (two : 2 ≤ l.length) (many : l.length ≤ 32) (even : l.length % 2 = 0) (named : inTargets (s.fld F.topMidxIndex) l = true) :
    exec (.scheduleFwActivation h slot dl pps l) s = .next (({ s.begin with
      fwu := { s.fwu with sched := some ⟨slot - 1, dl, pps, false⟩ } } : State).answerMbox h .success []) := by
  refine (congrArg done (mailboxRw_ready ready)).trans (congrArg Host.Outcome.next ?_)
  refine (if_neg (not_or.mpr ⟨assigned, valid⟩)).trans (if_neg ?_)
  rintro (refused | soon | far | ⟨edge, off⟩ | few | more | odd | other)
  · have none' : s.begin.activateRefused slot true = Option.none := none
    rw [none'] at refused
    cases refused
  · exact absurd late (Nat.not_le.mpr soon)
  · exact absurd early (Nat.not_le.mpr far)
  · exact off (aligned edge)
  · omega
  · omega
  · omega
  · have named' : inTargets (s.begin.fld F.topMidxIndex) l = true := named
    rw [named'] at other
    cases other

theorem exec_cancelScheduledActivation_waiting {h : Nat} {x : Sched} (ready : s.mboxRwReady h) (here : s.fwu.sched = some x)
    (waits : x.fired = false) : exec (.cancelScheduledActivation h) s =
      .next (({ s.begin with fwu := { s.fwu with sched := none } } : State).answerMbox h .success []) := by
  have here' : s.begin.fwu.sched = some x := here
  refine (congrArg done (mailboxRw_ready ready)).trans (congrArg Host.Outcome.next ?_)
  dsimp only
  rw [here']
  exact if_neg (by simp [waits])

/-! ### Confirmation -/

theorem ctrWrite_good {c j v n : Nat} (best : s.bestCell c 16 = some (j, v)) (good : s.cellGood c ((j + 1) % 16) = true) :
    s.ctrWrite c n = (s.setCell c ((j + 1) % 16) (some n), .ok) := by
  unfold State.ctrWrite
  rw [best]
  exact if_pos good

/-- The boot record says that the image is confirmed, and nothing of the trial is left. -/
def State.confirming (s : State) (k : Nat) : State :=
  { s.setBoot { s.boot with st := .confirmed, attempts := 0, lastVer := s.verOf k } with
    fwu := { (s.setBoot { s.boot with st := .confirmed, attempts := 0, lastVer := s.verOf k }).fwu with
      selfCheck := 0, near := false } }

/-- The confirmation is reported. -/
def State.confirmTold (s : State) (k svn : Nat) : State :=
  ((s.confirming k).raiseN Ev.fwuConfirmed (fwuInfo k 0) 0).fwRecord 0x1103 0 ((s.confirming k).verOf k) svn 0

theorem exec_confirmFw_ready {h : Nat} {i : Image} {t : State} (ready : s.mboxRwReady h) (trial : s.boot.st = .trial)
    (checked : s.fwu.selfCheck = 2) (here : s.slotImg s.boot.running = some i)
    (counted : (if s.ctrVal 8 < i.svn then s.begin.ctrWrite 8 i.svn else (s.begin, .ok)) = (t, .ok)) :
    exec (.confirmFw h) s = .next ((t.confirmTold s.boot.running i.svn).answerMbox h .success []) := by
  have here' : s.begin.slotImg s.begin.boot.running = some i := here
  have counted' : (if s.begin.ctrVal 8 < i.svn then s.begin.ctrWrite 8 i.svn else (s.begin, .ok)) = (t, .ok) := counted
  refine (congrArg done (mailboxRw_ready ready)).trans (congrArg Host.Outcome.next ?_)
  refine (if_neg (by simp [checked])).trans ((if_neg ?_).trans ?_)
  · rintro (other | other)
    · exact other trial
    · exact other checked
  · dsimp only
    rw [here']
    dsimp only
    rw [counted']
    rfl

theorem confirmTold_spec (wf : s.wf = true) (k svn : Nat) : (s.confirmTold k svn).fwu = (s.confirming k).fwu ∧
    (s.confirmTold k svn).ntn = s.ntn ∧ (s.confirmTold k svn).evtSet Ev.fwuConfirmed ∧ (s.confirmTold k svn).out = s.out := by
  have ready : (s.confirming k).wf = true := wf
  have raiseEv := State.raiseN_ev (s.confirming k) Ev.fwuConfirmed (fwuInfo k 0) 0
  have told : (s.confirming k).evolves (s.confirmTold k svn) [.regs, .pmc, .evt, .host] :=
    ev_step (ev_step ev_refl raiseEv rfl) (State.fwRecord_ev ..) rfl
  exact ⟨evolves_get told .fwu rfl, evolves_get told .ntn rfl, (keepsEvents_fwRecord ..).evtSet (raiseEv.2 ready)
    (evtSet_raiseN _ _ _ _ ready (by decide)), evolves_get told .out rfl⟩

theorem confirmFw_same {h : Nat} {i : Image} (wf : s.wf = true) (ready : s.mboxRwReady h) (trial : s.boot.st = .trial)
    (checked : s.fwu.selfCheck = 2) (here : s.slotImg s.boot.running = some i) (low : i.svn ≤ s.ctrVal 8) : ∃ t,
      exec (.confirmFw h) s = .next t ∧ t.boot.st = .confirmed ∧ t.boot.running = s.boot.running ∧ t.boot.lastVer = i.version ∧
      t.evtSet Ev.fwuConfirmed ∧ t.out = [.mbox h .success []] := by
  obtain ⟨fwu, -, event, out⟩ := confirmTold_spec (s := s.begin) wf s.boot.running i.svn
  have run := exec_confirmFw_ready (t := s.begin) ready trial checked here (if_neg (Nat.not_lt.mpr low))
  have boot : ((s.begin.confirmTold s.boot.running i.svn).answerMbox h .success []).boot = (s.begin.confirming s.boot.running).boot := boot_of_fwu (congrArg FwuState.boot fwu)
  have version : s.verOf s.boot.running = i.version := by
    unfold State.verOf
    rw [here]
  refine ⟨_, run, congrArg BootRec.st boot, (congrArg BootRec.running boot).trans rfl, (congrArg BootRec.lastVer boot).trans version, event, ?_⟩
  exact congrArg (· ++ [Output.mbox h .success []]) out

theorem confirmFw_higher {h j v : Nat} {i : Image} (wf : s.wf = true) (ready : s.mboxRwReady h) (trial : s.boot.st = .trial)
    (checked : s.fwu.selfCheck = 2) (here : s.slotImg s.boot.running = some i) (best : s.bestCell 8 16 = some (j, v))
    (higher : v < i.svn) (good : s.cellGood 8 ((j + 1) % 16) = true) : ∃ t, exec (.confirmFw h) s = .next t ∧
      t.ctrVal 8 = i.svn ∧ t.boot.st = .confirmed ∧ t.out = [.mbox h .success []] := by
  have counted : (if s.ctrVal 8 < i.svn then s.begin.ctrWrite 8 i.svn else (s.begin, .ok)) =
      (s.begin.setCell 8 ((j + 1) % 16) (some i.svn), .ok) := by
    rw [ctrVal_of_best best, if_pos higher]
    exact ctrWrite_good (s := s.begin) best good
  have set := ctr_setCell s.begin 8 j ((j + 1) % 16) v i.svn wf (by omega) best (by omega)
  have cellWf : (s.begin.setCell 8 ((j + 1) % 16) (some i.svn)).wf = true := (State.setCell_ev ..).2 wf
  obtain ⟨fwu, ntn, -, out⟩ := confirmTold_spec cellWf s.boot.running i.svn
  refine ⟨_, exec_confirmFw_ready ready trial checked here counted, ?_, ?_, ?_⟩
  · refine (ctrVal_of_ntn ntn 8).trans ?_
    unfold State.ctrVal
    rw [set, Option.getD_some]
  · exact congrArg BootRec.st (boot_of_fwu (t := State.confirmTold _ _ _) (s := State.confirming _ _) (congrArg FwuState.boot fwu))
  · exact congrArg (· ++ [Output.mbox h .success []]) out

/-! ### Bundles -/

/-- A bundle with one subsystem item that names no unit: its sequence is kept, its setting waits, and it is reported. -/
def State.subsystemApplied (s : State) (j n d seq keySet : Nat) : State :=
  let t := (s.setCell 10 j (some seq)).applyItem (.subsystem n d)
  (t.raise Ev.fwuBundleApplied).fwRecord 0x1105 0 seq 1 keySet

theorem exec_applyConfigurationBundle_subsystem {h j v n d : Nat} {b : Bundle} (ready : s.mboxRwReady h)
    (signed : s.bundleSigned b = true) (anyone : b.serial = 0#64) (items : b.items = [.subsystem n d]) (hn : n < 2 ^ 16)
    (hd : d < 2 ^ 16) (best : s.bestCell 10 16 = some (j, v)) (newer : v < b.seq) (room : b.seq ≤ ctrLimit 10)
    (good : s.cellGood 10 ((j + 1) % 16) = true) : exec (.applyConfigurationBundle h b) s =
      .next ((s.begin.subsystemApplied ((j + 1) % 16) n d b.seq b.keySet).answerMbox h .success []) := by
  have last : s.begin.ctrVal 10 = v := ctrVal_of_best (s := s.begin) best
  have signed' : s.begin.bundleSigned b = true := signed
  have written : s.begin.ctrWrite 10 b.seq = (s.begin.setCell 10 ((j + 1) % 16) (some b.seq), .ok) :=
    ctrWrite_good (s := s.begin) best good
  refine (congrArg done (mailboxRw_ready ready)).trans (congrArg Host.Outcome.next ?_)
  refine (if_neg ?_).trans ((if_neg ?_).trans ?_)
  · rw [signed', last]
    rintro (bad | old)
    · cases bad
    · omega
  · rw [items]
    rintro (⟨-, other⟩ | bad)
    · exact other anyone
    · simp [State.itemOk] at bad
      omega
  · dsimp only
    rw [if_pos room, written, items]
    rfl

theorem subsystemApplied_spec (wf : s.wf = true) {j v n d seq keySet : Nat} (best : s.bestCell 10 16 = some (j, v)) (newer : v < seq) :
    (s.subsystemApplied ((j + 1) % 16) n d seq keySet).fwu.subsysNext = some (n, d) ∧
    (s.subsystemApplied ((j + 1) % 16) n d seq keySet).ctrVal 10 = seq ∧
    (s.subsystemApplied ((j + 1) % 16) n d seq keySet).evtSet Ev.fwuBundleApplied ∧
    (s.subsystemApplied ((j + 1) % 16) n d seq keySet).out = s.out := by
  have set := ctr_setCell s 10 j ((j + 1) % 16) v seq wf (by omega) best (by omega)
  have cellWf : (s.setCell 10 ((j + 1) % 16) (some seq)).wf = true := (State.setCell_ev ..).2 wf
  have itemWf := (State.applyItem_ev (s.setCell 10 ((j + 1) % 16) (some seq)) (.subsystem n d)).2 cellWf
  have told : ((s.setCell 10 ((j + 1) % 16) (some seq)).applyItem (.subsystem n d)).evolves
      (s.subsystemApplied ((j + 1) % 16) n d seq keySet) [.regs, .pmc, .evt, .host] :=
    ev_step (ev_step ev_refl (State.raise_ev ..) rfl) (State.fwRecord_ev ..) rfl
  refine ⟨congrArg FwuState.subsysNext (evolves_get told .fwu rfl), ?_, ?_, evolves_get told .out rfl⟩
  · refine (ctrVal_of_ntn (s := s.setCell 10 ((j + 1) % 16) (some seq)) (evolves_get told .ntn rfl) 10).trans ?_
    unfold State.ctrVal
    rw [set, Option.getD_some]
  · exact (keepsEvents_fwRecord ..).evtSet ((State.raise_ev ..).2 itemWf) (evtSet_raise _ _ itemWf (by decide))

theorem exec_applyConfigurationBundle_unsigned {h : Nat} {b : Bundle} (ready : s.mboxRwReady h)
    (unsigned : s.bundleSigned b = false) : exec (.applyConfigurationBundle h b) s =
      .next ((s.begin.raise Ev.fwuBundleRefused).answerMbox h .invalidSecurityState []) := by
  have unsigned' : s.begin.bundleSigned b = false := unsigned
  exact (congrArg done (mailboxRw_ready ready)).trans (congrArg Host.Outcome.next (if_pos (.inl (by rw [unsigned']; rfl))))

end Activation

end Sys2Proof.Machine

/-!
PROOF. The obligation about firmware update, assembled (R13, R517 to R535, R539 to R542, R549).
-/
namespace Sys2Proof.Machine
set_option Elab.async false
open Sys2Proof

section Trial
variable {s : State}

/-- A self-check that fails restarts the image, and is remembered as failed. -/
def State.checkFailed (s : State) : State := { s.restart 2 with fwu := { (s.restart 2).fwu with selfCheck := 3 } }

theorem checkFailed_spec (wf : s.wf = true) (trial : s.boot.st = .trial) : s.checkFailed.fwu.selfCheck = 3 ∧
    s.checkFailed.boot.running = 1 - s.boot.running ∧ s.checkFailed.boot.st = .confirmed ∧
    s.checkFailed.evtSet Ev.fwuFallback := by
  have boot : s.checkFailed.boot = (s.restart 2).boot := boot_of_fwu rfl
  obtain ⟨running, st⟩ := boot_fellBack s 2 (s.verOf s.boot.running) (1 - s.boot.running)
  have event := evtSet_fellBack wf 2 (s.verOf s.boot.running) (1 - s.boot.running)
  rw [← restart_trial trial] at running st event
  exact ⟨rfl, by rw [boot, running], by rw [boot, st], event⟩

theorem restart_spec (wf : s.wf = true) (trial : s.boot.st = .trial) (cause : Nat) :
    (s.restart cause).boot.running = 1 - s.boot.running ∧ (s.restart cause).boot.st = .confirmed ∧
    (s.restart cause).evtSet Ev.fwuFallback := by
  obtain ⟨running, st⟩ := boot_fellBack s cause (s.verOf s.boot.running) (1 - s.boot.running)
  rw [restart_trial trial]
  exact ⟨running, st, evtSet_fellBack wf ..⟩

/-- The deadline's approach is noted. -/
def State.deadlineNoted (s : State) : State := { s with fwu := { s.fwu with near := true } }

end Trial

/-- Settles O28: what each firmware command does. -/
theorem firmwareCommands : Obligations.FirmwareCommands := by
  unfold Obligations.FirmwareCommands
  refine ⟨fun s x wf core here copying plain => imageCopyDone_good wf core here copying plain,
    fun s x wf core here copying => imageCopyDone_bad wf core here copying, ?first, ?abort,
    fun s h ready => mailbox_answers ready rfl rfl, ?request, ?data, ?repeats, ?failed, ?doe, ?reset, ?online, ?pldm, ?loaded,
    fun s slot how wf core runs free here => activationImageLoaded_bad wf core runs free here,
    fun s slot how wf core paused here => activationPauseEnd_good wf core paused here,
    fun s slot how wf core paused here => activationPauseEnd_bad wf core paused here, ?schedule, ?cancel, ?passes, ?fails,
    fun s h i wf ready trial checked here low => confirmFw_same wf ready trial checked here low,
    fun s h j v i wf ready trial checked here best higher good => confirmFw_higher wf ready trial checked here best higher good,
    ?deadline, ?near, ?watchdog, ?bundle, ?unsigned, ?recovery, ?clear⟩
  case first =>
    intro s h slot d leaves sig ready free short
    obtain ⟨t, run, xfer, out⟩ := exec_transferFw_first leaves sig ready free short
    refine ⟨t, run, xfer.trans ?_, out⟩
    simp [Xfer.fed, Xfer.start, List.take_of_length_le (Nat.le_of_lt short)]
  case abort =>
    intro s h slot off d x leaves sig ready here src same idle
    exact ⟨_, exec_transferFw_abort leaves sig ready here src same idle, rfl, rfl, keeps_begin_fwu_emit s _ _⟩
  case request =>
    intro s size up free normal none
    exact ⟨_, exec_pldmRequestUpdate_starts up free normal none, rfl, rfl, keeps_begin_fwu_emit s _ _⟩
  case data =>
    intro s off d leaves x up free here src idle unknown next fits short
    refine ⟨_, exec_pldmFirmwareData_short leaves up free here src idle unknown next fits short, ?_⟩
    rw [next]
    rfl
  case repeats =>
    intro s x core runs free here src idle few
    exact ⟨_, (exec_pldmDataTimeout (src := src) core runs free here idle).trans (congrArg Host.Outcome.next (if_pos few)), rfl,
      keeps_begin_fwu s _⟩
  case failed =>
    intro s x wf core runs free here src idle many
    refine ⟨_, (exec_pldmDataTimeout (src := src) core runs free here idle).trans
      (congrArg Host.Outcome.next (if_neg (Nat.not_lt.mpr many))), ?_, evtSet_raiseN _ _ _ _ wf (by decide)⟩
    rw [State.raiseN_fwu]
    rfl
  case doe =>
    intro s d leaves core recovery none short
    have next : ((Xfer.start .recoveryDoe 16 0).fed d).next = d.length := Nat.zero_add _
    refine ⟨_, exec_recoveryDoeTransfer_first leaves core recovery none short, ?_, ?_⟩
    · rw [next]
      rfl
    · exact congrArg (fun n => some (XferSrc.recoveryDoe, n)) next
  case reset =>
    intro s h slot ready none
    exact ⟨_, exec_activateFw_reset ready none, rfl, rfl, rfl, keeps_begin_setBoot_emit s _ _⟩
  case online =>
    intro s h slot ready none
    exact ⟨_, exec_activateFw_online ready none, rfl, rfl, keeps_begin_fwu s _⟩
  case pldm =>
    intro s up free none
    exact ⟨_, exec_pldmActivateFirmware_hitless up free none, rfl, rfl, keeps_begin_fwu_emit s _ _⟩
  case loaded =>
    intro s slot how core runs free here
    refine ⟨_, (exec_activationImageLoaded true core runs free here).trans (congrArg Host.Outcome.next (if_pos rfl)), rfl, rfl, rfl,
      rfl, ?_⟩
    exact keeps_begin_fwu s _
  case schedule =>
    intro s h slot dl pps l ready assigned valid none late early aligned two many even named
    exact ⟨_, exec_scheduleFwActivation_taken ready assigned valid none late early aligned two many even named, rfl, rfl,
      keeps_begin_fwu_emit s _ _⟩
  case cancel =>
    intro s h x ready here waits
    exact ⟨_, exec_cancelScheduledActivation_waiting ready here waits, rfl, rfl, keeps_begin_fwu_emit s _ _⟩
  case passes =>
    intro s core runs trial checking
    exact ⟨_, (congrArg done (when_true (by simp [core, runs, trial, checking]))).trans (congrArg Host.Outcome.next (if_pos rfl)),
      rfl, keeps_begin_fwu s _⟩
  case fails =>
    intro s wf core runs trial checking
    exact ⟨_, (congrArg done (when_true (by simp [core, runs, trial, checking]))).trans
      (congrArg Host.Outcome.next (if_neg Bool.false_ne_true)), checkFailed_spec (s := s.begin) wf trial⟩
  case deadline =>
    intro s wf core runs trial late
    exact ⟨_, congrArg done (when_true (by simp [core, runs, trial, late])), restart_spec (s := s.begin) wf trial 1⟩
  case near =>
    intro s wf core runs first trial close
    refine ⟨_, congrArg done (when_true (by simp [core, runs, first, trial, close])), ?_,
      evtSet_raiseN s.begin.deadlineNoted _ _ _ wf (by decide)⟩
    exact congrArg FwuState.near (State.raiseN_fwu s.begin.deadlineNoted ..)
  case watchdog =>
    intro s wf core runs
    have told := State.raiseN_ev s.begin Ev.fwuWatchdog (fwuInfo s.boot.running 0) 0
    have event : (s.begin.raiseN Ev.fwuWatchdog (fwuInfo s.boot.running 0) 0).evtSet Ev.fwuWatchdog :=
      evtSet_raiseN s.begin _ _ _ wf (by decide)
    have boot : (s.begin.raiseN Ev.fwuWatchdog (fwuInfo s.boot.running 0) 0).boot = s.boot :=
      boot_of_fwu (by rw [State.raiseN_fwu]; rfl)
    have ready := told.2 wf
    have run : exec .watchdog s = .next ((s.begin.raiseN Ev.fwuWatchdog (fwuInfo s.boot.running 0) 0).restart 3) :=
      congrArg done (when_true (by simp [core, runs]))
    refine ⟨_, run, (keepsEvents_restart _ 3).evtSet ready event, fun trial => ?_, fun other => ?_⟩
    · obtain ⟨running, st, -⟩ := restart_spec ready (by rw [boot, trial]) 3
      exact ⟨by rw [running, boot], st⟩
    · rw [restart_confirmed (by rw [boot]; exact other), boot]
  case bundle =>
    intro s h j v n d b wf ready signed anyone items hn hd best newer room good
    obtain ⟨next, counted, event, out⟩ :=
      subsystemApplied_spec (s := s.begin) (n := n) (d := d) (keySet := b.keySet) wf best newer
    exact ⟨_, exec_applyConfigurationBundle_subsystem ready signed anyone items hn hd best newer room good, next, counted, event,
      congrArg (· ++ [Output.mbox h .success []]) out⟩
  case unsigned =>
    intro s h b wf ready unsigned
    exact ⟨_, exec_applyConfigurationBundle_unsigned ready unsigned, State.raise_fwu s.begin _, evtSet_raise s.begin _ wf (by decide),
      congrArg (· ++ [Output.mbox h .invalidSecurityState []]) (evolves_get (State.raise_ev s.begin _) .out rfl)⟩
  case recovery =>
    intro s h ready
    exact ⟨_, (congrArg done (barWrite_ready ready)).trans (congrArg Host.Outcome.next (if_pos rfl)), rfl, keeps_begin_fwu s _⟩
  case clear =>
    intro s h wf ready
    exact ⟨_, congrArg done (barWrite_ready ready), reg_setReg_same s.begin _ _ wf, keepsRegs_setReg s.begin _ _⟩

end Sys2Proof.Machine

/-!
PROOF. The host state beside the heads: reporting, counting, ending requests and settling stripes change nothing of it.
-/
namespace Sys2Proof.Machine
set_option Elab.async false
open Sys2Proof

/-- From `s` to `t` nothing of the host state changes but the heads. -/
structure State.headsOnly (s t : State) : Prop where
  host : t.host = { s.host with heads := t.host.heads }

section HeadsOnly
variable {s t u : State} {L : List Piece}

theorem State.headsOnly.of_host (same : t.host = s.host) : s.headsOnly t := ⟨by rw [same]⟩

theorem State.headsOnly.refl : s.headsOnly s := .of_host rfl

theorem State.headsOnly.trans (a : s.headsOnly t) (b : t.headsOnly u) : s.headsOnly u := by
  constructor
  rw [b.host, a.host]

theorem State.headsOnly.of_evolves (ev : s.evolves t L) (untouched : L.contains .host = false := by rfl) : s.headsOnly t :=
  .of_host (evolves_get ev .host untouched)

theorem State.headsOnly.ite {c : Prop} [Decidable c] {a b : State} (yes : s.headsOnly a) (no : s.headsOnly b) :
    s.headsOnly (if c then a else b) := by
  split
  · exact yes
  · exact no

theorem State.headsOnly.foldl {α : Type} {f : State → α → State} (step : ∀ (t : State) (x : α), t.headsOnly (f t x)) (l : List α)
    (s : State) : s.headsOnly (l.foldl f s) :=
  List.foldlRecOn (motive := s.headsOnly) l f .refl fun t kept x _ => kept.trans (step t x)

theorem State.headsOnly.bg (a : s.headsOnly t) : t.host.bg = s.host.bg := by rw [a.host]

theorem State.headsOnly.sanitizing (a : s.headsOnly t) : t.host.sanitizing = s.host.sanitizing := by rw [a.host]

/-! ### Reporting and counting -/

theorem headsOnly_setHead (s : State) (h : Nat) (x : Head) : s.headsOnly (s.setHead h x) := ⟨rfl⟩

theorem headsOnly_pendVector (s : State) (h v : Nat) : s.headsOnly (s.pendVector h v) :=
  .ite (headsOnly_setHead ..) .refl

theorem headsOnly_noteSource (s : State) (was : Bool) (e : Evt) : s.headsOnly (s.noteSource was e) :=
  .ite (.foldl (fun _ _ => .ite (headsOnly_pendVector ..) .refl) _ s) .refl

theorem headsOnly_raiseAt (s : State) (e : Evt) (info addr : Word) : s.headsOnly (s.raiseAt e info addr) := by
  have captured : s.headsOnly (s.capture e info addr) := .of_evolves (State.capture_ev ..)
  have set : (s.capture e info addr).headsOnly ((s.capture e info addr).setEvtBit e) :=
    .trans (.of_evolves (State.setReg_ev ..)) (headsOnly_noteSource ..)
  exact (captured.trans set).trans (.of_evolves (State.recordEvt_ev ..))

theorem headsOnly_raiseN (s : State) (e : Evt) (info addr : Nat) : s.headsOnly (s.raiseN e info addr) := headsOnly_raiseAt ..

theorem countInvariant_headsOnly (s : State) : CountInvariant s.headsOnly where
  setReg _ _ kept := kept.trans (.of_evolves (State.setReg_ev ..))
  raiseN _ _ _ kept := kept.trans (headsOnly_raiseN ..)

theorem headsOnly_count (s : State) (ev inst n : Nat) : s.headsOnly (s.count ev inst n) :=
  (countInvariant_headsOnly s).count .refl ev inst n

/-! ### Ending requests -/

theorem headsOnly_failReq (s : State) (r : Req) : s.headsOnly (s.failReq r) := by
  refine .ite (.of_evolves (State.cmp_ev ..)) ?_
  unfold State.memData
  exact .ite (.trans (.of_evolves (State.respond_ev ..)) (headsOnly_count ..)) (.of_evolves (State.respond_ev ..))

/-! ### Sequences, generations and stripes -/

theorem headsOnly_ctrWrite (s : State) (c v : Nat) : s.headsOnly (s.ctrWrite c v).1 := by
  unfold State.ctrWrite
  split
  · exact headsOnly_raiseN ..
  · dsimp only
    split
    · exact .of_evolves (State.setCell_ev ..)
    · have told (j : Nat) (e : Evt) (i a : Nat) : s.headsOnly ((s.setCell c j none).raiseN e i a) :=
        .trans (.of_evolves (State.setCell_ev ..)) (headsOnly_raiseN ..)
      split
      · exact (told ..).trans (.of_evolves (State.setCell_ev ..))
      · exact (told ..).trans (.of_evolves (State.setCell_ev ..))

theorem headsOnly_ctrInc (s : State) (c k : Nat) : s.headsOnly (s.ctrInc c k).1 := by
  unfold State.ctrInc
  extract_lets +onlyGivenNames v gen n
  split
  · exact headsOnly_ctrWrite ..
  · have limited : s.headsOnly (if n = ctrLimit c then (s, CtrRes.ok) else s.ctrWrite c (gen + ctrLimit c)).1 := by
      split
      · exact .refl
      · exact headsOnly_ctrWrite ..
    generalize (if n = ctrLimit c then (s, CtrRes.ok) else s.ctrWrite c (gen + ctrLimit c)) = r at limited
    obtain ⟨u, res⟩ := r
    cases res with
    | ok => exact limited.trans (headsOnly_raiseN ..)
    | saturated => exact limited.trans (headsOnly_raiseN ..)
    | failed => exact limited

end HeadsOnly

end Sys2Proof.Machine

/-!
PROOF. A destroyed domain stays without keys while the others are destroyed (R399, R400).
-/
namespace Sys2Proof.Machine
set_option Elab.async false
open Sys2Proof

/-- No key and no state of one. -/
structure Dom.keyless (x : Dom) : Prop where
  st : x.st = .empty
  gen0 : x.gen0 = none
  gen1 : x.gen1 = none
  next : x.next = none

theorem keyless_erased (x : Dom) : x.erased.keyless := ⟨rfl, rfl, rfl, rfl⟩

/-- From `s` to `t` canonical tables stay so, the host state changes in its heads only, and a domain without keys stays without. -/
structure State.keepsErased (s t : State) : Prop where
  heads : s.headsOnly t
  of_wf : s.wf = true → t.wf = true ∧ ∀ d, (s.dom d).keyless → (t.dom d).keyless

section KeepsErased
variable {s t u : State} {L : List Piece}

theorem State.keepsErased.refl : s.keepsErased s := ⟨.refl, fun wf => ⟨wf, fun _ => id⟩⟩

theorem State.keepsErased.trans (a : s.keepsErased t) (b : t.keepsErased u) : s.keepsErased u where
  heads := a.heads.trans b.heads
  of_wf wf :=
    have ⟨wfT, keptT⟩ := a.of_wf wf
    have ⟨wfU, keptU⟩ := b.of_wf wfT
    ⟨wfU, fun d none => keptU d (keptT d none)⟩

/-- What touches no domain and, of the host state, only heads. -/
theorem State.keepsErased.of_heads (ev : s.evolves t L) (heads : s.headsOnly t) (untouched : L.contains .cry = false := by rfl) :
    s.keepsErased t where
  heads := heads
  of_wf wf := ⟨ev.2 wf, fun d none => by rw [dom_congr (evolves_get ev .cry untouched) d]; exact none⟩

theorem State.keepsErased.of_evolves (ev : s.evolves t L) (noHost : L.contains .host = false := by rfl)
    (noCry : L.contains .cry = false := by rfl) : s.keepsErased t :=
  .of_heads ev (.of_evolves ev noHost) noCry

theorem State.keepsErased.ite {c : Prop} [Decidable c] {a b : State} (yes : s.keepsErased a) (no : s.keepsErased b) :
    s.keepsErased (if c then a else b) := by
  split
  · exact yes
  · exact no

theorem State.keepsErased.foldl {α : Type} {f : State → α → State} (step : ∀ (t : State) (x : α), t.keepsErased (f t x)) (l : List α)
    (s : State) : s.keepsErased (l.foldl f s) :=
  List.foldlRecOn (motive := s.keepsErased) l f .refl fun t kept x _ => kept.trans (step t x)

theorem keepsErased_setDom (s : State) (d : Nat) {x : Dom} (kept : (s.dom d).keyless → x.keyless) : s.keepsErased (s.setDom d x) where
  heads := .of_host rfl
  of_wf wf := by
    refine ⟨(State.setDom_ev ..).2 wf, fun j none => ?_⟩
    by_cases same : j = d
    · rw [same, dom_setDom_same s d x wf]
      rw [same] at none
      exact kept none
    · rw [dom_setDom_other s d j x same]
      exact none

theorem keepsErased_raiseN (s : State) (e : Evt) (info addr : Nat) : s.keepsErased (s.raiseN e info addr) :=
  .of_heads (State.raiseN_ev ..) (headsOnly_raiseN ..)

theorem keepsErased_count (s : State) (ev inst n : Nat) : s.keepsErased (s.count ev inst n) :=
  .of_heads (State.count_ev ..) (headsOnly_count ..)

/-! ### Generations and sequences -/

theorem keepsErased_wrapTick (s : State) : s.keepsErased s.wrapTick.1 := by
  refine .of_heads (L := [.regs, .pmc, .evt, .host, .ntn]) (State.wrapTick_ev s) ?_
  have counted := headsOnly_ctrInc s 5 1
  unfold State.wrapTick
  split
  next t ok =>
    rw [ok] at counted
    exact counted.trans (headsOnly_raiseAt ..)
  next t _ _ failed =>
    rw [failed] at counted
    exact counted

/-- A domain without keys has no next key: there is nothing to switch to. -/
theorem nextKey_keyless {d : Nat} (bare : (s.dom d).keyless) : s.nextKey d = (s, none) := by
  have slot : ∀ k, (s.dom d).gen k = none := fun k => by
    unfold Dom.gen
    rw [bare.gen0, bare.gen1]
    exact ite_self _
  unfold State.nextKey
  simp only [bare.next, slot]

theorem doms_nextKey (s : State) (d : Nat) : (s.nextKey d).1.cry.doms = s.cry.doms := by
  unfold State.nextKey
  dsimp only
  split
  · rfl
  · split
    · exact doms_genKey s d
    · rfl
  · rfl

theorem dom_nextKey (s : State) (d j : Nat) : (s.nextKey d).1.dom j = s.dom j := by
  unfold State.dom
  rw [doms_nextKey]

theorem keepsErased_nextKey (s : State) (d : Nat) : s.keepsErased (s.nextKey d).1 where
  heads := .of_evolves (L := [.regs, .pmc, .cry]) (State.nextKey_ev s d)
  of_wf wf :=
    have ev : s.evolves (s.nextKey d).1 [.regs, .pmc, .cry] := State.nextKey_ev s d
    ⟨ev.2 wf, fun j bare => by
      rw [dom_nextKey]
      exact bare⟩

theorem keepsErased_genSwitch (s : State) (d : Nat) : s.keepsErased (s.genSwitch d) := by
  have ticked := keepsErased_wrapTick s
  unfold State.genSwitch
  split
  · exact .refl
  · split
    next tick =>
      rw [tick] at ticked
      exact ticked
    next u tick =>
      rw [tick] at ticked
      have keyed := keepsErased_nextKey u d
      split
      next failed =>
        rw [failed] at keyed
        exact ticked.trans keyed
      next v key src found =>
        have dom : v.dom d = u.dom d := by
          rw [← dom_nextKey u d d, found]
        have never : ¬ (v.dom d).keyless := fun bare => by
          rw [dom] at bare
          rw [nextKey_keyless bare] at found
          cases found
        rw [found] at keyed
        have aged : v.keepsErased (v.agedUndo d) := .of_evolves (State.setEpoDom_ev ..)
        exact (((ticked.trans keyed).trans aged).trans
          (keepsErased_setDom (v.agedUndo d) d fun bare => absurd bare never)).trans (keepsErased_raiseN ..)

theorem keepsErased_takeBatch (s : State) (d g : Nat) : s.keepsErased (s.takeBatch d g) := by
  unfold State.takeBatch
  extract_lets +onlyGivenNames x y
  have kept : (s.dom d).keyless → y.keyless := fun bare => ⟨bare.st, bare.gen0, bare.gen1, bare.next⟩
  have high : (s.dom d).keyless → Dom.keyless { y with seqHigh := true } := fun bare =>
    ⟨(kept bare).st, (kept bare).gen0, (kept bare).gen1, (kept bare).next⟩
  exact .ite (.trans (keepsErased_setDom s d high) (keepsErased_raiseN ..)) (keepsErased_setDom s d kept)

theorem keepsErased_drawSeq (s : State) (d g : Nat) : s.keepsErased (s.drawSeq d g).1 := by
  unfold State.drawSeq
  extract_lets +onlyGivenNames dom switched
  have first : s.keepsErased switched :=
    .ite (.ite (keepsErased_setDom s d fun bare => ⟨bare.st, bare.gen0, bare.gen1, bare.next⟩) (keepsErased_genSwitch s d)) .refl
  clear_value switched
  split
  · exact first
  · extract_lets +onlyGivenNames batched
    have second : switched.keepsErased batched := .ite (keepsErased_takeBatch ..) .refl
    clear_value batched
    exact (first.trans second).trans
      (keepsErased_setDom batched d fun bare => ⟨bare.st, bare.gen0, bare.gen1, bare.next⟩)

theorem keepsErased_encrypt (s : State) (g : Nat) (x : Staged) : s.keepsErased (s.encrypt g x).1 := by
  have drawn := keepsErased_drawSeq s x.dom g
  unfold State.encrypt
  split
  next draw =>
    rw [draw] at drawn
    exact drawn
  next draw =>
    rw [draw] at drawn
    dsimp only at drawn ⊢
    split
    · exact drawn
    · exact drawn.trans (keepsErased_count ..)

theorem keepsErased_encryptLines (s : State) (g : Nat) (l : List Staged) : s.keepsErased (s.encryptLines g l).1 := by
  induction l generalizing s with
  | nil => exact .refl
  | cons x l ih =>
    unfold State.encryptLines
    have first : s.keepsErased (if x.kind = .host ∧ !x.enc ∧ x.missing = 0#4 then s.encrypt g x else (s, x)).1 := by
      split
      · exact keepsErased_encrypt ..
      · exact .refl
    exact first.trans (ih _)

theorem keepsErased_settleGroup (s : State) (g : Nat) : s.keepsErased (s.settleGroup g) := by
  refine .foldl (fun u x => .ite ?_ .refl) _ s
  have lines := keepsErased_encryptLines u g x.lines
  unfold State.settleStripe
  exact .ite ((lines.trans (.of_evolves (State.updStripe_ev ..))).trans (.of_evolves (State.launch_ev ..)))
    (lines.trans (.of_evolves (State.updStripe_ev ..)))

/-! ### What a domain leaves behind -/

theorem keepsErased_endWhere (s : State) (sel : Nat → Nat → Bool) : s.keepsErased (s.endWhere State.failReq sel) := by
  unfold State.endWhere
  extract_lets +onlyGivenNames p reqs acks fch epo wp cleared
  have first : s.keepsErased cleared :=
    .of_evolves (L := [.fch, .epo, .wp]) (ev_updW ev_refl id id id WriteState.wf_upd id EpoState.wf_upd id id id id (by
      intro p; cases p <;> first | exact .inl (by decide) | exact .inr rfl | exact .inr ⟨rfl, rfl⟩))
  clear_value cleared
  exact (first.trans (.foldl (fun t r => .of_heads (State.failReq_ev t r) (headsOnly_failReq t r)) _ _)).trans
    (.foldl (fun t (a : Nat × Nat) => .of_evolves (State.cmp_ev t a.1 a.2)) _ _)

theorem keepsErased_dropWhere (s : State) (sel : Nat → Nat → Bool) : s.keepsErased (s.dropWhere State.failReq sel) := by
  unfold State.dropWhere
  extract_lets +onlyGivenNames ended lines dropped gone maint mshr flush fch wp rd cut mark
  have first : s.keepsErased ended := keepsErased_endWhere ..
  clear_value ended
  have second : s.keepsErased dropped := first.trans
    (.foldl (fun t l => .trans (.of_evolves (State.dropLine_ev ..)) (.of_evolves (State.dropSide_ev ..))) _ _)
  clear_value dropped
  have third : dropped.keepsErased cut := .of_evolves (L := [.fch, .wp, .rd])
    (ev_updW ev_refl id id id WriteState.wf_upd id id id id id id (by
      intro p; cases p <;> first | exact .inl (by decide) | exact .inr rfl | exact .inr ⟨rfl, rfl⟩))
  clear_value cut
  exact (second.trans third).trans
    (.foldl (fun t g => .trans (.of_evolves (State.setStripes_ev ..)) (keepsErased_settleGroup ..)) _ _)

theorem headsOnly_endUnknown (s : State) : s.headsOnly s.endUnknown := by
  unfold State.endUnknown
  refine .ite (.trans (t := { s with
    upk := { s.upk with unknown := false, probing := [], rinse := true,
                        rinseFrom := s.upk.rinseFrom + (s.time.opNs - s.upk.unknownFrom) }
    rd := { s.rd with ageUnknown := false } }) ⟨rfl⟩ (headsOnly_raiseN ..)) .refl

theorem headsOnly_settleBolt (s : State) (g b : Nat) : s.headsOnly (s.settleBolt g b) := by
  unfold State.settleBolt
  extract_lets +onlyGivenNames x pending ended
  refine .ite ?_ .refl
  have settled : s.headsOnly ended := .trans (.of_evolves (State.setBolt_ev ..)) (.of_evolves (State.emptied_ev ..))
  clear_value ended
  exact .ite (settled.trans (headsOnly_endUnknown _)) settled

theorem headsOnly_deadAt (s : State) (a : Nat) : s.headsOnly (s.deadAt a) := by
  unfold State.deadAt
  exact .trans (.of_evolves (State.setBolt_ev ..)) (headsOnly_settleBolt ..)

theorem headsOnly_toCleanup (s : State) (d : Nat) (bitClears : Bool) (tab : List Undo) :
    s.headsOnly (s.toCleanup d bitClears tab) := by
  unfold State.toCleanup
  refine .trans ?_ (.of_evolves (State.setEpoDom_ev ..))
  unfold State.cleanupWalk
  refine .foldl (fun t x => ?_) _ s
  extract_lets +onlyGivenNames entry cleared
  have first : t.headsOnly cleared := .ite (.of_evolves (State.setEntry_ev ..)) .refl
  clear_value cleared
  exact .ite first (.ite first (first.trans (headsOnly_deadAt ..)))

theorem headsOnly_writeJnl (s : State) : s.headsOnly s.writeJnl := by
  unfold State.writeJnl
  refine .ite .refl ?_
  extract_lets +onlyGivenNames counted
  have first : s.headsOnly counted := .trans (.of_evolves (State.selvage_ev ..)) (headsOnly_count ..)
  clear_value counted
  exact first.trans ⟨rfl⟩

theorem headsOnly_nextCkpt (s : State) : s.headsOnly s.nextCkpt := by
  unfold State.nextCkpt State.startCkpt
  refine .ite (.ite .refl ?_) .refl
  have written := headsOnly_writeJnl s
  generalize s.writeJnl = t at written
  exact written.trans ⟨rfl⟩

theorem headsOnly_discardEpoch (s : State) (d : Nat) : s.headsOnly (s.discardEpoch d) := by
  unfold State.discardEpoch
  refine .ite ?_ .refl
  extract_lets +onlyGivenNames x failed tabs opened
  have first : s.headsOnly failed := .ite (.of_evolves (State.failPrepare_ev ..)) .refl
  clear_value failed
  have second : s.headsOnly opened := first.trans (.of_evolves (State.setEpoDom_ev ..))
  clear_value opened
  exact (second.trans (.ite .refl (headsOnly_toCleanup ..))).trans (headsOnly_nextCkpt _)

/-- Destroying a domain's keys leaves it, and every domain that was so before, without keys. -/
theorem keepsErased_destroyKey (s : State) (d : Nat) : s.keepsErased (s.destroyKey State.failReq d) := by
  unfold State.destroyKey
  extract_lets +onlyGivenNames t u
  have first : s.keepsErased t := .trans (keepsErased_dropWhere ..) (.of_heads (State.discardEpoch_ev ..) (headsOnly_discardEpoch ..))
  clear_value t
  have closed : (t.setDom d (t.dom d).erased).keepsErased ((t.setDom d (t.dom d).erased).closeHalts d) :=
    ⟨.of_host rfl, fun wf => ⟨(State.closeHalts_ev ..).2 wf, fun _ none => none⟩⟩
  have second : s.keepsErased u :=
    ((first.trans (keepsErased_setDom t d fun _ => keyless_erased _)).trans closed).trans (.of_evolves (State.zeroWindow_ev ..))
  clear_value u
  exact second.trans (keepsErased_raiseN ..)

end KeepsErased

end Sys2Proof.Machine

/-!
PROOF. The mailbox commands that change nothing but the host state, a register or a domain's extent (R53, R65 to R71, R76, R77,
R81, R337).
-/
namespace Sys2Proof.Machine
set_option Elab.async false
open Sys2Proof

section Settings
variable {s : State} {h : Nat}

theorem mailboxRw_roMgmt {k : State → State} (ready : s.mboxReady h) (ro : s.roMgmt h = true) :
    s.mailboxRw h k = s.begin.answerMbox h .invalidSecurityState [] :=
  (mailbox_ready ready).trans (if_pos ro)

theorem keeps_begin_host_emit (s : State) (x : HostState) (o : Output) (canonical : s.host.wf = true → x.wf = true) :
    s.keeps (({ s.begin with host := x } : State).emit o) [.host, .out] :=
  (ev_step (ev_host (ev_step ev_refl (State.begin_ev s) rfl) rfl canonical) (State.emit_ev _ o) rfl).1

theorem cdatUp_ev (s : State) : s.evolves s.cdatUp [.host] :=
  ev_foldl ev_refl fun _ _ kept => ev_step kept (State.setHead_ev ..) rfl

theorem dom_cdatUp (s : State) (d : Nat) : s.cdatUp.dom d = s.dom d := dom_congr (evolves_get (cdatUp_ev s) .cry rfl) d

theorem dom_setDom_cdatUp (wf : s.wf = true) (h d : Nat) (x : Dom) :
    ((s.setDom d x).cdatUp.answerMbox h .success []).dom d = x :=
  (dom_congr (evolves_get (State.answerMbox_ev (s.setDom d x).cdatUp h .success []) .cry rfl) d).trans
    ((dom_cdatUp (s.setDom d x) d).trans (dom_setDom_same s d x wf))

theorem roMgmt_answers (v : Nat) (ready : s.mboxReady h) (ro : s.roMgmt h = true) : ∃ t,
    exec (.setShutdownState h v) s = .next t ∧ t.out = [.mbox h .invalidSecurityState []] ∧ s.keeps t [.out] :=
  ⟨_, congrArg done (mailboxRw_roMgmt ready ro), out_begin_answerMbox .., keeps_begin_answerMbox s h _ _⟩

theorem responseLimit_taken {v : Nat} (wf : s.wf = true) (ready : s.mboxReady h) (low : 8 ≤ v) (high : v ≤ 16) : ∃ t,
    exec (.setResponseMessageLimit h v) s = .next t ∧ t.head h = { s.head h with rspLimit := v } ∧
    t.out = [.mbox h .success [v]] ∧ s.keeps t [.host, .out] :=
  ⟨_, (congrArg done (mailbox_ready ready)).trans (congrArg Host.Outcome.next (if_neg (by omega))), head_begin_setHead _ wf, rfl,
    keeps_begin_setHead_emit s h _ _⟩

theorem responseLimit_refused {v : Nat} (ready : s.mboxReady h) (outside : v < 8 ∨ 16 < v) : ∃ t,
    exec (.setResponseMessageLimit h v) s = .next t ∧ t.out = [.mbox h .invalidInput []] ∧ s.keeps t [.out] :=
  mailbox_answers ready rfl (if_pos outside)

theorem rinsePeriod_taken {v : Nat} (wf : s.wf = true) (ready : s.mboxRwReady h) (low : 1 ≤ v) (high : v ≤ 720) : ∃ t,
    exec (.setFeature h 0 v) s = .next t ∧ t.fld F.upkRinseCfgPeriodH = v ∧ t.out = [.mbox h .success []] ∧
    s.keepsRegs t [F.upkRinseCfgPeriodH.off] := by
  refine ⟨_, (congrArg done (mailboxRw_ready ready)).trans (congrArg Host.Outcome.next (if_neg (by omega))),
    fld_setFld_same s.begin F.upkRinseCfgPeriodH v wf (by decide) (by decide) (lt_of_le_of_lt high (by decide)), rfl, ?_⟩
  exact keepsRegs_setReg s.begin _ _

theorem shutdownState_taken (v : Nat) (ready : s.mboxRwReady h) : ∃ t, exec (.setShutdownState h v) s = .next t ∧
    t.host.shutdownState = v ∧ t.out = [.mbox h .success []] ∧ s.keeps t [.host, .out] := by
  refine ⟨_, congrArg done (mailboxRw_ready ready), rfl, rfl, ?_⟩
  exact keeps_begin_host_emit s _ _ id

theorem qosControl_taken {m v : Nat} (e : Bool) (ready : s.mboxRwReady h) (low : 1 ≤ m) (ordered : m ≤ v) (high : v ≤ 100) : ∃ t,
    exec (.setSldQosControl h e m v) s = .next t ∧ (t.host.egressOn, t.host.egressModerate, t.host.egressSevere) = (e, m, v) ∧
    t.out = [.mbox h .success []] ∧ s.keeps t [.host, .out] := by
  refine ⟨_, (congrArg done (mailboxRw_ready ready)).trans (congrArg Host.Outcome.next (if_neg (by omega))), rfl, rfl, ?_⟩
  exact keeps_begin_host_emit s _ _ id

theorem extent_grows {d base count : Nat} (wf : s.wf = true) (ready : s.mboxRwReady h) (good : s.extentBad d base count = false)
    (free : s.takesReleased base count = false) (more : (s.dom d).count < count) : ∃ t,
    exec (.setDomainExtent h d base count) s = .next t ∧ (t.dom d).base = base ∧ (t.dom d).count = count ∧
    t.out = [.mbox h .success []] ∧ s.keeps t [.host, .cry, .out] := by
  have good' : s.begin.extentBad d base count = false := good
  have free' : s.begin.takesReleased base count = false := free
  have more' : (s.begin.dom d).count < count := more
  have grown := dom_setDom_cdatUp (s := s.begin) wf h d { s.begin.dom d with base := base, count := count }
  have upEv := cdatUp_ev (s.begin.setDom d { s.begin.dom d with base := base, count := count })
  have run : exec (.setDomainExtent h d base count) s = .next
      ((s.begin.setDom d { s.begin.dom d with base := base, count := count }).cdatUp.answerMbox h .success []) := by
    refine (congrArg done (mailboxRw_ready ready)).trans (congrArg Host.Outcome.next ?_)
    dsimp only
    rw [good', free', if_neg (by decide), if_neg (by decide), if_neg (by omega), if_neg (by omega)]
  refine ⟨_, run, by rw [grown], by rw [grown], ?_, ?_⟩
  · exact congrArg (· ++ [Output.mbox h .success []]) (evolves_get upEv .out rfl)
  · exact (ev_step (ev_step (ev_step (ev_step ev_refl (State.begin_ev s) rfl) (State.setDom_ev ..) rfl) upEv rfl)
      (State.answerMbox_ev ..) rfl).1

end Settings

end Sys2Proof.Machine

/-!
PROOF. Sanitize and Secure Erase begin (R72, R400), and an extent shrinks (R53).
-/
namespace Sys2Proof.Machine
set_option Elab.async false
open Sys2Proof

section Erase
variable {s : State} {h : Nat}

/-! ### Every key is destroyed -/

/-- The keys of the domains `l` are destroyed in turn. -/
def State.destroyKeys (s : State) (l : List Nat) : State := l.foldl (fun t d => t.destroyKey State.failReq d) s

theorem keepsErased_destroyKeys (s : State) (l : List Nat) : s.keepsErased (s.destroyKeys l) :=
  .foldl keepsErased_destroyKey l s

theorem keyless_destroyKeys (wf : s.wf = true) (l : List Nat) {d : Nat} (named : d ∈ l) : ((s.destroyKeys l).dom d).keyless := by
  induction l generalizing s with
  | nil => cases named
  | cons a l ih =>
    have nextWf := ((keepsErased_destroyKey s a).of_wf wf).1
    rcases List.mem_cons.mp named with rfl | later
    · obtain ⟨⟨x, erased⟩, -⟩ := destroyKey_spec (d := d) wf fun t r => .of_evolves (State.failReq_ev t r)
      exact ((keepsErased_destroyKeys (s.destroyKey State.failReq d) l).of_wf nextWf).2 d (erased ▸ keyless_erased x)
    · exact ih nextWf later

/-- A FAILED map becomes UNFORMATTED. -/
def State.unfailMap (s : State) : State := if s.map.st = .failed then { s with map := { s.map with st := .unformatted } } else s

theorem keepsErased_unfailMap (s : State) : s.keepsErased s.unfailMap :=
  .ite (.of_evolves (L := [.map]) (ev_map ev_refl rfl MapState.wf_upd)) .refl

/-- The command has been taken: every access waits and the operation runs in the background. -/
def State.erasing (s : State) (k : BgKind) (h : Nat) : State :=
  { s with host := { s.host with sanitizing := true, bg := some (k, h) } }

theorem startErase_eq (s : State) (k : BgKind) : s.startErase k h = ((s.erasing k h).destroyKeys (List.range 256)).unfailMap := rfl

theorem startErase_spec (k : BgKind) (wf : s.wf = true) : (s.startErase k h).host.sanitizing = true ∧
    (s.startErase k h).host.bg = some (k, h) ∧ ∀ d, d < 256 → ((s.startErase k h).dom d).st = .empty := by
  rw [startErase_eq]
  have started : (s.erasing k h).wf = true := wf
  have destroyed := keepsErased_destroyKeys (s.erasing k h) (List.range 256)
  have unfailed := keepsErased_unfailMap ((s.erasing k h).destroyKeys (List.range 256))
  have all := destroyed.trans unfailed
  refine ⟨all.heads.sanitizing, all.heads.bg, fun d small => ?_⟩
  exact ((unfailed.of_wf (destroyed.of_wf started).1).2 d (keyless_destroyKeys started _ (List.mem_range.mpr small))).st

theorem erase_idle (k : BgKind) (ready : s.mboxRwReady h) (idle : s.host.bg = none) :
    s.erase k h = (s.begin.startErase k h).answerMbox h .backgroundStarted [] := by
  unfold State.erase
  rw [mailboxRw_ready ready, State.begin_host, idle]
  exact if_neg (by decide)

/-- An answer in the background leaves what has been started as it is. -/
theorem started_answerMbox {u : State} {k : BgKind} (started : u.host.sanitizing = true ∧ u.host.bg = some (k, h) ∧
    ∀ d, d < 256 → (u.dom d).st = .empty) : (u.answerMbox h .backgroundStarted []).host.sanitizing = true ∧
      (u.answerMbox h .backgroundStarted []).host.bg = some (k, h) ∧
      (u.answerMbox h .backgroundStarted []).out.getLast? = some (.mbox h .backgroundStarted []) ∧
      ∀ d, d < 256 → ((u.answerMbox h .backgroundStarted []).dom d).st = .empty :=
  ⟨started.1, started.2.1, List.getLast?_concat, started.2.2⟩

theorem erase_starts {c : Instr} (k : BgKind) (run : exec c s = done (s.erase k h)) (wf : s.wf = true) (ready : s.mboxRwReady h)
    (idle : s.host.bg = none) : ∃ t, exec c s = .next t ∧ t.host.sanitizing = true ∧ t.host.bg = some (k, h) ∧
      t.out.getLast? = some (.mbox h .backgroundStarted []) ∧ ∀ d, d < 256 → (t.dom d).st = .empty :=
  ⟨_, run.trans (congrArg done (erase_idle k ready idle)), started_answerMbox (startErase_spec k wf)⟩

/-! ### A shrink -/

/-- What a shrink leaves of the poison list, the caches and the requests. -/
def State.released (s : State) (d first n : Nat) : State :=
  (s.unpoisonRange d first n).dropWhere State.failReq fun l _ => decide (first ≤ l ∧ l < first + n)

theorem keepsErased_released (s : State) (d first n : Nat) : s.keepsErased (s.released d first n) :=
  .trans (.of_evolves (State.unpoisonRange_ev ..)) (keepsErased_dropWhere ..)

/-- What discarding lines may change. -/
def dropping : List Piece := [.regs, .pmc, .evt, .host, .fch, .wp, .rd, .cry, .epo, .ntn, .warp, .out]

theorem endWhere_evolves (s : State) (sel : Nat → Nat → Bool) : s.evolves (s.endWhere State.failReq sel) dropping := by
  unfold State.endWhere
  extract_lets +onlyGivenNames p reqs acks fch epo wp cleared
  have first : s.evolves cleared dropping := ev_updW ev_refl id id id WriteState.wf_upd id EpoState.wf_upd id id id id (by
    intro p
    cases p <;> first | exact .inl (by decide) | exact .inr rfl | exact .inr ⟨rfl, rfl⟩)
  clear_value cleared
  exact ev_foldl (ev_foldl first fun _ _ kept => ev_step kept (State.failReq_ev ..) rfl)
    fun _ _ kept => ev_step kept (State.cmp_ev ..) rfl

theorem dropWhere_evolves (s : State) (sel : Nat → Nat → Bool) : s.evolves (s.dropWhere State.failReq sel) dropping := by
  unfold State.dropWhere
  extract_lets +onlyGivenNames ended lines dropped gone maint mshr flush fch wp rd cut mark
  have first : s.evolves ended dropping := endWhere_evolves ..
  clear_value ended
  have second : s.evolves dropped dropping :=
    ev_foldl first fun _ _ kept => ev_step (ev_step kept (State.dropLine_ev ..) rfl) (State.dropSide_ev ..) rfl
  clear_value dropped
  have third : s.evolves cut dropping := ev_updW second id id id WriteState.wf_upd id id id id id id (by
    intro p
    cases p <;> first | exact .inl (by decide) | exact .inr rfl | exact .inr ⟨rfl, rfl⟩)
  clear_value cut
  exact ev_foldl third fun _ _ kept => ev_step (ev_step kept (State.setStripes_ev ..) rfl) (State.settleGroup_ev ..) rfl

theorem map_released (s : State) (d first n : Nat) : (s.released d first n).map = s.map :=
  (evolves_get (dropWhere_evolves ..) .map rfl).trans (evolves_get (State.unpoisonRange_ev s d first n) .map rfl)

/-- The released lines are to be unmapped in the background. -/
def State.releasing (s : State) (h first n : Nat) : State :=
  { s with
    host := { s.host with bg := some (.shrink, h), released := some (first, n) },
    map := { s.map with unmap := s.map.unmap ++ [(first, n, .shrink h)] } }

theorem shrink_eq (s : State) {d count first n : Nat} (from' : ((s.dom d).base + count) * 2 ^ 22 = first)
    (lines : ((s.dom d).count - count) * 2 ^ 22 = n) : s.shrink h d count =
      (((s.released d first n).setDom d { (s.released d first n).dom d with count := count }).cdatUp).releasing h first n := by
  subst from' lines
  unfold State.shrink State.releasing State.released
  rfl

/-- What a shrink leaves: the new extent, the running operation and its released lines. -/
theorem shrink_spec {d count first n : Nat} (wf : s.wf = true) (from' : ((s.dom d).base + count) * 2 ^ 22 = first)
    (lines : ((s.dom d).count - count) * 2 ^ 22 = n) : ((s.shrink h d count).dom d).count = count ∧
    (s.shrink h d count).host.bg = some (.shrink, h) ∧ (s.shrink h d count).host.released = some (first, n) ∧
    (s.shrink h d count).map.unmap = s.map.unmap ++ [(first, n, .shrink h)] := by
  rw [shrink_eq s from' lines]
  have relWf := ((keepsErased_released s d first n).of_wf wf).1
  have map : (s.released d first n).map = s.map := map_released s d first n
  generalize s.released d first n = u at *
  have count' := (dom_cdatUp (u.setDom d { u.dom d with count := count }) d).trans (dom_setDom_same u d _ relWf)
  have unmap : (u.setDom d { u.dom d with count := count }).cdatUp.map = s.map := (evolves_get (cdatUp_ev _) .map rfl).trans map
  generalize (u.setDom d { u.dom d with count := count }).cdatUp = v at *
  refine ⟨congrArg Dom.count count', rfl, rfl, ?_⟩
  exact congrArg (fun m : MapState => m.unmap ++ [(first, n, UnmapWhy.shrink h)]) unmap

theorem extent_shrinks {d base count : Nat} (wf : s.wf = true) (ready : s.mboxRwReady h) (good : s.extentBad d base count = false)
    (free : s.takesReleased base count = false) (less : count < (s.dom d).count) (idle : s.shrinkBusy d base count = false) : ∃ t,
    exec (.setDomainExtent h d base count) s = .next t ∧ (t.dom d).count = count ∧ t.host.bg = some (.shrink, h) ∧
    t.host.released = some (((s.dom d).base + count) * 2 ^ 22, ((s.dom d).count - count) * 2 ^ 22) ∧
    t.map.unmap = s.map.unmap ++ [(((s.dom d).base + count) * 2 ^ 22, ((s.dom d).count - count) * 2 ^ 22, .shrink h)] ∧
    t.out.getLast? = some (.mbox h .backgroundStarted []) := by
  have good' : s.begin.extentBad d base count = false := good
  have free' : s.begin.takesReleased base count = false := free
  have less' : count < (s.begin.dom d).count := less
  have idle' : s.begin.shrinkBusy d base count = false := idle
  have run : exec (.setDomainExtent h d base count) s = .next ((s.begin.shrink h d count).answerMbox h .backgroundStarted []) := by
    refine (congrArg done (mailboxRw_ready ready)).trans (congrArg Host.Outcome.next ?_)
    dsimp only
    rw [good', free', idle', if_neg (by decide), if_neg (by decide), if_pos less', if_neg (by decide)]
  obtain ⟨count', bg, released, unmap⟩ := shrink_spec (s := s.begin) (h := h) (d := d) (count := count) wf rfl rfl
  refine ⟨_, run, ?_⟩
  generalize s.begin.shrink h d count = u at *
  exact ⟨count', bg, released, unmap, List.getLast?_concat⟩

end Erase

end Sys2Proof.Machine

/-!
PROOF. Scan Media begins, and ends (R72, R255).
-/
namespace Sys2Proof.Machine
set_option Elab.async false
open Sys2Proof

section Scan
variable {s t u : State} {h : Nat}

/-! ### It begins -/

/-- From `s` to `t` the host state changes in its heads only, and the read path in its list of reads only. -/
structure State.keepsScan (s t : State) : Prop where
  heads : s.headsOnly t
  rd : t.rd = { s.rd with reads := t.rd.reads }

theorem State.keepsScan.refl : s.keepsScan s := ⟨.refl, rfl⟩

theorem State.keepsScan.trans (a : s.keepsScan t) (b : t.keepsScan u) : s.keepsScan u :=
  ⟨a.heads.trans b.heads, by rw [b.rd, a.rd]⟩

theorem State.keepsScan.of_heads {L : List Piece} (ev : s.evolves t L) (heads : s.headsOnly t)
    (untouched : L.contains .rd = false := by rfl) : s.keepsScan t :=
  ⟨heads, by rw [evolves_get ev .rd untouched]⟩

theorem State.keepsScan.of_evolves {L : List Piece} (ev : s.evolves t L) (noHost : L.contains .host = false := by rfl)
    (noRd : L.contains .rd = false := by rfl) : s.keepsScan t :=
  .of_heads ev (.of_evolves ev noHost) noRd

theorem State.keepsScan.ite {c : Prop} [Decidable c] {a b : State} (yes : s.keepsScan a) (no : s.keepsScan b) :
    s.keepsScan (if c then a else b) := by
  split
  · exact yes
  · exact no

theorem State.keepsScan.foldl {α : Type} {f : State → α → State} (step : ∀ (t : State) (x : α), t.keepsScan (f t x)) (l : List α)
    (s : State) : s.keepsScan (l.foldl f s) :=
  List.foldlRecOn (motive := s.keepsScan) l f .refl fun t kept x _ => kept.trans (step t x)

theorem keepsScan_setReads (s : State) (l : List Rd) : s.keepsScan (s.setReads l) := ⟨.of_host rfl, rfl⟩

theorem keepsScan_issueRecon (s : State) (cls a head : Nat) : s.keepsScan (s.issueRecon cls a head) := by
  refine .trans (.of_heads (State.count_ev ..) (headsOnly_count s 0x404 (addrGroup a) 1)) (.foldl (fun t i => ?_) _ _)
  exact .ite .refl (.of_evolves (State.issueRead_ev ..))

theorem keepsScan_startMedia (s : State) (r : Rd) (e : Entry) (head : Nat) : s.keepsScan (s.startMedia r e head) := by
  unfold State.startMedia
  extract_lets +onlyGivenNames gone r listed wanted cls
  have first : s.keepsScan listed := keepsScan_setReads ..
  clear_value listed
  have second : s.keepsScan wanted := first.trans (.ite (.of_evolves (State.wantTag_ev ..)) .refl)
  clear_value wanted
  exact second.trans (.ite (keepsScan_issueRecon ..) (.of_evolves (State.issueRead_ev ..)))

theorem keepsScan_scanLine (s : State) (line : Nat) : s.keepsScan (s.scanLine line) := .ite .refl (keepsScan_startMedia ..)

/-- The scan of `n` lines from `l` runs. -/
def State.scanning (s : State) (h l n : Nat) : State :=
  { s with host := { s.host with bg := some (.scan, h) }, rd := { s.rd with scan := some ⟨l, n, false⟩, scanRes := [] } }

theorem scan_starts {first len l n : Nat} (ready : s.mboxRwReady h) (idle : s.host.bg = none) (active : s.host.memActive = true)
    (range : s.scanRange first len = some (l, n)) : ∃ t, exec (.scanMedia h first len) s = .next t ∧ t.host.bg = some (.scan, h) ∧
    t.rd.scan = some ⟨l, n, false⟩ ∧ t.rd.scanRes = [] ∧ t.out = [.mbox h .backgroundStarted []] := by
  have range' : s.begin.scanRange first len = some (l, n) := range
  have idle' : ¬ s.begin.host.bg.isSome = true := by
    rw [State.begin_host, idle]
    decide
  have active' : ¬ (!s.begin.host.memActive) = true := by
    rw [State.begin_host, active]
    decide
  have run : exec (.scanMedia h first len) s = .next
      ((((s.begin.scanning h l n).mappedIn l n).foldl State.scanLine (s.begin.scanning h l n)).answerMbox h .backgroundStarted []) := by
    refine (congrArg done (mailboxRw_ready ready)).trans (congrArg Host.Outcome.next ?_)
    dsimp only
    rw [if_neg idle', if_neg active', range']
    rfl
  refine ⟨_, run, ?_⟩
  have kept := State.keepsScan.foldl keepsScan_scanLine ((s.begin.scanning h l n).mappedIn l n) (s.begin.scanning h l n)
  have out : (((s.begin.scanning h l n).mappedIn l n).foldl State.scanLine (s.begin.scanning h l n)).out = [] := evolves_get
    (ev_foldl (L := [.regs, .pmc, .evt, .host, .map, .rd, .warp]) ev_refl fun _ _ kept => ev_step kept (State.scanLine_ev ..) rfl) .out rfl
  generalize ((s.begin.scanning h l n).mappedIn l n).foldl State.scanLine (s.begin.scanning h l n) = v at *
  refine ⟨kept.heads.bg, ?_, ?_, congrArg (· ++ [Output.mbox h .backgroundStarted []]) out⟩
  · exact congrArg ReadState.scan kept.rd
  · exact congrArg ReadState.scanRes kept.rd

/-! ### It ends -/

/-- The lines of a scan that hold poison. -/
def State.foundBad (s : State) (x : Scan) : List Nat :=
  (keysIn s.map.ent x.first x.count).filter fun l =>
    decide ((s.entry l).st ≠ 0) && decide (s.badSectors l ≠ 0#4) && (s.domOf l).isSome

/-- The scan is over, with the lines `bad` as its results. -/
def State.scanned (s : State) (bad : List Nat) : State :=
  { s with
    rd := { s.rd with scan := none, scanRes := bad.map fun l => ((s.dpaOf l 0).getD 0, 4) },
    host := { s.host with bg := none, bgLast := s.host.bg.map fun b => (BgKind.scan, b.2, Rc.success) } }

theorem listFound_evolves (s : State) (bad : List Nat) : s.evolves (bad.foldl State.listFound s) [.rd] :=
  ev_foldl ev_refl fun _ _ kept => ev_step kept (State.listFound_ev ..) rfl

theorem dpaOf_congr (same : t.cry = s.cry) (line k : Nat) : t.dpaOf line k = s.dpaOf line k := by
  unfold State.dpaOf State.domOf State.dom
  rw [same]

/-- Counting a scan towards the end of an overflow leaves the host state and the scan's results. -/
theorem scanCounts_keeps (s : State) (x : Scan) : (s.scanCounts x).host = s.host ∧ (s.scanCounts x).rd.scan = s.rd.scan ∧
    (s.scanCounts x).rd.scanRes = s.rd.scanRes := by
  refine ⟨evolves_get (State.scanCounts_ev ..) .host rfl, ?_⟩
  unfold State.scanCounts
  split
  · exact ⟨rfl, rfl⟩
  · split
    · exact ⟨rfl, rfl⟩
    · dsimp only
      split
      · exact ⟨rfl, rfl⟩
      · exact ⟨rfl, rfl⟩

theorem lost_foundBad {x : Scan} {l : Nat} (held : l ∈ keysIn s.map.ent x.first x.count) (lost : (s.entry l).st = 2)
    (inside : (s.domOf l).isSome = true) : l ∈ s.foundBad x := by
  have bad : s.badSectors l = 0xF#4 := if_pos lost
  refine List.mem_filter.mpr ⟨held, ?_⟩
  rw [lost, bad, inside]
  rfl

theorem scan_ends {x : Scan} (core : s.pwr.coreOn = true) (running : s.rd.scan = some x)
    (read : s.rd.reads.any (fun r => r.why == .scan) = false) (bg : s.host.bg = some (.scan, h)) : ∃ t,
    exec (.scanMediaDone) s = .next t ∧ t.rd.scan = none ∧ t.host.bg = none ∧ t.host.bgLast = some (.scan, h, .success) ∧
    ∀ l, l ∈ keysIn s.map.ent x.first x.count → (s.entry l).st = 2 ∧ (s.domOf l).isSome = true →
      (t.rd.scanRes.any fun p => p.1 == (s.dpaOf l 0).getD 0) = true := by
  have running' : s.begin.rd.scan = some x := running
  obtain ⟨y, run⟩ : ∃ y, exec (.scanMediaDone) s = .next
      ((((s.begin.foundBad x).foldl State.listFound s.begin).scanned (s.begin.foundBad x)).scanCounts y) := by
    refine ⟨((s.begin.foundBad x).foldl State.listFound s.begin).rd.scan.getD x,
      (congrArg done (when_true (by rw [core, running, read]; rfl))).trans (congrArg Host.Outcome.next ?_)⟩
    dsimp only
    rw [running']
    rfl
  have listed := listFound_evolves s.begin (s.begin.foundBad x)
  have dpa (l : Nat) : ((s.begin.foundBad x).foldl State.listFound s.begin).dpaOf l 0 = s.dpaOf l 0 :=
    dpaOf_congr (evolves_get listed .cry rfl) l 0
  have host : ((s.begin.foundBad x).foldl State.listFound s.begin).host = s.host := evolves_get listed .host rfl
  generalize found : s.begin.foundBad x = bad at *
  generalize bad.foldl State.listFound s.begin = v at *
  obtain ⟨hostKept, scan, res⟩ := scanCounts_keeps (v.scanned bad) y
  refine ⟨_, run, scan, ?_, ?_, ?_⟩
  · rw [hostKept]
    rfl
  · rw [hostKept]
    exact congrArg (Option.map fun b : BgKind × Nat => (BgKind.scan, b.2, Rc.success)) ((congrArg HostState.bg host).trans bg)
  · intro l held lost
    have member : l ∈ bad := found ▸ lost_foundBad held lost.1 lost.2
    rw [res]
    refine List.any_eq_true.mpr ⟨((v.dpaOf l 0).getD 0, 4), List.mem_map_of_mem member, ?_⟩
    rw [dpa l]
    exact beq_self_eq_true _

end Scan

end Sys2Proof.Machine

/-!
PROOF. The oldest background unmap ends: its lines are unmapped (R173).
-/
namespace Sys2Proof.Machine
set_option Elab.async false
open Sys2Proof

section Unmap
variable {s t u : State} {L : List Piece}

/-- From `s` to `t` canonical tables stay so, and no entry and no waiting unmap changes. -/
structure State.keepsEntries (s t : State) : Prop where
  ent : t.map.ent = s.map.ent
  unmap : t.map.unmap = s.map.unmap
  of_wf : s.wf = true → t.wf = true

theorem State.keepsEntries.refl : s.keepsEntries s := ⟨rfl, rfl, id⟩

theorem State.keepsEntries.trans (a : s.keepsEntries t) (b : t.keepsEntries u) : s.keepsEntries u :=
  ⟨b.ent.trans a.ent, b.unmap.trans a.unmap, fun wf => b.of_wf (a.of_wf wf)⟩

theorem State.keepsEntries.of_evolves (ev : s.evolves t L) (untouched : L.contains .map = false := by rfl) : s.keepsEntries t :=
  ⟨by rw [evolves_get ev .map untouched], by rw [evolves_get ev .map untouched], ev.2⟩

theorem State.keepsEntries.foldl {α : Type} {f : State → α → State} (step : ∀ (t : State) (x : α), t.keepsEntries (f t x)) (l : List α)
    (s : State) : s.keepsEntries (l.foldl f s) :=
  List.foldlRecOn (motive := s.keepsEntries) l f .refl fun t kept x _ => kept.trans (step t x)

theorem State.keepsEntries.entry (a : s.keepsEntries t) (line : Nat) : t.entry line = s.entry line :=
  congrArg (Tab.get (fun _ => Entry.unmapped) · line) a.ent

theorem keepsEntries_pushRec (s : State) (r : JRec) : s.keepsEntries (s.pushRec r) := by
  obtain ⟨_, _, _, _, _, _, same⟩ := map_pushRec s r
  exact ⟨by rw [same], by rw [same], (State.pushRec_ev ..).2⟩

theorem keepsEntries_mdirtied (s : State) (kind idx j : Nat) : s.keepsEntries (s.mdirtied kind idx j) := by
  obtain ⟨_, _, _, same⟩ := map_mdirtied s kind idx j
  exact ⟨by rw [same], by rw [same], (State.mdirtied_ev ..).2⟩

theorem keepsEntries_release (s : State) (d line : Nat) (old : Entry) : s.keepsEntries (s.release d line old) := by
  unfold State.release
  split
  · exact .of_evolves (State.deadAt_ev ..)
  · exact .refl

theorem keepsEntries_dirRec (s : State) (m : Nat) (a : Option Nat) : s.keepsEntries (s.dirRec m a) := by
  unfold State.dirRec
  extract_lets +onlyGivenNames old j blank e record pushed stored live dead
  have first : s.keepsEntries pushed := keepsEntries_pushRec ..
  clear_value pushed old
  have second : s.keepsEntries stored := first.trans ⟨rfl, rfl, (State.setDir_ev ..).2⟩
  clear_value stored
  have third : s.keepsEntries live := by
    subst live
    split
    · exact second.trans (.of_evolves (State.liveAt_ev ..))
    · exact second
  clear_value live
  have fourth : s.keepsEntries dead := by
    subst dead
    split
    · exact third.trans (.of_evolves (State.deadAt_ev ..))
    · exact third
  clear_value dead
  exact fourth.trans (keepsEntries_mdirtied ..)

/-! ### The entries of a range -/

/-- A line of the range has an entry in the table, or the default. -/
theorem keysIn_or_default {α : Type} (d : Nat → α) (t : Tab α) {first n k : Nat} (low : first ≤ k) (high : k < first + n) :
    k ∈ keysIn t first n ∨ Tab.get d t k = d k := by
  induction t with
  | nil => exact .inr rfl
  | cons p t ih =>
    unfold keysIn
    by_cases same : p.1 = k
    · exact .inl (List.mem_filterMap.mpr ⟨p, List.mem_cons_self, by rw [same, if_pos ⟨low, high⟩]⟩)
    · rcases ih with listed | absent
      · obtain ⟨q, member, key⟩ := List.mem_filterMap.mp listed
        exact .inl (List.mem_filterMap.mpr ⟨q, List.mem_cons_of_mem _ member, key⟩)
      · exact .inr ((if_neg same).trans absent)

theorem entry_setEntry_same (wf : s.wf = true) (line : Nat) (e : Entry) : (s.setEntry line e).entry line = e :=
  Tab.get_set_same _ _ _ _ ((MapState.wf_iff _).mp (s.map_wf wf)).1.1

/-- The entry of each line of `l`, with what it was, goes. -/
def State.unmapEntries (s : State) (l : List (Nat × Entry × BitVec 64)) : State :=
  l.foldl (fun t p => (t.setEntry p.1 Entry.unmapped).release ((t.domOf p.1).getD 0) p.1 p.2.1) s

theorem unmapEntries_spec (wf : s.wf = true) (l : List (Nat × Entry × BitVec 64)) : (s.unmapEntries l).wf = true ∧
    (s.unmapEntries l).map.unmap = s.map.unmap ∧
    ∀ k, k ∈ l.map Prod.fst ∨ s.entry k = Entry.unmapped → (s.unmapEntries l).entry k = Entry.unmapped := by
  induction l generalizing s with
  | nil => exact ⟨wf, rfl, fun k named => named.resolve_left (List.not_mem_nil)⟩
  | cons p l ih =>
    have setWf : (s.setEntry p.1 Entry.unmapped).wf = true := (State.setEntry_ev ..).2 wf
    have kept := keepsEntries_release (s.setEntry p.1 Entry.unmapped) ((s.domOf p.1).getD 0) p.1 p.2.1
    obtain ⟨done, unmap, entries⟩ := ih (kept.of_wf setWf)
    refine ⟨done, unmap.trans kept.unmap, fun k named => entries k ?_⟩
    rw [kept.entry]
    by_cases same : k = p.1
    · exact .inr (same ▸ entry_setEntry_same wf p.1 Entry.unmapped)
    · refine named.imp (fun member => ((List.mem_cons.mp member).resolve_left same)) fun unmapped => ?_
      exact (Tab.get_set_other (fun _ => Entry.unmapped) s.map.ent p.1 k Entry.unmapped same).trans unmapped

theorem unmapRange_spec (wf : s.wf = true) (first n : Nat) : (s.unmapRange first n).wf = true ∧
    (s.unmapRange first n).map.unmap = s.map.unmap ∧
    ∀ k, first ≤ k → k < first + n → (s.unmapRange first n).entry k = Entry.unmapped := by
  unfold State.unmapRange
  extract_lets +onlyGivenNames lines olds record pushed cleared m0 m1 undirected
  have recorded : s.keepsEntries pushed := keepsEntries_pushRec ..
  clear_value pushed
  obtain ⟨clearedWf, unmap, entries⟩ : cleared.wf = true ∧ cleared.map.unmap = pushed.map.unmap ∧
      ∀ k, k ∈ olds.map Prod.fst ∨ pushed.entry k = Entry.unmapped → cleared.entry k = Entry.unmapped :=
    unmapEntries_spec (recorded.of_wf wf) olds
  clear_value cleared
  have dropped : cleared.keepsEntries undirected := .foldl (fun t m => keepsEntries_dirRec t m none) _ _
  clear_value undirected
  refine ⟨dropped.of_wf clearedWf, dropped.unmap.trans (unmap.trans recorded.unmap), fun k low high => ?_⟩
  have unmapped := entries k ((keysIn_or_default (fun _ => Entry.unmapped) s.map.ent low high).imp
    (fun listed => by
      rw [List.map_map]
      exact List.mem_map.mpr ⟨k, listed, rfl⟩)
    fun absent => (recorded.entry k).trans absent)
  exact (dropped.entry k).trans unmapped

/-! ### The command -/

/-- The poison records of a destroyed domain's lines go with them. -/
def State.unpoisonFor (s : State) (why : UnmapWhy) (first n : Nat) : State :=
  match why with
  | .destroy d => s.unpoisonRange d first n
  | _ => s

theorem unpoisonFor_evolves (s : State) (why : UnmapWhy) (first n : Nat) : s.evolves (s.unpoisonFor why first n) [.rd] := by
  unfold State.unpoisonFor
  split
  · exact State.unpoisonRange_ev ..
  · exact ev_refl

theorem unmap_ends {first n : Nat} {why : UnmapWhy} {us : List (Nat × Nat × UnmapWhy)} (wf : s.wf = true)
    (core : s.pwr.coreOn = true) (active : s.map.st = .active) (oldest : s.map.unmap = (first, n, why) :: us)
    (recorded : s.recordDue first n = false) : ∃ t, exec (.unmapDone) s = .next t ∧ t.map.unmap = us ∧
      t.evtSet Ev.mapUnmapDone ∧ ∀ l, first ≤ l → l < first + n → t.entry l = Entry.unmapped := by
  have oldest' : s.begin.map.unmap = (first, n, why) :: us := oldest
  have recorded' : s.begin.recordDue first n = false := recorded
  have unpoisoned := unpoisonFor_evolves s.begin why first n
  have run : exec (.unmapDone) s = .next ((((({ s.begin.unpoisonFor why first n with
      map := { (s.begin.unpoisonFor why first n).map with unmap := us } } : State).unmapRange first n).unmapEnds why).raiseN
      Ev.mapUnmapDone 0 (mapKey 0 (first / 32)))) := by
    refine (congrArg done (when_true (by rw [core, active]; rfl))).trans (congrArg Host.Outcome.next ?_)
    dsimp only
    rw [oldest']
    dsimp only
    rw [recorded', if_neg (by decide)]
    cases why with
    | shrink h => rfl
    | destroy d => rfl
    | carve => rfl
  obtain ⟨unmappedWf, unmap, entries⟩ := unmapRange_spec (s := { s.begin.unpoisonFor why first n with
    map := { (s.begin.unpoisonFor why first n).map with unmap := us } }) (unpoisoned.2 wf) first n
  generalize ({ s.begin.unpoisonFor why first n with
    map := { (s.begin.unpoisonFor why first n).map with unmap := us } } : State).unmapRange first n = v at *
  have ended := State.unmapEnds_ev v why
  have raised := State.raiseN_ev (v.unmapEnds why) Ev.mapUnmapDone 0 (mapKey 0 (first / 32))
  have kept : v.keepsEntries ((v.unmapEnds why).raiseN Ev.mapUnmapDone 0 (mapKey 0 (first / 32))) :=
    .trans (.of_evolves ended) (.of_evolves raised)
  refine ⟨_, run, kept.unmap.trans unmap, evtSet_raiseN _ _ _ _ (ended.2 unmappedWf) (by decide), fun l low high => ?_⟩
  exact (kept.entry l).trans (entries l low high)

end Unmap

end Sys2Proof.Machine

/-!
PROOF. A Sanitize or Secure Erase ends: nothing is mapped and nothing is poisoned (R52, R174).
-/
namespace Sys2Proof.Machine
set_option Elab.async false
open Sys2Proof

section EndErase
variable {s : State}

theorem poison_endUnknown (s : State) : s.endUnknown.rd.poison = s.rd.poison := by
  unfold State.endUnknown
  split
  · exact (congrArg ReadState.poison (State.raiseN_rd ..)).trans rfl
  · rfl

theorem poison_settleBolt (s : State) (g b : Nat) : (s.settleBolt g b).rd.poison = s.rd.poison := by
  unfold State.settleBolt
  extract_lets +onlyGivenNames x pending ended
  have settled : s.evolves ended [.regs, .pmc, .evt, .host, .upk] :=
    ev_step (ev_step ev_refl (State.setBolt_ev ..) rfl) (State.emptied_ev ..) rfl
  have same : ended.rd = s.rd := evolves_get settled .rd rfl
  clear_value ended
  split
  · split
    · rw [poison_endUnknown, same]
    · rw [same]
  · rfl

theorem poison_blankMap (s : State) : s.blankMap.rd.poison = [] := by
  unfold State.blankMap
  extract_lets +onlyGivenNames map upk rd blank
  have cleared : blank.rd.poison = [] := rfl
  clear_value blank
  exact List.foldlRecOn (motive := fun t : State => t.rd.poison = []) _ _ cleared fun t none k _ =>
    (poison_settleBolt t (k / 131072) (k % 131072)).trans none

theorem poison_finishCkpt (s : State) (x : Nat) (clean : Bool) : (s.finishCkpt x clean).rd.poison = s.rd.poison := by
  unfold State.finishCkpt
  extract_lets +onlyGivenNames taken record pushed written drained seq fmt map upk rd cry ended
  have drainedEv : s.evolves drained [.regs, .pmc, .evt, .host, .map, .upk, .out] :=
    ev_step (ev_step (ev_step (ev_step ev_refl (State.takeImage_ev _) rfl) (State.pushRec_ev ..) rfl) (State.writeJnl_ev _) rfl)
      (State.jnlDrain_ev ..) rfl
  have after : (ended.countCleanups x).evolves (((ended.countCleanups x).raise Ev.mapCkptDone).count 0x306 0 1)
      [.regs, .pmc, .evt, .host] := ev_step (ev_step ev_refl (State.raise_ev ..) rfl) (State.count_ev ..) rfl
  have poison : drained.rd = s.rd := evolves_get drainedEv .rd rfl
  clear_value drained
  have same : (((ended.countCleanups x).raise Ev.mapCkptDone).count 0x306 0 1).rd = ended.rd := evolves_get after .rd rfl
  rw [same]
  exact (congrArg ReadState.poison poison : drained.rd.poison = s.rd.poison)

/-! ### The new map -/

/-- No read is on its way, and the format takes the identifier drawn. -/
def State.reformat (s : State) : State :=
  let t : State := { s with rd := { s.rd with reads := [] } }
  { t.drawFormat.1 with map := { t.drawFormat.1.map with fmt := match t.drawFormat.1.map.fmt with
      | some f => some { f with id := t.drawFormat.2.1 }
      | none => none } }

theorem eraseMap_eq (s : State) : s.eraseMap = s.voidStaging.blankMap.reformat.defaultExtents.finishCkpt
    s.voidStaging.blankMap.reformat.map.nextJsn false := by
  unfold State.eraseMap
  generalize s.voidStaging.blankMap = u
  rfl

theorem eraseMap_spec (s : State) : s.eraseMap.map.ent = [] ∧ s.eraseMap.rd.poison = [] ∧
    (s.eraseMap.map.anchor.map fun a => a.clean) = some false := by
  rw [eraseMap_eq]
  have ent := ent_blankMap s.voidStaging
  have poison := poison_blankMap s.voidStaging
  generalize s.voidStaging.blankMap = u at *
  have ent' : u.reformat.map.ent = [] := ent
  have poison' : u.reformat.rd.poison = [] := poison
  generalize u.reformat = t at *
  obtain ⟨entKept, -, anchor⟩ := map_finishCkpt t.defaultExtents t.map.nextJsn false
  refine ⟨entKept.trans ((congrArg MapState.ent (map_defaultExtents t)).trans ent'), ?_, anchor⟩
  exact (poison_finishCkpt ..).trans ((congrArg ReadState.poison (evolves_get (State.defaultExtents_ev t) .rd rfl)).trans poison')

theorem erase_ends (core : s.pwr.coreOn = true) (sanitizing : s.host.sanitizing = true) (active : s.map.st = .active) : ∃ t,
    exec (.sanitizeDone) s = .next t ∧ t.host.sanitizing = false ∧ t.host.bg = none ∧ t.map.ent = [] ∧ t.rd.poison = [] ∧
    (t.map.anchor.map fun a => a.clean) = some false := by
  have run : exec (.sanitizeDone) s = .next s.begin.endErase :=
    congrArg done (when_true (by rw [core, sanitizing, active]; rfl))
  have formatted : ¬ s.begin.map.st = .unformatted := by
    rw [State.begin_map, active]
    decide
  obtain ⟨ent, poison, anchor⟩ := eraseMap_spec s.begin
  refine ⟨_, run, ?_⟩
  unfold State.endErase
  rw [if_neg formatted]
  generalize s.begin.eraseMap = t at *
  exact ⟨rfl, rfl, ent, poison, anchor⟩

end EndErase

end Sys2Proof.Machine

/-!
PROOF. A listed sector stays in the poison list while a poisoned write is served (R57, R59, R250, R253).
-/
namespace Sys2Proof.Machine
set_option Elab.async false
open Sys2Proof

/-- Every sector listed as poisoned in `s` is listed in `t`. -/
structure State.keepsPoison (s t : State) : Prop where
  listed : ∀ x, s.poisonListed x = true → t.poisonListed x = true

section KeepsPoison
variable {s t u : State} {L : List Piece}

theorem State.keepsPoison.refl : s.keepsPoison s := ⟨fun _ => id⟩

theorem State.keepsPoison.trans (a : s.keepsPoison t) (b : t.keepsPoison u) : s.keepsPoison u :=
  ⟨fun x listed => b.listed x (a.listed x listed)⟩

theorem State.keepsPoison.of_evolves (ev : s.evolves t L) (untouched : L.contains .rd = false := by rfl) : s.keepsPoison t :=
  ⟨fun x listed => by
    unfold State.poisonListed
    rw [evolves_get ev .rd untouched]
    exact listed⟩

theorem State.keepsPoison.ite {c : Prop} [Decidable c] {a b : State} (yes : s.keepsPoison a) (no : s.keepsPoison b) :
    s.keepsPoison (if c then a else b) := by
  split
  · exact yes
  · exact no

theorem State.keepsPoison.foldl {α : Type} {f : State → α → State} (step : ∀ (t : State) (x : α), t.keepsPoison (f t x)) (l : List α)
    (s : State) : s.keepsPoison (l.foldl f s) :=
  List.foldlRecOn (motive := s.keepsPoison) l f .refl fun t kept x _ => kept.trans (step t x)

theorem keepsPoison_addPRec (s : State) (r : PRec) : s.keepsPoison (s.addPRec r) := by
  refine .ite ⟨fun x listed => ?_⟩ ⟨fun _ => id⟩
  unfold State.poisonListed
  rw [List.any_append]
  exact Bool.or_eq_true_iff.mpr (.inl listed)

theorem keepsPoison_poisonSector (s : State) (line k : Nat) (src : PSource) : s.keepsPoison (s.poisonSector line k src) := by
  unfold State.poisonSector
  split
  · exact .ite .refl (keepsPoison_addPRec ..)
  · exact .refl

/-- With room in the list the sector is listed. -/
theorem poisonListed_poisonSector {line k x : Nat} (src : PSource) (room : s.rd.poison.length < 32768)
    (dpa : s.dpaOf line k = some x) : (s.poisonSector line k src).poisonListed x = true := by
  unfold State.poisonSector
  rw [dpa]
  dsimp only
  split
  next listed => exact listed
  next =>
    rw [State.addPRec, if_pos room]
    have covers : (⟨x, 1, src⟩ : PRec).covers x = true := decide_eq_true ⟨Nat.le_refl x, by dsimp only; omega⟩
    exact List.any_eq_true.mpr ⟨_, List.mem_append_right _ (List.mem_singleton_self _), covers⟩

theorem keepsPoison_poisonMask (s : State) (line : Nat) (m : BitVec 4) (src : PSource) : s.keepsPoison (s.poisonMask line m src) :=
  .foldl (fun _ _ => .ite (keepsPoison_poisonSector ..) .refl) _ s

/-! ### Flaws of a cache bank -/

theorem keepsPoison_retire_bank (s : State) {r : Res} (bank : r.ty = 5) (cause : Nat) (injected : Bool) :
    s.keepsPoison (s.retire r cause injected) := by
  unfold State.retire
  refine .ite .refl ?_
  dsimp only
  rw [if_neg (by omega)]
  refine .trans (t := (s.bump F.fltCnt2Permanent 1).writeRet r cause injected)
    (.trans (.of_evolves (State.bump_ev ..)) (.of_evolves (State.writeRet_ev ..))) ?_
  unfold State.retireAct
  rw [bank]
  exact .of_evolves (State.spareBank_ev ..)

theorem keepsPoison_countThresh_bank (s : State) {r : Res} (bank : r.ty = 5) (what : Nat) : s.keepsPoison (s.countThresh r what) := by
  have unit : r.unit = r := if_neg (by omega)
  unfold State.countThresh
  rw [unit]
  have first : s.keepsPoison (s.addBucket r what 1) := .of_evolves (State.addBucket_ev ..)
  dsimp only
  split
  · exact first.trans (.ite (.trans (.of_evolves (State.raiseN_ev ..)) (keepsPoison_retire_bank _ bank ..)) .refl)
  · exact first

theorem keepsPoison_correctedBank (s : State) (arr grp bank info addr : Nat) :
    s.keepsPoison (s.correctedBank (resBank arr grp bank) info addr) := by
  have counted : s.keepsPoison (((s.fchCorrected info addr).countErr .sram).countThresh (resBank arr grp bank) 1) :=
    .trans (.trans (.of_evolves (State.fchCorrected_ev ..)) (.of_evolves (State.countErr_ev ..))) (keepsPoison_countThresh_bank _ rfl 1)
  exact .ite (counted.trans (.of_evolves (State.queueTest_ev ..))) counted

theorem keepsPoison_meetFlaw (s : State) (k : Nat) (c : CLine) (sec : Nat) (f : Nat × Nat × Bool) :
    s.keepsPoison (s.meetFlaw k c sec f) := by
  unfold State.meetFlaw
  extract_lets +onlyGivenNames word bank clear
  have cleared (t : State) : t.keepsPoison (clear t) := .of_evolves (State.updLine_ev ..)
  have marked (t : State) (g : CLine → CLine) : t.keepsPoison (clear (t.updLine c.line g)) :=
    .trans (.of_evolves (State.updLine_ev ..)) (cleared _)
  have told (t : State) (f : Fld) (e : Evt) (i a : Nat) : t.keepsPoison ((t.bump f 1).raiseN e i a) :=
    .trans (.of_evolves (State.bump_ev ..)) (.of_evolves (State.raiseN_ev ..))
  have dropped (t : State) : t.keepsPoison (t.dropLine c.line) := .of_evolves (State.dropLine_ev ..)
  have corrected (info : Nat) : s.keepsPoison ((clear s).correctedBank bank info (fchAddr c)) :=
    (cleared s).trans (keepsPoison_correctedBank ..)
  have reported : s.keepsPoison (s.report bank .sram 0) := .of_evolves (State.report_ev ..)
  refine .ite (.ite .refl (.ite (corrected _) ?data)) (.ite ?tag (.ite (corrected _) ?echo))
  case data =>
    dsimp only
    refine .ite ?_ ((reported.trans (dropped _)).trans (told ..))
    exact (reported.trans (marked _ _)).trans ((keepsPoison_poisonSector ..).trans (told ..))
  case tag =>
    extract_lets +onlyGivenNames u
    have gone : s.keepsPoison u := .ite (dropped s) (cleared s)
    clear_value u
    exact (gone.trans (told ..)).trans (.of_evolves (State.reportTagBanks_ev ..))
  case echo =>
    dsimp only
    refine .ite ?_ ?_
    · exact ((reported.trans (dropped _)).trans (.of_evolves (State.bump_ev ..))).trans (.of_evolves (State.startHalt_ev ..))
    · exact (reported.trans (marked _ _)).trans (((keepsPoison_poisonMask ..).trans (told ..)).trans (.of_evolves (State.hand_ev ..)))

theorem keepsPoison_probe (s : State) (line sec : Nat) : s.keepsPoison (s.probe line sec) := by
  unfold State.probe
  split
  · exact .refl
  · exact .foldl (fun _ _ => .ite (keepsPoison_meetFlaw ..) .refl) _ s

/-! ### A write that carries poison -/

theorem keepsPoison_writePoison (s : State) {r : Req} (poison : r.poison = true) (oldP : Bool) : s.keepsPoison (s.writePoison r oldP) := by
  unfold State.writePoison
  refine .ite (keepsPoison_poisonSector ..) ?_
  rw [if_pos poison]
  exact .trans (.trans (keepsPoison_poisonSector ..) (.of_evolves (State.bump_ev ..))) (.of_evolves (State.raiseN_ev ..))

variable {r : Req}

theorem keepsPoison_around (s : State) (poison : r.poison = true) : s.keepsPoison (s.around r) := by
  unfold State.around
  extract_lets +onlyGivenNames dropped have_ be sp e wp
  have first : s.keepsPoison dropped := .trans (.of_evolves (State.updMshr_ev ..)) (.of_evolves (State.dropSide_ev ..))
  clear_value dropped
  exact (first.trans (.of_evolves (L := [.wp]) (ev_wp ev_refl rfl WriteState.wf_upd))).trans (keepsPoison_writePoison _ poison _)

theorem keepsPoison_writeSlot (s : State) (k : Nat) (c : CLine) (base : Sector × Bool) (tag : Bool) (poison : r.poison = true) :
    s.keepsPoison (s.writeSlot k c r base tag) := by
  unfold State.writeSlot
  extract_lets +onlyGivenNames fch stamped c2 stored poisoned counted
  have first : s.keepsPoison stamped := .of_evolves (L := [.fch]) (ev_fch ev_refl rfl)
  clear_value stamped
  have second : s.keepsPoison stored := first.trans (.trans (.of_evolves (State.storeLine_ev ..)) (.of_evolves (State.ftouch_ev ..)))
  clear_value stored
  have third : s.keepsPoison poisoned := second.trans (keepsPoison_writePoison _ poison _)
  clear_value poisoned
  have fourth : s.keepsPoison counted := .ite third (third.trans (.of_evolves (State.count_ev ..)))
  clear_value counted
  exact fourth.trans (.trans (.of_evolves (State.cmp_ev ..)) (.of_evolves (State.checkCleaner_ev ..)))

theorem keepsPoison_writeIn (s : State) (base : Sector × Bool) (poison : r.poison = true) : s.keepsPoison (s.writeIn r base) := by
  unfold State.writeIn
  extract_lets +onlyGivenNames marked moved
  have first : s.keepsPoison moved := .trans (t := marked) (.of_evolves (State.updMshr_ev ..))
    (.trans (.of_evolves (State.unvictim_ev ..)) (.of_evolves (State.promote_ev ..)))
  clear_value moved
  have waits : s.keepsPoison { moved with fch := { moved.fch with evictWait := moved.fch.evictWait ++ [r] } } :=
    first.trans (.of_evolves (L := [.fch]) (ev_fch ev_refl rfl))
  split
  · exact first.trans (keepsPoison_writeSlot _ _ _ _ _ poison)
  · split
    · exact waits
    · split
      next t k allocated =>
        have taken : moved.keepsPoison t := .of_evolves (State.allocWay_ev moved r.line moved.wrMask _ allocated)
        exact ((first.trans taken).trans (.of_evolves (State.count_ev ..))).trans (keepsPoison_writeSlot _ _ _ _ _ poison)
      next => exact waits

theorem keepsPoison_writeOn (s : State) (poison : r.poison = true) (full : r.full = true) : s.keepsPoison (s.writeOn r) := by
  unfold State.writeOn
  dsimp only
  rw [full, Bool.true_or, if_pos rfl]
  exact (keepsPoison_probe ..).trans (keepsPoison_writeIn _ _ poison)

theorem keepsPoison_writeDrain (s : State) (poison : r.poison = true) : s.keepsPoison (s.writeDrain r) := by
  unfold State.writeDrain
  extract_lets +onlyGivenNames probed
  have first : s.keepsPoison probed := keepsPoison_probe ..
  clear_value probed
  split
  · exact first.trans (keepsPoison_around _ poison)
  · refine .ite ((first.trans (.of_evolves (State.dropLine_ev ..))).trans (keepsPoison_around _ poison))
      (.ite (first.trans (keepsPoison_around _ poison)) ?_)
    extract_lets +onlyGivenNames fch stamped c2 poisoned
    have second : s.keepsPoison stamped := first.trans (.of_evolves (L := [.fch]) (ev_fch ev_refl rfl))
    clear_value stamped
    have third : s.keepsPoison poisoned :=
      (second.trans (.of_evolves (State.updLine_ev ..))).trans (keepsPoison_writePoison _ poison _)
    clear_value poisoned
    exact third.trans (.trans (.of_evolves (State.hand_ev ..)) (.of_evolves (State.cmp_ev ..)))

theorem keepsPoison_write (s : State) (admitted : Bool) (poison : r.poison = true) (full : r.full = true) :
    s.keepsPoison (s.write r admitted) := by
  have waits : s.keepsPoison { s with fch := { s.fch with dirtyWait := s.fch.dirtyWait ++ [r] } } :=
    .of_evolves (L := [.fch]) (ev_fch ev_refl rfl)
  unfold State.write
  refine .ite (.of_evolves (L := [.epo]) (ev_epo ev_refl rfl EpoState.wf_upd)) (.ite (keepsPoison_around s poison) (.ite ?_
    (.ite (keepsPoison_writeDrain s poison) (.ite (keepsPoison_writeOn s poison full) (.ite waits
      (.ite ?_ (keepsPoison_writeOn s poison full)))))))
  · split
    · exact .of_evolves (State.attach_ev ..)
    · exact .refl
  · exact ((waits.trans (.of_evolves (State.setHead_ev ..))).trans (.of_evolves (State.count_ev ..))).trans
      (.of_evolves (State.raiseN_ev ..))

theorem keepsPoison_windowAccess (s : State) (wr : r.wr = true) (poison : r.poison = true) : s.keepsPoison (s.windowAccess r) := by
  unfold State.windowAccess
  extract_lets +onlyGivenNames counted base words
  have first : s.keepsPoison counted := .of_evolves (State.count_ev ..)
  clear_value counted
  rw [if_pos wr]
  exact ((first.trans (.of_evolves (State.writeWords_ev ..))).trans (keepsPoison_writePoison _ poison _)).trans
    (.of_evolves (State.cmp_ev ..))

theorem keepsPoison_serve (s : State) (wr : r.wr = true) (poison : r.poison = true) (full : r.full = true) :
    s.keepsPoison (s.serve r) := by
  have failed : s.keepsPoison (s.failReq r) := .of_evolves (State.failReq_ev ..)
  have absent : s.keepsPoison (s.keyAbsent r) := .of_evolves (State.keyAbsent_ev ..)
  unfold State.serve
  rw [wr, if_pos rfl, if_pos rfl]
  refine .ite failed (.ite absent (.ite absent (.ite failed (.ite failed (.ite ?_ (keepsPoison_write s false poison full))))))
  exact keepsPoison_windowAccess s wr poison

end KeepsPoison

end Sys2Proof.Machine

/-!
PROOF. The obligation about the mailbox commands that change state (R52, R53, R65 to R72, R76, R77, R173, R174, R250 to R255, R337,
R400).
-/
namespace Sys2Proof.Machine
set_option Elab.async false
open Sys2Proof

section Poison
variable {s : State} {r : Req} {h x : Nat} {dpa : BitVec 64}

/-- What `State.writable` says of the domain, as serving finds it. -/
theorem open_of_writable {d : Nat} (writable : s.writable d = true) (window : s.swt.st = .none) :
    s.open_ d ∧ (s.dom d).st ≠ .empty ∧ (s.dom d).st ≠ .failed := by
  simp only [State.writable, Bool.and_eq_true, Bool.not_eq_true', bne_iff_ne] at writable
  obtain ⟨⟨⟨⟨⟨⟨-, sanitizing⟩, deviceHalt⟩, halted⟩, keyed⟩, good⟩, epoch⟩ := writable
  exact ⟨⟨sanitizing, deviceHalt, halted, epoch, window⟩, keyed, good⟩

theorem serve_write (ready : s.open_ r.dom) (keyed : (s.dom r.dom).st ≠ .empty) (good : (s.dom r.dom).st ≠ .failed)
    (wr : r.wr = true) : s.serve r = s.write r false := by
  obtain ⟨sanitizing, deviceHalt, halted, epoch, window⟩ := ready
  simp [State.serve, sanitizing, deviceHalt, halted, keyed, good, epoch, window, inWindow_none r.line window, wr]

/-! ### Injecting poison -/

theorem poison_injected (ready : s.mboxRwReady h) (placed : s.place? (mailWrite h 0#512 true) dpa.toNat = some r)
    (few : s.injected < 256) (room : s.rd.poison.length < 32768) (writable : s.writable r.dom = true)
    (at_ : s.dpaOf r.line r.sec = some x) : ∃ t, exec (.injectPoison h dpa) s = .next t ∧ t.poisonListed x = true ∧
      t.out.getLast? = some (.mbox h .success []) := by
  have placed' : s.begin.place? (mailWrite h 0#512 true) dpa.toNat = some r := placed
  have few' : ¬ 256 ≤ s.begin.injected := Nat.not_le.mpr few
  have writable' : s.begin.writable r.dom = true := writable
  have run : exec (.injectPoison h dpa) s =
      .next (((s.begin.poisonSector r.line r.sec .injected).serve r).answerMbox h .success []) := by
    refine (congrArg done (mailboxRw_ready ready)).trans (congrArg Host.Outcome.next ?_)
    rw [placed']
    dsimp only
    rw [if_neg few', writable', if_neg (by decide)]
  have rest := (place?_rest placed).1
  have listed := poisonListed_poisonSector (s := s.begin) .injected room at_
  generalize s.begin.poisonSector r.line r.sec .injected = u at *
  have served : (u.serve r).poisonListed x = true :=
    (keepsPoison_serve u (r := r) (by rw [rest]; rfl) (by rw [rest]; rfl) (by rw [rest]; rfl)).listed x listed
  generalize u.serve r = v at *
  exact ⟨_, run, served, List.getLast?_concat⟩

/-! ### Clearing poison -/

/-- What is left of a record without a sector does not cover it. -/
theorem covers_without {p q : PRec} (member : q ∈ p.without x) : q.covers x = false := by
  unfold PRec.without at member
  split at member
  next covered =>
    rcases List.mem_append.mp member with below | above
    · split at below
      · rw [List.mem_singleton.mp below]
        refine decide_eq_false fun inside => ?_
        dsimp only at inside
        omega
      · cases below
    · split at above
      · rw [List.mem_singleton.mp above]
        refine decide_eq_false fun inside => ?_
        dsimp only at inside
        omega
      · cases above
  next clear =>
    rw [List.mem_singleton.mp member]
    exact Bool.eq_false_of_not_eq_true clear

theorem poisonListed_removePoison (s : State) (x : Nat) : (s.removePoison x).poisonListed x = false := by
  refine List.any_eq_false.mpr fun q member => ?_
  obtain ⟨p, -, within⟩ := List.mem_flatMap.mp member
  rw [covers_without within]
  decide

theorem poisonListed_writePoison (clean : r.poison = false) (full : r.full = true) (at_ : s.dpaOf r.line r.sec = some x) :
    (s.writePoison r false).poisonListed x = false := by
  unfold State.writePoison
  rw [clean, if_neg (by simp), if_neg (by decide), if_pos full, State.unpoisonSector, at_]
  exact poisonListed_removePoison s x

theorem poisonListed_around (clean : r.poison = false) (full : r.full = true) (at_ : s.dpaOf r.line r.sec = some x) :
    (s.around r).poisonListed x = false := by
  unfold State.around
  extract_lets +onlyGivenNames dropped have_ be sp e wp
  have same : dropped.cry = s.cry := evolves_get (L := [.fch])
    (ev_step (ev_step ev_refl (State.updMshr_ev ..) rfl) (State.dropSide_ev ..) rfl) .cry rfl
  clear_value dropped
  exact poisonListed_writePoison clean full ((dpaOf_congr same ..).trans at_)

theorem poison_cleared {d : BitVec 512} (ready : s.mboxRwReady h) (placed : s.place? (mailWrite h d false) dpa.toNat = some r)
    (writable : s.writable r.dom = true) (off : s.fch.mode = .off) (window : s.swt.st = .none)
    (stays : (s.epoDom r.dom).draining = false) (at_ : s.dpaOf r.line r.sec = some x) : ∃ t,
      exec (.clearPoison h dpa d) s = .next t ∧ t.poisonListed x = false ∧ t.out.getLast? = some (.mbox h .success []) := by
  have placed' : s.begin.place? (mailWrite h d false) dpa.toNat = some r := placed
  have writable' : s.begin.writable r.dom = true := writable
  have rest := (place?_rest placed).1
  have full : r.full = true := by rw [rest]; rfl
  obtain ⟨ready', keyed, good⟩ := open_of_writable (s := s.begin) writable' window
  have served : s.begin.serve r = s.begin.around r := by
    rw [serve_write ready' keyed good (by rw [rest]; rfl)]
    unfold State.write
    rw [show (s.begin.epoDom r.dom).draining = false from stays, if_neg (by decide), State.begin_fch, off, if_pos (.inl rfl)]
  have run : exec (.clearPoison h dpa d) s = .next ((s.begin.around r).answerMbox h .success []) := by
    refine (congrArg done (mailboxRw_ready ready)).trans (congrArg Host.Outcome.next ?_)
    rw [placed']
    dsimp only
    rw [writable', if_neg (by decide), served]
  have cleared := poisonListed_around (s := s.begin) (r := r) (x := x) (by rw [rest]; rfl) full at_
  generalize s.begin.around r = v at *
  exact ⟨_, run, cleared, List.getLast?_concat⟩

end Poison

/-- Settles O27: what the mailbox's commands change. -/
theorem mailboxChanges : Obligations.MailboxChanges := by
  unfold Obligations.MailboxChanges
  exact ⟨fun _ _ v ready ro => roMgmt_answers v ready ro, fun _ _ _ wf ready low high => responseLimit_taken wf ready low high,
    fun _ _ _ ready outside => responseLimit_refused ready outside,
    fun _ _ _ wf ready low high => rinsePeriod_taken wf ready low high, fun _ _ v ready => shutdownState_taken v ready,
    fun _ _ _ _ _ ready placed few room writable at_ => poison_injected ready placed few room writable at_,
    fun _ _ _ _ _ _ ready placed writable off window stays at_ => poison_cleared ready placed writable off window stays at_,
    fun _ _ _ _ _ _ ready idle active range => scan_starts ready idle active range,
    fun _ _ _ core running read bg => scan_ends core running read bg,
    fun _ _ wf ready idle => erase_starts .sanitize rfl wf ready idle,
    fun _ _ wf ready idle => erase_starts .secureErase rfl wf ready idle,
    fun _ _ core sanitizing active => erase_ends core sanitizing active,
    fun _ _ _ _ e ready low ordered high => qosControl_taken e ready low ordered high,
    fun _ _ _ _ _ wf ready good free more => extent_grows wf ready good free more,
    fun _ _ _ _ _ wf ready good free less idle => extent_shrinks wf ready good free less idle,
    fun _ _ _ _ _ wf core active oldest recorded => unmap_ends wf core active oldest recorded⟩

end Sys2Proof.Machine
